-- ==== Sys2Proof/Word.lean ====
section
/-! DEFINITION. The word of the register map (R4: registers are aligned 32-bit words) and the byte of the memory
windows and frames. -/

namespace Sys2Proof

/-- A register word. -/
abbrev Word := BitVec 32

/-- A byte of a memory window, a frame or a record. -/
abbrev Byte := BitVec 8

end Sys2Proof
end

