-- ==== Sys2Proof/Config.lean ====
section
/-! DEFINITION. What an implementation fixes and what the manual leaves open. Every constant without a body is a free
value: nothing can evaluate it, and a claim about the model holds for every value of it. -/

namespace Sys2Proof.Config

/-- HL_MACL's provisioned value, which the manual does not give (notes/assumptions/3.md). -/
opaque macLow (p : Nat) : Nat
/-- HL_MACH's provisioned value, which the manual does not give (notes/assumptions/3.md). -/
opaque macHigh (p : Nat) : Nat
/-- Where the manual gives a quotient and no rounding rule, the result is the floor or the next integer above: this
chooses, by the place of use and the operands (notes/assumptions/4.md). -/
opaque roundUp (site : Nat) (num : Int) (den : Nat) : Bool
/-- A value the manual leaves open after an operation that goes on; the argument is the state's counter of such values
(notes/assumptions/5.md). -/
opaque freeWord (k : Nat) : Word
/-- A byte of a string the controller draws at random (R353; notes/assumptions/5.md). -/
opaque freeByte (k i : Nat) : Byte
/-- A string of bytes drawn at random: a nonce (R353). -/
def freeBytes (k len : Nat) : List Byte := (List.range len).map (freeByte k)

/-- HMAC-SHA-256 of a message under a key: 32 bytes (R353, R354, R362; notes/assumptions/15.md). -/
opaque hmacSha256 (key msg : List Byte) : Vector Byte 32
/-- Does an Ed25519 signature verify over a message under a public key (R361; notes/assumptions/15.md)? -/
opaque ed25519Ok (key msg sig : List Byte) : Bool
/-- The Nozevas release key of slot 0, which the manual does not give (R362; notes/assumptions/15.md). -/
opaque releaseKey (u : Unit) : List Byte
/-- A port's IPv6 link-local address, whose derivation the manual does not give (R344; notes/assumptions/5.md). -/
opaque linkLocal (p : Nat) : List Byte

end Sys2Proof.Config
end

