-- ==== Sys2Proof/Syntax.lean ====
section
/-! DEFINITION. The commands of the AL9128 block: one constructor of `Instr` per row of the opcode table, with the
operands the row takes from outside (an address, a value, an index, what a pin or a converter shows). The rules each row
follows are cited at its meaning, not here. -/

namespace Sys2Proof

/-- A program context (R118, R136): a channel's, or the shelf context. -/
inductive Ctx where
  | chan (n : Fin 128)
  | shelf
  deriving DecidableEq, Repr

/-- What the spare's comparison with the active cluster shows (R200). -/
inductive Shadow where
  | agree
  | differ
  deriving DecidableEq, Repr

/-- The inputs of one lane at a sample instant: the raw voltage in nV, the raw current in units of full scale × 2^-30, the
stage-side node in µV, and whether FLT_L is low. -/
structure ChanIn where
  v : Int := 0
  i : Int := 0
  node : Int := 0
  flt : Bool := false
  deriving DecidableEq, Repr

/-- What the read-verify of a round found wrong at a byte offset of MRAM (R416): the failing bit, and whether the word could
not be corrected. -/
structure MramFind where
  off : Nat
  bit : Nat
  uncorr : Bool := false
  deriving DecidableEq, Repr

/-- The readings of a housekeeping round (R38, R418): thermistor resistances in mΩ (channels, then HU_TS), the eight die
sensors' codes in 1/16 °C, REFIN in µV against BG1 and against BG2, and the read-verify's findings. -/
structure Housekeeping where
  ts : Vector Nat 128
  hu : Nat := 10000000
  die : Vector Int 8
  ref1 : Int := 4096000
  ref2 : Int := 4096000
  mram : List MramFind := []
  deriving DecidableEq, Repr

/-- The four reference positions as the lane's modulators read them (R185): voltage in nV, current in full scale × 2^-30. -/
structure LaneRefs where
  vz : Int := 0
  vr : Int := 4096000000
  iz : Int := 0
  ir : Int := 858993459
  bg1 : Int := 1200000000
  bg2 : Int := 1200000000
  deriving DecidableEq, Repr

/-- One metering instant of the power die (R239, R261, R232): the feeds' VIN, the bus and the feeds' gate over MID in µV, the feed
currents in µA, HU_V in µV and HU_I in µA. -/
structure MeterIn where
  vin : Vector Int 2
  i : Vector Int 2
  bus : Int := 0
  gs : Vector Int 2 := Vector.replicate 2 0
  hv : Int := 0
  hi : Int := 0
  deriving DecidableEq, Repr

/-- What a tray loop reads in one of its periods (R279, R281): the averaged LAIN code, its setpoint source's value (an SPA
code, an SPP frequency in Hz or a high time in 0.01 %), and whether SPP had an edge within 1 s. -/
structure LoopIn where
  lain : Nat := 0
  x : Nat := 0
  edge : Bool := true
  deriving DecidableEq, Repr

/-- What an auxiliary converter shows in one control period (R271–R273): AXFB and the shunt in µV, the largest shunt voltage while a
phase was on, in µV, and the common mode of AXIS_P in mV. -/
structure AuxIn where
  fb : Nat := 0
  shunt : Int := 0
  peak : Int := 0
  cm : Int := 0
  deriving DecidableEq, Repr

/-- The strap readings of a power-up, in µV across the 5 µA source: TW1's address strap (R386), HU_NSET and HU_VSET (R251). -/
structure Straps where
  addr : Nat := 0
  cells : Nat := 0
  chem : Nat := 0
  deriving DecidableEq, Repr

/-- What the boot finds (R290, R291, R422): whether each firmware bank passes its check, the die sensors' codes in 1/16 °C, and
whether each region of the configuration bank in use, and of the other one, serves: adoption, link, rails, calibration. -/
structure BootImage where
  bankA : Bool := true
  bankB : Bool := true
  die : Vector Int 8 := Vector.replicate 8 400
  cfg : Vector Bool 4 := Vector.replicate 4 true
  cfgOther : Vector Bool 4 := Vector.replicate 4 true
  deriving DecidableEq, Repr

/-- What shows of XHF and of PWMPLL (R307, R308): ns since the last XHF edge, the HFRC cycles of its latest 1 ms window, whether a
lock detector reports loss of lock, and the measured PWMPLL frequency in kHz. -/
structure XhfIn where
  gap : Nat := 0
  count : Nat := 96000
  unlock : Bool := false
  pwm : Nat := 800000
  deriving DecidableEq, Repr

/-- The clocks R306 judges. -/
inductive Clock where
  | hfrc | xhf | xlf | syspll | pwmpll | adcpll | sdpll
  deriving DecidableEq, Repr

/-- The ports that carry ASLP frames (R345, R373). -/
inductive LinkPort where
  | la | lb | spi
  deriving DecidableEq, Repr

/-- Source address and UDP port of a datagram (R345). -/
structure Peer where
  ip : List Byte := []
  udp : Nat := 0
  deriving DecidableEq, Repr

/-- The session a command comes in (R351, R352). -/
inductive Sess where
  | anon
  | spi
  | slot (k : Fin 8)
  deriving DecidableEq, Repr

/-- A TW0 device's answer to one poll (R392–R395): how its transactions went on the bus (0 completed, 1 NACK, 2 timeout or bus
error), STATUS_WORD, READ_TEMPERATURE_1 and READ_POUT as read, in LINEAR11, and the PEC byte read with each. -/
structure PollAns where
  bus : Fin 3 := 0
  status : BitVec 16 := 0
  temp : BitVec 16 := 0
  pout : BitVec 16 := 0
  pecStatus : Byte := 0
  pecTemp : Byte := 0
  pecPout : Byte := 0
  deriving DecidableEq, Repr

/-- A received non-ASLP packet (R344). -/
inductive Packet where
  | arp (target sender : List Byte)
  | nd (target sender : List Byte)
  | router (addr : List Byte)
  | echo (v6 : Bool) (dst src data : List Byte)
  | other
  deriving DecidableEq, Repr

/-- The configuration regions the controller saves (R291). -/
inductive Region where
  | adopt | link | rails
  deriving DecidableEq, Repr

/-- A region's place among what the boot finds of a bank. -/
def Region.idx : Region → Fin 4
  | .adopt => 0
  | .link => 1
  | .rails => 2

/-- The commands, one constructor per row of the opcode table; rows without operands come last. -/
inductive Instr where
  | registerWrite (addr : Nat) (val : Word)
  | lowWordRead (addr : Nat)
  | lockClose (key : BitVec 16)
  | controlPeriodBoundary (inp : Vector ChanIn 128) (lane : ChanIn) (aux : Vector AuxIn 4)
  | channelSlot (c : Ctx) (shadow : Shadow)
  | switchingCycleStart (n : Fin 128) (phB : Bool)
  | parkedSwitchOpen (n : Fin 128)
  | stopEnd (n : Fin 128)
  | modulatorOverload (n : Option (Fin 128)) (volt cur : Bool)
  | metrologySample (inp : Vector ChanIn 128) (lane : ChanIn)
  | regressionPost (n : Fin 128)
  | deltaSample (n : Fin 128) (vfd : Int) (ip : Int)
  | housekeepingRound (inp : Housekeeping)
  | shadowTableWrite (addr : Nat) (val : Word)
  | pwmDivWrite (val : Word)
  | syncInEdge (t : Nat)
  | phaseShed (n : Fin 128)
  | checkShortTest (n : Fin 128)
  | checkPrebiasReached (n : Fin 128)
  | checkPrebiasTimeout (n : Fin 128)
  | checkSwitchSettled (n : Fin 128)
  | checkZeroPointDone (n : Fin 128)
  | checkLearnSettled (n : Fin 128)
  | checkRpathLearned (n : Fin 128)
  | checkPass (n : Fin 128)
  | restSwitchOpen (n : Fin 128)
  | softStartFault (n : Fin 128)
  | gangWrite (n : Fin 128) (val : Word)
  | ocTrip (n : Fin 128) (t uv held : Nat)
  | ovTrip (n : Fin 128) (t uv held : Nat)
  | uvTrip (n : Fin 128)
  | fuseTrip (n : Fin 128)
  | contactBreak (n : Fin 128)
  | stageFault (n : Fin 128) (t held : Nat)
  | fltLPulse (n : Fin 128) (t held : Nat)
  | ctEstimateClose (n : Fin 128)
  | wearBinMinute (n : Fin 128)
  | driftSecond (n : Fin 128)
  | faultClear (n : Fin 128) (val : Word)
  | cc (c : Ctx) (a b : Fin 16) (s : Fin 4) (imm : BitVec 16)
  | cv (c : Ctx) (a b : Fin 16) (s : Fin 4) (imm : BitVec 16)
  | ccv (c : Ctx) (a b : Fin 16) (s : Fin 4) (imm : BitVec 16)
  | cp (c : Ctx) (a b : Fin 16) (s : Fin 4) (imm : BitVec 16)
  | cr (c : Ctx) (a b : Fin 16) (s : Fin 4) (imm : BitVec 16)
  | pulse (c : Ctx) (a b : Fin 16) (s : Fin 4) (imm : BitVec 16)
  | eis (c : Ctx) (a b : Fin 16) (s : Fin 4) (imm : BitVec 16)
  | rest (c : Ctx) (a b : Fin 16) (s : Fin 4) (imm : BitVec 16)
  | hold (c : Ctx) (a b : Fin 16) (s : Fin 4) (imm : BitVec 16)
  | gapHold (n : Fin 128)
  | limv (c : Ctx) (a b : Fin 16) (s : Fin 4) (imm : BitVec 16)
  | limi (c : Ctx) (a b : Fin 16) (s : Fin 4) (imm : BitVec 16)
  | limt (c : Ctx) (a b : Fin 16) (s : Fin 4) (imm : BitVec 16)
  | disarm (c : Ctx) (a b : Fin 16) (s : Fin 4) (imm : BitVec 16)
  | armt (c : Ctx) (a b : Fin 16) (s : Fin 4) (imm : BitVec 16)
  | armv (c : Ctx) (a b : Fin 16) (s : Fin 4) (imm : BitVec 16)
  | armi (c : Ctx) (a b : Fin 16) (s : Fin 4) (imm : BitVec 16)
  | armtap (c : Ctx) (a b : Fin 16) (s : Fin 4) (imm : BitVec 16)
  | armq (c : Ctx) (a b : Fin 16) (s : Fin 4) (imm : BitVec 16)
  | arme (c : Ctx) (a b : Fin 16) (s : Fin 4) (imm : BitVec 16)
  | armdv (c : Ctx) (a b : Fin 16) (s : Fin 4) (imm : BitVec 16)
  | armtc (c : Ctx) (a b : Fin 16) (s : Fin 4) (imm : BitVec 16)
  | wait (c : Ctx) (a b : Fin 16) (s : Fin 4) (imm : BitVec 16)
  | waitTimedExpiry (c : Ctx)
  | ldi (c : Ctx) (a b : Fin 16) (s : Fin 4) (imm : BitVec 16) (lit : Word)
  | mov (c : Ctx) (a b : Fin 16) (s : Fin 4) (imm : BitVec 16)
  | getm (c : Ctx) (a b : Fin 16) (s : Fin 4) (imm : BitVec 16)
  | putp (c : Ctx) (a b : Fin 16) (s : Fin 4) (imm : BitVec 16)
  | add (c : Ctx) (a b : Fin 16) (s : Fin 4) (imm : BitVec 16)
  | sub (c : Ctx) (a b : Fin 16) (s : Fin 4) (imm : BitVec 16)
  | mulsh (c : Ctx) (a b : Fin 16) (s : Fin 4) (imm : BitVec 16)
  | cmp (c : Ctx) (a b : Fin 16) (s : Fin 4) (imm : BitVec 16)
  | br (c : Ctx) (a b : Fin 16) (s : Fin 4) (imm : BitVec 16)
  | loop (c : Ctx) (a b : Fin 16) (s : Fin 4) (imm : BitVec 16)
  | call (c : Ctx) (a b : Fin 16) (s : Fin 4) (imm : BitVec 16)
  | ret (c : Ctx) (a b : Fin 16) (s : Fin 4) (imm : BitVec 16)
  | nop (c : Ctx) (a b : Fin 16) (s : Fin 4) (imm : BitVec 16)
  | stop (c : Ctx) (a b : Fin 16) (s : Fin 4) (imm : BitVec 16)
  | capdc (c : Ctx) (a b : Fin 16) (s : Fin 4) (imm : BitVec 16)
  | dcirCapture (n : Fin 128)
  | eisrun (c : Ctx) (a b : Fin 16) (s : Fin 4) (imm : BitVec 16)
  | eisLockinDone (n : Fin 128)
  | emit (c : Ctx) (a b : Fin 16) (s : Fin 4) (imm : BitVec 16)
  | bar (c : Ctx) (a b : Fin 16) (s : Fin 4) (imm : BitVec 16)
  | prio (c : Ctx) (a b : Fin 16) (s : Fin 4) (imm : BitVec 16)
  | sig (c : Ctx) (a b : Fin 16) (s : Fin 4) (imm : BitVec 16)
  | swappt (c : Ctx) (a b : Fin 16) (s : Fin 4) (imm : BitVec 16)
  | barrierRelease (b : Fin 16)
  | barrierTimeout (b : Fin 16)
  | stepStoreWrite (addr : Nat) (vals : List Word)
  | progWrite (n : Fin 128) (val : Word)
  | hostStart (n : Fin 128)
  | hostStop (n : Fin 128)
  | counterWrite (n : Fin 128) (energy : Bool) (val : BitVec 64)
  | dvdtWindowResult (n : Fin 128)
  | lanternSlotStart (refs : LaneRefs)
  | adoptEnable (n : Fin 128)
  | lbistSlice (pass : Bool)
  | fullLbistDone (pass : Bool)
  | retgo (k : Fin 32)
  | degradeExpiry (n : Fin 128)
  | vinEnterWindow (f : Fin 2) (vin : Int)
  | vinLeaveWindow (f : Fin 2) (vin : Int) (held : Nat)
  | feedQualified (f : Fin 2)
  | feedCheckDone (f : Fin 2) (vin mid mid2 : Int)
  | feedOn (f : Fin 2) (gs : Int) (held : Nat)
  | feedRampTimeout (f : Fin 2)
  | feedFaultTimer (f : Fin 2)
  | reverseTrip (f : Fin 2) (uv vin : Int)
  | turnoffConfirmed (f : Fin 2) (gs i : Int)
  | turnoffTimeout (f : Fin 2)
  | feedLockoutEnd (f : Fin 2)
  | feedFaultClear (f : Fin 2) (val : Word)
  | feedDisable (f : Fin 2)
  | feedSelectWrite (val : Word)
  | busCapMeasured
  | meterUpdate (inp : MeterIn)
  | gaugeRestore (crc : Word)
  | auxEnable (j : Fin 4)
  | auxDisable (j : Fin 4)
  | auxCheck (j : Fin 4) (mv : Int)
  | auxSoftstartDone (j : Fin 4)
  | auxPowerGood (j : Fin 4)
  | auxOv (j : Fin 4) (mv : Int) (held : Nat)
  | auxUv (j : Fin 4)
  | auxOc (j : Fin 4)
  | auxHiccupEnd (j : Fin 4) (mv : Int)
  | auxChargerOv (mv : Int)
  | loopPeriod (k : Fin 16) (inp : LoopIn)
  | setpointLost (k : Fin 16)
  | autotuneStart (k : Fin 16)
  | autotuneAbort (k : Fin 16)
  | autotuneTimeout (k : Fin 16)
  | powerOnReset (straps : Straps) (low : Nat)
  | resetLPulse (held : Nat)
  | bootComplete (img : BootImage)
  | railScan (e : Fin 24) (mv : Nat)
  | railRampTimeout (e : Fin 24)
  | railSettled (e : Fin 24)
  | railRetryEnd (e : Fin 24)
  | railDownTimeout (e : Fin 24)
  | railFaultClear (e : Fin 24) (val : Word)
  | sqRoffWrite (val : Word)
  | clockJudgeWindow (c : Clock) (count : Nat)
  | clockJudgeDeadline (c : Clock)
  | xhfLoss (x : XhfIn)
  | trimMeasurement (count : Nat)
  | compatVoutPoll (ans : Option (Byte × BitVec 16))
  | timeSet (val : Word)
  | ppsEdge (t : Nat)
  | modeRequest (val : Word)
  | aslpFrameReceive (p : LinkPort) (src : Peer) (dport : Fin 65536) (bytes : List Byte)
  | read32 (x : Sess) (addr : Nat)
  | write32 (x : Sess) (addr : Nat) (val : Word)
  | readBlock (x : Sess) (addr n : Nat)
  | writeBlock (x : Sess) (addr : Nat) (vals : List Word)
  | bulkOpen (x : Sess) (total : Nat)
  | bulkWriteData (x : Sess) (id off : Nat) (data : List Byte)
  | bulkStatus (x : Sess) (id : Nat)
  | bulkRead (x : Sess) (addr len : Nat)
  | bulkReadFrame (id : Nat)
  | programLoad (x : Sess) (bank : Word) (index n : Nat) (crc : Word)
  | imageStage (x : Sess) (sel : Word)
  | imageCommit (x : Sess) (bank : Word)
  | authPhase1 (x : Sess) (nh : List Byte)
  | authPhase2 (x : Sess) (ph : List Byte)
  | subscribe (x : Sess) (bits : Word)
  | ack (x : Sess) (cls seq : Nat)
  | close (x : Sess)
  | wake (x : Sess)
  | keySetDevice (x : Sess) (key : List Byte)
  | keySetOwner (x : Sess) (key : List Byte)
  | keepalive (x : Sess) (data : List Byte)
  | sessionTimeout (k : Fin 8)
  | rateControlFrame (x : Sess) (op : Fin 256)
  | eventFrameSend (k : Fin 9)
  | eventFrameResend (k : Fin 9)
  | streamFrameSend (st : Fin 5) (md : Fin 258) (raw : List Byte)
  | linkChange (p : Fin 2) (up : Bool)
  | portConfigWrite (addr : Nat) (val : Word)
  | spiWrite (bytes : List Byte)
  | spiRead (clocked : Nat)
  | rmCap (val : BitVec 16) (pec : Option Byte)
  | ptr (bytes : List Byte) (pec : Option Byte)
  | regWrite (bytes : List Byte) (pec : Option Byte)
  | twTimeout (p : Fin 2) (low : Nat)
  | twBusError (p : Fin 2)
  | twArbitrationLost (p : Fin 2)
  | hostNotify (ack : Bool)
  | notifyRetry (ack : Bool)
  | tw0Poll (answers : Vector PollAns 9)
  | clearFaults (k : Fin 9)
  | cellarSlotRelease (sl : Fin 4)
  | sramSlice (pass : Bool)
  | mramWriteTest (pass : Bool)
  | pwmLoopbackFail (w : Fin 9) (b : Fin 32) (err : Vector (Option Nat) 4)
  | supervisorRestartKey (key : BitVec 16)
  | supervisorRestartDone (bankA bankB : Bool)
  | cardLoss (k : Fin 16) (high : Nat)
  | cardReturn (k : Fin 16) (low : Nat)
  | jtagUpdateIr (ir : BitVec 5)
  | responseQueued (x : Sess)
  | arpNdEchoReceive (p : Fin 2) (pkt : Packet)
  | feedCurrentLimiting (f : Fin 2) (on : Bool) (i : Int) (tick : Fin 10)
  | holdupDischargeLimiting (on : Bool) (i : Int)
  | configRegionSave (r : Region)
  | pathCurrentLoss (ua : Int) (held : Nat)
  | holdupReverse (ua : Int) (held : Nat)
  | spiStatus (op : Fin 256)
  | rmNet (more : Bool)
  | regRead (more : Bool)
  | rstat (more : Bool)
  | evlow (more : Bool)
  | supervisorWatchdog (idle : Nat)
  | lockOpen
  | lockExpiry
  | safeReq
  | safeClr
  | shelfServiceEntry
  | agingSample
  | calCopy
  | calSwap
  | calCopyDone
  | calTableSave
  | syncLost
  | busLimitTrip
  | shelfStart
  | shelfStop
  | lanternConnect
  | lanternResult
  | lanternCommit
  | adoptActive
  | adoptRelease
  | spareAcquired
  | spareTakeover
  | spareRotation
  | rotnow
  | throttleReport
  | rmCapStale
  | feedErrorAlarm
  | holdupPathArm
  | holdupPreDone
  | holdupPreTimeout
  | holdupConduct
  | holdupUvcut
  | dischargeLimitExpiry
  | rideTimerExpiry
  | haltVoltage
  | huCtlHalt
  | haltComplete
  | chargerTick
  | chargerTaperDone
  | chargerSafetyTimeout
  | packMissing
  | packShorted
  | packPresent
  | huWdtKick
  | huWdtConfirm
  | huWdtExpiry
  | gaugeMinute
  | gaugeNoref
  | vbiasLoss
  | atticWakeRetry
  | railUpRequest
  | railDownRequest
  | railTableSave
  | srst
  | pendingUpStart
  | wdiEdge
  | wdiExpiry
  | compatStepTimeout
  | compatRetry
  | ppsLost
  | ppsSlewEnd
  | holdoverLimit
  | ppsDisable
  | modeEntry
  | agingWake
  | agingBurst
  | agingBurstEnd
  | agingSleep
  | agingArmWake
  | agingExitComplete
  | deepWake
  | deepWakeComplete
  | atticQueueDrain
  | authLockoutEnd
  | nzoffWrite
  | rateSwitch
  | rateSwitchDone
  | rateSwitchTimeout
  | rateRepropose
  | recordFrameSend
  | recordFrameResend
  | decimationEvaluation
  | spiWake
  | tw1DeepAddress
  | vaultRecordWrite
  | cellarHostTrigger
  | cellarCaptureClose
  | cellarSlotWritten
  | vaultClear
  | vaultClearDone
  | supervisorException
  | proposeResend
  | tw1AddressRearm
  deriving DecidableEq, Repr

end Sys2Proof
end

