-- ==== Sys2Proof/WellFormed.lean ====
section
/-! DEFINITION. Which terms are commands the outside can send: the operands lie within the widths and lengths that their
carrier gives them. -/

namespace Sys2Proof

/-- A 32-bit address (R4, R13). -/
def wfAddr (a : Nat) : Bool := decide (a < 2 ^ 32)

/-- A 32-bit operand. -/
def wfWord (a : Nat) : Bool := decide (a < 2 ^ 32)

/-- A 16-bit operand. -/
def wfHalf (a : Nat) : Bool := decide (a < 2 ^ 16)

/-- An instant within the control period, ns after its opening boundary (R11). -/
def wfTime (t : Nat) : Bool := decide (t < 10000)

/-- At most 256 words (R350). -/
def wfBlock (l : List Word) : Bool := decide (l.length ≤ 256)

/-- A byte string that a datagram or an SPI transfer can carry: at most 65,535 bytes. -/
def wfFrame (l : List Byte) : Bool := decide (l.length < 2 ^ 16)

/-- A byte string of a fixed length (R353, R362, R371). -/
def wfBytes (n : Nat) (l : List Byte) : Bool := decide (l.length = n)

/-- A code of the 12-bit delta converter or beyond its ends (R38, R104): a 16-bit number. -/
def wfDelta (x : Int) : Bool := decide (-2 ^ 15 ≤ x ∧ x < 2 ^ 15)

/-- A raw current in full scale × 2^-30: within twice the full scale. -/
def wfRaw (x : Int) : Bool := decide (-2 ^ 31 ≤ x ∧ x < 2 ^ 31)

/-- The operands of a command lie within the widths and lengths their carrier gives them. -/
def Instr.wf (i : Instr) : Bool :=
  match i with
  | .registerWrite addr _ => wfAddr addr
  | .lowWordRead addr => wfAddr addr
  | .lockClose _ => true
  | .controlPeriodBoundary _ _ _ => true
  | .channelSlot _ _ => true
  | .switchingCycleStart _ _ => true
  | .parkedSwitchOpen _ => true
  | .stopEnd _ => true
  | .modulatorOverload _ _ _ => true
  | .metrologySample _ _ => true
  | .regressionPost _ => true
  | .deltaSample _ vfd ip => wfDelta vfd && wfRaw ip
  | .housekeepingRound _ => true
  | .shadowTableWrite addr _ => wfAddr addr
  | .pwmDivWrite _ => true
  | .syncInEdge t => decide (t < 10000000)
  | .phaseShed _ => true
  | .checkShortTest _ => true
  | .checkPrebiasReached _ => true
  | .checkPrebiasTimeout _ => true
  | .checkSwitchSettled _ => true
  | .checkZeroPointDone _ => true
  | .checkLearnSettled _ => true
  | .checkRpathLearned _ => true
  | .checkPass _ => true
  | .restSwitchOpen _ => true
  | .softStartFault _ => true
  | .gangWrite _ _ => true
  | .ocTrip _ t _ _ => wfTime t
  | .ovTrip _ t _ _ => wfTime t
  | .uvTrip _ => true
  | .fuseTrip _ => true
  | .contactBreak _ => true
  | .stageFault _ t _ => wfTime t
  | .fltLPulse _ t _ => wfTime t
  | .ctEstimateClose _ => true
  | .wearBinMinute _ => true
  | .driftSecond _ => true
  | .faultClear _ _ => true
  | .cc _ _ _ _ _ => true
  | .cv _ _ _ _ _ => true
  | .ccv _ _ _ _ _ => true
  | .cp _ _ _ _ _ => true
  | .cr _ _ _ _ _ => true
  | .pulse _ _ _ _ _ => true
  | .eis _ _ _ _ _ => true
  | .rest _ _ _ _ _ => true
  | .hold _ _ _ _ _ => true
  | .gapHold _ => true
  | .limv _ _ _ _ _ => true
  | .limi _ _ _ _ _ => true
  | .limt _ _ _ _ _ => true
  | .disarm _ _ _ _ _ => true
  | .armt _ _ _ _ _ => true
  | .armv _ _ _ _ _ => true
  | .armi _ _ _ _ _ => true
  | .armtap _ _ _ _ _ => true
  | .armq _ _ _ _ _ => true
  | .arme _ _ _ _ _ => true
  | .armdv _ _ _ _ _ => true
  | .armtc _ _ _ _ _ => true
  | .wait _ _ _ _ _ => true
  | .waitTimedExpiry _ => true
  | .ldi _ _ _ _ _ _ => true
  | .mov _ _ _ _ _ => true
  | .getm _ _ _ _ _ => true
  | .putp _ _ _ _ _ => true
  | .add _ _ _ _ _ => true
  | .sub _ _ _ _ _ => true
  | .mulsh _ _ _ _ _ => true
  | .cmp _ _ _ _ _ => true
  | .br _ _ _ _ _ => true
  | .loop _ _ _ _ _ => true
  | .call _ _ _ _ _ => true
  | .ret _ _ _ _ _ => true
  | .nop _ _ _ _ _ => true
  | .stop _ _ _ _ _ => true
  | .capdc _ _ _ _ _ => true
  | .dcirCapture _ => true
  | .eisrun _ _ _ _ _ => true
  | .eisLockinDone _ => true
  | .emit _ _ _ _ _ => true
  | .bar _ _ _ _ _ => true
  | .prio _ _ _ _ _ => true
  | .sig _ _ _ _ _ => true
  | .swappt _ _ _ _ _ => true
  | .barrierRelease _ => true
  | .barrierTimeout _ => true
  | .stepStoreWrite addr vals => wfAddr addr && wfBlock vals
  | .progWrite _ _ => true
  | .hostStart _ => true
  | .hostStop _ => true
  | .counterWrite _ _ _ => true
  | .dvdtWindowResult _ => true
  | .lanternSlotStart _ => true
  | .adoptEnable _ => true
  | .lbistSlice _ => true
  | .fullLbistDone _ => true
  | .retgo _ => true
  | .degradeExpiry _ => true
  | .vinEnterWindow _ _ => true
  | .vinLeaveWindow _ _ _ => true
  | .feedQualified _ => true
  | .feedCheckDone _ _ _ _ => true
  | .feedOn _ _ _ => true
  | .feedRampTimeout _ => true
  | .feedFaultTimer _ => true
  | .reverseTrip _ _ _ => true
  | .turnoffConfirmed _ _ _ => true
  | .turnoffTimeout _ => true
  | .feedLockoutEnd _ => true
  | .feedFaultClear _ _ => true
  | .feedDisable _ => true
  | .feedSelectWrite _ => true
  | .busCapMeasured => true
  | .meterUpdate _ => true
  | .gaugeRestore _ => true
  | .auxEnable _ => true
  | .auxDisable _ => true
  | .auxCheck _ _ => true
  | .auxSoftstartDone _ => true
  | .auxPowerGood _ => true
  | .auxOv _ _ _ => true
  | .auxUv _ => true
  | .auxOc _ => true
  | .auxHiccupEnd _ _ => true
  | .loopPeriod _ _ => true
  | .setpointLost _ => true
  | .autotuneStart _ => true
  | .autotuneAbort _ => true
  | .autotuneTimeout _ => true
  | .powerOnReset _ _ => true
  | .bootComplete _ => true
  | .railScan _ mv => wfHalf mv
  | .railRampTimeout _ => true
  | .railSettled _ => true
  | .railRetryEnd _ => true
  | .railDownTimeout _ => true
  | .railFaultClear _ _ => true
  | .sqRoffWrite _ => true
  | .clockJudgeWindow _ count => wfWord count
  | .clockJudgeDeadline _ => true
  | .trimMeasurement _ => true
  | .compatVoutPoll _ => true
  | .timeSet _ => true
  | .ppsEdge t => wfTime t
  | .modeRequest _ => true
  | .aslpFrameReceive _ _ _ bytes => wfFrame bytes
  | .read32 _ addr => wfAddr addr
  | .write32 _ addr _ => wfAddr addr
  | .readBlock _ addr n => wfAddr addr && wfHalf n
  | .writeBlock _ addr vals => wfAddr addr && wfBlock vals
  | .bulkOpen _ total => wfWord total
  | .bulkWriteData _ id off data => wfWord id && wfWord off && wfFrame data
  | .bulkStatus _ id => wfWord id
  | .bulkRead _ addr len => wfAddr addr && wfWord len
  | .bulkReadFrame id => wfWord id
  | .programLoad _ _ index n _ => wfHalf index && wfHalf n
  | .imageStage _ _ => true
  | .imageCommit _ _ => true
  | .authPhase1 _ nh => wfBytes 16 nh
  | .authPhase2 _ ph => wfBytes 32 ph
  | .subscribe _ _ => true
  | .ack _ cls seq => wfHalf cls && wfWord seq
  | .close _ => true
  | .wake _ => true
  | .keySetDevice _ key => wfBytes 32 key
  | .keySetOwner _ key => wfBytes 32 key
  | .keepalive _ data => wfBytes 8 data
  | .sessionTimeout _ => true
  | .rateControlFrame _ _ => true
  | .eventFrameSend _ => true
  | .eventFrameResend _ => true
  | .streamFrameSend _ _ raw => wfFrame raw
  | .linkChange _ _ => true
  | .portConfigWrite addr _ => wfAddr addr
  | .spiWrite bytes => wfFrame bytes
  | .spiRead clocked => wfHalf clocked
  | .rmCap _ _ => true
  | .ptr bytes _ => wfFrame bytes
  | .regWrite bytes _ => wfFrame bytes
  | .twTimeout _ low => wfWord low
  | .twBusError _ => true
  | .twArbitrationLost _ => true
  | .hostNotify _ => true
  | .notifyRetry _ => true
  | .tw0Poll _ => true
  | .clearFaults _ => true
  | .cellarSlotRelease _ => true
  | .sramSlice _ => true
  | .mramWriteTest _ => true
  | .pwmLoopbackFail _ _ err => err.toList.all fun x => x.all wfWord
  | .supervisorRestartKey _ => true
  | .supervisorRestartDone _ _ => true
  | .cardLoss _ high => wfWord high
  | .cardReturn _ low => wfWord low
  | .jtagUpdateIr _ => true
  | .responseQueued _ => true
  | .arpNdEchoReceive _ _ => true
  | .feedCurrentLimiting _ _ _ _ => true
  | .holdupDischargeLimiting _ _ => true
  | .configRegionSave _ => true
  | .lockOpen => true
  | .lockExpiry => true
  | .safeReq => true
  | .safeClr => true
  | .shelfServiceEntry => true
  | .agingSample => true
  | .calCopy => true
  | .calSwap => true
  | .calCopyDone => true
  | .calTableSave => true
  | .syncLost => true
  | .busLimitTrip => true
  | .shelfStart => true
  | .shelfStop => true
  | .lanternConnect => true
  | .lanternResult => true
  | .lanternCommit => true
  | .adoptActive => true
  | .adoptRelease => true
  | .spareAcquired => true
  | .spareTakeover => true
  | .spareRotation => true
  | .rotnow => true
  | .throttleReport => true
  | .rmCapStale => true
  | .feedErrorAlarm => true
  | .pathCurrentLoss _ _ => true
  | .holdupPathArm => true
  | .holdupPreDone => true
  | .holdupPreTimeout => true
  | .holdupConduct => true
  | .holdupReverse _ _ => true
  | .holdupUvcut => true
  | .dischargeLimitExpiry => true
  | .rideTimerExpiry => true
  | .haltVoltage => true
  | .huCtlHalt => true
  | .haltComplete => true
  | .chargerTick => true
  | .chargerTaperDone => true
  | .chargerSafetyTimeout => true
  | .packMissing => true
  | .packShorted => true
  | .packPresent => true
  | .huWdtKick => true
  | .huWdtConfirm => true
  | .huWdtExpiry => true
  | .gaugeMinute => true
  | .gaugeNoref => true
  | .auxChargerOv _ => true
  | .vbiasLoss => true
  | .resetLPulse _ => true
  | .atticWakeRetry => true
  | .railUpRequest => true
  | .railDownRequest => true
  | .railTableSave => true
  | .srst => true
  | .pendingUpStart => true
  | .wdiEdge => true
  | .wdiExpiry => true
  | .xhfLoss _ => true
  | .compatStepTimeout => true
  | .compatRetry => true
  | .ppsLost => true
  | .ppsSlewEnd => true
  | .holdoverLimit => true
  | .ppsDisable => true
  | .modeEntry => true
  | .agingWake => true
  | .agingBurst => true
  | .agingBurstEnd => true
  | .agingSleep => true
  | .agingArmWake => true
  | .agingExitComplete => true
  | .deepWake => true
  | .deepWakeComplete => true
  | .atticQueueDrain => true
  | .authLockoutEnd => true
  | .nzoffWrite => true
  | .rateSwitch => true
  | .rateSwitchDone => true
  | .rateSwitchTimeout => true
  | .rateRepropose => true
  | .recordFrameSend => true
  | .recordFrameResend => true
  | .decimationEvaluation => true
  | .spiStatus _ => true
  | .spiWake => true
  | .rmNet _ => true
  | .regRead _ => true
  | .rstat _ => true
  | .evlow _ => true
  | .tw1DeepAddress => true
  | .vaultRecordWrite => true
  | .cellarHostTrigger => true
  | .cellarCaptureClose => true
  | .cellarSlotWritten => true
  | .vaultClear => true
  | .vaultClearDone => true
  | .supervisorWatchdog idle => wfWord idle
  | .supervisorException => true
  | .proposeResend => true
  | .tw1AddressRearm => true

end Sys2Proof
end

