-- ==== Sys2Proof/Decode.lean ====
section
/-! DEFINITION. The command a table word spells. No row of the opcode table gives bits (every row's list of fields is empty):
the block takes commands from its ports, its clocks and its own engines, and no word spells one. The words of the step
program, which R142 encodes, are decoded where the step engine fetches them (Machine/Gulgaub.lean). -/

namespace Sys2Proof

/-- The command a word of the table's bits spells: none, for a table that gives no row bits. -/
def decodeTableWord (_nbits _w : Nat) : Option Instr := none

end Sys2Proof
end

