-- ==== Sys2Proof/Machine/Regs.lean ====
section
/-! DEFINITION. The register map of the AL9128: one constructor of `Reg` per register of the manual, its host
address, its fields (place, type, reset value and the encodings the field table reserves), and the decoder from a
host address back to the register. Every line follows the field table of the rule that defines the register; the
block bases are those of R13. Registers the manual gives no field table for (CH_TREC, R140; HU_GG_STATE and
HU_GG_RESTORE, R268; CK_GATE, after R323) are written from that text. A 64-bit pair (R8) is two registers, the low
word under the manual's name and the high word with an H added. -/

namespace Sys2Proof.Machine

/-- The registers, named as the manual names them; an index is a `Fin` of the manual's range. -/
inductive Reg where
  | CK_GATE (b : Fin 15)
  | EV_PEND (w : Fin 16)
  | EV_MASK (w : Fin 16)
  | EV_CFG (n : Fin 512)
  | SQ_RCFG (e : Fin 24)
  | SQ_RDEP (e : Fin 24)
  | SQ_RNOM (e : Fin 24)
  | SQ_RTIM (e : Fin 24)
  | SQ_RSTAT (e : Fin 24)
  | SQ_RFLT (e : Fin 24)
  | FD_FCFG (f : Fin 2)
  | FD_ILIM (f : Fin 2)
  | FD_RSH (f : Fin 2)
  | FD_FSTAT (f : Fin 2)
  | FD_FLT (f : Fin 2)
  | FD_V (f : Fin 2)
  | FD_I (f : Fin 2)
  | FD_P (f : Fin 2)
  | FD_EIN (f : Fin 2)
  | FD_EINH (f : Fin 2)
  | FD_EOUT (f : Fin 2)
  | FD_EOUTH (f : Fin 2)
  | HU_GG_STATE (w : Fin 4)
  | HU_GG_RESTORE (w : Fin 4)
  | HU_OCV (w : Fin 8)
  | LG_SCALE (c : Fin 4)
  | LG_EFF (n : Fin 128) (w : Fin 8)
  | AX_CTL (j : Fin 4)
  | AX_CFG (j : Fin 4)
  | AX_VNOM (j : Fin 4)
  | AX_MARG (j : Fin 4)
  | AX_ILIM (j : Fin 4)
  | AX_GAIN (j : Fin 4)
  | AX_PWM (j : Fin 4)
  | AX_STAT (j : Fin 4)
  | AX_FLT (j : Fin 4)
  | AX_V (j : Fin 4)
  | AX_I (j : Fin 4)
  | AX_P (j : Fin 4)
  | AL_CTL (k : Fin 16)
  | AL_CFG (k : Fin 16)
  | AL_INGAIN (k : Fin 16)
  | AL_INOFF (k : Fin 16)
  | AL_SP (k : Fin 16)
  | AL_SPSRC (k : Fin 16)
  | AL_SPGAIN (k : Fin 16)
  | AL_SPOFF (k : Fin 16)
  | AL_KP (k : Fin 16)
  | AL_TI (k : Fin 16)
  | AL_OUT (k : Fin 16)
  | AL_MAN (k : Fin 16)
  | AL_AT (k : Fin 16)
  | AL_ATHYS (k : Fin 16)
  | AL_STAT (k : Fin 16)
  | AL_PV (k : Fin 16)
  | TW_CFG (p : Fin 2)
  | TW_TIM (p : Fin 2)
  | TW_STAT (p : Fin 2)
  | TW0_DEV (k : Fin 9)
  | TW0_RD0 (k : Fin 9)
  | TW0_RD1 (k : Fin 9)
  | HL_SESS (k : Fin 8)
  | HL_PCFG (p : Fin 2)
  | HL_PSTAT (p : Fin 2)
  | HL_MACL (p : Fin 2)
  | HL_MACH (p : Fin 2)
  | HL_IP4 (p : Fin 2)
  | HL_GW4 (p : Fin 2)
  | HL_PLEN (p : Fin 2)
  | HL_IP6 (p : Fin 2) (w : Fin 4)
  | HL_SCFG (s : Fin 5)
  | HL_SALLOT (s : Fin 5)
  | HL_SSTAT (s : Fin 5)
  | HL_SDROP (s : Fin 5)
  | HL_DCFG (d : Fin 4)
  | HL_DADDR (d : Fin 4) (w : Fin 4)
  | VT_CSLOT (s : Fin 4)
  | VT_CTRIG (w : Fin 16)
  | BT_PWMF (w : Fin 9)
  | TS_T (k : Fin 8)
  | LN_SUSP (w : Fin 4)
  | CS_MAP (w : Fin 4)
  | CS_STAT (k : Fin 17)
  | CS_SHUSR (i : Fin 4)
  | CS_SG (i : Fin 16)
  | CS_BARM (b : Fin 16) (w : Fin 4)
  | CH_MODE (n : Fin 128)
  | CH_STATE (n : Fin 128)
  | CH_PROG (n : Fin 128)
  | CH_GANG (n : Fin 128)
  | CH_PWM (n : Fin 128)
  | CH_CMD (n : Fin 128)
  | CH_SOFT (n : Fin 128)
  | CH_SLEW (n : Fin 128)
  | CH_LIM_V (n : Fin 128)
  | CH_LIM_I (n : Fin 128)
  | CH_LIM_T (n : Fin 128)
  | CH_FUSE (n : Fin 128)
  | CT_DELTA (n : Fin 128)
  | CT_EMAX (n : Fin 128)
  | CH_RPATH (n : Fin 128)
  | CH_CHK (n : Fin 128)
  | CH_MEAS (n : Fin 128)
  | CH_SHUNT (n : Fin 128)
  | CH_NTC (n : Fin 128)
  | CH_MSTAT (n : Fin 128)
  | CH_IKP (n : Fin 128)
  | CH_IKI (n : Fin 128)
  | CH_VKP (n : Fin 128)
  | CH_VKI (n : Fin 128)
  | CH_LCFG (n : Fin 128)
  | CH_OSW (n : Fin 128)
  | CH_V (n : Fin 128)
  | CH_I (n : Fin 128)
  | CH_P (n : Fin 128)
  | CH_AH (n : Fin 128)
  | CH_AHH (n : Fin 128)
  | CH_WH (n : Fin 128)
  | CH_WHH (n : Fin 128)
  | CH_T (n : Fin 128)
  | CH_VFD (n : Fin 128)
  | CH_REF (n : Fin 128)
  | CH_DUTY (n : Fin 128)
  | CH_PSTAT (n : Fin 128)
  | CH_PSEQ (n : Fin 128)
  | CH_PCNT (n : Fin 128)
  | CH_TREC (n : Fin 128) (i : Fin 16)
  | CH_FAULT (n : Fin 128)
  | CH_FUSEST (n : Fin 128)
  | CH_CTLAST (n : Fin 128)
  | CH_CTCNT (n : Fin 128)
  | CH_CTWEAR (n : Fin 128)
  | CH_CTCLAMP (n : Fin 128)
  | CH_STG (n : Fin 128)
  | CH_DCIR (n : Fin 128)
  | CH_DCDV (n : Fin 128)
  | CH_DCDI (n : Fin 128)
  | CH_DCCFG (n : Fin 128)
  | CH_DCST (n : Fin 128)
  | CH_EIS_F (n : Fin 128)
  | CH_EIS_RE (n : Fin 128)
  | CH_EIS_IM (n : Fin 128)
  | CH_EIS_IA (n : Fin 128)
  | CH_EIS_Q (n : Fin 128)
  | CH_DVDT (n : Fin 128)
  | CH_OCVCTL (n : Fin 128)
  | CH_OCVSLOPE (n : Fin 128)
  | CH_OCVSE (n : Fin 128)
  | CH_OCVN (n : Fin 128)
  | CH_OCVDUR (n : Fin 128)
  | CH_OCVST (n : Fin 128)
  | CH_OCVV0 (n : Fin 128)
  | CH_G (n : Fin 128) (i : Fin 16)
  | GL_ID
  | GL_STATE
  | GL_SAFE
  | GL_LOCK
  | GL_MODE
  | GL_AGSTAT
  | GL_SUPV
  | GL_CARD
  | GL_BUSLIM
  | CK_SRC
  | CK_SRCSTAT
  | CK_PLLSTAT
  | CK_TRIM
  | CK_TIME
  | CK_TIMEH
  | CK_TSET
  | CK_PPS
  | CK_PPSSTAT
  | CK_OFFSET
  | CK_HOLD
  | CK_RATE
  | CK_COMPAT
  | CK_CSTEP
  | CK_CVOLT
  | CK_PWM
  | CK_SYNC
  | CK_SYNCST
  | EV_CTL
  | EV_STAT
  | SQ_CTL
  | SQ_CMD
  | SQ_STAT
  | SQ_BOOT
  | SQ_WDI
  | SQ_ROFF
  | FD_SEL
  | FD_QUAL
  | FD_CMAX
  | FD_CBUS
  | FD_BUSV
  | FD_CNT
  | HU_CTL
  | HU_STAT
  | HU_FLT
  | HU_INTM
  | HU_STRAP
  | HU_CHG
  | HU_VREG
  | HU_ACC
  | HU_TEMP
  | HU_DLIM
  | HU_RIDE
  | HU_RSH
  | HU_PRECFG
  | HU_TIMER
  | HU_WDT
  | HU_V
  | HU_I
  | HU_T
  | HU_GG_SOC
  | HU_GG_CAP
  | HU_GG_RPACK
  | LG_CTL
  | LG_CAP_W
  | LG_REGEN_W
  | LG_CAP_RM
  | LG_CAPEFF
  | LG_CLASS_FLOOR
  | LG_HU
  | LG_NET_W
  | LG_PRED_W
  | LG_STAT
  | LG_DEGRADE_PCT
  | LG_DEGRADE_S
  | LG_BASE_W
  | LG_AXEFF
  | LG_FEEDERR
  | LG_RPT
  | TW0_POLL
  | TW0_PKMASK
  | TW1_ADDR
  | TW1_PTR
  | TW1_NTFY
  | HL_CFG
  | HL_STAT
  | HL_KEYSTAT
  | HL_RATE
  | HL_BULK
  | HL_SPI
  | VT_CTL
  | VT_STAT
  | VT_HEAD
  | VT_TAIL
  | VT_QUEUE
  | VT_CCTL
  | VT_CSTAT
  | BT_CTL
  | BT_SRAM
  | BT_SRAMT
  | BT_MRAM
  | BT_MRAMT
  | BT_FAIL0
  | BT_FAIL1
  | BT_REPAIR
  | BT_REF
  | BT_REFLIM
  | TS_CTL
  | TS_MAX
  | TS_STAT
  | TS_BAND
  | TS_HK
  | LN_CFG
  | LN_STAT
  | LN_POS
  | LN_LIMIT
  | LN_ADOPT
  | LN_DWELL
  | LN_CNT
  | LN_REFV
  | LN_RES0
  | LN_RES1
  | LN_RES2
  | LN_RES3
  | LN_KBASE
  | LN_CALCTL
  | LN_CALSTAT
  | LN_CALSEQ
  | CS_CTL
  | CS_SPARE
  | CS_SHPROG
  | CS_SHCMD
  | CS_SHSTAT
  | CS_BART
  | CS_SHIN
  deriving DecidableEq, Repr

/-- The host address of a register (R13 and the offset its own rule gives). -/
def Reg.addr : Reg → Nat
  | .GL_ID => 0x0
  | .GL_STATE => 0x4
  | .GL_SAFE => 0x8
  | .GL_LOCK => 0xC
  | .GL_MODE => 0x10
  | .GL_AGSTAT => 0x14
  | .GL_SUPV => 0x18
  | .GL_CARD => 0x20
  | .GL_BUSLIM => 0x24
  | .CK_SRC => 0x10000
  | .CK_SRCSTAT => 0x10004
  | .CK_PLLSTAT => 0x10008
  | .CK_TRIM => 0x1000C
  | .CK_TIME => 0x10010
  | .CK_TIMEH => 0x10014
  | .CK_TSET => 0x10018
  | .CK_PPS => 0x1001C
  | .CK_PPSSTAT => 0x10020
  | .CK_OFFSET => 0x10024
  | .CK_HOLD => 0x10028
  | .CK_RATE => 0x1002C
  | .CK_COMPAT => 0x10030
  | .CK_CSTEP => 0x10034
  | .CK_CVOLT => 0x10038
  | .CK_GATE b => 0x10100 + b.val * 0x4
  | .CK_PWM => 0x10400
  | .CK_SYNC => 0x10404
  | .CK_SYNCST => 0x10408
  | .EV_CTL => 0x20000
  | .EV_STAT => 0x20004
  | .EV_PEND w => 0x20100 + w.val * 0x4
  | .EV_MASK w => 0x20140 + w.val * 0x4
  | .EV_CFG n => 0x21000 + n.val * 0x4
  | .SQ_CTL => 0x30000
  | .SQ_CMD => 0x30004
  | .SQ_STAT => 0x30008
  | .SQ_BOOT => 0x3000C
  | .SQ_WDI => 0x30010
  | .SQ_ROFF => 0x30014
  | .SQ_RCFG e => 0x30100 + e.val * 0x20
  | .SQ_RDEP e => 0x30104 + e.val * 0x20
  | .SQ_RNOM e => 0x30108 + e.val * 0x20
  | .SQ_RTIM e => 0x3010C + e.val * 0x20
  | .SQ_RSTAT e => 0x30110 + e.val * 0x20
  | .SQ_RFLT e => 0x30114 + e.val * 0x20
  | .FD_SEL => 0x40000
  | .FD_QUAL => 0x40004
  | .FD_CMAX => 0x40008
  | .FD_CBUS => 0x4000C
  | .FD_BUSV => 0x40010
  | .FD_CNT => 0x40014
  | .FD_FCFG f => 0x40100 + f.val * 0x40
  | .FD_ILIM f => 0x40104 + f.val * 0x40
  | .FD_RSH f => 0x40108 + f.val * 0x40
  | .FD_FSTAT f => 0x4010C + f.val * 0x40
  | .FD_FLT f => 0x40110 + f.val * 0x40
  | .FD_V f => 0x40114 + f.val * 0x40
  | .FD_I f => 0x40118 + f.val * 0x40
  | .FD_P f => 0x4011C + f.val * 0x40
  | .FD_EIN f => 0x40120 + f.val * 0x40
  | .FD_EINH f => 0x40124 + f.val * 0x40
  | .FD_EOUT f => 0x40128 + f.val * 0x40
  | .FD_EOUTH f => 0x4012C + f.val * 0x40
  | .HU_CTL => 0x50000
  | .HU_STAT => 0x50004
  | .HU_FLT => 0x50008
  | .HU_INTM => 0x5000C
  | .HU_STRAP => 0x50010
  | .HU_CHG => 0x50014
  | .HU_VREG => 0x50018
  | .HU_ACC => 0x5001C
  | .HU_TEMP => 0x50020
  | .HU_DLIM => 0x50024
  | .HU_RIDE => 0x50028
  | .HU_RSH => 0x5002C
  | .HU_PRECFG => 0x50030
  | .HU_TIMER => 0x50034
  | .HU_WDT => 0x50038
  | .HU_V => 0x50040
  | .HU_I => 0x50044
  | .HU_T => 0x50048
  | .HU_GG_SOC => 0x50050
  | .HU_GG_CAP => 0x50054
  | .HU_GG_RPACK => 0x50058
  | .HU_GG_STATE w => 0x50060 + w.val * 0x4
  | .HU_GG_RESTORE w => 0x50070 + w.val * 0x4
  | .HU_OCV w => 0x50080 + w.val * 0x4
  | .LG_CTL => 0x60000
  | .LG_CAP_W => 0x60004
  | .LG_REGEN_W => 0x60008
  | .LG_CAP_RM => 0x6000C
  | .LG_CAPEFF => 0x60010
  | .LG_CLASS_FLOOR => 0x60014
  | .LG_SCALE c => 0x60020 + c.val * 0x4
  | .LG_HU => 0x60030
  | .LG_NET_W => 0x60034
  | .LG_PRED_W => 0x60038
  | .LG_STAT => 0x6003C
  | .LG_DEGRADE_PCT => 0x60040
  | .LG_DEGRADE_S => 0x60044
  | .LG_BASE_W => 0x60048
  | .LG_AXEFF => 0x6004C
  | .LG_FEEDERR => 0x60050
  | .LG_RPT => 0x60054
  | .LG_EFF n w => 0x61000 + n.val * 0x20 + w.val * 0x4
  | .AX_CTL j => 0x70000 + j.val * 0x100
  | .AX_CFG j => 0x70004 + j.val * 0x100
  | .AX_VNOM j => 0x70008 + j.val * 0x100
  | .AX_MARG j => 0x7000C + j.val * 0x100
  | .AX_ILIM j => 0x70010 + j.val * 0x100
  | .AX_GAIN j => 0x70014 + j.val * 0x100
  | .AX_PWM j => 0x70018 + j.val * 0x100
  | .AX_STAT j => 0x7001C + j.val * 0x100
  | .AX_FLT j => 0x70020 + j.val * 0x100
  | .AX_V j => 0x70024 + j.val * 0x100
  | .AX_I j => 0x70028 + j.val * 0x100
  | .AX_P j => 0x7002C + j.val * 0x100
  | .AL_CTL k => 0x71000 + k.val * 0x40
  | .AL_CFG k => 0x71004 + k.val * 0x40
  | .AL_INGAIN k => 0x71008 + k.val * 0x40
  | .AL_INOFF k => 0x7100C + k.val * 0x40
  | .AL_SP k => 0x71010 + k.val * 0x40
  | .AL_SPSRC k => 0x71014 + k.val * 0x40
  | .AL_SPGAIN k => 0x71018 + k.val * 0x40
  | .AL_SPOFF k => 0x7101C + k.val * 0x40
  | .AL_KP k => 0x71020 + k.val * 0x40
  | .AL_TI k => 0x71024 + k.val * 0x40
  | .AL_OUT k => 0x71028 + k.val * 0x40
  | .AL_MAN k => 0x7102C + k.val * 0x40
  | .AL_AT k => 0x71030 + k.val * 0x40
  | .AL_ATHYS k => 0x71034 + k.val * 0x40
  | .AL_STAT k => 0x71038 + k.val * 0x40
  | .AL_PV k => 0x7103C + k.val * 0x40
  | .TW_CFG p => 0x80000 + p.val * 0x100
  | .TW_TIM p => 0x80004 + p.val * 0x100
  | .TW_STAT p => 0x80008 + p.val * 0x100
  | .TW0_POLL => 0x80010
  | .TW0_PKMASK => 0x80014
  | .TW0_DEV k => 0x80040 + k.val * 0x4
  | .TW0_RD0 k => 0x80080 + k.val * 0x8
  | .TW0_RD1 k => 0x80084 + k.val * 0x8
  | .TW1_ADDR => 0x80110
  | .TW1_PTR => 0x80114
  | .TW1_NTFY => 0x80118
  | .HL_CFG => 0x90000
  | .HL_STAT => 0x90004
  | .HL_KEYSTAT => 0x90008
  | .HL_RATE => 0x9000C
  | .HL_BULK => 0x90010
  | .HL_SPI => 0x90014
  | .HL_SESS k => 0x90040 + k.val * 0x4
  | .HL_PCFG p => 0x90100 + p.val * 0x40
  | .HL_PSTAT p => 0x90104 + p.val * 0x40
  | .HL_MACL p => 0x90108 + p.val * 0x40
  | .HL_MACH p => 0x9010C + p.val * 0x40
  | .HL_IP4 p => 0x90110 + p.val * 0x40
  | .HL_GW4 p => 0x90114 + p.val * 0x40
  | .HL_PLEN p => 0x90118 + p.val * 0x40
  | .HL_IP6 p w => 0x90120 + p.val * 0x40 + w.val * 0x4
  | .HL_SCFG s => 0x90300 + s.val * 0x10
  | .HL_SALLOT s => 0x90304 + s.val * 0x10
  | .HL_SSTAT s => 0x90308 + s.val * 0x10
  | .HL_SDROP s => 0x9030C + s.val * 0x10
  | .HL_DCFG d => 0x90400 + d.val * 0x20
  | .HL_DADDR d w => 0x90404 + d.val * 0x20 + w.val * 0x4
  | .VT_CTL => 0xA0000
  | .VT_STAT => 0xA0004
  | .VT_HEAD => 0xA0008
  | .VT_TAIL => 0xA000C
  | .VT_QUEUE => 0xA0010
  | .VT_CCTL => 0xA0040
  | .VT_CSTAT => 0xA0044
  | .VT_CSLOT s => 0xA0050 + s.val * 0x4
  | .VT_CTRIG w => 0xA0080 + w.val * 0x4
  | .BT_CTL => 0xB0000
  | .BT_SRAM => 0xB0004
  | .BT_SRAMT => 0xB0008
  | .BT_MRAM => 0xB000C
  | .BT_MRAMT => 0xB0010
  | .BT_FAIL0 => 0xB0020
  | .BT_FAIL1 => 0xB0024
  | .BT_REPAIR => 0xB0028
  | .BT_PWMF w => 0xB0040 + w.val * 0x4
  | .BT_REF => 0xB0060
  | .BT_REFLIM => 0xB0064
  | .TS_CTL => 0xB0800
  | .TS_MAX => 0xB0804
  | .TS_STAT => 0xB0808
  | .TS_BAND => 0xB080C
  | .TS_HK => 0xB0810
  | .TS_T k => 0xB0820 + k.val * 0x4
  | .LN_CFG => 0xC0000
  | .LN_STAT => 0xC0004
  | .LN_POS => 0xC0008
  | .LN_LIMIT => 0xC000C
  | .LN_ADOPT => 0xC0010
  | .LN_DWELL => 0xC0014
  | .LN_CNT => 0xC0018
  | .LN_REFV => 0xC001C
  | .LN_RES0 => 0xC0020
  | .LN_RES1 => 0xC0024
  | .LN_RES2 => 0xC0028
  | .LN_RES3 => 0xC002C
  | .LN_KBASE => 0xC0030
  | .LN_SUSP w => 0xC0040 + w.val * 0x4
  | .LN_CALCTL => 0xC0400
  | .LN_CALSTAT => 0xC0404
  | .LN_CALSEQ => 0xC0408
  | .CS_CTL => 0xC8000
  | .CS_SPARE => 0xC8004
  | .CS_MAP w => 0xC8010 + w.val * 0x4
  | .CS_STAT k => 0xC8040 + k.val * 0x4
  | .CS_SHPROG => 0xC8100
  | .CS_SHCMD => 0xC8104
  | .CS_SHSTAT => 0xC8108
  | .CS_BART => 0xC810C
  | .CS_SHIN => 0xC8110
  | .CS_SHUSR i => 0xC8114 + i.val * 0x4
  | .CS_SG i => 0xC8140 + i.val * 0x4
  | .CS_BARM b w => 0xC8180 + b.val * 0x10 + w.val * 0x4
  | .CH_MODE n => 0x100000 + n.val * 0x400
  | .CH_STATE n => 0x100004 + n.val * 0x400
  | .CH_PROG n => 0x100008 + n.val * 0x400
  | .CH_GANG n => 0x10000C + n.val * 0x400
  | .CH_PWM n => 0x100010 + n.val * 0x400
  | .CH_CMD n => 0x100014 + n.val * 0x400
  | .CH_SOFT n => 0x100018 + n.val * 0x400
  | .CH_SLEW n => 0x10001C + n.val * 0x400
  | .CH_LIM_V n => 0x100020 + n.val * 0x400
  | .CH_LIM_I n => 0x100024 + n.val * 0x400
  | .CH_LIM_T n => 0x100028 + n.val * 0x400
  | .CH_FUSE n => 0x10002C + n.val * 0x400
  | .CT_DELTA n => 0x100030 + n.val * 0x400
  | .CT_EMAX n => 0x100034 + n.val * 0x400
  | .CH_RPATH n => 0x100038 + n.val * 0x400
  | .CH_CHK n => 0x10003C + n.val * 0x400
  | .CH_MEAS n => 0x100040 + n.val * 0x400
  | .CH_SHUNT n => 0x100044 + n.val * 0x400
  | .CH_NTC n => 0x100048 + n.val * 0x400
  | .CH_MSTAT n => 0x10004C + n.val * 0x400
  | .CH_IKP n => 0x100050 + n.val * 0x400
  | .CH_IKI n => 0x100054 + n.val * 0x400
  | .CH_VKP n => 0x100058 + n.val * 0x400
  | .CH_VKI n => 0x10005C + n.val * 0x400
  | .CH_LCFG n => 0x100060 + n.val * 0x400
  | .CH_OSW n => 0x100064 + n.val * 0x400
  | .CH_V n => 0x100080 + n.val * 0x400
  | .CH_I n => 0x100084 + n.val * 0x400
  | .CH_P n => 0x100088 + n.val * 0x400
  | .CH_AH n => 0x100090 + n.val * 0x400
  | .CH_AHH n => 0x100094 + n.val * 0x400
  | .CH_WH n => 0x100098 + n.val * 0x400
  | .CH_WHH n => 0x10009C + n.val * 0x400
  | .CH_T n => 0x1000A0 + n.val * 0x400
  | .CH_VFD n => 0x1000A4 + n.val * 0x400
  | .CH_REF n => 0x1000A8 + n.val * 0x400
  | .CH_DUTY n => 0x1000AC + n.val * 0x400
  | .CH_PSTAT n => 0x1000B0 + n.val * 0x400
  | .CH_PSEQ n => 0x1000B4 + n.val * 0x400
  | .CH_PCNT n => 0x1000B8 + n.val * 0x400
  | .CH_TREC n i => 0x1000C0 + n.val * 0x400 + i.val * 0x4
  | .CH_FAULT n => 0x100100 + n.val * 0x400
  | .CH_FUSEST n => 0x100104 + n.val * 0x400
  | .CH_CTLAST n => 0x100108 + n.val * 0x400
  | .CH_CTCNT n => 0x10010C + n.val * 0x400
  | .CH_CTWEAR n => 0x100110 + n.val * 0x400
  | .CH_CTCLAMP n => 0x100114 + n.val * 0x400
  | .CH_STG n => 0x100118 + n.val * 0x400
  | .CH_DCIR n => 0x100200 + n.val * 0x400
  | .CH_DCDV n => 0x100204 + n.val * 0x400
  | .CH_DCDI n => 0x100208 + n.val * 0x400
  | .CH_DCCFG n => 0x10020C + n.val * 0x400
  | .CH_DCST n => 0x100210 + n.val * 0x400
  | .CH_EIS_F n => 0x100220 + n.val * 0x400
  | .CH_EIS_RE n => 0x100224 + n.val * 0x400
  | .CH_EIS_IM n => 0x100228 + n.val * 0x400
  | .CH_EIS_IA n => 0x10022C + n.val * 0x400
  | .CH_EIS_Q n => 0x100230 + n.val * 0x400
  | .CH_DVDT n => 0x100238 + n.val * 0x400
  | .CH_OCVCTL n => 0x100240 + n.val * 0x400
  | .CH_OCVSLOPE n => 0x100244 + n.val * 0x400
  | .CH_OCVSE n => 0x100248 + n.val * 0x400
  | .CH_OCVN n => 0x10024C + n.val * 0x400
  | .CH_OCVDUR n => 0x100250 + n.val * 0x400
  | .CH_OCVST n => 0x100254 + n.val * 0x400
  | .CH_OCVV0 n => 0x100258 + n.val * 0x400
  | .CH_G n i => 0x100300 + n.val * 0x400 + i.val * 0x4

/-- Field types of R5. -/
inductive FTy where
  | rw | ro | w1c | wo | rws | rwl
  deriving DecidableEq, Repr

/-- Which encodings of one field its table leaves open; every other one is reserved (R6). Reserved encodings that
are a relation between fields are in `reservedRelations`. -/
inductive Chk where
  | any
  | range (a b : Nat)
  | srange (len b : Nat)
  | max (b : Nat)
  | min (a : Nat)
  | nonzero
  deriving DecidableEq, Repr

/-- Is the encoding `v` one the field table allows (R6)? -/
def Chk.ok (c : Chk) (v : Nat) : Bool :=
  match c with
  | .any => true
  | .range a b => decide (a ≤ v ∧ v ≤ b)
  | .srange len b => decide (v ≤ b ∨ 2 ^ len - b ≤ v)
  | .max b => decide (v ≤ b)
  | .min a => decide (a ≤ v)
  | .nonzero => decide (v ≠ 0)

/-- One row of a field table: lowest bit, length, type, reset value, allowed encodings. -/
structure FieldSpec where
  lo : Nat
  len : Nat
  ty : FTy
  rst : Nat
  chk : Chk
  deriving DecidableEq, Repr

/-- AX_VNOM reset, R285's table. -/
def axVnomRst (j : Nat) : Nat := if j = 0 then 12000 else if j = 1 then 5000 else if j = 2 then 3300 else 0
/-- HL_SCFG.PRIO reset (HL_SCFG's table). -/
def scfgPrioRst (s : Nat) : Nat :=
  if s = 0 then 0 else if s = 1 then 2 else if s = 2 then 3 else if s = 3 then 1 else 4
/-- CK_GATE.RUN is fixed in the blocks the table after R323 marks RO. -/
def gateRunTy (b : Nat) : FTy := if b < 4 ∨ b = 12 ∨ b = 14 then .ro else .rw
/-- CK_GATE.SLEEP reset, the table after R323. -/
def gateSleepRst (b : Nat) : Nat :=
  if b = 1 ∨ b = 5 ∨ (7 ≤ b ∧ b ≤ 12) ∨ b = 14 then 1 else 0
/-- CK_GATE.DEEP type, the table after R323. -/
def gateDeepTy (b : Nat) : FTy := if b ≤ 4 ∨ 12 ≤ b then .ro else .rw
/-- CK_GATE.DEEP reset, the table after R323. -/
def gateDeepRst (b : Nat) : Nat := if b = 5 ∨ b = 7 ∨ b = 9 ∨ b = 14 then 1 else 0
/-- SQ_RCFG.EN: entries 0–4 and 21–23 have fixed pins (the table of R294); 31 is no pin (R303). -/
def rcfgEnRst (e : Nat) : Nat := if e < 5 then e else if 21 ≤ e then e - 5 else 31
/-- SQ_RDEP.DEP of the own supplies (R288), and the shelf entries' reset value (R303). -/
def rdepRst (e : Nat) : Nat :=
  if e = 0 then 0 else if e = 1 then 1 else if e = 2 then 3 else if e = 3 then 7 else if e = 4 then 15 else 0x1F
/-- SQ_RNOM.NOM of the own supplies in mV (R288), and the shelf entries' reset value (R303). -/
def rnomRst (e : Nat) : Nat :=
  if e = 0 then 3300 else if e = 1 then 1800 else if e = 2 then 800 else if e = 3 then 900
  else if e = 4 then 7000 else 1200

/-- The fields of a register; bits in no field are reserved, read 0 and ignore writes (R6). -/
def Reg.fields : Reg → List FieldSpec
  | .GL_ID => [⟨24, 8, .ro, 161, .any⟩, ⟨8, 16, .ro, 37160, .any⟩, ⟨0, 8, .ro, 176, .any⟩]
  | .GL_STATE => [⟨0, 3, .ro, 0, .any⟩, ⟨4, 2, .ro, 0, .any⟩, ⟨6, 1, .ro, 0, .any⟩, ⟨7, 1, .ro, 0, .any⟩, ⟨8, 8, .ro, 128, .any⟩]
  | .GL_SAFE => [⟨0, 1, .wo, 0, .any⟩, ⟨1, 1, .wo, 0, .any⟩, ⟨8, 1, .ro, 0, .any⟩, ⟨9, 1, .ro, 0, .any⟩, ⟨16, 8, .ro, 0, .any⟩, ⟨24, 8, .ro, 0, .any⟩]
  | .GL_LOCK => [⟨0, 16, .wo, 0, .any⟩, ⟨16, 1, .ro, 0, .any⟩, ⟨24, 8, .ro, 0, .any⟩]
  | .GL_MODE => [⟨0, 2, .rw, 0, .any⟩, ⟨2, 1, .rw, 1, .any⟩, ⟨4, 12, .rw, 60, .range 1 3600⟩, ⟨16, 2, .ro, 0, .any⟩, ⟨18, 1, .ro, 0, .any⟩, ⟨20, 4, .ro, 0, .any⟩]
  | .GL_AGSTAT => [⟨0, 12, .ro, 0, .any⟩, ⟨12, 1, .ro, 0, .any⟩, ⟨16, 16, .ro, 0, .any⟩]
  | .GL_SUPV => [⟨0, 16, .wo, 0, .any⟩, ⟨16, 3, .ro, 0, .any⟩, ⟨20, 8, .ro, 0, .any⟩, ⟨28, 4, .ro, 0, .any⟩]
  | .GL_CARD => [⟨0, 16, .ro, 0, .any⟩, ⟨16, 8, .rw, 50, .nonzero⟩]
  | .GL_BUSLIM => [⟨0, 16, .rwl, 300, .any⟩, ⟨16, 16, .rwl, 700, .max 780⟩]
  | .CK_SRC => [⟨0, 1, .rwl, 1, .any⟩, ⟨1, 2, .rw, 1, .max 2⟩]
  | .CK_SRCSTAT => [⟨0, 1, .ro, 0, .any⟩, ⟨1, 1, .ro, 0, .any⟩, ⟨2, 1, .ro, 0, .any⟩, ⟨3, 1, .w1c, 0, .any⟩, ⟨4, 1, .w1c, 0, .any⟩, ⟨5, 1, .w1c, 0, .any⟩, ⟨6, 1, .ro, 0, .any⟩]
  | .CK_PLLSTAT => [⟨0, 1, .ro, 0, .any⟩, ⟨1, 1, .w1c, 0, .any⟩, ⟨2, 1, .ro, 0, .any⟩, ⟨4, 1, .ro, 0, .any⟩, ⟨5, 1, .w1c, 0, .any⟩, ⟨6, 1, .ro, 0, .any⟩, ⟨8, 1, .ro, 0, .any⟩, ⟨9, 1, .w1c, 0, .any⟩, ⟨10, 1, .ro, 0, .any⟩, ⟨12, 1, .ro, 0, .any⟩, ⟨13, 1, .w1c, 0, .any⟩, ⟨14, 1, .ro, 0, .any⟩, ⟨16, 2, .ro, 0, .any⟩]
  | .CK_TRIM => [⟨0, 10, .ro, 512, .any⟩, ⟨16, 16, .ro, 0, .any⟩]
  | .CK_TIME => [⟨0, 32, .ro, 0, .any⟩]
  | .CK_TIMEH => [⟨0, 32, .ro, 0, .any⟩]
  | .CK_TSET => [⟨0, 32, .wo, 0, .any⟩]
  | .CK_PPS => [⟨0, 1, .rw, 1, .any⟩, ⟨8, 8, .rw, 10, .nonzero⟩, ⟨16, 8, .rw, 100, .range 1 200⟩, ⟨24, 8, .rw, 10, .nonzero⟩]
  | .CK_PPSSTAT => [⟨0, 3, .ro, 0, .any⟩, ⟨3, 1, .w1c, 0, .any⟩, ⟨4, 1, .w1c, 0, .any⟩, ⟨5, 1, .w1c, 0, .any⟩, ⟨6, 1, .ro, 0, .any⟩, ⟨8, 8, .ro, 0, .any⟩, ⟨16, 16, .ro, 0, .any⟩]
  | .CK_OFFSET => [⟨0, 32, .ro, 0, .any⟩]
  | .CK_HOLD => [⟨0, 8, .rw, 24, .nonzero⟩]
  | .CK_RATE => [⟨0, 32, .ro, 0, .any⟩]
  | .CK_COMPAT => [⟨0, 1, .rwl, 0, .any⟩, ⟨1, 7, .rwl, 96, .any⟩, ⟨8, 8, .rw, 5, .nonzero⟩]
  | .CK_CSTEP => [⟨0, 2, .rw, 1, .max 2⟩, ⟨2, 2, .ro, 0, .any⟩]
  | .CK_CVOLT => [⟨0, 10, .rwl, 800, .range 650 880⟩, ⟨10, 10, .rwl, 750, .range 650 880⟩, ⟨20, 10, .rwl, 700, .range 650 880⟩]
  | .CK_GATE b => [⟨0, 1, gateRunTy b.val, 1, .any⟩, ⟨1, 1, (if b.val = 14 then .ro else .rw), (gateSleepRst b.val), .any⟩, ⟨2, 1, (gateDeepTy b.val), (gateDeepRst b.val), .any⟩]
  | .CK_PWM => [⟨0, 14, .rwl, 3200, .range 1000 8000⟩]
  | .CK_SYNC => [⟨0, 1, .rw, 0, .any⟩, ⟨1, 1, .rw, 0, .any⟩, ⟨8, 8, .rw, 0, .any⟩]
  | .CK_SYNCST => [⟨0, 1, .ro, 0, .any⟩, ⟨1, 1, .ro, 0, .any⟩, ⟨2, 1, .w1c, 0, .any⟩, ⟨3, 1, .w1c, 0, .any⟩, ⟨16, 16, .ro, 3200, .any⟩]
  | .EV_CTL => [⟨0, 2, .rw, 2, .any⟩]
  | .EV_STAT => [⟨0, 7, .ro, 0, .any⟩, ⟨7, 1, .w1c, 0, .any⟩, ⟨8, 1, .w1c, 0, .any⟩, ⟨9, 7, .ro, 0, .any⟩, ⟨16, 16, .ro, 0, .any⟩]
  | .EV_PEND _ => [⟨0, 32, .w1c, 0, .any⟩]
  | .EV_MASK _ => [⟨0, 32, .rw, 0, .any⟩]
  | .EV_CFG _ => [⟨0, 3, .rw, 2, .max 4⟩, ⟨4, 3, .rw, 0, .max 4⟩, ⟨8, 3, .rw, 3, .max 4⟩, ⟨12, 3, .rw, 1, .max 4⟩, ⟨16, 16, .ro, 0, .any⟩]
  | .SQ_CTL => [⟨0, 1, .rwl, 0, .any⟩, ⟨8, 8, .rwl, 50, .nonzero⟩]
  | .SQ_CMD => [⟨0, 1, .wo, 0, .any⟩, ⟨1, 1, .wo, 0, .any⟩, ⟨2, 1, .wo, 0, .any⟩, ⟨16, 16, .wo, 0, .any⟩]
  | .SQ_STAT => [⟨0, 2, .ro, 0, .any⟩, ⟨2, 1, .ro, 0, .any⟩, ⟨3, 1, .ro, 0, .any⟩, ⟨8, 24, .ro, 0, .any⟩]
  | .SQ_BOOT => [⟨0, 2, .ro, 0, .any⟩, ⟨2, 1, .ro, 0, .any⟩, ⟨3, 1, .ro, 0, .any⟩, ⟨4, 3, .ro, 0, .any⟩, ⟨8, 5, .ro, 31, .any⟩, ⟨13, 3, .ro, 0, .any⟩]
  | .SQ_WDI => [⟨0, 16, .rwl, 0, .any⟩, ⟨16, 2, .rwl, 0, .max 2⟩, ⟨18, 1, .ro, 0, .any⟩, ⟨19, 1, .w1c, 0, .any⟩]
  | .SQ_ROFF => [⟨5, 19, .rw, 0, .any⟩]
  | .SQ_RCFG e => [⟨0, 5, (if e.val < 5 ∨ 21 ≤ e.val then .ro else .rwl), (rcfgEnRst e.val), .any⟩, ⟨5, 1, (if e.val < 5 then .ro else .rwl), (if e.val < 5 then 1 else 0), .any⟩, ⟨6, 1, (if e.val < 5 then .ro else .rwl), 0, .any⟩, ⟨7, 1, (if e.val < 5 ∨ 21 ≤ e.val then .ro else .rwl), 0, .any⟩, ⟨8, 3, (if e.val < 5 then .ro else .rwl), (if e.val < 5 then 0 else 1), .any⟩, ⟨11, 2, (if e.val < 5 then .ro else .rwl), (if e.val < 4 then 3 else if e.val = 4 then 2 else 0), .any⟩, ⟨13, 3, (if e.val < 5 then .ro else .rwl), 0, .any⟩]
  | .SQ_RDEP e => [⟨0, 24, (if e.val < 5 then .ro else .rwl), (rdepRst e.val), .any⟩]
  | .SQ_RNOM e => [⟨0, 16, (if e.val < 5 then .ro else .rwl), (rnomRst e.val), (if 5 ≤ e.val ∧ e.val < 21 then .range 100 2400 else .any)⟩, ⟨16, 8, (if e.val < 5 then .ro else .rwl), 15, .any⟩, ⟨24, 8, (if e.val < 5 then .ro else .rwl), 15, .any⟩]
  | .SQ_RTIM e => [⟨0, 8, (if e.val < 5 then .ro else .rwl), (if e.val < 5 then 1 else 0), .any⟩, ⟨8, 8, (if e.val < 5 then .ro else .rwl), (if e.val < 5 then 10 else 20), .nonzero⟩, ⟨16, 8, (if e.val < 5 then .ro else .rwl), 1, .any⟩, ⟨24, 8, (if e.val < 5 then .ro else .rwl), 10, .any⟩]
  | .SQ_RSTAT _ => [⟨0, 3, .ro, 0, .any⟩, ⟨3, 1, .ro, 0, .any⟩, ⟨4, 3, .ro, 0, .any⟩, ⟨8, 8, .ro, 0, .any⟩, ⟨16, 16, .ro, 0, .any⟩]
  | .SQ_RFLT _ => [⟨0, 1, .w1c, 0, .any⟩, ⟨1, 1, .w1c, 0, .any⟩, ⟨2, 1, .w1c, 0, .any⟩, ⟨3, 1, .w1c, 0, .any⟩, ⟨4, 1, .w1c, 0, .any⟩, ⟨5, 1, .w1c, 0, .any⟩]
  | .FD_SEL => [⟨0, 2, .rwl, 0, .any⟩, ⟨2, 1, .rw, 1, .any⟩, ⟨3, 1, .rw, 0, .any⟩, ⟨8, 2, .ro, 0, .any⟩]
  | .FD_QUAL => [⟨0, 16, .rw, 100, .nonzero⟩]
  | .FD_CMAX => [⟨0, 16, .rwl, 1400, .nonzero⟩]
  | .FD_CBUS => [⟨0, 16, .ro, 0, .any⟩, ⟨16, 1, .ro, 0, .any⟩, ⟨17, 1, .ro, 0, .any⟩, ⟨18, 3, .ro, 0, .any⟩, ⟨21, 1, .ro, 0, .any⟩]
  | .FD_BUSV => [⟨0, 32, .ro, 0, .any⟩]
  | .FD_CNT => [⟨0, 16, .ro, 0, .any⟩]
  | .FD_FCFG _ => [⟨0, 8, .rwl, 80, .any⟩, ⟨8, 8, .rwl, 120, .any⟩, ⟨16, 8, .rwl, 25, .nonzero⟩, ⟨24, 1, .rwl, 1, .any⟩]
  | .FD_ILIM _ => [⟨0, 12, .rwl, 1100, .nonzero⟩, ⟨12, 12, .rwl, 1200, .nonzero⟩, ⟨24, 8, .rwl, 12, .nonzero⟩]
  | .FD_RSH _ => [⟨0, 32, .rwl, 50000, .range 10000 1000000⟩]
  | .FD_FSTAT _ => [⟨0, 3, .ro, 0, .any⟩, ⟨3, 1, .ro, 0, .any⟩, ⟨4, 1, .ro, 0, .any⟩, ⟨8, 4, .ro, 0, .any⟩, ⟨16, 8, .ro, 0, .any⟩, ⟨24, 8, .ro, 0, .any⟩]
  | .FD_FLT _ => [⟨0, 1, .w1c, 0, .any⟩, ⟨1, 1, .w1c, 0, .any⟩, ⟨2, 1, .w1c, 0, .any⟩, ⟨3, 1, .w1c, 0, .any⟩, ⟨4, 1, .w1c, 0, .any⟩, ⟨5, 1, .w1c, 0, .any⟩, ⟨16, 16, .ro, 0, .any⟩]
  | .FD_V _ => [⟨0, 32, .ro, 0, .any⟩]
  | .FD_I _ => [⟨0, 32, .ro, 0, .any⟩]
  | .FD_P _ => [⟨0, 32, .ro, 0, .any⟩]
  | .FD_EIN _ => [⟨0, 32, .ro, 0, .any⟩]
  | .FD_EINH _ => [⟨0, 32, .ro, 0, .any⟩]
  | .FD_EOUT _ => [⟨0, 32, .ro, 0, .any⟩]
  | .FD_EOUTH _ => [⟨0, 32, .ro, 0, .any⟩]
  | .HU_CTL => [⟨0, 1, .rwl, 1, .any⟩, ⟨1, 1, .rw, 1, .any⟩, ⟨2, 1, .wo, 0, .any⟩, ⟨3, 1, .rw, 0, .any⟩]
  | .HU_STAT => [⟨0, 3, .ro, 0, .any⟩, ⟨3, 1, .ro, 0, .any⟩, ⟨4, 3, .ro, 0, .any⟩, ⟨7, 1, .ro, 0, .any⟩, ⟨8, 1, .ro, 0, .any⟩, ⟨9, 1, .ro, 0, .any⟩]
  | .HU_FLT => [⟨0, 1, .w1c, 0, .any⟩, ⟨1, 1, .w1c, 0, .any⟩, ⟨2, 1, .w1c, 0, .any⟩, ⟨3, 1, .ro, 0, .any⟩, ⟨4, 1, .w1c, 0, .any⟩, ⟨5, 1, .w1c, 0, .any⟩, ⟨6, 1, .w1c, 0, .any⟩, ⟨7, 1, .w1c, 0, .any⟩, ⟨8, 1, .w1c, 0, .any⟩]
  | .HU_INTM => [⟨0, 1, .rw, 1, .any⟩, ⟨1, 1, .rw, 1, .any⟩, ⟨2, 1, .rw, 1, .any⟩, ⟨3, 1, .rw, 1, .any⟩, ⟨4, 1, .rw, 1, .any⟩, ⟨5, 1, .rw, 1, .any⟩, ⟨6, 1, .rw, 1, .any⟩, ⟨7, 1, .rw, 1, .any⟩, ⟨8, 1, .rw, 1, .any⟩]
  | .HU_STRAP => [⟨0, 4, .ro, 0, .any⟩, ⟨4, 4, .ro, 0, .any⟩, ⟨8, 5, .ro, 0, .any⟩, ⟨16, 16, .ro, 0, .any⟩]
  | .HU_CHG => [⟨0, 16, .rw, 2000, .nonzero⟩, ⟨16, 16, .rw, 100, .any⟩]
  | .HU_VREG => [⟨0, 16, .rw, 65535, .any⟩, ⟨16, 8, .rw, 10, .any⟩, ⟨24, 8, .rw, 5, .any⟩]
  | .HU_ACC => [⟨0, 12, .rw, 4000, .any⟩, ⟨12, 8, .rw, 88, .any⟩, ⟨20, 12, .rw, 400, .any⟩]
  | .HU_TEMP => [⟨0, 8, .rw, 45, .any⟩, ⟨8, 8, .rw, 55, .any⟩, ⟨16, 8, .rw, 0, .any⟩, ⟨24, 8, .rw, 30, .any⟩]
  | .HU_DLIM => [⟨0, 16, .rwl, 3000, .any⟩, ⟨16, 8, .rwl, 10, .any⟩, ⟨24, 8, .rwl, 10, .any⟩]
  | .HU_RIDE => [⟨0, 16, .rwl, 2500, .any⟩, ⟨16, 8, .rwl, 30, .nonzero⟩, ⟨24, 8, .rwl, 70, .any⟩]
  | .HU_RSH => [⟨0, 32, .rwl, 500000, .range 10000 10000000⟩]
  | .HU_PRECFG => [⟨0, 8, .rw, 60, .any⟩]
  | .HU_TIMER => [⟨0, 16, .rw, 300, .any⟩, ⟨16, 16, .ro, 0, .any⟩]
  | .HU_WDT => [⟨0, 16, .wo, 0, .any⟩, ⟨16, 1, .ro, 1, .any⟩, ⟨17, 1, .ro, 0, .any⟩, ⟨24, 8, .ro, 30, .any⟩]
  | .HU_V => [⟨0, 32, .ro, 0, .any⟩]
  | .HU_I => [⟨0, 32, .ro, 0, .any⟩]
  | .HU_T => [⟨0, 32, .ro, 2147483647, .any⟩]
  | .HU_GG_SOC => [⟨0, 8, .ro, 0, .any⟩, ⟨8, 8, .ro, 0, .any⟩, ⟨16, 8, .ro, 0, .any⟩, ⟨24, 1, .ro, 1, .any⟩, ⟨25, 1, .ro, 0, .any⟩, ⟨26, 1, .ro, 0, .any⟩]
  | .HU_GG_CAP => [⟨0, 24, .ro, 0, .any⟩]
  | .HU_GG_RPACK => [⟨0, 16, .rw, 200, .any⟩]
  | .HU_GG_STATE _ => [⟨0, 32, .ro, 0, .any⟩]
  | .HU_GG_RESTORE _ => [⟨0, 32, .wo, 0, .any⟩]
  | .HU_OCV _ => [⟨0, 16, .rw, 0, .any⟩, ⟨16, 16, .rw, 0, .any⟩]
  | .LG_CTL => [⟨0, 1, .rwl, 0, .any⟩, ⟨1, 1, .rw, 1, .any⟩, ⟨8, 8, .rw, 16, .nonzero⟩, ⟨16, 8, .rw, 10, .any⟩]
  | .LG_CAP_W => [⟨0, 24, .rw, 20000, .max 100000⟩]
  | .LG_REGEN_W => [⟨0, 24, .rw, 0, .max 100000⟩]
  | .LG_CAP_RM => [⟨0, 24, .ro, 0, .any⟩, ⟨24, 1, .ro, 0, .any⟩]
  | .LG_CAPEFF => [⟨0, 24, .ro, 0, .any⟩, ⟨24, 3, .ro, 0, .any⟩]
  | .LG_CLASS_FLOOR => [⟨0, 8, .rw, 192, .any⟩, ⟨8, 8, .rw, 128, .any⟩, ⟨16, 8, .rw, 64, .any⟩, ⟨24, 8, .rw, 0, .any⟩]
  | .LG_SCALE _ => [⟨0, 16, .ro, 65535, .any⟩, ⟨16, 16, .ro, 65535, .any⟩]
  | .LG_HU => [⟨0, 16, .ro, 65535, .any⟩, ⟨16, 16, .ro, 0, .any⟩]
  | .LG_NET_W => [⟨0, 32, .ro, 0, .any⟩]
  | .LG_PRED_W => [⟨0, 32, .ro, 0, .any⟩]
  | .LG_STAT => [⟨0, 1, .ro, 0, .any⟩, ⟨1, 1, .ro, 0, .any⟩, ⟨2, 1, .ro, 0, .any⟩, ⟨3, 1, .ro, 0, .any⟩, ⟨4, 1, .ro, 0, .any⟩, ⟨16, 16, .ro, 0, .any⟩]
  | .LG_DEGRADE_PCT => [⟨0, 8, .rw, 20, .range 1 99⟩]
  | .LG_DEGRADE_S => [⟨0, 16, .rw, 60, .nonzero⟩]
  | .LG_BASE_W => [⟨0, 16, .rw, 40, .any⟩]
  | .LG_AXEFF => [⟨0, 8, .rw, 230, .nonzero⟩, ⟨8, 8, .rw, 230, .nonzero⟩, ⟨16, 8, .rw, 230, .nonzero⟩, ⟨24, 8, .rw, 230, .nonzero⟩]
  | .LG_FEEDERR => [⟨0, 16, .ro, 0, .any⟩, ⟨16, 16, .rw, 500, .any⟩]
  | .LG_RPT => [⟨0, 32, .ro, 0, .any⟩]
  | .LG_EFF _ _ => [⟨0, 16, .rw, 62259, .nonzero⟩, ⟨16, 16, .rw, 62259, .nonzero⟩]
  | .AX_CTL j => [⟨0, 1, (if j.val = 3 then .ro else .rw), 0, .any⟩]
  | .AX_CFG j => [⟨0, 1, .rwl, 1, .any⟩, ⟨1, 1, .rw, 1, .any⟩, ⟨2, 1, .rw, (if j.val < 2 then 0 else 1), .any⟩, ⟨8, 8, .rw, 5, .nonzero⟩, ⟨16, 8, .rw, 10, .any⟩, ⟨24, 8, .rw, 20, .nonzero⟩]
  | .AX_VNOM j => [⟨0, 16, .rwl, (axVnomRst j.val), .any⟩]
  | .AX_MARG _ => [⟨0, 8, .rw, 0, .srange 8 100⟩]
  | .AX_ILIM _ => [⟨0, 16, .rwl, 2000, .nonzero⟩, ⟨16, 8, .rwl, 50, .any⟩]
  | .AX_GAIN _ => [⟨0, 16, .rw, 2000, .any⟩, ⟨16, 16, .rw, 500, .any⟩]
  | .AX_PWM _ => [⟨0, 8, .rw, 20, .any⟩, ⟨8, 8, .rw, 40, .any⟩, ⟨16, 8, .rw, 128, .any⟩]
  | .AX_STAT _ => [⟨0, 3, .ro, 0, .any⟩, ⟨3, 1, .ro, 0, .any⟩, ⟨4, 1, .ro, 0, .any⟩, ⟨5, 1, .ro, 0, .any⟩, ⟨6, 1, .ro, 0, .any⟩, ⟨7, 3, .ro, 0, .any⟩, ⟨16, 16, .ro, 0, .any⟩]
  | .AX_FLT _ => [⟨0, 1, .w1c, 0, .any⟩, ⟨1, 1, .w1c, 0, .any⟩, ⟨2, 1, .w1c, 0, .any⟩, ⟨3, 1, .w1c, 0, .any⟩, ⟨4, 1, .w1c, 0, .any⟩]
  | .AX_V _ => [⟨0, 32, .ro, 0, .any⟩]
  | .AX_I _ => [⟨0, 32, .ro, 0, .any⟩]
  | .AX_P _ => [⟨0, 32, .ro, 0, .any⟩]
  | .AL_CTL _ => [⟨0, 1, .rw, 0, .any⟩, ⟨1, 1, .rw, 0, .any⟩, ⟨2, 1, .wo, 0, .any⟩, ⟨3, 1, .wo, 0, .any⟩, ⟨4, 1, .rw, 0, .any⟩, ⟨5, 1, .rw, 1, .any⟩]
  | .AL_CFG _ => [⟨0, 16, .rw, 100, .range 1 10000⟩, ⟨16, 16, .rw, 2500, .range 10 10000⟩]
  | .AL_INGAIN _ => [⟨0, 32, .rw, 65536, .any⟩]
  | .AL_INOFF _ => [⟨0, 32, .rw, 0, .any⟩]
  | .AL_SP _ => [⟨0, 32, .rw, 0, .any⟩]
  | .AL_SPSRC _ => [⟨0, 2, .rw, 0, .any⟩, ⟨2, 2, .rw, 0, .any⟩, ⟨16, 16, .rw, 0, .any⟩]
  | .AL_SPGAIN _ => [⟨0, 32, .rw, 65536, .any⟩]
  | .AL_SPOFF _ => [⟨0, 32, .rw, 0, .any⟩]
  | .AL_KP _ => [⟨0, 32, .rw, 0, .any⟩]
  | .AL_TI _ => [⟨0, 16, .rw, 0, .any⟩, ⟨16, 16, .rw, 0, .any⟩]
  | .AL_OUT _ => [⟨0, 16, .rw, 0, .any⟩, ⟨16, 16, .rw, 65535, .any⟩]
  | .AL_MAN _ => [⟨0, 16, .rw, 0, .any⟩, ⟨16, 16, .rw, 0, .any⟩]
  | .AL_AT _ => [⟨0, 16, .rw, 6554, .any⟩, ⟨16, 2, .rw, 0, .max 2⟩, ⟨18, 14, .rw, 360, .any⟩]
  | .AL_ATHYS _ => [⟨0, 16, .rw, 10, .any⟩]
  | .AL_STAT _ => [⟨0, 3, .ro, 0, .any⟩, ⟨3, 1, .ro, 0, .any⟩, ⟨4, 1, .ro, 0, .any⟩, ⟨5, 1, .w1c, 0, .any⟩, ⟨6, 1, .w1c, 0, .any⟩, ⟨8, 8, .ro, 0, .any⟩, ⟨16, 16, .ro, 0, .any⟩]
  | .AL_PV _ => [⟨0, 32, .ro, 0, .any⟩]
  | .TW_CFG p => [⟨0, 2, .rwl, 0, .max 2⟩, ⟨2, 1, .rwl, 1, .any⟩, ⟨4, 2, (if p.val = 0 then .ro else .rw), (if p.val = 0 then 0 else 1), .max 2⟩, ⟨8, 8, .rwl, 30, .range 25 35⟩]
  | .TW_TIM _ => [⟨0, 8, .rwl, 8, .min 8⟩, ⟨8, 8, .rwl, 110, .nonzero⟩, ⟨16, 8, .rwl, 113, .nonzero⟩]
  | .TW_STAT _ => [⟨0, 1, .ro, 0, .any⟩, ⟨1, 1, .ro, 0, .any⟩, ⟨2, 1, .ro, 0, .any⟩, ⟨8, 8, .ro, 0, .any⟩, ⟨16, 8, .ro, 0, .any⟩, ⟨24, 8, .ro, 0, .any⟩]
  | .TW0_POLL => [⟨0, 16, .rw, 100, .any⟩]
  | .TW0_PKMASK => [⟨0, 16, .rw, 57396, .any⟩]
  | .TW0_DEV _ => [⟨0, 7, .rw, 0, .any⟩, ⟨7, 1, .rw, 0, .any⟩, ⟨8, 1, .rw, 0, .any⟩, ⟨9, 1, .wo, 0, .any⟩, ⟨16, 2, .ro, 0, .any⟩, ⟨18, 6, .ro, 0, .any⟩]
  | .TW0_RD0 _ => [⟨0, 16, .ro, 0, .any⟩, ⟨16, 16, .ro, 0, .any⟩]
  | .TW0_RD1 _ => [⟨0, 24, .ro, 0, .any⟩]
  | .TW1_ADDR => [⟨0, 7, .ro, 0, .any⟩, ⟨8, 4, .ro, 0, .any⟩, ⟨12, 1, .ro, 0, .any⟩, ⟨16, 7, .rw, 8, .any⟩, ⟨24, 1, .rwl, 0, .any⟩, ⟨25, 1, .rw, 1, .any⟩]
  | .TW1_PTR => [⟨0, 32, .ro, 0, .any⟩]
  | .TW1_NTFY => [⟨0, 8, .ro, 0, .any⟩, ⟨8, 8, .ro, 0, .any⟩]
  | .HL_CFG => [⟨0, 16, .rwl, 47128, .nonzero⟩, ⟨16, 1, .rwl, 1, .any⟩, ⟨17, 1, .rwl, 0, .any⟩, ⟨18, 1, .rw, 1, .any⟩, ⟨24, 8, .rw, 10, .nonzero⟩]
  | .HL_STAT => [⟨0, 16, .ro, 0, .any⟩, ⟨16, 8, .ro, 0, .any⟩, ⟨24, 4, .ro, 0, .any⟩, ⟨28, 1, .ro, 0, .any⟩]
  | .HL_KEYSTAT => [⟨0, 1, .ro, 0, .any⟩, ⟨1, 1, .ro, 0, .any⟩, ⟨2, 1, .rwl, 0, .any⟩, ⟨3, 1, .ro, 0, .any⟩, ⟨8, 8, .ro, 0, .any⟩]
  | .HL_RATE => [⟨0, 2, .ro, 0, .any⟩, ⟨2, 1, .w1c, 0, .any⟩]
  | .HL_BULK => [⟨0, 8, .rw, 100, .nonzero⟩, ⟨8, 3, .ro, 0, .any⟩, ⟨11, 1, .ro, 0, .any⟩, ⟨16, 16, .ro, 0, .any⟩]
  | .HL_SPI => [⟨0, 16, .ro, 0, .any⟩, ⟨16, 1, .w1c, 0, .any⟩]
  | .HL_SESS _ => [⟨0, 1, .ro, 0, .any⟩, ⟨1, 1, .ro, 0, .any⟩, ⟨2, 1, .ro, 0, .any⟩, ⟨3, 1, .ro, 0, .any⟩, ⟨4, 1, .ro, 0, .any⟩, ⟨8, 8, .ro, 0, .any⟩, ⟨16, 16, .ro, 0, .any⟩]
  | .HL_PCFG _ => [⟨0, 1, .rwl, 1, .any⟩, ⟨1, 2, .rwl, 0, .max 2⟩, ⟨3, 1, .rwl, 1, .any⟩, ⟨4, 1, .rwl, 0, .any⟩]
  | .HL_PSTAT _ => [⟨0, 1, .ro, 0, .any⟩, ⟨1, 2, .ro, 0, .any⟩, ⟨16, 16, .ro, 0, .any⟩]
  | .HL_MACL p => [⟨0, 32, .ro, (Config.macLow p.val), .any⟩]
  | .HL_MACH p => [⟨0, 16, .ro, (Config.macHigh p.val), .any⟩]
  | .HL_IP4 _ => [⟨0, 32, .rwl, 0, .any⟩]
  | .HL_GW4 _ => [⟨0, 32, .rwl, 0, .any⟩]
  | .HL_PLEN _ => [⟨0, 6, .rwl, 24, .max 32⟩, ⟨8, 8, .rwl, 64, .max 128⟩]
  | .HL_IP6 _ _ => [⟨0, 32, .rwl, 0, .any⟩]
  | .HL_SCFG s => [⟨0, 1, .rw, (if s.val = 0 then 1 else 0), .any⟩, ⟨1, 2, .rw, 0, .any⟩, ⟨3, 1, .rw, 1, .any⟩, ⟨4, 3, (if s.val = 0 then .ro else .rw), (scfgPrioRst s.val), (if s.val = 0 then .any else .nonzero)⟩, ⟨7, 1, (if s.val = 0 then .rw else .ro), (if s.val = 0 then 1 else 0), .any⟩, ⟨8, 2, .rw, 0, .any⟩, ⟨10, 1, (if s.val = 4 then .rw else .ro), 0, .any⟩, ⟨16, 16, .rw, 65535, .any⟩]
  | .HL_SALLOT _ => [⟨0, 16, .rw, 0, .any⟩]
  | .HL_SSTAT _ => [⟨0, 4, .ro, 0, .any⟩]
  | .HL_SDROP _ => [⟨0, 32, .ro, 0, .any⟩]
  | .HL_DCFG _ => [⟨0, 16, .rw, 47128, .any⟩, ⟨16, 1, .rw, 0, .any⟩]
  | .HL_DADDR _ _ => [⟨0, 32, .rw, 0, .any⟩]
  | .VT_CTL => [⟨0, 1, .rw, 1, .any⟩, ⟨1, 1, .wo, 0, .any⟩]
  | .VT_STAT => [⟨0, 1, .ro, 0, .any⟩, ⟨16, 16, .ro, 0, .any⟩]
  | .VT_HEAD => [⟨0, 32, .ro, 0, .any⟩]
  | .VT_TAIL => [⟨0, 32, .ro, 0, .any⟩]
  | .VT_QUEUE => [⟨0, 11, .ro, 0, .any⟩, ⟨16, 11, .w1c, 0, .any⟩]
  | .VT_CCTL => [⟨0, 1, .rwl, 1, .any⟩, ⟨1, 1, .wo, 0, .any⟩, ⟨2, 1, .rw, 1, .any⟩]
  | .VT_CSTAT => [⟨0, 1, .ro, 0, .any⟩, ⟨1, 1, .ro, 0, .any⟩, ⟨8, 8, .ro, 0, .any⟩, ⟨16, 16, .ro, 0, .any⟩]
  | .VT_CSLOT _ => [⟨0, 1, .ro, 0, .any⟩, ⟨1, 1, .w1c, 0, .any⟩, ⟨2, 1, .ro, 0, .any⟩, ⟨8, 4, .ro, 0, .any⟩, ⟨16, 16, .ro, 0, .any⟩]
  | .VT_CTRIG _ => [⟨0, 32, .rw, 0, .any⟩]
  | .BT_CTL => [⟨0, 1, .rwl, 1, .any⟩, ⟨1, 1, .rwl, 1, .any⟩, ⟨2, 1, .rwl, 1, .any⟩, ⟨3, 1, .rwl, 1, .any⟩, ⟨4, 1, .rwl, 1, .any⟩]
  | .BT_SRAM => [⟨0, 14, .ro, 0, .any⟩, ⟨16, 8, .ro, 0, .any⟩, ⟨24, 8, .ro, 0, .any⟩]
  | .BT_SRAMT => [⟨0, 8, .ro, 0, .any⟩, ⟨8, 8, .ro, 0, .any⟩, ⟨16, 16, .ro, 0, .any⟩]
  | .BT_MRAM => [⟨0, 8, .ro, 0, .any⟩, ⟨8, 8, .ro, 0, .any⟩, ⟨16, 16, .ro, 0, .any⟩]
  | .BT_MRAMT => [⟨0, 16, .ro, 0, .any⟩, ⟨16, 10, .ro, 0, .any⟩]
  | .BT_FAIL0 => [⟨0, 24, .ro, 0, .any⟩, ⟨24, 1, .ro, 0, .any⟩, ⟨25, 1, .ro, 0, .any⟩, ⟨26, 1, .ro, 0, .any⟩, ⟨27, 1, .ro, 0, .any⟩]
  | .BT_FAIL1 => [⟨0, 6, .ro, 0, .any⟩, ⟨8, 8, .ro, 0, .any⟩]
  | .BT_REPAIR => [⟨0, 8, .ro, 64, .any⟩, ⟨8, 8, .ro, 64, .any⟩, ⟨16, 8, .ro, 0, .any⟩]
  | .BT_PWMF _ => [⟨0, 32, .w1c, 0, .any⟩]
  | .BT_REF => [⟨0, 16, .ro, 0, .any⟩, ⟨16, 16, .ro, 0, .any⟩]
  | .BT_REFLIM => [⟨0, 16, .rw, 500, .nonzero⟩, ⟨16, 1, .ro, 0, .any⟩, ⟨17, 1, .ro, 0, .any⟩]
  | .TS_CTL => [⟨0, 8, .rwl, 0, .any⟩]
  | .TS_MAX => [⟨0, 16, .ro, 0, .any⟩, ⟨16, 3, .ro, 0, .any⟩, ⟨19, 1, .ro, 0, .any⟩]
  | .TS_STAT => [⟨0, 1, .ro, 0, .any⟩, ⟨1, 1, .ro, 0, .any⟩, ⟨2, 1, .ro, 0, .any⟩, ⟨8, 8, .ro, 0, .any⟩]
  | .TS_BAND => [⟨0, 3, .ro, 0, .any⟩, ⟨4, 3, .ro, 0, .any⟩, ⟨8, 3, .ro, 0, .any⟩, ⟨12, 3, .ro, 0, .any⟩, ⟨16, 3, .ro, 0, .any⟩, ⟨20, 3, .ro, 0, .any⟩, ⟨24, 3, .ro, 0, .any⟩, ⟨28, 3, .ro, 0, .any⟩]
  | .TS_HK => [⟨0, 16, .ro, 0, .any⟩, ⟨16, 16, .ro, 0, .any⟩]
  | .TS_T _ => [⟨0, 16, .ro, 0, .any⟩, ⟨16, 1, .ro, 0, .any⟩, ⟨17, 1, .ro, 0, .any⟩, ⟨18, 3, .ro, 0, .any⟩]
  | .LN_CFG => [⟨0, 1, .rw, 1, .any⟩, ⟨1, 1, .rw, 1, .any⟩, ⟨2, 1, .rw, 1, .any⟩]
  | .LN_STAT => [⟨0, 3, .ro, 0, .any⟩, ⟨3, 1, .ro, 0, .any⟩, ⟨4, 1, .w1c, 0, .any⟩, ⟨5, 1, .ro, 0, .any⟩, ⟨6, 1, .ro, 0, .any⟩, ⟨16, 16, .ro, 0, .any⟩]
  | .LN_POS => [⟨0, 7, .ro, 0, .any⟩, ⟨8, 7, .rw, 0, .any⟩, ⟨15, 1, .rw, 0, .any⟩, ⟨16, 2, .ro, 0, .any⟩, ⟨18, 3, .ro, 0, .any⟩]
  | .LN_LIMIT => [⟨0, 16, .rw, 2000, .nonzero⟩, ⟨16, 8, .rw, 20, .nonzero⟩, ⟨24, 8, .rw, 20, .nonzero⟩]
  | .LN_ADOPT => [⟨0, 7, .rws, 0, .any⟩, ⟨8, 1, .rws, 0, .any⟩, ⟨9, 1, .ro, 0, .any⟩]
  | .LN_DWELL => [⟨0, 13, .rw, 400, .range 100 6000⟩]
  | .LN_CNT => [⟨0, 16, .ro, 0, .any⟩, ⟨16, 16, .ro, 0, .any⟩]
  | .LN_REFV => [⟨0, 24, .rwl, 4096000, .range 4000000 4200000⟩]
  | .LN_RES0 => [⟨0, 7, .ro, 0, .any⟩, ⟨8, 2, .ro, 0, .any⟩, ⟨10, 3, .ro, 0, .any⟩, ⟨16, 4, .ro, 0, .any⟩, ⟨20, 4, .ro, 0, .any⟩]
  | .LN_RES1 => [⟨0, 32, .ro, 0, .any⟩]
  | .LN_RES2 => [⟨0, 32, .ro, 0, .any⟩]
  | .LN_RES3 => [⟨0, 16, .ro, 0, .any⟩, ⟨16, 16, .ro, 0, .any⟩]
  | .LN_KBASE => [⟨0, 32, .ro, 2147483648, .any⟩]
  | .LN_SUSP _ => [⟨0, 32, .w1c, 0, .any⟩]
  | .LN_CALCTL => [⟨0, 2, .wo, 0, .any⟩]
  | .LN_CALSTAT => [⟨0, 1, .ro, 0, .any⟩, ⟨1, 1, .ro, 0, .any⟩, ⟨16, 14, .ro, 0, .any⟩]
  | .LN_CALSEQ => [⟨0, 16, .ro, 0, .any⟩, ⟨16, 16, .ro, 0, .any⟩]
  | .CS_CTL => [⟨0, 1, .rwl, 1, .any⟩, ⟨1, 1, .wo, 0, .any⟩, ⟨8, 5, .wo, 0, .any⟩, ⟨13, 1, .wo, 0, .any⟩]
  | .CS_SPARE => [⟨0, 5, .ro, 16, .any⟩, ⟨5, 3, .ro, 1, .any⟩, ⟨8, 4, .ro, 0, .any⟩, ⟨12, 1, .ro, 0, .any⟩, ⟨13, 1, .ro, 0, .any⟩, ⟨14, 1, .ro, 0, .any⟩, ⟨16, 8, .ro, 0, .any⟩, ⟨24, 8, .ro, 60, .any⟩]
  | .CS_MAP w => [⟨0, 5, .ro, (4 * w.val + 0), .any⟩, ⟨8, 5, .ro, (4 * w.val + 1), .any⟩, ⟨16, 5, .ro, (4 * w.val + 2), .any⟩, ⟨24, 5, .ro, (4 * w.val + 3), .any⟩]
  | .CS_STAT k => [⟨0, 2, .ro, (if k.val = 16 then 1 else 0), .any⟩, ⟨2, 1, .ro, 0, .any⟩, ⟨3, 1, .ro, 1, .any⟩, ⟨4, 8, .ro, 255, .any⟩, ⟨12, 8, .ro, 0, .any⟩, ⟨20, 4, .ro, 0, .any⟩, ⟨24, 8, .ro, 0, .any⟩]
  | .CS_SHPROG => [⟨0, 16, .rw, 0, .any⟩, ⟨16, 12, .rw, 0, .any⟩, ⟨28, 1, .rw, 0, .any⟩, ⟨29, 1, .ro, 0, .any⟩, ⟨30, 1, .ro, 0, .any⟩]
  | .CS_SHCMD => [⟨0, 1, .wo, 0, .any⟩, ⟨1, 1, .wo, 0, .any⟩]
  | .CS_SHSTAT => [⟨0, 16, .ro, 0, .any⟩, ⟨16, 1, .ro, 0, .any⟩, ⟨17, 1, .ro, 0, .any⟩, ⟨18, 4, .ro, 0, .any⟩, ⟨22, 3, .ro, 0, .any⟩, ⟨25, 3, .ro, 0, .any⟩, ⟨28, 4, .ro, 0, .any⟩]
  | .CS_BART => [⟨0, 16, .rw, 0, .any⟩]
  | .CS_SHIN => [⟨0, 32, .rw, 0, .any⟩]
  | .CS_SHUSR _ => [⟨0, 32, .ro, 0, .any⟩]
  | .CS_SG _ => [⟨0, 32, .rw, 0, .any⟩]
  | .CS_BARM _ _ => [⟨0, 32, .rw, 0, .any⟩]
  | .CH_MODE _ => [⟨0, 4, .ro, 0, .any⟩, ⟨4, 2, .ro, 0, .any⟩, ⟨6, 1, .ro, 0, .any⟩, ⟨7, 1, .ro, 0, .any⟩, ⟨8, 1, .ro, 0, .any⟩, ⟨9, 1, .ro, 0, .any⟩, ⟨10, 1, .ro, 0, .any⟩]
  | .CH_STATE _ => [⟨0, 4, .ro, 0, .any⟩, ⟨4, 1, .ro, 0, .any⟩, ⟨5, 1, .ro, 0, .any⟩, ⟨6, 1, .ro, 0, .any⟩, ⟨7, 1, .ro, 0, .any⟩, ⟨8, 3, .ro, 0, .any⟩, ⟨16, 16, .ro, 0, .any⟩]
  | .CH_PROG _ => [⟨0, 16, .rw, 0, .any⟩, ⟨16, 12, .rw, 0, .any⟩, ⟨28, 1, .rw, 0, .any⟩, ⟨29, 1, .ro, 0, .any⟩, ⟨30, 1, .ro, 0, .any⟩]
  | .CH_GANG n => [⟨0, 2, .rw, 0, .any⟩, ⟨2, 1, .ro, 0, .any⟩, ⟨8, 7, .ro, n.val, .any⟩]
  | .CH_PWM _ => [⟨0, 8, .rw, 20, .any⟩, ⟨8, 8, .rw, 40, .any⟩, ⟨16, 8, .rw, 77, .nonzero⟩, ⟨24, 1, .rw, 0, .any⟩, ⟨25, 1, .rw, 1, .any⟩]
  | .CH_CMD _ => [⟨0, 1, .wo, 0, .any⟩, ⟨1, 1, .wo, 0, .any⟩]
  | .CH_SOFT _ => [⟨0, 16, .rw, 500, .any⟩, ⟨16, 16, .rw, 500, .any⟩]
  | .CH_SLEW _ => [⟨0, 16, .rw, 300, .nonzero⟩, ⟨16, 16, .rw, 1000, .nonzero⟩]
  | .CH_LIM_V _ => [⟨0, 16, .rw, 4600, .max 6000⟩, ⟨16, 16, .rw, 1000, .any⟩]
  | .CH_LIM_I _ => [⟨0, 16, .rw, 3000, .nonzero⟩, ⟨16, 8, .rw, 110, .range 1 150⟩]
  | .CH_LIM_T _ => [⟨0, 16, .rw, 600, .any⟩, ⟨16, 1, .rw, 1, .any⟩]
  | .CH_FUSE _ => [⟨0, 16, .rw, 3000, .nonzero⟩, ⟨16, 8, .rw, 20, .nonzero⟩, ⟨24, 8, .rw, 16, .range 1 64⟩]
  | .CT_DELTA _ => [⟨0, 16, .rw, 50, .range 10 900⟩, ⟨16, 8, .rw, 40, .any⟩, ⟨24, 1, .rwl, 1, .any⟩]
  | .CT_EMAX _ => [⟨0, 16, .rwl, 1000, .nonzero⟩, ⟨16, 8, .rwl, 150, .min 50⟩]
  | .CH_RPATH _ => [⟨0, 24, .ro, 0, .any⟩, ⟨24, 1, .ro, 0, .any⟩, ⟨25, 1, .ro, 0, .any⟩]
  | .CH_CHK _ => [⟨0, 8, .rwl, 20, .nonzero⟩, ⟨8, 8, .rwl, 5, .any⟩, ⟨16, 8, .rwl, 50, .any⟩, ⟨24, 8, .rwl, 20, .any⟩]
  | .CH_MEAS _ => [⟨0, 2, .rw, 0, .any⟩, ⟨2, 1, .rw, 1, .any⟩, ⟨4, 2, .rw, 0, .any⟩, ⟨6, 2, .rw, 3, .any⟩]
  | .CH_SHUNT _ => [⟨0, 32, .rw, 3333333, .range 100000 100000000⟩]
  | .CH_NTC _ => [⟨0, 16, .rw, 3435, .any⟩, ⟨16, 8, .rw, 100, .nonzero⟩]
  | .CH_MSTAT _ => [⟨0, 2, .ro, 0, .any⟩, ⟨2, 1, .ro, 0, .any⟩, ⟨3, 1, .ro, 0, .any⟩, ⟨4, 3, .ro, 0, .any⟩, ⟨7, 1, .ro, 0, .any⟩, ⟨8, 1, .w1c, 0, .any⟩, ⟨9, 1, .w1c, 0, .any⟩, ⟨10, 1, .ro, 0, .any⟩, ⟨11, 1, .ro, 0, .any⟩, ⟨12, 1, .w1c, 0, .any⟩, ⟨13, 1, .w1c, 0, .any⟩, ⟨16, 16, .ro, 0, .any⟩]
  | .CH_IKP _ => [⟨0, 32, .rw, 1048576, .any⟩]
  | .CH_IKI _ => [⟨0, 32, .rw, 49152, .any⟩]
  | .CH_VKP _ => [⟨0, 32, .rw, 0, .any⟩]
  | .CH_VKI _ => [⟨0, 32, .rw, 65536, .any⟩]
  | .CH_LCFG _ => [⟨0, 1, .rw, 1, .any⟩, ⟨4, 4, .rw, 4, .max 8⟩, ⟨8, 8, .rw, 40, .any⟩, ⟨16, 8, .rw, 50, .any⟩]
  | .CH_OSW _ => [⟨0, 8, .rw, 10, .range 1 100⟩, ⟨8, 8, .rw, 10, .any⟩, ⟨16, 1, .rwl, 0, .any⟩]
  | .CH_V _ => [⟨0, 32, .ro, 0, .any⟩]
  | .CH_I _ => [⟨0, 32, .ro, 0, .any⟩]
  | .CH_P _ => [⟨0, 32, .ro, 0, .any⟩]
  | .CH_AH _ => [⟨0, 32, .rw, 0, .any⟩]
  | .CH_AHH _ => [⟨0, 32, .rw, 0, .any⟩]
  | .CH_WH _ => [⟨0, 32, .rw, 0, .any⟩]
  | .CH_WHH _ => [⟨0, 32, .rw, 0, .any⟩]
  | .CH_T _ => [⟨0, 32, .ro, 2147483647, .any⟩]
  | .CH_VFD _ => [⟨0, 32, .ro, 0, .any⟩]
  | .CH_REF _ => [⟨0, 32, .ro, 0, .any⟩]
  | .CH_DUTY _ => [⟨0, 24, .ro, 0, .any⟩]
  | .CH_PSTAT _ => [⟨0, 16, .ro, 0, .any⟩, ⟨16, 1, .ro, 0, .any⟩, ⟨17, 1, .ro, 0, .any⟩, ⟨18, 1, .ro, 0, .any⟩, ⟨19, 1, .ro, 0, .any⟩, ⟨20, 3, .ro, 0, .any⟩, ⟨23, 3, .ro, 0, .any⟩, ⟨26, 2, .ro, 3, .any⟩, ⟨28, 4, .ro, 0, .any⟩]
  | .CH_PSEQ _ => [⟨0, 32, .ro, 0, .any⟩]
  | .CH_PCNT _ => [⟨0, 16, .w1c, 0, .any⟩, ⟨16, 16, .ro, 0, .any⟩]
  | .CH_TREC _ _ => [⟨0, 32, .ro, 0, .any⟩]
  | .CH_FAULT _ => [⟨0, 1, .w1c, 0, .any⟩, ⟨1, 1, .w1c, 0, .any⟩, ⟨2, 1, .w1c, 0, .any⟩, ⟨3, 1, .w1c, 0, .any⟩, ⟨4, 1, .w1c, 0, .any⟩, ⟨5, 1, .w1c, 0, .any⟩, ⟨6, 1, .w1c, 0, .any⟩, ⟨7, 1, .w1c, 0, .any⟩, ⟨8, 1, .w1c, 0, .any⟩, ⟨9, 1, .w1c, 0, .any⟩, ⟨10, 1, .w1c, 0, .any⟩, ⟨11, 1, .w1c, 0, .any⟩, ⟨12, 1, .w1c, 0, .any⟩, ⟨13, 1, .ro, 0, .any⟩, ⟨14, 1, .w1c, 0, .any⟩, ⟨16, 5, .ro, 0, .any⟩]
  | .CH_FUSEST _ => [⟨0, 12, .ro, 0, .any⟩, ⟨12, 1, .ro, 0, .any⟩, ⟨16, 16, .ro, 0, .any⟩]
  | .CH_CTLAST _ => [⟨0, 24, .ro, 0, .any⟩, ⟨24, 8, .ro, 0, .any⟩]
  | .CH_CTCNT _ => [⟨0, 16, .rw, 0, .any⟩, ⟨16, 16, .rw, 0, .any⟩]
  | .CH_CTWEAR _ => [⟨0, 16, .rw, 20, .any⟩, ⟨16, 1, .ro, 0, .any⟩, ⟨17, 1, .ro, 0, .any⟩]
  | .CH_CTCLAMP _ => [⟨0, 16, .ro, 65535, .any⟩, ⟨16, 1, .ro, 0, .any⟩]
  | .CH_STG _ => [⟨0, 8, .rw, 20, .nonzero⟩, ⟨8, 8, .rw, 16, .range 1 64⟩, ⟨16, 16, .ro, 0, .any⟩]
  | .CH_DCIR _ => [⟨0, 32, .ro, 2147483648, .any⟩]
  | .CH_DCDV _ => [⟨0, 32, .ro, 0, .any⟩]
  | .CH_DCDI _ => [⟨0, 32, .ro, 0, .any⟩]
  | .CH_DCCFG _ => [⟨0, 16, .rw, 100, .nonzero⟩]
  | .CH_DCST _ => [⟨0, 16, .ro, 0, .any⟩, ⟨16, 1, .ro, 0, .any⟩, ⟨17, 1, .ro, 0, .any⟩, ⟨18, 1, .ro, 0, .any⟩, ⟨19, 1, .ro, 0, .any⟩]
  | .CH_EIS_F _ => [⟨0, 32, .ro, 0, .any⟩]
  | .CH_EIS_RE _ => [⟨0, 32, .ro, 2147483648, .any⟩]
  | .CH_EIS_IM _ => [⟨0, 32, .ro, 2147483648, .any⟩]
  | .CH_EIS_IA _ => [⟨0, 32, .ro, 0, .any⟩]
  | .CH_EIS_Q _ => [⟨0, 8, .ro, 0, .any⟩, ⟨8, 8, .ro, 0, .any⟩, ⟨16, 1, .ro, 0, .any⟩, ⟨17, 1, .ro, 0, .any⟩, ⟨18, 1, .ro, 0, .any⟩, ⟨19, 1, .ro, 0, .any⟩, ⟨20, 1, .ro, 0, .any⟩, ⟨21, 1, .ro, 0, .any⟩, ⟨22, 1, .ro, 0, .any⟩, ⟨23, 1, .ro, 0, .any⟩]
  | .CH_DVDT _ => [⟨0, 32, .ro, 0, .any⟩]
  | .CH_OCVCTL _ => [⟨0, 16, .rw, 120, .any⟩, ⟨16, 1, .ro, 0, .any⟩]
  | .CH_OCVSLOPE _ => [⟨0, 32, .ro, 2147483648, .any⟩]
  | .CH_OCVSE _ => [⟨0, 32, .ro, 2147483648, .any⟩]
  | .CH_OCVN _ => [⟨0, 32, .ro, 0, .any⟩]
  | .CH_OCVDUR _ => [⟨0, 32, .ro, 0, .any⟩]
  | .CH_OCVST _ => [⟨0, 1, .ro, 0, .any⟩, ⟨1, 1, .ro, 0, .any⟩, ⟨2, 1, .ro, 0, .any⟩, ⟨16, 16, .ro, 0, .any⟩]
  | .CH_OCVV0 _ => [⟨0, 32, .ro, 0, .any⟩]
  | .CH_G _ _ => [⟨0, 32, .rw, 0, .any⟩]

/-- The register of block GL at an offset. -/
def glAt (o : Nat) : Option Reg :=
  match o with
  | 0x0 => some .GL_ID
  | 0x4 => some .GL_STATE
  | 0x8 => some .GL_SAFE
  | 0xC => some .GL_LOCK
  | 0x10 => some .GL_MODE
  | 0x14 => some .GL_AGSTAT
  | 0x18 => some .GL_SUPV
  | 0x20 => some .GL_CARD
  | 0x24 => some .GL_BUSLIM
  | _ => none

/-- The register of block CK at an offset. -/
def ckAt (o : Nat) : Option Reg :=
  match o with
  | 0x0 => some .CK_SRC
  | 0x4 => some .CK_SRCSTAT
  | 0x8 => some .CK_PLLSTAT
  | 0xC => some .CK_TRIM
  | 0x10 => some .CK_TIME
  | 0x14 => some .CK_TIMEH
  | 0x18 => some .CK_TSET
  | 0x1C => some .CK_PPS
  | 0x20 => some .CK_PPSSTAT
  | 0x24 => some .CK_OFFSET
  | 0x28 => some .CK_HOLD
  | 0x2C => some .CK_RATE
  | 0x30 => some .CK_COMPAT
  | 0x34 => some .CK_CSTEP
  | 0x38 => some .CK_CVOLT
  | 0x400 => some .CK_PWM
  | 0x404 => some .CK_SYNC
  | 0x408 => some .CK_SYNCST
  | o =>
    if 0x100 ≤ o ∧ o < 0x13C then some (.CK_GATE (Fin.ofNat 15 ((o - 0x100) / 4))) else
    none

/-- The register of block EV at an offset. -/
def evAt (o : Nat) : Option Reg :=
  match o with
  | 0x0 => some .EV_CTL
  | 0x4 => some .EV_STAT
  | o =>
    if 0x100 ≤ o ∧ o < 0x140 then some (.EV_PEND (Fin.ofNat 16 ((o - 0x100) / 4))) else
    if 0x140 ≤ o ∧ o < 0x180 then some (.EV_MASK (Fin.ofNat 16 ((o - 0x140) / 4))) else
    if 0x1000 ≤ o ∧ o < 0x1800 then some (.EV_CFG (Fin.ofNat 512 ((o - 0x1000) / 4))) else
    none

/-- The register of block SQ at an offset. -/
def sqAt (o : Nat) : Option Reg :=
  match o with
  | 0x0 => some .SQ_CTL
  | 0x4 => some .SQ_CMD
  | 0x8 => some .SQ_STAT
  | 0xC => some .SQ_BOOT
  | 0x10 => some .SQ_WDI
  | 0x14 => some .SQ_ROFF
  | o =>
    if 0x100 ≤ o ∧ o < 0x400 ∧ (o - 0x100) % 0x20 = 0 then some (.SQ_RCFG (Fin.ofNat 24 ((o - 0x100) / 0x20))) else
    if 0x104 ≤ o ∧ o < 0x404 ∧ (o - 0x104) % 0x20 = 0 then some (.SQ_RDEP (Fin.ofNat 24 ((o - 0x104) / 0x20))) else
    if 0x108 ≤ o ∧ o < 0x408 ∧ (o - 0x108) % 0x20 = 0 then some (.SQ_RNOM (Fin.ofNat 24 ((o - 0x108) / 0x20))) else
    if 0x10C ≤ o ∧ o < 0x40C ∧ (o - 0x10C) % 0x20 = 0 then some (.SQ_RTIM (Fin.ofNat 24 ((o - 0x10C) / 0x20))) else
    if 0x110 ≤ o ∧ o < 0x410 ∧ (o - 0x110) % 0x20 = 0 then some (.SQ_RSTAT (Fin.ofNat 24 ((o - 0x110) / 0x20))) else
    if 0x114 ≤ o ∧ o < 0x414 ∧ (o - 0x114) % 0x20 = 0 then some (.SQ_RFLT (Fin.ofNat 24 ((o - 0x114) / 0x20))) else
    none

/-- The register of block FD at an offset. -/
def fdAt (o : Nat) : Option Reg :=
  match o with
  | 0x0 => some .FD_SEL
  | 0x4 => some .FD_QUAL
  | 0x8 => some .FD_CMAX
  | 0xC => some .FD_CBUS
  | 0x10 => some .FD_BUSV
  | 0x14 => some .FD_CNT
  | o =>
    if 0x100 ≤ o ∧ o < 0x180 ∧ (o - 0x100) % 0x40 = 0 then some (.FD_FCFG (Fin.ofNat 2 ((o - 0x100) / 0x40))) else
    if 0x104 ≤ o ∧ o < 0x184 ∧ (o - 0x104) % 0x40 = 0 then some (.FD_ILIM (Fin.ofNat 2 ((o - 0x104) / 0x40))) else
    if 0x108 ≤ o ∧ o < 0x188 ∧ (o - 0x108) % 0x40 = 0 then some (.FD_RSH (Fin.ofNat 2 ((o - 0x108) / 0x40))) else
    if 0x10C ≤ o ∧ o < 0x18C ∧ (o - 0x10C) % 0x40 = 0 then some (.FD_FSTAT (Fin.ofNat 2 ((o - 0x10C) / 0x40))) else
    if 0x110 ≤ o ∧ o < 0x190 ∧ (o - 0x110) % 0x40 = 0 then some (.FD_FLT (Fin.ofNat 2 ((o - 0x110) / 0x40))) else
    if 0x114 ≤ o ∧ o < 0x194 ∧ (o - 0x114) % 0x40 = 0 then some (.FD_V (Fin.ofNat 2 ((o - 0x114) / 0x40))) else
    if 0x118 ≤ o ∧ o < 0x198 ∧ (o - 0x118) % 0x40 = 0 then some (.FD_I (Fin.ofNat 2 ((o - 0x118) / 0x40))) else
    if 0x11C ≤ o ∧ o < 0x19C ∧ (o - 0x11C) % 0x40 = 0 then some (.FD_P (Fin.ofNat 2 ((o - 0x11C) / 0x40))) else
    if 0x120 ≤ o ∧ o < 0x1A0 ∧ (o - 0x120) % 0x40 = 0 then some (.FD_EIN (Fin.ofNat 2 ((o - 0x120) / 0x40))) else
    if 0x124 ≤ o ∧ o < 0x1A4 ∧ (o - 0x124) % 0x40 = 0 then some (.FD_EINH (Fin.ofNat 2 ((o - 0x124) / 0x40))) else
    if 0x128 ≤ o ∧ o < 0x1A8 ∧ (o - 0x128) % 0x40 = 0 then some (.FD_EOUT (Fin.ofNat 2 ((o - 0x128) / 0x40))) else
    if 0x12C ≤ o ∧ o < 0x1AC ∧ (o - 0x12C) % 0x40 = 0 then some (.FD_EOUTH (Fin.ofNat 2 ((o - 0x12C) / 0x40))) else
    none

/-- The register of block HU at an offset. -/
def huAt (o : Nat) : Option Reg :=
  match o with
  | 0x0 => some .HU_CTL
  | 0x4 => some .HU_STAT
  | 0x8 => some .HU_FLT
  | 0xC => some .HU_INTM
  | 0x10 => some .HU_STRAP
  | 0x14 => some .HU_CHG
  | 0x18 => some .HU_VREG
  | 0x1C => some .HU_ACC
  | 0x20 => some .HU_TEMP
  | 0x24 => some .HU_DLIM
  | 0x28 => some .HU_RIDE
  | 0x2C => some .HU_RSH
  | 0x30 => some .HU_PRECFG
  | 0x34 => some .HU_TIMER
  | 0x38 => some .HU_WDT
  | 0x40 => some .HU_V
  | 0x44 => some .HU_I
  | 0x48 => some .HU_T
  | 0x50 => some .HU_GG_SOC
  | 0x54 => some .HU_GG_CAP
  | 0x58 => some .HU_GG_RPACK
  | o =>
    if 0x60 ≤ o ∧ o < 0x70 then some (.HU_GG_STATE (Fin.ofNat 4 ((o - 0x60) / 4))) else
    if 0x70 ≤ o ∧ o < 0x80 then some (.HU_GG_RESTORE (Fin.ofNat 4 ((o - 0x70) / 4))) else
    if 0x80 ≤ o ∧ o < 0xA0 then some (.HU_OCV (Fin.ofNat 8 ((o - 0x80) / 4))) else
    none

/-- The register of block LG at an offset. -/
def lgAt (o : Nat) : Option Reg :=
  match o with
  | 0x0 => some .LG_CTL
  | 0x4 => some .LG_CAP_W
  | 0x8 => some .LG_REGEN_W
  | 0xC => some .LG_CAP_RM
  | 0x10 => some .LG_CAPEFF
  | 0x14 => some .LG_CLASS_FLOOR
  | 0x30 => some .LG_HU
  | 0x34 => some .LG_NET_W
  | 0x38 => some .LG_PRED_W
  | 0x3C => some .LG_STAT
  | 0x40 => some .LG_DEGRADE_PCT
  | 0x44 => some .LG_DEGRADE_S
  | 0x48 => some .LG_BASE_W
  | 0x4C => some .LG_AXEFF
  | 0x50 => some .LG_FEEDERR
  | 0x54 => some .LG_RPT
  | o =>
    if 0x20 ≤ o ∧ o < 0x30 then some (.LG_SCALE (Fin.ofNat 4 ((o - 0x20) / 4))) else
    if 0x1000 ≤ o ∧ o < 0x2000 ∧ (o - 0x1000) % 0x20 < 32 then some (.LG_EFF (Fin.ofNat 128 ((o - 0x1000) / 0x20)) (Fin.ofNat 8 ((o - 0x1000) % 0x20 / 4))) else
    none

/-- The register of block AX at an offset. -/
def axAt (j : Fin 4) (o : Nat) : Option Reg :=
  match o with
  | 0x0 => some (.AX_CTL j)
  | 0x4 => some (.AX_CFG j)
  | 0x8 => some (.AX_VNOM j)
  | 0xC => some (.AX_MARG j)
  | 0x10 => some (.AX_ILIM j)
  | 0x14 => some (.AX_GAIN j)
  | 0x18 => some (.AX_PWM j)
  | 0x1C => some (.AX_STAT j)
  | 0x20 => some (.AX_FLT j)
  | 0x24 => some (.AX_V j)
  | 0x28 => some (.AX_I j)
  | 0x2C => some (.AX_P j)
  | _ => none

/-- The register of block AL at an offset. -/
def alAt (k : Fin 16) (o : Nat) : Option Reg :=
  match o with
  | 0x0 => some (.AL_CTL k)
  | 0x4 => some (.AL_CFG k)
  | 0x8 => some (.AL_INGAIN k)
  | 0xC => some (.AL_INOFF k)
  | 0x10 => some (.AL_SP k)
  | 0x14 => some (.AL_SPSRC k)
  | 0x18 => some (.AL_SPGAIN k)
  | 0x1C => some (.AL_SPOFF k)
  | 0x20 => some (.AL_KP k)
  | 0x24 => some (.AL_TI k)
  | 0x28 => some (.AL_OUT k)
  | 0x2C => some (.AL_MAN k)
  | 0x30 => some (.AL_AT k)
  | 0x34 => some (.AL_ATHYS k)
  | 0x38 => some (.AL_STAT k)
  | 0x3C => some (.AL_PV k)
  | _ => none

/-- The register of block TW at an offset. -/
def twAt (o : Nat) : Option Reg :=
  match o with
  | 0x10 => some .TW0_POLL
  | 0x14 => some .TW0_PKMASK
  | 0x110 => some .TW1_ADDR
  | 0x114 => some .TW1_PTR
  | 0x118 => some .TW1_NTFY
  | o =>
    if 0x0 ≤ o ∧ o < 0x200 ∧ (o - 0x0) % 0x100 = 0 then some (.TW_CFG (Fin.ofNat 2 ((o - 0x0) / 0x100))) else
    if 0x4 ≤ o ∧ o < 0x204 ∧ (o - 0x4) % 0x100 = 0 then some (.TW_TIM (Fin.ofNat 2 ((o - 0x4) / 0x100))) else
    if 0x8 ≤ o ∧ o < 0x208 ∧ (o - 0x8) % 0x100 = 0 then some (.TW_STAT (Fin.ofNat 2 ((o - 0x8) / 0x100))) else
    if 0x40 ≤ o ∧ o < 0x64 then some (.TW0_DEV (Fin.ofNat 9 ((o - 0x40) / 4))) else
    if 0x80 ≤ o ∧ o < 0xC8 ∧ (o - 0x80) % 0x8 = 0 then some (.TW0_RD0 (Fin.ofNat 9 ((o - 0x80) / 0x8))) else
    if 0x84 ≤ o ∧ o < 0xCC ∧ (o - 0x84) % 0x8 = 0 then some (.TW0_RD1 (Fin.ofNat 9 ((o - 0x84) / 0x8))) else
    none

/-- The register of block HL at an offset. -/
def hlAt (o : Nat) : Option Reg :=
  match o with
  | 0x0 => some .HL_CFG
  | 0x4 => some .HL_STAT
  | 0x8 => some .HL_KEYSTAT
  | 0xC => some .HL_RATE
  | 0x10 => some .HL_BULK
  | 0x14 => some .HL_SPI
  | o =>
    if 0x40 ≤ o ∧ o < 0x60 then some (.HL_SESS (Fin.ofNat 8 ((o - 0x40) / 4))) else
    if 0x100 ≤ o ∧ o < 0x180 ∧ (o - 0x100) % 0x40 = 0 then some (.HL_PCFG (Fin.ofNat 2 ((o - 0x100) / 0x40))) else
    if 0x104 ≤ o ∧ o < 0x184 ∧ (o - 0x104) % 0x40 = 0 then some (.HL_PSTAT (Fin.ofNat 2 ((o - 0x104) / 0x40))) else
    if 0x108 ≤ o ∧ o < 0x188 ∧ (o - 0x108) % 0x40 = 0 then some (.HL_MACL (Fin.ofNat 2 ((o - 0x108) / 0x40))) else
    if 0x10C ≤ o ∧ o < 0x18C ∧ (o - 0x10C) % 0x40 = 0 then some (.HL_MACH (Fin.ofNat 2 ((o - 0x10C) / 0x40))) else
    if 0x110 ≤ o ∧ o < 0x190 ∧ (o - 0x110) % 0x40 = 0 then some (.HL_IP4 (Fin.ofNat 2 ((o - 0x110) / 0x40))) else
    if 0x114 ≤ o ∧ o < 0x194 ∧ (o - 0x114) % 0x40 = 0 then some (.HL_GW4 (Fin.ofNat 2 ((o - 0x114) / 0x40))) else
    if 0x118 ≤ o ∧ o < 0x198 ∧ (o - 0x118) % 0x40 = 0 then some (.HL_PLEN (Fin.ofNat 2 ((o - 0x118) / 0x40))) else
    if 0x120 ≤ o ∧ o < 0x1A0 ∧ (o - 0x120) % 0x40 < 16 then some (.HL_IP6 (Fin.ofNat 2 ((o - 0x120) / 0x40)) (Fin.ofNat 4 ((o - 0x120) % 0x40 / 4))) else
    if 0x300 ≤ o ∧ o < 0x350 ∧ (o - 0x300) % 0x10 = 0 then some (.HL_SCFG (Fin.ofNat 5 ((o - 0x300) / 0x10))) else
    if 0x304 ≤ o ∧ o < 0x354 ∧ (o - 0x304) % 0x10 = 0 then some (.HL_SALLOT (Fin.ofNat 5 ((o - 0x304) / 0x10))) else
    if 0x308 ≤ o ∧ o < 0x358 ∧ (o - 0x308) % 0x10 = 0 then some (.HL_SSTAT (Fin.ofNat 5 ((o - 0x308) / 0x10))) else
    if 0x30C ≤ o ∧ o < 0x35C ∧ (o - 0x30C) % 0x10 = 0 then some (.HL_SDROP (Fin.ofNat 5 ((o - 0x30C) / 0x10))) else
    if 0x400 ≤ o ∧ o < 0x480 ∧ (o - 0x400) % 0x20 = 0 then some (.HL_DCFG (Fin.ofNat 4 ((o - 0x400) / 0x20))) else
    if 0x404 ≤ o ∧ o < 0x484 ∧ (o - 0x404) % 0x20 < 16 then some (.HL_DADDR (Fin.ofNat 4 ((o - 0x404) / 0x20)) (Fin.ofNat 4 ((o - 0x404) % 0x20 / 4))) else
    none

/-- The register of block VT at an offset. -/
def vtAt (o : Nat) : Option Reg :=
  match o with
  | 0x0 => some .VT_CTL
  | 0x4 => some .VT_STAT
  | 0x8 => some .VT_HEAD
  | 0xC => some .VT_TAIL
  | 0x10 => some .VT_QUEUE
  | 0x40 => some .VT_CCTL
  | 0x44 => some .VT_CSTAT
  | o =>
    if 0x50 ≤ o ∧ o < 0x60 then some (.VT_CSLOT (Fin.ofNat 4 ((o - 0x50) / 4))) else
    if 0x80 ≤ o ∧ o < 0xC0 then some (.VT_CTRIG (Fin.ofNat 16 ((o - 0x80) / 4))) else
    none

/-- The register of block BT at an offset. -/
def btAt (o : Nat) : Option Reg :=
  match o with
  | 0x0 => some .BT_CTL
  | 0x4 => some .BT_SRAM
  | 0x8 => some .BT_SRAMT
  | 0xC => some .BT_MRAM
  | 0x10 => some .BT_MRAMT
  | 0x20 => some .BT_FAIL0
  | 0x24 => some .BT_FAIL1
  | 0x28 => some .BT_REPAIR
  | 0x60 => some .BT_REF
  | 0x64 => some .BT_REFLIM
  | o =>
    if 0x40 ≤ o ∧ o < 0x64 then some (.BT_PWMF (Fin.ofNat 9 ((o - 0x40) / 4))) else
    none

/-- The register of block TS at an offset. -/
def tsAt (o : Nat) : Option Reg :=
  match o with
  | 0x0 => some .TS_CTL
  | 0x4 => some .TS_MAX
  | 0x8 => some .TS_STAT
  | 0xC => some .TS_BAND
  | 0x10 => some .TS_HK
  | o =>
    if 0x20 ≤ o ∧ o < 0x40 then some (.TS_T (Fin.ofNat 8 ((o - 0x20) / 4))) else
    none

/-- The register of block LN at an offset. -/
def lnAt (o : Nat) : Option Reg :=
  match o with
  | 0x0 => some .LN_CFG
  | 0x4 => some .LN_STAT
  | 0x8 => some .LN_POS
  | 0xC => some .LN_LIMIT
  | 0x10 => some .LN_ADOPT
  | 0x14 => some .LN_DWELL
  | 0x18 => some .LN_CNT
  | 0x1C => some .LN_REFV
  | 0x20 => some .LN_RES0
  | 0x24 => some .LN_RES1
  | 0x28 => some .LN_RES2
  | 0x2C => some .LN_RES3
  | 0x30 => some .LN_KBASE
  | 0x400 => some .LN_CALCTL
  | 0x404 => some .LN_CALSTAT
  | 0x408 => some .LN_CALSEQ
  | o =>
    if 0x40 ≤ o ∧ o < 0x50 then some (.LN_SUSP (Fin.ofNat 4 ((o - 0x40) / 4))) else
    none

/-- The register of block CS at an offset. -/
def csAt (o : Nat) : Option Reg :=
  match o with
  | 0x0 => some .CS_CTL
  | 0x4 => some .CS_SPARE
  | 0x100 => some .CS_SHPROG
  | 0x104 => some .CS_SHCMD
  | 0x108 => some .CS_SHSTAT
  | 0x10C => some .CS_BART
  | 0x110 => some .CS_SHIN
  | o =>
    if 0x10 ≤ o ∧ o < 0x20 then some (.CS_MAP (Fin.ofNat 4 ((o - 0x10) / 4))) else
    if 0x40 ≤ o ∧ o < 0x84 then some (.CS_STAT (Fin.ofNat 17 ((o - 0x40) / 4))) else
    if 0x114 ≤ o ∧ o < 0x124 then some (.CS_SHUSR (Fin.ofNat 4 ((o - 0x114) / 4))) else
    if 0x140 ≤ o ∧ o < 0x180 then some (.CS_SG (Fin.ofNat 16 ((o - 0x140) / 4))) else
    if 0x180 ≤ o ∧ o < 0x280 ∧ (o - 0x180) % 0x10 < 16 then some (.CS_BARM (Fin.ofNat 16 ((o - 0x180) / 0x10)) (Fin.ofNat 4 ((o - 0x180) % 0x10 / 4))) else
    none

/-- The register of block CH at an offset. -/
def chAt (n : Fin 128) (o : Nat) : Option Reg :=
  match o with
  | 0x0 => some (.CH_MODE n)
  | 0x4 => some (.CH_STATE n)
  | 0x8 => some (.CH_PROG n)
  | 0xC => some (.CH_GANG n)
  | 0x10 => some (.CH_PWM n)
  | 0x14 => some (.CH_CMD n)
  | 0x18 => some (.CH_SOFT n)
  | 0x1C => some (.CH_SLEW n)
  | 0x20 => some (.CH_LIM_V n)
  | 0x24 => some (.CH_LIM_I n)
  | 0x28 => some (.CH_LIM_T n)
  | 0x2C => some (.CH_FUSE n)
  | 0x30 => some (.CT_DELTA n)
  | 0x34 => some (.CT_EMAX n)
  | 0x38 => some (.CH_RPATH n)
  | 0x3C => some (.CH_CHK n)
  | 0x40 => some (.CH_MEAS n)
  | 0x44 => some (.CH_SHUNT n)
  | 0x48 => some (.CH_NTC n)
  | 0x4C => some (.CH_MSTAT n)
  | 0x50 => some (.CH_IKP n)
  | 0x54 => some (.CH_IKI n)
  | 0x58 => some (.CH_VKP n)
  | 0x5C => some (.CH_VKI n)
  | 0x60 => some (.CH_LCFG n)
  | 0x64 => some (.CH_OSW n)
  | 0x80 => some (.CH_V n)
  | 0x84 => some (.CH_I n)
  | 0x88 => some (.CH_P n)
  | 0x90 => some (.CH_AH n)
  | 0x94 => some (.CH_AHH n)
  | 0x98 => some (.CH_WH n)
  | 0x9C => some (.CH_WHH n)
  | 0xA0 => some (.CH_T n)
  | 0xA4 => some (.CH_VFD n)
  | 0xA8 => some (.CH_REF n)
  | 0xAC => some (.CH_DUTY n)
  | 0xB0 => some (.CH_PSTAT n)
  | 0xB4 => some (.CH_PSEQ n)
  | 0xB8 => some (.CH_PCNT n)
  | 0x100 => some (.CH_FAULT n)
  | 0x104 => some (.CH_FUSEST n)
  | 0x108 => some (.CH_CTLAST n)
  | 0x10C => some (.CH_CTCNT n)
  | 0x110 => some (.CH_CTWEAR n)
  | 0x114 => some (.CH_CTCLAMP n)
  | 0x118 => some (.CH_STG n)
  | 0x200 => some (.CH_DCIR n)
  | 0x204 => some (.CH_DCDV n)
  | 0x208 => some (.CH_DCDI n)
  | 0x20C => some (.CH_DCCFG n)
  | 0x210 => some (.CH_DCST n)
  | 0x220 => some (.CH_EIS_F n)
  | 0x224 => some (.CH_EIS_RE n)
  | 0x228 => some (.CH_EIS_IM n)
  | 0x22C => some (.CH_EIS_IA n)
  | 0x230 => some (.CH_EIS_Q n)
  | 0x238 => some (.CH_DVDT n)
  | 0x240 => some (.CH_OCVCTL n)
  | 0x244 => some (.CH_OCVSLOPE n)
  | 0x248 => some (.CH_OCVSE n)
  | 0x24C => some (.CH_OCVN n)
  | 0x250 => some (.CH_OCVDUR n)
  | 0x254 => some (.CH_OCVST n)
  | 0x258 => some (.CH_OCVV0 n)
  | o =>
    if 0xC0 ≤ o ∧ o < 0x100 then some (.CH_TREC n (Fin.ofNat 16 ((o - 0xC0) / 4))) else
    if 0x300 ≤ o ∧ o < 0x340 then some (.CH_G n (Fin.ofNat 16 ((o - 0x300) / 4))) else
    none

/-- The register at a host address, or none: the address is no multiple of 4, or no register occupies it (R4, R13). -/
def Reg.ofAddr (a : Nat) : Option Reg :=
  if a % 4 ≠ 0 then none
  else if a < 0x10000 then glAt a
  else if a < 0x20000 then ckAt (a - 0x10000)
  else if a < 0x30000 then evAt (a - 0x20000)
  else if a < 0x40000 then sqAt (a - 0x30000)
  else if a < 0x50000 then fdAt (a - 0x40000)
  else if a < 0x60000 then huAt (a - 0x50000)
  else if a < 0x70000 then lgAt (a - 0x60000)
  else if a < 0x70400 then axAt (Fin.ofNat 4 ((a - 0x70000) / 0x100)) ((a - 0x70000) % 0x100)
  else if a < 0x71000 then none
  else if a < 0x71400 then alAt (Fin.ofNat 16 ((a - 0x71000) / 0x40)) ((a - 0x71000) % 0x40)
  else if a < 0x80000 then none
  else if a < 0x90000 then twAt (a - 0x80000)
  else if a < 0xA0000 then hlAt (a - 0x90000)
  else if a < 0xB0000 then vtAt (a - 0xA0000)
  else if a < 0xB0800 then btAt (a - 0xB0000)
  else if a < 0xC0000 then tsAt (a - 0xB0800)
  else if a < 0xC8000 then lnAt (a - 0xC0000)
  else if a < 0xD0000 then csAt (a - 0xC8000)
  else if a < 0x100000 then none
  else if a < 0x120000 then chAt (Fin.ofNat 128 ((a - 0x100000) / 0x400)) ((a - 0x100000) % 0x400)
  else none

/-- One named field of one register. -/
structure Fld where
  reg : Reg
  lo : Nat
  len : Nat
  deriving DecidableEq, Repr

/-- GL_ID.FAMILY[31:24] (R2). -/
@[simp] abbrev F.GL_ID_FAMILY : Fld := ⟨.GL_ID, 24, 8⟩
/-- GL_ID.PART[23:8] (R2). -/
@[simp] abbrev F.GL_ID_PART : Fld := ⟨.GL_ID, 8, 16⟩
/-- GL_ID.STEP[7:0] (R2). -/
@[simp] abbrev F.GL_ID_STEP : Fld := ⟨.GL_ID, 0, 8⟩
/-- GL_STATE.SHELF[2:0] (R13). -/
@[simp] abbrev F.GL_STATE_SHELF : Fld := ⟨.GL_STATE, 0, 3⟩
/-- GL_STATE.MODE[5:4] (R13). -/
@[simp] abbrev F.GL_STATE_MODE : Fld := ⟨.GL_STATE, 4, 2⟩
/-- GL_STATE.SUPV[6:6] (R13). -/
@[simp] abbrev F.GL_STATE_SUPV : Fld := ⟨.GL_STATE, 6, 1⟩
/-- GL_STATE.FWBANK[7:7] (R13). -/
@[simp] abbrev F.GL_STATE_FWBANK : Fld := ⟨.GL_STATE, 7, 1⟩
/-- GL_STATE.PARKED[15:8] (R13). -/
@[simp] abbrev F.GL_STATE_PARKED : Fld := ⟨.GL_STATE, 8, 8⟩
/-- GL_SAFE.REQ[0:0] (R13). -/
@[simp] abbrev F.GL_SAFE_REQ : Fld := ⟨.GL_SAFE, 0, 1⟩
/-- GL_SAFE.CLR[1:1] (R13). -/
@[simp] abbrev F.GL_SAFE_CLR : Fld := ⟨.GL_SAFE, 1, 1⟩
/-- GL_SAFE.ACTIVE[8:8] (R13). -/
@[simp] abbrev F.GL_SAFE_ACTIVE : Fld := ⟨.GL_SAFE, 8, 1⟩
/-- GL_SAFE.HELD[9:9] (R13). -/
@[simp] abbrev F.GL_SAFE_HELD : Fld := ⟨.GL_SAFE, 9, 1⟩
/-- GL_SAFE.CAUSE[23:16] (R13). -/
@[simp] abbrev F.GL_SAFE_CAUSE : Fld := ⟨.GL_SAFE, 16, 8⟩
/-- GL_SAFE.COUNT[31:24] (R13). -/
@[simp] abbrev F.GL_SAFE_COUNT : Fld := ⟨.GL_SAFE, 24, 8⟩
/-- GL_LOCK.KEY[15:0] (R13). -/
@[simp] abbrev F.GL_LOCK_KEY : Fld := ⟨.GL_LOCK, 0, 16⟩
/-- GL_LOCK.OPEN[16:16] (R13). -/
@[simp] abbrev F.GL_LOCK_OPEN : Fld := ⟨.GL_LOCK, 16, 1⟩
/-- GL_LOCK.LEFT[31:24] (R13). -/
@[simp] abbrev F.GL_LOCK_LEFT : Fld := ⟨.GL_LOCK, 24, 8⟩
/-- GL_MODE.REQ[1:0] (R342). -/
@[simp] abbrev F.GL_MODE_REQ : Fld := ⟨.GL_MODE, 0, 2⟩
/-- GL_MODE.SHOK[2:2] (R342). -/
@[simp] abbrev F.GL_MODE_SHOK : Fld := ⟨.GL_MODE, 2, 1⟩
/-- GL_MODE.AGPER[15:4] (R342). -/
@[simp] abbrev F.GL_MODE_AGPER : Fld := ⟨.GL_MODE, 4, 12⟩
/-- GL_MODE.PEND[17:16] (R342). -/
@[simp] abbrev F.GL_MODE_PEND : Fld := ⟨.GL_MODE, 16, 2⟩
/-- GL_MODE.REFUSED[18:18] (R342). -/
@[simp] abbrev F.GL_MODE_REFUSED : Fld := ⟨.GL_MODE, 18, 1⟩
/-- GL_MODE.WHY[23:20] (R342). -/
@[simp] abbrev F.GL_MODE_WHY : Fld := ⟨.GL_MODE, 20, 4⟩
/-- GL_AGSTAT.PERIOD[11:0] (R342). -/
@[simp] abbrev F.GL_AGSTAT_PERIOD : Fld := ⟨.GL_AGSTAT, 0, 12⟩
/-- GL_AGSTAT.SRC[12:12] (R342). -/
@[simp] abbrev F.GL_AGSTAT_SRC : Fld := ⟨.GL_AGSTAT, 12, 1⟩
/-- GL_AGSTAT.BURSTS[31:16] (R342). -/
@[simp] abbrev F.GL_AGSTAT_BURSTS : Fld := ⟨.GL_AGSTAT, 16, 16⟩
/-- GL_SUPV.KEY[15:0] (R436). -/
@[simp] abbrev F.GL_SUPV_KEY : Fld := ⟨.GL_SUPV, 0, 16⟩
/-- GL_SUPV.CAUSE[18:16] (R436). -/
@[simp] abbrev F.GL_SUPV_CAUSE : Fld := ⟨.GL_SUPV, 16, 3⟩
/-- GL_SUPV.DUR[27:20] (R436). -/
@[simp] abbrev F.GL_SUPV_DUR : Fld := ⟨.GL_SUPV, 20, 8⟩
/-- GL_SUPV.RST60[31:28] (R436). -/
@[simp] abbrev F.GL_SUPV_RST60 : Fld := ⟨.GL_SUPV, 28, 4⟩
/-- GL_CARD.PRES[15:0] (R435). -/
@[simp] abbrev F.GL_CARD_PRES : Fld := ⟨.GL_CARD, 0, 16⟩
/-- GL_CARD.QUAL[23:16] (R435). -/
@[simp] abbrev F.GL_CARD_QUAL : Fld := ⟨.GL_CARD, 16, 8⟩
/-- GL_BUSLIM.VMIN[15:0] (R89). -/
@[simp] abbrev F.GL_BUSLIM_VMIN : Fld := ⟨.GL_BUSLIM, 0, 16⟩
/-- GL_BUSLIM.VMAX[31:16] (R89). -/
@[simp] abbrev F.GL_BUSLIM_VMAX : Fld := ⟨.GL_BUSLIM, 16, 16⟩
/-- CK_SRC.XLFEN[0:0] (R323). -/
@[simp] abbrev F.CK_SRC_XLFEN : Fld := ⟨.CK_SRC, 0, 1⟩
/-- CK_SRC.TRSRC[2:1] (R323). -/
@[simp] abbrev F.CK_SRC_TRSRC : Fld := ⟨.CK_SRC, 1, 2⟩
/-- CK_SRCSTAT.HFRC[0:0] (R323). -/
@[simp] abbrev F.CK_SRCSTAT_HFRC : Fld := ⟨.CK_SRCSTAT, 0, 1⟩
/-- CK_SRCSTAT.XHF[1:1] (R323). -/
@[simp] abbrev F.CK_SRCSTAT_XHF : Fld := ⟨.CK_SRCSTAT, 1, 1⟩
/-- CK_SRCSTAT.XLF[2:2] (R323). -/
@[simp] abbrev F.CK_SRCSTAT_XLF : Fld := ⟨.CK_SRCSTAT, 2, 1⟩
/-- CK_SRCSTAT.XHFLOSS[3:3] (R323). -/
@[simp] abbrev F.CK_SRCSTAT_XHFLOSS : Fld := ⟨.CK_SRCSTAT, 3, 1⟩
/-- CK_SRCSTAT.XLFFAIL[4:4] (R323). -/
@[simp] abbrev F.CK_SRCSTAT_XLFFAIL : Fld := ⟨.CK_SRCSTAT, 4, 1⟩
/-- CK_SRCSTAT.TRIMLIM[5:5] (R323). -/
@[simp] abbrev F.CK_SRCSTAT_TRIMLIM : Fld := ⟨.CK_SRCSTAT, 5, 1⟩
/-- CK_SRCSTAT.TSRC[6:6] (R323). -/
@[simp] abbrev F.CK_SRCSTAT_TSRC : Fld := ⟨.CK_SRCSTAT, 6, 1⟩
/-- CK_PLLSTAT.LOCK0[0:0] (R323). -/
@[simp] abbrev F.CK_PLLSTAT_LOCK0 : Fld := ⟨.CK_PLLSTAT, 0, 1⟩
/-- CK_PLLSTAT.REFLOSS0[1:1] (R323). -/
@[simp] abbrev F.CK_PLLSTAT_REFLOSS0 : Fld := ⟨.CK_PLLSTAT, 1, 1⟩
/-- CK_PLLSTAT.COAST0[2:2] (R323). -/
@[simp] abbrev F.CK_PLLSTAT_COAST0 : Fld := ⟨.CK_PLLSTAT, 2, 1⟩
/-- CK_PLLSTAT.LOCK1[4:4] (R323). -/
@[simp] abbrev F.CK_PLLSTAT_LOCK1 : Fld := ⟨.CK_PLLSTAT, 4, 1⟩
/-- CK_PLLSTAT.REFLOSS1[5:5] (R323). -/
@[simp] abbrev F.CK_PLLSTAT_REFLOSS1 : Fld := ⟨.CK_PLLSTAT, 5, 1⟩
/-- CK_PLLSTAT.COAST1[6:6] (R323). -/
@[simp] abbrev F.CK_PLLSTAT_COAST1 : Fld := ⟨.CK_PLLSTAT, 6, 1⟩
/-- CK_PLLSTAT.LOCK2[8:8] (R323). -/
@[simp] abbrev F.CK_PLLSTAT_LOCK2 : Fld := ⟨.CK_PLLSTAT, 8, 1⟩
/-- CK_PLLSTAT.REFLOSS2[9:9] (R323). -/
@[simp] abbrev F.CK_PLLSTAT_REFLOSS2 : Fld := ⟨.CK_PLLSTAT, 9, 1⟩
/-- CK_PLLSTAT.COAST2[10:10] (R323). -/
@[simp] abbrev F.CK_PLLSTAT_COAST2 : Fld := ⟨.CK_PLLSTAT, 10, 1⟩
/-- CK_PLLSTAT.LOCK3[12:12] (R323). -/
@[simp] abbrev F.CK_PLLSTAT_LOCK3 : Fld := ⟨.CK_PLLSTAT, 12, 1⟩
/-- CK_PLLSTAT.REFLOSS3[13:13] (R323). -/
@[simp] abbrev F.CK_PLLSTAT_REFLOSS3 : Fld := ⟨.CK_PLLSTAT, 13, 1⟩
/-- CK_PLLSTAT.COAST3[14:14] (R323). -/
@[simp] abbrev F.CK_PLLSTAT_COAST3 : Fld := ⟨.CK_PLLSTAT, 14, 1⟩
/-- CK_PLLSTAT.LEVEL[17:16] (R323). -/
@[simp] abbrev F.CK_PLLSTAT_LEVEL : Fld := ⟨.CK_PLLSTAT, 16, 2⟩
/-- CK_TRIM.CODE[9:0] (R323). -/
@[simp] abbrev F.CK_TRIM_CODE : Fld := ⟨.CK_TRIM, 0, 10⟩
/-- CK_TRIM.ERR[31:16] (R323). -/
@[simp] abbrev F.CK_TRIM_ERR : Fld := ⟨.CK_TRIM, 16, 16⟩
/-- CK_TIME.LO[31:0] (R323). -/
@[simp] abbrev F.CK_TIME_LO : Fld := ⟨.CK_TIME, 0, 32⟩
/-- CK_TIMEH.HI[31:0] (R323). -/
@[simp] abbrev F.CK_TIMEH_HI : Fld := ⟨.CK_TIMEH, 0, 32⟩
/-- CK_TSET.SEC[31:0] (R323). -/
@[simp] abbrev F.CK_TSET_SEC : Fld := ⟨.CK_TSET, 0, 32⟩
/-- CK_PPS.EN[0:0] (R323). -/
@[simp] abbrev F.CK_PPS_EN : Fld := ⟨.CK_PPS, 0, 1⟩
/-- CK_PPS.WIN[15:8] (R323). -/
@[simp] abbrev F.CK_PPS_WIN : Fld := ⟨.CK_PPS, 8, 8⟩
/-- CK_PPS.SLEW[23:16] (R323). -/
@[simp] abbrev F.CK_PPS_SLEW : Fld := ⟨.CK_PPS, 16, 8⟩
/-- CK_PPS.STEPTH[31:24] (R323). -/
@[simp] abbrev F.CK_PPS_STEPTH : Fld := ⟨.CK_PPS, 24, 8⟩
/-- CK_PPSSTAT.STATE[2:0] (R323). -/
@[simp] abbrev F.CK_PPSSTAT_STATE : Fld := ⟨.CK_PPSSTAT, 0, 3⟩
/-- CK_PPSSTAT.LOST[3:3] (R323). -/
@[simp] abbrev F.CK_PPSSTAT_LOST : Fld := ⟨.CK_PPSSTAT, 3, 1⟩
/-- CK_PPSSTAT.HOLDEXP[4:4] (R323). -/
@[simp] abbrev F.CK_PPSSTAT_HOLDEXP : Fld := ⟨.CK_PPSSTAT, 4, 1⟩
/-- CK_PPSSTAT.STEPPED[5:5] (R323). -/
@[simp] abbrev F.CK_PPSSTAT_STEPPED : Fld := ⟨.CK_PPSSTAT, 5, 1⟩
/-- CK_PPSSTAT.TSETP[6:6] (R323). -/
@[simp] abbrev F.CK_PPSSTAT_TSETP : Fld := ⟨.CK_PPSSTAT, 6, 1⟩
/-- CK_PPSSTAT.OOW[15:8] (R323). -/
@[simp] abbrev F.CK_PPSSTAT_OOW : Fld := ⟨.CK_PPSSTAT, 8, 8⟩
/-- CK_PPSSTAT.HOLDH[31:16] (R323). -/
@[simp] abbrev F.CK_PPSSTAT_HOLDH : Fld := ⟨.CK_PPSSTAT, 16, 16⟩
/-- CK_OFFSET.E[31:0] (R323). -/
@[simp] abbrev F.CK_OFFSET_E : Fld := ⟨.CK_OFFSET, 0, 32⟩
/-- CK_HOLD.HOLDMAX[7:0] (R323). -/
@[simp] abbrev F.CK_HOLD_HOLDMAX : Fld := ⟨.CK_HOLD, 0, 8⟩
/-- CK_RATE.R[31:0] (R323). -/
@[simp] abbrev F.CK_RATE_R : Fld := ⟨.CK_RATE, 0, 32⟩
/-- CK_COMPAT.EN[0:0] (R323). -/
@[simp] abbrev F.CK_COMPAT_EN : Fld := ⟨.CK_COMPAT, 0, 1⟩
/-- CK_COMPAT.ADDR[7:1] (R323). -/
@[simp] abbrev F.CK_COMPAT_ADDR : Fld := ⟨.CK_COMPAT, 1, 7⟩
/-- CK_COMPAT.TVC[15:8] (R323). -/
@[simp] abbrev F.CK_COMPAT_TVC : Fld := ⟨.CK_COMPAT, 8, 8⟩
/-- CK_CSTEP.SBY[1:0] (R323). -/
@[simp] abbrev F.CK_CSTEP_SBY : Fld := ⟨.CK_CSTEP, 0, 2⟩
/-- CK_CSTEP.FAILS[3:2] (R323). -/
@[simp] abbrev F.CK_CSTEP_FAILS : Fld := ⟨.CK_CSTEP, 2, 2⟩
/-- CK_CVOLT.V0[9:0] (R323). -/
@[simp] abbrev F.CK_CVOLT_V0 : Fld := ⟨.CK_CVOLT, 0, 10⟩
/-- CK_CVOLT.V1[19:10] (R323). -/
@[simp] abbrev F.CK_CVOLT_V1 : Fld := ⟨.CK_CVOLT, 10, 10⟩
/-- CK_CVOLT.V2[29:20] (R323). -/
@[simp] abbrev F.CK_CVOLT_V2 : Fld := ⟨.CK_CVOLT, 20, 10⟩
/-- CK_GATE.RUN[0:0] (R323). -/
@[simp] abbrev F.CK_GATE_RUN (b : Fin 15) : Fld := ⟨.CK_GATE b, 0, 1⟩
/-- CK_GATE.SLEEP[1:1] (R323). -/
@[simp] abbrev F.CK_GATE_SLEEP (b : Fin 15) : Fld := ⟨.CK_GATE b, 1, 1⟩
/-- CK_GATE.DEEP[2:2] (R323). -/
@[simp] abbrev F.CK_GATE_DEEP (b : Fin 15) : Fld := ⟨.CK_GATE b, 2, 1⟩
/-- CK_PWM.DIV[13:0] (R62). -/
@[simp] abbrev F.CK_PWM_DIV : Fld := ⟨.CK_PWM, 0, 14⟩
/-- CK_SYNC.SYNCEN[0:0] (R66). -/
@[simp] abbrev F.CK_SYNC_SYNCEN : Fld := ⟨.CK_SYNC, 0, 1⟩
/-- CK_SYNC.OUTEN[1:1] (R66). -/
@[simp] abbrev F.CK_SYNC_OUTEN : Fld := ⟨.CK_SYNC, 1, 1⟩
/-- CK_SYNC.OFFS[15:8] (R66). -/
@[simp] abbrev F.CK_SYNC_OFFS : Fld := ⟨.CK_SYNC, 8, 8⟩
/-- CK_SYNCST.LOCK[0:0] (R66). -/
@[simp] abbrev F.CK_SYNCST_LOCK : Fld := ⟨.CK_SYNCST, 0, 1⟩
/-- CK_SYNCST.SLEW[1:1] (R66). -/
@[simp] abbrev F.CK_SYNCST_SLEW : Fld := ⟨.CK_SYNCST, 1, 1⟩
/-- CK_SYNCST.OOW[2:2] (R66). -/
@[simp] abbrev F.CK_SYNCST_OOW : Fld := ⟨.CK_SYNCST, 2, 1⟩
/-- CK_SYNCST.LOST[3:3] (R66). -/
@[simp] abbrev F.CK_SYNCST_LOST : Fld := ⟨.CK_SYNCST, 3, 1⟩
/-- CK_SYNCST.PER[31:16] (R66). -/
@[simp] abbrev F.CK_SYNCST_PER : Fld := ⟨.CK_SYNCST, 16, 16⟩
/-- EV_CTL.WAKESEV[1:0] (R343). -/
@[simp] abbrev F.EV_CTL_WAKESEV : Fld := ⟨.EV_CTL, 0, 2⟩
/-- EV_STAT.AQN[6:0] (R343). -/
@[simp] abbrev F.EV_STAT_AQN : Fld := ⟨.EV_STAT, 0, 7⟩
/-- EV_STAT.AQOVF[7:7] (R343). -/
@[simp] abbrev F.EV_STAT_AQOVF : Fld := ⟨.EV_STAT, 7, 1⟩
/-- EV_STAT.NSKIP[8:8] (R343). -/
@[simp] abbrev F.EV_STAT_NSKIP : Fld := ⟨.EV_STAT, 8, 1⟩
/-- EV_STAT.AQLOST[15:9] (R343). -/
@[simp] abbrev F.EV_STAT_AQLOST : Fld := ⟨.EV_STAT, 9, 7⟩
/-- EV_STAT.DROP[31:16] (R343). -/
@[simp] abbrev F.EV_STAT_DROP : Fld := ⟨.EV_STAT, 16, 16⟩
/-- EV_PEND.PEND[31:0] (R343). -/
@[simp] abbrev F.EV_PEND_PEND (w : Fin 16) : Fld := ⟨.EV_PEND w, 0, 32⟩
/-- EV_MASK.MASK[31:0] (R343). -/
@[simp] abbrev F.EV_MASK_MASK (w : Fin 16) : Fld := ⟨.EV_MASK w, 0, 32⟩
/-- EV_CFG.HRDYSEV[2:0] (R343). -/
@[simp] abbrev F.EV_CFG_HRDYSEV (n : Fin 512) : Fld := ⟨.EV_CFG n, 0, 3⟩
/-- EV_CFG.ASLPSEV[6:4] (R343). -/
@[simp] abbrev F.EV_CFG_ASLPSEV (n : Fin 512) : Fld := ⟨.EV_CFG n, 4, 3⟩
/-- EV_CFG.NTFYSEV[10:8] (R343). -/
@[simp] abbrev F.EV_CFG_NTFYSEV (n : Fin 512) : Fld := ⟨.EV_CFG n, 8, 3⟩
/-- EV_CFG.VLTSEV[14:12] (R343). -/
@[simp] abbrev F.EV_CFG_VLTSEV (n : Fin 512) : Fld := ⟨.EV_CFG n, 12, 3⟩
/-- EV_CFG.COUNT[31:16] (R343). -/
@[simp] abbrev F.EV_CFG_COUNT (n : Fin 512) : Fld := ⟨.EV_CFG n, 16, 16⟩
/-- SQ_CTL.AUTO[0:0] (R302). -/
@[simp] abbrev F.SQ_CTL_AUTO : Fld := ⟨.SQ_CTL, 0, 1⟩
/-- SQ_CTL.TMINOFF[15:8] (R302). -/
@[simp] abbrev F.SQ_CTL_TMINOFF : Fld := ⟨.SQ_CTL, 8, 8⟩
/-- SQ_CMD.UP[0:0] (R302). -/
@[simp] abbrev F.SQ_CMD_UP : Fld := ⟨.SQ_CMD, 0, 1⟩
/-- SQ_CMD.DOWN[1:1] (R302). -/
@[simp] abbrev F.SQ_CMD_DOWN : Fld := ⟨.SQ_CMD, 1, 1⟩
/-- SQ_CMD.SAVE[2:2] (R302). -/
@[simp] abbrev F.SQ_CMD_SAVE : Fld := ⟨.SQ_CMD, 2, 1⟩
/-- SQ_CMD.SRST[31:16] (R302). -/
@[simp] abbrev F.SQ_CMD_SRST : Fld := ⟨.SQ_CMD, 16, 16⟩
/-- SQ_STAT.SEQ[1:0] (R302). -/
@[simp] abbrev F.SQ_STAT_SEQ : Fld := ⟨.SQ_STAT, 0, 2⟩
/-- SQ_STAT.PENDUP[2:2] (R302). -/
@[simp] abbrev F.SQ_STAT_PENDUP : Fld := ⟨.SQ_STAT, 2, 1⟩
/-- SQ_STAT.SAVING[3:3] (R302). -/
@[simp] abbrev F.SQ_STAT_SAVING : Fld := ⟨.SQ_STAT, 3, 1⟩
/-- SQ_STAT.GOOD[31:8] (R302). -/
@[simp] abbrev F.SQ_STAT_GOOD : Fld := ⟨.SQ_STAT, 8, 24⟩
/-- SQ_BOOT.RESULT[1:0] (R302). -/
@[simp] abbrev F.SQ_BOOT_RESULT : Fld := ⟨.SQ_BOOT, 0, 2⟩
/-- SQ_BOOT.CFGALT[2:2] (R302). -/
@[simp] abbrev F.SQ_BOOT_CFGALT : Fld := ⟨.SQ_BOOT, 2, 1⟩
/-- SQ_BOOT.CFGDEF[3:3] (R302). -/
@[simp] abbrev F.SQ_BOOT_CFGDEF : Fld := ⟨.SQ_BOOT, 3, 1⟩
/-- SQ_BOOT.RSTCAUSE[6:4] (R302). -/
@[simp] abbrev F.SQ_BOOT_RSTCAUSE : Fld := ⟨.SQ_BOOT, 4, 3⟩
/-- SQ_BOOT.LASTFAIL[12:8] (R302). -/
@[simp] abbrev F.SQ_BOOT_LASTFAIL : Fld := ⟨.SQ_BOOT, 8, 5⟩
/-- SQ_BOOT.ATTEMPTS[15:13] (R302). -/
@[simp] abbrev F.SQ_BOOT_ATTEMPTS : Fld := ⟨.SQ_BOOT, 13, 3⟩
/-- SQ_WDI.TMO[15:0] (R302). -/
@[simp] abbrev F.SQ_WDI_TMO : Fld := ⟨.SQ_WDI, 0, 16⟩
/-- SQ_WDI.RESP[17:16] (R302). -/
@[simp] abbrev F.SQ_WDI_RESP : Fld := ⟨.SQ_WDI, 16, 2⟩
/-- SQ_WDI.ARMED[18:18] (R302). -/
@[simp] abbrev F.SQ_WDI_ARMED : Fld := ⟨.SQ_WDI, 18, 1⟩
/-- SQ_WDI.EXP[19:19] (R302). -/
@[simp] abbrev F.SQ_WDI_EXP : Fld := ⟨.SQ_WDI, 19, 1⟩
/-- SQ_ROFF.HOLD[23:5] (R433). -/
@[simp] abbrev F.SQ_ROFF_HOLD : Fld := ⟨.SQ_ROFF, 5, 19⟩
/-- SQ_RCFG.EN[4:0] (R303). -/
@[simp] abbrev F.SQ_RCFG_EN (e : Fin 24) : Fld := ⟨.SQ_RCFG e, 0, 5⟩
/-- SQ_RCFG.USE[5:5] (R303). -/
@[simp] abbrev F.SQ_RCFG_USE (e : Fin 24) : Fld := ⟨.SQ_RCFG e, 5, 1⟩
/-- SQ_RCFG.CARD[6:6] (R303). -/
@[simp] abbrev F.SQ_RCFG_CARD (e : Fin 24) : Fld := ⟨.SQ_RCFG e, 6, 1⟩
/-- SQ_RCFG.SAFE[7:7] (R303). -/
@[simp] abbrev F.SQ_RCFG_SAFE (e : Fin 24) : Fld := ⟨.SQ_RCFG e, 7, 1⟩
/-- SQ_RCFG.GRP[10:8] (R303). -/
@[simp] abbrev F.SQ_RCFG_GRP (e : Fin 24) : Fld := ⟨.SQ_RCFG e, 8, 3⟩
/-- SQ_RCFG.RESP[12:11] (R303). -/
@[simp] abbrev F.SQ_RCFG_RESP (e : Fin 24) : Fld := ⟨.SQ_RCFG e, 11, 2⟩
/-- SQ_RCFG.RETRY[15:13] (R303). -/
@[simp] abbrev F.SQ_RCFG_RETRY (e : Fin 24) : Fld := ⟨.SQ_RCFG e, 13, 3⟩
/-- SQ_RDEP.DEP[23:0] (R303). -/
@[simp] abbrev F.SQ_RDEP_DEP (e : Fin 24) : Fld := ⟨.SQ_RDEP e, 0, 24⟩
/-- SQ_RNOM.NOM[15:0] (R303). -/
@[simp] abbrev F.SQ_RNOM_NOM (e : Fin 24) : Fld := ⟨.SQ_RNOM e, 0, 16⟩
/-- SQ_RNOM.UV[23:16] (R303). -/
@[simp] abbrev F.SQ_RNOM_UV (e : Fin 24) : Fld := ⟨.SQ_RNOM e, 16, 8⟩
/-- SQ_RNOM.OV[31:24] (R303). -/
@[simp] abbrev F.SQ_RNOM_OV (e : Fin 24) : Fld := ⟨.SQ_RNOM e, 24, 8⟩
/-- SQ_RTIM.TRMIN[7:0] (R303). -/
@[simp] abbrev F.SQ_RTIM_TRMIN (e : Fin 24) : Fld := ⟨.SQ_RTIM e, 0, 8⟩
/-- SQ_RTIM.TRMAX[15:8] (R303). -/
@[simp] abbrev F.SQ_RTIM_TRMAX (e : Fin 24) : Fld := ⟨.SQ_RTIM e, 8, 8⟩
/-- SQ_RTIM.TDLY[23:16] (R303). -/
@[simp] abbrev F.SQ_RTIM_TDLY (e : Fin 24) : Fld := ⟨.SQ_RTIM e, 16, 8⟩
/-- SQ_RTIM.TOFF[31:24] (R303). -/
@[simp] abbrev F.SQ_RTIM_TOFF (e : Fin 24) : Fld := ⟨.SQ_RTIM e, 24, 8⟩
/-- SQ_RSTAT.STATE[2:0] (R303). -/
@[simp] abbrev F.SQ_RSTAT_STATE (e : Fin 24) : Fld := ⟨.SQ_RSTAT e, 0, 3⟩
/-- SQ_RSTAT.PREB[3:3] (R303). -/
@[simp] abbrev F.SQ_RSTAT_PREB (e : Fin 24) : Fld := ⟨.SQ_RSTAT e, 3, 1⟩
/-- SQ_RSTAT.TRIES[6:4] (R303). -/
@[simp] abbrev F.SQ_RSTAT_TRIES (e : Fin 24) : Fld := ⟨.SQ_RSTAT e, 4, 3⟩
/-- SQ_RSTAT.TRAMP[15:8] (R303). -/
@[simp] abbrev F.SQ_RSTAT_TRAMP (e : Fin 24) : Fld := ⟨.SQ_RSTAT e, 8, 8⟩
/-- SQ_RSTAT.V[31:16] (R303). -/
@[simp] abbrev F.SQ_RSTAT_V (e : Fin 24) : Fld := ⟨.SQ_RSTAT e, 16, 16⟩
/-- SQ_RFLT.SLOW[0:0] (R303). -/
@[simp] abbrev F.SQ_RFLT_SLOW (e : Fin 24) : Fld := ⟨.SQ_RFLT e, 0, 1⟩
/-- SQ_RFLT.FAST[1:1] (R303). -/
@[simp] abbrev F.SQ_RFLT_FAST (e : Fin 24) : Fld := ⟨.SQ_RFLT e, 1, 1⟩
/-- SQ_RFLT.UV[2:2] (R303). -/
@[simp] abbrev F.SQ_RFLT_UV (e : Fin 24) : Fld := ⟨.SQ_RFLT e, 2, 1⟩
/-- SQ_RFLT.OV[3:3] (R303). -/
@[simp] abbrev F.SQ_RFLT_OV (e : Fin 24) : Fld := ⟨.SQ_RFLT e, 3, 1⟩
/-- SQ_RFLT.DNSLOW[4:4] (R303). -/
@[simp] abbrev F.SQ_RFLT_DNSLOW (e : Fin 24) : Fld := ⟨.SQ_RFLT e, 4, 1⟩
/-- SQ_RFLT.DEP[5:5] (R303). -/
@[simp] abbrev F.SQ_RFLT_DEP (e : Fin 24) : Fld := ⟨.SQ_RFLT e, 5, 1⟩
/-- FD_SEL.MODE[1:0] (R242). -/
@[simp] abbrev F.FD_SEL_MODE : Fld := ⟨.FD_SEL, 0, 2⟩
/-- FD_SEL.RETA[2:2] (R242). -/
@[simp] abbrev F.FD_SEL_RETA : Fld := ⟨.FD_SEL, 2, 1⟩
/-- FD_SEL.OCFO[3:3] (R242). -/
@[simp] abbrev F.FD_SEL_OCFO : Fld := ⟨.FD_SEL, 3, 1⟩
/-- FD_SEL.SERV[9:8] (R242). -/
@[simp] abbrev F.FD_SEL_SERV : Fld := ⟨.FD_SEL, 8, 2⟩
/-- FD_QUAL.QUAL[15:0] (R242). -/
@[simp] abbrev F.FD_QUAL_QUAL : Fld := ⟨.FD_QUAL, 0, 16⟩
/-- FD_CMAX.CMAX[15:0] (R242). -/
@[simp] abbrev F.FD_CMAX_CMAX : Fld := ⟨.FD_CMAX, 0, 16⟩
/-- FD_CBUS.C[15:0] (R242). -/
@[simp] abbrev F.FD_CBUS_C : Fld := ⟨.FD_CBUS, 0, 16⟩
/-- FD_CBUS.VALID[16:16] (R242). -/
@[simp] abbrev F.FD_CBUS_VALID : Fld := ⟨.FD_CBUS, 16, 1⟩
/-- FD_CBUS.OVER[17:17] (R242). -/
@[simp] abbrev F.FD_CBUS_OVER : Fld := ⟨.FD_CBUS, 17, 1⟩
/-- FD_CBUS.LAST[20:18] (R242). -/
@[simp] abbrev F.FD_CBUS_LAST : Fld := ⟨.FD_CBUS, 18, 3⟩
/-- FD_CBUS.FEED[21:21] (R242). -/
@[simp] abbrev F.FD_CBUS_FEED : Fld := ⟨.FD_CBUS, 21, 1⟩
/-- FD_BUSV.V[31:0] (R242). -/
@[simp] abbrev F.FD_BUSV_V : Fld := ⟨.FD_BUSV, 0, 32⟩
/-- FD_CNT.CHG[15:0] (R242). -/
@[simp] abbrev F.FD_CNT_CHG : Fld := ⟨.FD_CNT, 0, 16⟩
/-- FD_FCFG.UV[7:0] (R243). -/
@[simp] abbrev F.FD_FCFG_UV (f : Fin 2) : Fld := ⟨.FD_FCFG f, 0, 8⟩
/-- FD_FCFG.OV[15:8] (R243). -/
@[simp] abbrev F.FD_FCFG_OV (f : Fin 2) : Fld := ⟨.FD_FCFG f, 8, 8⟩
/-- FD_FCFG.TFLT[23:16] (R243). -/
@[simp] abbrev F.FD_FCFG_TFLT (f : Fin 2) : Fld := ⟨.FD_FCFG f, 16, 8⟩
/-- FD_FCFG.EN[24:24] (R243). -/
@[simp] abbrev F.FD_FCFG_EN (f : Fin 2) : Fld := ⟨.FD_FCFG f, 24, 1⟩
/-- FD_ILIM.RUN[11:0] (R243). -/
@[simp] abbrev F.FD_ILIM_RUN (f : Fin 2) : Fld := ⟨.FD_ILIM f, 0, 12⟩
/-- FD_ILIM.PLIM[23:12] (R243). -/
@[simp] abbrev F.FD_ILIM_PLIM (f : Fin 2) : Fld := ⟨.FD_ILIM f, 12, 12⟩
/-- FD_ILIM.REV[31:24] (R243). -/
@[simp] abbrev F.FD_ILIM_REV (f : Fin 2) : Fld := ⟨.FD_ILIM f, 24, 8⟩
/-- FD_RSH.RSH[31:0] (R243). -/
@[simp] abbrev F.FD_RSH_RSH (f : Fin 2) : Fld := ⟨.FD_RSH f, 0, 32⟩
/-- FD_FSTAT.STATE[2:0] (R243). -/
@[simp] abbrev F.FD_FSTAT_STATE (f : Fin 2) : Fld := ⟨.FD_FSTAT f, 0, 3⟩
/-- FD_FSTAT.PG[3:3] (R243). -/
@[simp] abbrev F.FD_FSTAT_PG (f : Fin 2) : Fld := ⟨.FD_FSTAT f, 3, 1⟩
/-- FD_FSTAT.LIM[4:4] (R243). -/
@[simp] abbrev F.FD_FSTAT_LIM (f : Fin 2) : Fld := ⟨.FD_FSTAT f, 4, 1⟩
/-- FD_FSTAT.BOUNCE[11:8] (R243). -/
@[simp] abbrev F.FD_FSTAT_BOUNCE (f : Fin 2) : Fld := ⟨.FD_FSTAT f, 8, 4⟩
/-- FD_FSTAT.LOCKLEFT[23:16] (R243). -/
@[simp] abbrev F.FD_FSTAT_LOCKLEFT (f : Fin 2) : Fld := ⟨.FD_FSTAT f, 16, 8⟩
/-- FD_FSTAT.TIMER[31:24] (R243). -/
@[simp] abbrev F.FD_FSTAT_TIMER (f : Fin 2) : Fld := ⟨.FD_FSTAT f, 24, 8⟩
/-- FD_FLT.TMR[0:0] (R243). -/
@[simp] abbrev F.FD_FLT_TMR (f : Fin 2) : Fld := ⟨.FD_FLT f, 0, 1⟩
/-- FD_FLT.REV[1:1] (R243). -/
@[simp] abbrev F.FD_FLT_REV (f : Fin 2) : Fld := ⟨.FD_FLT f, 1, 1⟩
/-- FD_FLT.SHIN[2:2] (R243). -/
@[simp] abbrev F.FD_FLT_SHIN (f : Fin 2) : Fld := ⟨.FD_FLT f, 2, 1⟩
/-- FD_FLT.SHBUS[3:3] (R243). -/
@[simp] abbrev F.FD_FLT_SHBUS (f : Fin 2) : Fld := ⟨.FD_FLT f, 3, 1⟩
/-- FD_FLT.GATE[4:4] (R243). -/
@[simp] abbrev F.FD_FLT_GATE (f : Fin 2) : Fld := ⟨.FD_FLT f, 4, 1⟩
/-- FD_FLT.LOCK[5:5] (R243). -/
@[simp] abbrev F.FD_FLT_LOCK (f : Fin 2) : Fld := ⟨.FD_FLT f, 5, 1⟩
/-- FD_FLT.TRIPS[31:16] (R243). -/
@[simp] abbrev F.FD_FLT_TRIPS (f : Fin 2) : Fld := ⟨.FD_FLT f, 16, 16⟩
/-- FD_V.V[31:0] (R243). -/
@[simp] abbrev F.FD_V_V (f : Fin 2) : Fld := ⟨.FD_V f, 0, 32⟩
/-- FD_I.I[31:0] (R243). -/
@[simp] abbrev F.FD_I_I (f : Fin 2) : Fld := ⟨.FD_I f, 0, 32⟩
/-- FD_P.P[31:0] (R243). -/
@[simp] abbrev F.FD_P_P (f : Fin 2) : Fld := ⟨.FD_P f, 0, 32⟩
/-- FD_EIN.E[31:0] (R243). -/
@[simp] abbrev F.FD_EIN_E (f : Fin 2) : Fld := ⟨.FD_EIN f, 0, 32⟩
/-- FD_EINH.E[31:0] (R243). -/
@[simp] abbrev F.FD_EINH_E (f : Fin 2) : Fld := ⟨.FD_EINH f, 0, 32⟩
/-- FD_EOUT.E[31:0] (R243). -/
@[simp] abbrev F.FD_EOUT_E (f : Fin 2) : Fld := ⟨.FD_EOUT f, 0, 32⟩
/-- FD_EOUTH.E[31:0] (R243). -/
@[simp] abbrev F.FD_EOUTH_E (f : Fin 2) : Fld := ⟨.FD_EOUTH f, 0, 32⟩
/-- HU_CTL.EN[0:0] (R268). -/
@[simp] abbrev F.HU_CTL_EN : Fld := ⟨.HU_CTL, 0, 1⟩
/-- HU_CTL.CHGEN[1:1] (R268). -/
@[simp] abbrev F.HU_CTL_CHGEN : Fld := ⟨.HU_CTL, 1, 1⟩
/-- HU_CTL.HALT[2:2] (R268). -/
@[simp] abbrev F.HU_CTL_HALT : Fld := ⟨.HU_CTL, 2, 1⟩
/-- HU_CTL.REST[3:3] (R268). -/
@[simp] abbrev F.HU_CTL_REST : Fld := ⟨.HU_CTL, 3, 1⟩
/-- HU_STAT.PATH[2:0] (R268). -/
@[simp] abbrev F.HU_STAT_PATH : Fld := ⟨.HU_STAT, 0, 3⟩
/-- HU_STAT.LIM[3:3] (R268). -/
@[simp] abbrev F.HU_STAT_LIM : Fld := ⟨.HU_STAT, 3, 1⟩
/-- HU_STAT.CHG[6:4] (R268). -/
@[simp] abbrev F.HU_STAT_CHG : Fld := ⟨.HU_STAT, 4, 3⟩
/-- HU_STAT.FOLD[7:7] (R268). -/
@[simp] abbrev F.HU_STAT_FOLD : Fld := ⟨.HU_STAT, 7, 1⟩
/-- HU_STAT.FALLBK[8:8] (R268). -/
@[simp] abbrev F.HU_STAT_FALLBK : Fld := ⟨.HU_STAT, 8, 1⟩
/-- HU_STAT.PRESENT[9:9] (R268). -/
@[simp] abbrev F.HU_STAT_PRESENT : Fld := ⟨.HU_STAT, 9, 1⟩
/-- HU_FLT.MISS[0:0] (R268). -/
@[simp] abbrev F.HU_FLT_MISS : Fld := ⟨.HU_FLT, 0, 1⟩
/-- HU_FLT.SHORT[1:1] (R268). -/
@[simp] abbrev F.HU_FLT_SHORT : Fld := ⟨.HU_FLT, 1, 1⟩
/-- HU_FLT.TSAFE[2:2] (R268). -/
@[simp] abbrev F.HU_FLT_TSAFE : Fld := ⟨.HU_FLT, 2, 1⟩
/-- HU_FLT.STRAP[3:3] (R268). -/
@[simp] abbrev F.HU_FLT_STRAP : Fld := ⟨.HU_FLT, 3, 1⟩
/-- HU_FLT.UVCUT[4:4] (R268). -/
@[simp] abbrev F.HU_FLT_UVCUT : Fld := ⟨.HU_FLT, 4, 1⟩
/-- HU_FLT.PREF[5:5] (R268). -/
@[simp] abbrev F.HU_FLT_PREF : Fld := ⟨.HU_FLT, 5, 1⟩
/-- HU_FLT.DLIM[6:6] (R268). -/
@[simp] abbrev F.HU_FLT_DLIM : Fld := ⟨.HU_FLT, 6, 1⟩
/-- HU_FLT.MON[7:7] (R268). -/
@[simp] abbrev F.HU_FLT_MON : Fld := ⟨.HU_FLT, 7, 1⟩
/-- HU_FLT.WDT[8:8] (R268). -/
@[simp] abbrev F.HU_FLT_WDT : Fld := ⟨.HU_FLT, 8, 1⟩
/-- HU_INTM.MISS[0:0] (R268). -/
@[simp] abbrev F.HU_INTM_MISS : Fld := ⟨.HU_INTM, 0, 1⟩
/-- HU_INTM.SHORT[1:1] (R268). -/
@[simp] abbrev F.HU_INTM_SHORT : Fld := ⟨.HU_INTM, 1, 1⟩
/-- HU_INTM.TSAFE[2:2] (R268). -/
@[simp] abbrev F.HU_INTM_TSAFE : Fld := ⟨.HU_INTM, 2, 1⟩
/-- HU_INTM.STRAP[3:3] (R268). -/
@[simp] abbrev F.HU_INTM_STRAP : Fld := ⟨.HU_INTM, 3, 1⟩
/-- HU_INTM.UVCUT[4:4] (R268). -/
@[simp] abbrev F.HU_INTM_UVCUT : Fld := ⟨.HU_INTM, 4, 1⟩
/-- HU_INTM.PREF[5:5] (R268). -/
@[simp] abbrev F.HU_INTM_PREF : Fld := ⟨.HU_INTM, 5, 1⟩
/-- HU_INTM.DLIM[6:6] (R268). -/
@[simp] abbrev F.HU_INTM_DLIM : Fld := ⟨.HU_INTM, 6, 1⟩
/-- HU_INTM.MON[7:7] (R268). -/
@[simp] abbrev F.HU_INTM_MON : Fld := ⟨.HU_INTM, 7, 1⟩
/-- HU_INTM.WDT[8:8] (R268). -/
@[simp] abbrev F.HU_INTM_WDT : Fld := ⟨.HU_INTM, 8, 1⟩
/-- HU_STRAP.NCODE[3:0] (R268). -/
@[simp] abbrev F.HU_STRAP_NCODE : Fld := ⟨.HU_STRAP, 0, 4⟩
/-- HU_STRAP.VCODE[7:4] (R268). -/
@[simp] abbrev F.HU_STRAP_VCODE : Fld := ⟨.HU_STRAP, 4, 4⟩
/-- HU_STRAP.N[12:8] (R268). -/
@[simp] abbrev F.HU_STRAP_N : Fld := ⟨.HU_STRAP, 8, 5⟩
/-- HU_STRAP.CEIL[31:16] (R268). -/
@[simp] abbrev F.HU_STRAP_CEIL : Fld := ⟨.HU_STRAP, 16, 16⟩
/-- HU_CHG.ICHG[15:0] (R268). -/
@[simp] abbrev F.HU_CHG_ICHG : Fld := ⟨.HU_CHG, 0, 16⟩
/-- HU_CHG.ITERM[31:16] (R268). -/
@[simp] abbrev F.HU_CHG_ITERM : Fld := ⟨.HU_CHG, 16, 16⟩
/-- HU_VREG.VREG[15:0] (R268). -/
@[simp] abbrev F.HU_VREG_VREG : Fld := ⟨.HU_VREG, 0, 16⟩
/-- HU_VREG.MARG[23:16] (R268). -/
@[simp] abbrev F.HU_VREG_MARG : Fld := ⟨.HU_VREG, 16, 8⟩
/-- HU_VREG.VRECH[31:24] (R268). -/
@[simp] abbrev F.HU_VREG_VRECH : Fld := ⟨.HU_VREG, 24, 8⟩
/-- HU_ACC.IACC[11:0] (R268). -/
@[simp] abbrev F.HU_ACC_IACC : Fld := ⟨.HU_ACC, 0, 12⟩
/-- HU_ACC.VBMIN[19:12] (R268). -/
@[simp] abbrev F.HU_ACC_VBMIN : Fld := ⟨.HU_ACC, 12, 8⟩
/-- HU_ACC.PMAX[31:20] (R268). -/
@[simp] abbrev F.HU_ACC_PMAX : Fld := ⟨.HU_ACC, 20, 12⟩
/-- HU_TEMP.TFOLD[7:0] (R268). -/
@[simp] abbrev F.HU_TEMP_TFOLD : Fld := ⟨.HU_TEMP, 0, 8⟩
/-- HU_TEMP.TSTOP[15:8] (R268). -/
@[simp] abbrev F.HU_TEMP_TSTOP : Fld := ⟨.HU_TEMP, 8, 8⟩
/-- HU_TEMP.TLOW[23:16] (R268). -/
@[simp] abbrev F.HU_TEMP_TLOW : Fld := ⟨.HU_TEMP, 16, 8⟩
/-- HU_TEMP.TTAPER[31:24] (R268). -/
@[simp] abbrev F.HU_TEMP_TTAPER : Fld := ⟨.HU_TEMP, 24, 8⟩
/-- HU_DLIM.ILIM[15:0] (R268). -/
@[simp] abbrev F.HU_DLIM_ILIM : Fld := ⟨.HU_DLIM, 0, 16⟩
/-- HU_DLIM.DET[23:16] (R268). -/
@[simp] abbrev F.HU_DLIM_DET : Fld := ⟨.HU_DLIM, 16, 8⟩
/-- HU_DLIM.TLIM[31:24] (R268). -/
@[simp] abbrev F.HU_DLIM_TLIM : Fld := ⟨.HU_DLIM, 24, 8⟩
/-- HU_RIDE.PDMAX[15:0] (R268). -/
@[simp] abbrev F.HU_RIDE_PDMAX : Fld := ⟨.HU_RIDE, 0, 16⟩
/-- HU_RIDE.TMAX[23:16] (R268). -/
@[simp] abbrev F.HU_RIDE_TMAX : Fld := ⟨.HU_RIDE, 16, 8⟩
/-- HU_RIDE.VHALT[31:24] (R268). -/
@[simp] abbrev F.HU_RIDE_VHALT : Fld := ⟨.HU_RIDE, 24, 8⟩
/-- HU_RSH.RSH[31:0] (R268). -/
@[simp] abbrev F.HU_RSH_RSH : Fld := ⟨.HU_RSH, 0, 32⟩
/-- HU_PRECFG.TPRE[7:0] (R268). -/
@[simp] abbrev F.HU_PRECFG_TPRE : Fld := ⟨.HU_PRECFG, 0, 8⟩
/-- HU_TIMER.TSAFE[15:0] (R268). -/
@[simp] abbrev F.HU_TIMER_TSAFE : Fld := ⟨.HU_TIMER, 0, 16⟩
/-- HU_TIMER.ELAPSED[31:16] (R268). -/
@[simp] abbrev F.HU_TIMER_ELAPSED : Fld := ⟨.HU_TIMER, 16, 16⟩
/-- HU_WDT.KEY[15:0] (R268). -/
@[simp] abbrev F.HU_WDT_KEY : Fld := ⟨.HU_WDT, 0, 16⟩
/-- HU_WDT.ARMED[16:16] (R268). -/
@[simp] abbrev F.HU_WDT_ARMED : Fld := ⟨.HU_WDT, 16, 1⟩
/-- HU_WDT.FALLBK[17:17] (R268). -/
@[simp] abbrev F.HU_WDT_FALLBK : Fld := ⟨.HU_WDT, 17, 1⟩
/-- HU_WDT.LEFT[31:24] (R268). -/
@[simp] abbrev F.HU_WDT_LEFT : Fld := ⟨.HU_WDT, 24, 8⟩
/-- HU_V.V[31:0] (R268). -/
@[simp] abbrev F.HU_V_V : Fld := ⟨.HU_V, 0, 32⟩
/-- HU_I.I[31:0] (R268). -/
@[simp] abbrev F.HU_I_I : Fld := ⟨.HU_I, 0, 32⟩
/-- HU_T.T[31:0] (R268). -/
@[simp] abbrev F.HU_T_T : Fld := ⟨.HU_T, 0, 32⟩
/-- HU_GG_SOC.SOC[7:0] (R268). -/
@[simp] abbrev F.HU_GG_SOC_SOC : Fld := ⟨.HU_GG_SOC, 0, 8⟩
/-- HU_GG_SOC.EST[15:8] (R268). -/
@[simp] abbrev F.HU_GG_SOC_EST : Fld := ⟨.HU_GG_SOC, 8, 8⟩
/-- HU_GG_SOC.CONF[23:16] (R268). -/
@[simp] abbrev F.HU_GG_SOC_CONF : Fld := ⟨.HU_GG_SOC, 16, 8⟩
/-- HU_GG_SOC.UNREST[24:24] (R268). -/
@[simp] abbrev F.HU_GG_SOC_UNREST : Fld := ⟨.HU_GG_SOC, 24, 1⟩
/-- HU_GG_SOC.DISAGREE[25:25] (R268). -/
@[simp] abbrev F.HU_GG_SOC_DISAGREE : Fld := ⟨.HU_GG_SOC, 25, 1⟩
/-- HU_GG_SOC.NOREF[26:26] (R268). -/
@[simp] abbrev F.HU_GG_SOC_NOREF : Fld := ⟨.HU_GG_SOC, 26, 1⟩
/-- HU_GG_CAP.CAP[23:0] (R268). -/
@[simp] abbrev F.HU_GG_CAP_CAP : Fld := ⟨.HU_GG_CAP, 0, 24⟩
/-- HU_GG_RPACK.RPACK[15:0] (R268). -/
@[simp] abbrev F.HU_GG_RPACK_RPACK : Fld := ⟨.HU_GG_RPACK, 0, 16⟩
/-- HU_GG_STATE.W[31:0] (R268). -/
@[simp] abbrev F.HU_GG_STATE_W (w : Fin 4) : Fld := ⟨.HU_GG_STATE w, 0, 32⟩
/-- HU_GG_RESTORE.W[31:0] (R268). -/
@[simp] abbrev F.HU_GG_RESTORE_W (w : Fin 4) : Fld := ⟨.HU_GG_RESTORE w, 0, 32⟩
/-- HU_OCV.PL[15:0] (R268). -/
@[simp] abbrev F.HU_OCV_PL (w : Fin 8) : Fld := ⟨.HU_OCV w, 0, 16⟩
/-- HU_OCV.PH[31:16] (R268). -/
@[simp] abbrev F.HU_OCV_PH (w : Fin 8) : Fld := ⟨.HU_OCV w, 16, 16⟩
/-- LG_CTL.RMEN[0:0] (R225). -/
@[simp] abbrev F.LG_CTL_RMEN : Fld := ⟨.LG_CTL, 0, 1⟩
/-- LG_CTL.DIVEN[1:1] (R225). -/
@[simp] abbrev F.LG_CTL_DIVEN : Fld := ⟨.LG_CTL, 1, 1⟩
/-- LG_CTL.RISE[15:8] (R225). -/
@[simp] abbrev F.LG_CTL_RISE : Fld := ⟨.LG_CTL, 8, 8⟩
/-- LG_CTL.RMTMO[23:16] (R225). -/
@[simp] abbrev F.LG_CTL_RMTMO : Fld := ⟨.LG_CTL, 16, 8⟩
/-- LG_CAP_W.CAP[23:0] (R225). -/
@[simp] abbrev F.LG_CAP_W_CAP : Fld := ⟨.LG_CAP_W, 0, 24⟩
/-- LG_REGEN_W.REGEN[23:0] (R225). -/
@[simp] abbrev F.LG_REGEN_W_REGEN : Fld := ⟨.LG_REGEN_W, 0, 24⟩
/-- LG_CAP_RM.CAP[23:0] (R225). -/
@[simp] abbrev F.LG_CAP_RM_CAP : Fld := ⟨.LG_CAP_RM, 0, 24⟩
/-- LG_CAP_RM.VALID[24:24] (R225). -/
@[simp] abbrev F.LG_CAP_RM_VALID : Fld := ⟨.LG_CAP_RM, 24, 1⟩
/-- LG_CAPEFF.CAP[23:0] (R225). -/
@[simp] abbrev F.LG_CAPEFF_CAP : Fld := ⟨.LG_CAPEFF, 0, 24⟩
/-- LG_CAPEFF.SRC[26:24] (R225). -/
@[simp] abbrev F.LG_CAPEFF_SRC : Fld := ⟨.LG_CAPEFF, 24, 3⟩
/-- LG_CLASS_FLOOR.F0[7:0] (R225). -/
@[simp] abbrev F.LG_CLASS_FLOOR_F0 : Fld := ⟨.LG_CLASS_FLOOR, 0, 8⟩
/-- LG_CLASS_FLOOR.F1[15:8] (R225). -/
@[simp] abbrev F.LG_CLASS_FLOOR_F1 : Fld := ⟨.LG_CLASS_FLOOR, 8, 8⟩
/-- LG_CLASS_FLOOR.F2[23:16] (R225). -/
@[simp] abbrev F.LG_CLASS_FLOOR_F2 : Fld := ⟨.LG_CLASS_FLOOR, 16, 8⟩
/-- LG_CLASS_FLOOR.F3[31:24] (R225). -/
@[simp] abbrev F.LG_CLASS_FLOOR_F3 : Fld := ⟨.LG_CLASS_FLOOR, 24, 8⟩
/-- LG_SCALE.SC[15:0] (R225). -/
@[simp] abbrev F.LG_SCALE_SC (c : Fin 4) : Fld := ⟨.LG_SCALE c, 0, 16⟩
/-- LG_SCALE.SD[31:16] (R225). -/
@[simp] abbrev F.LG_SCALE_SD (c : Fin 4) : Fld := ⟨.LG_SCALE c, 16, 16⟩
/-- LG_HU.SH[15:0] (R225). -/
@[simp] abbrev F.LG_HU_SH : Fld := ⟨.LG_HU, 0, 16⟩
/-- LG_HU.DIVW[31:16] (R225). -/
@[simp] abbrev F.LG_HU_DIVW : Fld := ⟨.LG_HU, 16, 16⟩
/-- LG_NET_W.P[31:0] (R225). -/
@[simp] abbrev F.LG_NET_W_P : Fld := ⟨.LG_NET_W, 0, 32⟩
/-- LG_PRED_W.P[31:0] (R225). -/
@[simp] abbrev F.LG_PRED_W_P : Fld := ⟨.LG_PRED_W, 0, 32⟩
/-- LG_STAT.THR[0:0] (R225). -/
@[simp] abbrev F.LG_STAT_THR : Fld := ⟨.LG_STAT, 0, 1⟩
/-- LG_STAT.BREACH[1:1] (R225). -/
@[simp] abbrev F.LG_STAT_BREACH : Fld := ⟨.LG_STAT, 1, 1⟩
/-- LG_STAT.DIV[2:2] (R225). -/
@[simp] abbrev F.LG_STAT_DIV : Fld := ⟨.LG_STAT, 2, 1⟩
/-- LG_STAT.RMSTALE[3:3] (R225). -/
@[simp] abbrev F.LG_STAT_RMSTALE : Fld := ⟨.LG_STAT, 3, 1⟩
/-- LG_STAT.FLIM[4:4] (R225). -/
@[simp] abbrev F.LG_STAT_FLIM : Fld := ⟨.LG_STAT, 4, 1⟩
/-- LG_STAT.EPIS[31:16] (R225). -/
@[simp] abbrev F.LG_STAT_EPIS : Fld := ⟨.LG_STAT, 16, 16⟩
/-- LG_DEGRADE_PCT.PCT[7:0] (R225). -/
@[simp] abbrev F.LG_DEGRADE_PCT_PCT : Fld := ⟨.LG_DEGRADE_PCT, 0, 8⟩
/-- LG_DEGRADE_S.S[15:0] (R225). -/
@[simp] abbrev F.LG_DEGRADE_S_S : Fld := ⟨.LG_DEGRADE_S, 0, 16⟩
/-- LG_BASE_W.BASE[15:0] (R225). -/
@[simp] abbrev F.LG_BASE_W_BASE : Fld := ⟨.LG_BASE_W, 0, 16⟩
/-- LG_AXEFF.EFF0[7:0] (R225). -/
@[simp] abbrev F.LG_AXEFF_EFF0 : Fld := ⟨.LG_AXEFF, 0, 8⟩
/-- LG_AXEFF.EFF1[15:8] (R225). -/
@[simp] abbrev F.LG_AXEFF_EFF1 : Fld := ⟨.LG_AXEFF, 8, 8⟩
/-- LG_AXEFF.EFF2[23:16] (R225). -/
@[simp] abbrev F.LG_AXEFF_EFF2 : Fld := ⟨.LG_AXEFF, 16, 8⟩
/-- LG_AXEFF.EFF3[31:24] (R225). -/
@[simp] abbrev F.LG_AXEFF_EFF3 : Fld := ⟨.LG_AXEFF, 24, 8⟩
/-- LG_FEEDERR.ERR[15:0] (R225). -/
@[simp] abbrev F.LG_FEEDERR_ERR : Fld := ⟨.LG_FEEDERR, 0, 16⟩
/-- LG_FEEDERR.LIM[31:16] (R225). -/
@[simp] abbrev F.LG_FEEDERR_LIM : Fld := ⟨.LG_FEEDERR, 16, 16⟩
/-- LG_RPT.SEQ[31:0] (R225). -/
@[simp] abbrev F.LG_RPT_SEQ : Fld := ⟨.LG_RPT, 0, 32⟩
/-- LG_EFF.EL[15:0] (R225). -/
@[simp] abbrev F.LG_EFF_EL (n : Fin 128) (w : Fin 8) : Fld := ⟨.LG_EFF n w, 0, 16⟩
/-- LG_EFF.EH[31:16] (R225). -/
@[simp] abbrev F.LG_EFF_EH (n : Fin 128) (w : Fin 8) : Fld := ⟨.LG_EFF n w, 16, 16⟩
/-- AX_CTL.EN[0:0] (R285). -/
@[simp] abbrev F.AX_CTL_EN (j : Fin 4) : Fld := ⟨.AX_CTL j, 0, 1⟩
/-- AX_CFG.NPH[0:0] (R285). -/
@[simp] abbrev F.AX_CFG_NPH (j : Fin 4) : Fld := ⟨.AX_CFG j, 0, 1⟩
/-- AX_CFG.SHED[1:1] (R285). -/
@[simp] abbrev F.AX_CFG_SHED (j : Fin 4) : Fld := ⟨.AX_CFG j, 1, 1⟩
/-- AX_CFG.SAFE[2:2] (R285). -/
@[simp] abbrev F.AX_CFG_SAFE (j : Fin 4) : Fld := ⟨.AX_CFG j, 2, 1⟩
/-- AX_CFG.TSS[15:8] (R285). -/
@[simp] abbrev F.AX_CFG_TSS (j : Fin 4) : Fld := ⟨.AX_CFG j, 8, 8⟩
/-- AX_CFG.THIC[23:16] (R285). -/
@[simp] abbrev F.AX_CFG_THIC (j : Fin 4) : Fld := ⟨.AX_CFG j, 16, 8⟩
/-- AX_CFG.TOC[31:24] (R285). -/
@[simp] abbrev F.AX_CFG_TOC (j : Fin 4) : Fld := ⟨.AX_CFG j, 24, 8⟩
/-- AX_VNOM.VNOM[15:0] (R285). -/
@[simp] abbrev F.AX_VNOM_VNOM (j : Fin 4) : Fld := ⟨.AX_VNOM j, 0, 16⟩
/-- AX_MARG.MARG[7:0] (R285). -/
@[simp] abbrev F.AX_MARG_MARG (j : Fin 4) : Fld := ⟨.AX_MARG j, 0, 8⟩
/-- AX_ILIM.RSH[15:0] (R285). -/
@[simp] abbrev F.AX_ILIM_RSH (j : Fin 4) : Fld := ⟨.AX_ILIM j, 0, 16⟩
/-- AX_ILIM.OCTH[23:16] (R285). -/
@[simp] abbrev F.AX_ILIM_OCTH (j : Fin 4) : Fld := ⟨.AX_ILIM j, 16, 8⟩
/-- AX_GAIN.KP[15:0] (R285). -/
@[simp] abbrev F.AX_GAIN_KP (j : Fin 4) : Fld := ⟨.AX_GAIN j, 0, 16⟩
/-- AX_GAIN.KI[31:16] (R285). -/
@[simp] abbrev F.AX_GAIN_KI (j : Fin 4) : Fld := ⟨.AX_GAIN j, 16, 16⟩
/-- AX_PWM.TONMIN[7:0] (R285). -/
@[simp] abbrev F.AX_PWM_TONMIN (j : Fin 4) : Fld := ⟨.AX_PWM j, 0, 8⟩
/-- AX_PWM.TOFFMIN[15:8] (R285). -/
@[simp] abbrev F.AX_PWM_TOFFMIN (j : Fin 4) : Fld := ⟨.AX_PWM j, 8, 8⟩
/-- AX_PWM.DMAX[23:16] (R285). -/
@[simp] abbrev F.AX_PWM_DMAX (j : Fin 4) : Fld := ⟨.AX_PWM j, 16, 8⟩
/-- AX_STAT.STATE[2:0] (R285). -/
@[simp] abbrev F.AX_STAT_STATE (j : Fin 4) : Fld := ⟨.AX_STAT j, 0, 3⟩
/-- AX_STAT.PG[3:3] (R285). -/
@[simp] abbrev F.AX_STAT_PG (j : Fin 4) : Fld := ⟨.AX_STAT j, 3, 1⟩
/-- AX_STAT.NPHR[4:4] (R285). -/
@[simp] abbrev F.AX_STAT_NPHR (j : Fin 4) : Fld := ⟨.AX_STAT j, 4, 1⟩
/-- AX_STAT.KEPT[5:5] (R285). -/
@[simp] abbrev F.AX_STAT_KEPT (j : Fin 4) : Fld := ⟨.AX_STAT j, 5, 1⟩
/-- AX_STAT.LIM[6:6] (R285). -/
@[simp] abbrev F.AX_STAT_LIM (j : Fin 4) : Fld := ⟨.AX_STAT j, 6, 1⟩
/-- AX_STAT.TRIES[9:7] (R285). -/
@[simp] abbrev F.AX_STAT_TRIES (j : Fin 4) : Fld := ⟨.AX_STAT j, 7, 3⟩
/-- AX_STAT.SHEDS[31:16] (R285). -/
@[simp] abbrev F.AX_STAT_SHEDS (j : Fin 4) : Fld := ⟨.AX_STAT j, 16, 16⟩
/-- AX_FLT.SHORT[0:0] (R285). -/
@[simp] abbrev F.AX_FLT_SHORT (j : Fin 4) : Fld := ⟨.AX_FLT j, 0, 1⟩
/-- AX_FLT.OV[1:1] (R285). -/
@[simp] abbrev F.AX_FLT_OV (j : Fin 4) : Fld := ⟨.AX_FLT j, 1, 1⟩
/-- AX_FLT.UV[2:2] (R285). -/
@[simp] abbrev F.AX_FLT_UV (j : Fin 4) : Fld := ⟨.AX_FLT j, 2, 1⟩
/-- AX_FLT.OC[3:3] (R285). -/
@[simp] abbrev F.AX_FLT_OC (j : Fin 4) : Fld := ⟨.AX_FLT j, 3, 1⟩
/-- AX_FLT.HIC[4:4] (R285). -/
@[simp] abbrev F.AX_FLT_HIC (j : Fin 4) : Fld := ⟨.AX_FLT j, 4, 1⟩
/-- AX_V.V[31:0] (R285). -/
@[simp] abbrev F.AX_V_V (j : Fin 4) : Fld := ⟨.AX_V j, 0, 32⟩
/-- AX_I.I[31:0] (R285). -/
@[simp] abbrev F.AX_I_I (j : Fin 4) : Fld := ⟨.AX_I j, 0, 32⟩
/-- AX_P.P[31:0] (R285). -/
@[simp] abbrev F.AX_P_P (j : Fin 4) : Fld := ⟨.AX_P j, 0, 32⟩
/-- AL_CTL.EN[0:0] (R286). -/
@[simp] abbrev F.AL_CTL_EN (k : Fin 16) : Fld := ⟨.AL_CTL k, 0, 1⟩
/-- AL_CTL.AUTO[1:1] (R286). -/
@[simp] abbrev F.AL_CTL_AUTO (k : Fin 16) : Fld := ⟨.AL_CTL k, 1, 1⟩
/-- AL_CTL.TUNE[2:2] (R286). -/
@[simp] abbrev F.AL_CTL_TUNE (k : Fin 16) : Fld := ⟨.AL_CTL k, 2, 1⟩
/-- AL_CTL.TABORT[3:3] (R286). -/
@[simp] abbrev F.AL_CTL_TABORT (k : Fin 16) : Fld := ⟨.AL_CTL k, 3, 1⟩
/-- AL_CTL.DIR[4:4] (R286). -/
@[simp] abbrev F.AL_CTL_DIR (k : Fin 16) : Fld := ⟨.AL_CTL k, 4, 1⟩
/-- AL_CTL.FCHK[5:5] (R286). -/
@[simp] abbrev F.AL_CTL_FCHK (k : Fin 16) : Fld := ⟨.AL_CTL k, 5, 1⟩
/-- AL_CFG.PER[15:0] (R286). -/
@[simp] abbrev F.AL_CFG_PER (k : Fin 16) : Fld := ⟨.AL_CFG k, 0, 16⟩
/-- AL_CFG.FPWM[31:16] (R286). -/
@[simp] abbrev F.AL_CFG_FPWM (k : Fin 16) : Fld := ⟨.AL_CFG k, 16, 16⟩
/-- AL_INGAIN.GAIN[31:0] (R286). -/
@[simp] abbrev F.AL_INGAIN_GAIN (k : Fin 16) : Fld := ⟨.AL_INGAIN k, 0, 32⟩
/-- AL_INOFF.OFF[31:0] (R286). -/
@[simp] abbrev F.AL_INOFF_OFF (k : Fin 16) : Fld := ⟨.AL_INOFF k, 0, 32⟩
/-- AL_SP.SP[31:0] (R286). -/
@[simp] abbrev F.AL_SP_SP (k : Fin 16) : Fld := ⟨.AL_SP k, 0, 32⟩
/-- AL_SPSRC.SRC[1:0] (R286). -/
@[simp] abbrev F.AL_SPSRC_SRC (k : Fin 16) : Fld := ⟨.AL_SPSRC k, 0, 2⟩
/-- AL_SPSRC.M[3:2] (R286). -/
@[simp] abbrev F.AL_SPSRC_M (k : Fin 16) : Fld := ⟨.AL_SPSRC k, 2, 2⟩
/-- AL_SPSRC.SPSLEW[31:16] (R286). -/
@[simp] abbrev F.AL_SPSRC_SPSLEW (k : Fin 16) : Fld := ⟨.AL_SPSRC k, 16, 16⟩
/-- AL_SPGAIN.GAIN[31:0] (R286). -/
@[simp] abbrev F.AL_SPGAIN_GAIN (k : Fin 16) : Fld := ⟨.AL_SPGAIN k, 0, 32⟩
/-- AL_SPOFF.OFF[31:0] (R286). -/
@[simp] abbrev F.AL_SPOFF_OFF (k : Fin 16) : Fld := ⟨.AL_SPOFF k, 0, 32⟩
/-- AL_KP.KP[31:0] (R286). -/
@[simp] abbrev F.AL_KP_KP (k : Fin 16) : Fld := ⟨.AL_KP k, 0, 32⟩
/-- AL_TI.TI[15:0] (R286). -/
@[simp] abbrev F.AL_TI_TI (k : Fin 16) : Fld := ⟨.AL_TI k, 0, 16⟩
/-- AL_TI.TD[31:16] (R286). -/
@[simp] abbrev F.AL_TI_TD (k : Fin 16) : Fld := ⟨.AL_TI k, 16, 16⟩
/-- AL_OUT.OMIN[15:0] (R286). -/
@[simp] abbrev F.AL_OUT_OMIN (k : Fin 16) : Fld := ⟨.AL_OUT k, 0, 16⟩
/-- AL_OUT.OMAX[31:16] (R286). -/
@[simp] abbrev F.AL_OUT_OMAX (k : Fin 16) : Fld := ⟨.AL_OUT k, 16, 16⟩
/-- AL_MAN.MAN[15:0] (R286). -/
@[simp] abbrev F.AL_MAN_MAN (k : Fin 16) : Fld := ⟨.AL_MAN k, 0, 16⟩
/-- AL_MAN.FAILOUT[31:16] (R286). -/
@[simp] abbrev F.AL_MAN_FAILOUT (k : Fin 16) : Fld := ⟨.AL_MAN k, 16, 16⟩
/-- AL_AT.ATAMP[15:0] (R286). -/
@[simp] abbrev F.AL_AT_ATAMP (k : Fin 16) : Fld := ⟨.AL_AT k, 0, 16⟩
/-- AL_AT.RULE[17:16] (R286). -/
@[simp] abbrev F.AL_AT_RULE (k : Fin 16) : Fld := ⟨.AL_AT k, 16, 2⟩
/-- AL_AT.ATTMO[31:18] (R286). -/
@[simp] abbrev F.AL_AT_ATTMO (k : Fin 16) : Fld := ⟨.AL_AT k, 18, 14⟩
/-- AL_ATHYS.HYS[15:0] (R286). -/
@[simp] abbrev F.AL_ATHYS_HYS (k : Fin 16) : Fld := ⟨.AL_ATHYS k, 0, 16⟩
/-- AL_STAT.STATE[2:0] (R286). -/
@[simp] abbrev F.AL_STAT_STATE (k : Fin 16) : Fld := ⟨.AL_STAT k, 0, 3⟩
/-- AL_STAT.SAT[3:3] (R286). -/
@[simp] abbrev F.AL_STAT_SAT (k : Fin 16) : Fld := ⟨.AL_STAT k, 3, 1⟩
/-- AL_STAT.SPLOST[4:4] (R286). -/
@[simp] abbrev F.AL_STAT_SPLOST (k : Fin 16) : Fld := ⟨.AL_STAT k, 4, 1⟩
/-- AL_STAT.TUNEOK[5:5] (R286). -/
@[simp] abbrev F.AL_STAT_TUNEOK (k : Fin 16) : Fld := ⟨.AL_STAT k, 5, 1⟩
/-- AL_STAT.TUNEFAIL[6:6] (R286). -/
@[simp] abbrev F.AL_STAT_TUNEFAIL (k : Fin 16) : Fld := ⟨.AL_STAT k, 6, 1⟩
/-- AL_STAT.CYC[15:8] (R286). -/
@[simp] abbrev F.AL_STAT_CYC (k : Fin 16) : Fld := ⟨.AL_STAT k, 8, 8⟩
/-- AL_STAT.OUT[31:16] (R286). -/
@[simp] abbrev F.AL_STAT_OUT (k : Fin 16) : Fld := ⟨.AL_STAT k, 16, 16⟩
/-- AL_PV.PV[31:0] (R286). -/
@[simp] abbrev F.AL_PV_PV (k : Fin 16) : Fld := ⟨.AL_PV k, 0, 32⟩
/-- TW_CFG.SPEED[1:0] (R398). -/
@[simp] abbrev F.TW_CFG_SPEED (p : Fin 2) : Fld := ⟨.TW_CFG p, 0, 2⟩
/-- TW_CFG.EN[2:2] (R398). -/
@[simp] abbrev F.TW_CFG_EN (p : Fin 2) : Fld := ⟨.TW_CFG p, 2, 1⟩
/-- TW_CFG.PEC[5:4] (R398). -/
@[simp] abbrev F.TW_CFG_PEC (p : Fin 2) : Fld := ⟨.TW_CFG p, 4, 2⟩
/-- TW_CFG.TTO[15:8] (R398). -/
@[simp] abbrev F.TW_CFG_TTO (p : Fin 2) : Fld := ⟨.TW_CFG p, 8, 8⟩
/-- TW_TIM.HD[7:0] (R398). -/
@[simp] abbrev F.TW_TIM_HD (p : Fin 2) : Fld := ⟨.TW_TIM p, 0, 8⟩
/-- TW_TIM.SU[15:8] (R398). -/
@[simp] abbrev F.TW_TIM_SU (p : Fin 2) : Fld := ⟨.TW_TIM p, 8, 8⟩
/-- TW_TIM.HIGH[23:16] (R398). -/
@[simp] abbrev F.TW_TIM_HIGH (p : Fin 2) : Fld := ⟨.TW_TIM p, 16, 8⟩
/-- TW_STAT.BUSY[0:0] (R398). -/
@[simp] abbrev F.TW_STAT_BUSY (p : Fin 2) : Fld := ⟨.TW_STAT p, 0, 1⟩
/-- TW_STAT.CTRL[1:1] (R398). -/
@[simp] abbrev F.TW_STAT_CTRL (p : Fin 2) : Fld := ⟨.TW_STAT p, 1, 1⟩
/-- TW_STAT.ASLEEP[2:2] (R398). -/
@[simp] abbrev F.TW_STAT_ASLEEP (p : Fin 2) : Fld := ⟨.TW_STAT p, 2, 1⟩
/-- TW_STAT.ARB[15:8] (R398). -/
@[simp] abbrev F.TW_STAT_ARB (p : Fin 2) : Fld := ⟨.TW_STAT p, 8, 8⟩
/-- TW_STAT.BUSERR[23:16] (R398). -/
@[simp] abbrev F.TW_STAT_BUSERR (p : Fin 2) : Fld := ⟨.TW_STAT p, 16, 8⟩
/-- TW_STAT.TMO[31:24] (R398). -/
@[simp] abbrev F.TW_STAT_TMO (p : Fin 2) : Fld := ⟨.TW_STAT p, 24, 8⟩
/-- TW0_POLL.POLL[15:0] (R399). -/
@[simp] abbrev F.TW0_POLL_POLL : Fld := ⟨.TW0_POLL, 0, 16⟩
/-- TW0_PKMASK.MASK[15:0] (R399). -/
@[simp] abbrev F.TW0_PKMASK_MASK : Fld := ⟨.TW0_PKMASK, 0, 16⟩
/-- TW0_DEV.ADDR[6:0] (R399). -/
@[simp] abbrev F.TW0_DEV_ADDR (k : Fin 9) : Fld := ⟨.TW0_DEV k, 0, 7⟩
/-- TW0_DEV.USE[7:7] (R399). -/
@[simp] abbrev F.TW0_DEV_USE (k : Fin 9) : Fld := ⟨.TW0_DEV k, 7, 1⟩
/-- TW0_DEV.PEC[8:8] (R399). -/
@[simp] abbrev F.TW0_DEV_PEC (k : Fin 9) : Fld := ⟨.TW0_DEV k, 8, 1⟩
/-- TW0_DEV.CLR[9:9] (R399). -/
@[simp] abbrev F.TW0_DEV_CLR (k : Fin 9) : Fld := ⟨.TW0_DEV k, 9, 1⟩
/-- TW0_DEV.ST[17:16] (R399). -/
@[simp] abbrev F.TW0_DEV_ST (k : Fin 9) : Fld := ⟨.TW0_DEV k, 16, 2⟩
/-- TW0_DEV.FAILS[23:18] (R399). -/
@[simp] abbrev F.TW0_DEV_FAILS (k : Fin 9) : Fld := ⟨.TW0_DEV k, 18, 6⟩
/-- TW0_RD0.STATUS[15:0] (R399). -/
@[simp] abbrev F.TW0_RD0_STATUS (k : Fin 9) : Fld := ⟨.TW0_RD0 k, 0, 16⟩
/-- TW0_RD0.TEMP[31:16] (R399). -/
@[simp] abbrev F.TW0_RD0_TEMP (k : Fin 9) : Fld := ⟨.TW0_RD0 k, 16, 16⟩
/-- TW0_RD1.POUT[23:0] (R399). -/
@[simp] abbrev F.TW0_RD1_POUT (k : Fin 9) : Fld := ⟨.TW0_RD1 k, 0, 24⟩
/-- TW1_ADDR.ADDR[6:0] (R400). -/
@[simp] abbrev F.TW1_ADDR_ADDR : Fld := ⟨.TW1_ADDR, 0, 7⟩
/-- TW1_ADDR.CODE[11:8] (R400). -/
@[simp] abbrev F.TW1_ADDR_CODE : Fld := ⟨.TW1_ADDR, 8, 4⟩
/-- TW1_ADDR.SFLT[12:12] (R400). -/
@[simp] abbrev F.TW1_ADDR_SFLT : Fld := ⟨.TW1_ADDR, 12, 1⟩
/-- TW1_ADDR.HOST[22:16] (R400). -/
@[simp] abbrev F.TW1_ADDR_HOST : Fld := ⟨.TW1_ADDR, 16, 7⟩
/-- TW1_ADDR.WREN[24:24] (R400). -/
@[simp] abbrev F.TW1_ADDR_WREN : Fld := ⟨.TW1_ADDR, 24, 1⟩
/-- TW1_ADDR.NTFYEN[25:25] (R400). -/
@[simp] abbrev F.TW1_ADDR_NTFYEN : Fld := ⟨.TW1_ADDR, 25, 1⟩
/-- TW1_PTR.PTR[31:0] (R400). -/
@[simp] abbrev F.TW1_PTR_PTR : Fld := ⟨.TW1_PTR, 0, 32⟩
/-- TW1_NTFY.SENT[7:0] (R400). -/
@[simp] abbrev F.TW1_NTFY_SENT : Fld := ⟨.TW1_NTFY, 0, 8⟩
/-- TW1_NTFY.FAILED[15:8] (R400). -/
@[simp] abbrev F.TW1_NTFY_FAILED : Fld := ⟨.TW1_NTFY, 8, 8⟩
/-- HL_CFG.UDPPORT[15:0] (R377). -/
@[simp] abbrev F.HL_CFG_UDPPORT : Fld := ⟨.HL_CFG, 0, 16⟩
/-- HL_CFG.ANONRD[16:16] (R377). -/
@[simp] abbrev F.HL_CFG_ANONRD : Fld := ⟨.HL_CFG, 16, 1⟩
/-- HL_CFG.SPIAUTH[17:17] (R377). -/
@[simp] abbrev F.HL_CFG_SPIAUTH : Fld := ⟨.HL_CFG, 17, 1⟩
/-- HL_CFG.HSREQ[18:18] (R377). -/
@[simp] abbrev F.HL_CFG_HSREQ : Fld := ⟨.HL_CFG, 18, 1⟩
/-- HL_CFG.STMO[31:24] (R377). -/
@[simp] abbrev F.HL_CFG_STMO : Fld := ⟨.HL_CFG, 24, 8⟩
/-- HL_STAT.BADFR[15:0] (R377). -/
@[simp] abbrev F.HL_STAT_BADFR : Fld := ⟨.HL_STAT, 0, 16⟩
/-- HL_STAT.SEQERR[23:16] (R377). -/
@[simp] abbrev F.HL_STAT_SEQERR : Fld := ⟨.HL_STAT, 16, 8⟩
/-- HL_STAT.SESS[27:24] (R377). -/
@[simp] abbrev F.HL_STAT_SESS : Fld := ⟨.HL_STAT, 24, 4⟩
/-- HL_STAT.RECOV[28:28] (R377). -/
@[simp] abbrev F.HL_STAT_RECOV : Fld := ⟨.HL_STAT, 28, 1⟩
/-- HL_KEYSTAT.DKEY[0:0] (R377). -/
@[simp] abbrev F.HL_KEYSTAT_DKEY : Fld := ⟨.HL_KEYSTAT, 0, 1⟩
/-- HL_KEYSTAT.OWNKEY[1:1] (R377). -/
@[simp] abbrev F.HL_KEYSTAT_OWNKEY : Fld := ⟨.HL_KEYSTAT, 1, 1⟩
/-- HL_KEYSTAT.NZOFF[2:2] (R377). -/
@[simp] abbrev F.HL_KEYSTAT_NZOFF : Fld := ⟨.HL_KEYSTAT, 2, 1⟩
/-- HL_KEYSTAT.AUTHLOCK[3:3] (R377). -/
@[simp] abbrev F.HL_KEYSTAT_AUTHLOCK : Fld := ⟨.HL_KEYSTAT, 3, 1⟩
/-- HL_KEYSTAT.AUTHFAIL[15:8] (R377). -/
@[simp] abbrev F.HL_KEYSTAT_AUTHFAIL : Fld := ⟨.HL_KEYSTAT, 8, 8⟩
/-- HL_RATE.STATE[1:0] (R377). -/
@[simp] abbrev F.HL_RATE_STATE : Fld := ⟨.HL_RATE, 0, 2⟩
/-- HL_RATE.FAIL[2:2] (R377). -/
@[simp] abbrev F.HL_RATE_FAIL : Fld := ⟨.HL_RATE, 2, 1⟩
/-- HL_BULK.BULKR[7:0] (R377). -/
@[simp] abbrev F.HL_BULK_BULKR : Fld := ⟨.HL_BULK, 0, 8⟩
/-- HL_BULK.ROPEN[10:8] (R377). -/
@[simp] abbrev F.HL_BULK_ROPEN : Fld := ⟨.HL_BULK, 8, 3⟩
/-- HL_BULK.WOPEN[11:11] (R377). -/
@[simp] abbrev F.HL_BULK_WOPEN : Fld := ⟨.HL_BULK, 11, 1⟩
/-- HL_BULK.WID[31:16] (R377). -/
@[simp] abbrev F.HL_BULK_WID : Fld := ⟨.HL_BULK, 16, 16⟩
/-- HL_SPI.DISC[15:0] (R377). -/
@[simp] abbrev F.HL_SPI_DISC : Fld := ⟨.HL_SPI, 0, 16⟩
/-- HL_SPI.OVR[16:16] (R377). -/
@[simp] abbrev F.HL_SPI_OVR : Fld := ⟨.HL_SPI, 16, 1⟩
/-- HL_SESS.OPEN[0:0] (R377). -/
@[simp] abbrev F.HL_SESS_OPEN (k : Fin 8) : Fld := ⟨.HL_SESS k, 0, 1⟩
/-- HL_SESS.AUTH[1:1] (R377). -/
@[simp] abbrev F.HL_SESS_AUTH (k : Fin 8) : Fld := ⟨.HL_SESS k, 1, 1⟩
/-- HL_SESS.EVSUB[2:2] (R377). -/
@[simp] abbrev F.HL_SESS_EVSUB (k : Fin 8) : Fld := ⟨.HL_SESS k, 2, 1⟩
/-- HL_SESS.LMGR[3:3] (R377). -/
@[simp] abbrev F.HL_SESS_LMGR (k : Fin 8) : Fld := ⟨.HL_SESS k, 3, 1⟩
/-- HL_SESS.PORT[4:4] (R377). -/
@[simp] abbrev F.HL_SESS_PORT (k : Fin 8) : Fld := ⟨.HL_SESS k, 4, 1⟩
/-- HL_SESS.IDLE[15:8] (R377). -/
@[simp] abbrev F.HL_SESS_IDLE (k : Fin 8) : Fld := ⟨.HL_SESS k, 8, 8⟩
/-- HL_SESS.SNUM[31:16] (R377). -/
@[simp] abbrev F.HL_SESS_SNUM (k : Fin 8) : Fld := ⟨.HL_SESS k, 16, 16⟩
/-- HL_PCFG.EN[0:0] (R378). -/
@[simp] abbrev F.HL_PCFG_EN (p : Fin 2) : Fld := ⟨.HL_PCFG p, 0, 1⟩
/-- HL_PCFG.RATE[2:1] (R378). -/
@[simp] abbrev F.HL_PCFG_RATE (p : Fin 2) : Fld := ⟨.HL_PCFG p, 1, 2⟩
/-- HL_PCFG.IP4EN[3:3] (R378). -/
@[simp] abbrev F.HL_PCFG_IP4EN (p : Fin 2) : Fld := ⟨.HL_PCFG p, 3, 1⟩
/-- HL_PCFG.IP6EN[4:4] (R378). -/
@[simp] abbrev F.HL_PCFG_IP6EN (p : Fin 2) : Fld := ⟨.HL_PCFG p, 4, 1⟩
/-- HL_PSTAT.LINK[0:0] (R378). -/
@[simp] abbrev F.HL_PSTAT_LINK (p : Fin 2) : Fld := ⟨.HL_PSTAT p, 0, 1⟩
/-- HL_PSTAT.RATE[2:1] (R378). -/
@[simp] abbrev F.HL_PSTAT_RATE (p : Fin 2) : Fld := ⟨.HL_PSTAT p, 1, 2⟩
/-- HL_PSTAT.DOWNS[31:16] (R378). -/
@[simp] abbrev F.HL_PSTAT_DOWNS (p : Fin 2) : Fld := ⟨.HL_PSTAT p, 16, 16⟩
/-- HL_MACL.MAC[31:0] (R378). -/
@[simp] abbrev F.HL_MACL_MAC (p : Fin 2) : Fld := ⟨.HL_MACL p, 0, 32⟩
/-- HL_MACH.MAC[15:0] (R378). -/
@[simp] abbrev F.HL_MACH_MAC (p : Fin 2) : Fld := ⟨.HL_MACH p, 0, 16⟩
/-- HL_IP4.ADDR[31:0] (R378). -/
@[simp] abbrev F.HL_IP4_ADDR (p : Fin 2) : Fld := ⟨.HL_IP4 p, 0, 32⟩
/-- HL_GW4.GW[31:0] (R378). -/
@[simp] abbrev F.HL_GW4_GW (p : Fin 2) : Fld := ⟨.HL_GW4 p, 0, 32⟩
/-- HL_PLEN.PLEN4[5:0] (R378). -/
@[simp] abbrev F.HL_PLEN_PLEN4 (p : Fin 2) : Fld := ⟨.HL_PLEN p, 0, 6⟩
/-- HL_PLEN.PLEN6[15:8] (R378). -/
@[simp] abbrev F.HL_PLEN_PLEN6 (p : Fin 2) : Fld := ⟨.HL_PLEN p, 8, 8⟩
/-- HL_IP6.ADDR[31:0] (R378). -/
@[simp] abbrev F.HL_IP6_ADDR (p : Fin 2) (w : Fin 4) : Fld := ⟨.HL_IP6 p w, 0, 32⟩
/-- HL_SCFG.EN[0:0] (R379). -/
@[simp] abbrev F.HL_SCFG_EN (s : Fin 5) : Fld := ⟨.HL_SCFG s, 0, 1⟩
/-- HL_SCFG.PORT[2:1] (R379). -/
@[simp] abbrev F.HL_SCFG_PORT (s : Fin 5) : Fld := ⟨.HL_SCFG s, 1, 2⟩
/-- HL_SCFG.FAILOV[3:3] (R379). -/
@[simp] abbrev F.HL_SCFG_FAILOV (s : Fin 5) : Fld := ⟨.HL_SCFG s, 3, 1⟩
/-- HL_SCFG.PRIO[6:4] (R379). -/
@[simp] abbrev F.HL_SCFG_PRIO (s : Fin 5) : Fld := ⟨.HL_SCFG s, 4, 3⟩
/-- HL_SCFG.REL[7:7] (R379). -/
@[simp] abbrev F.HL_SCFG_REL (s : Fin 5) : Fld := ⟨.HL_SCFG s, 7, 1⟩
/-- HL_SCFG.DEST[9:8] (R379). -/
@[simp] abbrev F.HL_SCFG_DEST (s : Fin 5) : Fld := ⟨.HL_SCFG s, 8, 2⟩
/-- HL_SCFG.LANE[10:10] (R379). -/
@[simp] abbrev F.HL_SCFG_LANE (s : Fin 5) : Fld := ⟨.HL_SCFG s, 10, 1⟩
/-- HL_SCFG.GRP[31:16] (R379). -/
@[simp] abbrev F.HL_SCFG_GRP (s : Fin 5) : Fld := ⟨.HL_SCFG s, 16, 16⟩
/-- HL_SALLOT.ALLOT[15:0] (R379). -/
@[simp] abbrev F.HL_SALLOT_ALLOT (s : Fin 5) : Fld := ⟨.HL_SALLOT s, 0, 16⟩
/-- HL_SSTAT.DECL2[3:0] (R379). -/
@[simp] abbrev F.HL_SSTAT_DECL2 (s : Fin 5) : Fld := ⟨.HL_SSTAT s, 0, 4⟩
/-- HL_SDROP.DROPS[31:0] (R379). -/
@[simp] abbrev F.HL_SDROP_DROPS (s : Fin 5) : Fld := ⟨.HL_SDROP s, 0, 32⟩
/-- HL_DCFG.UPORT[15:0] (R379). -/
@[simp] abbrev F.HL_DCFG_UPORT (d : Fin 4) : Fld := ⟨.HL_DCFG d, 0, 16⟩
/-- HL_DCFG.FAM[16:16] (R379). -/
@[simp] abbrev F.HL_DCFG_FAM (d : Fin 4) : Fld := ⟨.HL_DCFG d, 16, 1⟩
/-- HL_DADDR.ADDR[31:0] (R379). -/
@[simp] abbrev F.HL_DADDR_ADDR (d : Fin 4) (w : Fin 4) : Fld := ⟨.HL_DADDR d w, 0, 32⟩
/-- VT_CTL.FLOOD[0:0] (R413). -/
@[simp] abbrev F.VT_CTL_FLOOD : Fld := ⟨.VT_CTL, 0, 1⟩
/-- VT_CTL.CLEAR[1:1] (R413). -/
@[simp] abbrev F.VT_CTL_CLEAR : Fld := ⟨.VT_CTL, 1, 1⟩
/-- VT_STAT.CLRING[0:0] (R413). -/
@[simp] abbrev F.VT_STAT_CLRING : Fld := ⟨.VT_STAT, 0, 1⟩
/-- VT_STAT.LOST[31:16] (R413). -/
@[simp] abbrev F.VT_STAT_LOST : Fld := ⟨.VT_STAT, 16, 16⟩
/-- VT_HEAD.SEQ[31:0] (R413). -/
@[simp] abbrev F.VT_HEAD_SEQ : Fld := ⟨.VT_HEAD, 0, 32⟩
/-- VT_TAIL.SEQ[31:0] (R413). -/
@[simp] abbrev F.VT_TAIL_SEQ : Fld := ⟨.VT_TAIL, 0, 32⟩
/-- VT_QUEUE.N[10:0] (R413). -/
@[simp] abbrev F.VT_QUEUE_N : Fld := ⟨.VT_QUEUE, 0, 11⟩
/-- VT_QUEUE.HIGH[26:16] (R413). -/
@[simp] abbrev F.VT_QUEUE_HIGH : Fld := ⟨.VT_QUEUE, 16, 11⟩
/-- VT_CCTL.EN[0:0] (R413). -/
@[simp] abbrev F.VT_CCTL_EN : Fld := ⟨.VT_CCTL, 0, 1⟩
/-- VT_CCTL.TRIG[1:1] (R413). -/
@[simp] abbrev F.VT_CCTL_TRIG : Fld := ⟨.VT_CCTL, 1, 1⟩
/-- VT_CCTL.EVEN[2:2] (R413). -/
@[simp] abbrev F.VT_CCTL_EVEN : Fld := ⟨.VT_CCTL, 2, 1⟩
/-- VT_CSTAT.CAPT[0:0] (R413). -/
@[simp] abbrev F.VT_CSTAT_CAPT : Fld := ⟨.VT_CSTAT, 0, 1⟩
/-- VT_CSTAT.WRITING[1:1] (R413). -/
@[simp] abbrev F.VT_CSTAT_WRITING : Fld := ⟨.VT_CSTAT, 1, 1⟩
/-- VT_CSTAT.LOST[15:8] (R413). -/
@[simp] abbrev F.VT_CSTAT_LOST : Fld := ⟨.VT_CSTAT, 8, 8⟩
/-- VT_CSTAT.SNAP[31:16] (R413). -/
@[simp] abbrev F.VT_CSTAT_SNAP : Fld := ⟨.VT_CSTAT, 16, 16⟩
/-- VT_CSLOT.VALID[0:0] (R413). -/
@[simp] abbrev F.VT_CSLOT_VALID (s : Fin 4) : Fld := ⟨.VT_CSLOT s, 0, 1⟩
/-- VT_CSLOT.FROZEN[1:1] (R413). -/
@[simp] abbrev F.VT_CSLOT_FROZEN (s : Fin 4) : Fld := ⟨.VT_CSLOT s, 1, 1⟩
/-- VT_CSLOT.BUSY[2:2] (R413). -/
@[simp] abbrev F.VT_CSLOT_BUSY (s : Fin 4) : Fld := ⟨.VT_CSLOT s, 2, 1⟩
/-- VT_CSLOT.CAUSES[11:8] (R413). -/
@[simp] abbrev F.VT_CSLOT_CAUSES (s : Fin 4) : Fld := ⟨.VT_CSLOT s, 8, 4⟩
/-- VT_CSLOT.SNAP[31:16] (R413). -/
@[simp] abbrev F.VT_CSLOT_SNAP (s : Fin 4) : Fld := ⟨.VT_CSLOT s, 16, 16⟩
/-- VT_CTRIG.TRIG[31:0] (R413). -/
@[simp] abbrev F.VT_CTRIG_TRIG (w : Fin 16) : Fld := ⟨.VT_CTRIG w, 0, 32⟩
/-- BT_CTL.SRAMEN[0:0] (R426). -/
@[simp] abbrev F.BT_CTL_SRAMEN : Fld := ⟨.BT_CTL, 0, 1⟩
/-- BT_CTL.MRAMEN[1:1] (R426). -/
@[simp] abbrev F.BT_CTL_MRAMEN : Fld := ⟨.BT_CTL, 1, 1⟩
/-- BT_CTL.MWTEN[2:2] (R426). -/
@[simp] abbrev F.BT_CTL_MWTEN : Fld := ⟨.BT_CTL, 2, 1⟩
/-- BT_CTL.PWMEN[3:3] (R426). -/
@[simp] abbrev F.BT_CTL_PWMEN : Fld := ⟨.BT_CTL, 3, 1⟩
/-- BT_CTL.REFEN[4:4] (R426). -/
@[simp] abbrev F.BT_CTL_REFEN : Fld := ⟨.BT_CTL, 4, 1⟩
/-- BT_SRAM.SLICE[13:0] (R426). -/
@[simp] abbrev F.BT_SRAM_SLICE : Fld := ⟨.BT_SRAM, 0, 14⟩
/-- BT_SRAM.COVER[23:16] (R426). -/
@[simp] abbrev F.BT_SRAM_COVER : Fld := ⟨.BT_SRAM, 16, 8⟩
/-- BT_SRAM.PASSES[31:24] (R426). -/
@[simp] abbrev F.BT_SRAM_PASSES : Fld := ⟨.BT_SRAM, 24, 8⟩
/-- BT_SRAMT.DUR[7:0] (R426). -/
@[simp] abbrev F.BT_SRAMT_DUR : Fld := ⟨.BT_SRAMT, 0, 8⟩
/-- BT_SRAMT.MAXDUR[15:8] (R426). -/
@[simp] abbrev F.BT_SRAMT_MAXDUR : Fld := ⟨.BT_SRAMT, 8, 8⟩
/-- BT_SRAMT.PASSS[31:16] (R426). -/
@[simp] abbrev F.BT_SRAMT_PASSS : Fld := ⟨.BT_SRAMT, 16, 16⟩
/-- BT_MRAM.COVER[7:0] (R426). -/
@[simp] abbrev F.BT_MRAM_COVER : Fld := ⟨.BT_MRAM, 0, 8⟩
/-- BT_MRAM.PASSES[15:8] (R426). -/
@[simp] abbrev F.BT_MRAM_PASSES : Fld := ⟨.BT_MRAM, 8, 8⟩
/-- BT_MRAM.CORR[31:16] (R426). -/
@[simp] abbrev F.BT_MRAM_CORR : Fld := ⟨.BT_MRAM, 16, 16⟩
/-- BT_MRAMT.PASSS[15:0] (R426). -/
@[simp] abbrev F.BT_MRAMT_PASSS : Fld := ⟨.BT_MRAMT, 0, 16⟩
/-- BT_MRAMT.WTROWS[25:16] (R426). -/
@[simp] abbrev F.BT_MRAMT_WTROWS : Fld := ⟨.BT_MRAMT, 16, 10⟩
/-- BT_FAIL0.OFFSET[23:0] (R426). -/
@[simp] abbrev F.BT_FAIL0_OFFSET : Fld := ⟨.BT_FAIL0, 0, 24⟩
/-- BT_FAIL0.MEM[24:24] (R426). -/
@[simp] abbrev F.BT_FAIL0_MEM : Fld := ⟨.BT_FAIL0, 24, 1⟩
/-- BT_FAIL0.UNCORR[25:25] (R426). -/
@[simp] abbrev F.BT_FAIL0_UNCORR : Fld := ⟨.BT_FAIL0, 25, 1⟩
/-- BT_FAIL0.REPAIRED[26:26] (R426). -/
@[simp] abbrev F.BT_FAIL0_REPAIRED : Fld := ⟨.BT_FAIL0, 26, 1⟩
/-- BT_FAIL0.PENDING[27:27] (R426). -/
@[simp] abbrev F.BT_FAIL0_PENDING : Fld := ⟨.BT_FAIL0, 27, 1⟩
/-- BT_FAIL1.BIT[5:0] (R426). -/
@[simp] abbrev F.BT_FAIL1_BIT : Fld := ⟨.BT_FAIL1, 0, 6⟩
/-- BT_FAIL1.COUNT[15:8] (R426). -/
@[simp] abbrev F.BT_FAIL1_COUNT : Fld := ⟨.BT_FAIL1, 8, 8⟩
/-- BT_REPAIR.SSPARE[7:0] (R426). -/
@[simp] abbrev F.BT_REPAIR_SSPARE : Fld := ⟨.BT_REPAIR, 0, 8⟩
/-- BT_REPAIR.MSPARE[15:8] (R426). -/
@[simp] abbrev F.BT_REPAIR_MSPARE : Fld := ⟨.BT_REPAIR, 8, 8⟩
/-- BT_REPAIR.MPEND[23:16] (R426). -/
@[simp] abbrev F.BT_REPAIR_MPEND : Fld := ⟨.BT_REPAIR, 16, 8⟩
/-- BT_PWMF.FAIL[31:0] (R426). -/
@[simp] abbrev F.BT_PWMF_FAIL (w : Fin 9) : Fld := ⟨.BT_PWMF w, 0, 32⟩
/-- BT_REF.E1[15:0] (R426). -/
@[simp] abbrev F.BT_REF_E1 : Fld := ⟨.BT_REF, 0, 16⟩
/-- BT_REF.E2[31:16] (R426). -/
@[simp] abbrev F.BT_REF_E2 : Fld := ⟨.BT_REF, 16, 16⟩
/-- BT_REFLIM.LIM[15:0] (R426). -/
@[simp] abbrev F.BT_REFLIM_LIM : Fld := ⟨.BT_REFLIM, 0, 16⟩
/-- BT_REFLIM.BG1BAD[16:16] (R426). -/
@[simp] abbrev F.BT_REFLIM_BG1BAD : Fld := ⟨.BT_REFLIM, 16, 1⟩
/-- BT_REFLIM.BG2BAD[17:17] (R426). -/
@[simp] abbrev F.BT_REFLIM_BG2BAD : Fld := ⟨.BT_REFLIM, 17, 1⟩
/-- TS_CTL.SUB[7:0] (R427). -/
@[simp] abbrev F.TS_CTL_SUB : Fld := ⟨.TS_CTL, 0, 8⟩
/-- TS_MAX.T[15:0] (R427). -/
@[simp] abbrev F.TS_MAX_T : Fld := ⟨.TS_MAX, 0, 16⟩
/-- TS_MAX.SRC[18:16] (R427). -/
@[simp] abbrev F.TS_MAX_SRC : Fld := ⟨.TS_MAX, 16, 3⟩
/-- TS_MAX.SUBST[19:19] (R427). -/
@[simp] abbrev F.TS_MAX_SUBST : Fld := ⟨.TS_MAX, 19, 1⟩
/-- TS_STAT.WARN[0:0] (R427). -/
@[simp] abbrev F.TS_STAT_WARN : Fld := ⟨.TS_STAT, 0, 1⟩
/-- TS_STAT.THR[1:1] (R427). -/
@[simp] abbrev F.TS_STAT_THR : Fld := ⟨.TS_STAT, 1, 1⟩
/-- TS_STAT.SAFE[2:2] (R427). -/
@[simp] abbrev F.TS_STAT_SAFE : Fld := ⟨.TS_STAT, 2, 1⟩
/-- TS_STAT.FAULT[15:8] (R427). -/
@[simp] abbrev F.TS_STAT_FAULT : Fld := ⟨.TS_STAT, 8, 8⟩
/-- TS_BAND.BAND0[2:0] (R427). -/
@[simp] abbrev F.TS_BAND_BAND0 : Fld := ⟨.TS_BAND, 0, 3⟩
/-- TS_BAND.BAND1[6:4] (R427). -/
@[simp] abbrev F.TS_BAND_BAND1 : Fld := ⟨.TS_BAND, 4, 3⟩
/-- TS_BAND.BAND2[10:8] (R427). -/
@[simp] abbrev F.TS_BAND_BAND2 : Fld := ⟨.TS_BAND, 8, 3⟩
/-- TS_BAND.BAND3[14:12] (R427). -/
@[simp] abbrev F.TS_BAND_BAND3 : Fld := ⟨.TS_BAND, 12, 3⟩
/-- TS_BAND.BAND4[18:16] (R427). -/
@[simp] abbrev F.TS_BAND_BAND4 : Fld := ⟨.TS_BAND, 16, 3⟩
/-- TS_BAND.BAND5[22:20] (R427). -/
@[simp] abbrev F.TS_BAND_BAND5 : Fld := ⟨.TS_BAND, 20, 3⟩
/-- TS_BAND.BAND6[26:24] (R427). -/
@[simp] abbrev F.TS_BAND_BAND6 : Fld := ⟨.TS_BAND, 24, 3⟩
/-- TS_BAND.BAND7[30:28] (R427). -/
@[simp] abbrev F.TS_BAND_BAND7 : Fld := ⟨.TS_BAND, 28, 3⟩
/-- TS_HK.ROUNDS[15:0] (R427). -/
@[simp] abbrev F.TS_HK_ROUNDS : Fld := ⟨.TS_HK, 0, 16⟩
/-- TS_HK.DUR[31:16] (R427). -/
@[simp] abbrev F.TS_HK_DUR : Fld := ⟨.TS_HK, 16, 16⟩
/-- TS_T.T[15:0] (R427). -/
@[simp] abbrev F.TS_T_T (k : Fin 8) : Fld := ⟨.TS_T k, 0, 16⟩
/-- TS_T.OOR[16:16] (R427). -/
@[simp] abbrev F.TS_T_OOR (k : Fin 8) : Fld := ⟨.TS_T k, 16, 1⟩
/-- TS_T.STUCK[17:17] (R427). -/
@[simp] abbrev F.TS_T_STUCK (k : Fin 8) : Fld := ⟨.TS_T k, 17, 1⟩
/-- TS_T.SAME[20:18] (R427). -/
@[simp] abbrev F.TS_T_SAME (k : Fin 8) : Fld := ⟨.TS_T k, 18, 3⟩
/-- LN_CFG.TOUR[0:0] (R208). -/
@[simp] abbrev F.LN_CFG_TOUR : Fld := ⟨.LN_CFG, 0, 1⟩
/-- LN_CFG.COMMIT[1:1] (R208). -/
@[simp] abbrev F.LN_CFG_COMMIT : Fld := ⟨.LN_CFG, 1, 1⟩
/-- LN_CFG.AGING[2:2] (R208). -/
@[simp] abbrev F.LN_CFG_AGING : Fld := ⟨.LN_CFG, 2, 1⟩
/-- LN_STAT.PHASE[2:0] (R208). -/
@[simp] abbrev F.LN_STAT_PHASE : Fld := ⟨.LN_STAT, 0, 3⟩
/-- LN_STAT.REFHOLD[3:3] (R208). -/
@[simp] abbrev F.LN_STAT_REFHOLD : Fld := ⟨.LN_STAT, 3, 1⟩
/-- LN_STAT.SELF[4:4] (R208). -/
@[simp] abbrev F.LN_STAT_SELF : Fld := ⟨.LN_STAT, 4, 1⟩
/-- LN_STAT.ADOPTED[5:5] (R208). -/
@[simp] abbrev F.LN_STAT_ADOPTED : Fld := ⟨.LN_STAT, 5, 1⟩
/-- LN_STAT.REPEAT[6:6] (R208). -/
@[simp] abbrev F.LN_STAT_REPEAT : Fld := ⟨.LN_STAT, 6, 1⟩
/-- LN_STAT.TOURS[31:16] (R208). -/
@[simp] abbrev F.LN_STAT_TOURS : Fld := ⟨.LN_STAT, 16, 16⟩
/-- LN_POS.POS[6:0] (R208). -/
@[simp] abbrev F.LN_POS_POS : Fld := ⟨.LN_POS, 0, 7⟩
/-- LN_POS.NEXT[14:8] (R208). -/
@[simp] abbrev F.LN_POS_NEXT : Fld := ⟨.LN_POS, 8, 7⟩
/-- LN_POS.NEXTV[15:15] (R208). -/
@[simp] abbrev F.LN_POS_NEXTV : Fld := ⟨.LN_POS, 15, 1⟩
/-- LN_POS.RANGE[17:16] (R208). -/
@[simp] abbrev F.LN_POS_RANGE : Fld := ⟨.LN_POS, 16, 2⟩
/-- LN_POS.BAND[20:18] (R208). -/
@[simp] abbrev F.LN_POS_BAND : Fld := ⟨.LN_POS, 18, 3⟩
/-- LN_LIMIT.VLIM[15:0] (R208). -/
@[simp] abbrev F.LN_LIMIT_VLIM : Fld := ⟨.LN_LIMIT, 0, 16⟩
/-- LN_LIMIT.ILIM[23:16] (R208). -/
@[simp] abbrev F.LN_LIMIT_ILIM : Fld := ⟨.LN_LIMIT, 16, 8⟩
/-- LN_LIMIT.KLIM[31:24] (R208). -/
@[simp] abbrev F.LN_LIMIT_KLIM : Fld := ⟨.LN_LIMIT, 24, 8⟩
/-- LN_ADOPT.CH[6:0] (R208). -/
@[simp] abbrev F.LN_ADOPT_CH : Fld := ⟨.LN_ADOPT, 0, 7⟩
/-- LN_ADOPT.EN[8:8] (R208). -/
@[simp] abbrev F.LN_ADOPT_EN : Fld := ⟨.LN_ADOPT, 8, 1⟩
/-- LN_ADOPT.ACT[9:9] (R208). -/
@[simp] abbrev F.LN_ADOPT_ACT : Fld := ⟨.LN_ADOPT, 9, 1⟩
/-- LN_DWELL.DWELL[12:0] (R208). -/
@[simp] abbrev F.LN_DWELL_DWELL : Fld := ⟨.LN_DWELL, 0, 13⟩
/-- LN_CNT.VISITS[15:0] (R208). -/
@[simp] abbrev F.LN_CNT_VISITS : Fld := ⟨.LN_CNT, 0, 16⟩
/-- LN_CNT.DISC[31:16] (R208). -/
@[simp] abbrev F.LN_CNT_DISC : Fld := ⟨.LN_CNT, 16, 16⟩
/-- LN_REFV.REFV[23:0] (R208). -/
@[simp] abbrev F.LN_REFV_REFV : Fld := ⟨.LN_REFV, 0, 24⟩
/-- LN_RES0.CH[6:0] (R208). -/
@[simp] abbrev F.LN_RES0_CH : Fld := ⟨.LN_RES0, 0, 7⟩
/-- LN_RES0.RANGE[9:8] (R208). -/
@[simp] abbrev F.LN_RES0_RANGE : Fld := ⟨.LN_RES0, 8, 2⟩
/-- LN_RES0.BAND[12:10] (R208). -/
@[simp] abbrev F.LN_RES0_BAND : Fld := ⟨.LN_RES0, 10, 3⟩
/-- LN_RES0.VOUT[19:16] (R208). -/
@[simp] abbrev F.LN_RES0_VOUT : Fld := ⟨.LN_RES0, 16, 4⟩
/-- LN_RES0.IOUT[23:20] (R208). -/
@[simp] abbrev F.LN_RES0_IOUT : Fld := ⟨.LN_RES0, 20, 4⟩
/-- LN_RES1.EV[31:0] (R208). -/
@[simp] abbrev F.LN_RES1_EV : Fld := ⟨.LN_RES1, 0, 32⟩
/-- LN_RES2.EI[31:0] (R208). -/
@[simp] abbrev F.LN_RES2_EI : Fld := ⟨.LN_RES2, 0, 32⟩
/-- LN_RES3.DGV[15:0] (R208). -/
@[simp] abbrev F.LN_RES3_DGV : Fld := ⟨.LN_RES3, 0, 16⟩
/-- LN_RES3.DGI[31:16] (R208). -/
@[simp] abbrev F.LN_RES3_DGI : Fld := ⟨.LN_RES3, 16, 16⟩
/-- LN_KBASE.K0[31:0] (R208). -/
@[simp] abbrev F.LN_KBASE_K0 : Fld := ⟨.LN_KBASE, 0, 32⟩
/-- LN_SUSP.SUSP[31:0] (R208). -/
@[simp] abbrev F.LN_SUSP_SUSP (w : Fin 4) : Fld := ⟨.LN_SUSP w, 0, 32⟩
/-- LN_CALCTL.CMD[1:0] (R55). -/
@[simp] abbrev F.LN_CALCTL_CMD : Fld := ⟨.LN_CALCTL, 0, 2⟩
/-- LN_CALSTAT.BUSY[0:0] (R55). -/
@[simp] abbrev F.LN_CALSTAT_BUSY : Fld := ⟨.LN_CALSTAT, 0, 1⟩
/-- LN_CALSTAT.SWPEND[1:1] (R55). -/
@[simp] abbrev F.LN_CALSTAT_SWPEND : Fld := ⟨.LN_CALSTAT, 1, 1⟩
/-- LN_CALSTAT.DIRTY[29:16] (R55). -/
@[simp] abbrev F.LN_CALSTAT_DIRTY : Fld := ⟨.LN_CALSTAT, 16, 14⟩
/-- LN_CALSEQ.SWAPS[15:0] (R55). -/
@[simp] abbrev F.LN_CALSEQ_SWAPS : Fld := ⟨.LN_CALSEQ, 0, 16⟩
/-- LN_CALSEQ.DROPPED[31:16] (R55). -/
@[simp] abbrev F.LN_CALSEQ_DROPPED : Fld := ⟨.LN_CALSEQ, 16, 16⟩
/-- CS_CTL.ROTEN[0:0] (R209). -/
@[simp] abbrev F.CS_CTL_ROTEN : Fld := ⟨.CS_CTL, 0, 1⟩
/-- CS_CTL.ROTNOW[1:1] (R209). -/
@[simp] abbrev F.CS_CTL_ROTNOW : Fld := ⟨.CS_CTL, 1, 1⟩
/-- CS_CTL.RETK[12:8] (R209). -/
@[simp] abbrev F.CS_CTL_RETK : Fld := ⟨.CS_CTL, 8, 5⟩
/-- CS_CTL.RETGO[13:13] (R209). -/
@[simp] abbrev F.CS_CTL_RETGO : Fld := ⟨.CS_CTL, 13, 1⟩
/-- CS_SPARE.SPARE[4:0] (R209). -/
@[simp] abbrev F.CS_SPARE_SPARE : Fld := ⟨.CS_SPARE, 0, 5⟩
/-- CS_SPARE.SST[7:5] (R209). -/
@[simp] abbrev F.CS_SPARE_SST : Fld := ⟨.CS_SPARE, 5, 3⟩
/-- CS_SPARE.SHGRP[11:8] (R209). -/
@[simp] abbrev F.CS_SPARE_SHGRP : Fld := ⟨.CS_SPARE, 8, 4⟩
/-- CS_SPARE.FRESH[12:12] (R209). -/
@[simp] abbrev F.CS_SPARE_FRESH : Fld := ⟨.CS_SPARE, 12, 1⟩
/-- CS_SPARE.ROTSTOP[13:13] (R209). -/
@[simp] abbrev F.CS_SPARE_ROTSTOP : Fld := ⟨.CS_SPARE, 13, 1⟩
/-- CS_SPARE.SHFRZ[14:14] (R209). -/
@[simp] abbrev F.CS_SPARE_SHFRZ : Fld := ⟨.CS_SPARE, 14, 1⟩
/-- CS_SPARE.TAKEOVERS[23:16] (R209). -/
@[simp] abbrev F.CS_SPARE_TAKEOVERS : Fld := ⟨.CS_SPARE, 16, 8⟩
/-- CS_SPARE.ROTLEFT[31:24] (R209). -/
@[simp] abbrev F.CS_SPARE_ROTLEFT : Fld := ⟨.CS_SPARE, 24, 8⟩
/-- CS_MAP.CL0[4:0] (R209). -/
@[simp] abbrev F.CS_MAP_CL0 (w : Fin 4) : Fld := ⟨.CS_MAP w, 0, 5⟩
/-- CS_MAP.CL1[12:8] (R209). -/
@[simp] abbrev F.CS_MAP_CL1 (w : Fin 4) : Fld := ⟨.CS_MAP w, 8, 5⟩
/-- CS_MAP.CL2[20:16] (R209). -/
@[simp] abbrev F.CS_MAP_CL2 (w : Fin 4) : Fld := ⟨.CS_MAP w, 16, 5⟩
/-- CS_MAP.CL3[28:24] (R209). -/
@[simp] abbrev F.CS_MAP_CL3 (w : Fin 4) : Fld := ⟨.CS_MAP w, 24, 5⟩
/-- CS_STAT.ROLE[1:0] (R209). -/
@[simp] abbrev F.CS_STAT_ROLE (k : Fin 17) : Fld := ⟨.CS_STAT k, 0, 2⟩
/-- CS_STAT.LAST[2:2] (R209). -/
@[simp] abbrev F.CS_STAT_LAST (k : Fin 17) : Fld := ⟨.CS_STAT k, 2, 1⟩
/-- CS_STAT.NONE[3:3] (R209). -/
@[simp] abbrev F.CS_STAT_NONE (k : Fin 17) : Fld := ⟨.CS_STAT k, 3, 1⟩
/-- CS_STAT.AGE[11:4] (R209). -/
@[simp] abbrev F.CS_STAT_AGE (k : Fin 17) : Fld := ⟨.CS_STAT k, 4, 8⟩
/-- CS_STAT.COVER[19:12] (R209). -/
@[simp] abbrev F.CS_STAT_COVER (k : Fin 17) : Fld := ⟨.CS_STAT k, 12, 8⟩
/-- CS_STAT.MISM[23:20] (R209). -/
@[simp] abbrev F.CS_STAT_MISM (k : Fin 17) : Fld := ⟨.CS_STAT k, 20, 4⟩
/-- CS_STAT.FAILS[31:24] (R209). -/
@[simp] abbrev F.CS_STAT_FAILS (k : Fin 17) : Fld := ⟨.CS_STAT k, 24, 8⟩
/-- CS_SHPROG.BASE[15:0] (R141). -/
@[simp] abbrev F.CS_SHPROG_BASE : Fld := ⟨.CS_SHPROG, 0, 16⟩
/-- CS_SHPROG.LEN[27:16] (R141). -/
@[simp] abbrev F.CS_SHPROG_LEN : Fld := ⟨.CS_SHPROG, 16, 12⟩
/-- CS_SHPROG.BANK[28:28] (R141). -/
@[simp] abbrev F.CS_SHPROG_BANK : Fld := ⟨.CS_SHPROG, 28, 1⟩
/-- CS_SHPROG.ACT[29:29] (R141). -/
@[simp] abbrev F.CS_SHPROG_ACT : Fld := ⟨.CS_SHPROG, 29, 1⟩
/-- CS_SHPROG.SWPEND[30:30] (R141). -/
@[simp] abbrev F.CS_SHPROG_SWPEND : Fld := ⟨.CS_SHPROG, 30, 1⟩
/-- CS_SHCMD.START[0:0] (R141). -/
@[simp] abbrev F.CS_SHCMD_START : Fld := ⟨.CS_SHCMD, 0, 1⟩
/-- CS_SHCMD.STOP[1:1] (R141). -/
@[simp] abbrev F.CS_SHCMD_STOP : Fld := ⟨.CS_SHCMD, 1, 1⟩
/-- CS_SHSTAT.PC[15:0] (R141). -/
@[simp] abbrev F.CS_SHSTAT_PC : Fld := ⟨.CS_SHSTAT, 0, 16⟩
/-- CS_SHSTAT.RUN[16:16] (R141). -/
@[simp] abbrev F.CS_SHSTAT_RUN : Fld := ⟨.CS_SHSTAT, 16, 1⟩
/-- CS_SHSTAT.BARW[17:17] (R141). -/
@[simp] abbrev F.CS_SHSTAT_BARW : Fld := ⟨.CS_SHSTAT, 17, 1⟩
/-- CS_SHSTAT.BARNO[21:18] (R141). -/
@[simp] abbrev F.CS_SHSTAT_BARNO : Fld := ⟨.CS_SHSTAT, 18, 4⟩
/-- CS_SHSTAT.PFLT[24:22] (R141). -/
@[simp] abbrev F.CS_SHSTAT_PFLT : Fld := ⟨.CS_SHSTAT, 22, 3⟩
/-- CS_SHSTAT.SP[27:25] (R141). -/
@[simp] abbrev F.CS_SHSTAT_SP : Fld := ⟨.CS_SHSTAT, 25, 3⟩
/-- CS_SHSTAT.FLAGS[31:28] (R141). -/
@[simp] abbrev F.CS_SHSTAT_FLAGS : Fld := ⟨.CS_SHSTAT, 28, 4⟩
/-- CS_BART.TMO[15:0] (R141). -/
@[simp] abbrev F.CS_BART_TMO : Fld := ⟨.CS_BART, 0, 16⟩
/-- CS_SHIN.VAL[31:0] (R163). -/
@[simp] abbrev F.CS_SHIN_VAL : Fld := ⟨.CS_SHIN, 0, 32⟩
/-- CS_SHUSR.VAL[31:0] (R163). -/
@[simp] abbrev F.CS_SHUSR_VAL (i : Fin 4) : Fld := ⟨.CS_SHUSR i, 0, 32⟩
/-- CS_SG.G[31:0] (R141). -/
@[simp] abbrev F.CS_SG_G (i : Fin 16) : Fld := ⟨.CS_SG i, 0, 32⟩
/-- CS_BARM.MEMB[31:0] (R141). -/
@[simp] abbrev F.CS_BARM_MEMB (b : Fin 16) (w : Fin 4) : Fld := ⟨.CS_BARM b w, 0, 32⟩
/-- CH_MODE.MODE[3:0] (R93). -/
@[simp] abbrev F.CH_MODE_MODE (n : Fin 128) : Fld := ⟨.CH_MODE n, 0, 4⟩
/-- CH_MODE.REG[5:4] (R93). -/
@[simp] abbrev F.CH_MODE_REG (n : Fin 128) : Fld := ⟨.CH_MODE n, 4, 2⟩
/-- CH_MODE.CVPH[6:6] (R93). -/
@[simp] abbrev F.CH_MODE_CVPH (n : Fin 128) : Fld := ⟨.CH_MODE n, 6, 1⟩
/-- CH_MODE.SLEW[7:7] (R93). -/
@[simp] abbrev F.CH_MODE_SLEW (n : Fin 128) : Fld := ⟨.CH_MODE n, 7, 1⟩
/-- CH_MODE.PRECHG[8:8] (R93). -/
@[simp] abbrev F.CH_MODE_PRECHG (n : Fin 128) : Fld := ⟨.CH_MODE n, 8, 1⟩
/-- CH_MODE.SKIP[9:9] (R93). -/
@[simp] abbrev F.CH_MODE_SKIP (n : Fin 128) : Fld := ⟨.CH_MODE n, 9, 1⟩
/-- CH_MODE.EISFF[10:10] (R93). -/
@[simp] abbrev F.CH_MODE_EISFF (n : Fin 128) : Fld := ⟨.CH_MODE n, 10, 1⟩
/-- CH_STATE.STATE[3:0] (R93). -/
@[simp] abbrev F.CH_STATE_STATE (n : Fin 128) : Fld := ⟨.CH_STATE n, 0, 4⟩
/-- CH_STATE.NPH[4:4] (R93). -/
@[simp] abbrev F.CH_STATE_NPH (n : Fin 128) : Fld := ⟨.CH_STATE n, 4, 1⟩
/-- CH_STATE.KEPT[5:5] (R93). -/
@[simp] abbrev F.CH_STATE_KEPT (n : Fin 128) : Fld := ⟨.CH_STATE n, 5, 1⟩
/-- CH_STATE.OSWC[6:6] (R93). -/
@[simp] abbrev F.CH_STATE_OSWC (n : Fin 128) : Fld := ⟨.CH_STATE n, 6, 1⟩
/-- CH_STATE.SS[7:7] (R93). -/
@[simp] abbrev F.CH_STATE_SS (n : Fin 128) : Fld := ⟨.CH_STATE n, 7, 1⟩
/-- CH_STATE.CHK[10:8] (R93). -/
@[simp] abbrev F.CH_STATE_CHK (n : Fin 128) : Fld := ⟨.CH_STATE n, 8, 3⟩
/-- CH_STATE.SHEDS[31:16] (R93). -/
@[simp] abbrev F.CH_STATE_SHEDS (n : Fin 128) : Fld := ⟨.CH_STATE n, 16, 16⟩
/-- CH_PROG.BASE[15:0] (R140). -/
@[simp] abbrev F.CH_PROG_BASE (n : Fin 128) : Fld := ⟨.CH_PROG n, 0, 16⟩
/-- CH_PROG.LEN[27:16] (R140). -/
@[simp] abbrev F.CH_PROG_LEN (n : Fin 128) : Fld := ⟨.CH_PROG n, 16, 12⟩
/-- CH_PROG.BANK[28:28] (R140). -/
@[simp] abbrev F.CH_PROG_BANK (n : Fin 128) : Fld := ⟨.CH_PROG n, 28, 1⟩
/-- CH_PROG.ACT[29:29] (R140). -/
@[simp] abbrev F.CH_PROG_ACT (n : Fin 128) : Fld := ⟨.CH_PROG n, 29, 1⟩
/-- CH_PROG.SWPEND[30:30] (R140). -/
@[simp] abbrev F.CH_PROG_SWPEND (n : Fin 128) : Fld := ⟨.CH_PROG n, 30, 1⟩
/-- CH_GANG.SIZE[1:0] (R93). -/
@[simp] abbrev F.CH_GANG_SIZE (n : Fin 128) : Fld := ⟨.CH_GANG n, 0, 2⟩
/-- CH_GANG.MEMBER[2:2] (R93). -/
@[simp] abbrev F.CH_GANG_MEMBER (n : Fin 128) : Fld := ⟨.CH_GANG n, 2, 1⟩
/-- CH_GANG.LEAD[14:8] (R93). -/
@[simp] abbrev F.CH_GANG_LEAD (n : Fin 128) : Fld := ⟨.CH_GANG n, 8, 7⟩
/-- CH_PWM.TONMIN[7:0] (R93). -/
@[simp] abbrev F.CH_PWM_TONMIN (n : Fin 128) : Fld := ⟨.CH_PWM n, 0, 8⟩
/-- CH_PWM.TOFFMIN[15:8] (R93). -/
@[simp] abbrev F.CH_PWM_TOFFMIN (n : Fin 128) : Fld := ⟨.CH_PWM n, 8, 8⟩
/-- CH_PWM.DMAX[23:16] (R93). -/
@[simp] abbrev F.CH_PWM_DMAX (n : Fin 128) : Fld := ⟨.CH_PWM n, 16, 8⟩
/-- CH_PWM.PHFIT[24:24] (R93). -/
@[simp] abbrev F.CH_PWM_PHFIT (n : Fin 128) : Fld := ⟨.CH_PWM n, 24, 1⟩
/-- CH_PWM.SHED[25:25] (R93). -/
@[simp] abbrev F.CH_PWM_SHED (n : Fin 128) : Fld := ⟨.CH_PWM n, 25, 1⟩
/-- CH_CMD.START[0:0] (R140). -/
@[simp] abbrev F.CH_CMD_START (n : Fin 128) : Fld := ⟨.CH_CMD n, 0, 1⟩
/-- CH_CMD.STOP[1:1] (R140). -/
@[simp] abbrev F.CH_CMD_STOP (n : Fin 128) : Fld := ⟨.CH_CMD n, 1, 1⟩
/-- CH_SOFT.LIM_V0[15:0] (R93). -/
@[simp] abbrev F.CH_SOFT_LIM_V0 (n : Fin 128) : Fld := ⟨.CH_SOFT n, 0, 16⟩
/-- CH_SOFT.LIM_I0[31:16] (R93). -/
@[simp] abbrev F.CH_SOFT_LIM_I0 (n : Fin 128) : Fld := ⟨.CH_SOFT n, 16, 16⟩
/-- CH_SLEW.ISLEW[15:0] (R93). -/
@[simp] abbrev F.CH_SLEW_ISLEW (n : Fin 128) : Fld := ⟨.CH_SLEW n, 0, 16⟩
/-- CH_SLEW.VSLEW[31:16] (R93). -/
@[simp] abbrev F.CH_SLEW_VSLEW (n : Fin 128) : Fld := ⟨.CH_SLEW n, 16, 16⟩
/-- CH_LIM_V.OVTH[15:0] (R117). -/
@[simp] abbrev F.CH_LIM_V_OVTH (n : Fin 128) : Fld := ⟨.CH_LIM_V n, 0, 16⟩
/-- CH_LIM_V.UVTH[31:16] (R117). -/
@[simp] abbrev F.CH_LIM_V_UVTH (n : Fin 128) : Fld := ⟨.CH_LIM_V n, 16, 16⟩
/-- CH_LIM_I.IMAX[15:0] (R117). -/
@[simp] abbrev F.CH_LIM_I_IMAX (n : Fin 128) : Fld := ⟨.CH_LIM_I n, 0, 16⟩
/-- CH_LIM_I.OCTH[23:16] (R117). -/
@[simp] abbrev F.CH_LIM_I_OCTH (n : Fin 128) : Fld := ⟨.CH_LIM_I n, 16, 8⟩
/-- CH_LIM_T.TMAX[15:0] (R117). -/
@[simp] abbrev F.CH_LIM_T_TMAX (n : Fin 128) : Fld := ⟨.CH_LIM_T n, 0, 16⟩
/-- CH_LIM_T.TSEN[16:16] (R117). -/
@[simp] abbrev F.CH_LIM_T_TSEN (n : Fin 128) : Fld := ⟨.CH_LIM_T n, 16, 1⟩
/-- CH_FUSE.IC[15:0] (R117). -/
@[simp] abbrev F.CH_FUSE_IC (n : Fin 128) : Fld := ⟨.CH_FUSE n, 0, 16⟩
/-- CH_FUSE.TAU[23:16] (R117). -/
@[simp] abbrev F.CH_FUSE_TAU (n : Fin 128) : Fld := ⟨.CH_FUSE n, 16, 8⟩
/-- CH_FUSE.KT[31:24] (R117). -/
@[simp] abbrev F.CH_FUSE_KT (n : Fin 128) : Fld := ⟨.CH_FUSE n, 24, 8⟩
/-- CT_DELTA.DELTA[15:0] (R117). -/
@[simp] abbrev F.CT_DELTA_DELTA (n : Fin 128) : Fld := ⟨.CT_DELTA n, 0, 16⟩
/-- CT_DELTA.LPATH[23:16] (R117). -/
@[simp] abbrev F.CT_DELTA_LPATH (n : Fin 128) : Fld := ⟨.CT_DELTA n, 16, 8⟩
/-- CT_DELTA.CTEN[24:24] (R117). -/
@[simp] abbrev F.CT_DELTA_CTEN (n : Fin 128) : Fld := ⟨.CT_DELTA n, 24, 1⟩
/-- CT_EMAX.EMAX[15:0] (R117). -/
@[simp] abbrev F.CT_EMAX_EMAX (n : Fin 128) : Fld := ⟨.CT_EMAX n, 0, 16⟩
/-- CT_EMAX.VARC[23:16] (R117). -/
@[simp] abbrev F.CT_EMAX_VARC (n : Fin 128) : Fld := ⟨.CT_EMAX n, 16, 8⟩
/-- CH_RPATH.RPATH[23:0] (R93). -/
@[simp] abbrev F.CH_RPATH_RPATH (n : Fin 128) : Fld := ⟨.CH_RPATH n, 0, 24⟩
/-- CH_RPATH.LOWI[24:24] (R93). -/
@[simp] abbrev F.CH_RPATH_LOWI (n : Fin 128) : Fld := ⟨.CH_RPATH n, 24, 1⟩
/-- CH_RPATH.VALID[25:25] (R93). -/
@[simp] abbrev F.CH_RPATH_VALID (n : Fin 128) : Fld := ⟨.CH_RPATH n, 25, 1⟩
/-- CH_CHK.ILRN[7:0] (R93). -/
@[simp] abbrev F.CH_CHK_ILRN (n : Fin 128) : Fld := ⟨.CH_CHK n, 0, 8⟩
/-- CH_CHK.RPMIN[15:8] (R93). -/
@[simp] abbrev F.CH_CHK_RPMIN (n : Fin 128) : Fld := ⟨.CH_CHK n, 8, 8⟩
/-- CH_CHK.RPMAX[23:16] (R93). -/
@[simp] abbrev F.CH_CHK_RPMAX (n : Fin 128) : Fld := ⟨.CH_CHK n, 16, 8⟩
/-- CH_CHK.SWTH[31:24] (R93). -/
@[simp] abbrev F.CH_CHK_SWTH (n : Fin 128) : Fld := ⟨.CH_CHK n, 24, 8⟩
/-- CH_MEAS.RANGE[1:0] (R54). -/
@[simp] abbrev F.CH_MEAS_RANGE (n : Fin 128) : Fld := ⟨.CH_MEAS n, 0, 2⟩
/-- CH_MEAS.AUTO[2:2] (R54). -/
@[simp] abbrev F.CH_MEAS_AUTO (n : Fin 128) : Fld := ⟨.CH_MEAS n, 2, 1⟩
/-- CH_MEAS.RLO[5:4] (R54). -/
@[simp] abbrev F.CH_MEAS_RLO (n : Fin 128) : Fld := ⟨.CH_MEAS n, 4, 2⟩
/-- CH_MEAS.RHI[7:6] (R54). -/
@[simp] abbrev F.CH_MEAS_RHI (n : Fin 128) : Fld := ⟨.CH_MEAS n, 6, 2⟩
/-- CH_SHUNT.RSHUNT[31:0] (R54). -/
@[simp] abbrev F.CH_SHUNT_RSHUNT (n : Fin 128) : Fld := ⟨.CH_SHUNT n, 0, 32⟩
/-- CH_NTC.BETA[15:0] (R54). -/
@[simp] abbrev F.CH_NTC_BETA (n : Fin 128) : Fld := ⟨.CH_NTC n, 0, 16⟩
/-- CH_NTC.R25[23:16] (R54). -/
@[simp] abbrev F.CH_NTC_R25 (n : Fin 128) : Fld := ⟨.CH_NTC n, 16, 8⟩
/-- CH_MSTAT.IRANGE[1:0] (R54). -/
@[simp] abbrev F.CH_MSTAT_IRANGE (n : Fin 128) : Fld := ⟨.CH_MSTAT n, 0, 2⟩
/-- CH_MSTAT.RSETTLE[2:2] (R54). -/
@[simp] abbrev F.CH_MSTAT_RSETTLE (n : Fin 128) : Fld := ⟨.CH_MSTAT n, 2, 1⟩
/-- CH_MSTAT.XSETTLE[3:3] (R54). -/
@[simp] abbrev F.CH_MSTAT_XSETTLE (n : Fin 128) : Fld := ⟨.CH_MSTAT n, 3, 1⟩
/-- CH_MSTAT.BAND[6:4] (R54). -/
@[simp] abbrev F.CH_MSTAT_BAND (n : Fin 128) : Fld := ⟨.CH_MSTAT n, 4, 3⟩
/-- CH_MSTAT.BLEND[7:7] (R54). -/
@[simp] abbrev F.CH_MSTAT_BLEND (n : Fin 128) : Fld := ⟨.CH_MSTAT n, 7, 1⟩
/-- CH_MSTAT.VOVR[8:8] (R54). -/
@[simp] abbrev F.CH_MSTAT_VOVR (n : Fin 128) : Fld := ⟨.CH_MSTAT n, 8, 1⟩
/-- CH_MSTAT.IOVR[9:9] (R54). -/
@[simp] abbrev F.CH_MSTAT_IOVR (n : Fin 128) : Fld := ⟨.CH_MSTAT n, 9, 1⟩
/-- CH_MSTAT.TSFLT[10:10] (R54). -/
@[simp] abbrev F.CH_MSTAT_TSFLT (n : Fin 128) : Fld := ⟨.CH_MSTAT n, 10, 1⟩
/-- CH_MSTAT.UNCAL[11:11] (R54). -/
@[simp] abbrev F.CH_MSTAT_UNCAL (n : Fin 128) : Fld := ⟨.CH_MSTAT n, 11, 1⟩
/-- CH_MSTAT.CALSW[12:12] (R54). -/
@[simp] abbrev F.CH_MSTAT_CALSW (n : Fin 128) : Fld := ⟨.CH_MSTAT n, 12, 1⟩
/-- CH_MSTAT.LCOM[13:13] (R54). -/
@[simp] abbrev F.CH_MSTAT_LCOM (n : Fin 128) : Fld := ⟨.CH_MSTAT n, 13, 1⟩
/-- CH_MSTAT.RCHG[31:16] (R54). -/
@[simp] abbrev F.CH_MSTAT_RCHG (n : Fin 128) : Fld := ⟨.CH_MSTAT n, 16, 16⟩
/-- CH_IKP.KPI[31:0] (R93). -/
@[simp] abbrev F.CH_IKP_KPI (n : Fin 128) : Fld := ⟨.CH_IKP n, 0, 32⟩
/-- CH_IKI.KII[31:0] (R93). -/
@[simp] abbrev F.CH_IKI_KII (n : Fin 128) : Fld := ⟨.CH_IKI n, 0, 32⟩
/-- CH_VKP.KPV[31:0] (R93). -/
@[simp] abbrev F.CH_VKP_KPV (n : Fin 128) : Fld := ⟨.CH_VKP n, 0, 32⟩
/-- CH_VKI.KIV[31:0] (R93). -/
@[simp] abbrev F.CH_VKI_KIV (n : Fin 128) : Fld := ⟨.CH_VKI n, 0, 32⟩
/-- CH_LCFG.DFF[0:0] (R93). -/
@[simp] abbrev F.CH_LCFG_DFF (n : Fin 128) : Fld := ⟨.CH_LCFG n, 0, 1⟩
/-- CH_LCFG.EISDIV[7:4] (R93). -/
@[simp] abbrev F.CH_LCFG_EISDIV (n : Fin 128) : Fld := ⟨.CH_LCFG n, 4, 4⟩
/-- CH_LCFG.RSTG[15:8] (R93). -/
@[simp] abbrev F.CH_LCFG_RSTG (n : Fin 128) : Fld := ⟨.CH_LCFG n, 8, 8⟩
/-- CH_LCFG.LEQ[23:16] (R93). -/
@[simp] abbrev F.CH_LCFG_LEQ (n : Fin 128) : Fld := ⟨.CH_LCFG n, 16, 8⟩
/-- CH_OSW.TCLOSE[7:0] (R93). -/
@[simp] abbrev F.CH_OSW_TCLOSE (n : Fin 128) : Fld := ⟨.CH_OSW n, 0, 8⟩
/-- CH_OSW.PBTOL[15:8] (R93). -/
@[simp] abbrev F.CH_OSW_PBTOL (n : Fin 128) : Fld := ⟨.CH_OSW n, 8, 8⟩
/-- CH_OSW.POL[16:16] (R93). -/
@[simp] abbrev F.CH_OSW_POL (n : Fin 128) : Fld := ⟨.CH_OSW n, 16, 1⟩
/-- CH_V.V[31:0] (R54). -/
@[simp] abbrev F.CH_V_V (n : Fin 128) : Fld := ⟨.CH_V n, 0, 32⟩
/-- CH_I.I[31:0] (R54). -/
@[simp] abbrev F.CH_I_I (n : Fin 128) : Fld := ⟨.CH_I n, 0, 32⟩
/-- CH_P.P[31:0] (R183). -/
@[simp] abbrev F.CH_P_P (n : Fin 128) : Fld := ⟨.CH_P n, 0, 32⟩
/-- CH_AH.Q[31:0] (R183). -/
@[simp] abbrev F.CH_AH_Q (n : Fin 128) : Fld := ⟨.CH_AH n, 0, 32⟩
/-- CH_AHH.Q[31:0] (R183). -/
@[simp] abbrev F.CH_AHH_Q (n : Fin 128) : Fld := ⟨.CH_AHH n, 0, 32⟩
/-- CH_WH.E[31:0] (R183). -/
@[simp] abbrev F.CH_WH_E (n : Fin 128) : Fld := ⟨.CH_WH n, 0, 32⟩
/-- CH_WHH.E[31:0] (R183). -/
@[simp] abbrev F.CH_WHH_E (n : Fin 128) : Fld := ⟨.CH_WHH n, 0, 32⟩
/-- CH_T.T[31:0] (R54). -/
@[simp] abbrev F.CH_T_T (n : Fin 128) : Fld := ⟨.CH_T n, 0, 32⟩
/-- CH_VFD.VFD[31:0] (R54). -/
@[simp] abbrev F.CH_VFD_VFD (n : Fin 128) : Fld := ⟨.CH_VFD n, 0, 32⟩
/-- CH_REF.IREF[31:0] (R93). -/
@[simp] abbrev F.CH_REF_IREF (n : Fin 128) : Fld := ⟨.CH_REF n, 0, 32⟩
/-- CH_DUTY.DUTY[23:0] (R93). -/
@[simp] abbrev F.CH_DUTY_DUTY (n : Fin 128) : Fld := ⟨.CH_DUTY n, 0, 24⟩
/-- CH_PSTAT.PC[15:0] (R140). -/
@[simp] abbrev F.CH_PSTAT_PC (n : Fin 128) : Fld := ⟨.CH_PSTAT n, 0, 16⟩
/-- CH_PSTAT.STEP[16:16] (R140). -/
@[simp] abbrev F.CH_PSTAT_STEP (n : Fin 128) : Fld := ⟨.CH_PSTAT n, 16, 1⟩
/-- CH_PSTAT.WAITING[17:17] (R140). -/
@[simp] abbrev F.CH_PSTAT_WAITING (n : Fin 128) : Fld := ⟨.CH_PSTAT n, 17, 1⟩
/-- CH_PSTAT.BARW[18:18] (R140). -/
@[simp] abbrev F.CH_PSTAT_BARW (n : Fin 128) : Fld := ⟨.CH_PSTAT n, 18, 1⟩
/-- CH_PSTAT.GAP[19:19] (R140). -/
@[simp] abbrev F.CH_PSTAT_GAP (n : Fin 128) : Fld := ⟨.CH_PSTAT n, 19, 1⟩
/-- CH_PSTAT.SP[22:20] (R140). -/
@[simp] abbrev F.CH_PSTAT_SP (n : Fin 128) : Fld := ⟨.CH_PSTAT n, 20, 3⟩
/-- CH_PSTAT.PFLT[25:23] (R140). -/
@[simp] abbrev F.CH_PSTAT_PFLT (n : Fin 128) : Fld := ⟨.CH_PSTAT n, 23, 3⟩
/-- CH_PSTAT.CLASS[27:26] (R140). -/
@[simp] abbrev F.CH_PSTAT_CLASS (n : Fin 128) : Fld := ⟨.CH_PSTAT n, 26, 2⟩
/-- CH_PSTAT.FLAGS[31:28] (R140). -/
@[simp] abbrev F.CH_PSTAT_FLAGS (n : Fin 128) : Fld := ⟨.CH_PSTAT n, 28, 4⟩
/-- CH_PSEQ.SEQ[31:0] (R140). -/
@[simp] abbrev F.CH_PSEQ_SEQ (n : Fin 128) : Fld := ⟨.CH_PSEQ n, 0, 32⟩
/-- CH_PCNT.TDROP[15:0] (R140). -/
@[simp] abbrev F.CH_PCNT_TDROP (n : Fin 128) : Fld := ⟨.CH_PCNT n, 0, 16⟩
/-- CH_PCNT.USER[31:16] (R140). -/
@[simp] abbrev F.CH_PCNT_USER (n : Fin 128) : Fld := ⟨.CH_PCNT n, 16, 16⟩
/-- CH_TREC.W[31:0] (R140). -/
@[simp] abbrev F.CH_TREC_W (n : Fin 128) (i : Fin 16) : Fld := ⟨.CH_TREC n i, 0, 32⟩
/-- CH_FAULT.OC[0:0] (R117). -/
@[simp] abbrev F.CH_FAULT_OC (n : Fin 128) : Fld := ⟨.CH_FAULT n, 0, 1⟩
/-- CH_FAULT.OV[1:1] (R117). -/
@[simp] abbrev F.CH_FAULT_OV (n : Fin 128) : Fld := ⟨.CH_FAULT n, 1, 1⟩
/-- CH_FAULT.UV[2:2] (R117). -/
@[simp] abbrev F.CH_FAULT_UV (n : Fin 128) : Fld := ⟨.CH_FAULT n, 2, 1⟩
/-- CH_FAULT.OT[3:3] (R117). -/
@[simp] abbrev F.CH_FAULT_OT (n : Fin 128) : Fld := ⟨.CH_FAULT n, 3, 1⟩
/-- CH_FAULT.FUSE[4:4] (R117). -/
@[simp] abbrev F.CH_FAULT_FUSE (n : Fin 128) : Fld := ⟨.CH_FAULT n, 4, 1⟩
/-- CH_FAULT.CT[5:5] (R117). -/
@[simp] abbrev F.CH_FAULT_CT (n : Fin 128) : Fld := ⟨.CH_FAULT n, 5, 1⟩
/-- CH_FAULT.EMAX[6:6] (R117). -/
@[simp] abbrev F.CH_FAULT_EMAX (n : Fin 128) : Fld := ⟨.CH_FAULT n, 6, 1⟩
/-- CH_FAULT.SS[7:7] (R117). -/
@[simp] abbrev F.CH_FAULT_SS (n : Fin 128) : Fld := ⟨.CH_FAULT n, 7, 1⟩
/-- CH_FAULT.STG[8:8] (R117). -/
@[simp] abbrev F.CH_FAULT_STG (n : Fin 128) : Fld := ⟨.CH_FAULT n, 8, 1⟩
/-- CH_FAULT.CYC[9:9] (R117). -/
@[simp] abbrev F.CH_FAULT_CYC (n : Fin 128) : Fld := ⟨.CH_FAULT n, 9, 1⟩
/-- CH_FAULT.CHK[10:10] (R117). -/
@[simp] abbrev F.CH_FAULT_CHK (n : Fin 128) : Fld := ⟨.CH_FAULT n, 10, 1⟩
/-- CH_FAULT.SUSP[11:11] (R117). -/
@[simp] abbrev F.CH_FAULT_SUSP (n : Fin 128) : Fld := ⟨.CH_FAULT n, 11, 1⟩
/-- CH_FAULT.CLU[12:12] (R117). -/
@[simp] abbrev F.CH_FAULT_CLU (n : Fin 128) : Fld := ⟨.CH_FAULT n, 12, 1⟩
/-- CH_FAULT.MEMB[13:13] (R117). -/
@[simp] abbrev F.CH_FAULT_MEMB (n : Fin 128) : Fld := ⟨.CH_FAULT n, 13, 1⟩
/-- CH_FAULT.BUS[14:14] (R117). -/
@[simp] abbrev F.CH_FAULT_BUS (n : Fin 128) : Fld := ⟨.CH_FAULT n, 14, 1⟩
/-- CH_FAULT.FIRST[20:16] (R117). -/
@[simp] abbrev F.CH_FAULT_FIRST (n : Fin 128) : Fld := ⟨.CH_FAULT n, 16, 5⟩
/-- CH_FUSEST.HREL[11:0] (R117). -/
@[simp] abbrev F.CH_FUSEST_HREL (n : Fin 128) : Fld := ⟨.CH_FUSEST n, 0, 12⟩
/-- CH_FUSEST.BKON[12:12] (R117). -/
@[simp] abbrev F.CH_FUSEST_BKON (n : Fin 128) : Fld := ⟨.CH_FUSEST n, 12, 1⟩
/-- CH_FUSEST.BKCNT[31:16] (R117). -/
@[simp] abbrev F.CH_FUSEST_BKCNT (n : Fin 128) : Fld := ⟨.CH_FUSEST n, 16, 16⟩
/-- CH_CTLAST.EEST[23:0] (R117). -/
@[simp] abbrev F.CH_CTLAST_EEST (n : Fin 128) : Fld := ⟨.CH_CTLAST n, 0, 24⟩
/-- CH_CTLAST.NSMP[31:24] (R117). -/
@[simp] abbrev F.CH_CTLAST_NSMP (n : Fin 128) : Fld := ⟨.CH_CTLAST n, 24, 8⟩
/-- CH_CTCNT.TRIPS[15:0] (R117). -/
@[simp] abbrev F.CH_CTCNT_TRIPS (n : Fin 128) : Fld := ⟨.CH_CTCNT n, 0, 16⟩
/-- CH_CTCNT.NEAR[31:16] (R117). -/
@[simp] abbrev F.CH_CTCNT_NEAR (n : Fin 128) : Fld := ⟨.CH_CTCNT n, 16, 16⟩
/-- CH_CTWEAR.RATE[15:0] (R117). -/
@[simp] abbrev F.CH_CTWEAR_RATE (n : Fin 128) : Fld := ⟨.CH_CTWEAR n, 0, 16⟩
/-- CH_CTWEAR.WEAR[16:16] (R117). -/
@[simp] abbrev F.CH_CTWEAR_WEAR (n : Fin 128) : Fld := ⟨.CH_CTWEAR n, 16, 1⟩
/-- CH_CTWEAR.DRIFT[17:17] (R117). -/
@[simp] abbrev F.CH_CTWEAR_DRIFT (n : Fin 128) : Fld := ⟨.CH_CTWEAR n, 17, 1⟩
/-- CH_CTCLAMP.ICT[15:0] (R117). -/
@[simp] abbrev F.CH_CTCLAMP_ICT (n : Fin 128) : Fld := ⟨.CH_CTCLAMP n, 0, 16⟩
/-- CH_CTCLAMP.ACTIVE[16:16] (R117). -/
@[simp] abbrev F.CH_CTCLAMP_ACTIVE (n : Fin 128) : Fld := ⟨.CH_CTCLAMP n, 16, 1⟩
/-- CH_STG.FLTQ[7:0] (R117). -/
@[simp] abbrev F.CH_STG_FLTQ (n : Fin 128) : Fld := ⟨.CH_STG n, 0, 8⟩
/-- CH_STG.CYCN[15:8] (R117). -/
@[simp] abbrev F.CH_STG_CYCN (n : Fin 128) : Fld := ⟨.CH_STG n, 8, 8⟩
/-- CH_STG.CYCCNT[31:16] (R117). -/
@[simp] abbrev F.CH_STG_CYCCNT (n : Fin 128) : Fld := ⟨.CH_STG n, 16, 16⟩
/-- CH_DCIR.R[31:0] (R183). -/
@[simp] abbrev F.CH_DCIR_R (n : Fin 128) : Fld := ⟨.CH_DCIR n, 0, 32⟩
/-- CH_DCDV.DV[31:0] (R183). -/
@[simp] abbrev F.CH_DCDV_DV (n : Fin 128) : Fld := ⟨.CH_DCDV n, 0, 32⟩
/-- CH_DCDI.DI[31:0] (R183). -/
@[simp] abbrev F.CH_DCDI_DI (n : Fin 128) : Fld := ⟨.CH_DCDI n, 0, 32⟩
/-- CH_DCCFG.DIMIN[15:0] (R183). -/
@[simp] abbrev F.CH_DCCFG_DIMIN (n : Fin 128) : Fld := ⟨.CH_DCCFG n, 0, 16⟩
/-- CH_DCST.DELAY[15:0] (R183). -/
@[simp] abbrev F.CH_DCST_DELAY (n : Fin 128) : Fld := ⟨.CH_DCST n, 0, 16⟩
/-- CH_DCST.VALID[16:16] (R183). -/
@[simp] abbrev F.CH_DCST_VALID (n : Fin 128) : Fld := ⟨.CH_DCST n, 16, 1⟩
/-- CH_DCST.LOWDI[17:17] (R183). -/
@[simp] abbrev F.CH_DCST_LOWDI (n : Fin 128) : Fld := ⟨.CH_DCST n, 17, 1⟩
/-- CH_DCST.EXCL[18:18] (R183). -/
@[simp] abbrev F.CH_DCST_EXCL (n : Fin 128) : Fld := ⟨.CH_DCST n, 18, 1⟩
/-- CH_DCST.CLOSED[19:19] (R183). -/
@[simp] abbrev F.CH_DCST_CLOSED (n : Fin 128) : Fld := ⟨.CH_DCST n, 19, 1⟩
/-- CH_EIS_F.F[31:0] (R183). -/
@[simp] abbrev F.CH_EIS_F_F (n : Fin 128) : Fld := ⟨.CH_EIS_F n, 0, 32⟩
/-- CH_EIS_RE.RE[31:0] (R183). -/
@[simp] abbrev F.CH_EIS_RE_RE (n : Fin 128) : Fld := ⟨.CH_EIS_RE n, 0, 32⟩
/-- CH_EIS_IM.IM[31:0] (R183). -/
@[simp] abbrev F.CH_EIS_IM_IM (n : Fin 128) : Fld := ⟨.CH_EIS_IM n, 0, 32⟩
/-- CH_EIS_IA.IA[31:0] (R183). -/
@[simp] abbrev F.CH_EIS_IA_IA (n : Fin 128) : Fld := ⟨.CH_EIS_IA n, 0, 32⟩
/-- CH_EIS_Q.SNRV[7:0] (R183). -/
@[simp] abbrev F.CH_EIS_Q_SNRV (n : Fin 128) : Fld := ⟨.CH_EIS_Q n, 0, 8⟩
/-- CH_EIS_Q.SNRI[15:8] (R183). -/
@[simp] abbrev F.CH_EIS_Q_SNRI (n : Fin 128) : Fld := ⟨.CH_EIS_Q n, 8, 8⟩
/-- CH_EIS_Q.CLAMP[16:16] (R183). -/
@[simp] abbrev F.CH_EIS_Q_CLAMP (n : Fin 128) : Fld := ⟨.CH_EIS_Q n, 16, 1⟩
/-- CH_EIS_Q.OVR[17:17] (R183). -/
@[simp] abbrev F.CH_EIS_Q_OVR (n : Fin 128) : Fld := ⟨.CH_EIS_Q n, 17, 1⟩
/-- CH_EIS_Q.EXCL[18:18] (R183). -/
@[simp] abbrev F.CH_EIS_Q_EXCL (n : Fin 128) : Fld := ⟨.CH_EIS_Q n, 18, 1⟩
/-- CH_EIS_Q.LOWAMP[19:19] (R183). -/
@[simp] abbrev F.CH_EIS_Q_LOWAMP (n : Fin 128) : Fld := ⟨.CH_EIS_Q n, 19, 1⟩
/-- CH_EIS_Q.FF[20:20] (R183). -/
@[simp] abbrev F.CH_EIS_Q_FF (n : Fin 128) : Fld := ⟨.CH_EIS_Q n, 20, 1⟩
/-- CH_EIS_Q.METPATH[21:21] (R183). -/
@[simp] abbrev F.CH_EIS_Q_METPATH (n : Fin 128) : Fld := ⟨.CH_EIS_Q n, 21, 1⟩
/-- CH_EIS_Q.CALSW[22:22] (R183). -/
@[simp] abbrev F.CH_EIS_Q_CALSW (n : Fin 128) : Fld := ⟨.CH_EIS_Q n, 22, 1⟩
/-- CH_EIS_Q.VALID[23:23] (R183). -/
@[simp] abbrev F.CH_EIS_Q_VALID (n : Fin 128) : Fld := ⟨.CH_EIS_Q n, 23, 1⟩
/-- CH_DVDT.DVDT[31:0] (R183). -/
@[simp] abbrev F.CH_DVDT_DVDT (n : Fin 128) : Fld := ⟨.CH_DVDT n, 0, 32⟩
/-- CH_OCVCTL.TSKIP[15:0] (R183). -/
@[simp] abbrev F.CH_OCVCTL_TSKIP (n : Fin 128) : Fld := ⟨.CH_OCVCTL n, 0, 16⟩
/-- CH_OCVCTL.ACTIVE[16:16] (R183). -/
@[simp] abbrev F.CH_OCVCTL_ACTIVE (n : Fin 128) : Fld := ⟨.CH_OCVCTL n, 16, 1⟩
/-- CH_OCVSLOPE.SLOPE[31:0] (R183). -/
@[simp] abbrev F.CH_OCVSLOPE_SLOPE (n : Fin 128) : Fld := ⟨.CH_OCVSLOPE n, 0, 32⟩
/-- CH_OCVSE.SE[31:0] (R183). -/
@[simp] abbrev F.CH_OCVSE_SE (n : Fin 128) : Fld := ⟨.CH_OCVSE n, 0, 32⟩
/-- CH_OCVN.N[31:0] (R183). -/
@[simp] abbrev F.CH_OCVN_N (n : Fin 128) : Fld := ⟨.CH_OCVN n, 0, 32⟩
/-- CH_OCVDUR.DUR[31:0] (R183). -/
@[simp] abbrev F.CH_OCVDUR_DUR (n : Fin 128) : Fld := ⟨.CH_OCVDUR n, 0, 32⟩
/-- CH_OCVST.BLEND[0:0] (R183). -/
@[simp] abbrev F.CH_OCVST_BLEND (n : Fin 128) : Fld := ⟨.CH_OCVST n, 0, 1⟩
/-- CH_OCVST.CAL[1:1] (R183). -/
@[simp] abbrev F.CH_OCVST_CAL (n : Fin 128) : Fld := ⟨.CH_OCVST n, 1, 1⟩
/-- CH_OCVST.LCOM[2:2] (R183). -/
@[simp] abbrev F.CH_OCVST_LCOM (n : Fin 128) : Fld := ⟨.CH_OCVST n, 2, 1⟩
/-- CH_OCVST.TSPAN[31:16] (R183). -/
@[simp] abbrev F.CH_OCVST_TSPAN (n : Fin 128) : Fld := ⟨.CH_OCVST n, 16, 16⟩
/-- CH_OCVV0.VEND[31:0] (R183). -/
@[simp] abbrev F.CH_OCVV0_VEND (n : Fin 128) : Fld := ⟨.CH_OCVV0 n, 0, 32⟩
/-- CH_G.G[31:0] (R140). -/
@[simp] abbrev F.CH_G_G (n : Fin 128) (i : Fin 16) : Fld := ⟨.CH_G n i, 0, 32⟩

end Sys2Proof.Machine
end

