-- ==== Sys2Proof/Machine/Bits.lean ====
section
/-! DEFINITION. Bit fields of a word, signed readings, byte order and CRC-32C: the helpers every other machine file
uses. -/

namespace Sys2Proof.Machine

/-- The `len` bits of `w` from bit `lo`, as a number. -/
def bitsOf (w : Word) (lo len : Nat) : Nat := (w.toNat >>> lo) % 2 ^ len

/-- The mask of `len` bits from bit `lo`. -/
def maskOf (lo len : Nat) : Word := BitVec.ofNat 32 ((2 ^ len - 1) <<< lo)

/-- `w` with the `len` bits from `lo` replaced by `v` (modulo 2^len). -/
def putBits (w : Word) (lo len v : Nat) : Word :=
  (w &&& ~~~ maskOf lo len) ||| BitVec.ofNat 32 ((v % 2 ^ len) <<< lo)

/-- A `len`-bit number read as two's complement. -/
def signedOf (len v : Nat) : Int := if v < 2 ^ (len - 1) then (v : Int) else (v : Int) - 2 ^ len

/-- The `len`-bit two's complement code of an integer. -/
def codeOf (len : Nat) (x : Int) : Nat := (x % 2 ^ len).toNat

/-- A word read as a signed number. -/
def sword (w : Word) : Int := w.toInt

/-- The word of an integer, modulo 2^32. -/
def wordOf (x : Int) : Word := BitVec.ofInt 32 x

/-- The reset value of a register: its fields' reset values in their places, every other bit 0. -/
def Reg.rst (r : Reg) : Word := r.fields.foldl (fun w f => putBits w f.lo f.len f.rst) 0

/-- The two bytes of a 16-bit number, low byte first (the records of R127 and R402 are little-endian). -/
def le16 (v : Nat) : List Byte := [BitVec.ofNat 8 v, BitVec.ofNat 8 (v / 256)]

/-- The four bytes of a 32-bit number, low byte first. -/
def le32 (v : Nat) : List Byte :=
  [BitVec.ofNat 8 v, BitVec.ofNat 8 (v / 2 ^ 8), BitVec.ofNat 8 (v / 2 ^ 16), BitVec.ofNat 8 (v / 2 ^ 24)]

/-- The eight bytes of a 64-bit number, low byte first. -/
def le64 (v : Nat) : List Byte := le32 v ++ le32 (v / 2 ^ 32)

/-- The words of a byte string, four bytes each, little-endian; a short end is filled with zeros. -/
def wordsOf : List Byte → List Word
  | a :: b :: c :: d :: rest =>
      BitVec.ofNat 32 (a.toNat + b.toNat * 2 ^ 8 + c.toNat * 2 ^ 16 + d.toNat * 2 ^ 24) :: wordsOf rest
  | [] => []
  | [a] => [BitVec.ofNat 32 a.toNat]
  | [a, b] => [BitVec.ofNat 32 (a.toNat + b.toNat * 2 ^ 8)]
  | [a, b, c] => [BitVec.ofNat 32 (a.toNat + b.toNat * 2 ^ 8 + c.toNat * 2 ^ 16)]

/-- The bytes of a word, low byte first. -/
def bytesOf (w : Word) : List Byte := le32 w.toNat

/-- One bit of the CRC-32C register (reflected polynomial 0x82F6_3B78; notes/assumptions/7.md). -/
def crcBit (c : Nat) : Nat := if c % 2 = 1 then Nat.xor (c / 2) 0x82F63B78 else c / 2

/-- One byte into the CRC-32C register. -/
def crcByte (c : Nat) (b : Byte) : Nat :=
  crcBit (crcBit (crcBit (crcBit (crcBit (crcBit (crcBit (crcBit (Nat.xor c b.toNat))))))))

/-- CRC-32C of a byte string (R127, R181, R222, R402; notes/assumptions/7.md). -/
def crc32c (bs : List Byte) : Nat := Nat.xor (bs.foldl crcByte 0xFFFFFFFF) 0xFFFFFFFF

/-- The nearest integer below or equal, or the next one above where the manual leaves the rounding open
(notes/assumptions/4.md); exact quotients are exact. A zero divisor gives 0: no caller has one. -/
def rdiv (site : Nat) (num : Int) (den : Nat) : Int :=
  if den = 0 then 0
  else if num % den = 0 then num / den
  else if Config.roundUp site num den then num / den + 1 else num / den

/-- Rounded to nearest (R171, R178, R193); which way an exact half goes the manual leaves open
(notes/assumptions/4.md). -/
def ndiv (num : Int) (den : Nat) : Int :=
  if den = 0 then 0
  else if 2 * (num % den) < den then num / den
  else if (den : Int) < 2 * (num % den) then num / den + 1
  else if Config.roundUp 0 num den then num / den + 1 else num / den

/-- Rounded toward zero (R169). -/
def tdiv (num : Int) (den : Nat) : Int := if 0 ≤ num then num / den else - ((-num) / den)

/-- Clamp of an integer. -/
def clampI (x lo hi : Int) : Int := if x < lo then lo else if hi < x then hi else x

/-- |x| as a number. -/
def absN (x : Int) : Nat := x.natAbs

/-- The counter format of R315: seconds in [63:30], nanoseconds in [29:0], of a count of nanoseconds. -/
def stampCode (ns : Nat) : Nat := (ns / 1000000000) % 2 ^ 34 * 2 ^ 30 + ns % 1000000000

end Sys2Proof.Machine
end

