-- ==== Sys2Proof/Machine/ChanState.lean ====
section
/-! DEFINITION. The state of one channel lane and of the shelf context that no register shows: the step context of R118,
the loops of R74, the check of R69, the detectors' counts of R95–R111 and the metrics' sums of R165–R178. What a register
does show (the channel state, the flags, the program counter, the fault bits) lives in that register and nowhere else. -/

namespace Sys2Proof.Machine

/-- A latched control or metrology sample, calibrated: µV and µA, with the marks of R27, R35 and R189. -/
structure Sample where
  stamp : Nat := 0
  v : Int := 0
  i : Int := 0
  rs : Bool := false
  xs : Bool := false
  ovr : Bool := false
  /-- Current range in force. -/
  r : Nat := 0
  deriving DecidableEq, Repr

/-- The open step (R118, R121): mode code of R77, targets, timing and counts. Charge is in µA·ns and energy in µV·µA·ns,
without loss (R165, R169). -/
structure OpenStep where
  mode : Nat
  /-- I_set, V_set, P_set, R_set, I_hi or I_dc. -/
  x : Int := 0
  /-- V_set of CCV, I_lo of PULSE, A of EIS. -/
  y : Int := 0
  /-- Durations of PULSE in periods. -/
  dHi : Nat := 0
  dLo : Nat := 0
  edge : Nat := 0
  /-- Injection frequency of EIS, mHz. -/
  freq : Nat := 0
  /-- Slew in force: mA per period, or µV per period in CV (R83, R147). -/
  slew : Nat := 0
  word : Nat := 0
  bank : Nat := 0
  /-- Start time on the counter (R121); none until the boundary that releases the first duty. -/
  start : Option Nat := none
  /-- GAP of the record this step will write (R126). -/
  gap : Bool := false
  q : Int := 0
  e : Int := 0
  cvAt : Option Nat := none
  tMax : Int := 0
  scaleSum : Nat := 0
  scaleN : Nat := 0
  /-- PULSE: level now aimed at (true: I_hi), periods since its edge began, reference the edge left (R80). -/
  hi : Bool := true
  pk : Nat := 0
  pFrom : Int := 0
  /-- Degrade count of R221 and whether its event was raised. -/
  deg : Nat := 0
  degDone : Bool := false
  deriving DecidableEq, Repr

/-- The arm set of R123 and the counts its conditions need. -/
structure Arms where
  time : Option Nat := none
  deg : Bool := false
  volt : Option (Bool × Int) := none
  curr : Option (Bool × Nat) := none
  tap : Option (Nat × Nat × Nat) := none
  charge : Option Nat := none
  energy : Option Nat := none
  dvdt : Option (Bool × Int × Nat) := none
  temp : Option (Bool × Int) := none
  voltN : Nat := 0
  currN : Nat := 0
  tapN : Nat := 0
  deriving DecidableEq, Repr

/-- Why a context executes nothing (R145). -/
inductive Susp where
  | none
  | close
  | timed (until_ : Nat)
  | bar (b : Fin 16)
  | eisrun
  | aging
  deriving DecidableEq, Repr

/-- A DCIR capture (R156, R170): destination, delay in ms, and, once bound to a step, its start time and reference pair
(sums and counts over the reference window). -/
structure Capture where
  dest : Fin 16
  delay : Nat
  ts : Option Nat := none
  v0 : Int := 0
  i0 : Int := 0
  n0 : Nat := 0
  omit0 : Nat := 0
  closedAt : Option Nat := none
  /-- The reference pair has been taken. -/
  ref : Bool := false
  seq : Nat := 0
  deriving DecidableEq, Repr

/-- An impedance run (R157, R174). -/
structure EisRun where
  ra : Fin 16
  rb : Fin 16
  freq : Nat
  /-- Cycles to settle and to integrate. -/
  settle : Nat
  cyc : Nat
  /-- t_s, the integration interval on the counter, known once the step has started, and the samples so far. -/
  ts : Option Nat := none
  from_ : Nat := 0
  until_ : Nat := 0
  vs : List (Nat × Int) := []
  is_ : List (Nat × Int) := []
  seen : Nat := 0
  omitted : Nat := 0
  clamp : Bool := false
  ovr : Bool := false
  calsw : Bool := false
  ff : Bool := false
  closed : Bool := false
  last : Nat := 0
  deriving DecidableEq, Repr

/-- The marks of the pre-start check of R69 a channel has passed. -/
inductive CheckPh where
  | none
  /-- A REST that is left before its entry is complete: the check begins once the switch is open (R69, R82). -/
  | quiet
  | settle | prebias | closing | zero | ramp | learn | down
  deriving DecidableEq, Repr

/-- The level of one PWM phase (R60): at mid, or switching. -/
inductive Phase where
  | mid | run
  deriving DecidableEq, Repr

/-- The sums of the OCV regression (R178), exact: times in ns from the first sample taken in, voltages in 10 nV from the
first sample. -/
structure Ocv where
  t0 : Nat := 0
  v0 : Int := 0
  tLast : Nat := 0
  n : Nat := 0
  st : Int := 0
  sv : Int := 0
  stt : Int := 0
  stv : Int := 0
  svv : Int := 0
  tLo : Option Int := none
  tHi : Option Int := none
  /-- The REST step closed and its metric entry is owed (R178): close time and the sequence number of the step's record. -/
  postDue : Bool := false
  closeAt : Nat := 0
  seq : Nat := 0
  /-- TSKIP in force, in minutes, and the REST step's start. -/
  skip : Nat := 120
  from_ : Nat := 0
  lastPost : Nat := 0
  deriving DecidableEq, Repr

/-- One item of a channel's record queue (R128, R158, R181, R222): its bytes. -/
structure RecItem where
  /-- KIND of R368. -/
  kind : Nat
  bytes : List Byte
  /-- The record frame it left in, while no ACK covers that (R368). -/
  frame : Option Nat := none
  deriving DecidableEq, Repr

/-- Samples, ranges and calibration of a lane (R26–R54). -/
structure ChMeas where
  /-- The control sample of the last boundary and the last one without a mark (R35). -/
  cs : Sample := {}
  good : Sample := {}
  /-- The latest metrology sample, its tag bytes, and the latest 1,000 control samples, newest first: the channel's voltage
  and the gang-sum current of R29. -/
  ms : Sample := {}
  msTagV : Nat := 0
  msTagI : Nat := 0
  /-- The current sample's code: 2^-23 of the range's full scale (R26). -/
  msCode : Int := 0
  hist : List Sample := []
  /-- The latest 100 unmarked currents of the channel or its gang, newest first (R173). -/
  tapI : List Int := []
  /-- Stage-side node, µV. -/
  node : Int := 0
  /-- Control samples still to be marked RSETTLE. -/
  rsLeft : Nat := 0
  /-- Crossbar settle window, on the counter (R189). -/
  xsFrom : Nat := 0
  xsUntil : Nat := 0
  /-- The latest range changes, newest first: boundary and the range left. -/
  rangeLog : List (Nat × Nat) := []
  rangePend : Option Nat := none
  downN : Nat := 0
  /-- The range is frozen for a PULSE or EIS step; the range an overload takes it to (R34). -/
  frozen : Option Nat := none
  /-- A CH_MEAS write of a frozen step waits for the next step start (R34). -/
  measHeld : Bool := false
  vovrAt : Option Nat := none
  iovrAt : Option Nat := none
  /-- A table SWAP has come and no metrology sample has carried CALSW yet (R27). -/
  calsw : Bool := false
  /-- The second's sum of metrology voltages (R28), and the aging sample last formed, 10 nV. -/
  secSum : Int := 0
  secN : Nat := 0
  secBad : Nat := 0
  /-- A sample of that second carried BLEND (R179). -/
  secBlend : Bool := false
  aging : Option Int := none
  /-- The stamp of that sample (R28). -/
  agAt : Nat := 0
  /-- Band blend (R48): weight of each band's entry over `wDen`, the weights it started from, periods done. -/
  wts : List Nat := [1, 0, 0, 0, 0, 0, 0, 0]
  wDen : Nat := 1
  wFrom : List Nat := [1, 0, 0, 0, 0, 0, 0, 0]
  wFromDen : Nat := 1
  blendN : Nat := 0
  /-- No band has been taken since boot (R48). -/
  bandNew : Bool := true
  /-- RSHUNT as taken at the exit from PARKED (R54). -/
  rshunt : Nat := 3333333
  deriving DecidableEq, Repr

/-- Loops, phases and switch of a lane (R56–R93). Currents in µA, voltages in µV; the duty and its integrator in 2^-32 of
10^-6 of the period; the voltage loop's integrator in 2^-16 µA. -/
structure ChLoop where
  iref : Int := 0
  icmd : Int := 0
  iint : Int := 0
  vint : Int := 0
  vref : Int := 0
  /-- What the voltage loop's integrator tracks until its output is selected (R74). -/
  vsel : Option Int := some 0
  /-- vref has not been set from VS in this step (R83). -/
  vNew : Bool := true
  eLast : Int := 0
  evLast : Int := 0
  /-- The CV current clamp as it ramps in soft start (R85). -/
  ilim : Int := 0
  /-- The voltage clamp acted in this period (R81). -/
  clampActed : Bool := false
  /-- The current loop runs and the phases switch (R85). -/
  engaged : Bool := false
  /-- Duty computed in this period, 2^-24 (R59), released at the next boundary (R11); none: nothing is released. -/
  dutyNext : Option Nat := none
  duty : Nat := 0
  dutyIn : Vector Nat 2 := Vector.replicate 2 0
  skipAcc : Vector Nat 2 := Vector.replicate 2 0
  skipping : Vector Bool 2 := Vector.replicate 2 false
  /-- On time of each phase's last cycle, in 39.0625 ps steps (R59). -/
  onTime : Vector Nat 2 := Vector.replicate 2 0
  phA : Phase := .mid
  phB : Phase := .mid
  /-- The phases go to mid at the next boundary (R95: UV, FUSE, SS). -/
  midDue : Bool := false
  shedN : Nat := 0
  shedReq : Bool := false
  restoreReq : Bool := false
  /-- PHFIT as taken at the exit from PARKED (R93). -/
  phfit : Bool := false
  /-- Phases a PULSE or EIS step fixes (R68): none when shedding is free. -/
  nph : Option Nat := none
  /-- No cycle of a phase starts before this elapsed time, fs (R61). -/
  cycNext : Vector Nat 2 := Vector.replicate 2 0
  /-- What a closed EIS step's injection adds to iref (R81). -/
  tailNow : Int := 0
  /-- What the channel reported to the ledger in its last slot (R210): demand and measured bus-side power, pW. -/
  dem : Int := 0
  meas : Int := 0
  /-- The injection of an EIS step that has closed, while it ramps down (R81): amplitude at the close, mHz, t_s, close. -/
  tail : Option (Int × Nat × Nat × Nat) := none
  /-- Elapsed time by which a commanded opening of the switch is due (R16, R82). -/
  openBy : Option Nat := none
  deriving DecidableEq, Repr

/-- The step context of a channel (R118). -/
structure ChCtx where
  step : Option OpenStep := none
  lastMode : Nat := 0
  /-- Counts of the step last closed, which ports 3 and 4 go on to read (R120). -/
  lastQ : Int := 0
  lastE : Int := 0
  /-- Slots since the last close. -/
  gapN : Nat := 0
  gapHold : Bool := false
  arms : Arms := {}
  dvNew : Bool := false
  tNew : Bool := false
  /-- Time of the latest housekeeping result on the counter. -/
  tAt : Nat := 0
  susp : Susp := .none
  /-- The first word of an LDI has executed: its destination (R144). -/
  ldi : Option (Fin 16) := none
  stack : List Nat := []
  g : Vector Word 16 := Vector.replicate 16 0
  gB : Vector Word 16 := Vector.replicate 16 0
  u : Vector Word 4 := Vector.replicate 4 0
  limv : Option Int := none
  limi : Nat := 30000000
  limt : Option Int := none
  pre : Option Nat := none
  lastTerm : Nat := 0
  lastT : Bool := false
  lastSrc : Nat := 0
  /-- Class from the next boundary; true: set by the shelf program (R138). -/
  clsNext : Option (Fin 4 × Bool) := none
  /-- The check has passed and no step has opened since: the next one soft-starts (R85). -/
  fresh : Bool := false
  /-- An exit from AGING lengthens the present gap beyond two periods (R332). -/
  gapLong : Bool := false
  /-- Requests waiting for the boundary (R133, R134). -/
  startPend : Bool := false
  /-- A gang size code written and not yet in force (R90, R93). -/
  gangPend : Option Nat := none
  /-- A stop request and the source its record names (R127, R134). -/
  stopPend : Option Nat := none
  /-- Records waiting in the stream (R128) and the last EMIT to the Vault (R158). -/
  recQ : List RecItem := []
  lastVEmit : Option Nat := none
  seqNext : Nat := 0
  /-- The channel's slot of the present period has not run yet (R11). -/
  slotDue : Bool := false
  deriving DecidableEq, Repr

/-- The metrics of a channel (R156–R178). -/
structure ChMetric where
  capsNext : List Capture := []
  caps : List Capture := []
  eis : Option EisRun := none
  dvFrom : Nat := 0
  dvN : Nat := 0
  dvSeen : Nat := 0
  dvSt : Int := 0
  dvSv : Int := 0
  dvStt : Int := 0
  dvStv : Int := 0
  /-- A closed window: when its result is ready, and the result (none: too few samples). -/
  dvReady : Option (Nat × Option Int) := none
  /-- Stamps of the last sample of the window in progress, and of the one closed last. -/
  dvLast : Nat := 0
  dvEnd : Nat := 0
  /-- Port 7: 0 before the first result of a step (R172). -/
  slope : Int := 0
  ocv : Ocv := {}
  /-- Lifetime counters' fractions (R165): µA·ns and µV·µA·ns. -/
  ahAcc : Int := 0
  whAcc : Int := 0
  deriving DecidableEq, Repr

/-- Protection (R94–R117). -/
structure ChProt where
  /-- Fuse accumulator H, µA². -/
  h : Int := 0
  /-- The fuse's back-off event of R102 was raised in the present step. -/
  bkEv : Bool := false
  /-- Elapsed time at which the earliest cause behind FIRST qualified, ns (R112). -/
  firstAt : Nat := 0
  uvN : Nat := 0
  busN : Nat := 0
  ssN : Nat := 0
  ctN : Nat := 0
  /-- Energy of the run of samples summed, in pV·µA·µs (10^-24 J), and their number (R110). -/
  ctSum : Nat := 0
  ctSmp : Nat := 0
  /-- Instant of the qualifying sample, and the same in elapsed time. -/
  ctAt : Nat := 0
  ctEl : Nat := 0
  /-- An energy estimate is open (R110), and the run's sample below 50 mA has come. -/
  ctOpen : Bool := false
  ctLow : Bool := false
  ipHist : List Int := []
  vfdSum : Int := 0
  vfdN : Nat := 0
  bins : List Nat := []
  binNow : Nat := 0
  /-- The minute of elapsed time that binNow counts. -/
  binAt : Nat := 0
  /-- Residual sum of the second, pV, and that second of elapsed time (R111). -/
  driftSum : Int := 0
  driftN : Nat := 0
  driftAt : Nat := 0
  /-- Switching cycles of the last 64 that held a limit pulse (R100). -/
  fltPulses : List Nat := []
  fltLow : Bool := false
  deriving DecidableEq, Repr

/-- The pre-start check (R69–R72). -/
structure ChCheck where
  ph : CheckPh := .none
  at_ : Nat := 0
  restExit : Bool := false
  nodeSum : Int := 0
  nodeN : Nat := 0
  avV : Int := 0
  avI : Int := 0
  avC : Int := 0
  avN : Nat := 0
  vfd0 : Int := 0
  vfd1 : Int := 0
  ilrn : Int := 0
  lowi : Bool := false
  /-- Elapsed time at which iref reached the learning target. -/
  reached : Option Nat := none
  cfg : Word := 0
  deriving DecidableEq, Repr

/-- One channel lane. -/
structure Chan where
  m : ChMeas := {}
  l : ChLoop := {}
  x : ChCtx := {}
  k : ChMetric := {}
  p : ChProt := {}
  c : ChCheck := {}
  deriving DecidableEq, Repr

/-- The shelf context of R136, beside its registers in the CS block. -/
structure ShelfCtx where
  g : Vector Word 16 := Vector.replicate 16 0
  stack : List Nat := []
  susp : Susp := .none
  /-- The first word of an LDI has executed: its destination (R144). -/
  ldi : Option (Fin 16) := none
  /-- The barrier the shelf program waits at: since when; of each barrier's episode: a member was uncounted or parked in it; a release
  that waits for the boundary, and whether by timeout (R137). -/
  epFrom : Nat := 0
  epUncounted : Vector Bool 16 := Vector.replicate 16 false
  relPend : Option (Fin 16 × Bool) := none
  released : Nat := 0
  /-- The aging request of R162, s. -/
  aging : Nat := 0
  /-- The port values of R161, as at the period's opening boundary. -/
  ports : List Word := []
  gB : Vector Word 16 := Vector.replicate 16 0
  lastVEmit : Option Nat := none
  stopReq : Bool := false
  recQ : List RecItem := []
  /-- The shelf context's slot of the present period has not run yet (R136). -/
  slotDue : Bool := false
  deriving DecidableEq, Repr

end Sys2Proof.Machine
end

