-- ==== Sys2Proof/Machine/PlantState.lean ====
section
/-! DEFINITION. The state no register shows of the lane and the spare cluster, the ledger, the feeds, the hold-up pack, the
auxiliary converters and loops, the rails, the clocks and the boot (R184–R323). -/

namespace Sys2Proof.Machine

/-- One visit of the lantern lane (R186, R190): its channel, the current range in force at its start, its window on the
counter, and the sums of its pairs: channel less lane and lane, in nV and in 2^-40 of the range's full scale. -/
structure Visit where
  n : Fin 128
  range : Nat := 0
  t0 : Nat
  open_ : Nat
  close : Nat
  aging : Bool := false
  reps : Nat := 0
  confirm : Bool := false
  /-- It leaves the tour's position alone: a visit to NEXT, or a repeat (R187). -/
  byNext : Bool := false
  /-- The tour position before its slot, and whether a tour before it ended (R187, R208). -/
  from_ : Fin 128 := 0
  wraps : Bool := false
  conn : Bool := false
  /-- The band when the window opened, and at t6 (R190, R194). -/
  band0 : Option Nat := none
  band : Nat := 0
  /-- The range changed, the band changed or blended, the visit was abandoned (R194). -/
  ranged : Bool := false
  banded : Bool := false
  lost : Bool := false
  nV : Nat := 0
  omV : Nat := 0
  sE : Int := 0
  sM : Int := 0
  nI : Nat := 0
  omI : Nat := 0
  sC : Int := 0
  sL : Int := 0
  deriving DecidableEq, Repr

/-- A correction that waits for its boundary (R193): entry offset, dg in 10^-16, do in pV or 2^-40 of full scale, outcome. -/
structure LaneFix where
  off : Nat
  dg : Int
  do_ : Int
  deriving DecidableEq, Repr

/-- The lantern lane (R184–R198). -/
structure LaneSt where
  /-- Shadow entries marked dirty (R51), rising. -/
  dirty : List Nat := []
  /-- Counter of the write or boundary at which the copy in progress began (R50), and of the last SWAP. -/
  copyAt : Nat := 0
  swapAt : Option Nat := none
  /-- The visit under way, and the one whose result is due. -/
  visit : Option Visit := none
  done : Option Visit := none
  /-- Corrections waiting for the boundary of R193 named here, for a channel, with whether they move it by more than 1 µV, how
  often their visit had been repeated and whether it was a confirmation. -/
  fixes : List LaneFix := []
  fixAt : Nat := 0
  fixCh : Fin 128 := 0
  fixBig : Bool := false
  fixReps : Nat := 0
  fixConf : Bool := false
  /-- Next tour position, and whether the tour has passed position 127 since it began (R187, R208). -/
  tour : Fin 128 := 0
  wrapped : Bool := false
  /-- Repeats that wait for a slot: channel, which repeat in a row, and whether it confirms (R187, R195). -/
  again : List (Fin 128 × Nat × Bool) := []
  /-- The reference return under way: when it began, and what its positions read (R185, R186). -/
  refAt : Option Nat := none
  refs : LaneRefs := {}
  /-- The latest instant that has a metrology sample (R28). -/
  metAt : Option Nat := none
  /-- A disconnect waits for the boundary (R189). -/
  drop : Bool := false
  /-- The channel the crossbar connects. -/
  conn : Option (Fin 128) := none
  /-- Readings of the zero and REFIN positions, nV and full scale × 2^-30. -/
  vz : Int := 0
  vr : Int := 4096000000
  iz : Int := 0
  ir : Int := 858993459
  /-- LN_REFV as the gain in force took it, µV (R185). -/
  refv : Nat := 4096000
  /-- The lane's own current range. -/
  range : Nat := 0
  bg : Option (Int × Int) := none
  /-- A host asked for SELF to clear (R196). -/
  selfClr : Bool := false
  /-- Elapsed time of the adoption request whose connect is due (R197), and its references taken. -/
  adoptAt : Option Nat := none
  adoptRef : Bool := false
  /-- When the lane's own overload detectors last fired (R466). -/
  vovrAt : Option Nat := none
  iovrAt : Option Nat := none
  /-- Results kept per voltage entry (R191): (m, e) in pV, the newest first. -/
  hist : List (Nat × List (Int × Int)) := []
  /-- Base ratios per current entry (R192), as a quotient. -/
  k0 : List (Nat × Int × Int) := []
  deriving DecidableEq, Repr

/-- The spare cluster (R199–R209). -/
structure SpareSt where
  /-- The last slice passed; when it ended, per cluster (elapsed ns; none: never). -/
  lastOk : Bool := false
  ended : Vector (Option Nat) 17 := Vector.replicate 17 none
  slices : Nat := 0
  /-- Group in which a mismatch was found this period (R202), and the group whose takeover is due. -/
  mism : Option (Fin 16) := none
  bridge : Option (Fin 16) := none
  /-- Time the rotation timer has counted, ns (R205), and a request to rotate. -/
  rotN : Nat := 0
  rotReq : Bool := false
  /-- The spare shadowed the group at the last boundary; it has shadowed it for a period. -/
  shadow1 : Bool := false
  shadowed : Bool := false
  /-- Freshness as it stood at the boundary that opened the period (R202). -/
  fresh0 : Bool := false
  /-- Elapsed time at which the next slice is due; a slice runs in this period; one has ended and its verdict is due (R201). -/
  sliceAt : Nat := 0
  slicing : Bool := false
  sliceEnd : Bool := false
  /-- When the full LBIST under way began; the cluster takes the role by it (R204). -/
  lbistAt : Option Nat := none
  taking : Bool := false
  /-- When a mismatch was last acted on (R205), and the clusters a takeover has displaced (R204). -/
  mismAt : Option Nat := none
  displaced : Vector Bool 17 := Vector.replicate 17 false
  /-- A full LBIST has passed: the shelf context resumes at the next boundary (R204). -/
  thaw : Bool := false
  deriving DecidableEq, Repr

/-- What the ledger sums over a second for its report (R222): LG_NET_W in W, diversion and feed error in pW, curtailed energy in
10^-17 J. -/
structure LedgerAcc where
  n : Nat := 0
  net : Int := 0
  high : Option Int := none
  sc : Vector Nat 4 := Vector.replicate 4 0
  sd : Vector Nat 4 := Vector.replicate 4 0
  sh : Nat := 0
  div : Nat := 0
  /-- A scale was below 1 at a boundary of the second, or throttling ended in it; feed limiting was seen. -/
  thr : Bool := false
  lim : Bool := false
  breach : Bool := false
  divert : Bool := false
  curt : Int := 0
  err : Int := 0
  deriving DecidableEq, Repr

/-- The throttle report of a second that has ended (R222): its sums, its end in s, the throttled channels at its last boundary, and
the limits in force and the stale cap as they stood at its end. -/
structure ThrottleRpt where
  acc : LedgerAcc
  at_ : Nat
  nthr : Nat
  cap : Nat
  src : Nat
  regen : Nat
  stale : Nat
  deriving DecidableEq, Repr

/-- The energy ledger (R210–R225). -/
structure LedgerSt where
  /-- Elapsed time of the latest rack-manager value (R213). -/
  rmAt : Nat := 0
  /-- Diversion in pW (R216), and the regeneration limit in force, W (R214). -/
  div : Nat := 0
  regen : Nat := 0
  /-- An episode that event 304 opened is not over (R223). -/
  ep : Bool := false
  acc : LedgerAcc := {}
  /-- The closed second whose report is due (R222). -/
  due : Option ThrottleRpt := none
  /-- A floor breach of the cap pass, and of the regeneration pass, holds (R217). -/
  brCap : Bool := false
  brRegen : Bool := false
  /-- Consecutive seconds with LG_FEEDERR.ERR outside its limit, and event 309 raised for them (R223). -/
  outN : Nat := 0
  alarmed : Bool := false
  deriving DecidableEq, Repr

/-- One feed (R226–R239). Times are elapsed times. -/
structure FeedSt where
  /-- VIN is in the input window (R227), and its latest metered value, µV. -/
  inWin : Bool := false
  vin : Int := 0
  /-- When the present state was entered. -/
  since : Nat := 0
  /-- The latest bounces, newest first, at most eight (R228). -/
  bounces : List Nat := []
  /-- The fault timer in 1/16 of a tick, as it stood at a time (R231). -/
  tmr : Nat := 0
  tmrAt : Nat := 0
  /-- A turn-off commanded at this time is not confirmed yet (R233), and GATE was latched for it. -/
  offAt : Option Nat := none
  offLate : Bool := false
  /-- The pass-FET check has passed and the gate waits for the other feed to be confirmed off (R234). -/
  passed : Bool := false
  /-- Sums of the metering window (R239): µV, µA, pW. -/
  vSum : Int := 0
  iSum : Int := 0
  pSum : Int := 0
  /-- Power at the last metering instant, pW. -/
  pNow : Int := 0
  /-- Fractions of the energy counters, 2^-32 mJ (R239). -/
  inFrac : Nat := 0
  outFrac : Nat := 0
  deriving DecidableEq, Repr

/-- The capacitance measurement of a RAMP (R237): BUS_V where its window began, the sum of the feed current over the metering
instants since, µA, the rise so far, µV, what spoils it, and that the window is complete. -/
structure CapWin where
  f : Fin 2
  v0 : Option Int := none
  q : Int := 0
  dv : Int := 0
  load : Bool := false
  pack : Bool := false
  done : Bool := false
  deriving DecidableEq, Repr

/-- What both feeds share (R234–R239). -/
structure FeedSel where
  /-- BUS_V as the power die last metered it, µV (R9, R89). -/
  busUv : Int := 0
  /-- Consecutive control samples with BUS_V below VMIN, and above VMAX (R89). -/
  busN : Nat := 0
  busHiN : Nat := 0
  /-- The feed logic is enabled (R292). -/
  enabled : Bool := false
  /-- The incoming feed of a changeover (R234, R236). -/
  incoming : Option (Fin 2) := none
  /-- SERV at the end of the last feed tick (R234). -/
  was : Nat := 0
  /-- The capacitance measurement under way, or to be reported (R237). -/
  cap : Option CapWin := none
  /-- Metering instants of the present control period, five to a period (R239). -/
  sub : Nat := 0
  /-- The metering window: samples so far, and the sum of BUS_V, µV. -/
  n : Nat := 0
  busSum : Int := 0
  deriving DecidableEq, Repr

/-- The hold-up pack, charger and gauge (R244–R268). Times are elapsed times. -/
structure HoldSt where
  /-- HU_V and HU_I at the last metering instant, µV and µA. -/
  hv : Int := 0
  hi : Int := 0
  /-- Since when HU_V lies below N × V_cut, below VHALT and below 10 V (R245, R248, R257). -/
  cutAt : Option Nat := none
  haltLow : Option Nat := none
  goneAt : Option Nat := none
  /-- HU_TS read open in the latest round; HU_V of the last charger tick, and a rise above 1 V in one with less than 50 mA (R257). -/
  tsOpen : Bool := false
  hvTick : Int := 0
  rise : Bool := false
  /-- The millisecond and the minute of elapsed time of the last charger and gauge tick (R254, R261). -/
  tickMs : Nat := 0
  tickMin : Nat := 0
  /-- The pack is missing since it was last present (R257). -/
  missing : Bool := false
  /-- A feed has been ON since the power-on reset (R245). -/
  fed : Bool := false
  /-- Entry to PRE, to RIDE and to HALT; since when the discharge limit holds (R245, R246, R248). -/
  preAt : Nat := 0
  rideAt : Nat := 0
  haltAt : Nat := 0
  limAt : Option Nat := none
  /-- The present hold of the discharge limit has lasted TLIM (R246). -/
  limDone : Bool := false
  /-- V_cut in 10 mV per cell (R251). -/
  vcut : Nat := 300
  /-- The target in force, µV (R253), and the charger's request, pW at its output (R255). -/
  vt : Int := 0
  req : Int := 0
  /-- The state HOLD was entered from (R254); half-milliseconds of the safety timer; milliseconds in PRECHG and of the
  taper count (R256–R258). -/
  left : Nat := 0
  safe2 : Nat := 0
  pre : Nat := 0
  taper : Nat := 0
  /-- When the watchdog was armed or last kicked (R260). -/
  wdtAt : Nat := 0
  /-- The gauge (R261–R265): E in 0.01 %; charge in µA times 2 µs since the last minute and since the reference; SoC of the
  reference; since when |HU_I| < 50 mA; when the last 10 min rest ended; minutes of NOREF decay; relearn count and when the
  reference was taken. -/
  e : Int := 0
  q : Int := 0
  qRef : Int := 0
  socRef : Option Int := none
  restAt : Option Nat := none
  rested : Nat := 0
  norefMin : Nat := 0
  relearn : Nat := 0
  refAt : Nat := 0
  /-- What HU_GG_RESTORE0–2 were written with (R265). -/
  restore : Vector Word 3 := Vector.replicate 3 0
  deriving DecidableEq, Repr

/-- One auxiliary converter (R269–R277). Times are elapsed times; the reference and the feedback in nV of AXFB, the duty's
integrator in 10^-6 of 2^-24 of the period. -/
structure AuxSt where
  since : Nat := 0
  /-- The output at t0 of the check, mV. -/
  v0 : Int := 0
  ref : Int := 0
  /-- Periods of the soft start still to come. -/
  left : Nat := 0
  int : Int := 0
  eLast : Int := 0
  kp : Nat := 0
  /-- Duty computed for the next boundary, and released, 2^-24; both phases at mid in none. -/
  next : Option Nat := none
  duty : Option Nat := none
  /-- Consecutive periods in which the limit acted; below the shed threshold; since when PG holds. -/
  limN : Nat := 0
  shedN : Nat := 0
  pgAt : Nat := 0
  /-- EN has been accepted: the check begins at the next boundary (R273). AXFB at the last boundary, µV. -/
  start : Bool := false
  fb : Nat := 0
  /-- Since when, in RUN, the output lies within ±5 % of the target, and below 90 % of it (R273, R274). -/
  okAt : Option Nat := none
  uvAt : Option Nat := none
  /-- Of each phase: the on time of its last cycle in 39.0625 ps steps and the pulse accumulator (R62, R270). -/
  onTime : Vector Nat 2 := Vector.replicate 2 0
  acc : Vector Nat 2 := Vector.replicate 2 0
  /-- AX3: which of its legs switch; the high side of the other is on (R276). -/
  busLeg : Bool := false
  packLeg : Bool := false
  deriving DecidableEq, Repr

/-- A relay auto-tune under way (R283). Times in ms of loop periods. -/
structure Tune where
  bias : Int
  startAt : Nat
  /-- The relay's side: none until PV has crossed a threshold. -/
  high : Option Bool := none
  /-- Milliseconds since the last rising edge, if there was one, and the extremes of PV since. -/
  ms : Option Nat := none
  lo : Int := 0
  hi : Int := 0
  /-- Full cycles, newest first: period in ms, peak-to-peak PV. -/
  cycles : List (Nat × Int) := []
  deriving DecidableEq, Repr

/-- One tray loop (R278–R286). -/
structure LoopSt where
  /-- The setpoint in force, EU. -/
  sp : Int := 0
  spGood : Nat := 0
  /-- The setpoint's source failed in the last period (R281); the elapsed time of the last period (R279). -/
  spBad : Bool := false
  lastAt : Nat := 0
  bad : Nat := 0
  good : Nat := 0
  /-- The integral sum in 2^-16 EU, the last error and PV, and the KP last used. -/
  iSum : Int := 0
  eLast : Int := 0
  pvLast : Int := 0
  kp : Nat := 0
  tune : Option Tune := none
  deriving DecidableEq, Repr

/-- One rail entry (R294–R303). Times are elapsed times. -/
structure RailSt where
  /-- When the present state was entered. -/
  since : Nat := 0
  /-- A power-down has reached the entry (R296): it goes down once no rail that depends on it is up. -/
  down : Bool := false
  /-- DOWN leads to WAIT (R295, R298). -/
  toWait : Bool := false
  /-- In RETRY: when the reading fell below 10 %. -/
  offAt : Option Nat := none
  /-- Its group response entered SHELF SAFE with cause 0x06 (R298). -/
  hold : Bool := false
  deriving DecidableEq, Repr

/-- The sequencer and the boot (R287–R303). -/
structure BootSt where
  /-- VBIAS is present: the Attic runs (R287). -/
  vbias : Bool := true
  /-- The own supplies are being brought up at a wake (R289), and how many wakes have failed in a row; when the next begins. -/
  waking : Bool := false
  fails : Nat := 0
  wakeAt : Option Nat := none
  /-- The straps fitted, and whether the boot under way is to read them (R447): it follows a power-on reset. -/
  straps : Option Straps := none
  strapsDue : Bool := false
  /-- The Vault is powered (R338, R403). -/
  vaultOn : Bool := false
  /-- Boot, image check and own-rail sequence are complete (R20, R290). -/
  done : Bool := false
  /-- A system reset under way with its RSTCAUSE (R296); one that waits for a power-down under way (R301). -/
  sysRst : Option Nat := none
  wdiWait : Bool := false
  /-- When the last entry reached OFF after a power-down (R297). -/
  offAt : Option Nat := none
  /-- The highest RESP that has acted in the present scan, and the entry last scanned and when (R298, R301). -/
  scanResp : Nat := 0
  scanned : Fin 24 := 23
  scanAt : Option Nat := none
  /-- When the WDI watchdog was last restarted (R300). -/
  wdiAt : Option Nat := none
  deriving DecidableEq, Repr

/-- A judgement of a starting clock (R306): the elapsed time it began, none when the clock is stable or off; the count of the
first window of the present run, and the windows of the run. -/
structure Judge where
  from_ : Option Nat := none
  first : Nat := 0
  run : Nat := 0
  /-- When the latest window ended. -/
  last : Nat := 0
  deriving DecidableEq, Repr

/-- A voltage step of R314 under way: its target level, whether it is a raise, the elapsed time VOUT_COMMAND was sent, whether
READ_VOUT has confirmed it and when; or the time a failed raise is retried. -/
structure CompatStep where
  level : Nat
  up : Bool
  since : Nat
  okAt : Option Nat := none
  retryAt : Option Nat := none
  /-- When READ_VOUT was last read. -/
  pollAt : Nat := 0
  deriving DecidableEq, Repr

/-- The clocks and the time servo (R304–R323). -/
structure ClkSt where
  /-- The shelf PWM period and the one it moves toward, fs (R64, R65). -/
  per : Nat := 4000000000
  perTo : Nat := 4000000000
  /-- The elapsed time of a phase zero of the timebase, fs, and how far it has to move, fs (R61, R64). -/
  zero : Nat := 0
  zeroErr : Int := 0
  /-- Consecutive in-window edges with a phase error under 2 ns. -/
  syncN : Nat := 0
  /-- Elapsed ps of the latest edge on SYNC_IN, and since when no in-window edge has come; its loss has been declared (R64, R65). -/
  syncAt : Option Nat := none
  inWinAt : Option Nat := none
  syncLost : Bool := false
  since : Nat := 0
  /-- Judgements of HFRC, XHF, XLF, SYSPLL, PWMPLL, ADCPLL, SDPLL (R306). -/
  judge : Vector Judge 7 := Vector.replicate 7 {}
  /-- The counter returns to XHF at the next boundary (R309). -/
  back : Bool := false
  /-- Compatibility step (R314). -/
  compat : Option CompatStep := none
  /-- Stamp of the previous PPS edge, and of the last qualified one (R318). -/
  lastEdge : Option Nat := none
  lastQual : Option Nat := none
  /-- Offsets of the out-of-window edges in a row, newest first (R318). -/
  oow : List Int := []
  /-- Consecutive qualified edges of TRACK within 100 ns (R319). -/
  trackN : Nat := 0
  /-- r at the last 64 qualified edges, newest first (R319). -/
  rHist : List Int := []
  /-- A slew under way: the r it returns to, and the counter time it ends (R319). -/
  slew : Option (Int × Nat) := none
  /-- A servo step waiting for its boundary, ns (R317). -/
  step : Option Int := none
  /-- The seconds CK_TSET was written with, and, once the qualified edge has come, the step it makes, ns (R317). -/
  tset : Option Nat := none
  tsetStep : Option Int := none
  /-- Elapsed time HOLDOVER was entered, and whether its limit has been reported (R319). -/
  holdAt : Nat := 0
  holdDone : Bool := false
  /-- HFRC in Hz as the last trim measurement against XHF found it (R311); when the last measurement was made; a pair of consecutive
  qualified PPS edges has not been measured yet (R310). -/
  hfrcHz : Option Nat := none
  trimAt : Nat := 0
  qualPair : Bool := false
  /-- The counter (R315): its fraction past the boundary in 2^-32 ns, and the edges of its source in the last period. -/
  frac : Nat := 0
  edges : Nat := 0
  /-- The measured PWMPLL frequency lies below 760 MHz (R308). -/
  pwmLow : Bool := false
  deriving DecidableEq, Repr

end Sys2Proof.Machine
end

