-- ==== Sys2Proof/Machine/SysState.lean ====
section
/-! DEFINITION. The state no register shows of the events, the Vault and the Cellar, the host link, the two-wire ports, the
power modes, the self-test and the maintenance (R335–R436). What a register shows lives in that register. -/

namespace Sys2Proof.Machine

/-- One occurrence of an event (R335). -/
structure Occ where
  num : Nat
  sev : Nat
  /-- Counter time, ns. -/
  stamp : Nat
  payload : List Byte := []
  /-- The raising rule requires a Vault record (R337). -/
  required : Bool := false
  /-- It passed through the Attic queue (R338). -/
  queued : Bool := false
  /-- CK_PPSSTAT.STATE was not LOCKED when it arose (R402). -/
  tunsync : Bool := false
  /-- Event 481 raised by a full queue, which is not itself recorded then (R406). -/
  noRec : Bool := false
  deriving DecidableEq, Repr

/-- A record waiting in the writer queue (R402, R406). -/
structure VRec where
  typ : Nat
  occ : Occ
  lostBefore : Bool := false
  deriving DecidableEq, Repr

/-- The Vault writer (R404–R406). -/
structure VaultSt where
  queue : List VRec := []
  /-- The record last written: the one a merge may touch, its repeat count and whether a record has been written since
  boot (R405). -/
  last : Option (VRec × Nat) := none
  /-- Records were lost since the last one written. -/
  lostMark : Bool := false
  deriving DecidableEq, Repr

/-- One instant of the Cellar ring (R408): 1 µV and 4 µA units already saturated to 24 bits, and the flag. -/
structure RingInst where
  m : Nat
  v : List Int
  i : List Int
  flag : List Bool
  deriving DecidableEq, Repr

/-- An open capture or a slot being written (R409, R410). -/
structure Snap where
  slot : Fin 4
  causes : Nat
  num : Nat
  stamp : Nat
  /-- The trigger instant T: the first metrology instant at or after the stamp. -/
  t : Nat
  evNum : Nat
  joined : Nat
  freeze : Bool
  /-- T has been reached: GL_STATE, CK_PPSSTAT and the channel table are taken. -/
  atT : Option (Word × Word × List Nat) := none
  closed : Bool := false
  /-- The capture's instants, as the ring holds them when it closes. -/
  data : List RingInst := []
  deriving DecidableEq, Repr

/-- The Cellar (R408–R411). -/
structure CellarSt where
  ring : List RingInst := []
  snap : Option Snap := none
  nextNum : Nat := 0
  /-- Slot of the snapshot that the present HALT triggered (R409). -/
  haltSlot : Option (Fin 4) := none
  deriving DecidableEq, Repr

/-- The occurrence queues of R336–R340, R391. -/
structure EvSt where
  attic : List Occ := []
  /-- Occurrences newer than the Attic queue, held until it is drained (R340). -/
  behind : List Occ := []
  /-- Event numbers whose EV_PEND bit was set by an occurrence routed to HRDY, rising. -/
  hrdy : List Nat := []
  /-- Severity of the highest occurrence that set each EV_PEND bit now set: (event, severity), for R326 and R341. -/
  pendSev : List (Nat × Nat) := []
  notify : List Occ := []
  /-- Times at which the latest Notifies were sent. -/
  sentAt : List Nat := []
  nacks : Nat := 0
  retryAt : Option Nat := none
  deriving DecidableEq, Repr

/-- A queued event frame (R365). -/
structure EvFrame where
  seq : Nat
  occs : List Occ
  sent : Option Nat := none
  deriving DecidableEq, Repr

/-- A frame the controller sends (R346). The tag is a field of its own; header and CRC follow from the rest. -/
structure OutFrame where
  port : LinkPort
  peer : Peer
  cls : Nat
  flags : Nat
  seq : Nat
  sess : Nat
  payload : List Byte
  tag : List Byte := []
  deriving DecidableEq, Repr

/-- One session (R351–R357). The SPI session uses the same fields. -/
structure SessSt where
  opn : Bool := false
  auth : Bool := false
  evsub : Bool := false
  lmgr : Bool := false
  port : LinkPort := .la
  peer : Peer := {}
  num : Nat := 0
  nh : List Byte := []
  nd : List Byte := []
  key : List Byte := []
  phase1At : Nat := 0
  last : Option Nat := none
  /-- A command frame executes, or is held (R356, R364); the response that will be queued for it; whether that waits for
  STANDBY (the WAKE of R350). -/
  busy : Bool := false
  resp : Option OutFrame := none
  waits : Bool := false
  /-- The frame under execution holds a PROGRAM_LOAD or an IMAGE_STAGE, which uses the staging buffer (R358). -/
  staging : Bool := false
  /-- The response to the last accepted sequence (R356). -/
  cached : Option OutFrame := none
  heard : Nat := 0
  evSeq : Nat := 1
  evq : List EvFrame := []
  deriving DecidableEq, Repr

/-- An open read transfer (R359). -/
structure ReadXfer where
  id : Nat
  sess : Sess
  /-- Where an anonymous request came from. -/
  port : LinkPort
  peer : Peer
  next : Nat
  base : Nat
  stop : Nat
  deriving DecidableEq, Repr

/-- The open write transfer and the staging buffer (R358): the bytes received, by rising offset; the received map is the list of
their offsets. -/
structure BulkSt where
  total : Nat := 0
  owner : Sess := .anon
  buf : List Host.Cell := []
  reads : List ReadXfer := []
  /-- Elapsed time from which the next class 0x20 frame may be sent (R359). -/
  nextAt : Nat := 0
  deriving DecidableEq, Repr

/-- One telemetry stream (R356, R366–R370): frame sequence per destination, since when the lower D would have fitted, the stamp of
the instant last sent, and the modulators of that instant's raw-tap frames. -/
structure StreamSt where
  seq : Vector Nat 4 := Vector.replicate 4 1
  fitsSince : Option Nat := none
  lastAt : Option Nat := none
  mods : List Nat := []
  deriving DecidableEq, Repr

/-- A sent record frame that awaits its ACK (R368). -/
structure RecFrame where
  seq : Nat
  payload : List Byte
  sentAt : Nat
  deriving DecidableEq, Repr

/-- The link-rate handshake (R372): the rates proposed for LA and LB, the switch time, and its marks. -/
structure RateSt where
  la : Nat := 0
  lb : Nat := 0
  t : Nat := 0
  proposedAt : Nat := 0
  accepted : Bool := false
  retryAt : Option Nat := none
  /-- Rates to restore if LA does not come up. -/
  oldLa : Nat := 0
  oldLb : Nat := 0
  done : Bool := false
  refused : Bool := false
  /-- The handshake under way restores the configured rates after an exit. -/
  restore : Bool := false
  deriving DecidableEq, Repr

/-- The host link (R344–R379). -/
structure LinkSt where
  sess : Vector SessSt 8 := Vector.replicate 8 {}
  spi : SessSt := { opn := true, num := 0xFFFFFFFF, port := .spi }
  /-- Responses and bulk frames waiting for an SPI READ (R373). -/
  spiOut : List OutFrame := []
  /-- Command frames held during a restart or before the supervisor runs (R364). -/
  held : List (LinkPort × Peer × List Byte) := []
  /-- What LA and LB have sent, the newest first: the model's own record of the wires. -/
  wire : List OutFrame := []
  bulk : BulkSt := {}
  /-- Where the command frame under execution came from. -/
  src : LinkPort × Peer := (.la, {})
  failAt : List Nat := []
  lockAt : Option Nat := none
  dkey : Option (List Byte) := none
  owner : Option (List Byte) := none
  rate : RateSt := {}
  streams : Vector StreamSt 5 := Vector.replicate 5 {}
  recs : List RecFrame := []
  /-- Time of the first item now waiting in the record stream. -/
  recFrom : Option Nat := none
  /-- IPv6 default routers learnt per port (R344). -/
  router : Vector (List Byte) 2 := Vector.replicate 2 []
  /-- Answers to packets other than ASLP, the newest first (R344). -/
  replies : List (Fin 2 × Packet) := []
  decAt : Nat := 0
  deriving DecidableEq, Repr

/-- The two-wire engines (R380–R400). -/
structure TwoWireSt where
  /-- What RSTAT returns. -/
  rstat : Nat := 0
  /-- Elapsed time of the wake NACK in DEEP until TW1 acknowledges its address again (R390). -/
  nackAt : Option Nat := none
  clrDue : List (Fin 9) := []
  /-- Elapsed time of the last round of polls (R392). -/
  pollAt : Option Nat := none
  /-- What TW0 and TW1 have sent as controllers beside the polls (CLEAR_FAULTS, Host Notify), the newest first: the model's own
  record of the buses. -/
  sent : List (Fin 2 × List Byte) := []
  deriving DecidableEq, Repr

/-- The power modes (R325–R333). -/
structure ModeSt where
  /-- Elapsed time since which the conditions of the pending mode have held (R326). -/
  condFrom : Option Nat := none
  /-- The wake under way: RUN enables in force (R330, R331). -/
  awake : Bool := false
  /-- Instant of the next burst, and of the burst under way (R330). -/
  nextBurst : Nat := 0
  burst : Option Nat := none
  /-- Elapsed time at which an exit from AGING completes (R332). -/
  exitAt : Option Nat := none
  /-- Elapsed time at which a wake from DEEP began (R333). -/
  wakeFrom : Option Nat := none
  /-- A SHELF SAFE cause that waits for STANDBY (R329). -/
  safePend : Option Nat := none
  /-- A SHELF SAFE cause has come in the present control period (R22). -/
  safeNew : Bool := false
  /-- A mode instruction or an accepted start asks for RUN out of STANDBY (R327). -/
  toRun : Bool := false
  /-- The handshake of R372 for the mode requested is complete (R326). -/
  handshake : Bool := false
  deriving DecidableEq, Repr

/-- A configuration region of R291. -/
structure SavedRegion where
  region : Region
  regs : List (Reg × Word)
  deriving DecidableEq, Repr

/-- The MRAM contents no window shows (R401): configuration banks, image banks, keys. -/
structure NvSt where
  cfgA : List SavedRegion := []
  cfgB : List SavedRegion := []
  /-- Configuration bank in use: false A. -/
  cfgInB : Bool := false
  calSaved : List Host.Cell := []
  calDue : Option Nat := none
  calLast : Nat := 0
  imgA : Nat := 0
  imgB : Nat := 0
  stagedA : Bool := false
  stagedB : Bool := false
  bootB : Bool := false
  /-- Regions changed and not yet saved, with the time of the change. -/
  dirty : List (Region × Nat) := []
  deriving DecidableEq, Repr

/-- The self-test and the die sensors (R414–R427). Times are elapsed times. -/
structure TestSt where
  /-- The boundary of the latest housekeeping round (R418). -/
  roundAt : Option Nat := none
  /-- When the next SRAM slice is due, and when the passes of SRAM and MRAM read-verify began. -/
  sramAt : Nat := 0
  sramFrom : Nat := 0
  mramFrom : Nat := 0
  /-- When the next row of the write test is due. -/
  rowAt : Nat := 0
  /-- Rounds of the present read-verify pass, of 1,024. -/
  mramN : Nat := 0
  /-- MRAM offsets corrected at their last read-verify, rows queued for repair, and test rows marked unusable. -/
  corrected : List Nat := []
  queued : List Nat := []
  badRows : List Nat := []
  /-- SRAM slices remapped to a spare row. -/
  remapped : List Nat := []
  /-- The reference check's last outcome: 0 good, else the row of R419. -/
  refBad : Nat := 0
  /-- The die sensors' codes of the last round, 1/16 °C. -/
  code : Vector (Option Int) 8 := Vector.replicate 8 none
  deriving DecidableEq, Repr

/-- The maintenance state (R428–R436, R448). Times are elapsed times. -/
structure MaintSt where
  /-- When the restart under way began. -/
  restartAt : Option Nat := none
  /-- The latest restarts, newest first: when each began, and whether it was of cause 3 or 4. -/
  restarts : List (Nat × Bool) := []
  /-- A restart that IMAGE_COMMIT asked for waits for its response to be queued (R361, R430). -/
  commit : Bool := false
  /-- The JTAG instruction in force (R448): 0 EXTEST, 1 SAMPLE/PRELOAD, 2 IDCODE, 31 BYPASS. -/
  jtagIr : Nat := 2
  /-- When each card was last seen lost, or its sampling began (R434). -/
  lossAt : Vector Nat 16 := Vector.replicate 16 0
  deriving DecidableEq, Repr

end Sys2Proof.Machine
end

