-- ==== Sys2Proof/Machine/State.lean ====
section
/-! DEFINITION. The state of the AL9128: its registers, its memories, what no register shows, and the queue of waiting
commands; the state right after a power-on reset; and the reasons a step can stop. -/

namespace Sys2Proof.Machine

/-- Why a command ends the run. -/
inductive Fault where
  /-- No command raises it: the manual gives every command an effect. It keeps the type inhabited. Safe. -/
  | none
  deriving DecidableEq, Repr

/-- Why a command is not executed. -/
inductive Refusal where
  /-- Raised only by an arm of `exec` whose command has no meaning yet. Safe. -/
  | notModelled (mnemonic : String)
  deriving DecidableEq, Repr

/-- The machine. -/
structure State where
  /-- The registers, sparse: rising by `Reg.key`, no entry at its reset value (R5). Read with `State.word`. -/
  regs : List (Reg × Word) := []
  /-- Registers written by the host whose new value is not in force yet (R93, R117, R225, R285, R323): the value that was
  in force before. Same form. -/
  old : List (Reg × Word) := []
  /-- The holding copies of R8: a high-word register and the value its low-word read latched. -/
  held64 : List (Reg × Word) := []
  /-- The low halves of 64-bit writes that wait for their high word (R8). -/
  low64 : List (Reg × Word) := []
  /-- The memory windows of R13, as bytes: rising addresses, no byte 0. Read with `State.byte`. -/
  mem : List Host.Cell := []
  nv : NvSt := {}
  /-- Elapsed time in ns since the reset, and the time counter of R315 in ns. -/
  time : Nat := 0
  ctr : Nat := 0
  ctrPrev : Nat := 0
  lockAt : Option Nat := none
  lockBy : Option Sess := none
  safeReq : Bool := false
  clrReq : Bool := false
  ch : Vector Chan 128 := Vector.replicate 128 {}
  sh : ShelfCtx := {}
  lane : LaneSt := {}
  spare : SpareSt := {}
  led : LedgerSt := {}
  fd : Vector FeedSt 2 := Vector.replicate 2 {}
  fsel : FeedSel := {}
  hu : HoldSt := {}
  ax : Vector AuxSt 4 := Vector.replicate 4 {}
  al : Vector LoopSt 16 := Vector.replicate 16 {}
  sq : Vector RailSt 24 := Vector.replicate 24 {}
  boot : BootSt := {}
  clk : ClkSt := {}
  mode : ModeSt := {}
  ev : EvSt := {}
  link : LinkSt := {}
  tw : TwoWireSt := {}
  vault : VaultSt := {}
  cellar : CellarSt := {}
  tst : TestSt := {}
  maint : MaintSt := {}
  /-- The answer to the last host access: its status of R349 and its data. -/
  status : Nat := 0
  data : List Byte := []
  /-- The model's counter of free values (notes/assumptions/5.md). -/
  free : Nat := 0
  /-- The commands waiting, first in first out. -/
  pending : List Instr := []
  deriving DecidableEq, Repr

/-- The machine right after a power-on reset: every register at its Reset column, everything else empty. -/
def State.reset : State := {}

end Sys2Proof.Machine
end

