-- ==== Sys2Proof/Machine/Ops.lean ====
section
/-! DEFINITION. The named operations over registers, memory, channels and free values. Every other machine file reads and
writes the state through these. -/

namespace Sys2Proof.Machine

/-- The order in which registers are listed: by address; BT_PWMF8, whose address the manual gives to BT_REF as well
(notes/assumptions/8.md), comes just after it. -/
def Reg.key (r : Reg) : Nat := if r = .BT_PWMF 8 then 2 * r.addr + 1 else 2 * r.addr

/-- The value listed for a register, if any. -/
def regFind (l : List (Reg × Word)) (r : Reg) : Option Word := (l.find? fun e => e.1 = r).map Prod.snd

/-- A listed value put in its place by key. -/
def regInsert : List (Reg × Word) → Reg → Word → List (Reg × Word)
  | [], r, w => [(r, w)]
  | e :: t, r, w => if r.key ≤ e.1.key then (r, w) :: e :: t else e :: regInsert t r w

/-- The list without a register. -/
def regDrop (l : List (Reg × Word)) (r : Reg) : List (Reg × Word) := l.filter fun e => e.1 ≠ r

/-- The list with a register at a value, whatever it listed before. -/
def regPut (l : List (Reg × Word)) (r : Reg) (w : Word) : List (Reg × Word) := regInsert (regDrop l r) r w

/-- A sparse register list with a register at a value: a value equal to the reset value is not listed. -/
def regSet (l : List (Reg × Word)) (r : Reg) (w : Word) : List (Reg × Word) :=
  if w = r.rst then regDrop l r else regPut l r w

/-- The register's word as stored. -/
def State.word (s : State) (r : Reg) : Word := (regFind s.regs r).getD r.rst

/-- Store a register's word. -/
def State.setWord (s : State) (r : Reg) (w : Word) : State := { s with regs := regSet s.regs r w }

/-- One field, unsigned. -/
def State.fget (s : State) (f : Fld) : Nat := bitsOf (s.word f.reg) f.lo f.len

/-- One field, two's complement. -/
def State.fgetS (s : State) (f : Fld) : Int := signedOf f.len (s.fget f)

/-- One field read as a bit. -/
def State.flag (s : State) (f : Fld) : Bool := decide (s.fget f ≠ 0)

/-- Write one field. -/
def State.fset (s : State) (f : Fld) (v : Nat) : State := s.setWord f.reg (putBits (s.word f.reg) f.lo f.len v)

/-- Write one field with a signed value. -/
def State.fsetS (s : State) (f : Fld) (v : Int) : State := s.fset f (codeOf f.len v)

/-- Write one bit. -/
def State.setFlag (s : State) (f : Fld) (b : Bool) : State := s.fset f b.toNat

/-- Count one up, saturating at the field's end. -/
def State.incSat (s : State) (f : Fld) : State := s.fset f (min (s.fget f + 1) (2 ^ f.len - 1))

/-- Count one up, wrapping. -/
def State.incWrap (s : State) (f : Fld) : State := s.fset f (s.fget f + 1)

/-- A configuration field's value in force: the value before a write that has not taken effect yet (R93, R117, R225). -/
def State.eff (s : State) (f : Fld) : Nat := bitsOf ((regFind s.old f.reg).getD (s.word f.reg)) f.lo f.len

/-- The same, two's complement. -/
def State.effS (s : State) (f : Fld) : Int := signedOf f.len (s.eff f)

/-- The same, as a bit. -/
def State.effFlag (s : State) (f : Fld) : Bool := decide (s.eff f ≠ 0)

/-- A 64-bit pair (R8) as one number. -/
def State.word64 (s : State) (lo hi : Reg) : Nat := (s.word lo).toNat + (s.word hi).toNat * 2 ^ 32

/-- Store a 64-bit pair. -/
def State.setWord64 (s : State) (lo hi : Reg) (v : Nat) : State :=
  (s.setWord lo (BitVec.ofNat 32 v)).setWord hi (BitVec.ofNat 32 (v / 2 ^ 32))

/-- What an address no cell lists reads as (notes/assumptions/9.md). -/
def memDefault : Byte := 0

/-- The byte at an address of the memory windows. -/
def memRead : List Host.Cell → Nat → Byte
  | [], _ => memDefault
  | (a, b) :: t, x => if a = x then b else memRead t x

/-- Write one byte, keeping the list rising and free of bytes that an unlisted address reads as. -/
def memWrite : List Host.Cell → Nat → Byte → List Host.Cell
  | [], x, v => if v = memDefault then [] else [(x, v)]
  | (a, b) :: t, x, v =>
      if x < a then (if v = memDefault then (a, b) :: t else (x, v) :: (a, b) :: t)
      else if x = a then (if v = memDefault then t else (x, v) :: t)
      else (a, b) :: memWrite t x v

/-- The canonical form: addresses strictly rising, no byte that an unlisted address reads as. -/
def Memory.wf (l : List Host.Cell) : Bool :=
  decide (l.Pairwise fun p q => p.1 < q.1) && l.all fun p => decide (p.2 ≠ memDefault)

/-- Write consecutive bytes. -/
def memWriteBytes (l : List Host.Cell) (a : Nat) : List Byte → List Host.Cell
  | [] => l
  | b :: t => memWriteBytes (memWrite l a b) (a + 1) t

/-- Read consecutive bytes. -/
def memReadBytes (l : List Host.Cell) (a : Nat) : Nat → List Byte
  | 0 => []
  | n + 1 => memRead l a :: memReadBytes l (a + 1) n

/-- The byte the machine's memory holds at an address. -/
def State.byte (s : State) (a : Nat) : Byte := memRead s.mem a

/-- The little-endian word at an address of the memory windows (R4). -/
def State.memWord (s : State) (a : Nat) : Word :=
  BitVec.ofNat 32 ((s.byte a).toNat + (s.byte (a + 1)).toNat * 2 ^ 8 + (s.byte (a + 2)).toNat * 2 ^ 16
    + (s.byte (a + 3)).toNat * 2 ^ 24)

/-- Store bytes in the memory windows. -/
def State.putBytes (s : State) (a : Nat) (bs : List Byte) : State := { s with mem := memWriteBytes s.mem a bs }

/-- Store a word in the memory windows. -/
def State.putMemWord (s : State) (a : Nat) (w : Word) : State := s.putBytes a (bytesOf w)

/-- One channel lane. -/
def State.lane1 (s : State) (n : Fin 128) : Chan := s.ch[n]

/-- Replace one channel lane. -/
def State.setCh (s : State) (n : Fin 128) (c : Chan) : State := { s with ch := s.ch.set n c }

/-- Change one channel lane. -/
def State.modCh (s : State) (n : Fin 128) (f : Chan → Chan) : State := s.setCh n (f (s.lane1 n))

/-- Change a lane's samples and ranges. -/
def State.modM (s : State) (n : Fin 128) (f : ChMeas → ChMeas) : State := s.modCh n fun c => { c with m := f c.m }
/-- Change a lane's loops. -/
def State.modL (s : State) (n : Fin 128) (f : ChLoop → ChLoop) : State := s.modCh n fun c => { c with l := f c.l }
/-- Change a channel's step context. -/
def State.modX (s : State) (n : Fin 128) (f : ChCtx → ChCtx) : State := s.modCh n fun c => { c with x := f c.x }
/-- Change a channel's metrics. -/
def State.modK (s : State) (n : Fin 128) (f : ChMetric → ChMetric) : State := s.modCh n fun c => { c with k := f c.k }
/-- Change a channel's protection. -/
def State.modP (s : State) (n : Fin 128) (f : ChProt → ChProt) : State := s.modCh n fun c => { c with p := f c.p }
/-- Change a channel's check. -/
def State.modC (s : State) (n : Fin 128) (f : ChCheck → ChCheck) : State := s.modCh n fun c => { c with c := f c.c }

/-- Do something for each element of a list, in order. -/
def State.each {α : Type} (s : State) (l : List α) (f : α → State → State) : State := l.foldl (fun t x => f x t) s

/-- The channels, in order. -/
def chans : List (Fin 128) := List.finRange 128

/-- A fresh free value: its number, and the state with the next one (notes/assumptions/5.md). -/
def State.fresh (s : State) : State := { s with free := s.free + 1 }

/-- So many fresh free values at once. -/
def State.freshN (s : State) (k : Nat) : State := { s with free := s.free + k }

/-- A reading as its field holds it; one the field cannot hold leaves a value the manual does not state
(notes/assumptions/193.md). -/
def State.reading (s : State) (f : Fld) (signed : Bool) (x : Int) (k : Nat) : State :=
  let n := f.len
  let fits := if signed then decide (-2 ^ (n - 1) ≤ x ∧ x < 2 ^ (n - 1)) else decide (0 ≤ x ∧ x < 2 ^ n)
  s.fset f (if fits then codeOf n x else (Config.freeWord (s.free + k)).toNat % 2 ^ n)

/-- The free word the next use takes. -/
def State.freeWord (s : State) : Word := Config.freeWord s.free

/-- Set the status and data that answer the present host access (R349). -/
def State.answer (s : State) (st : Nat) (d : List Byte := []) : State := { s with status := st, data := d }

/-- R349: OK. -/
abbrev stOk : Nat := 0
/-- R349: ADDRESS. -/
abbrev stAddress : Nat := 1
/-- R349: RESERVED. -/
abbrev stReserved : Nat := 2
/-- R349: LOCKED. -/
abbrev stLocked : Nat := 3
/-- R349: BUSY. -/
abbrev stBusy : Nat := 4
/-- R349: AUTH. -/
abbrev stAuth : Nat := 5
/-- R349: BADCMD. -/
abbrev stBadCmd : Nat := 6
/-- R349: LENGTH. -/
abbrev stLength : Nat := 7
/-- R349: SIGNATURE. -/
abbrev stSignature : Nat := 8
/-- R349: CRC. -/
abbrev stCrc : Nat := 9
/-- R349: INCOMPLETE. -/
abbrev stIncomplete : Nat := 10
/-- R349: SKIPPED. -/
abbrev stSkipped : Nat := 11
/-- R349: RECOVERY. -/
abbrev stRecovery : Nat := 12

/-- Nanoseconds in a microsecond, a millisecond, a second. -/
abbrev us : Nat := 1000
/-- Nanoseconds in a millisecond. -/
abbrev ms : Nat := 1000000
/-- Nanoseconds in a second. -/
abbrev sec : Nat := 1000000000
/-- T_ctl: the control period, 10 µs (R11). -/
abbrev tCtl : Nat := 10000

/-- R15: the channel state codes. -/
abbrev stPARKED : Nat := 0
/-- R15. -/
abbrev stCHECK : Nat := 1
/-- R15. -/
abbrev stRUN : Nat := 2
/-- R15. -/
abbrev stSTOP : Nat := 3
/-- R15. -/
abbrev stBRIDGE : Nat := 4
/-- R15. -/
abbrev stABSENT : Nat := 5
/-- R15. -/
abbrev stFOLLOW : Nat := 6

/-- R20: the shelf state codes. -/
abbrev shSTART : Nat := 0
/-- R20. -/
abbrev shSERVICE : Nat := 1
/-- R20. -/
abbrev shRIDE : Nat := 2
/-- R20. -/
abbrev shHALT : Nat := 3
/-- R20. -/
abbrev shSAFE : Nat := 4

/-- R13: the power mode codes. -/
abbrev mdRUN : Nat := 0
/-- R13. -/
abbrev mdSTANDBY : Nat := 1
/-- R13. -/
abbrev mdAGING : Nat := 2
/-- R13. -/
abbrev mdDEEP : Nat := 3

/-- CH_STATE.STATE of a channel (R15). -/
def State.chState (s : State) (n : Fin 128) : Nat := s.fget (F.CH_STATE_STATE n)

/-- GL_STATE.SHELF (R20). -/
def State.shelf (s : State) : Nat := s.fget F.GL_STATE_SHELF

/-- GL_STATE.MODE (R324). -/
def State.pmode (s : State) : Nat := s.fget F.GL_STATE_MODE

/-- A channel in PARKED or ABSENT. -/
def State.idle (s : State) (n : Fin 128) : Bool := decide (s.chState n = stPARKED ∨ s.chState n = stABSENT)

/-- Every channel PARKED or ABSENT. -/
def State.allIdle (s : State) : Bool := chans.all s.idle

/-- GL_STATE.PARKED: how many channels are PARKED or ABSENT (R13). -/
def State.parkedCount (s : State) : Nat := (chans.filter s.idle).length

/-- GL_STATE as it stands, its PARKED count filled in (R13). -/
def State.glState (s : State) : Word := putBits (s.word .GL_STATE) 8 8 s.parkedCount

/-- A feed in ON is connected (R20, R22, R227). -/
def State.feedOn (s : State) : Bool :=
  decide (s.fget (F.FD_FSTAT_STATE 0) = 5 ∨ s.fget (F.FD_FSTAT_STATE 1) = 5)

/-- R63: a DIV write waits for the boundary. -/
def State.divPending (s : State) : Bool := (regFind s.old .CK_PWM).isSome

/-- The counter stamp of the present instant (R315, R335). -/
def State.now (s : State) : Nat := s.ctr

/-- R312, R324, R330: the clock enable in force of a block: RUN's in RUN, STANDBY and a wake of AGING, else SLEEP's or DEEP's. -/
def State.gateOn (s : State) (b : Fin 15) : Bool :=
  if s.pmode = mdDEEP then s.effFlag (F.CK_GATE_DEEP b)
  else if s.pmode = mdAGING ∧ s.mode.awake = false then s.effFlag (F.CK_GATE_SLEEP b)
  else s.effFlag (F.CK_GATE_RUN b)

/-- R290, R363: the supervisor runs, in service or in recovery. -/
def State.served (s : State) : Bool := s.boot.done || s.flag F.HL_STAT_RECOV

/-- R26, R324: the control paths run: the firmware or recovery runs, in RUN or STANDBY. -/
def State.sampling (s : State) : Bool := s.served && decide (s.pmode = mdRUN ∨ s.pmode = mdSTANDBY)

/-- R208: the lane's registers whose writes take effect at the next slot start. -/
def Reg.atSlot : Reg → Bool
  | .LN_CFG => true
  | .LN_LIMIT => true
  | .LN_DWELL => true
  | .LN_REFV => true
  | _ => false

end Sys2Proof.Machine
end

