-- ==== Sys2Proof/Machine/Access.lean ====
section
/-! DEFINITION. The host's write of one register word, field by field (R5, R6, R7, R349), and the elapsed-time tests the
plant's rows share. -/

namespace Sys2Proof.Machine

open Sys2Proof

/-- R6: the reserved encodings that are a relation between fields: when the relation holds of the word the write would
leave, and the fields (lowest bit, length) it names. -/
def Reg.relations : Reg → List ((Word → Bool) × List (Nat × Nat))
  | .CH_MEAS _ =>
      [(fun w => decide (bitsOf w 6 2 < bitsOf w 4 2), [(4, 2), (6, 2)]),
       (fun w => decide (bitsOf w 2 1 = 0 ∧ (bitsOf w 0 2 < bitsOf w 4 2 ∨ bitsOf w 6 2 < bitsOf w 0 2)),
          [(0, 2), (2, 1), (4, 2), (6, 2)])]
  | .GL_BUSLIM => [(fun w => decide (bitsOf w 16 16 ≤ bitsOf w 0 16), [(0, 16), (16, 16)])]
  | .FD_FCFG _ => [(fun w => decide (bitsOf w 8 8 ≤ bitsOf w 0 8 + 4), [(0, 8), (8, 8)])]
  | .HU_TEMP =>
      [(fun w => decide (signedOf 8 (bitsOf w 8 8) ≤ signedOf 8 (bitsOf w 0 8)), [(0, 8), (8, 8)])]
  | .AL_OUT _ => [(fun w => decide (bitsOf w 16 16 < bitsOf w 0 16), [(0, 16), (16, 16)])]
  | .CK_CVOLT =>
      [(fun w => decide (bitsOf w 0 10 < bitsOf w 10 10 ∨ bitsOf w 10 10 < bitsOf w 20 10),
          [(0, 10), (10, 10), (20, 10)])]
  | _ => []

/-- R5, R6, R7: what a write of `val` leaves in one field of the word `w`. -/
def FieldSpec.write (f : FieldSpec) (lock : Bool) (val w : Word) : Word :=
  match f.ty with
  | .ro => w
  | .wo => w
  | .w1c => w &&& ~~~ (val &&& maskOf f.lo f.len)
  | .rwl => if lock ∧ f.chk.ok (bitsOf val f.lo f.len) then putBits w f.lo f.len (bitsOf val f.lo f.len) else w
  | .rw => if f.chk.ok (bitsOf val f.lo f.len) then putBits w f.lo f.len (bitsOf val f.lo f.len) else w
  | .rws => if f.chk.ok (bitsOf val f.lo f.len) then putBits w f.lo f.len (bitsOf val f.lo f.len) else w

/-- A field a write can set. -/
def FTy.writes : FTy → Bool
  | .rw => true
  | .rws => true
  | .rwl => true
  | .ro => false
  | .wo => false
  | .w1c => false

/-- The word with some fields taken back from another word. -/
def keepFields (w old : Word) (l : List (Nat × Nat)) : Word :=
  l.foldl (fun x p => putBits x p.1 p.2 (bitsOf old p.1 p.2)) w

/-- R6: the relations applied to the word a write would leave, in order, and whether one held. -/
def applyRelations (old : Word) : List ((Word → Bool) × List (Nat × Nat)) → Word → Word × Bool
  | [], w => (w, false)
  | (p, fs) :: t, w =>
      if p w then ((applyRelations old t (keepFields w old fs)).1, true) else applyRelations old t w

/-- R5, R6, R7: the word a host write leaves in a register, and the status the write carries (R349: the lowest that
applies). -/
def writeWord (r : Reg) (lock : Bool) (old val : Word) : Word × Nat :=
  let w := r.fields.foldl (fun x f => f.write lock val x) old
  let w := (applyRelations old r.relations w).1
  let want := r.fields.foldl (fun x f => f.write true val x) old
  let bad := (applyRelations old r.relations want).2 || r.fields.any fun f => f.ty.writes && ! f.chk.ok (bitsOf val f.lo f.len)
  let locked := ! lock && r.fields.any fun f => f.ty == FTy.rwl
  (w, if bad then stReserved else if locked then stLocked else stOk)

/-- R5, R6, R7: a host write of a register word. -/
def State.writeReg (s : State) (r : Reg) (val : Word) : State :=
  let (w, st) := writeWord r (s.flag F.GL_LOCK_OPEN) (s.word r) val
  (s.setWord r w).answer st

/-- A time not later than the present period: the rows between two boundaries carry no time of their own. -/
def State.reached (s : State) (t : Nat) : Bool := decide (t < s.time + tCtl)

end Sys2Proof.Machine
end

