-- ==== Sys2Proof/Machine/Real.lean ====
section
/-! DEFINITION. The real functions of the manual in fixed point: the logarithm with 96 fractional bits, sine and cosine with 80, and what
R39, R81, R174 and R175 make of them. Their error lies many orders below the unit of any result (notes/assumptions/6.md). -/

namespace Sys2Proof.Machine

open Sys2Proof

/-- One, in fixed point. -/
abbrev fixOne : Nat := 2 ^ 96

/-- 2π in fixed point. -/
abbrev fixTwoPi : Nat := 497805226624462170461043889244

/-- The sum of z^(2i+1)/(2i+1) for the next `k` terms: the term's power, its square factor, its index. -/
def atanhSum (sq : Int) : Nat → Int → Nat → Int
  | 0, _, _ => 0
  | k + 1, p, i => p / ((2 * i + 1 : Nat) : Int) + atanhSum sq k (p * sq / (fixOne : Nat)) (i + 1)

/-- ln(a/b) for a/b between 1/2 and 2: 2 artanh((a − b)/(a + b)). -/
def lnNear (a b : Nat) : Int :=
  let z : Int := ((a : Int) - b) * (fixOne : Nat) / ((a + b : Nat) : Int)
  2 * atanhSum (z * z / (fixOne : Nat)) 40 z 0

/-- ln(a/b) of two positive numbers, in fixed point. -/
def fixLn (a b : Nat) : Int :=
  let k : Int := (Nat.log2 a : Int) - Nat.log2 b
  (if 0 ≤ k then lnNear a (b * 2 ^ k.natAbs) else lnNear (a * 2 ^ k.natAbs) b) + k * lnNear 2 1

/-- The next `k` terms of the sine series: the square of the angle, the present term, its index. -/
def sinSum (sq : Int) : Nat → Int → Nat → Int
  | 0, _, _ => 0
  | k + 1, p, i => p + sinSum sq k (-(p * sq) / (fixOne : Nat) / (((2 * i + 2) * (2 * i + 3) : Nat) : Int)) (i + 1)

/-- One, in the fixed point of a sine: 16 bits fewer, so that the series' error is rounded away. -/
abbrev sinOne : Nat := 2 ^ 80

/-- sin(2π r/d) in 2^-80: the angle is brought between −π and π. -/
def fixSin (r d : Nat) : Int :=
  let m := r % d
  let x : Int := (if d < 2 * m then (m : Int) - d else m) * (fixTwoPi : Nat) / (d : Int)
  (sinSum (x * x / (fixOne : Nat)) 30 x 0 + 2 ^ 15) / 2 ^ 16

/-- cos(2π r/d) in 2^-80. -/
def fixCos (r d : Nat) : Int := fixSin (4 * r + d) (4 * d)

/-- R39: the β model: the temperature in m°C of a resistance in mΩ, with β in K and R25 in 100 Ω. A resistance of 0, and one so
low that the model has no finite temperature, lie above every limit; β = 0 has no temperature. -/
def ntcMilliC (beta r25 milliOhm : Nat) : Option Int :=
  if beta = 0 then none
  else if milliOhm = 0 then some 1000000000
  else
    let den : Int := (100 * beta * fixOne : Nat) + 29815 * fixLn milliOhm (r25 * 100000)
    some (if den ≤ 0 then 1000000000 else rdiv 39 ((29815000 * beta * fixOne : Nat) - 273150 * den) den.natAbs)

/-- R81: the phase of the injection, as a fraction of a turn over 10^12: f in mHz, t in ns. -/
abbrev turnDen : Nat := 10 ^ 12

/-- R81: amp × sin(2π f t). -/
def sine (amp : Int) (mHz t : Nat) : Int := rdiv 81 (amp * fixSin (mHz * t) turnDen) sinOne

/-- R81: the feed-forward duty in the loop's unit, 2^32 × 10^6: A × |Z_ff| / BUS_V × sin(φ + arg Z_ff) is
A / BUS_V × (R sin φ + 2π f L cos φ), of A in µA, R in µΩ, L in nH, BUS_V in µV. -/
def eisDuty (amp : Int) (mHz rOhm lEq vbus t : Nat) : Int :=
  let s := fixSin (mHz * t) turnDen
  let c := fixCos (mHz * t) turnDen
  rdiv 82 (amp * ((rOhm * 10 ^ 6 * fixOne : Nat) * s + (fixTwoPi * mHz * lEq : Nat) * c) * 2 ^ 32) (vbus * 10 ^ 6 * fixOne * sinOne)

/-- One sample's row of R174's fit: 1, the time, sine and cosine of the phase in 2^-40, and the value. -/
structure FitRow where
  t : Int
  s : Int
  c : Int
  x : Int
  deriving DecidableEq, Repr

/-- R174: the row of a sample (counter time, value) at f from t_s. -/
def fitRow (mHz ts : Nat) (p : Nat × Int) : FitRow :=
  let k := mHz * (p.1 - ts)
  { t := (p.1 : Int) - ts, s := fixSin k turnDen / 2 ^ 40, c := fixCos k turnDen / 2 ^ 40, x := p.2 }

/-- A sum over the rows. -/
def fitSum (l : List FitRow) (f : FitRow → Int) : Int := (l.map f).foldl (· + ·) 0

/-- The determinant of a 3 × 3 matrix, by rows. -/
def det3 (a b c d e f g h i : Int) : Int := a * (e * i - f * h) - b * (d * i - f * g) + c * (d * h - e * g)

/-- The determinant of a 4 × 4 matrix, by columns. -/
def det4 (p q r s : Int × Int × Int × Int) : Int :=
  p.1 * det3 q.2.1 r.2.1 s.2.1 q.2.2.1 r.2.2.1 s.2.2.1 q.2.2.2 r.2.2.2 s.2.2.2
  - q.1 * det3 p.2.1 r.2.1 s.2.1 p.2.2.1 r.2.2.1 s.2.2.1 p.2.2.2 r.2.2.2 s.2.2.2
  + r.1 * det3 p.2.1 q.2.1 s.2.1 p.2.2.1 q.2.2.1 s.2.2.1 p.2.2.2 q.2.2.2 s.2.2.2
  - s.1 * det3 p.2.1 q.2.1 r.2.1 p.2.2.1 q.2.2.1 r.2.2.1 p.2.2.2 q.2.2.2 r.2.2.2

/-- R174, R175: a solved fit, by Cramer's rule: the determinant, the phasor's two parts times 2^-40 of it, the residual sum of
squares times it, and the number of samples. -/
structure Fit where
  det : Int
  xs : Int
  xc : Int
  rss : Int
  n : Nat
  deriving DecidableEq, Repr

/-- R174: x(t) = a + d (t − t_mid) + xs sin φ + xc cos φ by least squares over samples (counter time, value). -/
def phasorFit (mHz ts : Nat) (l : List (Nat × Int)) : Fit :=
  let r := l.map (fitRow mHz ts)
  let k (f g : FitRow → Int) : Int := fitSum r fun y => f y * g y
  let o : FitRow → Int := fun _ => 1
  let col (g : FitRow → Int) : Int × Int × Int × Int := (k o g, k FitRow.t g, k FitRow.s g, k FitRow.c g)
  let (c0, c1, c2, c3, b) := (col o, col FitRow.t, col FitRow.s, col FitRow.c, col FitRow.x)
  let d := det4 c0 c1 c2 c3
  let (d0, d1, d2, d3) := (det4 b c1 c2 c3, det4 c0 b c2 c3, det4 c0 c1 b c3, det4 c0 c1 c2 b)
  { det := d, xs := d2, xc := d3, n := l.length,
    rss := d * k FitRow.x FitRow.x - (d0 * b.1 + d1 * b.2.1 + d2 * b.2.2.1 + d3 * b.2.2.2) }

/-- R175: 20 log10(|X| / r_rms) in dB: 255 or more reads 255; none below 0 dB, where the manual states no code. -/
def Fit.snr (f : Fit) : Option Nat :=
  let a := ((f.xs * f.xs + f.xc * f.xc) * 2 ^ 80 * f.n).natAbs
  let b := (f.det * f.rss).natAbs
  if a = 0 then none
  else if b = 0 ∨ f.rss ≤ 0 then some 255
  else if a < b then none
  else some (min 255 (rdiv 175 (10 * fixLn a b) (fixLn 10 1).natAbs).toNat)

/-- The integer square root, by 128 binary steps. -/
def isqrt (x : Nat) : Nat := (List.range 128).foldl (fun r b =>
  let c := r + 2 ^ (127 - b)
  if c * c ≤ x then c else r) 0

/-- R174, R178: the nearest integer to the square root of num / den. -/
def sqrtNear (num den : Nat) : Nat :=
  if den = 0 then 0
  else
    let k := isqrt (num / den)
    if (2 * k + 1) * (2 * k + 1) * den ≤ 4 * num then k + 1 else k

end Sys2Proof.Machine
end

