-- ==== Sys2Proof/Machine/Events.lean ====
section
/-! DEFINITION. Occurrences, their routing and queues (R335–R340), the Vault's writer queue (R406) and the Cellar's
triggers (R409, R410). -/

namespace Sys2Proof.Machine

open Sys2Proof

/-- The event source with a number (R335). -/
def evIx (n : Nat) : Fin 512 := Fin.ofNat 512 n

/-- The EV_PEND, EV_MASK and VT_CTRIG word of an event number. -/
def evWord (n : Nat) : Fin 16 := Fin.ofNat 16 (n / 32)

/-- Is the event's EV_MASK bit set (R343)? -/
def State.masked (s : State) (n : Nat) : Bool := (s.word (.EV_MASK (evWord n))).getLsbD (n % 32)

/-- Is the event's EV_PEND bit set (R343)? -/
def State.pend (s : State) (n : Nat) : Bool := (s.word (.EV_PEND (evWord n))).getLsbD (n % 32)

/-- A number put in a rising list once. -/
def putRising : List Nat → Nat → List Nat
  | [], n => [n]
  | a :: t, n => if n < a then n :: a :: t else if n = a then a :: t else a :: putRising t n

/-- The (event, severity) list with an occurrence taken in: the highest severity stays. -/
def putSev (l : List (Nat × Nat)) (n sv : Nat) : List (Nat × Nat) :=
  let old := ((l.find? fun e => e.1 = n).map Prod.snd).getD 0
  (n, max old sv) :: l.filter fun e => e.1 ≠ n

/-- Index of the oldest entry of lower severity, if any. -/
def oldestLower (sevs : List Nat) (sv : Nat) : Option Nat :=
  sevs.findIdx? fun x => x < sv

/-- R336: does an occurrence come after another: later, or in the same 10 ns with a greater number? -/
def occAfter (x o : Occ) : Bool := decide (o.stamp < x.stamp ∨ (x.stamp = o.stamp ∧ o.num < x.num))

/-- An entry put into a list before the entries at its end that come after it. -/
def putBefore {α : Type} (after : α → Bool) (l : List α) (x : α) : List α :=
  let k := l.length - (l.reverse.takeWhile after).length
  l.take k ++ x :: l.drop k

/-- R336, R340: occurrences in stamp order, and in number order within the same 10 ns. -/
def occSort (l : List Occ) : List Occ := l.foldl (fun q o => putBefore (fun x => occAfter x o) q o) []

/-- R338: an occurrence enters the Attic queue of 64. -/
def State.atticPut (s : State) (o : Occ) : State :=
  let o := { o with queued := true }
  if s.ev.attic.length < 64 then { s with ev := { s.ev with attic := s.ev.attic ++ [o] } }
  else
    let s1 := (s.setFlag F.EV_STAT_AQOVF true).incSat F.EV_STAT_AQLOST
    if 2 ≤ o.sev then
      match oldestLower (s.ev.attic.map Occ.sev) o.sev with
      | some k => { s1 with ev := { s1.ev with attic := s1.ev.attic.eraseIdx k ++ [o] } }
      | none => s1
    else s1

/-- R406, R412: a record waits in the writer queue of 1,024. Answers the state and whether a record was lost. -/
def State.vaultPut (s : State) (r : VRec) : State × Bool :=
  let put (q : List VRec) : State :=
    let s1 := { s with vault := { s.vault with queue := q } }
    s1.fset F.VT_QUEUE_HIGH (max (s1.fget F.VT_QUEUE_HIGH) q.length)
  let later (x : VRec) : Bool := decide (r.typ = 1 ∧ x.typ = 1) && occAfter x.occ r.occ
  if s.vault.queue.length < 1024 then (put (putBefore later s.vault.queue r), false)
  else
    let q := if 2 ≤ r.occ.sev ∨ r.occ.required then
        match oldestLower (s.vault.queue.map fun v => v.occ.sev) r.occ.sev with
        | some k => putBefore later (s.vault.queue.eraseIdx k) r
        | none => s.vault.queue
      else s.vault.queue
    let s1 := (put q).incSat F.VT_STAT_LOST
    ({ s1 with vault := { s1.vault with lostMark := true } }, true)

/-- R365: the frames not sent yet with their occurrences laid out anew, 22 in a frame. -/
def fillFrames : List EvFrame → List Occ → List EvFrame
  | [], _ => []
  | f :: l, o => { f with occs := o.take 22 } :: fillFrames l (o.drop 22)

/-- R336, ASLP: the occurrence joins the unsent frames in its order, of which only the last may hold fewer than 22 records, or a
new one (R365). -/
def SessSt.enqueue (x : SessSt) (o : Occ) : SessSt :=
  let sent := x.evq.takeWhile fun f => f.sent.isSome
  let open_ := x.evq.dropWhile fun f => f.sent.isSome
  let occs := putBefore (fun y => occAfter y o) (open_.flatMap EvFrame.occs) o
  if occs.length ≤ 22 * open_.length then { x with evq := sent ++ fillFrames open_ occs }
  else { x with evq := sent ++ fillFrames (open_ ++ [{ seq := x.evSeq, occs := [] }]) occs, evSeq := (x.evSeq + 1) % 2 ^ 32 }

/-- The highest severity in a frame. -/
def EvFrame.sev (f : EvFrame) : Nat := f.occs.foldl (fun m o => max m o.sev) 0

/-- R336: at most 1,024 frames; beyond that the oldest frame of the lowest severity queued goes. -/
def SessSt.trim (x : SessSt) : SessSt × Bool :=
  if x.evq.length ≤ 1024 then (x, false)
  else
    let low := x.evq.foldl (fun m f => min m f.sev) 3
    match x.evq.findIdx? fun f => f.sev = low with
    | some k => ({ x with evq := x.evq.eraseIdx k }, true)
    | none => (x, false)

/-- The session of a number 0–8: 8 is the SPI session (R351). -/
def State.sessAt (s : State) (k : Fin 9) : SessSt :=
  if h : k.val < 8 then s.link.sess[k.val] else s.link.spi

/-- Replace the session of a number 0–8. -/
def State.setSessAt (s : State) (k : Fin 9) (x : SessSt) : State :=
  if h : k.val < 8 then { s with link := { s.link with sess := s.link.sess.set k.val x } }
  else { s with link := { s.link with spi := x } }

/-- One subscribed session takes an occurrence. -/
def State.sessEvent (s : State) (o : Occ) (k : Fin 9) : State :=
  let x := s.sessAt k
  if x.evsub then
    let (y, dropped) := (x.enqueue o).trim
    let s1 := s.setSessAt k y
    if dropped then s1.incWrap F.EV_STAT_DROP else s1
  else s

/-- The sessions R336 sends event frames to. -/
def allSess : List (Fin 9) := List.finRange 9

/-- R391: an occurrence enters the Host Notify queue of 16; event 430 never does. -/
def State.notifyPut (s : State) (o : Occ) : State :=
  if o.num = 430 then s
  else if s.ev.notify.length < 16 then
    { s with ev := { s.ev with notify := putBefore (fun x => occAfter x o) s.ev.notify o } }
  else s.setFlag F.EV_STAT_NSKIP true

/-- R402: type 1 record of an occurrence. -/
def State.recordOcc (s : State) (o : Occ) : State × Bool :=
  if o.noRec ∧ 1024 ≤ s.vault.queue.length then (s, false) else s.vaultPut { typ := 1, occ := o }

/-- R336, R337: one occurrence counted, set pending and routed; whether its record was lost. -/
def State.routeOne (s : State) (o : Occ) : State × Bool :=
  let i := evIx o.num
  let s1 := s.incSat (F.EV_CFG_COUNT i)
  if s.masked o.num then (if o.required then s1.recordOcc o else (s1, false))
  else
    let w := evWord o.num
    let s2 := s1.setWord (.EV_PEND w) (s1.word (.EV_PEND w) ||| BitVec.ofNat 32 (2 ^ (o.num % 32)))
    let s3 := { s2 with ev := { s2.ev with pendSev := putSev s2.ev.pendSev o.num o.sev } }
    let s4 := if s.fget (F.EV_CFG_HRDYSEV i) ≤ o.sev then
        { s3 with ev := { s3.ev with hrdy := putRising s3.ev.hrdy o.num } } else s3
    let s5 := if s.fget (F.EV_CFG_ASLPSEV i) ≤ o.sev then s4.each allSess (fun k t => t.sessEvent o k) else s4
    let s6 := if s.fget (F.EV_CFG_NTFYSEV i) ≤ o.sev then s5.notifyPut o else s5
    if s.fget (F.EV_CFG_VLTSEV i) ≤ o.sev ∨ o.required then s6.recordOcc o else (s6, false)

/-- R410: the snapshot number in a slot's header. -/
def State.slotNum (s : State) (k : Fin 4) : Nat := (s.memWord (0xDDC000 + k.val * 0x9000 + 4)).toNat

/-- R410: the slot a trigger takes: one that is not frozen, the oldest; none if all four are frozen. -/
def State.freeSlot (s : State) : Option (Fin 4) :=
  let l := (List.finRange 4).filter fun k => ¬ s.flag (F.VT_CSLOT_FROZEN k)
  l.foldl (fun b k => match b with
    | none => some k
    | some j =>
      if s.flag (F.VT_CSLOT_VALID j) ∧
          (¬ s.flag (F.VT_CSLOT_VALID k) ∨ s.slotNum k < s.slotNum j) then some k
      else some j) none

/-- R410: the oldest frozen slot. -/
def State.oldestSlot (s : State) : Fin 4 :=
  (List.finRange 4).foldl (fun j k => if s.slotNum k < s.slotNum j then k else j) 0

/-- The first instant at or after a stamp, of a grid in ns (R28, R409). -/
def gridUp (x g : Nat) : Nat := (x + g - 1) / g * g

/-- R409, R410: a trigger of a cause. It joins the snapshot under way, or takes a slot, or is lost (answered by true). -/
def State.cellarTrigger (s : State) (cause stamp evNum : Nat) : State × Bool :=
  match s.cellar.snap with
  | some sn =>
    let sn := { sn with joined := sn.joined + 1, causes := sn.causes ||| 2 ^ (cause - 1), freeze := sn.freeze || cause == 1 }
    let halt := if cause = 2 then some sn.slot else s.cellar.haltSlot
    ({ s with cellar := { s.cellar with snap := some sn, haltSlot := halt } }, false)
  | none =>
    let take (k : Fin 4) : State :=
      let sn : Snap :=
        { slot := k, causes := 2 ^ (cause - 1), num := s.cellar.nextNum, stamp := stamp, t := gridUp stamp (100 * us),
          evNum := evNum, joined := 1, freeze := cause == 1 }
      let halt := if cause = 2 then some k else s.cellar.haltSlot
      { s with cellar := { s.cellar with snap := some sn, nextNum := s.cellar.nextNum + 1, haltSlot := halt } }.setFlag
        F.VT_CSTAT_CAPT true
    match s.freeSlot with
    | some k => (take k, false)
    | none => if cause ≤ 2 then (take s.oldestSlot, false) else (s.incSat F.VT_CSTAT_LOST, true)

/-- R336: an occurrence processed: routed, event 481 for a lost record (R406), and the Cellar's cause 3 with event 483 for
a trigger not taken (R409, R410). The two events of the recorder raise nothing further (notes/assumptions/10.md). -/
def State.route (s : State) (o : Occ) : State :=
  let (s1, lost) := s.routeOne o
  let s2 := if lost then (s1.routeOne { num := 481, sev := 1, stamp := o.stamp, noRec := true, tunsync := o.tunsync }).1 else s1
  if s.flag F.VT_CCTL_EVEN ∧ ¬ s.masked o.num ∧ (s.word (.VT_CTRIG (evWord o.num))).getLsbD (o.num % 32) = true then
    let (s3, missed) := s2.cellarTrigger 3 o.stamp o.num
    if missed then (s3.routeOne { num := 483, sev := 1, stamp := o.stamp, tunsync := o.tunsync }).1 else s3
  else s2

/-- R333, R338: in DEEP an occurrence at or above WAKESEV is a wake cause. -/
def State.deepEvent (s : State) (sev : Nat) : State :=
  if s.pmode = mdDEEP ∧ s.fget F.EV_CTL_WAKESEV ≤ sev ∧ s.mode.wakeFrom.isNone then
    { s with mode := { s.mode with wakeFrom := some s.time } }
  else s

/-- R338, R340: an occurrence goes to the Attic queue while the Vault is not powered, waits behind it while it drains, and
is processed otherwise. -/
def State.raiseOcc (s : State) (o : Occ) : State :=
  let o := { o with tunsync := decide (s.fget F.CK_PPSSTAT_STATE ≠ 3) }
  if s.boot.vaultOn = false then (s.deepEvent o.sev).atticPut o
  else if s.ev.attic ≠ [] then { s with ev := { s.ev with behind := s.ev.behind ++ [o] } }
  else s.route o

/-- Raise an event now: number, severity, payload. -/
def State.raise (s : State) (num sev : Nat) (payload : List Byte := []) : State :=
  s.raiseOcc { num := num, sev := sev, stamp := s.now, payload := payload }

/-- Raise an event whose Vault record a chapter requires (R337). -/
def State.raiseReq (s : State) (num sev : Nat) (payload : List Byte := []) : State :=
  s.raiseOcc { num := num, sev := sev, stamp := s.now, payload := payload, required := true }

/-- A record of a type other than 1 into the writer queue (R403), with event 481 if one is lost. Required records wait in
the queue even before the Vault is powered (notes/assumptions/11.md). -/
def State.record (s : State) (typ num sev stamp : Nat) (payload : List Byte) : State :=
  let o : Occ :=
    { num := num, sev := sev, stamp := stamp, payload := payload, required := decide (typ = 2 ∨ typ = 3),
      tunsync := decide (s.fget F.CK_PPSSTAT_STATE ≠ 3) }
  let (s1, lost) := s.vaultPut { typ := typ, occ := o }
  if lost then (s1.routeOne { num := 481, sev := 1, stamp := stamp, noRec := true, tunsync := o.tunsync }).1 else s1

/-- A Cellar trigger that is not an event's (causes 1, 2 and 4 of R409). -/
def State.trigger (s : State) (cause : Nat) : State :=
  let (s1, missed) := s.cellarTrigger cause s.now 0xFFFF
  if missed then s1.raise 483 1 else s1

/-- The lowest event number whose EV_PEND bit is set (R387). -/
def State.lowestPend (s : State) : Option Nat := (List.range 512).find? s.pend

/-- HRDY (R336, R374): low while an SPI command executes, else high while a frame waits for an SPI READ or an EV_PEND bit
set by an HRDY-routed occurrence remains set. -/
def State.hrdy (s : State) : Bool :=
  (! s.link.spi.busy) && (! s.link.spiOut.isEmpty || s.link.spi.evq.any (fun f => f.sent.isNone) || ! s.ev.hrdy.isEmpty)

end Sys2Proof.Machine
end

