-- ==== Sys2Proof/Machine/Measure.lean ====
section
/-! DEFINITION. The calibration table and its use (R42–R53), the linear ranges (R24, R466), autoranging (R32–R36), and the
table operations. -/

namespace Sys2Proof.Machine

open Sys2Proof

/-- Base of the active calibration table (R13). -/
abbrev calActive : Nat := 0x300000
/-- Base of the shadow calibration table (R13). -/
abbrev calShadow : Nat := 0x310000

/-- R42: offset of the entry of channel n, quantity q, range r, band b. -/
def calOffset (n q r b : Nat) : Nat := n * 0x200 + q * 0x100 + r * 0x40 + b * 8

/-- One entry (R43): GAIN, OFFSET, VALID. -/
structure CalEntry where
  gain : Int
  offset : Int
  valid : Bool
  src : Nat
  deriving DecidableEq, Repr

/-- R43: the entry at an address. -/
def State.calEntryAt (s : State) (a : Nat) : CalEntry :=
  let g := s.memWord a
  let o := s.memWord (a + 4)
  { gain := g.toInt, offset := signedOf 24 (bitsOf o 0 24), valid := o.getLsbD 24, src := bitsOf o 25 2 }

/-- R43: the two words of an entry. -/
def CalEntry.words (e : CalEntry) : Word × Word :=
  (wordOf e.gain, BitVec.ofNat 32 (codeOf 24 e.offset + (if e.valid then 2 ^ 24 else 0) + e.src % 4 * 2 ^ 25))

/-- Store an entry. -/
def State.putEntry (s : State) (a : Nat) (e : CalEntry) : State :=
  (s.putMemWord a e.words.1).putMemWord (a + 4) e.words.2

/-- R49: bands by distance from b, the lower first. -/
def bandOrder (b : Nat) : List Nat :=
  (List.range 8).flatMap fun d =>
    if d = 0 then [b] else (if d ≤ b then [b - d] else []) ++ (if b + d ≤ 7 then [b + d] else [])

/-- R49: the valid entry of the nearest band of a table row at `a` (the address of band 0). -/
def State.calNearest (s : State) (a b : Nat) : Option CalEntry :=
  (bandOrder b).findSome? fun k =>
    let e := s.calEntryAt (a + k * 8)
    if e.valid then some e else none

/-- What is applied to a sample (R44, R48): 1 + G = (10^10·den + gain)/(10^10·den), OFFSET = offset/den, and whether no band
is valid (R49). -/
structure CalUse where
  gain : Int
  offset : Int
  den : Nat
  uncal : Bool
  deriving DecidableEq, Repr

/-- R48, R49: gain and offset of channel n, quantity q, range r, blended by the channel's band weights. -/
def State.calUse (s : State) (n : Fin 128) (q r : Nat) : CalUse :=
  let c := s.lane1 n
  let a := calActive + calOffset n.val q r 0
  let es := (List.range 8).map fun b => s.calNearest a b
  if es.all Option.isNone then { gain := 0, offset := 0, den := 1, uncal := true }
  else
    let sum (f : CalEntry → Int) : Int :=
      (List.zipWith (fun (w : Nat) (e : Option CalEntry) => match e with
        | some x => (w : Int) * f x
        | none => 0) c.m.wts es).foldl (· + ·) 0
    { gain := sum CalEntry.gain, offset := sum CalEntry.offset, den := c.m.wDen, uncal := false }

/-- R24, R466: the linear range of the voltage modulator, nV. -/
def clampV (v : Int) : Int := clampI v (-200000000) 6500000000

/-- R24, R466: ±105 % of the range, in full scale × 2^-30. -/
def clampIraw (i : Int) : Int := clampI i (-1127428915) 1127428915

/-- The voltage detector fires (R466). -/
def overV (v : Int) : Bool := decide (v < -200000000 ∨ 6500000000 < v)

/-- The current detector fires (R466). -/
def overI (i : Int) : Bool := decide (i < -1127428915 ∨ 1127428915 < i)

/-- R44: a voltage in nV to µV, `unit` of them to the result's unit (1000: µV; 10: 10 nV). -/
def calVolt (u : CalUse) (x : Int) (unit : Nat) : Int :=
  rdiv 44 ((x * u.den - u.offset) * ((10 ^ 10 : Int) * u.den + u.gain)) (u.den * u.den * 10 ^ 10 * unit)

/-- R44, R192: a calibrated shunt voltage, input-referred, in 2^-40 of the range's full scale. -/
def calShunt (u : CalUse) (x : Int) : Int :=
  rdiv 46 ((x * u.den - u.offset) * ((10 ^ 10 : Int) * u.den + u.gain) * 1024) (u.den * u.den * 10 ^ 10)

/-- R44: a shunt voltage in full scale × 2^-30 of range r to µA over RSHUNT in nΩ. -/
def calCurr (u : CalUse) (x : Int) (r rshunt : Nat) : Int :=
  rdiv 45 ((x * u.den - u.offset) * ((10 ^ 10 : Int) * u.den + u.gain) * 10 ^ 14)
    (u.den * u.den * 10 ^ 10 * 8 ^ r * 2 ^ 30 * rshunt)

/-- R32: full scale of range r over RSHUNT, µA × RSHUNT: 10^14 / 8^r. -/
def rangeTop (r : Nat) : Nat := 10 ^ 14 / 8 ^ r

/-- R33: |i| above `pct` % of the range's full scale. -/
def overPct (i : Int) (r rshunt pct : Nat) : Bool := decide (rangeTop r * pct < i.natAbs * rshunt * 100)

/-- R33: |i| below `pct` % of the range's full scale. -/
def underPct (i : Int) (r rshunt pct : Nat) : Bool := decide (i.natAbs * rshunt * 100 < rangeTop r * pct)

/-- The µV and µA of a raw input pair on the channel's own chain, with the UNCAL mark (R44, R49). -/
def State.calPair (s : State) (n : Fin 128) (x : ChanIn) : Int × Int × Bool :=
  let r := s.fget (F.CH_MSTAT_IRANGE n)
  let uv := s.calUse n 0 0
  let ui := s.calUse n 1 r
  (calVolt uv (clampV x.v) 1000, calCurr ui (clampIraw x.i) r (s.lane1 n).m.rshunt, uv.uncal || ui.uncal)

/-- R185: a lane voltage in nV, scaled from REFIN; a return whose positions read alike keeps the last scale. -/
def State.laneVolt (s : State) (raw : Int) : Int :=
  ndiv ((raw - s.lane.vz) * s.lane.refv * 1000) (s.lane.vr - s.lane.vz).natAbs

/-- R185: a lane shunt voltage in 2^-40 of the range's full scale. -/
def State.laneShunt (s : State) (raw : Int) : Int :=
  ndiv ((raw - s.lane.iz) * 879609302221) (s.lane.ir - s.lane.iz).natAbs

/-- R197: the channel is adopted and its adoption is in force. -/
def State.adopted (s : State) (n : Fin 128) : Bool :=
  s.flag F.LN_ADOPT_ACT && decide (s.fget F.LN_ADOPT_CH = n.val)

/-- R197: K0 of the entry in force, or of the nearest band of the range, the lower first. -/
def State.adoptK0 (s : State) (n : Fin 128) (r : Nat) : Option (Int × Int) :=
  (bandOrder (s.fget (F.CH_MSTAT_BAND n))).findSome? fun b =>
    (s.lane.k0.find? fun h => h.1 = calOffset n.val 1 r b).map Prod.snd

/-- R197: the adopted channel's voltage (nV) and current (µA) from the lane's inputs in a range, and whether no K0 was found. -/
def State.lanePair (s : State) (n : Fin 128) (r : Nat) (x : ChanIn) : Int × Int × Bool :=
  let k := s.adoptK0 n r
  let (p, q) := k.getD (1, 1)
  let sh := s.laneShunt (clampIraw x.i)
  let i := if 0 < q then rdiv 197 (sh * p * 10 ^ 14) (q.natAbs * 8 ^ r * 2 ^ 40 * (s.lane1 n).m.rshunt)
    else rdiv 197 (-(sh * p) * 10 ^ 14) (q.natAbs * 8 ^ r * 2 ^ 40 * (s.lane1 n).m.rshunt)
  (s.laneVolt (clampV x.v), i, k.isNone)

/-- R34: the range a PULSE or EIS step freezes: the most sensitive whose 90 % point covers `peak` µA. -/
def freezeRange (lo hi peak rshunt : Nat) : Nat :=
  (List.range 4).foldl (fun best r => if lo ≤ r ∧ r ≤ hi ∧ ¬ overPct peak r rshunt 90 then r else best) lo

/-- R33: the range the rules ask for after a control sample, and the count of samples below 10 %. -/
def rangeWant (r lo hi down rshunt : Nat) (i : Int) (ovr : Bool) : Nat × Nat :=
  let up := overPct i r rshunt 90
  let down := if ovr ∨ up then 0 else if underPct i r rshunt 10 then down + 1 else 0
  let want := if ovr then lo else if up then r - 1 else if 100 ≤ down then r + 1 else r
  (if want < lo then lo else if hi < want then hi else want, down)

/-- R33–R35: the range decision after a control sample, for the next boundary. -/
def State.rangeDecide (s : State) (n : Fin 128) (i : Int) (ovr : Bool) : State :=
  let m := (s.lane1 n).m
  let r := s.fget (F.CH_MSTAT_IRANGE n)
  let pend (w : Nat) : Option Nat := if w ≠ r then some w else none
  match m.frozen with
  | some f => if ovr then s.modM n fun m => { m with rangePend := pend f } else s
  | none =>
    if s.effFlag (F.CH_MEAS_AUTO n) then
      let (w, d) := rangeWant r (s.eff (F.CH_MEAS_RLO n)) (s.eff (F.CH_MEAS_RHI n)) m.downN m.rshunt i ovr
      s.modM n fun m => { m with downN := d, rangePend := pend w }
    else s.modM n fun m => { m with rangePend := pend (s.eff (F.CH_MEAS_RANGE n)) }

/-- R35: a pending range change takes effect at this boundary. -/
def State.rangeApply (s : State) (n : Fin 128) : State :=
  match (s.lane1 n).m.rangePend with
  | none => s
  | some r =>
    let s1 := s.modM n fun m =>
      { m with rangePend := none, downN := 0, rsLeft := 2,
               rangeLog := (s.ctr, s.fget (F.CH_MSTAT_IRANGE n)) :: m.rangeLog.filter fun p => s.ctr < p.1 + ms }
    ((s1.fset (F.CH_MSTAT_IRANGE n) r).incWrap (F.CH_MSTAT_RCHG n)).setFlag (F.CH_MSTAT_RSETTLE n) true

/-- R466: what a firing detector sets. -/
def State.overload (s : State) (n : Fin 128) (volt cur : Bool) : State :=
  let s1 := if volt then (s.setFlag (F.CH_MSTAT_VOVR n) true).modM n fun m => { m with vovrAt := some s.ctr } else s
  if cur then (s1.setFlag (F.CH_MSTAT_IOVR n) true).modM n fun m => { m with iovrAt := some s.ctr } else s1

/-- R33, R34: with autoranging, a current overload takes the range to RLO at the next boundary. -/
def State.overloadRange (s : State) (n : Fin 128) : State :=
  let r := s.fget (F.CH_MSTAT_IRANGE n)
  let goTo (lo : Nat) : State := s.modM n fun m => { m with downN := 0, rangePend := if lo ≠ r then some lo else none }
  match (s.lane1 n).m.frozen with
  | some f => goTo f
  | none => if s.effFlag (F.CH_MEAS_AUTO n) then goTo (s.eff (F.CH_MEAS_RLO n)) else s

/-- R466, R33, R34: the named detectors of a channel fire. -/
def State.chanOverload (s : State) (n : Fin 128) (volt cur : Bool) : State :=
  let s1 := s.overload n volt cur
  if cur then s1.overloadRange n else s1

/-- R466: the lane's own detectors fire: the instant, for the windows they touch. -/
def State.laneOverload (s : State) (volt cur : Bool) : State :=
  { s with lane := { s.lane with vovrAt := if volt then some s.ctr else s.lane.vovrAt,
                                 iovrAt := if cur then some s.ctr else s.lane.iovrAt } }

/-- MODULATOR_OVERLOAD (R466, R33, R34, R197): the named detectors fire, of a channel or, where none is named, of the lantern lane:
those are the detectors of an adopted channel as well. -/
def execModulatorOverload (n : Option (Fin 128)) (volt cur : Bool) (s : State) : Host.Outcome State Fault Refusal :=
  match n with
  | some n => .next (s.chanOverload n volt cur)
  | none =>
    let s1 := s.laneOverload volt cur
    .next (if s.flag F.LN_ADOPT_ACT then s1.chanOverload (Fin.ofNat 128 (s.fget F.LN_ADOPT_CH)) volt cur else s1)

/-- R26: the metrology path's latency. -/
abbrev metDelay : Nat := 400000

/-- R27: a time falls in the 800 µs window of an instant. -/
def inMetWin (m t : Nat) : Bool := decide (m < t + metDelay ∧ t ≤ m + metDelay)

/-- R27, R466: a detector that last fired at a time touched the window of an instant. -/
def touched (m : Nat) (o : Option Nat) : Bool := o.any fun t => inMetWin m t

/-- The cells of a window [a, a + n) moved to base b. -/
def memMove (l : List Host.Cell) (a n b : Nat) : List Host.Cell :=
  (l.filter fun p => decide (a ≤ p.1 ∧ p.1 < a + n)).map fun p => (p.1 - a + b, p.2)

/-- Memory with the window [b, b + n) replaced by the given cells. -/
def memReplace (l : List Host.Cell) (b n : Nat) (cells : List Host.Cell) : List Host.Cell :=
  (l.filter fun p => decide (p.1 < b)) ++ cells ++ l.filter fun p => decide (b + n ≤ p.1)

/-- R50: the shadow becomes the active table. -/
def State.calActivate (s : State) : State :=
  { s with mem := memReplace s.mem calActive 0x10000 (memMove s.mem calShadow 0x10000 calActive) }

/-- R50: the shadow takes the active table's contents, and the dirty map is clear. -/
def State.calMirror (s : State) : State :=
  { s with mem := memReplace s.mem calShadow 0x10000 (memMove s.mem calActive 0x10000 calShadow),
           lane := { s.lane with dirty := [] } }

/-- R50: a host's table operation is refused while a copy runs or a SWAP is pending. -/
def State.calBusy (s : State) : Bool := s.flag F.LN_CALSTAT_BUSY || s.flag F.LN_CALSTAT_SWPEND

/-- R50, COPY: BUSY rises at the write. -/
def State.calCopy (s : State) : State :=
  if s.calBusy then s.answer stBusy
  else ({ s with lane := { s.lane with copyAt := s.ctr + 1 } }.setFlag F.LN_CALSTAT_BUSY true).answer stOk

/-- R50, SWAP: pending until the next boundary. -/
def State.calSwap (s : State) : State :=
  if s.calBusy then s.answer stBusy else (s.setFlag F.LN_CALSTAT_SWPEND true).answer stOk

/-- CAL_COPY (R50). -/
def execCalCopy (s : State) : Host.Outcome State Fault Refusal := .next s.calCopy

/-- CAL_SWAP (R50). -/
def execCalSwap (s : State) : Host.Outcome State Fault Refusal := .next s.calSwap

/-- CAL_COPY_DONE (R50): a copy that has begun ends; the shadow equals the active table as it stands now. A COPY begins at
the first boundary after its write, a SWAP's copy at its own. -/
def execCalCopyDone (s : State) : Host.Outcome State Fault Refusal :=
  if s.flag F.LN_CALSTAT_BUSY ∧ s.lane.copyAt ≤ s.ctr then .next (s.calMirror.setFlag F.LN_CALSTAT_BUSY false) else .next s

/-- Did a SWAP change the entry at an offset (R191, R192)? -/
def State.calMoved (s t : State) (off : Nat) : Bool :=
  decide (s.calEntryAt (calActive + off) ≠ t.calEntryAt (calActive + off))

/-- R50, R52, R179: what a boundary does with a pending SWAP; the lane forgets what it kept for the entries that changed. -/
def State.calBoundary (s : State) : State :=
  if s.flag F.LN_CALSTAT_SWPEND then
    let s1 := ((s.calActivate.setFlag F.LN_CALSTAT_SWPEND false).setFlag F.LN_CALSTAT_BUSY true).incWrap F.LN_CALSEQ_SWAPS
    let s2 := { s1 with
      lane := { s1.lane with
        copyAt := s.ctr, swapAt := some s.ctr, hist := s1.lane.hist.filter (fun h => !s.calMoved s1 h.1),
        k0 := s1.lane.k0.filter (fun h => !s.calMoved s1 h.1) },
      nv := { s1.nv with calDue := some s.ctr } }
    s2.each chans fun n t =>
      let t1 := (t.setFlag (F.CH_MSTAT_CALSW n) true).modM n fun m => { m with calsw := true }
      if t.flag (F.CH_OCVCTL_ACTIVE n) then t1.setFlag (F.CH_OCVST_CAL n) true else t1
  else s

/-- R42, R43, R6: what a write leaves in the word at an offset of the table, and its status: reserved bits read 0, the reserved SRC
keeps the field, and the entries of voltage range 3 keep VALID = 0 (notes/assumptions/158.md). -/
def shadowWord (off : Nat) (old val : Word) : Word × Nat :=
  if off % 8 = 0 then (val, stOk)
  else
    let src := bitsOf val 25 2
    let unused := decide (off / 0x100 % 2 = 0 ∧ off / 0x40 % 4 = 3)
    let w := putBits (val &&& maskOf 0 25) 25 2 (if src = 3 then bitsOf old 25 2 else src)
    (if unused then putBits w 24 1 0 else w, if src = 3 ∨ (unused ∧ bitsOf val 24 1 = 1) then stReserved else stOk)

/-- R51: a host write of one word of the shadow table. -/
def State.shadowWrite (s : State) (addr : Nat) (val : Word) : State :=
  if s.flag F.LN_CALSTAT_BUSY then s.answer stBusy
  else
    let (w, st) := shadowWord (addr - calShadow) (s.memWord addr) val
    let s1 := s.putMemWord addr w
    let s2 := { s1 with lane := { s1.lane with dirty := putRising s1.lane.dirty ((addr - calShadow) / 8) } }
    s2.answer st

/-- SHADOW_TABLE_WRITE (R51, R4): an address that is no aligned word of the shadow table answers ADDRESS. -/
def execShadowTableWrite (addr : Nat) (val : Word) (s : State) : Host.Outcome State Fault Refusal :=
  if addr % 4 = 0 ∧ calShadow ≤ addr ∧ addr < calShadow + 0x10000 then .next (s.shadowWrite addr val)
  else .next (s.answer stAddress)

/-- CAL_TABLE_SAVE (R53): the active table is written to MRAM after a SWAP, and at most every 10 minutes while lantern
commits have occurred. `calDue` holds since when a save is owed: for a commit, not before 10 minutes after the last save. -/
def execCalTableSave (s : State) : Host.Outcome State Fault Refusal :=
  match s.nv.calDue with
  | some t =>
    if t ≤ s.ctr then
      .next { s with nv := { s.nv with calSaved := memMove s.mem calActive 0x10000 0, calDue := none, calLast := s.ctr } }
    else .next s
  | none => .next s

end Sys2Proof.Machine
end

