-- ==== Sys2Proof/Machine/Channel.lean ====
section
/-! DEFINITION. What every channel family shares: gangs, the close of a step and its record (R121–R128), parking (R16, R18,
R92, R467), fault latching (R112), the STOP state, and the output switch (R88). -/

namespace Sys2Proof.Machine

open Sys2Proof

/-- R90: how many channels the gang a leader heads has; 1 without a gang. -/
def State.gangSize (s : State) (n : Fin 128) : Nat := 2 ^ s.fget (F.CH_GANG_SIZE n)

/-- R90: the channels of the gang headed by n, n first. -/
def State.gang (s : State) (n : Fin 128) : List (Fin 128) :=
  (List.range (s.gangSize n)).map fun j => Fin.ofNat 128 (n.val + j)

/-- R90: the leader of a channel; the channel itself when it is no member. -/
def State.leader (s : State) (n : Fin 128) : Fin 128 :=
  if s.flag (F.CH_GANG_MEMBER n) then Fin.ofNat 128 (s.fget (F.CH_GANG_LEAD n)) else n

/-- R29: the control-path current of a channel, µA: the gang sum for a leader. -/
def State.curr (s : State) (n : Fin 128) : Int := ((s.gang n).map fun j => (s.lane1 j).m.cs.i).foldl (· + ·) 0

/-- R29: the latest metrology current, the gang sum for a leader. -/
def State.currMet (s : State) (n : Fin 128) : Int := ((s.gang n).map fun j => (s.lane1 j).m.ms.i).foldl (· + ·) 0

/-- The channel's control-path voltage, µV. -/
def State.volt (s : State) (n : Fin 128) : Int := (s.lane1 n).m.cs.v

/-- µAh of µA·ns, toward zero (R169). -/
def microAh (q : Int) : Int := tdiv q 3600000000000

/-- µWh of µV·µA·ns, toward zero (R169). -/
def microWh (e : Int) : Int := tdiv e 3600000000000000000

/-- Milliseconds from a start time, 0xFFFF_FFFF where there is none. -/
def State.msSince (s : State) (t : Option Nat) : Nat := match t with
  | some x => (s.ctr - x) / ms
  | none => 0xFFFFFFFF

/-- R81: how long the injection's amplitude ramps: one cycle or 1 s, whichever is shorter. -/
def eisRamp (mHz : Nat) : Nat := if mHz = 0 then sec else min sec (10 ^ 12 / mHz)

/-- R81: the amplitude in force, a time after t_s. -/
def eisAmp (a : Int) (mHz t : Nat) : Int := if eisRamp mHz ≤ t then a else rdiv 81 (a * t) (eisRamp mHz)

/-- R127: bytes 0x00–0x3B of a termination record. -/
def State.termBody (s : State) (n : Fin 128) (st : OpenStep) (mode term src sat : Nat) (t : Bool) (close mean : Nat) : List Byte :=
  let start := min (st.start.getD close) close
  let cv := match st.cvAt with
    | some x => x
    | none => 0xFFFFFFFF
  le16 (n.val + mode * 2 ^ 8 + s.fget (F.CH_PSTAT_CLASS n) * 2 ^ 12 + s.fget (F.CH_GANG_SIZE n) * 2 ^ 14)
  ++ le16 (term + t.toNat * 2 ^ 4 + st.gap.toNat * 2 ^ 5 + s.fget (F.CH_MODE_CVPH n) * 2 ^ 6 + sat * 2 ^ 8)
  ++ le32 (s.lane1 n).x.seqNext ++ le64 (stampCode start) ++ le64 (stampCode close)
  ++ le32 (st.word + st.bank * 2 ^ 16 + src * 2 ^ 24 + 2 ^ 28)
  ++ le32 (codeOf 32 (microAh st.q)) ++ le32 (codeOf 32 (microWh st.e))
  ++ le32 (s.word (.CH_V n)).toNat ++ le32 (codeOf 32 (s.currMet n)) ++ le32 cv ++ le32 (codeOf 32 st.tMax)
  ++ le16 mean ++ le16 (s.fget (F.CH_FUSEST_BKCNT n)) ++ le32 ((s.lane1 n).x.u[0]).toNat

/-- R128: an item enters a channel's queue of 16; the oldest goes on overflow. -/
def State.queueItem (s : State) (n : Fin 128) (it : RecItem) : State :=
  let q := (s.lane1 n).x.recQ
  let s0 := { s with link := { s.link with recFrom := some (s.link.recFrom.getD s.time) } }
  if q.length < 16 then s0.modX n fun x => { x with recQ := q ++ [it] }
  else (s0.modX n fun x => { x with recQ := q.drop 1 ++ [it] }).incSat (F.CH_PCNT_TDROP n)

/-- R128, R181, R222: an item of the shelf's own enters its queue of 16; the oldest goes on overflow. -/
def State.shelfItem (s : State) (it : RecItem) : State :=
  let q := s.sh.recQ
  { s with sh := { s.sh with recQ := (if q.length < 16 then q else q.drop 1) ++ [it] },
           link := { s.link with recFrom := some (s.link.recFrom.getD s.time) } }

/-- R181: a metric entry of a kind enters the channel's record queue. -/
def State.metricEntry (s : State) (n : Fin 128) (kind seq stamp : Nat) (a b c d e : Word) : State :=
  let bs := le16 (n.val + kind * 2 ^ 12) ++ le16 1 ++ le32 seq ++ le64 (stampCode stamp)
    ++ bytesOf a ++ bytesOf b ++ bytesOf c ++ bytesOf d ++ bytesOf e
  s.queueItem n { kind := 3, bytes := bs ++ le32 (crc32c bs) }

/-- R178, R181: the posting of a regression; the sequence number of its step's record. -/
def State.ocvPost (s : State) (n : Fin 128) : State :=
  let o := (s.lane1 n).k.ocv
  let seq := if o.postDue then o.seq else (s.lane1 n).x.seqNext
  let s1 := s.modK n fun k => { k with ocv := { o with lastPost := s.ctr, postDue := false } }
  s1.metricEntry n 3 seq o.tLast (s.word (.CH_OCVSLOPE n)) (s.word (.CH_OCVSE n)) (s.word (.CH_OCVV0 n))
    (s.word (.CH_OCVST n)) (s.word (.CH_OCVN n))

/-- R128: the sixteen words of CH_TREC. -/
def State.setTrec (s : State) (n : Fin 128) (bs : List Byte) : State :=
  s.each (List.finRange 16) fun i t => t.setWord (.CH_TREC n i) ((wordsOf bs).getD i.val 0)

/-- R127, R128: a record to its destinations: CH_TREC, the stream, and the Vault for TERM 9 and 10. -/
def State.putRecord (s : State) (n : Fin 128) (body : List Byte) (term close : Nat) : State :=
  let bs := body ++ le32 (crc32c body)
  let seq := (s.lane1 n).x.seqNext
  let s1 := ((s.setTrec n bs).fset (F.CH_PSEQ_SEQ n) seq).modX n fun x => { x with seqNext := (seq + 1) % 2 ^ 32 }
  let s2 := s1.queueItem n { kind := 1, bytes := bs }
  if term = 9 then s2.record 2 (2 * n.val + 1) 0 close (body.take 28)
  else if term = 10 then s2.record 2 (2 * n.val + 1) 2 close (body.take 28)
  else s2

/-- Mean ledger scale of a step, 1/65,536 (R127); a step with no period has none, and the value is free
(notes/assumptions/5.md). -/
def State.meanScale (s : State) (st : OpenStep) : Nat :=
  if st.scaleN = 0 then bitsOf s.freeWord 0 16 else min 65535 (st.scaleSum / st.scaleN)

/-- R174: frequencies below 50 Hz use the metrology path. -/
def EisRun.met (e : EisRun) : Bool := decide (e.freq < 50000)

/-- R175: the quality word of a run. -/
def EisRun.quality (e : EisRun) (snrv snri : Nat) (low ok : Bool) : Nat :=
  snrv + snri * 2 ^ 8 + e.clamp.toNat * 2 ^ 16 + e.ovr.toNat * 2 ^ 17 + (decide (e.seen < 10 * e.omitted)).toNat * 2 ^ 18
    + low.toNat * 2 ^ 19 + (decide (2000000 < e.freq)).toNat * 2 ^ 20 + e.met.toNat * 2 ^ 21 + e.calsw.toNat * 2 ^ 22
    + ok.toNat * 2 ^ 23

/-- R157, R175: an impedance run whose step closes: the two registers take the invalid marker and the context resumes; the
result registers show an invalid result: what only a fit gives (SNRV, SNRI, LOWAMP, the amplitude) is free
(notes/assumptions/5.md). -/
def State.eisAbandon (s : State) (n : Fin 128) : State :=
  match (s.lane1 n).k.eis with
  | none => s
  | some e =>
    let bad : Word := 0x80000000#32
    let w := s.freeWord
    let q := e.quality (bitsOf w 0 8) (bitsOf w 8 8) (w.getLsbD 16) false
    let s1 := (s.freshN 2).modX n fun x => { x with g := (x.g.set e.ra bad).set e.rb bad }
    let s2 := s1.modK n fun k => { k with eis := none }
    let s3 := ((s2.setWord (.CH_EIS_F n) (BitVec.ofNat 32 e.freq)).setWord (.CH_EIS_RE n) bad).setWord (.CH_EIS_IM n) bad
    (s3.setWord (.CH_EIS_IA n) (Config.freeWord (s.free + 1))).setWord (.CH_EIS_Q n) (BitVec.ofNat 32 q)

/-- R119, R157: a close releases a WAIT for it and an EISRUN. -/
def Susp.afterClose : Susp → Susp
  | .close => .none
  | .eisrun => .none
  | y => y

/-- R121, R122: close the open step of a channel: its record, the arm set, what the next instruction sees. Without an open
step nothing is written. `tm` is the time arm's flag T. -/
def State.closeStep (s : State) (n : Fin 128) (term src sat : Nat) (tm : Bool) (close : Nat) : State :=
  match (s.lane1 n).x.step with
  | none => s
  | some st =>
    let now := max close s.ctr
    let s0 := if st.scaleN = 0 then s.fresh else s
    let s1 := s0.putRecord n (s.termBody n st st.mode term src sat tm close (s.meanScale st)) term close
    let s2 := s1.modX n fun x =>
      { x with step := none, lastMode := st.mode, lastTerm := term, lastT := tm, lastSrc := src, gapN := 0, gapHold := false,
               gapLong := false, lastQ := st.q, lastE := st.e, pre := none, susp := x.susp.afterClose,
               arms := if 1 ≤ term then {} else x.arms, dvNew := false, tNew := false }
    let s3 := (s2.eisAbandon n).each (s2.gang n) fun j t =>
      (t.modM j fun m => { m with frozen := none }).modL j fun l => { l with nph := none }
    let s4 := s3.modK n fun k =>
      { k with caps := k.caps.map (fun c => { c with closedAt := some (c.closedAt.getD now) }),
               ocv := if st.mode = 8 then { k.ocv with postDue := true, closeAt := close, seq := (s.lane1 n).x.seqNext } else k.ocv }
    let s5 := if st.mode = 7 ∧ st.start.isSome then s4.modL n fun l =>
        { l with iref := st.x, tailNow := 0,
                 tail := some (eisAmp st.y st.freq (now - st.start.getD now), st.freq, st.start.getD now, now) } else s4
    let s6 := if st.mode = 8 then s5.setFlag (F.CH_OCVCTL_ACTIVE n) false else s5
    let s7 := (s6.setFlag (F.CH_MODE_CVPH n) false).fset (F.CH_PSTAT_FLAGS n) (s6.fget (F.CH_PSTAT_FLAGS n) / 2 * 2 + tm.toNat)
    (s7.setFlag (F.CH_PSTAT_STEP n) false).setFlag (F.CH_PSTAT_WAITING n)
      (s.flag (F.CH_PSTAT_WAITING n) && decide ((s.lane1 n).x.susp ≠ .close))

/-- R467: bytes 0x00–0x07 of every event 2n: CH_FAULT and CH_STATE, then the raising rule's own bytes. -/
def State.faultPayload (s : State) (n : Fin 128) (rest : List Byte := []) : List Byte :=
  le32 (s.word (.CH_FAULT n)).toNat ++ le32 (s.word (.CH_STATE n)).toNat ++ rest

/-- R112: a bit of CH_FAULT is latched beside the cause of the parking: FIRST takes it only if it is 0. -/
def State.latchBeside (s : State) (n : Fin 128) (bit : Nat) : State :=
  let s1 := s.setWord (.CH_FAULT n) (s.word (.CH_FAULT n) ||| BitVec.ofNat 32 (2 ^ bit))
  if s.fget (F.CH_FAULT_FIRST n) = 0 then s1.fset (F.CH_FAULT_FIRST n) (bit + 1) else s1

/-- R112: FIRST after a cause, code bit + 1, that qualified at an elapsed time, and the time it stands for: the earlier cause, or within
25 ns the lower bit. -/
def firstCause (first firstAt code at_ : Nat) : Nat × Nat :=
  if first = 0 ∨ at_ + 25 < firstAt then (code, at_)
  else if at_ ≤ firstAt + 25 then (min first code, min firstAt at_)
  else (first, firstAt)

/-- R112: a cause that qualified so many ns after the last boundary latches its bit of CH_FAULT. -/
def State.latch (s : State) (n : Fin 128) (bit : Nat) (t : Nat := 0) : State :=
  let (first, at_) := firstCause (s.fget (F.CH_FAULT_FIRST n)) (s.lane1 n).p.firstAt (bit + 1) (s.time + t)
  ((s.latchBeside n bit).fset (F.CH_FAULT_FIRST n) first).modP n fun p => { p with firstAt := at_ }

/-- R113: every W1C bit of CH_FAULT, as a mask: bits 0–12 and 14. -/
abbrev faultMask : Word := 0x5FFF#32

/-- R112: a latched fault. -/
def State.faulted (s : State) (n : Fin 128) : Bool := decide (s.word (.CH_FAULT n) &&& faultMask ≠ 0)

/-- R113: MEMB clears by itself once no member has a latched fault. -/
def State.settleMemb (s : State) (l : Fin 128) : State :=
  if ((s.gang l).drop 1).all fun j => !s.faulted j then s.setFlag (F.CH_FAULT_MEMB l) false else s

/-- R60, R62: both phases at mid: none skips cycles. -/
def ChLoop.mid (l : ChLoop) : ChLoop :=
  { l with phA := .mid, phB := .mid, skipping := Vector.replicate 2 false, skipAcc := Vector.replicate 2 0 }

/-- R16: the outputs and loops of a channel entering PARKED (or ABSENT): phases at mid, loops frozen, the switch's opening
due within 500 µs. -/
def State.quiet (s : State) (n : Fin 128) : State :=
  let s1 := s.modL n fun l =>
    { l.mid with shedN := 0, shedReq := false, restoreReq := false, nph := none, tailNow := 0,
                 openBy := if s.flag (F.CH_STATE_OSWC n) then some (s.time + 500 * us) else l.openBy }
  let s2 := s1.modX n fun x => { x with susp := .none, startPend := false, stopPend := none, gapHold := false, ldi := none }
  let s3 := (s2.modC n fun c => { c with ph := .none }).modM n fun m => { m with frozen := none }
  let s4 := ((s3.setFlag (F.CH_STATE_NPH n) false).setFlag (F.CH_STATE_SS n) false).setWord (.CH_MODE n) 0
  ((s4.setFlag (F.CH_PSTAT_WAITING n) false).setFlag (F.CH_PSTAT_BARW n) false).setFlag (F.CH_PSTAT_GAP n) false

/-- R123: the counts of a step against the charge and energy arms. -/
def OpenStep.counted (st : OpenStep) (r : Arms) : Bool × Bool :=
  (r.charge.any fun l => decide (l * 3600000000000 ≤ st.q.natAbs), r.energy.any fun l => decide (l * 3600000000000000000 ≤ st.e.natAbs))

/-- R123: the time arm of a step, its time running from its start; before that it is 0. -/
def OpenStep.timeUp (st : OpenStep) (r : Arms) (now : Nat) : Bool :=
  r.time.any fun l => decide (l * ms ≤ now - st.start.getD now)

/-- R127: SAT and T of a close between two evaluations: the time arm, the counts, and the runs of samples as they stand. -/
def State.satNow (s : State) (n : Fin 128) (close : Nat) : Nat × Bool :=
  let r := (s.lane1 n).x.arms
  match (s.lane1 n).x.step with
  | none => (0, false)
  | some st =>
    let tm := st.timeUp r close
    let (q, e) := st.counted r
    (tm.toNat + (r.volt.isSome && decide (4 ≤ r.voltN)).toNat * 2 + (r.curr.isSome && decide (4 ≤ r.currN)).toNat * 4 + q.toNat * 16
      + e.toNat * 32, tm)

/-- R122, R124, R127: the open step closes for a reason other than an arm or a stop. -/
def State.closeNow (s : State) (n : Fin 128) (term src close : Nat) : State :=
  let (sat, tm) := s.satNow n close
  s.closeStep n term src sat tm close

/-- R16, R122: a channel enters PARKED; an open step closes with TERM 10 and the given source at the given boundary. -/
def State.park (s : State) (n : Fin 128) (src close : Nat) : State :=
  ((s.closeNow n 10 src close).quiet n).fset (F.CH_STATE_STATE n) stPARKED

/-- R18: a member follows its leader into PARKED. -/
def State.parkMember (s : State) (n : Fin 128) : State :=
  if s.chState n = stFOLLOW ∨ s.chState n = stCHECK then (s.quiet n).fset (F.CH_STATE_STATE n) stPARKED else s

/-- R18, R92: a channel and the gang it heads enter PARKED. -/
def State.parkGang (s : State) (n : Fin 128) (src close : Nat) : State :=
  let ms := (s.gang n).drop 1
  (s.park n src close).each ms fun j t => t.parkMember j

/-- The first boundary after the present instant (R127, R316, R317). -/
def State.nextBoundary (s : State) : Nat := (s.ctr / tCtl + 1) * tCtl

/-- R69, R73: the pre-start check runs on a lane: of a start, or of an exit from REST. -/
def State.checking (s : State) (n : Fin 128) : Bool := decide ((s.lane1 n).c.ph ≠ .none ∧ (s.lane1 n).c.ph ≠ .quiet)

/-- R73, R95, R112: the bits of a trip are latched, the first as its cause; during the check the bit CHK and code 7 as well. -/
def State.latchTrip (s : State) (n : Fin 128) (bits : List Nat) (chk : Bool) (t : Nat := 0) : State :=
  let s1 := s.each (bits.take 1) fun b u => u.latch n b t
  let s2 := s1.each (bits.drop 1) fun b u => u.latchBeside n b
  if chk then (s2.latchBeside n 10).fset (F.CH_STATE_CHK n) 7 else s2

/-- R18, R92: a tripped channel parks, and with it the gang it belongs to; a member's leader shows MEMB. -/
def State.parkTripped (s : State) (n : Fin 128) : State :=
  if s.flag (F.CH_GANG_MEMBER n) ∧ s.chState n ≠ stPARKED ∧ s.chState n ≠ stABSENT then
    let l := s.leader n
    (s.parkGang l 8 s.nextBoundary).setFlag (F.CH_FAULT_MEMB l) true
  else if s.chState n = stPARKED ∨ s.chState n = stABSENT then s
  else s.parkGang n 5 s.nextBoundary

/-- R95, R16, R92, R112, R467: a protection trip. Its event 2n carries a required record, at the given severity. -/
def State.trip (s : State) (n : Fin 128) (bits : List Nat) (t : Nat) (rest : List Byte := []) (sev : Nat := 2) : State :=
  let s1 := (s.latchTrip n bits (s.checking n) t).parkTripped n
  s1.raiseOcc { num := 2 * n.val, sev := sev, stamp := s.ctr + t, payload := s1.faultPayload n rest, required := true }

/-- R95: the trips that take the phases to mid at the next period boundary (UV, FUSE, SS). -/
def State.tripSoft (s : State) (n : Fin 128) (bits : List Nat) : State :=
  (s.trip n bits 0).each (s.gang (s.leader n)) fun j t =>
    let l0 := (s.lane1 j).l
    t.modL j fun l => { l with phA := l0.phA, phB := l0.phB, midDue := true }

/-- A trip whose event is issued later (R110): latched and parked now. -/
def State.tripSilent (s : State) (n : Fin 128) (bits : List Nat) (t : Nat := 0) : State :=
  (s.latchTrip n bits (s.checking n) t).parkTripped n

/-- R73: a check failure with its code: CHK latched, the channel and its gang parked, event 2n. -/
def State.checkFail (s : State) (n : Fin 128) (code : Nat) : State :=
  let s1 := (s.latch n 10).fset (F.CH_STATE_CHK n) code
  let l := s.leader n
  let s2 := if s.flag (F.CH_GANG_MEMBER n) then (s1.parkGang l 8 s.nextBoundary).setFlag (F.CH_FAULT_MEMB l) true
    else s1.parkGang n 5 s.nextBoundary
  s2.raiseReq (2 * n.val) 2 (s2.faultPayload n)

/-- R18, R134: a RUN channel enters STOP: the step closed, the current ramps to zero. -/
def State.enterStop (s : State) (n : Fin 128) (src sat : Nat) (tm : Bool) : State :=
  let s1 := s.closeStep n 9 src sat tm s.ctr
  let s2 := s1.fset (F.CH_STATE_STATE n) stSTOP
  let s3 := (s2.modX n fun x => { x with stopPend := none, susp := .none, gapHold := false }).setFlag (F.CH_PSTAT_WAITING n) false
  (s3.setFlag (F.CH_PSTAT_BARW n) false).setFlag (F.CH_PSTAT_GAP n) false

/-- |I| below 50 mA (R16, R18, R82): the control-path current. -/
def State.lowCurrent (s : State) (n : Fin 128) : Bool := decide ((s.lane1 n).m.cs.i.natAbs < 50000)

/-- R56, R88: is the pin OSW[n] high? POL says which level closes the switch. -/
def State.oswHigh (s : State) (n : Fin 128) : Bool := s.flag (F.CH_STATE_OSWC n) != s.effFlag (F.CH_OSW_POL n)

/-- R16, R88: OSW[n] opens. -/
def State.openSwitch (s : State) (n : Fin 128) : State :=
  (s.setFlag (F.CH_STATE_OSWC n) false).modL n fun l => { l with openBy := none }

/-- PARKED_SWITCH_OPEN (R16): the switch of a PARKED or ABSENT channel opens when |I| < 50 mA, or 500 µs after entry. -/
def execParkedSwitchOpen (n : Fin 128) (s : State) : Host.Outcome State Fault Refusal :=
  match (s.lane1 n).l.openBy with
  | some t => if s.idle n ∧ (s.lowCurrent n ∨ t ≤ s.time) then .next (s.openSwitch n) else .next s
  | none => .next s

/-- STOP_END (R18): a channel in STOP with |I| < 50 mA enters PARKED, without an event (R467). -/
def execStopEnd (n : Fin 128) (s : State) : Host.Outcome State Fault Refusal :=
  if s.chState n = stSTOP ∧ (s.curr n).natAbs < 50000 then .next (s.parkGang n 8 s.ctr) else .next s

end Sys2Proof.Machine
end

