-- ==== Sys2Proof/Machine/Sequencer.lean ====
section
/-! DEFINITION. The rail table's order (R294–R297, R433) and what an auxiliary converter's start and stop do (R273), which the
table and SHELF SAFE share. -/

namespace Sys2Proof.Machine

open Sys2Proof

/-- R273: both phases of an auxiliary converter to mid. -/
def State.auxMid (s : State) (j : Fin 4) : State :=
  let s1 := ((s.setFlag (F.AX_STAT_PG j) false).setFlag (F.AX_STAT_NPHR j) false).setFlag (F.AX_STAT_LIM j) false
  let x := { s1.ax[j] with since := s1.time, next := none, duty := none, limN := 0, shedN := 0, start := false, okAt := none,
                           uvAt := none, acc := Vector.replicate 2 0, busLeg := false, packLeg := false }
  { s1 with ax := s1.ax.set j x }

/-- R273, R274: EN = 0: both phases to mid at once. A converter in FAULT stays there while a bit of AX_FLT is latched. -/
def State.auxOff (s : State) (j : Fin 4) : State :=
  let s1 := (s.setFlag (F.AX_CTL_EN j) false).auxMid j
  if s.fget (F.AX_STAT_STATE j) = 5 ∧ s.word (.AX_FLT j) ≠ 0 then s1 else s1.fset (F.AX_STAT_STATE j) 0

/-- R273: t0: the check starts with both phases at mid and the output at `mv`. -/
def State.auxStart (s : State) (j : Fin 4) (mv : Int) : State :=
  let s1 := (s.auxMid j).fset (F.AX_STAT_STATE j) 1
  { s1 with ax := s1.ax.set j { s1.ax[j] with v0 := mv } }

/-- R273, R285: EN accepted: the check starts at the next boundary, when the output is read. -/
def State.auxAsk (s : State) (j : Fin 4) : State := { s with ax := s.ax.set j { s.ax[j] with start := true } }

/-- R273, R274: a converter that may start: OFF, or in FAULT with every latched bit cleared. -/
def State.auxStartable (s : State) (j : Fin 4) : Bool :=
  decide (s.fget (F.AX_STAT_STATE j) = 0 ∨ (s.fget (F.AX_STAT_STATE j) = 5 ∧ s.word (.AX_FLT j) = 0))

/-! The table. -/

/-- R303: the rail state codes. -/
abbrev rsOFF : Nat := 0
/-- R303. -/
abbrev rsWAIT : Nat := 1
/-- R303. -/
abbrev rsRAMP : Nat := 2
/-- R303. -/
abbrev rsSETTLE : Nat := 3
/-- R303. -/
abbrev rsGOOD : Nat := 4
/-- R303. -/
abbrev rsDOWN : Nat := 5
/-- R303. -/
abbrev rsRETRY : Nat := 6
/-- R303. -/
abbrev rsFAILED : Nat := 7

/-- The entries of the rail table (R288). -/
def rails : List (Fin 24) := List.finRange 24

/-- SQ_RSTAT.STATE. -/
def State.rail (s : State) (e : Fin 24) : Nat := s.fget (F.SQ_RSTAT_STATE e)

/-- SQ_RCFG.USE. -/
def State.railUse (s : State) (e : Fin 24) : Bool := s.flag (F.SQ_RCFG_USE e)

/-- R293: an entry with no enable source is monitored only. -/
def State.monitored (s : State) (e : Fin 24) : Bool := decide (s.fget (F.SQ_RCFG_EN e) = 31)

/-- Change what no register shows of an entry. -/
def State.modSq (s : State) (e : Fin 24) (f : RailSt → RailSt) : State := { s with sq := s.sq.set e (f s.sq[e]) }

/-- R294: entry e depends on entry i; every shelf entry depends on 0–4. -/
def State.railDep (s : State) (e i : Fin 24) : Bool :=
  (s.word (.SQ_RDEP e)).getLsbD i.val || (decide (5 ≤ e.val ∧ i.val < 5))

/-- R293: the table drives converter j: its entry is in use. -/
def State.axByTable (s : State) (j : Fin 4) : Bool :=
  decide (j.val < 3) && s.railUse (Fin.ofNat 24 (21 + j.val))

/-- Entries with those in use that depend on them, directly or through others, to a depth. -/
def State.closeDeps (s : State) (l : List (Fin 24)) : Nat → List (Fin 24)
  | 0 => l
  | k + 1 => s.closeDeps (rails.filter fun e => decide (e ∈ l) || (s.railUse e && l.any fun i => s.railDep e i)) k

/-- R433: the entries SQ_ROFF.HOLD keeps off. -/
def State.heldOff (s : State) : List (Fin 24) :=
  s.closeDeps (rails.filter fun e => decide (5 ≤ e.val) && (s.word .SQ_ROFF).getLsbD e.val) 24

/-- R294, R298: a reading in the window. -/
def State.inWindow (s : State) (e : Fin 24) (mv : Nat) : Bool :=
  let nom := s.fget (F.SQ_RNOM_NOM e)
  if 21 ≤ e.val then s.flag (F.AX_STAT_PG (Fin.ofNat 4 (e.val - 21)))
  else decide (nom * (200 - s.fget (F.SQ_RNOM_UV e)) ≤ mv * 200 ∧ mv * 200 ≤ nom * (200 + s.fget (F.SQ_RNOM_OV e)))

/-- R294: a reading that counts as off. -/
def State.railLow (s : State) (e : Fin 24) (mv : Nat) : Bool := decide (mv * 10 < s.fget (F.SQ_RNOM_NOM e))

/-- R293, R295: the enable of an entry whose rail leaves or does not reach RAMP, SETTLE and GOOD is deasserted: a converter
stops. -/
def State.railDisable (s : State) (e : Fin 24) : State :=
  if 21 ≤ e.val then s.auxOff (Fin.ofNat 4 (e.val - 21)) else s

/-- RAILEN[k] is high (R293). -/
def State.railEn (s : State) (k : Fin 16) : Bool :=
  rails.any fun e => decide (s.fget (F.SQ_RCFG_EN e) = k.val ∧ rsRAMP ≤ s.rail e ∧ s.rail e ≤ rsGOOD)

/-- R295: an entry takes a state; SQ_STAT.GOOD follows. -/
def State.railTo (s : State) (e : Fin 24) (st : Nat) : State :=
  let s1 := (s.fset (F.SQ_RSTAT_STATE e) st).modSq e fun x => { x with since := s.time, offAt := none }
  let s2 := s1.setFlag ⟨.SQ_STAT, 8 + e.val, 1⟩ (st = rsGOOD)
  if rsRAMP ≤ s.rail e ∧ s.rail e ≤ rsGOOD ∧ (st < rsRAMP ∨ rsGOOD < st) then s2.railDisable e else s2

/-- R295: an entry is off, or waits. -/
def State.railOff (s : State) (e : Fin 24) : State :=
  if s.sq[e].toWait then (s.railTo e rsWAIT).modSq e fun x => { x with down := false, toWait := false }
  else (s.railTo e rsOFF).modSq e fun x => { x with down := false }

/-- R295: WAIT to RAMP: the enable asserted, PREB set from the last reading. A converter starts as R273 says, not while a new
period waits (R63). -/
def State.railStart (s : State) (e : Fin 24) : State :=
  let v := s.fget (F.SQ_RSTAT_V e)
  let s1 := (s.setFlag (F.SQ_RSTAT_PREB e) (decide (s.fget (F.SQ_RNOM_NOM e) < v * 2))).railTo e rsRAMP
  if e.val < 21 then s1
  else
    let j : Fin 4 := Fin.ofNat 4 (e.val - 21)
    if s.divPending then s
    else
      let s2 := s1.setFlag (F.AX_CTL_EN j) true
      if s.auxStartable j then s2.auxAsk j else s2

/-- R296: no rail that depends on the entry is up or on its way. -/
def State.railFree (s : State) (e : Fin 24) : Bool :=
  rails.all fun i => !(s.railUse i && s.railDep i e) || decide (s.rail i < rsRAMP ∨ rsDOWN < s.rail i)

/-- R295–R297: what the states of the others make of one entry now. -/
def State.railTurn (s : State) (e : Fin 24) : State :=
  let st := s.rail e
  let x := s.sq[e]
  let deps := rails.all fun i => !s.railDep e i || decide (s.rail i = rsGOOD)
  if s.monitored e then s
  else if st = rsWAIT then
    if x.down then (if x.toWait then s.modSq e fun x => { x with down := false, toWait := false } else s.railOff e)
    else if deps then s.railStart e else s
  else if st = rsRETRY then (if x.down then s.railOff e else s)
  else if st = rsRAMP ∨ st = rsSETTLE ∨ st = rsGOOD then
    if x.down then (if st = rsGOOD ∧ ¬ s.railFree e then s else s.railTo e rsDOWN)
    else if deps then s
    else ((s.railTo e rsDOWN).modSq e fun x => { x with toWait := true }).setFlag (F.SQ_RFLT_DEP e) true
  else s

/-- R296, R344: the sequence completes: event 344 when every entry in use that is not held off is GOOD, event 345 when every
shelf entry is off. -/
def State.railsDone (s : State) : State :=
  let seq := s.fget F.SQ_STAT_SEQ
  let off (e : Fin 24) : Bool := s.monitored e || decide (s.rail e = rsOFF ∨ s.rail e = rsFAILED)
  if seq = 1 then
    if rails.all fun e => !s.railUse e || decide (e ∈ s.heldOff) || decide (s.rail e = rsGOOD) then
      (s.fset F.SQ_STAT_SEQ 2).raise 344 0
    else s
  else if seq = 3 then
    if rails.all fun e => (decide (e.val < 5) && s.boot.sysRst.isNone) || off e then
      let s1 := { s with boot := { s.boot with offAt := some s.time } }.fset F.SQ_STAT_SEQ 0
      s1.raise 345 0
    else s
  else s

/-- R295–R297: every consequence of a change in the table. -/
def State.railSweep (s : State) : State :=
  ((List.range 24).foldl (fun t _ => t.each rails fun e u => u.railTurn e) s).railsDone

/-- R296: a power-down reaches an entry; `wait`: it goes to WAIT afterwards (R298). -/
def State.railAsk (s : State) (e : Fin 24) (wait : Bool) : State :=
  let st := s.rail e
  if st = rsOFF ∨ st = rsFAILED ∨ s.monitored e then s
  else s.modSq e fun x => { x with down := decide (st ≠ rsDOWN), toWait := wait }

/-- R299: the entries with SAFE = 1 power down; for AX0–AX2 the field is the converter's. -/
def State.railSafe (s : State) (e : Fin 24) : Bool :=
  if 21 ≤ e.val then s.flag (F.AX_CFG_SAFE (Fin.ofNat 4 (e.val - 21))) else s.flag (F.SQ_RCFG_SAFE e)

/-- R299: SHELF SAFE is entered. -/
def State.railsSafe (s : State) : State :=
  (s.each (rails.filter fun e => decide (5 ≤ e.val) && s.railUse e && s.railSafe e) fun e t => t.railAsk e false).railSweep

/-- R22, R298: a rail whose failure entered SHELF SAFE with cause 0x06 is still FAILED. -/
def State.railHeld (s : State) : Bool := rails.any fun e => s.sq[e].hold && decide (s.rail e = rsFAILED)

end Sys2Proof.Machine
end

