-- ==== Sys2Proof/Machine/Shelf.lean ====
section
/-! DEFINITION. The shelf states (R20), SHELF SAFE (R21, R22), the stop of every channel at HALT (R134), and the lock
(R14). -/

namespace Sys2Proof.Machine

open Sys2Proof

/-- R141, R136: the shelf program stops; a barrier it waits at is abandoned. -/
def State.stopShelfProgram (s : State) : State :=
  let s1 := (s.setFlag F.CS_SHSTAT_RUN false).setFlag F.CS_SHSTAT_BARW false
  { s1 with sh := { s1.sh with susp := .none, stopReq := false, ldi := none, relPend := none } }

/-- R18, R467: a channel enters PARKED because the shelf enters SAFE: event 2n at warning, no record; a member parks without
one, its leader raises it. -/
def State.parkForSafe (s : State) (n : Fin 128) : State :=
  let st := s.chState n
  if st = stPARKED ∨ st = stABSENT then s
  else if s.flag (F.CH_GANG_MEMBER n) ∨ st = stFOLLOW then (s.quiet n).fset (F.CH_STATE_STATE n) stPARKED
  else
    let s1 := s.parkGang n 8 s.nextBoundary
    s1.raise (2 * n.val) 1 (s1.faultPayload n)

/-- R21: the payload of event 485. -/
def safePayload (cause count : Nat) (before : Word) : List Byte :=
  [BitVec.ofNat 8 cause, BitVec.ofNat 8 count, 0, 0] ++ le32 before.toNat ++ List.replicate 20 0

/-- R409: the slot of the snapshot that a HALT triggered is frozen: its header's cause map takes cause 1; if it is still
being taken or written, it is frozen when the write ends. The header is rewritten, its CRC last. -/
def State.freezeHalt (s : State) : State :=
  match s.cellar.haltSlot with
  | none => s
  | some k =>
    match s.cellar.snap with
    | some sn =>
      if sn.slot = k then
        let sn := { sn with freeze := true, causes := sn.causes ||| 1, joined := sn.joined + 1 }
        { s with cellar := { s.cellar with snap := some sn, haltSlot := none } }
      else s
    | none =>
      let a := 0xDDC000 + k.val * 0x9000
      let hdr := memReadBytes s.mem a 60
      let b3 := (hdr.getD 3 0) ||| 1
      let j := ((hdr.getD 26 0).toNat + (hdr.getD 27 0).toNat * 256 + 1) % 65536
      let hdr := hdr.take 3 ++ [b3] ++ (hdr.drop 4).take 22 ++ le16 j ++ hdr.drop 28
      let s1 := s.putBytes a (hdr ++ le32 (crc32c hdr))
      let s2 := (s1.setFlag (F.VT_CSLOT_FROZEN k) true).fset (F.VT_CSLOT_CAUSES k) (s.fget (F.VT_CSLOT_CAUSES k) ||| 1)
      { s2 with cellar := { s2.cellar with haltSlot := none } }

/-- R277, R299: AX0–AX2 in SHELF SAFE, as each SAFE field says, those of the rail table by its power-down; AX3 stops with
the charger. -/
def State.auxSafe (s : State) : State :=
  let s1 := s.each [0, 1, 2] fun (j : Fin 4) t =>
    if t.flag (F.AX_CFG_SAFE j) ∧ ¬ t.axByTable j then t.auxOff j else t
  (s1.fset F.HU_STAT_CHG (if s.fget F.HU_STAT_CHG = 6 then 6 else 0)).auxOff 3

/-- R21: the entry actions of SHELF SAFE. -/
def State.safeEntry (s : State) (cause : Nat) : State :=
  let before := s.glState
  let s1 := s.each chans fun n t => t.parkForSafe n
  let s2 := ((s1.stopShelfProgram.fset F.GL_STATE_SHELF shSAFE).setFlag F.GL_SAFE_ACTIVE true).fset F.GL_SAFE_CAUSE cause
  let s3 := s2.incSat F.GL_SAFE_COUNT
  let s4 := s3.raiseReq 485 3 (safePayload cause (s3.fget F.GL_SAFE_COUNT) before)
  let s5 := if cause = 4 then s4.freezeHalt else s4.trigger 1
  let s6 := s5.auxSafe.railsSafe
  { s6 with clrReq := false, mode := { s6.mode with safeNew := true } }

/-- R332: an exit from AGING begins; it completes 25 ms after the next boundary. -/
def State.beginAgingExit (s : State) : State :=
  match s.mode.exitAt with
  | some _ => s
  | none => { s with mode := { s.mode with exitAt := some (s.time + tCtl + 25 * ms), burst := none, awake := true } }

/-- R333: a wake cause in DEEP. -/
def State.beginWake (s : State) : State :=
  match s.mode.wakeFrom with
  | some _ => s
  | none => { s with mode := { s.mode with wakeFrom := some s.time } }

/-- R329: a shelf that leaves SERVICE leaves AGING and DEEP. -/
def State.leaveSleep (s : State) : State :=
  if s.pmode = mdAGING then s.beginAgingExit else if s.pmode = mdDEEP then s.beginWake else s

/-- R21, R22, R329: a SHELF SAFE cause. In AGING or DEEP the controller first goes to STANDBY. A cause that finds the
shelf in SAFE is recorded and keeps the shelf there at the next boundary; it is no entry: COUNT stays and event 485 is not
raised (the model's choice: notes/assumptions/147.md). -/
def State.enterSafe (s : State) (cause : Nat) : State :=
  if s.pmode = mdAGING ∨ s.pmode = mdDEEP then
    let s1 := s.leaveSleep
    { s1 with mode := { s1.mode with safePend := some cause } }
  else if s.shelf = shSAFE then
    { s.fset F.GL_SAFE_CAUSE cause with clrReq := false, mode := { s.mode with safeNew := true } }
  else s.safeEntry cause

/-- GL_SAFE.HELD (R13, R22): the cause of the latest entry is still present, or EXTEST is in force (R448). 0x02: the Safe level of R424; 0x03: a
SYSPLL, PWMPLL or ADCPLL that is not locked (R309); 0x06: a failed rail entry. Whatever the cause, it stays while the bus capacitance is above FD_CMAX (R238). -/
def State.held (s : State) : Bool :=
  let c := s.fget F.GL_SAFE_CAUSE
  decide (s.maint.jtagIr = 0) || s.flag F.GL_SAFE_ACTIVE &&
  (s.flag F.FD_CBUS_OVER ||
   if c = 2 then s.flag F.TS_STAT_SAFE
   else if c = 3 then ! (s.flag F.CK_PLLSTAT_LOCK0 && s.flag F.CK_PLLSTAT_LOCK1 && s.flag F.CK_PLLSTAT_LOCK2)
   else if c = 6 then s.railHeld
   else false)

/-- R260: the hold-up watchdog arms. A fallback in force stays until it is confirmed. -/
def State.wdtArm (s : State) : State :=
  if s.flag F.HU_WDT_FALLBK then s
  else { s.setFlag F.HU_WDT_ARMED true with hu := { s.hu with wdtAt := s.time } }

/-- R22, R260: a pending CLR judged at a boundary; a cause of the same period prevails. -/
def State.judgeClr (s : State) : State :=
  let s1 := { s with clrReq := false, mode := { s.mode with safeNew := false } }
  if s.clrReq ∧ s.mode.safeNew = false ∧ s.shelf = shSAFE ∧ s.held = false ∧ s.feedOn then
    ((s1.fset F.GL_STATE_SHELF shSERVICE).setFlag F.GL_SAFE_ACTIVE false).wdtArm
  else s1

/-- SAFE_REQ (R21). -/
def execSafeReq (s : State) : Host.Outcome State Fault Refusal := .next ((s.enterSafe 1).answer stOk)

/-- SAFE_CLR (R22): the request waits for the next boundary and is not kept after it. -/
def execSafeClr (s : State) : Host.Outcome State Fault Refusal := .next ({ s with clrReq := true }.answer stOk)

/-- R134, R18: the shelf enters HALT: every RUN channel stops with source 2, one in BRIDGE once it is back in RUN, every check is abandoned; the shelf program
stops (R136). -/
def State.haltChannels (s : State) : State :=
  let s1 := s.each chans fun n t =>
    if t.chState n = stRUN ∨ t.chState n = stBRIDGE then t.modX n fun x => { x with stopPend := some 2 }
    else if t.chState n = stCHECK ∧ ¬ t.flag (F.CH_GANG_MEMBER n) then t.modX n fun x => { x with stopPend := some 2 }
    else t
  s1.stopShelfProgram

/-- SHELF_SERVICE_ENTRY (R20): START ends once boot is complete, a feed is ON and a valid bus capacitance lies within
FD_CMAX; not while EXTEST is in force (R448). -/
def execShelfServiceEntry (s : State) : Host.Outcome State Fault Refusal :=
  if s.shelf = shSTART ∧ s.boot.done ∧ s.maint.jtagIr ≠ 0 ∧ s.feedOn ∧ s.flag F.FD_CBUS_VALID ∧ ¬ s.flag F.FD_CBUS_OVER then
    .next (s.fset F.GL_STATE_SHELF shSERVICE)
  else .next s

/-- R14: a write to GL_LOCK.KEY by the given session. The session that writes the key to an open lock becomes the one that opened
it (the model's choice: notes/assumptions/146.md). -/
def State.lockWrite (s : State) (by_ : Option Sess) (key : Nat) : State :=
  if key = 0x4E5A then ({ s with lockAt := some s.time, lockBy := by_ }.setFlag F.GL_LOCK_OPEN true).answer stOk
  else ({ s with lockAt := none, lockBy := none }.setFlag F.GL_LOCK_OPEN false).answer stOk

/-- R14: the lock closes. -/
def State.lockClose (s : State) : State := { s with lockAt := none, lockBy := none }.setFlag F.GL_LOCK_OPEN false

/-- LOCK_OPEN (R14). -/
def execLockOpen (s : State) : Host.Outcome State Fault Refusal := .next (s.lockWrite none 0x4E5A)

/-- LOCK_CLOSE (R14): a key other than 0x4E5A; that value opens the lock. -/
def execLockClose (key : BitVec 16) (s : State) : Host.Outcome State Fault Refusal := .next (s.lockWrite none key.toNat)

/-- LOCK_EXPIRY (R14): 60 s after the write that opened it. -/
def execLockExpiry (s : State) : Host.Outcome State Fault Refusal :=
  match s.lockAt with
  | some t => if t + 60 * sec ≤ s.time then .next s.lockClose else .next s
  | none => .next s

/-- GL_LOCK.LEFT (R13): whole seconds until the lock closes by itself. -/
def State.lockLeft (s : State) : Nat := match s.lockAt with
  | some t => (t + 60 * sec - s.time) / sec
  | none => 0

end Sys2Proof.Machine
end

