-- ==== Sys2Proof/Machine/Convert.lean ====
section
/-! DEFINITION. Channel conversion (R56–R93): the loops, soft start and clamps, phases and shedding, the pre-start check,
the shelf PWM period and its sync, the bus limits and gangs. -/

namespace Sys2Proof.Machine

open Sys2Proof

/-- One duty of 1 in the loop's unit: 2^32 × 10^6 (R76, with currents in µA). -/
abbrev dutyOne : Int := 2 ^ 32 * 10 ^ 6

/-- BUS_V in µV; below 1 V it is taken as 1 V (R89). -/
def State.vbus (s : State) : Nat := if s.fsel.busUv < 1000000 then 1000000 else s.fsel.busUv.toNat

/-- R67, R68: I_FS in µA times RSHUNT in nΩ is 10^14, halved with one phase fitted. -/
def State.ifsTop (s : State) (n : Fin 128) : Nat := if (s.lane1 n).l.phfit then 5 * 10 ^ 13 else 10 ^ 14

/-- |i| of a channel against a percentage of I_FS: i × RSHUNT × 100 against pct × ifsTop. -/
def State.pctOf (s : State) (n : Fin 128) (i : Int) : Nat := i.natAbs * (s.lane1 n).m.rshunt * 100

/-- |i| < pct % of I_FS (R67). -/
def State.belowFs (s : State) (n : Fin 128) (i : Int) (pct : Nat) : Bool := decide (s.pctOf n i < pct * s.ifsTop n)

/-- |i| > pct % of I_FS (R67, R87). -/
def State.aboveFs (s : State) (n : Fin 128) (i : Int) (pct : Nat) : Bool := decide (pct * s.ifsTop n < s.pctOf n i)

/-- R83: move toward a target by no more than a rate. -/
def slewTo (x target rate : Int) : Int :=
  if x + rate < target then x + rate else if target < x - rate then x - rate else target

/-- R216: the scale code published for a channel's class and a direction. -/
def State.scaleCode (s : State) (n : Fin 128) (i : Int) : Nat :=
  let c := Fin.ofNat 4 (s.fget (F.CH_PSTAT_CLASS n))
  if 0 ≤ i then s.fget (F.LG_SCALE_SC c) else s.fget (F.LG_SCALE_SD c)

/-- R216: the factor of a code, in 1/65,536: 0xFFFF is exactly 1. -/
def scaleFactor (code : Nat) : Nat := if code = 0xFFFF then 65536 else code

/-- R216: a value times a scale. -/
def scaled (code : Nat) (x : Int) : Int := if code = 0xFFFF then x else rdiv 216 (x * code) 65536

/-- R59, R62: the switching period programmed, ps. -/
def State.tsw (s : State) : Nat := s.eff F.CK_PWM_DIV * 1250

/-- R59, R64: the present switching period, fs: the programmed one unless the timebase follows SYNC_IN. -/
def State.tnow (s : State) : Nat := s.clk.per

/-- R62: dmax_eff in the loop's unit: the lower of (T_sw − TOFFMIN)/T_sw and DMAX/256. -/
def State.dmaxEff (s : State) (n : Fin 128) : Int :=
  let t := s.tnow
  let a := rdiv 62 (dutyOne * ((t : Int) - s.eff (F.CH_PWM_TOFFMIN n) * 1000000)) t
  let b := rdiv 62 (dutyOne * s.eff (F.CH_PWM_DMAX n)) 256
  if a < b then a else b

/-- R74: the duty feedforward (v + share × (rpath + rstg)) / vbus, of v in µV and a share in µA. -/
def State.dff (s : State) (n : Fin 128) (v share : Int) : Int :=
  if s.effFlag (F.CH_LCFG_DFF n) then
    rdiv 74 ((v * 10 ^ 6 + share * (s.fget (F.CH_RPATH_RPATH n) + s.eff (F.CH_LCFG_RSTG n) * 100)) * 2 ^ 32) s.vbus
  else 0

/-- R71, R91: the pre-bias duty VS / BUS_V: a gang's voltage is its leader's. -/
def State.preDuty (s : State) (n : Fin 128) : Int := rdiv 71 (s.volt (s.leader n) * dutyOne) s.vbus

/-- R59: the 24-bit duty code of a duty in the loop's unit. -/
def dutyCode (d : Int) : Nat := (rdiv 59 d (2 ^ 8 * 10 ^ 6)).toNat % 2 ^ 24

/-- R74, R189: the voltage error; it holds its last value while the crossbar settles. -/
def State.vErr (s : State) (n : Fin 128) (x : Int) : Int :=
  if (s.lane1 n).m.cs.xs then (s.lane1 n).l.evLast else x - s.volt n

/-- R74, R219: the voltage loop on an error in µV: its output in µA and the integrator it would keep. Behind the cap the
integrator does not move toward |iv|. -/
def State.vloop (s : State) (n : Fin 128) (e : Int) : Int × Int :=
  let l := (s.lane1 n).l
  let kpv : Int := s.eff (F.CH_VKP_KPV n)
  let kiv : Int := s.eff (F.CH_VKI_KIV n)
  let base := match l.vsel with
    | some x => x * 65536 - kpv * e
    | none => l.vint
  let old := rdiv 76 (kpv * e + base) 65536
  let cand := base + kiv * e
  let iv := rdiv 76 (kpv * e + cand) 65536
  if s.scaleCode n iv ≠ 0xFFFF ∧ old.natAbs < iv.natAbs then (old, base) else (iv, cand)

/-- R77: does the mode take the LIMV clamp (R74)? -/
def modeClamps (m : Nat) : Bool := decide (m = 1 ∨ m = 3 ∨ m = 4 ∨ m = 5 ∨ m = 6 ∨ m = 7)

/-- R80: the two-level waveform: from where an edge starts to its level over E periods. -/
def pulseRef (st : OpenStep) : Int :=
  let to_ := if st.hi then st.x else st.y
  if st.edge = 0 ∨ st.edge ≤ st.pk then to_ else st.pFrom + rdiv 80 ((to_ - st.pFrom) * st.pk) st.edge

/-- R80: the waveform one period on. -/
def pulseNext (st : OpenStep) : OpenStep :=
  let dur := if st.hi then st.dHi else st.dLo
  if dur ≤ st.pk + 1 then { st with hi := !st.hi, pk := 0, pFrom := if st.hi then st.x else st.y }
  else { st with pk := st.pk + 1 }

/-- Time of the injection at the release of the duty now computed (R81). -/
def State.eisTime (s : State) (st : OpenStep) : Nat := s.nextBoundary - (st.start.getD s.nextBoundary)

/-- R81: the injection at the release of the duty now computed, of the open EIS step, or of a closed one that still ramps
down: amplitude, mHz, time since t_s. -/
def State.inject (s : State) (n : Fin 128) : Option (Int × Nat × Nat) :=
  let c := s.lane1 n
  match c.x.step.filter fun t => decide (t.mode = 7) with
  | some st => some (eisAmp st.y st.freq (s.eisTime st), st.freq, s.eisTime st)
  | none => match c.l.tail with
    | some (a, f, ts, close) =>
      let t := s.nextBoundary - close
      if t < eisRamp f then some (a - rdiv 81 (a * t) (eisRamp f), f, s.nextBoundary - ts) else none
    | none => none

/-- R81: what a closed EIS step's injection still adds to the reference. -/
def State.tailRef (s : State) (n : Fin 128) : Int :=
  if (s.lane1 n).x.step.any fun t => decide (t.mode = 7) then 0
  else match s.inject n with
    | some (a, f, t) => if f ≤ 2000000 then sine a f t else 0
    | none => 0

/-- R69: the slot of the period that ends at a leaving check's t4: it computes the new mode's first duty. -/
def State.lastCheckSlot (s : State) (n : Fin 128) : Bool :=
  let c := (s.lane1 n).c
  c.restExit && decide (c.ph = .closing) &&
    decide (c.at_ + s.eff (F.CH_OSW_TCLOSE n) * (100 * us) ≤ s.time + tCtl)

/-- R77, R79–R81: the mode's reference, µA. -/
def State.modeRef (s : State) (n : Fin 128) (st : OpenStep) : Int :=
  let v := s.volt n
  if st.mode = 1 ∨ st.mode = 3 then st.x
  else if st.mode = 4 then rdiv 79 (st.x * 1000000000) (max v 100000).toNat
  else if st.mode = 5 then (if st.x ≤ 0 then 0 else rdiv 79 (-(v * 1000000)) st.x.toNat)
  else if st.mode = 6 then pulseRef st
  else if st.mode = 7 then
    let t := s.eisTime st
    if st.freq ≤ 2000000 then st.x + sine (eisAmp st.y st.freq t) st.freq t else st.x
  else 0

/-- What the reference computation of one slot answers: target before the pre-charge clamp, slew rate, REG of R93, the loop's
new vint, vsel and vref, whether CVPH is entered. -/
structure RefOut where
  target : Int
  rate : Int
  reg : Nat
  vint : Int
  vsel : Option Int
  vref : Int
  ilim : Int
  cvph : Bool
  acted : Bool
  /-- The voltage loop's error, where it was computed. -/
  ev : Int := 0
  deriving DecidableEq, Repr

/-- R74, R77, R83, R85, R148: the reference of an open step; LIMI does not clamp EIS. A CCV step with LIMV armed takes the
tighter of V_set and LIMV (the model's choice: notes/assumptions/151.md). In its first period the voltage loop's integrator tracks the step's own
target, so that the loop takes over only where it must (notes/assumptions/55.md). -/
def State.stepRef (s : State) (n : Fin 128) (st : OpenStep) : RefOut :=
  let l := (s.lane1 n).l
  let x := (s.lane1 n).x
  let v := s.volt n
  let isl : Int := s.eff (F.CH_SLEW_ISLEW n) * 1000
  let rate : Int := if st.slew = 0 ∨ st.mode = 2 then isl else st.slew * 1000
  let limi : Int := x.limi
  let vset := if st.mode = 2 then st.x else st.y
  let vrate : Int := if st.mode = 2 ∧ st.slew ≠ 0 then st.slew else s.eff (F.CH_SLEW_VSLEW n)
  let vref := if st.mode = 2 ∨ st.mode = 3 then slewTo (if l.vNew then v else l.vref) vset vrate else l.vref
  if st.mode = 2 then
    let e := s.vErr n vref
    let (iv, cand) := s.vloop n e
    let lim := if s.flag (F.CH_STATE_SS n) || s.lastCheckSlot n then min (l.ilim + rate) limi else limi
    let t := clampI iv (-lim) lim
    { target := t, rate := rate, reg := if t = iv then 1 else 2,
      vint := if t = iv then cand else t * 65536 - s.eff (F.CH_VKP_KPV n) * e, vsel := none, vref := vref, ilim := lim,
      cvph := true, acted := false, ev := e }
  else
    let t0 := if st.mode = 7 then s.modeRef n st else clampI (s.modeRef n st) (-limi) limi
    let lv := if modeClamps st.mode then x.limv else none
    let vlim := if st.mode = 3 then
        match lv with
        | some w => if 0 ≤ st.x then (if w < vref then (some w, false) else (some vref, true))
          else (if vref < w then (some w, false) else (some vref, true))
        | none => (some vref, true)
      else (lv, false)
    match vlim with
    | (none, _) =>
      { target := t0, rate := rate, reg := 0, vint := l.vint, vsel := some t0, vref := vref, ilim := limi, cvph := false,
        acted := false }
    | (some w, own) =>
      let e := s.vErr n w
      let (iv, cand) := (if l.vNew then s.modL n fun l => { l with vsel := some t0 } else s).vloop n e
      let t := if 0 ≤ t0 then min t0 iv else max t0 iv
      { target := t, rate := rate, reg := if t = t0 then 0 else 1,
        vint := if t = iv then cand else t * 65536 - s.eff (F.CH_VKP_KPV n) * e, vsel := none, vref := vref, ilim := limi,
        cvph := own && decide (if 0 ≤ st.x then iv < st.x else st.x < iv), acted := decide (t ≠ t0), ev := e }

/-- R126: in the first two periods of a gap iref holds, with the LIMV clamp acting. -/
def State.gapRef (s : State) (n : Fin 128) : RefOut :=
  let l := (s.lane1 n).l
  let x := (s.lane1 n).x
  let keep : RefOut :=
    { target := l.iref, rate := s.eff (F.CH_SLEW_ISLEW n) * 1000, reg := 0, vint := l.vint, vsel := some l.iref, vref := l.vref,
      ilim := x.limi, cvph := false, acted := false }
  match x.limv with
  | none => keep
  | some w =>
    let e := s.vErr n w
    let (iv, cand) := s.vloop n e
    let t := if 0 ≤ l.iref then min l.iref iv else max l.iref iv
    { keep with target := t, reg := if t = l.iref then 0 else 1, vsel := none, ev := e,
                vint := if t = iv then cand else t * 65536 - s.eff (F.CH_VKP_KPV n) * e }

/-- A fixed target: the check, STOP, REST, HOLD in a gap. -/
def State.fixedRef (s : State) (n : Fin 128) (t : Int) : RefOut :=
  let l := (s.lane1 n).l
  { target := t, rate := s.eff (F.CH_SLEW_ISLEW n) * 1000, reg := 0, vint := l.vint, vsel := some t, vref := l.vref,
    ilim := l.ilim, cvph := false, acted := false }

/-- R69, R74, R126: the reference of the present slot. -/
def State.slotRef (s : State) (n : Fin 128) : RefOut :=
  let c := s.lane1 n
  if c.c.ph = .ramp ∨ c.c.ph = .learn then s.fixedRef n c.c.ilrn
  else if (c.c.ph ≠ .none ∧ s.lastCheckSlot n = false) ∨ s.chState n = stSTOP then s.fixedRef n 0
  else match c.x.step with
    | some st => if st.mode = 8 then s.fixedRef n 0 else s.stepRef n st
    | none =>
      if c.x.lastMode = 8 ∨ c.x.lastMode = 9 ∨ c.x.gapHold ∨ c.x.lastMode = 0 then s.fixedRef n 0 else s.gapRef n

/-- R86: the pre-charge clamp acts below LIM_V0 and until LIM_V0 + 50 mV. -/
def State.precharge (s : State) (n : Fin 128) : Bool :=
  let v0 : Int := s.eff (F.CH_SOFT_LIM_V0 n) * 1000
  let v := s.volt n
  decide (v < v0) || (s.flag (F.CH_MODE_PRECHG n) && decide (v < v0 + 50000))

/-- R86: the pre-charge limit, µA. -/
def State.preLimit (s : State) (n : Fin 128) : Int :=
  match (s.lane1 n).x.pre with
  | some x => x
  | none => s.eff (F.CH_SOFT_LIM_I0 n) * 1000

/-- R102: IC of a channel, µA. -/
def State.icOf (s : State) (n : Fin 128) : Int := s.eff (F.CH_FUSE_IC n) * 10000

/-- R98: IMAX and ICT over a gang; ICT is the member value times the gang size. Where the members' values differ the smallest
counts (the model's choice: notes/assumptions/153.md). -/
def State.clampBase (s : State) (n : Fin 128) (i : Int) : Int :=
  let imax : Int := s.eff (F.CH_LIM_I_IMAX n) * 10000
  let i1 := clampI i (-imax) imax
  let ict : Nat := (s.gang n).foldl (fun m j => min m (s.fget (F.CH_CTCLAMP_ICT j))) 0xFFFF
  let lim : Int := ict * 10000 * s.gangSize n
  clampI i1 (-lim) lim

/-- R102: does the fuse of channel j back off, of a reference i before its clamp? A TRIPPED one does not. -/
def State.fuseBack (s : State) (j : Fin 128) (i : Int) (size : Nat) : Bool :=
  let ic := s.icOf j
  let h := (s.lane1 j).p.h
  !s.flag (F.CH_FAULT_FUSE j) && decide (ic * size < i.natAbs) &&
    (if s.flag (F.CH_FUSEST_BKON j) then decide (9 * (ic * ic) ≤ 10 * h) else decide (ic * ic ≤ h))

/-- R102: the fuse clamp over a gang. -/
def State.clampFuse (s : State) (n : Fin 128) (i : Int) : Int :=
  (s.gang n).foldl (fun i j =>
    if s.fuseBack j i (s.gangSize n) then
      let lim := s.icOf j * s.gangSize n
      clampI i (-lim) lim
    else i) i

/-- R102, R103: BKON and the back-off count of channel j, of a leader's reference i, and the warning at the first entry in the
leader's open step. -/
def State.fuseNote (s : State) (n j : Fin 128) (i : Int) : State :=
  if s.fuseBack j i (s.gangSize n) then
    let s1 := (s.setFlag (F.CH_FUSEST_BKON j) true).incSat (F.CH_FUSEST_BKCNT j)
    if s.flag (F.CH_FUSEST_BKON j) ∨ (s.lane1 n).x.step.isNone ∨ (s.lane1 j).p.bkEv then s1
    else (s1.modP j fun p => { p with bkEv := true }).raise (2 * j.val) 1 (s1.faultPayload j)
  else s.setFlag (F.CH_FUSEST_BKON j) false

/-- R102: the fuses of a gang whose loops run, of the reference before the fuse clamp. -/
def State.fuseMark (s : State) (n : Fin 128) (i : Int) : State := s.each (s.gang n) fun j t => t.fuseNote n j i

/-- R67, R68: may a phase of this channel be shed now? In RUN and STOP, outside a check, with no number fixed. -/
def State.shedFree (s : State) (n : Fin 128) : Bool :=
  let c := s.lane1 n
  let st := s.chState (s.leader n)
  s.effFlag (F.CH_PWM_SHED n) && !c.l.phfit && decide (c.c.ph = .none) && decide (st = stRUN ∨ st = stSTOP) && decide (c.l.nph = none)

/-- R67, R68: the shed count, and the restore of a shed phase, on the channel's share of icmd. During a check both phases switch;
with PHFIT = 1 only phase a does. A PULSE or EIS step that runs one phase drops the one that is not KEPT, with KEPT and SHEDS
as they stand (the model's choice: notes/assumptions/149.md). -/
def State.shedCount (s : State) (n : Fin 128) (share : Int) : State :=
  let c := s.lane1 n
  let both := s.flag (F.CH_STATE_NPH n)
  if c.l.phfit ∨ c.c.ph ≠ .none then s.modL n fun l => { l with shedN := 0, shedReq := false, restoreReq := false }
  else match c.l.nph with
  | some k =>
    if k = 2 ∧ ¬ both then s.modL n fun l => { l with restoreReq := true, shedReq := false, shedN := 0 }
    else if k = 1 ∧ both then s.modL n fun l => { l with shedReq := true, restoreReq := false, shedN := 0 }
    else s.modL n fun l => { l with shedN := 0 }
  | none =>
    if ¬ s.effFlag (F.CH_PWM_SHED n) then s.modL n fun l => { l with shedN := 0, shedReq := false, restoreReq := !both }
    else if ¬ both ∧ s.aboveFs n share 40 then s.modL n fun l => { l with restoreReq := true, shedN := 0 }
    else if both ∧ s.shedFree n ∧ s.belowFs n share 30 then s.modL n fun l => { l with shedN := l.shedN + 1 }
    else s.modL n fun l => { l with shedN := 0 }

/-- R74, R76, R81, R91: one member's current loop on its share of icmd, with the leader's voltage and gains and its own shunt,
feedforward and R_path; an injection in feed-forward is shared as well, over the inductance of the phases that run. REG reads 3
at the upper duty limit only (the model's choice: notes/assumptions/151.md). -/
def State.memberLoop (s : State) (n : Fin 128) (share : Int) (eis : Option (Int × Nat × Nat)) (engaged : Bool) : State :=
  let ld := s.leader n
  let c := s.lane1 n
  if ¬ engaged then s.modL n fun l => { l with dutyNext := none, engaged := false }
  else
    let ff := match eis with
      | some (_, f, _) => decide (2000000 < f)
      | none => false
    let div := if ff then 2 ^ s.eff (F.CH_LCFG_EISDIV ld) else 1
    let held := c.m.cs.rs || c.m.cs.xs
    let ei := if held then c.l.eLast else share - c.m.cs.i
    let extra := match eis with
      | some (a, f, t) =>
        if ff then eisDuty (rdiv 91 a (s.gangSize ld)) f (s.fget (F.CH_RPATH_RPATH n) + s.eff (F.CH_LCFG_RSTG n) * 100)
          (s.eff (F.CH_LCFG_LEQ n) * if s.flag (F.CH_STATE_NPH n) then 10 else 20) s.vbus t
        else 0
      | none => 0
    let p := rdiv 81 (s.eff (F.CH_IKP_KPI ld) * ei) div
    let d := s.dff n (s.volt ld) share + p + c.l.iint + extra
    let dmax := s.dmaxEff n
    let iint := if 0 < d ∧ d < dmax then c.l.iint + rdiv 81 (s.eff (F.CH_IKI_KII ld) * ei) div else c.l.iint
    let dc := clampI d 0 dmax
    let s1 := s.modL n fun l => { l with iint := iint, eLast := ei, dutyNext := some (dutyCode dc), engaged := true }
    if dmax < d then s1.fset (F.CH_MODE_REG ld) 3 else s1

/-- R83, R93: in CV and CCV the voltage reference has not reached V_set. -/
def OpenStep.vslews (st : OpenStep) (vref : Int) : Bool :=
  (decide (st.mode = 2) && decide (vref ≠ st.x)) || (decide (st.mode = 3) && decide (vref ≠ st.y))

/-- R85: soft start ends when iref first reaches its target or the voltage loop first governs. -/
def softEnds (mode : Nat) (o : RefOut) (iref target limi : Int) : Bool :=
  o.reg == 1 || (decide (iref = target) && (decide (mode ≠ 2) || decide (limi ≤ o.ilim)))

/-- R74: the reference part of a leader's (or a single channel's) slot: target, clamps, iref, icmd and what CH_MODE and
CH_REF show. -/
def State.refSlot (s : State) (n : Fin 128) : State :=
  let c := s.lane1 n
  let o := s.slotRef n
  let mode := match c.x.step with
    | some st => st.mode
    | none => 0
  let stepping := (decide (c.c.ph = .none) || s.lastCheckSlot n) && decide (s.chState n = stRUN ∨ s.chState n = stBRIDGE)
  let pre := s.precharge n
  let t1 := if pre then clampI o.target (-(s.preLimit n)) (s.preLimit n) else o.target
  let i1 := if stepping ∧ (mode = 6 ∨ mode = 7) then t1 else slewTo (c.l.iref - c.l.tailNow) t1 o.rate
  let tail := s.tailRef n
  let i2 := s.clampBase n (i1 + tail)
  let s1 := s.fuseMark n i2
  let iref := s.clampFuse n i2
  let code := s.scaleCode n iref
  let icmd := scaled code iref
  let cv := stepping && o.cvph && !s.flag (F.CH_MODE_CVPH n)
  let s2 := s1.modL n fun l =>
    { l with iref := iref, icmd := icmd, tailNow := tail, vint := o.vint, vsel := o.vsel, vref := o.vref, ilim := o.ilim,
             vNew := l.vNew && !stepping, clampActed := o.acted, evLast := o.ev }
  let s3 := s2.modX n fun x => match x.step with
    | some st =>
      let st := if stepping ∧ st.mode = 6 then pulseNext st else st
      let st := if cv then { st with cvAt := some ((s.nextBoundary - st.start.getD s.nextBoundary) / ms) } else st
      { x with step := some st }
    | none => x
  let s4 := (s3.fsetS (F.CH_REF_IREF n) icmd).fset (F.CH_MODE_REG n) o.reg
  let s5 := (s4.setFlag (F.CH_MODE_PRECHG n) pre).setFlag (F.CH_MODE_SLEW n)
    (decide (iref - tail ≠ t1) || (stepping && c.x.step.any fun st => st.vslews o.vref))
  let ff := (s.inject n).any fun p => decide (2000000 < p.2.1)
  let s6 := (if cv then s5.setFlag (F.CH_MODE_CVPH n) true else s5).setFlag (F.CH_MODE_EISFF n) ff
  if s.flag (F.CH_STATE_SS n) ∧ (stepping ∨ s.chState n = stSTOP) ∧ softEnds mode o (iref - tail) t1 c.x.limi then
    s6.setFlag (F.CH_STATE_SS n) false
  else s6

/-- R82: a REST step whose iref has reached zero takes both phases to mid; the switch is due to open. -/
def State.restQuiet (s : State) (n : Fin 128) : State :=
  s.each (s.gang n) fun j t =>
    ((t.modL j fun l => { l.mid with engaged := false, dutyNext := none, shedReq := false, restoreReq := false,
                                     openBy := some (l.openBy.getD (s.time + 500 * us)) }).setFlag (F.CH_STATE_NPH j) false).setFlag
      (F.CH_MODE_SKIP j) false

/-- Is the channel's open or last step a REST that goes on (R126)? -/
def State.resting (s : State) (n : Fin 128) : Bool :=
  let x := (s.lane1 n).x
  match x.step with
  | some st => decide (st.mode = 8)
  | none => decide (x.lastMode = 8)

/-- R71: the open-loop duty of the pre-bias, computed anew in each slot. -/
def State.preSlot (s : State) (n : Fin 128) : State :=
  s.modL n fun l => { l with dutyNext := some (dutyCode (clampI (s.preDuty n) 0 (s.dmaxEff n))) }

/-- R74: the loop computation of a channel's slot; a gang leader's reference serves its members in their own slots. -/
def State.loopSlot (s : State) (n : Fin 128) : State :=
  let c := s.lane1 n
  let st := s.chState n
  if st = stFOLLOW then
    let ld := s.leader n
    let size := s.gangSize ld
    let share := rdiv 91 (s.lane1 ld).l.icmd size
    if c.c.ph = .prebias then s.preSlot n
    else (s.shedCount n share).memberLoop n share (s.inject ld) (s.lane1 ld).l.engaged
  else if ¬ (st = stCHECK ∨ st = stRUN ∨ st = stSTOP ∨ st = stBRIDGE) then s
  else if c.c.ph = .prebias then s.preSlot n
  else if ¬ c.l.engaged then s
  else
    let s1 := s.refSlot n
    let l1 := (s1.lane1 n).l
    if (st = stRUN ∨ st = stBRIDGE) ∧ (c.c.ph = .quiet ∨ (c.c.ph = .none ∧ s.resting n)) ∧ l1.iref = 0 then s1.restQuiet n
    else
      let share := rdiv 91 l1.icmd (s.gangSize n)
      let s2 := s1.shedCount n share
      s2.memberLoop n share (s2.inject n) true

/-- R76: gain writes that come into force are bumpless; a gang's members use the leader's gains. -/
def State.bumpless (s : State) (n : Fin 128) : State :=
  let dk : Int := (s.eff (F.CH_IKP_KPI n) : Int) - s.fget (F.CH_IKP_KPI n)
  let dv : Int := (s.eff (F.CH_VKP_KPV n) : Int) - s.fget (F.CH_VKP_KPV n)
  if s.flag (F.CH_GANG_MEMBER n) ∨ (dk = 0 ∧ dv = 0) then s
  else (s.each (s.gang n) fun j t => t.modL j fun l => { l with iint := l.iint + dk * l.eLast }).modL n fun l =>
    { l with vint := l.vint + dv * l.evLast }

/-- R109: 100 × the largest current of which the bound stays within EMAX, m times LEQ: binary search over 16 bits. -/
def ctSearch (va leq m v2 emax : Nat) : Nat :=
  (List.range 16).foldl (fun k b =>
    let k' := k + 2 ^ (15 - b)
    if va * (37 * k' * v2 + leq * m * (k' * k')) ≤ emax * 10 ^ 5 * v2 then k' else k) 0

/-- R109: the contact-energy clamp of a channel, from the values in force. -/
def State.ctClamp (s : State) (n : Fin 128) : State :=
  let va := s.eff (F.CT_EMAX_VARC n)
  let em := s.eff (F.CT_EMAX_EMAX n)
  let leq := s.eff (F.CH_LCFG_LEQ n)
  let v2 := 2 * (s.eff (F.CH_SOFT_LIM_V0 n) + 700)
  let k1 := ctSearch va leq 1 v2 em
  let k2 := ctSearch va leq 2 v2 em
  let k40 := 40 * s.ifsTop n / (100 * (s.lane1 n).m.rshunt * 10000)
  let k := if (s.lane1 n).l.phfit then k2
    else if s.effFlag (F.CH_PWM_SHED n) then (if k40 < k1 then k1 else min k40 k2) else k1
  (s.fset (F.CH_CTCLAMP_ICT n) k).setFlag (F.CH_CTCLAMP_ACTIVE n) (decide (k < s.eff (F.CH_LIM_I_IMAX n)))

/-- R59, R62: one cycle of a phase: whether its duty is below TONMIN (in ns), so that cycles are omitted and the mean on time
holds; the on time in 39.0625 ps steps; the accumulator after it. -/
def pulse (tonmin duty per acc : Nat) : Bool × Nat × Nat :=
  let ton := tonmin * 1000000 * 2 ^ 24
  let want := duty * per
  if ton ≤ want then (false, (ndiv ((2 * want : Nat) : Int) (78125 * 2 ^ 24)).toNat, 0)
  else if ton ≤ acc + want then (true, (ndiv ((tonmin * 10000000 : Nat) : Int) 390625).toNat, acc + want - ton)
  else (true, 0, acc + want)

/-- R12, R59, R62: a phase loads the released duty at its cycle start. -/
def State.loadPhase (s : State) (n : Fin 128) (k : Fin 2) : State :=
  let l := (s.lane1 n).l
  let p := pulse (s.eff (F.CH_PWM_TONMIN n)) l.duty s.tnow l.skipAcc[k]
  let s1 := s.modL n fun l =>
    { l with dutyIn := l.dutyIn.set k l.duty, onTime := l.onTime.set k p.2.1, skipping := l.skipping.set k p.1,
             skipAcc := l.skipAcc.set k p.2.2 }
  let l1 := (s1.lane1 n).l
  s1.setFlag (F.CH_MODE_SKIP n) (l1.skipping[0] || l1.skipping[1])

/-- R61, R91: where a phase starts its cycle after phase zero, fs: by the channel's position on its card, or by the member's place
in its gang. -/
def State.cycleOff (s : State) (n : Fin 128) (phB : Bool) : Nat :=
  let ld := s.leader n
  let size := s.gangSize ld
  (if size = 1 then n.val % 8 * s.tnow / 16 else (n.val - ld.val) * s.tnow / (2 * size)) + (if phB then s.tnow / 2 else 0)

/-- R61, R270: the first cycle start at or after an elapsed time, fs, of a phase that starts so long after phase zero. -/
def State.startFrom (s : State) (off t : Nat) : Nat :=
  let o := s.clk.zero + off
  if t ≤ o then o - (o - t) / s.tnow * s.tnow else o + (t - o + s.tnow - 1) / s.tnow * s.tnow

/-- R61: the cycle of a phase that starts next in the present control period, fs (notes/assumptions/159.md). -/
def State.cycleDue (s : State) (n : Fin 128) (phB : Bool) : Option Nat :=
  let k : Fin 2 := if phB then 1 else 0
  let t := s.startFrom (s.cycleOff n phB) (max (s.time * 1000000) (s.lane1 n).l.cycNext[k])
  if t < (s.time + tCtl) * 1000000 then some t else none

/-- R62, R67: a phase that is shed goes to mid. -/
def State.shedPhase (s : State) (n : Fin 128) (phB : Bool) : State :=
  let k : Fin 2 := if phB then 1 else 0
  let s1 := s.modL n fun l =>
    { l with phA := if phB then l.phA else .mid, phB := if phB then .mid else l.phB, shedReq := false,
             skipping := l.skipping.set k false, skipAcc := l.skipAcc.set k 0 }
  let l1 := (s1.lane1 n).l
  (s1.setFlag (F.CH_STATE_NPH n) false).setFlag (F.CH_MODE_SKIP n) (l1.skipping[0] || l1.skipping[1])

/-- SWITCHING_CYCLE_START (R12, R61, R67): at the next start of the phase's cycle, if the present control period holds one: a phase
that a shed names goes to mid, a restored one starts again with the present duty, and a switching phase loads the latest
released duty. -/
def execSwitchingCycleStart (n : Fin 128) (phB : Bool) (s : State) : Host.Outcome State Fault Refusal :=
  let l := (s.lane1 n).l
  let ph := if phB then l.phB else l.phA
  let k : Fin 2 := if phB then 1 else 0
  match s.cycleDue n phB with
  | none => .next s
  | some t =>
    let s1 := s.modL n fun l => { l with cycNext := l.cycNext.set k (t + 1) }
    if l.shedReq ∧ s.flag (F.CH_STATE_KEPT n) ≠ phB ∧ ph = .run then .next (s1.shedPhase n phB)
    else if l.restoreReq ∧ ph = .mid then
      .next (((s1.modL n fun l => if phB then { l with phB := .run, restoreReq := false }
        else { l with phA := .run, restoreReq := false }).setFlag (F.CH_STATE_NPH n) true).loadPhase n k)
    else if ph = .run then .next (s1.loadPhase n k)
    else .next s

/-- PHASE_SHED (R67): after 200 periods below 30 % of I_FS with both phases running, the phase kept last time is to go to
mid at its next cycle start, and the other is kept. -/
def execPhaseShed (n : Fin 128) (s : State) : Host.Outcome State Fault Refusal :=
  if 200 ≤ (s.lane1 n).l.shedN ∧ s.flag (F.CH_STATE_NPH n) ∧ s.shedFree n then
    let s1 := (s.setFlag (F.CH_STATE_KEPT n) (!s.flag (F.CH_STATE_KEPT n))).incWrap (F.CH_STATE_SHEDS n)
    .next (s1.modL n fun l => { l with shedReq := true, shedN := 0 })
  else .next s


/-- SOFT_START_FAULT (R87, R115): |i − iref| above 10 % of I_FS in the five control samples of the 50 µs window, of a lane on its own
share. -/
def execSoftStartFault (n : Fin 128) (s : State) : Host.Outcome State Fault Refusal :=
  if 5 ≤ (s.lane1 n).p.ssN ∧ s.flag (F.CH_STATE_SS (s.leader n)) then .next (s.tripSoft n [7]) else .next s

/-- BUS_LIMIT_TRIP (R89): ten consecutive control samples with BUS_V below VMIN, or ten above VMAX. -/
def execBusLimitTrip (s : State) : Host.Outcome State Fault Refusal :=
  if 10 ≤ s.fsel.busN ∨ 10 ≤ s.fsel.busHiN then
    .next (s.each chans fun n t =>
      let st := t.chState n
      if st = stCHECK ∨ st = stRUN ∨ st = stSTOP ∨ st = stBRIDGE then t.trip n [14] 0 else t)
  else .next s

/-- R89: is BUS_V below VMIN? -/
def State.busLow (s : State) : Bool := decide (s.fsel.busUv < s.fget F.GL_BUSLIM_VMIN * 100000)

/-- R89: is BUS_V above VMAX? -/
def State.busHigh (s : State) : Bool := decide (s.fget F.GL_BUSLIM_VMAX * 100000 < s.fsel.busUv)

/-- R89: is BUS_V outside GL_BUSLIM? -/
def State.busOut (s : State) : Bool := s.busLow || s.busHigh

/-- R89: a control sample in the counts of both limits. -/
def State.busCount (s : State) : State :=
  { s with fsel := { s.fsel with busN := if s.busLow then s.fsel.busN + 1 else 0,
                                 busHiN := if s.busHigh then s.fsel.busHiN + 1 else 0 } }

/-! Shelf PWM period and sync (R58, R63–R66). -/

/-- R63, R274: is every aux converter off? One in FAULT stays off. -/
def State.axOff (s : State) : Bool :=
  (List.finRange 4).all fun j =>
    !s.ax[j].start && decide (s.fget (F.AX_STAT_STATE j) = 0 ∨ s.fget (F.AX_STAT_STATE j) = 5)

/-- R63, R349: a write of CK_PWM, judged at the write: a channel or converter in use refuses it whole; otherwise a reserved DIV
and a closed lock keep the field. -/
def State.pwmDivWrite (s : State) (val : Nat) : State :=
  if ¬ (s.allIdle ∧ s.axOff) then s.answer stBusy
  else if val < 1000 ∨ 8000 < val then s.answer stReserved
  else if s.flag F.GL_LOCK_OPEN = false then s.answer stLocked
  else
    let s1 := { s with old := regPut s.old .CK_PWM ((regFind s.old .CK_PWM).getD (s.word .CK_PWM)) }
    (s1.fset F.CK_PWM_DIV val).answer stOk

/-- PWM_DIV_WRITE (R62, R63, R6, R7): a reserved DIV, a closed lock, or a channel or converter in use keep DIV. -/
def execPwmDivWrite (val : Word) (s : State) : Host.Outcome State Fault Refusal :=
  .next (s.pwmDivWrite (bitsOf val 0 14))

/-- R64: how far an elapsed time lies from the nearest phase zero, fs. -/
def State.phaseErr (s : State) (t : Nat) : Int :=
  let r : Int := ((t : Int) - s.clk.zero) % s.tnow
  if (s.tnow : Int) < 2 * r then r - s.tnow else r

/-- R64: an edge with an interval in the window, ps: the period and the phase zero move toward it; while locked the phase zero falls
on it. -/
def State.syncEdge (s : State) (at_ dt : Nat) : State :=
  let e := s.phaseErr (at_ * 1000)
  let k := if e.natAbs < 2000000 then s.clk.syncN + 1 else 0
  let lock := s.flag F.CK_SYNCST_LOCK || decide (16 ≤ k)
  let s1 : State := { s with clk := { s.clk with
    perTo := dt * 1000, syncN := k, inWinAt := some at_, syncLost := false,
    zero := if lock then at_ * 1000 else s.clk.zero, zeroErr := if lock then 0 else e } }
  s1.setFlag F.CK_SYNCST_LOCK lock

/-- SYNC_IN_EDGE (R64): a rising edge, so many ps after the last boundary. The first edge gives no interval
(notes/assumptions/156.md). -/
def execSyncInEdge (t : Nat) (s : State) : Host.Outcome State Fault Refusal :=
  let at_ := s.time * 1000 + t
  let s1 : State := { s with clk := { s.clk with syncAt := some at_ } }
  if s.effFlag F.CK_SYNC_SYNCEN = false then .next s
  else match s.clk.syncAt with
  | none => .next s1
  | some p =>
    let dt := at_ - p
    if dt * 10 < s.tsw * 9 ∨ s.tsw * 11 < dt * 10 then .next (s1.setFlag F.CK_SYNCST_OOW true)
    else .next (s1.syncEdge at_ dt)

/-- SYNC_LOST (R65): two programmed periods without an in-window edge. -/
def execSyncLost (s : State) : Host.Outcome State Fault Refusal :=
  match s.clk.inWinAt with
  | some t =>
    if s.effFlag F.CK_SYNC_SYNCEN ∧ s.clk.syncLost = false ∧ t + 2 * s.tsw < (s.time + tCtl) * 1000 then
      let s1 := (s.setFlag F.CK_SYNCST_LOCK false).setFlag F.CK_SYNCST_LOST true
      let s2 : State := { s1 with clk := { s1.clk with perTo := s.tsw * 1000, syncN := 0, syncLost := true, zeroErr := 0 } }
      .next ((s2.setFlag F.CK_SYNCST_SLEW (decide (s2.clk.per ≠ s2.clk.perTo))).raise 399 1)
    else .next s
  | none => .next s

/-- R64, R65: what a boundary makes of SYNCEN: without it the timebase is its own again (notes/assumptions/156.md). -/
def State.syncFollow (s : State) : State :=
  if s.effFlag F.CK_SYNC_SYNCEN then
    { s with clk := { s.clk with inWinAt := some (s.clk.inWinAt.getD (s.time * 1000)) } }
  else
    { s with clk := { s.clk with perTo := s.tsw * 1000, syncN := 0, syncAt := none, inWinAt := none, syncLost := false,
                                 zeroErr := 0 } }.setFlag F.CK_SYNCST_LOCK false

/-- R61, R64, R65: at a boundary the period and the phase zero move toward their targets by at most 0.5 % of the period per ms. -/
def State.periodBoundary (s0 : State) : State :=
  let s := s0.syncFollow
  let c := s.clk
  let step : Int := (c.per * 5 / 100000 : Nat)
  let p := (slewTo c.per c.perTo step).toNat
  let z := c.zero + (s.time * 1000000 - c.zero) / c.per * c.per
  let dz := clampI c.zeroErr (-step) step
  let s1 : State := { s with clk := { c with per := p, zero := (z + dz).toNat, zeroErr := c.zeroErr - dz } }
  (s1.fset F.CK_SYNCST_PER ((ndiv p 1250000).toNat)).setFlag F.CK_SYNCST_SLEW (decide (p ≠ c.perTo))

/-- R66: the level of SYNC_OUT at an elapsed time, fs. -/
def State.syncOut (s : State) (t : Nat) : Bool :=
  s.effFlag F.CK_SYNC_OUTEN &&
    decide (2 * ((t : Int) - s.clk.zero - (s.eff F.CK_SYNC_OFFS * s.tnow / 256 : Nat)) % (2 * s.tnow) < s.tnow)

/-! Gangs (R90). -/

/-- R90: would a size misalign, reach past the last channel, or take in a channel of another gang? -/
def State.gangReserved (s : State) (n : Fin 128) (size : Nat) : Bool :=
  decide (n.val % size ≠ 0) ||
  (List.range size).any fun j =>
    let m : Fin 128 := Fin.ofNat 128 (n.val + j)
    (s.flag (F.CH_GANG_MEMBER m) && decide (s.leader m ≠ n)) || (decide (j ≠ 0) && decide (s.fget (F.CH_GANG_SIZE m) ≠ 0))

/-- R90, R113: the members of the present gang of n leave it. -/
def State.gangDissolve (s : State) (n : Fin 128) : State :=
  let s1 := s.each ((s.gang n).drop 1) fun j t =>
    let t1 := (t.setFlag (F.CH_GANG_MEMBER j) false).fset (F.CH_GANG_LEAD j) j.val
    if t.chState j = stFOLLOW then t1.fset (F.CH_STATE_STATE j) stPARKED else t1
  (s1.fset (F.CH_GANG_SIZE n) 0).settleMemb n

/-- R54, R93: what a lane takes in as it leaves PARKED: RSHUNT and PHFIT. -/
def State.leaveParked (s : State) (j : Fin 128) : State :=
  if s.chState j = stPARKED then
    (s.modM j fun m => { m with rshunt := s.fget (F.CH_SHUNT_RSHUNT j) }).modL j fun l => { l with phfit := s.flag (F.CH_PWM_PHFIT j) }
  else s

/-- R90, R18: n leads a gang of a size code; its members enter FOLLOW. -/
def State.gangForm (s : State) (n : Fin 128) (code : Nat) : State :=
  let s1 := (s.gangDissolve n).fset (F.CH_GANG_SIZE n) code
  s1.each ((s1.gang n).drop 1) fun j t =>
    (((t.leaveParked j).setFlag (F.CH_GANG_MEMBER j) true).fset (F.CH_GANG_LEAD j) n.val).fset (F.CH_STATE_STATE j) stFOLLOW

/-- R90: may the size of the gang n leads be written? A gang forms of PARKED channels; a PARKED leader dissolves its gang. -/
def State.gangFree (s : State) (n : Fin 128) (code : Nat) : Bool :=
  decide (s.chState n = stPARKED) &&
    (decide (code = 0) ||
      ((s.gang n).all (fun j => decide (s.chState j = stPARKED)) &&
        (List.range (2 ^ code)).all fun j => decide (s.chState (Fin.ofNat 128 (n.val + j)) = stPARKED)))

/-- R90, R93: a write of CH_GANG, judged at the write; it takes effect at the next boundary (notes/assumptions/157.md). -/
def State.gangWrite (s : State) (n : Fin 128) (val : Word) : State :=
  let code := bitsOf val 0 2
  if s.gangFree n code = false then s.answer stBusy
  else if s.flag (F.CH_GANG_MEMBER n) ∨ s.gangReserved n (2 ^ code) then s.answer stReserved
  else (s.modX n fun x => { x with gangPend := some code }).answer stOk

/-- R90, R93: a gang write comes into force, where what it was judged on still holds. -/
def State.gangTake (s : State) (n : Fin 128) : State :=
  match (s.lane1 n).x.gangPend with
  | none => s
  | some code =>
    let s1 := s.modX n fun x => { x with gangPend := none }
    if s.gangFree n code = false ∨ s.flag (F.CH_GANG_MEMBER n) ∨ s.gangReserved n (2 ^ code) then s1
    else if code = 0 then s1.gangDissolve n
    else s1.gangForm n code

/-- GANG_WRITE (R90). -/
def execGangWrite (n : Fin 128) (val : Word) (s : State) : Host.Outcome State Fault Refusal := .next (s.gangWrite n val)

/-! The pre-start check (R69–R73). -/

/-- R71, R85: the current loop is engaged at iref = 0, its integrator preset so that with the feedforward term the duty is the
pre-bias duty (the model's choice: notes/assumptions/150.md). -/
def State.engage (s : State) (n : Fin 128) : State :=
  s.each (s.gang n) fun j t =>
    t.modL j fun l =>
      { l with engaged := true, iref := 0, icmd := 0, tailNow := 0, tail := none, vint := 0, vsel := some 0, eLast := 0, evLast := 0,
               iint := s.preDuty j - s.dff j (s.volt n) 0 }

/-- The check's phase of a channel and its gang, its mark and cleared averages. -/
def State.checkPhase (s : State) (n : Fin 128) (ph : CheckPh) : State :=
  s.each (s.gang n) fun j t => t.modC j fun c =>
    { c with ph := ph, at_ := s.time, avV := 0, avI := 0, avC := 0, avN := 0, reached := none }

/-- Is the channel a leader or single channel in the given phase of a check? -/
def State.inCheck (s : State) (n : Fin 128) (ph : CheckPh) : Bool :=
  decide ((s.lane1 n).c.ph = ph) && decide (s.chState n = stCHECK ∨ s.chState n = stRUN)

/-- R69, R71: both phases (phase a alone with PHFIT = 1) start switching at the pre-bias duty. -/
def State.startPhases (s : State) (n : Fin 128) : State :=
  s.each (s.gang n) fun j t =>
    let two := !(t.lane1 j).l.phfit
    let d := dutyCode (clampI (t.preDuty j) 0 (t.dmaxEff j))
    ((t.modL j fun l => { l with phA := .run, phB := if two then .run else .mid, shedN := 0, shedReq := false,
                                 restoreReq := false, skipAcc := Vector.replicate 2 0, duty := d }).fset (F.CH_DUTY_DUTY j) d).setFlag
      (F.CH_STATE_NPH j) two

/-- R71, R91: the member's node is within PBTOL × 10 mV of VS. -/
def State.prebiased (s : State) (j : Fin 128) : Bool :=
  let m := (s.lane1 j).m
  decide ((m.node - s.volt (s.leader j)).natAbs ≤ s.eff (F.CH_OSW_PBTOL j) * 10000)

/-- R70, R451: the short test's mean of the stage-side node exceeds SWTH × 100 mV, or reads 6.5 V, the monitor's end. -/
def State.shorted (s : State) (j : Fin 128) : Bool :=
  let c := (s.lane1 j).c
  decide ((bitsOf c.cfg 24 8 * 100000 * c.nodeN : Nat) < c.nodeSum) ||
    (decide (c.nodeN ≠ 0) && decide ((6500000 * c.nodeN : Nat) ≤ c.nodeSum))

/-- R69, R82, R93: the check that leaving REST needs begins at the next boundary, phases at mid and the switch open. -/
def State.restCheck (s : State) (n : Fin 128) : State :=
  let s1 := s.checkPhase n .settle
  s1.each (s.gang n) fun j t => t.modC j fun c =>
    { c with restExit := true, at_ := s.time + tCtl, nodeSum := 0, nodeN := 0, cfg := s.word (.CH_CHK j) }

/-- R69, R82: REST is left for a mode that switches. Where its entry is not complete it first runs to its end
(notes/assumptions/155.md). -/
def State.leaveRest (s : State) (n : Fin 128) : State :=
  if (s.lane1 n).l.engaged ∨ (s.gang n).any (fun j => s.flag (F.CH_STATE_OSWC j)) then s.checkPhase n .quiet else s.restCheck n

/-- REST_SWITCH_OPEN (R82, R69): after REST entry, a switch opens when |i| < 50 mA or 500 µs after iref reached zero; a check that
waits for it begins once every switch of the gang is open. -/
def execRestSwitchOpen (n : Fin 128) (s : State) : Host.Outcome State Fault Refusal :=
  let ld := s.leader n
  let wait := decide ((s.lane1 ld).c.ph = .quiet)
  match (s.lane1 n).l.openBy with
  | some t =>
    if (s.chState ld = stRUN ∨ s.chState ld = stBRIDGE) ∧ (s.resting ld ∨ wait) ∧ (s.lowCurrent n ∨ t ≤ s.time) then
      let s1 := s.openSwitch n
      .next (if wait then s1.leaveRest ld else s1)
    else .next s
  | none => .next s

/-- CHECK_SHORT_TEST (R69, R70): at t2. -/
def execCheckShortTest (n : Fin 128) (s : State) : Host.Outcome State Fault Refusal :=
  if s.inCheck n .settle ∧ (s.lane1 n).c.at_ + 300 * us ≤ s.time then
    match (s.gang n).find? s.shorted with
    | some j => .next (s.checkFail j 2)
    | none => .next ((s.checkPhase n .prebias).startPhases n)
  else .next s

/-- CHECK_PREBIAS_REACHED (R69, R71): at t3, a boundary after t2, the switch is commanded closed and the current loop engages at 0 A. -/
def execCheckPrebiasReached (n : Fin 128) (s : State) : Host.Outcome State Fault Refusal :=
  if s.inCheck n .prebias ∧ (s.lane1 n).c.at_ < s.time ∧ (s.gang n).all s.prebiased then
    let s1 := (s.checkPhase n .closing).engage n
    .next (s1.each (s.gang n) fun j t => (t.setFlag (F.CH_STATE_OSWC j) true).modL j fun l => { l with openBy := none })
  else .next s

/-- CHECK_PREBIAS_TIMEOUT (R71): 500 µs after t2. -/
def execCheckPrebiasTimeout (n : Fin 128) (s : State) : Host.Outcome State Fault Refusal :=
  if s.inCheck n .prebias ∧ (s.lane1 n).c.at_ + 500 * us ≤ s.time then
    match (s.gang n).find? fun j => !s.prebiased j with
    | some j => .next (s.checkFail j 3)
    | none => .next s
  else .next s

/-- R121: the open step of a channel starts at a boundary: its captures are bound (R156) and the slope engine's windows
restart (R172). -/
def State.stepBegins (s : State) (n : Fin 128) (t : Nat) : State :=
  let s1 := s.modX n fun x => match x.step with
    | some st => { x with step := some { st with start := some t } }
    | none => x
  s1.modK n fun k =>
    { k with caps := k.caps.map (fun c => { c with ts := some (c.ts.getD t) }), dvFrom := t, dvN := 0, dvSeen := 0, dvSt := 0,
             dvSv := 0, dvStt := 0, dvStv := 0, dvReady := none, slope := 0 }

/-- R78: a CV step is a CV phase from its start time. -/
def State.cvStart (s : State) (n : Fin 128) : State :=
  if (s.lane1 n).x.step.any fun st => decide (st.mode = 2 ∧ st.start = some s.ctr) then s.setFlag (F.CH_MODE_CVPH n) true else s

/-- R121, R85: a step that waited for the check of R82 starts at this boundary, in soft start. -/
def State.startWaiting (s : State) (n : Fin 128) : State :=
  let s1 := (((s.checkPhase n .none).stepBegins n s.ctr).each (s.gang n) fun j t => t.modC j fun c => { c with restExit := false }).cvStart n
  s1.setFlag (F.CH_STATE_SS n) true

/-- CHECK_SWITCH_SETTLED (R69): TCLOSE after t3; a check on leaving REST ends here. -/
def execCheckSwitchSettled (n : Fin 128) (s : State) : Host.Outcome State Fault Refusal :=
  if s.inCheck n .closing ∧ (s.lane1 n).c.at_ + s.eff (F.CH_OSW_TCLOSE n) * (100 * us) ≤ s.time then
    if (s.lane1 n).c.restExit then .next (s.startWaiting n) else .next (s.checkPhase n .zero)
  else .next s

/-- R72: the learning target after the clamps of R98: the sum over the gang of ILRN × 100 mA. -/
def State.learnTarget (s : State) (n : Fin 128) : Int × Bool :=
  let i : Int := bitsOf (s.lane1 n).c.cfg 0 8 * 100000 * s.gangSize n
  let low := decide (s.volt n < s.eff (F.CH_SOFT_LIM_V0 n) * 1000)
  let i0 : Int := s.eff (F.CH_SOFT_LIM_I0 n) * 1000
  let t := if low ∧ i0 < i then i0 else i
  (s.clampFuse n (s.clampBase n t), low && decide (i0 < i))

/-- CHECK_ZERO_POINT_DONE (R69, R72): 1 ms after t4. -/
def execCheckZeroPointDone (n : Fin 128) (s : State) : Host.Outcome State Fault Refusal :=
  if s.inCheck n .zero ∧ (s.lane1 n).c.at_ + ms ≤ s.time then
    let (t, low) := s.learnTarget n
    let s1 := s.each (s.gang n) fun j u => u.modC j fun c =>
      { c with vfd0 := if c.avN = 0 then c.avV else rdiv 72 c.avV c.avN, ilrn := t, lowi := low }
    .next (s1.checkPhase n .ramp)
  else .next s

/-- CHECK_LEARN_SETTLED (R69): 200 µs after iref reached the learning target. -/
def execCheckLearnSettled (n : Fin 128) (s : State) : Host.Outcome State Fault Refusal :=
  match (s.lane1 n).c.reached with
  | some t => if s.inCheck n .ramp ∧ t + 200 * us ≤ s.time then .next (s.checkPhase n .learn) else .next s
  | none => .next s

/-- R72: R_path of a member in µΩ, or the code its check fails with. Means are of 1 ms windows: VFD in µV, current in
µA. -/
def State.pathOf (s : State) (j : Fin 128) : Nat ⊕ Nat :=
  let c := (s.lane1 j).c
  if c.avN = 0 ∨ c.avC < 20000 * c.avN ∨ 2 * c.avI.natAbs < c.avC.natAbs ∨ c.avI = 0 then .inr 5
  else
    let num := (c.avV - c.vfd0 * c.avN) * 1000000
    let r := if 0 < c.avI then rdiv 72 num c.avI.natAbs else rdiv 72 (-num) c.avI.natAbs
    if r < bitsOf c.cfg 8 8 * 100 then .inr 4
    else if (bitsOf c.cfg 16 8 * 500 : Nat) < r then .inr 5
    else .inl r.toNat

/-- CHECK_RPATH_LEARNED (R72): 1 ms after t6. -/
def execCheckRpathLearned (n : Fin 128) (s : State) : Host.Outcome State Fault Refusal :=
  if s.inCheck n .learn ∧ (s.lane1 n).c.at_ + ms ≤ s.time then
    match (s.gang n).find? fun j => (s.pathOf j).isRight with
    | some j => .next (s.checkFail j (match s.pathOf j with
        | .inl _ => 5
        | .inr k => k))
    | none =>
      let s1 := s.each (s.gang n) fun j t => match s.pathOf j with
        | .inl r => ((t.fset (F.CH_RPATH_RPATH j) r).setFlag (F.CH_RPATH_LOWI j) (s.lane1 j).c.lowi).setFlag (F.CH_RPATH_VALID j) true
        | .inr _ => t
      .next (s1.checkPhase n .down)
  else .next s

/-- CHECK_PASS (R69, R91, R111): iref is back at 0; the gang enters RUN and the program starts at its entry. DRIFT clears here, as
the check passes (the model's choice: notes/assumptions/154.md). -/
def execCheckPass (n : Fin 128) (s : State) : Host.Outcome State Fault Refusal :=
  if s.inCheck n .down ∧ s.chState n = stCHECK ∧ (s.lane1 n).l.iref = 0 then
    let s1 := (s.checkPhase n .none).each (s.gang n) fun j t => t.fset (F.CH_STATE_CHK j) 1
    let s2 := s1.each (s.gang n) fun j t => t.setFlag (F.CH_CTWEAR_DRIFT j) false
    .next (s2.fset (F.CH_STATE_STATE n) stRUN)
  else .next s

end Sys2Proof.Machine
end

