-- ==== Sys2Proof/Machine/Feeds.lean ====
section
/-! DEFINITION. The shelf feeds (R226–R243): states, bounces and lock-out, the pass-FET check, the fault timer, turn-off,
selection and changeover, the bus capacitance and the metering; and the shelf's entry into RIDE and return to SERVICE
(R20). -/

namespace Sys2Proof.Machine

open Sys2Proof

/-- One feed. -/
def State.feed (s : State) (f : Fin 2) : FeedSt := s.fd[f]

/-- Change one feed. -/
def State.modF (s : State) (f : Fin 2) (g : FeedSt → FeedSt) : State := { s with fd := s.fd.set f (g s.fd[f]) }

/-- Change what the feeds share. -/
def State.modSel (s : State) (g : FeedSel → FeedSel) : State := { s with fsel := g s.fsel }

/-- Change the hold-up state. -/
def State.modHu (s : State) (g : HoldSt → HoldSt) : State := { s with hu := g s.hu }

/-- FD_FSTAT.STATE (R227). -/
def State.feedState (s : State) (f : Fin 2) : Nat := s.fget (F.FD_FSTAT_STATE f)

/-- The other feed. -/
def otherFeed (f : Fin 2) : Fin 2 := if f = 0 then 1 else 0

/-- A feed in CHECK, RAMP or ON (R234). -/
def State.feedBusy (s : State) (f : Fin 2) : Bool := decide (3 ≤ s.feedState f ∧ s.feedState f ≤ 5)

/-- R231: the fault timer at an elapsed time, in 1/16 of a tick: 16 up per tick while LIM = 1, 1 down while LIM = 0. -/
def State.feedTimer (s : State) (f : Fin 2) (t : Nat) : Nat :=
  let x := s.feed f
  let n := (t - x.tmrAt) / us
  if s.flag (F.FD_FSTAT_LIM f) then x.tmr + 16 * n else x.tmr - n

/-- R230, R231: the limit begins or ends to hold the gate back at an elapsed time. -/
def State.setLim (s : State) (f : Fin 2) (on : Bool) (t : Nat) : State :=
  (s.modF f fun x => { x with tmr := s.feedTimer f t, tmrAt := t }).setFlag (F.FD_FSTAT_LIM f) on

/-- R230: I_RUN of a feed, µA. -/
def State.iRun (s : State) (f : Fin 2) : Nat := s.fget (F.FD_ILIM_RUN f) * 25 * 10 ^ 9 / s.fget (F.FD_RSH_RSH f)

/-- R230: the limit in force, µA: below UV the pre-charge power limit as well. -/
def State.feedLimit (s : State) (f : Fin 2) : Nat :=
  let d := (s.feed f).vin - s.fsel.busUv
  if s.fsel.busUv < s.fget (F.FD_FCFG_UV f) * 500000 ∧ 0 < d then
    min (s.iRun f) (s.fget (F.FD_ILIM_PLIM f) * 10 ^ 12 / d.natAbs)
  else s.iRun f

/-- R230: how far a limit may lie from its value, µA: 3 % and 0.2 mV / FD_RSH. -/
def State.limitTol (s : State) (f : Fin 2) : Nat := s.feedLimit f * 3 / 100 + 2 * 10 ^ 11 / s.fget (F.FD_RSH_RSH f)

/-- R227: VIN in the window that a feed enters: UV + 1 V to OV − 1 V. -/
def State.inEntry (s : State) (f : Fin 2) (vin : Int) : Bool :=
  decide (s.fget (F.FD_FCFG_UV f) * 500000 + 1000000 ≤ vin ∧ vin + 1000000 ≤ s.fget (F.FD_FCFG_OV f) * 500000)

/-- R227: VIN below UV, and above OV. -/
def State.vinLow (s : State) (f : Fin 2) (vin : Int) : Bool := decide (vin < s.fget (F.FD_FCFG_UV f) * 500000)
/-- R227. -/
def State.vinHigh (s : State) (f : Fin 2) (vin : Int) : Bool := decide (s.fget (F.FD_FCFG_OV f) * 500000 < vin)

/-- R234: the feed in service, as FD_SEL.SERV codes it: the feed in ON, or the incoming feed of a changeover. -/
def State.servCode (s : State) : Nat :=
  if s.feedState 0 = 5 then 1 else if s.feedState 1 = 5 then 2
  else match s.fsel.incoming with
    | some f => f.val + 1
    | none => 0

/-- SERV follows the feeds. -/
def State.setServ (s : State) : State := s.fset F.FD_SEL_SERV s.servCode

/-- R237: a capacitance attempt ends without a valid result, or with one. -/
def State.capEnd (s : State) (f : Fin 2) (last : Nat) : State :=
  (((s.modSel fun x => { x with cap := none }).fset F.FD_CBUS_LAST last).fset F.FD_CBUS_FEED f.val).raise 263 0

/-- R227, R237: a RAMP ends: a measurement whose window has begun is not completed; one whose window is complete is still to be
reported. -/
def State.capAbandon (s : State) (f : Fin 2) : State := match s.fsel.cap with
  | some w =>
    if w.f ≠ f ∨ w.done then s
    else if w.v0.isSome then s.capEnd f 4 else s.modSel fun x => { x with cap := none }
  | none => s

/-- R236: a changeover ends; a write of FD_SEL that waited takes effect. -/
def State.endChange (s : State) (f : Fin 2) : State :=
  if s.fsel.incoming = some f then { s.modSel fun x => { x with incoming := none } with old := regDrop s.old .FD_SEL } else s

/-- R227, R233, R240: a feed changes state. Leaving RAMP or ON turns its gate off, which is then to be confirmed. -/
def State.setFeed (s : State) (f : Fin 2) (st : Nat) : State :=
  let was := s.feedState f
  if was = st then s
  else
    let off := decide ((was = 4 ∨ was = 5) ∧ st ≠ 4 ∧ st ≠ 5)
    let s1 := if off then
        ((s.setLim f false s.time).setFlag (F.FD_FSTAT_PG f) false).modF f fun x => { x with offAt := some s.time, offLate := false }
      else s
    let s2 := if was = 4 then s1.capAbandon f else s1
    let s3 := (s2.modF f fun x => { x with since := s.time, passed := false, offAt := if st = 4 then none else x.offAt }).fset
      (F.FD_FSTAT_STATE f) st
    let s4 := if st = 0 ∨ 5 ≤ st then s3.endChange f else s3
    (s4.setServ).raise (256 + f.val) 0

/-- R20, R329, R254: the shelf enters RIDE when no feed is connected and none is being brought in; the charger stops. -/
def State.rideCheck (s : State) : State :=
  if s.shelf = shSERVICE ∧ s.feedOn = false ∧ s.fsel.incoming = none then
    ((s.fset F.GL_STATE_SHELF shRIDE).fset F.HU_STAT_CHG 0).leaveSleep.modHu fun h => { h with rideAt := s.time }
  else s

/-- R233: the other feed may still conduct. -/
def State.otherOff (s : State) (f : Fin 2) : Bool := (s.feed (otherFeed f)).offAt.isSome

/-- R229: a shorted FET is known. -/
def State.fetShort (s : State) (f : Fin 2) : Bool := s.flag (F.FD_FLT_SHIN f) || s.flag (F.FD_FLT_SHBUS f)

/-- R234, R229, R250: a READY feed that may be selected: no FET of it is known to be shorted, and in RIDE or HALT BUS_V ≤ VIN − 0.5 V. -/
def State.feedReady (s : State) (f : Fin 2) : Bool :=
  decide (s.feedState f = 2) && !s.fetShort f &&
    (decide (s.shelf ≠ shRIDE ∧ s.shelf ≠ shHALT) || decide (s.fsel.busUv ≤ (s.feed f).vin - 500000))

/-- R234: with OCFO = 0, MODE 0 selects no feed while TMR stays latched on either feed. -/
def State.tmrBlocks (s : State) : Bool :=
  decide (s.eff F.FD_SEL_MODE = 0 ∧ s.eff F.FD_SEL_OCFO = 0) && (s.flag (F.FD_FLT_TMR 0) || s.flag (F.FD_FLT_TMR 1))

/-- R234, R235: a feed is selected. A changeover from the feed `was` (SERV code) raises event 260; the check starts once the
other feed's turn-off is confirmed. -/
def State.pickFeed (s : State) (f : Fin 2) (was : Nat) : State :=
  if was ≠ 0 ∧ was ≠ f.val + 1 then
    let s1 := ((s.modSel fun x => { x with incoming := some f }).incWrap F.FD_CNT_CHG).raise 260 1
    if s1.otherOff f then s1.setServ else s1.setFeed f 3
  else if s.otherOff f then s
  else s.setFeed f 3

/-- R234: a feed the mode does not allow is turned off. -/
def State.deselect (s : State) (f : Fin 2) : State := if s.feedBusy f then s.setFeed f 2 else s

/-- R234: MODE 1 and 2: one feed only. -/
def State.selectOnly (s : State) (f : Fin 2) (was : Nat) : State :=
  let s1 := s.deselect (otherFeed f)
  if s1.feedBusy f then s1 else if s1.feedReady f then s1.pickFeed f was else s1

/-- R234: MODE 0. -/
def State.selectAuto (s : State) (was : Nat) : State :=
  if s.tmrBlocks then s
  else if s.feedBusy 0 = false ∧ s.feedBusy 1 = false then
    if s.feedReady 0 then s.pickFeed 0 was else if s.feedReady 1 then s.pickFeed 1 was else s
  else if s.feedState 1 = 5 ∧ s.feedReady 0 ∧ s.eff F.FD_SEL_RETA = 1 then s.pickFeed 0 2
  else s

/-- R234, R241: SERV before what happened in the tick: that of a feed that serves, else as the last tick left it. -/
def State.wasServ (s : State) : Nat := if s.servCode = 0 then s.fsel.was else s.servCode

/-- R234, R235: the selection. `was` is SERV before what happened in the tick. -/
def State.feedEval (s : State) (was : Nat) : State :=
  match s.fsel.incoming with
  | some f => if s.feedState f = 2 ∧ s.otherOff f = false ∧ s.feedState (otherFeed f) ≠ 5 then s.setFeed f 3 else s
  | none =>
    if s.fsel.enabled = false then s
    else if s.eff F.FD_SEL_MODE = 0 then s.selectAuto was
    else if s.eff F.FD_SEL_MODE = 1 then s.selectOnly 0 was
    else if s.eff F.FD_SEL_MODE = 2 then s.selectOnly 1 was
    else (s.deselect 0).deselect 1

/-- R227: a feed in ABSENT whose VIN lies in the window. -/
def State.feedQual (s : State) (f : Fin 2) : State :=
  if s.fsel.enabled ∧ s.feedState f = 0 ∧ (s.feed f).inWin ∧ s.flag (F.FD_FCFG_EN f) then s.setFeed f 1 else s

/-- R20, R227, R234: the end of a feed tick: a feed whose VIN is in the window qualifies, the selection, and the shelf's loss of its
feeds. -/
def State.feedTick (s : State) : State :=
  let s1 := (((s.feedQual 0).feedQual 1).feedEval s.wasServ).rideCheck
  s1.modSel fun x => { x with was := s1.servCode }

/-- R227, R240: a feed enters FAULT with a bit of FD_FLT. -/
def State.faultFeed (s : State) (f : Fin 2) (bit : Nat) : State :=
  let was := s.wasServ
  let s1 := s.setWord (.FD_FLT f) (s.word (.FD_FLT f) ||| BitVec.ofNat 32 (2 ^ bit))
  (((s1.incWrap (F.FD_FLT_TRIPS f)).setFeed f 6).raise (258 + f.val) 2).feedEval was

/-- R228: the bounce history is the eighth within 10 s. -/
def chatters (now : Nat) (b : List Nat) : Bool := decide (b.length = 8) && b.all fun t => decide (now ≤ t + 10 * sec)

/-- R227, R228: VIN leaves the window of a feed that is past ABSENT: a bounce, and ABSENT or LOCKED. -/
def State.bounceFeed (s : State) (f : Fin 2) : State :=
  let was := s.wasServ
  let b := (s.time :: (s.feed f).bounces).take 8
  let s1 := s.modF f fun x => { x with bounces := b }
  let s2 := if chatters s.time b then ((s1.setFlag (F.FD_FLT_LOCK f) true).setFeed f 7).raise (261 + f.val) 1
    else s1.setFeed f 0
  s2.feedEval was

/-- R227: VIN leaves the window, or is taken as having left it (R231, R247). -/
def State.vinLeave (s : State) (f : Fin 2) : State :=
  let s1 := s.modF f fun x => { x with inWin := false }
  if 1 ≤ s.feedState f ∧ s.feedState f ≤ 5 then s1.bounceFeed f else s1

/-- VIN_ENTER_WINDOW (R227, R241): a feed tick finds VIN inside the entry window. A feed past ABSENT stays where it is. -/
def execVinEnterWindow (f : Fin 2) (vin : Int) (s : State) : Host.Outcome State Fault Refusal :=
  if s.inEntry f vin then .next ((s.modF f fun x => { x with inWin := true }).feedQual f) else .next s

/-- VIN_LEAVE_WINDOW (R227, R228, R241): VIN below UV for 10 µs or above OV for 1 µs. -/
def execVinLeaveWindow (f : Fin 2) (vin : Int) (held : Nat) (s : State) : Host.Outcome State Fault Refusal :=
  if (s.vinLow f vin ∧ 10 * us ≤ held) ∨ (s.vinHigh f vin ∧ us ≤ held) then .next (s.vinLeave f) else .next s

/-- FEED_QUALIFIED (R227): VIN in the window for FD_QUAL ms. -/
def execFeedQualified (f : Fin 2) (s : State) : Host.Outcome State Fault Refusal :=
  if s.feedState f = 1 ∧ (s.feed f).inWin ∧ s.reached ((s.feed f).since + s.fget F.FD_QUAL_QUAL * ms) then
    .next ((s.setFeed f 2).feedEval s.wasServ)
  else .next s

/-- R229: what the check finds, from VIN, and MID at the end of step 1 and of step 2, in mV: none for a pass, else the bit
of FD_FLT. Step 2 runs only while BUS_V is below 5 V. -/
def checkResult (vin mid mid2 bus : Int) : Option Nat :=
  if 2000 < mid then (if (mid - vin).natAbs ≤ 1000 then some 2 else some 3)
  else if bus < 5000000 then (if 350000 ≤ mid2 * 1000 - bus then none else some 3)
  else none

/-- R227, R233, R237: the gate of a feed whose check has passed is driven once the other feed is confirmed off. -/
def State.rampIfClear (s : State) (f : Fin 2) : State :=
  if s.feedState f = 3 ∧ (s.feed f).passed ∧ s.otherOff f = false ∧ s.feedState (otherFeed f) ≠ 5 ∧ s.fetShort f = false then
    let s1 := s.setFeed f 4
    if s.fsel.busUv < s.fget (F.FD_FCFG_UV f) * 100000 then s1.modSel fun x => { x with cap := some { f := f } } else s1
  else s

/-- R229: how long the check takes: step 1, and step 2 while BUS_V is below 5 V. -/
def State.checkTime (s : State) : Nat := if s.fsel.busUv < 5000000 then 150 * us else 100 * us

/-- FEED_CHECK_DONE (R229, R234): the check's steps have run; on a pass the feed that still serves is turned off first (break before
make). -/
def execFeedCheckDone (f : Fin 2) (vin mid mid2 : Int) (s : State) : Host.Outcome State Fault Refusal :=
  if s.feedState f = 3 ∧ (s.feed f).passed = false ∧ s.reached ((s.feed f).since + s.checkTime) then
    match checkResult vin mid mid2 s.fsel.busUv with
    | some bit => .next (s.faultFeed f bit)
    | none =>
      let s1 := s.modF f fun x => { x with passed := true }
      .next ((s1.deselect (otherFeed f)).rampIfClear f)
  else .next s

/-- R232: the gate has been fully enhanced, 10 V over MID, without limiting for 1 ms. -/
def State.enhanced (s : State) (f : Fin 2) (gs : Int) (held : Nat) : Bool :=
  !s.flag (F.FD_FSTAT_LIM f) && decide (10000000 ≤ gs ∧ ms ≤ held) && s.reached (max (s.feed f).since (s.feed f).tmrAt + ms)

/-- FEED_ON (R227, R232, R20, R267): enhanced without limiting for 1 ms. A feed that reaches ON brings the shelf back from
RIDE, unless the ride timer expires in this period. -/
def execFeedOn (f : Fin 2) (gs : Int) (held : Nat) (s : State) : Host.Outcome State Fault Refusal :=
  if s.enhanced f gs held = false then .next s
  else if s.feedState f = 4 then
    let s1 := ((s.setFeed f 5).setFlag (F.FD_FSTAT_PG f) true).modHu fun h => { h with fed := true }
    let s2 := if s1.shelf = shRIDE ∧ s.time + tCtl < s.hu.rideAt + s.fget F.HU_RIDE_TMAX * sec then
        s1.fset F.GL_STATE_SHELF shSERVICE else s1
    .next (s2.feedEval s.wasServ)
  else if s.feedState f = 5 then .next (s.setFlag (F.FD_FSTAT_PG f) true)
  else .next s

/-- FEED_RAMP_TIMEOUT (R227): RAMP for longer than 4 × TFLT. -/
def execFeedRampTimeout (f : Fin 2) (s : State) : Host.Outcome State Fault Refusal :=
  if s.feedState f = 4 ∧ s.reached ((s.feed f).since + 4 * s.fget (F.FD_FCFG_TFLT f) * ms) then .next (s.faultFeed f 4)
  else .next s

/-- FEED_FAULT_TIMER (R231, R241): the timer reaches TFLT × 1,000 within the present period. -/
def execFeedFaultTimer (f : Fin 2) (s : State) : Host.Outcome State Fault Refusal :=
  if (s.feedState f = 4 ∨ s.feedState f = 5)
      ∧ s.fget (F.FD_FCFG_TFLT f) * 16000 ≤ max (s.feed f).tmr (s.feedTimer f (s.time + tCtl)) then .next (s.faultFeed f 0)
  else .next s

/-- R231: the reverse-current comparator: −(IS_P − IS_M) above FD_ILIM.REV × 0.5 mV. -/
def State.reverse (s : State) (f : Fin 2) (uv : Int) : Bool := decide ((s.fget (F.FD_ILIM_REV f) * 500 : Int) < -uv)

/-- REVERSE_TRIP (R231, R227, R241): with VIN in the window REV is latched; out of it, a loss of feed. -/
def execReverseTrip (f : Fin 2) (uv vin : Int) (s : State) : Host.Outcome State Fault Refusal :=
  if (s.feedState f = 4 ∨ s.feedState f = 5) ∧ s.reverse f uv then
    if (s.feed f).inWin ∧ ¬ s.vinLow f vin ∧ ¬ s.vinHigh f vin then .next (s.faultFeed f 1) else .next (s.vinLeave f)
  else .next s

/-- FEED_CURRENT_LIMITING (R230–R232): at a tick of the period, the limit in force begins or ends to hold the gate of a feed in RAMP or
ON back, as the feed's current allows; limiting takes PG away. -/
def execFeedCurrentLimiting (f : Fin 2) (on : Bool) (i : Int) (tick : Fin 10) (s : State) : Host.Outcome State Fault Refusal :=
  let ok := if on then decide ((s.feedLimit f : Int) ≤ i + s.limitTol f) else decide (i ≤ s.feedLimit f + s.limitTol f)
  if (s.feedState f = 4 ∨ s.feedState f = 5) ∧ ok then
    let s1 := s.setLim f on (max (s.feed f).tmrAt (s.time + tick.val * us))
    .next (if on then s1.setFlag (F.FD_FSTAT_PG f) false else s1)
  else .next s

/-- TURNOFF_CONFIRMED (R233–R235): gate − MID below 2 V and the feed current below 2 % of I_RUN. -/
def execTurnoffConfirmed (f : Fin 2) (gs i : Int) (s : State) : Host.Outcome State Fault Refusal :=
  match (s.feed f).offAt with
  | some _ =>
    if gs < 2000000 ∧ i.natAbs * s.fget (F.FD_RSH_RSH f) < s.fget (F.FD_ILIM_RUN f) * 500000000 then
      let s1 := s.modF f fun x => { x with offAt := none, offLate := false }
      .next ((s1.rampIfClear (otherFeed f)).feedEval s.wasServ)
    else .next s
  | none => .next s

/-- TURNOFF_TIMEOUT (R233): 50 µs without confirmation latch GATE once; the other feed stays off. -/
def execTurnoffTimeout (f : Fin 2) (s : State) : Host.Outcome State Fault Refusal :=
  match (s.feed f).offAt with
  | some t =>
    if (s.feed f).offLate = false ∧ s.reached (t + 50 * us) then
      .next (((s.modF f fun x => { x with offLate := true }).setFlag (F.FD_FLT_GATE f) true).raise (258 + f.val) 2)
    else .next s
  | none => .next s

/-- FEED_LOCKOUT_END (R228, R241). -/
def execFeedLockoutEnd (f : Fin 2) (s : State) : Host.Outcome State Fault Refusal :=
  if s.feedState f = 7 ∧ s.reached ((s.feed f).since + 60 * sec) then
    .next ((s.modF f fun x => { x with bounces := [] }).setFeed f 0)
  else .next s

/-- R227: host clears of FD_FLT; a feed in FAULT whose TMR, REV, SHIN, SHBUS and GATE are all clear returns to ABSENT. -/
def State.feedClear (s : State) (f : Fin 2) (val : Word) : State :=
  let s1 := s.writeReg (.FD_FLT f) val
  let s2 := if s1.feedState f = 6 ∧ bitsOf (s1.word (.FD_FLT f)) 0 5 = 0 then
      (s1.modF f fun x => { x with tmr := 0, tmrAt := s.time, bounces := [] }).setFeed f 0
    else s1
  s2.feedEval s.wasServ

/-- FEED_FAULT_CLEAR (R227, R234). -/
def execFeedFaultClear (f : Fin 2) (val : Word) (s : State) : Host.Outcome State Fault Refusal := .next (s.feedClear f val)

/-- R227: EN written 0: ABSENT with the gate off, from any state. -/
def State.feedDisable (s : State) (f : Fin 2) : State :=
  ((s.setFlag (F.FD_FCFG_EN f) false).setFeed f 0).feedEval s.wasServ

/-- FEED_DISABLE (R227, R243): EN is an RWL field. -/
def execFeedDisable (f : Fin 2) (s : State) : Host.Outcome State Fault Refusal :=
  if s.flag F.GL_LOCK_OPEN then .next ((s.feedDisable f).answer stOk) else .next (s.answer stLocked)

/-- R236: a host write of FD_SEL; during a changeover it waits for the incoming feed to reach ON or FAULT. -/
def State.feedSelWrite (s : State) (val : Word) : State :=
  let was := s.word .FD_SEL
  let s1 := s.writeReg .FD_SEL val
  if s.fsel.incoming.isSome ∧ s1.word .FD_SEL ≠ was then
    { s1 with old := regPut s.old .FD_SEL ((regFind s.old .FD_SEL).getD was) }
  else s1.feedEval s.wasServ

/-- FEED_SELECT_WRITE (R236, R242). -/
def execFeedSelectWrite (val : Word) (s : State) : Host.Outcome State Fault Refusal := .next (s.feedSelWrite val)

/-- R237, R238: a valid capacitance result, in 10 µF. -/
def State.capResult (s : State) (f : Fin 2) (c : Nat) : State :=
  let s1 := (((s.fset F.FD_CBUS_C (min c 65535)).setFlag F.FD_CBUS_VALID true).capEnd f 1)
  if s.fget F.FD_CMAX_CMAX < c then ((s1.setFlag F.FD_CBUS_OVER true).raise 264 3).enterSafe 5
  else s1.setFlag F.FD_CBUS_OVER false

/-- R237: AX0–AX3 are off. -/
def State.auxIdle (s : State) : Bool := (List.finRange 4).all fun j => decide (s.fget (F.AX_STAT_STATE j) = 0)

/-- R237: a metering instant of a RAMP whose measurement is under way: the window opens at 0.2 × UV and is complete at 0.9 × UV; what
spoils it is noted throughout. -/
def State.capTake (s : State) (w : CapWin) (i : Int) : CapWin :=
  let uv := s.fget (F.FD_FCFG_UV w.f)
  if w.done ∨ s.feedState w.f ≠ 4 then w
  else match w.v0 with
  | none => if uv * 100000 ≤ s.fsel.busUv then
      { w with v0 := some s.fsel.busUv, load := !s.allIdle || !s.auxIdle, pack := decide (s.fget F.HU_STAT_PATH = 3) } else w
  | some v =>
    { w with q := w.q + i, dv := s.fsel.busUv - v, load := w.load || !s.allIdle || !s.auxIdle,
             pack := w.pack || decide (s.fget F.HU_STAT_PATH = 3), done := decide (uv * 450000 ≤ s.fsel.busUv) }

/-- R237: the capacitance of a complete window, 10 µF: ∫I dt over 2 µs instants, over the rise. -/
def CapWin.cap (w : CapWin) : Nat := (rdiv 237 w.q (5 * w.dv.natAbs)).toNat

/-- BUS_CAP_MEASURED (R237, R238): the result of a complete window, valid only with every channel PARKED or ABSENT, AX0–AX3 off and
no conduction of the hold-up path through it. -/
def execBusCapMeasured (s : State) : Host.Outcome State Fault Refusal :=
  match s.fsel.cap with
  | none => .next s
  | some w =>
    if w.done = false then .next s
    else if w.load then .next (s.capEnd w.f 2)
    else if w.pack then .next (s.capEnd w.f 3)
    else .next (s.capResult w.f w.cap)

/-- R239: one 2 µs product into the counter of its sign, with 32 fractional bits of a mJ. -/
def State.meterEnergy (s : State) (f : Fin 2) (p : Int) : State :=
  let add := (rdiv 239 ((p.natAbs : Int) * 2 * 2 ^ 32) (10 ^ 15)).toNat
  if 0 ≤ p then
    let t := (s.feed f).inFrac + add
    (s.modF f fun x => { x with inFrac := t % 2 ^ 32 }).setWord64 (.FD_EIN f) (.FD_EINH f)
      (s.word64 (.FD_EIN f) (.FD_EINH f) + t / 2 ^ 32)
  else
    let t := (s.feed f).outFrac + add
    (s.modF f fun x => { x with outFrac := t % 2 ^ 32 }).setWord64 (.FD_EOUT f) (.FD_EOUTH f)
      (s.word64 (.FD_EOUT f) (.FD_EOUTH f) + t / 2 ^ 32)

/-- R239: one metering instant of a feed. -/
def State.meterFeed (s : State) (f : Fin 2) (v i : Int) : State :=
  (s.modF f fun x =>
    { x with vin := v, pNow := v * i, vSum := x.vSum + v, iSum := x.iSum + i, pSum := x.pSum + v * i }).meterEnergy f (v * i)

/-- R239: the 1 ms means of a feed: mV, mA, mW. -/
def State.meterPublish (s : State) (f : Fin 2) : State :=
  let x := s.feed f
  let s1 := (s.setWord (.FD_V f) (wordOf (rdiv 239 x.vSum 500000))).setWord (.FD_I f) (wordOf (rdiv 239 x.iSum 500000))
  (s1.setWord (.FD_P f) (wordOf (rdiv 239 x.pSum 500000000000))).modF f fun x => { x with vSum := 0, iSum := 0, pSum := 0 }

/-- R227, R232: what a metering instant shows of a feed: its VIN back in the window, its gate no longer enhanced. -/
def State.meterGate (s : State) (f : Fin 2) (vin gs : Int) : State :=
  let s1 := s.modF f fun x => { x with inWin := x.inWin || s.inEntry f vin }
  if s.flag (F.FD_FSTAT_PG f) ∧ gs < 9000000 then s1.setFlag (F.FD_FSTAT_PG f) false else s1

/-- Since when a level holds: kept while it does, from an instant on where it begins. -/
def sinceWhen (holds : Bool) (o : Option Nat) (t : Nat) : Option Nat := if holds then some (o.getD t) else none

/-- R239, R245, R248, R257, R261: the pack at a metering instant. -/
def State.packTake (s : State) (hv hi : Int) : HoldSt :=
  let h := s.hu
  let n := s.fget F.HU_STRAP_N
  { h with hv := hv, hi := hi, q := h.q + hi, qRef := h.qRef + hi, restAt := sinceWhen (decide (hi.natAbs < 50000)) h.restAt s.time,
           cutAt := sinceWhen (decide (hv < n * h.vcut * 10000)) h.cutAt s.time,
           haltLow := sinceWhen (decide (hv < n * (250 + s.fget F.HU_RIDE_VHALT) * 10000)) h.haltLow s.time,
           goneAt := sinceWhen (decide (hv < 10000000)) h.goneAt s.time }

/-- R239, R237, R261: one metering instant; the means are taken over 500. -/
def State.meterTake (s : State) (inp : MeterIn) : State :=
  let s1 := (s.meterFeed 0 inp.vin[0] inp.i[0]).meterFeed 1 inp.vin[1] inp.i[1]
  let s2 := (s1.modSel fun x => { x with busUv := inp.bus, sub := x.sub + 1, n := x.n + 1, busSum := x.busSum + inp.bus }).modHu
    fun _ => s.packTake inp.hv inp.hi
  let s3 := (s2.setWord .HU_V (wordOf (rdiv 240 inp.hv 1000))).setWord .HU_I (wordOf (rdiv 240 inp.hi 1000))
  let s4 := s3.modSel fun x => { x with cap := x.cap.map fun w => s3.capTake w inp.i[w.f] }
  if 500 ≤ s4.fsel.n then
    let s5 := (s4.meterPublish 0).meterPublish 1
    (s5.setWord .FD_BUSV (wordOf (rdiv 239 s4.fsel.busSum 500000))).modSel fun x => { x with n := 0, busSum := 0 }
  else s4

/-- METER_UPDATE (R239, R227, R232, R234, R237, R261): every 2 µs, five times a period, the power die meters, and its feed logic
evaluates what it finds. -/
def execMeterUpdate (inp : MeterIn) (s : State) : Host.Outcome State Fault Refusal :=
  if 5 ≤ s.fsel.sub then .next s
  else .next ((((s.meterTake inp).meterGate 0 inp.vin[0] inp.gs[0]).meterGate 1 inp.vin[1] inp.gs[1]).feedTick)

/-- PATH_CURRENT_LOSS (R247): the path carries DET amperes for 20 µs while a feed is ON: that feed is lost. -/
def execPathCurrentLoss (ua : Int) (held : Nat) (s : State) : Host.Outcome State Fault Refusal :=
  if s.fget F.HU_STAT_PATH = 3 ∧ (s.fget F.HU_DLIM_DET * 1000000 : Int) ≤ ua ∧ 20 * us ≤ held then
    if s.feedState 0 = 5 then .next (s.vinLeave 0) else if s.feedState 1 = 5 then .next (s.vinLeave 1) else .next s
  else .next s

/-- FD_FSTAT.BOUNCE, LOCKLEFT and TIMER as they read (R243). -/
def State.feedStatus (s : State) (f : Fin 2) : Word :=
  let b := ((s.feed f).bounces.filter fun t => decide (s.time ≤ t + 10 * sec)).length
  let left := if s.feedState f = 7 then ((s.feed f).since + 60 * sec - s.time + sec - 1) / sec else 0
  let tf := s.fget (F.FD_FCFG_TFLT f)
  let tm := min 255 (s.feedTimer f s.time * 256 / (tf * 16000))
  putBits (putBits (putBits (s.word (.FD_FSTAT f)) 8 4 b) 16 8 left) 24 8 tm

end Sys2Proof.Machine
end

