-- ==== Sys2Proof/Machine/Holdup.lean ====
section
/-! DEFINITION. The hold-up pack (R244–R268): the straps, the discharge path, RIDE and HALT, presence, the charger, the
watchdog and the gauge. -/

namespace Sys2Proof.Machine

open Sys2Proof

/-! Straps and target (R251–R253). -/

/-- R251: the sixteen resistors, Ω. -/
def strapOhms : List Nat :=
  [1000, 1430, 2050, 2940, 4220, 6040, 8660, 12400, 17800, 25500, 36500, 52300, 75000, 107000, 154000, 221000]

/-- R251: the code of a resistance; windows end at the geometric means of neighbours. None below 0.80 kΩ or above 270 kΩ. -/
def strapCode (ohm : Nat) : Option Nat :=
  if ohm < 800 ∨ 270000 < ohm then none
  else some ((List.range 15).filter fun k => strapOhms.getD k 0 * strapOhms.getD (k + 1) 0 ≤ ohm * ohm).length

/-- R251: a strap fault: what the straps do not give holds free values (notes/assumptions/5.md). -/
def State.strapFault (s : State) (n v : Option Nat) : State :=
  let s1 := s.fresh.setWord .HU_STRAP (s.freeWord &&& ~~~ 0xE000#32)
  let s2 := match n with
    | some k => s1.fset F.HU_STRAP_NCODE k
    | none => s1
  let s3 := match v with
    | some k => s2.fset F.HU_STRAP_VCODE k
    | none => s2
  (s3.setFlag F.HU_FLT_STRAP true).raise 283 2

/-- R251: the cell-count and voltage straps, in µV across 5 µA. -/
def State.readStraps (s : State) (x : Straps) : State :=
  let cn := strapCode (x.cells / 5)
  let cv := strapCode (x.chem / 5)
  match cn, cv with
  | some n, some v =>
    if 12 ≤ n then s.strapFault cn cv
    else
      let cells := 14 + n / 4
      let s1 := ((s.fset F.HU_STRAP_NCODE n).fset F.HU_STRAP_VCODE v).fset F.HU_STRAP_N cells
      (s1.fset F.HU_STRAP_CEIL (cells * (345 + 5 * v))).modHu fun h => { h with vcut := 300 - n % 4 * 10 }
  | _, _ => s.strapFault cn cv

/-- The cell count N (R251). -/
def State.cells (s : State) : Nat := s.fget F.HU_STRAP_N

/-- R253: the charge target in force, µV. Without a feed in service its term is left out. -/
def State.chgTarget (s : State) : Int :=
  let c : Int := s.fget F.HU_STRAP_CEIL
  let a := min (c * 10000) (s.fget F.HU_VREG_VREG * 10000)
  let b := match s.servCode with
    | 0 => a
    | 1 => min a ((s.feed 0).vin - s.fget F.HU_VREG_MARG * 100000)
    | _ => min a ((s.feed 1).vin - s.fget F.HU_VREG_MARG * 100000)
  if s.flag F.HU_STAT_FALLBK then min b (c * 9800) else b

/-! HALT (R248–R250). -/

/-- R249: HALT begins. -/
def State.haltEntry (s : State) : State :=
  let s1 := ((s.haltChannels.fset F.GL_STATE_SHELF shHALT).fset F.HU_STAT_CHG 0).modHu fun h => { h with haltAt := s.time }
  (s1.trigger 2).raise 282 1

/-- R248: in RIDE, a condition that ends it. -/
def State.rideEnds (s : State) : State := if s.shelf = shRIDE then s.haltEntry else s

/-- R248, R267: the conditions that hold at a boundary of RIDE: the pack is missing or shorted, UVCUT, the limit has held for
TLIM, or the ride timer expired in the period in which a feed reached ON. -/
def State.rideBoundary (s : State) : State :=
  if s.hu.missing ∨ s.flag F.HU_FLT_SHORT ∨ s.flag F.HU_FLT_UVCUT ∨ (s.flag F.HU_STAT_LIM ∧ s.hu.limDone)
      ∨ (s.feedOn ∧ s.hu.rideAt + s.fget F.HU_RIDE_TMAX * sec ≤ s.time) then s.rideEnds
  else s

/-- RIDE_TIMER_EXPIRY (R248): RIDE has lasted TMAX s. -/
def execRideTimerExpiry (s : State) : Host.Outcome State Fault Refusal :=
  if s.hu.rideAt + s.fget F.HU_RIDE_TMAX * sec ≤ s.time then .next s.rideEnds else .next s

/-- R245, R248, R257: a level has held for a time, since when it lies there. -/
def State.heldFor (s : State) (o : Option Nat) (t : Nat) : Bool := o.any fun x => s.reached (x + t)

/-- HALT_VOLTAGE (R248): HU_V below VHALT for 1 ms. -/
def execHaltVoltage (s : State) : Host.Outcome State Fault Refusal :=
  if s.heldFor s.hu.haltLow ms then .next s.rideEnds else .next s

/-- HU_CTL_HALT (R248, R268): outside RIDE the write does nothing. -/
def execHuCtlHalt (s : State) : Host.Outcome State Fault Refusal := .next (s.rideEnds.answer stOk)

/-- HALT_COMPLETE (R249): every channel PARKED or ABSENT, the Vault records and the snapshot written. -/
def execHaltComplete (s : State) : Host.Outcome State Fault Refusal :=
  if s.shelf = shHALT ∧ s.allIdle ∧ s.vault.queue = [] ∧ s.cellar.snap = none then .next (s.enterSafe 4) else .next s

/-! The discharge path (R245, R246). -/

/-- R245: the path goes OFF: the gate and HU_PRE off. -/
def State.pathOff (s : State) : State :=
  ((s.fset F.HU_STAT_PATH 0).setFlag F.HU_STAT_LIM false).modHu fun h => { h with limAt := none, limDone := false }

/-- R245: a latched path fault. -/
def State.pathFault (s : State) : Bool :=
  s.flag F.HU_FLT_SHORT || s.flag F.HU_FLT_STRAP || s.flag F.HU_FLT_UVCUT || s.flag F.HU_FLT_PREF

/-- R245: HU_V ≤ BUS_V + 0.5 V. -/
def State.packLow (s : State) : Bool := decide (s.hu.hv ≤ s.fsel.busUv + 500000)

/-- R245: the time by which PRE must have ended. -/
def State.preEnd (s : State) : Nat := s.hu.preAt + s.fget F.HU_PRECFG_TPRE * (60 * sec)

/-- R245: PRE has lasted TPRE: PREF is latched. -/
def State.preFail (s : State) : State := (s.setFlag F.HU_FLT_PREF true).pathOff

/-- HOLDUP_PATH_ARM (R245). -/
def execHoldupPathArm (s : State) : Host.Outcome State Fault Refusal :=
  if s.fget F.HU_STAT_PATH = 0 ∧ s.flag F.HU_STAT_PRESENT ∧ s.pathFault = false ∧ s.flag F.HU_CTL_EN ∧ s.hu.fed then
    if s.packLow then .next (s.fset F.HU_STAT_PATH 2)
    else .next ((s.fset F.HU_STAT_PATH 1).modHu fun h => { h with preAt := s.time })
  else .next s

/-- HOLDUP_PRE_DONE (R245, R267): HU_V has come within 0.5 V of the bus; a timeout in the same period wins. -/
def execHoldupPreDone (s : State) : Host.Outcome State Fault Refusal :=
  if s.fget F.HU_STAT_PATH = 1 ∧ s.packLow then
    if s.reached s.preEnd then .next s.preFail else .next (s.fset F.HU_STAT_PATH 2)
  else .next s

/-- HOLDUP_PRE_TIMEOUT (R245). -/
def execHoldupPreTimeout (s : State) : Host.Outcome State Fault Refusal :=
  if s.fget F.HU_STAT_PATH = 1 ∧ s.reached s.preEnd then .next s.preFail else .next s

/-- HOLDUP_CONDUCT (R245): HU_V − BUS_V above 30 mV. -/
def execHoldupConduct (s : State) : Host.Outcome State Fault Refusal :=
  if s.fget F.HU_STAT_PATH = 2 ∧ s.fsel.busUv + 30000 < s.hu.hv then .next ((s.fset F.HU_STAT_PATH 3).raise 272 0) else .next s

/-- R246: the discharge limit begins or ends to hold the gate back. -/
def State.setHuLim (s : State) (on : Bool) : State :=
  (s.setFlag F.HU_STAT_LIM on).modHu fun h =>
    if on then { h with limAt := some (h.limAt.getD s.time) } else { h with limAt := none, limDone := false }

/-- HOLDUP_REVERSE (R245): more than 2 A into the pack through the path for 1 µs. -/
def execHoldupReverse (ua : Int) (held : Nat) (s : State) : Host.Outcome State Fault Refusal :=
  if s.fget F.HU_STAT_PATH = 3 ∧ 2000000 < ua ∧ us ≤ held then .next (((s.fset F.HU_STAT_PATH 2).setHuLim false).raise 273 0) else .next s

/-- HOLDUP_UVCUT (R245, R248): HU_V below N × V_cut for 1 ms. -/
def execHoldupUvcut (s : State) : Host.Outcome State Fault Refusal :=
  if (s.fget F.HU_STAT_PATH = 2 ∨ s.fget F.HU_STAT_PATH = 3) ∧ s.heldFor s.hu.cutAt ms then
    .next (((s.setFlag F.HU_FLT_UVCUT true).pathOff).raise 281 2).rideEnds
  else .next s

/-- R246: I_DLIM, µA, and how far the limit may lie from it. -/
def State.iDlim (s : State) : Nat := s.fget F.HU_DLIM_ILIM * 25 * 10 ^ 9 / s.fget F.HU_RSH_RSH
/-- R246, R230. -/
def State.dlimTol (s : State) : Nat := s.iDlim * 3 / 100 + 2 * 10 ^ 11 / s.fget F.HU_RSH_RSH

/-- HOLDUP_DISCHARGE_LIMITING (R246): the limit begins or ends to hold a conducting path back, as its discharge current allows. -/
def execHoldupDischargeLimiting (on : Bool) (i : Int) (s : State) : Host.Outcome State Fault Refusal :=
  let ok := if on then decide ((s.iDlim : Int) ≤ i + s.dlimTol) else decide (i ≤ s.iDlim + s.dlimTol)
  if s.fget F.HU_STAT_PATH = 3 ∧ ok then .next (s.setHuLim on) else .next s

/-- DISCHARGE_LIMIT_EXPIRY (R246): once in each unbroken hold; the path stays in COND. -/
def execDischargeLimitExpiry (s : State) : Host.Outcome State Fault Refusal :=
  match s.hu.limAt with
  | some t =>
    if s.hu.limDone = false ∧ s.reached (t + s.fget F.HU_DLIM_TLIM * ms) then
      .next (((s.setFlag F.HU_FLT_DLIM true).modHu fun h => { h with limDone := true }).raise 284 1).rideEnds
    else .next s
  | none => .next s

/-! Presence (R257). -/

/-- R257: HU_T holds a housekeeping reading within −50 to +150 °C. -/
def State.packTemp (s : State) : Bool :=
  decide (-50000 ≤ (s.word .HU_T).toInt ∧ (s.word .HU_T).toInt ≤ 150000)

/-- R257: shorted, as the meters show it. -/
def State.packShort (s : State) : Bool := decide (s.hu.hv < 2000000 ∧ 1000000 < s.hu.hi)

/-- R257: HU_V below 10 V for 10 ms, HU_TS open in a round, or the output rising faster than 1 V/ms without current. -/
def State.packGone (s : State) : Bool := s.heldFor s.hu.goneAt (10 * ms) || s.hu.tsOpen || s.hu.rise

/-- PACK_MISSING (R257, R245, R254, R248). -/
def execPackMissing (s : State) : Host.Outcome State Fault Refusal :=
  if s.hu.missing ∨ s.packGone = false then .next s
  else
    let s1 := ((s.modHu fun h => { h with missing := true }).setFlag F.HU_STAT_PRESENT false).setFlag F.HU_FLT_MISS true
    .next ((s1.pathOff.fset F.HU_STAT_CHG 0).raise 274 1).rideEnds

/-- PACK_SHORTED (R257, R245, R254, R248): by the meters, or by 10 min of PRECHG that has not reached N × 2.0 V. -/
def execPackShorted (s : State) : Host.Outcome State Fault Refusal :=
  let slow := decide (s.fget F.HU_STAT_CHG = 1 ∧ 600000 ≤ s.hu.pre ∧ s.hu.hv < s.cells * 2000000)
  if (s.packShort ∨ slow) ∧ ¬ s.flag F.HU_FLT_SHORT then
    .next (((s.setFlag F.HU_FLT_SHORT true).pathOff.fset F.HU_STAT_CHG 6).raise 275 2).rideEnds
  else .next s

/-- PACK_PRESENT (R257, R258): after a missing pack this is a reconnect, which clears TSAFE. -/
def execPackPresent (s : State) : Host.Outcome State Fault Refusal :=
  if 10000000 ≤ s.hu.hv ∧ s.packTemp ∧ ¬ s.flag F.HU_STAT_PRESENT then
    let s1 := (s.setFlag F.HU_STAT_PRESENT true).modHu fun h => { h with missing := false }
    .next (if s.hu.missing then s1.setFlag F.HU_FLT_TSAFE false else s1)
  else .next s

/-! The watchdog (R260). -/

/-- R260: the watchdog has expired, or does in this tick. -/
def State.wdtLate (s : State) : Bool := decide (s.hu.wdtAt + 30 * sec ≤ s.time)

/-- R260: a write of the kick key. -/
def State.wdtKick (s : State) : State :=
  if s.flag F.HU_WDT_ARMED ∧ ¬ s.flag F.HU_WDT_FALLBK ∧ s.wdtLate = false then s.modHu fun h => { h with wdtAt := s.time } else s

/-- R260: a write of the confirm key; one in the tick of expiry arrives too late. -/
def State.wdtConfirm (s : State) : State :=
  if s.flag F.HU_WDT_ARMED ∧ (s.flag F.HU_WDT_FALLBK ∨ s.wdtLate = false) then
    ((s.setFlag F.HU_WDT_ARMED false).setFlag F.HU_WDT_FALLBK false).setFlag F.HU_STAT_FALLBK false
  else s

/-- HU_WDT_KICK (R260). -/
def execHuWdtKick (s : State) : Host.Outcome State Fault Refusal := .next (s.wdtKick.answer stOk)

/-- HU_WDT_CONFIRM (R260). -/
def execHuWdtConfirm (s : State) : Host.Outcome State Fault Refusal := .next (s.wdtConfirm.answer stOk)

/-- HU_WDT_EXPIRY (R260, R267). -/
def execHuWdtExpiry (s : State) : Host.Outcome State Fault Refusal :=
  if s.flag F.HU_WDT_ARMED ∧ ¬ s.flag F.HU_WDT_FALLBK ∧ s.reached (s.hu.wdtAt + 30 * sec) then
    .next ((((s.setFlag F.HU_WDT_FALLBK true).setFlag F.HU_STAT_FALLBK true).setFlag F.HU_FLT_WDT true).raise 277 1)
  else .next s

/-- HU_WDT.LEFT as it reads (R260, R268). -/
def State.wdtLeft (s : State) : Nat :=
  if s.flag F.HU_WDT_ARMED ∧ ¬ s.flag F.HU_WDT_FALLBK then (s.hu.wdtAt + 30 * sec - s.time + sec - 1) / sec else 0

/-! The charger (R254–R258). -/

/-- R254, R276: a charger fault: TSAFE, SHORT, STRAP, MON, or OV of AX3. -/
def State.chgFault (s : State) : Bool :=
  s.flag (F.AX_FLT_OV 3) || s.flag F.HU_FLT_TSAFE || s.flag F.HU_FLT_SHORT || s.flag F.HU_FLT_STRAP || s.flag F.HU_FLT_MON

/-- R254: the cause of HOLD. -/
def State.chgHold (s : State) : Bool :=
  let t := (s.word .HU_T).toInt
  decide (t < s.fgetS F.HU_TEMP_TLOW * 1000 ∨ s.fgetS F.HU_TEMP_TSTOP * 1000 < t) || s.flag F.HU_CTL_REST

/-- R254: HU_T lies between TFOLD and TSTOP. -/
def State.chgFold (s : State) : Bool :=
  let t := (s.word .HU_T).toInt
  decide (s.fgetS F.HU_TEMP_TFOLD * 1000 < t ∧ t < s.fgetS F.HU_TEMP_TSTOP * 1000)

/-- R254, R260: the current in force in a charger state, µA. -/
def State.chgCurrent (s : State) (st : Nat) : Int :=
  let full : Int := (s.fget F.HU_CHG_ICHG : Int) * 1000
  let hot := s.fgetS F.HU_TEMP_TSTOP * 1000 - (s.word .HU_T).toInt
  let span := (s.fgetS F.HU_TEMP_TSTOP - s.fgetS F.HU_TEMP_TFOLD) * 1000
  let i : Int := if st = 1 then 100000 else if s.chgFold then rdiv 254 (full * hot) span.toNat else full
  if s.flag F.HU_STAT_FALLBK then min i 500000 else i

/-- R255: the request to the ledger in a charger state, pW. -/
def State.chgRequest (s : State) (st : Nat) : Int :=
  if st = 1 ∨ st = 2 then s.hu.hv * s.chgCurrent st else if st = 3 then s.hu.hv * s.hu.hi else 0

/-- R255, R216: the pack's acceptance for diversion, pW. -/
def State.acceptance (s : State) : Int :=
  let st := s.fget F.HU_STAT_CHG
  if s.effFlag F.LG_CTL_DIVEN = false ∨ s.shelf = shRIDE ∨ s.shelf = shHALT ∨ st = 0 ∨ 4 ≤ st
      ∨ s.hu.vt - s.cells * 10000 ≤ s.hu.hv then 0
  else max 0 (min ((s.fget F.HU_ACC_PMAX : Int) * 10 ^ 12) (s.hu.hv * (s.fget F.HU_ACC_IACC * 1000)) - s.hu.hv * s.hu.hi)

/-- R254: below the recharge point. -/
def State.recharge (s : State) (vt : Int) : Bool :=
  decide (s.hu.hv < vt - s.cells * s.fget F.HU_VREG_VRECH * 10000)

/-- R254: N × V_cut, µV. -/
def State.cutUv (s : State) : Int := s.cells * s.hu.vcut * 10000

/-- R254: the next state of the charger, and whether the safety timer starts. -/
def State.chgNext (s : State) (vt : Int) : Nat × Bool :=
  let st := s.fget F.HU_STAT_CHG
  if s.chgFault then (6, false)
  else if s.shelf ≠ shSERVICE ∨ s.flag F.HU_CTL_CHGEN = false ∨ s.flag F.HU_STAT_PRESENT = false ∨ st = 6 then (0, false)
  else if st = 0 then (if s.recharge vt then (if s.hu.hv < s.cutUv then 1 else 2, true) else (0, false))
  else if (st = 1 ∨ st = 2 ∨ st = 3) ∧ s.chgHold then (5, false)
  else if st = 1 then (if s.cutUv + s.cells * 50000 ≤ s.hu.hv then 2 else 1, false)
  else if st = 2 then (if vt ≤ s.hu.hv then 3 else 2, false)
  else if st = 4 then (if s.recharge vt then (2, true) else (4, false))
  else if st = 5 then (if s.chgHold then 5 else s.hu.left, false)
  else (st, false)

/-- R256: the taper count after a millisecond. -/
def State.taperNext (s : State) (st : Nat) : Nat :=
  if st = 3 ∧ 0 ≤ s.hu.hi ∧ s.hu.hi ≤ s.fget F.HU_CHG_ITERM * 1000 then
    (if s.fget F.LG_HU_SH = 65535 then s.hu.taper + 1 else s.hu.taper)
  else 0

/-- R258: the safety timer after a millisecond, in half-milliseconds. -/
def State.safeNext (s : State) (st : Nat) (start fold : Bool) : Nat :=
  if start then 0
  else if (st = 1 ∨ st = 2 ∨ st = 3) ∧ s.fget F.LG_HU_SH ≠ 0 then s.hu.safe2 + (if fold then 1 else 2)
  else s.hu.safe2

/-- R273, R274, R276: AX3 follows the charger: AX_CTL.EN reads its run state; a run that begins starts the check, and so does one that
goes on where AX3 is off. -/
def State.chargerDrive (s : State) (was st : Nat) : State :=
  let run (k : Nat) : Bool := decide (k = 1 ∨ k = 2 ∨ k = 3)
  if run st = false then s.auxOff 3
  else
    let s1 := s.setFlag (F.AX_CTL_EN 3) true
    if s.auxStartable 3 ∧ (s.fget (F.AX_STAT_STATE 3) = 0 ∨ run was = false) then s1.auxAsk 3 else s1

/-- R253–R258, R276: a millisecond of the charger. -/
def State.chargerTick (s : State) : State :=
  let vt := s.chgTarget
  let was := s.fget F.HU_STAT_CHG
  let (st, start) := s.chgNext vt
  let fold := decide (st = 2 ∨ st = 3) && s.chgFold
  let safe2 := s.safeNext st start fold
  let s1 := s.modHu fun h =>
    { h with vt := vt, left := if st = 5 ∧ was ≠ 5 then was else h.left, safe2 := safe2, taper := s.taperNext st,
             pre := if st = 1 then (if was = 1 then h.pre + 1 else 0) else 0, req := s.chgRequest st, tickMs := s.time / ms,
             hvTick := h.hv, rise := decide (1 ≤ was ∧ was ≤ 3 ∧ h.hvTick + 1000000 < h.hv ∧ h.hi < 50000) }
  let s2 := ((s1.fset F.HU_STAT_CHG st).setFlag F.HU_STAT_FOLD fold).fset F.HU_TIMER_ELAPSED (safe2 / 120000)
  s2.chargerDrive was st

/-- CHARGER_TICK (R253, R254): once in each millisecond. -/
def execChargerTick (s : State) : Host.Outcome State Fault Refusal :=
  if s.hu.tickMs < s.time / ms then .next s.chargerTick else .next s

/-- CHARGER_SAFETY_TIMEOUT (R258, R267). -/
def execChargerSafetyTimeout (s : State) : Host.Outcome State Fault Refusal :=
  if s.fget F.HU_TIMER_TSAFE * 120000 ≤ s.hu.safe2 ∧ 1 ≤ s.fget F.HU_STAT_CHG ∧ s.fget F.HU_STAT_CHG ≤ 3 then
    .next (((s.setFlag F.HU_FLT_TSAFE true).fset F.HU_STAT_CHG 6).raise 276 2)
  else .next s

/-! The gauge (R261–R265). -/

/-- R261: the OCV points, 0.1 mV per cell. -/
def State.ocvPoint (s : State) (k : Nat) : Nat := bitsOf (s.word (.HU_OCV (Fin.ofNat 8 (k / 2)))) (k % 2 * 16) 16

/-- R261: SoC_v in 0.01 % of a pack voltage in nV, free of load; none outside the points or the line. -/
def State.socOf (s : State) (x : Int) : Option Int :=
  let n := s.cells
  if (List.range 16).all fun k => s.ocvPoint k = 0 then
    let lo : Int := s.cutUv * 1000
    let hi : Int := s.fget F.HU_STRAP_CEIL * 10000000
    if lo ≤ x ∧ x ≤ hi ∧ lo < hi then some (rdiv 261 ((x - lo) * 10000) (hi - lo).toNat) else none
  else
    let p (k : Nat) : Int := s.ocvPoint k * 100000 * n
    if x = p 15 then some 10000
    else (List.range 15).findSome? fun k =>
      if p k ≤ x ∧ x < p (k + 1) then
        some (rdiv 262 ((k * (p (k + 1) - p k) + (x - p k)) * 2000) (3 * (p (k + 1) - p k)).toNat)
      else none

/-- R261: a value of the gauge the manual does not give (outside the points, or E outside 0–100 %): free, within 0–10,000
(notes/assumptions/5.md). -/
def State.gaugeFree (s : State) (x : Option Int) : Int :=
  match x with
  | some v => if 0 ≤ v ∧ v ≤ 10000 then v else (s.freeWord.toNat % 10001 : Nat)
  | none => (s.freeWord.toNat % 10001 : Nat)

/-- R261: SoC_v now, 0.01 %. -/
def State.socV (s : State) : Int := s.gaugeFree (s.socOf (s.hu.hv * 1000 - s.hu.hi * s.fget F.HU_GG_RPACK_RPACK))

/-- R261: 10 min of |HU_I| < 50 mA. -/
def State.rested (s : State) : Bool := match s.hu.restAt with
  | some t => decide (t + 600 * sec ≤ s.time)
  | none => false

/-- R264: one unit of CAP (0.1 mAh) in µA times 2 µs. -/
abbrev capUnit : Nat := 180000000000

/-- R261: E after a minute: the charge counted, then the correction. -/
def State.gaugeE (s : State) (soc : Int) : Int × Int :=
  let cap := s.fget F.HU_GG_CAP_CAP
  let e1 := s.hu.e + rdiv 263 (s.hu.q * 10000) (cap * capUnit)
  let e2 := e1 + rdiv 264 ((soc - e1) * (if s.rested then 25 else 1)) 100
  (e1, if s.flag F.HU_GG_SOC_UNREST ∨ cap = 0 then soc else e2)

/-- R265: HU_GG_STATE0–3. -/
def State.gaugeWords (s : State) : State :=
  let w0 := BitVec.ofNat 32 (codeOf 16 s.hu.e + s.fget F.HU_GG_SOC_CONF * 2 ^ 16 + s.fget F.HU_GG_SOC_DISAGREE * 2 ^ 24
    + s.fget F.HU_GG_SOC_NOREF * 2 ^ 25)
  let w1 := BitVec.ofNat 32 (s.fget F.HU_GG_CAP_CAP)
  let w2 := BitVec.ofNat 32 (min s.hu.relearn 65535 + min ((s.time - s.hu.refAt) / (3600 * sec)) 65535 * 2 ^ 16)
  let w3 := BitVec.ofNat 32 (crc32c (bytesOf w0 ++ bytesOf w1 ++ bytesOf w2))
  (((s.setWord (.HU_GG_STATE 0) w0).setWord (.HU_GG_STATE 1) w1).setWord (.HU_GG_STATE 2) w2).setWord (.HU_GG_STATE 3) w3

/-- R262: the reported SOC after a minute, %. -/
def State.gaugeSoc (s : State) (e : Int) : Nat :=
  let old : Int := s.fget F.HU_GG_SOC_SOC
  let x := (clampI (rdiv 265 e 100) (old - 1) (old + 1)).toNat
  if s.cutUv + s.cells * 100000 < s.hu.hv then max x 1 else x

/-- R263, R264: what a rested correction does besides E: DISAGREE, the end of NOREF and of REST, the reference. -/
def State.restCorrect (s : State) (e1 soc : Int) : State :=
  let d := (e1 - soc).natAbs
  let s1 := if 1000 < d then
      (if s.flag F.HU_GG_SOC_DISAGREE then s else (s.setFlag F.HU_GG_SOC_DISAGREE true).raise 279 1)
    else if d ≤ 500 then s.setFlag F.HU_GG_SOC_DISAGREE false else s
  let s2 := (s1.setFlag F.HU_GG_SOC_NOREF false).setFlag F.HU_CTL_REST false
  s2.modHu fun h =>
    if soc ≤ 5000 then { h with rested := s.time, norefMin := 0, socRef := some soc, qRef := 0, refAt := s.time }
    else { h with rested := s.time, norefMin := 0 }

/-- R263: CONF falls by 2 % per hour while NOREF is set. -/
def State.norefDecay (s : State) : State :=
  if s.flag F.HU_GG_SOC_NOREF then
    let s1 := s.modHu fun h => { h with norefMin := h.norefMin + 1 }
    if s1.hu.norefMin % 60 = 0 then s1.fset F.HU_GG_SOC_CONF (s.fget F.HU_GG_SOC_CONF - 2) else s1
  else s

/-- R261–R265: a minute of the gauge. -/
def State.gaugeMinute (s : State) : State :=
  let soc := s.socV
  let (e1, e) := s.gaugeE soc
  let e := s.gaugeFree (some e)
  let s1 := s.fresh.modHu fun h => { h with e := e, q := 0, tickMin := s.time / (60 * sec) }
  let s2 := if s.rested then s1.restCorrect e1 soc else s1.norefDecay
  ((s2.fset F.HU_GG_SOC_SOC (s.gaugeSoc e)).fset F.HU_GG_SOC_EST (rdiv 265 e 100).toNat).gaugeWords

/-- GAUGE_MINUTE (R261): once in each minute. -/
def execGaugeMinute (s : State) : Host.Outcome State Fault Refusal :=
  if s.hu.tickMin < s.time / (60 * sec) then .next s.gaugeMinute else .next s

/-- R262: HU_GG_SOC as it reads: while HU_V lies above N × (V_cut + 0.10 V), SOC never reads below 1 %. -/
def State.socShown (s : State) (w : Word) : Word :=
  if bitsOf w 0 8 = 0 ∧ s.cutUv + s.cells * 100000 < s.hu.hv then putBits w 0 8 1 else w

/-- GAUGE_NOREF (R263): 24 h without a 10 min rest. -/
def execGaugeNoref (s : State) : Host.Outcome State Fault Refusal :=
  if s.reached (s.hu.rested + 86400 * sec) ∧ ¬ s.flag F.HU_GG_SOC_NOREF then
    .next ((s.setFlag F.HU_GG_SOC_NOREF true).raise 280 1)
  else .next s

/-- R264: CAP' is accepted if CAP is 0 or CAP' lies within 0.7–1.3 × CAP. -/
def State.relearn (s : State) (soc : Int) : State :=
  match s.hu.socRef with
  | none => s
  | some r =>
    if soc - r < 3000 then s
    else
      let c := rdiv 266 (s.hu.qRef * 10000) (capUnit * (soc - r).toNat)
      let cap : Int := s.fget F.HU_GG_CAP_CAP
      if 0 ≤ c ∧ c < 2 ^ 24 ∧ (cap = 0 ∨ (7 * cap ≤ 10 * c ∧ 10 * c ≤ 13 * cap)) then
        (((s.fset F.HU_GG_CAP_CAP c.toNat).fset F.HU_GG_SOC_CONF 100).modHu fun h => { h with relearn := h.relearn + 1 })
      else s

/-- CHARGER_TAPER_DONE (R256, R254, R264, R267): the count is complete and the period is not held. -/
def execChargerTaperDone (s : State) : Host.Outcome State Fault Refusal :=
  if s.fget F.HU_STAT_CHG = 3 ∧ s.fget F.HU_TEMP_TTAPER * 10000 ≤ s.hu.taper ∧ s.fget F.LG_HU_SH = 65535 then
    let soc := s.gaugeFree (s.socOf (s.hu.vt * 1000))
    let s1 := ((s.fresh.fset F.HU_STAT_CHG 4).raise 278 0).modHu fun h => { h with e := soc, taper := 0, req := 0 }
    .next (s1.relearn soc)
  else .next s

/-- R265: the four words of a restore judged and taken. -/
def State.gaugeRestore (s : State) (crc : Word) : State :=
  let w0 := s.hu.restore[0]
  let w1 := s.hu.restore[1]
  let w2 := s.hu.restore[2]
  if s.flag F.HU_GG_SOC_UNREST = false then s.answer stBusy
  else if crc.toNat = crc32c (bytesOf w0 ++ bytesOf w1 ++ bytesOf w2) ∧ bitsOf w0 0 16 ≤ 10000 ∧ bitsOf w0 16 8 ≤ 100
      ∧ bitsOf w0 26 6 = 0 ∧ bitsOf w1 24 8 = 0 then
    let s1 := (s.fset F.HU_GG_CAP_CAP (bitsOf w1 0 24)).fset F.HU_GG_SOC_CONF (bitsOf w0 16 8)
    ((s1.setFlag F.HU_GG_SOC_UNREST false).modHu fun h => { h with e := bitsOf w0 0 16 }).answer stOk
  else s.answer stReserved

/-- GAUGE_RESTORE (R265): the write of word 3. -/
def execGaugeRestore (crc : Word) (s : State) : Host.Outcome State Fault Refusal := .next (s.gaugeRestore crc)

/-- R266: HU_INT_L is driven low. -/
def State.huInt (s : State) : Bool := decide (s.word .HU_FLT &&& s.word .HU_INTM ≠ 0)

/-- R268, R349: a host write of HU_FLT; clearing SHORT is blocked while shorted. -/
def State.huFltWrite (s : State) (val : Word) : State :=
  if s.packShort ∧ s.flag F.HU_FLT_SHORT ∧ val.getLsbD 1 then (s.writeReg .HU_FLT (val &&& ~~~ 2#32)).answer stLocked
  else s.writeReg .HU_FLT val

/-- R248, R245, R268: a host write of HU_CTL. -/
def State.huCtlWrite (s : State) (val : Word) : State :=
  let s1 := s.writeReg .HU_CTL val
  let s2 := if s1.flag F.HU_CTL_EN then s1 else s1.pathOff
  if val.getLsbD 2 then s2.rideEnds else s2

end Sys2Proof.Machine
end

