-- ==== Sys2Proof/Machine/Ledger.lean ====
section
/-! DEFINITION. The energy ledger (R210–R225): the limits in force, the scales, the reports and the alarms. Powers are in
pW; scale codes of R216. -/

namespace Sys2Proof.Machine

open Sys2Proof

/-- The scales: charging and discharging codes per class, the charger's, and diversion in pW (R215, R216). -/
structure Scales where
  sc : Vector Nat 4
  sd : Vector Nat 4
  sh : Nat
  div : Nat
  deriving DecidableEq, Repr

/-- What the sums of one period hold (R210, R212): the fixed loads, the charger's request at the bus, the demands. -/
structure Loads where
  fix : Int
  hu : Int
  chg : Vector Int 4
  dis : Vector Int 4
  deriving DecidableEq, Repr

/-- R216: the factor of a code, in 1/65,536. -/
def scaleF (code : Nat) : Nat := if code = 65535 then 65536 else code

/-- R216: the highest code whose factor does not exceed f/65,536. -/
def scaleCode (f : Nat) : Nat := if 65536 ≤ f then 65535 else min f 65534

/-- R215: the predicted net at given scales, in pW/65,536. -/
def predicted (l : Loads) (x : Scales) : Int :=
  65536 * (l.fix + x.div) + l.hu * scaleF x.sh
    + ((List.finRange 4).map fun c => (l.chg[c] * (scaleF x.sc[c] : Int) + l.dis[c] * (scaleF x.sd[c] : Int) : Int)).foldl (· + ·) 0

/-- R215: a scale lowered to remove an excess (pW/65,536) of a load, solved exactly and rounded down, not below `lo`; a load
without demand leaves it. -/
def lowerTo (code lo : Nat) (load excess : Int) : Nat :=
  if load ≤ 0 ∨ excess ≤ 0 ∨ code ≤ lo then code
  else max lo (min (code - 1) (scaleCode (max 0 ((scaleF code * load - excess) / load)).toNat))

/-- R215: a scale raised by at most `rise` codes, and by no more than the room (pW/65,536) allows. -/
def raiseTo (code rise : Nat) (load room : Int) : Nat :=
  if room < 0 then code
  else
    let want := min 65535 (code + rise)
    if load ≤ 0 then want
    else max code (min want (scaleCode ((scaleF code * load + room) / load).toNat))

/-- LG_CLASS_FLOOR in scale code (R215). -/
def State.floor (s : State) (c : Fin 4) : Nat := bitsOf ((regFind s.old .LG_CLASS_FLOOR).getD (s.word .LG_CLASS_FLOOR)) (c.val * 8) 8 * 256

/-- R215: lower one charging scale toward a floor. -/
def lowerSc (l : Loads) (cap : Int) (x : Scales) (c : Fin 4) (lo : Nat) : Scales :=
  { x with sc := x.sc.set c (lowerTo x.sc[c] lo l.chg[c] (predicted l x - cap * 65536)) }

/-- R215: lower one discharging scale toward a floor. -/
def lowerSd (l : Loads) (regen : Int) (x : Scales) (c : Fin 4) (lo : Nat) : Scales :=
  { x with sd := x.sd.set c (lowerTo x.sd[c] lo (- l.dis[c]) (- regen * 65536 - predicted l x)) }

/-- Classes from the lowest priority up. -/
def lowFirst : List (Fin 4) := [3, 2, 1, 0]

/-- R215, R217: the cap pass. -/
def capPass (l : Loads) (cap : Int) (floor : Fin 4 → Nat) (x : Scales) : Scales :=
  let x0 := { x with sh := lowerTo x.sh 0 l.hu (predicted l x - cap * 65536) }
  let x1 := lowFirst.foldl (fun y c => lowerSc l cap y c (floor c)) x0
  lowFirst.foldl (fun y c => lowerSc l cap y c 0) x1

/-- R215, R224: the order in which charging scales rise: the classes below their floors first. -/
def riseOrder (floor : Fin 4 → Nat) (x : Scales) : List (Fin 4) :=
  ([0, 1, 2, 3].filter fun c => decide (x.sc[c] < floor c)) ++ [0, 1, 2, 3].filter fun c => decide (floor c ≤ x.sc[c])

/-- R215, R224: the restore of the cap direction, up to `top` = cap − hc. -/
def capRise (l : Loads) (top : Int) (floor : Fin 4 → Nat) (rise : Nat) (x : Scales) : Scales :=
  let x1 := (riseOrder floor x).foldl (fun (y : Scales) (c : Fin 4) =>
    { y with sc := y.sc.set c (raiseTo y.sc[c] rise l.chg[c] (top * 65536 - predicted l y)) }) x
  { x1 with sh := raiseTo x1.sh rise l.hu (top * 65536 - predicted l x1) }

/-- A quotient rounded up. -/
def cdiv (a : Int) (b : Nat) : Int := - ((- a) / b)

/-- R215–R217: the regeneration pass. -/
def regenPass (l : Loads) (regen acc : Int) (floor : Fin 4 → Nat) (x : Scales) : Scales :=
  let need := cdiv (- regen * 65536 - predicted l x) 65536
  let x0 := { x with div := max x.div (min acc (x.div + need)).toNat }
  let x1 := lowFirst.foldl (fun y c => lowerSd l regen y c (floor c)) x0
  lowFirst.foldl (fun y c => lowerSd l regen y c 0) x1

/-- R215, R219: the restore of the regeneration direction, down to `low` = −regen + hr, where scales may rise; then diversion
falls by at most RISE × acceptance. -/
def regenRise (l : Loads) (low acc : Int) (rise : Nat) (limiting : Bool) (x : Scales) : Scales :=
  let x1 := if limiting then x else [0, 1, 2, 3].foldl (fun (y : Scales) (c : Fin 4) =>
    { y with sd := y.sd.set c (raiseTo y.sd[c] rise (- l.dis[c]) (predicted l y - low * 65536)) }) x
  let room := (predicted l x1 - low * 65536) / 65536
  { x1 with div := x1.div - (max 0 (min room (rise * acc / 65536))).toNat }

/-- R215: the hold band of a limit: max(0.02 × limit, 50 W). -/
def holdBand (limit : Int) : Int := max (limit / 50) (50 * 10 ^ 12)

/-- R215, R219: the scales of the next period. Without acceptance there is no diversion (R216, notes/assumptions/172.md). -/
def rescale (l : Loads) (cap regen acc : Int) (floor : Fin 4 → Nat) (rise : Nat) (limiting : Bool) (x : Scales) : Scales :=
  let x := { x with div := if acc ≤ 0 then 0 else x.div }
  let p := predicted l x
  let y := if cap * 65536 < p then capPass l cap floor x
    else if p < (cap - holdBand cap) * 65536 ∧ limiting = false then capRise l (cap - holdBand cap) floor rise x
    else x
  let q := predicted l y
  if q < - regen * 65536 then regenPass l regen acc floor y
  else if (- regen + holdBand regen) * 65536 < q then regenRise l (- regen + holdBand regen) acc rise limiting y
  else y

/-- LG_AXEFF of a converter (R212, R225), 1/256. -/
def State.axEff (s : State) (j : Nat) : Nat := bitsOf ((regFind s.old .LG_AXEFF).getD (s.word .LG_AXEFF)) (j * 8) 8

/-- R212: AX0–AX2, each measured output power over its efficiency, pW. -/
def State.auxLoad (s : State) : Int :=
  ([0, 1, 2].map fun (j : Fin 4) => rdiv 212 ((s.word (.AX_P j)).toInt * 256 * 10 ^ 9) (s.axEff j.val)).foldl (· + ·) 0

/-- R210: the sum of what a class's channels reported, of one direction. -/
def State.classSum (s : State) (c : Fin 4) (up : Bool) : Int :=
  (chans.map fun n =>
    let d := (s.lane1 n).l.dem
    if s.fget (F.CH_PSTAT_CLASS n) = c.val ∧ (if up then 0 < d else d < 0) then d else 0).foldl (· + ·) 0

/-- R212: the loads of the period that closes. -/
def State.loads (s : State) : Loads :=
  { fix := s.eff F.LG_BASE_W_BASE * 10 ^ 12 + s.auxLoad, hu := rdiv 213 (s.hu.req * 256) (s.axEff 3),
    chg := Vector.ofFn fun c => s.classSum c true, dis := Vector.ofFn fun c => s.classSum c false }

/-- R213, R230: 0.9 × I_RUN × BUS_V of the feed in service, pW. -/
def State.feedTerm (s : State) (f : Fin 2) : Int :=
  rdiv 214 ((s.fget (F.FD_ILIM_RUN f) : Int) * 25000 * s.fsel.busUv * 900000) (s.fget (F.FD_RSH_RSH f))

/-- R213: the cap in force, pW, and its source. -/
def State.capNow (s : State) : Int × Nat :=
  if s.shelf = shSERVICE then
    let host : Int × Nat := ((s.eff F.LG_CAP_W_CAP : Int) * 10 ^ 12, 0)
    let rm : Int := (s.fget F.LG_CAP_RM_CAP : Int) * 10 ^ 12
    let a := if s.eff F.LG_CTL_RMEN = 1 ∧ s.flag F.LG_CAP_RM_VALID ∧ rm < host.1 then (rm, 1) else host
    match s.servCode with
    | 0 => a
    | k =>
      let t := s.feedTerm (if k = 1 then 0 else 1)
      if t < a.1 then (t, 2) else a
  else if s.shelf = shRIDE ∨ s.shelf = shHALT then ((s.fget F.HU_RIDE_PDMAX : Int) * 10 ^ 12, 3)
  else (0, 0)

/-- R214: the regeneration limit in force, W. -/
def State.regenNow (s : State) : Nat := if s.shelf = shSERVICE then s.eff F.LG_REGEN_W_REGEN else 0

/-- The scales in force. -/
def State.scales (s : State) : Scales :=
  { sc := Vector.ofFn fun c => s.fget (F.LG_SCALE_SC c), sd := Vector.ofFn fun c => s.fget (F.LG_SCALE_SD c),
    sh := s.fget F.LG_HU_SH, div := s.led.div }

/-- R216: the scales published. -/
def State.setScales (s : State) (x : Scales) : State :=
  let s1 := s.each (List.finRange 4) fun c t => (t.fset (F.LG_SCALE_SC c) x.sc[c]).fset (F.LG_SCALE_SD c) x.sd[c]
  let s2 := (s1.fset F.LG_HU_SH x.sh).fset F.LG_HU_DIVW (x.div / 10 ^ 12)
  { s2 with led := { s2.led with div := x.div } }

/-- R219, R246: a feed, or the hold-up path in its place, reports current limiting. -/
def State.limiting (s : State) : Bool :=
  s.flag (F.FD_FSTAT_LIM 0) || s.flag (F.FD_FSTAT_LIM 1) || s.flag F.HU_STAT_LIM

/-- A scale below 1. -/
def Scales.thr (x : Scales) : Bool :=
  decide (x.sh ≠ 65535) || (List.finRange 4).any fun c => decide (x.sc[c] ≠ 65535 ∨ x.sd[c] ≠ 65535)

/-- A discharging scale below 1. -/
def Scales.thrDis (x : Scales) : Bool := (List.finRange 4).any fun c => decide (x.sd[c] ≠ 65535)

/-- R217: a floor breach of a pass over scales that go from x to y: begun where it lowers one below its floor, over when every one
is at or above its floor. -/
def breachNow (x y : Vector Nat 4) (floor : Fin 4 → Nat) (was : Bool) : Bool :=
  (List.finRange 4).any fun c => decide (y[c] < floor c) && (was || decide (y[c] < x[c]))

/-- R217, R223: the breaches of both passes, and event 306 as one begins. -/
def State.ledgerBreach (s : State) (x y : Scales) : State :=
  let c := breachNow x.sc y.sc s.floor s.led.brCap
  let r := breachNow x.sd y.sd s.floor s.led.brRegen
  let s1 := if (c ∧ ¬ s.led.brCap) ∨ (r ∧ ¬ s.led.brRegen) then s.raise 306 1 else s
  { s1 with led := { s1.led with brCap := c, brRegen := r } }.setFlag F.LG_STAT_BREACH (c || r)

/-- R223, R217: the flags and events of a change of scales from x to y. -/
def State.ledgerFlags (s : State) (x y : Scales) : State :=
  let exceeds := decide (y.thr = false ∧ y.div = 0)
  let s1 := if y.thr ∧ ¬ x.thr then (s.incWrap F.LG_STAT_EPIS).raise 304 0 else s
  let s2 := if s.led.ep ∧ exceeds then s1.raise 305 0 else s1
  let s3 := s2.ledgerBreach x y
  let s4 := if y.thrDis ∧ ¬ x.thrDis then s3.raise 307 0 else s3
  let s5 := s4.setFlag F.LG_STAT_THR y.thr
  let s6 := ((s5.setFlag F.LG_STAT_DIV (decide (y.div ≠ 0))).setFlag F.LG_STAT_FLIM s.limiting).setFlag F.LG_STAT_RMSTALE
    (s.flag F.LG_STAT_RMSTALE && decide (s.eff F.LG_CTL_RMEN = 1))
  { s6 with led := { s6.led with ep := y.thr || (s.led.ep && !exceeds) } }

/-- R212: the measured net of the closed period, pW. -/
def State.measuredNet (s : State) (l : Loads) (x : Scales) : Int :=
  l.fix + x.div + rdiv 215 (l.hu * scaleF x.sh) 65536 + (chans.map fun n => (s.lane1 n).l.meas).foldl (· + ·) 0

/-- R212: the demand net at a scale of 1, pW. -/
def Loads.unit (l : Loads) : Int := l.fix + l.hu + ((List.finRange 4).map fun c => l.chg[c] + l.dis[c]).foldl (· + ·) 0

/-- R220, R225: LG_NET_W of a net in pW. -/
def netW (net : Int) : Int := rdiv 216 net (10 ^ 12)

/-- R222, R225: one boundary taken into the second's sums. -/
def LedgerAcc.take (a : LedgerAcc) (s : State) (l : Loads) (x y : Scales) (net : Int) : LedgerAcc :=
  { n := a.n + 1, net := a.net + netW net, high := some (max (netW net) (a.high.getD (netW net))),
    sc := Vector.ofFn fun c => a.sc[c] + y.sc[c], sd := Vector.ofFn fun c => a.sd[c] + y.sd[c], sh := a.sh + y.sh,
    div := a.div + y.div, thr := a.thr || y.thr || (x.thr && !y.thr), lim := a.lim || s.limiting,
    breach := a.breach || s.flag F.LG_STAT_BREACH, divert := a.divert || decide (y.div ≠ 0),
    curt := a.curt + (l.unit - (predicted l y - 65536 * y.div) / 65536),
    err := a.err + ((s.feed 0).pNow + (s.feed 1).pNow - netW net * 10 ^ 12) }

/-- R222: channels that report demand at a scale below 1. -/
def State.throttleBits (s : State) (y : Scales) : Nat :=
  (chans.filter fun n =>
    let d := (s.lane1 n).l.dem
    let c : Fin 4 := Fin.ofNat 4 (s.fget (F.CH_PSTAT_CLASS n))
    decide ((0 < d ∧ y.sc[c] ≠ 65535) ∨ (d < 0 ∧ y.sd[c] ≠ 65535))).length

/-- R222: the report of the second that ends. -/
def State.throttleRpt (s : State) (at_ nthr : Nat) : ThrottleRpt :=
  { acc := s.led.acc, at_ := at_, nthr := nthr, cap := s.fget F.LG_CAPEFF_CAP, src := s.fget F.LG_CAPEFF_SRC, regen := s.led.regen,
    stale := s.fget F.LG_STAT_RMSTALE }

/-- R222, R223, R225: a second ends. -/
def State.ledgerSecond (s : State) (at_ nthr : Nat) : State :=
  let a := s.led.acc
  let e := clampI (rdiv 225 a.err (a.n * 10 ^ 12)) (-32768) 32767
  let out := decide (s.eff F.LG_FEEDERR_LIM < e.natAbs)
  let s1 := if a.n = 0 then s else s.fsetS F.LG_FEEDERR_ERR e
  { s1 with led :=
    { s1.led with acc := {}, due := if a.thr then some (s.throttleRpt at_ nthr) else s1.led.due,
                  outN := if out then s1.led.outN + 1 else 0, alarmed := s1.led.alarmed && out } }

/-- R222: the period's sums. -/
def State.ledgerAdd (s : State) (l : Loads) (x y : Scales) (net : Int) : State :=
  { s with led := { s.led with acc := s.led.acc.take s l x y net } }

/-- R213–R218: the ledger closes at a boundary and publishes the next period's scales. -/
def State.ledgerClose (s : State) : State :=
  let l := s.loads
  let x := s.scales
  let (cap, src) := s.capNow
  let regen := s.regenNow
  let acc : Int := if s.eff F.LG_CTL_DIVEN = 1 then s.acceptance else 0
  let y := rescale l cap (regen * 10 ^ 12) acc s.floor (s.eff F.LG_CTL_RISE * 16) s.limiting x
  let net := s.measuredNet l x
  let s1 := (s.fset F.LG_CAPEFF_CAP (cap / 10 ^ 12).toNat).fset F.LG_CAPEFF_SRC src
  let s2 := (s1.setWord .LG_NET_W (wordOf (netW net))).setWord .LG_PRED_W (wordOf (rdiv 217 l.unit (10 ^ 12)))
  let s3 := ((s2.setScales y).ledgerFlags x y)
  let s4 := { s3 with led := { s3.led with regen := regen } }
  if s.ctr / sec = s.ctrPrev / sec then s4.ledgerAdd l x y net
  else if s.ctr % sec = 0 then (s4.ledgerAdd l x y net).ledgerSecond (s.ctr / sec) (s.throttleBits y)
  else (s4.ledgerSecond (s.ctr / sec) (s.throttleBits y)).ledgerAdd l x y net

/-- R222: the 60 bytes of a throttle report before its CRC. -/
def ThrottleRpt.body (r : ThrottleRpt) (seq : Nat) : List Byte :=
  let a := r.acc
  let n := a.n
  let mean (x : Nat) : List Byte := le16 (rdiv 222 x n).toNat
  le16 0x4000 ++ le16 1 ++ le32 seq ++ le64 (stampCode (r.at_ * sec)) ++ le32 (r.cap + r.src * 2 ^ 29) ++ le32 r.regen
  ++ le32 (codeOf 32 (rdiv 222 a.net n)) ++ le32 (codeOf 32 (a.high.getD 0))
  ++ a.sc.toList.flatMap mean ++ a.sd.toList.flatMap mean ++ mean a.sh
  ++ le16 (a.breach.toNat + a.divert.toNat * 2 + r.stale * 4 + a.lim.toNat * 8) ++ le16 r.nthr
  ++ le16 (rdiv 222 a.div (n * 10 ^ 12)).toNat ++ le32 (codeOf 32 (rdiv 222 a.curt (10 ^ 17)))

/-- THROTTLE_REPORT (R222, R128): the report of the second that ended joins the shelf's record queue. -/
def execThrottleReport (s : State) : Host.Outcome State Fault Refusal :=
  match s.led.due with
  | none => .next s
  | some r =>
    let s1 := s.incWrap F.LG_RPT_SEQ
    let b := r.body (s1.fget F.LG_RPT_SEQ)
    .next ({ s1 with led := { s1.led with due := none } }.shelfItem { kind := 4, bytes := b ++ le32 (crc32c b) })

/-- RM_CAP_STALE (R213): RMTMO seconds without a value. -/
def execRmCapStale (s : State) : Host.Outcome State Fault Refusal :=
  let t := s.eff F.LG_CTL_RMTMO
  if t ≠ 0 ∧ s.eff F.LG_CTL_RMEN = 1 ∧ s.flag F.LG_CAP_RM_VALID ∧ ¬ s.flag F.LG_STAT_RMSTALE ∧ s.reached (s.led.rmAt + t * sec) then
    .next ((s.setFlag F.LG_STAT_RMSTALE true).raise 308 1)
  else .next s

/-- FEED_ERROR_ALARM (R223): ten consecutive seconds outside LIM. -/
def execFeedErrorAlarm (s : State) : Host.Outcome State Fault Refusal :=
  if 10 ≤ s.led.outN ∧ s.led.alarmed = false then
    .next ({ s with led := { s.led with alarmed := true } }.raise 309 1)
  else .next s

end Sys2Proof.Machine
end

