-- ==== Sys2Proof/Machine/AuxConv.lean ====
section
/-! DEFINITION. The auxiliary converters AX0–AX3 (R269–R278). -/

namespace Sys2Proof.Machine

open Sys2Proof

/-- Change one converter. -/
def State.modAx (s : State) (j : Fin 4) (g : AuxSt → AuxSt) : State := { s with ax := s.ax.set j (g s.ax[j]) }

/-- AX_STAT.STATE. -/
def State.axState (s : State) (j : Fin 4) : Nat := s.fget (F.AX_STAT_STATE j)

/-- R271: the reference the margin asks for, nV of AXFB. -/
def State.axRef (s : State) (j : Fin 4) : Int := 1200000 * (1000 + s.effS (F.AX_MARG_MARG j))

/-- R271, R276: the margined target at the output, in µV. -/
def State.axTarget (s : State) (j : Fin 4) : Int :=
  if j = 3 then s.hu.vt else s.eff (F.AX_VNOM_VNOM j) * (1000 + s.effS (F.AX_MARG_MARG j))

/-- R273, R63, R293: a write of EN = 1. While a new DIV waits it is answered busy, and so is any write to a converter the rail table
drives; the EN of AX3 is read-only. One that runs, is in a hiccup, or is in FAULT with a bit latched goes on as it is. -/
def State.axEnable (s : State) (j : Fin 4) : State :=
  if j = 3 then s.answer stOk
  else if s.divPending ∨ s.axByTable j then s.answer stBusy
  else
    let s1 := s.setFlag (F.AX_CTL_EN j) true
    (if s.auxStartable j then s1.auxAsk j else s1).answer stOk

/-- R273, R293: a write of EN = 0. -/
def State.axDisable (s : State) (j : Fin 4) : State :=
  if j = 3 then s.answer stOk else if s.axByTable j then s.answer stBusy else (s.auxOff j).answer stOk

/-- AUX_ENABLE (R273, R63, R276): EN = 1, accepted at the next boundary. -/
def execAuxEnable (j : Fin 4) (s : State) : Host.Outcome State Fault Refusal := .next (s.axEnable j)

/-- AUX_DISABLE (R273, R293). -/
def execAuxDisable (j : Fin 4) (s : State) : Host.Outcome State Fault Refusal :=
  .next (s.axDisable j)

/-- R274, R284: FAULT with a bit of AX_FLT. -/
def State.auxFault (s : State) (j : Fin 4) (bit : Nat) : State :=
  let s1 := s.setWord (.AX_FLT j) (s.word (.AX_FLT j) ||| BitVec.ofNat 32 (2 ^ bit))
  ((s1.auxMid j).fset (F.AX_STAT_STATE j) 5).raise (368 + j.val) 2

/-- R274: a hiccup; with TRIES at 3 HIC is latched and the converter enters FAULT. -/
def State.auxHiccup (s : State) (j : Fin 4) : State :=
  if 3 ≤ s.fget (F.AX_STAT_TRIES j) then s.auxFault j 4
  else (((s.auxMid j).fset (F.AX_STAT_STATE j) 4).incWrap (F.AX_STAT_TRIES j)).raise (372 + j.val) 1

/-- R62, R271: the duty limits, in 2^-24, and whether the duty was clamped. -/
def State.axClamp (s : State) (j : Fin 4) (d : Int) : Nat × Bool :=
  let hi1 : Int := s.eff (F.AX_PWM_DMAX j) * 65536
  let off := s.eff (F.AX_PWM_TOFFMIN j) * 1000000
  let hi : Int := min hi1 ((s.tnow - off) * 2 ^ 24 / s.tnow : Nat)
  ((clampI d 0 hi).toNat, decide (d < 0 ∨ hi < d))

/-- R276: the legs of AX3 that switch: the bus-side one while the bus is more than 2 V above the pack, the pack-side one while it
is more than 2 V below, both between. Their duties are free values (notes/assumptions/5.md). -/
def State.axLegs (s : State) : State :=
  let d := s.fsel.busUv - s.hu.hv
  let b := decide (-2000000 ≤ d)
  let p := decide (d ≤ 2000000)
  (s.fresh.modAx 3 fun x => { x with next := some (bitsOf s.freeWord 0 24), busLeg := b, packLeg := p }).setFlag
    (F.AX_STAT_NPHR 3) (b && p)

/-- R273: t2: the soft start from the present output: of AX0–AX2 at d = V_out / BUS_V and the present AXFB, of AX3 at the present
output. -/
def State.axSoft (s : State) (j : Fin 4) (mv : Int) : State :=
  let d := (s.axClamp j (rdiv 270 (mv * 1000 * 2 ^ 24) s.vbus)).1
  let ref : Int := if j = 3 then mv * 1000 else s.ax[j].fb * 1000
  let s1 := ((s.fset (F.AX_STAT_STATE j) 2).setFlag (F.AX_STAT_NPHR j) (s.eff (F.AX_CFG_NPH j) = 1)).modAx j fun x =>
    { x with ref := ref, left := s.eff (F.AX_CFG_TSS j) * 100, int := 0, eLast := 0, kp := s.eff (F.AX_GAIN_KP j),
             duty := if j = 3 then none else some d }
  if j = 3 then s1.axLegs else s1

/-- AUX_CHECK (R273): the second read, 200 µs after t0. -/
def execAuxCheck (j : Fin 4) (mv : Int) (s : State) : Host.Outcome State Fault Refusal :=
  let x := s.ax[j]
  if s.axState j = 1 ∧ s.reached (x.since + 200 * us) then
    if s.axTarget j * 13 < mv * 10000 ∨ 500 < mv - x.v0 then .next (s.auxFault j 0)
    else .next (s.axSoft j mv)
  else .next s

/-- R274: the metered output in % of the target, compared: above `pct`. -/
def State.axAbove (s : State) (j : Fin 4) (pct : Int) : Bool :=
  decide (s.axTarget j * pct < (s.word (.AX_V j)).toInt * 100000)

/-- R274: the metered output in % of the target, compared: below `pct`. -/
def State.axBelow (s : State) (j : Fin 4) (pct : Int) : Bool :=
  decide ((s.word (.AX_V j)).toInt * 100000 < s.axTarget j * pct)

/-- AUX_SOFTSTART_DONE (R273, R274): TSS after t2. -/
def execAuxSoftstartDone (j : Fin 4) (s : State) : Host.Outcome State Fault Refusal :=
  if s.axState j = 2 ∧ s.reached (s.ax[j].since + 200 * us + s.eff (F.AX_CFG_TSS j) * ms) then
    if s.axBelow j 50 then .next (s.auxHiccup j) else .next (s.fset (F.AX_STAT_STATE j) 3)
  else .next s

/-- AUX_POWER_GOOD (R273): within ±5 % for 1 ms. -/
def execAuxPowerGood (j : Fin 4) (s : State) : Host.Outcome State Fault Refusal :=
  if s.axState j = 3 ∧ ¬ s.flag (F.AX_STAT_PG j) ∧ s.ax[j].okAt.any (fun t => s.reached (t + ms)) then
    .next ((s.setFlag (F.AX_STAT_PG j) true).modAx j fun x => { x with pgAt := s.time })
  else .next s

/-- R274, R278: an over-voltage acts once the check has passed, and prevails over a hiccup of the same period. -/
def State.ovActs (s : State) (j : Fin 4) : Bool :=
  decide (s.axState j = 2 ∨ s.axState j = 3 ∨
    (s.ax[j].since = s.time ∧ (s.axState j = 4 ∨ (s.axState j = 5 ∧ s.flag (F.AX_FLT_HIC j) = true))))

/-- AUX_OV (R274, R278): an output, in mV, above 115 % of the target for 10 µs. -/
def execAuxOv (j : Fin 4) (mv : Int) (held : Nat) (s : State) : Host.Outcome State Fault Refusal :=
  if s.ovActs j ∧ s.axTarget j * 115 < mv * 100000 ∧ 10 * us ≤ held then .next (s.auxFault j 1) else .next s

/-- AUX_UV (R274, R276): below 90 % for 1 ms in RUN; not for AX3. -/
def execAuxUv (j : Fin 4) (s : State) : Host.Outcome State Fault Refusal :=
  if s.axState j = 3 ∧ j ≠ 3 ∧ s.ax[j].uvAt.any (fun t => s.reached (t + ms)) then
    .next ((s.setFlag (F.AX_FLT_UV j) true).auxHiccup j)
  else .next s

/-- AUX_OC (R274, R278): the limit acted in every period for TOC ms. -/
def execAuxOc (j : Fin 4) (s : State) : Host.Outcome State Fault Refusal :=
  if (s.axState j = 2 ∨ s.axState j = 3) ∧ s.eff (F.AX_CFG_TOC j) * 100 ≤ s.ax[j].limN then
    .next ((s.setFlag (F.AX_FLT_OC j) true).auxHiccup j)
  else .next s

/-- AUX_HICCUP_END (R274, R278): THIC × 10 ms after it began, from t0; EN written 0 meanwhile has ended it. -/
def execAuxHiccupEnd (j : Fin 4) (mv : Int) (s : State) : Host.Outcome State Fault Refusal :=
  if s.axState j = 4 ∧ s.reached (s.ax[j].since + s.eff (F.AX_CFG_THIC j) * (10 * ms)) then .next (s.auxStart j mv) else .next s

/-- AUX_CHARGER_OV (R276): AXFB[3], in mV of output, above V_C × 1.02: both legs of AX3 to mid and OV latched, which stops the
charger through its FAULT row. -/
def execAuxChargerOv (mv : Int) (s : State) : Host.Outcome State Fault Refusal :=
  if s.flag (F.AX_FLT_OV 3) ∨ mv * 10 ≤ s.fget F.HU_STRAP_CEIL * 102 then .next s
  else .next (((s.auxFault 3 1).setFlag (F.AX_CTL_EN 3) false).fset F.HU_STAT_CHG 6)

/-- R271, R273: the reference one period on: TSS of soft start, else 1 % per ms toward the margin's. -/
def State.axSlew (s : State) (j : Fin 4) : Int × Nat :=
  let x := s.ax[j]
  let to_ := s.axRef j
  if s.axState j = 2 ∧ 0 < x.left then (x.ref + rdiv 274 (to_ - x.ref) x.left, x.left - 1)
  else (x.ref + clampI (to_ - x.ref) (-120000) 120000, 0)

/-- R271: one period's regulation of AX0–AX2: duty of the next period. -/
def State.axRegulate (s : State) (j : Fin 4) (fb : Nat) : State :=
  let x := s.ax[j]
  let (ref, left) := s.axSlew j
  let e := ref - fb * 1000
  let kp := s.eff (F.AX_GAIN_KP j)
  let base := x.int + ((x.kp : Int) - kp) * 16 * x.eLast
  let cand := base + s.eff (F.AX_GAIN_KI j) * e
  let ff := rdiv 271 (s.eff (F.AX_VNOM_VNOM j) * ref * 2 ^ 24) (1200 * s.vbus)
  let d := rdiv 272 (ff + kp * 16 * e + cand) 1000000
  let (duty, clamped) := s.axClamp j d
  s.modAx j fun x =>
    { x with ref := ref, left := left, eLast := e, kp := kp, int := if clamped then base else cand, next := some duty }

/-- R67, R275: shedding and restoring of phase b on the measured current, in µV of shunt against OCTH in mV; the count runs in RUN. -/
def State.axShed (s : State) (j : Fin 4) (shunt : Int) : State :=
  let full := s.eff (F.AX_ILIM_OCTH j) * 1000
  let two := s.flag (F.AX_STAT_NPHR j)
  if s.eff (F.AX_CFG_NPH j) = 0 then s.setFlag (F.AX_STAT_NPHR j) false
  else if s.axState j ≠ 3 then s.modAx j fun x => { x with shedN := 0 }
  else if s.eff (F.AX_CFG_SHED j) = 0 then (s.setFlag (F.AX_STAT_NPHR j) true).modAx j fun x => { x with shedN := 0 }
  else if two then
    let n := if shunt.natAbs * 100 < full * 30 then s.ax[j].shedN + 1 else 0
    let s1 := s.modAx j fun x => { x with shedN := if n = 200 then 0 else n }
    if n = 200 then
      ((s1.setFlag (F.AX_STAT_NPHR j) false).setFlag (F.AX_STAT_KEPT j) (!s.flag (F.AX_STAT_KEPT j))).incWrap (F.AX_STAT_SHEDS j)
    else s1
  else if full * 40 < shunt.natAbs * 100 then s.setFlag (F.AX_STAT_NPHR j) true
  else s

/-- R271, R285: the meters: AX_V = AXFB × VNOM / 1,200 mV, AX_I over RSH, AX_P; AX3's output is the pack. -/
def State.axMeter (s : State) (j : Fin 4) (inp : AuxIn) : State :=
  let v := if j = 3 then rdiv 275 s.hu.hv 1000 else rdiv 276 (inp.fb * s.eff (F.AX_VNOM_VNOM j) : Nat) 1200000
  let i := if j = 3 then rdiv 277 s.hu.hi 1000 else rdiv 278 (inp.shunt * 1000) (s.eff (F.AX_ILIM_RSH j))
  ((s.setWord (.AX_V j) (wordOf v)).setWord (.AX_I j) (wordOf i)).setWord (.AX_P j) (wordOf (rdiv 279 (v * i) 1000))

/-- R308: the PWM floor holds every PWM output at mid: PWMPLL coasts, or its measured frequency is too low. -/
def State.pwmFloor (s : State) : Bool := s.flag ⟨.CK_PLLSTAT, 6, 1⟩ || s.clk.pwmLow

/-- R308: the AXPWM outputs go to mid. -/
def State.axFloor (s : State) : State := { s with ax := s.ax.map fun x => { x with duty := none, next := none } }

/-- R270: where a phase of a converter starts its cycle after phase zero, fs. -/
def State.axCycleOff (s : State) (j : Fin 4) (phB : Bool) : Nat :=
  (2 * j.val + 1) * s.tnow / 32 + (if phB then s.tnow / 2 else 0)

/-- R270: how many cycles of a phase start in the control period that ends. -/
def State.axStarts (s : State) (j : Fin 4) (phB : Bool) : Nat :=
  let e := s.time * 1000000
  let f := s.startFrom (s.axCycleOff j phB) (e - tCtl * 1000000)
  if f < e then (e - 1 - f) / s.tnow + 1 else 0

/-- R269, R275: does a phase switch? With one phase fitted phase a alone; with one shed the kept one. -/
def State.axRuns (s : State) (j : Fin 4) (phB : Bool) : Bool :=
  if s.eff (F.AX_CFG_NPH j) = 0 then !phB
  else s.flag (F.AX_STAT_NPHR j) || decide (s.flag (F.AX_STAT_KEPT j) = phB)

/-- R62, R270: the cycles of a phase in the control period that ends, each with the duty released for it. -/
def State.axCycles (s : State) (j : Fin 4) (phB : Bool) : State :=
  let k : Fin 2 := if phB then 1 else 0
  match s.ax[j].duty with
  | none => s
  | some d =>
    if s.axRuns j phB = false then s
    else
      let one (p : Nat × Nat) (_ : Nat) : Nat × Nat := (pulse (s.eff (F.AX_PWM_TONMIN j)) d s.tnow p.2).2
      let p := (List.range (s.axStarts j phB)).foldl one (s.ax[j].onTime[k], s.ax[j].acc[k])
      s.modAx j fun x => { x with onTime := x.onTime.set k p.1, acc := x.acc.set k p.2 }

/-- R272: the fast limit: OCTH, or half of it with one phase running, against the largest shunt voltage of the period. -/
def State.axLimits (s : State) (j : Fin 4) (peak : Int) : Bool :=
  let full : Int := s.eff (F.AX_ILIM_OCTH j) * 1000
  if s.flag (F.AX_STAT_NPHR j) then decide (full < peak) else decide (full < 2 * peak)

/-- R272–R274: what the converter's timers make of one period. -/
def State.axWatch (s : State) (j : Fin 4) (lim : Bool) : State :=
  let run := decide (s.axState j = 3)
  let good := run && !s.axBelow j 95 && !s.axAbove j 105
  let low := run && s.axBelow j 90
  let s1 := (s.setFlag (F.AX_STAT_LIM j) lim).modAx j fun x =>
    { x with limN := if lim then x.limN + 1 else 0, okAt := if good then some (x.okAt.getD s.time) else none,
             uvAt := if low then some (x.uvAt.getD s.time) else none }
  if s.flag (F.AX_STAT_PG j) ∧ s.ax[j].pgAt + sec ≤ s.time then s1.fset (F.AX_STAT_TRIES j) 0 else s1

/-- R271–R276: one control period of a converter; EN accepted starts the check. -/
def State.axBoundary (s : State) (j : Fin 4) (inp : AuxIn) : State :=
  if s.gateOn 10 = false then s
  else
    let s0 := (s.axCycles j false).axCycles j true
    let s1 := (s0.axMeter j inp).modAx j fun x =>
      { x with duty := if s.pwmFloor then none else x.next, next := none, fb := inp.fb }
    if s.ax[j].start ∧ s.auxStartable j then s1.auxStart j inp.cm
    else if s.axState j = 2 ∨ s.axState j = 3 then
      let s2 := s1.axWatch j (s.axLimits j inp.peak)
      if j = 3 then s2.axLegs else (s2.axShed j inp.shunt).axRegulate j inp.fb
    else s1

/-- R285, R349: a host write of AX_FLT: clearing OV is blocked while the output is above 115 %. -/
def State.axFltWrite (s : State) (j : Fin 4) (val : Word) : State :=
  if s.flag (F.AX_FLT_OV j) ∧ val.getLsbD 1 ∧ s.axAbove j 115 then
    (s.writeReg (.AX_FLT j) (val &&& ~~~ 2#32)).answer stLocked
  else s.writeReg (.AX_FLT j) val

end Sys2Proof.Machine
end

