-- ==== Sys2Proof/Machine/Protect.lean ====
section
/-! DEFINITION. Channel protection (R94–R117): the detectors, the electronic fuse, contact-break detection and its energy
estimate, contact wear, and the clearing of faults. -/

namespace Sys2Proof.Machine

open Sys2Proof

/-- R95: OSW[n] is commanded closed. -/
def State.closed (s : State) (n : Fin 128) : Bool := s.flag (F.CH_STATE_OSWC n)

/-- OC_TRIP (R95, R96): the comparator sees a shunt voltage of `uv` µV, either sign, for `held` ns up to `t` ns after the last boundary: above
OCTH through the 50 ns deglitch it trips, in every state. -/
def execOcTrip (n : Fin 128) (t uv held : Nat) (s : State) : Host.Outcome State Fault Refusal :=
  if s.eff (F.CH_LIM_I_OCTH n) * 1000 < uv ∧ 50 ≤ held then .next (s.trip n [0] t) else .next s

/-- OV_TRIP (R95): the sense-die comparator sees `uv` µV for `held` ns up to `t`: above OVTH for 1 µs it trips, only while OSW[n] is commanded
closed. -/
def execOvTrip (n : Fin 128) (t uv held : Nat) (s : State) : Host.Outcome State Fault Refusal :=
  if s.closed n ∧ s.eff (F.CH_LIM_V_OVTH n) * 1000 < uv ∧ us ≤ held then .next (s.trip n [1] t) else .next s

/-- UV_TRIP (R95, R99): ten consecutive control samples below UVTH while iref < 0. -/
def execUvTrip (n : Fin 128) (s : State) : Host.Outcome State Fault Refusal :=
  if 10 ≤ (s.lane1 n).p.uvN ∧ s.closed n then .next (s.tripSoft n [2]) else .next s

/-- R102: H has reached (KT_r × IC)². -/
def State.fuseHot (s : State) (n : Fin 128) : Bool :=
  let k : Int := (64 + s.eff (F.CH_FUSE_KT n)) * s.icOf n
  decide (k * k ≤ (s.lane1 n).p.h * 4096)

/-- FUSE_TRIP (R102): a fuse that is not TRIPPED already. -/
def execFuseTrip (n : Fin 128) (s : State) : Host.Outcome State Fault Refusal :=
  if s.fuseHot n ∧ ¬ s.flag (F.CH_FAULT_FUSE n) then .next (s.tripSoft n [4]) else .next s

/-- R107: the part of the check in which rpath is taken as 0: CHECK from PARKED until its own learning completes. -/
def State.unlearned (s : State) (n : Fin 128) : Bool :=
  let c := (s.lane1 n).c
  !c.restExit && decide (c.ph ≠ .none ∧ c.ph ≠ .down)

/-- R105, R107: REST is in force for contact detection: from its step's start on. -/
def State.restOn (s : State) (n : Fin 128) : Bool :=
  let x := (s.lane1 n).x
  match x.step with
  | some st => decide (st.mode = 8) && st.start.any fun t => decide (t ≤ s.ctr)
  | none => decide (x.lastMode = 8)

/-- R95, R107: contact detection counts at all: OSW[n] commanded closed, and not in REST. A switch is opening once it is commanded open
(notes/assumptions/161.md). -/
def State.ctWatch (s : State) (n : Fin 128) : Bool := s.closed n && !s.restOn (s.leader n)

/-- R104: the force residual in pV, of vfd in µV and ip in µA, and the window in pV (R107). -/
def State.residual (s : State) (n : Fin 128) (vfd ip : Int) : Int × Int :=
  let old := (s.lane1 n).p.ipHist.getD 1 ip
  let rp : Int := if s.unlearned n then 0 else s.fget (F.CH_RPATH_RPATH n)
  let r := vfd * 10 ^ 6 - ip * rp - 500 * s.eff (F.CT_DELTA_LPATH n) * (ip - old)
  let w : Int := s.eff (F.CT_DELTA_DELTA n) * 10 ^ 9
  (r, if s.unlearned n then w + ip.natAbs * (bitsOf (s.lane1 n).c.cfg 16 8 * 500) else w)

/-- R104: a delta code at either end of the 12-bit span is saturated. -/
def deltaSat (code : Int) : Bool := decide (code ≤ -2048 ∨ 2047 ≤ code)

/-- R110: what one sample adds to the estimate: |r| × |ip| × 1 µs, a saturated sample at V_ARC. -/
def State.ctAdd (s : State) (n : Fin 128) (r ip : Int) (sat : Bool) : Nat :=
  (if sat then s.eff (F.CT_EMAX_VARC n) * 10 ^ 11 else r.natAbs) * ip.natAbs

/-- R110: a sample enters the sum of its run, up to the run's first sample with |ip| < 50 mA. -/
def ChProt.ctTake (p : ChProt) (add : Nat) (ip : Int) : ChProt :=
  if p.ctLow then p
  else if ip.natAbs < 50000 then { p with ctLow := true }
  else { p with ctSum := p.ctSum + add, ctSmp := p.ctSmp + 1 }

/-- R105: the count and the run's sum start anew. -/
def ChProt.ctClear (p : ChProt) : ChProt := { p with ctN := 0, ctSum := 0, ctSmp := 0, ctLow := false }

/-- R111: the excursions of the last 60 one-minute bins. -/
def ChProt.near (p : ChProt) : Nat := p.binNow + p.bins.foldl (· + ·) 0

/-- R111: WEAR follows the sum of the bins against RATE. -/
def State.wearJudge (s : State) (n : Fin 128) : State :=
  let sum := (s.lane1 n).p.near
  let rate := s.eff (F.CH_CTWEAR_RATE n)
  if rate < sum ∧ ¬ s.flag (F.CH_CTWEAR_WEAR n) then
    let s1 := s.setFlag (F.CH_CTWEAR_WEAR n) true
    s1.raise (2 * n.val) 1 (s1.faultPayload n)
  else if 2 * sum ≤ rate then s.setFlag (F.CH_CTWEAR_WEAR n) false
  else s

/-- R105, R110, R111: one delta sample taken into the contact counts. A run of three that CONTACT_BREAK has not taken yet goes on as a
qualified break. -/
def State.ctSample (s : State) (n : Fin 128) (r w ip : Int) (sat : Bool) : State :=
  let p := (s.lane1 n).p
  let add := s.ctAdd n r ip sat
  if p.ctOpen ∨ (3 ≤ p.ctN ∧ s.eff (F.CT_DELTA_CTEN n) = 1) then s.modP n fun p => p.ctTake add ip
  else if ¬ s.ctWatch n then s.modP n ChProt.ctClear
  else if sat ∨ w < r.natAbs then
    s.modP n fun p => { p.ctTake add ip with ctN := p.ctN + 1, ctAt := s.ctr + (p.vfdN + 1) * us, ctEl := s.time + (p.vfdN + 1) * us }
  else if p.ctN = 1 ∨ p.ctN = 2 then
    ((s.modP n fun p => { p.ctClear with binNow := p.binNow + 1 }).incSat (F.CH_CTCNT_NEAR n)).wearJudge n
  else s.modP n ChProt.ctClear

/-- R104, R108, R197: the protection current of the delta sample now taken, µA: held over the two samples that straddle a range
change, and the lane's for an adopted channel. -/
def State.protCurr (s : State) (n : Fin 128) (ip : Int) : Int :=
  let c := s.lane1 n
  let t := s.ctr + (c.p.vfdN + 1) * us
  let r := s.fget (F.CH_MSTAT_IRANGE n)
  if c.m.rangeLog.any (fun p => t ≤ p.1 + 2 * us) then c.p.ipHist.headD 0
  else if s.adopted n then (s.lanePair n r { i := ip }).2.1
  else calCurr (s.calUse n 1 r) (clampIraw ip) r c.m.rshunt

/-- DELTA_SAMPLE (R38, R104, R105, R110, R111): the delta converter's code (488 µV) and the protection current path, in full
scale × 2^-30 of the range in force. -/
def execDeltaSample (n : Fin 128) (vfd ip : Int) (s : State) : Host.Outcome State Fault Refusal :=
  let v := calVolt (s.calUse n 0 2) (clampI vfd (-2048) 2047 * 488000) 1000
  let i := s.protCurr n ip
  let (res, w) := s.residual n v i
  let s1 := s.ctSample n res w i (deltaSat vfd)
  let drift := decide (s.eff (F.CH_CHK_ILRN n) * 100000 ≤ i.natAbs) && s.closed n
  .next (s1.modP n fun p =>
    { p with vfdSum := p.vfdSum + v, vfdN := p.vfdN + 1, ipHist := (i :: p.ipHist).take 2,
             driftSum := if drift then p.driftSum + res else p.driftSum,
             driftN := if drift then p.driftN + 1 else p.driftN })

/-- CONTACT_BREAK (R105, R107, R112, R116): three consecutive out-of-window samples qualify, whatever the microsecond brought since; the
event is issued when the estimate closes (R110). In soft start the break latches SS as well, and FIRST records SS. -/
def execContactBreak (n : Fin 128) (s : State) : Host.Outcome State Fault Refusal :=
  let p := (s.lane1 n).p
  if 3 ≤ p.ctN ∧ ¬ p.ctOpen ∧ s.eff (F.CT_DELTA_CTEN n) = 1 then
    let ss := s.flag (F.CH_STATE_SS (s.leader n))
    let s1 := s.modP n fun p => { p with ctOpen := true, ctN := 0 }
    .next ((s1.tripSilent n (if ss then [7, 5] else [5]) (p.ctEl - s.time)).incSat (F.CH_CTCNT_TRIPS n))
  else .next s

/-- CT_ESTIMATE_CLOSE (R110): at the first sample with |ip| < 50 mA the estimate closes, OSW[n] opens, and event 2n is
issued with the qualifying sample's stamp, critical if the estimate exceeds EMAX. -/
def execCtEstimateClose (n : Fin 128) (s : State) : Host.Outcome State Fault Refusal :=
  let p := (s.lane1 n).p
  if p.ctOpen ∧ p.ctLow then
    let e := p.ctSum / 10 ^ 18
    let s1 := (s.fset (F.CH_CTLAST_EEST n) (min e (2 ^ 24 - 1))).fset (F.CH_CTLAST_NSMP n) (min p.ctSmp 255)
    let exceeds := decide (s.eff (F.CT_EMAX_EMAX n) * 10 ^ 19 < p.ctSum)
    let s2 := if exceeds then s1.latchBeside n 6 else s1
    let s3 := (s2.openSwitch n).modP n fun p => { p.ctClear with ctOpen := false }
    .next (s3.raiseOcc { num := 2 * n.val, sev := if exceeds then 3 else 2, stamp := p.ctAt, required := true,
                         payload := s3.faultPayload n (le32 (s3.word (.CH_CTLAST n)).toNat) })
  else .next s

/-- R100: has FLT_L[n] been low for FLTQ? -/
def State.fltLong (s : State) (n : Fin 128) (held : Nat) : Bool := decide (s.eff (F.CH_STG_FLTQ n) * 100 ≤ held)

/-- STAGE_FAULT (R95, R100): FLT_L[n] is low, for `held` ns up to `t` ns after the last boundary: for FLTQ continuously it is a stage fault. -/
def execStageFault (n : Fin 128) (t held : Nat) (s : State) : Host.Outcome State Fault Refusal :=
  let s1 := s.modP n fun p => { p with fltLow := true }
  if s.closed n ∧ s.fltLong n held then .next (s1.trip n [8] t) else .next s1

/-- FLT_L_PULSE (R95, R100): FLT_L[n] was low for `held` ns and rises at `t`. Shorter than FLTQ it is a limit pulse; CYC trips when CYCN of
the last 64 switching cycles held one. With OSW[n] open nothing is counted (the model's choice: notes/assumptions/152.md). -/
def execFltLPulse (n : Fin 128) (t held : Nat) (s : State) : Host.Outcome State Fault Refusal :=
  let s0 := s.modP n fun p => { p with fltLow := false }
  if s.closed n = false then .next s0
  else if s.fltLong n held then .next (s0.trip n [8] t)
  else
    let cyc := (s.time + t) * 1000000 / s.tnow
    let l := (cyc :: (s.lane1 n).p.fltPulses.filter fun k => k ≠ cyc).filter fun k => cyc < k + 64
    let s1 := (s0.incWrap (F.CH_STG_CYCCNT n)).modP n fun p => { p with fltPulses := l }
    if s.eff (F.CH_STG_CYCN n) ≤ l.length then .next (s1.trip n [9] t) else .next s1

/-- WEAR_BIN_MINUTE (R111): the excursion bins roll over once a minute of elapsed time; WEAR follows their sum. -/
def execWearBinMinute (n : Fin 128) (s : State) : Host.Outcome State Fault Refusal :=
  let p := (s.lane1 n).p
  let now := s.time / (60 * sec)
  if now ≤ p.binAt then .next s
  else
    let bins := (List.replicate (min 60 (now - p.binAt - 1)) 0 ++ p.binNow :: p.bins).take 59
    .next ((s.modP n fun p => { p with bins := bins, binNow := 0, binAt := now }).wearJudge n)

/-- DRIFT_SECOND (R111): after each second a mean residual beyond DELTA / 2 sets DRIFT and raises the same event. -/
def execDriftSecond (n : Fin 128) (s : State) : Host.Outcome State Fault Refusal :=
  let p := (s.lane1 n).p
  if s.time / sec ≤ p.driftAt then .next s
  else
    let s1 := s.modP n fun p => { p with driftSum := 0, driftN := 0, driftAt := s.time / sec }
    if s.eff (F.CT_DELTA_DELTA n) * 10 ^ 9 * p.driftN < 2 * p.driftSum.natAbs ∧ ¬ s.flag (F.CH_CTWEAR_DRIFT n) then
      let s2 := s1.setFlag (F.CH_CTWEAR_DRIFT n) true
      .next (s2.raise (2 * n.val) 1 (s2.faultPayload n))
    else .next s1

/-- R113: the condition of a bit of CH_FAULT is present and blocks its clearing. -/
def State.faultBlocked (s : State) (n : Fin 128) (bit : Nat) : Bool :=
  let c := s.lane1 n
  if bit = 1 then decide (s.eff (F.CH_LIM_V_OVTH n) * 1000 < c.m.cs.v)
  else if bit = 3 then
    s.effFlag (F.CH_LIM_T_TSEN n) &&
      (s.flag (F.CH_MSTAT_TSFLT n) || decide (s.effS (F.CH_LIM_T_TMAX n) * 100 - 5000 < sword (s.word (.CH_T n))))
  else if bit = 4 then decide (s.icOf n * s.icOf n ≤ 2 * c.p.h)
  else if bit = 8 then c.p.fltLow
  else if bit = 14 then s.busOut
  else false

/-- R113: the bits of a write of CH_FAULT that clear. -/
def State.faultClears (s : State) (n : Fin 128) (val : Word) : Word :=
  (List.range 16).foldl (fun w b =>
    if (val &&& faultMask).getLsbD b ∧ ¬ s.faultBlocked n b then w ||| BitVec.ofNat 32 (2 ^ b) else w) 0

/-- R113: a W1C write of CH_FAULT. -/
def State.faultClear (s : State) (n : Fin 128) (val : Word) : State :=
  let c := s.faultClears n val
  let w := s.word (.CH_FAULT n) &&& ~~~ c
  let s1 := s.setWord (.CH_FAULT n) w
  let s2 := if w &&& faultMask = 0 then s1.fset (F.CH_FAULT_FIRST n) 0 else s1
  let s3 := s2.settleMemb (s2.leader n)
  s3.answer (if s.word (.CH_FAULT n) &&& faultMask &&& val &&& ~~~ c = 0 then stOk else stLocked)

/-- FAULT_CLEAR (R113). -/
def execFaultClear (n : Fin 128) (val : Word) (s : State) : Host.Outcome State Fault Refusal := .next (s.faultClear n val)

/-- R101: H after one control period on a current in µA. -/
def fuseStep (h i : Int) (tau : Nat) : Int := h + rdiv 101 (i * i - h) (tau * 10000)

/-- R87, R115: in soft start a lane's own current is further than 10 % of its own I_FS from its share of iref (the model's choice of
I_FS: notes/assumptions/160.md). -/
def State.softOff (s : State) (n : Fin 128) : Bool :=
  let ld := s.leader n
  let size := s.gangSize ld
  decide (10 * size * s.ifsTop n < s.pctOf n ((s.lane1 n).m.cs.i * size - (s.lane1 ld).l.iref))

/-- R87, R89, R95, R101, R102: what one control sample does to the lane's protection. -/
def State.protBoundary (s : State) (n : Fin 128) : State :=
  let c := s.lane1 n
  let h := fuseStep c.p.h c.m.cs.i (s.eff (F.CH_FUSE_TAU n))
  let uvth := s.eff (F.CH_LIM_V_UVTH n)
  let ld := s.leader n
  let uv := decide (c.m.cs.v < uvth * 1000 ∧ (s.lane1 ld).l.iref < 0) && s.closed n && decide (uvth ≠ 0)
  let ssOn := s.flag (F.CH_STATE_SS ld)
  let ss := ssOn && s.softOff n
  let ic := s.icOf n
  let s1 := s.modP n fun p =>
    { p with h := h, uvN := if uv then p.uvN + 1 else 0, ssN := if ss then p.ssN + 1 else if ssOn ∧ 5 ≤ p.ssN then p.ssN else 0,
             vfdSum := 0, vfdN := 0 }
  let s1 := if (s.lane1 ld).l.engaged ∧ ¬ s.idle ld then s1 else s1.fuseNote ld n (s.lane1 ld).l.iref
  let s2 := if c.p.vfdN = 0 then s1 else s1.fsetS (F.CH_VFD_VFD n) (rdiv 38 c.p.vfdSum c.p.vfdN)
  s2.fset (F.CH_FUSEST_HREL n) (min 4095 (if ic = 0 then 0 else (rdiv 117 (h * 1024) (ic * ic).toNat).toNat))

end Sys2Proof.Machine
end

