-- ==== Sys2Proof/Machine/Flags.lean ====
section
/-! DEFINITION. The flags Z, N and C of R152, and the results they come with. -/

namespace Sys2Proof.Machine

/-- A result and its flags (R152). -/
structure AluOut where
  r : Word
  z : Bool
  n : Bool
  c : Bool
  deriving DecidableEq, Repr

/-- Z and N of a 32-bit result. -/
def aluOf (r : Word) (c : Bool) : AluOut := { r := r, z := decide (r = 0), n := r.msb, c := c }

/-- ADD: the sum modulo 2^32 and the carry out of bit 31. -/
def aluAdd (x y : Word) : AluOut := aluOf (x + y) (decide (2 ^ 32 ≤ x.toNat + y.toNat))

/-- SUB: the difference modulo 2^32; C is 1 when unsigned x < unsigned y. -/
def aluSub (x y : Word) : AluOut := aluOf (x - y) (decide (x.toNat < y.toNat))

/-- MULSH: the signed product shifted right arithmetically; C is 1 when it leaves the signed range. -/
def aluMulsh (x y : Word) (sh : Nat) : AluOut :=
  let q := (sword x * sword y) / 2 ^ sh
  aluOf (wordOf q) (decide (q < -2 ^ 31 ∨ 2 ^ 31 - 1 < q))

/-- CMP: the exact signed difference decides Z and N. -/
def aluCmp (x y : Word) : AluOut :=
  let d := sword x - sword y
  { r := x, z := decide (d = 0), n := decide (d < 0), c := decide (x.toNat < y.toNat) }

end Sys2Proof.Machine
end

