-- ==== Sys2Proof/Machine/Operands.lean ====
section
/-! DEFINITION. A Gulgaub word's operands and the context they act on: the program counter, flags, registers, stack and
store of R118, R130, R136 and R142, and the ports of R120, R153, R161 and R162. -/

namespace Sys2Proof.Machine

open Sys2Proof

/-- The fields of an instruction word after its opcode (R142). -/
structure IWord where
  a : Fin 16
  b : Fin 16
  s : Fin 4
  imm : BitVec 16
  deriving DecidableEq, Repr

/-- IMM as an unsigned number. -/
def IWord.u (w : IWord) : Nat := w.imm.toNat

/-- The register after a register (R142); an encoding that would run past g15 is reserved (R143). -/
def nextReg (a : Fin 16) (k : Nat) : Fin 16 := Fin.ofNat 16 (a.val + k)

/-- R118, R136: the program counter, a word index within the bank in force. -/
def State.pc (s : State) : Ctx → Nat
  | .chan n => s.fget (F.CH_PSTAT_PC n)
  | .shelf => s.fget F.CS_SHSTAT_PC

/-- Set the program counter. -/
def State.setPc (s : State) (c : Ctx) (v : Nat) : State := match c with
  | .chan n => s.fset (F.CH_PSTAT_PC n) v
  | .shelf => s.fset F.CS_SHSTAT_PC v

/-- To the next word. -/
def State.advance (s : State) (c : Ctx) : State := s.setPc c (s.pc c + 1)

/-- R140: BASE of the context's region. -/
def State.progBase (s : State) : Ctx → Nat
  | .chan n => s.fget (F.CH_PROG_BASE n)
  | .shelf => s.fget F.CS_SHPROG_BASE

/-- R140: the region's length in words. -/
def State.progLen (s : State) : Ctx → Nat
  | .chan n => s.fget (F.CH_PROG_LEN n) * 16
  | .shelf => s.fget F.CS_SHPROG_LEN * 16

/-- R132: the bank in force. -/
def State.bankAct (s : State) : Ctx → Nat
  | .chan n => s.fget (F.CH_PROG_ACT n)
  | .shelf => s.fget F.CS_SHPROG_ACT

/-- R13, R130: the address of a word of the step store. -/
def storeAddr (bank idx : Nat) : Nat := 0x200000 + bank * 0x40000 + idx * 4

/-- The word at the program counter. -/
def State.fetch (s : State) (c : Ctx) : Word := s.memWord (storeAddr (s.bankAct c) (s.pc c))

/-- R129: the program counter is inside the region. -/
def State.pcIn (s : State) (c : Ctx) : Bool :=
  decide (s.progBase c ≤ s.pc c ∧ s.pc c < s.progBase c + s.progLen c)

/-- FLAGS of R140: Z N C T from bit 3 down. -/
def State.flags (s : State) : Ctx → Nat
  | .chan n => s.fget (F.CH_PSTAT_FLAGS n)
  | .shelf => s.fget F.CS_SHSTAT_FLAGS

/-- Replace the flags. -/
def State.setFlags (s : State) (c : Ctx) (v : Nat) : State := match c with
  | .chan n => s.fset (F.CH_PSTAT_FLAGS n) v
  | .shelf => s.fset F.CS_SHSTAT_FLAGS v

/-- The flag Z. -/
def State.flagZ (s : State) (c : Ctx) : Bool := decide (s.flags c / 8 % 2 = 1)
/-- The flag N. -/
def State.flagN (s : State) (c : Ctx) : Bool := decide (s.flags c / 4 % 2 = 1)

/-- Z, N and C of a result; T keeps its value (R145). -/
def State.setAlu (s : State) (c : Ctx) (o : AluOut) : State :=
  s.setFlags c (o.z.toNat * 8 + o.n.toNat * 4 + o.c.toNat * 2 + s.flags c % 2)

/-- R118: a general register. -/
def State.g (s : State) (c : Ctx) (i : Fin 16) : Word := match c with
  | .chan n => (s.lane1 n).x.g[i]
  | .shelf => s.sh.g[i]

/-- Write a general register. -/
def State.setG (s : State) (c : Ctx) (i : Fin 16) (v : Word) : State := match c with
  | .chan n => s.modX n fun x => { x with g := x.g.set i v }
  | .shelf => { s with sh := { s.sh with g := s.sh.g.set i v } }

/-- The call stack, the latest return address first (R118). -/
def State.callStack (s : State) : Ctx → List Nat
  | .chan n => (s.lane1 n).x.stack
  | .shelf => s.sh.stack

/-- Replace the call stack; SP shows its depth. -/
def State.setStack (s : State) (c : Ctx) (l : List Nat) : State := match c with
  | .chan n => (s.modX n fun x => { x with stack := l }).fset (F.CH_PSTAT_SP n) l.length
  | .shelf => { s with sh := { s.sh with stack := l } }.fset F.CS_SHSTAT_SP l.length

/-- Why the context executes nothing (R145). -/
def State.susp (s : State) : Ctx → Susp
  | .chan n => (s.lane1 n).x.susp
  | .shelf => s.sh.susp

/-- Suspend or resume a context; WAITING and BARW follow (R140, R141). -/
def State.suspend (s : State) (c : Ctx) (y : Susp) : State :=
  let wt := match y with
    | .close => true
    | .timed _ => true
    | _ => false
  let bar := match y with
    | .bar _ => true
    | _ => false
  match c with
  | .chan n =>
    ((s.modX n fun x => { x with susp := y }).setFlag (F.CH_PSTAT_WAITING n) wt).setFlag (F.CH_PSTAT_BARW n) bar
  | .shelf =>
    let s1 := { s with sh := { s.sh with susp := y } }.setFlag F.CS_SHSTAT_BARW bar
    match y with
    | .bar b => s1.fset F.CS_SHSTAT_BARNO b.val
    | _ => s1

/-- The destination of an LDI whose literal is next (R144). -/
def State.ldi (s : State) : Ctx → Option (Fin 16)
  | .chan n => (s.lane1 n).x.ldi
  | .shelf => s.sh.ldi

/-- Set it. -/
def State.setLdi (s : State) (c : Ctx) (o : Option (Fin 16)) : State := match c with
  | .chan n => s.modX n fun x => { x with ldi := o }
  | .shelf => { s with sh := { s.sh with ldi := o } }

/-- May the context execute at all: a channel in RUN, or in BRIDGE on the spare (R202); a shelf program that runs and is not frozen (R118, R136, R204). -/
def State.live (s : State) : Ctx → Bool
  | .chan n => decide (s.chState n = stRUN ∨ s.chState n = stBRIDGE)
  | .shelf => s.flag F.CS_SHSTAT_RUN && !s.flag F.CS_SPARE_SHFRZ

/-- The context takes an instruction word now. -/
def State.ready (s : State) (c : Ctx) : Bool :=
  s.live c && decide (s.susp c = .none) && decide (s.ldi c = none)

/-- The second operand of R152: gb, or IMM sign-extended where S = 1. -/
def State.src (s : State) (c : Ctx) (w : IWord) : Word :=
  if w.s = 1 then w.imm.signExtend 32 else s.g c w.b

/-- R120, port 5: step time in ms; 0 until the step has started. -/
def State.stepMs (s : State) (n : Fin 128) : Nat :=
  match (s.lane1 n).x.step with
  | some st => match st.start with
    | some t => (s.ctr - t) / ms
    | none => 0
  | none => 0xFFFFFFFF

/-- R120: the measurement ports of a channel. -/
def State.chanPort (s : State) (n : Fin 128) (p : Nat) : Option Word :=
  let x := (s.lane1 n).x
  let q := match x.step with
    | some st => st.q
    | none => x.lastQ
  let e := match x.step with
    | some st => st.e
    | none => x.lastE
  match p with
  | 0 => some (wordOf (s.volt n))
  | 1 => some (wordOf (s.curr n))
  | 2 => some (wordOf (rdiv 120 (s.volt n * s.curr n) 1000000000))
  | 3 => some (wordOf (microAh q))
  | 4 => some (wordOf (microWh e))
  | 5 => some (BitVec.ofNat 32 (s.stepMs n))
  | 6 => some (s.word (.CH_T n))
  | 7 => some (wordOf (s.lane1 n).k.slope)
  | 8 => some (s.word (.CH_V n))
  | 9 => some (wordOf (s.currMet n))
  | 10 => some (BitVec.ofNat 32 (x.lastTerm + x.lastT.toNat * 16))
  | 11 => some (BitVec.ofNat 32 (scaleFactor (s.scaleCode n (s.lane1 n).l.iref)))
  | 12 => some (BitVec.ofNat 32 (s.ctr / sec))
  | 13 => some (BitVec.ofNat 32 n.val)
  | 14 => some (s.word (.CH_DCIR n))
  | 15 => some (match x.step with
    | some st => match st.cvAt with
      | some t => BitVec.ofNat 32 t
      | none => 0xFFFFFFFF#32
    | none => 0xFFFFFFFF#32)
  | _ => none

/-- R161: the shelf context's port values as they stand now; a boundary keeps them for the period it opens. -/
def State.shelfPorts (s : State) : List Word :=
  [s.word .LG_NET_W, BitVec.ofNat 32 (s.ctr / sec), BitVec.ofNat 32 (chans.filter fun n => s.chState n = stRUN).length,
   BitVec.ofNat 32 s.parkedCount, BitVec.ofNat 32 s.sh.released, BitVec.ofNat 32 s.shelf, s.word .TS_MAX,
   BitVec.ofNat 32 s.pmode, s.word .CS_SHIN]

/-- The value GETM reads from a port; none: beyond the range (R120, R161). -/
def State.port (s : State) (c : Ctx) (p : Nat) : Option Word := match c with
  | .chan n => s.chanPort n p
  | .shelf => if p < 9 then some (s.sh.ports.getD p 0) else none

/-- PUTP's effect; none: beyond the range (R153, R162). Port 0 of the shelf is the aging request. -/
def State.putPort (s : State) (c : Ctx) (p : Nat) (v : Word) : Option State := match c with
  | .chan n =>
    if h : p < 4 then
      let s1 := s.modX n fun x => { x with u := x.u.set p v }
      some (if p = 1 then s1.fset (F.CH_PCNT_USER n) (v.toNat % 65536) else s1)
    else none
  | .shelf =>
    if p = 0 then some { s with sh := { s.sh with aging := min v.toNat 3600 } }
    else if p < 5 then some (s.setWord (.CS_SHUSR (Fin.ofNat 4 (p - 1))) v)
    else none

end Sys2Proof.Machine
end

