-- ==== Sys2Proof/Machine/Gulgaub.lean ====
section
/-! DEFINITION. The Gulgaub instructions (R142–R162): the check of each word, its effect on a channel context or the shelf
context, program faults (R129), and the rows of the opcode table that are instructions. -/

namespace Sys2Proof.Machine

open Sys2Proof

/-- R156: the invalid marker. -/
abbrev badMark : Word := 0x80000000#32

/-- R126: GAP of the next record, of a step that opens now or a record without one. -/
def State.gapOver (s : State) (n : Fin 128) : Bool :=
  let x := (s.lane1 n).x
  x.gapLong || (decide (2 ≤ x.gapN) && decide (x.lastMode ≠ 0) && x.step.isNone)

/-- R126, R127, R164: the record of a STOP or a program fault with no step open: MODE 0, start time equal to close time. What the
manual leaves open in it (the word index, the mean scale) is free (notes/assumptions/5.md). -/
def State.bareRecord (s : State) (n : Fin 128) (term src : Nat) : State :=
  let st : OpenStep :=
    { mode := 0, start := some s.ctr, word := bitsOf s.freeWord 16 16, bank := s.bankAct (.chan n), gap := s.gapOver n,
      tMax := sword (s.word (.CH_T n)) }
  let s1 := s.fresh.putRecord n (s.termBody n st 0 term src 0 false s.ctr (s.meanScale st)) term s.ctr
  s1.modX n fun x => { x with lastTerm := term, lastT := false, lastSrc := src, gapN := 0, gapLong := false }

/-- R156: pending captures are discarded without a result. -/
def State.dropCaps (s : State) (n : Fin 128) : State := s.modK n fun k => { k with capsNext := [], caps := [] }

/-- R129, R136, R164: a program fault. PC keeps the faulting word's index. -/
def State.progFault (s : State) (c : Ctx) (code : Nat) : State := match c with
  | .chan n =>
    let s1 := if (s.lane1 n).x.step.isSome then s.closeNow n 10 6 s.ctr else s.bareRecord n 10 6
    let s2 := (((s1.dropCaps n).setLdi c none).enterStop n 6 0 false).fset (F.CH_PSTAT_PFLT n) code
    s2.raise (2 * n.val + 1) 2
  | .shelf => (s.stopShelfProgram.fset F.CS_SHSTAT_PFLT code).raise 448 2

/-- R143, R160: one word in a context that may execute: a reserved encoding, or a word the context does not have, faults
before any effect. -/
def State.instr (s : State) (c : Ctx) (shelfOk fields : Bool) (f : State → State) : State :=
  if s.ready c = false then s
  else if fields = false ∨ (c = .shelf ∧ shelfOk = false) then s.progFault c 2
  else f s

/-! Mode instructions (R147, R148). -/

/-- R34, R68: range and phases a PULSE or EIS step fixes, for its largest |I| in µA, each member on its share. With shedding off both
phases run (notes/assumptions/149.md). -/
def State.freezeFor (s : State) (n : Fin 128) (peak : Nat) : State :=
  let each := (peak + s.gangSize n - 1) / s.gangSize n
  s.each (s.gang n) fun j t0 =>
    let k := if t0.effFlag (F.CH_PWM_SHED j) ∧ ¬ t0.aboveFs j each 30 then 1 else 2
    let t := t0.modL j fun l => { l with nph := if l.phfit then none else some k }
    if t.effFlag (F.CH_MEAS_AUTO j) then
      let lo := t.eff (F.CH_MEAS_RLO j)
      let r := freezeRange lo (t.eff (F.CH_MEAS_RHI j)) each (t.lane1 j).m.rshunt
      t.modM j fun m =>
        { m with frozen := some lo, downN := 0, rangePend := if r = t.fget (F.CH_MSTAT_IRANGE j) then none else some r }
    else t

/-- R34: CH_MEAS writes of a frozen step come into force at a step start. -/
def State.measTake (s : State) (n : Fin 128) : State :=
  s.each (s.gang n) fun j t =>
    if (t.lane1 j).m.measHeld then { t.modM j fun m => { m with measHeld := false } with old := regDrop t.old (.CH_MEAS j) }
    else t

/-- R121: a mode instruction opens its step: the present one is superseded, targets are set, and the start time is the next
boundary unless the check of R82 comes first. `peak` is set for PULSE and EIS. -/
def State.openStep (s : State) (n : Fin 128) (st : OpenStep) (peak : Option Nat) : State :=
  let gap := s.gapOver n
  let s0 := (s.closeNow n 0 7 s.ctr).measTake n
  let c := s0.lane1 n
  let rest := decide (st.mode = 8)
  let inCk := decide (c.c.ph ≠ .none)
  let leaves := !rest && s0.resting n
  let waits := !rest && (leaves || !c.l.engaged || inCk)
  let st1 : OpenStep :=
    { st with word := s.pc (.chan n), bank := s.bankAct (.chan n), gap := gap, cvAt := if st.mode = 2 then some 0 else none,
              pFrom := c.l.iref, tMax := sword (s0.word (.CH_T n)) }
  let s1 := s0.modX n fun x =>
    { x with step := some st1, gapN := 0, gapHold := false, gapLong := false, fresh := false, arms := { x.arms with tapN := 0 },
             dvNew := false, tNew := false }
  let s2 := s1.modK n fun k =>
    { k with caps := k.caps ++ k.capsNext.map (fun cp => { cp with seq := c.x.seqNext }), capsNext := [] }
  let s3 := match peak with
    | some p => s2.freezeFor n p
    | none => s2
  let ff := decide (st.mode = 7 ∧ 2000000 < st.freq)
  let s4 := ((s3.fset (F.CH_MODE_MODE n) st.mode).setFlag (F.CH_MODE_CVPH n) false).setFlag (F.CH_MODE_EISFF n) ff
  let s5 := ((s4.setFlag (F.CH_PSTAT_STEP n) true).setFlag (F.CH_PSTAT_GAP n) false).each (s.gang n) fun j t =>
    (t.fset (F.CH_FUSEST_BKCNT j) 0).modP j fun p => { p with bkEv := false }
  let s6 := s5.modL n fun l => { l with vNew := true }
  let s7 := if c.x.fresh ∧ ¬ rest then (s6.modL n fun l => { l with ilim := 0 }).setFlag (F.CH_STATE_SS n) true
    else if waits then s6.modL n fun l => { l with ilim := 0 } else s6
  let s8 := if rest ∧ inCk then (if c.c.ph = .quiet ∧ c.l.engaged then s7.checkPhase n .none else (s7.checkPhase n .none).restQuiet n) else if waits ∧ ¬ inCk then s7.leaveRest n else s7
  let s9 := if waits then s8 else s8.stepBegins n s.nextBoundary
  if rest then
    let s9 := if (s9.lane1 n).k.ocv.postDue then s9.ocvPost n else s9
    let s10 := s9.modK n fun k => { k with ocv := { skip := s.fget (F.CH_OCVCTL_TSKIP n), from_ := s.nextBoundary, lastPost := s.nextBoundary } }
    let s11 := (((s10.setFlag (F.CH_OCVCTL_ACTIVE n) true).setWord (.CH_OCVSLOPE n) badMark).setWord (.CH_OCVSE n) badMark)
    (((s11.setWord (.CH_OCVN n) 0).setWord (.CH_OCVDUR n) 0).setWord (.CH_OCVV0 n) 0).setWord (.CH_OCVST n) 0
  else s9

/-- R327, R332: what a mode instruction asks of the power mode. In AGING anything but REST suspends the context on itself
and begins the exit. -/
def State.modeGate (s : State) (n : Fin 128) (op : Nat) (f : State → State) : State :=
  if s.pmode = mdAGING ∧ op ≠ 8 then
    ((s.modX n fun x => { x with gapLong := x.gapLong || x.step.isNone }).suspend (.chan n) .aging).beginAgingExit
  else
    let s1 := f s
    if s.pmode = mdSTANDBY ∧ op ≠ 8 ∧ op ≠ 9 ∧ s1.chState n = stRUN then { s1 with mode := { s1.mode with toRun := true } } else s1

/-- A mode instruction's word: the check of R143, the gate of the power mode, then its effect. -/
def State.modeInstr (s : State) (c : Ctx) (op : Nat) (fields : Bool) (f : Fin 128 → State → State) : State :=
  s.instr c false fields fun s => match c with
    | .chan n => s.modeGate n op (f n)
    | .shelf => s

/-- R148: the voltage clamp operand of CC, CP and CR. -/
def State.clampOperand (s : State) (n : Fin 128) (w : IWord) : State :=
  if w.s = 1 then s.modX n fun x => { x with limv := some (sword (s.g (.chan n) w.b)) } else s

/-- IMAX in µA. -/
def State.imax (s : State) (n : Fin 128) : Nat := s.eff (F.CH_LIM_I_IMAX n) * 10000

/-- R143: B is 0 where S gives no second operand, and S is 0 or 1. -/
def optFields (w : IWord) : Bool := decide (w.s = 1 ∨ (w.s = 0 ∧ w.b = 0))

/-- CC, CP and CR share their shape (R147). -/
def State.opCurrent (s : State) (c : Ctx) (op : Nat) (w : IWord) : State :=
  s.modeInstr c op (optFields w) fun n s =>
    let x := s.g c w.a
    if op = 5 ∧ x.toNat < 5000 then s.progFault c 6
    else
      let tgt : Int := if op = 5 then x.toNat else sword x
      ((s.clampOperand n w).openStep n { mode := op, x := tgt, slew := w.u } none).advance c

/-- CV (R147, R148). -/
def State.opCv (s : State) (c : Ctx) (w : IWord) : State :=
  s.modeInstr c 2 (optFields w) fun n s =>
    let v := sword (s.g c w.a)
    if v < 0 ∨ 6000000 < v then s.progFault c 6
    else
      let s1 := if w.s = 1 then s.modX n fun x => { x with limi := min (sword (s.g c w.b)).natAbs (s.imax n) } else s
      (s1.openStep n { mode := 2, x := v, slew := w.u } none).advance c

/-- CCV (R147, R148). -/
def State.opCcv (s : State) (c : Ctx) (w : IWord) : State :=
  s.modeInstr c 3 (decide (w.s = 0)) fun n s =>
    let v := sword (s.g c w.b)
    if v < 0 ∨ 6000000 < v then s.progFault c 6
    else (s.openStep n { mode := 3, x := sword (s.g c w.a), y := v, slew := w.u } none).advance c

/-- PULSE (R80, R147, R148). -/
def State.opPulse (s : State) (c : Ctx) (w : IWord) : State :=
  s.modeInstr c 6 (decide (w.s = 0 ∧ w.a ≠ 15 ∧ w.u < 32)) fun n s =>
    let hi := sword (s.g c w.a)
    let lo := sword (s.g c (nextReg w.a 1))
    let dHi := bitsOf (s.g c w.b) 0 16
    let dLo := bitsOf (s.g c w.b) 16 16
    let e := w.u
    if e < 2 ∨ 20 < e ∨ dHi < 100 ∨ dLo < 100 ∨ dHi < 2 * e ∨ dLo < 2 * e then s.progFault c 6
    else
      (s.openStep n { mode := 6, x := hi, y := lo, dHi := dHi, dLo := dLo, edge := e } (some (max hi.natAbs lo.natAbs))).advance c

/-- EIS (R81, R147, R148). -/
def State.opEis (s : State) (c : Ctx) (w : IWord) : State :=
  s.modeInstr c 7 (decide (w.s = 0 ∧ w.b ≠ 15 ∧ w.u = 0)) fun n s =>
    let dc := sword (s.g c w.a)
    let a := (s.g c w.b).toNat
    let f := (s.g c (nextReg w.b 1)).toNat
    if f < 100 ∨ 5000000 < f ∨ (s.lane1 n).x.limi < dc.natAbs + a then s.progFault c 6
    else (s.openStep n { mode := 7, x := dc, y := a, freq := f } (some (dc.natAbs + a))).advance c

/-- REST and HOLD: every field 0 (R147). -/
def State.opStill (s : State) (c : Ctx) (op : Nat) (w : IWord) : State :=
  s.modeInstr c op (decide (w = ⟨0, 0, 0, 0⟩)) fun n s => (s.openStep n { mode := op } none).advance c

/-- CC. -/
def execCc (c : Ctx) (a b : Fin 16) (st : Fin 4) (imm : BitVec 16) (s : State) : Host.Outcome State Fault Refusal :=
  .next (s.opCurrent c 1 ⟨a, b, st, imm⟩)
/-- CV. -/
def execCv (c : Ctx) (a b : Fin 16) (st : Fin 4) (imm : BitVec 16) (s : State) : Host.Outcome State Fault Refusal :=
  .next (s.opCv c ⟨a, b, st, imm⟩)
/-- CCV. -/
def execCcv (c : Ctx) (a b : Fin 16) (st : Fin 4) (imm : BitVec 16) (s : State) : Host.Outcome State Fault Refusal :=
  .next (s.opCcv c ⟨a, b, st, imm⟩)
/-- CP. -/
def execCp (c : Ctx) (a b : Fin 16) (st : Fin 4) (imm : BitVec 16) (s : State) : Host.Outcome State Fault Refusal :=
  .next (s.opCurrent c 4 ⟨a, b, st, imm⟩)
/-- CR. -/
def execCr (c : Ctx) (a b : Fin 16) (st : Fin 4) (imm : BitVec 16) (s : State) : Host.Outcome State Fault Refusal :=
  .next (s.opCurrent c 5 ⟨a, b, st, imm⟩)
/-- PULSE. -/
def execPulse (c : Ctx) (a b : Fin 16) (st : Fin 4) (imm : BitVec 16) (s : State) : Host.Outcome State Fault Refusal :=
  .next (s.opPulse c ⟨a, b, st, imm⟩)
/-- EIS. -/
def execEis (c : Ctx) (a b : Fin 16) (st : Fin 4) (imm : BitVec 16) (s : State) : Host.Outcome State Fault Refusal :=
  .next (s.opEis c ⟨a, b, st, imm⟩)
/-- REST. -/
def execRest (c : Ctx) (a b : Fin 16) (st : Fin 4) (imm : BitVec 16) (s : State) : Host.Outcome State Fault Refusal :=
  .next (s.opStill c 8 ⟨a, b, st, imm⟩)
/-- HOLD. -/
def execHold (c : Ctx) (a b : Fin 16) (st : Fin 4) (imm : BitVec 16) (s : State) : Host.Outcome State Fault Refusal :=
  .next (s.opStill c 9 ⟨a, b, st, imm⟩)

/-! Limits and arms (R149–R151). -/

/-- An instruction that only a channel has, and which goes on to the next word. -/
def State.chanInstr (s : State) (c : Ctx) (fields : Bool) (f : Fin 128 → State → State) : State :=
  s.instr c false fields fun s => match c with
    | .chan n => (f n s).advance c
    | .shelf => s

/-- LIMV (R149). -/
def State.opLimv (s : State) (c : Ctx) (w : IWord) : State :=
  s.chanInstr c (decide (w.b = 0 ∧ w.imm = 0 ∧ (w.s = 0 ∨ (w.s = 1 ∧ w.a = 0)))) fun n s =>
    s.modX n fun x => { x with limv := if w.s = 0 then some (sword (s.g c w.a)) else none }

/-- LIMI (R149). -/
def State.opLimi (s : State) (c : Ctx) (w : IWord) : State :=
  s.chanInstr c (decide (w.b = 0 ∧ w.imm = 0 ∧ (w.s = 0 ∨ w.s = 1))) fun n s =>
    let i := min (sword (s.g c w.a)).natAbs (s.imax n)
    s.modX n fun x => if w.s = 0 then { x with limi := i } else { x with pre := some i }

/-- LIMT (R149). -/
def State.opLimt (s : State) (c : Ctx) (w : IWord) : State :=
  s.chanInstr c (decide (w.b = 0 ∧ w.imm = 0 ∧ (w.s = 0 ∨ (w.s = 1 ∧ w.a = 0)))) fun n s =>
    s.modX n fun x => { x with limt := if w.s = 0 then some (sword (s.g c w.a)) else none }

/-- The slots a DISARM mask clears (R150). -/
def Arms.disarm (r : Arms) (m : BitVec 16) : Arms :=
  { r with time := if m.getLsbD 0 then none else r.time, volt := if m.getLsbD 1 then none else r.volt,
           curr := if m.getLsbD 2 then none else r.curr, tap := if m.getLsbD 3 then none else r.tap,
           charge := if m.getLsbD 4 then none else r.charge, energy := if m.getLsbD 5 then none else r.energy,
           dvdt := if m.getLsbD 6 then none else r.dvdt, temp := if m.getLsbD 7 then none else r.temp,
           deg := if m.getLsbD 10 then false else r.deg }

/-- An arm instruction: it writes its slot at once (R122). -/
def State.armInstr (s : State) (c : Ctx) (fields : Bool) (f : Word → Arms → Arms) (a : Fin 16) : State :=
  s.chanInstr c fields fun n s => s.modX n fun x => { x with arms := f (s.g c a) x.arms }

/-- DISARM (R150): bits 0–7 and bit 10. -/
def State.opDisarm (s : State) (c : Ctx) (w : IWord) : State :=
  s.armInstr c (decide (w.a = 0 ∧ w.b = 0 ∧ w.s = 0 ∧ w.imm &&& 0xFB00#16 = 0)) (fun _ r => r.disarm w.imm) w.a

/-- ARMT (R150): the time limit, or the degrade slot. -/
def State.opArmt (s : State) (c : Ctx) (w : IWord) : State :=
  s.armInstr c (decide (w.b = 0 ∧ w.imm = 0 ∧ (w.s = 0 ∨ (w.s = 1 ∧ w.a = 0))))
    (fun g r => if w.s = 0 then { r with time := some g.toNat } else { r with deg := true }) w.a

/-- ARMV (R150). -/
def State.opArmv (s : State) (c : Ctx) (w : IWord) : State :=
  s.armInstr c (decide (w.b = 0 ∧ w.imm = 0 ∧ (w.s = 0 ∨ w.s = 1)))
    (fun g r => { r with volt := some (decide (w.s = 1), sword g), voltN := 0 }) w.a

/-- ARMI (R150): the form S = 0 is |I| ≤ ga. -/
def State.opArmi (s : State) (c : Ctx) (w : IWord) : State :=
  s.armInstr c (decide (w.b = 0 ∧ w.imm = 0 ∧ (w.s = 0 ∨ w.s = 1)))
    (fun g r => { r with curr := some (decide (w.s = 0), g.toNat), currN := 0 }) w.a

/-- ARMTAP (R150): T_hold in control periods; 0 selects 60 s. -/
def State.opArmtap (s : State) (c : Ctx) (w : IWord) : State :=
  s.armInstr c (decide (w.s = 0))
    (fun g r => { r with tap := some ((sword g).natAbs, (sword (s.g c w.b)).natAbs, (if w.u = 0 then 600 else w.u) * 10000),
                         tapN := 0 }) w.a

/-- ARMQ (R150). -/
def State.opArmq (s : State) (c : Ctx) (w : IWord) : State :=
  s.armInstr c (decide (w.b = 0 ∧ w.imm = 0 ∧ w.s = 0)) (fun g r => { r with charge := some g.toNat }) w.a

/-- ARME (R150). -/
def State.opArme (s : State) (c : Ctx) (w : IWord) : State :=
  s.armInstr c (decide (w.b = 0 ∧ w.imm = 0 ∧ w.s = 0)) (fun g r => { r with energy := some g.toNat }) w.a

/-- ARMDV (R150, R172): the slope engine's windows restart at the next boundary. -/
def State.opArmdv (s : State) (c : Ctx) (w : IWord) : State :=
  s.chanInstr c (decide (w.b = 0 ∧ (w.s = 0 ∨ w.s = 1) ∧ (w.u = 0 ∨ (10 ≤ w.u ∧ w.u ≤ 60000)))) fun n s =>
    let win := if w.u = 0 then 1000 else w.u
    let s1 := s.modX n fun x => { x with arms := { x.arms with dvdt := some (decide (w.s = 1), sword (s.g c w.a), win) } }
    s1.modK n fun k => { k with dvFrom := s.nextBoundary, dvN := 0, dvSeen := 0, dvSt := 0, dvSv := 0, dvStt := 0, dvStv := 0 }

/-- ARMTC (R150). -/
def State.opArmtc (s : State) (c : Ctx) (w : IWord) : State :=
  s.armInstr c (decide (w.b = 0 ∧ w.imm = 0 ∧ (w.s = 0 ∨ w.s = 1)))
    (fun g r => { r with temp := some (decide (w.s = 1), sword g) }) w.a

/-- WAIT (R151): the close form in a channel, the timed form in both contexts. -/
def State.opWait (s : State) (c : Ctx) (w : IWord) : State :=
  let timed := decide (w.s = 1)
  s.instr c timed (decide (w.a = 0 ∧ w.b = 0 ∧ ((w.s = 0 ∧ w.imm = 0) ∨ (w.s = 1 ∧ w.imm ≠ 0)))) fun s =>
    let s1 := s.advance c
    if timed then s1.suspend c (.timed (s.nextBoundary + w.u * ms))
    else match c with
      | .chan n => if (s.lane1 n).x.step.isSome then s1.suspend c .close else s1
      | .shelf => s1

/-- LIMV. -/
def execLimv (c : Ctx) (a b : Fin 16) (st : Fin 4) (imm : BitVec 16) (s : State) : Host.Outcome State Fault Refusal :=
  .next (s.opLimv c ⟨a, b, st, imm⟩)
/-- LIMI. -/
def execLimi (c : Ctx) (a b : Fin 16) (st : Fin 4) (imm : BitVec 16) (s : State) : Host.Outcome State Fault Refusal :=
  .next (s.opLimi c ⟨a, b, st, imm⟩)
/-- LIMT. -/
def execLimt (c : Ctx) (a b : Fin 16) (st : Fin 4) (imm : BitVec 16) (s : State) : Host.Outcome State Fault Refusal :=
  .next (s.opLimt c ⟨a, b, st, imm⟩)
/-- DISARM. -/
def execDisarm (c : Ctx) (a b : Fin 16) (st : Fin 4) (imm : BitVec 16) (s : State) : Host.Outcome State Fault Refusal :=
  .next (s.opDisarm c ⟨a, b, st, imm⟩)
/-- ARMT. -/
def execArmt (c : Ctx) (a b : Fin 16) (st : Fin 4) (imm : BitVec 16) (s : State) : Host.Outcome State Fault Refusal :=
  .next (s.opArmt c ⟨a, b, st, imm⟩)
/-- ARMV. -/
def execArmv (c : Ctx) (a b : Fin 16) (st : Fin 4) (imm : BitVec 16) (s : State) : Host.Outcome State Fault Refusal :=
  .next (s.opArmv c ⟨a, b, st, imm⟩)
/-- ARMI. -/
def execArmi (c : Ctx) (a b : Fin 16) (st : Fin 4) (imm : BitVec 16) (s : State) : Host.Outcome State Fault Refusal :=
  .next (s.opArmi c ⟨a, b, st, imm⟩)
/-- ARMTAP. -/
def execArmtap (c : Ctx) (a b : Fin 16) (st : Fin 4) (imm : BitVec 16) (s : State) : Host.Outcome State Fault Refusal :=
  .next (s.opArmtap c ⟨a, b, st, imm⟩)
/-- ARMQ. -/
def execArmq (c : Ctx) (a b : Fin 16) (st : Fin 4) (imm : BitVec 16) (s : State) : Host.Outcome State Fault Refusal :=
  .next (s.opArmq c ⟨a, b, st, imm⟩)
/-- ARME. -/
def execArme (c : Ctx) (a b : Fin 16) (st : Fin 4) (imm : BitVec 16) (s : State) : Host.Outcome State Fault Refusal :=
  .next (s.opArme c ⟨a, b, st, imm⟩)
/-- ARMDV. -/
def execArmdv (c : Ctx) (a b : Fin 16) (st : Fin 4) (imm : BitVec 16) (s : State) : Host.Outcome State Fault Refusal :=
  .next (s.opArmdv c ⟨a, b, st, imm⟩)
/-- ARMTC. -/
def execArmtc (c : Ctx) (a b : Fin 16) (st : Fin 4) (imm : BitVec 16) (s : State) : Host.Outcome State Fault Refusal :=
  .next (s.opArmtc c ⟨a, b, st, imm⟩)
/-- WAIT. -/
def execWait (c : Ctx) (a b : Fin 16) (st : Fin 4) (imm : BitVec 16) (s : State) : Host.Outcome State Fault Refusal :=
  .next (s.opWait c ⟨a, b, st, imm⟩)

/-! Data and arithmetic (R152, R153). -/

/-- The first word of LDI (R144). -/
def State.opLdi (s : State) (c : Ctx) (w : IWord) : State :=
  s.instr c true (decide (w.b = 0 ∧ w.s = 0 ∧ w.imm = 0)) fun s => (s.setLdi c (some w.a)).advance c

/-- The literal word of LDI (R144). -/
def State.literal (s : State) (c : Ctx) (v : Word) : State :=
  match s.ldi c with
  | some a => ((s.setG c a v).setLdi c none).advance c
  | none => s

/-- LDI with its literal (R144). -/
def State.opLdiLit (s : State) (c : Ctx) (w : IWord) (v : Word) : State :=
  if s.ready c then (s.opLdi c w).literal c v else s

/-- MOV. -/
def State.opMov (s : State) (c : Ctx) (w : IWord) : State :=
  s.instr c true (decide (w.s = 0 ∧ w.imm = 0)) fun s => (s.setG c w.a (s.g c w.b)).advance c

/-- GETM (R120, R161): a port beyond the range is PFLT 5. -/
def State.opGetm (s : State) (c : Ctx) (w : IWord) : State :=
  s.instr c true (decide (w.s = 0 ∧ w.b = 0)) fun s => match s.port c w.u with
    | some v => (s.setG c w.a v).advance c
    | none => s.progFault c 5

/-- PUTP (R153, R162). -/
def State.opPutp (s : State) (c : Ctx) (w : IWord) : State :=
  s.instr c true (decide (w.s = 0 ∧ w.b = 0)) fun s => match s.putPort c w.u (s.g c w.a) with
    | some t => t.advance c
    | none => s.progFault c 5

/-- R143, R152: B is 0 with an immediate, IMM is 0 without. -/
def aluFields (w : IWord) : Bool := decide ((w.s = 0 ∧ w.imm = 0) ∨ (w.s = 1 ∧ w.b = 0))

/-- ADD, SUB and CMP (R152): `wr` is whether ga takes the result. -/
def State.opAlu (s : State) (c : Ctx) (fields wr : Bool) (f : Word → Word → AluOut) (w : IWord) (y : Word) : State :=
  s.instr c true fields fun s =>
    let o := f (s.g c w.a) y
    let s1 := if wr then s.setG c w.a o.r else s
    (s1.setAlu c o).advance c

/-- ADD. -/
def State.opAdd (s : State) (c : Ctx) (w : IWord) : State := s.opAlu c (aluFields w) true aluAdd w (s.src c w)
/-- SUB. -/
def State.opSub (s : State) (c : Ctx) (w : IWord) : State := s.opAlu c (aluFields w) true aluSub w (s.src c w)
/-- CMP. -/
def State.opCmp (s : State) (c : Ctx) (w : IWord) : State := s.opAlu c (aluFields w) false aluCmp w (s.src c w)
/-- MULSH: the shift is IMM[5:0]. -/
def State.opMulsh (s : State) (c : Ctx) (w : IWord) : State :=
  s.opAlu c (decide (w.s = 0 ∧ w.u < 64)) true (fun x y => aluMulsh x y w.u) w (s.g c w.b)

/-- LDI. -/
def execLdi (c : Ctx) (a b : Fin 16) (st : Fin 4) (imm : BitVec 16) (lit : Word) (s : State) : Host.Outcome State Fault Refusal :=
  .next (s.opLdiLit c ⟨a, b, st, imm⟩ lit)
/-- MOV. -/
def execMov (c : Ctx) (a b : Fin 16) (st : Fin 4) (imm : BitVec 16) (s : State) : Host.Outcome State Fault Refusal :=
  .next (s.opMov c ⟨a, b, st, imm⟩)
/-- GETM. -/
def execGetm (c : Ctx) (a b : Fin 16) (st : Fin 4) (imm : BitVec 16) (s : State) : Host.Outcome State Fault Refusal :=
  .next (s.opGetm c ⟨a, b, st, imm⟩)
/-- PUTP. -/
def execPutp (c : Ctx) (a b : Fin 16) (st : Fin 4) (imm : BitVec 16) (s : State) : Host.Outcome State Fault Refusal :=
  .next (s.opPutp c ⟨a, b, st, imm⟩)
/-- ADD. -/
def execAdd (c : Ctx) (a b : Fin 16) (st : Fin 4) (imm : BitVec 16) (s : State) : Host.Outcome State Fault Refusal :=
  .next (s.opAdd c ⟨a, b, st, imm⟩)
/-- SUB. -/
def execSub (c : Ctx) (a b : Fin 16) (st : Fin 4) (imm : BitVec 16) (s : State) : Host.Outcome State Fault Refusal :=
  .next (s.opSub c ⟨a, b, st, imm⟩)
/-- MULSH. -/
def execMulsh (c : Ctx) (a b : Fin 16) (st : Fin 4) (imm : BitVec 16) (s : State) : Host.Outcome State Fault Refusal :=
  .next (s.opMulsh c ⟨a, b, st, imm⟩)
/-- CMP. -/
def execCmp (c : Ctx) (a b : Fin 16) (st : Fin 4) (imm : BitVec 16) (s : State) : Host.Outcome State Fault Refusal :=
  .next (s.opCmp c ⟨a, b, st, imm⟩)

/-! Flow (R154, R155). -/

/-- R154: is the branch taken? -/
def State.taken (s : State) (c : Ctx) (w : IWord) : Bool :=
  match w.b.val with
  | 0 => true
  | 1 => s.flagZ c
  | 2 => !s.flagZ c
  | 3 => s.flagN c
  | 4 => !s.flagN c
  | _ => match c with
    | .chan n => decide ((s.lane1 n).x.lastTerm = w.a.val)
    | .shelf => false

/-- R155: a word with a target: a target at or beyond the region's length faults before any effect. -/
def State.flow (s : State) (c : Ctx) (w : IWord) (fields : Bool) (f : State → State) : State :=
  s.instr c true fields fun s => if s.progLen c ≤ w.u then s.progFault c 1 else f s

/-- The word index of a target. -/
def State.target (s : State) (c : Ctx) (w : IWord) : Nat := s.progBase c + w.u

/-- BR (R154). -/
def State.opBr (s : State) (c : Ctx) (w : IWord) : State :=
  s.flow c w (decide (w.s = 0 ∧ ((w.b.val < 5 ∧ w.a = 0) ∨ (w.b = 5 ∧ w.a.val < 12 ∧ c ≠ .shelf)))) fun s =>
    if s.taken c w then s.setPc c (s.target c w) else s.advance c

/-- LOOP (R155): flags are unchanged. -/
def State.opLoop (s : State) (c : Ctx) (w : IWord) : State :=
  s.flow c w (decide (w.b = 0 ∧ w.s = 0)) fun s =>
    let r := s.g c w.a - 1
    let s1 := s.setG c w.a r
    if r ≠ 0 then s1.setPc c (s.target c w) else s1.advance c

/-- CALL (R155): return addresses are offsets from BASE. -/
def State.opCall (s : State) (c : Ctx) (w : IWord) : State :=
  s.flow c w (decide (w.a = 0 ∧ w.b = 0 ∧ w.s = 0)) fun s =>
    if 4 ≤ (s.callStack c).length then s.progFault c 3
    else (s.setStack c ((s.pc c + 1 - s.progBase c) :: s.callStack c)).setPc c (s.target c w)

/-- R155: every field 0. -/
def allZero (w : IWord) : Bool := decide (w = ⟨0, 0, 0, 0⟩)

/-- RET (R155): into the bank in force. -/
def State.opRet (s : State) (c : Ctx) (w : IWord) : State :=
  s.instr c true (allZero w) fun s => match s.callStack c with
    | [] => s.progFault c 4
    | a :: t => (s.setStack c t).setPc c (s.progBase c + a)

/-- NOP. -/
def State.opNop (s : State) (c : Ctx) (w : IWord) : State := s.instr c true (allZero w) fun s => s.advance c

/-- STOP (R155, R127): the channel enters STOP; the shelf program stops. -/
def State.opStop (s : State) (c : Ctx) (w : IWord) : State :=
  s.instr c true (allZero w) fun s =>
    let s1 := s.advance c
    match c with
    | .chan n =>
      let s2 := if (s.lane1 n).x.step.isSome then s1.closeNow n 0 4 s.ctr else s1.bareRecord n 0 4
      (s2.dropCaps n).enterStop n 4 0 false
    | .shelf => s1.stopShelfProgram

/-- BR. -/
def execBr (c : Ctx) (a b : Fin 16) (st : Fin 4) (imm : BitVec 16) (s : State) : Host.Outcome State Fault Refusal :=
  .next (s.opBr c ⟨a, b, st, imm⟩)
/-- LOOP. -/
def execLoop (c : Ctx) (a b : Fin 16) (st : Fin 4) (imm : BitVec 16) (s : State) : Host.Outcome State Fault Refusal :=
  .next (s.opLoop c ⟨a, b, st, imm⟩)
/-- CALL. -/
def execCall (c : Ctx) (a b : Fin 16) (st : Fin 4) (imm : BitVec 16) (s : State) : Host.Outcome State Fault Refusal :=
  .next (s.opCall c ⟨a, b, st, imm⟩)
/-- RET. -/
def execRet (c : Ctx) (a b : Fin 16) (st : Fin 4) (imm : BitVec 16) (s : State) : Host.Outcome State Fault Refusal :=
  .next (s.opRet c ⟨a, b, st, imm⟩)
/-- NOP. -/
def execNop (c : Ctx) (a b : Fin 16) (st : Fin 4) (imm : BitVec 16) (s : State) : Host.Outcome State Fault Refusal :=
  .next (s.opNop c ⟨a, b, st, imm⟩)
/-- STOP. -/
def execStop (c : Ctx) (a b : Fin 16) (st : Fin 4) (imm : BitVec 16) (s : State) : Host.Outcome State Fault Refusal :=
  .next (s.opStop c ⟨a, b, st, imm⟩)

/-! Measurement instructions (R156–R158). -/

/-- CAPDC (R156): at most four captures wait. -/
def State.opCapdc (s : State) (c : Ctx) (w : IWord) : State :=
  s.chanInstr c (decide (w.b = 0 ∧ w.s = 0 ∧ w.imm ≠ 0)) fun n s =>
    let k := (s.lane1 n).k
    if 4 ≤ k.capsNext.length + k.caps.length then s.setG c w.a badMark
    else s.modK n fun k => { k with capsNext := k.capsNext ++ [{ dest := w.a, delay := w.u }] }

/-- R157, R174: the integration interval of a run whose step has started at `ts`: from the end of the settle cycles that
follow the amplitude ramp. -/
def EisRun.bind (e : EisRun) (ts now : Nat) : EisRun :=
  let from_ := max (ts + eisRamp e.freq) now + e.settle * 10 ^ 12 / e.freq
  { e with ts := some ts, from_ := from_, until_ := from_ + e.cyc * 10 ^ 12 / e.freq }

/-- EISRUN (R157). -/
def State.opEisrun (s : State) (c : Ctx) (w : IWord) : State :=
  s.chanInstr c (decide (1 ≤ w.u ∧ w.u ≤ 1024 ∧ w.a ≠ w.b)) fun n s =>
    match (s.lane1 n).x.step.filter fun t => decide (t.mode = 7) with
    | none => (s.setG c w.a badMark).setG c w.b badMark
    | some st =>
      let e : EisRun := { ra := w.a, rb := w.b, freq := st.freq, settle := 2 ^ w.s.val, cyc := w.u }
      let e1 := match st.start with
        | some t => e.bind t s.ctr
        | none => e
      (s.modK n fun k => { k with eis := some e1 }).suspend c .eisrun

/-- R158: the last Vault EMIT of a context. -/
def State.lastVEmit (s : State) : Ctx → Option Nat
  | .chan n => (s.lane1 n).x.lastVEmit
  | .shelf => s.sh.lastVEmit

/-- Note the time of a Vault EMIT. -/
def State.setVEmit (s : State) (c : Ctx) : State := match c with
  | .chan n => s.modX n fun x => { x with lastVEmit := some s.ctr }
  | .shelf => { s with sh := { s.sh with lastVEmit := some s.ctr } }

/-- R158: the 28-byte payload of an EMIT. -/
def State.emitBody (s : State) (c : Ctx) (w : IWord) (demoted : Bool) : List Byte :=
  let who := match c with
    | .chan n => n.val
    | .shelf => 128
  let t := match c with
    | .chan n => s.stepMs n
    | .shelf => 0xFFFFFFFF
  let r (k : Nat) : List Byte := bytesOf (s.g c (nextReg w.a k))
  le16 (who + demoted.toNat * 256) ++ le16 w.u ++ le32 (s.pc c + s.bankAct c * 2 ^ 16) ++ r 0 ++ r 1 ++ r 2 ++ r 3 ++ le32 t

/-- A stream EMIT: the queue of R128; the shelf context's own queue holds 16 as well. -/
def State.emitStream (s : State) (c : Ctx) (bs : List Byte) : State := match c with
  | .chan n => s.queueItem n { kind := 2, bytes := bs }
  | .shelf => s.shelfItem { kind := 2, bytes := bs }

/-- EMIT (R158): a Vault EMIT within 100 ms of the context's previous one goes to the stream only, DEMOTED. -/
def State.opEmit (s : State) (c : Ctx) (w : IWord) : State :=
  s.instr c true (decide (w.a.val ≤ 12 ∧ w.b = 0 ∧ w.s.val < 3)) fun s =>
    let demoted := decide (w.s ≠ 0) && (match s.lastVEmit c with
      | some t => decide (s.ctr < t + 100 * ms)
      | none => false)
    let bs := s.emitBody c w demoted
    let num := match c with
      | .chan n => 2 * n.val + 1
      | .shelf => 449
    let s1 := if w.s ≠ 0 ∧ demoted = false then (s.setVEmit c).record 3 num 0 s.ctr bs else s
    let s2 := if w.s ≠ 1 ∨ demoted then s1.emitStream c bs else s1
    s2.advance c

/-- CAPDC. -/
def execCapdc (c : Ctx) (a b : Fin 16) (st : Fin 4) (imm : BitVec 16) (s : State) : Host.Outcome State Fault Refusal :=
  .next (s.opCapdc c ⟨a, b, st, imm⟩)
/-- EISRUN. -/
def execEisrun (c : Ctx) (a b : Fin 16) (st : Fin 4) (imm : BitVec 16) (s : State) : Host.Outcome State Fault Refusal :=
  .next (s.opEisrun c ⟨a, b, st, imm⟩)
/-- EMIT. -/
def execEmit (c : Ctx) (a b : Fin 16) (st : Fin 4) (imm : BitVec 16) (s : State) : Host.Outcome State Fault Refusal :=
  .next (s.opEmit c ⟨a, b, st, imm⟩)

/-! Coordination (R132, R137, R138, R159). -/

/-- R141: is a channel a member of a barrier? -/
def State.barMember (s : State) (b : Fin 16) (n : Fin 128) : Bool :=
  (s.word (.CS_BARM b (Fin.ofNat 4 (n.val / 32)))).getLsbD (n.val % 32)

/-- R137: a member in FOLLOW, PARKED, ABSENT or STOP is not counted. -/
def State.barCounted (s : State) (n : Fin 128) : Bool :=
  decide (s.chState n ≠ stFOLLOW ∧ s.chState n ≠ stPARKED ∧ s.chState n ≠ stABSENT ∧ s.chState n ≠ stSTOP)

/-- R137: some member of a barrier is not counted now. -/
def State.barMissing (s : State) (b : Fin 16) : Bool := chans.any fun n => s.barMember b n && !s.barCounted n

/-- The channel has arrived at a barrier and waits there. -/
def State.arrived (s : State) (b : Fin 16) (n : Fin 128) : Bool := decide ((s.lane1 n).x.susp = .bar b)

/-- R137: an episode of a barrier is under way: a channel has arrived, or the shelf program waits there. -/
def State.inEpisode (s : State) (b : Fin 16) : Bool := (chans.any fun n => s.arrived b n) || decide (s.sh.susp = .bar b)

/-- R137: a member uncounted now, or earlier in the episode of a barrier. -/
def State.barUncounted (s : State) (b : Fin 16) : Bool := (s.inEpisode b && s.sh.epUncounted[b]) || s.barMissing b

/-- BAR (R137, R159): an episode begins with its first arrival. -/
def State.opBar (s : State) (c : Ctx) (w : IWord) : State :=
  s.instr c true (decide (w.a = 0 ∧ w.b = 0 ∧ w.s = 0)) fun s =>
    let b := Fin.ofNat 16 w.u
    let member := match c with
      | .chan n => s.barMember b n
      | .shelf => true
    if 15 < w.u ∨ member = false then s.progFault c 7
    else
      let s1 := (s.advance c).suspend c (.bar b)
      let s2 := { s1 with sh := { s1.sh with epUncounted := s1.sh.epUncounted.set b (s.barUncounted b) } }
      match c with
      | .chan _ => s2
      | .shelf => { s2 with sh := { s2.sh with epFrom := s.ctr } }

/-- R138: a channel's class from the next boundary; the shelf program's value prevails. -/
def State.classNext (s : State) (n : Fin 128) (k : Fin 4) (shelf : Bool) : State :=
  s.modX n fun x => match x.clsNext with
    | some (_, true) => if shelf then { x with clsNext := some (k, true) } else x
    | _ => { x with clsNext := some (k, shelf) }

/-- PRIO (R138, R159). -/
def State.opPrio (s : State) (c : Ctx) (w : IWord) : State :=
  s.instr c true (decide (w.a = 0 ∧ w.b = 0 ∧ (c = .shelf ∨ w.imm = 0))) fun s => match c with
    | .chan n => (s.classNext n w.s false).advance c
    | .shelf =>
      if 15 < w.u then s.progFault c 7
      else ((s.each (chans.filter (s.barMember (Fin.ofNat 16 w.u))) fun n t => t.classNext n w.s true)).advance c

/-- SIG (R159): the code and the word index in the payload. -/
def State.opSig (s : State) (c : Ctx) (w : IWord) : State :=
  s.instr c true (decide (w.a = 0 ∧ w.b = 0)) fun s =>
    let num := match c with
      | .chan n => 2 * n.val + 1
      | .shelf => 449
    (s.raise num w.s.val (le32 w.u ++ le32 (s.pc c))).advance c

/-- SWAPPT (R132, R136, R159): the bank changes with no step open and SWPEND = 1, whenever SWPEND = 1 in the shelf
context. -/
def State.opSwappt (s : State) (c : Ctx) (w : IWord) : State :=
  s.instr c true (decide (w.a = 0 ∧ w.b = 0 ∧ w.s = 0)) fun s => match c with
    | .chan n =>
      if (s.lane1 n).x.step.isNone ∧ s.flag (F.CH_PROG_SWPEND n) then
        let s1 := (s.setFlag (F.CH_PROG_ACT n) (!s.flag (F.CH_PROG_ACT n))).setFlag (F.CH_PROG_SWPEND n) false
        (s1.setPc c (s.target c w)).raise (2 * n.val + 1) 0
      else s.advance c
    | .shelf =>
      if s.flag F.CS_SHPROG_SWPEND then
        let s1 := (s.setFlag F.CS_SHPROG_ACT (!s.flag F.CS_SHPROG_ACT)).setFlag F.CS_SHPROG_SWPEND false
        (s1.setPc c (s.target c w)).raise 449 0
      else s.advance c

/-- BAR. -/
def execBar (c : Ctx) (a b : Fin 16) (st : Fin 4) (imm : BitVec 16) (s : State) : Host.Outcome State Fault Refusal :=
  .next (s.opBar c ⟨a, b, st, imm⟩)
/-- PRIO. -/
def execPrio (c : Ctx) (a b : Fin 16) (st : Fin 4) (imm : BitVec 16) (s : State) : Host.Outcome State Fault Refusal :=
  .next (s.opPrio c ⟨a, b, st, imm⟩)
/-- SIG. -/
def execSig (c : Ctx) (a b : Fin 16) (st : Fin 4) (imm : BitVec 16) (s : State) : Host.Outcome State Fault Refusal :=
  .next (s.opSig c ⟨a, b, st, imm⟩)
/-- SWAPPT. -/
def execSwappt (c : Ctx) (a b : Fin 16) (st : Fin 4) (imm : BitVec 16) (s : State) : Host.Outcome State Fault Refusal :=
  .next (s.opSwappt c ⟨a, b, st, imm⟩)

/-- R137: the arrived members of a barrier resume, and the shelf program with T and N; the counted ones are kept for shelf
port 4. -/
def State.barRelease (s : State) (b : Fin 16) (timeout : Bool) : State :=
  let here := chans.filter fun n => s.arrived b n && s.barMember b n
  let s1 := s.each here fun n t => t.suspend (.chan n) .none
  let miss := s.barUncounted b
  let s2 := { s1 with sh := { s1.sh with released := (here.filter s.barCounted).length } }
  let f := s.flags .shelf
  (s2.setFlags .shelf (f / 8 * 8 + miss.toNat * 4 + f / 2 % 2 * 2 + timeout.toNat)).suspend .shelf .none

/-- The shelf program waits at this barrier, and is not frozen (R137, R204). -/
def State.shelfWaits (s : State) (b : Fin 16) : Bool := decide (s.sh.susp = .bar b) && s.live .shelf

/-- R137: the episode of a barrier ends; the members resume at the next boundary. -/
def State.barEnd (s : State) (b : Fin 16) (timeout : Bool) : State := { s with sh := { s.sh with relPend := some (b, timeout) } }

/-- BARRIER_RELEASE (R137): every counted member has arrived. -/
def execBarrierRelease (b : Fin 16) (s : State) : Host.Outcome State Fault Refusal :=
  if s.shelfWaits b ∧ s.sh.relPend = none ∧ chans.all (fun n => !(s.barMember b n && s.barCounted n) || s.arrived b n) then
    .next (s.barEnd b false)
  else .next s

/-- BARRIER_TIMEOUT (R137): CS_BART.TMO ms have passed. -/
def execBarrierTimeout (b : Fin 16) (s : State) : Host.Outcome State Fault Refusal :=
  let tmo := s.fget F.CS_BART_TMO
  if s.shelfWaits b ∧ s.sh.relPend = none ∧ tmo ≠ 0 ∧ s.sh.epFrom + tmo * ms ≤ s.ctr then .next (s.barEnd b true) else .next s

/-! Decoding a stored word (R142, R146). -/

/-- The word's operand fields. -/
def wordFields (w : Word) : IWord :=
  { a := Fin.ofNat 16 (bitsOf w 22 4), b := Fin.ofNat 16 (bitsOf w 18 4), s := Fin.ofNat 4 (bitsOf w 16 2),
    imm := BitVec.ofNat 16 (bitsOf w 0 16) }

/-- R146: the word of an opcode in a context; every other opcode is reserved. -/
def State.execWord (s : State) (c : Ctx) (op : Nat) (w : IWord) : State :=
  match op with
  | 0x01 => s.opCurrent c 1 w
  | 0x02 => s.opCv c w
  | 0x03 => s.opCcv c w
  | 0x04 => s.opCurrent c 4 w
  | 0x05 => s.opCurrent c 5 w
  | 0x06 => s.opPulse c w
  | 0x07 => s.opEis c w
  | 0x08 => s.opStill c 8 w
  | 0x09 => s.opStill c 9 w
  | 0x0C => s.opLimv c w
  | 0x0D => s.opLimi c w
  | 0x0E => s.opLimt c w
  | 0x10 => s.opDisarm c w
  | 0x11 => s.opArmt c w
  | 0x12 => s.opArmv c w
  | 0x13 => s.opArmi c w
  | 0x14 => s.opArmtap c w
  | 0x15 => s.opArmq c w
  | 0x16 => s.opArme c w
  | 0x17 => s.opArmdv c w
  | 0x18 => s.opArmtc c w
  | 0x1A => s.opWait c w
  | 0x20 => s.opLdi c w
  | 0x21 => s.opMov c w
  | 0x22 => s.opGetm c w
  | 0x23 => s.opPutp c w
  | 0x24 => s.opAdd c w
  | 0x25 => s.opSub c w
  | 0x26 => s.opMulsh c w
  | 0x27 => s.opCmp c w
  | 0x28 => s.opBr c w
  | 0x29 => s.opLoop c w
  | 0x2A => s.opCall c w
  | 0x2B => s.opRet c w
  | 0x2C => s.opNop c w
  | 0x2D => s.opStop c w
  | 0x30 => s.opCapdc c w
  | 0x31 => s.opEisrun c w
  | 0x32 => s.opEmit c w
  | 0x38 => s.opBar c w
  | 0x39 => s.opPrio c w
  | 0x3A => s.opSig c w
  | 0x3B => s.opSwappt c w
  | _ => s.progFault c 2

/-- R129, R142: fetch and execute one word of a context that may execute, or the literal word of an LDI. -/
def State.stepWord (s : State) (c : Ctx) : State :=
  if s.pcIn c = false then (s.setLdi c none).progFault c 1
  else match s.ldi c with
    | some _ => s.literal c (s.fetch c)
    | none => s.execWord c (bitsOf (s.fetch c) 26 6) (wordFields (s.fetch c))

/-- R119: at most `k` words, until the context suspends or stops. -/
def State.runWords : Nat → State → Ctx → State
  | 0, s, _ => s
  | k + 1, s, c => if s.live c ∧ s.susp c = .none then State.runWords k (s.stepWord c) c else s

end Sys2Proof.Machine
end

