-- ==== Sys2Proof/Machine/Lantern.lean ====
section
/-! DEFINITION. The lantern lane (R184–R198): the tour, the comparison and correction of calibration entries, suspect
channels, and adoption. -/

namespace Sys2Proof.Machine

open Sys2Proof

/-- R189: a connect or disconnect of a channel at this boundary. -/
def State.xsettle (s : State) (n : Fin 128) : State :=
  (s.setFlag (F.CH_MSTAT_XSETTLE n) true).modM n fun m => { m with xsFrom := s.ctr, xsUntil := s.ctr + 20 * us }

/-- R184: the crossbar connects a channel, or none. -/
def State.crossbar (s : State) (o : Option (Fin 128)) : State :=
  let s1 := match s.lane.conn with
    | some n => s.xsettle n
    | none => s
  let s2 := match o with
    | some n => s1.xsettle n
    | none => s1
  { s2 with lane := { s2.lane with conn := o } }

/-- R185: the zero and REFIN positions taken: offset and gain, the gain from LN_REFV as it stands then. -/
def State.laneRefs (s : State) (r : LaneRefs) : State :=
  let l := s.lane
  let (vz, vr) := if r.vz < r.vr then (r.vz, r.vr) else (l.vz, l.vr)
  let (iz, ir) := if r.iz < r.ir then (r.iz, r.ir) else (l.iz, l.ir)
  { s with lane := { l with vz := vz, vr := vr, iz := iz, ir := ir, refv := s.eff F.LN_REFV_REFV } }

/-- R196: the bandgap readings against those of the first return: SELF, and its clearing by a host request once a return
passes. -/
def State.laneSelf (s : State) (r : LaneRefs) : State :=
  let b1 := s.laneVolt r.bg1
  let b2 := s.laneVolt r.bg2
  match s.lane.bg with
  | none => { s with lane := { s.lane with bg := some (b1, b2) } }
  | some (x, y) =>
    let lim : Nat := s.eff F.LN_LIMIT_VLIM * 1000
    if lim < (b1 - x).natAbs * 4 ∨ lim < (b2 - y).natAbs * 4 then
      let s1 := { s with lane := { s.lane with selfClr := false } }.setFlag F.LN_STAT_SELF true
      if s.flag F.LN_STAT_SELF then s1 else s1.raise 450 2
    else if s.lane.selfClr then { s with lane := { s.lane with selfClr := false } }.setFlag F.LN_STAT_SELF false
    else s

/-- R196: the lane holds. -/
def State.laneHolds (s : State) : Bool := s.flag F.LN_STAT_SELF || s.flag F.LN_STAT_REFHOLD

/-- R187: a channel that a slot can visit: neither ABSENT nor adopted. -/
def State.visitable (s : State) (n : Fin 128) : Bool :=
  decide (s.chState n ≠ stABSENT) && !(s.flag F.LN_ADOPT_EN && decide (s.fget F.LN_ADOPT_CH = n.val))

/-- R187: the first position at or after a start, in tour order, that a slot can visit. -/
def State.tourFrom (s : State) (p : Fin 128) : Option (Fin 128) :=
  ((List.range 128).map fun k => Fin.ofNat 128 (p.val + k)).find? s.visitable

/-- R188: the lane takes part in the burst whose wake is under way: it wakes 200 ms before the burst. -/
def State.laneBurst (s : State) : Bool :=
  decide (s.pmode = mdAGING) && s.flag F.LN_CFG_AGING && s.mode.burst.any fun b => decide (b ≤ s.ctr + 200 * ms ∧ s.ctr < b)

/-- R186: the slot's times: from t5 to t6 in the tour; the 80 ms of the burst in AGING (R188, R30). -/
def State.newVisit (s : State) (n : Fin 128) : Visit :=
  let a := decide (s.pmode = mdAGING)
  let b := s.mode.burst.getD s.ctr
  { n := n, range := s.fget (F.CH_MSTAT_IRANGE n), t0 := s.ctr, byNext := true, from_ := s.lane.tour, aging := a,
    open_ := if a then b + 20 * ms else s.ctr + 300 * ms,
    close := if a then b + 100 * ms else s.ctr + s.fget F.LN_DWELL_DWELL * 10 * ms }

/-- R187: the visit of the slot that starts now: to NEXT, else a repeat that waits, else to the tour's next position. -/
def State.slotTarget (s : State) : Option Visit :=
  let next : Fin 128 := Fin.ofNat 128 (s.fget F.LN_POS_NEXT)
  if s.flag F.LN_POS_NEXTV ∧ s.visitable next then some (s.newVisit next)
  else match s.lane.again.find? fun a => s.visitable a.1 with
    | some (n, k, conf) => some { s.newVisit n with reps := k, confirm := conf }
    | none => (s.tourFrom s.lane.tour).map fun n =>
      { s.newVisit n with byNext := false, wraps := s.lane.wrapped || decide (n.val < s.lane.tour.val) }

/-- R186, R187: a slot begins with a visit; NEXTV clears, and a repeat that waited is taken. -/
def State.beginSlot (s : State) (v : Visit) : State :=
  let l := s.lane
  let s1 := { s with lane := { l with
    visit := some v, tour := if v.byNext then l.tour else Fin.ofNat 128 (v.n.val + 1),
    wrapped := if v.byNext then l.wrapped else decide (v.n.val = 127),
    again := l.again.filter fun a => s.visitable a.1 && !(decide (0 < v.reps) && decide (a.1 = v.n)) } }
  let s2 := ((s1.fset F.LN_POS_POS v.n.val).fset F.LN_POS_RANGE v.range).fset F.LN_POS_BAND (s.fget (F.CH_MSTAT_BAND v.n))
  (s2.setFlag F.LN_POS_NEXTV false).setFlag F.LN_STAT_REPEAT (decide (0 < v.reps))

/-- R190: the visit under way is over, in the band of t6; it waits for its last pairs and its result. -/
def State.visitOver (s : State) : State := match s.lane.visit with
  | some v => { s with lane := { s.lane with done := some { v with band := s.fget (F.CH_MSTAT_BAND v.n) }, visit := none } }
  | none => s

/-- R186, t0: the slot before has ended, and the crossbar disconnects. -/
def State.endSlot (s : State) : State := (s.crossbar none).visitOver

/-- R208: the LN writes that waited come into force at a slot start. -/
def State.laneTake (s : State) : State := { s with old := s.old.filter fun e => !e.1.atSlot }

/-- R185, R186: a reference return begins; what its positions read is given. -/
def State.refStart (s : State) (r : LaneRefs) : State :=
  { s with lane := { s.lane with refAt := some s.ctr, refs := r } }.fset F.LN_STAT_PHASE 1

/-- R188: after a burst the lane sleeps. An adoption in force goes on. -/
def State.laneRest (s : State) : State :=
  let s1 := { s with lane := { s.lane with refAt := none, adoptRef := false } }
  if s.flag F.LN_ADOPT_ACT then s1 else s1.fset F.LN_STAT_PHASE 0

/-- R187, R188: the lane is off: no repeat waits either. -/
def State.laneOff (s : State) : State := { s.laneRest with lane := { s.laneRest.lane with again := [] } }

/-- A slot may start now (R186, R188, R197): the one before has run its length, no channel is adopted, and the lane is clocked and tours. -/
def State.slotDue (s : State) : Bool :=
  !s.flag F.LN_ADOPT_EN && s.gateOn 4 &&
  (match s.lane.visit with
    | some v => decide (v.close ≤ s.ctr)
    | none => true) &&
  (decide (s.pmode = mdRUN ∨ s.pmode = mdSTANDBY) || s.laneBurst)

/-- R197: the reference return of an adoption is due. -/
def State.adoptDue (s : State) : Bool :=
  s.flag F.LN_ADOPT_EN && !s.flag F.LN_ADOPT_ACT && s.lane.adoptAt.isSome && s.lane.refAt.isNone && !s.lane.adoptRef &&
    s.lane.conn.isNone

/-- LANTERN_SLOT_START (R185–R188, R196, R197, R208): the slot before closes, the waiting writes come into force, the next channel is
chosen and the four reference positions begin. With an adoption requested, the return is the one R197 makes. -/
def execLanternSlotStart (refs : LaneRefs) (s : State) : Host.Outcome State Fault Refusal :=
  if s.adoptDue then .next (s.laneTake.refStart refs)
  else if s.slotDue then
    let s1 := s.endSlot.laneTake
    if ¬ s.flag F.LN_CFG_TOUR then .next s1.laneOff
    else match s1.slotTarget with
      | some v => .next ((s1.beginSlot v).refStart refs)
      | none => .next (s1.laneOff.setFlag F.LN_POS_NEXTV false)
  else .next s

/-- R208: a tour before the present visit has ended, its last visit not to be repeated. -/
def State.tourEnds (s : State) : State := match s.lane.visit with
  | some v =>
    if v.wraps then { s with lane := { s.lane with visit := some { v with wraps := false } } }.incWrap F.LN_STAT_TOURS else s
  | none => s

/-- LANTERN_CONNECT (R184, R186, R188, R189, R197): the four positions read, at t4 of the slot, or at the burst's start, or for the
adopted channel. -/
def execLanternConnect (s : State) : Host.Outcome State Fault Refusal :=
  if s.flag F.LN_ADOPT_EN ∧ ¬ s.flag F.LN_ADOPT_ACT ∧ s.lane.adoptRef then
    let n : Fin 128 := Fin.ofNat 128 (s.fget F.LN_ADOPT_CH)
    .next (({ s with lane := { s.lane with adoptRef := false } }.crossbar (some n)).fset F.LN_STAT_PHASE 5)
  else match s.lane.visit with
    | some v =>
      let at_ := if v.aging then v.open_ - 20 * ms else v.t0 + 200 * ms
      if ¬ v.conn ∧ ¬ v.lost ∧ at_ ≤ s.ctr ∧ s.lane.refAt = none then
        let s1 := s.crossbar (some v.n)
        .next ({ s1 with lane := { s1.lane with visit := some { v with conn := true }, range := v.range } }.tourEnds.fset F.LN_STAT_PHASE 5)
      else .next s
    | none => .next s

/-! The result of a visit (R190–R195). -/

/-- What one quantity of a visit comes to: outcome of R194, e (none: no comparison was made) and m in fine units, the correction,
and what is kept. -/
structure LaneOut where
  out : Nat
  e : Option Int := none
  m : Int := 0
  fix : Option LaneFix := none
  hist : Option (List (Int × Int)) := none
  k0 : Option (Int × Int) := none
  bad : Bool := false
  deriving DecidableEq, Repr

/-- R191: the unclamped dg (10^-16) and do (pV) of a voltage history, the newest entry first. -/
def laneSplit (h : List (Int × Int)) : Int × Int :=
  let ms := h.map Prod.fst
  let m0 := ms.headD 0
  let hi := ms.foldl max m0
  let lo := ms.foldl min m0
  let (m, e) := h.headD (0, 0)
  if 1000000000000 ≤ hi - lo then
    let n : Int := h.length
    let sm := ms.foldl (· + ·) 0
    let se := (h.map Prod.snd).foldl (· + ·) 0
    let smm := (ms.map fun x => x * x).foldl (· + ·) 0
    let sme := (h.map fun p => p.1 * p.2).foldl (· + ·) 0
    let den := (n * smm - sm * sm).natAbs
    let num := n * sme - sm * se
    (rdiv 191 (-num * 10 ^ 16) den, rdiv 192 (se * den - num * sm) (h.length * den))
  else if m.natAbs < 550000000000 then (0, e)
  else (if 0 < m then rdiv 191 (-e * 10 ^ 16) m.natAbs else rdiv 191 (e * 10 ^ 16) m.natAbs, 0)

/-- R191, R192: the limits on a correction. -/
abbrev dgMax : Int := 20000000000

/-- R193, R194: what an entry's state allows: 9 no valid entry, 10 the lane does not commit. -/
def State.mayCommit (s : State) (off : Nat) : Option Nat :=
  if s.laneHolds then some 10
  else if (s.calEntryAt (calActive + off)).valid = false then some 9
  else if ¬ s.effFlag F.LN_CFG_COMMIT then some 10
  else none

/-- R190, R191, R196: the voltage result of a visit with enough pairs; its (m, e) joins the history whatever may be committed. -/
def State.laneV (s : State) (v : Visit) : LaneOut :=
  let off := calOffset v.n.val 0 (if v.aging then 1 else 0) v.band
  let e := rdiv 190 (v.sE * 1000) v.nV
  let m := rdiv 190 (v.sM * 1000) v.nV
  if s.eff F.LN_LIMIT_VLIM * 1000000 < e.natAbs then { out := 7, e := some e, m := m, bad := true }
  else
    let old := ((s.lane.hist.find? fun h => h.1 = off).map Prod.snd).getD []
    let h := ((m, e) :: old).take 4
    match s.mayCommit off with
    | some k => { out := k, e := some e, m := m, hist := some h }
    | none =>
      let (dg0, do0) := laneSplit h
      let dg := clampI dg0 (-dgMax) dgMax
      let do_ := clampI do0 (-10000000) 10000000
      { out := if dg = dg0 ∧ do_ = do0 then 0 else 1, e := some e, m := m, fix := some { off := off, dg := dg, do_ := do_ },
        hist := some h }

/-- Full scale in the fine unit of a shunt voltage. -/
abbrev fsFine : Int := 2 ^ 40

/-- R192, R196: the current result of a visit with enough pairs. `p / q` is K0. While the lane holds, no base is set. -/
def State.laneI (s : State) (v : Visit) : LaneOut :=
  let off := calOffset v.n.val 1 v.range v.band
  let m := rdiv 194 v.sL v.nI
  let set := (s.lane.k0.find? fun h => h.1 = off).map Prod.snd
  let big := decide (fsFine ≤ m.natAbs * 10)
  let (p, q) := set.getD (1, 1)
  let e := if 0 < q then rdiv 195 (v.sC * q - p * v.sL) (v.nI * q.natAbs) else rdiv 195 (p * v.sL - v.sC * q) (v.nI * q.natAbs)
  if set.isNone ∧ big then
    let bad := decide (s.eff F.LN_LIMIT_KLIM * v.sL.natAbs < 1000 * (v.sC - v.sL).natAbs)
    let out := if bad then 7 else if s.laneHolds then 10 else 2
    { out := out, e := some e, m := m, k0 := if out = 2 then some (v.sC, v.sL) else none, bad := bad }
  else if s.eff F.LN_LIMIT_ILIM * fsFine < e.natAbs * 10000 then { out := 7, e := some e, m := m, bad := true }
  else
    let small := decide (m.natAbs * 100 < fsFine) && (set.isSome || decide (m.natAbs * 2000 < fsFine))
    if small = false ∧ (set.isNone ∨ big = false) then { out := if s.laneHolds then 10 else 2, e := some e, m := m }
    else match s.mayCommit off with
      | some k => { out := k, e := some e, m := m }
      | none =>
        let den := p * m
        let dg0 := if small then 0 else if 0 < den then rdiv 196 (-e * q * 10 ^ 16) den.natAbs else rdiv 196 (e * q * 10 ^ 16) den.natAbs
        let do0 := if small then e else 0
        let dg := clampI dg0 (-dgMax) dgMax
        let do_ := clampI do0 (-2199023) 2199023
        { out := if dg = dg0 ∧ do_ = do0 then 0 else 1, e := some e, m := m, fix := some { off := off, dg := dg, do_ := do_ } }

/-- R194: an outcome that asks for the visit to be repeated. -/
def asksRepeat (k : Nat) : Bool := decide (k = 3 ∨ k = 4 ∨ k = 5 ∨ k = 7)

/-- R194: an outcome that LN_CNT counts as a visit. -/
def isVisit (k : Nat) : Bool := decide (k = 0 ∨ k = 1 ∨ k = 2 ∨ k = 7 ∨ k = 8 ∨ k = 9 ∨ k = 10)

/-- R194: both outcomes of a visit. A burst compares no current (R188). -/
def State.laneOuts (s : State) (v : Visit) : LaneOut × LaneOut :=
  if v.lost ∨ ¬ v.conn then ({ out := 11 }, { out := 11 })
  else if v.ranged ∧ ¬ v.aging then ({ out := 3 }, { out := 3 })
  else if v.banded then ({ out := 5 }, { out := 5 })
  else
    let few (n om : Nat) : Bool := decide (n = 0 ∨ n + om < 4 * om)
    let a := if few v.nV v.omV then { out := 6 } else s.laneV v
    let b := if v.aging ∨ few v.nI v.omI then { out := 6 } else s.laneI v
    if a.bad ∨ b.bad then
      let k := if s.laneHolds then 10 else if v.confirm then 8 else 7
      ({ a with out := k, fix := none, hist := none }, { b with out := k, fix := none, k0 := none })
    else (a, b)

/-- R194, R208: a visit counts as completed when every quantity it compares ends with such an outcome (notes/assumptions/164.md). -/
def Visit.counts (v : Visit) (a b : Nat) : Bool := isVisit a && (v.aging || isVisit b)

/-- R187, R194, R195: a visit is repeated, at most twice in a row: the slot that has begun turns back to the channel; a visit to NEXT
keeps its slot, and the repeat then waits for the next. -/
def State.laneAgain (s : State) (n : Fin 128) (reps : Nat) (confirm : Bool) : State :=
  if 2 ≤ reps then s
  else
    let a := (n, reps + 1, confirm)
    match s.lane.visit with
    | some w =>
      if w.conn ∨ (w.byNext ∧ w.reps = 0) then { s with lane := { s.lane with again := a :: s.lane.again } }
      else
        let v := { w with n := n, range := s.fget (F.CH_MSTAT_IRANGE n), reps := reps + 1, confirm := confirm, byNext := true,
                          wraps := false }
        let s1 := { s with lane := { s.lane with
          visit := some v, tour := w.from_, wrapped := w.wraps || (w.byNext && s.lane.wrapped),
          again := if 0 < w.reps then (w.n, w.reps, w.confirm) :: s.lane.again else s.lane.again } }
        (((s1.setFlag F.LN_STAT_REPEAT true).fset F.LN_POS_POS n.val).fset F.LN_POS_RANGE v.range).fset F.LN_POS_BAND
          (s.fget (F.CH_MSTAT_BAND n))
    | none => { s with lane := { s.lane with again := a :: s.lane.again } }

/-- R195: a confirmed out-of-limit visit. -/
def State.laneSuspect (s : State) (v : Visit) (ev ei : Int) : State :=
  let n := v.n
  let w : Fin 4 := Fin.ofNat 4 (n.val / 32)
  let s1 := (s.latch n 11).setWord (.LN_SUSP w) (s.word (.LN_SUSP w) ||| BitVec.ofNat 32 (2 ^ (n.val % 32)))
  let live := decide (s.chState n = stRUN ∨ s.chState n = stSTOP ∨ s.chState n = stBRIDGE)
  let s2 := if live ∨ s.chState n = stFOLLOW then s1.parkTripped n else s1
  let s3 := s2.raiseReq (2 * n.val) 2 (s2.faultPayload n)
  s3.raise 451 2 (le32 n.val ++ le32 (codeOf 32 ev) ++ le32 (codeOf 32 ei))

/-- R192, R208: K0 − 1 in 10^-10, or the unset code. -/
def State.kbase (s : State) (off : Nat) : Word :=
  match s.lane.k0.find? fun h => h.1 = off with
  | some (_, p, q) => wordOf (if 0 < q then ndiv ((p - q) * 10 ^ 10) q.natAbs else ndiv ((q - p) * 10 ^ 10) q.natAbs)
  | none => 0x80000000#32

/-- R208: LN_KBASE: of the adopted channel's entry in force, else as the last visit left it. -/
def State.kbaseShown (s : State) (w : Word) : Word :=
  if s.flag F.LN_ADOPT_ACT then
    let n : Fin 128 := Fin.ofNat 128 (s.fget F.LN_ADOPT_CH)
    s.kbase (calOffset n.val 1 (s.fget (F.CH_MSTAT_IRANGE n)) (s.fget (F.CH_MSTAT_BAND n)))
  else w

/-- LN_CNT (R208). -/
def State.laneCount (s : State) (v : Bool) : State := if v then s.incWrap F.LN_CNT_VISITS else s.incWrap F.LN_CNT_DISC

/-- R193: does a correction move the channel's reading by more than 1 µV? In pV for a voltage, in full scale × 2^-40 of a
current range. -/
def fixMoves (f : LaneFix) (m : Int) (volt : Bool) (range : Nat) : Bool :=
  let d := (rdiv 193 (f.dg * m) (10 ^ 16) - f.do_).natAbs
  if volt then decide (1000000 < d) else decide (fsFine * 8 ^ range < d * 100000)

/-- R190, R186: the last pair of a closed visit has come. -/
def State.pairsIn (s : State) (v : Visit) : Bool :=
  decide (v.close + metDelay ≤ s.ctr) && (!s.served || decide (v.close ≤ (s.lane1 v.n).m.ms.stamp))

/-- R194: what LN_RES0 to LN_RES3 and LN_KBASE report of a visit. Where no comparison was made, e is open and so is IOUT in a burst
(notes/assumptions/165.md). -/
def State.laneReport (s : State) (v : Visit) (a b : LaneOut) : State :=
  let f (k : Nat) : Word := Config.freeWord (s.free + k)
  let dgOf (f : Option LaneFix) : Int := match f with
    | some x => rdiv 193 x.dg 1000000
    | none => 0
  let iout := if v.aging then bitsOf (f 0) 0 4 else b.out
  let s1 := (((s.freshN 3).setWord .LN_RES0 0).fset F.LN_RES0_CH v.n.val).fset F.LN_RES0_RANGE v.range
  let s2 := ((s1.fset F.LN_RES0_BAND v.band).fset F.LN_RES0_VOUT a.out).fset F.LN_RES0_IOUT iout
  let s3 := s2.setWord .LN_RES1 (match a.e with
    | some e => wordOf (rdiv 191 e 1000)
    | none => f 1)
  let s4 := s3.setWord .LN_RES2 (match b.e with
    | some e => wordOf (rdiv 191 e 1024)
    | none => f 2)
  ((s4.fsetS F.LN_RES3_DGV (dgOf a.fix)).fsetS F.LN_RES3_DGI (dgOf b.fix)).setWord .LN_KBASE
    (s.kbase (calOffset v.n.val 1 v.range v.band))

/-- R191, R192, R193: what the lane keeps of a result, and the corrections that wait for the next boundary. -/
def State.laneKeep (s : State) (v : Visit) (a b : LaneOut) : State :=
  let voff := calOffset v.n.val 0 (if v.aging then 1 else 0) v.band
  let ioff := calOffset v.n.val 1 v.range v.band
  { s with lane := { s.lane with
    done := none, fixCh := v.n, fixReps := v.reps, fixConf := v.confirm, fixAt := s.nextBoundary,
    fixes := a.fix.toList ++ b.fix.toList,
    fixBig := a.fix.any (fun f => fixMoves f a.m true 0) || b.fix.any (fun f => fixMoves f b.m false v.range),
    hist := match a.hist with
      | some h => (voff, h) :: s.lane.hist.filter fun x => x.1 ≠ voff
      | none => s.lane.hist
    k0 := match b.k0 with
      | some (p, q) => (ioff, p, q) :: s.lane.k0.filter fun x => x.1 ≠ ioff
      | none => s.lane.k0 } }

/-- LANTERN_RESULT (R190–R195): at t7 the closed visit is judged and its corrections wait for the next boundary. -/
def execLanternResult (s : State) : Host.Outcome State Fault Refusal :=
  match s.lane.done with
  | none => .next s
  | some v =>
    if s.pairsIn v then
      let (a, b) := s.laneOuts v
      let s1 := (s.laneKeep v a b).laneReport v a b
      let s2 := if s1.lane.fixes.isEmpty then s1.laneCount (v.counts a.out b.out) else s1
      let s3 := if asksRepeat a.out ∨ asksRepeat b.out then s2.laneAgain v.n v.reps (v.confirm || decide (a.out = 7)) else s2.tourEnds
      .next (if a.out = 8 then s3.laneSuspect v (rdiv 191 (a.e.getD 0) 1000) (rdiv 191 (b.e.getD 0) 1024) else s3)
    else .next s

/-- R193: an entry with a correction in it. -/
def CalEntry.fixed (e : CalEntry) (f : LaneFix) (volt : Bool) : CalEntry :=
  let g := ndiv ((10 ^ 10 + e.gain) * (10 ^ 16 + f.dg)) (10 ^ 16) - 10 ^ 10
  let lsb : Nat := if volt then 1000 else 1024
  let o := e.offset + ndiv (f.do_ * 10 ^ 10) ((10 ^ 10 + e.gain).natAbs * lsb)
  { e with gain := clampI g (-2 ^ 31) (2 ^ 31 - 1), offset := clampI o (-2 ^ 23) (2 ^ 23 - 1), src := 2 }

/-- R193, R51: one entry committed, and mirrored into a shadow entry that is not dirty. -/
def State.commitFix (s : State) (f : LaneFix) : State :=
  let volt := decide (f.off / 0x100 % 2 = 0)
  let e := (s.calEntryAt (calActive + f.off)).fixed f volt
  let s1 := s.putEntry (calActive + f.off) e
  if s.lane.dirty.contains (f.off / 8) then s1 else s1.putEntry (calShadow + f.off) e

/-- R193: a correction of a voltage entry. -/
def LaneFix.volt (f : LaneFix) : Bool := decide (f.off / 0x100 % 2 = 0)

/-- R191: what a commit removes from the errors the lane keeps of a voltage entry. -/
def State.histFix (s : State) (f : LaneFix) : State :=
  if f.volt then
    { s with lane := { s.lane with hist := s.lane.hist.map fun h =>
      if h.1 = f.off then (h.1, h.2.map fun p => (p.1, p.2 - f.do_ + rdiv 193 (f.dg * p.1) (10 ^ 16))) else h } }
  else s

/-- R52, R194: a SWAP on the commit's boundary drops it: outcome 4 for each quantity that had one, and the visit is repeated. -/
def State.laneDropped (s : State) : State :=
  let v := s.lane.fixes.any LaneFix.volt
  let i := s.lane.fixes.any fun f => !f.volt
  let s1 := { s with lane := { s.lane with fixes := [], fixBig := false } }.incWrap F.LN_CALSEQ_DROPPED
  let s2 := if v then (s1.fset F.LN_RES0_VOUT 4).fsetS F.LN_RES3_DGV 0 else s1
  let s3 := if i then (s2.fset F.LN_RES0_IOUT 4).fsetS F.LN_RES3_DGI 0 else s2
  (s3.laneCount false).laneAgain s.lane.fixCh s.lane.fixReps s.lane.fixConf

/-- R193, R51, R53: the corrections of a visit applied and mirrored, with LCOM where they move the reading by more than 1 µV. -/
def State.laneApply (s : State) : State :=
  let n := s.lane.fixCh
  let s0 := { s with lane := { s.lane with fixes := [], fixBig := false } }
  let s1 := s.lane.fixes.foldl (fun t f => (t.commitFix f).histFix f) s0
  let due := match s.nv.calDue with
    | some t => t
    | none => max s.ctr (s.nv.calLast + 600 * sec)
  let s2 := { s1 with nv := { s1.nv with calDue := some due } }.laneCount (decide (s.fget F.LN_RES0_VOUT ≠ 6 ∧
    (s.fget F.LN_RES0_IOUT ≠ 6 ∨ s.pmode = mdAGING)))
  if s.lane.fixBig then
    let s3 := s2.setFlag (F.CH_MSTAT_LCOM n) true
    if s.flag (F.CH_OCVCTL_ACTIVE n) then s3.setFlag (F.CH_OCVST_LCOM n) true else s3
  else s2

/-- LANTERN_COMMIT (R193, R186, R52, R53): the corrections of a visit at the first boundary after its result; a SWAP on that
boundary drops them. -/
def execLanternCommit (s : State) : Host.Outcome State Fault Refusal :=
  if s.lane.fixes.isEmpty ∨ s.ctr < s.lane.fixAt then .next s
  else if s.lane.swapAt.any (fun t => decide (s.lane.fixAt ≤ t)) then .next s.laneDropped
  else .next s.laneApply

/-! Adoption (R197, R198). -/

/-- R52, R194: the slot under way is abandoned. -/
def State.laneAbandon (s : State) : State :=
  match s.lane.visit with
  | some v =>
    let s1 := { s with lane := { s.lane with visit := none, tour := if v.byNext then s.lane.tour else v.n } }
    let s2 := ((s1.setWord .LN_RES0 0).fset F.LN_RES0_CH v.n.val).fset F.LN_RES0_RANGE v.range
    (((s2.fset F.LN_RES0_VOUT 11).fset F.LN_RES0_IOUT 11).laneCount false).setFlag F.LN_STAT_REPEAT false
  | none => s

/-- R291: a configuration region has changed and is to be saved. -/
def State.dirtyRegion (s : State) (r : Region) : State :=
  if s.nv.dirty.any fun d => d.1 = r then s else { s with nv := { s.nv with dirty := s.nv.dirty ++ [(r, s.time)] } }

/-- R197, R198: an adoption is to start: the crossbar is to disconnect, and a reference return is due. -/
def State.adoptStart (s : State) : State :=
  { s with lane := { s.lane with adoptAt := some s.time, adoptRef := false, refAt := none, again := [], drop := true } }.fset
    F.LN_STAT_PHASE 0

/-- R197: EN = 1 for a channel. -/
def State.adoptEnable (s : State) (n : Fin 128) : State :=
  if (s.flag F.LN_ADOPT_EN ∧ s.fget F.LN_ADOPT_CH ≠ n.val) ∨ ¬ s.idle n then s.answer stBusy
  else if s.flag F.LN_ADOPT_EN then s.answer stOk
  else
    let s1 := s.laneAbandon.adoptStart
    (((s1.fset F.LN_ADOPT_CH n.val).setFlag F.LN_ADOPT_EN true).dirtyRegion .adopt).answer stOk

/-- ADOPT_ENABLE (R197). -/
def execAdoptEnable (n : Fin 128) (s : State) : Host.Outcome State Fault Refusal := .next (s.adoptEnable n)

/-- ADOPT_ACTIVE (R197): the lane's filters are full after the connect. -/
def execAdoptActive (s : State) : Host.Outcome State Fault Refusal :=
  if s.flag F.LN_ADOPT_EN ∧ ¬ s.flag F.LN_ADOPT_ACT ∧ s.lane.conn = some (Fin.ofNat 128 (s.fget F.LN_ADOPT_CH)) then
    let s1 := { s with lane := { s.lane with adoptAt := none } }
    let s2 := ((s1.setFlag F.LN_ADOPT_ACT true).setFlag F.LN_STAT_ADOPTED true).fset F.LN_STAT_PHASE 7
    .next (if s.flag F.LN_STAT_ADOPTED then s2 else s2.raise 452 0)
  else .next s

/-- R198: EN = 0. -/
def State.adoptRelease (s : State) : State :=
  if ¬ s.flag F.LN_ADOPT_EN then s.answer stOk
  else
    let n : Fin 128 := Fin.ofNat 128 (s.fget F.LN_ADOPT_CH)
    if ¬ s.idle n then s.answer stBusy
    else
      let s2 := { s with lane := { s.lane with
        adoptAt := none, adoptRef := false, refAt := none, drop := true, tour := Fin.ofNat 128 (n.val + 1), wrapped := false } }
      let s3 := ((s2.setFlag F.LN_ADOPT_EN false).setFlag F.LN_ADOPT_ACT false).setFlag F.LN_STAT_ADOPTED false
      let s4 := (s3.fset F.LN_STAT_PHASE 0).dirtyRegion .adopt
      (if s.flag F.LN_STAT_ADOPTED then s4.raise 452 0 else s4).answer stOk

/-- ADOPT_RELEASE (R198). -/
def execAdoptRelease (s : State) : Host.Outcome State Fault Refusal := .next s.adoptRelease

/-- R190: one metrology pair for a visit: the channel's calibrated voltage in nV and shunt voltage in fine units, the lane's own,
and whether either sample carries a mark that leaves it out. -/
def Visit.take (v : Visit) (stamp : Nat) (vch vln ich iln : Int) (outV outI : Bool) : Visit :=
  if v.conn ∧ v.open_ < stamp ∧ stamp ≤ v.close then
    let w := if outV then { v with omV := v.omV + 1 } else { v with nV := v.nV + 1, sE := v.sE + (vch - vln), sM := v.sM + vln }
    if outI then { w with omI := w.omI + 1 } else { w with nI := w.nI + 1, sC := w.sC + ich, sL := w.sL + iln }
  else v

/-- R190: the lane's side of a pair: its sample, and its overload marks (R466). -/
def State.lanePairIn (s : State) (v : Visit) (stamp : Nat) (vch ich : Int) (x : ChanIn) (outV outI : Bool) : Visit :=
  v.take stamp vch (s.laneVolt (clampV x.v)) ich (s.laneShunt (clampIraw x.i))
    (outV || overV x.v || touched stamp s.lane.vovrAt) (outI || overI x.i || touched stamp s.lane.iovrAt)

/-- R186, R194: the marks a boundary leaves on a visit. -/
def State.visitMarks (s : State) (v : Visit) : Visit :=
  let b := s.fget (F.CH_MSTAT_BAND v.n)
  let win := decide (v.open_ ≤ s.ctr)
  { v with ranged := v.ranged || decide (s.fget (F.CH_MSTAT_IRANGE v.n) ≠ v.range),
           lost := v.lost || decide (s.chState v.n = stABSENT),
           band0 := if win ∧ v.band0 = none then some b else v.band0,
           banded := v.banded || (win && (s.flag (F.CH_MSTAT_BLEND v.n) || v.band0.any fun x => decide (x ≠ b))) }

/-- R185, R186, R196: a reference return at a boundary, 50 ms to a position: offset and gain once REFIN has been read, the
bandgap check once BG2 has. -/
def State.refBoundary (s : State) : State := match s.lane.refAt with
  | some t0 =>
    let d := s.ctr - t0
    let s1 := if 100 * ms ≤ d then s.laneRefs s.lane.refs else s
    if 200 * ms ≤ d then
      let s2 := s1.laneSelf s.lane.refs
      { s2 with lane := { s2.lane with refAt := none, adoptRef := s.flag F.LN_ADOPT_EN && !s.flag F.LN_ADOPT_ACT } }
    else s1.fset F.LN_STAT_PHASE (1 + d / (50 * ms))
  | none => s

/-- R186, R188, R189, R190, R194: what a boundary does for the lane: a disconnect that waited, its reference return, its visit's
marks and LN_STAT.PHASE; the visit of a burst is over at the burst's end. -/
def State.laneBoundary (s : State) : State :=
  let s0 := if s.lane.drop then { s with lane := { s.lane with drop := false } }.crossbar none else s
  let s1 := s0.refBoundary
  match s1.lane.visit with
  | some v =>
    let s2 := { s1 with lane := { s1.lane with visit := some (s1.visitMarks v) } }.fset F.LN_POS_BAND (s1.fget (F.CH_MSTAT_BAND v.n))
    let s3 := if v.conn then s2.fset F.LN_STAT_PHASE (if v.open_ ≤ s.ctr then 6 else 5) else s2
    if v.aging ∧ v.close ≤ s.ctr then s3.visitOver else s3
  | none => s1

/-- R188, R197: at a wake from DEEP an adoption is brought up again, as at power-up. -/
def State.laneWake (s : State) : State :=
  if s.flag F.LN_ADOPT_EN then (s.setFlag F.LN_ADOPT_ACT false).adoptStart else s

end Sys2Proof.Machine
end

