-- ==== Sys2Proof/Machine/Spare.lean ====
section
/-! DEFINITION. The spare cluster (R199–R209): shadowing, self-test, takeover, rotation and retirement. -/

namespace Sys2Proof.Machine

open Sys2Proof

/-- R209: the field of CS_MAP that holds the cluster serving a group. -/
def mapFld (k : Fin 16) : Fld := ⟨.CS_MAP (Fin.ofNat 4 (k.val / 4)), 8 * (k.val % 4), 5⟩

/-- R199: the group of a channel. -/
def groupOf (n : Fin 128) : Fin 16 := Fin.ofNat 16 (n.val / 8)

/-- R199: the channels of a group. -/
def groupChans (k : Fin 16) : List (Fin 128) := (List.range 8).map fun j => Fin.ofNat 128 (8 * k.val + j)

/-- R209: the group the spare shadows, or is to acquire. -/
def State.spareGroup (s : State) : Fin 16 := Fin.ofNat 16 (s.fget F.CS_SPARE_SHGRP)

/-- R209: the spare shadows a group. -/
def State.shadowing (s : State) : Bool := decide (s.fget F.CS_SPARE_SST = 3)

/-- The cluster that holds the spare role, if any. -/
def State.spareCl (s : State) : Option (Fin 17) :=
  let c := s.fget F.CS_SPARE_SPARE
  if c < 17 then some (Fin.ofNat 17 c) else none

/-- R201: the spare is fresh now: its last slice passed and ended at most 100 ms ago. -/
def State.spareFresh (s : State) : Bool :=
  match s.spareCl with
  | some c => match s.spare.ended[c] with
    | some t => s.spare.lastOk && decide (s.time ≤ t + 100 * ms)
    | none => false
  | none => false

/-- R201, R209: a slice or a full LBIST of the spare ended. -/
def State.noteTest (s : State) (c : Fin 17) (pass : Bool) (cover : Nat) : State :=
  let cover := max (s.fget (F.CS_STAT_COVER c)) cover
  let s1 := { s with spare := { s.spare with lastOk := pass, ended := s.spare.ended.set c (some s.time) } }
  let s2 := ((s1.setFlag (F.CS_STAT_LAST c) pass).setFlag (F.CS_STAT_NONE c) false).fset (F.CS_STAT_COVER c) cover
  if pass then s2 else s2.incSat (F.CS_STAT_FAILS c)

/-- R201, R204: the spare holder runs a full LBIST; the shelf context freezes. -/
def State.startLbist (s : State) (c : Fin 17) : State :=
  let s1 := { s with spare := { s.spare with
    shadow1 := false, shadowed := false, slices := 0, lastOk := false, slicing := false, sliceEnd := false,
    lbistAt := some s.time } }
  (((s1.fset F.CS_SPARE_SST 1).setFlag F.CS_SPARE_FRESH false).setFlag F.CS_SPARE_SHFRZ true).fset (F.CS_STAT_ROLE c) 2

/-- R204: the cluster that holds the spare role is retired; from then on there is no spare. -/
def State.retire (s : State) (c : Fin 17) : State :=
  let s1 := ((s.fset (F.CS_STAT_ROLE c) 3).fset F.CS_SPARE_SPARE 31).fset F.CS_SPARE_SST 0
  let s2 := (((s1.setFlag F.CS_SPARE_FRESH false).setFlag F.CS_SPARE_ROTSTOP true).setFlag F.CS_SPARE_SHFRZ true)
  { s2 with spare := { s2.spare with shadowed := false, thaw := false } }.raise 458 3

/-- LBIST_SLICE (R201): the verdict of a slice that has ended; a failed one makes the spare stale at once. -/
def execLbistSlice (pass : Bool) (s : State) : Host.Outcome State Fault Refusal :=
  match s.spareCl with
  | some c =>
    if s.shadowing ∧ s.spare.sliceEnd then
      let k := s.spare.slices + 1
      let s1 := { s with spare := { s.spare with sliceEnd := false } }.noteTest c pass (if pass then min 100 (k * 100 / 4096) else 0)
      if pass then .next { s1 with spare := { s1.spare with slices := k } } else .next (s1.startLbist c)
    else .next s
  | none => .next s

/-- R201, R204: a full LBIST takes at most 60 ms. -/
def State.lbistInTime (s : State) : Bool := s.spare.lbistAt.all fun t => decide (s.time ≤ t + 60 * ms)

/-- FULL_LBIST_DONE (R201, R204, R206): passed within 60 ms, the spare acquires its group, and the rotation timer restarts where the
role is taken by it; otherwise it is retired. -/
def execFullLbistDone (pass : Bool) (s : State) : Host.Outcome State Fault Refusal :=
  match s.spareCl with
  | some c =>
    if s.fget F.CS_SPARE_SST = 1 ∧ s.spare.bridge = none then
      let ok := pass && s.lbistInTime
      let s1 := s.noteTest c ok (if ok then 100 else 0)
      if ok then
        let s2 := { s1 with spare := { s1.spare with
          thaw := true, taking := false, rotN := if s1.spare.taking then 0 else s1.spare.rotN } }
        .next ((s2.fset F.CS_SPARE_SST 2).fset (F.CS_STAT_ROLE c) 1)
      else .next (s1.retire c)
    else .next s
  | none => .next s

/-- SPARE_ACQUIRED (R201): the whole state of the group is mirrored; the first slice is due 50 ms on. -/
def execSpareAcquired (s : State) : Host.Outcome State Fault Refusal :=
  if s.fget F.CS_SPARE_SST = 2 then
    .next ({ s with spare := { s.spare with sliceAt := s.time + 50 * ms } }.fset F.CS_SPARE_SST 3)
  else .next s

/-- R204, R205: the spare takes a group over; the cluster it frees runs a full LBIST to take the spare role for the next
group. -/
def State.handOver (s : State) (k : Fin 16) (c : Fin 17) : State :=
  let old : Fin 17 := Fin.ofNat 17 (s.fget (mapFld k))
  let s1 := ((s.fset (mapFld k) c.val).fset (F.CS_STAT_ROLE c) 0).fset F.CS_SPARE_SPARE old.val
  let s2 := { s1 with spare := { s1.spare with rotReq := false, taking := true } }
  ((s2.fset F.CS_SPARE_SHGRP (k.val + 1)).fset (F.CS_STAT_COVER old) 0).startLbist old

/-- SPARE_TAKEOVER (R202): at t4 the spare's duties are released, and BRIDGE channels return to RUN. -/
def execSpareTakeover (s : State) : Host.Outcome State Fault Refusal :=
  match s.spare.bridge, s.spareCl with
  | some k, some c =>
    let s1 := s.each (groupChans k) fun n t => if t.chState n = stBRIDGE then t.fset (F.CH_STATE_STATE n) stRUN else t
    let old : Fin 17 := Fin.ofNat 17 (s.fget (mapFld k))
    let s2 := { s1 with spare := { s1.spare with bridge := none, displaced := s1.spare.displaced.set old true } }
    .next ((s2.handOver k c).incSat F.CS_SPARE_TAKEOVERS)
  | _, _ => .next s

/-- R205: the rotation timer has run its 10 minutes, or ROTNOW was written. -/
def State.rotDue (s : State) : Bool :=
  s.spare.rotReq || (s.flag F.CS_CTL_ROTEN && decide (600 * sec ≤ s.spare.rotN))

/-- R204: the spare may serve channels: no takeover has displaced it since the power-on reset. -/
def State.mayServe (s : State) (c : Fin 17) : Bool := !s.spare.displaced[c]

/-- SPARE_ROTATION (R204, R205, R207): a planned handover at a boundary, not one at which a mismatch was acted on. -/
def execSpareRotation (s : State) : Host.Outcome State Fault Refusal :=
  match s.spareCl with
  | some c =>
    if s.rotDue ∧ s.spareFresh ∧ s.shadowing ∧ s.spare.shadowed ∧ s.spare.mism = none ∧ s.spare.bridge = none ∧
        s.spare.mismAt ≠ some s.ctr ∧ s.mayServe c ∧ ¬ s.flag F.CS_SPARE_ROTSTOP then .next (s.handOver s.spareGroup c)
    else .next s
  | none => .next s

/-- ROTNOW (R205, R209). -/
def State.rotNow (s : State) : State := { s with spare := { s.spare with rotReq := true } }.answer stOk

/-- ROTNOW (R205). -/
def execRotnow (s : State) : Host.Outcome State Fault Refusal := .next s.rotNow

/-- R204, R209: retire a cluster if it holds the spare role, otherwise busy status. From t2 to t4 of a takeover no cluster holds it
(notes/assumptions/168.md). -/
def State.retGo (s : State) (k : Nat) : State :=
  match s.spareCl with
  | some c => if c.val = k ∧ s.spare.bridge = none then (s.retire c).answer stOk else s.answer stBusy
  | none => s.answer stBusy

/-- RETGO (R204, R209). -/
def execRetgo (k : Fin 32) (s : State) : Host.Outcome State Fault Refusal := .next (s.retGo k.val)

/-- R200, R201: a mismatch the spare finds in a channel's slot: only in the group it shadows, not in the period of a slice, and not
while a handover is under way. -/
def State.noteMismatch (s : State) (n : Fin 128) : State :=
  if s.shadowing ∧ s.spareGroup = groupOf n ∧ s.spare.bridge = none ∧ s.spare.slicing = false then
    { s with spare := { s.spare with mism := some (groupOf n) } }
  else s

/-- R202, R204: a spare that was fresh when the period began, and may serve, takes the group over. -/
def State.takesOver (s : State) : Bool := s.spare.fresh0 && s.spareCl.any s.mayServe

/-- R202, R203, R204: what the boundary after a mismatch does: with a fresh spare every duty of the group is held and RUN
channels enter BRIDGE; with one that is stale, or that may not serve (notes/assumptions/167.md), the group's channels park with CLU. -/
def State.mismBoundary (s : State) : State :=
  match s.spare.mism with
  | none => s
  | some k =>
    let old : Fin 17 := Fin.ofNat 17 (s.fget (mapFld k))
    let s0 := { s with spare := { s.spare with mism := none, mismAt := some s.ctr } }.incSat (F.CS_STAT_MISM old)
    let hold := s0.each (groupChans k) fun n t => t.modL n fun l => { l with dutyNext := none }
    if s.takesOver then
      let s1 := hold.each (groupChans k) fun n t => if t.chState n = stRUN then t.fset (F.CH_STATE_STATE n) stBRIDGE else t
      { s1 with spare := { s1.spare with bridge := some k } }.raise 456 1
    else
      let s1 := hold.each (groupChans k) fun n t =>
        let st := t.chState n
        if st = stRUN ∨ st = stSTOP ∨ st = stBRIDGE then t.trip n [12] 0 else t
      s1.raise 457 2

/-- R201, R202, R204–R206: the spare at a boundary: its freshness, ROTLEFT and the rotation timer, the slice of every 50 ms, and the
shelf context's thaw. -/
def State.spareBoundary (s : State) : State :=
  let run := decide (s.pmode = mdRUN ∨ s.pmode = mdSTANDBY)
  let n := if run then s.spare.rotN + tCtl else s.spare.rotN
  let slice := s.shadowing && s.gateOn 13 && decide (s.spare.sliceAt ≤ s.time)
  let s1 := { s with spare := { s.spare with
    rotN := n, shadow1 := s.shadowing, shadowed := s.shadowing && s.spare.shadow1, thaw := false, fresh0 := s.spareFresh,
    slicing := slice, sliceEnd := s.shadowing && (s.spare.sliceEnd || s.spare.slicing),
    sliceAt := if slice then s.time + 50 * ms else s.spare.sliceAt } }
  let s2 := s1.fset F.CS_SPARE_ROTLEFT (60 - min 60 (n / (10 * sec)))
  let s3 := s2.setFlag F.CS_SPARE_FRESH s.spareFresh
  if s.spare.thaw then s3.setFlag F.CS_SPARE_SHFRZ false else s3

/-- CS_STAT.AGE (R209): ms since the last slice of a cluster ended. -/
def State.testAge (s : State) (c : Fin 17) : Nat := match s.spare.ended[c] with
  | some t => min 255 ((s.time - t) / ms)
  | none => 255

end Sys2Proof.Machine
end

