-- ==== Sys2Proof/Machine/Metric.lean ====
section
/-! DEFINITION. Grading metrics (R165–R183): DCIR captures, impedance runs, the slope engine, the OCV regression, the
lifetime counters, and the metric entries they produce. -/

namespace Sys2Proof.Machine

open Sys2Proof

/-- R26, R28: the control path's group delay: a sample is stamped so long after its instant. -/
abbrev ctlDelay : Nat := 15000

/-! DCIR (R156, R170, R171). -/

/-- R170: the number of samples of a capture window. -/
def dcirCount (delay : Nat) : Nat := if delay < 10 then 10 else if delay < 1000 then 100 else 1000

/-- Sums of V and I over the unmarked samples of a window, their number, and the number omitted. -/
def dcirSums (l : List Sample) : Int × Int × Nat × Nat :=
  l.foldl (fun (v, i, n, om) x => if x.rs || x.xs || x.ovr then (v, i, n, om + 1) else (v + x.v, i + x.i, n + 1, om)) (0, 0, 0, 0)

/-- R170: the reference pair of a started step is taken at its start time. -/
def Capture.takeRef (c : Capture) (hist : List Sample) : Capture :=
  match c.ts with
  | some t =>
    if c.ref then c
    else
      let (v, i, n, om) := dcirSums ((hist.filter fun x => decide (x.stamp ≤ t)).take 100)
      { c with ref := true, v0 := v, i0 := i, n0 := n, omit0 := om }
  | none => c

/-- R170: the boundary that latches the capture window's last sample. -/
def Capture.lastAt (c : Capture) : Option Nat := c.ts.map fun t => t + c.delay * ms + tCtl

/-- R171: the capture ends without its window: the step closed before the last sample. -/
def Capture.cut (c : Capture) : Bool := match c.closedAt, c.lastAt with
  | some x, some y => decide (x < y)
  | some _, none => true
  | none, _ => false

/-- R156, R171: the capture's result is due. -/
def Capture.due (c : Capture) (now : Nat) : Bool :=
  c.cut || (match c.lastAt with
    | some t => decide (t ≤ now)
    | none => false)

/-- R171: one result: DCIR or the marker, DV, DI, CH_DCST without DELAY. What the windows do not give is free
(notes/assumptions/5.md). -/
def State.dcirValue (s : State) (n : Fin 128) (c : Capture) : Word × Word × Word × Nat :=
  let w := dcirCount c.delay
  let t1 := c.lastAt.getD 0
  let (v1, i1, n1, om1) := dcirSums (((s.lane1 n).m.hist.filter fun x => decide (x.stamp ≤ t1 ∧ c.ts.getD 0 < x.stamp)).take w)
  if c.cut then (badMark, s.freeWord, s.freeWord, 8)
  else if c.n0 = 0 ∨ n1 = 0 then (badMark, s.freeWord, s.freeWord, 4)
  else
    let d : Nat := c.n0 * n1
    let dv := v1 * c.n0 - c.v0 * n1
    let di := i1 * c.n0 - c.i0 * n1
    let low := decide (di.natAbs < s.fget (F.CH_DCCFG_DIMIN n) * 1000 * d)
    let ex := decide (100 < 4 * c.omit0 ∨ w < 4 * om1)
    let r := if 0 < di then ndiv (dv * 1000000) di.natAbs else ndiv (-dv * 1000000) di.natAbs
    let ok := !low && !ex
    (if ok then wordOf r else badMark, wordOf (rdiv 171 dv d), wordOf (rdiv 171 di d),
      ok.toNat + low.toNat * 2 + ex.toNat * 4)

/-- R156, R171, R181: a capture's result is delivered. -/
def State.dcirDeliver (s : State) (n : Fin 128) (c : Capture) : State :=
  let (r, dv, di, st) := s.dcirValue n c
  let s1 := ((s.fresh.modX n fun x => { x with g := x.g.set c.dest r }).setWord (.CH_DCIR n) r)
  let s2 := (s1.setWord (.CH_DCDV n) dv).setWord (.CH_DCDI n) di
  let s3 := s2.setWord (.CH_DCST n) (BitVec.ofNat 32 (c.delay + st * 2 ^ 16))
  s3.metricEntry n 1 c.seq ((c.ts.getD (c.closedAt.getD s.ctr)) + c.delay * ms) r dv di (s3.word (.CH_DCST n)) (BitVec.ofNat 32 c.delay)

/-- R156: every due capture of a channel, in order. -/
def State.dcirReady (s : State) (n : Fin 128) : State :=
  let caps := (s.lane1 n).k.caps
  let due := caps.filter fun c => c.due s.ctr
  let s1 := s.modK n fun k => { k with caps := caps.filter fun c => !c.due s.ctr }
  s1.each due fun c t => t.dcirDeliver n c

/-- DCIR_CAPTURE (R156, R170, R171): the results due are written before the slot's instructions. -/
def execDcirCapture (n : Fin 128) (s : State) : Host.Outcome State Fault Refusal :=
  if s.live (.chan n) then .next (s.dcirReady n) else .next s

/-! Impedance (R174, R175). -/

/-- R175: what the period that ends at a boundary shows of the run: a voltage clamp that acted, a SWAP. -/
def EisRun.note (e : EisRun) (t : Nat) (clamp calsw : Bool) : EisRun :=
  if e.ts.isSome ∧ e.from_ < t ∧ t ≤ e.until_ then { e with clamp := e.clamp || clamp, calsw := e.calsw || calsw } else e

/-- R174: a sample of the run's path taken in, at a counter time. -/
def EisRun.take (e : EisRun) (t : Nat) (x : Sample) : EisRun :=
  match e.ts with
  | none => e
  | some _ =>
    if e.from_ < t ∧ t ≤ e.until_ then
      let e1 := { e with seen := e.seen + 1, last := t }
      if x.rs || x.xs || x.ovr then { e1 with omitted := e.omitted + 1, ovr := e.ovr || x.ovr }
      else { e1 with vs := e.vs ++ [(t, x.v)], is_ := e.is_ ++ [(t, x.i)] }
    else e

/-- R174: Z of two fitted phasors (xs + j xc) in µΩ; none where one cannot be fitted or the current's vanishes. -/
def zOf (v i : Fit) : Option (Int × Int) :=
  let d := v.det * (i.xs * i.xs + i.xc * i.xc)
  let q (num : Int) : Int := if 0 < d then ndiv (num * i.det * 1000000) d.natAbs else ndiv (-num * i.det * 1000000) d.natAbs
  if d = 0 ∨ i.det = 0 then none
  else some (q (v.xs * i.xs + v.xc * i.xc), q (v.xc * i.xs - v.xs * i.xc))

/-- R174: the squared modulus of a fitted phasor, over the square of its determinant. -/
def Fit.sq (f : Fit) : Nat := ((f.xs * f.xs + f.xc * f.xc) * 2 ^ 80).natAbs

/-- R174: |I| of a fitted phasor, to the nearest unit of its samples. -/
def Fit.modulus (f : Fit) : Nat := sqrtNear f.sq (f.det.natAbs * f.det.natAbs)

/-- R175: |I phasor| is below 5 % of a range's full scale over a gang. -/
def Fit.under (f : Fit) (r rshunt size : Nat) : Bool :=
  let k := rshunt * 100
  let top := 5 * rangeTop r * size
  decide (f.sq * k * k < top * top * (f.det.natAbs * f.det.natAbs))

/-- R175: what a finished run writes: the result registers and the program's ra and rb, with the run over, the channel's wait ended
and the metric entry on its way. -/
def State.eisWrite (s : State) (n : Fin 128) (e : EisRun) (re im : Word) (ia q : Nat) : State :=
  let s1 := (s.freshN 3).modX n fun x => { x with g := (x.g.set e.ra re).set e.rb im }
  let s2 := (s1.modK n fun k => { k with eis := none }).suspend (.chan n) .none
  let s3 := ((s2.setWord (.CH_EIS_F n) (BitVec.ofNat 32 e.freq)).setWord (.CH_EIS_RE n) re).setWord (.CH_EIS_IM n) im
  let s4 := (s3.setWord (.CH_EIS_IA n) (BitVec.ofNat 32 ia)).setWord (.CH_EIS_Q n) (BitVec.ofNat 32 q)
  s4.metricEntry n 2 (s4.lane1 n).x.seqNext e.last re im (BitVec.ofNat 32 ia) (BitVec.ofNat 32 q) (BitVec.ofNat 32 e.freq)

/-- R174, R175, R157: the run's results. -/
def State.eisDeliver (s : State) (n : Fin 128) (e : EisRun) : State :=
  let ts := e.ts.getD 0
  let v := phasorFit e.freq ts e.vs
  let i := phasorFit e.freq ts e.is_
  let ok := decide (4 * e.omitted ≤ e.seen)
  let ia := i.modulus
  let snrv := v.snr.getD (bitsOf (Config.freeWord (s.free + 2)) 0 8)
  let snri := i.snr.getD (bitsOf (Config.freeWord (s.free + 2)) 8 8)
  let low := i.under (s.fget (F.CH_MSTAT_IRANGE n)) (s.lane1 n).m.rshunt (s.gangSize n) || decide (i.snr.getD 0 < 20)
  let (re, im) : Word × Word := if ok then (match zOf v i with
      | some z => (wordOf z.1, wordOf z.2)
      | none => (s.freeWord, Config.freeWord (s.free + 1))) else (badMark, badMark)
  let q := e.quality snrv snri low ok
  s.eisWrite n e re im ia q

/-- R26, R28: how long after its instant a sample of the run's path comes. -/
def EisRun.lag (e : EisRun) : Nat := if e.met then metDelay else ctlDelay

/-- R157: a run whose step has started but which is not bound yet, is; a run whose interval's last sample has come is delivered. -/
def State.eisReady (s : State) (n : Fin 128) : State :=
  match (s.lane1 n).k.eis with
  | none => s
  | some e => match e.ts with
    | some _ => if e.until_ + e.lag ≤ s.ctr then s.eisDeliver n e else s
    | none => match ((s.lane1 n).x.step.bind fun st => st.start) with
      | some t => s.modK n fun k => { k with eis := some (e.bind t s.ctr) }
      | none => s

/-- EIS_LOCKIN_DONE (R157, R174, R175). -/
def execEisLockinDone (n : Fin 128) (s : State) : Host.Outcome State Fault Refusal := .next (s.eisReady n)

/-! The slope engine (R172). -/

/-- R172: the window of the armed ARMDV, or 1,000 ms; ns. -/
def State.dvWindow (s : State) (n : Fin 128) : Nat := match (s.lane1 n).x.arms.dvdt with
  | some (_, _, w) => w * ms
  | none => sec

/-- R172: the least-squares slope of a window in µV per s, of sums over times in ns and voltages in 10 nV. -/
def dvSlope (n : Nat) (st sv stt stv : Int) : Option Int :=
  let d := n * stt - st * st
  if d = 0 then none else some (rdiv 172 ((n * stv - st * sv) * 10000000) d.natAbs)

/-- R172: a metrology voltage (10 nV) at its stamp enters the window in progress; a window that has ended gives its result,
ready 1 ms later, if at least 90 % of its samples are unmarked. -/
def ChMetric.dvTake (k : ChMetric) (win t : Nat) (v : Int) (marked : Bool) : ChMetric :=
  if t ≤ k.dvFrom then k
  else
    let close := decide (k.dvFrom + win < t)
    let k1 := if close then
        let res := if k.dvSeen * 9 ≤ k.dvN * 10 ∧ k.dvN ≠ 0 then dvSlope k.dvN k.dvSt k.dvSv k.dvStt k.dvStv else none
        { k with dvFrom := k.dvFrom + win, dvReady := some (k.dvFrom + win + ms, res), dvEnd := k.dvLast, dvN := 0, dvSeen := 0, dvSt := 0,
                 dvSv := 0, dvStt := 0, dvStv := 0 }
      else k
    let x : Int := t - k1.dvFrom
    if marked then { k1 with dvSeen := k1.dvSeen + 1, dvLast := t }
    else { k1 with dvSeen := k1.dvSeen + 1, dvN := k1.dvN + 1, dvSt := k1.dvSt + x, dvSv := k1.dvSv + v,
                   dvStt := k1.dvStt + x * x, dvStv := k1.dvStv + x * v, dvLast := t }

/-- DVDT_WINDOW_RESULT (R172): port 7 and CH_DVDT take a ready result, and the arm may compare it. -/
def execDvdtWindowResult (n : Fin 128) (s : State) : Host.Outcome State Fault Refusal :=
  match (s.lane1 n).k.dvReady with
  | some (t, r) =>
    if t ≤ s.ctr then
      let s1 := s.modK n fun k => { k with dvReady := none }
      match r with
      | some v => .next (((s1.modK n fun k => { k with slope := v }).modX n fun x => { x with dvNew := true }).setWord (.CH_DVDT n) (wordOf v))
      | none => .next s1
    else .next s
  | none => .next s

/-! The OCV regression (R177–R179). -/

/-- R178: one more sample: its stamp and voltage in 10 nV. -/
def Ocv.take (o : Ocv) (t : Nat) (v : Int) : Ocv :=
  let o := if o.n = 0 then { o with t0 := t, v0 := v } else o
  let x : Int := t - o.t0
  let y := v - o.v0
  { o with n := o.n + 1, tLast := t, st := o.st + x, sv := o.sv + y, stt := o.stt + x * x, stv := o.stv + x * y,
           svv := o.svv + y * y }

/-- R178: slope and standard error in nV/h; none below three samples. -/
def Ocv.fit (o : Ocv) : Option (Int × Nat) :=
  let a := o.n * o.stt - o.st * o.st
  let b := o.n * o.stv - o.st * o.sv
  let c := o.n * o.svv - o.sv * o.sv
  if o.n < 3 ∨ a = 0 then none
  else some (ndiv (b * 36000000000000) a.natAbs,
    sqrtNear (1296000000000000000000000000 * (c * a - b * b).natAbs) (a.natAbs * a.natAbs * (o.n - 2)))

/-- R178: v_end in µV. -/
def Ocv.vEnd (o : Ocv) : Int :=
  let a := o.n * o.stt - o.st * o.st
  let b := o.n * o.stv - o.st * o.sv
  if a = 0 then rdiv 178 (o.v0 * o.n + o.sv) (o.n * 100)
  else rdiv 178 (o.v0 * o.n * a + o.sv * a + b * (o.n * ((o.tLast : Int) - o.t0) - o.st)) (o.n * a.natAbs * 100)

/-- R178, R183: the result registers of a regression. -/
def State.ocvShow (s : State) (n : Fin 128) (o : Ocv) : State :=
  let (sl, se) : Word × Word := match o.fit with
    | some (x, e) => (wordOf x, BitVec.ofNat 32 e)
    | none => (badMark, badMark)
  let s1 := ((s.setWord (.CH_OCVSLOPE n) sl).setWord (.CH_OCVSE n) se).setWord (.CH_OCVN n) (BitVec.ofNat 32 o.n)
  (s1.setWord (.CH_OCVDUR n) (BitVec.ofNat 32 ((o.tLast - o.t0) / sec))).setWord (.CH_OCVV0 n) (wordOf o.vEnd)

/-- R177–R179, R182: an aging sample (10 nV) with its stamp is offered to the regression of the channel's open REST step, or of one that
closed at or after that stamp. -/
def State.ocvSample (s : State) (n : Fin 128) (t : Nat) (v : Int) (bad blend : Bool) : State :=
  let o := (s.lane1 n).k.ocv
  if (s.flag (F.CH_OCVCTL_ACTIVE n) ∨ (o.postDue ∧ t ≤ o.closeAt)) ∧ ¬ bad ∧ o.from_ + o.skip * 60 * sec ≤ t then
    let o1 := o.take t v
    let s1 := (s.modK n fun k => { k with ocv := o1 }).ocvShow n o1
    if blend then s1.setFlag (F.CH_OCVST_BLEND n) true else s1
  else s

/-- R179: the spread of CH_T over the regression, in 0.01 °C. -/
def State.ocvTemp (s : State) (n : Fin 128) : State :=
  if s.flag (F.CH_OCVCTL_ACTIVE n) then
    let t := sword (s.word (.CH_T n))
    let o := (s.lane1 n).k.ocv
    let lo := min t (o.tLo.getD t)
    let hi := max t (o.tHi.getD t)
    (s.modK n fun k => { k with ocv := { o with tLo := some lo, tHi := some hi } }).fset (F.CH_OCVST_TSPAN n)
      (min 65535 (rdiv 179 (hi - lo) 10).toNat)
  else s

/-- REGRESSION_POST (R178): every 600 s in RUN or STANDBY, and for the close of the REST step, once its last sample can have come. -/
def execRegressionPost (n : Fin 128) (s : State) : Host.Outcome State Fault Refusal :=
  let o := (s.lane1 n).k.ocv
  let periodic := s.flag (F.CH_OCVCTL_ACTIVE n) && decide (s.pmode = mdRUN ∨ s.pmode = mdSTANDBY)
    && decide (o.lastPost + 600 * sec ≤ s.ctr)
  if (o.postDue ∧ o.closeAt + metDelay < s.ctr) ∨ periodic then .next (s.ocvPost n) else .next s

/-- R28: the mean of the second's metrology samples, 10 nV. -/
def ChMeas.secMean (m : ChMeas) : Option Int := if m.secN = 0 then none else some (rdiv 28 m.secSum m.secN)

/-- AGING_SAMPLE (R28, R177): the whole second of the last metrology sample ends; the mean of its samples is the aging
sample. -/
def execAgingSample (s : State) : Host.Outcome State Fault Refusal :=
  .next (s.each chans fun n t =>
    let m := (t.lane1 n).m
    match m.secMean with
    | some v =>
      if m.ms.stamp % sec = 0 then
        (t.modM n fun m => { m with aging := some v, agAt := m.ms.stamp, secSum := 0, secN := 0, secBad := 0, secBlend := false }).ocvSample n m.ms.stamp v
          (decide (m.secBad ≠ 0)) m.secBlend
      else t
    | none => t)

/-! The lifetime counters (R165–R167). -/

/-- R165, R166: one increment of a lane's lifetime counters: dt in ns of a sample. CH_AH counts 1 nAs = 10^6 µA·ns, CH_WH
1 nJ = 10^12 µV·µA·ns. -/
def State.countLife (s : State) (n : Fin 128) (v i : Int) (dt : Nat) : State :=
  let k := (s.lane1 n).k
  let q := k.ahAcc + i * dt
  let e := k.whAcc + v * i * dt
  let ah := (signedOf 64 (s.word64 (.CH_AH n) (.CH_AHH n)) + q / 1000000) % 2 ^ 64
  let wh := (signedOf 64 (s.word64 (.CH_WH n) (.CH_WHH n)) + e / 1000000000000) % 2 ^ 64
  let s1 := s.modK n fun k => { k with ahAcc := q % 1000000, whAcc := e % 1000000000000 }
  (s1.setWord64 (.CH_AH n) (.CH_AHH n) ah.toNat).setWord64 (.CH_WH n) (.CH_WHH n) wh.toNat

/-- R167: a host write of a counter; its fraction is cleared. -/
def State.counterWrite (s : State) (n : Fin 128) (energy : Bool) (val : Nat) : State :=
  let s1 := s.modK n fun k => if energy then { k with whAcc := 0 } else { k with ahAcc := 0 }
  (if energy then s1.setWord64 (.CH_WH n) (.CH_WHH n) val else s1.setWord64 (.CH_AH n) (.CH_AHH n) val).answer stOk

/-- COUNTER_WRITE (R167, R8). -/
def execCounterWrite (n : Fin 128) (energy : Bool) (val : BitVec 64) (s : State) : Host.Outcome State Fault Refusal :=
  .next (s.counterWrite n energy val.toNat)

end Sys2Proof.Machine
end

