-- ==== Sys2Proof/Machine/Slot.lean ====
section
/-! DEFINITION. The slot of a context (R119): arm evaluation (R122–R124, R173, R221), the stop of a channel, gaps (R126),
words, the loop computation and the ledger's contribution (R210, R211); CHANNEL_SLOT, GAP_HOLD, DEGRADE_EXPIRY and
WAIT_TIMED_EXPIRY. -/

namespace Sys2Proof.Machine

open Sys2Proof

/-! Arms. -/

/-- R173: Σ I and the number of the last 100 unmarked control samples. -/
def State.tapSum (s : State) (n : Fin 128) : Int × Nat :=
  let l := (s.lane1 n).m.tapI
  (l.foldl (· + ·) 0, l.length)

/-- R216: the scale of a channel's class and direction is below 1. -/
def State.throttled (s : State) (n : Fin 128) : Bool := decide (s.scaleCode n (s.lane1 n).l.iref ≠ 0xFFFF)

/-- R173: the taper count of the period that now ends, and whether it closes the step. -/
def State.tapCount (s : State) (n : Fin 128) (lo hi hold count : Nat) : Nat × Bool :=
  let (sum, k) := s.tapSum n
  let inside := decide (k ≠ 0 ∧ lo * k ≤ sum.natAbs ∧ sum.natAbs ≤ hi * k)
  if ¬ s.flag (F.CH_MODE_CVPH n) ∨ ¬ inside then (0, false)
  else if s.throttled n ∨ s.flag (F.CH_FUSEST_BKON n) ∨ s.flag (F.CH_STATE_SS n) then (count, false)
  else
    let c := if count < hold then count + 1 else count
    (c, decide (hold ≤ c))

/-- What the evaluation of an arm set answers: the counts, SAT (R127) and the time arm. -/
structure ArmOut where
  arms : Arms
  sat : Nat
  time : Bool
  deriving DecidableEq, Repr

/-- R122, R123: the arms of an open step against the samples latched at the opening boundary. With `all` off only the time arm
is evaluated (R331). -/
def State.armsEval (s : State) (n : Fin 128) (st : OpenStep) (all : Bool) : ArmOut :=
  let x := (s.lane1 n).x
  let r := x.arms
  let time := st.timeUp r s.ctr
  if all = false then { arms := r, sat := time.toNat, time := time }
  else
    let v := s.volt n
    let i := (s.curr n).natAbs
    let t := sword (s.word (.CH_T n))
    let vHit := r.volt.any fun p => if p.1 then decide (v ≤ p.2) else decide (p.2 ≤ v)
    let iHit := r.curr.any fun p => if p.1 then decide (i ≤ p.2) else decide (p.2 ≤ i)
    let vN := if vHit then r.voltN + 1 else 0
    let iN := if iHit then r.currN + 1 else 0
    let (tN, tap) := match r.tap with
      | some (lo, hi, hold) => s.tapCount n lo hi hold r.tapN
      | none => (0, false)
    let (q, e) := st.counted r
    let d := x.dvNew && r.dvdt.any fun p => if p.1 then decide ((s.lane1 n).k.slope ≤ p.2.1) else decide (p.2.1 ≤ (s.lane1 n).k.slope)
    let flt := s.flag (F.CH_MSTAT_TSFLT n)
    let tc := r.temp.any fun p => flt || (x.tNew && (if p.1 then decide (t ≤ p.2) else decide (p.2 ≤ t)))
    let lt := x.tNew && x.limt.any fun p => decide (p < t) || (flt && s.effFlag (F.CH_LIM_T_TSEN n))
    { arms := { r with voltN := vN, currN := iN, tapN := tN }, time := time,
      sat := time.toNat + (decide (4 ≤ vN)).toNat * 2 + (decide (4 ≤ iN)).toNat * 4 + tap.toNat * 8 + q.toNat * 16 + e.toNat * 32
        + d.toNat * 64 + (tc || lt).toNat * 128 }

/-- R124: the lowest code of the satisfied arms other than time. -/
def lowestArm (sat : Nat) : Option Nat := ([2, 3, 4, 5, 6, 7, 8].find? fun k => sat / 2 ^ (k - 1) % 2 = 1)

/-- R221: does the period count toward the degrade rule? -/
def State.degCounts (s : State) (n : Fin 128) (st : OpenStep) : Bool :=
  decide (st.mode ≠ 8) &&
    decide (s.eff F.LG_DEGRADE_PCT_PCT * 65536 < (65536 - scaleFactor (s.scaleCode n (s.lane1 n).l.iref)) * 100)

/-- R221: the count that satisfies the degrade arm. -/
def State.degLimit (s : State) : Nat := s.eff F.LG_DEGRADE_S_S * 100000

/-- R221: a complete degrade count: TERM 11 if it is armed, else the event, once per step. -/
def State.degExpire (s : State) (n : Fin 128) (sat : Nat) (time : Bool) : State :=
  match (s.lane1 n).x.step with
  | none => s
  | some st =>
    if (s.lane1 n).x.arms.deg then s.closeStep n 11 0 sat time s.ctr
    else if st.degDone then s
    else (s.modX n fun x => { x with step := some { st with degDone := true } }).raise (2 * n.val + 1) 0

/-- DEGRADE_EXPIRY (R221, R124): not where a stop or an arm of a lower code closes the step in this slot. -/
def execDegradeExpiry (n : Fin 128) (s : State) : Host.Outcome State Fault Refusal :=
  let (sat, tm) := s.satNow n s.ctr
  match (s.lane1 n).x.step with
  | some st =>
    if s.live (.chan n) ∧ s.degLimit ≤ st.deg ∧ (s.lane1 n).x.stopPend = none ∧ lowestArm sat = none then .next (s.degExpire n sat tm)
    else .next s
  | none => .next s

/-- R127: the stamp of the sample that satisfied an arm: the last of a dV/dt window, the housekeeping result, else the boundary's. -/
def State.armStamp (s : State) (n : Fin 128) (k : Nat) : Nat :=
  if k = 7 then (s.lane1 n).k.dvEnd
  else if k = 8 ∧ (s.lane1 n).x.tNew then (s.lane1 n).x.tAt
  else s.ctr

/-- R119, R313: the words a slot may execute, by the cluster clock level. -/
def State.wordBudget (s : State) : Nat := match s.fget F.CK_PLLSTAT_LEVEL with
  | 0 => 10
  | 1 => 5
  | _ => 2

/-- R157, R164: a stop that ends an impedance run: the words of the closing slot run before the channel enters STOP (the model's
reading: notes/assumptions/163.md). -/
def State.resumed (s : State) (n : Fin 128) (was : Susp) : State :=
  if was = .eisrun then State.runWords s.wordBudget s (.chan n) else s

/-- R122, R124, R134: the arms of the open step, the stop request, and the close they lead to. -/
def State.armsClose (s : State) (n : Fin 128) (all : Bool) : State :=
  let x := (s.lane1 n).x
  match x.step with
  | none => match x.stopPend with
    | some src => (s.dropCaps n).enterStop n src 0 false
    | none => s
  | some st =>
    let start := st.start.filter fun t => decide (t ≤ s.ctr)
    let o := s.armsEval n st all
    let deg := if start.isSome ∧ s.degCounts n st then st.deg + 1 else 0
    let s1 := s.modX n fun x =>
      { x with arms := o.arms, step := some { st with deg := deg }, dvNew := if all then false else x.dvNew,
               tNew := if all then false else x.tNew }
    match x.stopPend with
    | some src => (((s1.closeStep n 9 src o.sat o.time s.ctr).dropCaps n).resumed n x.susp).enterStop n src o.sat o.time
    | none =>
      match lowestArm o.sat with
      | some k => s1.closeStep n k 0 o.sat o.time (s.armStamp n k)
      | none =>
        if s.degLimit ≤ deg ∧ x.arms.deg then s1.closeStep n 11 0 o.sat o.time s.ctr
        else if o.time then s1.closeStep n 1 0 o.sat true s.ctr
        else if s.degLimit ≤ deg then s1.degExpire n o.sat o.time
        else s1

/-! Waits and gaps. -/

/-- R151: a timed WAIT whose time has come. -/
def State.timedReady (s : State) (c : Ctx) : State := match s.susp c with
  | .timed t => if t ≤ s.ctr then s.suspend c .none else s
  | _ => s

/-- WAIT_TIMED_EXPIRY (R151, R204): not while the shelf context is frozen. -/
def execWaitTimedExpiry (c : Ctx) (s : State) : Host.Outcome State Fault Refusal :=
  if s.live c then .next (s.timedReady c) else .next s

/-- R126: the gap is now longer than two periods: iref slews to 0 and HOLD follows, unless REST or HOLD goes on. -/
def State.gapHold (s : State) (n : Fin 128) : State :=
  let x := (s.lane1 n).x
  if x.step.isNone ∧ 2 ≤ x.gapN ∧ x.gapHold = false ∧ x.lastMode ≠ 8 ∧ x.lastMode ≠ 9 ∧ x.lastMode ≠ 0 then
    ((s.modX n fun x => { x with gapHold := true }).fset (F.CH_MODE_MODE n) 9).setFlag (F.CH_PSTAT_GAP n) true
  else s

/-- GAP_HOLD (R126). -/
def execGapHold (n : Fin 128) (s : State) : Host.Outcome State Fault Refusal :=
  if s.live (.chan n) then .next (s.gapHold n) else .next s

/-- R126: one more slot of a gap. -/
def State.gapSlot (s : State) (n : Fin 128) : State :=
  if (s.lane1 n).x.step.isNone ∧ s.live (.chan n) then
    (s.gapHold n).modX n fun x => { x with gapN := x.gapN + 1 }
  else s

/-! The ledger's contribution (R210, R211). -/

/-- R211: an efficiency point of a channel: k = 0–7, charging or discharging. -/
def State.effPoint (s : State) (n : Fin 128) (dis : Bool) (k : Nat) : Nat :=
  let w : Fin 8 := Fin.ofNat 8 (k / 2 + (if dis then 4 else 0))
  bitsOf ((regFind s.old (.LG_EFF n w)).getD (s.word (.LG_EFF n w))) (16 * (k % 2)) 16

/-- R211: η at a current, as a quotient. -/
def State.effAt (s : State) (n : Fin 128) (i : Int) (dis : Bool) : Nat × Nat :=
  let d := s.ifsTop n
  let x := i.natAbs * (s.lane1 n).m.rshunt * 7
  let k := x / d
  if 7 ≤ k then (s.effPoint n dis 7, 65536)
  else (s.effPoint n dis k * (d - x % d) + s.effPoint n dis (k + 1) * (x % d), d * 65536)

/-- R211: bus-side power, pW, of a cell-side power of a channel at a current share. -/
def State.busSide (s : State) (n : Fin 128) (p i : Int) : Int :=
  let (a, b) := s.effAt n i (decide (p < 0))
  if 0 ≤ p then rdiv 211 (p * b) a else rdiv 211 (p * a) b

/-- R210: what a channel reports in its slot: its demand, zero unless its loops may run, and its measured power in every state; a
leader reports for its gang. -/
def State.contribute (s : State) (n : Fin 128) : State :=
  let st := s.chState n
  let live := decide (st = stCHECK ∨ st = stRUN ∨ st = stSTOP ∨ st = stBRIDGE)
  let size := s.gangSize n
  let share := rdiv 210 (s.lane1 n).l.iref size
  let v := (s.lane1 n).m.good.v
  let dem := if live && !s.resting n then ((s.gang n).map fun j => s.busSide j (v * share) share).foldl (· + ·) 0 else 0
  let meas := if st = stFOLLOW then 0 else ((s.gang n).map fun j =>
      let i := (s.lane1 j).m.good.i
      s.busSide j (v * i) i).foldl (· + ·) 0
  s.modL n fun l => { l with dem := dem, meas := meas }

/-! The slot. -/

/-- R331: in AGING only the time arms and timed waits run. -/
def State.armsAll (s : State) : Bool := decide (s.pmode ≠ mdAGING)

/-- R324, R331: the clusters run their slots: not in DEEP, and in AGING only during a wake. -/
def State.clustersRun (s : State) : Bool :=
  decide (s.pmode = mdRUN ∨ s.pmode = mdSTANDBY) || (decide (s.pmode = mdAGING) && s.mode.awake)

/-- R127: the ledger scale of one more period of the open step. -/
def State.scaleSlot (s : State) (n : Fin 128) : State :=
  let code := s.scaleCode n (s.lane1 n).l.iref
  s.modX n fun x => { x with step := x.step.map fun st => { st with scaleSum := st.scaleSum + code, scaleN := st.scaleN + 1 } }

/-- R119: one slot of a channel; `all` is whether every arm is evaluated. -/
def State.chanSlot (s : State) (n : Fin 128) (all : Bool) : State :=
  let s1 := if s.live (.chan n) then
      let a := (s.armsClose n all)
      if a.live (.chan n) then
        let b := ((a.dcirReady n).eisReady n).timedReady (.chan n)
        (State.runWords b.wordBudget b (.chan n)).gapSlot n
      else a
    else s
  ((s1.loopSlot n).scaleSlot n).contribute n

/-- R136: one slot of the shelf context. -/
def State.shelfSlot (s : State) : State :=
  if s.live .shelf then State.runWords s.wordBudget (s.timedReady .shelf) .shelf else s

/-- R11: a channel's slot of the present period, if it has not run. -/
def State.dueSlot (s : State) (n : Fin 128) : State :=
  if (s.lane1 n).x.slotDue then (s.modX n fun x => { x with slotDue := false }).chanSlot n s.armsAll else s

/-- R136: the shelf context's slot of the present period, if it has not run. -/
def State.dueShelf (s : State) : State :=
  if s.sh.slotDue then { s with sh := { s.sh with slotDue := false } }.shelfSlot else s

/-- R11: the channels of a group whose slots lie before a channel's. -/
def slotsBefore (n : Fin 128) : List (Fin 128) := (List.range (n.val % 8)).map fun j => Fin.ofNat 128 (n.val / 8 * 8 + j)

/-- R11: the period ends: the slots no command has run yet have run, in channel order, with the spare agreeing. -/
def State.slotsEnd (s : State) : State :=
  if s.clustersRun then (s.each chans fun n t => t.dueSlot n).dueShelf else s

/-- CHANNEL_SLOT (R11, R119, R136, R200, R202, R324): once in a period, after the slots of the channels before it in its group. -/
def execChannelSlot (c : Ctx) (shadow : Shadow) (s : State) : Host.Outcome State Fault Refusal :=
  if s.clustersRun = false then .next s
  else match c with
  | .chan n =>
    if (s.lane1 n).x.slotDue = false then .next s
    else
      let s1 := (s.each (slotsBefore n) fun j t => t.dueSlot j).dueSlot n
      match shadow with
      | .agree => .next s1
      | .differ => .next (s1.noteMismatch n)
  | .shelf => .next s.dueShelf

end Sys2Proof.Machine
end

