-- ==== Sys2Proof/Machine/Program.lean ====
section
/-! DEFINITION. Programs: the step store and its banks (R130–R132), CH_PROG, CS_SHPROG, and starting and stopping a channel or
the shelf program (R133, R134, R136, R140, R141). -/

namespace Sys2Proof.Machine

open Sys2Proof

/-! The step store (R130, R131). -/

/-- Base and end of the step store (R13). -/
abbrev storeBase : Nat := 0x200000
/-- The first address after the step store. -/
abbrev storeEnd : Nat := 0x280000

/-- R131: is the word at a store address inside the region of a context, in its bank in force? -/
def State.inRegion (s : State) (c : Ctx) (addr : Nat) : Bool :=
  let bank := (addr - storeBase) / 0x40000
  let idx := (addr - storeBase) % 0x40000 / 4
  decide (s.bankAct c = bank ∧ s.progBase c ≤ idx ∧ idx < s.progBase c + s.progLen c)

/-- R131: is the word at an address protected: the region of a RUN or STOP channel, or of the running shelf program? -/
def State.storeLocked (s : State) (addr : Nat) : Bool :=
  (chans.any fun n => decide (s.chState n = stRUN ∨ s.chState n = stSTOP) && s.inRegion (.chan n) addr)
    || (s.flag F.CS_SHSTAT_RUN && s.inRegion .shelf addr)

/-- R131: a host write of words to the store: whole, or refused whole. -/
def State.storeWrite (s : State) (addr : Nat) (vals : List Word) : State :=
  if addr % 4 ≠ 0 ∨ addr < storeBase ∨ storeEnd < addr + 4 * vals.length then s.answer stAddress
  else if (List.range vals.length).any fun k => s.storeLocked (addr + 4 * k) then s.answer stBusy
  else (s.putBytes addr (vals.flatMap bytesOf)).answer stOk

/-- STEP_STORE_WRITE (R131). -/
def execStepStoreWrite (addr : Nat) (vals : List Word) (s : State) : Host.Outcome State Fault Refusal :=
  .next (s.storeWrite addr vals)

/-! CH_PROG and CS_SHPROG (R132, R140, R141). -/

/-- R140: a region that runs past the store. -/
def progReserved (val : Word) : Bool := decide (65536 < bitsOf val 0 16 + bitsOf val 16 12 * 16)

/-- R132, R140, R6: a write of a program register: BASE and LEN only while the context is stopped; BANK waits for the
boundary, which sets SWPEND. -/
def State.progWriteReg (s : State) (r : Reg) (stopped : Bool) (val : Word) : State :=
  let w := s.word r
  let same := decide (bitsOf val 0 28 = bitsOf w 0 28)
  let bank := putBits w 28 1 (bitsOf val 28 1)
  if stopped ∨ same then
    if progReserved val then (s.setWord r bank).answer stReserved
    else (s.setWord r (putBits bank 0 28 (bitsOf val 0 28))).answer stOk
  else s.answer stBusy

/-- PROG_WRITE (R132, R140, R6). -/
def execProgWrite (n : Fin 128) (val : Word) (s : State) : Host.Outcome State Fault Refusal :=
  .next (s.progWriteReg (.CH_PROG n) (decide (s.chState n = stPARKED)) val)

/-- R132: a boundary shows a bank swap that waits. -/
def State.bankBoundary (s : State) : State :=
  let s1 := s.each chans fun n t => t.setFlag (F.CH_PROG_SWPEND n) (t.flag (F.CH_PROG_BANK n) != t.flag (F.CH_PROG_ACT n))
  s1.setFlag F.CS_SHPROG_SWPEND (s1.flag F.CS_SHPROG_BANK != s1.flag F.CS_SHPROG_ACT)

/-! Host start and stop (R133, R134). -/

/-- R197: an adoption of the channel has been requested and is not in force. -/
def State.adoptWaits (s : State) (n : Fin 128) : Bool :=
  s.flag F.LN_ADOPT_EN && decide (s.fget F.LN_ADOPT_CH = n.val) && !s.flag F.LN_ADOPT_ACT

/-- R133: what is judged at the write of START. A refused return to RUN (R328) and a DIV that waits (R63) answer busy. -/
def State.hostStart (s : State) (n : Fin 128) : State :=
  if s.chState n ≠ stPARKED ∨ s.flag (F.CH_GANG_MEMBER n) then s.answer stBusy
  else if s.fget (F.CH_PROG_LEN n) = 0 then s.answer stReserved
  else if s.adoptWaits n ∨ s.flag F.GL_MODE_REFUSED ∨ s.divPending then s.answer stBusy
  else (s.modX n fun x => { x with startPend := true }).answer stOk

/-- R134: CH_CMD.STOP: taken in the channel's slot, or at the boundary while in CHECK. -/
def State.hostStop (s : State) (n : Fin 128) : State :=
  let st := s.chState n
  if st = stRUN ∨ st = stBRIDGE ∨ (st = stCHECK ∧ ¬ s.flag (F.CH_GANG_MEMBER n)) then
    (s.modX n fun x => { x with stopPend := some (x.stopPend.getD 1) }).answer stOk
  else (s.modX n fun x => { x with startPend := false }).answer stOk

/-- HOST_START (R133). -/
def execHostStart (n : Fin 128) (s : State) : Host.Outcome State Fault Refusal := .next (s.hostStart n)

/-- HOST_STOP (R134). -/
def execHostStop (n : Fin 128) (s : State) : Host.Outcome State Fault Refusal := .next (s.hostStop n)

/-- R18, R435: is the card of a channel present? -/
def State.cardIn (s : State) (n : Fin 128) : Bool := s.flag ⟨.GL_CARD, n.val / 8, 1⟩

/-- R133: the conditions judged at the boundary. -/
def State.startRefused (s : State) (n : Fin 128) : Bool :=
  let g := s.gang n
  decide (s.shelf ≠ shSERVICE) || g.any (fun j => s.faulted j || s.flag (F.CH_MSTAT_UNCAL j) || !s.cardIn j)
    || (g.drop 1).any (fun j => decide (s.chState j ≠ stFOLLOW ∧ s.chState j ≠ stPARKED))

/-- R133, R149, R118: the context of an accepted start: parameters in g0–g15 are kept. -/
def State.startContext (s : State) (n : Fin 128) : State :=
  let s1 := s.modX n fun x =>
    { g := x.g, gB := x.gB, recQ := x.recQ, lastVEmit := x.lastVEmit, fresh := true, limi := s.imax n }
  let s2 := s1.modK n fun k => { k with capsNext := [], caps := [], eis := none }
  let s3 := (s2.setFlags (.chan n) 0).setStack (.chan n) []
  let s4 := ((s3.fset (F.CH_PSTAT_PFLT n) 0).fset (F.CH_PSTAT_CLASS n) 3).setPc (.chan n) (s.progBase (.chan n))
  let s5 := (s4.setFlag (F.CH_PROG_ACT n) (s.flag (F.CH_PROG_BANK n))).setFlag (F.CH_PROG_SWPEND n) false
  (((s5.fset (F.CH_PCNT_USER n) 0).setFlag (F.CH_PSTAT_STEP n) false).setFlag (F.CH_PSTAT_WAITING n) false).setFlag
    (F.CH_PSTAT_BARW n) false

/-- R54, R69, R93, R109: what a lane of the gang takes in as it leaves PARKED, and its quiet loops. -/
def State.startLane (s : State) (j : Fin 128) : State :=
  let s1 := (s.leaveParked j).modM j fun m => { m with downN := 0, frozen := none }
  let s2 := s1.modL j fun l => { dutyIn := l.dutyIn, phfit := l.phfit, cycNext := l.cycNext, vsel := some 0 }
  let s3 := s2.modC j fun _ => { ph := .settle, at_ := s.time, cfg := s.word (.CH_CHK j) }
  let s4 := s3.modP j fun p => { p with fltPulses := [], uvN := 0, ssN := 0 }
  s4.ctClamp j

/-- R133, R100: an accepted start: CHECK begins at this boundary; FLT_L low already fails it with code 7. -/
def State.startAccept (s : State) (n : Fin 128) : State :=
  let s1 := (s.startContext n).each (s.gang n) fun j t => t.startLane j
  let s2 := s1.each ((s.gang n).drop 1) fun j t => t.fset (F.CH_STATE_STATE j) stFOLLOW
  let s3 := s2.fset (F.CH_STATE_STATE n) stCHECK
  let s4 := if s.pmode = mdSTANDBY then { s3 with mode := { s3.mode with toRun := true } } else s3
  match (s.gang n).find? fun j => (s.lane1 j).p.fltLow with
  | some j => s4.checkFail j 7
  | none => s4

/-- R133, R73: a start refused at the boundary. -/
def State.startRefuse (s : State) (n : Fin 128) : State :=
  let s1 := s.fset (F.CH_STATE_CHK n) 6
  s1.raise (2 * n.val) 1 (s1.faultPayload n)

/-- R133, R134, R18, R332: what a boundary does with a channel's requests. A start in AGING waits for the exit it
begins. -/
def State.requestBoundary (s : State) (n : Fin 128) : State :=
  let x := (s.lane1 n).x
  if x.stopPend.isSome ∧ s.chState n = stCHECK then s.parkGang n 8 s.ctr
  else if x.startPend then
    if s.pmode = mdAGING then s.beginAgingExit
    else
      let s1 := s.modX n fun x => { x with startPend := false }
      if s1.chState n ≠ stPARKED then s1
      else if s1.startRefused n then s1.startRefuse n
      else s1.startAccept n
  else s

/-! The shelf program (R136, R141). -/

/-- R141, R204: CS_SHCMD.START: busy while running, and with no spare. -/
def State.shelfStart (s : State) : State :=
  if s.flag F.CS_SHSTAT_RUN ∨ s.fget F.CS_SPARE_SST = 0 then s.answer stBusy
  else
    let s1 := (s.setFlags .shelf 0).setStack .shelf []
    let s2 := (s1.setPc .shelf (s.progBase .shelf)).fset F.CS_SHSTAT_PFLT 0
    let s3 := (s2.setFlag F.CS_SHPROG_ACT (s.flag F.CS_SHPROG_BANK)).setFlag F.CS_SHPROG_SWPEND false
    let s4 := { s3 with sh := { s3.sh with susp := .none, ldi := none } }
    (s4.setFlag F.CS_SHSTAT_RUN true).answer stOk

/-- SHELF_START (R136, R141). -/
def execShelfStart (s : State) : Host.Outcome State Fault Refusal := .next s.shelfStart

/-- SHELF_STOP (R141). -/
def execShelfStop (s : State) : Host.Outcome State Fault Refusal := .next (s.stopShelfProgram.answer stOk)

end Sys2Proof.Machine
end

