-- ==== Sys2Proof/Machine/Tray.lean ====
section
/-! DEFINITION. The tray loops AL0–AL15 (R279–R286): the input check, the setpoint, the PID, and the relay auto-tune. -/

namespace Sys2Proof.Machine

open Sys2Proof

/-- Change one loop. -/
def State.modAl (s : State) (k : Fin 16) (g : LoopSt → LoopSt) : State := { s with al := s.al.set k (g s.al[k]) }

/-- The payload of events 376–379: the loop number (R284). -/
def loopPayload (k : Fin 16) : List Byte := [BitVec.ofNat 8 k.val]

/-- R286: the writes of a loop's registers take effect at its next period. -/
def State.alTake (s : State) (k : Fin 16) : State :=
  { s with old := s.old.filter fun e => ¬ (alAt k ((e.1.addr - 0x71000) % 0x40) = some e.1) }

/-- R279: the process value of an averaged code, EU. -/
def State.alPv (s : State) (k : Fin 16) (c : Nat) : Int :=
  s.fgetS (F.AL_INOFF_OFF k) + rdiv 280 (s.fgetS (F.AL_INGAIN_GAIN k) * c) 65536

/-- R281: a setpoint input out of range, or without an edge. -/
def State.spBad (s : State) (k : Fin 16) (inp : LoopIn) : Bool :=
  match s.fget (F.AL_SPSRC_SRC k) with
  | 0 => false
  | 1 => decide (inp.x < 10 ∨ 4085 < inp.x)
  | _ => !inp.edge

/-- R281: the setpoint after a period. A lost or bad input holds it; four good periods end SPLOST. -/
def State.alSetpoint (s : State) (k : Fin 16) (inp : LoopIn) : State :=
  let x := s.al[k]
  let none_ := decide (s.fget (F.AL_SPSRC_SRC k) = 0)
  let bad := s.spBad k inp
  let n := if bad then 0 else x.spGood + 1
  let lost := s.flag (F.AL_STAT_SPLOST k) && !none_ && decide (n < 4)
  let to_ := if none_ then s.fgetS (F.AL_SP_SP k)
    else s.fgetS (F.AL_SPOFF_OFF k) + rdiv 281 (s.fgetS (F.AL_SPGAIN_GAIN k) * inp.x) 65536
  let step : Int := s.fget (F.AL_SPSRC_SPSLEW k)
  let sp := if bad ∨ lost then x.sp else if step = 0 then to_ else x.sp + clampI (to_ - x.sp) (-step) step
  (s.setFlag (F.AL_STAT_SPLOST k) lost).modAl k fun x => { x with sp := sp, spGood := n, spBad := bad }

/-- The error of R280: PV − SP when DIR = 1. -/
def State.alErr (s : State) (k : Fin 16) (pv : Int) : Int :=
  if s.flag (F.AL_CTL_DIR k) then pv - s.al[k].sp else s.al[k].sp - pv

/-- An output written to AL_STAT.OUT. -/
def State.alOut (s : State) (k : Fin 16) (o : Nat) : State := s.fset (F.AL_STAT_OUT k) o

/-- The output clamp of R280. -/
def State.alClamp (s : State) (k : Fin 16) (u : Int) : Nat :=
  (clampI u (s.fget (F.AL_OUT_OMIN k)) (s.fget (F.AL_OUT_OMAX k))).toNat

/-- R280: the integral sum at which the PID gives an output without a step, 2^-16 EU. -/
def trackSum (kp : Nat) (o e : Int) : Int := if kp = 0 then 0 else rdiv 282 (o * 2 ^ 24) kp - e * 65536

/-- R280, R76: the integral sum after a write of KP, such that the output does not change at the write. -/
def alBumpless (x : LoopSt) (kp : Nat) : Int :=
  if x.kp = kp ∨ kp = 0 then x.iSum else rdiv 283 (x.kp * (x.eLast * 65536 + x.iSum)) kp - x.eLast * 65536

/-- R280: the PID of one period. -/
def State.alPid (s : State) (k : Fin 16) (pv : Int) : State :=
  let x := s.al[k]
  let kp := s.fget (F.AL_KP_KP k)
  let i := alBumpless x kp
  let e := s.alErr k pv
  let per := s.fget (F.AL_CFG_PER k)
  let der := rdiv 284 (s.fget (F.AL_TI_TD k) * 100 * (pv - x.pvLast) * 65536) per
  let sum := e * 65536 + i - (if s.flag (F.AL_CTL_DIR k) then -der else der)
  let u := kp * sum
  let ok := decide (s.fget (F.AL_OUT_OMIN k) * 2 ^ 24 ≤ u ∧ u ≤ s.fget (F.AL_OUT_OMAX k) * 2 ^ 24)
  let ti := s.fget (F.AL_TI_TI k)
  let i2 := if ok ∧ ti ≠ 0 then i + rdiv 285 (e * per * 65536) (ti * 100) else i
  let s1 := s.modAl k fun x => { x with iSum := i2, eLast := e, kp := kp, pvLast := pv }
  ((s1.fset (F.AL_STAT_STATE k) 2).setFlag (F.AL_STAT_SAT k) (!ok)).alOut k (s.alClamp k (rdiv 286 u (2 ^ 24)))

/-- R280: manual: the output is AL_MAN, and the sum tracks it. -/
def State.alManual (s : State) (k : Fin 16) (pv : Int) : State :=
  let kp := s.fget (F.AL_KP_KP k)
  let e := s.alErr k pv
  let m := s.fget (F.AL_MAN_MAN k)
  let s1 := s.modAl k fun x => { x with iSum := trackSum kp m e, eLast := e, kp := kp, pvLast := pv }
  ((s1.fset (F.AL_STAT_STATE k) 1).setFlag (F.AL_STAT_SAT k) false).alOut k m

/-- R283: the tune ends with the gains kept: TUNEFAIL and event 378. -/
def State.tuneFail (s : State) (k : Fin 16) : State :=
  ((s.modAl k fun x => { x with tune := none }).setFlag (F.AL_STAT_TUNEFAIL k) true).raise 378 1 (loopPayload k)

/-- R283, R280: the loop goes on in auto from the present output. -/
def State.tuneResume (s : State) (k : Fin 16) : State :=
  let kp := s.fget (F.AL_KP_KP k)
  (s.modAl k fun x => { x with iSum := trackSum kp (s.fget (F.AL_STAT_OUT k)) x.eLast, kp := kp }).fset (F.AL_STAT_STATE k) 2

/-- R282: three bad codes: FAILOUT, STATE 4, event 376; a tune is abandoned. -/
def State.alFail (s : State) (k : Fin 16) : State :=
  let s1 := if s.al[k].tune.isSome then s.tuneFail k else s
  ((s1.fset (F.AL_STAT_STATE k) 4).alOut k (s.fget (F.AL_MAN_FAILOUT k))).raise 376 2 (loopPayload k)

/-- π to twenty digits, over 10^20. -/
abbrev piNum : Nat := 314159265358979323846

/-- R283: two values agree within 5 % (of the larger). -/
def agree5 (a b : Nat) : Bool := decide ((max a b - min a b) * 20 ≤ max a b)

/-- R283: KP in 2^-24 per EU for c/100 of Ku, from two peak-to-peak values in EU: a is a quarter of their sum. -/
def tuneKp (c amp p2p : Nat) : Nat := (rdiv 287 (c * 4096 * amp * 10 ^ 20 : Nat) (p2p * piNum * 100)).toNat

/-- R283: KP, TI and TD by RULE, from ATAMP, twice Tu in ms and the sum of the peak-to-peak values. -/
def tuneGains (rule amp tu2 p2p : Nat) : Nat × Nat × Nat :=
  let q (den : Nat) : Nat := (rdiv 288 tu2 den).toNat
  match rule with
  | 0 => (tuneKp 45 amp p2p, q 240, 0)
  | 1 => (tuneKp 60 amp p2p, q 400, q 1600)
  | _ => (tuneKp 20 amp p2p, q 400, q 600)

/-- R283: a settled tune: the gains are set bumplessly, TUNEOK, event 377. -/
def State.tuneDone (s : State) (k : Fin 16) (p1 p2 : Nat) (a1 a2 : Int) : State :=
  let (kp, ti, td) := tuneGains (s.fget (F.AL_AT_RULE k)) (s.fget (F.AL_AT_ATAMP k)) (p1 + p2) (a1 + a2).toNat
  let s1 := ((s.fset (F.AL_KP_KP k) (min kp (2 ^ 32 - 1))).fset (F.AL_TI_TI k) (min ti 65535)).fset (F.AL_TI_TD k) (min td 65535)
  (((s1.modAl k fun x => { x with tune := none }).setFlag (F.AL_STAT_TUNEOK k) true).tuneResume k).raise 377 0 (loopPayload k)

/-- R283: the side the relay takes for a PV; between the thresholds it stays. -/
def State.relay (s : State) (k : Fin 16) (pv : Int) (was : Option Bool) : Option Bool :=
  let h : Int := s.fget (F.AL_ATHYS_HYS k)
  let sp := s.al[k].sp
  let up := if s.flag (F.AL_CTL_DIR k) then decide (sp + h < pv) else decide (pv < sp - h)
  let down := if s.flag (F.AL_CTL_DIR k) then decide (pv < sp - h) else decide (sp + h < pv)
  if up then some true else if down then some false else was

/-- R283: the relay, its cycles, and the end of a tune that has settled. -/
def State.alTune (s : State) (k : Fin 16) (pv : Int) (t : Tune) : State :=
  let side := s.relay k pv t.high
  let amp : Int := s.fget (F.AL_AT_ATAMP k)
  let u := match side with
    | none => t.bias
    | some true => t.bias + amp
    | some false => t.bias - amp
  let rise := decide (side = some true ∧ t.high ≠ some true)
  let ms2 := t.ms.map fun m => m + s.fget (F.AL_CFG_PER k)
  let lo := min t.lo pv
  let hi := max t.hi pv
  let t1 : Tune := match rise, ms2 with
    | true, some m => { t with high := side, ms := some 0, lo := pv, hi := pv, cycles := (m, hi - lo) :: t.cycles }
    | true, none => { t with high := side, ms := some 0, lo := pv, hi := pv }
    | false, m => { t with high := side, ms := m, lo := lo, hi := hi }
  let s1 := (s.modAl k fun x => { x with tune := some t1, eLast := s.alErr k pv, pvLast := pv }).alOut k (s.alClamp k u)
  let s2 := (s1.fset (F.AL_STAT_STATE k) 3).fset (F.AL_STAT_CYC k) (min t1.cycles.length 255)
  match t1.cycles with
  | (p1, a1) :: (p2, a2) :: _ =>
    if rise ∧ 4 ≤ t1.cycles.length ∧ agree5 p1 p2 ∧ agree5 a1.toNat a2.toNat ∧ 0 < a1 + a2 then s2.tuneDone k p1 p2 a1 a2 else s2
  | _ => s2

/-- R280, R283: what an enabled loop without an input fault computes. -/
def State.alRun (s : State) (k : Fin 16) (pv : Int) : State :=
  match s.flag (F.AL_CTL_AUTO k), s.al[k].tune with
  | true, some t => s.alTune k pv t
  | true, none => s.alPid k pv
  | false, some _ => (s.tuneFail k).alManual k pv
  | false, none => s.alManual k pv

/-- R282: the counts of bad and good codes. -/
def State.alCount (s : State) (k : Fin 16) (c : Nat) : State :=
  let bad := decide (c < 20 ∨ 4075 < c)
  s.modAl k fun x => { x with bad := if bad then x.bad + 1 else 0, good := if bad then 0 else x.good + 1 }

/-- R286: EN = 0: LPWM low, the loop idle. -/
def State.alIdle (s : State) (k : Fin 16) : State :=
  let s1 := if s.al[k].tune.isSome then s.tuneFail k else s
  (((s1.fset (F.AL_STAT_STATE k) 0).setFlag (F.AL_STAT_SAT k) false).alOut k 0).modAl k fun x => { x with bad := 0, good := 0 }

/-- R279: the loop's next period, by the PER in force. -/
def State.loopNext (s : State) (k : Fin 16) : Nat := s.al[k].lastAt + s.eff (F.AL_CFG_PER k) * ms

/-- R279: LPWM[k]: its frequency in Hz and its duty in 1/65,536; none: low. -/
def State.lpwm (s : State) (k : Fin 16) : Option (Nat × Nat) :=
  if s.fget (F.AL_STAT_STATE k) = 0 then none else some (s.eff (F.AL_CFG_FPWM k) * 10, s.fget (F.AL_STAT_OUT k))

/-- LOOP_PERIOD (R279–R283): once in each loop period of PER ms. -/
def execLoopPeriod (k : Fin 16) (inp : LoopIn) (s : State) : Host.Outcome State Fault Refusal :=
  let s0 := (s.alTake k).modAl k fun x => { x with lastAt := max s.time (s.loopNext k) }
  if s.gateOn 10 = false ∨ s.gateOn 11 = false ∨ s.reached (s.loopNext k) = false then .next s
  else if s0.flag (F.AL_CTL_EN k) = false then .next (s0.alIdle k)
  else
    let pv := s0.alPv k inp.lain
    let s1 := ((s0.setWord (.AL_PV k) (wordOf pv)).alSetpoint k inp).alCount k inp.lain
    let chk := s1.flag (F.AL_CTL_FCHK k)
    if s1.fget (F.AL_STAT_STATE k) = 4 ∧ chk then
      if 10 ≤ s1.al[k].good then .next (s1.alRun k pv) else .next (s1.alOut k (s1.fget (F.AL_MAN_FAILOUT k)))
    else if chk ∧ 3 ≤ s1.al[k].bad then .next (s1.alFail k)
    else .next (s1.alRun k pv)

/-- SETPOINT_LOST (R281): the source failed in the last loop period. -/
def execSetpointLost (k : Fin 16) (s : State) : Host.Outcome State Fault Refusal :=
  if s.fget (F.AL_SPSRC_SRC k) ≠ 0 ∧ s.al[k].spBad ∧ ¬ s.flag (F.AL_STAT_SPLOST k) then
    .next (((s.setFlag (F.AL_STAT_SPLOST k) true).modAl k fun x => { x with spGood := 0 }).raise 379 1 (loopPayload k))
  else .next s

/-- R283, R286: a write of TUNE: busy unless the loop is in AUTO; a tune under way goes on. -/
def State.tuneStart (s : State) (k : Fin 16) : State :=
  if s.flag (F.AL_CTL_AUTO k) ∧ s.fget (F.AL_STAT_STATE k) = 2 then
    let x := s.al[k]
    let t : Tune := { bias := s.fget (F.AL_STAT_OUT k), startAt := s.time, lo := x.pvLast, hi := x.pvLast }
    (((s.modAl k fun x => { x with tune := some t }).fset (F.AL_STAT_STATE k) 3).fset (F.AL_STAT_CYC k) 0).answer stOk
  else if s.fget (F.AL_STAT_STATE k) = 3 then s.answer stOk
  else s.answer stBusy

/-- AUTOTUNE_START (R283). -/
def execAutotuneStart (k : Fin 16) (s : State) : Host.Outcome State Fault Refusal := .next (s.tuneStart k)

/-- R283: TABORT. -/
def State.tuneAbort (s : State) (k : Fin 16) : State :=
  if s.al[k].tune.isSome then (s.tuneFail k).tuneResume k else s

/-- AUTOTUNE_ABORT (R283). -/
def execAutotuneAbort (k : Fin 16) (s : State) : Host.Outcome State Fault Refusal := .next ((s.tuneAbort k).answer stOk)

/-- AUTOTUNE_TIMEOUT (R283): a loop period due in the same tick comes first. -/
def execAutotuneTimeout (k : Fin 16) (s : State) : Host.Outcome State Fault Refusal :=
  match s.al[k].tune with
  | some t =>
    if s.reached (t.startAt + s.fget (F.AL_AT_ATTMO k) * (10 * sec)) ∧ s.reached (s.loopNext k) = false then .next ((s.tuneFail k).tuneResume k) else .next s
  | none => .next s

end Sys2Proof.Machine
end

