-- ==== Sys2Proof/Machine/Clocks.lean ====
section
/-! DEFINITION. Clocks and shelf time (R304–R323): judging a clock, reference loss, the HFRC trim, the cluster clock steps of
the AL6064 mode, and the time counter with its PPS servo. -/

namespace Sys2Proof.Machine

open Sys2Proof

/-! Judging (R306). -/

/-- The place of a clock among the judgements. -/
def clockIx : Clock → Fin 7
  | .hfrc => 0 | .xhf => 1 | .xlf => 2 | .syspll => 3 | .pwmpll => 4 | .adcpll => 5 | .sdpll => 6

/-- R306: the nominal count of judge cycles in a window, as a quotient: HFRC 1 ms of LFRC, XHF 1 ms of HFRC, XLF 33 of its
periods in HFRC, a PLL 0.5 ms of XHF. -/
def judgeNominal : Clock → Nat × Nat
  | .hfrc => (32, 1)
  | .xhf => (96000, 1)
  | .xlf => (33 * 96000000, 32768)
  | .syspll => (12500, 1)
  | .pwmpll => (12500, 1)
  | .adcpll => (12500, 1)
  | .sdpll => (12500, 1)

/-- R304, R306: the summed tolerance of the starting clock and its judge, ppm; a PLL keeps its reference's
(notes/assumptions/12.md). -/
def judgeTol : Clock → Nat
  | .hfrc => 80000
  | .xhf => 30050
  | .xlf => 30100
  | .syspll => 50
  | .pwmpll => 50
  | .adcpll => 50
  | .sdpll => 50

/-- R306: the deadline of a judgement, ns. -/
def judgeDeadline : Clock → Nat
  | .hfrc => 50 * ms
  | .xhf => 100 * ms
  | .xlf => 2 * sec
  | .syspll => 5 * ms
  | .pwmpll => 5 * ms
  | .adcpll => 5 * ms
  | .sdpll => 5 * ms

/-- CK_PLLSTAT's LOCK bit of PLL p. -/
def lockFld (p : Nat) : Fld := ⟨.CK_PLLSTAT, 4 * p, 1⟩
/-- CK_PLLSTAT's REFLOSS bit of PLL p. -/
def reflossFld (p : Nat) : Fld := ⟨.CK_PLLSTAT, 4 * p + 1, 1⟩
/-- CK_PLLSTAT's COAST bit of PLL p. -/
def coastFld (p : Nat) : Fld := ⟨.CK_PLLSTAT, 4 * p + 2, 1⟩

/-- The stable bit of a clock (R323). -/
def stableFld : Clock → Fld
  | .hfrc => F.CK_SRCSTAT_HFRC
  | .xhf => F.CK_SRCSTAT_XHF
  | .xlf => F.CK_SRCSTAT_XLF
  | .syspll => lockFld 0
  | .pwmpll => lockFld 1
  | .adcpll => lockFld 2
  | .sdpll => lockFld 3

/-- Replace a judgement. -/
def State.setJudge (s : State) (c : Clock) (j : Judge) : State :=
  { s with clk := { s.clk with judge := s.clk.judge.set (clockIx c) j } }

/-- A judgement of a clock begins now. -/
def State.startJudge (s : State) (c : Clock) : State := s.setJudge c { from_ := some s.time, last := s.time }

/-- R305: the PLLs of boot and of a wake. -/
def allPlls : List Clock := [.syspll, .pwmpll, .adcpll, .sdpll]

/-- R306: a window's count lies within the summed tolerances of its nominal. -/
def nearNominal (c : Clock) (count : Nat) : Bool :=
  let (n, d) := judgeNominal c
  decide (((count * d : Nat) - (n : Int)).natAbs * 1000000 ≤ judgeTol c * n)

/-- R306: a window's count lies within ±0.5 % of the first of its run. -/
def nearFirst (first count : Nat) : Bool := decide (((count : Int) - first).natAbs * 200 ≤ first)

/-- R306: the run after one more window. -/
def Judge.window (j : Judge) (c : Clock) (count : Nat) : Judge :=
  if nearNominal c count then
    if 0 < j.run ∧ nearFirst j.first count then { j with run := j.run + 1 } else { j with first := count, run := 1 }
  else { j with run := 0 }

/-- R309: a PLL that coasted relocks: COAST clears and event 390 is raised. -/
def State.relock (s : State) (p : Nat) : State :=
  if s.flag (coastFld p) then (s.setFlag (coastFld p) false).raise 390 0 else s

/-- R305, R306, R309: a clock judged stable. HFRC starts XHF's judgement and, with a crystal fitted, XLF's; XHF starts the
PLLs and brings the counter back; a PLL that coasted relocks with event 390. -/
def State.clockStable (s : State) (c : Clock) : State :=
  let s1 := (s.setJudge c {}).setFlag (stableFld c) true
  match c with
  | .hfrc =>
    let s2 := s1.startJudge .xhf
    if s.flag F.CK_SRC_XLFEN then s2.startJudge .xlf else s2
  | .xhf =>
    let s2 := s1.each allPlls fun p t => t.startJudge p
    { s2 with clk := { s2.clk with back := s.flag F.CK_SRCSTAT_TSRC, trimAt := s.time } }
  | .xlf => s1
  | .syspll => s1.relock 0
  | .pwmpll => s1.relock 1
  | .adcpll => s1.relock 2
  | .sdpll => s1.relock 3

/-- R306: the length of a window, ns: 1 ms, or 0.5 ms of a PLL. -/
def judgeWindow (c : Clock) : Nat := if c ∈ allPlls then ms / 2 else ms

/-- R306: a window of the judgement ends in this tick. -/
def State.windowDue (s : State) (c : Clock) : Bool :=
  let j := s.clk.judge[clockIx c]
  j.from_.any fun t => s.reached (max t j.last + judgeWindow c)

/-- CLOCK_JUDGE_WINDOW (R306, R309): a window of a judgement under way ends with a count of judge cycles. -/
def execClockJudgeWindow (c : Clock) (count : Nat) (s : State) : Host.Outcome State Fault Refusal :=
  let j1 := (s.clk.judge[clockIx c]).window c count
  if s.windowDue c = false then .next s
  else if 8 ≤ j1.run then .next (s.clockStable c)
  else .next (s.setJudge c { j1 with last := s.time })

/-- R306, R321: the event of a clock that failed its judgement. HFRC has none: the Attic retries its wake (R304). -/
def State.judgeFailed (s : State) (c : Clock) : State :=
  match c with
  | .hfrc => s
  | .xhf => s.raise 384 3
  | .xlf => (s.setFlag F.CK_SRCSTAT_XLFFAIL true).raise 385 1
  | .syspll => s.raise 386 3
  | .pwmpll => s.raise 387 3
  | .adcpll => s.raise 388 3
  | .sdpll => s.raise 389 2

/-- CLOCK_JUDGE_DEADLINE (R306): not judged stable by the deadline; the judgement restarts 1 s after it began. An eighth window that
ends in the millisecond of the deadline comes first. -/
def execClockJudgeDeadline (c : Clock) (s : State) : Host.Outcome State Fault Refusal :=
  let j := s.clk.judge[clockIx c]
  match j.from_ with
  | some t =>
    if s.reached (t + judgeDeadline c) ∧ (j.run < 7 ∨ s.windowDue c = false ∨ t + judgeDeadline c + ms ≤ s.time) then
      .next ((s.setJudge c { from_ := some (max s.time (t + judgeDeadline c) + sec) }).judgeFailed c)
    else .next s
  | none => .next s

/-! The servo's r (R315, R319). -/

/-- R315: r is limited to ±200 ppm. -/
def rLimit (x : Int) : Int := clampI x (-200000000) 200000000

/-- CK_RATE, 10^-12. -/
def State.rate (s : State) : Int := s.fgetS F.CK_RATE_R

/-- R319: the r a slew under way returns to, else the present one. -/
def State.rateBase (s : State) : Int := match s.clk.slew with
  | some (r, _) => r
  | none => s.rate

/-- R319: a slew ends, and r returns to its value. -/
def State.slewEnd (s : State) : State :=
  { s.fsetS F.CK_RATE_R s.rateBase with clk := { s.clk with slew := none } }

/-- R319: r offset by −sign(e) × SLEW for |e| / SLEW of counter time from the given stamp. -/
def State.slewStart (s : State) (e : Int) (stamp : Nat) : State :=
  let k := s.eff F.CK_PPS_SLEW
  let base := s.rateBase
  let off : Int := if 0 < e then -(k * 1000000) else if e < 0 then (k * 1000000 : Nat) else 0
  { s.fsetS F.CK_RATE_R (rLimit (base + off)) with
    clk := { s.clk with slew := some (base, stamp + (rdiv 319 (e.natAbs * 1000000) k).toNat) } }

/-- R319: into HOLDOVER: LOST, r frozen at the mean of the last 64 qualified edges, or as it is if fewer; event 392. -/
def State.toHoldover (s : State) : State :=
  let st := s.fget F.CK_PPSSTAT_STATE
  if st = 1 ∨ st = 2 ∨ st = 3 then
    let s1 := s.slewEnd
    let h := s.clk.rHist
    let s2 := if 64 ≤ h.length then s1.fsetS F.CK_RATE_R (rdiv 320 (h.foldl (· + ·) 0) h.length) else s1
    let s3 := { s2 with clk := { s2.clk with step := none, oow := [], trackN := 0, holdAt := s.time, holdDone := false } }
    ((s3.fset F.CK_PPSSTAT_STATE 4).setFlag F.CK_PPSSTAT_LOST true).raise 392 1
  else s

/-! Reference loss (R307–R309). -/

/-- R307, R308: one PLL coasts, with its event if it did not. -/
def State.coast (s : State) (p sev : Nat) : State :=
  let s1 := ((s.setFlag (lockFld p) false).setFlag (coastFld p) true).setFlag (reflossFld p) true
  if s.flag (coastFld p) then s1 else s1.raise (386 + p) sev

/-- R308: every channel not already PARKED parks, with CH_FAULT.SUSP latched. -/
def State.parkCoast (s : State) : State :=
  s.each chans fun n t => if t.idle n then t else t.trip n [11] 0

/-- R376, R308: a port's link goes down or comes up: LINK, DOWNS and events 416, 417. -/
def State.linkTo (s : State) (p : Fin 2) (up : Bool) : State :=
  if s.flag (F.HL_PSTAT_LINK p) = up then s
  else
    let s1 := s.setFlag (F.HL_PSTAT_LINK p) up
    if up then s1.raise (416 + p.val) 0 else (s1.incWrap (F.HL_PSTAT_DOWNS p)).raise (416 + p.val) 1

/-- R307, R308, R319, R322: XHF is lost. The PLLs' judgements end; ports drop with SDPLL; a compatibility step is abandoned. -/
def State.xhfLoss (s : State) : State :=
  let s1 := ((s.setFlag F.CK_SRCSTAT_XHF false).setFlag F.CK_SRCSTAT_XHFLOSS true).setFlag F.CK_SRCSTAT_TSRC true
  let s2 := (s1.each allPlls fun p t => t.setJudge p {}).startJudge .xhf
  let s3 := { s2 with clk := { s2.clk with back := false, compat := none } }
  let s4 := ((((s3.raise 384 3).coast 0 3).coast 1 3).coast 2 3).coast 3 2
  let s5 := s4.toHoldover.parkCoast
  ((s5.linkTo 0 false).linkTo 1 false).enterSafe 3

/-- R307: no edge for 200 ns, a 1 ms window outside ±2 % of HFRC, or a loss of lock. -/
def xhfLost (x : XhfIn) : Bool :=
  decide (200 ≤ x.gap) || decide (96000 < ((x.count : Int) - 96000).natAbs * 50) || x.unlock

/-- XHF_LOSS (R307–R309): a loss during a judgement restarts it, REFLOSS stays; the PWM floor acts on PWMPLL's measured frequency
too. -/
def execXhfLoss (x : XhfIn) (s : State) : Host.Outcome State Fault Refusal :=
  let low := decide (x.pwm < 760000)
  let s1 := { s with clk := { s.clk with pwmLow := low } }
  let s2 := if low ∨ xhfLost x then s1.axFloor else s1
  if xhfLost x ∧ s.flag F.CK_SRCSTAT_XHF then .next s2.xhfLoss
  else
    let s3 := if xhfLost x ∧ (s.clk.judge[clockIx .xhf]).from_.isSome then s2.startJudge .xhf else s2
    if low ∧ s.clk.pwmLow = false then .next (s3.enterSafe 3) else .next s3

/-! The HFRC trim (R310). -/

/-- R310: the ends of the trim's range, 500 steps of 0.015 % each side of the centre. -/
abbrev trimLow : Nat := 12
/-- R310. -/
abbrev trimHigh : Nat := 1012

/-- R310: a measurement is complete: a second of XHF cycles after the last one, or two consecutive qualified PPS edges. -/
def State.trimDue (s : State) : Bool := match s.eff F.CK_SRC_TRSRC with
  | 1 => s.flag F.CK_SRCSTAT_XHF && s.reached (s.clk.trimAt + sec)
  | 2 => s.clk.qualPair
  | _ => false

/-- R310, R311: CK_TRIM.ERR of a count, in 0.001 %; the frequency against XHF is kept. -/
def State.trimTake (s : State) (count : Nat) : State :=
  let hz := if s.eff F.CK_SRC_TRSRC = 1 then some count else s.clk.hfrcHz
  let s1 : State := { s with clk := { s.clk with hfrcHz := hz, trimAt := s.time, qualPair := false } }
  s1.fsetS F.CK_TRIM_ERR (rdiv 310 (((count : Int) - 96000000) * 100000) 96000000)

/-- TRIM_MEASUREMENT (R310): HFRC cycles in a second of the trim's source. A code at the end the error drives it to stays, and
TRIMLIM is latched. The code rises with the frequency (notes/assumptions/13.md). -/
def execTrimMeasurement (count : Nat) (s : State) : Host.Outcome State Fault Refusal :=
  if s.trimDue = false then .next s
  else
    let s1 := s.trimTake count
    let code := s.fget F.CK_TRIM_CODE
    if ((count : Int) - 96000000).natAbs ≤ 48000 then .next s1
    else
      let code1 := if 96000000 < count then max trimLow (code - 1) else min trimHigh (code + 1)
      let s2 := s1.fset F.CK_TRIM_CODE code1
      if (code1 = trimLow ∨ code1 = trimHigh) ∧ ¬ s.flag F.CK_SRCSTAT_TRIMLIM then
        .next ((s2.setFlag F.CK_SRCSTAT_TRIMLIM true).raise 396 1)
      else .next s2

/-- R311: HFRC as the counter takes it, Hz: the last measurement against XHF, or nominal without one. -/
def State.hfrcRate (s : State) : Nat := if s.eff F.CK_SRC_TRSRC = 0 then 96000000 else s.clk.hfrcHz.getD 96000000

/-- R311, R315: what the counter adds at an edge of its source, 2^-32 ns; r applies on either source
(notes/assumptions/184.md). -/
def State.counterInc (s : State) : Nat :=
  let k := (10 ^ 12 + s.rate) * 2 ^ 32
  (if s.flag F.CK_SRCSTAT_TSRC then rdiv 311 (k * 10 ^ 9) (s.hfrcRate * 10 ^ 12) else rdiv 315 (k * 40) (10 ^ 12)).toNat

/-- R315, R316: the counter runs over its next so many ns: the edges that takes, and the fraction it passes the boundary by. -/
def State.counterRun (s : State) (dt : Nat) : State :=
  let d := dt * 2 ^ 32
  let n := (d - s.clk.frac + s.counterInc - 1) / s.counterInc
  { s with clk := { s.clk with edges := n, frac := s.clk.frac + n * s.counterInc - d } }

/-! Cluster clock levels (R313, R314). -/

/-- R314: VCORE of a level, mV. -/
def State.levelVolt (s : State) (level : Nat) : Nat :=
  if level = 0 then s.eff F.CK_CVOLT_V0 else if level = 1 then s.eff F.CK_CVOLT_V1 else s.eff F.CK_CVOLT_V2

/-- CK_PLLSTAT.LEVEL. -/
def State.level (s : State) : Nat := s.fget F.CK_PLLSTAT_LEVEL

/-- R313, R314: a change of the level at this boundary. In the compatibility mode a lower clock takes the divider at once and
its voltage step follows; a raise first raises the voltage. -/
def State.levelTo (s : State) (level : Nat) : State :=
  if s.level = level then s
  else if s.effFlag F.CK_COMPAT_EN = false then s.fset F.CK_PLLSTAT_LEVEL level
  else if s.level < level then
    let s1 := s.fset F.CK_PLLSTAT_LEVEL level
    { s1 with clk := { s1.clk with compat := some { level := level, up := false, since := s.time, pollAt := s.time } } }
  else match s.clk.compat with
    | some _ => s
    | none => { s with clk := { s.clk with compat := some { level := level, up := true, since := s.time, pollAt := s.time } } }.fset F.CK_CSTEP_FAILS 0

/-- R314, R328: a request for RUN asks for the raise it needs, with FAILS counted anew. -/
def State.askRaise (s : State) : State :=
  if s.effFlag F.CK_COMPAT_EN ∧ s.level ≠ 0 ∧ ((s.clk.compat.map CompatStep.up).getD false) = false then
    let s1 := s.fset F.CK_CSTEP_FAILS 0
    { s1 with clk := { s1.clk with compat := some { level := 0, up := true, since := s.time, pollAt := s.time } } }
  else s

/-- R314, R393: READ_VOUT, LINEAR16 with the exponent of VOUT_MODE, lies within ±2 % of the target in mV. -/
def confirms (mode : Byte) (w : BitVec 16) (target : Nat) : Bool :=
  let n := signedOf 5 (mode.toNat % 32)
  let v := w.toNat * 1000 * 2 ^ n.toNat
  let t := target * 2 ^ (-n).toNat
  decide (((v : Int) - t).natAbs * 50 ≤ t)

/-- R314, R328: a step that is not confirmed. A raise is retried 10 ms later; the third failure refuses the return. -/
def State.compatFail (s : State) (k : CompatStep) : State :=
  let s1 := s.raise 398 2
  if k.up then
    let s2 := s1.incSat F.CK_CSTEP_FAILS
    if 3 ≤ s2.fget F.CK_CSTEP_FAILS then
      ({ s2 with clk := { s2.clk with compat := none }, mode := { s2.mode with toRun := false } }.setFlag
        F.GL_MODE_REFUSED true).fset F.GL_MODE_WHY 5
    else { s2 with clk := { s2.clk with compat := some { k with retryAt := some (s.time + 10 * ms) } } }
  else { s1 with clk := { s1.clk with compat := none } }

/-- R314, R288: a confirmed step: event 397, and entry 2 of the rail table takes the new nominal value. -/
def State.compatDone (s : State) (level : Nat) : State :=
  let s1 := { s with clk := { s.clk with compat := none } }
  (s1.fset (F.SQ_RNOM_NOM 2) (s.levelVolt level)).raise 397 0

/-- COMPAT_VOUT_POLL (R314, R393): every 200 µs, VOUT_MODE as read before the step and READ_VOUT; none: the regulator does not
acknowledge. A VOUT_MODE of another mode than LINEAR16 fails the step. -/
def execCompatVoutPoll (ans : Option (Byte × BitVec 16)) (s : State) : Host.Outcome State Fault Refusal :=
  match s.clk.compat with
  | none => .next s
  | some k =>
    if k.okAt.isSome ∨ k.retryAt.isSome ∨ s.reached (k.pollAt + 200 * us) = false then .next s
    else match ans with
      | none => .next (s.compatFail k)
      | some (mode, w) =>
        if mode.toNat / 32 ≠ 0 then .next (s.compatFail k)
        else if confirms mode w (s.levelVolt k.level) then
          if k.up then .next { s with clk := { s.clk with compat := some { k with okAt := some s.time } } }
          else .next (s.compatDone k.level)
        else .next { s with clk := { s.clk with compat := some { k with pollAt := s.time } } }

/-- COMPAT_STEP_TIMEOUT (R314): not confirmed within TVC. -/
def execCompatStepTimeout (s : State) : Host.Outcome State Fault Refusal :=
  match s.clk.compat with
  | none => .next s
  | some k =>
    if k.okAt.isNone ∧ k.retryAt.isNone ∧ s.reached (k.since + s.eff F.CK_COMPAT_TVC * ms) then .next (s.compatFail k) else .next s

/-- COMPAT_RETRY (R314): 10 ms after a failed raise. -/
def execCompatRetry (s : State) : Host.Outcome State Fault Refusal :=
  match s.clk.compat with
  | none => .next s
  | some k =>
    match k.retryAt with
    | some t =>
      if s.reached t then .next { s with clk := { s.clk with compat := some { k with since := s.time, retryAt := none, pollAt := s.time } } }
      else .next s
    | none => .next s

/-- R314, R328: a boundary at least 100 µs after the voltage of a raise was confirmed: the divider changes. -/
def State.compatBoundary (s : State) : State :=
  match s.clk.compat with
  | none => s
  | some k =>
    match k.okAt with
    | some t =>
      if k.up ∧ t + 100 * us ≤ s.time then
        let s1 := (s.fset F.CK_PLLSTAT_LEVEL k.level).compatDone k.level
        (s1.setFlag F.GL_MODE_REFUSED false).fset F.GL_MODE_WHY (if s.flag F.GL_MODE_REFUSED then 0 else s.fget F.GL_MODE_WHY)
      else s
    | none => s

/-! The time counter (R315–R320). -/

/-- TIME_SET (R317): busy unless every channel is PARKED or ABSENT. -/
def State.timeSet (s : State) (val : Word) : State :=
  if s.allIdle then
    ({ s with clk := { s.clk with tset := some val.toNat, tsetStep := none } }.setFlag F.CK_PPSSTAT_TSETP true).answer stOk
  else s.answer stBusy

/-- TIME_SET (R317). -/
def execTimeSet (val : Word) (s : State) : Host.Outcome State Fault Refusal := .next (s.timeSet val)

/-- R318: the offset of an edge: its nanosecond field, folded. -/
def ppsFold (stamp : Nat) : Int :=
  let x := stamp % sec
  if x ≤ 500000000 then x else (x : Int) - sec

/-- R318: 1 s ± 1 ms of counter time after the previous edge. -/
def State.ppsSpaced (s : State) (stamp : Nat) : Bool := match s.clk.lastEdge with
  | some p => decide (((stamp : Int) - p - sec).natAbs ≤ 1000000)
  | none => false

/-- R319: the PI correction of r: its gains the manual does not give, so the change is free within SLEW. -/
def State.ppsCorrect (s : State) : State :=
  let lim : Int := (s.eff F.CK_PPS_SLEW * 1000000 : Nat)
  let c := clampI (sword s.freeWord) (-lim) lim
  s.fresh.fsetS F.CK_RATE_R (rLimit (s.rateBase + c))

/-- R319: a qualified edge in TRACK: eight within 100 ns in a row reach LOCKED. -/
def State.ppsTrack (s : State) (e : Int) : State :=
  let k := if e.natAbs ≤ 100 then s.clk.trackN + 1 else 0
  let s1 := { s with clk := { s.clk with trackN := k } }
  if 8 ≤ k then (s1.fset F.CK_PPSSTAT_STATE 3).raise 391 0 else s1

/-- R317, R319: a qualified edge in ACQUIRE. With a TSET pending its own step sets the counter. -/
def State.ppsAcquire (s : State) (e : Int) (stamp : Nat) : State :=
  if s.clk.tset.isSome then s
  else if s.eff F.CK_PPS_STEPTH * 100000 < e.natAbs ∧ s.allIdle then { s with clk := { s.clk with step := some (-e) } }
  else if e.natAbs ≤ 1000 then
    let s1 := s.slewEnd
    ({ s1 with clk := { s1.clk with trackN := 0, step := none } }.fset F.CK_PPSSTAT_STATE 2).ppsTrack e |>.ppsCorrect
  else s.slewStart e stamp

/-- R318, R319: what a qualified edge does. -/
def State.ppsQualified (s : State) (e : Int) (stamp : Nat) : State :=
  let s1 := s.fsetS F.CK_OFFSET_E e
  let s2 := { s1 with clk := { s1.clk with lastQual := some stamp, oow := [], rHist := (s.rateBase :: s.clk.rHist).take 64,
                                           qualPair := decide (s.clk.lastQual.isSome ∧ s.clk.lastQual = s.clk.lastEdge),
                                           tsetStep := s.clk.tset.map fun v => (v * sec : Nat) - (stamp : Int) } }
  match s.fget F.CK_PPSSTAT_STATE with
  | 0 => (s2.fset F.CK_PPSSTAT_STATE 1).ppsAcquire e stamp
  | 1 => s2.ppsAcquire e stamp
  | 2 => (s2.ppsTrack e).ppsCorrect
  | 3 => s2.ppsCorrect
  | _ => (s2.fset F.CK_PPSSTAT_STATE 1).ppsAcquire e stamp

/-- R318: a spaced edge of LOCKED outside WIN; the third in a row that agrees within 1 µs returns to ACQUIRE, event 395. -/
def State.ppsOutside (s : State) (e : Int) : State :=
  let l := (e :: s.clk.oow).take 3
  let hi := l.foldl max e
  let lo := l.foldl min e
  let s1 := { s with clk := { s.clk with oow := l } }.incSat F.CK_PPSSTAT_OOW
  if l.length = 3 ∧ hi - lo ≤ 1000 then
    ({ s1 with clk := { s1.clk with oow := [] } }.fset F.CK_PPSSTAT_STATE 1).raise 395 1
  else s1

/-- PPS_EDGE (R318, R319): a rising edge, in counter ns after the last boundary. -/
def execPpsEdge (t : Nat) (s : State) : Host.Outcome State Fault Refusal :=
  let stamp := s.ctr + t
  let e := ppsFold stamp
  let edge (t : State) : State := { t with clk := { t.clk with lastEdge := some stamp } }
  if s.flag F.CK_PPS_EN = false ∨ s.effFlag F.CK_PPS_EN = false then .next (edge s)
  else if s.ppsSpaced stamp = false then .next { s with clk := { s.clk with lastEdge := some stamp, oow := [] } }
  else if s.fget F.CK_PPSSTAT_STATE = 3 ∧ s.eff F.CK_PPS_WIN * 1000 < e.natAbs then .next (edge (s.ppsOutside e))
  else .next (edge (s.ppsQualified e stamp))

/-- PPS_LOST (R318, R319, R322): no qualified edge within 1.1 s of counter time; the tick in which that ends has passed. -/
def execPpsLost (s : State) : Host.Outcome State Fault Refusal :=
  match s.clk.lastQual with
  | some t => if t + 1100000000 < s.ctr then .next s.toHoldover else .next s
  | none => .next s

/-- PPS_SLEW_END (R319). -/
def execPpsSlewEnd (s : State) : Host.Outcome State Fault Refusal :=
  match s.clk.slew with
  | some (_, t) => if t < s.ctr + tCtl then .next s.slewEnd else .next s
  | none => .next s

/-- HOLDOVER_LIMIT (R319, R322): HOLDMAX hours in HOLDOVER; the second in which they end has passed. -/
def execHoldoverLimit (s : State) : Host.Outcome State Fault Refusal :=
  if s.fget F.CK_PPSSTAT_STATE = 4 ∧ s.clk.holdDone = false
      ∧ s.reached (s.clk.holdAt + s.eff F.CK_HOLD_HOLDMAX * 3600 * sec + sec) then
    .next (({ s with clk := { s.clk with holdDone := true } }.setFlag F.CK_PPSSTAT_HOLDEXP true).raise 393 1)
  else .next s

/-- CK_PPSSTAT.HOLDH (R323): whole hours in the present holdover. -/
def State.holdHours (s : State) : Nat :=
  if s.fget F.CK_PPSSTAT_STATE = 4 then min 65535 ((s.time - s.clk.holdAt) / (3600 * sec)) else 0

/-- R319: EN written 0: FREE, r held. A slew under way completes its interval. -/
def State.ppsFree (s : State) : State :=
  { s with clk := { s.clk with step := none, oow := [], trackN := 0 } }.fset F.CK_PPSSTAT_STATE 0

/-- PPS_DISABLE (R319). -/
def execPpsDisable (s : State) : Host.Outcome State Fault Refusal :=
  .next ((s.setFlag F.CK_PPS_EN false).ppsFree.answer stOk)

/-- R317: the counter takes a step at this boundary: STEPPED, and event 394 with the step size. -/
def State.stepCounter (s : State) (d : Int) : State :=
  let s1 := { s with ctr := (s.ctr + d).toNat, ctrPrev := (s.ctr + d).toNat,
                     clk := { s.clk with lastEdge := s.clk.lastEdge.map (fun p => (p + d).toNat),
                                         lastQual := s.clk.lastQual.map (fun p => (p + d).toNat) } }
  (s1.setFlag F.CK_PPSSTAT_STEPPED true).raise 394 0 (le64 (codeOf 64 d))

/-- R317, R319: a servo step due at this boundary. -/
def State.servoStep (s : State) : State :=
  match s.clk.step with
  | none => s
  | some d =>
    let s1 := { s with clk := { s.clk with step := none } }
    if s.allIdle then
      { s1.slewEnd with clk := { s1.slewEnd.clk with trackN := 0 } }.fset F.CK_PPSSTAT_STATE 2 |>.stepCounter d
    else s1.slewStart (-d) s.ctr

/-- R317: a TSET due at this boundary: its edge has come, or, with CK_PPS.EN = 0, the boundary starts a second. It is
discarded where a start was accepted. -/
def State.tsetStep (s : State) : State :=
  let due : Option Int := match s.clk.tset with
    | none => none
    | some v => if s.effFlag F.CK_PPS_EN then s.clk.tsetStep
        else if s.ctr % sec = 0 then some ((v * sec : Nat) - (s.ctr : Int)) else none
  match due with
  | none => s
  | some d =>
    let s1 := { s with clk := { s.clk with tset := none, tsetStep := none } }.setFlag F.CK_PPSSTAT_TSETP false
    if s.allIdle then s1.stepCounter d else s1

/-- R309, R317: what a boundary does for the clocks, once its starts are decided. -/
def State.clockBoundary (s : State) : State :=
  let s1 := if s.clk.back then { s.setFlag F.CK_SRCSTAT_TSRC false with clk := { s.clk with back := false } } else s
  s1.compatBoundary.servoStep.tsetStep

end Sys2Proof.Machine
end

