-- ==== Sys2Proof/Machine/Vault.lean ====
section
/-! DEFINITION. The Vault's records and writer (R402–R406, R413), the Attic queue's drain (R340) and the Cellar (R408–R411). -/

namespace Sys2Proof.Machine

open Sys2Proof

/-! Records (R402). -/

/-- R402: a record's payload is 28 bytes. -/
def pad28 (l : List Byte) : List Byte := (l ++ List.replicate 28 0).take 28

/-- R402: bytes 0x00–0x3B of a record. -/
def VRec.body (r : VRec) (seq count last : Nat) (lost : Bool) : List Byte :=
  let o := r.occ
  le16 1 ++ le16 r.typ ++ le32 seq ++ le64 (stampCode o.stamp)
  ++ le32 (o.num + o.sev * 2 ^ 16 + o.queued.toNat * 2 ^ 20 + o.required.toNat * 2 ^ 21 + o.tunsync.toNat * 2 ^ 22
      + lost.toNat * 2 ^ 23)
  ++ le32 count ++ le64 (stampCode last) ++ pad28 o.payload

/-- R402: the 64 bytes of a record. -/
def VRec.bytes (r : VRec) (seq count last : Nat) (lost : Bool) : List Byte :=
  let b := r.body seq count last lost
  b ++ le32 (crc32c b)

/-- R365: a type 1 record with repeat count 1, as an event frame carries it. What its sequence number is the manual leaves
open: it is free (notes/assumptions/5.md). -/
def Occ.frameRecord (k : Nat) (o : Occ) : List Byte :=
  VRec.bytes { typ := 1, occ := o } (Config.freeWord k).toNat 1 o.stamp false

/-- R404: the slot address of a sequence number. -/
def vaultAddr (seq : Nat) : Nat := 0x400000 + seq % 65536 * 64

/-- R403, R405: the types that merge. -/
def mergesType (t : Nat) : Bool := decide (t = 1 ∨ t = 3)

/-- R405: may an occurrence be merged into the record last written, of the given count? -/
def VRec.merges (r last : VRec) (count : Nat) : Bool :=
  mergesType r.typ && decide (r.typ = last.typ ∧ r.occ.num = last.occ.num ∧ r.occ.sev = last.occ.sev
    ∧ (pad28 r.occ.payload).take 8 = (pad28 last.occ.payload).take 8 ∧ count < 65535)

/-- R405: a merge: the count and the last time of the record last written, and its CRC. -/
def State.vaultMerge (s : State) (r last : VRec) (count : Nat) (rest : List VRec) : State :=
  let a := vaultAddr ((s.word .VT_HEAD).toNat + 2 ^ 32 - 1)
  let s1 := (s.putBytes (a + 0x14) (le32 (count + 1))).putBytes (a + 0x18) (le64 (stampCode r.occ.stamp))
  let s2 := s1.putBytes (a + 0x3C) (le32 (crc32c (memReadBytes s1.mem a 60)))
  { s2 with vault := { s2.vault with queue := rest, last := some (last, count + 1) } }

/-- R404: a new record at VT_HEAD; the oldest goes once the ring is full. -/
def State.vaultNew (s : State) (r : VRec) (rest : List VRec) : State :=
  let q := (s.word .VT_HEAD).toNat
  let s1 := s.putBytes (vaultAddr q) (r.bytes q 1 r.occ.stamp s.vault.lostMark)
  let head := (q + 1) % 2 ^ 32
  let s2 := s1.setWord .VT_HEAD (BitVec.ofNat 32 head)
  let held := (head + 2 ^ 32 - (s.word .VT_TAIL).toNat) % 2 ^ 32
  let s3 := if 65536 < held then s2.setWord .VT_TAIL (BitVec.ofNat 32 (head + 2 ^ 32 - 65536)) else s2
  { s3 with vault := { queue := rest, last := some (r, 1), lostMark := false } }

/-- R404, R405, R413: the writer takes the first queued record; not while the Vault is unpowered or being cleared. -/
def State.vaultTake (s : State) : State :=
  if s.boot.vaultOn = false ∨ s.flag F.VT_STAT_CLRING then s
  else match s.vault.queue with
    | [] => s
    | r :: rest =>
      match s.vault.last with
      | some (last, count) =>
        if r.merges last count ∧ s.flag F.VT_CTL_FLOOD then s.vaultMerge r last count rest else s.vaultNew r rest
      | none => s.vaultNew r rest

/-- VAULT_RECORD_WRITE (R404, R405). -/
def execVaultRecordWrite (s : State) : Host.Outcome State Fault Refusal := .next s.vaultTake

/-- R404: the sequence number in a slot whose record passes its CRC. -/
def State.slotSeq (s : State) (k : Nat) : Option Nat :=
  let a := vaultAddr k
  if s.memWord (a + 0x3C) = BitVec.ofNat 32 (crc32c (memReadBytes s.mem a 60)) then some (s.memWord (a + 4)).toNat else none

/-- R404: at a boot the writer continues after the highest valid sequence number, or starts at 0. -/
def State.vaultScan (s : State) : State :=
  let l := (List.range 65536).filterMap s.slotSeq
  let head := match l with
    | [] => 0
    | a :: t => t.foldl max a + 1
  let tail := match l with
    | [] => 0
    | a :: t => t.foldl min a
  let s1 := (s.setWord .VT_HEAD (BitVec.ofNat 32 head)).setWord .VT_TAIL (BitVec.ofNat 32 tail)
  { s1 with vault := { s1.vault with last := none } }

/-- R413: VT_CTL.CLEAR. -/
def State.vaultClear (s : State) : State :=
  if (s.cellar.snap.map Snap.closed).getD false then s.answer stBusy
  else if s.flag F.GL_LOCK_OPEN = false then s.answer stLocked
  else
    let s1 := s.setWord .VT_TAIL (s.word .VT_HEAD)
    ({ s1 with vault := { s1.vault with last := none } }.setFlag F.VT_STAT_CLRING true).answer stOk

/-- VAULT_CLEAR (R413, R412). -/
def execVaultClear (s : State) : Host.Outcome State Fault Refusal := .next s.vaultClear

/-- A record's slot with its CRC complemented, where the slot holds a record. -/
def State.voidIf (s : State) (k : Nat) : Option Nat → State
  | some _ => s.putMemWord (vaultAddr k + 0x3C) (~~~ s.memWord (vaultAddr k + 0x3C))
  | none => s

/-- R413, R404: a slot is invalidated as the writer's first step does it: the CRC word is complemented. -/
def State.slotVoid (s : State) (k : Nat) : State := s.voidIf k (s.slotSeq k)

/-- VAULT_CLEAR_DONE (R413). -/
def execVaultClearDone (s : State) : Host.Outcome State Fault Refusal :=
  if s.flag F.VT_STAT_CLRING then
    .next ((s.each (List.range 65536) fun k t => t.slotVoid k).setFlag F.VT_STAT_CLRING false)
  else .next s

/-! The Attic queue (R340). -/

/-- R340: the Attic queue is processed in order, then what waited behind it. -/
def State.atticDrain (s : State) : State :=
  let l := occSort s.ev.attic ++ occSort s.ev.behind
  { s with ev := { s.ev with attic := [], behind := [] } }.each l fun o t => t.route o

/-- ATTIC_QUEUE_DRAIN (R338, R340). -/
def execAtticQueueDrain (s : State) : Host.Outcome State Fault Refusal :=
  if s.boot.vaultOn then .next s.atticDrain else .next s

/-! The Cellar (R408–R410). -/

/-- The memory cells of bytes at an address, in the canonical form. -/
def cellsAt (a : Nat) : List Byte → List Host.Cell
  | [] => []
  | b :: t => if b = memDefault then cellsAt (a + 1) t else (a, b) :: cellsAt (a + 1) t

/-- Replace a window of memory with bytes. -/
def State.fill (s : State) (a : Nat) (bs : List Byte) : State :=
  { s with mem := memReplace s.mem a bs.length (cellsAt a bs) }

/-- R408: a 24-bit code, saturated, and whether it was. -/
def code24 (x : Int) : Int × Bool := (clampI x (-8388608) 8388607, decide (x < -8388608 ∨ 8388607 < x))

/-- The three bytes of a 24-bit code. -/
def le24 (x : Int) : List Byte := (le32 (codeOf 24 x)).take 3

/-- R410: the six bytes of each channel at an instant; one the ring did not receive holds 0x80_0000 in both fields. -/
def RingInst.bytes (r : Option RingInst) : List Byte := match r with
  | some x => (List.range 128).flatMap fun n => le24 (x.v.getD n 0) ++ le24 (x.i.getD n 0)
  | none => (List.range 256).flatMap fun _ => [0, 0, 0x80]

/-- R410: the flags of an instant, bit n for channel n. -/
def RingInst.flags (r : Option RingInst) : List Byte := match r with
  | some x => (List.range 16).map fun k =>
      BitVec.ofNat 8 (((List.range 8).map fun b => if x.flag.getD (8 * k + b) true then 2 ^ b else 0).foldl (· + ·) 0)
  | none => List.replicate 16 0xFF

/-- R410: a channel's entry of the channel table. -/
def State.tableEntry (s : State) (n : Fin 128) : Nat :=
  s.chState n + s.fget (F.CH_MODE_MODE n) * 16 + s.fget (F.CH_MSTAT_IRANGE n) * 256

/-- CELLAR_HOST_TRIGGER (R409). -/
def execCellarHostTrigger (s : State) : Host.Outcome State Fault Refusal := .next ((s.trigger 4).answer stOk)

/-- R410: GL_STATE, CK_PPSSTAT and the channel table are taken at T. -/
def State.snapAtT (s : State) : State := match s.cellar.snap with
  | some sn =>
    if sn.atT.isNone ∧ sn.t ≤ s.ctr then
      let gl := s.glState
      let pps := putBits (s.word .CK_PPSSTAT) F.CK_PPSSTAT_HOLDH.lo F.CK_PPSSTAT_HOLDH.len s.holdHours
      let sn := { sn with atT := some (gl, pps, chans.map s.tableEntry) }
      { s with cellar := { s.cellar with snap := some sn } }
    else s
  | none => s

/-- R409, R410: the address of a slot's header area and data area. -/
def slotHeader (k : Fin 4) : Nat := 0xDDC000 + k.val * 0x9000
/-- R410. -/
def slotData (k : Fin 4) : Nat := 0x800000 + k.val * 0x177000

/-- CELLAR_CAPTURE_CLOSE (R409): the last instant, T + 49.9 ms, has entered the ring 400 µs after it; the writer begins, and
the slot's old header no longer passes. -/
def execCellarCaptureClose (s : State) : Host.Outcome State Fault Refusal :=
  match s.cellar.snap with
  | some sn =>
    if sn.closed = false ∧ sn.t + 49900 * us + 400 * us ≤ s.ctr then
      let s1 := s.snapAtT
      let sn := (s1.cellar.snap).getD sn
      let lo := sn.t - 150 * ms
      let data := s.cellar.ring.filter fun r => decide (lo ≤ r.m ∧ r.m < lo + 2000 * (100 * us))
      let s2 := { s1 with cellar := { s1.cellar with snap := some { sn with closed := true, data := data } } }
      let a := slotHeader sn.slot + 0x3C
      let s3 := if s.flag (F.VT_CSLOT_VALID sn.slot) then s2.putMemWord a (~~~ s2.memWord a) else s2
      .next ((((s3.setFlag F.VT_CSTAT_CAPT false).setFlag F.VT_CSTAT_WRITING true).setFlag (F.VT_CSLOT_BUSY sn.slot) true).setFlag
        (F.VT_CSLOT_VALID sn.slot) false)
    else .next s
  | none => .next s

/-- R410: bytes 0x00–0x3B of a snapshot header; `got` are the indexes received. -/
def Snap.header (sn : Snap) (gl pps : Word) (range crc : Nat) : List Byte :=
  le16 1 ++ [BitVec.ofNat 8 sn.slot.val, BitVec.ofNat 8 sn.causes] ++ le32 sn.num ++ le64 (stampCode sn.stamp)
  ++ le64 (stampCode (sn.t - 150 * ms)) ++ le16 sn.evNum ++ le16 sn.joined ++ le32 gl.toNat ++ le32 pps.toNat ++ le32 range
  ++ List.replicate 16 0 ++ le32 crc

/-- R409, R410: the slot of a closed capture is written, header last; a type 4 record follows. With no instant received, the
first and last index are free (notes/assumptions/5.md). -/
def State.slotWritten (s : State) (sn : Snap) : State :=
  let insts := (List.range 2000).map fun k => sn.data.find? fun r => r.m = sn.t - 150 * ms + k * 100 * us
  let got := (List.range 2000).filter fun k => (insts.getD k none).isSome
  let range := match got with
    | [] => s.freeWord.toNat
    | a :: _ => a + (got.getLastD a) * 65536
  let s0 := if got = [] then s.fresh else s
  let data := insts.flatMap RingInst.bytes
  let flags := insts.flatMap RingInst.flags
  let (gl, pps, tbl) := sn.atT.getD (s.glState, s.word .CK_PPSSTAT, chans.map s.tableEntry)
  let hdr := sn.header gl pps range (crc32c (data ++ flags))
  let a := slotHeader sn.slot
  let s1 := ((s0.fill (slotData sn.slot) data).fill (a + 0x400) flags).fill (a + 0x40) (tbl.flatMap le16)
  let s2 := s1.fill a (hdr ++ le32 (crc32c hdr))
  let s3 := { s2 with cellar := { s2.cellar with snap := none } }
  let k := sn.slot
  let s4 := (((s3.setFlag (F.VT_CSLOT_VALID k) true).setFlag (F.VT_CSLOT_FROZEN k) sn.freeze).setFlag (F.VT_CSLOT_BUSY k) false)
  let s5 := (s4.fset (F.VT_CSLOT_CAUSES k) sn.causes).fset (F.VT_CSLOT_SNAP k) sn.num
  ((s5.setFlag F.VT_CSTAT_WRITING false).fset F.VT_CSTAT_SNAP sn.num).record 4 482 0 sn.stamp (hdr.take 28)

/-- CELLAR_SLOT_WRITTEN (R409–R411): once the Vault is powered. -/
def execCellarSlotWritten (s : State) : Host.Outcome State Fault Refusal :=
  match s.cellar.snap with
  | some sn => if sn.closed ∧ s.boot.vaultOn then .next (s.slotWritten sn) else .next s
  | none => .next s

/-- R410: a frozen slot is released. -/
def State.slotRelease (s : State) (k : Fin 4) : State := (s.setFlag (F.VT_CSLOT_FROZEN k) false).answer stOk

/-- CELLAR_SLOT_RELEASE (R410). -/
def execCellarSlotRelease (sl : Fin 4) (s : State) : Host.Outcome State Fault Refusal := .next (s.slotRelease sl)

end Sys2Proof.Machine
end

