-- ==== Sys2Proof/Machine/Link.lean ====
section
/-! DEFINITION. What the host link's commands share: frames (R346, R354), sessions (R351–R357), the link-rate handshake
(R372), event frames (R365), streams (R366–R370) and the packets a port answers (R344). -/

namespace Sys2Proof.Machine

open Sys2Proof

/-! Sessions. -/

/-- The session number 0–8 a command's session names; none for an anonymous frame. -/
def sessIx : Sess → Option (Fin 9)
  | .anon => none
  | .spi => some 8
  | .slot k => some ⟨k.val, by omega⟩

/-- The port's number of LinkPort. -/
def portIx : LinkPort → Nat
  | .la => 0 | .lb => 1 | .spi => 2

/-- Change a session. -/
def State.modSess (s : State) (k : Fin 9) (f : SessSt → SessSt) : State := s.setSessAt k (f (s.sessAt k))

/-- R351: the SPI session has write rights without authentication unless HL_CFG.SPIAUTH = 1. -/
def State.writer (s : State) (k : Fin 9) : Bool :=
  let x := s.sessAt k
  if k = 8 then x.auth || !s.flag F.HL_CFG_SPIAUTH else x.opn && x.auth

/-- R377: HL_SESS of a slot. -/
def State.sessWord (s : State) (k : Fin 8) : Word :=
  let x := s.link.sess[k]
  if x.opn = false then 0
  else BitVec.ofNat 32 (1 + x.auth.toNat * 2 + x.evsub.toNat * 4 + x.lmgr.toNat * 8 + (portIx x.port % 2) * 16
    + min 255 ((s.time - x.heard) / sec) * 256 + x.num % 65536 * 65536)

/-- R377: HL_STAT.SESS. -/
def State.sessCount (s : State) : Nat := (s.link.sess.toList.filter fun x => x.opn && x.auth).length

/-- R14, R357: a session closes: the lock it opened, its subscriptions, its transfers; event 418. The SPI session stays, without
what it had. -/
def State.closeSess (s : State) (k : Fin 9) : State :=
  let x := s.sessAt k
  let me : Sess := if h : k.val < 8 then .slot ⟨k.val, h⟩ else .spi
  let s1 := if s.lockBy = some me then s.lockClose else s
  let s2 := s1.setSessAt k (if k = 8 then { opn := true, num := 0xFFFFFFFF, port := .spi, busy := x.busy, resp := x.resp, cached := x.cached, last := x.last, heard := x.heard }
    else {})
  let out := if k = 8 then s2.link.spiOut.filter fun f => f.cls ≠ 3 else s2.link.spiOut
  let s3 := { s2 with link := { s2.link with bulk := { s2.link.bulk with reads := s2.link.bulk.reads.filter fun r => r.sess ≠ me }, spiOut := out } }
  let s4 := s3.fset F.HL_BULK_ROPEN s3.link.bulk.reads.length
  let s5 := if s.link.bulk.owner = me ∧ s.flag F.HL_BULK_WOPEN then s4.setFlag F.HL_BULK_WOPEN false else s4
  if x.auth ∨ k = 8 then s5.raise 418 0 else s5

/-- SESSION_TIMEOUT (R371, R375): STMO seconds without a valid frame; one in the tick of expiry keeps the session. -/
def execSessionTimeout (k : Fin 8) (s : State) : Host.Outcome State Fault Refusal :=
  let x := s.link.sess[k]
  if x.opn ∧ x.heard + s.fget F.HL_CFG_STMO * sec < s.time then .next (s.closeSess ⟨k.val, by omega⟩) else .next s

/-- AUTH_LOCKOUT_END (R355, R375): after 60 s; in the tick of its end the lock-out still holds. -/
def execAuthLockoutEnd (s : State) : Host.Outcome State Fault Refusal :=
  match s.link.lockAt with
  | some t =>
    if t + 60 * sec < s.time then
      .next ({ s with link := { s.link with lockAt := none, failAt := [] } }.setFlag F.HL_KEYSTAT_AUTHLOCK false)
    else .next s
  | none => .next s

/-! Frames (R346, R354). -/

/-- R346: the 16-byte header. -/
def frameHeader (cls flags seq len sess : Nat) : List Byte :=
  [1, BitVec.ofNat 8 cls] ++ le16 flags ++ le32 seq ++ le32 len ++ le32 sess

/-- R354: the tag of a frame under a session key. -/
def tagOf (key : List Byte) (cls flags seq sess : Nat) (payload : List Byte) : List Byte :=
  (Config.hmacSha256 key (frameHeader cls flags seq payload.length sess ++ payload)).toList.take 16

/-- R346: the bytes of a frame. -/
def OutFrame.bytes (f : OutFrame) : List Byte :=
  let b := frameHeader f.cls f.flags f.seq f.payload.length f.sess ++ f.payload ++ f.tag
  b ++ le32 (crc32c b)

/-- R354: a frame of a session, tagged when the session is authenticated. -/
def SessSt.frame (x : SessSt) (cls flags seq : Nat) (payload : List Byte) : OutFrame :=
  let f : OutFrame := { port := x.port, peer := x.peer, cls := cls, flags := flags, seq := seq, sess := x.num, payload := payload }
  if x.auth then { f with flags := flags + 1, tag := tagOf x.key cls (flags + 1) seq x.num payload } else f

/-- A frame goes out: on the SPI port it waits for a READ (R373); on LA or LB it is on the wire while the link is up. -/
def State.transmit (s : State) (f : OutFrame) : State :=
  match f.port with
  | .spi => { s with link := { s.link with spiOut := s.link.spiOut ++ [f] } }
  | .la => if s.flag (F.HL_PSTAT_LINK 0) then { s with link := { s.link with wire := f :: s.link.wire } } else s
  | .lb => if s.flag (F.HL_PSTAT_LINK 1) then { s with link := { s.link with wire := f :: s.link.wire } } else s

/-! Link rates (R372). -/

/-- HL_RATE.STATE. -/
def State.rateState (s : State) : Nat := s.fget F.HL_RATE_STATE

/-- Change the handshake. -/
def State.modRate (s : State) (f : RateSt → RateSt) : State := { s with link := { s.link with rate := f s.link.rate } }

/-- The sessions subscribed as link manager. -/
def State.managers (s : State) : List (Fin 9) := allSess.filter fun k => (s.sessAt k).opn && (s.sessAt k).lmgr

/-- R372: a class 0x30 frame to every link manager. Its sequence the manual leaves open (notes/assumptions/5.md). -/
def State.rateFrames (s : State) (op : Nat) : State :=
  let r := s.link.rate
  let p := [BitVec.ofNat 8 op, 0, 0, 0, BitVec.ofNat 8 r.la, BitVec.ofNat 8 r.lb, 0, 0] ++ le64 (stampCode r.t)
  s.each s.managers fun k t => (t.transmit ((t.sessAt k).frame 0x30 0 t.freeWord.toNat p)).fresh

/-- R372, R378: HL_PSTAT.RATE of a handshake's rate code on a port: 3 stopped; 1000BASE-X keeps Clause 37 where configured. -/
def State.rateCode (s : State) (p : Fin 2) (c : Nat) : Nat :=
  if c = 2 then 3 else if c = 0 then 0 else if s.fget (F.HL_PCFG_RATE p) = 2 then 2 else 1

/-- R370, R372: D set again at the next evaluation, which is due at once. -/
def State.decDue (s : State) : State := { s with link := { s.link with decAt := s.time } }

/-- R372: the ports change rate: LB stops or retrains, LA retrains. -/
def State.rateSwitch (s : State) : State :=
  let r := s.link.rate
  let s1 := s.modRate fun r => { r with oldLa := s.fget (F.HL_PSTAT_RATE 0), oldLb := s.fget (F.HL_PSTAT_RATE 1) }
  let s2 := ((s1.linkTo 0 false).linkTo 1 false).fset (F.HL_PSTAT_RATE 0) (s.rateCode 0 r.la)
  ((s2.fset (F.HL_PSTAT_RATE 1) (s.rateCode 1 r.lb)).fset F.HL_RATE_STATE 2).decDue

/-- R372: the controller proposes rates; without a manager, or with HSREQ = 0, it switches at once. -/
def State.propose (s : State) (la lb : Nat) (restore : Bool) : State :=
  let s1 := s.modRate fun r =>
    { r with la := la, lb := lb, t := s.ctr + 2 * sec, proposedAt := s.time, accepted := false, retryAt := none,
             restore := restore }
  if s.flag F.HL_CFG_HSREQ = false ∨ s.managers = [] then (s1.modRate fun r => { r with t := s.ctr }).rateSwitch
  else (s1.rateFrames 1).fset F.HL_RATE_STATE 1

/-- R372: the handshake for sleep. -/
def State.proposeSleep (s : State) : State := s.propose 1 2 false

/-- R372: the rates of HL_PCFG.RATE are proposed. -/
def State.proposeRestore (s : State) : State :=
  s.propose (min 1 (s.fget (F.HL_PCFG_RATE 0))) (min 1 (s.fget (F.HL_PCFG_RATE 1))) true

/-- R372: on an exit to STANDBY or RUN: sleep rates are restored; a switch under way completes first; a proposal is
withdrawn. -/
def State.rateExit (s : State) : State :=
  let s1 := { s with mode := { s.mode with handshake := false } }
  match s.rateState with
  | 3 => s1.proposeRestore
  | 2 => s1.modRate fun r => { r with done := true }
  | 1 => (s1.modRate fun r => { r with retryAt := none }).fset F.HL_RATE_STATE 0
  | _ => s1.modRate fun r => { r with retryAt := none }

/-- RATE_SWITCH (R372): the accepted T is reached. -/
def execRateSwitch (s : State) : Host.Outcome State Fault Refusal :=
  let r := s.link.rate
  if s.rateState = 1 ∧ r.accepted ∧ r.t < s.ctr + tCtl then .next s.rateSwitch else .next s

/-- R376: may a port's link be up: enabled, not stopped, SDPLL locked, its clock on? -/
def State.linkable (s : State) (p : Fin 2) : Bool :=
  s.flag (F.HL_PCFG_EN p) && decide (s.fget (F.HL_PSTAT_RATE p) ≠ 3) && s.flag F.CK_PLLSTAT_LOCK3 && s.served
    && s.gateOn (if p = 0 then 5 else 6)

/-- RATE_SWITCH_DONE (R372): LA's link is up at the new rate by T + 2 s: DONE, event 421. An exit asked meanwhile is proposed
now. -/
def execRateSwitchDone (s : State) : Host.Outcome State Fault Refusal :=
  if s.rateState = 2 ∧ s.linkable 0 ∧ s.ctr ≤ s.link.rate.t + 2 * sec then
    let r := s.link.rate
    let s1 := ((s.linkTo 0 true).rateFrames 4).raise 421 0
    let s2 := s1.fset F.HL_RATE_STATE (if r.restore then 0 else 3)
    let s3 := { s2 with mode := { s2.mode with handshake := !r.restore } }
    .next (if r.done ∧ ¬ r.restore then (s3.modRate fun r => { r with done := false }).rateExit
      else s3.modRate fun r => { r with done := false })
  else .next s

/-- RATE_SWITCH_TIMEOUT (R372): LA not up by T + 2 s: the former rates, FAIL, event 422, and a proposal 10 s later. -/
def execRateSwitchTimeout (s : State) : Host.Outcome State Fault Refusal :=
  let r := s.link.rate
  if s.rateState = 2 ∧ r.t + 2 * sec < s.ctr then
    let s1 := (s.fset (F.HL_PSTAT_RATE 0) r.oldLa).fset (F.HL_PSTAT_RATE 1) r.oldLb
    let s2 := (s1.setFlag F.HL_RATE_FAIL true).fset F.HL_RATE_STATE (if r.restore then 3 else 0)
    .next ((s2.modRate fun r => { r with retryAt := some (s.time + 10 * sec), done := false }).decDue.raise 422 1)
  else .next s

/-- PROPOSE_RESEND (R372): every 200 ms until accepted or refused. -/
def execProposeResend (s : State) : Host.Outcome State Fault Refusal :=
  let r := s.link.rate
  if s.rateState = 1 ∧ r.accepted = false ∧ s.reached (r.proposedAt + 200 * ms) then
    .next ((s.rateFrames 1).modRate fun r => { r with proposedAt := s.time })
  else .next s

/-- R372: an ACCEPT or REFUSE of a session subscribed as link manager. -/
def State.rateControl (s : State) (k : Fin 9) (op : Nat) : State :=
  let r := s.link.rate
  if (s.sessAt k).lmgr = false ∨ s.rateState ≠ 1 then s
  else if op = 2 then
    if r.accepted then s
    else if s.ctr + 500 * ms ≤ r.t then s.modRate fun r => { r with accepted := true }
    else (s.modRate fun r => { r with retryAt := some s.time }).fset F.HL_RATE_STATE (if r.restore then 3 else 0)
  else if op = 3 then
    (s.modRate fun r => { r with refused := !r.restore }).fset F.HL_RATE_STATE (if r.restore then 3 else 0)
  else s

/-- RATE_CONTROL_FRAME (R372). -/
def execRateControlFrame (x : Sess) (op : Fin 256) (s : State) : Host.Outcome State Fault Refusal :=
  match sessIx x with
  | some k => .next (s.rateControl k op.val)
  | none => .next s

/-- LINK_CHANGE (R376): a port's link comes up only where it is enabled, not stopped, and SDPLL is locked. -/
def execLinkChange (p : Fin 2) (up : Bool) (s : State) : Host.Outcome State Fault Refusal :=
  if up ∧ s.linkable p = false then .next s
  else .next (s.linkTo p up).decDue

/-- R377: is a register a port register? -/
def portReg : Reg → Option (Fin 2)
  | .HL_PCFG p => some p
  | .HL_IP4 p => some p
  | .HL_GW4 p => some p
  | .HL_PLEN p => some p
  | .HL_IP6 p _ => some p
  | _ => none

/-- R377, R378: an accepted write to a port register restarts the port's link, with its configured rate, and is saved. -/
def State.portWrite (s : State) (r : Reg) (p : Fin 2) (val : Word) : State :=
  let s1 := s.writeReg r val
  if s1.status = stOk then
    let s2 := (s1.linkTo p false).dirtyRegion .link
    if s.rateState = 0 then s2.fset (F.HL_PSTAT_RATE p) (s2.fget (F.HL_PCFG_RATE p)) else s2
  else s1

/-! Event frames (R365). -/

/-- R365: the payload of an event frame. -/
def EvFrame.payload (f : EvFrame) (k : Nat) : List Byte :=
  le16 f.occs.length ++ le16 0 ++ ((List.range f.occs.length).zip f.occs).flatMap fun p => Occ.frameRecord (k + p.1) p.2

/-- R365: an event frame goes out; one that still waits to be read on the SPI port waits on (R373). -/
def State.sendEvent (s : State) (k : Fin 9) (f : EvFrame) : State :=
  if k = 8 ∧ (s.link.spiOut.any fun g => decide (g.cls = 3 ∧ g.seq = f.seq)) then s
  else (s.transmit ((s.sessAt k).frame 0x03 0 f.seq (f.payload s.free))).freshN f.occs.length

/-- EVENT_FRAME_SEND (R365): the first frame not sent yet. -/
def execEventFrameSend (k : Fin 9) (s : State) : Host.Outcome State Fault Refusal :=
  let x := s.sessAt k
  if s.flag F.HL_STAT_RECOV then .next s
  else match x.evq.find? fun f => f.sent.isNone with
  | some f =>
    let mark (g : EvFrame) : EvFrame := if g.seq = f.seq then { g with sent := some s.time } else g
    .next ((s.modSess k fun x => { x with evq := x.evq.map mark }).sendEvent k f)
  | none => .next s

/-- EVENT_FRAME_RESEND (R365): every frame sent 100 ms ago or more that no ACK covers; one in the tick it falls due still holds it
back (R375). -/
def execEventFrameResend (k : Fin 9) (s : State) : Host.Outcome State Fault Refusal :=
  let due (f : EvFrame) : Bool := f.sent.any fun t => decide (t + 100 * ms < s.time)
  let l := if s.flag F.HL_STAT_RECOV then [] else (s.sessAt k).evq.filter due
  let s1 := s.modSess k fun x => { x with evq := x.evq.map fun f => if due f then { f with sent := some s.time } else f }
  .next (s1.each l fun f t => t.sendEvent k f)

/-- R356: a sequence at or before another, mod 2^32. -/
def seqCovers (ack seq : Nat) : Bool := decide ((ack + 2 ^ 32 - seq) % 2 ^ 32 < 2 ^ 31)

/-! Streams (R366–R370). -/

/-- R367: the channel groups a stream carries. -/
def State.streamGroups (s : State) (st : Fin 5) : List (Fin 16) :=
  (List.finRange 16).filter fun g => (s.word (.HL_SCFG st)).getLsbD (16 + g.val)

/-- R345, R370, R372: the ports a frame of a stream goes to, for the parity of its index; none: it cannot be sent. -/
def State.streamPorts (s : State) (st : Fin 5) (index : Nat) : List (Fin 2) :=
  let up (p : Fin 2) : Bool := s.flag (F.HL_PSTAT_LINK p)
  let one (p : Fin 2) : List (Fin 2) :=
    if up p then [p] else if s.flag (F.HL_SCFG_FAILOV st) ∧ up (1 - p) then [1 - p] else []
  if s.rateState = 3 then (if up 0 then [0] else [])
  else match s.fget (F.HL_SCFG_PORT st) with
    | 0 => one 0
    | 1 => one 1
    | 2 => (one 0 ++ one 1).eraseDups
    | _ => if index % 2 = 0 then one 0 else one 1

/-- R379: a stream's destination. -/
def State.streamPeer (s : State) (st : Fin 5) : Peer :=
  let d : Fin 4 := Fin.ofNat 4 (s.fget (F.HL_SCFG_DEST st))
  let be (w : Word) : List Byte := (bytesOf w).reverse
  { udp := s.fget (F.HL_DCFG_UPORT d),
    ip := if s.flag (F.HL_DCFG_FAM d) then
        be (s.word (.HL_DADDR d 0)) ++ be (s.word (.HL_DADDR d 1)) ++ be (s.word (.HL_DADDR d 2)) ++ be (s.word (.HL_DADDR d 3))
      else be (s.word (.HL_DADDR d 0)) }

/-- R366: the header of a stream's frame. -/
def State.streamHeader (s : State) (st : Fin 5) : List Byte :=
  le16 1 ++ [BitVec.ofNat 8 (s.fget (F.HL_SSTAT_DECL2 st)), 0] ++ le32 (s.word (.HL_SDROP st)).toNat

/-- The next sequence of a stream to its destination. -/
def State.streamSeq (s : State) (st : Fin 5) : Nat :=
  (s.link.streams[st]).seq[(Fin.ofNat 4 (s.fget (F.HL_SCFG_DEST st)) : Fin 4)]

/-- The stream's next sequence is taken. -/
def State.streamSeqNext (s : State) (st : Fin 5) : State :=
  let d : Fin 4 := Fin.ofNat 4 (s.fget (F.HL_SCFG_DEST st))
  let x := s.link.streams[st]
  { s with link := { s.link with streams := s.link.streams.set st { x with seq := x.seq.set d ((x.seq[d] + 1) % 2 ^ 32) } } }

/-- A stream frame goes out on its ports; one that cannot is counted in DROPS. -/
def State.sendStream (s : State) (st : Fin 5) (index : Nat) (body : List Byte) : State :=
  let frame (p : Fin 2) : OutFrame :=
    { port := if p = 0 then .la else .lb, peer := s.streamPeer st, cls := 0x10 + st.val, flags := 0, seq := s.streamSeq st,
      sess := 0, payload := s.streamHeader st ++ body }
  match s.streamPorts st index with
  | [] => s.incWrap (F.HL_SDROP_DROPS st)
  | ps => (s.each ps fun p t => t.transmit (frame p)).streamSeqNext st

/-- R368: an item with its KIND and ILEN. -/
def RecItem.framed (it : RecItem) : List Byte := [BitVec.ofNat 8 it.kind, 0] ++ le16 it.bytes.length ++ it.bytes

/-- R368: the unsent items that fit a frame of the given room: how many of them. -/
def fitItems : List RecItem → Nat → Nat
  | [], _ => 0
  | it :: t, room => if it.framed.length ≤ room then 1 + fitItems t (room - it.framed.length) else 0

/-- The first k unsent items of a queue are marked with the frame they leave in. -/
def markItems : List RecItem → Nat → Nat → List RecItem
  | [], _, _ => []
  | it :: t, 0, _ => it :: t
  | it :: t, k + 1, seq => if it.frame.isSome then it :: markItems t (k + 1) seq else { it with frame := some seq } :: markItems t k seq

/-- What is still to be taken into a record frame, and what has been. -/
structure RecFill where
  st : State
  room : Nat
  out : List Byte := []
  more : Bool := false
  deriving DecidableEq, Repr

/-- R368: a channel's unsent items go into the frame, in order, until it is full; with REL = 0 they leave the queue. -/
def RecFill.take (f : RecFill) (n : Fin 128) (seq : Nat) (rel sel : Bool) : RecFill :=
  let q := (f.st.lane1 n).x.recQ
  if sel = false then { f with st := f.st.modX n fun x => { x with recQ := [] } }
  else
    let new := q.filter fun it => it.frame.isNone
    let k := fitItems new f.room
    let bytes := (new.take k).flatMap RecItem.framed
    let q1 := markItems q k seq
    let q2 := if rel then q1 else q1.filter fun it => it.frame.isNone
    { st := if q = [] then f.st else f.st.modX n fun x => { x with recQ := q2 }, room := f.room - bytes.length, out := f.out ++ bytes,
      more := f.more || decide (k < new.length) }

/-- The same for the shelf's own items. -/
def RecFill.takeShelf (f : RecFill) (seq : Nat) (rel : Bool) : RecFill :=
  let q := f.st.sh.recQ
  let new := q.filter fun it => it.frame.isNone
  let k := fitItems new f.room
  let bytes := (new.take k).flatMap RecItem.framed
  let q1 := markItems q k seq
  let q2 := if rel then q1 else q1.filter fun it => it.frame.isNone
  { st := { f.st with sh := { f.st.sh with recQ := q2 } }, room := f.room - bytes.length, out := f.out ++ bytes,
    more := f.more || decide (k < new.length) }

/-- The payload bytes of all unsent items. -/
def State.unsentBytes (s : State) : Nat :=
  let size (q : List RecItem) : Nat := ((q.filter fun it => it.frame.isNone).map fun it => it.framed.length).foldl (· + ·) 0
  size s.sh.recQ + (chans.map fun n => size (s.lane1 n).x.recQ).foldl (· + ·) 0

/-- RECORD_FRAME_SEND (R368): a frame leaves when full, or 1 ms after its first item. -/
def execRecordFrameSend (s : State) : Host.Outcome State Fault Refusal :=
  match s.link.recFrom with
  | some t =>
    if s.flag (F.HL_SCFG_EN 0) ∧ ¬ s.flag F.HL_STAT_RECOV ∧ (s.reached (t + ms) ∨ 1424 ≤ s.unsentBytes) then
      let seq := s.streamSeq 0
      let rel := s.flag (F.HL_SCFG_REL 0)
      let gs := s.streamGroups 0
      let f := chans.foldl (fun f n => f.take n seq rel (decide (Fin.ofNat 16 (n.val / 8) ∈ gs))) { st := s, room := 1424 : RecFill }
      let f := f.takeShelf seq rel
      let s1 := { f.st with link := { f.st.link with recFrom := if f.more then some t else none } }
      if f.out = [] then .next s1
      else
        let body := f.out
        let s2 := if rel then
            { s1 with link := { s1.link with
                recs := s1.link.recs ++ [{ seq := seq, payload := s.streamHeader 0 ++ body, sentAt := s.time }] } } else s1
        .next (s2.sendStream 0 seq body)
    else .next s
  | none => .next s

/-- RECORD_FRAME_RESEND (R368, R375): with REL = 1, every frame sent 20 ms ago or more that no ACK covers, unchanged. -/
def execRecordFrameResend (s : State) : Host.Outcome State Fault Refusal :=
  if s.flag (F.HL_SCFG_REL 0) ∧ s.flag (F.HL_SCFG_EN 0) ∧ ¬ s.flag F.HL_STAT_RECOV then
    let due (f : RecFrame) : Bool := decide (f.sentAt + 20 * ms < s.time)
    let l := s.link.recs.filter due
    let s1 := { s with link := { s.link with recs := s.link.recs.map fun f => if due f then { f with sentAt := s.time } else f } }
    let send (f : RecFrame) (p : Fin 2) : OutFrame :=
      { port := if p = 0 then .la else .lb, peer := s.streamPeer 0, cls := 0x10, flags := 0, seq := f.seq, sess := 0,
        payload := f.payload }
    .next (s1.each l fun f t => t.each (t.streamPorts 0 f.seq) fun p u => u.transmit (send f p))
  else .next s

/-- R368: an ACK for class 0x10 releases the items of the frames it covers. -/
def State.recAck (s : State) (ack : Nat) : State :=
  let keep (it : RecItem) : Bool := match it.frame with
    | some q => !seqCovers ack q
    | none => true
  let s1 := { s with link := { s.link with recs := s.link.recs.filter fun f => !seqCovers ack f.seq },
                     sh := { s.sh with recQ := s.sh.recQ.filter keep } }
  s1.each chans fun n t =>
    if (t.lane1 n).x.recQ = [] then t else t.modX n fun x => { x with recQ := x.recQ.filter keep }

/-- R26: the 24-bit code of a channel's current. One outside the span of 2^23 codes has no stated code: it is free
(notes/assumptions/148.md). -/
def State.currCode (s : State) (n : Fin 128) : Int :=
  let c := (s.lane1 n).m.msCode
  if c < -2 ^ 23 ∨ 2 ^ 23 - 1 < c then signedOf 24 (bitsOf (Config.freeWord (s.free + n.val)) 0 24) else c

/-- R367: one channel's 12 bytes of the metrology stream. -/
def State.metEntry (s : State) (n : Fin 128) : List Byte :=
  let m := (s.lane1 n).m
  le24 m.ms.v ++ [BitVec.ofNat 8 m.msTagV] ++ le24 (s.currCode n) ++ [BitVec.ofNat 8 m.msTagI]
  ++ [BitVec.ofNat 8 (s.chState n + s.fget (F.CH_MODE_MODE n) * 16), 0, 0, 0]

/-- R367: one channel's 16 bytes of the control stream. -/
def State.ctlEntry (s : State) (n : Fin 128) : List Byte :=
  let m := (s.lane1 n).m
  le32 (codeOf 32 m.cs.v) ++ le32 (codeOf 32 m.cs.i) ++ le32 (s.word (.CH_REF n)).toNat ++ le24 (s.word (.CH_DUTY n)).toNat
  ++ [BitVec.ofNat 8 (m.cs.rs.toNat + m.cs.xs.toNat * 2 + m.cs.ovr.toNat * 4 + (s.flag (F.CH_MODE_SKIP n)).toNat * 8
      + (s.flag (F.CH_STATE_NPH n)).toNat * 16)]

/-- R367: one channel's 4 bytes of the aging stream. -/
def State.ageEntry (s : State) (n : Fin 128) : List Byte := match (s.lane1 n).m.aging with
  | some v => le32 (codeOf 32 v)
  | none => [0, 0, 0, 0x80]

/-- R367: the frames of an instant: its stamp, the groups of the frame, and their entries. -/
def State.groupFrames (s : State) (st : Fin 5) (stamp per : Nat) (entry : Fin 128 → List Byte) : List (List Byte) :=
  let gs := s.streamGroups st
  let body (l : List (Fin 16)) : List Byte :=
    le64 (stampCode stamp) ++ le16 ((l.map fun g => 2 ^ g.val).foldl (· + ·) 0) ++ le16 0
    ++ l.flatMap fun g => (List.range 8).flatMap fun j => entry (Fin.ofNat 128 (8 * g.val + j))
  ([gs.take per, (gs.drop per).take per].filter fun l => l ≠ []).map body

/-- R369: the current range of a modulator in each of the last 55 control periods, oldest first, two bits each. -/
def State.rawRanges (s : State) (md : Nat) : List Byte :=
  let rs : List Nat := if md % 2 = 0 then List.replicate 55 0
    else if md = 257 ∧ ¬ s.flag F.LN_ADOPT_ACT then List.replicate 55 s.lane.range
    else (((s.lane1 (if md = 257 then Fin.ofNat 128 (s.fget F.LN_ADOPT_CH) else Fin.ofNat 128 (md / 2))).m.hist.take 55).map Sample.r).reverse
  let v := ((List.range 55).map fun k => rs.getD k 0 * 4 ^ k).foldl (· + ·) 0
  (List.range 14).map fun k => BitVec.ofNat 8 (v / 256 ^ k)

/-- R369: a raw-tap frame of a modulator: its 55 periods end at the last boundary. -/
def State.rawBody (s : State) (md : Nat) (raw : List Byte) : List Byte :=
  let lane : Nat := if md < 256 then 0
    else s.lane.conn.isSome.toNat + (s.flag F.LN_ADOPT_ACT).toNat * 2
      + (if s.flag F.LN_ADOPT_ACT then s.fget F.LN_ADOPT_CH else s.fget F.LN_POS_POS) * 256
  le64 (stampCode (s.ctr - 54 * tCtl)) ++ le16 md ++ le16 lane ++ s.rawRanges md ++ (raw ++ List.replicate 1375 0).take 1375

/-- R370: is an instant kept at the decimation in force? -/
def State.streamKeeps (s : State) (st : Fin 5) (index : Nat) : Bool := decide (index % 2 ^ s.fget (F.HL_SSTAT_DECL2 st) = 0)

/-- The frames of a metrology, control or aging instant, once. -/
def State.sendInstant (s : State) (st : Fin 5) (stamp per size : Nat) (entry : Fin 128 → List Byte) : State :=
  let x := s.link.streams[st]
  if x.lastAt = some stamp then s
  else
    let s1 := { s with link := { s.link with streams := s.link.streams.set st { x with lastAt := some stamp } } }
    let index := stamp / size
    if s.streamKeeps st index then s1.each (s.groupFrames st stamp per entry) fun b t => t.sendStream st index b else s1

/-- R369, R370, R424: a modulator's raw-tap frame, once for each 55 control periods that end at the last boundary (frames begin at
multiples of 550 µs: notes/assumptions/191.md). At the throttle level it is only counted in drops. -/
def State.sendRaw (s : State) (md : Fin 258) (raw : List Byte) : State :=
  let x := s.link.streams[(4 : Fin 5)]
  let mods := if x.lastAt = some s.ctr then x.mods else []
  let chosen := if md.val < 256 then decide ((Fin.ofNat 16 (md.val / 16) : Fin 16) ∈ s.streamGroups 4) else s.flag (F.HL_SCFG_LANE 4)
  let index := s.ctr / (55 * tCtl)
  if s.sampling = false ∨ chosen = false ∨ (s.ctr / tCtl) % 55 ≠ 54 ∨ md.val ∈ mods then s
  else
    let y := { x with lastAt := some s.ctr, mods := md.val :: mods }
    let s1 := { s with link := { s.link with streams := s.link.streams.set 4 y } }
    if s.flag F.TS_STAT_THR then s1.incWrap (F.HL_SDROP_DROPS 4)
    else if s.streamKeeps 4 index then s1.sendStream 4 index (s.rawBody md.val raw) else s1

/-- STREAM_FRAME_SEND (R366, R367, R369, R424): the frames of a stream at its present instant; for the raw tap one frame of the
modulator `md` with its bits. The control stream and the raw tap run while the channels are sampled each period. -/
def execStreamFrameSend (st : Fin 5) (md : Fin 258) (raw : List Byte) (s : State) : Host.Outcome State Fault Refusal :=
  if s.flag (F.HL_SCFG_EN st) = false ∨ s.flag F.HL_STAT_RECOV then .next s
  else match st.val with
    | 1 => .next ((s.sendInstant 1 (s.lane1 0).m.ms.stamp 8 (100 * us) s.metEntry).freshN 128)
    | 2 => .next (if s.sampling then s.sendInstant 2 s.ctr 8 tCtl s.ctlEntry else s)
    | 3 => .next (s.sendInstant 3 (s.lane1 0).m.agAt 16 sec s.ageEntry)
    | 4 => .next (s.sendRaw md raw)
    | _ => .next s

/-- R370: a port's rate for streams, bit/s: 95 % of 10 or 1 Gbit/s, nothing while its link is down. -/
def State.portRate (s : State) (p : Fin 2) : Nat :=
  if s.flag (F.HL_PSTAT_LINK p) = false then 0
  else match s.fget (F.HL_PSTAT_RATE p) with
    | 0 => 9500000000
    | 1 => 950000000
    | 2 => 950000000
    | _ => 0

/-- R370: bits per second of a stream at D = 1 on the wire: each frame's payload with 86 bytes around it over IPv4, 106 over
IPv6. -/
def State.streamDemand (s : State) (st : Fin 5) : Nat :=
  let ovrHd := if s.flag (F.HL_DCFG_FAM (Fin.ofNat 4 (s.fget (F.HL_SCFG_DEST st)))) then 106 else 86
  let g := (s.streamGroups st).length
  let split (size : Nat) : Nat :=
    (if 8 < g then 20 + 64 * size + ovrHd else 0) + (if g = 0 then 0 else 20 + (if 8 < g then g - 8 else g) * 8 * size + ovrHd)
  match st.val with
  | 1 => split 12 * 8 * 10000
  | 2 => split 16 * 8 * 100000
  | 3 => (20 + g * 32 + ovrHd) * 8
  | 4 => (16 * g + (if s.flag (F.HL_SCFG_LANE 4) then 2 else 0)) * (1409 + ovrHd) * 8 * 100000 / 55
  | _ => 0

/-- What is left of each port's rate while the streams are served. -/
structure Rates where
  a : Nat
  b : Nat
  deriving DecidableEq, Repr

/-- R370: what of a stream's demand, divided by D, each port carries. -/
def State.portDemand (s : State) (st : Fin 5) (x : Nat) : Nat × Nat :=
  match s.fget (F.HL_SCFG_PORT st) with
  | 0 => if s.streamPorts st 0 = [1] then (0, x) else (x, 0)
  | 1 => if s.streamPorts st 0 = [0] then (x, 0) else (0, x)
  | 2 => (x, x)
  | _ => (x / 2, x / 2)

/-- R370: a stream's demand at 2^-d fits its share at `pct` percent. -/
def State.fits (s : State) (st : Fin 5) (r : Rates) (d pct : Nat) : Bool :=
  let x := s.streamDemand st / 2 ^ d
  let (a, b) := s.portDemand st x
  let allot := s.fget (F.HL_SALLOT_ALLOT st) * 10000000
  decide (a * 100 ≤ r.a * pct ∧ b * 100 ≤ r.b * pct) && (allot == 0 || decide (x * 100 ≤ allot * pct))

/-- R370, R424: the log2 of D a stream asks for: the smallest that fits, at most 10; the control stream at least 3 at the
throttle level. -/
def State.wantDec (s : State) (st : Fin 5) (r : Rates) : Nat :=
  let d := ((List.range 11).find? fun d => s.fits st r d 100).getD 10
  if st = 2 ∧ s.flag F.TS_STAT_THR then max 3 d else d

/-- R370: one stream at an evaluation: an increase at once, a decrease one step after its lower D would have fitted 75 % of the
share for 1 s; event 425 on a change. -/
def State.evalStream (s : State) (p : State × Rates) (st : Fin 5) : State × Rates :=
  let (t, r) := p
  let now := s.fget (F.HL_SSTAT_DECL2 st)
  let want := s.wantDec st r
  let floor := if st = 2 ∧ s.flag F.TS_STAT_THR then 3 else 0
  let fit := decide (floor < now) && s.fits st r (now - 1) 75
  let since := s.link.streams[st].fitsSince
  let lower := fit && since.any fun x => decide (x + sec ≤ s.time)
  let d := if now < want then want else if lower then now - 1 else now
  let keep : Option Nat := if d ≠ now then none else if fit then some (since.getD s.time) else none
  let x := t.link.streams[st]
  let t1 := { t with link := { t.link with streams := t.link.streams.set st { x with fitsSince := keep } } }
  let t2 := if d = now then t1 else (t1.fset (F.HL_SSTAT_DECL2 st) d).raise 425 0
  let (a, b) := s.portDemand st (s.streamDemand st / 2 ^ d)
  (t2, { a := r.a - a, b := r.b - b })

/-- R370: the telemetry streams in the order they are served: by PRIO, then by class. -/
def State.streamOrder (s : State) : List (Fin 5) :=
  (List.range 8).flatMap fun k => [1, 2, 3, 4].filter fun (st : Fin 5) => s.flag (F.HL_SCFG_EN st) && decide (s.fget (F.HL_SCFG_PRIO st) = k)

/-- DECIMATION_EVALUATION (R370): every 100 ms, and at once when a port's rate changes. -/
def execDecimationEvaluation (s : State) : Host.Outcome State Fault Refusal :=
  if s.reached s.link.decAt then
    let s1 := { s with link := { s.link with decAt := s.time + 100 * ms } }
    .next (s.streamOrder.foldl s.evalStream (s1, { a := s.portRate 0, b := s.portRate 1 })).1
  else .next s

/-- R356, R379: a write of HL_SCFG: a stream that becomes enabled starts its sequences and DROPS anew. -/
def State.streamWrite (s : State) (st : Fin 5) (val : Word) : State :=
  let s1 := s.writeReg (.HL_SCFG st) val
  if s.flag (F.HL_SCFG_EN st) = false ∧ s1.flag (F.HL_SCFG_EN st) then
    { s1.setWord (.HL_SDROP st) 0 with link := { s1.link with streams := s1.link.streams.set st {} } }
  else s1

/-! Packets other than ASLP (R344). -/

/-- A port's IPv4 address, most significant byte first. -/
def State.ip4 (s : State) (p : Fin 2) : List Byte := (bytesOf (s.word (.HL_IP4 p))).reverse

/-- A port's IPv6 address. -/
def State.ip6 (s : State) (p : Fin 2) : List Byte :=
  [0, 1, 2, 3].flatMap fun w => (bytesOf (s.word (.HL_IP6 p w))).reverse

/-- An IPv6 address of the port: the static or the link-local one. -/
def State.isIp6 (s : State) (p : Fin 2) (a : List Byte) : Bool := a == s.ip6 p || a == Config.linkLocal p.val

/-- A reply leaves a port. -/
def State.reply (s : State) (p : Fin 2) (pkt : Packet) : State := { s with link := { s.link with replies := (p, pkt) :: s.link.replies } }

/-- ARP_ND_ECHO_RECEIVE (R344, R364): answered for the port's own addresses while its link is up. -/
def execArpNdEchoReceive (p : Fin 2) (pkt : Packet) (s : State) : Host.Outcome State Fault Refusal :=
  let v4 := s.flag (F.HL_PCFG_IP4EN p)
  let v6 := s.flag (F.HL_PCFG_IP6EN p)
  if s.flag (F.HL_PSTAT_LINK p) = false then .next s
  else match pkt with
    | .arp target sender => if v4 ∧ target = s.ip4 p then .next (s.reply p (.arp sender target)) else .next s
    | .nd target sender => if v6 ∧ s.isIp6 p target then .next (s.reply p (.nd sender target)) else .next s
    | .router addr =>
      if v6 then .next { s with link := { s.link with router := s.link.router.set p addr } } else .next s
    | .echo six dst src data =>
      if (six = false ∧ v4 ∧ dst = s.ip4 p) ∨ (six ∧ v6 ∧ s.isIp6 p dst) then .next (s.reply p (.echo six src dst data)) else .next s
    | .other => .next s

end Sys2Proof.Machine
end

