-- ==== Sys2Proof/Machine/Modes.lean ====
section
/-! DEFINITION. The power modes (R324–R333): requests and entry, the aging cycle, and DEEP. -/

namespace Sys2Proof.Machine

open Sys2Proof

/-! Requests (R325, R326). -/

/-- R325: the mode requested: REQ, or AGING by the shelf program. -/
def State.modeAsked (s : State) : Nat :=
  let r := s.fget F.GL_MODE_REQ
  if s.flag F.GL_MODE_SHOK ∧ r ≤ 1 ∧ s.sh.aging ≠ 0 then 2 else r

/-- R325: AG_PERIOD in force, s. -/
def State.agPeriod (s : State) : Nat := if s.sh.aging ≠ 0 then s.sh.aging else s.fget F.GL_MODE_AGPER

/-- R324: a channel STANDBY allows: PARKED, ABSENT, FOLLOW, or RUN in REST or, but for AGING, HOLD. -/
def State.modeAllows (s : State) (aging : Bool) (n : Fin 128) : Bool :=
  let st := s.chState n
  let m := s.fget (F.CH_MODE_MODE n)
  decide (st = stPARKED ∨ st = stABSENT ∨ st = stFOLLOW) || (decide (st = stRUN) && (decide (m = 8) || (!aging && decide (m = 9))))

/-- R326: an EV_PEND bit set by an occurrence at or above WAKESEV. -/
def State.wakePending (s : State) : Bool :=
  s.ev.pendSev.any fun p => s.pend p.1 && decide (s.fget F.EV_CTL_WAKESEV ≤ p.2)

/-- R326: what a mode waits for, its handshake apart: a WHY code of R342, the lowest that applies; 0 nothing. -/
def State.modeWaits (s : State) (target : Nat) : Nat :=
  match target with
  | 1 => if ¬ chans.all (s.modeAllows false) then 1 else if s.shelf ≠ shSERVICE then 4 else 0
  | 2 => if ¬ chans.all (s.modeAllows true) then 1 else if s.shelf ≠ shSERVICE then 4 else 0
  | 3 => if ¬ s.allIdle then 1 else if s.flag F.CS_SHSTAT_RUN then 2 else if s.wakePending then 6 else 0
  | _ => 0

/-- R326, R372: the WHY code with the handshake AGING and DEEP need. -/
def State.modeWhy (s : State) (target : Nat) : Nat :=
  let w := s.modeWaits target
  if w = 0 ∧ (target = 2 ∨ target = 3) ∧ s.mode.handshake = false then 3 else w

/-- R325, R326, R332, R342, R372: what a boundary does with the request: an exit from AGING begins with the level at 0; PEND and WHY, since when its conditions hold, the handshake's
proposal, and GL_AGSTAT. -/
def State.modeBoundary (s0 : State) : State :=
  let s := if s0.mode.exitAt = some (s0.time + 25 * ms) then s0.levelTo 0 else s0
  let target := s.modeAsked
  let s1 := (s.fset F.GL_AGSTAT_PERIOD s.agPeriod).setFlag F.GL_AGSTAT_SRC (decide (s.sh.aging ≠ 0))
  if s.pmode < target ∧ s.mode.exitAt = none ∧ s.mode.wakeFrom = none then
    let w := s.modeWhy target
    let s2 := (s1.fset F.GL_MODE_PEND target).fset F.GL_MODE_WHY w
    let s3 := { s2 with mode := { s2.mode with condFrom := if w = 0 then some (s.mode.condFrom.getD s.time) else none } }
    if w = 3 ∧ s.rateState = 0 ∧ s.link.rate.retryAt = none ∧ s.link.rate.refused = false then s3.proposeSleep else s3
  else
    let s2 := (s1.fset F.GL_MODE_PEND 0).fset F.GL_MODE_WHY (if s.flag F.GL_MODE_REFUSED then 5 else 0)
    { s2 with mode := { s2.mode with condFrom := none } }

/-- MODE_REQUEST (R325, R328, R342): a write of GL_MODE. A new request for RUN in STANDBY asks for the raise of R314. -/
def State.modeWrite (s : State) (val : Word) : State :=
  let s1 := s.writeReg .GL_MODE val
  let s2 := { s1 with mode := { s1.mode with condFrom := none },
                      link := { s1.link with rate := { s1.link.rate with refused := false } } }
  if s2.fget F.GL_MODE_REQ = 0 ∧ s2.pmode = mdSTANDBY then s2.askRaise else s2

/-- MODE_REQUEST (R325). -/
def execModeRequest (val : Word) (s : State) : Host.Outcome State Fault Refusal := .next (s.modeWrite val)

/-- RATE_REPROPOSE (R372): 10 s after a failed handshake, or after a late ACCEPT, while the request stands. -/
def execRateRepropose (s : State) : Host.Outcome State Fault Refusal :=
  match s.link.rate.retryAt with
  | some t =>
    if s.reached t ∧ (s.rateState = 0 ∨ s.rateState = 3) then
      if s.link.rate.restore then .next s.proposeRestore
      else if (s.modeAsked = 2 ∨ s.modeAsked = 3) ∧ s.pmode < s.modeAsked ∧ s.modeWaits s.modeAsked = 0 then .next s.proposeSleep
      else .next (s.modRate fun r => { r with retryAt := none })
    else .next s
  | none => .next s

/-! Entry (R326–R328). -/

/-- R206: on entry to AGING or DEEP the spare stops shadowing. -/
def State.spareSleep (s : State) : State :=
  if s.fget F.CS_SPARE_SST = 0 then s
  else
    let s1 := { s with spare := { s.spare with shadowed := false, lastOk := false } }
    (s1.fset F.CS_SPARE_SST 4).setFlag F.CS_SPARE_FRESH false

/-- R206: on return the spare runs a full LBIST. -/
def State.spareWake (s : State) : State :=
  match s.spareCl with
  | some c => if s.fget F.CS_SPARE_SST = 4 then s.startLbist c else s
  | none => s

/-- R330: the first burst instant at or after a counter value. -/
def burstFrom (x period : Nat) : Nat := gridUp x (max 1 period * sec)

/-- R326, R330, R206, R188: a less active mode is entered. -/
def State.enterMode (s : State) (target : Nat) : State :=
  let s1 := (s.fset F.GL_STATE_MODE target).fset F.GL_MODE_PEND 0
  let s2 := { s1 with mode := { s1.mode with condFrom := none, toRun := false, awake := false, burst := none } }
  match target with
  | 1 => s2.levelTo (s.eff F.CK_CSTEP_SBY)
  | 2 =>
    let s3 := s2.laneAbandon.laneOff.spareSleep.levelTo (s.eff F.CK_CSTEP_SBY)
    { s3 with mode := { s3.mode with nextBurst := burstFrom (s.ctr + 250 * ms) s.agPeriod } }
  | 3 =>
    let s3 := ((((s2.laneAbandon.crossbar none).laneOff.fset F.LN_STAT_PHASE 0).spareSleep.setFlag (lockFld 0) false).setFlag (lockFld 1) false).setFlag (lockFld 2) false
    { s3 with boot := { s3.boot with vaultOn := false } }.setFlag (F.TW_STAT_ASLEEP 1) true
  | _ => s2

/-- MODE_ENTRY (R326–R328, R332, R341): the conditions have held for 100 ms, or a more active mode is asked for. -/
def execModeEntry (s : State) : Host.Outcome State Fault Refusal :=
  let target := s.modeAsked
  if s.mode.exitAt.isSome ∨ s.mode.wakeFrom.isSome then .next s
  else if s.pmode = mdSTANDBY ∧ (target = 0 ∨ s.mode.toRun) then
    if s.flag F.GL_MODE_REFUSED ∧ s.clk.compat.isNone then .next { s with mode := { s.mode with toRun := false } }
    else
      let s1 := s.levelTo 0
      if s1.level = 0 then .next ({ s1 with mode := { s1.mode with toRun := false } }.fset F.GL_STATE_MODE mdRUN) else .next s1
  else if s.pmode = mdAGING ∧ target < mdAGING then .next s.beginAgingExit
  else if s.pmode < target ∧ s.modeWhy target = 0 then
    match s.mode.condFrom with
    | some t => if s.reached (t + 100 * ms) then .next (s.enterMode target) else .next s
    | none => .next s
  else .next s

/-! The aging cycle (R330–R332). -/

/-- AGING_WAKE (R330, R341): 250 ms before the burst instant; an exit under way prevails. -/
def execAgingWake (s : State) : Host.Outcome State Fault Refusal :=
  if s.pmode = mdAGING ∧ s.mode.exitAt = none ∧ s.mode.burst = none ∧ s.mode.nextBurst < s.ctr + 250 * ms + tCtl then
    .next { s with mode := { s.mode with awake := true, burst := some s.mode.nextBurst } }
  else .next s

/-- AGING_BURST (R30): the burst instant: the averages start anew and the current reads 0. -/
def execAgingBurst (s : State) : Host.Outcome State Fault Refusal :=
  match s.mode.burst with
  | some b =>
    if s.pmode = mdAGING ∧ s.mode.nextBurst = b ∧ b ≤ s.ctr ∧ s.ctr < b + tCtl then
      .next (s.each chans fun n t =>
        ((t.modM n fun m => { m with secSum := 0, secN := 0, secBad := 0 }).setWord (.CH_I n) 0).setWord (.CH_P n) 0)
    else .next s
  | none => .next s

/-- R30, R177, R178, R331: a channel at the end of its burst: its aging sample, its regression and metric entry, and its arms
against the burst's samples. -/
def State.burstChan (s : State) (n : Fin 128) (stamp : Nat) : State :=
  let m := (s.lane1 n).m
  match m.secMean with
  | none => s.chanSlot n true
  | some v =>
    let uv := rdiv 30 v 100
    let smp : Sample := { stamp := stamp, v := uv, i := 0, r := s.fget (F.CH_MSTAT_IRANGE n) }
    let s1 := s.modM n fun m =>
      { m with aging := some v, agAt := stamp, secSum := 0, secN := 0, secBad := 0, secBlend := false, cs := smp, good := smp }
    let s2 := s1.ocvSample n stamp v (decide (m.secBad ≠ 0)) m.secBlend
    let s3 := if s2.flag (F.CH_OCVCTL_ACTIVE n) then s2.ocvPost n else s2
    s3.chanSlot n true

/-- R30, R26: the last sample of a burst has come, 400 µs after its instant. -/
def State.burstFull (s : State) (b : Nat) : Bool :=
  decide (b + 100 * ms + metDelay ≤ s.ctr) && (!s.served || decide (b + 100 * ms ≤ (s.lane1 0).m.ms.stamp))

/-- AGING_BURST_END (R30, R26, R330, R331): t5, 100 ms after the burst instant, once the filters have given its last sample. -/
def execAgingBurstEnd (s : State) : Host.Outcome State Fault Refusal :=
  match s.mode.burst with
  | some b =>
    if s.pmode = mdAGING ∧ s.mode.nextBurst = b ∧ s.burstFull b then
      let s1 := { s with mode := { s.mode with nextBurst := burstFrom (b + 1) s.agPeriod } }
      .next ((s1.each chans fun n t => t.burstChan n (b + 100 * ms)).incWrap F.GL_AGSTAT_BURSTS)
    else .next s
  | none => .next s

/-- AGING_SLEEP (R330): after the burst and its commit. -/
def execAgingSleep (s : State) : Host.Outcome State Fault Refusal :=
  match s.mode.burst with
  | some b =>
    if s.pmode = mdAGING ∧ s.mode.exitAt = none ∧ b < s.mode.nextBurst ∧ s.lane.done = none ∧ s.lane.fixes = [] then
      .next ({ s with mode := { s.mode with awake := false, burst := none } }.visitOver.laneRest)
    else .next s
  | none => .next s

/-- R331: a context that has something to do in AGING: its step's time arm or its timed WAIT expires, or it does not wait. -/
def State.armDue (s : State) (c : Ctx) : Bool :=
  s.live c && ((match s.susp c with
    | .none => true
    | .timed t => decide (t ≤ s.ctr)
    | _ => false) ||
    (match c with
      | .chan n =>
        let x := (s.lane1 n).x
        match x.step, x.arms.time with
        | some st, some l => st.start.any fun t => decide (l * ms ≤ s.ctr - t)
        | _, _ => false
      | .shelf => false))

/-- AGING_ARM_WAKE (R331): the boundary of the earliest time arm or timed WAIT; the contexts that are due run. -/
def execAgingArmWake (s : State) : Host.Outcome State Fault Refusal :=
  if s.pmode = mdAGING ∧ s.mode.awake = false then
    let s1 := s.each chans fun n t => if t.armDue (.chan n) then t.chanSlot n false else t
    .next (if s1.armDue .shelf then s1.shelfSlot else s1)
  else .next s

/-- R332, R327, R328, R329: the mode an exit from AGING leads to, with its level. -/
def State.leaveAging (s : State) : State :=
  if s.mode.safePend.isSome ∨ s.shelf ≠ shSERVICE ∨ (s.modeAsked = 1 ∧ s.mode.toRun = false) then
    ({ s with clk := { s.clk with compat := none } }.levelTo (s.eff F.CK_CSTEP_SBY)).fset F.GL_STATE_MODE mdSTANDBY
  else
    let s1 := s.levelTo 0
    if s1.level = 0 then { s1 with mode := { s1.mode with toRun := false } }.fset F.GL_STATE_MODE mdRUN
    else { s1 with mode := { s1.mode with toRun := true } }.fset F.GL_STATE_MODE mdSTANDBY

/-- R329: a SHELF SAFE cause that waited for STANDBY is entered. -/
def State.safeWaited (s : State) : State := match s.mode.safePend with
  | some c => { s with mode := { s.mode with safePend := none } }.enterSafe c
  | none => s

/-- R332: a suspended context goes on to its mode instruction; that asks for RUN. -/
def State.resumeAging (s : State) (n : Fin 128) : State :=
  if (s.lane1 n).x.susp = .aging then
    let s1 := s.modX n fun x => { x with susp := .none }
    { s1 with mode := { s1.mode with toRun := true } }
  else s

/-- AGING_EXIT_COMPLETE (R332, R206, R372): 25 ms after the exit began. -/
def execAgingExitComplete (s : State) : Host.Outcome State Fault Refusal :=
  match s.mode.exitAt with
  | some t =>
    if s.reached t then
      let s1 := { s with mode := { s.mode with exitAt := none, awake := false, burst := none } }
      let s2 := (s1.each chans fun n t => t.resumeAging n).laneAbandon.laneOff.spareWake
      .next s2.leaveAging.rateExit.safeWaited
    else .next s
  | none => .next s

/-! DEEP (R333). -/

/-- DEEP_WAKE (R333): a wake cause starts SYSPLL, PWMPLL and ADCPLL. -/
def execDeepWake (s : State) : Host.Outcome State Fault Refusal :=
  if s.pmode = mdDEEP ∧ s.mode.wakeFrom.isSome then
    .next (s.each [Clock.syspll, Clock.pwmpll, Clock.adcpll] fun c t =>
      if t.flag (stableFld c) ∨ (t.clk.judge[clockIx c]).from_.isSome then t else t.startJudge c)
  else .next s

/-- R333: the three PLLs of a wake are judged stable. -/
def State.pllsUp (s : State) : Bool := s.flag (lockFld 0) && s.flag (lockFld 1) && s.flag (lockFld 2)

/-- DEEP_WAKE_COMPLETE (R333, R340, R206, R372): the supervisor runs, the Vault is powered, the Attic queue drains, the mode is
STANDBY. -/
def execDeepWakeComplete (s : State) : Host.Outcome State Fault Refusal :=
  if s.pmode = mdDEEP ∧ s.mode.wakeFrom.isSome ∧ s.pllsUp then
    let s1 := { s with mode := { s.mode with wakeFrom := none }, boot := { s.boot with vaultOn := true } }
    let s2 := ((s1.fset F.GL_STATE_MODE mdSTANDBY).levelTo (s.eff F.CK_CSTEP_SBY)).setFlag (F.TW_STAT_ASLEEP 1) false
    .next s2.atticDrain.spareWake.laneWake.rateExit.safeWaited
  else .next s

end Sys2Proof.Machine
end

