-- ==== Sys2Proof/Machine/SelfTest.lean ====
section
/-! DEFINITION. The self-test (R414–R417), the housekeeping round with the thermistors (R39), the reference check (R419), the die
sensors, their bands and the thermal responses (R420–R424, R46–R48). -/

namespace Sys2Proof.Machine

open Sys2Proof

/-! Memory tests (R414–R416). -/

/-- R324, R424: the self-test runs, and for the memory tests no throttle level is in force. -/
def State.testRuns (s : State) : Bool := decide (s.pmode = mdRUN ∨ s.pmode = mdSTANDBY) && s.gateOn 13

/-- R416, R426: BT_FAIL takes a failure; the bit of the word is given, or free. -/
def State.noteFail (s : State) (off bit : Nat) (mram uncorr repaired pending : Bool) : State :=
  let s1 := (((((s.setWord .BT_FAIL0 0).fset F.BT_FAIL0_OFFSET off).setFlag F.BT_FAIL0_MEM mram).setFlag F.BT_FAIL0_UNCORR
    uncorr).setFlag F.BT_FAIL0_REPAIRED repaired).setFlag F.BT_FAIL0_PENDING pending
  (s1.fset F.BT_FAIL1_BIT bit).incSat F.BT_FAIL1_COUNT

/-- R416: a failed SRAM slice: remapped to a spare row, or left in service. Where in the slice it failed the manual's report
leaves to the test: offset and bit are free (notes/assumptions/5.md). -/
def State.sramFail (s : State) (slice : Nat) : State :=
  let off := slice * 1024 + bitsOf s.freeWord 0 10
  let bit := bitsOf s.freeWord 10 6
  let left := s.fget F.BT_REPAIR_SSPARE
  if 0 < left then
    let s1 := (s.fresh.fset F.BT_REPAIR_SSPARE (left - 1)).noteFail off bit false false true false
    { s1 with tst := { s1.tst with remapped := putRising s1.tst.remapped slice } }.raise 459 1
  else (s.fresh.noteFail off bit false false false false).raise 460 2

/-- SRAM_SLICE (R414–R416, R424): one slice every 100 ms. How long it took, at most 40 µs, is free. -/
def execSramSlice (pass : Bool) (s : State) : Host.Outcome State Fault Refusal :=
  if s.testRuns ∧ s.flag F.BT_CTL_SRAMEN ∧ ¬ s.flag F.TS_STAT_THR ∧ s.reached s.tst.sramAt then
    let k := s.fget F.BT_SRAM_SLICE
    let dur := s.freeWord.toNat % 41
    let s1 := (s.fresh.fset F.BT_SRAMT_DUR dur).fset F.BT_SRAMT_MAXDUR (max dur (s.fget F.BT_SRAMT_MAXDUR))
    let s2 := if pass then s1 else s1.sramFail k
    let s3 := { s2 with tst := { s2.tst with sramAt := s.time + 100 * ms } }
    if k + 1 < 12288 then .next ((s3.fset F.BT_SRAM_SLICE (k + 1)).fset F.BT_SRAM_COVER ((k + 1) * 100 / 12288))
    else
      let s4 := ((s3.fset F.BT_SRAM_SLICE 0).fset F.BT_SRAM_COVER 0).incWrap F.BT_SRAM_PASSES
      .next ({ s4 with tst := { s4.tst with sramFrom := s.time } }.fset F.BT_SRAMT_PASSS (min 65535 ((s.time - s.tst.sramFrom) / sec)))
  else .next s

/-- R401, R414: the byte offset of a test row: the reserve is the last 1 MiB of the table of R401 (notes/assumptions/16.md). -/
def testRow (row : Nat) : Nat := 0xF00000 + row * 1024

/-- MRAM_WRITE_TEST (R414, R416, R424): one reserve row each second; a failed row is marked unusable. -/
def execMramWriteTest (pass : Bool) (s : State) : Host.Outcome State Fault Refusal :=
  if s.testRuns ∧ s.flag F.BT_CTL_MWTEN ∧ ¬ s.flag F.TS_STAT_THR ∧ s.reached s.tst.rowAt then
    let row := s.fget F.BT_MRAMT_WTROWS % 960
    let s1 := { s with tst := { s.tst with rowAt := s.time + sec } }.fset F.BT_MRAMT_WTROWS ((row + 1) % 960)
    if pass then .next s1
    else
      let s2 := (s1.fresh.noteFail (testRow row + bitsOf s.freeWord 0 10) (bitsOf s.freeWord 10 6) true false false false)
      .next ({ s2 with tst := { s2.tst with badRows := putRising s2.tst.badRows row } }.raise 459 1)
  else .next s

/-- R416: one finding of the MRAM read-verify; a repair is of the row of 1 KiB. -/
def State.mramFind (s : State) (f : MramFind) : State :=
  if f.uncorr then (s.noteFail f.off f.bit true true false false).raise 460 2
  else if f.off ∈ s.tst.corrected then
    let q := putRising s.tst.queued (f.off / 1024)
    let s1 := { s with tst := { s.tst with corrected := s.tst.corrected.filter (· ≠ f.off), queued := q } }
    ((s1.fset F.BT_REPAIR_MPEND (min 255 q.length)).noteFail f.off f.bit true false false true).raise 459 1
  else
    { s with tst := { s.tst with corrected := putRising s.tst.corrected f.off } }.incSat F.BT_MRAM_CORR

/-- R414, R416, R424: 16 KiB of MRAM read-verify in a round; 1,024 rounds are a pass. A word corrected before that now reads
well is forgotten. -/
def State.mramVerify (s : State) (l : List MramFind) : State :=
  if s.testRuns ∧ s.flag F.BT_CTL_MRAMEN ∧ ¬ s.flag F.TS_STAT_THR then
    let k := s.tst.mramN
    let here (off : Nat) : Bool := decide (off / 16384 = k)
    let l := l.filter fun f => here f.off
    let s0 := { s with tst := { s.tst with corrected := s.tst.corrected.filter fun o => !here o || l.any fun f => f.off == o } }
    let s1 := s0.each l fun f t => t.mramFind f
    if k + 1 < 1024 then { s1 with tst := { s1.tst with mramN := k + 1 } }.fset F.BT_MRAM_COVER ((k + 1) * 100 / 1024)
    else
      let s2 := { s1 with tst := { s1.tst with mramN := 0, mramFrom := s.time } }.fset F.BT_MRAM_COVER 0
      (s2.incWrap F.BT_MRAM_PASSES).fset F.BT_MRAMT_PASSS (min 65535 ((s.time - s.tst.mramFrom) / sec))
  else s

/-! PWM loopback (R417). -/

/-- R417: what a failed output stops. -/
def State.loopbackStop (s : State) (w : Fin 9) (b : Fin 32) : State :=
  if w.val < 8 then s.trip (Fin.ofNat 128 (16 * w.val + b.val / 2)) [8] 0
  else if b.val < 6 then s.auxOff (Fin.ofNat 4 (b.val / 2))
  else (s.auxMid 3).fset F.HU_STAT_CHG 6

/-- R417: a switching cycle in which an output fails: an edge more than 1 ns off, in ps, or (none) one missing or a wrong level. -/
def edgeBad : Option Nat → Bool
  | some ps => decide (1000 < ps)
  | none => true

/-- PWM_LOOPBACK_FAIL (R417): output 32w + b over four consecutive switching cycles: it fails where each of them does. -/
def execPwmLoopbackFail (w : Fin 9) (b : Fin 32) (err : Vector (Option Nat) 4) (s : State) : Host.Outcome State Fault Refusal :=
  if s.testRuns ∧ s.flag F.BT_CTL_PWMEN ∧ (w.val < 8 ∨ b.val < 8) ∧ err.toList.all edgeBad then
    let s1 := s.setWord (.BT_PWMF w) (s.word (.BT_PWMF w) ||| BitVec.ofNat 32 (2 ^ b.val))
    .next ((s1.raise 461 2).loopbackStop w b)
  else .next s

/-! The housekeeping round (R418). -/

/-- R39: what CH_T or HU_T takes from a thermistor's resistance: m°C, or 0x7FFF_FFFF where it is open or shorted. -/
def ntcWord (t : Int) : Word := if t < -50000 ∨ 150000 < t then 0x7FFFFFFF#32 else wordOf t

/-- R39: open or shorted. -/
def ntcBad (t : Int) : Bool := decide (t < -50000 ∨ 150000 < t)

/-- R95, R99: over-temperature of a channel. -/
def State.overTemp (s : State) (n : Fin 128) : Bool :=
  s.effFlag (F.CH_LIM_T_TSEN n) &&
    (s.flag (F.CH_MSTAT_TSFLT n) || decide (s.effS (F.CH_LIM_T_TMAX n) * 100 < sword (s.word (.CH_T n))))

/-- R39: the temperature of a thermistor; with BETA = 0 the model has none, and the value is free (notes/assumptions/6.md). -/
def State.ntcTemp (s : State) (beta r25 milliOhm : Nat) : Int := (ntcMilliC beta r25 milliOhm).getD (sword s.freeWord)

/-- R39, R95, R127, R179: a channel's thermistor in a round, with what takes its result. An over-temperature trip is latched
once until its bit is cleared. -/
def State.cellTemp (s : State) (n : Fin 128) (ohm : Nat) : State :=
  let t := s.ntcTemp (s.fget (F.CH_NTC_BETA n)) (s.fget (F.CH_NTC_R25 n)) ohm
  let s1 := (s.fresh.setWord (.CH_T n) (ntcWord t)).setFlag (F.CH_MSTAT_TSFLT n) (ntcBad t)
  let s2 := s1.modX n fun x =>
    { x with tNew := true, tAt := s.ctr, step := x.step.map fun st => { st with tMax := max st.tMax (sword (ntcWord t)) } }
  let s3 := s2.ocvTemp n
  if s3.overTemp n ∧ ¬ s3.flag (F.CH_FAULT_OT n) then s3.trip n [3] 0 else s3

/-- R419: a reading of REFIN in ppm against LN_REFV. -/
def State.refPpm (s : State) (uv : Int) : Int :=
  rdiv 419 ((uv - s.eff F.LN_REFV_REFV) * 1000000) (s.eff F.LN_REFV_REFV)

/-- R419: the row of the table two errors fall in: 0 good, 1 REFIN out, 2 BG1 suspect, 3 BG2 suspect, 4 not judged. -/
def refOutcome (e1 e2 lim : Int) : Nat :=
  let ok1 := decide (e1.natAbs ≤ lim)
  let ok2 := decide (e2.natAbs ≤ lim)
  if ok1 ∧ ok2 then 0
  else if ok1 then 3
  else if ok2 then 2
  else if (0 < e1 ↔ 0 < e2) ∧ (e1 - e2).natAbs ≤ lim then 1
  else 4

/-- R419: the reference check of a round; its event comes with a new outcome. -/
def State.refCheck (s : State) (r1 r2 : Int) : State :=
  if s.testRuns ∧ s.flag F.BT_CTL_REFEN then
    let e1 := s.refPpm r1
    let e2 := s.refPpm r2
    let k := refOutcome e1 e2 (s.fget F.BT_REFLIM_LIM)
    let s1 := ((s.reading F.BT_REF_E1 true e1 0).reading F.BT_REF_E2 true e2 1).freshN 2
    let s2 := { s1 with tst := { s1.tst with refBad := k } }
    let s3 := match k with
      | 0 => ((s2.setFlag F.LN_STAT_REFHOLD false).setFlag F.BT_REFLIM_BG1BAD false).setFlag F.BT_REFLIM_BG2BAD false
      | 1 => s2.setFlag F.LN_STAT_REFHOLD true
      | 2 => s2.setFlag F.BT_REFLIM_BG1BAD true
      | 3 => s2.setFlag F.BT_REFLIM_BG2BAD true
      | _ => ((s2.setFlag F.LN_STAT_REFHOLD true).setFlag F.BT_REFLIM_BG1BAD true).setFlag F.BT_REFLIM_BG2BAD true
    if k = 0 ∨ k = s.tst.refBad then s3 else s3.raise 462 (if k = 2 ∨ k = 3 then 1 else 2)
  else s

/-! Die sensors (R420–R424). -/

/-- R421: a code outside −55 to +160 °C. -/
def dieOor (code : Int) : Bool := decide (code < -880 ∨ 2560 < code)

/-- A code in 0.01 °C. -/
def dieCenti (code : Int) : Int := rdiv 421 (code * 25) 4

/-- TS_BAND's field of sensor k. -/
def bandFld (k : Fin 8) : Fld := ⟨.TS_BAND, 4 * k.val, 3⟩

/-- TS_STAT.FAULT's bit of sensor k. -/
def faultFld (k : Fin 8) : Fld := ⟨.TS_STAT, 8 + k.val, 1⟩

/-- R421: one sensor's reading taken in: T, OOR, SAME, STUCK and FAULT, with event 463 when it first is faulty. -/
def State.dieRead (s : State) (k : Fin 8) (code : Int) : State :=
  let same := if s.tst.code[k] = some code then min 7 (s.fget (F.TS_T_SAME k) + 1) else 0
  let stuck := decide (same = 7)
  let bad := dieOor code || stuck
  let s1 := { s with tst := { s.tst with code := s.tst.code.set k (some code) } }
  let s2 := ((s1.fsetS (F.TS_T_T k) (clampI (dieCenti code) (-32768) 32767)).setFlag (F.TS_T_OOR k) (dieOor code)).fset
    (F.TS_T_SAME k) same
  let s3 := (s2.setFlag (F.TS_T_STUCK k) stuck).setFlag (faultFld k) bad
  if bad ∧ ¬ s.flag (faultFld k) then s3.raise 463 2 else s3

/-- R421: the working sensors of a sensor's own die. -/
def State.dieMates (s : State) (k : Fin 8) : List (Fin 8) :=
  (List.finRange 8).filter fun j => decide (j.val / 4 = k.val / 4) && !s.flag (faultFld j)

/-- R421: what a sensor counts as, 0.01 °C. -/
def State.dieCounts (s : State) (k : Fin 8) : Int :=
  if s.flag (faultFld k) = false then s.fgetS (F.TS_T_T k)
  else if (s.word .TS_CTL).getLsbD k.val then
    match s.dieMates k with
    | [] => 15000
    | a :: t => t.foldl (fun m j => max m (s.fgetS (F.TS_T_T j))) (s.fgetS (F.TS_T_T a)) + 500
  else 15000

/-- R421: a substitute is in force. -/
def State.dieSubst (s : State) : Bool :=
  (List.finRange 8).any fun k => s.flag (faultFld k) && (s.word .TS_CTL).getLsbD k.val && !(s.dieMates k).isEmpty

/-- R47: the band of a temperature in 0.01 °C. -/
def bandOf (t : Int) : Nat :=
  if t < -1000 then 0 else if t < 1000 then 1 else if t < 3000 then 2 else if t < 5000 then 3 else if t < 7000 then 4
  else if t < 9000 then 5 else if t < 11000 then 6 else 7

/-- R47: a band's lower bound, 0.01 °C. -/
def bandLow (b : Nat) : Int := if b = 0 then -4000 else (b : Int) * 2000 - 3000

/-- R422: the band a sensor takes. -/
def bandNext (b : Nat) (t : Int) : Nat :=
  if b < bandOf t then bandOf t else if bandOf t < b ∧ t ≤ bandLow b - 200 then bandOf t else b

/-- R423: the chopping frequency of the modulators under sensor TS4 + q, Hz. -/
def State.chopHz (s : State) (q : Fin 4) : Nat :=
  let b := s.fget (bandFld (Fin.ofNat 8 (4 + q.val)))
  if b < 4 then 78125 else if b < 6 then 156250 else 312500

/-- R423: the MRAM write pulse, ns, by the higher band of TS0 and TS1. -/
def State.writePulse (s : State) : Nat := ([60, 50, 40, 35, 30, 28, 25, 25] : List Nat).getD (max (s.fget (bandFld 0)) (s.fget (bandFld 1))) 25

/-- R423: the SerDes equaliser preset: the band of TS3. -/
def State.eqPreset (s : State) : Nat := s.fget (bandFld 3)

/-- R46: the sensor over a channel's modulators. -/
def quadrant (n : Fin 128) : Fin 8 := Fin.ofNat 8 (4 + n.val / 32)

/-- R48: the blend toward a band starts from the present weights. -/
def State.blendStart (s : State) (n : Fin 128) : State :=
  (s.modM n fun m => { m with wFrom := m.wts, wFromDen := m.wDen, blendN := 0 }).setFlag (F.CH_MSTAT_BLEND n) true

/-- The weights of one band alone. -/
def bandOnly (b : Nat) : List Nat := (List.range 8).map fun j => if j = b then 1 else 0

/-- R48, R422: a channel's band: directly the first time after boot, by a blend from then on. -/
def State.chanBand (s : State) (n : Fin 128) (b : Nat) : State :=
  let s1 := s.fset (F.CH_MSTAT_BAND n) b
  if (s.lane1 n).m.bandNew then
    (s1.modM n fun m => { m with wts := bandOnly b, wDen := 1, wFrom := bandOnly b, wFromDen := 1, blendN := 0,
                                 bandNew := false }).setFlag (F.CH_MSTAT_BLEND n) false
  else if b = s.fget (F.CH_MSTAT_BAND n) then s
  else s1.blendStart n

/-- R48: one period of a blend: every weight moves linearly to the new band's over 100,000 periods. -/
def State.blendStep (s : State) (n : Fin 128) : State :=
  if s.flag (F.CH_MSTAT_BLEND n) then
    let m := (s.lane1 n).m
    let b := s.fget (F.CH_MSTAT_BAND n)
    let k := m.blendN + 1
    if 100000 ≤ k then
      (s.modM n fun m => { m with wts := bandOnly b, wDen := 1, blendN := k }).setFlag (F.CH_MSTAT_BLEND n) false
    else
      let w := (List.range 8).map fun j => m.wFrom.getD j 0 * (100000 - k) + (if j = b then m.wFromDen * k else 0)
      s.modM n fun m => { m with wts := w, wDen := m.wFromDen * 100000, blendN := k }
  else s

/-- R422, R46: the bands after a round, `first` at boot. -/
def State.bands (s : State) (first : Bool) : State :=
  let s1 := s.each (List.finRange 8) fun k t =>
    t.fset (bandFld k) (if first then bandOf (t.dieCounts k) else bandNext (t.fget (bandFld k)) (t.dieCounts k))
  s1.each chans fun n t => t.chanBand n (t.fget (bandFld (quadrant n)))

/-- R421: TS_MAX. -/
def State.dieMax (s : State) : State :=
  let top := (List.finRange 8).foldl (fun (b : Fin 8) k => if s.dieCounts b < s.dieCounts k then k else b) 0
  ((s.fsetS F.TS_MAX_T (s.dieCounts top)).fset F.TS_MAX_SRC top.val).setFlag F.TS_MAX_SUBST s.dieSubst

/-- R424: one level after a round, with its thresholds in 0.01 °C. -/
def State.thermal (s : State) (f : Fld) (up down : Int) (num sev : Nat) : State :=
  let t := s.fgetS F.TS_MAX_T
  if s.flag f then (if t < down then s.setFlag f false else s)
  else if up ≤ t then (s.setFlag f true).raise num sev else s

/-- R424: the three levels; the last enters SHELF SAFE. -/
def State.thermals (s : State) : State :=
  let s1 := (s.thermal F.TS_STAT_WARN 11000 10500 464 1).thermal F.TS_STAT_THR 12000 11500 465 2
  let s2 := s1.thermal F.TS_STAT_SAFE 13000 12500 466 3
  if s2.flag F.TS_STAT_SAFE ∧ ¬ s.flag F.TS_STAT_SAFE then s2.enterSafe 2 else s2

/-- R418, R330: a round may end here, one on each multiple of 250 ms, with the converter clocked. -/
def State.roundDue (s : State) : Bool := decide (s.ctr % (250 * ms) = 0 ∧ s.tst.roundAt ≠ some s.ctr) && s.clustersRun

/-- HOUSEKEEPING_ROUND (R39, R418–R424, R95, R257). How long the round took is free. -/
def execHousekeepingRound (inp : Housekeeping) (s : State) : Host.Outcome State Fault Refusal :=
  if s.roundDue then
    let s1 := ((s.fresh.incWrap F.TS_HK_ROUNDS).fset F.TS_HK_DUR (bitsOf s.freeWord 0 16)).setWord .HU_T
      (ntcWord (s.ntcTemp 3435 100 inp.hu))
    let s1 := { s1 with hu := { s1.hu with tsOpen := decide (s.ntcTemp 3435 100 inp.hu < -50000) },
                        tst := { s1.tst with roundAt := some s.ctr } }
    let s2 := s1.each chans fun n t => t.cellTemp n inp.ts[n]
    let s3 := (s2.mramVerify inp.mram).refCheck inp.ref1 inp.ref2
    let s4 := s3.each (List.finRange 8) fun k t => t.dieRead k inp.die[k]
    .next ((s4.dieMax.bands false).thermals)
  else .next s

end Sys2Proof.Machine
end

