-- ==== Sys2Proof/Machine/Reset.lean ====
section
/-! DEFINITION. The resets (R287): what each keeps, the power-on reset's wake, and the loss of VBIAS. -/

namespace Sys2Proof.Machine

open Sys2Proof

/-- R287 and the chapters' own words: the bits of a register that a soft reset keeps: the SQ, FD and HU blocks, the RWS fields,
CH_OSW.POL (R445), what counts or lasts since the power-on reset (R13, R54, R93, R167, R204, R209, R225, R343, R436), the strap codes
(R447), and what stands in MRAM (R362, R404, R410, R416). -/
def softMask (r : Reg) : Word :=
  let block := r.addr / 0x10000
  if block = 3 ∨ block = 4 ∨ block = 5 then 0xFFFFFFFF#32
  else match r with
    | .LN_ADOPT => 0x17F#32
    | .CH_OSW _ => 0x10000#32
    | .GL_SAFE => 0xFF000000#32
    | .GL_SUPV => 0x70000#32
    | .LN_CALSEQ => 0xFFFF#32
    | .CH_STATE _ => 0xFFFF0000#32
    | .CH_AH _ => 0xFFFFFFFF#32
    | .CH_AHH _ => 0xFFFFFFFF#32
    | .CH_WH _ => 0xFFFFFFFF#32
    | .CH_WHH _ => 0xFFFFFFFF#32
    | .LG_CAP_RM => 0x1000000#32
    | .LG_STAT => 0xFFFF0000#32
    | .CS_SPARE => 0xFF6F1F#32
    | .CS_MAP _ => 0xFFFFFFFF#32
    | .CS_STAT _ => 0xFFFFFFFF#32
    | .EV_CFG _ => 0xFFFF0000#32
    | .TW1_ADDR => 0x1FFF#32
    | .HL_KEYSTAT => 0x7#32
    | .BT_REPAIR => 0xFFFF00#32
    | .VT_HEAD => 0xFFFFFFFF#32
    | .VT_TAIL => 0xFFFFFFFF#32
    | .VT_CSLOT _ => 0xFFFF0F03#32
    | .VT_CSTAT => 0xFFFF0000#32
    | _ => 0

/-- R362, R404, R410, R416: the bits of a register that stand in MRAM and outlast a power-on reset; and, while VBIAS stays, those
of SQ_BOOT (R289). -/
def porMask (vbias : Bool) (r : Reg) : Word := match r with
  | .HL_KEYSTAT => 0x7#32
  | .BT_REPAIR => 0xFFFF00#32
  | .VT_HEAD => 0xFFFFFFFF#32
  | .VT_TAIL => 0xFFFFFFFF#32
  | .VT_CSLOT _ => 0xFFFF0F03#32
  | .VT_CSTAT => 0xFFFF0000#32
  | .SQ_BOOT => if vbias then 0xFF00#32 else 0
  | _ => 0

/-- A register list with every bit outside a mask at its reset value. -/
def keepRegs (mask : Reg → Word) (l : List (Reg × Word)) : List (Reg × Word) :=
  l.filterMap fun p =>
    let w := (p.1.rst &&& ~~~ mask p.1) ||| (p.2 &&& mask p.1)
    if w = p.1.rst then none else some (p.1, w)

/-- R53: the addresses of the calibration tables, which the boot loads anew. -/
def inCal (a : Nat) : Bool := decide (0x300000 ≤ a ∧ a < 0x320000)

/-- What a soft reset leaves of a channel: PARKED, with its fuse's heat (R101) and its counters' fractions (R165). -/
def Chan.soft (c : Chan) : Chan :=
  { p := { h := c.p.h }, k := { ahAcc := c.k.ahAcc, whAcc := c.k.whAcc } }

/-- R287: the registers and everything behind them after a soft reset. -/
def State.softClear (s : State) : State :=
  { regs := keepRegs softMask s.regs, mem := s.mem.filter fun c => ! inCal c.1,
    nv := { s.nv with calDue := none, calLast := 0 }, time := s.time,
    ch := s.ch.map Chan.soft, fd := s.fd, fsel := s.fsel, hu := s.hu, sq := s.sq,
    boot := { s.boot with done := false, wdiAt := none },
    clk := { since := s.time },
    ev := { attic := s.ev.attic, behind := s.ev.behind },
    link := { dkey := s.link.dkey, owner := s.link.owner, decAt := s.time },
    cellar := { nextNum := s.cellar.nextNum },
    spare := { displaced := s.spare.displaced, ended := s.spare.ended },
    tst := { sramAt := s.time, sramFrom := s.time, mramFrom := s.time, rowAt := s.time, queued := s.tst.queued,
             badRows := s.tst.badRows },
    maint := { jtagIr := s.maint.jtagIr, lossAt := Vector.replicate 16 s.time },
    status := s.status, data := s.data, free := s.free, pending := s.pending }

/-- The writer empties its queue (R287, R128). -/
def State.vaultFlush (s : State) : State := (List.range s.vault.queue.length).foldl (fun t _ => t.vaultTake) s

/-- R306, R292: the logic die leaves reset: HFRC starts. -/
def State.logicStart (s : State) : State := s.startJudge .hfrc

/-- R204: without a spare left, none begins a self-test. -/
def State.spareBoot (s : State) : State := if s.fget F.CS_SPARE_SPARE = 31 then s.fset F.CS_SPARE_SST 0 else s

/-- R289: the Attic wakes: the own entries wait, and the first starts. -/
def State.wake (s : State) : State :=
  let s1 := { s with boot := { s.boot with waking := true, wakeAt := none } }
  (s1.each [0, 1, 2, 3, 4] fun (e : Fin 24) t => t.railTo e rsWAIT).railSweep

/-- R287: a soft reset of the given RSTCAUSE: every open step closes with TERM 10 and source 8, its record reaching the Vault
before the writer resets; registers return to reset; the boot repeats from t4. With the own supplies held off after three
failed wakes, the Attic wakes again (R289). -/
def State.softReset (s : State) (cause : Nat) : State :=
  let s1 := s.each chans fun n t => t.closeNow n 10 8 s.nextBoundary
  let s2 := (s1.vaultFlush.softClear.fset F.SQ_BOOT_RSTCAUSE cause).setFlag F.SQ_WDI_ARMED false
  let s3 := s2.spareBoot
  if s.boot.waking then
    if s.boot.wakeAt.isNone ∧ 3 ≤ s.boot.fails then { s3 with boot := { s3.boot with fails := 0 } }.wake else s3
  else s3.logicStart

/-- R287, R288: what a power-on reset leaves: MRAM, its keys and records; every register else at its reset value, the step
store cleared, everything off. -/
def State.powerClear (s : State) (vbias : Bool) : State :=
  { regs := keepRegs (porMask vbias) s.regs, mem := s.mem.filter fun c => decide (0x400000 ≤ c.1),
    nv := { s.nv with calDue := none, calLast := 0, dirty := [] },
    ev := if vbias then { attic := s.ev.attic, behind := s.ev.behind } else {},
    link := { dkey := s.link.dkey, owner := s.link.owner },
    cellar := { nextNum := s.cellar.nextNum },
    fd := if vbias then s.fd.map (fun f => { inWin := f.inWin, vin := f.vin }) else Vector.replicate 2 {},
    tst := { queued := s.tst.queued, badRows := s.tst.badRows },
    boot := { vbias := vbias, straps := s.boot.straps },
    status := s.status, data := s.data, free := s.free, pending := s.pending }

/-- POWER_ON_RESET (R287, R289): VBIAS rises through 8.5 V after so many ns below 7.8 V, at least 10 µs. The straps fitted are
given. -/
def execPowerOnReset (straps : Straps) (low : Nat) (s : State) : Host.Outcome State Fault Refusal :=
  let s1 := s.powerClear false
  if low < 10 * us then .next s
  else .next { s1 with boot := { s1.boot with vbias := true, straps := some straps, strapsDue := true } }.wake

/-- VBIAS_LOSS (R287, R459): below 7.8 V every RAILEN pin is low and every gate off. -/
def execVbiasLoss (s : State) : Host.Outcome State Fault Refusal := .next (s.powerClear false)

/-- RESET_L_PULSE (R287, R289): RESET_L low for so many ns, at least 10 µs. -/
def execResetLPulse (held : Nat) (s : State) : Host.Outcome State Fault Refusal :=
  if s.boot.vbias ∧ 10 * us ≤ held then .next (s.softReset 3) else .next s

/-- SRST (R302): 0x5352 written to SQ_CMD.SRST. -/
def execSrst (s : State) : Host.Outcome State Fault Refusal :=
  if s.boot.vbias then .next ((s.answer stOk).softReset 4) else .next s

end Sys2Proof.Machine
end

