-- ==== Sys2Proof/Machine/Rails.lean ====
section
/-! DEFINITION. Rail supervision (R288–R303, R433), the WDI watchdog (R300) and the boot (R290–R292). -/

namespace Sys2Proof.Machine

open Sys2Proof

/-! System reset and power-down (R296, R297). -/

/-- R287, R296: in a system reset the logic is gone once VFE leaves GOOD. -/
def State.coreOff (s t : State) : State :=
  if t.boot.sysRst.isSome ∧ s.rail 4 = rsGOOD ∧ t.rail 4 ≠ rsGOOD then t.softClear else t

/-- R287, R296: a system reset begins: the whole table powers down. From here its events wait in the Attic queue (R338). -/
def State.sysReset (s : State) (cause : Nat) : State :=
  match s.boot.sysRst with
  | some _ => s
  | none =>
    let s1 := { s with boot := { s.boot with sysRst := some cause, vaultOn := false } }
    s.coreOff ((s1.fset F.SQ_STAT_SEQ 3).each rails fun e t => t.railAsk e false).railSweep

/-- R301: a WDI response that waited for the power-down to complete. -/
def State.wdiAct (s : State) : State :=
  if s.boot.wdiWait ∧ s.fget F.SQ_STAT_SEQ ≠ 3 then
    let s1 := { s with boot := { s.boot with wdiWait := false } }
    match s.fget F.SQ_WDI_RESP with
    | 1 => s1.softReset 5
    | 2 => s1.sysReset 2
    | _ => s1
  else s

/-- What follows every change of the table. -/
def State.railsSettle (s : State) : State := (s.coreOff s.railSweep).wdiAct

/-- R297: the minimum off time after a power-down has passed. -/
def State.offLongEnough (s : State) : Bool := match s.boot.offAt with
  | some t => decide (t + s.fget F.SQ_CTL_TMINOFF * (10 * ms) ≤ s.time)
  | none => true

/-- R296: every entry in OFF with USE = 1 that SQ_ROFF does not hold goes to WAIT. -/
def State.railUpNow (s : State) : State :=
  let held := s.heldOff
  let go (e : Fin 24) : Bool := s.railUse e && decide (s.rail e = rsOFF) && !s.monitored e && !decide (e ∈ held)
  let s1 := (s.setFlag F.SQ_STAT_PENDUP false).fset F.SQ_STAT_SEQ 1
  (s1.each (rails.filter go) fun e t => t.railTo e rsWAIT).railsSettle

/-- R296, R297: an up request; during a power-down and TMINOFF after it, it is held. -/
def State.railUp (s : State) : State :=
  if s.fget F.SQ_STAT_SEQ = 3 ∨ s.boot.sysRst.isSome ∨ s.offLongEnough = false then s.setFlag F.SQ_STAT_PENDUP true
  else s.railUpNow

/-- R296, R297: a down request; one in a power-up reverses it, with event 349. -/
def State.railDown (s : State) : State :=
  let s1 := if s.fget F.SQ_STAT_SEQ = 1 then s.raise 349 0 else s
  let s2 := (s1.setFlag F.SQ_STAT_PENDUP false).fset F.SQ_STAT_SEQ 3
  (s2.each (rails.filter fun e => decide (5 ≤ e.val)) fun e t => t.railAsk e false).railsSettle

/-- RAIL_UP_REQUEST (R296, R297). -/
def execRailUpRequest (s : State) : Host.Outcome State Fault Refusal := .next (s.railUp.answer stOk)

/-- RAIL_DOWN_REQUEST (R296, R297). -/
def execRailDownRequest (s : State) : Host.Outcome State Fault Refusal := .next (s.railDown.answer stOk)

/-- R302, R291: SQ_CMD.SAVE; busy while SAVING = 1. -/
def State.railSave (s : State) : State :=
  if s.flag F.SQ_STAT_SAVING then s.answer stBusy
  else ((s.setFlag F.SQ_STAT_SAVING true).dirtyRegion .rails).answer stOk

/-- RAIL_TABLE_SAVE (R302). -/
def execRailTableSave (s : State) : Host.Outcome State Fault Refusal := .next s.railSave

/-- PENDING_UP_START (R297, R287): TMINOFF after the last entry reached OFF: a held up request starts, or the system reset's
power-on reset follows. -/
def execPendingUpStart (s : State) : Host.Outcome State Fault Refusal :=
  if s.fget F.SQ_STAT_SEQ ≠ 0 ∨ s.offLongEnough = false then .next s
  else match s.boot.sysRst with
    | some cause =>
      let s1 := (s.powerClear true).fset F.SQ_BOOT_RSTCAUSE cause
      .next { s1 with boot := { s1.boot with strapsDue := true } }.wake
    | none => if s.flag F.SQ_STAT_PENDUP then .next s.railUpNow else .next s

/-! Faults and responses (R289, R298). -/

/-- R298: event 320 + e with its required record. -/
def State.railEvent (s : State) (e : Fin 24) (sev : Nat) : State := s.raiseReq (320 + e.val) sev

/-- A bit of SQ_RFLT. -/
def rfltFld (e : Fin 24) (bit : Nat) : Fld := ⟨.SQ_RFLT e, bit, 1⟩

/-- R289: an own supply fails at wake: all are turned off, the entry recorded, and the Attic waits 1 s, up to three times. -/
def State.ownFail (s : State) (e : Fin 24) : State :=
  let s1 := s.each [4, 3, 2, 1, 0] fun (k : Fin 24) t => t.railTo k rsOFF
  let n := s.boot.fails + 1
  let s2 := { s1 with boot := { s1.boot with fails := n, wakeAt := if n < 3 then some (s.time + sec) else none } }
  (((s2.fset F.SQ_BOOT_LASTFAIL e.val).incSat F.SQ_BOOT_ATTEMPTS)).railEvent e 3

/-- R297: a rail that fails while it is powered down is FAILED, and its dependants go off at once. -/
def State.railFailDown (s : State) (e : Fin 24) : State :=
  let deps := rails.filter fun i => s.railUse i && s.railDep i e && decide (rsRAMP ≤ s.rail i ∧ s.rail i ≤ rsGOOD)
  let s1 := (s.railTo e rsFAILED).modSq e fun x => { x with down := false, toWait := false, hold := false }
  (s1.each deps fun i t => t.railTo i rsDOWN).railEvent e 2

/-- R295, R297: an entry did not come up: a bit latched, and RETRY, or FAILED with its event once the tries are used up. -/
def State.railNotUp (s : State) (e : Fin 24) (bit : Nat) : State :=
  let s1 := s.setFlag (rfltFld e bit) true
  if e.val < 5 ∧ s.boot.waking then s1.ownFail e
  else if s.fget (F.SQ_RCFG_RETRY e) ≤ s.fget (F.SQ_RSTAT_TRIES e) then
    (((s1.railTo e rsFAILED).modSq e fun x => { x with hold := false }).railEvent e 2).railsSettle
  else (s1.railTo e rsRETRY).railsSettle

/-- R298: the entries of a group shut-down: those of the same group, VFE among group 0 but none of entries 0–3. -/
def State.railGroup (s : State) (e : Fin 24) : List (Fin 24) :=
  rails.filter fun i => decide (4 ≤ i.val) && s.railUse i && decide (s.fget (F.SQ_RCFG_GRP i) = s.fget (F.SQ_RCFG_GRP e))

/-- R298: group shut-down: the faulting entry FAILED, the others of the group off, dependants outside it to WAIT; SHELF SAFE
where the group holds VFE or a card rail. -/
def State.railGroupDown (s : State) (e : Fin 24) : State :=
  let g := s.railGroup e
  let all := s.closeDeps g 24
  let safe := decide (s.fget (F.SQ_RCFG_GRP e) = 0) || g.any fun i => s.flag (F.SQ_RCFG_CARD i)
  let s1 := (s.railTo e rsFAILED).modSq e fun x => { x with down := false, toWait := false, hold := safe }
  let s2 := s1.each all fun i t => if i = e then t else t.railAsk i (decide (i ∉ g))
  let s3 := s2.railSweep.railEvent e 2
  (if safe then s3.enterSafe 6 else s3).railsSettle

/-- R298, R301: the response to a rail found out of its window in SETTLE or GOOD. In one scan the higher RESP acts. -/
def State.railRespond (s : State) (e : Fin 24) (bit : Nat) : State :=
  let old := s.flag (rfltFld e bit)
  let s1 := s.setFlag (rfltFld e bit) true
  let resp := s.fget (F.SQ_RCFG_RESP e)
  if e.val < 5 ∧ s.boot.waking then s1.ownFail e
  else if resp = 0 then (if old then s1 else s1.railEvent e 1)
  else if s.sq[e].down then (s1.railFailDown e).railsSettle
  else if resp < s.boot.scanResp then s1.railEvent e (if resp = 1 then 1 else 2)
  else
    let s2 := { s1 with boot := { s1.boot with scanResp := resp } }
    match resp with
    | 1 =>
      if s.fget (F.SQ_RCFG_RETRY e) ≤ s.fget (F.SQ_RSTAT_TRIES e) then
        (((s2.railTo e rsFAILED).modSq e fun x => { x with hold := false }).railEvent e 2).railsSettle
      else ((s2.railTo e rsRETRY).railEvent e 1).railsSettle
    | 2 => s2.railGroupDown e
    | _ => (({ s2 with boot := { s2.boot with vaultOn := false } }).railEvent e 3).sysReset 1

/-- R294: the bit of a reading out of the window: UV below it, OV above. -/
def State.railSide (s : State) (e : Fin 24) (mv : Nat) : Nat :=
  if mv * 200 ≤ s.fget (F.SQ_RNOM_NOM e) * (200 + s.fget (F.SQ_RNOM_OV e)) then 2 else 3

/-- R295: TRMAX, TRMIN, TDLY, TOFF in ns. -/
def State.trMax (s : State) (e : Fin 24) : Nat := s.fget (F.SQ_RTIM_TRMAX e) * ms
/-- R295. -/
def State.trMin (s : State) (e : Fin 24) : Nat := s.fget (F.SQ_RTIM_TRMIN e) * (100 * us)
/-- R295. -/
def State.tDly (s : State) (e : Fin 24) : Nat := s.fget (F.SQ_RTIM_TDLY e) * ms
/-- R295. -/
def State.tOff (s : State) (e : Fin 24) : Nat := s.fget (F.SQ_RTIM_TOFF e) * (10 * ms)

/-- R293: an entry without an enable follows its reading. -/
def State.railFollow (s : State) (e : Fin 24) (mv : Nat) : State :=
  let st := s.rail e
  if s.inWindow e mv then (if st = rsGOOD ∨ st = rsFAILED then s else (s.railTo e rsGOOD).railsSettle)
  else if st = rsGOOD then s.railRespond e (s.railSide e mv)
  else if s.railLow e mv ∧ st ≠ rsFAILED ∧ st ≠ rsOFF then (s.railTo e rsOFF).railsSettle
  else s

/-- R295: one reading of an entry with an enable. One that waits is looked at again. -/
def State.railRead (s : State) (e : Fin 24) (mv : Nat) : State :=
  let x := s.sq[e]
  let dt := s.time - x.since
  match s.rail e with
  | 2 =>
    if s.trMax e ≤ dt then s.railNotUp e 0
    else if s.inWindow e mv then
      if s.trMin e ≤ dt ∨ s.flag (F.SQ_RSTAT_PREB e) then
        ((s.fset (F.SQ_RSTAT_TRAMP e) (min 255 (dt / (100 * us)))).railTo e rsSETTLE).railsSettle
      else s.railNotUp e 1
    else s
  | 1 => s.railsSettle
  | 3 => if s.inWindow e mv then s else s.railRespond e (s.railSide e mv)
  | 4 =>
    if s.inWindow e mv = false then s.railRespond e (s.railSide e mv)
    else if 10 * sec ≤ dt then s.fset (F.SQ_RSTAT_TRIES e) 0 else s
  | 5 => if s.railLow e mv then (s.railOff e).railsSettle else s
  | 6 => if s.railLow e mv ∧ x.offAt.isNone then s.modSq e fun x => { x with offAt := some s.time } else s
  | _ => s

/-- R298: the scanning converter is to read the entry: the next in use after the one read last, 20 µs after it. -/
def State.scanDue (s : State) (e : Fin 24) : Bool :=
  let turn := ((List.range 24).map fun k => s.boot.scanned + Fin.ofNat 24 (k + 1)).find? fun i => s.railUse i
  s.boot.vbias && decide (turn = some e) && s.boot.scanAt.all fun t => decide (t + 20 * us ≤ s.time)

/-- RAIL_SCAN (R298): the reading of one entry in use, in mV. -/
def execRailScan (e : Fin 24) (mv : Nat) (s : State) : Host.Outcome State Fault Refusal :=
  if s.scanDue e = false then .next s
  else
    let fresh := decide (e ≤ s.boot.scanned)
    let s1 := { s with boot := { s.boot with scanned := e, scanAt := some s.time, scanResp := if fresh then 0 else s.boot.scanResp } }
    let s2 := s1.fset (F.SQ_RSTAT_V e) (min 65535 mv)
    .next (if s2.monitored e then s2.railFollow e mv else s2.railRead e mv)

/-- RAIL_RAMP_TIMEOUT (R295, R301). -/
def execRailRampTimeout (e : Fin 24) (s : State) : Host.Outcome State Fault Refusal :=
  if s.rail e = rsRAMP ∧ s.reached (s.sq[e].since + s.trMax e) then .next (s.railNotUp e 0) else .next s

/-- RAIL_SETTLED (R295): in window for TDLY. VFE good at a wake lets the logic die start (R290). -/
def execRailSettled (e : Fin 24) (s : State) : Host.Outcome State Fault Refusal :=
  if s.rail e = rsSETTLE ∧ s.reached (s.sq[e].since + s.tDly e) then
    let s1 := s.railTo e rsGOOD
    let s2 := if e = 4 ∧ s.boot.waking then
        { s1 with boot := { s1.boot with waking := false, fails := 0 } }.logicStart else s1
    .next s2.railsSettle
  else .next s

/-- RAIL_RETRY_END (R295, R301): TOFF after the reading fell below 10 %; a down request ends the retries. -/
def execRailRetryEnd (e : Fin 24) (s : State) : Host.Outcome State Fault Refusal :=
  match s.sq[e].offAt with
  | some t =>
    if s.rail e = rsRETRY ∧ s.reached (t + s.tOff e) then
      if s.sq[e].down then .next (s.railOff e).railsSettle
      else .next ((s.incSat (F.SQ_RSTAT_TRIES e)).railTo e rsWAIT).railsSettle
    else .next s
  | none => .next s

/-- RAIL_DOWN_TIMEOUT (R295): 4 × TRMAX in DOWN. -/
def execRailDownTimeout (e : Fin 24) (s : State) : Host.Outcome State Fault Refusal :=
  if s.rail e = rsDOWN ∧ s.reached (s.sq[e].since + 4 * s.trMax e) then
    .next ((s.setFlag (F.SQ_RFLT_DNSLOW e) true).railOff e).railsSettle
  else .next s

/-- R295: a write of SQ_RFLT; with every bit clear a FAILED entry is OFF. -/
def State.railClear (s : State) (e : Fin 24) (val : Word) : State :=
  let s1 := s.writeReg (.SQ_RFLT e) val
  if s.rail e = rsFAILED ∧ s1.word (.SQ_RFLT e) = 0 then s1.railTo e rsOFF else s1

/-- RAIL_FAULT_CLEAR (R295). -/
def execRailFaultClear (e : Fin 24) (val : Word) (s : State) : Host.Outcome State Fault Refusal := .next (s.railClear e val)

/-- R433: a write of SQ_ROFF: what it holds, and what depends on that, powers down; what it releases rejoins the next up
request. -/
def State.roffWrite (s : State) (val : Word) : State :=
  let s1 := s.writeReg .SQ_ROFF val
  (s1.each s1.heldOff fun e t => t.railAsk e false).railsSettle

/-- SQ_ROFF_WRITE (R433). -/
def execSqRoffWrite (val : Word) (s : State) : Host.Outcome State Fault Refusal := .next (s.roffWrite val)

/-- R302, R303, R293, R294: a write of an entry register. The entry is OFF or FAILED, else busy; EN names a shelf pin no other
entry names; a dependency on itself or in a cycle is reserved. -/
def State.railWrite (s : State) (e : Fin 24) (r : Reg) (val : Word) : State :=
  if e.val < 5 then s.answer stOk
  else if s.rail e ≠ rsOFF ∧ s.rail e ≠ rsFAILED then s.answer stBusy
  else match r with
    | .SQ_RCFG _ =>
      let en := bitsOf val 0 5
      let taken := rails.any fun i => decide (i ≠ e ∧ 5 ≤ i.val ∧ i.val < 21 ∧ s.fget (F.SQ_RCFG_EN i) = en)
      let bad := decide (e.val < 21) && !decide (en = 31) && (decide (en < 5 ∨ 15 < en) || taken)
      if bad then
        let t := s.writeReg r (putBits val 0 5 (s.fget (F.SQ_RCFG_EN e)))
        t.answer stReserved
      else s.writeReg r val
    | .SQ_RDEP _ =>
      let w := putBits val 0 5 31
      let t := s.setWord r w
      if t.railDep e e ∨ e ∈ t.closeDeps (rails.filter fun i => decide (i ≠ e) && t.railDep i e) 24 then s.answer stReserved
      else s.writeReg r w
    | _ => s.writeReg r val

/-! The WDI watchdog (R300). -/

/-- The watchdog's time has run out in this millisecond. -/
def State.wdiDue (s : State) : Bool := match s.boot.wdiAt with
  | some t => s.flag F.SQ_WDI_ARMED && decide (0 < s.fget F.SQ_WDI_TMO) && s.reached (t + s.fget F.SQ_WDI_TMO * ms)
  | none => false

/-- WDI_EDGE (R300): an edge in the tick of expiry comes too late. -/
def execWdiEdge (s : State) : Host.Outcome State Fault Refusal :=
  if s.boot.done = false ∨ s.wdiDue then .next s
  else .next ({ s with boot := { s.boot with wdiAt := some s.time } }.setFlag F.SQ_WDI_ARMED true)

/-- WDI_EXPIRY (R300, R301): during a power-down the response waits for its end. -/
def execWdiExpiry (s : State) : Host.Outcome State Fault Refusal :=
  if s.wdiDue then
    let s1 := ({ s with boot := { s.boot with wdiAt := none, wdiWait := true } }.setFlag F.SQ_WDI_EXP true).raise 346 2
    .next s1.wdiAct
  else .next s

/-- ATTIC_WAKE_RETRY (R289): 1 s after a failed wake. -/
def execAtticWakeRetry (s : State) : Host.Outcome State Fault Refusal :=
  match s.boot.wakeAt with
  | some t => if s.reached t then .next s.wake else .next s
  | none => .next s

/-! Boot (R290–R292). -/

/-- The registers of a saved region go into force. -/
def State.loadRegion (s : State) (r : SavedRegion) : State := s.each r.regs fun p t => t.setWord p.1 p.2

/-- The regions of a list go into force. -/
def State.loadRegions (s : State) (l : List SavedRegion) : State := s.each l fun r t => t.loadRegion r

/-- R53: the active table and its shadow from the saved copy. -/
def State.loadCal (s : State) (l : List Host.Cell) : State :=
  let at_ (base : Nat) : List Host.Cell := (l.filter fun c => decide (c.1 < 0x10000)).map fun c => (base + c.1, c.2)
  { s with mem := memReplace (memReplace s.mem calActive 0x10000 (at_ calActive)) calShadow 0x10000 (at_ calShadow) }

/-- R291: a region came from the other bank. -/
def State.cfgAlt (s : State) : State := (s.setFlag F.SQ_BOOT_CFGALT true).raise 348 1

/-- R291: one region: from the bank in use, from the other bank with CFGALT and event 348, or the defaults with CFGDEF. The rail table and
the adoption are loaded only after a power-on reset, since a soft reset keeps them. -/
def State.loadOne (s : State) (img : BootImage) (r : Region) : State :=
  let of_ (l : List SavedRegion) : List SavedRegion := l.filter fun x => decide (x.region = r)
  let use := if s.nv.cfgInB then s.nv.cfgB else s.nv.cfgA
  let other := if s.nv.cfgInB then s.nv.cfgA else s.nv.cfgB
  if s.boot.strapsDue = false ∧ r ≠ .link then s
  else if img.cfg[r.idx] then s.loadRegions (of_ use)
  else if img.cfgOther[r.idx] then (s.loadRegions (of_ other)).cfgAlt
  else s.setFlag F.SQ_BOOT_CFGDEF true

/-- R291: the configuration, region by region; the calibration table's default is every entry at VALID = 0. -/
def State.loadConfig (s : State) (img : BootImage) : State :=
  let s1 := s.each [.adopt, .link, .rails] fun (r : Region) t => t.loadOne img r
  if img.cfg[3] then s1.loadCal s1.nv.calSaved
  else if img.cfgOther[3] then (s1.loadCal s1.nv.calSaved).cfgAlt
  else (s1.loadCal []).setFlag F.SQ_BOOT_CFGDEF true

/-- R416: the repairs queued are made before any region is read. -/
def State.applyRepairs (s : State) : State :=
  let n := min s.tst.queued.length (s.fget F.BT_REPAIR_MSPARE)
  let s1 := (s.fset F.BT_REPAIR_MSPARE (s.fget F.BT_REPAIR_MSPARE - n)).fset F.BT_REPAIR_MPEND (s.tst.queued.length - n)
  { s1 with tst := { s1.tst with queued := s1.tst.queued.drop n } }

/-- R386: the ADDR strap. A code that cannot be read is free (notes/assumptions/5.md). -/
def State.readAddr (s : State) (x : Straps) : State := match strapCode (x.addr / 5) with
  | some c => (s.fset F.TW1_ADDR_ADDR (0x40 + c)).fset F.TW1_ADDR_CODE c
  | none =>
    let s1 := (s.fresh.fset F.TW1_ADDR_ADDR (bitsOf s.freeWord 0 7)).fset F.TW1_ADDR_CODE (bitsOf s.freeWord 7 4)
    (s1.setFlag F.TW1_ADDR_SFLT true).raise 429 2

/-- R290, R447: the straps, in the boot that follows a power-on reset. -/
def State.bootStraps (s : State) : State := match s.boot.straps with
  | some x => if s.boot.strapsDue then (s.readStraps x).readAddr x else s
  | none => s

/-- R290, R422: one reading of each die sensor sets the first bands. -/
def State.bootDie (s : State) (die : Vector Int 8) : State :=
  let s1 := s.each chans fun n t => t.modM n fun m => { m with bandNew := true }
  ((s1.each (List.finRange 8) fun k t => t.dieRead k die[k]).dieMax).bands true

/-- R198: an adoption in LN_ADOPT comes into force again. -/
def State.bootAdopt (s : State) : State :=
  if s.flag F.LN_ADOPT_EN then s.adoptStart else s

/-- R338, R340, R403: the Vault is powered: the writer finds its place, the boot marker goes in, the Attic queue drains. The
version word of the running image is that of its bank. -/
def State.bootVault (s : State) : State :=
  let ver := if s.flag F.GL_STATE_FWBANK then s.nv.imgB else s.nv.imgA
  let s1 := { s with boot := { s.boot with vaultOn := true } }.vaultScan
  let gl := s1.glState
  let s2 := s1.record 5 480 0 s1.now
    (le32 (s1.word .SQ_BOOT).toNat ++ le32 (s1.word .GL_ID).toNat ++ le32 ver ++ le32 gl.toNat)
  s2.atticDrain

/-- R290: the firmware bank that starts: the one the boot pointer names, else the other; none: recovery. -/
def State.bootBank (s : State) (img : BootImage) : Option (Bool × Nat) :=
  let ok (b : Bool) : Bool := if b then img.bankB else img.bankA
  let first := s.nv.bootB
  if ok first then some (first, 0) else if ok (!first) then some (!first, 1) else none

/-- R291, R377: the configuration of the bank of the running firmware is in force, and the ports take their rates. -/
def State.bootConfig (s : State) (img : BootImage) (b : Bool) : State :=
  let s1 := State.loadConfig { s with nv := { s.nv with cfgInB := b } } img
  let s2 := s1.each [0, 1] fun (p : Fin 2) t => t.fset (F.HL_PSTAT_RATE p) (t.fget (F.HL_PCFG_RATE p))
  { s2 with clk := { s2.clk with per := s2.tsw * 1000, perTo := s2.tsw * 1000 } }

/-- R292, R229, t7: the supervisor runs: the boot is done and the feed logic enabled, so a feed in its window enters QUAL. -/
def State.bootEnd (s : State) : State :=
  let s1 : State :=
    { s with boot := { s.boot with done := true, strapsDue := false }, fsel := { s.fsel with enabled := true } }
  s1.each [0, 1] fun (f : Fin 2) t =>
    if t.fd[f].inWin ∧ t.feedState f = 0 ∧ t.flag (F.FD_FCFG_EN f) then t.setFeed f 1 else t

/-- R290, R292: the firmware runs: configuration, calibration, ports, feeds, hold-up watchdog, and with AUTO the rails. -/
def State.bootRun (s : State) (img : BootImage) (b : Bool) (result : Nat) : State :=
  let s1 := (s.fset F.SQ_BOOT_RESULT result).setFlag F.GL_STATE_FWBANK b
  let s2 := if result = 1 then s1.raise 347 1 else s1
  let s3 := (((s2.bootConfig img b).bootAdopt).bootVault).bootEnd.wdtArm
  if s.boot.strapsDue ∧ s3.flag F.SQ_CTL_AUTO then s3.railUp else s3

/-- R292, R444: the logic die is out of reset: VBIAS and the own supplies are there. PWMA, PWMB and AXPWM are driven from then on,
and high impedance otherwise. -/
def State.logicUp (s : State) : Bool :=
  s.boot.vbias && !s.boot.waking && s.boot.sysRst.isNone && ([0, 1, 2, 3] : List (Fin 24)).all (fun e => decide (s.rail e = rsGOOD))

/-- The boot has what it needs: the logic die out of reset, and stable clocks (R290, R305). -/
def State.bootReady (s : State) : Bool :=
  s.logicUp && !s.boot.done && !s.flag F.HL_STAT_RECOV
    && s.flag (stableFld .hfrc) && s.flag (stableFld .xhf) && s.pllsUp

/-- R363: in recovery the ports take the newest copy of their region that passes; with none they stay disabled. -/
def State.recoverPorts (s : State) (img : BootImage) : State :=
  let l := s.nv.cfgA.filter fun r => decide (r.region = .link)
  if img.cfg[Region.link.idx] ∨ img.cfgOther[Region.link.idx] then s.loadRegions l
  else s.each [0, 1] fun (p : Fin 2) t => t.setFlag (F.HL_PCFG_EN p) false

/-- R290, R363: neither bank passes. -/
def State.recover (s : State) : State := (s.fset F.SQ_BOOT_RESULT 2).setFlag F.HL_STAT_RECOV true

/-- R290–R292: the boot's work once its supplies and clocks are there. -/
def State.bootDone (s : State) (img : BootImage) : State :=
  let s1 := (s.applyRepairs.bootStraps).bootDie img.die
  match s1.bootBank img with
  | some (b, result) => s1.bootRun img b result
  | none => (s1.recover.recoverPorts img).bootVault

end Sys2Proof.Machine
end

