-- ==== Sys2Proof/Machine/Maint.lean ====
section
/-! DEFINITION. Live maintenance (R428–R436): the supervisor restart and the channel cards; and test access (R448). -/

namespace Sys2Proof.Machine

open Sys2Proof

/-! Supervisor restart (R429–R431). -/

/-- The restarts begun in the last 60 s. -/
def State.recentRestarts (s : State) : List (Nat × Bool) := s.maint.restarts.filter fun r => decide (s.time < r.1 + 60 * sec)

/-- R436: GL_SUPV.RST60. -/
def State.rst60 (s : State) : Nat := min 15 s.recentRestarts.length

/-- R430, R431: every RUN channel stops as at a host stop, with source 8. -/
def State.stopRuns (s : State) : State :=
  s.each chans fun n t => if t.chState n = stRUN then t.modX n fun x => { x with stopPend := some 8 } else t

/-- R429–R431, R14: a restart of a cause begins, or begins again. -/
def State.restart (s : State) (cause : Nat) : State :=
  let fault := decide (3 ≤ cause)
  let l := (s.time, fault) :: s.recentRestarts
  let s1 := { s with maint := { s.maint with restartAt := some s.time, restarts := l, commit := false } }
  let s2 := ((s1.setFlag F.GL_STATE_SUPV true).fset F.GL_SUPV_CAUSE cause).lockClose
  if fault ∧ 3 ≤ (l.filter fun r => r.2).length then s2.stopRuns.raise 484 3 else s2

/-- R436: a write of GL_SUPV.KEY: busy during a restart; values other than 0x5253 have no effect. -/
def State.restartKey (s : State) (key : Nat) : State :=
  if s.flag F.GL_STATE_SUPV then s.answer stBusy
  else if key = 0x5253 then (s.answer stOk).restart 2 else s.answer stOk

/-- SUPERVISOR_RESTART_KEY (R436). -/
def execSupervisorRestartKey (key : BitVec 16) (s : State) : Host.Outcome State Fault Refusal := .next (s.restartKey key.toNat)

/-- SUPERVISOR_WATCHDOG (R429): not serviced for `idle` ms: at 50 ms a restart. -/
def execSupervisorWatchdog (idle : Nat) (s : State) : Host.Outcome State Fault Refusal := if s.served ∧ 50 ≤ idle then .next (s.restart 3) else .next s

/-- SUPERVISOR_EXCEPTION (R429). -/
def execSupervisorException (s : State) : Host.Outcome State Fault Refusal := if s.served then .next (s.restart 4) else .next s

/-- R430: t3: the firmware of a bank runs, or recovery. -/
def State.restartEnd (s : State) (bankA bankB : Bool) (t0 : Nat) : State :=
  let old := s.fget F.GL_STATE_FWBANK
  let dur := min 255 ((s.time - t0) / ms)
  let s1 := { s with maint := { s.maint with restartAt := none } }
  let s2 := (s1.setFlag F.GL_STATE_SUPV false).fset F.GL_SUPV_DUR dur
  match s2.bootBank { bankA := bankA, bankB := bankB } with
  | none => s2.recover.stopRuns
  | some (b, result) =>
    let s3 := ((s2.fset F.SQ_BOOT_RESULT result).setFlag F.GL_STATE_FWBANK b).setFlag F.HL_STAT_RECOV false
    let s4 := if result = 1 then s3.raise 347 1 else s3
    let s5 := State.wdtArm { s4 with nv := { s4.nv with cfgInB := b } }
    s5.raise 484 0 [BitVec.ofNat 8 (s.fget F.GL_SUPV_CAUSE), BitVec.ofNat 8 old, BitVec.ofNat 8 b.toNat, BitVec.ofNat 8 dur]

/-! Channel cards (R434). -/

/-- The channels of card k. -/
def cardChans (k : Fin 16) : List (Fin 128) := (List.range 8).map fun j => Fin.ofNat 128 (8 * k.val + j)

/-- R434, R92, R18, R72: one channel of a card that is lost; the gang it belongs to parks. -/
def State.loseChan (s : State) (n : Fin 128) : State :=
  if s.chState n = stABSENT then s
  else
    let s1 := if s.idle (s.leader n) then s else s.parkGang (s.leader n) 8 s.nextBoundary
    let s2 := if s1.idle n then s1 else s1.parkGang n 8 s.nextBoundary
    ((s2.quiet n).fset (F.CH_STATE_STATE n) stABSENT).setFlag (F.CH_RPATH_VALID n) false

/-- R434, R192: card k is lost. -/
def State.cardLost (s : State) (k : Fin 16) : State :=
  let l := cardChans k
  let s1 := s.each l fun n t => t.loseChan n
  let s2 := { s1 with lane := { s1.lane with k0 := s1.lane.k0.filter fun e => decide (e.1 / 0x1000 ≠ k.val) } }
  let s3 := if s2.lane.visit.any fun v => decide (v.n ∈ l) then s2.laneAbandon else s2
  (s3.setFlag ⟨.GL_CARD, k.val, 1⟩ false).raise (352 + k.val) 1

/-- CARD_LOSS (R434): CARDP_L[k] high in so many consecutive samples, 1 µs apart: two are a loss. Of a card already lost it only
restarts the count of a return. -/
def execCardLoss (k : Fin 16) (high : Nat) (s : State) : Host.Outcome State Fault Refusal :=
  if high < 2 then .next s
  else
    let s1 := { s with maint := { s.maint with lossAt := s.maint.lossAt.set k s.time } }
    .next (if s.flag ⟨.GL_CARD, k.val, 1⟩ ∨ (cardChans k).any (fun n => decide (s.chState n ≠ stABSENT)) then s1.cardLost k else s1)

/-- R434: one channel of a card that returns: PARKED, every fault bit but SUSP cleared. -/
def State.returnChan (s : State) (n : Fin 128) : State :=
  let w := s.word (.CH_FAULT n) &&& ~~~ (faultMask &&& ~~~ 0x800#32)
  let s1 := s.setWord (.CH_FAULT n) w
  let s2 := if w &&& faultMask = 0 then s1.fset (F.CH_FAULT_FIRST n) 0 else s1
  let s3 := if s.chState n = stABSENT then s2.fset (F.CH_STATE_STATE n) stPARKED else s2
  s3.settleMemb (s3.leader n)

/-- R434, R435: how long CARDP_L[k] must stay low, µs. -/
def State.cardQual (s : State) : Nat := s.fget F.GL_CARD_QUAL * 10000

/-- CARD_RETURN (R434): CARDP_L[k] low for `low` µs, with no loss in that time: QUAL × 10 ms are a return. -/
def execCardReturn (k : Fin 16) (low : Nat) (s : State) : Host.Outcome State Fault Refusal :=
  if s.flag ⟨.GL_CARD, k.val, 1⟩ ∨ low < s.cardQual ∨ s.reached (s.maint.lossAt[k] + s.cardQual * us) = false then .next s
  else
    let s1 := s.each (cardChans k) fun n t => t.returnChan n
    .next ((s1.setFlag ⟨.GL_CARD, k.val, 1⟩ true).raise (352 + k.val) 0)

/-! Test access (R448, R449). -/

/-- R445: the level of OSW[n]; none: high impedance, until the boot after a power-on reset has loaded the configuration. -/
def State.oswPin (s : State) (n : Fin 128) : Option Bool := if s.logicUp && !s.boot.strapsDue then some (s.oswHigh n) else none

/-- R448: IDCODE: the version is GL_ID.STEP[7:4], the part 0x9128, the manufacturer 0x3A5. -/
def State.idcode (s : State) : Word := BitVec.ofNat 32 (s.fget F.GL_ID_STEP / 16 * 2 ^ 28 + 0x9128 * 2 ^ 12 + 0x3A5 * 2 + 1)

/-- JTAG_UPDATE_IR (R448, R449): EXTEST comes into force only in START or SAFE; unlisted codes are BYPASS. IDCODE answers its
register. -/
def execJtagUpdateIr (ir : BitVec 5) (s : State) : Host.Outcome State Fault Refusal :=
  let v :=
    if ir = 0 then (if s.shelf = shSTART ∨ s.shelf = shSAFE then 0 else 31)
    else if ir = 1 then 1 else if ir = 2 then 2 else 31
  let s1 := { s with maint := { s.maint with jtagIr := v } }
  .next (if v = 2 then s1.answer stOk (bytesOf s.idcode) else s1)

/-! Configuration regions (R291). -/

/-- The registers a region holds (R198, R302, R377). -/
def regionRegs : Region → List Reg
  | .adopt => [.LN_ADOPT]
  | .link =>
    [.HL_CFG] ++ ([0, 1] : List (Fin 2)).flatMap fun p =>
      [.HL_PCFG p, .HL_IP4 p, .HL_GW4 p, .HL_PLEN p] ++ (List.finRange 4).map fun w => .HL_IP6 p w
  | .rails =>
    [.SQ_CTL] ++ (rails.filter fun e => decide (5 ≤ e.val)).flatMap fun e => [.SQ_RCFG e, .SQ_RDEP e, .SQ_RNOM e, .SQ_RTIM e]

/-- What a region saves of a register: the adoption's request, not its state. -/
def regionMask : Reg → Word
  | .LN_ADOPT => 0x17F#32
  | _ => 0xFFFFFFFF#32

/-- R291: a region's present contents. -/
def State.regionNow (s : State) (r : Region) : SavedRegion :=
  { region := r, regs := (regionRegs r).map fun x => (x, s.word x &&& regionMask x) }

/-- A bank with one region replaced. -/
def putRegion (l : List SavedRegion) (r : SavedRegion) : List SavedRegion := l.filter (fun x => x.region ≠ r.region) ++ [r]

/-- CONFIG_REGION_SAVE (R291): the bank in use, then its mirror; SAVING falls. -/
def execConfigRegionSave (r : Region) (s : State) : Host.Outcome State Fault Refusal :=
  if s.nv.dirty.any fun d => d.1 = r then
    let x := s.regionNow r
    let s1 : State :=
      { s with nv := { s.nv with cfgA := putRegion s.nv.cfgA x, cfgB := putRegion s.nv.cfgB x,
                                 dirty := s.nv.dirty.filter fun d => d.1 ≠ r } }
    .next (if r = .rails then s1.setFlag F.SQ_STAT_SAVING false else s1)
  else .next s

end Sys2Proof.Machine
end

