-- ==== Sys2Proof/Machine/Host.lean ====
section
/-! DEFINITION. The host's reads and writes of a word (R4–R8, R13): what a register reads as, and what a write does beside
setting its fields. READ32, WRITE32, the block and bulk commands, TW1 REG and the SPI port all come here. -/

namespace Sys2Proof.Machine

open Sys2Proof

/-! What a register reads as. -/

/-- Registers with a field that is computed where it is read. -/
def State.computed (s : State) (r : Reg) (w : Word) : Word := match r with
  | .GL_STATE => putBits w 8 8 s.parkedCount
  | .GL_SAFE => putBits w 9 1 s.held.toNat
  | .GL_LOCK => putBits w 24 8 s.lockLeft
  | .GL_SUPV => putBits w 28 4 s.rst60
  | .CK_TIME => BitVec.ofNat 32 (stampCode s.ctr)
  | .CK_TIMEH => BitVec.ofNat 32 (stampCode s.ctr / 2 ^ 32)
  | .CK_PPSSTAT => putBits w 16 16 s.holdHours
  | .EV_STAT => putBits w 0 7 s.ev.attic.length
  | .FD_FSTAT f => s.feedStatus f
  | .HU_WDT => putBits w 24 8 s.wdtLeft
  | .HL_SESS k => s.sessWord k
  | .HL_STAT => putBits w 24 4 s.sessCount
  | .VT_QUEUE => putBits w 0 11 s.vault.queue.length
  | .CS_SG i => s.sh.gB[i]
  | .CS_STAT k => putBits w 4 8 (s.testAge k)
  | .LN_CALSTAT => putBits w 16 14 s.lane.dirty.length
  | .LN_KBASE => s.kbaseShown w
  | .HU_GG_SOC => s.socShown w
  | .CH_G n i => (s.lane1 n).x.gB[i]
  | _ => w

/-- R5: the fields of a register that reads show: WO fields read 0. -/
def Reg.readable (r : Reg) : Word :=
  r.fields.foldl (fun m f => if f.ty = .wo then m else m ||| maskOf f.lo f.len) 0

/-- R5: a register as a read shows it. -/
def State.readReg (s : State) (r : Reg) : Word := s.computed r (s.word r) &&& r.readable

/-- R8, R167, R239, R315: the high word of a pair, for its low word. -/
def Reg.pairHigh : Reg → Option Reg
  | .CK_TIME => some .CK_TIMEH
  | .FD_EIN f => some (.FD_EINH f)
  | .FD_EOUT f => some (.FD_EOUTH f)
  | .CH_AH n => some (.CH_AHH n)
  | .CH_WH n => some (.CH_WHH n)
  | _ => none

/-- R8: the low word of a pair, for its high word. -/
def Reg.pairLow : Reg → Option Reg
  | .CK_TIMEH => some .CK_TIME
  | .FD_EINH f => some (.FD_EIN f)
  | .FD_EOUTH f => some (.FD_EOUT f)
  | .CH_AHH n => some (.CH_AH n)
  | .CH_WHH n => some (.CH_WH n)
  | _ => none

/-- R140: the words of a record latched by a read of CH_TREC0. -/
def State.latchTrec (s : State) (n : Fin 128) : State :=
  { s with held64 := ((List.finRange 16).drop 1).foldl (fun l i => regPut l (.CH_TREC n i) (s.word (.CH_TREC n i))) s.held64 }

/-- R8, R140: what a read of a register returns, and the holding copies after it. -/
def State.regRead (s : State) (r : Reg) : Word × State :=
  match r.pairHigh, r.pairLow with
  | some h, _ => (s.readReg r, { s with held64 := regPut s.held64 h (s.readReg h) })
  | none, some _ => ((regFind s.held64 r).getD (s.readReg r), { s with held64 := regDrop s.held64 r })
  | none, none =>
    match r with
    | .CH_TREC n i =>
      if i = 0 then (s.readReg r, s.latchTrec n)
      else if i = 15 then
        ((regFind s.held64 r).getD (s.readReg r),
          { s with held64 := (List.finRange 16).foldl (fun l k => regDrop l (.CH_TREC n k)) s.held64 })
      else ((regFind s.held64 r).getD (s.readReg r), s)
    | _ => (s.readReg r, s)

/-! Addresses (R4, R13). -/

/-- Where an address lies. -/
inductive Place where
  | reg (r : Reg)
  | store
  | active
  | shadow
  | vault
  | cellar
  | none
  deriving DecidableEq, Repr

/-- R4, R13: what occupies an address. -/
def placeOf (a : Nat) : Place :=
  if a % 4 ≠ 0 then .none
  else if a < 0x200000 then (match Reg.ofAddr a with
    | some r => .reg r
    | Option.none => .none)
  else if a < 0x280000 then .store
  else if a < 0x300000 then .none
  else if a < 0x310000 then .active
  else if a < 0x320000 then .shadow
  else if a < 0x400000 then .none
  else if a < 0x800000 then .vault
  else if a < 0xE00000 then .cellar
  else .none

/-- R4, R13, R413: a host read of a word: its status, its value and the state after it. -/
def State.hostRead (s : State) (a : Nat) : Nat × Word × State := match placeOf a with
  | .reg r => (stOk, (s.regRead r).1, (s.regRead r).2)
  | .none => (stAddress, 0, s)
  | .shadow => if s.flag F.LN_CALSTAT_BUSY then (stBusy, 0, s) else (stOk, s.memWord a, s)
  | .vault => if s.flag F.VT_STAT_CLRING then (stBusy, 0, s) else (stOk, s.memWord a, s)
  | _ => (stOk, s.memWord a, s)

/-! Writes. -/

/-- R93, R117, R208, R225, R285, R286, R323: the registers whose writes wait for a boundary, for the next loop period, or for the
lane's next slot. -/
def Reg.waits (r : Reg) : Bool :=
  let a := r.addr
  (r.atSlot || decide (0x100000 ≤ a) || decide (0x10000 ≤ a ∧ a < 0x20000) || decide (0x60000 ≤ a ∧ a < 0x80000)) &&
    r.fields.any fun f => f.ty.writes

/-- A write of a register with no rule of its own: its fields are set, and where writes wait, the value in force is kept. -/
def State.plainWrite (s : State) (r : Reg) (val : Word) : State :=
  let s1 := s.writeReg r val
  if r.waits ∧ s1.word r ≠ s.word r then { s1 with old := regPut s1.old r ((regFind s.old r).getD (s.word r)) } else s1

/-- CH_MEAS (R34, R54): a write of a frozen step waits for the next step start. -/
def State.measWrite (s : State) (n : Fin 128) (val : Word) : State :=
  (s.plainWrite (.CH_MEAS n) val).modM n fun m => { m with measHeld := m.frozen.isSome }

/-- GL_SAFE (R13, R22): REQ prevails over CLR. -/
def State.safeWrite (s : State) (val : Word) : State :=
  if val.getLsbD 0 then (s.enterSafe 1).answer stOk
  else if val.getLsbD 1 then { s with clrReq := true }.answer stOk
  else s.answer stOk

/-- EV_PEND (R341): what the cleared bits take with them. -/
def State.pendWrite (s : State) (w : Fin 16) (val : Word) : State :=
  let s1 := s.writeReg (.EV_PEND w) val
  { s1 with ev := { s1.ev with hrdy := s1.ev.hrdy.filter fun n => s1.pend n,
                               pendSev := s1.ev.pendSev.filter fun p => s1.pend p.1 } }

/-- SQ_CMD (R296, R302): DOWN prevails over UP. -/
def State.sqCmd (s : State) (val : Word) : State :=
  if val.getLsbD 2 ∧ s.flag F.SQ_STAT_SAVING then s.answer stBusy
  else
    let s1 := if val.getLsbD 1 then s.railDown else if val.getLsbD 0 then s.railUp else s
    let s2 := (if val.getLsbD 2 then s1.railSave else s1).answer stOk
    if bitsOf val 16 16 = 0x5352 then s2.softReset 4 else s2

/-- CK_PPS (R319, R323): EN written 0 leaves the servo FREE. -/
def State.ppsWrite (s : State) (val : Word) : State :=
  let s1 := s.plainWrite .CK_PPS val
  if s.flag F.CK_PPS_EN ∧ ¬ s1.flag F.CK_PPS_EN then s1.ppsFree else s1

/-- CK_COMPAT (R323): EN changes only while every channel is PARKED or ABSENT. -/
def State.compatWrite (s : State) (val : Word) : State :=
  if s.flag F.GL_LOCK_OPEN ∧ val.getLsbD 0 ≠ s.flag F.CK_COMPAT_EN ∧ s.allIdle = false then s.answer stBusy
  else s.plainWrite .CK_COMPAT val

/-- SQ_RFLT (R295, R302): written while the entry is OFF or FAILED. An own supply's is not so bound: its entry is never OFF
while a host writes. -/
def State.rfltWrite (s : State) (e : Fin 24) (val : Word) : State :=
  if 5 ≤ e.val ∧ s.rail e ≠ rsOFF ∧ s.rail e ≠ rsFAILED then s.answer stBusy else s.railClear e val

/-- FD_FCFG (R227, R243): EN written 0 disables the feed. -/
def State.fcfgWrite (s : State) (f : Fin 2) (val : Word) : State :=
  let s1 := s.writeReg (.FD_FCFG f) val
  if s.flag (F.FD_FCFG_EN f) ∧ ¬ s1.flag (F.FD_FCFG_EN f) then (s1.feedDisable f).answer s1.status else s1

/-- FD_CMAX (R238): a higher ceiling that takes C in ends OVER. -/
def State.cmaxWrite (s : State) (val : Word) : State :=
  let s1 := s.writeReg .FD_CMAX val
  if s.fget F.FD_CMAX_CMAX < s1.fget F.FD_CMAX_CMAX ∧ s.fget F.FD_CBUS_C ≤ s1.fget F.FD_CMAX_CMAX then
    s1.setFlag F.FD_CBUS_OVER false
  else s1

/-- HU_WDT (R260, R268): the kick and the confirm key. -/
def State.wdtWrite (s : State) (val : Word) : State :=
  let key := bitsOf val 0 16
  (if key = 0x5744 then s.wdtKick else if key = 0x4F4B then s.wdtConfirm else s).answer stOk

/-- HU_GG_RESTORE (R265): word 3 closes the restore. -/
def State.restoreWrite (s : State) (w : Fin 4) (val : Word) : State :=
  if h : w.val < 3 then
    (s.modHu fun x => { x with restore := x.restore.set w.val val }).answer stOk
  else s.gaugeRestore val

/-- AX_CTL (R273): AX3's EN is read-only. -/
def State.axCtlWrite (s : State) (j : Fin 4) (val : Word) : State :=
  if j = 3 then s.answer stOk
  else if val.getLsbD 0 then s.axEnable j else s.axDisable j

/-- R285: a configuration register of a converter: RWL fields and VNOM change only while it is off. -/
def State.axCfgWrite (s : State) (j : Fin 4) (r : Reg) (val : Word) : State :=
  let s1 := s.plainWrite r val
  let rwl := r.fields.any fun f => f.ty = .rwl && decide (bitsOf (s1.word r) f.lo f.len ≠ bitsOf (s.word r) f.lo f.len)
  if rwl ∧ s.axState j ≠ 0 ∧ s.axState j ≠ 5 then s.answer stBusy else s1

/-- AL_CTL (R283, R286): TABORT prevails over TUNE; a TUNE that is refused refuses the write. -/
def State.alCtlWrite (s : State) (k : Fin 16) (val : Word) : State :=
  if val.getLsbD 3 then ((s.plainWrite (.AL_CTL k) val).tuneAbort k).answer stOk
  else if val.getLsbD 2 then
    let s1 := s.tuneStart k
    if s1.status = stOk then s1.plainWrite (.AL_CTL k) val else s1
  else s.plainWrite (.AL_CTL k) val

/-- TW0_DEV (R395, R399): CLR sends CLEAR_FAULTS. -/
def State.devWrite (s : State) (k : Fin 9) (val : Word) : State :=
  let s1 := s.writeReg (.TW0_DEV k) val
  if val.getLsbD 9 ∧ k ∉ s1.tw.clrDue then { s1 with tw := { s1.tw with clrDue := s1.tw.clrDue ++ [k] } } else s1

/-- HL_KEYSTAT.NZOFF (R362, R377, R7): written once, and only with an owner key and by an open lock. -/
def State.nzoffWrite (s : State) (val : Word) : State :=
  if val.getLsbD 2 ∧ s.flag F.HL_KEYSTAT_OWNKEY = false then s.answer stReserved
  else if s.flag F.GL_LOCK_OPEN = false then s.answer stLocked
  else if val.getLsbD 2 = false then s.answer stOk
  else (s.setFlag F.HL_KEYSTAT_NZOFF true).answer stOk

/-- NZOFF_WRITE (R362): NZOFF = 1 written. -/
def execNzoffWrite (s : State) : Host.Outcome State Fault Refusal := .next (s.nzoffWrite 4)

/-- HL_CFG (R377): saved after each change. -/
def State.hlCfgWrite (s : State) (val : Word) : State :=
  let s1 := s.writeReg .HL_CFG val
  if s1.word .HL_CFG = s.word .HL_CFG then s1 else s1.dirtyRegion .link

/-- VT_CTL (R407, R413). -/
def State.vtCtlWrite (s : State) (val : Word) : State :=
  if val.getLsbD 1 then
    let s1 := s.vaultClear
    if s1.status = stOk then s1.writeReg .VT_CTL val else s1
  else s.writeReg .VT_CTL val

/-- VT_CCTL (R409, R413): TRIG takes a snapshot of cause 4. -/
def State.cctlWrite (s : State) (val : Word) : State :=
  let s1 := s.writeReg .VT_CCTL val
  if val.getLsbD 1 then (s1.trigger 4).answer s1.status else s1

/-- VT_CSLOT (R410): a W1C of FROZEN releases the slot. -/
def State.cslotWrite (s : State) (k : Fin 4) (val : Word) : State :=
  if val.getLsbD 1 then s.slotRelease k else s.answer stOk

/-- LN_STAT (R196): SELF clears once its condition has gone. -/
def State.lnStatWrite (s : State) (val : Word) : State :=
  if val.getLsbD 4 ∧ s.flag F.LN_STAT_SELF then { s with lane := { s.lane with selfClr := true } }.answer stOk else s.answer stOk

/-- LN_ADOPT (R197, R198). -/
def State.adoptWrite (s : State) (val : Word) : State :=
  let ch : Fin 128 := Fin.ofNat 128 (bitsOf val 0 7)
  if val.getLsbD 8 then s.adoptEnable ch
  else if s.flag F.LN_ADOPT_EN then
    let s1 := s.adoptRelease
    if s1.status = stOk then s1.fset F.LN_ADOPT_CH ch.val else s1
  else if s.fget F.LN_ADOPT_CH = ch.val then s.answer stOk
  else ((s.fset F.LN_ADOPT_CH ch.val).dirtyRegion .adopt).answer stOk

/-- LN_CALCTL (R50): 1 COPY, 2 SWAP; other codes do nothing. -/
def State.calWrite (s : State) (val : Word) : State :=
  if s.flag F.LN_CALSTAT_BUSY then s.answer stBusy
  else if bitsOf val 0 2 = 1 then s.calCopy else if bitsOf val 0 2 = 2 then s.calSwap else s.answer stOk

/-- CS_CTL (R204, R205, R209): a RETGO that is refused refuses the write. -/
def State.csCtlWrite (s : State) (val : Word) : State :=
  let s1 := if val.getLsbD 13 then s.retGo (bitsOf val 8 5) else s.answer stOk
  if s1.status = stBusy then s1
  else (if val.getLsbD 1 then s1.rotNow else s1).writeReg .CS_CTL val

/-- CS_SHCMD (R141): STOP prevails over START. -/
def State.shCmdWrite (s : State) (val : Word) : State :=
  if val.getLsbD 1 then s.stopShelfProgram.answer stOk else if val.getLsbD 0 then s.shelfStart else s.answer stOk

/-- CH_CMD (R133, R134): STOP prevails over START. -/
def State.chCmdWrite (s : State) (n : Fin 128) (val : Word) : State :=
  if val.getLsbD 1 then s.hostStop n else if val.getLsbD 0 then s.hostStart n else s.answer stOk

/-- CH_G (R149): only while PARKED. -/
def State.chGWrite (s : State) (n : Fin 128) (i : Fin 16) (val : Word) : State :=
  if s.chState n = stPARKED then
    (s.modX n fun x => { x with g := x.g.set i val, gB := x.gB.set i val }).answer stOk
  else s.answer stBusy

/-- CS_SG (R141): only while the shelf program is stopped. -/
def State.csGWrite (s : State) (i : Fin 16) (val : Word) : State :=
  if s.flag F.CS_SHSTAT_RUN then s.answer stBusy
  else { s with sh := { s.sh with g := s.sh.g.set i val, gB := s.sh.gB.set i val } }.answer stOk

/-- CH_PCNT (R140): any 1 written to TDROP clears the field. -/
def State.pcntWrite (s : State) (n : Fin 128) (val : Word) : State :=
  (if bitsOf val 0 16 = 0 then s else s.fset (F.CH_PCNT_TDROP n) 0).answer stOk

/-- VT_QUEUE (R413): any 1 written to HIGH clears the field. -/
def State.vtQueueWrite (s : State) (val : Word) : State :=
  (if bitsOf val 16 11 = 0 then s else s.fset F.VT_QUEUE_HIGH 0).answer stOk

/-- R8, R167: the halves of a counter: a write takes effect when its high word is written. -/
def State.lowWrite (s : State) (r : Reg) (val : Word) : State := { s with low64 := regPut s.low64 r val }.answer stOk

/-- R8, R167: the high word of a counter. Without a low word written before it the counter's own low word stands (the model's
choice: notes/assumptions/145.md). -/
def State.highWrite (s : State) (n : Fin 128) (energy : Bool) (val : Word) : State :=
  let r : Reg := if energy then .CH_WH n else .CH_AH n
  let lo := (regFind s.low64 r).getD (s.word r)
  { s with low64 := regDrop s.low64 r }.counterWrite n energy (lo.toNat + val.toNat * 2 ^ 32)

/-- R4–R8: a host write of a register, by the session it comes from. -/
def State.regWrite (s : State) (who : Option Sess) (r : Reg) (val : Word) : State := match r with
  | .GL_SAFE => s.safeWrite val
  | .GL_LOCK => s.lockWrite who (bitsOf val 0 16)
  | .GL_MODE => s.modeWrite val
  | .GL_SUPV => s.restartKey (bitsOf val 0 16)
  | .CK_TSET => s.timeSet val
  | .CK_PPS => s.ppsWrite val
  | .CK_COMPAT => s.compatWrite val
  | .CK_PWM => s.pwmDivWrite (bitsOf val 0 14)
  | .EV_PEND w => s.pendWrite w val
  | .VT_QUEUE => s.vtQueueWrite val
  | .SQ_CMD => s.sqCmd val
  | .SQ_ROFF => s.roffWrite val
  | .SQ_RCFG e => s.railWrite e r val
  | .SQ_RDEP e => s.railWrite e r val
  | .SQ_RNOM e => s.railWrite e r val
  | .SQ_RTIM e => s.railWrite e r val
  | .SQ_RFLT e => s.rfltWrite e val
  | .FD_SEL => s.feedSelWrite val
  | .FD_FCFG f => s.fcfgWrite f val
  | .FD_FLT f => s.feedClear f val
  | .FD_CMAX => s.cmaxWrite val
  | .HU_CTL => s.huCtlWrite val
  | .HU_FLT => s.huFltWrite val
  | .HU_WDT => s.wdtWrite val
  | .HU_GG_RESTORE w => s.restoreWrite w val
  | .AX_CTL j => s.axCtlWrite j val
  | .AX_CFG j => s.axCfgWrite j r val
  | .AX_VNOM j => s.axCfgWrite j r val
  | .AX_ILIM j => s.axCfgWrite j r val
  | .AX_FLT j => s.axFltWrite j val
  | .AL_CTL k => s.alCtlWrite k val
  | .TW0_DEV k => s.devWrite k val
  | .HL_KEYSTAT => s.nzoffWrite val
  | .HL_CFG => s.hlCfgWrite val
  | .HL_PCFG p => s.portWrite r p val
  | .HL_IP4 p => s.portWrite r p val
  | .HL_GW4 p => s.portWrite r p val
  | .HL_PLEN p => s.portWrite r p val
  | .HL_IP6 p _ => s.portWrite r p val
  | .HL_SCFG st => s.streamWrite st val
  | .VT_CTL => s.vtCtlWrite val
  | .VT_CCTL => s.cctlWrite val
  | .VT_CSLOT k => s.cslotWrite k val
  | .LN_STAT => s.lnStatWrite val
  | .LN_ADOPT => s.adoptWrite val
  | .LN_CALCTL => s.calWrite val
  | .CS_CTL => s.csCtlWrite val
  | .CS_SHPROG => s.progWriteReg r (!s.flag F.CS_SHSTAT_RUN) val
  | .CS_SHCMD => s.shCmdWrite val
  | .CS_SG i => s.csGWrite i val
  | .CS_BARM b _ => if s.inEpisode b then s.answer stBusy else s.writeReg r val
  | .BT_REF => s.writeReg (.BT_PWMF 8) val
  | .CH_PROG n => s.progWriteReg r (decide (s.chState n = stPARKED)) val
  | .CH_GANG n => s.gangWrite n val
  | .CH_CMD n => s.chCmdWrite n val
  | .CH_FAULT n => s.faultClear n val
  | .CH_G n i => s.chGWrite n i val
  | .CH_PCNT n => s.pcntWrite n val
  | .CH_MEAS n => s.measWrite n val
  | .CH_AH _ => s.lowWrite r val
  | .CH_WH _ => s.lowWrite r val
  | .CH_AHH n => s.highWrite n false val
  | .CH_WHH n => s.highWrite n true val
  | _ => s.plainWrite r val

/-- R4, R13: a host write of a word. A read-only window takes none. -/
def State.hostWrite (s : State) (who : Option Sess) (a : Nat) (val : Word) : State := match placeOf a with
  | .reg r => s.regWrite who r val
  | .store => s.storeWrite a [val]
  | .shadow => s.shadowWrite a val
  | .none => s.answer stAddress
  | _ => s.answer stOk

/-- REGISTER_WRITE (R4–R7, R13). -/
def execRegisterWrite (addr : Nat) (val : Word) (s : State) : Host.Outcome State Fault Refusal :=
  .next (s.hostWrite none addr val)

/-- R4, R8: a read as a command answers it. -/
def State.readAnswer (s : State) (a : Nat) : State :=
  let (st, w, s1) := s.hostRead a
  s1.answer st (if st = stOk then bytesOf w else [])

/-- LOW_WORD_READ (R8): a read of a word; that of a low word latches its high word. -/
def execLowWordRead (addr : Nat) (s : State) : Host.Outcome State Fault Refusal := .next (s.readAnswer addr)

/-- PORT_CONFIG_WRITE (R377, R378): an address that is no port register answers ADDRESS. -/
def execPortConfigWrite (addr : Nat) (val : Word) (s : State) : Host.Outcome State Fault Refusal :=
  match Reg.ofAddr addr with
  | some r =>
    match portReg r with
    | some p => .next (s.portWrite r p val)
    | none => .next (s.answer stAddress)
  | none => .next (s.answer stAddress)

end Sys2Proof.Machine
end

