-- ==== Sys2Proof/Machine/TwoWire.lean ====
section
/-! DEFINITION. The two-wire ports (R380–R400). A row is one whole transaction; bit timing is not modelled. -/

namespace Sys2Proof.Machine

open Sys2Proof

/-- Change the two-wire engines. -/
def State.modTw (s : State) (f : TwoWireSt → TwoWireSt) : State := { s with tw := f s.tw }

/-! PEC (R389). -/

/-- One bit of the CRC-8 of x⁸ + x² + x + 1. -/
def pecBit (c : Nat) : Nat := if 128 ≤ c then Nat.xor (c * 2 % 256) 7 else c * 2

/-- One byte into the CRC-8. -/
def pecByte (c : Nat) (b : Byte) : Nat := pecBit (pecBit (pecBit (pecBit (pecBit (pecBit (pecBit (pecBit (Nat.xor c b.toNat))))))))

/-- R389: the PEC of a transaction's bytes. -/
def pecOf (bs : List Byte) : Byte := BitVec.ofNat 8 (bs.foldl pecByte 0)

/-- TW1's own address byte of a write. -/
def State.tw1Byte (s : State) : Byte := BitVec.ofNat 8 (2 * s.fget F.TW1_ADDR_ADDR)

/-- R380, R386, R390, R312: TW1 serves its address. -/
def State.tw1Up (s : State) : Bool :=
  s.boot.vbias && s.flag (F.TW_CFG_EN 1) && s.gateOn 9 && !s.flag F.TW1_ADDR_SFLT && decide (s.fget F.TW1_ADDR_ADDR ≠ 0)
    && !s.flag (F.TW_STAT_ASLEEP 1)

/-- R389: a write transaction as TW1 takes it: `f` where its PEC allows. With PEC = 0 a PEC byte is not looked at. -/
def State.tw1Write (s : State) (body : List Byte) (pec : Option Byte) (f : State → State) : State :=
  if s.tw1Up = false then s
  else match s.fget (F.TW_CFG_PEC 1), pec with
    | 0, _ => f s
    | 1, none => f s
    | _, none => s.incSat (F.TW_STAT_BUSERR 1)
    | _, some p => if p = pecOf (s.tw1Byte :: body) then f s else s

/-- R389: what a read returns: its data, and a PEC byte where the controller clocks one more byte and PEC is on. `count` is the byte
count of a block. -/
def State.tw1Read (s : State) (code : Byte) (count data : List Byte) (more : Bool) : List Byte :=
  if more ∧ s.fget (F.TW_CFG_PEC 1) ≠ 0 then data ++ [pecOf (s.tw1Byte :: code :: (s.tw1Byte + 1) :: (count ++ data))] else data

/-! The target's commands (R387). -/

/-- R387, R213: the rack-manager cap arrives, in units of 2 W. -/
def State.rmCap (s : State) (val : Nat) : State :=
  let s1 := (s.fset F.LG_CAP_RM_CAP (if 50000 < val then 100000 else 2 * val)).setFlag F.LG_CAP_RM_VALID true
  { s1.setFlag F.LG_STAT_RMSTALE false with led := { s1.led with rmAt := s1.time } }

/-- RM_CAP (R387–R389). -/
def execRmCap (val : BitVec 16) (pec : Option Byte) (s : State) : Host.Outcome State Fault Refusal :=
  .next (s.tw1Write (0xD0 :: le16 val.toNat) pec fun t => t.rmCap val.toNat)

/-- RM_NET (R387, R389). -/
def execRmNet (more : Bool) (s : State) : Host.Outcome State Fault Refusal :=
  if s.tw1Up then
    let v := le16 (codeOf 16 (clampI (rdiv 387 (sword (s.word .LG_NET_W)) 2) (-32767) 32767))
    .next (s.answer stOk (s.tw1Read 0xD1 [] v more))
  else .next s

/-- PTR (R387): a block of another count than 4 is not acknowledged. -/
def execPtr (bytes : List Byte) (pec : Option Byte) (s : State) : Host.Outcome State Fault Refusal :=
  if bytes.length = 4 then
    .next (s.tw1Write (0xE0 :: 4 :: bytes) pec fun t => t.setWord .TW1_PTR ((wordsOf bytes).headD 0))
  else .next s

/-- R387: the pointer moves on and RSTAT takes the status. -/
def State.regDone (s : State) (st : Nat) : State :=
  (s.setWord .TW1_PTR (s.word .TW1_PTR + 4)).modTw fun w => { w with rstat := st }

/-- R364, R430: the supervisor runs, and can serve an access. -/
def State.serving (s : State) : Bool := s.served && !s.flag F.GL_STATE_SUPV && decide (s.pmode ≠ mdDEEP)

/-- REG_READ (R387, R364): a read that fails returns 0. In DEEP the access is stretched until the wake is complete (R390). -/
def execRegRead (more : Bool) (s : State) : Host.Outcome State Fault Refusal :=
  if s.tw1Up = false ∨ s.pmode = mdDEEP then .next s
  else if s.serving = false then .next ((s.regDone stBusy).answer stBusy (s.tw1Read 0xE1 [4] (bytesOf 0) more))
  else
    let (st, w, s1) := s.hostRead (s.word .TW1_PTR).toNat
    .next ((s1.regDone st).answer st (s.tw1Read 0xE1 [4] (bytesOf (if st = stOk then w else 0)) more))

/-- R387, R388, R363, R364: a REG write once its bytes are in. -/
def State.tw1RegWrite (s : State) (val : Word) : State :=
  if s.serving = false then (s.regDone stBusy).answer stBusy
  else if s.flag F.HL_STAT_RECOV then (s.regDone stRecovery).answer stRecovery
  else if s.flag F.TW1_ADDR_WREN = false then (s.regDone stAuth).answer stAuth
  else
    let s1 := s.hostWrite none (s.word .TW1_PTR).toNat val
    s1.regDone s1.status

/-- REG_WRITE (R387–R389). -/
def execRegWrite (bytes : List Byte) (pec : Option Byte) (s : State) : Host.Outcome State Fault Refusal :=
  if bytes.length = 4 ∧ s.pmode ≠ mdDEEP then
    .next (s.tw1Write (0xE1 :: 4 :: bytes) pec fun t => t.tw1RegWrite ((wordsOf bytes).headD 0))
  else .next s

/-- RSTAT (R387, R389). -/
def execRstat (more : Bool) (s : State) : Host.Outcome State Fault Refusal :=
  if s.tw1Up then .next (s.answer stOk (s.tw1Read 0xE2 [] [BitVec.ofNat 8 s.tw.rstat] more)) else .next s

/-- EVLOW (R387, R389). -/
def execEvlow (more : Bool) (s : State) : Host.Outcome State Fault Refusal :=
  if s.tw1Up then .next (s.answer stOk (s.tw1Read 0xE3 [] (le16 (s.lowestPend.getD 0xFFFF)) more)) else .next s

/-! Timeouts, bus errors, arbitration (R383–R385). -/

/-- An engine is enabled and clocked. -/
def State.twOn (s : State) (p : Fin 2) : Bool := s.boot.vbias && s.flag (F.TW_CFG_EN p) && s.gateOn (if p = 0 then 8 else 9)

/-- TW_TIMEOUT (R383): SCL has been low for `low` µs: at TTO ms the bus is released. -/
def execTwTimeout (p : Fin 2) (low : Nat) (s : State) : Host.Outcome State Fault Refusal :=
  if s.twOn p ∧ s.fget (F.TW_CFG_TTO p) * 1000 ≤ low then
    let s1 := (s.setFlag (F.TW_STAT_BUSY p) false).setFlag (F.TW_STAT_CTRL p) false
    .next ((s1.incSat (F.TW_STAT_TMO p)).raise 428 1 [BitVec.ofNat 8 p.val])
  else .next s

/-- TW_BUS_ERROR (R384). -/
def execTwBusError (p : Fin 2) (s : State) : Host.Outcome State Fault Refusal :=
  if s.twOn p then
    .next (((s.setFlag (F.TW_STAT_BUSY p) false).setFlag (F.TW_STAT_CTRL p) false).incSat (F.TW_STAT_BUSERR p))
  else .next s

/-- TW_ARBITRATION_LOST (R385): the engine stops driving and retries later. -/
def execTwArbitrationLost (p : Fin 2) (s : State) : Host.Outcome State Fault Refusal :=
  if s.twOn p then .next ((s.setFlag (F.TW_STAT_CTRL p) false).incSat (F.TW_STAT_ARB p)) else .next s

/-! DEEP (R390). -/

/-- TW1_DEEP_ADDRESS (R390, R333): NACK, and a wake cause; a further attempt before the address is acknowledged again changes
nothing. -/
def execTw1DeepAddress (s : State) : Host.Outcome State Fault Refusal :=
  if s.pmode = mdDEEP ∧ s.flag (F.TW_STAT_ASLEEP 1) ∧ s.tw.nackAt.isNone ∧ s.twOn 1 then
    .next ((s.modTw fun w => { w with nackAt := some s.time }).beginWake)
  else .next s

/-- TW1_ADDRESS_REARM (R390): 200 µs after the NACK. -/
def execTw1AddressRearm (s : State) : Host.Outcome State Fault Refusal :=
  match s.tw.nackAt with
  | some t =>
    if s.reached (t + 200 * us) then
      .next ((s.modTw fun w => { w with nackAt := none }).setFlag (F.TW_STAT_ASLEEP 1) false)
    else .next s
  | none => .next s

/-! Host Notify (R391). -/

/-- R391: the bytes of a Notify. -/
def State.notifyBytes (s : State) (o : Occ) : List Byte :=
  [BitVec.ofNat 8 (2 * s.fget F.TW1_ADDR_HOST), s.tw1Byte, BitVec.ofNat 8 o.num,
   BitVec.ofNat 8 (o.num / 256 % 2 + o.sev % 4 * 2)]

/-- R391: the oldest entry goes out and is acknowledged, or not: after the third NACK it is dropped. -/
def State.notifySend (s : State) (o : Occ) (rest : List Occ) (ack : Bool) : State :=
  let s1 := s.modTw fun w => { w with sent := (1, s.notifyBytes o) :: w.sent }
  let recent := s.ev.sentAt.filter fun t => decide (s.time < t + sec)
  if ack then
    { s1.incWrap F.TW1_NTFY_SENT with
      ev := { s1.ev with notify := rest, sentAt := s.time :: recent, nacks := 0, retryAt := none } }
  else if s.ev.nacks < 2 then
    { s1 with ev := { s1.ev with nacks := s.ev.nacks + 1, retryAt := some (s.time + 10 * ms) } }
  else
    let s2 := { s1 with ev := { s1.ev with notify := rest, nacks := 0, retryAt := none } }
    (s2.incSat F.TW1_NTFY_FAILED).raise 430 1

/-- R391: Notifies can be sent: enabled, awake, and fewer than ten in the last second. -/
def State.notifyReady (s : State) : Bool :=
  s.flag F.TW1_ADDR_NTFYEN && s.twOn 1 && decide (s.pmode ≠ mdDEEP) &&
    decide ((s.ev.sentAt.filter fun t => decide (s.time < t + sec)).length < 10)

/-- HOST_NOTIFY (R391). -/
def execHostNotify (ack : Bool) (s : State) : Host.Outcome State Fault Refusal :=
  match s.ev.notify with
  | o :: rest => if s.notifyReady ∧ s.ev.retryAt.isNone then .next (s.notifySend o rest ack) else .next s
  | [] => .next s

/-- NOTIFY_RETRY (R391): 10 ms after a NACK. -/
def execNotifyRetry (ack : Bool) (s : State) : Host.Outcome State Fault Refusal :=
  match s.ev.notify, s.ev.retryAt with
  | o :: rest, some t => if s.notifyReady ∧ s.reached t then .next (s.notifySend o rest ack) else .next s
  | _, _ => .next s

/-! TW0 (R392–R395). -/

/-- R394, R259: a pack-monitor alert latches MON. -/
def State.packAlert (s : State) : State :=
  if s.flag F.HU_FLT_MON then s else (s.setFlag F.HU_FLT_MON true).raise 285 1

/-- R393: a LINEAR11 reading in tenths: an 11-bit signed mantissa and a 5-bit signed power of two. -/
def linear11 (w : BitVec 16) : Int :=
  let y := signedOf 11 (w.toNat % 2048)
  let n := signedOf 5 (w.toNat / 2048)
  if 0 ≤ n then y * 10 * 2 ^ n.toNat else rdiv 393 (y * 10) (2 ^ (-n).toNat)

/-- R393–R395: a poll that completed. -/
def State.pollGood (s : State) (k : Fin 9) (x : PollAns) : State :=
  let was := s.fget (F.TW0_RD0_STATUS k)
  let s1 := (s.fset (F.TW0_DEV_FAILS k) 0).fset (F.TW0_RD0_STATUS k) x.status.toNat
  let s2 := s1.reading (F.TW0_RD0_TEMP k) true (linear11 x.temp) 0
  let s3 := (if k = 8 then s2.fset (F.TW0_RD1_POUT k) 0 else s2.reading (F.TW0_RD1_POUT k) false (linear11 x.pout) 1).freshN 2
  if k = 8 then (if x.status &&& BitVec.ofNat 16 (s.fget F.TW0_PKMASK_MASK) ≠ 0 then s3.packAlert else s3)
  else if x.status ≠ 0 ∧ x.status.toNat ≠ was then s3.raise 427 0 (BitVec.ofNat 8 k.val :: le16 x.status.toNat)
  else s3

/-- R394, R395: a poll that failed; the third in a row is event 426, and an unwatched pack an alert. -/
def State.pollBad (s : State) (k : Fin 9) : State :=
  let s1 := s.incSat (F.TW0_DEV_FAILS k)
  let n := s1.fget (F.TW0_DEV_FAILS k)
  let s2 := if n = 3 then s1.raise 426 1 [BitVec.ofNat 8 k.val] else s1
  if k = 8 ∧ 3 ≤ n then s2.packAlert else s2

/-- R389, R393: the PEC of a Read Word from a device. -/
def State.readPec (s : State) (k : Fin 9) (cmd : Byte) (w : BitVec 16) : Byte :=
  let a : Byte := BitVec.ofNat 8 (2 * s.fget (F.TW0_DEV_ADDR k))
  pecOf (a :: cmd :: (a + 1) :: le16 w.toNat)

/-- R395: the status code of a poll: 3 where a PEC byte that is used does not match. -/
def State.pollStatus (s : State) (k : Fin 9) (x : PollAns) : Nat :=
  let bad := x.pecStatus ≠ s.readPec k 0x79 x.status ∨ x.pecTemp ≠ s.readPec k 0x8D x.temp
    ∨ (k ≠ 8 ∧ x.pecPout ≠ s.readPec k 0x96 x.pout)
  if x.bus ≠ 0 then x.bus.val else if s.flag (F.TW0_DEV_PEC k) ∧ bad then 3 else 0

/-- R395: one device polled. -/
def State.pollDev (s : State) (k : Fin 9) (x : PollAns) : State :=
  if s.flag (F.TW0_DEV_USE k) then
    let st := s.pollStatus k x
    let s1 := s.fset (F.TW0_DEV_ST k) st
    if st = 0 then s1.pollGood k x else s1.pollBad k
  else s

/-- R392: a round of polls is due every TW0_POLL ms. -/
def State.pollDue (s : State) : Bool :=
  s.twOn 0 && decide (s.fget F.TW0_POLL_POLL ≠ 0) && (s.tw.pollAt.all fun t => s.reached (t + s.fget F.TW0_POLL_POLL * ms))

/-- TW0_POLL (R392, R396): the devices in use, in ascending order. -/
def execTw0Poll (answers : Vector PollAns 9) (s : State) : Host.Outcome State Fault Refusal :=
  if s.pollDue then
    .next ((s.modTw fun w => { w with pollAt := some s.time }).each (List.finRange 9) fun k t => t.pollDev k answers[k])
  else .next s

/-- R393, R399: the bytes of a CLEAR_FAULTS, with a PEC byte where the device uses it. -/
def State.clearBytes (s : State) (k : Fin 9) : List Byte :=
  let b : List Byte := [BitVec.ofNat 8 (2 * s.fget (F.TW0_DEV_ADDR k)), 3]
  if s.flag (F.TW0_DEV_PEC k) then b ++ [pecOf b] else b

/-- CLEAR_FAULTS (R393, R399): a Send Byte to the device at its next turn. -/
def execClearFaults (k : Fin 9) (s : State) : Host.Outcome State Fault Refusal :=
  if s.twOn 0 ∧ k ∈ s.tw.clrDue then
    .next (s.modTw fun w =>
      { w with clrDue := w.clrDue.filter fun j => j ≠ k,
               sent := (0, s.clearBytes k) :: w.sent })
  else .next s

end Sys2Proof.Machine
end

