-- ==== Sys2Proof/Machine/Commands.lean ====
section
/-! DEFINITION. The ASLP commands (R350–R363, R371), one entry each: who may give them, and what they do. Frames are in
Frames.lean. -/

namespace Sys2Proof.Machine

open Sys2Proof

/-! Rights (R350–R352, R363). -/

/-- Whom R350 lets give a command: any session with anonymous reads, write rights, its own session, or AUTH. -/
inductive Right where
  | read | write | own | auth
  deriving DecidableEq, Repr

/-- R350–R352: may a session give a command of a right? A slot whose phase 2 has not come may only authenticate. -/
def State.allowed (s : State) (x : Sess) (r : Right) : Bool := match r, x with
  | .read, .anon => s.flag F.HL_CFG_ANONRD
  | .read, .spi => true
  | .read, .slot k => (s.link.sess[k]).opn && (s.link.sess[k]).auth
  | .write, .anon => false
  | .write, .spi => s.writer 8
  | .write, .slot k => (s.link.sess[k]).opn && (s.link.sess[k]).auth
  | .own, .anon => false
  | .own, .spi => true
  | .own, .slot k => (s.link.sess[k]).opn && (s.link.sess[k]).auth
  | .auth, _ => true

/-- R349: does a status go before BUSY? -/
def beforeBusy (r : Right) (st : Nat) : Bool := decide (st = stBadCmd ∨ st = stAddress ∨ (st = stAuth ∧ r ≠ .auth))

/-- R349, R363, R364: the refusals every command shares: RECOVERY, AUTH, and BUSY while the supervisor does not serve, which a
refusal that R349 judges before BUSY goes before. -/
def State.gate (s : State) (x : Sess) (r : Right) (inRecovery : Bool) (f : State → State) : State :=
  if s.flag F.HL_STAT_RECOV ∧ inRecovery = false then s.answer stRecovery
  else if s.allowed x r = false then s.answer stAuth
  else if s.serving = false then s.answer (if beforeBusy r (f s).status then (f s).status else stBusy)
  else f s

/-! Words and blocks (R350). -/

/-- READ32. -/
def State.read32 (s : State) (x : Sess) (addr : Nat) : State := s.gate x .read true fun t => t.readAnswer addr

/-- READ32 (R350). -/
def execRead32 (x : Sess) (addr : Nat) (s : State) : Host.Outcome State Fault Refusal := .next (s.read32 x addr)

/-- WRITE32. -/
def State.write32 (s : State) (x : Sess) (addr : Nat) (val : Word) : State :=
  s.gate x .write false fun t => t.hostWrite (some x) addr val

/-- WRITE32 (R350). -/
def execWrite32 (x : Sess) (addr : Nat) (val : Word) (s : State) : Host.Outcome State Fault Refusal :=
  .next (s.write32 x addr val)

/-- The n ascending words from an address read in order, with the bytes so far; the status of the first that fails. -/
def State.readWords (s : State) (a : Nat) : Nat → List Byte → State
  | 0, out => s.answer stOk out
  | n + 1, out =>
    let (st, w, s1) := s.hostRead a
    if st = stOk then s1.readWords (a + 4) n (out ++ bytesOf w) else s.answer st

/-- A word of the host address map. -/
def occupied (a : Nat) : Bool := decide (placeOf a ≠ .none)

/-- READ_BLOCK: ADDRESS, with no data, if a word is unoccupied. -/
def State.readBlock (s : State) (x : Sess) (addr n : Nat) : State :=
  s.gate x .read true fun t =>
    if (List.range n).any fun k => !occupied (addr + 4 * k) then t.answer stAddress
    else if n = 0 ∨ 256 < n then t.answer stReserved
    else t.readWords addr n []

/-- READ_BLOCK (R350). -/
def execReadBlock (x : Sess) (addr n : Nat) (s : State) : Host.Outcome State Fault Refusal := .next (s.readBlock x addr n)

/-- R350: words written in order; the status and the index of the first that is not OK. -/
def State.writeWords (s : State) (x : Sess) (a : Nat) : Nat → List Word → Option (Nat × Nat) → State
  | _, [], bad => s.answer ((bad.map Prod.snd).getD stOk) (le32 ((bad.map Prod.fst).getD 0xFFFFFFFF))
  | i, w :: t, bad =>
    let s1 := s.hostWrite (some x) a w
    s1.writeWords x (a + 4) (i + 1) t (if bad.isNone ∧ s1.status ≠ stOk then some (i, s1.status) else bad)

/-- WRITE_BLOCK (R350, R131): no write if a word is unoccupied or a step-store word is protected. -/
def State.writeBlock (s : State) (x : Sess) (addr : Nat) (vals : List Word) : State :=
  s.gate x .write false fun t =>
    let at_ (k : Nat) : Nat := addr + 4 * k
    match (List.range vals.length).find? fun k => !occupied (at_ k) with
    | some k => t.answer stAddress (le32 k)
    | none =>
      if vals = [] ∨ 256 < vals.length then t.answer stReserved
      else match (List.range vals.length).find? fun k => decide (placeOf (at_ k) = .store) && t.storeLocked (at_ k) with
        | some k => t.answer stBusy (le32 k)
        | none => t.writeWords x addr 0 vals none

/-- WRITE_BLOCK (R350). -/
def execWriteBlock (x : Sess) (addr : Nat) (vals : List Word) (s : State) : Host.Outcome State Fault Refusal :=
  .next (s.writeBlock x addr vals)

/-! Bulk transfers (R358, R359). -/

/-- Change the transfers. -/
def State.modBulk (s : State) (f : BulkSt → BulkSt) : State := { s with link := { s.link with bulk := f s.link.bulk } }

/-- The first of n numbers from `start` on, wrapping, that is not in use. -/
def pickFree (start n : Nat) (used : List Nat) : Nat :=
  (((List.range (used.length + 1)).map fun k => (start + k) % n).find? fun v => !decide (v ∈ used)).getD (start % n)

/-- R358, R359: a new transfer ID, which the manual does not choose (notes/assumptions/5.md). -/
def State.newId (s : State) : Nat :=
  pickFree s.freeWord.toNat 65536 (s.fget F.HL_BULK_WID :: s.link.bulk.reads.map fun r => r.id)

/-- A byte put in place among received bytes. -/
def bufPut : List Host.Cell → Nat → Byte → List Host.Cell
  | [], x, v => [(x, v)]
  | (a, b) :: t, x, v => if x < a then (x, v) :: (a, b) :: t else if x = a then (x, v) :: t else (a, b) :: bufPut t x v

/-- Consecutive bytes put in place. -/
def bufPutAll (l : List Host.Cell) (x : Nat) : List Byte → List Host.Cell
  | [] => l
  | b :: t => bufPutAll (bufPut l x b) (x + 1) t

/-- R358: the largest transfer. -/
abbrev bulkMax : Nat := 4194304

/-- R358: a PROGRAM_LOAD or an IMAGE_STAGE uses the staging buffer: its frame executes. -/
def State.bufferUsed (s : State) : Bool := allSess.any fun k => (s.sessAt k).busy && (s.sessAt k).staging

/-- BULK_OPEN: an open write transfer closes, and the map is cleared. -/
def State.bulkOpen (s : State) (x : Sess) (total : Nat) : State :=
  s.gate x .write true fun t =>
    if t.bufferUsed then t.answer stBusy
    else if total % 4 ≠ 0 ∨ bulkMax < total then t.answer stReserved
    else
      let id := t.newId
      let t1 := (t.fresh.modBulk fun b => { b with total := total, owner := x, buf := [] }).fset F.HL_BULK_WID id
      (t1.setFlag F.HL_BULK_WOPEN true).answer stOk (le32 id)

/-- BULK_OPEN (R358). -/
def execBulkOpen (x : Sess) (total : Nat) (s : State) : Host.Outcome State Fault Refusal := .next (s.bulkOpen x total)

/-- R358: a class 0x21 frame of the open transfer; any other is discarded. -/
def State.bulkData (s : State) (x : Sess) (id off : Nat) (data : List Byte) : State :=
  if s.allowed x .write ∧ s.flag F.HL_BULK_WOPEN ∧ id = s.fget F.HL_BULK_WID ∧ off % 4 = 0 ∧ data.length % 4 = 0 ∧
      data.length ≤ 1400 ∧ off + data.length ≤ s.link.bulk.total then
    s.modBulk fun b => { b with buf := bufPutAll b.buf off data }
  else s

/-- BULK_WRITE_DATA (R358). -/
def execBulkWriteData (x : Sess) (id off : Nat) (data : List Byte) (s : State) : Host.Outcome State Fault Refusal :=
  .next (s.bulkData x id off data)

/-- The first offset below `n` that the received bytes miss, from `k` on. -/
def firstGap : List Host.Cell → Nat → Nat
  | [], k => k
  | (a, _) :: t, k => if a = k then firstGap t (k + 1) else k

/-- BULK_STATUS: an ID that is not the open transfer's is reserved. -/
def State.bulkStatus (s : State) (x : Sess) (id : Nat) : State :=
  s.gate x .read true fun t =>
    if t.flag F.HL_BULK_WOPEN ∧ id = t.fget F.HL_BULK_WID then
      let b := t.link.bulk
      t.answer stOk (le32 b.buf.length ++ le32 (if b.buf.length = b.total then 0xFFFFFFFF else firstGap b.buf 0))
    else t.answer stReserved

/-- BULK_STATUS (R350). -/
def execBulkStatus (x : Sess) (id : Nat) (s : State) : Host.Outcome State Fault Refusal := .next (s.bulkStatus x id)

/-- R13, R359: the end of the run of memory windows an address lies in; 0: none. -/
def windowEnd (a : Nat) : Nat :=
  if 0x200000 ≤ a ∧ a < 0x280000 then 0x280000
  else if 0x300000 ≤ a ∧ a < 0x320000 then 0x320000
  else if 0x400000 ≤ a ∧ a < 0xE00000 then 0xE00000
  else 0

/-- BULK_READ: at most four transfers. -/
def State.bulkRead (s : State) (x : Sess) (addr len : Nat) : State :=
  s.gate x .read false fun t =>
    if addr % 4 ≠ 0 ∨ windowEnd addr < addr + len ∨ windowEnd addr = 0 then t.answer stAddress
    else if 4 ≤ t.link.bulk.reads.length then t.answer stBusy
    else if len % 4 ≠ 0 ∨ bulkMax < len then t.answer stReserved
    else
      let id := t.newId
      let r : ReadXfer :=
        { id := id, sess := x, port := t.link.src.1, peer := t.link.src.2, next := addr, base := addr, stop := addr + len }
      let t1 := t.fresh.modBulk fun b => { b with reads := b.reads ++ [r] }
      (t1.fset F.HL_BULK_ROPEN t1.link.bulk.reads.length).answer stOk (le32 id)

/-- BULK_READ (R359). -/
def execBulkRead (x : Sess) (addr len : Nat) (s : State) : Host.Outcome State Fault Refusal := .next (s.bulkRead x addr len)

/-- R359, R354: the next frame of a transfer, of bytes as they stand now. Its sequence the manual leaves open
(notes/assumptions/5.md). -/
def State.bulkFrame (s : State) (r : ReadXfer) : OutFrame :=
  let n := min 1400 (r.stop - r.next)
  let payload := le16 r.id ++ le16 0 ++ le32 (r.next - r.base) ++ memReadBytes s.mem r.next n
  match sessIx r.sess with
  | some k => (s.sessAt k).frame 0x20 0 s.freeWord.toNat payload
  | none =>
    { port := r.port, peer := r.peer, cls := 0x20, flags := 0, seq := s.freeWord.toNat, sess := 0, payload := payload }

/-- R359: how long a frame of n bytes of data takes at the pace of HL_BULK.BULKR, in units of 10 Mbit/s. -/
def State.bulkPace (s : State) (n : Nat) : Nat := n * 8 * 100 / s.fget F.HL_BULK_BULKR

/-- BULK_READ_FRAME (R359, R413): a frame when its pace allows; a transfer closes with its last frame. While the Vault is being
cleared its bytes wait. -/
def execBulkReadFrame (id : Nat) (s : State) : Host.Outcome State Fault Refusal :=
  match s.link.bulk.reads.find? fun r => r.id = id with
  | some r =>
    if s.reached s.link.bulk.nextAt = false then .next s
    else if s.flag F.VT_STAT_CLRING ∧ 0x400000 ≤ r.next ∧ r.next < 0x800000 then .next s
    else
      let next := min r.stop (r.next + 1400)
      let move (q : ReadXfer) : ReadXfer := if q.id = id then { q with next := next } else q
      let s1 := (s.transmit (s.bulkFrame r)).fresh.modBulk fun b =>
        { b with nextAt := max b.nextAt s.time + s.bulkPace (next - r.next), reads := (b.reads.map move).filter fun q => !decide (q.id = id ∧ q.stop ≤ q.next) }
      .next (s1.fset F.HL_BULK_ROPEN s1.link.bulk.reads.length)
  | none => .next s

/-- The staged bytes of a range. -/
def State.staged (s : State) (off n : Nat) : List Byte := memReadBytes s.link.bulk.buf off n

/-- R358: are the first n bytes of the open transfer there? -/
def State.stagedFull (s : State) (n : Nat) : Bool := s.flag F.HL_BULK_WOPEN && decide (n ≤ firstGap s.link.bulk.buf 0)

/-- PROGRAM_LOAD (R360, R131). -/
def State.programLoad (s : State) (x : Sess) (bank : Word) (index n : Nat) (crc : Word) : State :=
  s.gate x .write false fun t =>
    let base := storeAddr bank.toNat index
    if 65536 < index + n then t.answer stAddress
    else if 1 < bank.toNat then t.answer stReserved
    else if (List.range n).any fun k => t.storeLocked (base + 4 * k) then t.answer stBusy
    else if t.stagedFull (4 * n) = false then t.answer stIncomplete
    else
      let bs := t.staged 0 (4 * n)
      if crc32c bs = crc.toNat then (t.putBytes base bs).answer stOk else t.answer stCrc

/-- PROGRAM_LOAD (R360). -/
def execProgramLoad (x : Sess) (bank : Word) (index n : Nat) (crc : Word) (s : State) : Host.Outcome State Fault Refusal :=
  .next (s.programLoad x bank index n crc)

/-! Firmware images (R361). -/

/-- A little-endian word of a byte string. -/
def wordAt (bs : List Byte) (i : Nat) : Nat := ((wordsOf ((bs.drop i).take 4)).headD 0).toNat

/-- R361: the status of the checks of the staged image, in their order. -/
def State.imageCheck (s : State) : Nat :=
  let n := s.link.bulk.total
  let bs := s.staged 0 n
  let len := wordAt bs 0x10
  let id := (s.word .GL_ID).toNat
  if s.stagedFull n = false then stIncomplete
  else if wordAt bs 0 ≠ 0x47494C41 ∨ wordAt bs 4 ≠ 1 ∨ wordAt bs 8 / 256 ≠ id / 256 ∨ id % 256 < wordAt bs 8 % 256 ∨
      2097152 < n ∨ n ≠ len + 0x64 then stReserved
  else if wordAt bs (0x20 + len) ≠ crc32c (bs.take (0x20 + len)) then stCrc
  else
    let msg := bs.take (0x24 + len)
    let sig := bs.drop (0x24 + len)
    let ok0 := !s.flag F.HL_KEYSTAT_NZOFF && Config.ed25519Ok (Config.releaseKey ()) msg sig
    let ok1 := match s.link.owner with
      | some k => Config.ed25519Ok k msg sig
      | none => false
    if ok0 || ok1 then stOk else stSignature

/-- IMAGE_STAGE (R361, R363): the bank not running, or in recovery the one named. -/
def State.imageStage (s : State) (x : Sess) (sel : Word) : State :=
  s.gate x .write true fun t =>
    if 2 < sel.toNat ∨ (sel ≠ 0 ∧ t.flag F.HL_STAT_RECOV = false) then t.answer stReserved
    else
      let st := t.imageCheck
      if st = stOk then
        let b : Bool := if sel = 0 then !t.flag F.GL_STATE_FWBANK else decide (sel = 2)
        let ver := wordAt (t.staged 0 t.link.bulk.total) 12
        let nv := if b then { t.nv with imgB := ver, stagedB := true } else { t.nv with imgA := ver, stagedA := true }
        (State.raise { t with nv := nv } 423 0).answer stOk (le32 ver ++ le32 b.toNat)
      else (t.raise 424 2).answer st

/-- IMAGE_STAGE (R361). -/
def execImageStage (x : Sess) (sel : Word) (s : State) : Host.Outcome State Fault Refusal := .next (s.imageStage x sel)

/-- IMAGE_COMMIT (R361): a staged bank; the restart follows the response. -/
def State.imageCommit (s : State) (x : Sess) (bank : Word) : State :=
  s.gate x .write true fun t =>
    if 1 < bank.toNat then t.answer stReserved
    else if (if bank = 1 then t.nv.stagedB else t.nv.stagedA) = false then t.answer stBusy
    else { t with nv := { t.nv with bootB := decide (bank = 1) }, maint := { t.maint with commit := true } }.answer stOk

/-- IMAGE_COMMIT (R361). -/
def execImageCommit (x : Sess) (bank : Word) (s : State) : Host.Outcome State Fault Refusal := .next (s.imageCommit x bank)

/-! Authentication (R353–R355). -/

/-- The bytes of an ASCII prefix of R353: "ASLP-" and a letter. -/
def aslpTag (c : Nat) : List Byte := [0x41, 0x53, 0x4C, 0x50, 0x2D, BitVec.ofNat 8 c]

/-- R353: HMAC under the device key of a prefix letter and the exchange's nonces and number. -/
def authMac (key : List Byte) (c : Nat) (x : SessSt) : List Byte :=
  (Config.hmacSha256 key (aslpTag c ++ x.nh ++ x.nd ++ le32 x.num)).toList

/-- R353, R355: phase 1 opens session k: both nonces are kept, and the response carries the session number and N_D. -/
def State.authOpen (s : State) (nh : List Byte) (k : Fin 9) (num : Nat) : State :=
  let nd := Config.freeBytes (s.free + 1) 16
  let keep : SessSt := if k = 8 then s.sessAt 8 else { opn := true, heard := s.time, port := s.link.src.1, peer := s.link.src.2 }
  let s1 := (s.freshN 2).setSessAt k { keep with num := num, nh := nh, nd := nd, phase1At := s.time }
  s1.answer stOk (le32 num ++ nd)

/-- AUTH phase 1: a slot, a number never 0 and never 0xFFFF_FFFF, and a nonce, both drawn at random. -/
def State.authPhase1 (s : State) (x : Sess) (nh : List Byte) : State :=
  s.gate x .auth true fun t =>
    if nh.length ≠ 16 then t.answer stBadCmd
    else match x with
      | .slot _ => t.answer stAuth
      | .spi => if t.link.lockAt.isSome then t.answer stBusy else if t.link.dkey.isNone then t.answer stAuth else t.authOpen nh 8 0xFFFFFFFF
      | .anon =>
        if t.link.lockAt.isSome then t.answer stBusy
        else if t.link.dkey.isNone then t.answer stAuth
        else match (List.finRange 8).find? fun k => (t.link.sess[k]).opn = false with
          | some k =>
            let used := t.link.sess.toList.map fun y => y.num - 1
            t.authOpen nh ⟨k.val, by omega⟩ (1 + pickFree t.freeWord.toNat 0xFFFFFFFE used)
          | none => t.answer stBusy

/-- AUTH_PHASE1 (R353, R355). -/
def execAuthPhase1 (x : Sess) (nh : List Byte) (s : State) : Host.Outcome State Fault Refusal := .next (s.authPhase1 x nh)

/-- R353, R355: a failed phase 2: the slot is freed and the failure counted; the fifth within 60 s locks phase 1 out. -/
def State.authFail (s : State) (k : Fin 9) : State :=
  let x := s.sessAt k
  let s1 := s.setSessAt k (if k = 8 then { x with nh := [], nd := [] } else {})
  let l := s.time :: s.link.failAt.filter fun t => decide (s.time < t + 60 * sec)
  let s2 := (s1.incSat F.HL_KEYSTAT_AUTHFAIL).raise 419 1
  if 5 ≤ l.length then
    ({ s2 with link := { s2.link with failAt := [], lockAt := some s.time } }.setFlag F.HL_KEYSTAT_AUTHLOCK true).raise 420 2
  else { s2 with link := { s2.link with failAt := l } }

/-- AUTH phase 2: within 5 s of phase 1, with the right PH. -/
def State.authPhase2 (s : State) (x : Sess) (ph : List Byte) : State :=
  s.gate x .auth true fun t =>
    match sessIx x with
    | none => t.answer stAuth
    | some k =>
      let y := t.sessAt k
      if ph.length ≠ 32 then t.answer stBadCmd
      else if y.nh = [] then t.answer stAuth
      else
        let key := t.link.dkey.getD []
        if t.time ≤ y.phase1At + 5 * sec ∧ ph = authMac key 0x48 y then
          let t1 := t.setSessAt k { y with auth := true, key := authMac key 0x53 y, nh := [], nd := [] }
          (t1.raise 418 0).answer stOk (authMac key 0x44 y)
        else (t.authFail k).answer stAuth

/-- AUTH_PHASE2 (R353, R355). -/
def execAuthPhase2 (x : Sess) (ph : List Byte) (s : State) : Host.Outcome State Fault Refusal := .next (s.authPhase2 x ph)

/-! Sessions (R356, R357, R365, R368). -/

/-- SUBSCRIBE: events and link management. The SPI session carries no class 0x30 (R373), so it is no link manager. -/
def State.subscribe (s : State) (x : Sess) (bits : Word) : State :=
  s.gate x .write false fun t =>
    match sessIx x with
    | none => t.answer stAuth
    | some k =>
      if 3 < bits.toNat then t.answer stReserved
      else
        let ev := bits.getLsbD 0
        let lm := bits.getLsbD 1 && decide (k ≠ 8)
        (t.modSess k fun y =>
          if ev = y.evsub then { y with lmgr := lm }
          else { y with evsub := ev, lmgr := lm, evSeq := 1, evq := [] }).answer stOk

/-- SUBSCRIBE (R350, R356). -/
def execSubscribe (x : Sess) (bits : Word) (s : State) : Host.Outcome State Fault Refusal := .next (s.subscribe x bits)

/-- ACK: cumulative, of event frames or of record frames. -/
def State.ackFrames (s : State) (x : Sess) (cls seq : Nat) : State :=
  s.gate x .write false fun t =>
    match sessIx x with
    | none => t.answer stAuth
    | some k =>
      if cls = 3 then (t.modSess k fun y => { y with evq := y.evq.filter fun f => !seqCovers seq f.seq }).answer stOk
      else if cls = 0x10 then (t.recAck seq).answer stOk
      else t.answer stReserved

/-- ACK (R365, R368). -/
def execAck (x : Sess) (cls seq : Nat) (s : State) : Host.Outcome State Fault Refusal := .next (s.ackFrames x cls seq)

/-- CLOSE. -/
def State.closeCmd (s : State) (x : Sess) : State :=
  s.gate x .own true fun t =>
    match sessIx x with
    | some k => (t.closeSess k).answer stOk
    | none => t.answer stAuth

/-- CLOSE (R357). -/
def execClose (x : Sess) (s : State) : Host.Outcome State Fault Refusal := .next (s.closeCmd x)

/-- WAKE (R333, R364): the link keeper executes it in DEEP; in any other mode there is nothing to wake. -/
def State.wakeCmd (s : State) (x : Sess) : State :=
  if s.flag F.HL_STAT_RECOV then s.answer stRecovery
  else if s.allowed x .write = false then s.answer stAuth
  else if s.served = false ∨ s.flag F.GL_STATE_SUPV then s.answer stBusy
  else (if s.pmode = mdDEEP then s.beginWake else s).answer stOk

/-- WAKE (R350, R333). -/
def execWake (x : Sess) (s : State) : Host.Outcome State Fault Refusal := .next (s.wakeCmd x)

/-! Keys (R362). -/

/-- Bytes combined by exclusive or. -/
def xorBytes : List Byte → List Byte → List Byte
  | a :: t, b :: u => (a ^^^ b) :: xorBytes t u
  | _, _ => []

/-- KEY_SET kind 0: plain only on the SPI session while there is no key; wrapped under the session key afterwards. -/
def State.keySetDevice (s : State) (x : Sess) (key : List Byte) : State :=
  s.gate x .own false fun t =>
    let put (k : List Byte) : State := ({ t with link := { t.link with dkey := some k } }.setFlag F.HL_KEYSTAT_DKEY true).answer stOk
    match sessIx x with
    | none => t.answer stAuth
    | some k =>
      let y := t.sessAt k
      if t.flag F.HL_KEYSTAT_DKEY = false then
        if k ≠ 8 then t.answer stAuth else if key.length ≠ 32 then t.answer stBadCmd else put key
      else if y.auth = false then t.answer stAuth
      else if key.length ≠ 32 then t.answer stBadCmd
      else put (xorBytes key (Config.hmacSha256 y.key (aslpTag 0x57 ++ le32 (y.last.getD 0))).toList)

/-- KEY_SET_DEVICE (R362). -/
def execKeySetDevice (x : Sess) (key : List Byte) (s : State) : Host.Outcome State Fault Refusal := .next (s.keySetDevice x key)

/-- KEY_SET kind 1: once. -/
def State.keySetOwner (s : State) (x : Sess) (key : List Byte) : State :=
  s.gate x .own false fun t =>
    if key.length ≠ 32 then t.answer stBadCmd
    else if t.flag F.HL_KEYSTAT_OWNKEY then t.answer stBusy
    else ({ t with link := { t.link with owner := some key } }.setFlag F.HL_KEYSTAT_OWNKEY true).answer stOk

/-- KEY_SET_OWNER (R362). -/
def execKeySetOwner (x : Sess) (key : List Byte) (s : State) : Host.Outcome State Fault Refusal := .next (s.keySetOwner x key)

/-! Keepalives (R371). -/

/-- R371: 8 bytes of host data echoed, followed by CK_TIME; also in DEEP and during a restart (R364). -/
def State.keepalive (s : State) (k : Fin 9) (seq : Nat) (data : List Byte) : State :=
  let x := s.sessAt k
  if k ≠ 8 ∧ x.opn ∧ x.auth ∧ data.length = 8 then
    let f := x.frame 0x31 0 seq (data ++ le64 (stampCode s.ctr))
    (s.modSess k fun y => { y with heard := s.time, cached := some f }).transmit f
  else s

/-- KEEPALIVE (R371). -/
def execKeepalive (x : Sess) (data : List Byte) (s : State) : Host.Outcome State Fault Refusal := match sessIx x with
  | some k => .next (s.keepalive k ((s.sessAt k).last.getD 0) data)
  | none => .next s

end Sys2Proof.Machine
end

