-- ==== Sys2Proof/Machine/Frames.lean ====
section
/-! DEFINITION. ASLP frames received and answered (R345–R349, R354, R356, R364), the SPI port (R373, R374), and the two rows that
answer held frames: the end of a boot (R290) and of a supervisor restart (R430). -/

namespace Sys2Proof.Machine

open Sys2Proof

/-! Frames (R346, R347). -/

/-- A received frame. -/
structure InFrame where
  cls : Nat
  flags : Nat
  seq : Nat
  sess : Nat
  payload : List Byte
  tag : List Byte
  deriving DecidableEq, Repr

/-- One byte of a string. -/
def byteAt (bs : List Byte) (i : Nat) : Nat := (bs.getD i 0).toNat

/-- R346, R347: the frame of a datagram; none: its length, version, flags, class or CRC is wrong. -/
def parseFrame (bs : List Byte) : Option InFrame :=
  let n := bs.length
  let cls := byteAt bs 1
  let flags := byteAt bs 2 + byteAt bs 3 * 256
  let len := wordAt bs 8
  if n < 20 ∨ 1452 < n ∨ n ≠ 20 + len + flags % 2 * 16 ∨ byteAt bs 0 ≠ 1 ∨ 8 ≤ flags ∨ cls ∉ [1, 0x21, 0x30, 0x31] ∨
      wordAt bs (n - 4) ≠ crc32c (bs.take (n - 4)) then none
  else
    some { cls := cls, flags := flags, seq := wordAt bs 4, sess := wordAt bs 12, payload := (bs.drop 16).take len,
           tag := (bs.drop (16 + len)).take (flags % 2 * 16) }

/-- R347, R354: the tag of a frame as its session asks: right where it has a key, absent where it has none. -/
def SessSt.tagOk (x : SessSt) (f : InFrame) : Bool :=
  if x.auth then decide (f.flags % 2 = 1 ∧ f.tag = tagOf x.key f.cls f.flags f.seq f.sess f.payload) else decide (f.flags % 2 = 0)

/-- R347, R351, R352, R373: the session of a frame; none: it is discarded. A number no open slot has can carry no valid tag. -/
def State.sessOf (s : State) (p : LinkPort) (f : InFrame) : Option Sess :=
  if p = .spi ∧ f.cls ≠ 1 ∧ f.cls ≠ 0x21 then none
  else if f.sess = 0 then (if f.flags % 2 = 0 then some .anon else none)
  else if p = .spi then (if f.sess = 0xFFFFFFFF ∧ s.link.spi.tagOk f then some .spi else none)
  else match (List.finRange 8).find? fun k => (s.link.sess[k]).opn && decide ((s.link.sess[k]).num = f.sess) with
    | some k => if (s.link.sess[k]).tagOk f then some (.slot k) else none
    | none => none

/-! Command entries (R348). -/

/-- An entry: its code and its arguments; none: the arguments run past the payload. -/
structure Entry where
  code : Nat
  args : Option (List Byte)
  deriving DecidableEq, Repr

/-- R348: the entries of a payload, each padded to a multiple of 4; the fuel is the payload's length. -/
def entriesOf : Nat → List Byte → List Entry
  | 0, _ => []
  | k + 1, bs =>
    if bs.length < 4 then []
    else
      let n := byteAt bs 2 + byteAt bs 3 * 256
      let rest := bs.drop 4
      if rest.length < n then [{ code := byteAt bs 0, args := none }]
      else { code := byteAt bs 0, args := some (rest.take n) } :: entriesOf k (rest.drop ((n + 3) / 4 * 4))

/-- R350, R363: a code's right, and whether recovery serves it; none: unknown. -/
def codeRule (code : Nat) : Option (Right × Bool) := match code with
  | 1 => some (.read, true)
  | 2 => some (.write, false)
  | 3 => some (.read, true)
  | 4 => some (.write, false)
  | 5 => some (.write, true)
  | 6 => some (.read, true)
  | 7 => some (.read, false)
  | 8 => some (.write, false)
  | 9 => some (.write, true)
  | 10 => some (.write, true)
  | 11 => some (.auth, true)
  | 12 => some (.write, false)
  | 13 => some (.write, false)
  | 14 => some (.own, true)
  | 15 => some (.write, false)
  | 16 => some (.own, false)
  | _ => none

/-- R349: an entry with an unknown code or a wrong argument length. An unknown code needs no more than an open session. -/
def State.badEntry (s : State) (x : Sess) (code : Nat) : State :=
  let (r, rec) := (codeRule code).getD (.own, true)
  s.gate x r rec fun t => t.answer stBadCmd

/-- R351, R353: an anonymous frame on the SPI port authenticates the SPI session. -/
def State.authSess (s : State) (x : Sess) : Sess := if x = .anon ∧ s.link.src.1 = .spi then .spi else x

/-- R350: one entry executed. -/
def State.entry (s : State) (x : Sess) (e : Entry) : State := match e.args with
  | none => s.badEntry x e.code
  | some bs =>
    let ws := wordsOf bs
    let w (i : Nat) : Word := ws.getD i 0
    match e.code, bs.length with
    | 1, 4 => s.read32 x (w 0).toNat
    | 2, 8 => s.write32 x (w 0).toNat (w 1)
    | 3, 8 => s.readBlock x (w 0).toNat (w 1).toNat
    | 4, n => if 8 ≤ n ∧ n = 8 + 4 * (w 1).toNat then s.writeBlock x (w 0).toNat (ws.drop 2) else s.badEntry x 4
    | 5, 4 => s.bulkOpen x (w 0).toNat
    | 6, 4 => s.bulkStatus x (w 0).toNat
    | 7, 8 => s.bulkRead x (w 0).toNat (w 1).toNat
    | 8, 16 => s.programLoad x (w 0) (w 1).toNat (w 2).toNat (w 3)
    | 9, 4 => s.imageStage x (w 0)
    | 10, 4 => s.imageCommit x (w 0)
    | 11, 20 => if w 0 = 1 then s.authPhase1 (s.authSess x) (bs.drop 4) else s.badEntry x 11
    | 11, 36 => if w 0 = 2 then s.authPhase2 x (bs.drop 4) else s.badEntry x 11
    | 12, 4 => s.subscribe x (w 0)
    | 13, 8 => s.ackFrames x (w 0).toNat (w 1).toNat
    | 14, 0 => s.closeCmd x
    | 15, 0 => s.wakeCmd x
    | 16, 36 => if w 0 = 0 then s.keySetDevice x (bs.drop 4) else if w 0 = 1 then s.keySetOwner x (bs.drop 4)
        else s.gate x .own false fun t => t.answer stReserved
    | c, _ => s.badEntry x c

/-- R348: a response entry. -/
def respEntry (code st : Nat) (data : List Byte) : List Byte := [BitVec.ofNat 8 code, BitVec.ofNat 8 st] ++ le16 data.length ++ data

/-- R348: the entries in frame order; with STOPERR every one after the first that fails is skipped. -/
def State.runEntries (s : State) (x : Sess) (stop : Bool) : List Entry → Bool → List Byte → State × List Byte
  | [], _, out => (s, out)
  | e :: t, failed, out =>
    if stop ∧ failed then s.runEntries x stop t true (out ++ respEntry e.code stSkipped [])
    else
      let s1 := s.entry x e
      s1.runEntries x stop t (failed || decide (s1.status ≠ stOk)) (out ++ respEntry e.code s1.status s1.data)

/-- R346: the largest response payload of a session. -/
def State.maxPayload (s : State) (x : Sess) : Nat := match sessIx x with
  | some k => if (s.sessAt k).auth then 1416 else 1432
  | none => 1432

/-- R348: a command payload executed; if its response would not fit, nothing of it is. -/
def State.runPayload (s : State) (x : Sess) (stop : Bool) (payload : List Byte) : State × List Byte :=
  let (t, out) := s.runEntries x stop (entriesOf payload.length payload) false []
  if t.maxPayload x < out.length then (s.answer stLength, respEntry 0 stLength []) else (t, out)

/-- R356, R364: BUSY on every entry. -/
def busyPayload (payload : List Byte) : List Byte :=
  (entriesOf payload.length payload).flatMap fun e => respEntry e.code stBusy []

/-! Responses (R345, R356). -/

/-- An answer to an anonymous frame. -/
def anonFrame (p : LinkPort) (src : Peer) (seq : Nat) (payload : List Byte) : OutFrame :=
  { port := p, peer := src, cls := 2, flags := 0, seq := seq, sess := 0, payload := payload }

/-- R356: an accepted frame is answered BUSY on every entry at once. -/
def State.answerBusy (s : State) (k : Fin 9) (seq : Nat) (payload : List Byte) : State :=
  let f := (s.sessAt k).frame 2 0 seq (busyPayload payload)
  (s.modSess k fun y => { y with cached := some f }).transmit f

/-- R356, R374: a session's command frame executes; its response waits for RESPONSE_QUEUED. A session that the frame closed, or
that failed to authenticate, has its last response at once. A soft reset leaves nothing to answer. -/
def State.runSession (s : State) (x : Sess) (k : Fin 9) (f : InFrame) : State :=
  let (t, out) := s.runPayload x (decide (4 ≤ f.flags)) f.payload
  if t.served = false then t
  else if (t.sessAt k).opn = false then t.transmit ((s.sessAt k).frame 2 0 f.seq out)
  else
    let r := (t.sessAt k).frame 2 0 f.seq out
    let waits := decide (s.pmode = mdDEEP) && (entriesOf f.payload.length f.payload).any fun e => decide (e.code = 15)
    let staging := (entriesOf f.payload.length f.payload).any fun e => decide (e.code = 8 ∨ e.code = 9)
    t.modSess k fun y => { y with busy := true, resp := some r, waits := waits, staging := staging }

/-- RESPONSE_QUEUED (R356, R361, R374): a command frame's response is queued; the restart that IMAGE_COMMIT asked for follows it.
The response to a WAKE waits for STANDBY. -/
def execResponseQueued (x : Sess) (s : State) : Host.Outcome State Fault Refusal :=
  match sessIx x with
  | none => .next s
  | some k =>
    let y := s.sessAt k
    match y.resp with
    | none => .next s
    | some r =>
      if y.waits ∧ s.pmode = mdDEEP then .next s
      else
        let cached := if y.last = some r.seq then some r else y.cached
        let s1 := (s.modSess k fun y => { y with busy := false, resp := none, waits := false, staging := false, cached := cached }).transmit r
        .next (if s.maint.commit then s1.restart 1 else s1)

/-! Reception (R347, R356, R364). -/

/-- R347: a frame is discarded without a response; on the SPI port DISC counts it as well. -/
def State.badFrame (s : State) (p : LinkPort) : State :=
  let s1 := s.incWrap F.HL_STAT_BADFR
  if p = .spi then s1.incWrap F.HL_SPI_DISC else s1

/-- R364: the supervisor does not run: command frames are held. -/
def State.holds (s : State) : Bool := !s.served || s.flag F.GL_STATE_SUPV

/-- A frame is put with those held. -/
def State.holdFrame (s : State) (p : LinkPort) (src : Peer) (bytes : List Byte) : State :=
  { s with link := { s.link with held := s.link.held ++ [(p, src, bytes)] } }

/-- R345, R371: a valid frame keeps its session alive and takes the session to its port. -/
def State.hear (s : State) (k : Fin 9) (p : LinkPort) (src : Peer) : State :=
  s.modSess k fun y => { y with heard := s.time, port := p, peer := src }

/-- The halves of a class 0x21 payload: ID, offset, data (R358). -/
def State.bulkFrameIn (s : State) (x : Sess) (bs : List Byte) : State :=
  if bs.length < 8 then s else s.bulkData x (byteAt bs 0 + byteAt bs 1 * 256) (wordAt bs 4) (bs.drop 8)

/-- R356, R358, R364, R371, R372: an accepted frame of a session. -/
def State.takeFrame (s : State) (x : Sess) (k : Fin 9) (p : LinkPort) (src : Peer) (bytes : List Byte) (f : InFrame) : State :=
  let busy := (s.sessAt k).busy
  let s1 := s.modSess k fun y => { y with last := some f.seq, cached := none }
  if f.cls = 1 then
    if s1.holds then (s1.modSess k fun y => { y with busy := true }).holdFrame p src bytes
    else if busy then s1.answerBusy k f.seq f.payload
    else s1.runSession x k f
  else if f.cls = 0x21 then s1.bulkFrameIn x f.payload
  else if f.cls = 0x30 then
    (if f.payload.length = 16 ∧ s1.flag F.HL_STAT_RECOV = false ∧ s1.allowed x .write then s1.rateControl k (byteAt f.payload 0) else s1)
  else s1.keepalive k f.seq f.payload

/-- R356: the sequence of a session's frame judged: accepted, a repeat, or out of order. -/
def State.judgeFrame (s : State) (x : Sess) (k : Fin 9) (p : LinkPort) (src : Peer) (bytes : List Byte) (f : InFrame) : State :=
  let y := s.sessAt k
  match y.last with
  | none => s.takeFrame x k p src bytes f
  | some l =>
    let d := (f.seq + 2 ^ 32 - l) % 2 ^ 32
    if d = 0 then
      match y.cached with
      | some c => s.transmit (y.frame c.cls 2 c.seq c.payload)
      | none => s
    else if d < 2 ^ 31 then s.takeFrame x k p src bytes f
    else s.incSat F.HL_STAT_SEQERR

/-- R352: an anonymous frame: a command, answered at once. -/
def State.anonIn (s : State) (p : LinkPort) (src : Peer) (bytes : List Byte) (f : InFrame) : State :=
  if f.cls ≠ 1 then s
  else if s.holds then s.holdFrame p src bytes
  else
    let (t, out) := s.runPayload .anon (decide (4 ≤ f.flags)) f.payload
    if t.served = false then t else t.transmit (anonFrame p src f.seq out)

/-- R347, R356: a received datagram. -/
def State.receive (s : State) (p : LinkPort) (src : Peer) (bytes : List Byte) : State := match parseFrame bytes with
  | none => s.badFrame p
  | some f =>
    match s.sessOf p f with
    | none => s.badFrame p
    | some x =>
      let s1 := { s with link := { s.link with src := (p, src) } }
      match sessIx x with
      | none => s1.anonIn p src bytes f
      | some k => (s1.hear k p src).judgeFrame x k p src bytes f

/-- R345, R364, R376: a port takes frames: LA and LB while their link is up, the SPI port while it is clocked. -/
def State.portTakes (s : State) (p : LinkPort) : Bool := match p with
  | .la => s.flag (F.HL_PSTAT_LINK 0)
  | .lb => s.flag (F.HL_PSTAT_LINK 1)
  | .spi => s.boot.vbias && s.gateOn 7

/-- R344: is a datagram from an address to a UDP port one of ASLP? The SPI port has neither. -/
def State.aslpTo (s : State) (p : LinkPort) (src : Peer) (dport : Nat) : Bool :=
  let ip (k : Fin 2) : Bool := (s.flag (F.HL_PCFG_IP4EN k) && decide (src.ip.length = 4))
    || (s.flag (F.HL_PCFG_IP6EN k) && decide (src.ip.length = 16))
  match p with
  | .la => decide (dport = s.fget F.HL_CFG_UDPPORT) && ip 0
  | .lb => decide (dport = s.fget F.HL_CFG_UDPPORT) && ip 1
  | .spi => true

/-- ASLP_FRAME_RECEIVE (R344, R347, R348, R356). -/
def execAslpFrameReceive (p : LinkPort) (src : Peer) (dport : Fin 65536) (bytes : List Byte) (s : State) :
    Host.Outcome State Fault Refusal :=
  .next (if s.portTakes p && s.aslpTo p src dport.val then s.receive p src bytes else s)

/-! The SPI port (R373, R374). -/

/-- R373: is an outgoing frame an event frame? -/
def OutFrame.isEvent (f : OutFrame) : Bool := decide (f.cls = 3)

/-- R373: the frame a READ announces: responses before event frames. -/
def State.spiNext (s : State) : Option OutFrame := match s.link.spiOut.find? fun f => !f.isEvent with
  | some f => some f
  | none => s.link.spiOut.head?

/-- R373: SB. -/
def State.spiByte (s : State) : Nat :=
  (s.link.spiOut.any fun f => !f.isEvent).toNat + ((s.link.spiOut.any OutFrame.isEvent) || s.link.spi.evq.any fun f => f.sent.isNone).toNat * 2
    + s.link.spi.busy.toNat * 4 + s.fget F.HL_SPI_OVR * 8 + (decide (s.pmode = mdDEEP)).toNat * 16

/-- R373: what the controller returns during the header. -/
def State.spiHeader (s : State) : List Byte :=
  [BitVec.ofNat 8 s.spiByte] ++ le16 ((s.spiNext.map fun f => f.bytes.length).getD 0) ++ [0]

/-- SPI_WRITE (R373): one frame; with SB.BUSY it is discarded. -/
def execSpiWrite (bytes : List Byte) (s : State) : Host.Outcome State Fault Refusal :=
  if s.portTakes .spi = false then .next s
  else if s.link.spi.busy then .next ((s.setFlag F.HL_SPI_OVR true).incWrap F.HL_SPI_DISC)
  else .next (s.receive .spi {} bytes)

/-- SPI_READ (R373): SB and the announced length, four bytes of 0, and the announced frame, which leaves the queue only if it was
clocked out in full; further bytes read 0. `clocked` counts the bytes after the turnaround. -/
def execSpiRead (clocked : Nat) (s : State) : Host.Outcome State Fault Refusal :=
  if s.portTakes .spi = false then .next s
  else match s.spiNext with
    | none => .next (s.answer stOk (s.spiHeader ++ [0, 0, 0, 0] ++ List.replicate clocked 0))
    | some f =>
      let b := f.bytes
      let s1 := if b.length ≤ clocked then { s with link := { s.link with spiOut := s.link.spiOut.erase f } } else s
      .next (s1.answer stOk (s.spiHeader ++ [0, 0, 0, 0] ++ b.take clocked ++ List.replicate (clocked - b.length) 0))

/-- SPI_STATUS (R373): the header alone; a transaction of an OP of no other row is ignored and counted (notes/assumptions/192.md). -/
def execSpiStatus (op : Fin 256) (s : State) : Host.Outcome State Fault Refusal :=
  if s.portTakes .spi = false ∨ op.val = 1 ∨ op.val = 2 ∨ op.val = 4 then .next s
  else if op.val = 3 then .next (s.answer stOk s.spiHeader)
  else .next ((s.incWrap F.HL_SPI_DISC).answer stOk s.spiHeader)

/-- SPI_WAKE (R373, R333): as the WAKE command, without a frame. -/
def execSpiWake (s : State) : Host.Outcome State Fault Refusal := .next (if s.portTakes .spi then s.wakeCmd .spi else s)

/-! Held frames (R364), and what ends their hold. -/

/-- R364: a held frame is answered BUSY on every entry. -/
def State.flushOne (s : State) (p : LinkPort) (src : Peer) (bytes : List Byte) : State := match parseFrame bytes with
  | none => s
  | some f =>
    if f.sess = 0 then s.transmit (anonFrame p src f.seq (busyPayload f.payload))
    else match allSess.find? fun k => (s.sessAt k).opn && decide ((s.sessAt k).num = f.sess) with
      | none => s
      | some k =>
        let r := (s.sessAt k).frame 2 0 f.seq (busyPayload f.payload)
        let keep := decide ((s.sessAt k).last = some f.seq)
        (s.modSess k fun y => { y with busy := y.resp.isSome, cached := if keep then some r else y.cached }).transmit r

/-- R364: all held frames, in order. -/
def State.flushHeld (s : State) : State :=
  { s with link := { s.link with held := [] } }.each s.link.held fun h t => t.flushOne h.1 h.2.1 h.2.2

/-- BOOT_COMPLETE (R290–R292, R364): the firmware runs from a bank, or recovery. -/
def execBootComplete (img : BootImage) (s : State) : Host.Outcome State Fault Refusal :=
  if s.bootReady then .next (s.bootDone img).flushHeld else .next s

/-- SUPERVISOR_RESTART_DONE (R430, R364): t3 of the restart under way. -/
def execSupervisorRestartDone (bankA bankB : Bool) (s : State) : Host.Outcome State Fault Refusal :=
  match s.maint.restartAt with
  | some t => .next (s.restartEnd bankA bankB t).flushHeld
  | none => .next s

end Sys2Proof.Machine
end

