-- ==== Sys2Proof/Machine/Boundary.lean ====
section
/-! DEFINITION. The control-period boundary (R11) and the metrology sample (R26–R30): what every block does at one instant of
the time counter, in the order in which one part feeds the next. -/

namespace Sys2Proof.Machine

open Sys2Proof

/-! Control samples (R26, R28, R35, R44, R189, R466). -/

/-- R28, R44, R197: a lane's calibrated voltage (µV) and current (µA), and whether an entry in use is missing (R49), the force
delta's included. An adopted channel takes the lane's. -/
def State.lanePairOf (s : State) (n : Fin 128) (x lane : ChanIn) : Int × Int × Bool :=
  let (v, i, u) := if s.adopted n then
      let (v, i, k) := s.lanePair n (s.fget (F.CH_MSTAT_IRANGE n)) lane
      (rdiv 44 v 1000, i, k)
    else s.calPair n x
  (v, i, u || (s.calUse n 0 2).uncal)

/-- R189: the sample latched now falls in the crossbar settle window. -/
def ChMeas.inSettle (m : ChMeas) (now : Nat) : Bool := decide (m.xsFrom < now ∧ now ≤ m.xsUntil)

/-- R28, R35, R44, R189, R451, R466: the control sample a boundary latches on a lane, its marks and the flags that follow. -/
def State.latchLane (s : State) (n : Fin 128) (x lane : ChanIn) : State :=
  let m := (s.lane1 n).m
  let src := if s.adopted n then lane else x
  let (v, i, un) := s.lanePairOf n x lane
  let ov := overV src.v
  let oi := overI src.i
  let rs := decide (m.rsLeft ≠ 0)
  let xs := m.inSettle s.ctr
  let smp : Sample :=
    { stamp := s.ctr, v := v, i := i, rs := rs, xs := xs, ovr := ov || oi, r := s.fget (F.CH_MSTAT_IRANGE n) }
  let s1 := (s.overload n ov oi).modM n fun m =>
    { m with cs := smp, good := if rs || xs then m.good else smp, node := clampI x.node 0 6500000, rsLeft := m.rsLeft - 1 }
  let s2 := s1.modP n fun p => { p with fltLow := x.flt }
  ((s2.setFlag (F.CH_MSTAT_RSETTLE n) (decide (1 < m.rsLeft))).setFlag (F.CH_MSTAT_XSETTLE n)
    (decide (m.xsFrom ≤ s.ctr ∧ s.ctr < m.xsUntil))).setFlag (F.CH_MSTAT_UNCAL n) un

/-! Deferred writes (R93, R117, R225, R285, R323). -/

/-- R34, R208, R236, R286: the writes that do not come into force at a boundary: a feed selection, a tray loop's, the lane's, a
CH_MEAS of a frozen step. -/
def State.staysOld (s : State) (r : Reg) : Bool := match r with
  | .FD_SEL => true
  | .CH_MEAS n => (s.lane1 n).m.measHeld
  | _ => r.atSlot || decide (0x71000 ≤ r.addr ∧ r.addr < 0x71400)

/-- R109: the registers whose write computes the contact-energy ceiling anew. -/
def ctInput : Reg → Option (Fin 128)
  | .CT_EMAX n => some n
  | .CH_LCFG n => some n
  | .CH_SOFT n => some n
  | .CH_PWM n => some n
  | _ => none

/-- R63, R64: a new DIV sets the period, unless the timebase follows SYNC_IN. -/
def State.divTake (s : State) : State :=
  if s.effFlag F.CK_SYNC_SYNCEN ∧ s.flag F.CK_SYNCST_LOCK then s
  else { s with clk := { s.clk with per := s.tsw * 1000, perTo := s.tsw * 1000 } }

/-- R76, R109, R111: every write that waited for a boundary comes into force: gains without a bump, ceilings computed anew, excursions
judged. -/
def State.writesTake (s : State) : State :=
  let go := (s.old.map Prod.fst).filter fun r => !s.staysOld r
  let s1 := s.each (chans.filter fun n => decide (Reg.CH_IKP n ∈ go ∨ Reg.CH_VKP n ∈ go)) fun n t => t.bumpless n
  let s2 := { s1 with old := s1.old.filter fun e => s.staysOld e.1 }
  let s3 := if Reg.CK_PWM ∈ go then s2.divTake else s2
  let s4 := s3.each (chans.filter fun n => go.any fun r => decide (ctInput r = some n)) fun n t => t.ctClamp n
  s4.each (chans.filter fun n => decide (Reg.CH_CTWEAR n ∈ go)) fun n t => t.wearJudge n

/-! Ranges (R33–R35). -/

/-- R33, R54: the range the settings in force allow now: the fixed one, or the present or coming one within RLO to RHI. -/
def State.rangeForced (s : State) (n : Fin 128) : State :=
  let m := (s.lane1 n).m
  let r := s.fget (F.CH_MSTAT_IRANGE n)
  if m.frozen.isSome then s
  else
    let lo := s.eff (F.CH_MEAS_RLO n)
    let hi := s.eff (F.CH_MEAS_RHI n)
    let w := m.rangePend.getD r
    let w := if s.effFlag (F.CH_MEAS_AUTO n) then (if w < lo then lo else if hi < w then hi else w) else s.eff (F.CH_MEAS_RANGE n)
    s.modM n fun m => { m with rangePend := if w = r then none else some w }

/-- R33, R35: a lane's range at a boundary: a pending change takes effect; otherwise the sample just latched decides the
next one. -/
def State.rangeStep (s : State) (n : Fin 128) : State :=
  let s1 := s.rangeForced n
  let m := (s1.lane1 n).m
  if m.rangePend.isSome then s1.rangeApply n else s1.rangeDecide n m.cs.i (decide (m.iovrAt = some m.cs.stamp))

/-! Lanes (R11, R12, R69–R72, R101, R165–R170, R174). -/

/-- R29, R170, R173: the latest 1,000 samples of a channel, its voltage and its gang's current, and the latest 100 unmarked currents. -/
def State.histLane (s : State) (n : Fin 128) : State :=
  let l := (s.gang n).map fun j => (s.lane1 j).m.cs
  let c := (s.lane1 n).m.cs
  let x : Sample := { c with i := s.curr n, rs := l.any Sample.rs, xs := l.any Sample.xs, ovr := l.any Sample.ovr }
  s.modM n fun m => { m with hist := (x :: m.hist).take 1000, tapI := if x.rs || x.xs || x.ovr then m.tapI else (x.i :: m.tapI).take 100 }

/-- R11, R93: the duty computed in the closed period is released; R95: after a slow trip the phases go to mid instead. -/
def State.releaseDuty (s : State) (n : Fin 128) : State :=
  if (s.lane1 n).l.midDue then
    (s.modL n fun l => { l.mid with midDue := false, dutyNext := none }).setFlag (F.CH_MODE_SKIP n) false
  else match (s.lane1 n).l.dutyNext with
  | some d => (s.modL n fun l => { l with duty := d, dutyNext := none }).fset (F.CH_DUTY_DUTY n) d
  | none => s

/-- R165–R167: the closed period counted on a lane whose switch is closed. -/
def State.countLane (s : State) (n : Fin 128) (dt : Nat) : State :=
  let g := (s.lane1 n).m.good
  if s.closed n then s.countLife n g.v g.i dt else s

/-- R167, R169: the closed period counted in the open step of a channel: the gang's current against its VS. -/
def State.countStep (s : State) (n : Fin 128) (dt : Nat) : State :=
  match (s.lane1 n).x.step with
  | some st =>
    if s.closed n ∧ st.start.any (fun t => decide (t < s.ctr)) then
      let i := ((s.gang n).map fun j => (s.lane1 j).m.good.i).foldl (· + ·) 0
      let v := (s.lane1 n).m.good.v
      s.modX n fun x => { x with step := some { st with q := st.q + i * dt, e := st.e + v * i * dt } }
    else s
  | none => s

/-- R72: one boundary of an averaging window: CH_VFD, the measured current, and the lane's share of icmd. -/
def State.checkMean (s : State) (n : Fin 128) : State :=
  let ld := s.leader n
  let k := rdiv 91 (s.lane1 ld).l.icmd (s.gangSize ld)
  s.modC n fun c =>
    { c with avV := c.avV + s.fgetS (F.CH_VFD_VFD n), avI := c.avI + (s.lane1 n).m.cs.i, avC := c.avC + k, avN := c.avN + 1 }

/-- R69, R70, R72, R100: what the check of a lane takes in from a boundary: the node in its 100 µs, the means of its two 1 ms
windows, and iref at its learning target. -/
def State.checkLane (s : State) (n : Fin 128) : State :=
  let c := (s.lane1 n).c
  let d := s.time - c.at_
  match c.ph with
  | .settle =>
    if c.restExit ∧ s.time = c.at_ ∧ (s.lane1 n).p.fltLow then s.checkFail n 7
    else if 200 * us < d ∧ d ≤ 300 * us then
      s.modC n fun c => { c with nodeSum := c.nodeSum + (s.lane1 n).m.node, nodeN := c.nodeN + 1 }
    else s
  | .ramp =>
    if c.reached.isNone ∧ (s.lane1 n).l.iref = c.ilrn then s.modC n fun c => { c with reached := some s.time } else s
  | .zero => if 0 < d ∧ d ≤ ms then s.checkMean n else s
  | .learn => if 0 < d ∧ d ≤ ms then s.checkMean n else s
  | _ => s

/-- R170, R174, R175: captures whose step has started take their reference pair; an impedance run takes in the sample. -/
def State.metricLane (s : State) (n : Fin 128) : State :=
  let c := s.lane1 n
  let x := c.m.hist.headD {}
  let swap := decide (s.lane.swapAt = some s.ctr)
  s.modK n fun k =>
    { k with
      caps := k.caps.map fun p => if p.ts.any (fun t => decide (t ≤ s.ctr)) then p.takeRef c.m.hist else p,
      eis := k.eis.map fun e =>
        let e1 := e.note s.ctr c.l.clampActed swap
        if e1.met then e1 else e1.take (s.ctr - ctlDelay) x }

/-- R11, R78: what a boundary does with a lane once every lane's sample is latched. -/
def State.lanePeriod (s : State) (n : Fin 128) (dt : Nat) : State :=
  let s1 := (((s.histLane n).releaseDuty n).cvStart n).protBoundary n
  (((s1.countLane n dt).countStep n dt).checkLane n).metricLane n

/-- R11: the control samples of every lane and what follows from them. The duties of a group that a mismatch holds (R202) are
not released. -/
def State.lanes (s : State) (inp : Vector ChanIn 128) (lane : ChanIn) (dt : Nat) : State :=
  let s0 := s.laneOverload (overV lane.v) (overI lane.i)
  let s1 := s0.each chans fun n t => (t.blendStep n).latchLane n inp[n] lane
  let s2 := (s1.each chans fun n t => t.rangeStep n).mismBoundary
  let s3 := s2.each chans fun n t => t.lanePeriod n dt
  s3.busCount

/-- R189: a crossbar settle window is over: without control samples too. -/
def State.settleEnd (s : State) (n : Fin 128) : State :=
  if s.flag (F.CH_MSTAT_XSETTLE n) ∧ (s.lane1 n).m.xsUntil ≤ s.ctr then s.setFlag (F.CH_MSTAT_XSETTLE n) false else s

/-! The shelf. -/

/-- R138: a class that waited for the boundary. -/
def State.classTake (s : State) (n : Fin 128) : State :=
  match (s.lane1 n).x.clsNext with
  | some (k, _) => (s.fset (F.CH_PSTAT_CLASS n) k.val).modX n fun x => { x with clsNext := none }
  | none => s

/-- R137: at a boundary: the members uncounted in each barrier's episode, and the release that is due. -/
def State.barBoundary (s : State) : State :=
  let s1 := { s with sh := { s.sh with epUncounted := Vector.ofFn fun b => s.inEpisode b && s.barUncounted b } }
  match s1.sh.relPend with
  | some (b, t) =>
    if s1.sh.susp ≠ .bar b then { s1 with sh := { s1.sh with relPend := none } }
    else if s1.live .shelf then { s1 with sh := { s1.sh with relPend := none } }.barRelease b t
    else s1
  | none => s1

/-- R140, R141, R161: what CH_G, CS_SG and the shelf's ports show of the boundary; R11: the period's slots are to come. -/
def State.showBoundary (s : State) : State :=
  let s1 := s.each chans fun n t => t.modX n fun x => { x with gB := x.g, slotDue := s.clustersRun }
  { s1 with sh := { s1.sh with gB := s1.sh.g, ports := s1.shelfPorts, slotDue := s.clustersRun } }

/-- R11, R315: the counter at the next boundary. -/
def State.tick (s : State) : State :=
  let s1 := s.counterRun (s.nextBoundary - s.ctr)
  { s1 with ctrPrev := s.ctr, ctr := s.nextBoundary, time := s.time + tCtl, fsel := { s.fsel with sub := 0 } }

/-- R20–R22, R89, R132, R186, R201, R248: the shelf's states and its slower parts at a boundary. -/
def State.shelfBoundary (s : State) : State :=
  (s.feedTick.spareBoundary.laneBoundary.bankBoundary.judgeClr).rideBoundary

/-- R210–R218, R324: the ledger closes while the clusters run. -/
def State.ledgerBoundary (s : State) : State := if s.served ∧ s.clustersRun then s.ledgerClose else s

/-- R90, R133, R134, R138, R309, R317, R325, R409: what follows the ledger's close. -/
def State.lateBoundary (s : State) (aux : Vector AuxIn 4) : State :=
  let s1 := (s.each chans fun n t => t.gangTake n).each chans fun n t => (t.classTake n).requestBoundary n
  let s2 := s1.clockBoundary.each (List.finRange 4) fun j t => t.axBoundary j aux[j]
  s2.periodBoundary.barBoundary.modeBoundary.snapAtT.showBoundary

/-- CONTROL_PERIOD_BOUNDARY (R11, R22, R28, R33–R35, R50, R76, R89, R101, R109, R133, R165, R215): the
slots of the period that ends have run. Without VBIAS there is none. -/
def execControlPeriodBoundary (inp : Vector ChanIn 128) (lane : ChanIn) (aux : Vector AuxIn 4) (s : State) :
    Host.Outcome State Fault Refusal :=
  if s.boot.vbias = false then .next s
  else
    let s1 := s.slotsEnd.tick.calBoundary.writesTake
    let s2 := if s1.sampling then s1.lanes inp lane (s1.ctr - s1.ctrPrev) else s1.each chans fun n t => t.settleEnd n
    .next (s2.shelfBoundary.ledgerBoundary.lateBoundary aux)

/-! Metrology (R26–R30, R190, R408). -/

/-- R28, R30, R324: an instant has a metrology sample: in RUN and STANDBY, and in the averaging part of a burst. -/
def State.metRuns (s : State) (m : Nat) : Bool :=
  s.served && (decide (s.pmode = mdRUN ∨ s.pmode = mdSTANDBY) ||
    (decide (s.pmode = mdAGING) && s.mode.burst.any fun b => decide (b + 20 * ms < m ∧ m ≤ b + 100 * ms)))

/-- R27: the current range in force at an instant: the one the first later change left. -/
def ChMeas.rangeThen (m : ChMeas) (now t : Nat) : Nat :=
  ((m.rangeLog.reverse.find? fun p => decide (t < p.1)).map Prod.snd).getD now

/-- What one lane's metrology sample comes to: voltage in nV, µV and 10 nV, current in µA, shunt voltage in 2^-40 of full scale,
both tags (R26, R27). -/
structure MetOut where
  nv : Int
  uv : Int
  v10 : Int
  ua : Int
  fine : Int
  tagV : Nat
  tagI : Nat
  deriving DecidableEq, Repr

/-- R27: bit k of a tag. -/
def tagBit (t k : Nat) : Bool := decide (t / 2 ^ k % 2 = 1)

/-- R190: the marks that leave a sample out of a visit: RSETTLE, XSETTLE, OVR, UNCAL, BLEND. -/
def tagOut (t : Nat) : Bool := [2, 3, 4, 6, 7].any fun k => tagBit t k

/-- R26–R30, R44, R49, R197, R466: a lane's sample for instant t. In a burst the voltage takes the aging entry and the current
reads 0. UNCAL marks both quantities when any entry in use is missing. -/
def State.metOut (s : State) (n : Fin 128) (x lane : ChanIn) (t : Nat) : MetOut :=
  let m := (s.lane1 n).m
  let ag := decide (s.pmode = mdAGING)
  let ad := s.adopted n
  let src := if ad then lane else x
  let r := m.rangeThen (s.fget (F.CH_MSTAT_IRANGE n)) t
  let uv := if ad then { gain := 0, offset := 0, den := 1, uncal := false } else s.calUse n 0 (if ag then 1 else 0)
  let ui := s.calUse n 1 r
  let (k, q) := (s.adoptK0 n r).getD (1, 1)
  let raw := if ad then s.laneVolt (clampV src.v) else clampV src.v
  let ishunt := if ad then
      let sh := s.laneShunt (clampIraw src.i)
      if 0 < q then rdiv 197 (sh * k) q.natAbs else rdiv 197 (-(sh * k)) q.natAbs
    else calShunt ui (clampIraw src.i)
  let fine := if ag then 0 else ishunt
  let amps := if ag then 0
    else if ad then (s.lanePair n r lane).2.1
    else calCurr ui (clampIraw src.i) r m.rshunt
  let rs := m.rangeLog.any fun p => inMetWin t p.1
  let xs := decide (m.xsFrom < t + metDelay ∧ t < m.xsUntil + metDelay)
  let common := xs.toNat * 8 + m.calsw.toNat * 32 + s.fget (F.CH_MSTAT_BLEND n) * 128
  let ov := overV src.v || touched t m.vovrAt
  let oi := !ag && (overI src.i || touched t m.iovrAt)
  let noI := if ad then (s.adoptK0 n r).isNone else ui.uncal
  let un := uv.uncal || (!ag && (noI || (s.calUse n 0 2).uncal))
  { nv := calVolt uv raw 1, uv := calVolt uv raw 1000, v10 := calVolt uv raw 10, ua := amps, fine := fine,
    tagV := common + ov.toNat * 16 + un.toNat * 64,
    tagI := common + r + rs.toNat * 4 + oi.toNat * 16 + un.toNat * 64 }

/-- R28: the whole second S whose (S − 1 s, S] holds a stamp. -/
def secondOf (t : Nat) : Nat := (t + sec - 1) / sec

/-- R28, R49, R54, R172: a lane's metrology sample: CH_V, CH_I, the second's sum, and, outside AGING, the slope engine's window. -/
def State.metLane (s : State) (n : Fin 128) (t : Nat) (o : MetOut) : State :=
  let bad := tagBit o.tagV 3 || tagBit o.tagV 4
  let smp : Sample :=
    { stamp := t, v := o.uv, i := o.ua, rs := tagBit o.tagI 2, xs := tagBit o.tagI 3, ovr := tagBit o.tagV 4 || tagBit o.tagI 4,
      r := o.tagI % 4 }
  let s1 := s.modM n fun m =>
    let new := decide (secondOf m.ms.stamp ≠ secondOf t)
    { m with ms := smp, msTagV := o.tagV, msTagI := o.tagI, msCode := rdiv 26 o.fine (2 ^ 17), calsw := false,
             secSum := (if new then 0 else m.secSum) + o.v10, secN := (if new then 0 else m.secN) + 1,
             secBad := (if new then 0 else m.secBad) + bad.toNat,
             secBlend := (!new && m.secBlend) || tagBit o.tagV 7 }
  let s2 := (s1.setWord (.CH_V n) (wordOf o.uv)).setWord (.CH_I n) (wordOf o.ua)
  if s.pmode = mdAGING then s2.setFlag (F.CH_MSTAT_UNCAL n) (tagBit o.tagV 6)
  else s2.modK n fun k => k.dvTake (s.dvWindow n) t o.v10 bad

/-- R183, R174: what a channel makes of its gang's samples: CH_P, and an impedance run on the metrology path. -/
def State.metGang (s : State) (n : Fin 128) (t : Nat) : State :=
  let g := (s.gang n).map fun j => (s.lane1 j).m.ms
  let i := s.currMet n
  let v := (s.lane1 n).m.ms.v
  let x : Sample := { stamp := t, v := v, i := i, rs := g.any Sample.rs, xs := g.any Sample.xs, ovr := g.any Sample.ovr }
  (s.setWord (.CH_P n) (wordOf (rdiv 183 (v * i) (10 ^ 9)))).modK n fun k =>
    { k with eis := k.eis.map fun e => if e.met then e.take t x else e }

/-- R408: an instant enters the ring, each channel with its own current; flag: any mark, or a saturated value. -/
def State.ringTake (s : State) (t : Nat) : State :=
  if s.flag F.VT_CCTL_EN then
    let ms := chans.map fun n => (s.lane1 n).m
    let vs := ms.map fun m => code24 m.ms.v
    let cs := ms.map fun m => code24 (rdiv 408 m.ms.i 4)
    let fl := List.zipWith (fun (m : ChMeas) b => b || decide (m.msTagV ≠ 0 ∨ 4 ≤ m.msTagI)) ms
      (List.zipWith (fun (a b : Int × Bool) => a.2 || b.2) vs cs)
    let x : RingInst := { m := t, v := vs.map Prod.fst, i := cs.map Prod.fst, flag := fl }
    { s with cellar := { s.cellar with ring := (x :: s.cellar.ring).take 2674 } }
  else s

/-- R190: the pair of the visit under way, and of one whose last pairs are still to come. A mark on either sample of a quantity leaves its pair out. -/
def State.visitTake (s : State) (inp : Vector ChanIn 128) (lane : ChanIn) (t : Nat) : State :=
  let take (v : Visit) : Visit :=
    let o := s.metOut v.n inp[v.n] lane t
    s.lanePairIn v t o.nv o.fine lane (tagOut o.tagV) (tagOut o.tagI)
  { s with lane := { s.lane with visit := s.lane.visit.map take, done := s.lane.done.map take } }

/-- METROLOGY_SAMPLE (R26–R30, R54, R172, R183, R190, R408): the sample of the instant 400 µs ago, where there is one. -/
def execMetrologySample (inp : Vector ChanIn 128) (lane : ChanIn) (s : State) : Host.Outcome State Fault Refusal :=
  let t := s.ctr - metDelay
  if s.ctr % (100 * us) = 0 ∧ metDelay ≤ s.ctr ∧ s.metRuns t ∧ s.lane.metAt ≠ some t then
    let s0 := { s with lane := { s.lane with metAt := some t } }.visitTake inp lane t
    let s1 := s0.each chans fun n u => u.metLane n t (s.metOut n inp[n] lane t)
    .next ((s1.each chans fun n u => u.metGang n t).ringTake t)
  else .next s

end Sys2Proof.Machine
end

