-- ==== Sys2Proof/Machine/Dispatch.lean ====
section
/-! DEFINITION. One arm per command: a direct call of its meaning. -/

namespace Sys2Proof.Machine

open Sys2Proof

def exec (i : Instr) (s : State) : Host.Outcome State Fault Refusal :=
  match i with
  | .registerWrite addr val => Sys2Proof.Machine.execRegisterWrite addr val s
  | .lowWordRead addr => Sys2Proof.Machine.execLowWordRead addr s
  | .lockOpen => Sys2Proof.Machine.execLockOpen s
  | .lockClose key => Sys2Proof.Machine.execLockClose key s
  | .lockExpiry => Sys2Proof.Machine.execLockExpiry s
  | .safeReq => Sys2Proof.Machine.execSafeReq s
  | .safeClr => Sys2Proof.Machine.execSafeClr s
  | .controlPeriodBoundary inp lane aux => Sys2Proof.Machine.execControlPeriodBoundary inp lane aux s
  | .channelSlot c shadow => Sys2Proof.Machine.execChannelSlot c shadow s
  | .switchingCycleStart n phB => Sys2Proof.Machine.execSwitchingCycleStart n phB s
  | .parkedSwitchOpen n => Sys2Proof.Machine.execParkedSwitchOpen n s
  | .stopEnd n => Sys2Proof.Machine.execStopEnd n s
  | .shelfServiceEntry => Sys2Proof.Machine.execShelfServiceEntry s
  | .modulatorOverload n volt cur => Sys2Proof.Machine.execModulatorOverload n volt cur s
  | .metrologySample inp lane => Sys2Proof.Machine.execMetrologySample inp lane s
  | .agingSample => Sys2Proof.Machine.execAgingSample s
  | .regressionPost n => Sys2Proof.Machine.execRegressionPost n s
  | .deltaSample n vfd ip => Sys2Proof.Machine.execDeltaSample n vfd ip s
  | .housekeepingRound inp => Sys2Proof.Machine.execHousekeepingRound inp s
  | .calCopy => Sys2Proof.Machine.execCalCopy s
  | .calSwap => Sys2Proof.Machine.execCalSwap s
  | .calCopyDone => Sys2Proof.Machine.execCalCopyDone s
  | .shadowTableWrite addr val => Sys2Proof.Machine.execShadowTableWrite addr val s
  | .calTableSave => Sys2Proof.Machine.execCalTableSave s
  | .pwmDivWrite val => Sys2Proof.Machine.execPwmDivWrite val s
  | .syncInEdge t => Sys2Proof.Machine.execSyncInEdge t s
  | .syncLost => Sys2Proof.Machine.execSyncLost s
  | .phaseShed n => Sys2Proof.Machine.execPhaseShed n s
  | .checkShortTest n => Sys2Proof.Machine.execCheckShortTest n s
  | .checkPrebiasReached n => Sys2Proof.Machine.execCheckPrebiasReached n s
  | .checkPrebiasTimeout n => Sys2Proof.Machine.execCheckPrebiasTimeout n s
  | .checkSwitchSettled n => Sys2Proof.Machine.execCheckSwitchSettled n s
  | .checkZeroPointDone n => Sys2Proof.Machine.execCheckZeroPointDone n s
  | .checkLearnSettled n => Sys2Proof.Machine.execCheckLearnSettled n s
  | .checkRpathLearned n => Sys2Proof.Machine.execCheckRpathLearned n s
  | .checkPass n => Sys2Proof.Machine.execCheckPass n s
  | .restSwitchOpen n => Sys2Proof.Machine.execRestSwitchOpen n s
  | .softStartFault n => Sys2Proof.Machine.execSoftStartFault n s
  | .busLimitTrip => Sys2Proof.Machine.execBusLimitTrip s
  | .gangWrite n val => Sys2Proof.Machine.execGangWrite n val s
  | .ocTrip n t uv held => Sys2Proof.Machine.execOcTrip n t uv held s
  | .ovTrip n t uv held => Sys2Proof.Machine.execOvTrip n t uv held s
  | .uvTrip n => Sys2Proof.Machine.execUvTrip n s
  | .fuseTrip n => Sys2Proof.Machine.execFuseTrip n s
  | .contactBreak n => Sys2Proof.Machine.execContactBreak n s
  | .stageFault n t held => Sys2Proof.Machine.execStageFault n t held s
  | .fltLPulse n t held => Sys2Proof.Machine.execFltLPulse n t held s
  | .ctEstimateClose n => Sys2Proof.Machine.execCtEstimateClose n s
  | .wearBinMinute n => Sys2Proof.Machine.execWearBinMinute n s
  | .driftSecond n => Sys2Proof.Machine.execDriftSecond n s
  | .faultClear n val => Sys2Proof.Machine.execFaultClear n val s
  | .cc c a b sel imm => Sys2Proof.Machine.execCc c a b sel imm s
  | .cv c a b sel imm => Sys2Proof.Machine.execCv c a b sel imm s
  | .ccv c a b sel imm => Sys2Proof.Machine.execCcv c a b sel imm s
  | .cp c a b sel imm => Sys2Proof.Machine.execCp c a b sel imm s
  | .cr c a b sel imm => Sys2Proof.Machine.execCr c a b sel imm s
  | .pulse c a b sel imm => Sys2Proof.Machine.execPulse c a b sel imm s
  | .eis c a b sel imm => Sys2Proof.Machine.execEis c a b sel imm s
  | .rest c a b sel imm => Sys2Proof.Machine.execRest c a b sel imm s
  | .hold c a b sel imm => Sys2Proof.Machine.execHold c a b sel imm s
  | .gapHold n => Sys2Proof.Machine.execGapHold n s
  | .limv c a b sel imm => Sys2Proof.Machine.execLimv c a b sel imm s
  | .limi c a b sel imm => Sys2Proof.Machine.execLimi c a b sel imm s
  | .limt c a b sel imm => Sys2Proof.Machine.execLimt c a b sel imm s
  | .disarm c a b sel imm => Sys2Proof.Machine.execDisarm c a b sel imm s
  | .armt c a b sel imm => Sys2Proof.Machine.execArmt c a b sel imm s
  | .armv c a b sel imm => Sys2Proof.Machine.execArmv c a b sel imm s
  | .armi c a b sel imm => Sys2Proof.Machine.execArmi c a b sel imm s
  | .armtap c a b sel imm => Sys2Proof.Machine.execArmtap c a b sel imm s
  | .armq c a b sel imm => Sys2Proof.Machine.execArmq c a b sel imm s
  | .arme c a b sel imm => Sys2Proof.Machine.execArme c a b sel imm s
  | .armdv c a b sel imm => Sys2Proof.Machine.execArmdv c a b sel imm s
  | .armtc c a b sel imm => Sys2Proof.Machine.execArmtc c a b sel imm s
  | .wait c a b sel imm => Sys2Proof.Machine.execWait c a b sel imm s
  | .waitTimedExpiry c => Sys2Proof.Machine.execWaitTimedExpiry c s
  | .ldi c a b sel imm lit => Sys2Proof.Machine.execLdi c a b sel imm lit s
  | .mov c a b sel imm => Sys2Proof.Machine.execMov c a b sel imm s
  | .getm c a b sel imm => Sys2Proof.Machine.execGetm c a b sel imm s
  | .putp c a b sel imm => Sys2Proof.Machine.execPutp c a b sel imm s
  | .add c a b sel imm => Sys2Proof.Machine.execAdd c a b sel imm s
  | .sub c a b sel imm => Sys2Proof.Machine.execSub c a b sel imm s
  | .mulsh c a b sel imm => Sys2Proof.Machine.execMulsh c a b sel imm s
  | .cmp c a b sel imm => Sys2Proof.Machine.execCmp c a b sel imm s
  | .br c a b sel imm => Sys2Proof.Machine.execBr c a b sel imm s
  | .loop c a b sel imm => Sys2Proof.Machine.execLoop c a b sel imm s
  | .call c a b sel imm => Sys2Proof.Machine.execCall c a b sel imm s
  | .ret c a b sel imm => Sys2Proof.Machine.execRet c a b sel imm s
  | .nop c a b sel imm => Sys2Proof.Machine.execNop c a b sel imm s
  | .stop c a b sel imm => Sys2Proof.Machine.execStop c a b sel imm s
  | .capdc c a b sel imm => Sys2Proof.Machine.execCapdc c a b sel imm s
  | .dcirCapture n => Sys2Proof.Machine.execDcirCapture n s
  | .eisrun c a b sel imm => Sys2Proof.Machine.execEisrun c a b sel imm s
  | .eisLockinDone n => Sys2Proof.Machine.execEisLockinDone n s
  | .emit c a b sel imm => Sys2Proof.Machine.execEmit c a b sel imm s
  | .bar c a b sel imm => Sys2Proof.Machine.execBar c a b sel imm s
  | .prio c a b sel imm => Sys2Proof.Machine.execPrio c a b sel imm s
  | .sig c a b sel imm => Sys2Proof.Machine.execSig c a b sel imm s
  | .swappt c a b sel imm => Sys2Proof.Machine.execSwappt c a b sel imm s
  | .barrierRelease b => Sys2Proof.Machine.execBarrierRelease b s
  | .barrierTimeout b => Sys2Proof.Machine.execBarrierTimeout b s
  | .stepStoreWrite addr vals => Sys2Proof.Machine.execStepStoreWrite addr vals s
  | .progWrite n val => Sys2Proof.Machine.execProgWrite n val s
  | .hostStart n => Sys2Proof.Machine.execHostStart n s
  | .hostStop n => Sys2Proof.Machine.execHostStop n s
  | .shelfStart => Sys2Proof.Machine.execShelfStart s
  | .shelfStop => Sys2Proof.Machine.execShelfStop s
  | .counterWrite n energy val => Sys2Proof.Machine.execCounterWrite n energy val s
  | .dvdtWindowResult n => Sys2Proof.Machine.execDvdtWindowResult n s
  | .lanternSlotStart refs => Sys2Proof.Machine.execLanternSlotStart refs s
  | .lanternConnect => Sys2Proof.Machine.execLanternConnect s
  | .lanternResult => Sys2Proof.Machine.execLanternResult s
  | .lanternCommit => Sys2Proof.Machine.execLanternCommit s
  | .adoptEnable n => Sys2Proof.Machine.execAdoptEnable n s
  | .adoptActive => Sys2Proof.Machine.execAdoptActive s
  | .adoptRelease => Sys2Proof.Machine.execAdoptRelease s
  | .lbistSlice pass => Sys2Proof.Machine.execLbistSlice pass s
  | .fullLbistDone pass => Sys2Proof.Machine.execFullLbistDone pass s
  | .spareAcquired => Sys2Proof.Machine.execSpareAcquired s
  | .spareTakeover => Sys2Proof.Machine.execSpareTakeover s
  | .spareRotation => Sys2Proof.Machine.execSpareRotation s
  | .rotnow => Sys2Proof.Machine.execRotnow s
  | .retgo k => Sys2Proof.Machine.execRetgo k s
  | .degradeExpiry n => Sys2Proof.Machine.execDegradeExpiry n s
  | .throttleReport => Sys2Proof.Machine.execThrottleReport s
  | .rmCapStale => Sys2Proof.Machine.execRmCapStale s
  | .feedErrorAlarm => Sys2Proof.Machine.execFeedErrorAlarm s
  | .vinEnterWindow f vin => Sys2Proof.Machine.execVinEnterWindow f vin s
  | .vinLeaveWindow f vin held => Sys2Proof.Machine.execVinLeaveWindow f vin held s
  | .feedQualified f => Sys2Proof.Machine.execFeedQualified f s
  | .feedCheckDone f vin mid mid2 => Sys2Proof.Machine.execFeedCheckDone f vin mid mid2 s
  | .feedOn f gs held => Sys2Proof.Machine.execFeedOn f gs held s
  | .feedRampTimeout f => Sys2Proof.Machine.execFeedRampTimeout f s
  | .feedFaultTimer f => Sys2Proof.Machine.execFeedFaultTimer f s
  | .reverseTrip f uv vin => Sys2Proof.Machine.execReverseTrip f uv vin s
  | .turnoffConfirmed f gs ma => Sys2Proof.Machine.execTurnoffConfirmed f gs ma s
  | .turnoffTimeout f => Sys2Proof.Machine.execTurnoffTimeout f s
  | .feedLockoutEnd f => Sys2Proof.Machine.execFeedLockoutEnd f s
  | .feedFaultClear f val => Sys2Proof.Machine.execFeedFaultClear f val s
  | .feedDisable f => Sys2Proof.Machine.execFeedDisable f s
  | .feedSelectWrite val => Sys2Proof.Machine.execFeedSelectWrite val s
  | .busCapMeasured => Sys2Proof.Machine.execBusCapMeasured s
  | .meterUpdate inp => Sys2Proof.Machine.execMeterUpdate inp s
  | .pathCurrentLoss ua held => Sys2Proof.Machine.execPathCurrentLoss ua held s
  | .holdupPathArm => Sys2Proof.Machine.execHoldupPathArm s
  | .holdupPreDone => Sys2Proof.Machine.execHoldupPreDone s
  | .holdupPreTimeout => Sys2Proof.Machine.execHoldupPreTimeout s
  | .holdupConduct => Sys2Proof.Machine.execHoldupConduct s
  | .holdupReverse ua held => Sys2Proof.Machine.execHoldupReverse ua held s
  | .holdupUvcut => Sys2Proof.Machine.execHoldupUvcut s
  | .dischargeLimitExpiry => Sys2Proof.Machine.execDischargeLimitExpiry s
  | .rideTimerExpiry => Sys2Proof.Machine.execRideTimerExpiry s
  | .haltVoltage => Sys2Proof.Machine.execHaltVoltage s
  | .huCtlHalt => Sys2Proof.Machine.execHuCtlHalt s
  | .haltComplete => Sys2Proof.Machine.execHaltComplete s
  | .chargerTick => Sys2Proof.Machine.execChargerTick s
  | .chargerTaperDone => Sys2Proof.Machine.execChargerTaperDone s
  | .chargerSafetyTimeout => Sys2Proof.Machine.execChargerSafetyTimeout s
  | .packMissing => Sys2Proof.Machine.execPackMissing s
  | .packShorted => Sys2Proof.Machine.execPackShorted s
  | .packPresent => Sys2Proof.Machine.execPackPresent s
  | .huWdtKick => Sys2Proof.Machine.execHuWdtKick s
  | .huWdtConfirm => Sys2Proof.Machine.execHuWdtConfirm s
  | .huWdtExpiry => Sys2Proof.Machine.execHuWdtExpiry s
  | .gaugeMinute => Sys2Proof.Machine.execGaugeMinute s
  | .gaugeNoref => Sys2Proof.Machine.execGaugeNoref s
  | .gaugeRestore crc => Sys2Proof.Machine.execGaugeRestore crc s
  | .auxEnable j => Sys2Proof.Machine.execAuxEnable j s
  | .auxDisable j => Sys2Proof.Machine.execAuxDisable j s
  | .auxCheck j mv => Sys2Proof.Machine.execAuxCheck j mv s
  | .auxSoftstartDone j => Sys2Proof.Machine.execAuxSoftstartDone j s
  | .auxPowerGood j => Sys2Proof.Machine.execAuxPowerGood j s
  | .auxOv j mv held => Sys2Proof.Machine.execAuxOv j mv held s
  | .auxUv j => Sys2Proof.Machine.execAuxUv j s
  | .auxOc j => Sys2Proof.Machine.execAuxOc j s
  | .auxHiccupEnd j mv => Sys2Proof.Machine.execAuxHiccupEnd j mv s
  | .auxChargerOv mv => Sys2Proof.Machine.execAuxChargerOv mv s
  | .loopPeriod k inp => Sys2Proof.Machine.execLoopPeriod k inp s
  | .setpointLost k => Sys2Proof.Machine.execSetpointLost k s
  | .autotuneStart k => Sys2Proof.Machine.execAutotuneStart k s
  | .autotuneAbort k => Sys2Proof.Machine.execAutotuneAbort k s
  | .autotuneTimeout k => Sys2Proof.Machine.execAutotuneTimeout k s
  | .powerOnReset straps low => Sys2Proof.Machine.execPowerOnReset straps low s
  | .vbiasLoss => Sys2Proof.Machine.execVbiasLoss s
  | .resetLPulse held => Sys2Proof.Machine.execResetLPulse held s
  | .atticWakeRetry => Sys2Proof.Machine.execAtticWakeRetry s
  | .bootComplete img => Sys2Proof.Machine.execBootComplete img s
  | .railUpRequest => Sys2Proof.Machine.execRailUpRequest s
  | .railDownRequest => Sys2Proof.Machine.execRailDownRequest s
  | .railTableSave => Sys2Proof.Machine.execRailTableSave s
  | .srst => Sys2Proof.Machine.execSrst s
  | .railScan e mv => Sys2Proof.Machine.execRailScan e mv s
  | .railRampTimeout e => Sys2Proof.Machine.execRailRampTimeout e s
  | .railSettled e => Sys2Proof.Machine.execRailSettled e s
  | .railRetryEnd e => Sys2Proof.Machine.execRailRetryEnd e s
  | .railDownTimeout e => Sys2Proof.Machine.execRailDownTimeout e s
  | .pendingUpStart => Sys2Proof.Machine.execPendingUpStart s
  | .railFaultClear e val => Sys2Proof.Machine.execRailFaultClear e val s
  | .sqRoffWrite val => Sys2Proof.Machine.execSqRoffWrite val s
  | .wdiEdge => Sys2Proof.Machine.execWdiEdge s
  | .wdiExpiry => Sys2Proof.Machine.execWdiExpiry s
  | .clockJudgeWindow c count => Sys2Proof.Machine.execClockJudgeWindow c count s
  | .clockJudgeDeadline c => Sys2Proof.Machine.execClockJudgeDeadline c s
  | .xhfLoss x => Sys2Proof.Machine.execXhfLoss x s
  | .trimMeasurement count => Sys2Proof.Machine.execTrimMeasurement count s
  | .compatVoutPoll ans => Sys2Proof.Machine.execCompatVoutPoll ans s
  | .compatStepTimeout => Sys2Proof.Machine.execCompatStepTimeout s
  | .compatRetry => Sys2Proof.Machine.execCompatRetry s
  | .timeSet val => Sys2Proof.Machine.execTimeSet val s
  | .ppsEdge t => Sys2Proof.Machine.execPpsEdge t s
  | .ppsLost => Sys2Proof.Machine.execPpsLost s
  | .ppsSlewEnd => Sys2Proof.Machine.execPpsSlewEnd s
  | .holdoverLimit => Sys2Proof.Machine.execHoldoverLimit s
  | .ppsDisable => Sys2Proof.Machine.execPpsDisable s
  | .modeRequest val => Sys2Proof.Machine.execModeRequest val s
  | .modeEntry => Sys2Proof.Machine.execModeEntry s
  | .agingWake => Sys2Proof.Machine.execAgingWake s
  | .agingBurst => Sys2Proof.Machine.execAgingBurst s
  | .agingBurstEnd => Sys2Proof.Machine.execAgingBurstEnd s
  | .agingSleep => Sys2Proof.Machine.execAgingSleep s
  | .agingArmWake => Sys2Proof.Machine.execAgingArmWake s
  | .agingExitComplete => Sys2Proof.Machine.execAgingExitComplete s
  | .deepWake => Sys2Proof.Machine.execDeepWake s
  | .deepWakeComplete => Sys2Proof.Machine.execDeepWakeComplete s
  | .atticQueueDrain => Sys2Proof.Machine.execAtticQueueDrain s
  | .aslpFrameReceive p src dport bytes => Sys2Proof.Machine.execAslpFrameReceive p src dport bytes s
  | .read32 x addr => Sys2Proof.Machine.execRead32 x addr s
  | .write32 x addr val => Sys2Proof.Machine.execWrite32 x addr val s
  | .readBlock x addr n => Sys2Proof.Machine.execReadBlock x addr n s
  | .writeBlock x addr vals => Sys2Proof.Machine.execWriteBlock x addr vals s
  | .bulkOpen x total => Sys2Proof.Machine.execBulkOpen x total s
  | .bulkWriteData x id off data => Sys2Proof.Machine.execBulkWriteData x id off data s
  | .bulkStatus x id => Sys2Proof.Machine.execBulkStatus x id s
  | .bulkRead x addr len => Sys2Proof.Machine.execBulkRead x addr len s
  | .bulkReadFrame id => Sys2Proof.Machine.execBulkReadFrame id s
  | .programLoad x bank index n crc => Sys2Proof.Machine.execProgramLoad x bank index n crc s
  | .imageStage x sel => Sys2Proof.Machine.execImageStage x sel s
  | .imageCommit x bank => Sys2Proof.Machine.execImageCommit x bank s
  | .authPhase1 x nh => Sys2Proof.Machine.execAuthPhase1 x nh s
  | .authPhase2 x ph => Sys2Proof.Machine.execAuthPhase2 x ph s
  | .authLockoutEnd => Sys2Proof.Machine.execAuthLockoutEnd s
  | .subscribe x bits => Sys2Proof.Machine.execSubscribe x bits s
  | .ack x cls seq => Sys2Proof.Machine.execAck x cls seq s
  | .close x => Sys2Proof.Machine.execClose x s
  | .wake x => Sys2Proof.Machine.execWake x s
  | .keySetDevice x key => Sys2Proof.Machine.execKeySetDevice x key s
  | .keySetOwner x key => Sys2Proof.Machine.execKeySetOwner x key s
  | .nzoffWrite => Sys2Proof.Machine.execNzoffWrite s
  | .keepalive x data => Sys2Proof.Machine.execKeepalive x data s
  | .sessionTimeout k => Sys2Proof.Machine.execSessionTimeout k s
  | .rateControlFrame x op => Sys2Proof.Machine.execRateControlFrame x op s
  | .rateSwitch => Sys2Proof.Machine.execRateSwitch s
  | .rateSwitchDone => Sys2Proof.Machine.execRateSwitchDone s
  | .rateSwitchTimeout => Sys2Proof.Machine.execRateSwitchTimeout s
  | .rateRepropose => Sys2Proof.Machine.execRateRepropose s
  | .eventFrameSend k => Sys2Proof.Machine.execEventFrameSend k s
  | .eventFrameResend k => Sys2Proof.Machine.execEventFrameResend k s
  | .recordFrameSend => Sys2Proof.Machine.execRecordFrameSend s
  | .recordFrameResend => Sys2Proof.Machine.execRecordFrameResend s
  | .streamFrameSend st md raw => Sys2Proof.Machine.execStreamFrameSend st md raw s
  | .decimationEvaluation => Sys2Proof.Machine.execDecimationEvaluation s
  | .linkChange p up => Sys2Proof.Machine.execLinkChange p up s
  | .portConfigWrite addr val => Sys2Proof.Machine.execPortConfigWrite addr val s
  | .spiWrite bytes => Sys2Proof.Machine.execSpiWrite bytes s
  | .spiRead clocked => Sys2Proof.Machine.execSpiRead clocked s
  | .spiStatus op => Sys2Proof.Machine.execSpiStatus op s
  | .spiWake => Sys2Proof.Machine.execSpiWake s
  | .rmCap val pec => Sys2Proof.Machine.execRmCap val pec s
  | .rmNet more => Sys2Proof.Machine.execRmNet more s
  | .ptr bytes pec => Sys2Proof.Machine.execPtr bytes pec s
  | .regRead more => Sys2Proof.Machine.execRegRead more s
  | .regWrite bytes pec => Sys2Proof.Machine.execRegWrite bytes pec s
  | .rstat more => Sys2Proof.Machine.execRstat more s
  | .evlow more => Sys2Proof.Machine.execEvlow more s
  | .twTimeout p low => Sys2Proof.Machine.execTwTimeout p low s
  | .twBusError p => Sys2Proof.Machine.execTwBusError p s
  | .twArbitrationLost p => Sys2Proof.Machine.execTwArbitrationLost p s
  | .tw1DeepAddress => Sys2Proof.Machine.execTw1DeepAddress s
  | .hostNotify ack => Sys2Proof.Machine.execHostNotify ack s
  | .notifyRetry ack => Sys2Proof.Machine.execNotifyRetry ack s
  | .tw0Poll answers => Sys2Proof.Machine.execTw0Poll answers s
  | .clearFaults k => Sys2Proof.Machine.execClearFaults k s
  | .vaultRecordWrite => Sys2Proof.Machine.execVaultRecordWrite s
  | .cellarHostTrigger => Sys2Proof.Machine.execCellarHostTrigger s
  | .cellarCaptureClose => Sys2Proof.Machine.execCellarCaptureClose s
  | .cellarSlotWritten => Sys2Proof.Machine.execCellarSlotWritten s
  | .cellarSlotRelease sl => Sys2Proof.Machine.execCellarSlotRelease sl s
  | .vaultClear => Sys2Proof.Machine.execVaultClear s
  | .vaultClearDone => Sys2Proof.Machine.execVaultClearDone s
  | .sramSlice pass => Sys2Proof.Machine.execSramSlice pass s
  | .mramWriteTest pass => Sys2Proof.Machine.execMramWriteTest pass s
  | .pwmLoopbackFail w b err => Sys2Proof.Machine.execPwmLoopbackFail w b err s
  | .supervisorRestartKey key => Sys2Proof.Machine.execSupervisorRestartKey key s
  | .supervisorWatchdog idle => Sys2Proof.Machine.execSupervisorWatchdog idle s
  | .supervisorException => Sys2Proof.Machine.execSupervisorException s
  | .supervisorRestartDone bankA bankB => Sys2Proof.Machine.execSupervisorRestartDone bankA bankB s
  | .cardLoss k high => Sys2Proof.Machine.execCardLoss k high s
  | .cardReturn k low => Sys2Proof.Machine.execCardReturn k low s
  | .jtagUpdateIr ir => Sys2Proof.Machine.execJtagUpdateIr ir s
  | .responseQueued x => Sys2Proof.Machine.execResponseQueued x s
  | .proposeResend => Sys2Proof.Machine.execProposeResend s
  | .arpNdEchoReceive p pkt => Sys2Proof.Machine.execArpNdEchoReceive p pkt s
  | .feedCurrentLimiting f on ma tick => Sys2Proof.Machine.execFeedCurrentLimiting f on ma tick s
  | .holdupDischargeLimiting on ma => Sys2Proof.Machine.execHoldupDischargeLimiting on ma s
  | .tw1AddressRearm => Sys2Proof.Machine.execTw1AddressRearm s
  | .configRegionSave r => Sys2Proof.Machine.execConfigRegionSave r s

end Sys2Proof.Machine
end

