-- ==== Sys2Proof/Safety.lean ====
section
/-! DEFINITION. What counts as a safe run, in the terms claims use: the canonical form of the data, and a step that goes on. -/

namespace Sys2Proof.Machine

/-- A sparse register list in its canonical form: keys strictly rising, no entry at its reset value. -/
def regsWf (l : List (Reg × Word)) : Bool :=
  decide (l.Pairwise fun p q => p.1.key < q.1.key) && l.all fun e => decide (e.2 ≠ e.1.rst)

/-- Registers, memory windows and the saved calibration table are in their canonical form, so that equal contents are equal
data. -/
def State.wf (s : State) : Bool := regsWf s.regs && Memory.wf s.mem && Memory.wf s.nv.calSaved

/-- R13: the register group an address lies in: the 64 KiB blocks below the channel blocks by their number (0 GL, 1 CK, 2 EV, 3 SQ,
4 FD, 5 HU, 6 LG, 7 AX and AL, 8 TW, 9 HL, 10 VT, 11 BT and TS, 12 LN and CS), and 16 for the channel blocks. -/
def Reg.group (r : Reg) : Nat := min (r.addr / 0x10000) 16

/-- The step answers a next state: it neither faults nor refuses. -/
def State.goesOn (s : State) : Prop := ∃ t, step s = .next t

/-- Every register but those listed holds in `t` what it held in `s`. -/
def Only (s t : State) (rs : List Reg) : Prop := ∀ r, r ∉ rs → t.word r = s.word r

/-- The same, the registers of the EV and VT blocks aside: where an occurrence is routed (R336) or a record written (R406). -/
def OnlyEv (s t : State) (rs : List Reg) : Prop :=
  ∀ r, r ∉ rs → r.group ≠ 2 → r.group ≠ 10 → t.word r = s.word r

/-- The register that shows a context's program counter, flags and suspension (R140, R141). -/
def statReg : Ctx → Reg
  | .chan n => .CH_PSTAT n
  | .shelf => .CS_SHSTAT

/-- A word of a context has written `v` to register `a` and Z, N, C as given, and gone on to the next word: every other register,
T, the windows and every other register of the block stay (R152). -/
def AluStep (s t : State) (c : Ctx) (a : Fin 16) (v : Word) (z n cy : Bool) : Prop :=
  t.g c a = v ∧ (∀ i, i ≠ a → t.g c i = s.g c i) ∧ t.flags c = z.toNat * 8 + n.toNat * 4 + cy.toNat * 2 + s.flags c % 2
    ∧ t.pc c = (s.pc c + 1) % 65536 ∧ Only s t [statReg c] ∧ t.mem = s.mem

/-- The same for a word that leaves the flags. -/
def MoveStep (s t : State) (c : Ctx) (a : Fin 16) (v : Word) : Prop :=
  t.g c a = v ∧ (∀ i, i ≠ a → t.g c i = s.g c i) ∧ t.flags c = s.flags c ∧ t.pc c = (s.pc c + 1) % 65536
    ∧ Only s t [statReg c] ∧ t.mem = s.mem

/-- A mode instruction has opened a step of a mode with two targets in a channel's context, and gone on to the next word
(R121, R147). -/
def Opens (s t : State) (n : Fin 128) (op : Nat) (x y : Int) : Prop :=
  (∃ o, (t.lane1 n).x.step = some o ∧ o.mode = op ∧ o.x = x ∧ o.y = y ∧ o.word = s.pc (.chan n) ∧ o.q = 0 ∧ o.e = 0)
    ∧ t.fget (F.CH_MODE_MODE n) = op ∧ t.flag (F.CH_PSTAT_STEP n) = true ∧ t.pc (.chan n) = (s.pc (.chan n) + 1) % 65536
    ∧ ((s.lane1 n).k.eis = none → ∀ i, t.g (.chan n) i = s.g (.chan n) i) ∧ t.mem = s.mem

/-- R349, R350, R363, R364: none of the refusals every command shares applies to a command of this right. -/
def State.mayGive (s : State) (x : Sess) (r : Right) : Prop :=
  s.flag F.HL_STAT_RECOV = false ∧ s.allowed x r = true ∧ s.serving = true

/-- Configuration: registers whose fields are RW or RWL (in some instances RO) in the field tables (R5, R7) and that no rule
of the block itself changes. -/
def Reg.isConf : Reg → Bool
  | .CK_GATE _ => true
  | .EV_MASK _ => true
  | .SQ_RCFG _ => true
  | .SQ_RDEP _ => true
  | .SQ_RTIM _ => true
  | .FD_ILIM _ => true
  | .FD_RSH _ => true
  | .HU_OCV _ => true
  | .LG_EFF _ _ => true
  | .AX_CFG _ => true
  | .AX_VNOM _ => true
  | .AX_MARG _ => true
  | .AX_ILIM _ => true
  | .AX_GAIN _ => true
  | .AX_PWM _ => true
  | .AL_CFG _ => true
  | .AL_INGAIN _ => true
  | .AL_INOFF _ => true
  | .AL_SP _ => true
  | .AL_SPSRC _ => true
  | .AL_SPGAIN _ => true
  | .AL_SPOFF _ => true
  | .AL_OUT _ => true
  | .AL_MAN _ => true
  | .AL_AT _ => true
  | .AL_ATHYS _ => true
  | .TW_CFG _ => true
  | .TW_TIM _ => true
  | .HL_IP4 _ => true
  | .HL_GW4 _ => true
  | .HL_PLEN _ => true
  | .HL_IP6 _ _ => true
  | .HL_SALLOT _ => true
  | .HL_DCFG _ => true
  | .HL_DADDR _ _ => true
  | .VT_CTRIG _ => true
  | .CS_SG _ => true
  | .CS_BARM _ _ => true
  | .CH_PWM _ => true
  | .CH_SOFT _ => true
  | .CH_SLEW _ => true
  | .CH_LIM_V _ => true
  | .CH_LIM_I _ => true
  | .CH_LIM_T _ => true
  | .CH_FUSE _ => true
  | .CT_DELTA _ => true
  | .CT_EMAX _ => true
  | .CH_CHK _ => true
  | .CH_MEAS _ => true
  | .CH_SHUNT _ => true
  | .CH_NTC _ => true
  | .CH_IKP _ => true
  | .CH_IKI _ => true
  | .CH_VKP _ => true
  | .CH_VKI _ => true
  | .CH_LCFG _ => true
  | .CH_OSW _ => true
  | .CH_DCCFG _ => true
  | .CH_G _ _ => true
  | .GL_BUSLIM => true
  | .CK_SRC => true
  | .CK_HOLD => true
  | .CK_COMPAT => true
  | .CK_CVOLT => true
  | .CK_PWM => true
  | .CK_SYNC => true
  | .EV_CTL => true
  | .SQ_CTL => true
  | .FD_QUAL => true
  | .FD_CMAX => true
  | .HU_INTM => true
  | .HU_CHG => true
  | .HU_VREG => true
  | .HU_ACC => true
  | .HU_TEMP => true
  | .HU_DLIM => true
  | .HU_RIDE => true
  | .HU_RSH => true
  | .HU_PRECFG => true
  | .HU_GG_RPACK => true
  | .LG_CTL => true
  | .LG_CAP_W => true
  | .LG_REGEN_W => true
  | .LG_CLASS_FLOOR => true
  | .LG_DEGRADE_PCT => true
  | .LG_DEGRADE_S => true
  | .LG_BASE_W => true
  | .LG_AXEFF => true
  | .TW0_POLL => true
  | .TW0_PKMASK => true
  | .HL_CFG => true
  | .BT_CTL => true
  | .TS_CTL => true
  | .LN_CFG => true
  | .LN_LIMIT => true
  | .LN_DWELL => true
  | .LN_REFV => true
  | .CS_BART => true
  | .CS_SHIN => true
  | _ => false

end Sys2Proof.Machine

namespace Sys2Proof

/-- The register groups (`Reg.group`) a command may change a register of: its own, those of the blocks it acts on, and 2 and 10
where an occurrence is routed (R336) or a record written (R406). A reset, a boot step or a rail whose loss resets the logic
may change them all. -/
def Instr.groups : Instr → List Nat
  | .lowWordRead _ | .safeClr | .shadowTableWrite _ _ | .calTableSave | .checkZeroPointDone _ | .checkLearnSettled _
  | .gangWrite _ _ | .barrierRelease _ | .barrierTimeout _ | .stepStoreWrite _ _ | .hostStart _ | .hostStop _
  | .rotnow | .huWdtKick | .compatRetry | .agingWake | .deepWake | .read32 _ _ | .readBlock _ _ _
  | .bulkWriteData _ _ _ _ | .bulkStatus _ _ | .programLoad _ _ _ _ _ | .imageCommit _ _ | .authPhase1 _ _
  | .subscribe _ _ | .ack _ _ _ | .wake _ | .keepalive _ _ | .eventFrameSend _ | .eventFrameResend _
  | .recordFrameResend | .spiRead _ | .spiWake | .rmNet _ | .rstat _ | .evlow _ | .tw1DeepAddress | .clearFaults _
  | .jtagUpdateIr _ | .proposeResend | .arpNdEchoReceive _ _ => []
  | .lockOpen | .lockClose _ | .lockExpiry | .shelfServiceEntry => [0]
  | .pwmDivWrite _ | .syncInEdge _ | .timeSet _ | .ppsSlewEnd | .ppsDisable => [1]
  | .railTableSave | .wdiEdge | .configRegionSave _ => [3]
  | .feedCurrentLimiting _ _ _ _ => [4]
  | .holdupPathArm | .holdupPreDone | .holdupPreTimeout | .packPresent | .huWdtConfirm | .gaugeRestore _
  | .holdupDischargeLimiting _ _ => [5]
  | .throttleReport => [6]
  | .auxEnable _ | .auxDisable _ | .auxPowerGood _ | .auxHiccupEnd _ _ | .autotuneStart _ => [7]
  | .ptr _ _ | .regRead _ | .twBusError _ | .twArbitrationLost _ | .tw1AddressRearm => [8]
  | .bulkOpen _ _ | .bulkRead _ _ _ | .bulkReadFrame _ | .authLockoutEnd | .keySetDevice _ _ | .keySetOwner _ _
  | .nzoffWrite | .rateControlFrame _ _ | .recordFrameSend | .streamFrameSend _ _ _ | .spiStatus _ => [9]
  | .vaultRecordWrite | .cellarCaptureClose | .cellarSlotRelease _ | .vaultClear | .vaultClearDone => [10]
  | .calCopy | .calSwap | .calCopyDone | .shelfStop | .adoptEnable _ | .lbistSlice _ | .spareAcquired
  | .spareRotation | .agingSleep => [12]
  | .switchingCycleStart _ _ | .parkedSwitchOpen _ | .modulatorOverload _ _ _ | .metrologySample _ _ | .agingSample
  | .regressionPost _ | .phaseShed _ | .checkPrebiasReached _ | .checkSwitchSettled _ | .checkPass _
  | .restSwitchOpen _ | .faultClear _ _ | .gapHold _ | .dcirCapture _ | .progWrite _ _ | .counterWrite _ _ _
  | .dvdtWindowResult _ | .agingBurst => [16]
  | .modeRequest _ => [0, 1]
  | .feedErrorAlarm | .atticQueueDrain | .imageStage _ _ | .cellarHostTrigger | .cellarSlotWritten => [2, 10]
  | .railFaultClear _ _ => [3, 7]
  | .chargerTick => [5, 7]
  | .rmCap _ _ => [6, 8]
  | .waitTimedExpiry _ | .eisLockinDone _ | .shelfStart | .lanternSlotStart _ | .lanternConnect | .lanternCommit
  | .spareTakeover => [12, 16]
  | .supervisorRestartKey _ | .supervisorWatchdog _ | .supervisorException | .responseQueued _ => [0, 2, 10]
  | .syncLost | .clockJudgeWindow _ _ | .clockJudgeDeadline _ | .trimMeasurement _ | .ppsEdge _ | .ppsLost
  | .holdoverLimit => [1, 2, 10]
  | .vinEnterWindow _ _ | .vinLeaveWindow _ _ _ | .feedQualified _ | .feedCheckDone _ _ _ _ | .feedRampTimeout _
  | .feedFaultTimer _ | .reverseTrip _ _ _ | .turnoffConfirmed _ _ _ | .turnoffTimeout _ | .feedLockoutEnd _
  | .feedFaultClear _ _ | .feedDisable _ | .feedSelectWrite _ | .pathCurrentLoss _ _ => [2, 4, 10]
  | .holdupConduct | .holdupReverse _ _ | .chargerTaperDone | .chargerSafetyTimeout | .huWdtExpiry | .gaugeMinute
  | .gaugeNoref => [2, 5, 10]
  | .rmCapStale => [2, 6, 10]
  | .auxCheck _ _ | .auxSoftstartDone _ | .auxOv _ _ _ | .auxUv _ | .auxOc _ | .loopPeriod _ _ | .setpointLost _
  | .autotuneAbort _ | .autotuneTimeout _ => [2, 7, 10]
  | .twTimeout _ _ | .hostNotify _ | .notifyRetry _ => [2, 8, 10]
  | .authPhase2 _ _ | .rateSwitch | .rateSwitchDone | .rateSwitchTimeout | .rateRepropose | .decimationEvaluation
  | .linkChange _ _ | .portConfigWrite _ _ => [2, 9, 10]
  | .sramSlice _ | .mramWriteTest _ => [2, 10, 11]
  | .adoptActive | .adoptRelease | .fullLbistDone _ | .retgo _ => [2, 10, 12]
  | .stopEnd _ | .deltaSample _ _ _ | .checkShortTest _ | .checkPrebiasTimeout _ | .checkRpathLearned _
  | .softStartFault _ | .busLimitTrip | .ocTrip _ _ _ _ | .ovTrip _ _ _ _ | .uvTrip _ | .fuseTrip _ | .contactBreak _
  | .stageFault _ _ _ | .fltLPulse _ _ _ | .ctEstimateClose _ | .wearBinMinute _ | .driftSecond _ | .degradeExpiry _
  => [2, 10, 16]
  | .compatStepTimeout => [0, 1, 2, 10]
  | .feedOn _ _ _ => [0, 2, 4, 10]
  | .close _ | .sessionTimeout _ => [0, 2, 9, 10]
  | .cardReturn _ _ => [0, 2, 10, 16]
  | .atticWakeRetry => [2, 3, 7, 10]
  | .auxChargerOv _ => [2, 5, 7, 10]
  | .tw0Poll _ => [2, 5, 8, 10]
  | .channelSlot _ _ | .cc _ _ _ _ _ | .cv _ _ _ _ _ | .ccv _ _ _ _ _ | .cp _ _ _ _ _ | .cr _ _ _ _ _
  | .pulse _ _ _ _ _ | .eis _ _ _ _ _ | .rest _ _ _ _ _ | .hold _ _ _ _ _ | .limv _ _ _ _ _ | .limi _ _ _ _ _
  | .limt _ _ _ _ _ | .disarm _ _ _ _ _ | .armt _ _ _ _ _ | .armv _ _ _ _ _ | .armi _ _ _ _ _ | .armtap _ _ _ _ _
  | .armq _ _ _ _ _ | .arme _ _ _ _ _ | .armdv _ _ _ _ _ | .armtc _ _ _ _ _ | .wait _ _ _ _ _ | .ldi _ _ _ _ _ _
  | .mov _ _ _ _ _ | .getm _ _ _ _ _ | .putp _ _ _ _ _ | .add _ _ _ _ _ | .sub _ _ _ _ _ | .mulsh _ _ _ _ _
  | .cmp _ _ _ _ _ | .br _ _ _ _ _ | .loop _ _ _ _ _ | .call _ _ _ _ _ | .ret _ _ _ _ _ | .nop _ _ _ _ _
  | .stop _ _ _ _ _ | .capdc _ _ _ _ _ | .eisrun _ _ _ _ _ | .emit _ _ _ _ _ | .bar _ _ _ _ _ | .prio _ _ _ _ _
  | .sig _ _ _ _ _ | .swappt _ _ _ _ _ | .lanternResult | .agingArmWake => [2, 10, 12, 16]
  | .compatVoutPoll _ => [0, 1, 2, 3, 10]
  | .modeEntry => [0, 1, 8, 12, 16]
  | .meterUpdate _ => [0, 2, 4, 5, 10]
  | .holdupUvcut | .dischargeLimitExpiry | .rideTimerExpiry | .haltVoltage | .huCtlHalt | .packMissing | .packShorted
  => [0, 2, 5, 10, 12]
  | .agingBurstEnd | .cardLoss _ _ => [0, 2, 10, 12, 16]
  | .supervisorRestartDone _ _ => [0, 2, 3, 5, 9, 10]
  | .pwmLoopbackFail _ _ _ => [2, 5, 7, 10, 11, 16]
  | .safeReq | .haltComplete => [0, 2, 3, 5, 7, 10, 12, 16]
  | .busCapMeasured => [0, 2, 3, 4, 5, 7, 10, 12, 16]
  | .housekeepingRound _ => [0, 2, 3, 5, 7, 10, 11, 12, 16]
  | .xhfLoss _ | .agingExitComplete => [0, 1, 2, 3, 5, 7, 9, 10, 12, 16]
  | .deepWakeComplete => [0, 1, 2, 3, 5, 7, 8, 9, 10, 12, 16]
  | .controlPeriodBoundary _ _ _ => [0, 1, 2, 3, 4, 5, 6, 7, 9, 10, 12, 16]
  | .registerWrite _ _ | .powerOnReset _ _ | .vbiasLoss | .resetLPulse _ | .bootComplete _ | .railUpRequest
  | .railDownRequest | .srst | .railScan _ _ | .railRampTimeout _ | .railSettled _ | .railRetryEnd _
  | .railDownTimeout _ | .pendingUpStart | .sqRoffWrite _ | .wdiExpiry | .aslpFrameReceive _ _ _ _ | .write32 _ _ _
  | .writeBlock _ _ _ | .spiWrite _ | .regWrite _ _ => List.range 17

/-- The commands that may change a byte of the memory windows (R13): host writes and loads, table operations, records and
snapshots, and what can enter SHELF SAFE, which freezes a snapshot (R409), or reset the block. -/
def Instr.mayStore : Instr → Bool
  | .registerWrite _ _ | .safeReq | .controlPeriodBoundary _ _ _ | .housekeepingRound _ | .calCopyDone
  | .shadowTableWrite _ _ | .stepStoreWrite _ _ | .lanternCommit | .busCapMeasured | .haltComplete
  | .powerOnReset _ _ | .vbiasLoss | .resetLPulse _ | .bootComplete _ | .railUpRequest | .railDownRequest | .srst
  | .railScan _ _ | .railRampTimeout _ | .railSettled _ | .railRetryEnd _ | .railDownTimeout _ | .pendingUpStart
  | .sqRoffWrite _ | .wdiExpiry | .xhfLoss _ | .agingExitComplete | .deepWakeComplete | .aslpFrameReceive _ _ _ _
  | .write32 _ _ _ | .writeBlock _ _ _ | .programLoad _ _ _ _ _ | .spiWrite _ | .regWrite _ _ | .vaultRecordWrite
  | .cellarCaptureClose | .cellarSlotWritten | .vaultClearDone => true
  | _ => false

/-- The commands that may change a configuration register: the host's writes, in whatever frame they come, and resets, boots and
rails, which restore or load them. -/
def Instr.mayConfigure : Instr → Bool
  | .registerWrite _ _ | .pwmDivWrite _ | .powerOnReset _ _ | .vbiasLoss | .resetLPulse _ | .bootComplete _
  | .railUpRequest | .railDownRequest | .srst | .railScan _ _ | .railRampTimeout _ | .railSettled _ | .railRetryEnd _
  | .railDownTimeout _ | .pendingUpStart | .sqRoffWrite _ | .wdiExpiry | .aslpFrameReceive _ _ _ _ | .write32 _ _ _
  | .writeBlock _ _ _ | .portConfigWrite _ _ | .spiWrite _ | .regWrite _ _ => true
  | _ => false

/-- The commands that may change what a channel lane holds beside its registers. -/
def Instr.movesLanes : Instr → Bool
  | .registerWrite _ _ | .safeReq | .controlPeriodBoundary _ _ _ | .channelSlot _ _ | .switchingCycleStart _ _
  | .parkedSwitchOpen _ | .stopEnd _ | .modulatorOverload _ _ _ | .metrologySample _ _ | .agingSample
  | .regressionPost _ | .deltaSample _ _ _ | .housekeepingRound _ | .phaseShed _ | .checkShortTest _
  | .checkPrebiasReached _ | .checkPrebiasTimeout _ | .checkSwitchSettled _ | .checkZeroPointDone _
  | .checkLearnSettled _ | .checkRpathLearned _ | .checkPass _ | .restSwitchOpen _ | .softStartFault _
  | .busLimitTrip | .gangWrite _ _ | .ocTrip _ _ _ _ | .ovTrip _ _ _ _ | .uvTrip _ | .fuseTrip _ | .contactBreak _
  | .stageFault _ _ _ | .fltLPulse _ _ _ | .ctEstimateClose _ | .wearBinMinute _ | .driftSecond _ | .cc _ _ _ _ _
  | .cv _ _ _ _ _ | .ccv _ _ _ _ _ | .cp _ _ _ _ _ | .cr _ _ _ _ _ | .pulse _ _ _ _ _ | .eis _ _ _ _ _
  | .rest _ _ _ _ _ | .hold _ _ _ _ _ | .gapHold _ | .limv _ _ _ _ _ | .limi _ _ _ _ _ | .limt _ _ _ _ _
  | .disarm _ _ _ _ _ | .armt _ _ _ _ _ | .armv _ _ _ _ _ | .armi _ _ _ _ _ | .armtap _ _ _ _ _ | .armq _ _ _ _ _
  | .arme _ _ _ _ _ | .armdv _ _ _ _ _ | .armtc _ _ _ _ _ | .wait _ _ _ _ _ | .waitTimedExpiry _ | .ldi _ _ _ _ _ _
  | .mov _ _ _ _ _ | .getm _ _ _ _ _ | .putp _ _ _ _ _ | .add _ _ _ _ _ | .sub _ _ _ _ _ | .mulsh _ _ _ _ _
  | .cmp _ _ _ _ _ | .br _ _ _ _ _ | .loop _ _ _ _ _ | .call _ _ _ _ _ | .ret _ _ _ _ _ | .nop _ _ _ _ _
  | .stop _ _ _ _ _ | .capdc _ _ _ _ _ | .dcirCapture _ | .eisrun _ _ _ _ _ | .eisLockinDone _ | .emit _ _ _ _ _
  | .bar _ _ _ _ _ | .prio _ _ _ _ _ | .sig _ _ _ _ _ | .swappt _ _ _ _ _ | .hostStart _ | .hostStop _ | .shelfStart
  | .counterWrite _ _ _ | .dvdtWindowResult _ | .lanternSlotStart _ | .lanternConnect | .lanternResult
  | .lanternCommit | .degradeExpiry _ | .busCapMeasured | .holdupUvcut | .dischargeLimitExpiry | .rideTimerExpiry
  | .haltVoltage | .huCtlHalt | .haltComplete | .packMissing | .packShorted | .powerOnReset _ _ | .vbiasLoss
  | .resetLPulse _ | .bootComplete _ | .railUpRequest | .railDownRequest | .srst | .railScan _ _ | .railRampTimeout _
  | .railSettled _ | .railRetryEnd _ | .railDownTimeout _ | .pendingUpStart | .sqRoffWrite _ | .wdiExpiry
  | .xhfLoss _ | .modeEntry | .agingBurst | .agingBurstEnd | .agingArmWake | .agingExitComplete | .deepWakeComplete
  | .aslpFrameReceive _ _ _ _ | .write32 _ _ _ | .writeBlock _ _ _ | .ack _ _ _ | .recordFrameSend | .spiWrite _
  | .regWrite _ _ | .pwmLoopbackFail _ _ _ | .supervisorRestartKey _ | .supervisorWatchdog _ | .supervisorException
  | .supervisorRestartDone _ _ | .cardLoss _ _ | .responseQueued _ => true
  | _ => false

end Sys2Proof
end

