-- ==== Sys2Proof/Certificates/Slice0/Obligations.lean ====
section
/-! DEFINITION. The statements about this block that the provers are asked for: what a step does, what every command keeps, and
for each family of commands what it does and where it completes. A clause `Only s t rs` says that no register but those of `rs`
differs between `s` and `t`; `OnlyEv` allows the event registers and queues as well. -/

open Sys2Proof Sys2Proof.Machine

/-- R4, R13 (Step.lean; notes/assumptions/14.md for the empty queue): a step takes the command at the front of the queue and executes
it on the state with the queue's rest; with nothing waiting the block idles. -/
def Obligations.StepRunsTheFrontCommand : Prop :=
  (∀ (c : Instr) (q : List Instr) (s : State), step { s with pending := c :: q } = exec c { s with pending := q })
  ∧ ∀ s : State, s.pending = [] → step s = .next s

/-- No command of the block ends a run: in every state each is answered by a next state. What a command does never touches the queue
of waiting commands: only `step` takes from it. -/
def Obligations.CommandsGoOnAndLeaveTheQueue : Prop :=
  (∀ (c : Instr) (s : State), ∃ t, exec c s = .next t)
  ∧ (∀ (c : Instr) (s t : State), exec c s = .next t → t.pending = s.pending)

/-- R4, R13: the canonical form of the registers (R5: no register listed at its reset value, one entry each), of the memory windows
and of the saved calibration table is kept by every step. -/
def Obligations.StepsKeepCanonicalForm : Prop :=
  ∀ s t : State, s.wf = true → step s = .next t → t.wf = true

/-- R5, R13, R17, R20, R324: the machine right after a power-on reset. Every register stands at its Reset column, no byte of the
windows is written, every channel is PARKED, the shelf is in START and the mode is RUN. -/
def Obligations.ResetState : Prop :=
  State.reset.wf = true ∧ (∀ r, State.reset.word r = r.rst) ∧ (∀ a, State.reset.byte a = 0)
  ∧ (∀ n, State.reset.chState n = stPARKED) ∧ State.reset.shelf = shSTART ∧ State.reset.pmode = mdRUN
  ∧ State.reset.pending = []

/-- R4, R13: the address map and its decoder agree. An address decodes to a register exactly when it is that register's own (but for
the clash of notes/assumptions/8.md): no two registers share an address, and an address no register has decodes to none. -/
def Obligations.AddressMapIsOneToOne : Prop :=
  ∀ (a : Nat) (r : Reg), Reg.ofAddr a = some r ↔ a = r.addr ∧ r ≠ .BT_PWMF 8

/-- R5, R6, R7: what a host write leaves in a register with no relation between its fields. A read-only or write-only field keeps its
value; a W1C field loses the bits written 1; a RW field takes an encoding its table allows and keeps its value on a reserved one;
a RWL field does so only while the lock is open. Bits no field covers, every other register, the windows and the channels stay.
R6, R7: the status a host write carries: the reserved-value status if a field it can set was given a reserved encoding, else the
locked status if the word has a RWL field and the lock is closed, else OK. -/
def Obligations.HostWritesByFieldType : Prop :=
  (∀ (s : State) (r : Reg) (val : Word), r.relations = [] →
    (∀ f ∈ r.fields,
      bitsOf ((s.writeReg r val).word r) f.lo f.len =
        match f.ty with
        | .ro => bitsOf (s.word r) f.lo f.len
        | .wo => bitsOf (s.word r) f.lo f.len
        | .w1c => bitsOf (s.word r &&& ~~~ val) f.lo f.len
        | .rwl => if s.flag F.GL_LOCK_OPEN ∧ f.chk.ok (bitsOf val f.lo f.len) then bitsOf val f.lo f.len
            else bitsOf (s.word r) f.lo f.len
        | _ => if f.chk.ok (bitsOf val f.lo f.len) then bitsOf val f.lo f.len else bitsOf (s.word r) f.lo f.len)
    ∧ (∀ k < 32, (∀ f ∈ r.fields, k < f.lo ∨ f.lo + f.len ≤ k) →
        ((s.writeReg r val).word r).getLsbD k = (s.word r).getLsbD k)
    ∧ (∀ q, q ≠ r → (s.writeReg r val).word q = s.word q)
    ∧ (s.writeReg r val).mem = s.mem ∧ (s.writeReg r val).ch = s.ch)
  ∧ (∀ (s : State) (r : Reg) (val : Word), r.relations = [] →
    (s.writeReg r val).status =
      if (r.fields.any fun f => f.ty.writes && !f.chk.ok (bitsOf val f.lo f.len)) = true then stReserved
      else if s.flag F.GL_LOCK_OPEN = false ∧ (r.fields.any fun f => f.ty == FTy.rwl) = true then stLocked
      else stOk)

/-- R4, R51, R130, R413: REGISTER_WRITE finds what occupies its address: a register takes the write by its own rule; a word of the
step store and of the shadow table is stored as the rules of those windows say; a read-only window takes nothing; and an address
that is no multiple of 4 or that nothing occupies answers ADDRESS and changes nothing. -/
def Obligations.RegisterWriteByPlace : Prop :=
  (∀ (s : State) (r : Reg) (val : Word), r ≠ .BT_PWMF 8 →
    exec (.registerWrite r.addr val) s = .next (s.regWrite none r val))
  ∧ (∀ (s : State) (a : Nat) (val : Word), a % 4 = 0 → 0x200000 ≤ a → a < 0x280000 →
    exec (.registerWrite a val) s = .next (s.storeWrite a [val]))
  ∧ (∀ (s : State) (a : Nat) (val : Word), a % 4 = 0 → 0x310000 ≤ a → a < 0x320000 →
    exec (.registerWrite a val) s = .next (s.shadowWrite a val))
  ∧ (∀ (s : State) (a : Nat) (val : Word), a % 4 = 0 → 0x400000 ≤ a → a < 0xE00000 →
    exec (.registerWrite a val) s = .next (s.answer stOk))
  ∧ (∀ (s : State) (a : Nat) (val : Word), a % 4 ≠ 0 ∨ 0xE00000 ≤ a → exec (.registerWrite a val) s = .next (s.answer stAddress))

/-- R4: the controller takes accesses of aligned 32-bit words alone. At an address that is not a multiple of 4, or that nothing
occupies, a read and a write change nothing, return no data and answer with the address error status; a read at the address of a
register answers its four bytes. -/
def Obligations.AccessErrorsChangeNothing : Prop :=
  (∀ (s : State) (a : Nat) (v : Word), a % 4 ≠ 0 ∨ occupied a = false →
    exec (.registerWrite a v) s = .next (s.answer stAddress) ∧ exec (.lowWordRead a) s = .next (s.answer stAddress)
    ∧ (s.answer stAddress).data = [] ∧ Only s (s.answer stAddress) [] ∧ (s.answer stAddress).mem = s.mem)
  ∧ (∀ a : Nat, a < 0x200000 → (occupied a = true ↔ a % 4 = 0 ∧ ∃ r, Reg.ofAddr a = some r))
  ∧ ∀ (s : State) (r : Reg), r ≠ .BT_PWMF 8 →
    ∃ t, exec (.lowWordRead r.addr) s = .next t ∧ t.status = stOk ∧ t.data = bytesOf (s.regRead r).1 ∧ t.data.length = 4

/-- R8: the high word of a pair lies at the next address. A read of the low word answers it and latches the high word; the next read
of the high word answers that copy, whatever the live high word has become, and uses it up; with no copy held it answers the live
high word. The writable pairs, the counters, keep their value when their low word is written and take both words when the high
word is. -/
def Obligations.LowWordReadLatchesHigh : Prop :=
  (∀ lo hi : Reg, lo.pairHigh = some hi → hi.addr = lo.addr + 4)
  ∧ (∀ (s : State) (lo hi : Reg), lo.pairHigh = some hi →
    ∃ t, exec (.lowWordRead lo.addr) s = .next t ∧ t.status = stOk ∧ t.data = bytesOf (s.readReg lo)
      ∧ regFind t.held64 hi = some (s.readReg hi) ∧ (∀ r, t.word r = s.word r) ∧ t.mem = s.mem
      ∧ ∀ (v : Word), ∃ u, exec (.lowWordRead hi.addr) (t.setWord hi v) = .next u ∧ u.data = bytesOf (s.readReg hi)
        ∧ regFind u.held64 hi = none)
  ∧ (∀ (s : State) (lo hi : Reg), lo.pairHigh = some hi → regFind s.held64 hi = none →
    ∃ t, exec (.lowWordRead hi.addr) s = .next t ∧ t.status = stOk ∧ t.data = bytesOf (s.readReg hi) ∧ ∀ r, t.word r = s.word r)
  ∧ ∀ (s : State) (lo hi : Reg) (v w : Word), (∃ n, lo = .CH_AH n ∨ lo = .CH_WH n) → lo.pairHigh = some hi →
    ∃ t u, exec (.registerWrite lo.addr v) s = .next t ∧ t.status = stOk ∧ (∀ r, t.word r = s.word r) ∧ t.mem = s.mem
      ∧ exec (.registerWrite hi.addr w) t = .next u ∧ u.status = stOk ∧ u.word lo = v ∧ u.word hi = w
      ∧ (∀ r, r ≠ lo → r ≠ hi → u.word r = s.word r) ∧ u.mem = s.mem

/-- Whole machine: no command changes a register outside the groups `Instr.groups` lists for it. -/
def Obligations.CommandsStayInTheirGroups : Prop :=
  ∀ (c : Instr) (s t : State) (r : Reg), exec c s = .next t → r.group ∉ c.groups → t.word r = s.word r

/-- Whole machine (R13): the commands that `Instr.mayStore` does not name change no byte of the memory windows. Whole machine: the
commands that `Instr.movesLanes` does not name leave every channel lane. -/
def Obligations.MemoryAndLanesMoveByTheirCommands : Prop :=
  (∀ (c : Instr) (s t : State), exec c s = .next t → c.mayStore = false → ∀ a, t.byte a = s.byte a)
  ∧ (∀ (c : Instr) (s t : State), exec c s = .next t → c.movesLanes = false → ∀ n, t.lane1 n = s.lane1 n)

/-- Whole machine (R5, R7): a configuration register is changed by the host's writes, and by the resets, boots and rails that restore
or load them: no other command changes one. -/
def Obligations.ConfigurationIsTheHosts : Prop :=
  ∀ (c : Instr) (s t : State) (r : Reg), exec c s = .next t → c.mayConfigure = false → r.isConf = true → t.word r = s.word r

/-- R14: LOCK_OPEN opens the write lock and starts its 60 s, on an open lock anew; LOCK_CLOSE closes it for every key but 0x4E5A,
which opens it or restarts the 60 s; LOCK_EXPIRY closes it 60 s after the last such write, not before; a soft reset, by RESET_L low
for 10 µs or by its key, a supervisor restart and the end of the session that opened it, by CLOSE or by its timeout, close it. -/
def Obligations.LockOpensAndCloses : Prop :=
  (∀ s : State, ∃ t, exec .lockOpen s = .next t ∧ t.flag F.GL_LOCK_OPEN = true ∧ t.lockAt = some s.time ∧ t.status = stOk
    ∧ Only s t [.GL_LOCK])
  ∧ (∀ (s : State) (key : BitVec 16), ∃ t, exec (.lockClose key) s = .next t ∧ t.status = stOk ∧ Only s t [.GL_LOCK]
    ∧ t.flag F.GL_LOCK_OPEN = decide (key = 0x4E5A#16) ∧ t.lockAt = if key = 0x4E5A#16 then some s.time else none)
  ∧ (∀ (s : State) (at_ : Nat), s.lockAt = some at_ → at_ + 60 * sec ≤ s.time →
    ∃ t, exec .lockExpiry s = .next t ∧ t.flag F.GL_LOCK_OPEN = false ∧ t.lockAt = none ∧ Only s t [.GL_LOCK])
  ∧ (∀ (s : State) (at_ : Nat), s.lockAt = some at_ → s.time < at_ + 60 * sec → exec .lockExpiry s = .next s)
  ∧ (∀ (s : State) (low : Nat), s.wf = true → s.boot.vbias = true → 10000 ≤ low →
    ∃ t u, exec (.resetLPulse low) s = .next t ∧ exec .srst s = .next u ∧ t.flag F.GL_LOCK_OPEN = false
      ∧ u.flag F.GL_LOCK_OPEN = false)
  ∧ (∀ s : State, s.flag F.GL_STATE_SUPV = false →
    ∃ t, exec (.supervisorRestartKey 0x5253) s = .next t ∧ t.flag F.GL_LOCK_OPEN = false)
  ∧ (∀ (s : State) (k : Fin 8), s.mayGive (.slot k) .own → s.lockBy = some (.slot k) →
    ∃ t, exec (.close (.slot k)) s = .next t ∧ t.flag F.GL_LOCK_OPEN = false)
  ∧ ∀ (s : State) (k : Fin 8), (s.link.sess[k]).opn = true → s.lockBy = some (.slot k) →
    (s.link.sess[k]).heard + s.fget F.HL_CFG_STMO * sec < s.time →
    ∃ t, exec (.sessionTimeout k) s = .next t ∧ t.flag F.GL_LOCK_OPEN = false

/-- R18, R21: SAFE_REQ on a shelf that is not in SAFE, in RUN or STANDBY. SHELF goes to SAFE with cause 0x01, the count of entries
rises, and every channel that is not ABSENT is PARKED. On a shelf in SAFE the cause is recorded (notes/assumptions/147.md) and keeps
the shelf there at the next boundary. R20, R22: SAFE_CLR leaves a request for the next boundary and changes no register. SHELF_SERVICE_ENTRY takes the shelf from START
to SERVICE once boot is complete, a feed is ON and a valid bus capacitance lies within FD_CMAX, and not before. -/
def Obligations.ShelfSafeAndService : Prop :=
  ((∀ s : State, s.pmode ≠ mdAGING → s.pmode ≠ mdDEEP → s.shelf ≠ shSAFE →
    ∃ t, exec .safeReq s = .next t ∧ t.shelf = shSAFE ∧ t.flag F.GL_SAFE_ACTIVE = true ∧ t.fget F.GL_SAFE_CAUSE = 1
      ∧ t.fget F.GL_SAFE_COUNT = min (s.fget F.GL_SAFE_COUNT + 1) 255 ∧ t.flag F.CS_SHSTAT_RUN = false ∧ t.clrReq = false
      ∧ t.mode.safeNew = true ∧ t.status = stOk
      ∧ ∀ n, t.chState n = if s.chState n = stABSENT then stABSENT else stPARKED)
  ∧ ∀ s : State, s.pmode ≠ mdAGING → s.pmode ≠ mdDEEP → s.shelf = shSAFE →
    ∃ t, exec .safeReq s = .next t ∧ t.fget F.GL_SAFE_CAUSE = 1 ∧ t.clrReq = false
      ∧ t.mode.safeNew = true ∧ Only s t [.GL_SAFE] ∧ t.ch = s.ch
      ∧ t.mem = s.mem)
  ∧ ((∀ s : State, ∃ t, exec .safeClr s = .next t ∧ t.clrReq = true ∧ t.status = stOk ∧ Only s t [] ∧ t.mem = s.mem ∧ t.ch = s.ch)
  ∧ (∀ s : State, s.shelf = shSTART → s.boot.done = true → s.maint.jtagIr ≠ 0 → s.feedOn = true →
      s.flag F.FD_CBUS_VALID = true → s.flag F.FD_CBUS_OVER = false →
      ∃ t, exec .shelfServiceEntry s = .next t ∧ t.shelf = shSERVICE ∧ Only s t [.GL_STATE] ∧ t.pmode = s.pmode)
  ∧ ∀ s : State, s.boot.done = false ∨ s.feedOn = false ∨ s.flag F.FD_CBUS_VALID = false →
      exec .shelfServiceEntry s = .next s)

/-- R6, R42, R43, R50, R51, R53: the calibration table's operations. COPY raises BUSY and SWAP waits for the boundary, and both are refused while
one is under way; when a copy ends, BUSY clears and every byte of the shadow equals the active table's; a write of an aligned word
of the shadow stores it there and nothing else, is refused while BUSY is set, and answers ADDRESS elsewhere. What it stores: a
GAIN as written; of the other word OFFSET, VALID and SRC, its reserved bits 0, VALID 0 in an entry of voltage range 3 and the old
SRC where the written one is reserved (notes/assumptions/158.md). A save copies the active
table to the saved one. -/
def Obligations.CalibrationTableOperations : Prop :=
  (∀ s : State, s.calBusy = false → ∃ t, exec .calCopy s = .next t ∧ t.flag F.LN_CALSTAT_BUSY = true ∧ t.status = stOk
    ∧ Only s t [.LN_CALSTAT] ∧ t.mem = s.mem)
  ∧ (∀ s : State, s.calBusy = false → ∃ t, exec .calSwap s = .next t ∧ t.flag F.LN_CALSTAT_SWPEND = true ∧ t.status = stOk
    ∧ Only s t [.LN_CALSTAT] ∧ t.mem = s.mem)
  ∧ (∀ s : State, s.calBusy = true → exec .calCopy s = .next (s.answer stBusy) ∧ exec .calSwap s = .next (s.answer stBusy))
  ∧ (∀ s : State, s.flag F.LN_CALSTAT_BUSY = true → s.lane.copyAt ≤ s.ctr →
    ∃ t, exec .calCopyDone s = .next t ∧ t.flag F.LN_CALSTAT_BUSY = false ∧ Only s t [.LN_CALSTAT]
      ∧ (∀ i < 0x10000, t.byte (calShadow + i) = s.byte (calActive + i))
      ∧ ∀ a, a < calShadow ∨ calShadow + 0x10000 ≤ a → t.byte a = s.byte a)
  ∧ (∀ (s : State) (a : Nat) (v : Word), s.wf = true → a % 4 = 0 → calShadow ≤ a → a < calShadow + 0x10000 →
    s.flag F.LN_CALSTAT_BUSY = false →
    ∃ t, exec (.shadowTableWrite a v) s = .next t ∧ t.memWord a = (shadowWord (a - calShadow) (s.memWord a) v).1
      ∧ t.status = (shadowWord (a - calShadow) (s.memWord a) v).2 ∧ Only s t [] ∧ ∀ b, b < a ∨ a + 4 ≤ b → t.byte b = s.byte b)
  ∧ (∀ (off : Nat) (old v : Word), off % 8 = 0 → shadowWord off old v = (v, stOk))
  ∧ (∀ (off : Nat) (old v : Word), off % 8 ≠ 0 → bitsOf v 25 2 ≠ 3 → off / 0x100 % 2 ≠ 0 ∨ off / 0x40 % 4 ≠ 3 →
    shadowWord off old v = (v &&& 0x07FFFFFF#32, stOk))
  ∧ (∀ (off : Nat) (old v : Word), off % 8 ≠ 0 → bitsOf v 25 2 = 3 →
    bitsOf (shadowWord off old v).1 0 24 = bitsOf v 0 24 ∧ bitsOf (shadowWord off old v).1 25 7 = bitsOf old 25 2
      ∧ (shadowWord off old v).2 = stReserved)
  ∧ (∀ (off : Nat) (old v : Word), off % 8 ≠ 0 → off / 0x100 % 2 = 0 → off / 0x40 % 4 = 3 →
    bitsOf (shadowWord off old v).1 24 1 = 0)
  ∧ (∀ (s : State) (a : Nat) (v : Word), a % 4 = 0 → calShadow ≤ a → a < calShadow + 0x10000 →
    s.flag F.LN_CALSTAT_BUSY = true → exec (.shadowTableWrite a v) s = .next (s.answer stBusy))
  ∧ (∀ (s : State) (a : Nat) (v : Word), a % 4 ≠ 0 ∨ a < calShadow ∨ calShadow + 0x10000 ≤ a →
    exec (.shadowTableWrite a v) s = .next (s.answer stAddress))
  ∧ ∀ (s : State) (d : Nat), s.nv.calDue = some d → d ≤ s.ctr →
    ∃ t, exec .calTableSave s = .next t ∧ t.nv.calDue = none ∧ t.nv.calLast = s.ctr ∧ Only s t [] ∧ t.mem = s.mem
      ∧ ∀ i < 0x10000, memRead t.nv.calSaved i = s.byte (calActive + i)

/-- R113: FAULT_CLEAR. A written bit clears unless its condition is still there, every other bit of the mask stays; FIRST returns to 0
when no bit is left; and the status is LOCKED when a latched bit that was written stays, else OK. R466, R16, R18: a detector that
fires sets its overload bit in CH_MSTAT and nothing else in the registers; the lane's own keep the instant, and are those of the
adopted channel as well; the switch of an idle channel opens when |I| is below
50 mA or its 500 µs are over; a channel in STOP parks when |I| is below 50 mA, its phases at mid, with nothing changed outside the
channel blocks and the occurrences. -/
def Obligations.FaultsClearAndOutputsLetGo : Prop :=
  (∀ (s : State) (n : Fin 128) (v : Word), ∃ t, exec (.faultClear n v) s = .next t ∧ t.mem = s.mem ∧ t.ch = s.ch
    ∧ (∀ k < 16, k ≠ 13 → k ≠ 15 → (t.word (.CH_FAULT n)).getLsbD k =
        ((s.word (.CH_FAULT n)).getLsbD k && !(v.getLsbD k && !s.faultBlocked n k)))
    ∧ t.fget (F.CH_FAULT_FIRST n) =
        (if t.word (.CH_FAULT n) &&& faultMask = 0 then 0 else s.fget (F.CH_FAULT_FIRST n))
    ∧ t.status = (if s.word (.CH_FAULT n) &&& t.word (.CH_FAULT n) &&& faultMask &&& v = 0 then stOk else stLocked)
    ∧ ∀ r, r ≠ .CH_FAULT n → r ≠ .CH_FAULT (s.leader n) → t.word r = s.word r)
  ∧ ((∀ (n : Fin 128) (s : State) (v i : Bool), ∃ t, exec (.modulatorOverload (some n) v i) s = .next t
    ∧ t.flag (F.CH_MSTAT_VOVR n) = (v || s.flag (F.CH_MSTAT_VOVR n)) ∧ t.flag (F.CH_MSTAT_IOVR n) = (i || s.flag (F.CH_MSTAT_IOVR n))
    ∧ (t.lane1 n).m.vovrAt = (if v then some s.ctr else (s.lane1 n).m.vovrAt)
    ∧ Only s t [.CH_MSTAT n] ∧ t.mem = s.mem ∧ ∀ m, m ≠ n → t.lane1 m = s.lane1 m)
  ∧ (∀ (s : State) (v i : Bool), ∃ t, exec (.modulatorOverload none v i) s = .next t
    ∧ t.lane.vovrAt = (if v then some s.ctr else s.lane.vovrAt) ∧ t.lane.iovrAt = (if i then some s.ctr else s.lane.iovrAt)
    ∧ (∀ n : Fin 128, t.flag (F.CH_MSTAT_VOVR n) = ((v && s.adopted n) || s.flag (F.CH_MSTAT_VOVR n))
      ∧ t.flag (F.CH_MSTAT_IOVR n) = ((i && s.adopted n) || s.flag (F.CH_MSTAT_IOVR n)))
    ∧ t.mem = s.mem ∧ ∀ r, (∀ n, r ≠ .CH_MSTAT n) → t.word r = s.word r)
  ∧ (∀ (n : Fin 128) (s : State) (due : Nat), (s.lane1 n).l.openBy = some due → s.idle n = true →
    (s.lowCurrent n = true ∨ due ≤ s.time) →
    ∃ t, exec (.parkedSwitchOpen n) s = .next t ∧ t.flag (F.CH_STATE_OSWC n) = false ∧ t.chState n = s.chState n
      ∧ Only s t [.CH_STATE n] ∧ t.mem = s.mem ∧ ∀ m, m ≠ n → t.lane1 m = s.lane1 m)
  ∧ ∀ (n : Fin 128) (s : State), s.chState n = stSTOP → (s.curr n).natAbs < 50000 →
    ∃ t, exec (.stopEnd n) s = .next t ∧ t.chState n = stPARKED ∧ (t.lane1 n).l.phA = .mid ∧ (t.lane1 n).l.phB = .mid
      ∧ t.flag (F.CH_STATE_SS n) = false ∧ t.word (.CH_MODE n) = 0 ∧ t.mem = s.mem
      ∧ ∀ r, r.group ≠ 2 → r.group ≠ 10 → r.group ≠ 16 → t.word r = s.word r)

/-- R130, R131: STEP_STORE_WRITE stores its words, little-endian, at a word address of the store, and nothing else; a write that takes
in a word of a protected region changes nothing and answers BUSY; one off the word grid or past the store answers ADDRESS. A word
inside the region of a RUN or STOP channel, in its bank in force, is protected; with no such channel and no running shelf program
none is. R132, R140: PROG_WRITE. On a PARKED channel BASE, LEN and BANK take the written values; on any other channel a write that
would move BASE or LEN changes nothing and answers BUSY, and one that keeps them writes BANK. ACT and SWPEND are not the write's. -/
def Obligations.StoreAndProgramWrites : Prop :=
  ((∀ (s : State) (a : Nat) (vals : List Word), s.wf = true → a % 4 = 0 → storeBase ≤ a → a + 4 * vals.length ≤ storeEnd →
    (∀ k < vals.length, s.storeLocked (a + 4 * k) = false) →
    ∃ t, exec (.stepStoreWrite a vals) s = .next t ∧ t.status = stOk ∧ Only s t []
      ∧ (∀ k (h : k < vals.length), t.memWord (a + 4 * k) = vals[k])
      ∧ ∀ b, b < a ∨ a + 4 * vals.length ≤ b → t.byte b = s.byte b)
  ∧ (∀ (s : State) (a k : Nat) (vals : List Word), a % 4 = 0 → storeBase ≤ a → a + 4 * vals.length ≤ storeEnd →
    k < vals.length → s.storeLocked (a + 4 * k) = true → exec (.stepStoreWrite a vals) s = .next (s.answer stBusy))
  ∧ (∀ (s : State) (a : Nat) (vals : List Word), a % 4 ≠ 0 ∨ a < storeBase ∨ storeEnd < a + 4 * vals.length →
    exec (.stepStoreWrite a vals) s = .next (s.answer stAddress))
  ∧ (∀ (s : State) (n : Fin 128) (a : Nat), s.chState n = stRUN ∨ s.chState n = stSTOP →
    (a - storeBase) / 0x40000 = s.fget (F.CH_PROG_ACT n) →
    s.fget (F.CH_PROG_BASE n) ≤ (a - storeBase) % 0x40000 / 4 →
    (a - storeBase) % 0x40000 / 4 < s.fget (F.CH_PROG_BASE n) + s.fget (F.CH_PROG_LEN n) * 16 → s.storeLocked a = true)
  ∧ ∀ (s : State) (a : Nat), (∀ n, s.chState n ≠ stRUN ∧ s.chState n ≠ stSTOP) → s.flag F.CS_SHSTAT_RUN = false →
    s.storeLocked a = false)
  ∧ ((∀ (s : State) (n : Fin 128) (v : Word), s.chState n = stPARKED → bitsOf v 0 16 + bitsOf v 16 12 * 16 ≤ 65536 →
    ∃ t, exec (.progWrite n v) s = .next t ∧ t.status = stOk ∧ t.fget (F.CH_PROG_BASE n) = bitsOf v 0 16
      ∧ t.fget (F.CH_PROG_LEN n) = bitsOf v 16 12 ∧ t.fget (F.CH_PROG_BANK n) = bitsOf v 28 1
      ∧ t.fget (F.CH_PROG_ACT n) = s.fget (F.CH_PROG_ACT n) ∧ t.fget (F.CH_PROG_SWPEND n) = s.fget (F.CH_PROG_SWPEND n)
      ∧ Only s t [.CH_PROG n] ∧ t.mem = s.mem ∧ t.ch = s.ch)
  ∧ (∀ (s : State) (n : Fin 128) (v : Word), s.chState n ≠ stPARKED → bitsOf v 0 28 ≠ bitsOf (s.word (.CH_PROG n)) 0 28 →
    exec (.progWrite n v) s = .next (s.answer stBusy))
  ∧ ∀ (s : State) (n : Fin 128) (v : Word), bitsOf v 0 28 = bitsOf (s.word (.CH_PROG n)) 0 28 →
    bitsOf v 0 16 + bitsOf v 16 12 * 16 ≤ 65536 →
    ∃ t, exec (.progWrite n v) s = .next t ∧ t.status = stOk ∧ t.fget (F.CH_PROG_BANK n) = bitsOf v 28 1
      ∧ t.fget (F.CH_PROG_BASE n) = s.fget (F.CH_PROG_BASE n) ∧ t.fget (F.CH_PROG_LEN n) = s.fget (F.CH_PROG_LEN n)
      ∧ Only s t [.CH_PROG n] ∧ t.mem = s.mem ∧ t.ch = s.ch)

/-- R133, R134, R136, R141: what START and STOP answer at once. HOST_START leaves a request for the boundary, or answers BUSY on a
channel that is not PARKED or is a member and RESERVED on an empty region; HOST_STOP on a RUN or BRIDGE channel leaves a stop request
for its slot, and on a PARKED one takes a waiting start back; SHELF_START with a spare sets the shelf program running at BASE in the
written bank with flags, call stack and PFLT cleared, and answers BUSY while it runs or with no spare; SHELF_STOP stops it. R11, R119,
R124, R126, R151, R221, R313: the slot. A timed WAIT ends at its time; a gap of a channel in RUN that has lasted two periods turns to
HOLD, CH_PSTAT.GAP set, unless its last step rested or held; a complete degrade count, where neither a stop nor an arm of a lower code closes
the step, closes it with TERM 11 if that arm is armed, and otherwise raises event 2n + 1 once. CHANNEL_SLOT runs a channel's slot
once in a period, those before it in its group first, and the shelf context's; a slot of a channel that is not in RUN or BRIDGE
executes no word: the loop computation, the step's scale and the report to the ledger alone; while the clusters do not run it does
nothing; and the cluster clock level sets how many words a slot may execute. -/
def Obligations.StartsStopsAndSlotRules : Prop :=
  ((∀ (s : State) (n : Fin 128), s.chState n = stPARKED → s.flag (F.CH_GANG_MEMBER n) = false →
    s.fget (F.CH_PROG_LEN n) ≠ 0 → s.adoptWaits n = false → s.flag F.GL_MODE_REFUSED = false → s.divPending = false →
    ∃ t, exec (.hostStart n) s = .next t ∧ t.status = stOk ∧ (t.lane1 n).x.startPend = true ∧ Only s t [] ∧ t.mem = s.mem
      ∧ ∀ m, m ≠ n → t.lane1 m = s.lane1 m)
  ∧ (∀ (s : State) (n : Fin 128), s.chState n ≠ stPARKED ∨ s.flag (F.CH_GANG_MEMBER n) = true →
    exec (.hostStart n) s = .next (s.answer stBusy))
  ∧ (∀ (s : State) (n : Fin 128), s.chState n = stPARKED → s.flag (F.CH_GANG_MEMBER n) = false → s.fget (F.CH_PROG_LEN n) = 0 →
    exec (.hostStart n) s = .next (s.answer stReserved))
  ∧ (∀ (s : State) (n : Fin 128), s.chState n = stRUN ∨ s.chState n = stBRIDGE →
    ∃ t, exec (.hostStop n) s = .next t ∧ t.status = stOk ∧ (t.lane1 n).x.stopPend.isSome = true ∧ Only s t [] ∧ t.mem = s.mem
      ∧ ∀ m, m ≠ n → t.lane1 m = s.lane1 m)
  ∧ (∀ (s : State) (n : Fin 128), s.chState n = stPARKED →
    ∃ t, exec (.hostStop n) s = .next t ∧ t.status = stOk ∧ (t.lane1 n).x.startPend = false ∧ Only s t [] ∧ t.mem = s.mem)
  ∧ (∀ s : State, s.flag F.CS_SHSTAT_RUN = false → s.fget F.CS_SPARE_SST ≠ 0 →
    ∃ t, exec .shelfStart s = .next t ∧ t.status = stOk ∧ t.flag F.CS_SHSTAT_RUN = true ∧ t.pc .shelf = s.fget F.CS_SHPROG_BASE
      ∧ t.flags .shelf = 0 ∧ t.callStack .shelf = [] ∧ t.fget F.CS_SHSTAT_SP = 0 ∧ t.fget F.CS_SHSTAT_PFLT = 0
      ∧ t.flag F.CS_SHPROG_ACT = s.flag F.CS_SHPROG_BANK ∧ t.flag F.CS_SHPROG_SWPEND = false ∧ t.susp .shelf = .none
      ∧ t.sh.g = s.sh.g ∧ Only s t [.CS_SHSTAT, .CS_SHPROG] ∧ t.mem = s.mem ∧ t.ch = s.ch)
  ∧ (∀ s : State, s.flag F.CS_SHSTAT_RUN = true ∨ s.fget F.CS_SPARE_SST = 0 →
    exec .shelfStart s = .next (s.answer stBusy))
  ∧ ∀ s : State, ∃ t, exec .shelfStop s = .next t ∧ t.status = stOk ∧ t.flag F.CS_SHSTAT_RUN = false
      ∧ t.flag F.CS_SHSTAT_BARW = false ∧ t.susp .shelf = .none ∧ Only s t [.CS_SHSTAT] ∧ t.mem = s.mem ∧ t.ch = s.ch)
  ∧ ((∀ (s : State) (c : Ctx) (at_ : Nat), s.live c = true → s.susp c = .timed at_ → at_ ≤ s.ctr →
    ∃ t, exec (.waitTimedExpiry c) s = .next t ∧ t.susp c = .none ∧ t.mem = s.mem ∧ t.pc c = s.pc c ∧ t.flags c = s.flags c
      ∧ (∀ i, t.g c i = s.g c i) ∧ ∀ r, (∀ n, r ≠ .CH_PSTAT n) → r ≠ .CS_SHSTAT → t.word r = s.word r)
  ∧ (∀ (s : State) (n : Fin 128), s.chState n = stRUN → (s.lane1 n).x.step = none → 2 ≤ (s.lane1 n).x.gapN →
    (s.lane1 n).x.gapHold = false → (s.lane1 n).x.lastMode ≠ 0 → (s.lane1 n).x.lastMode ≠ 8 → (s.lane1 n).x.lastMode ≠ 9 →
    ∃ t, exec (.gapHold n) s = .next t ∧ (t.lane1 n).x.gapHold = true ∧ t.fget (F.CH_MODE_MODE n) = 9
      ∧ t.flag (F.CH_PSTAT_GAP n) = true ∧ Only s t [.CH_MODE n, .CH_PSTAT n] ∧ t.mem = s.mem ∧ ∀ m, m ≠ n → t.lane1 m = s.lane1 m)
  ∧ (∀ (s : State) (n : Fin 128) (st : OpenStep), s.live (.chan n) = true → (s.lane1 n).x.step = some st →
    s.degLimit ≤ st.deg → (s.lane1 n).x.stopPend = none → lowestArm (s.satNow n s.ctr).1 = none →
    (s.lane1 n).x.arms.deg = true →
    ∃ t, exec (.degradeExpiry n) s = .next t ∧ (t.lane1 n).x.step = none ∧ (t.lane1 n).x.lastTerm = 11
      ∧ t.flag (F.CH_PSTAT_STEP n) = false ∧ t.fget (F.CH_PSEQ_SEQ n) = (s.lane1 n).x.seqNext % 2 ^ 32)
  ∧ (∀ (s : State) (n : Fin 128) (st : OpenStep), s.live (.chan n) = true → (s.lane1 n).x.step = some st →
    s.degLimit ≤ st.deg → (s.lane1 n).x.stopPend = none → lowestArm (s.satNow n s.ctr).1 = none →
    (s.lane1 n).x.arms.deg = false → st.degDone = false →
    ∃ u, exec (.degradeExpiry n) s = .next (u.raise (2 * n.val + 1) 0) ∧ (u.lane1 n).x.step = some { st with degDone := true }
      ∧ Only s u [] ∧ u.mem = s.mem ∧ ∀ m, m ≠ n → u.lane1 m = s.lane1 m)
  ∧ (∀ (s : State) (n : Fin 128), s.clustersRun = true → (s.lane1 n).x.slotDue = true →
    exec (.channelSlot (.chan n) .agree) s = .next ((s.each (slotsBefore n) fun j t => t.dueSlot j).dueSlot n)
    ∧ exec (.channelSlot (.chan n) .differ) s = .next (((s.each (slotsBefore n) fun j t => t.dueSlot j).dueSlot n).noteMismatch n))
  ∧ (∀ (s : State) (n : Fin 128), (s.lane1 n).x.slotDue = true → s.chState n ≠ stRUN → s.chState n ≠ stBRIDGE →
    s.dueSlot n = ((((s.modX n fun x => { x with slotDue := false }).loopSlot n).scaleSlot n).contribute n))
  ∧ (∀ (s : State) (d : Shadow), s.clustersRun = true → s.sh.slotDue = true →
    exec (.channelSlot .shelf d) s = .next ({ s with sh := { s.sh with slotDue := false } }.shelfSlot))
  ∧ (∀ (s : State) (n : Fin 128) (d : Shadow), (s.lane1 n).x.slotDue = false ∨ s.clustersRun = false →
    exec (.channelSlot (.chan n) d) s = .next s)
  ∧ (∀ (s : State) (d : Shadow), s.sh.slotDue = false ∨ s.clustersRun = false → exec (.channelSlot .shelf d) s = .next s)
  ∧ ∀ s : State, s.wordBudget = if s.fget F.CK_PLLSTAT_LEVEL = 0 then 10 else if s.fget F.CK_PLLSTAT_LEVEL = 1 then 5 else 2)

/-- R11, R161, R315: the boundary. With VBIAS lost nothing happens; otherwise the slots of the period that ends have run, the time counter
moves to the next multiple of 10 µs, the table swap and the deferred writes come into force, the control samples are latched and acted on while the firmware serves RUN
or STANDBY, then come the shelf, the ledger and the requests that waited, in this order; and when it is over the shown registers
CH_G and CS_SG hold what the contexts hold, and every slot of the new period is to come while the clusters run. R11, R28, R35, R49,
R167, R169: what a boundary does on one lane. The latched sample is the
calibrated pair with the stamp of the boundary and its marks, UNCAL shows a missing entry, and the sample held for the counts is the
latest without a mark; the computed duty is released once, and after a slow trip the phases go to mid instead; and the closed period counts the held current and power times the period's length in the open
step, with no loss. -/
def Obligations.BoundaryRunsLatchesAndCounts : Prop :=
  ((∀ (s : State) (i : Vector ChanIn 128) (l : ChanIn) (x : Vector AuxIn 4), s.boot.vbias = false →
    exec (.controlPeriodBoundary i l x) s = .next s)
  ∧ (∀ (s : State) (i : Vector ChanIn 128) (l : ChanIn) (x : Vector AuxIn 4), s.boot.vbias = true →
    ∃ a t, a = s.slotsEnd.tick.calBoundary.writesTake
      ∧ exec (.controlPeriodBoundary i l x) s = .next t
      ∧ t = (((if a.sampling then a.lanes i l (a.ctr - a.ctrPrev) else a.each chans fun n t => t.settleEnd n).shelfBoundary
          ).ledgerBoundary).lateBoundary x
      ∧ (∀ n, (t.lane1 n).x.gB = (t.lane1 n).x.g ∧ (t.lane1 n).x.slotDue = t.clustersRun) ∧ t.sh.gB = t.sh.g
      ∧ t.sh.slotDue = t.clustersRun)
  ∧ ∀ s : State, s.tick.ctr % tCtl = 0 ∧ s.ctr < s.tick.ctr ∧ s.tick.ctr ≤ s.ctr + tCtl ∧ s.tick.ctrPrev = s.ctr
      ∧ s.tick.time = s.time + tCtl)
  ∧ ((∀ (s : State) (n : Fin 128) (x lane : ChanIn), s.adopted n = false →
    ((s.latchLane n x lane).lane1 n).m.cs.stamp = s.ctr ∧ ((s.latchLane n x lane).lane1 n).m.cs.v = (s.calPair n x).1
    ∧ ((s.latchLane n x lane).lane1 n).m.cs.i = (s.calPair n x).2.1
    ∧ ((s.latchLane n x lane).lane1 n).m.cs.rs = decide ((s.lane1 n).m.rsLeft ≠ 0)
    ∧ ((s.latchLane n x lane).lane1 n).m.rsLeft = (s.lane1 n).m.rsLeft - 1
    ∧ (s.latchLane n x lane).flag (F.CH_MSTAT_UNCAL n) = ((s.calPair n x).2.2 || (s.calUse n 0 2).uncal)
    ∧ ((s.latchLane n x lane).lane1 n).m.good =
        (if ((s.latchLane n x lane).lane1 n).m.cs.rs || ((s.latchLane n x lane).lane1 n).m.cs.xs then (s.lane1 n).m.good
          else ((s.latchLane n x lane).lane1 n).m.cs))
  ∧ (∀ (s : State) (n : Fin 128) (d : Nat), (s.lane1 n).l.midDue = false → (s.lane1 n).l.dutyNext = some d →
    ((s.releaseDuty n).lane1 n).l.duty = d ∧ ((s.releaseDuty n).lane1 n).l.dutyNext = none
    ∧ (s.releaseDuty n).fget (F.CH_DUTY_DUTY n) = d % 2 ^ 24)
  ∧ (∀ (s : State) (n : Fin 128), (s.lane1 n).l.midDue = true →
    ((s.releaseDuty n).lane1 n).l.phA = .mid ∧ ((s.releaseDuty n).lane1 n).l.phB = .mid
    ∧ ((s.releaseDuty n).lane1 n).l.midDue = false ∧ ((s.releaseDuty n).lane1 n).l.dutyNext = none
    ∧ (s.releaseDuty n).flag (F.CH_MODE_SKIP n) = false ∧ (s.releaseDuty n).word (.CH_DUTY n) = s.word (.CH_DUTY n))
  ∧ ∀ (s : State) (n : Fin 128) (dt : Nat) (st : OpenStep), (s.lane1 n).x.step = some st → s.closed n = true →
    st.start.any (fun t => decide (t < s.ctr)) = true → s.gangSize n = 1 →
    ((s.countStep n dt).lane1 n).x.step = some { st with
      q := st.q + (s.lane1 n).m.good.i * dt, e := st.e + (s.lane1 n).m.good.v * (s.lane1 n).m.good.i * dt })

/-- R26, R28, R54, R183: METROLOGY_SAMPLE, on a 100 µs instant. CH_V and CH_I of every channel show the calibrated sample of the
instant 400 µs ago and CH_P the product of CH_V and the gang's current; off the grid, and for an instant taken already, nothing
happens. R39, R418, R421:
HOUSEKEEPING_ROUND, once on a multiple of 250 ms with the clusters running. The rounds count, HU_T and every channel's CH_T show the
temperature of their thermistor by the beta model, or the fault code with TSFLT where it lies outside −50 to 150 °C; between the
rounds nothing happens. -/
def Obligations.MetrologyAndTemperaturesShow : Prop :=
  ((∀ (s : State) (i : Vector ChanIn 128) (l : ChanIn), s.ctr % 100000 = 0 → 400000 ≤ s.ctr → s.metRuns (s.ctr - 400000) = true →
    s.lane.metAt ≠ some (s.ctr - 400000) →
    ∃ t, exec (.metrologySample i l) s = .next t
      ∧ ∀ n : Fin 128, t.word (.CH_V n) = wordOf (s.metOut n i[n] l (s.ctr - 400000)).uv
        ∧ t.word (.CH_I n) = wordOf (s.metOut n i[n] l (s.ctr - 400000)).ua
        ∧ (t.lane1 n).m.ms.stamp = s.ctr - 400000
        ∧ t.word (.CH_P n) = wordOf (rdiv 183 ((t.lane1 n).m.ms.v * t.currMet n) (10 ^ 9)))
  ∧ ∀ (s : State) (i : Vector ChanIn 128) (l : ChanIn), s.ctr % 100000 ≠ 0 ∨ s.ctr < 400000 ∨ s.lane.metAt = some (s.ctr - 400000) →
    exec (.metrologySample i l) s = .next s)
  ∧ ((∀ (s : State) (x : Housekeeping), s.ctr % 250000000 = 0 → s.clustersRun = true →
    s.tst.roundAt ≠ some s.ctr →
    ∃ t, exec (.housekeepingRound x) s = .next t ∧ t.fget F.TS_HK_ROUNDS = (s.fget F.TS_HK_ROUNDS + 1) % 65536
      ∧ (∀ c, ntcMilliC 3435 100 x.hu = some c → t.word .HU_T = ntcWord c)
      ∧ (∀ (n : Fin 128) (c : Int), ntcMilliC (s.fget (F.CH_NTC_BETA n)) (s.fget (F.CH_NTC_R25 n)) x.ts[n] = some c →
        t.word (.CH_T n) = ntcWord c ∧ t.flag (F.CH_MSTAT_TSFLT n) = ntcBad c)
      ∧ ∀ k : Fin 8, t.tst.code[k] = some x.die[k])
  ∧ ∀ (s : State) (x : Housekeeping), s.ctr % 250000000 ≠ 0 ∨ s.clustersRun = false ∨ s.tst.roundAt = some s.ctr →
    exec (.housekeepingRound x) s = .next s)

/-- R12, R61, R67, R82, R87, R89: the phases. A phase has one cycle start in each period, at its channel's place on the card after
phase zero, phase b half a period after phase a; a control period that holds none leaves all as it was. A cycle start loads the
released duty into a switching phase, puts the phase a shed names at mid and starts a restored one; after 200 periods below 30 % the
kept phase changes and one is to be shed; a switch of a REST step opens when |I| is below 50 mA or its time is over, and the check
that waited for the last one begins; the soft-start window and ten samples beyond either bus limit trip. R16, R73, R92, R95, R112: a
trip and a failed check of a channel that is no member. The channel is PARKED with its phases at mid (a trip of R95's slower kind
leaves the phases to the next boundary), its open step closed; the bits are latched, and the first of them shows in FIRST where
none was latched before; a check failure latches CHK and leaves its code; and no channel outside the gang is touched. -/
def Obligations.PhasesAndTripsOfAChannel : Prop :=
  ((∀ (s : State) (n : Fin 128) (b : Bool) (t : Nat), s.cycleDue n b = some t → 0 < s.tnow →
    s.time * 1000000 ≤ t ∧ t < s.time * 1000000 + 10000000000 ∧ ((t : Int) - s.clk.zero - s.cycleOff n b) % s.tnow = 0)
  ∧ (∀ (s : State) (n : Fin 128), s.cycleOff n true = s.cycleOff n false + s.tnow / 2
    ∧ (s.gangSize (s.leader n) = 1 → s.cycleOff n false = n.val % 8 * s.tnow / 16))
  ∧ (∀ (s : State) (n : Fin 128) (b : Bool), s.cycleDue n b = none → exec (.switchingCycleStart n b) s = .next s)
  ∧ (∀ (s : State) (n : Fin 128) (b : Bool) (at_ : Nat), s.cycleDue n b = some at_ →
    (if b then (s.lane1 n).l.phB else (s.lane1 n).l.phA) = .run →
    ¬((s.lane1 n).l.shedReq = true ∧ s.flag (F.CH_STATE_KEPT n) ≠ b) →
    ∃ t, exec (.switchingCycleStart n b) s = .next t ∧ (t.lane1 n).l.dutyIn[(if b then 1 else 0 : Fin 2)] = (s.lane1 n).l.duty
      ∧ (t.lane1 n).l.cycNext[(if b then 1 else 0 : Fin 2)] = at_ + 1
      ∧ (t.lane1 n).l.phA = (s.lane1 n).l.phA ∧ (t.lane1 n).l.phB = (s.lane1 n).l.phB ∧ Only s t [.CH_MODE n] ∧ t.mem = s.mem
      ∧ ∀ m, m ≠ n → t.lane1 m = s.lane1 m)
  ∧ (∀ (s : State) (n : Fin 128) (b : Bool) (at_ : Nat), s.cycleDue n b = some at_ →
    (if b then (s.lane1 n).l.phB else (s.lane1 n).l.phA) = .run → (s.lane1 n).l.shedReq = true → s.flag (F.CH_STATE_KEPT n) ≠ b →
    ∃ t, exec (.switchingCycleStart n b) s = .next t ∧ (if b then (t.lane1 n).l.phB else (t.lane1 n).l.phA) = .mid
      ∧ t.flag (F.CH_STATE_NPH n) = false ∧ (t.lane1 n).l.shedReq = false
      ∧ (t.lane1 n).l.skipping[(if b then 1 else 0 : Fin 2)] = false ∧ Only s t [.CH_STATE n, .CH_MODE n] ∧ t.mem = s.mem
      ∧ ∀ m, m ≠ n → t.lane1 m = s.lane1 m)
  ∧ (∀ (s : State) (n : Fin 128) (b : Bool) (at_ : Nat), s.cycleDue n b = some at_ →
    (if b then (s.lane1 n).l.phB else (s.lane1 n).l.phA) = .mid → (s.lane1 n).l.restoreReq = true →
    ∃ t, exec (.switchingCycleStart n b) s = .next t ∧ (if b then (t.lane1 n).l.phB else (t.lane1 n).l.phA) = .run
      ∧ t.flag (F.CH_STATE_NPH n) = true ∧ (t.lane1 n).l.restoreReq = false
      ∧ (t.lane1 n).l.dutyIn[(if b then 1 else 0 : Fin 2)] = (s.lane1 n).l.duty ∧ Only s t [.CH_STATE n, .CH_MODE n] ∧ t.mem = s.mem)
  ∧ (∀ (s : State) (n : Fin 128), 200 ≤ (s.lane1 n).l.shedN → s.flag (F.CH_STATE_NPH n) = true → s.shedFree n = true →
    ∃ t, exec (.phaseShed n) s = .next t ∧ t.flag (F.CH_STATE_KEPT n) = !s.flag (F.CH_STATE_KEPT n)
      ∧ t.fget (F.CH_STATE_SHEDS n) = (s.fget (F.CH_STATE_SHEDS n) + 1) % 65536 ∧ (t.lane1 n).l.shedReq = true
      ∧ (t.lane1 n).l.shedN = 0 ∧ Only s t [.CH_STATE n] ∧ t.mem = s.mem)
  ∧ (∀ (s : State) (n : Fin 128) (due : Nat), (s.lane1 n).l.openBy = some due →
    (s.chState (s.leader n) = stRUN ∨ s.chState (s.leader n) = stBRIDGE) → s.resting (s.leader n) = true →
    (s.lane1 (s.leader n)).c.ph ≠ .quiet → (s.lowCurrent n = true ∨ due ≤ s.time) →
    ∃ t, exec (.restSwitchOpen n) s = .next t ∧ t.flag (F.CH_STATE_OSWC n) = false ∧ t.chState n = s.chState n
      ∧ (t.lane1 n).l.openBy = none ∧ Only s t [.CH_STATE n] ∧ t.mem = s.mem ∧ ∀ m, m ≠ n → t.lane1 m = s.lane1 m)
  ∧ (∀ (s : State) (n : Fin 128) (due : Nat), (s.lane1 n).l.openBy = some due →
    (s.chState (s.leader n) = stRUN ∨ s.chState (s.leader n) = stBRIDGE) → (s.lane1 (s.leader n)).c.ph = .quiet →
    (s.lowCurrent n = true ∨ due ≤ s.time) → (s.lane1 (s.leader n)).l.engaged = false →
    (∀ j ∈ s.gang (s.leader n), j ≠ n → s.flag (F.CH_STATE_OSWC j) = false) →
    ∃ t, exec (.restSwitchOpen n) s = .next t ∧ t.flag (F.CH_STATE_OSWC n) = false ∧ Only s t [.CH_STATE n] ∧ t.mem = s.mem
      ∧ ∀ j ∈ s.gang (s.leader n), (t.lane1 j).c.ph = .settle ∧ (t.lane1 j).c.restExit = true
        ∧ (t.lane1 j).c.at_ = s.time + 10000)
  ∧ (∀ (s : State) (n : Fin 128), 5 ≤ (s.lane1 n).p.ssN → s.flag (F.CH_STATE_SS (s.leader n)) = true →
    exec (.softStartFault n) s = .next (s.tripSoft n [7]))
  ∧ (∀ s : State, s.busCount.fsel.busN = (if s.busLow then s.fsel.busN + 1 else 0)
    ∧ s.busCount.fsel.busHiN = (if s.busHigh then s.fsel.busHiN + 1 else 0))
  ∧ (∀ s : State, s.fsel.busN < 10 → s.fsel.busHiN < 10 → exec .busLimitTrip s = .next s)
  ∧ ∀ s : State, (10 ≤ s.fsel.busN ∨ 10 ≤ s.fsel.busHiN) → (∀ m, s.flag (F.CH_GANG_MEMBER m) = false ∧ s.fget (F.CH_GANG_SIZE m) = 0) →
    ∃ t, exec .busLimitTrip s = .next t ∧ t.mem = s.mem
      ∧ ∀ n, if s.chState n = stCHECK ∨ s.chState n = stRUN ∨ s.chState n = stSTOP ∨ s.chState n = stBRIDGE
        then t.chState n = stPARKED ∧ (t.word (.CH_FAULT n)).getLsbD 14 = true
        else t.chState n = s.chState n ∧ t.word (.CH_FAULT n) = s.word (.CH_FAULT n))
  ∧ ((∀ (s : State) (n : Fin 128) (b : Nat) (bs : List Nat) (at_ sev : Nat) (pl : List Byte), s.flag (F.CH_GANG_MEMBER n) = false →
    s.chState n ≠ stPARKED → s.chState n ≠ stABSENT → (∀ k ∈ b :: bs, k < 15) →
    (s.trip n (b :: bs) at_ pl sev).chState n = stPARKED ∧ ((s.trip n (b :: bs) at_ pl sev).lane1 n).l.phA = .mid
    ∧ ((s.trip n (b :: bs) at_ pl sev).lane1 n).l.phB = .mid ∧ ((s.trip n (b :: bs) at_ pl sev).lane1 n).x.step = none
    ∧ (∀ k ∈ b :: bs, ((s.trip n (b :: bs) at_ pl sev).word (.CH_FAULT n)).getLsbD k = true)
    ∧ (s.fget (F.CH_FAULT_FIRST n) = 0 → (s.trip n (b :: bs) at_ pl sev).fget (F.CH_FAULT_FIRST n) = b + 1)
    ∧ ∀ m, m ∉ s.gang n → m ≠ n → (s.trip n (b :: bs) at_ pl sev).lane1 m = s.lane1 m)
  ∧ (∀ (s : State) (n : Fin 128) (b : Nat), s.flag (F.CH_GANG_MEMBER n) = false → s.chState n ≠ stPARKED →
    s.chState n ≠ stABSENT → b < 15 →
    (s.tripSoft n [b]).chState n = stPARKED ∧ ((s.tripSoft n [b]).lane1 n).l.phA = (s.lane1 n).l.phA
    ∧ ((s.tripSoft n [b]).lane1 n).l.midDue = true ∧ ((s.tripSoft n [b]).word (.CH_FAULT n)).getLsbD b = true)
  ∧ ∀ (s : State) (n : Fin 128) (k : Nat), s.flag (F.CH_GANG_MEMBER n) = false → k < 8 →
    (s.checkFail n k).chState n = stPARKED ∧ (s.checkFail n k).fget (F.CH_STATE_CHK n) = k
    ∧ ((s.checkFail n k).word (.CH_FAULT n)).getLsbD 10 = true ∧ ((s.checkFail n k).lane1 n).l.phA = .mid
    ∧ ((s.checkFail n k).lane1 n).l.phB = .mid)

/-- R62–R66, R349: the shelf PWM period. DIV within 1,000 to 8,000 is taken with every channel and auxiliary converter off and the
lock open, and the period in use waits for the boundary; a shelf in use answers BUSY, else a value outside RESERVED and a closed lock
LOCKED. An edge of SYNC_IN moves the target of the period to the interval, counts its phase error against the nearest phase zero, and
locks after 16 good ones, the phase zero on the edge from then on; an interval more than 10 % off sets OOW alone; the first edge
gives no interval (notes/assumptions/156.md); two periods without a good edge clear LOCK, set LOST and raise event 399; with SYNCEN
clear neither has an effect; and a boundary moves the period by no more than 0.5 % per ms. R18, R54, R90, R93: CH_GANG. A write that
misaligns or finds a channel that is not PARKED is refused with nothing changed; the others wait for the boundary
(notes/assumptions/157.md). There a new size on PARKED channels that form an aligned group makes the first the leader and the others
members of it in FOLLOW, each with its shunt taken in; size 1 dissolves the gang, its members PARKED. -/
def Obligations.PwmPeriodAndGangs : Prop :=
  ((∀ (s : State) (v : Word), 1000 ≤ bitsOf v 0 14 → bitsOf v 0 14 ≤ 8000 → s.flag F.GL_LOCK_OPEN = true → s.allIdle = true →
    s.axOff = true →
    ∃ t, exec (.pwmDivWrite v) s = .next t ∧ t.status = stOk ∧ t.fget F.CK_PWM_DIV = bitsOf v 0 14 ∧ t.divPending = true
      ∧ t.tsw = s.tsw ∧ Only s t [.CK_PWM] ∧ t.mem = s.mem ∧ t.ch = s.ch)
  ∧ (∀ (s : State) (v : Word), s.allIdle = false ∨ s.axOff = false → exec (.pwmDivWrite v) s = .next (s.answer stBusy))
  ∧ (∀ (s : State) (v : Word), s.allIdle = true → s.axOff = true → bitsOf v 0 14 < 1000 ∨ 8000 < bitsOf v 0 14 →
    exec (.pwmDivWrite v) s = .next (s.answer stReserved))
  ∧ (∀ (s : State) (v : Word), s.allIdle = true → s.axOff = true → 1000 ≤ bitsOf v 0 14 → bitsOf v 0 14 ≤ 8000 →
    s.flag F.GL_LOCK_OPEN = false → exec (.pwmDivWrite v) s = .next (s.answer stLocked))
  ∧ (∀ (s : State) (t : Nat), 0 < s.tnow → 2 * (s.phaseErr t).natAbs ≤ s.tnow
    ∧ ((t : Int) - s.clk.zero - s.phaseErr t) % s.tnow = 0)
  ∧ (∀ (s : State) (t p : Nat), s.effFlag F.CK_SYNC_SYNCEN = true → s.clk.syncAt = some p →
    s.tsw * 9 ≤ (s.time * 1000 + t - p) * 10 → (s.time * 1000 + t - p) * 10 ≤ s.tsw * 11 →
    ∃ u, exec (.syncInEdge t) s = .next u ∧ u.clk.perTo = (s.time * 1000 + t - p) * 1000
      ∧ u.clk.syncAt = some (s.time * 1000 + t) ∧ u.clk.inWinAt = some (s.time * 1000 + t) ∧ u.clk.syncLost = false
      ∧ u.clk.syncN = (if (s.phaseErr ((s.time * 1000 + t) * 1000)).natAbs < 2000000 then s.clk.syncN + 1 else 0)
      ∧ u.flag F.CK_SYNCST_LOCK = (s.flag F.CK_SYNCST_LOCK || decide (16 ≤ u.clk.syncN))
      ∧ u.clk.zero = (if u.flag F.CK_SYNCST_LOCK then (s.time * 1000 + t) * 1000 else s.clk.zero)
      ∧ u.clk.zeroErr = (if u.flag F.CK_SYNCST_LOCK then 0 else s.phaseErr ((s.time * 1000 + t) * 1000))
      ∧ Only s u [.CK_SYNCST] ∧ u.mem = s.mem ∧ u.ch = s.ch)
  ∧ (∀ (s : State) (t p : Nat), s.effFlag F.CK_SYNC_SYNCEN = true → s.clk.syncAt = some p →
    (s.time * 1000 + t - p) * 10 < s.tsw * 9 ∨ s.tsw * 11 < (s.time * 1000 + t - p) * 10 →
    ∃ u, exec (.syncInEdge t) s = .next u ∧ u.flag F.CK_SYNCST_OOW = true
      ∧ u.clk = { s.clk with syncAt := some (s.time * 1000 + t) }
      ∧ u.flag F.CK_SYNCST_LOCK = s.flag F.CK_SYNCST_LOCK ∧ Only s u [.CK_SYNCST])
  ∧ (∀ (s : State) (t : Nat), s.effFlag F.CK_SYNC_SYNCEN = true → s.clk.syncAt = none →
    exec (.syncInEdge t) s = .next { s with clk := { s.clk with syncAt := some (s.time * 1000 + t) } })
  ∧ (∀ (s : State) (a : Nat), s.effFlag F.CK_SYNC_SYNCEN = true → s.clk.inWinAt = some a → s.clk.syncLost = false →
    a + 2 * s.tsw < (s.time + 10000) * 1000 →
    ∃ u, exec .syncLost s = .next (u.raise 399 1) ∧ u.flag F.CK_SYNCST_LOCK = false ∧ u.flag F.CK_SYNCST_LOST = true
      ∧ u.flag F.CK_SYNCST_SLEW = decide (s.clk.per ≠ s.tsw * 1000) ∧ u.clk.perTo = s.tsw * 1000 ∧ u.clk.syncN = 0
      ∧ u.clk.syncLost = true ∧ Only s u [.CK_SYNCST] ∧ u.mem = s.mem ∧ u.ch = s.ch)
  ∧ (∀ (s : State) (t : Nat), s.effFlag F.CK_SYNC_SYNCEN = false → exec .syncLost s = .next s ∧ exec (.syncInEdge t) s = .next s)
  ∧ ∀ s : State, s.periodBoundary.clk.per ≤ s.clk.per + s.clk.per * 5 / 100000
    ∧ s.clk.per ≤ s.periodBoundary.clk.per + s.clk.per * 5 / 100000)
  ∧ ((∀ (s : State) (n : Fin 128) (v : Word), s.gangFree n (bitsOf v 0 2) = true → s.flag (F.CH_GANG_MEMBER n) = false →
    s.gangReserved n (2 ^ bitsOf v 0 2) = false →
    ∃ t, exec (.gangWrite n v) s = .next t ∧ t.status = stOk ∧ (t.lane1 n).x.gangPend = some (bitsOf v 0 2) ∧ Only s t []
      ∧ t.mem = s.mem ∧ ∀ m, m ≠ n → t.lane1 m = s.lane1 m)
  ∧ (∀ (s : State) (n : Fin 128) (v : Word), s.chState n ≠ stPARKED → exec (.gangWrite n v) s = .next (s.answer stBusy))
  ∧ (∀ (s : State) (n : Fin 128) (v : Word) (j : Nat), bitsOf v 0 2 ≠ 0 → j < 2 ^ bitsOf v 0 2 →
    s.chState (Fin.ofNat 128 (n.val + j)) ≠ stPARKED → exec (.gangWrite n v) s = .next (s.answer stBusy))
  ∧ (∀ (s : State) (n : Fin 128) (v : Word), s.gangFree n (bitsOf v 0 2) = true →
    s.flag (F.CH_GANG_MEMBER n) = true ∨ n.val % 2 ^ bitsOf v 0 2 ≠ 0 → exec (.gangWrite n v) s = .next (s.answer stReserved))
  ∧ (∀ (s : State) (n : Fin 128) (code : Nat), (s.lane1 n).x.gangPend = some code → code ≠ 0 → code < 4 →
    s.fget (F.CH_GANG_SIZE n) = 0 → (∀ j < 2 ^ code, s.chState (Fin.ofNat 128 (n.val + j)) = stPARKED) →
    s.flag (F.CH_GANG_MEMBER n) = false → s.gangReserved n (2 ^ code) = false →
    (s.gangTake n).fget (F.CH_GANG_SIZE n) = code ∧ (s.gangTake n).chState n = stPARKED
      ∧ (s.gangTake n).flag (F.CH_GANG_MEMBER n) = false ∧ ((s.gangTake n).lane1 n).x.gangPend = none ∧ (s.gangTake n).mem = s.mem
      ∧ (∀ j < 2 ^ code, 0 < j → (s.gangTake n).flag (F.CH_GANG_MEMBER (Fin.ofNat 128 (n.val + j))) = true
        ∧ (s.gangTake n).fget (F.CH_GANG_LEAD (Fin.ofNat 128 (n.val + j))) = n.val
        ∧ (s.gangTake n).chState (Fin.ofNat 128 (n.val + j)) = stFOLLOW
        ∧ ((s.gangTake n).lane1 (Fin.ofNat 128 (n.val + j))).m.rshunt = s.fget (F.CH_SHUNT_RSHUNT (Fin.ofNat 128 (n.val + j))))
      ∧ ∀ r : Reg, r ≠ .CH_FAULT n →
        (∀ j < 2 ^ code, r ≠ .CH_GANG (Fin.ofNat 128 (n.val + j)) ∧ r ≠ .CH_STATE (Fin.ofNat 128 (n.val + j))) →
        (s.gangTake n).word r = s.word r)
  ∧ ∀ (s : State) (n : Fin 128), (s.lane1 n).x.gangPend = some 0 → s.chState n = stPARKED → s.flag (F.CH_GANG_MEMBER n) = false →
    (s.gangTake n).fget (F.CH_GANG_SIZE n) = 0 ∧ (s.gangTake n).chState n = stPARKED ∧ (s.gangTake n).mem = s.mem
      ∧ (s.gangTake n).flag (F.CH_FAULT_MEMB n) = false
      ∧ ∀ j < s.gangSize n, 0 < j → (s.gangTake n).flag (F.CH_GANG_MEMBER (Fin.ofNat 128 (n.val + j))) = false
        ∧ (s.chState (Fin.ofNat 128 (n.val + j)) = stFOLLOW → (s.gangTake n).chState (Fin.ofNat 128 (n.val + j)) = stPARKED))

/-- R69–R73, R91: the pre-start check passes from mark to mark over the channel's gang: 300 µs after the short test began both phases
switch at the pre-bias duty; with every node near VS after that the switches close and the loops engage at 0 A; TCLOSE later the
zero-point window runs; 1 ms later the current goes to the learning target; 200 µs after it is there the second window runs; 1 ms
later the learned paths stand in CH_RPATH; and at zero current the channel enters RUN, its code 1, DRIFT cleared
(notes/assumptions/154.md). A step on its way out of REST starts at TCLOSE instead, in soft start, a CV step in its CV phase. R70–R73: where a mark of the check is not met the check fails on the first member that
misses it, with the code of the rule: 2 for the short test, 3 when the pre-bias is not reached 500 µs after it began, 4 below RMIN
and 5 above RMAX or without a usable current. -/
def Obligations.StartCheckPassesOrFails : Prop :=
  ((∀ (s : State) (n : Fin 128), s.inCheck n .settle = true → (s.lane1 n).c.at_ + 300000 ≤ s.time →
    (s.gang n).find? s.shorted = none →
    ∃ t, exec (.checkShortTest n) s = .next t ∧ t.mem = s.mem ∧ ∀ j ∈ s.gang n, (t.lane1 j).c.ph = .prebias
      ∧ (t.lane1 j).l.phA = .run ∧ (t.lane1 j).l.phB = (if (s.lane1 j).l.phfit then .mid else .run) ∧ t.chState j = s.chState j)
  ∧ (∀ (s : State) (n : Fin 128), s.inCheck n .prebias = true → (s.lane1 n).c.at_ < s.time → (s.gang n).all s.prebiased = true →
    ∃ t, exec (.checkPrebiasReached n) s = .next t ∧ t.mem = s.mem ∧ ∀ j ∈ s.gang n, (t.lane1 j).c.ph = .closing
      ∧ t.flag (F.CH_STATE_OSWC j) = true ∧ (t.lane1 j).l.engaged = true ∧ (t.lane1 j).l.iref = 0
      ∧ (t.lane1 j).l.openBy = none ∧ t.chState j = s.chState j)
  ∧ (∀ (s : State) (n : Fin 128), s.inCheck n .closing = true →
    (s.lane1 n).c.at_ + s.eff (F.CH_OSW_TCLOSE n) * 100000 ≤ s.time → (s.lane1 n).c.restExit = false →
    ∃ t, exec (.checkSwitchSettled n) s = .next t ∧ Only s t [] ∧ t.mem = s.mem ∧ ∀ j ∈ s.gang n, (t.lane1 j).c.ph = .zero
      ∧ (t.lane1 j).c.at_ = s.time)
  ∧ (∀ (s : State) (n : Fin 128) (st : OpenStep), s.inCheck n .closing = true →
    (s.lane1 n).c.at_ + s.eff (F.CH_OSW_TCLOSE n) * 100000 ≤ s.time → (s.lane1 n).c.restExit = true →
    (s.lane1 n).x.step = some st →
    ∃ t, exec (.checkSwitchSettled n) s = .next t ∧ (t.lane1 n).c.ph = .none ∧ t.flag (F.CH_STATE_SS n) = true
      ∧ (t.lane1 n).x.step = some { st with start := some s.ctr } ∧ (st.mode = 2 → t.flag (F.CH_MODE_CVPH n) = true)
      ∧ (t.lane1 n).c.restExit = false ∧ Only s t [.CH_STATE n, .CH_MODE n] ∧ t.mem = s.mem)
  ∧ (∀ (s : State) (n : Fin 128), s.inCheck n .zero = true → (s.lane1 n).c.at_ + 1000000 ≤ s.time →
    ∃ t, exec (.checkZeroPointDone n) s = .next t ∧ Only s t [] ∧ t.mem = s.mem ∧ ∀ j ∈ s.gang n, (t.lane1 j).c.ph = .ramp
      ∧ (t.lane1 j).c.ilrn = (s.learnTarget n).1 ∧ (t.lane1 j).c.lowi = (s.learnTarget n).2)
  ∧ (∀ (s : State) (n : Fin 128) (a : Nat), s.inCheck n .ramp = true → (s.lane1 n).c.reached = some a → a + 200000 ≤ s.time →
    ∃ t, exec (.checkLearnSettled n) s = .next t ∧ Only s t [] ∧ t.mem = s.mem ∧ ∀ j ∈ s.gang n, (t.lane1 j).c.ph = .learn)
  ∧ (∀ (s : State) (n : Fin 128), s.inCheck n .learn = true → (s.lane1 n).c.at_ + 1000000 ≤ s.time →
    (s.gang n).find? (fun j => (s.pathOf j).isRight) = none →
    ∃ t, exec (.checkRpathLearned n) s = .next t ∧ t.mem = s.mem ∧ Only s t ((s.gang n).map .CH_RPATH)
      ∧ ∀ j ∈ s.gang n, (t.lane1 j).c.ph = .down ∧ t.flag (F.CH_RPATH_VALID j) = true
        ∧ s.pathOf j = .inl (t.fget (F.CH_RPATH_RPATH j)))
  ∧ ∀ (s : State) (n : Fin 128), s.inCheck n .down = true → s.chState n = stCHECK → (s.lane1 n).l.iref = 0 →
    ∃ t, exec (.checkPass n) s = .next t ∧ t.chState n = stRUN ∧ t.mem = s.mem ∧ (t.lane1 n).c.ph = .none
      ∧ (∀ j ∈ s.gang n, t.fget (F.CH_STATE_CHK j) = 1 ∧ t.flag (F.CH_CTWEAR_DRIFT j) = false)
      ∧ Only s t ((s.gang n).map .CH_STATE ++ (s.gang n).map .CH_CTWEAR))
  ∧ ((∀ (s : State) (n j : Fin 128), s.inCheck n .settle = true → (s.lane1 n).c.at_ + 300000 ≤ s.time →
    (s.gang n).find? s.shorted = some j → exec (.checkShortTest n) s = .next (s.checkFail j 2))
  ∧ (∀ (s : State) (n j : Fin 128), s.inCheck n .prebias = true → (s.lane1 n).c.at_ + 500000 ≤ s.time →
    (s.gang n).find? (fun k => !s.prebiased k) = some j → exec (.checkPrebiasTimeout n) s = .next (s.checkFail j 3))
  ∧ (∀ (s : State) (n j : Fin 128) (k : Nat), s.inCheck n .learn = true → (s.lane1 n).c.at_ + 1000000 ≤ s.time →
    (s.gang n).find? (fun m => (s.pathOf m).isRight) = some j → s.pathOf j = .inr k →
    exec (.checkRpathLearned n) s = .next (s.checkFail j k))
  ∧ (∀ (s : State) (j : Fin 128) (k : Nat), s.pathOf j = .inr k → k = 4 ∨ k = 5)
  ∧ ∀ (s : State) (j : Fin 128), (s.lane1 j).c.avC < 20000 * (s.lane1 j).c.avN → s.pathOf j = .inr 5)

/-- R95, R96, R99, R100, R102: the detectors' trips: over-current, a shunt voltage above OCTH for 50 ns, in every state at bit 0;
over-voltage, above OVTH for 1 µs, at bit 1 while the switch is commanded closed; under-voltage at bit 2 after ten samples and the
fuse at bit 4, both with the phases left to the boundary; a stage fault, FLT_L low for FLTQ, at bit 8. Below its threshold, and OV, UV
and STG with the switch open, a detector does nothing to the registers. R100, R111: the counted conditions. A shorter low of FLT_L
counts and, once CYCN of the last 64 cycles held one, trips CYC (with the switch open nothing is counted: notes/assumptions/152.md);
the minute rolls the excursion bins, and WEAR is set, with event 2n, when their sum exceeds RATE, and cleared at half of it; a second
whose mean residual exceeds half of DELTA sets DRIFT, with event 2n. -/
def Obligations.DetectorsWearAndPulses : Prop :=
  ((∀ (s : State) (n : Fin 128) (t uv held : Nat), s.eff (F.CH_LIM_I_OCTH n) * 1000 < uv → 50 ≤ held →
    exec (.ocTrip n t uv held) s = .next (s.trip n [0] t))
  ∧ (∀ (s : State) (n : Fin 128) (t uv held : Nat), uv ≤ s.eff (F.CH_LIM_I_OCTH n) * 1000 ∨ held < 50 →
    exec (.ocTrip n t uv held) s = .next s)
  ∧ (∀ (s : State) (n : Fin 128) (t uv held : Nat), s.flag (F.CH_STATE_OSWC n) = true → s.eff (F.CH_LIM_V_OVTH n) * 1000 < uv →
    1000 ≤ held → exec (.ovTrip n t uv held) s = .next (s.trip n [1] t))
  ∧ (∀ (s : State) (n : Fin 128) (t uv held : Nat), s.flag (F.CH_STATE_OSWC n) = false ∨ uv ≤ s.eff (F.CH_LIM_V_OVTH n) * 1000
      ∨ held < 1000 → exec (.ovTrip n t uv held) s = .next s)
  ∧ (∀ (s : State) (n : Fin 128), 10 ≤ (s.lane1 n).p.uvN → s.flag (F.CH_STATE_OSWC n) = true →
    exec (.uvTrip n) s = .next (s.tripSoft n [2]))
  ∧ (∀ (s : State) (n : Fin 128), ((64 + s.eff (F.CH_FUSE_KT n)) * s.icOf n) * ((64 + s.eff (F.CH_FUSE_KT n)) * s.icOf n)
      ≤ (s.lane1 n).p.h * 4096 → s.flag (F.CH_FAULT_FUSE n) = false → exec (.fuseTrip n) s = .next (s.tripSoft n [4]))
  ∧ (∀ (s : State) (n : Fin 128), (s.lane1 n).p.uvN < 10 ∨ s.flag (F.CH_STATE_OSWC n) = false → exec (.uvTrip n) s = .next s)
  ∧ (∀ (s : State) (n : Fin 128) (t held : Nat), s.flag (F.CH_STATE_OSWC n) = true → s.eff (F.CH_STG_FLTQ n) * 100 ≤ held →
    ∃ u, exec (.stageFault n t held) s = .next (u.trip n [8] t) ∧ (u.lane1 n).p.fltLow = true ∧ Only s u [] ∧ u.mem = s.mem
      ∧ ∀ m, m ≠ n → u.lane1 m = s.lane1 m)
  ∧ ∀ (s : State) (n : Fin 128) (t held : Nat), s.flag (F.CH_STATE_OSWC n) = false ∨ held < s.eff (F.CH_STG_FLTQ n) * 100 →
    ∃ u, exec (.stageFault n t held) s = .next u ∧ (u.lane1 n).p.fltLow = true ∧ Only s u [] ∧ u.mem = s.mem)
  ∧ ((∀ (s : State) (n : Fin 128) (t held : Nat), s.flag (F.CH_STATE_OSWC n) = true → held < s.eff (F.CH_STG_FLTQ n) * 100 →
    ∃ u, u.fget (F.CH_STG_CYCCNT n) = (s.fget (F.CH_STG_CYCCNT n) + 1) % 65536 ∧ Only s u [.CH_STG n] ∧ u.mem = s.mem
      ∧ (u.lane1 n).p.fltPulses.head? = some ((s.time + t) * 1000000 / s.tnow) ∧ (u.lane1 n).p.fltLow = false
      ∧ exec (.fltLPulse n t held) s =
        .next (if s.eff (F.CH_STG_CYCN n) ≤ (u.lane1 n).p.fltPulses.length then u.trip n [9] t else u))
  ∧ (∀ (s : State) (n : Fin 128) (t held : Nat), s.flag (F.CH_STATE_OSWC n) = true → s.eff (F.CH_STG_FLTQ n) * 100 ≤ held →
    ∃ u, exec (.fltLPulse n t held) s = .next (u.trip n [8] t) ∧ (u.lane1 n).p.fltLow = false ∧ Only s u [] ∧ u.mem = s.mem)
  ∧ (∀ (s : State) (n : Fin 128) (t held : Nat), s.flag (F.CH_STATE_OSWC n) = false →
    ∃ u, exec (.fltLPulse n t held) s = .next u ∧ (u.lane1 n).p.fltLow = false ∧ Only s u [] ∧ u.mem = s.mem)
  ∧ (∀ (s : State) (n : Fin 128), (s.lane1 n).p.binAt + 1 = s.time / 60000000000 →
    s.eff (F.CH_CTWEAR_RATE n) < (((s.lane1 n).p.binNow :: (s.lane1 n).p.bins).take 59).foldl (· + ·) 0 →
    s.flag (F.CH_CTWEAR_WEAR n) = false →
    ∃ u, exec (.wearBinMinute n) s = .next (u.raise (2 * n.val) 1 (u.faultPayload n)) ∧ u.flag (F.CH_CTWEAR_WEAR n) = true
      ∧ (u.lane1 n).p.binNow = 0 ∧ (u.lane1 n).p.binAt = s.time / 60000000000
      ∧ (u.lane1 n).p.bins = ((s.lane1 n).p.binNow :: (s.lane1 n).p.bins).take 59 ∧ Only s u [.CH_CTWEAR n] ∧ u.mem = s.mem)
  ∧ (∀ (s : State) (n : Fin 128), (s.lane1 n).p.binAt + 1 = s.time / 60000000000 →
    2 * (((s.lane1 n).p.binNow :: (s.lane1 n).p.bins).take 59).foldl (· + ·) 0 ≤ s.eff (F.CH_CTWEAR_RATE n) →
    ∃ t, exec (.wearBinMinute n) s = .next t ∧ t.flag (F.CH_CTWEAR_WEAR n) = false ∧ (t.lane1 n).p.binNow = 0
      ∧ (t.lane1 n).p.bins = ((s.lane1 n).p.binNow :: (s.lane1 n).p.bins).take 59 ∧ Only s t [.CH_CTWEAR n] ∧ t.mem = s.mem)
  ∧ (∀ (s : State) (n : Fin 128), s.time / 60000000000 ≤ (s.lane1 n).p.binAt → exec (.wearBinMinute n) s = .next s)
  ∧ (∀ (s : State) (n : Fin 128), (s.lane1 n).p.driftAt < s.time / 1000000000 → s.flag (F.CH_CTWEAR_DRIFT n) = false →
    s.eff (F.CT_DELTA_DELTA n) * 10 ^ 9 * (s.lane1 n).p.driftN < 2 * (s.lane1 n).p.driftSum.natAbs →
    ∃ u, exec (.driftSecond n) s = .next (u.raise (2 * n.val) 1 (u.faultPayload n)) ∧ u.flag (F.CH_CTWEAR_DRIFT n) = true
      ∧ (u.lane1 n).p.driftN = 0 ∧ (u.lane1 n).p.driftSum = 0 ∧ (u.lane1 n).p.driftAt = s.time / 1000000000
      ∧ Only s u [.CH_CTWEAR n] ∧ u.mem = s.mem)
  ∧ (∀ (s : State) (n : Fin 128), (s.lane1 n).p.driftAt < s.time / 1000000000 →
    2 * (s.lane1 n).p.driftSum.natAbs ≤ s.eff (F.CT_DELTA_DELTA n) * 10 ^ 9 * (s.lane1 n).p.driftN →
    ∃ t, exec (.driftSecond n) s = .next t ∧ (t.lane1 n).p.driftN = 0 ∧ (t.lane1 n).p.driftSum = 0 ∧ Only s t []
      ∧ t.mem = s.mem)
  ∧ ∀ (s : State) (n : Fin 128), s.time / 1000000000 ≤ (s.lane1 n).p.driftAt → exec (.driftSecond n) s = .next s)

/-- R38, R104, R105, R110, R111: the contact detector. A delta sample enters the counts with its calibrated voltage and the protection
current; a sample out of the window of a watched contact lengthens the run, one inside ends it and counts a near miss after one or
two, and without a watch it starts anew; while a qualified break is open a sample goes to its estimate alone, up to the first below
50 mA; three samples trip CT, count a trip and open the estimate, CT and SS together in soft start; and the estimate closes below
50 mA with its energy and sample count in CH_CTLAST, the switch open, and event 2n. -/
def Obligations.ContactBreakIsDetected : Prop :=
  (∀ (s : State) (n : Fin 128) (vfd ip : Int), ∃ t, exec (.deltaSample n vfd ip) s = .next t
    ∧ (t.lane1 n).p.vfdN = (s.lane1 n).p.vfdN + 1
    ∧ (t.lane1 n).p.vfdSum = (s.lane1 n).p.vfdSum + calVolt (s.calUse n 0 2) (clampI vfd (-2048) 2047 * 488000) 1000
    ∧ (t.lane1 n).p.ipHist.head? = some (s.protCurr n ip) ∧ OnlyEv s t [.CH_CTCNT n, .CH_CTWEAR n]
    ∧ ∀ m, m ≠ n → t.lane1 m = s.lane1 m)
  ∧ (∀ (s : State) (n : Fin 128) (r w ip : Int) (sat : Bool), (s.lane1 n).p.ctOpen = true ∨ (3 ≤ (s.lane1 n).p.ctN
      ∧ s.eff (F.CT_DELTA_CTEN n) = 1) → s.ctSample n r w ip sat = s.modP n fun p => p.ctTake (s.ctAdd n r ip sat) ip)
  ∧ (∀ (p : ChProt) (add : Nat) (ip : Int), p.ctTake add ip = if p.ctLow then p else if ip.natAbs < 50000 then { p with ctLow := true }
      else { p with ctSum := p.ctSum + add, ctSmp := p.ctSmp + 1 })
  ∧ (∀ (s : State) (n : Fin 128) (r w ip : Int) (sat : Bool), (s.lane1 n).p.ctOpen = false →
    (s.lane1 n).p.ctN < 3 ∨ s.eff (F.CT_DELTA_CTEN n) ≠ 1 → s.ctWatch n = true → (sat = true ∨ w < r.natAbs) →
    ((s.ctSample n r w ip sat).lane1 n).p.ctN = (s.lane1 n).p.ctN + 1
      ∧ ((s.ctSample n r w ip sat).lane1 n).p.ctAt = s.ctr + ((s.lane1 n).p.vfdN + 1) * 1000
      ∧ ∀ q, (s.ctSample n r w ip sat).word q = s.word q)
  ∧ (∀ (s : State) (n : Fin 128) (r w ip : Int) (sat : Bool), (s.lane1 n).p.ctOpen = false →
    (s.lane1 n).p.ctN < 3 ∨ s.eff (F.CT_DELTA_CTEN n) ≠ 1 → s.ctWatch n = false →
    ((s.ctSample n r w ip sat).lane1 n).p.ctN = 0 ∧ ((s.ctSample n r w ip sat).lane1 n).p.ctSum = 0
      ∧ ∀ q, (s.ctSample n r w ip sat).word q = s.word q)
  ∧ (∀ (s : State) (n : Fin 128) (r w ip : Int), (s.lane1 n).p.ctOpen = false →
    (s.lane1 n).p.ctN < 3 ∨ s.eff (F.CT_DELTA_CTEN n) ≠ 1 → s.ctWatch n = true → r.natAbs ≤ w →
    ((s.ctSample n r w ip false).lane1 n).p.ctN = 0
      ∧ (s.ctSample n r w ip false).fget (F.CH_CTCNT_NEAR n) =
        (if (s.lane1 n).p.ctN = 1 ∨ (s.lane1 n).p.ctN = 2 then min (s.fget (F.CH_CTCNT_NEAR n) + 1) 65535
          else s.fget (F.CH_CTCNT_NEAR n)))
  ∧ (∀ (s : State) (n : Fin 128), 3 ≤ (s.lane1 n).p.ctN → (s.lane1 n).p.ctOpen = false → s.eff (F.CT_DELTA_CTEN n) = 1 →
    s.flag (F.CH_GANG_MEMBER n) = false → s.chState n ≠ stPARKED → s.chState n ≠ stABSENT →
    ∃ t, exec (.contactBreak n) s = .next t ∧ t.chState n = stPARKED ∧ (t.lane1 n).p.ctOpen = true ∧ (t.lane1 n).p.ctN = 0
      ∧ t.flag (F.CH_FAULT_CT n) = true ∧ t.fget (F.CH_CTCNT_TRIPS n) = min (s.fget (F.CH_CTCNT_TRIPS n) + 1) 65535
      ∧ (s.flag (F.CH_STATE_SS n) = true → t.flag (F.CH_FAULT_SS n) = true
          ∧ (s.fget (F.CH_FAULT_FIRST n) = 0 → t.fget (F.CH_FAULT_FIRST n) = 8))
      ∧ (s.flag (F.CH_STATE_SS n) = false → s.fget (F.CH_FAULT_FIRST n) = 0 → t.fget (F.CH_FAULT_FIRST n) = 6))
  ∧ ∀ (s : State) (n : Fin 128), (s.lane1 n).p.ctOpen = true → (s.lane1 n).p.ctLow = true →
    ∃ u o, exec (.ctEstimateClose n) s = .next (u.raiseOcc o) ∧ o.num = 2 * n.val ∧ o.stamp = (s.lane1 n).p.ctAt
      ∧ o.required = true
      ∧ o.sev = (if s.eff (F.CT_EMAX_EMAX n) * 10 ^ 19 < (s.lane1 n).p.ctSum then 3 else 2)
      ∧ u.flag (F.CH_FAULT_EMAX n) = (s.flag (F.CH_FAULT_EMAX n)
          || decide (s.eff (F.CT_EMAX_EMAX n) * 10 ^ 19 < (s.lane1 n).p.ctSum))
      ∧ u.fget (F.CH_CTLAST_EEST n) = min ((s.lane1 n).p.ctSum / 10 ^ 18) (2 ^ 24 - 1)
      ∧ u.fget (F.CH_CTLAST_NSMP n) = min (s.lane1 n).p.ctSmp 255
      ∧ u.flag (F.CH_STATE_OSWC n) = false ∧ (u.lane1 n).p.ctOpen = false ∧ (u.lane1 n).p.ctSum = 0
      ∧ Only s u [.CH_CTLAST n, .CH_FAULT n, .CH_STATE n] ∧ u.mem = s.mem ∧ ∀ m, m ≠ n → u.lane1 m = s.lane1 m

/-- R156, R157, R170–R175, R181: a due DCIR capture writes its result to its register and to CH_DCIR, its parts and status beside it,
and is gone; a capture cut short by the close delivers the marker with CLOSED; an impedance run whose step starts is bound to it, and one whose last sample can have come releases the context and
shows its two numbers in its registers and in CH_EIS_RE and IM, the marker in both when more than a quarter of the samples were
omitted; a ready slope shows in CH_DVDT and serves port 7. R8, R28, R165, R167, R177, R178: the slow metrics. A due posting of the
regression, that of a close once its last sample can have come, puts one entry in the channel's record queue and starts its interval anew; the aging sample of a whole second is the
mean of that second's samples, and the second's sums begin anew; a written lifetime counter takes the written 64 bits and loses
its fraction, the other keeps both. -/
def Obligations.MetricsAndCountersDeliver : Prop :=
  ((∀ (s : State) (n : Fin 128) (c : Capture), s.live (.chan n) = true → (s.lane1 n).k.caps = [c] → c.due s.ctr = true →
    ∃ t, exec (.dcirCapture n) s = .next t ∧ (t.lane1 n).x.g[c.dest] = (s.dcirValue n c).1
      ∧ t.word (.CH_DCIR n) = (s.dcirValue n c).1 ∧ t.word (.CH_DCDV n) = (s.dcirValue n c).2.1
      ∧ t.word (.CH_DCDI n) = (s.dcirValue n c).2.2.1
      ∧ t.word (.CH_DCST n) = BitVec.ofNat 32 (c.delay + (s.dcirValue n c).2.2.2 * 2 ^ 16)
      ∧ (t.lane1 n).k.caps = [] ∧ Only s t [.CH_DCIR n, .CH_DCDV n, .CH_DCDI n, .CH_DCST n, .CH_PCNT n] ∧ t.mem = s.mem
      ∧ ∀ m, m ≠ n → t.lane1 m = s.lane1 m)
  ∧ (∀ (s : State) (n : Fin 128) (c : Capture), c.cut = true → (s.dcirValue n c).1 = badMark ∧ (s.dcirValue n c).2.2.2 = 8)
  ∧ (∀ (s : State) (n : Fin 128) (e : EisRun) (a : Nat), (s.lane1 n).k.eis = some e → e.ts = some a →
    e.until_ + e.lag ≤ s.ctr → e.ra ≠ e.rb →
    ∃ t, exec (.eisLockinDone n) s = .next t ∧ (t.lane1 n).k.eis = none ∧ (t.lane1 n).x.susp = .none
      ∧ t.word (.CH_EIS_F n) = BitVec.ofNat 32 e.freq ∧ t.word (.CH_EIS_RE n) = (t.lane1 n).x.g[e.ra]
      ∧ t.word (.CH_EIS_IM n) = (t.lane1 n).x.g[e.rb]
      ∧ (e.seen < 4 * e.omitted → t.word (.CH_EIS_RE n) = badMark ∧ t.word (.CH_EIS_IM n) = badMark)
      ∧ Only s t [.CH_EIS_F n, .CH_EIS_RE n, .CH_EIS_IM n, .CH_EIS_IA n, .CH_EIS_Q n, .CH_PSTAT n, .CH_PCNT n] ∧ t.mem = s.mem)
  ∧ (∀ e : EisRun, e.lag = if e.freq < 50000 then 400000 else 15000)
  ∧ (∀ (s : State) (n : Fin 128) (e : EisRun) (st : OpenStep) (a : Nat), (s.lane1 n).k.eis = some e → e.ts = none →
    (s.lane1 n).x.step = some st → st.start = some a →
    ∃ t, exec (.eisLockinDone n) s = .next t ∧ (t.lane1 n).k.eis = some (e.bind a s.ctr) ∧ Only s t [] ∧ t.mem = s.mem)
  ∧ (∀ (s : State) (n : Fin 128) (a : Nat) (v : Int), (s.lane1 n).k.dvReady = some (a, some v) → a ≤ s.ctr →
    ∃ t, exec (.dvdtWindowResult n) s = .next t ∧ (t.lane1 n).k.slope = v ∧ t.word (.CH_DVDT n) = wordOf v
      ∧ (t.lane1 n).x.dvNew = true ∧ (t.lane1 n).k.dvReady = none ∧ Only s t [.CH_DVDT n] ∧ t.mem = s.mem
      ∧ ∀ m, m ≠ n → t.lane1 m = s.lane1 m)
  ∧ ∀ (s : State) (n : Fin 128) (a : Nat), (s.lane1 n).k.dvReady = some (a, none) → a ≤ s.ctr →
    ∃ t, exec (.dvdtWindowResult n) s = .next t ∧ (t.lane1 n).k.slope = (s.lane1 n).k.slope ∧ (t.lane1 n).k.dvReady = none
      ∧ Only s t [] ∧ t.mem = s.mem)
  ∧ ((∀ (s : State) (n : Fin 128), ((s.lane1 n).k.ocv.postDue = true ∧ (s.lane1 n).k.ocv.closeAt + 400000 < s.ctr)
      ∨ (s.flag (F.CH_OCVCTL_ACTIVE n) = true ∧ (s.pmode = mdRUN ∨ s.pmode = mdSTANDBY) ∧ (s.lane1 n).k.ocv.lastPost + 600000000000 ≤ s.ctr) →
    (s.lane1 n).x.recQ.length ≤ 16 →
    ∃ t, exec (.regressionPost n) s = .next t ∧ (t.lane1 n).k.ocv.postDue = false ∧ (t.lane1 n).k.ocv.lastPost = s.ctr
      ∧ (t.lane1 n).x.recQ.length = min 16 ((s.lane1 n).x.recQ.length + 1)
      ∧ Only s t [.CH_PCNT n] ∧ t.mem = s.mem ∧ ∀ m, m ≠ n → t.lane1 m = s.lane1 m)
  ∧ (∀ s : State, ∃ t, exec .agingSample s = .next t ∧ t.mem = s.mem
      ∧ ∀ n v, (s.lane1 n).m.secMean = some v → (s.lane1 n).m.ms.stamp % 1000000000 = 0 →
        (t.lane1 n).m.aging = some v ∧ (t.lane1 n).m.agAt = (s.lane1 n).m.ms.stamp ∧ (t.lane1 n).m.secN = 0 ∧ (t.lane1 n).m.secSum = 0)
  ∧ ∀ (s : State) (n : Fin 128) (e : Bool) (v : BitVec 64),
    ∃ t, exec (.counterWrite n e v) s = .next t ∧ t.status = stOk
      ∧ (if e then t.word64 (.CH_WH n) (.CH_WHH n) else t.word64 (.CH_AH n) (.CH_AHH n)) = v.toNat
      ∧ (if e then (t.lane1 n).k.whAcc else (t.lane1 n).k.ahAcc) = 0
      ∧ (if e then (t.lane1 n).k.ahAcc else (t.lane1 n).k.whAcc) = (if e then (s.lane1 n).k.ahAcc else (s.lane1 n).k.whAcc)
      ∧ Only s t (if e then [.CH_WH n, .CH_WHH n] else [.CH_AH n, .CH_AHH n]) ∧ t.mem = s.mem
      ∧ ∀ m, m ≠ n → t.lane1 m = s.lane1 m)

/-- R414–R417, R424: the self-test's own commands. A slice of the SRAM test that passes moves SLICE and COVER on, the last one of a
pass begins anew and counts it; a failed one takes a spare row while one is left, and counts in BT_FAIL1; the write test moves to
the next of 960 rows and marks a failed one, with event 459; an output that fails in four consecutive cycles, an edge missing or
more than 1 ns off in each, sets its bit, raises event 461 and trips its channel with STG, or stops its auxiliary converter. R201, R204, R206, R209: the spare's test and acquisition. A slice of the shadowing spare that has ended shows
in CS_STAT: passed it counts; failed it sends the spare back to the full LBIST with the shelf context frozen; a full LBIST passed
within 60 ms lets it acquire its group, any other retires it for good with event 458; and once the group is mirrored it shadows,
its first slice 50 ms on. -/
def Obligations.SelfTestsOfMemoryPwmAndSpare : Prop :=
  ((∀ s : State, s.testRuns = true → s.flag F.BT_CTL_SRAMEN = true → s.flag F.TS_STAT_THR = false →
    s.reached s.tst.sramAt = true → s.fget F.BT_SRAM_SLICE + 1 < 12288 →
    ∃ t, exec (.sramSlice true) s = .next t ∧ t.fget F.BT_SRAM_SLICE = s.fget F.BT_SRAM_SLICE + 1
      ∧ t.fget F.BT_SRAM_COVER = (s.fget F.BT_SRAM_SLICE + 1) * 100 / 12288 ∧ t.tst.sramAt = s.time + 100 * ms
      ∧ t.fget F.BT_SRAM_PASSES = s.fget F.BT_SRAM_PASSES ∧ t.fget F.BT_SRAMT_DUR ≤ 40
      ∧ Only s t [.BT_SRAM, .BT_SRAMT] ∧ t.mem = s.mem ∧ t.ch = s.ch)
  ∧ (∀ s : State, s.testRuns = true → s.flag F.BT_CTL_SRAMEN = true → s.flag F.TS_STAT_THR = false →
    s.reached s.tst.sramAt = true → s.fget F.BT_SRAM_SLICE = 12287 →
    ∃ t, exec (.sramSlice true) s = .next t ∧ t.fget F.BT_SRAM_SLICE = 0 ∧ t.fget F.BT_SRAM_COVER = 0
      ∧ t.fget F.BT_SRAM_PASSES = (s.fget F.BT_SRAM_PASSES + 1) % 256 ∧ Only s t [.BT_SRAM, .BT_SRAMT] ∧ t.mem = s.mem)
  ∧ (∀ s : State, s.testRuns = true → s.flag F.BT_CTL_SRAMEN = true → s.flag F.TS_STAT_THR = false →
    s.reached s.tst.sramAt = true →
    ∃ t, exec (.sramSlice false) s = .next t ∧ t.fget F.BT_REPAIR_SSPARE = s.fget F.BT_REPAIR_SSPARE - 1
      ∧ t.flag F.BT_FAIL0_REPAIRED = decide (s.fget F.BT_REPAIR_SSPARE ≠ 0) ∧ t.flag F.BT_FAIL0_MEM = false
      ∧ t.fget F.BT_FAIL1_COUNT = min (s.fget F.BT_FAIL1_COUNT + 1) 255 ∧ t.mem = s.mem ∧ t.ch = s.ch)
  ∧ (∀ s : State, s.testRuns = true → s.flag F.BT_CTL_MWTEN = true → s.flag F.TS_STAT_THR = false →
    s.reached s.tst.rowAt = true →
    (∃ t, exec (.mramWriteTest true) s = .next t ∧ t.fget F.BT_MRAMT_WTROWS = (s.fget F.BT_MRAMT_WTROWS % 960 + 1) % 960
      ∧ Only s t [.BT_MRAMT] ∧ t.mem = s.mem)
    ∧ ∃ u, exec (.mramWriteTest false) s = .next (u.raise 459 1)
      ∧ u.fget F.BT_MRAMT_WTROWS = (s.fget F.BT_MRAMT_WTROWS % 960 + 1) % 960
      ∧ s.fget F.BT_MRAMT_WTROWS % 960 ∈ u.tst.badRows ∧ u.flag F.BT_FAIL0_MEM = true
      ∧ Only s u [.BT_MRAMT, .BT_FAIL0, .BT_FAIL1] ∧ u.mem = s.mem)
  ∧ (∀ (s : State) (w : Fin 9) (b : Fin 32) (err : Vector (Option Nat) 4), s.testRuns = true → s.flag F.BT_CTL_PWMEN = true →
    w.val < 8 → err.toList.all edgeBad = true →
    ∃ u, exec (.pwmLoopbackFail w b err) s = .next ((u.raise 461 2).trip (Fin.ofNat 128 (16 * w.val + b.val / 2)) [8] 0)
      ∧ (u.word (.BT_PWMF w)).getLsbD b.val = true ∧ Only s u [.BT_PWMF w] ∧ u.mem = s.mem ∧ u.ch = s.ch)
  ∧ (∀ (s : State) (b : Fin 32) (err : Vector (Option Nat) 4), s.testRuns = true → s.flag F.BT_CTL_PWMEN = true → b.val < 6 →
    err.toList.all edgeBad = true →
    ∃ u, exec (.pwmLoopbackFail 8 b err) s = .next ((u.raise 461 2).auxOff (Fin.ofNat 4 (b.val / 2)))
      ∧ (u.word (.BT_PWMF 8)).getLsbD b.val = true ∧ Only s u [.BT_PWMF 8] ∧ u.mem = s.mem ∧ u.ch = s.ch)
  ∧ (∀ (s : State) (w : Fin 9) (b : Fin 32) (err : Vector (Option Nat) 4), err.toList.all edgeBad = false →
    exec (.pwmLoopbackFail w b err) s = .next s)
  ∧ edgeBad none = true ∧ ∀ ps : Nat, edgeBad (some ps) = decide (1000 < ps))
  ∧ ((∀ (s : State) (c : Fin 17), s.spareCl = some c → s.shadowing = true → s.spare.sliceEnd = true →
    (∃ t, exec (.lbistSlice true) s = .next t ∧ t.flag (F.CS_STAT_LAST c) = true ∧ t.flag (F.CS_STAT_NONE c) = false
      ∧ t.fget (F.CS_STAT_COVER c) = max (s.fget (F.CS_STAT_COVER c)) (min 100 ((s.spare.slices + 1) * 100 / 4096))
      ∧ t.spare.slices = s.spare.slices + 1 ∧ t.spare.sliceEnd = false ∧ t.spare.ended[c] = some s.time ∧ Only s t [.CS_STAT c] ∧ t.mem = s.mem ∧ t.ch = s.ch)
    ∧ ∃ t, exec (.lbistSlice false) s = .next t ∧ t.flag (F.CS_STAT_LAST c) = false ∧ t.fget F.CS_SPARE_SST = 1
      ∧ t.flag F.CS_SPARE_FRESH = false ∧ t.flag F.CS_SPARE_SHFRZ = true ∧ t.fget (F.CS_STAT_ROLE c) = 2
      ∧ t.fget (F.CS_STAT_FAILS c) = min (s.fget (F.CS_STAT_FAILS c) + 1) 255 ∧ Only s t [.CS_STAT c, .CS_SPARE] ∧ t.mem = s.mem)
  ∧ (∀ (s : State) (p : Bool), s.spare.sliceEnd = false → exec (.lbistSlice p) s = .next s)
  ∧ (∀ (s : State) (c : Fin 17), s.spareCl = some c → s.fget F.CS_SPARE_SST = 1 → s.spare.bridge = none →
    (s.lbistInTime = true →
      ∃ t, exec (.fullLbistDone true) s = .next t ∧ t.fget F.CS_SPARE_SST = 2 ∧ t.fget (F.CS_STAT_ROLE c) = 1
      ∧ t.fget (F.CS_STAT_COVER c) = max (s.fget (F.CS_STAT_COVER c)) 100 ∧ t.spare.thaw = true
      ∧ t.spare.rotN = (if s.spare.taking then 0 else s.spare.rotN) ∧ Only s t [.CS_STAT c, .CS_SPARE] ∧ t.mem = s.mem)
    ∧ (s.lbistInTime = false → exec (.fullLbistDone true) s = exec (.fullLbistDone false) s)
    ∧ ∃ u, exec (.fullLbistDone false) s = .next (u.raise 458 3) ∧ u.fget F.CS_SPARE_SST = 0 ∧ u.fget F.CS_SPARE_SPARE = 31
      ∧ u.fget (F.CS_STAT_ROLE c) = 3 ∧ u.flag F.CS_SPARE_ROTSTOP = true ∧ Only s u [.CS_STAT c, .CS_SPARE] ∧ u.mem = s.mem)
  ∧ (∀ s : State, s.fget F.CS_SPARE_SST = 2 →
    ∃ t, exec .spareAcquired s = .next t ∧ t.fget F.CS_SPARE_SST = 3 ∧ t.spare.sliceAt = s.time + 50 * ms ∧ Only s t [.CS_SPARE] ∧ t.mem = s.mem ∧ t.ch = s.ch)
  ∧ ∀ s : State, s.fget F.CS_SPARE_SST ≠ 2 → exec .spareAcquired s = .next s)

/-- R202–R207, R209: the spare serves. A mismatch in a group finds BRIDGE on its RUN channels where the spare was fresh as the period
began and no takeover has displaced it (notes/assumptions/167.md), and PARKED with CLU otherwise; SPARE_TAKEOVER returns them to RUN,
gives the group to the spare and the spare role to the cluster it frees, which starts its full LBIST; a due rotation, not at the
boundary of a mismatch, is the same handover and counts no takeover; ROTNOW asks for one; RETGO retires the cluster that holds the
spare role and answers BUSY for any other, and while a takeover bridges (notes/assumptions/168.md). -/
def Obligations.SpareTakesOver : Prop :=
  (∀ (s : State) (k : Fin 16) (c : Fin 17), s.spare.mism = some k → s.spare.fresh0 = true → s.spareCl = some c →
    s.spare.displaced[c] = false → s.mismBoundary.spare.bridge = some k ∧ ∀ n ∈ groupChans k, (s.mismBoundary.lane1 n).l.dutyNext = none
      ∧ s.mismBoundary.chState n = if s.chState n = stRUN then stBRIDGE else s.chState n)
  ∧ (∀ (s : State) (k : Fin 16), s.spare.mism = some k → s.takesOver = false →
    (∀ m, s.flag (F.CH_GANG_MEMBER m) = true → s.chState m = stFOLLOW ∨ s.chState m = stPARKED ∨ s.chState m = stABSENT) →
    ∀ n ∈ groupChans k, s.chState n = stRUN ∨ s.chState n = stSTOP ∨ s.chState n = stBRIDGE →
      s.mismBoundary.chState n = stPARKED ∧ s.mismBoundary.flag (F.CH_FAULT_CLU n) = true)
  ∧ (∀ (s : State) (k : Fin 16) (c : Fin 17), s.spare.bridge = some k → s.spareCl = some c →
    ∃ t, exec .spareTakeover s = .next t ∧ t.fget (mapFld k) = c.val ∧ t.spare.bridge = none
      ∧ (∀ n ∈ groupChans k, t.chState n = if s.chState n = stBRIDGE then stRUN else s.chState n)
      ∧ t.fget F.CS_SPARE_SPARE = (Fin.ofNat 17 (s.fget (mapFld k))).val ∧ t.fget F.CS_SPARE_SST = 1
      ∧ t.spare.displaced[(Fin.ofNat 17 (s.fget (mapFld k)))] = true ∧ t.spare.taking = true
      ∧ t.flag F.CS_SPARE_SHFRZ = true ∧ t.fget F.CS_SPARE_TAKEOVERS = min (s.fget F.CS_SPARE_TAKEOVERS + 1) 255
      ∧ t.fget (F.CS_STAT_ROLE (Fin.ofNat 17 (s.fget (mapFld k)))) = 2 ∧ t.mem = s.mem ∧ t.ch = s.ch)
  ∧ (∀ (s : State) (c : Fin 17), s.spareCl = some c → s.rotDue = true → s.spareFresh = true → s.shadowing = true →
    s.spare.shadowed = true → s.spare.mism = none → s.spare.bridge = none → s.spare.mismAt ≠ some s.ctr → s.mayServe c = true →
    s.flag F.CS_SPARE_ROTSTOP = false →
    ∃ t, exec .spareRotation s = .next t ∧ t = s.handOver s.spareGroup c ∧ t.fget (mapFld s.spareGroup) = c.val
      ∧ t.spare.taking = true ∧ t.spare.rotReq = false ∧ t.fget F.CS_SPARE_SST = 1
      ∧ t.fget F.CS_SPARE_TAKEOVERS = s.fget F.CS_SPARE_TAKEOVERS ∧ t.mem = s.mem ∧ t.ch = s.ch)
  ∧ (∀ s : State, s.rotDue = false ∨ s.spareFresh = false ∨ s.spare.mismAt = some s.ctr → exec .spareRotation s = .next s)
  ∧ (∀ s : State, ∃ t, exec .rotnow s = .next t ∧ t.status = stOk ∧ t.spare.rotReq = true ∧ t.rotDue = true ∧ Only s t []
    ∧ t.mem = s.mem)
  ∧ (∀ (s : State) (c : Fin 17), s.spareCl = some c → s.spare.bridge = none →
    ∃ t, exec (.retgo (Fin.ofNat 32 c.val)) s = .next t ∧ t.status = stOk ∧ t.fget F.CS_SPARE_SST = 0
      ∧ t.fget F.CS_SPARE_SPARE = 31 ∧ t.fget (F.CS_STAT_ROLE c) = 3 ∧ OnlyEv s t [.CS_STAT c, .CS_SPARE] ∧ t.mem = s.mem)
  ∧ ∀ (s : State) (k : Fin 32), s.spare.bridge ≠ none ∨ (∀ c, s.spareCl = some c → c.val ≠ k.val) →
    exec (.retgo k) s = .next (s.answer stBusy)

/-- R184–R190, R197, R208: the lantern's slot. When the slot before has run its length, a new one begins with the channel the host
named in NEXT, or with a repeat that waits, or with the tour's next channel, its index in LN_POS and its reference return started;
with the tour off the lane rests at PHASE 0; an adoption's return takes the references instead. The return reads its positions 50 ms
each: the offset and gain hold from REFIN on, and it is over at 200 ms. Then the crossbar connects the channel, its settle window
begun, and a tour that has wrapped counts. R193, R194: the lantern's result and commit. Once its last pair has come, the result shows
the visited channel, its band and the two outcomes, and its corrections wait; at the next boundary each waiting correction is put
into its entry of the active table, and no other entry changes; with a SWAP on that boundary they are dropped, with outcome 4 for
each quantity that had one, and the tables stay. -/
def Obligations.LanternSlotsAndCorrections : Prop :=
  ((∀ (s : State) (r : LaneRefs), s.slotDue = true → s.flag F.LN_CFG_TOUR = true → s.flag F.LN_POS_NEXTV = true →
    s.visitable (Fin.ofNat 128 (s.fget F.LN_POS_NEXT)) = true → s.pmode ≠ mdAGING →
    ∃ t, exec (.lanternSlotStart r) s = .next t ∧ t.lane.visit.map Visit.n = some (Fin.ofNat 128 (s.fget F.LN_POS_NEXT))
      ∧ t.lane.visit.map Visit.byNext = some true ∧ t.lane.visit.map Visit.t0 = some s.ctr
      ∧ t.lane.visit.map Visit.open_ = some (s.ctr + 300000000)
      ∧ t.lane.visit.map Visit.close = some (s.ctr + s.fget F.LN_DWELL_DWELL * 10000000) ∧ t.lane.visit.map Visit.conn = some false
      ∧ t.fget F.LN_POS_POS = s.fget F.LN_POS_NEXT ∧ t.flag F.LN_POS_NEXTV = false ∧ t.fget F.LN_STAT_PHASE = 1
      ∧ t.lane.conn = none ∧ t.lane.tour = s.lane.tour ∧ t.lane.refAt = some s.ctr ∧ t.lane.refs = r ∧ t.mem = s.mem)
  ∧ (∀ (s : State) (r : LaneRefs) (n : Fin 128) (k : Nat) (conf : Bool), s.slotDue = true → s.flag F.LN_CFG_TOUR = true →
    s.flag F.LN_POS_NEXTV = false → s.lane.again = [(n, k + 1, conf)] → s.visitable n = true →
    ∃ t, exec (.lanternSlotStart r) s = .next t ∧ t.lane.visit.map Visit.n = some n ∧ t.lane.visit.map Visit.reps = some (k + 1)
      ∧ t.lane.visit.map Visit.confirm = some conf ∧ t.flag F.LN_STAT_REPEAT = true ∧ t.lane.again = []
      ∧ t.lane.tour = s.lane.tour ∧ t.lane.refAt = some s.ctr ∧ t.mem = s.mem)
  ∧ (∀ (s : State) (r : LaneRefs) (n : Fin 128), s.slotDue = true → s.flag F.LN_CFG_TOUR = true → s.flag F.LN_POS_NEXTV = false →
    s.lane.again = [] → s.pmode ≠ mdAGING → s.tourFrom s.lane.tour = some n →
    ∃ t, exec (.lanternSlotStart r) s = .next t ∧ t.lane.visit.map Visit.n = some n ∧ t.lane.visit.map Visit.byNext = some false
      ∧ t.lane.visit.map Visit.range = some (s.fget (F.CH_MSTAT_IRANGE n)) ∧ t.fget F.LN_POS_POS = n.val
      ∧ t.fget F.LN_STAT_PHASE = 1 ∧ t.flag F.LN_STAT_REPEAT = false
      ∧ t.lane.conn = none ∧ t.lane.tour = Fin.ofNat 128 (n.val + 1) ∧ t.lane.refAt = some s.ctr ∧ t.mem = s.mem)
  ∧ (∀ (s : State) (r : LaneRefs), s.slotDue = true → s.flag F.LN_CFG_TOUR = false → s.flag F.LN_ADOPT_ACT = false →
    ∃ t, exec (.lanternSlotStart r) s = .next t ∧ t.fget F.LN_STAT_PHASE = 0 ∧ t.lane.visit = none ∧ t.lane.conn = none
      ∧ t.lane.again = [] ∧ t.lane.refAt = none ∧ t.mem = s.mem)
  ∧ (∀ (s : State) (r : LaneRefs), s.adoptDue = true →
    ∃ t, exec (.lanternSlotStart r) s = .next t ∧ t.lane.refAt = some s.ctr ∧ t.lane.refs = r ∧ t.fget F.LN_STAT_PHASE = 1
      ∧ t.mem = s.mem)
  ∧ (∀ (s : State) (a : Nat), s.lane.refAt = some a → s.ctr < a + 200000000 →
    s.refBoundary.fget F.LN_STAT_PHASE = 1 + (s.ctr - a) / 50000000 ∧ s.refBoundary.lane.refAt = some a)
  ∧ (∀ (s : State) (a : Nat), s.lane.refAt = some a → a + 100000000 ≤ s.ctr → s.lane.refs.vz < s.lane.refs.vr →
    s.lane.refs.iz < s.lane.refs.ir →
    s.refBoundary.lane.vz = s.lane.refs.vz ∧ s.refBoundary.lane.vr = s.lane.refs.vr ∧ s.refBoundary.lane.iz = s.lane.refs.iz
      ∧ s.refBoundary.lane.ir = s.lane.refs.ir ∧ s.refBoundary.lane.refv = s.eff F.LN_REFV_REFV)
  ∧ (∀ (s : State) (a : Nat), s.lane.refAt = some a → a + 200000000 ≤ s.ctr →
    s.refBoundary.lane.refAt = none ∧ s.refBoundary.lane.adoptRef = (s.flag F.LN_ADOPT_EN && !s.flag F.LN_ADOPT_ACT))
  ∧ (∀ (s : State) (v : Visit), s.flag F.LN_ADOPT_EN = false → s.lane.visit = some v → v.conn = false → v.lost = false →
    s.lane.refAt = none → (if v.aging then v.open_ - 20000000 else v.t0 + 200000000) ≤ s.ctr →
    ∃ t, exec .lanternConnect s = .next t ∧ t.lane.conn = some v.n ∧ t.lane.visit = some { v with conn := true, wraps := false }
      ∧ t.fget F.LN_STAT_PHASE = 5 ∧ t.fget F.LN_STAT_TOURS = (s.fget F.LN_STAT_TOURS + v.wraps.toNat) % 65536
      ∧ t.flag (F.CH_MSTAT_XSETTLE v.n) = true ∧ (t.lane1 v.n).m.xsUntil = s.ctr + 20000 ∧ t.mem = s.mem)
  ∧ ∀ s : State, s.flag F.LN_ADOPT_EN = true → s.flag F.LN_ADOPT_ACT = false → s.lane.adoptRef = true →
    ∃ t, exec .lanternConnect s = .next t ∧ t.lane.conn = some (Fin.ofNat 128 (s.fget F.LN_ADOPT_CH))
      ∧ t.fget F.LN_STAT_PHASE = 5 ∧ t.lane.adoptRef = false ∧ t.mem = s.mem)
  ∧ ((∀ (s : State) (v : Visit), s.lane.done = some v → s.pairsIn v = true →
    ∃ t, exec .lanternResult s = .next t ∧ t.lane.done = none ∧ t.fget F.LN_RES0_CH = v.n.val
      ∧ t.fget F.LN_RES0_BAND = v.band % 8 ∧ t.fget F.LN_RES0_VOUT = (s.laneOuts v).1.out
      ∧ (v.aging = false → t.fget F.LN_RES0_IOUT = (s.laneOuts v).2.out)
      ∧ (∀ e, (s.laneOuts v).1.e = some e → t.word .LN_RES1 = wordOf (rdiv 191 e 1000))
      ∧ (∀ e, (s.laneOuts v).2.e = some e → t.word .LN_RES2 = wordOf (rdiv 191 e 1024))
      ∧ t.lane.fixes = (s.laneOuts v).1.fix.toList ++ (s.laneOuts v).2.fix.toList ∧ t.lane.fixAt = s.nextBoundary
      ∧ t.mem = s.mem)
  ∧ (∀ (s : State) (v : Visit), s.lane.done = some v → s.pairsIn v = false → exec .lanternResult s = .next s)
  ∧ (∀ s : State, s.wf = true → s.lane.fixes ≠ [] → s.lane.fixAt ≤ s.ctr → (∀ a, s.lane.swapAt = some a → a < s.lane.fixAt) →
    (s.lane.fixes.map LaneFix.off).Nodup → (∀ f ∈ s.lane.fixes, f.off % 8 = 0 ∧ f.off < 0x10000) →
    ∃ t, exec .lanternCommit s = .next t ∧ t.lane.fixes = []
      ∧ (∀ f ∈ s.lane.fixes, t.calEntryAt (calActive + f.off)
          = (s.calEntryAt (calActive + f.off)).fixed f (decide (f.off / 0x100 % 2 = 0)))
      ∧ (∀ a, a % 8 = 0 → a < 0x10000 → (∀ f ∈ s.lane.fixes, f.off ≠ a) →
          t.calEntryAt (calActive + a) = s.calEntryAt (calActive + a) ∧ t.calEntryAt (calShadow + a) = s.calEntryAt (calShadow + a))
      ∧ (∀ a, a < calActive ∨ calShadow + 0x10000 ≤ a → t.byte a = s.byte a))
  ∧ (∀ (s : State) (a : Nat), s.lane.fixes ≠ [] → s.lane.fixAt ≤ s.ctr → s.lane.swapAt = some a → s.lane.fixAt ≤ a →
    ∃ t, exec .lanternCommit s = .next t ∧ t.lane.fixes = []
      ∧ t.fget F.LN_RES0_VOUT = (if s.lane.fixes.any LaneFix.volt then 4 else s.fget F.LN_RES0_VOUT)
      ∧ t.fget F.LN_RES0_IOUT = (if s.lane.fixes.all LaneFix.volt then s.fget F.LN_RES0_IOUT else 4)
      ∧ t.fget F.LN_CALSEQ_DROPPED = (s.fget F.LN_CALSEQ_DROPPED + 1) % 65536 ∧ t.mem = s.mem)
  ∧ ∀ s : State, s.lane.fixes = [] ∨ s.ctr < s.lane.fixAt → exec .lanternCommit s = .next s)

/-- R197, R198: adoption. EN on an idle channel requests it, gives the lane up, lets the crossbar disconnect at the boundary and
leaves ACT to the lane; once the lane is connected to that channel ACT and ADOPTED rise with event 452 (none after a wake, where
ADOPTED stands already); EN = 0 on an idle channel ends it; a channel in use, and another channel while one is adopted, answer BUSY. -/
def Obligations.AdoptionRequestedAndReleased : Prop :=
  (∀ (s : State) (n : Fin 128), s.flag F.LN_ADOPT_EN = false → s.idle n = true →
    ∃ t, exec (.adoptEnable n) s = .next t ∧ t.status = stOk ∧ t.flag F.LN_ADOPT_EN = true ∧ t.fget F.LN_ADOPT_CH = n.val
      ∧ t.flag F.LN_ADOPT_ACT = s.flag F.LN_ADOPT_ACT ∧ t.lane.drop = true ∧ t.lane.visit = none ∧ t.lane.again = []
      ∧ t.lane.adoptAt = some s.time ∧ t.fget F.LN_STAT_PHASE = 0 ∧ t.mem = s.mem)
  ∧ (∀ s : State, s.lane.drop = true → s.laneBoundary.lane.conn = none ∧ s.laneBoundary.lane.drop = false)
  ∧ (∀ (s : State) (n : Fin 128), s.idle n = false ∨ (s.flag F.LN_ADOPT_EN = true ∧ s.fget F.LN_ADOPT_CH ≠ n.val) →
    exec (.adoptEnable n) s = .next (s.answer stBusy))
  ∧ (∀ (s : State) (n : Fin 128), s.idle n = true → s.flag F.LN_ADOPT_EN = true → s.fget F.LN_ADOPT_CH = n.val →
    exec (.adoptEnable n) s = .next (s.answer stOk))
  ∧ (∀ s : State, s.flag F.LN_ADOPT_EN = true → s.flag F.LN_ADOPT_ACT = false →
    s.lane.conn = some (Fin.ofNat 128 (s.fget F.LN_ADOPT_CH)) →
    ∃ u, exec .adoptActive s = .next (if s.flag F.LN_STAT_ADOPTED then u else u.raise 452 0) ∧ u.flag F.LN_ADOPT_ACT = true
      ∧ u.flag F.LN_STAT_ADOPTED = true ∧ u.fget F.LN_STAT_PHASE = 7
      ∧ u.adopted (Fin.ofNat 128 (s.fget F.LN_ADOPT_CH)) = true ∧ Only s u [.LN_ADOPT, .LN_STAT] ∧ u.mem = s.mem ∧ u.ch = s.ch)
  ∧ (∀ s : State, s.flag F.LN_ADOPT_EN = true → s.idle (Fin.ofNat 128 (s.fget F.LN_ADOPT_CH)) = true →
    ∃ t, exec .adoptRelease s = .next t ∧ t.status = stOk ∧ t.flag F.LN_ADOPT_EN = false ∧ t.flag F.LN_ADOPT_ACT = false
      ∧ t.flag F.LN_STAT_ADOPTED = false ∧ t.lane.drop = true
      ∧ t.lane.tour = Fin.ofNat 128 (s.fget F.LN_ADOPT_CH + 1) ∧ t.mem = s.mem)
  ∧ (∀ s : State, s.flag F.LN_ADOPT_EN = true → s.idle (Fin.ofNat 128 (s.fget F.LN_ADOPT_CH)) = false →
    exec .adoptRelease s = .next (s.answer stBusy))
  ∧ ∀ s : State, s.flag F.LN_ADOPT_EN = false → exec .adoptRelease s = .next (s.answer stOk)

/-- R227–R229, R231–R233, R241, R247: a feed's way up and down. VIN in the entry window, and only there, brings an enabled ABSENT feed
to QUAL; QUAL ms in the window make it READY, and with neither feed busy MODE 0 takes feed A's READY, no FET of it known to be
shorted, to CHECK; a check that passes after its time drives the gate once the other feed is off, turns off one that is ON first,
and one that fails ends in FAULT; a gate enhanced by 10 V without limiting for 1 ms makes RAMP ON and RIDE SERVICE, and gives PG;
VIN below UV for 10 µs or above OV for 1 µs, a reverse current with it out, or the pack carrying DET amperes for 20 µs leaves the
feed ABSENT, and LOCKED at the eighth time within 10 s; the lock-out ends after 60 s. -/
def Obligations.FeedsComeAndGo : Prop :=
  (∀ (s : State) (f : Fin 2) (vin : Int), s.fget (F.FD_FCFG_UV f) * 500000 + 1000000 ≤ vin →
    vin + 1000000 ≤ s.fget (F.FD_FCFG_OV f) * 500000 →
    (s.fsel.enabled = true → s.feedState f = 0 → s.flag (F.FD_FCFG_EN f) = true →
      ∃ t, exec (.vinEnterWindow f vin) s = .next t ∧ t.feedState f = 1 ∧ (t.feed f).inWin = true ∧ t.mem = s.mem ∧ t.ch = s.ch)
    ∧ (s.feedState f ≠ 0 →
      ∃ t, exec (.vinEnterWindow f vin) s = .next t ∧ (t.feed f).inWin = true ∧ Only s t [] ∧ t.mem = s.mem))
  ∧ (∀ (s : State) (f : Fin 2) (vin : Int), s.inEntry f vin = false → exec (.vinEnterWindow f vin) s = .next s)
  ∧ (∀ (s : State) (f : Fin 2), s.feedState f = 1 → (s.feed f).inWin = true →
    s.reached ((s.feed f).since + s.fget F.FD_QUAL_QUAL * ms) = true →
    ∃ t, exec (.feedQualified f) s = .next t ∧ (t.feedState f = 2 ∨ t.feedState f = 3) ∧ t.mem = s.mem ∧ t.ch = s.ch
      ∧ (s.fsel.enabled = false → s.fsel.incoming = none → t.feedState f = 2))
  ∧ (∀ (s : State) (was : Nat), s.fsel.enabled = true → s.fsel.incoming = none → s.eff F.FD_SEL_MODE = 0 → s.tmrBlocks = false →
    s.feedBusy 0 = false → s.feedBusy 1 = false → s.feedReady 0 = true → s.otherOff 0 = false → was ≤ 1 →
    (s.feedEval was).feedState 0 = 3)
  ∧ (∀ (s : State) (f : Fin 2), s.flag (F.FD_FLT_SHIN f) = true ∨ s.flag (F.FD_FLT_SHBUS f) = true → s.feedReady f = false)
  ∧ (∀ (s : State) (f : Fin 2) (v m1 m2 : Int), s.feedState f = 3 → (s.feed f).passed = false →
    s.reached ((s.feed f).since + s.checkTime) = true →
    (2000 < m1 → exec (.feedCheckDone f v m1 m2) s = .next (s.faultFeed f (if (m1 - v).natAbs ≤ 1000 then 2 else 3)))
    ∧ (m1 ≤ 2000 → s.fsel.busUv < 5000000 → m2 * 1000 - s.fsel.busUv < 350000 →
      exec (.feedCheckDone f v m1 m2) s = .next (s.faultFeed f 3)))
  ∧ (∀ (s : State) (f : Fin 2) (v m1 m2 : Int), s.feedState f = 3 → (s.feed f).passed = false →
    s.reached ((s.feed f).since + s.checkTime) = true → checkResult v m1 m2 s.fsel.busUv = none →
    (s.feedBusy (otherFeed f) = false → s.otherOff f = false → s.fetShort f = false →
      ∃ t, exec (.feedCheckDone f v m1 m2) s = .next t ∧ t.feedState f = 4 ∧ t.mem = s.mem ∧ t.ch = s.ch)
    ∧ (s.feedState (otherFeed f) = 5 →
      ∃ t, exec (.feedCheckDone f v m1 m2) s = .next t ∧ t.feedState f = 3 ∧ (t.feed f).passed = true
        ∧ t.feedState (otherFeed f) = 2 ∧ t.flag (F.FD_FSTAT_PG (otherFeed f)) = false ∧ t.otherOff f = true ∧ t.mem = s.mem))
  ∧ (∀ (s : State) (f : Fin 2) (gs : Int) (held : Nat), s.enhanced f gs held = true → s.feedState f = 4 →
    s.eff F.FD_SEL_MODE = 0 → s.fget F.FD_SEL_MODE = 0 →
    ∃ t, exec (.feedOn f gs held) s = .next t ∧ t.feedState f = 5 ∧ t.flag (F.FD_FSTAT_PG f) = true ∧ t.hu.fed = true ∧ t.mem = s.mem
      ∧ (s.shelf = shRIDE → s.time + tCtl < s.hu.rideAt + s.fget F.HU_RIDE_TMAX * sec → t.shelf = shSERVICE))
  ∧ (∀ (s : State) (f : Fin 2) (gs : Int) (held : Nat), s.enhanced f gs held = true → s.feedState f = 5 →
    exec (.feedOn f gs held) s = .next (s.setFlag (F.FD_FSTAT_PG f) true))
  ∧ (∀ (s : State) (f : Fin 2) (gs : Int) (held : Nat),
    s.flag (F.FD_FSTAT_LIM f) = true ∨ gs < 10000000 ∨ held < ms → exec (.feedOn f gs held) s = .next s)
  ∧ (∀ (s : State) (f : Fin 2) (vin : Int) (held : Nat), 1 ≤ s.feedState f → s.feedState f ≤ 5 →
    ((vin < s.fget (F.FD_FCFG_UV f) * 500000 ∧ 10 * us ≤ held) ∨ (s.fget (F.FD_FCFG_OV f) * 500000 < vin ∧ us ≤ held) →
      ∃ t, exec (.vinLeaveWindow f vin held) s = .next t ∧ t = s.vinLeave f ∧ t.mem = s.mem ∧ t.ch = s.ch
        ∧ t.feedState f = (if chatters s.time ((s.time :: (s.feed f).bounces).take 8) then 7 else 0)
        ∧ (t.feed f).bounces = (s.time :: (s.feed f).bounces).take 8)
    ∧ (∀ uv : Int, 4 ≤ s.feedState f → s.reverse f uv = true →
      (s.feed f).inWin = false ∨ s.vinLow f vin = true ∨ s.vinHigh f vin = true →
      exec (.reverseTrip f uv vin) s = .next (s.vinLeave f)))
  ∧ (∀ (s : State) (f : Fin 2) (vin : Int) (held : Nat), s.fget (F.FD_FCFG_UV f) * 500000 ≤ vin →
    vin ≤ s.fget (F.FD_FCFG_OV f) * 500000 → exec (.vinLeaveWindow f vin held) s = .next s)
  ∧ (∀ (s : State) (ua : Int) (held : Nat), s.fget F.HU_STAT_PATH = 3 → (s.fget F.HU_DLIM_DET * 1000000 : Int) ≤ ua →
    20 * us ≤ held →
    (s.feedState 0 = 5 → exec (.pathCurrentLoss ua held) s = .next (s.vinLeave 0))
    ∧ (s.feedState 0 ≠ 5 → s.feedState 1 = 5 → exec (.pathCurrentLoss ua held) s = .next (s.vinLeave 1)))
  ∧ ∀ (s : State) (f : Fin 2), s.feedState f = 7 → s.reached ((s.feed f).since + 60 * sec) = true →
    ∃ t, exec (.feedLockoutEnd f) s = .next t ∧ t.feedState f = 0 ∧ (t.feed f).bounces = [] ∧ t.mem = s.mem ∧ t.ch = s.ch

/-- R227, R230–R236, R240: a feed's faults and what the host does about them. The fault timer, the ramp's time and a reverse current
in the window end in FAULT, its bit latched and the trip counted; the limit in force, which below UV is the pre-charge power limit
too, shows in LIM and takes PG away; a turn-off is confirmed by a gate below 2 V and a current below 2 % of I_RUN, which lets a
passed check of the other feed drive its gate, or latches GATE after 50 µs with its event; clearing every fault bit returns a feed
from FAULT to ABSENT, EN = 0 does so from any state where GL_LOCK is open and answers locked where it is not; a write of FD_SEL
acts at once, or waits while a feed is being brought in. -/
def Obligations.FeedFaultsAndSelection : Prop :=
  (∀ (s : State) (f : Fin 2) (b : Nat), b < 6 → (s.faultFeed f b).feedState f = 6
    ∧ ((s.faultFeed f b).word (.FD_FLT f)).getLsbD b = true
    ∧ (s.faultFeed f b).fget (F.FD_FLT_TRIPS f) = (s.fget (F.FD_FLT_TRIPS f) + 1) % 65536)
  ∧ (∀ (s : State) (f : Fin 2), s.feedState f = 4 → s.reached ((s.feed f).since + 4 * s.fget (F.FD_FCFG_TFLT f) * ms) = true →
    exec (.feedRampTimeout f) s = .next (s.faultFeed f 4))
  ∧ (∀ (s : State) (f : Fin 2), s.feedState f = 4 ∨ s.feedState f = 5 →
    s.fget (F.FD_FCFG_TFLT f) * 16000 ≤ s.feedTimer f (s.time + tCtl) ∨ s.fget (F.FD_FCFG_TFLT f) * 16000 ≤ (s.feed f).tmr →
    exec (.feedFaultTimer f) s = .next (s.faultFeed f 0))
  ∧ (∀ (s : State) (f : Fin 2) (uv vin : Int), s.feedState f = 4 ∨ s.feedState f = 5 → (s.feed f).inWin = true →
    (s.fget (F.FD_ILIM_REV f) * 500 : Int) < -uv → s.vinLow f vin = false → s.vinHigh f vin = false →
    exec (.reverseTrip f uv vin) s = .next (s.faultFeed f 1))
  ∧ (∀ (s : State) (f : Fin 2) (uv vin : Int), -uv ≤ s.fget (F.FD_ILIM_REV f) * 500 → exec (.reverseTrip f uv vin) s = .next s)
  ∧ (∀ (s : State) (f : Fin 2) (on : Bool) (i : Int) (k : Fin 10), s.feedState f = 4 ∨ s.feedState f = 5 →
    (on = true → (s.feedLimit f : Int) ≤ i + s.limitTol f) → (on = false → i ≤ s.feedLimit f + s.limitTol f) →
    ∃ t, exec (.feedCurrentLimiting f on i k) s = .next t ∧ t.flag (F.FD_FSTAT_LIM f) = on
      ∧ t.flag (F.FD_FSTAT_PG f) = (!on && s.flag (F.FD_FSTAT_PG f))
      ∧ (t.feed f).tmr = s.feedTimer f (max (s.feed f).tmrAt (s.time + k.val * us))
      ∧ (t.feed f).tmrAt = max (s.feed f).tmrAt (s.time + k.val * us)
      ∧ t.feedState f = s.feedState f ∧ Only s t [.FD_FSTAT f] ∧ t.mem = s.mem ∧ t.ch = s.ch)
  ∧ (∀ (s : State) (f : Fin 2), s.fget (F.FD_FCFG_UV f) * 500000 ≤ s.fsel.busUv →
    s.feedLimit f = s.fget (F.FD_ILIM_RUN f) * 25 * 10 ^ 9 / s.fget (F.FD_RSH_RSH f))
  ∧ (∀ (s : State) (f : Fin 2), s.fsel.busUv < s.fget (F.FD_FCFG_UV f) * 500000 → s.fsel.busUv < (s.feed f).vin →
    s.feedLimit f = min (s.fget (F.FD_ILIM_RUN f) * 25 * 10 ^ 9 / s.fget (F.FD_RSH_RSH f))
      (s.fget (F.FD_ILIM_PLIM f) * 10 ^ 12 / ((s.feed f).vin - s.fsel.busUv).toNat))
  ∧ (∀ (s : State) (f : Fin 2) (a : Nat) (gs i : Int), (s.feed f).offAt = some a → s.feedState f ≠ 4 → s.feedState f ≠ 5 →
    gs < 2000000 → i.natAbs * s.fget (F.FD_RSH_RSH f) < s.fget (F.FD_ILIM_RUN f) * 500000000 →
    ∃ t, exec (.turnoffConfirmed f gs i) s = .next t ∧ (t.feed f).offAt = none ∧ t.mem = s.mem ∧ t.ch = s.ch
      ∧ (s.feedState (otherFeed f) = 3 → (s.feed (otherFeed f)).passed = true → s.eff F.FD_SEL_MODE = 0 →
          s.fetShort (otherFeed f) = false → t.feedState (otherFeed f) = 4))
  ∧ (∀ (s : State) (f : Fin 2) (gs i : Int),
    2000000 ≤ gs ∨ s.fget (F.FD_ILIM_RUN f) * 500000000 ≤ i.natAbs * s.fget (F.FD_RSH_RSH f) →
    exec (.turnoffConfirmed f gs i) s = .next s)
  ∧ (∀ (s : State) (f : Fin 2) (a : Nat), (s.feed f).offAt = some a → (s.feed f).offLate = false →
    s.reached (a + 50 * us) = true →
    ∃ u, exec (.turnoffTimeout f) s = .next (u.raise (258 + f.val) 2) ∧ u.flag (F.FD_FLT_GATE f) = true
      ∧ (u.feed f).offAt = some a ∧ (u.feed f).offLate = true ∧ Only s u [.FD_FLT f] ∧ u.mem = s.mem)
  ∧ (∀ (s : State) (f : Fin 2) (v : Word), s.feedState f = 6 → bitsOf (s.word (.FD_FLT f) &&& ~~~ v) 0 5 = 0 →
    ∃ t, exec (.feedFaultClear f v) s = .next t ∧ t.feedState f = 0 ∧ (t.feed f).tmr = 0 ∧ t.mem = s.mem ∧ t.ch = s.ch)
  ∧ (∀ (s : State) (f : Fin 2), s.flag F.GL_LOCK_OPEN = true →
    ∃ t, exec (.feedDisable f) s = .next t ∧ t.status = stOk ∧ t.flag (F.FD_FCFG_EN f) = false
      ∧ t.feedState f = 0 ∧ t.mem = s.mem ∧ t.ch = s.ch)
  ∧ (∀ (s : State) (f : Fin 2), s.flag F.GL_LOCK_OPEN = false → exec (.feedDisable f) s = .next (s.answer stLocked))
  ∧ (∀ (s : State) (v : Word), s.fsel.incoming = none →
    exec (.feedSelectWrite v) s = .next ((s.writeReg .FD_SEL v).feedEval s.wasServ))
  ∧ ∀ (s : State) (v : Word) (f : Fin 2), s.fsel.incoming = some f → (s.writeReg .FD_SEL v).word .FD_SEL ≠ s.word .FD_SEL →
    ∃ t, exec (.feedSelectWrite v) s = .next t ∧ t.word .FD_SEL = (s.writeReg .FD_SEL v).word .FD_SEL
      ∧ t.eff F.FD_SEL_MODE = s.eff F.FD_SEL_MODE ∧ t.eff F.FD_SEL_RETA = s.eff F.FD_SEL_RETA ∧ Only s t [.FD_SEL] ∧ t.mem = s.mem

/-- R237–R240: the bus capacitance and the meters. The window of a ramp opens at 0.2 × UV, takes the feed's current at every instant
and is complete at 0.9 × UV. A measurement with a load or with the pack's path conducting in it ends with its reason in LAST and
no result; otherwise C is the charge over the rise, valid, and a value above FD_CMAX sets OVER and parks the shelf. Every metering
instant, of the five a control period has, shows the pack's voltage and current and enters both feeds' sums and the energy counter
of its sign without loss; the 500th publishes the means. -/
def Obligations.CapacitanceAndMetering : Prop :=
  (∀ (s : State) (w : CapWin), s.fsel.cap = some w → w.done = true →
    (w.load = true →
      ∃ t, exec .busCapMeasured s = .next t ∧ t.fget F.FD_CBUS_LAST = 2 ∧ t.fget F.FD_CBUS_FEED = w.f.val
        ∧ t.fget F.FD_CBUS_C = s.fget F.FD_CBUS_C ∧ t.fsel.cap = none ∧ OnlyEv s t [.FD_CBUS] ∧ t.mem = s.mem)
    ∧ (w.load = false → w.pack = true →
      ∃ t, exec .busCapMeasured s = .next t ∧ t.fget F.FD_CBUS_LAST = 3 ∧ t.fget F.FD_CBUS_C = s.fget F.FD_CBUS_C
        ∧ t.fsel.cap = none ∧ OnlyEv s t [.FD_CBUS] ∧ t.mem = s.mem)
    ∧ (w.load = false → w.pack = false →
      ∃ t, exec .busCapMeasured s = .next t ∧ t.fget F.FD_CBUS_LAST = 1 ∧ t.flag F.FD_CBUS_VALID = true
        ∧ t.fget F.FD_CBUS_C = min (rdiv 237 w.q (5 * w.dv.natAbs)).toNat 65535
        ∧ t.flag F.FD_CBUS_OVER = decide (s.fget F.FD_CMAX_CMAX < (rdiv 237 w.q (5 * w.dv.natAbs)).toNat) ∧ t.mem = s.mem
        ∧ (s.fget F.FD_CMAX_CMAX < (rdiv 237 w.q (5 * w.dv.natAbs)).toNat → s.pmode ≠ mdAGING → s.pmode ≠ mdDEEP →
            t.shelf = shSAFE)))
  ∧ (∀ (s : State) (w : CapWin), s.fsel.cap = some w → w.done = false → exec .busCapMeasured s = .next s)
  ∧ (∀ s : State, s.fsel.cap = none → exec .busCapMeasured s = .next s)
  ∧ (∀ (s : State) (w : CapWin) (v i : Int), s.feedState w.f = 4 → w.done = false → w.v0 = some v →
    (s.capTake w i).q = w.q + i ∧ (s.capTake w i).dv = s.fsel.busUv - v
      ∧ (s.capTake w i).done = decide (s.fget (F.FD_FCFG_UV w.f) * 450000 ≤ s.fsel.busUv)
      ∧ (s.capTake w i).load = (w.load || !s.allIdle || !s.auxIdle)
      ∧ (s.capTake w i).pack = (w.pack || decide (s.fget F.HU_STAT_PATH = 3)))
  ∧ (∀ (s : State) (w : CapWin) (i : Int), s.feedState w.f = 4 → w.done = false → w.v0 = none →
    (s.capTake w i).v0 = if s.fget (F.FD_FCFG_UV w.f) * 100000 ≤ s.fsel.busUv then some s.fsel.busUv else none)
  ∧ (∀ (s : State) (x : MeterIn), 5 ≤ s.fsel.sub → exec (.meterUpdate x) s = .next s)
  ∧ (∀ (s : State) (f : Fin 2) (v g : Int), s.flag (F.FD_FSTAT_PG f) = true →
    (s.meterGate f v g).flag (F.FD_FSTAT_PG f) = decide (9000000 ≤ g))
  ∧ (∀ (s : State) (x : MeterIn), s.fsel.sub < 5 → ∃ t, exec (.meterUpdate x) s = .next t ∧ t.fsel.sub = s.fsel.sub + 1
    ∧ t.word .HU_V = wordOf (rdiv 240 x.hv 1000)
    ∧ t.word .HU_I = wordOf (rdiv 240 x.hi 1000) ∧ t.hu.q = s.hu.q + x.hi ∧ t.fsel.busUv = x.bus ∧ t.mem = s.mem
    ∧ (∀ f : Fin 2, (t.feed f).vin = x.vin[f])
    ∧ (499 ≤ s.fsel.n → t.fsel.n = 0 ∧ t.word .FD_BUSV = wordOf (rdiv 239 (s.fsel.busSum + x.bus) 500000)
        ∧ ∀ f : Fin 2, t.word (.FD_V f) = wordOf (rdiv 239 ((s.feed f).vSum + x.vin[f]) 500000)
          ∧ t.word (.FD_I f) = wordOf (rdiv 239 ((s.feed f).iSum + x.i[f]) 500000) ∧ (t.feed f).vSum = 0)
    ∧ (s.fsel.n < 499 → t.fsel.n = s.fsel.n + 1 ∧ t.word .FD_BUSV = s.word .FD_BUSV))
  ∧ ∀ (s : State) (f : Fin 2) (p : Int), 0 ≤ p →
    ((s.meterEnergy f p).word64 (.FD_EIN f) (.FD_EINH f) * 2 ^ 32 + ((s.meterEnergy f p).feed f).inFrac) % 2 ^ 96
      = (s.word64 (.FD_EIN f) (.FD_EINH f) * 2 ^ 32 + (s.feed f).inFrac + (rdiv 239 ((p.natAbs : Int) * 2 * 2 ^ 32) (10 ^ 15)).toNat)
        % 2 ^ 96
    ∧ (s.meterEnergy f p).word64 (.FD_EOUT f) (.FD_EOUTH f) = s.word64 (.FD_EOUT f) (.FD_EOUTH f)

/-- R248–R250, R257, R267: RIDE and its end. The entry of HALT makes every RUN channel stop with source 2, stops the shelf program and
the charger and sets GL_STATE; it follows from the ride timer, from HU_V below VHALT for 1 ms, from HU_CTL.HALT, from UVCUT (HU_V
below N × V_cut for 1 ms), from a discharge limit that has held for TLIM, and from a pack found missing or shorted, in RIDE and only
there; the last ones leave their own fault and take the path away in every state. A channel in BRIDGE stops too, once it is back in
RUN. HALT is complete, and becomes SAFE with cause 0x04, when every channel
rests and the records and the snapshot are written. A pack that is back is present again. -/
def Obligations.RideEndsInHalt : Prop :=
  (∀ s : State, s.haltEntry.shelf = shHALT ∧ s.haltEntry.fget F.HU_STAT_CHG = 0 ∧ s.haltEntry.flag F.CS_SHSTAT_RUN = false
    ∧ s.haltEntry.hu.haltAt = s.time ∧ s.haltEntry.mem = s.mem
    ∧ ∀ n, s.haltEntry.chState n = s.chState n
      ∧ (s.chState n = stRUN ∨ s.chState n = stBRIDGE → (s.haltEntry.lane1 n).x.stopPend = some 2))
  ∧ (∀ s : State, s.shelf = shRIDE → (s.heldFor s.hu.haltLow ms = true → exec .haltVoltage s = .next s.haltEntry)
      ∧ exec .huCtlHalt s = .next (s.haltEntry.answer stOk)
      ∧ (s.hu.rideAt + s.fget F.HU_RIDE_TMAX * sec ≤ s.time → exec .rideTimerExpiry s = .next s.haltEntry))
  ∧ (∀ s : State, s.heldFor s.hu.haltLow ms = false → exec .haltVoltage s = .next s)
  ∧ (∀ (s : State) (hv hi : Int), (s.packTake hv hi).haltLow
      = (if hv < s.fget F.HU_STRAP_N * (250 + s.fget F.HU_RIDE_VHALT) * 10000 then some (s.hu.haltLow.getD s.time) else none)
    ∧ (s.packTake hv hi).cutAt = (if hv < s.fget F.HU_STRAP_N * s.hu.vcut * 10000 then some (s.hu.cutAt.getD s.time) else none)
    ∧ (s.packTake hv hi).goneAt = (if hv < 10000000 then some (s.hu.goneAt.getD s.time) else none))
  ∧ (∀ s : State, s.shelf ≠ shRIDE → exec .haltVoltage s = .next s ∧ exec .huCtlHalt s = .next (s.answer stOk)
      ∧ exec .rideTimerExpiry s = .next s)
  ∧ (∀ s : State, s.shelf = shHALT → s.allIdle = true → s.vault.queue = [] → s.cellar.snap = none → s.pmode ≠ mdAGING →
    s.pmode ≠ mdDEEP →
    ∃ t, exec .haltComplete s = .next t ∧ t.shelf = shSAFE ∧ t.fget F.GL_SAFE_CAUSE = 4 ∧ t.flag F.GL_SAFE_ACTIVE = true)
  ∧ (∀ s : State, s.fget F.HU_STAT_PATH = 2 ∨ s.fget F.HU_STAT_PATH = 3 → s.heldFor s.hu.cutAt ms = true →
    ∃ t, exec .holdupUvcut s = .next t ∧ t.flag F.HU_FLT_UVCUT = true ∧ t.fget F.HU_STAT_PATH = 0
      ∧ t.flag F.HU_STAT_LIM = false ∧ t.shelf = (if s.shelf = shRIDE then shHALT else s.shelf) ∧ t.mem = s.mem)
  ∧ (∀ (s : State) (a : Nat), s.hu.limAt = some a → s.hu.limDone = false →
    s.reached (a + s.fget F.HU_DLIM_TLIM * ms) = true →
    ∃ t, exec .dischargeLimitExpiry s = .next t ∧ t.flag F.HU_FLT_DLIM = true ∧ t.hu.limDone = true
      ∧ t.fget F.HU_STAT_PATH = s.fget F.HU_STAT_PATH ∧ t.shelf = (if s.shelf = shRIDE then shHALT else s.shelf) ∧ t.mem = s.mem)
  ∧ (∀ s : State, s.hu.missing = false → s.heldFor s.hu.goneAt (10 * ms) = true ∨ s.hu.tsOpen = true ∨ s.hu.rise = true →
    ∃ t, exec .packMissing s = .next t ∧ t.flag F.HU_STAT_PRESENT = false ∧ t.flag F.HU_FLT_MISS = true ∧ t.hu.missing = true
      ∧ t.fget F.HU_STAT_PATH = 0 ∧ t.fget F.HU_STAT_CHG = 0 ∧ t.shelf = (if s.shelf = shRIDE then shHALT else s.shelf)
      ∧ t.mem = s.mem)
  ∧ (∀ s : State, s.hu.hv < 2000000 → 1000000 < s.hu.hi → s.flag F.HU_FLT_SHORT = false →
    ∃ t, exec .packShorted s = .next t ∧ t.flag F.HU_FLT_SHORT = true ∧ t.fget F.HU_STAT_PATH = 0
      ∧ t.fget F.HU_STAT_CHG = (if s.shelf = shRIDE then 0 else 6) ∧ t.shelf = (if s.shelf = shRIDE then shHALT else s.shelf)
      ∧ t.mem = s.mem)
  ∧ ∀ s : State, 10000000 ≤ s.hu.hv → s.packTemp = true → s.flag F.HU_STAT_PRESENT = false →
    ∃ t, exec .packPresent s = .next t ∧ t.flag F.HU_STAT_PRESENT = true ∧ t.hu.missing = false
      ∧ t.flag F.HU_FLT_TSAFE = (!s.hu.missing && s.flag F.HU_FLT_TSAFE) ∧ Only s t [.HU_STAT, .HU_FLT] ∧ t.mem = s.mem ∧ t.ch = s.ch

/-- R245, R246, R251: the discharge path. It arms with a pack that is present, no latched path fault, EN set and a feed seen: at once
where HU_V is no more than 0.5 V above BUS_V, through PRE otherwise; PRE ends in ARMED, or in PREF and OFF when TPRE has passed;
HU_V 30 mV over the bus and 2 A of reverse current for 1 µs move it between ARMED and COND with their events; the discharge limit
shows in LIM. The straps' codes come from the sixteen windows, and none lies outside 0.80 to 270 kΩ; a strap fault latches STRAP
with event 283 and keeps the code of the strap that has one. -/
def Obligations.HoldupPathMoves : Prop :=
  (∀ s : State, s.fget F.HU_STAT_PATH = 0 → s.flag F.HU_STAT_PRESENT = true → s.pathFault = false → s.flag F.HU_CTL_EN = true →
    s.hu.fed = true →
    ∃ t, exec .holdupPathArm s = .next t ∧ t.fget F.HU_STAT_PATH = (if s.hu.hv ≤ s.fsel.busUv + 500000 then 2 else 1)
      ∧ (s.fsel.busUv + 500000 < s.hu.hv → t.hu.preAt = s.time) ∧ Only s t [.HU_STAT] ∧ t.mem = s.mem ∧ t.ch = s.ch)
  ∧ (∀ s : State, s.flag F.HU_STAT_PRESENT = false ∨ s.pathFault = true ∨ s.flag F.HU_CTL_EN = false →
    exec .holdupPathArm s = .next s)
  ∧ (∀ s : State, s.fget F.HU_STAT_PATH = 1 → s.fsel.busUv + 500000 < s.hu.hv → exec .holdupPreDone s = .next s)
  ∧ (∀ s : State, s.fget F.HU_STAT_PATH = 1 → s.hu.hv ≤ s.fsel.busUv + 500000 → s.reached s.preEnd = false →
    ∃ t, exec .holdupPreDone s = .next t ∧ t.fget F.HU_STAT_PATH = 2 ∧ Only s t [.HU_STAT] ∧ t.mem = s.mem)
  ∧ (∀ s : State, s.fget F.HU_STAT_PATH = 1 → s.reached s.preEnd = true →
    ∃ t, exec .holdupPreTimeout s = .next t ∧ (s.hu.hv ≤ s.fsel.busUv + 500000 → exec .holdupPreDone s = .next t) ∧ t.fget F.HU_STAT_PATH = 0
      ∧ t.flag F.HU_FLT_PREF = true ∧ Only s t [.HU_STAT, .HU_FLT] ∧ t.mem = s.mem)
  ∧ (∀ s : State, s.fget F.HU_STAT_PATH = 2 → s.fsel.busUv + 30000 < s.hu.hv →
    ∃ u, exec .holdupConduct s = .next (u.raise 272 0) ∧ u.fget F.HU_STAT_PATH = 3 ∧ Only s u [.HU_STAT] ∧ u.mem = s.mem)
  ∧ (∀ (s : State) (ua : Int) (held : Nat), s.fget F.HU_STAT_PATH = 3 → 2000000 < ua → us ≤ held →
    ∃ u, exec (.holdupReverse ua held) s = .next (u.raise 273 0) ∧ u.fget F.HU_STAT_PATH = 2 ∧ u.flag F.HU_STAT_LIM = false
      ∧ Only s u [.HU_STAT] ∧ u.mem = s.mem)
  ∧ (∀ (s : State) (on : Bool) (i : Int), s.fget F.HU_STAT_PATH = 3 → (on = true → (s.iDlim : Int) ≤ i + s.dlimTol) →
    (on = false → i ≤ s.iDlim + s.dlimTol) →
    ∃ t, exec (.holdupDischargeLimiting on i) s = .next t ∧ t.flag F.HU_STAT_LIM = on
      ∧ t.hu.limAt = (if on then some (s.hu.limAt.getD s.time) else none) ∧ Only s t [.HU_STAT] ∧ t.mem = s.mem)
  ∧ (∀ (s : State) (ua : Int) (held : Nat), s.fget F.HU_STAT_PATH ≠ 3 ∨ ua ≤ 2000000 ∨ held < us →
    exec (.holdupReverse ua held) s = .next s)
  ∧ (∀ (s : State) (n v : Option Nat), (s.strapFault n v).flag F.HU_FLT_STRAP = true
    ∧ (∀ k, n = some k → k < 16 → (s.strapFault n v).fget F.HU_STRAP_NCODE = k)
    ∧ (∀ k, v = some k → k < 16 → (s.strapFault n v).fget F.HU_STRAP_VCODE = k) ∧ OnlyEv s (s.strapFault n v) [.HU_STRAP, .HU_FLT])
  ∧ ∀ ohm : Nat, (strapCode ohm = none ↔ ohm < 800 ∨ 270000 < ohm) ∧ ∀ k, strapCode ohm = some k → k < 16

/-- R253–R260, R276: the charger and its watchdog. Once in each millisecond the target follows, the charger takes the state its rules give, AX3 runs in
PRECHG, CC and CV and in no other; a fault, OV of AX3 among them, leads to FAULT, a shelf outside SERVICE to OFF; TSAFE and the taper's end move it with
their events; a kick restarts the watchdog's 30 s, its expiry brings the fallback, and only a confirmation in time or after it
disarms it. R261–R265: the gauge. Once in each minute it folds the counted charge into E, moves the reported SOC by at most 1 %, and leaves the
state words with their CRC-32C in the fourth; 24 h without a rest set NOREF with event 280; a restore is judged at its fourth
word: BUSY unless UNREST is set, RESERVED when a check fails, and otherwise E, CAP and CONF take it and UNREST clears. -/
def Obligations.ChargerWatchdogAndGauge : Prop :=
  ((∀ s : State, s.time / ms ≤ s.hu.tickMs → exec .chargerTick s = .next s)
  ∧ (∀ s : State, s.hu.tickMs < s.time / ms → ∃ t, exec .chargerTick s = .next t ∧ t.hu.tickMs = s.time / ms ∧ t.fget F.HU_STAT_CHG = (s.chgNext s.chgTarget).1 % 8 ∧ t.hu.vt = s.chgTarget
    ∧ t.flag (F.AX_CTL_EN 3) = decide (1 ≤ (s.chgNext s.chgTarget).1 ∧ (s.chgNext s.chgTarget).1 ≤ 3)
    ∧ t.fget F.HU_TIMER_ELAPSED = t.hu.safe2 / 120000 % 65536
    ∧ Only s t [.HU_STAT, .HU_TIMER, .AX_CTL 3, .AX_STAT 3] ∧ t.mem = s.mem ∧ t.ch = s.ch)
  ∧ (∀ (s : State) (vt : Int), s.flag (F.AX_FLT_OV 3) = true ∨ s.flag F.HU_FLT_TSAFE = true ∨ s.flag F.HU_FLT_SHORT = true
      ∨ s.flag F.HU_FLT_STRAP = true ∨ s.flag F.HU_FLT_MON = true → (s.chgNext vt).1 = 6)
  ∧ (∀ (s : State) (vt : Int), s.chgFault = false →
    s.shelf ≠ shSERVICE ∨ s.flag F.HU_CTL_CHGEN = false ∨ s.flag F.HU_STAT_PRESENT = false → (s.chgNext vt).1 = 0)
  ∧ (∀ (s : State) (vt : Int), s.chgFault = false → s.shelf = shSERVICE → s.flag F.HU_CTL_CHGEN = true →
    s.flag F.HU_STAT_PRESENT = true → s.fget F.HU_STAT_CHG = 2 → s.chgHold = false →
    (s.chgNext vt).1 = if vt ≤ s.hu.hv then 3 else 2)
  ∧ (∀ s : State, s.fget F.HU_TIMER_TSAFE * 120000 ≤ s.hu.safe2 → 1 ≤ s.fget F.HU_STAT_CHG → s.fget F.HU_STAT_CHG ≤ 3 →
    ∃ u, exec .chargerSafetyTimeout s = .next (u.raise 276 2) ∧ u.flag F.HU_FLT_TSAFE = true ∧ u.fget F.HU_STAT_CHG = 6
      ∧ Only s u [.HU_FLT, .HU_STAT] ∧ u.mem = s.mem)
  ∧ (∀ s : State, s.fget F.HU_STAT_CHG = 3 → s.fget F.HU_TEMP_TTAPER * 10000 ≤ s.hu.taper → s.fget F.LG_HU_SH = 65535 →
    ∃ t, exec .chargerTaperDone s = .next t ∧ t.fget F.HU_STAT_CHG = 4 ∧ t.hu.taper = 0 ∧ t.hu.req = 0
      ∧ t.hu.e = s.gaugeFree (s.socOf (s.hu.vt * 1000)) ∧ OnlyEv s t [.HU_STAT, .HU_GG_CAP, .HU_GG_SOC] ∧ t.mem = s.mem)
  ∧ (∀ s : State, s.flag F.HU_WDT_ARMED = true → s.flag F.HU_WDT_FALLBK = false → s.time < s.hu.wdtAt + 30 * sec →
    (∃ t, exec .huWdtKick s = .next t ∧ t.hu.wdtAt = s.time ∧ t.status = stOk ∧ Only s t [] ∧ t.mem = s.mem)
    ∧ ∃ t, exec .huWdtConfirm s = .next t ∧ t.flag F.HU_WDT_ARMED = false ∧ t.status = stOk ∧ Only s t [.HU_WDT, .HU_STAT]
      ∧ t.mem = s.mem)
  ∧ (∀ s : State, s.flag F.HU_WDT_ARMED = true → s.flag F.HU_WDT_FALLBK = true →
    ∃ t, exec .huWdtConfirm s = .next t ∧ t.flag F.HU_WDT_ARMED = false ∧ t.flag F.HU_WDT_FALLBK = false
      ∧ t.flag F.HU_STAT_FALLBK = false ∧ t.status = stOk)
  ∧ ∀ s : State, s.flag F.HU_WDT_ARMED = true → s.flag F.HU_WDT_FALLBK = false → s.reached (s.hu.wdtAt + 30 * sec) = true →
    ∃ u, exec .huWdtExpiry s = .next (u.raise 277 1) ∧ u.flag F.HU_WDT_FALLBK = true ∧ u.flag F.HU_STAT_FALLBK = true
      ∧ u.flag F.HU_FLT_WDT = true ∧ Only s u [.HU_WDT, .HU_STAT, .HU_FLT] ∧ u.mem = s.mem)
  ∧ ((∀ s : State, s.time / (60 * sec) ≤ s.hu.tickMin → exec .gaugeMinute s = .next s)
  ∧ (∀ s : State, s.hu.tickMin < s.time / (60 * sec) → ∃ t, exec .gaugeMinute s = .next t
    ∧ t.hu.tickMin = s.time / (60 * sec) ∧ t.hu.q = 0 ∧ t.hu.e = s.gaugeFree (some (s.gaugeE s.socV).2) ∧ 0 ≤ t.hu.e
    ∧ t.hu.e ≤ 10000 ∧ t.fget F.HU_GG_SOC_SOC ≤ s.fget F.HU_GG_SOC_SOC + 1 ∧ s.fget F.HU_GG_SOC_SOC ≤ t.fget F.HU_GG_SOC_SOC + 1
    ∧ t.word (.HU_GG_STATE 3) = BitVec.ofNat 32 (crc32c (bytesOf (t.word (.HU_GG_STATE 0)) ++ bytesOf (t.word (.HU_GG_STATE 1))
        ++ bytesOf (t.word (.HU_GG_STATE 2))))
    ∧ t.fget F.HU_GG_CAP_CAP = s.fget F.HU_GG_CAP_CAP ∧ t.mem = s.mem ∧ t.ch = s.ch)
  ∧ (∀ s : State, s.reached (s.hu.rested + 86400 * sec) = true → s.flag F.HU_GG_SOC_NOREF = false →
    ∃ u, exec .gaugeNoref s = .next (u.raise 280 1) ∧ u.flag F.HU_GG_SOC_NOREF = true ∧ Only s u [.HU_GG_SOC] ∧ u.mem = s.mem)
  ∧ (∀ (s : State) (c : Word), s.flag F.HU_GG_SOC_UNREST = false → exec (.gaugeRestore c) s = .next (s.answer stBusy))
  ∧ (∀ (s : State) (c : Word), s.flag F.HU_GG_SOC_UNREST = true →
    c.toNat ≠ crc32c (bytesOf s.hu.restore[0] ++ bytesOf s.hu.restore[1] ++ bytesOf s.hu.restore[2]) →
    exec (.gaugeRestore c) s = .next (s.answer stReserved))
  ∧ ∀ (s : State) (c : Word), s.flag F.HU_GG_SOC_UNREST = true →
    c.toNat = crc32c (bytesOf s.hu.restore[0] ++ bytesOf s.hu.restore[1] ++ bytesOf s.hu.restore[2]) →
    bitsOf s.hu.restore[0] 0 16 ≤ 10000 → bitsOf s.hu.restore[0] 16 8 ≤ 100 → bitsOf s.hu.restore[0] 26 6 = 0 →
    bitsOf s.hu.restore[1] 24 8 = 0 →
    ∃ t, exec (.gaugeRestore c) s = .next t ∧ t.status = stOk ∧ t.hu.e = bitsOf s.hu.restore[0] 0 16
      ∧ t.fget F.HU_GG_CAP_CAP = bitsOf s.hu.restore[1] 0 24 ∧ t.fget F.HU_GG_SOC_CONF = bitsOf s.hu.restore[0] 16 8
      ∧ t.flag F.HU_GG_SOC_UNREST = false ∧ Only s t [.HU_GG_CAP, .HU_GG_SOC] ∧ t.mem = s.mem)

/-- R142, R144, R152–R155: the arithmetic and the flow of both contexts. ADD, SUB, CMP and MULSH write their result (CMP none) and Z,
N, C as R152 says, T kept; MOV, GETM, PUTP and LDI move values and leave the flags; BR, LOOP, CALL and RET go to BASE plus their
target, the return address an offset from BASE; NOP only goes on; STOP takes a channel to STOP and the shelf program out of RUN. -/
def Obligations.ArithmeticAndFlow : Prop :=
  (∀ (s : State) (c : Ctx) (a b : Fin 16) (st : Fin 4) (im : BitVec 16), s.ready c = true → aluFields ⟨a, b, st, im⟩ = true →
    (∃ t, exec (.add c a b st im) s = .next t ∧ AluStep s t c a (s.g c a + s.src c ⟨a, b, st, im⟩)
      (decide (s.g c a + s.src c ⟨a, b, st, im⟩ = 0)) (s.g c a + s.src c ⟨a, b, st, im⟩).msb
      (decide (2 ^ 32 ≤ (s.g c a).toNat + (s.src c ⟨a, b, st, im⟩).toNat)))
    ∧ (∃ t, exec (.sub c a b st im) s = .next t ∧ AluStep s t c a (s.g c a - s.src c ⟨a, b, st, im⟩)
      (decide (s.g c a - s.src c ⟨a, b, st, im⟩ = 0)) (s.g c a - s.src c ⟨a, b, st, im⟩).msb
      (decide ((s.g c a).toNat < (s.src c ⟨a, b, st, im⟩).toNat)))
    ∧ ∃ t, exec (.cmp c a b st im) s = .next t ∧ AluStep s t c a (s.g c a)
      (decide ((s.g c a).toInt = (s.src c ⟨a, b, st, im⟩).toInt)) (decide ((s.g c a).toInt < (s.src c ⟨a, b, st, im⟩).toInt))
      (decide ((s.g c a).toNat < (s.src c ⟨a, b, st, im⟩).toNat)))
  ∧ (∀ (s : State) (c : Ctx) (a b : Fin 16) (im : BitVec 16), s.ready c = true → im.toNat < 64 →
    ∃ t v, exec (.mulsh c a b 0 im) s = .next t ∧ v = (s.g c a).toInt * (s.g c b).toInt / 2 ^ im.toNat
      ∧ AluStep s t c a (BitVec.ofInt 32 v) (decide (BitVec.ofInt 32 v = 0)) (BitVec.ofInt 32 v).msb
        (decide (v < -2 ^ 31 ∨ 2 ^ 31 ≤ v)))
  ∧ (∀ (s : State) (c : Ctx) (a b : Fin 16), s.ready c = true → ∃ t, exec (.mov c a b 0 0) s = .next t ∧ MoveStep s t c a (s.g c b))
  ∧ (∀ (s : State) (c : Ctx) (a : Fin 16) (v : Word), s.ready c = true →
    ∃ t, exec (.ldi c a 0 0 0 v) s = .next t ∧ t.g c a = v ∧ (∀ i, i ≠ a → t.g c i = s.g c i) ∧ t.ldi c = none
      ∧ t.pc c = (s.pc c + 2) % 65536 ∧ t.flags c = s.flags c ∧ Only s t [statReg c] ∧ t.mem = s.mem)
  ∧ (∀ (s : State) (c : Ctx) (a : Fin 16) (im : BitVec 16) (v : Word), s.ready c = true → s.port c im.toNat = some v →
    ∃ t, exec (.getm c a 0 0 im) s = .next t ∧ MoveStep s t c a v)
  ∧ (∀ (s : State) (c : Ctx) (a : Fin 16) (im : BitVec 16), s.ready c = true → s.port c im.toNat = none →
    exec (.getm c a 0 0 im) s = .next (s.progFault c 5))
  ∧ (∀ (s : State) (n : Fin 128) (a : Fin 16), s.ready (.chan n) = true →
    ∃ t, exec (.putp (.chan n) a 0 0 1) s = .next t ∧ (t.lane1 n).x.u[1] = s.g (.chan n) a
      ∧ t.fget (F.CH_PCNT_USER n) = (s.g (.chan n) a).toNat % 65536 ∧ t.pc (.chan n) = (s.pc (.chan n) + 1) % 65536
      ∧ Only s t [.CH_PCNT n, .CH_PSTAT n] ∧ t.mem = s.mem)
  ∧ (∀ (s : State) (a : Fin 16), s.ready .shelf = true →
    (∃ t, exec (.putp .shelf a 0 0 0) s = .next t ∧ t.sh.aging = min (s.g .shelf a).toNat 3600 ∧ Only s t [.CS_SHSTAT])
    ∧ ∃ t, exec (.putp .shelf a 0 0 2) s = .next t ∧ t.word (.CS_SHUSR 1) = s.g .shelf a ∧ Only s t [.CS_SHUSR 1, .CS_SHSTAT])
  ∧ (∀ (s : State) (c : Ctx) (a b : Fin 16) (im : BitVec 16), s.ready c = true → im.toNat < s.progLen c →
    (b.val < 5 ∧ a = 0) ∨ (b = 5 ∧ a.val < 12 ∧ c ≠ .shelf) →
    ∃ t, exec (.br c a b 0 im) s = .next t
      ∧ t.pc c = (if s.taken c ⟨a, b, 0, im⟩ then s.progBase c + im.toNat else s.pc c + 1) % 65536
      ∧ (∀ i, t.g c i = s.g c i) ∧ t.flags c = s.flags c ∧ Only s t [statReg c] ∧ t.mem = s.mem)
  ∧ (∀ (s : State) (c : Ctx) (a : Fin 16) (im : BitVec 16), s.ready c = true → im.toNat < s.progLen c →
    ∃ t, exec (.loop c a 0 0 im) s = .next t ∧ t.g c a = s.g c a - 1
      ∧ t.pc c = (if s.g c a = 1 then s.pc c + 1 else s.progBase c + im.toNat) % 65536 ∧ t.flags c = s.flags c
      ∧ (∀ i, i ≠ a → t.g c i = s.g c i) ∧ Only s t [statReg c] ∧ t.mem = s.mem)
  ∧ (∀ (s : State) (c : Ctx) (im : BitVec 16), s.ready c = true → im.toNat < s.progLen c → (s.callStack c).length < 4 →
    ∃ t, exec (.call c 0 0 0 im) s = .next t ∧ t.callStack c = (s.pc c + 1 - s.progBase c) :: s.callStack c
      ∧ t.pc c = (s.progBase c + im.toNat) % 65536 ∧ Only s t [statReg c] ∧ t.mem = s.mem)
  ∧ (∀ (s : State) (c : Ctx) (r : Nat) (rs : List Nat), s.ready c = true → s.callStack c = r :: rs →
    ∃ t, exec (.ret c 0 0 0 0) s = .next t ∧ t.callStack c = rs ∧ t.pc c = (s.progBase c + r) % 65536
      ∧ Only s t [statReg c] ∧ t.mem = s.mem)
  ∧ (∀ (s : State) (c : Ctx), s.ready c = true →
    ∃ t, exec (.nop c 0 0 0 0) s = .next t ∧ t.pc c = (s.pc c + 1) % 65536 ∧ (∀ i, t.g c i = s.g c i) ∧ t.flags c = s.flags c
      ∧ Only s t [statReg c] ∧ t.mem = s.mem)
  ∧ (∀ (s : State) (n : Fin 128), s.ready (.chan n) = true →
    ∃ t, exec (.stop (.chan n) 0 0 0 0) s = .next t ∧ t.chState n = stSTOP ∧ (t.lane1 n).x.step = none
      ∧ (t.lane1 n).k.caps = [] ∧ t.pc (.chan n) = (s.pc (.chan n) + 1) % 65536 ∧ t.mem = s.mem)
  ∧ ∀ s : State, s.ready .shelf = true →
    ∃ t, exec (.stop .shelf 0 0 0 0) s = .next t ∧ t.flag F.CS_SHSTAT_RUN = false ∧ Only s t [.CS_SHSTAT] ∧ t.mem = s.mem

/-- R77, R121, R122, R143, R147–R151: the mode instructions open a step with their operands' targets, whatever step was open before,
unless an operand is out of its range; the limit and arm instructions write one slot of the context at once and go on; WAIT
suspends the context until its time, or until the open step closes. -/
def Obligations.ModesLimitsAndArms : Prop :=
  (∀ (s : State) (n : Fin 128) (a b : Fin 16) (st : Fin 4) (im : BitVec 16), s.ready (.chan n) = true → s.pmode ≠ mdAGING →
    optFields ⟨a, b, st, im⟩ = true →
    (∃ t, exec (.cc (.chan n) a b st im) s = .next t ∧ Opens s t n 1 (s.g (.chan n) a).toInt 0
      ∧ (st = 1 → (t.lane1 n).x.limv = some (s.g (.chan n) b).toInt))
    ∧ (∃ t, exec (.cp (.chan n) a b st im) s = .next t ∧ Opens s t n 4 (s.g (.chan n) a).toInt 0)
    ∧ (5000 ≤ (s.g (.chan n) a).toNat → ∃ t, exec (.cr (.chan n) a b st im) s = .next t
        ∧ Opens s t n 5 (s.g (.chan n) a).toNat 0)
    ∧ ((s.g (.chan n) a).toNat < 5000 → exec (.cr (.chan n) a b st im) s = .next (s.progFault (.chan n) 6))
    ∧ (0 ≤ (s.g (.chan n) a).toInt → (s.g (.chan n) a).toInt ≤ 6000000 →
        ∃ t, exec (.cv (.chan n) a b st im) s = .next t ∧ Opens s t n 2 (s.g (.chan n) a).toInt 0))
  ∧ (∀ (s : State) (n : Fin 128) (a b : Fin 16) (im : BitVec 16), s.ready (.chan n) = true → s.pmode ≠ mdAGING →
    0 ≤ (s.g (.chan n) b).toInt → (s.g (.chan n) b).toInt ≤ 6000000 →
    ∃ t, exec (.ccv (.chan n) a b 0 im) s = .next t ∧ Opens s t n 3 (s.g (.chan n) a).toInt (s.g (.chan n) b).toInt)
  ∧ (∀ (s : State) (n : Fin 128) (a b : Fin 16) (im : BitVec 16), s.ready (.chan n) = true → s.pmode ≠ mdAGING → a ≠ 15 →
    2 ≤ im.toNat → im.toNat ≤ 20 → 100 ≤ bitsOf (s.g (.chan n) b) 0 16 → 100 ≤ bitsOf (s.g (.chan n) b) 16 16 →
    ∃ t, exec (.pulse (.chan n) a b 0 im) s = .next t ∧ Opens s t n 6 (s.g (.chan n) a).toInt (s.g (.chan n) (nextReg a 1)).toInt)
  ∧ (∀ (s : State) (n : Fin 128) (a b : Fin 16), s.ready (.chan n) = true → s.pmode ≠ mdAGING → b ≠ 15 →
    100 ≤ (s.g (.chan n) (nextReg b 1)).toNat → (s.g (.chan n) (nextReg b 1)).toNat ≤ 5000000 →
    (s.g (.chan n) a).toInt.natAbs + (s.g (.chan n) b).toNat ≤ (s.lane1 n).x.limi →
    ∃ t, exec (.eis (.chan n) a b 0 0) s = .next t ∧ Opens s t n 7 (s.g (.chan n) a).toInt (s.g (.chan n) b).toNat)
  ∧ (∀ (s : State) (n : Fin 128), s.ready (.chan n) = true → s.pmode ≠ mdAGING →
    (∃ t, exec (.rest (.chan n) 0 0 0 0) s = .next t ∧ Opens s t n 8 0 0 ∧ t.flag (F.CH_OCVCTL_ACTIVE n) = true
      ∧ t.word (.CH_OCVN n) = 0)
    ∧ ∃ t, exec (.hold (.chan n) 0 0 0 0) s = .next t ∧ Opens s t n 9 0 0)
  ∧ (∀ (s : State) (n : Fin 128) (a : Fin 16), s.ready (.chan n) = true →
    let st (f : ChCtx → ChCtx) : Host.Outcome State Fault Refusal := .next ((s.modX n f).advance (.chan n))
    let g := s.g (.chan n) a
    exec (.limv (.chan n) a 0 0 0) s = st (fun x => { x with limv := some g.toInt })
    ∧ exec (.limv (.chan n) 0 0 1 0) s = st (fun x => { x with limv := none })
    ∧ exec (.limi (.chan n) a 0 0 0) s = st (fun x => { x with limi := min g.toInt.natAbs (s.imax n) })
    ∧ exec (.limi (.chan n) a 0 1 0) s = st (fun x => { x with pre := some (min g.toInt.natAbs (s.imax n)) })
    ∧ exec (.limt (.chan n) a 0 0 0) s = st (fun x => { x with limt := some g.toInt })
    ∧ exec (.limt (.chan n) 0 0 1 0) s = st (fun x => { x with limt := none })
    ∧ exec (.armt (.chan n) a 0 0 0) s = st (fun x => { x with arms := { x.arms with time := some g.toNat } })
    ∧ exec (.armt (.chan n) 0 0 1 0) s = st (fun x => { x with arms := { x.arms with deg := true } })
    ∧ exec (.armv (.chan n) a 0 0 0) s = st (fun x => { x with arms := { x.arms with volt := some (false, g.toInt), voltN := 0 } })
    ∧ exec (.armv (.chan n) a 0 1 0) s = st (fun x => { x with arms := { x.arms with volt := some (true, g.toInt), voltN := 0 } })
    ∧ exec (.armi (.chan n) a 0 0 0) s = st (fun x => { x with arms := { x.arms with curr := some (true, g.toNat), currN := 0 } })
    ∧ exec (.armi (.chan n) a 0 1 0) s = st (fun x => { x with arms := { x.arms with curr := some (false, g.toNat), currN := 0 } })
    ∧ exec (.armq (.chan n) a 0 0 0) s = st (fun x => { x with arms := { x.arms with charge := some g.toNat } })
    ∧ exec (.arme (.chan n) a 0 0 0) s = st (fun x => { x with arms := { x.arms with energy := some g.toNat } })
    ∧ exec (.armtc (.chan n) a 0 0 0) s = st (fun x => { x with arms := { x.arms with temp := some (false, g.toInt) } })
    ∧ exec (.armtc (.chan n) a 0 1 0) s = st (fun x => { x with arms := { x.arms with temp := some (true, g.toInt) } })
    ∧ exec (.disarm (.chan n) 0 0 0 0x4FF) s = st (fun x => { x with arms :=
        { x.arms with time := none, deg := false, volt := none, curr := none, tap := none, charge := none, energy := none,
                      dvdt := none, temp := none } }))
  ∧ (∀ (s : State) (n : Fin 128) (a b : Fin 16) (im : BitVec 16), s.ready (.chan n) = true →
    (∃ t, exec (.armtap (.chan n) a b 0 im) s = .next t ∧ t.pc (.chan n) = (s.pc (.chan n) + 1) % 65536
      ∧ (t.lane1 n).x.arms.tap = some ((s.g (.chan n) a).toInt.natAbs, (s.g (.chan n) b).toInt.natAbs,
          (if im = 0 then 600 else im.toNat) * 10000) ∧ (t.lane1 n).x.arms.tapN = 0 ∧ Only s t [.CH_PSTAT n] ∧ t.mem = s.mem)
    ∧ (im = 0 ∨ (10 ≤ im.toNat ∧ im.toNat ≤ 60000) →
      ∃ t, exec (.armdv (.chan n) a 0 1 im) s = .next t ∧ (t.lane1 n).x.arms.dvdt
          = some (true, (s.g (.chan n) a).toInt, if im = 0 then 1000 else im.toNat)
        ∧ (t.lane1 n).k.dvFrom = s.nextBoundary ∧ (t.lane1 n).k.dvN = 0 ∧ Only s t [.CH_PSTAT n] ∧ t.mem = s.mem))
  ∧ (∀ (s : State) (c : Ctx) (im : BitVec 16), s.ready c = true → im ≠ 0 →
    ∃ t, exec (.wait c 0 0 1 im) s = .next t ∧ t.susp c = .timed (s.nextBoundary + im.toNat * 1000000)
      ∧ t.pc c = (s.pc c + 1) % 65536 ∧ Only s t [statReg c] ∧ t.mem = s.mem)
  ∧ ∀ (s : State) (n : Fin 128), s.ready (.chan n) = true →
    ∃ t, exec (.wait (.chan n) 0 0 0 0) s = .next t
      ∧ (t.lane1 n).x.susp = (if (s.lane1 n).x.step.isSome then .close else .none)
      ∧ t.pc (.chan n) = (s.pc (.chan n) + 1) % 65536 ∧ Only s t [.CH_PSTAT n] ∧ t.mem = s.mem

/-- R129, R132, R137, R138, R143, R156–R160: measurement and coordination. CAPDC queues a capture, or marks its register when four
wait; EISRUN starts a run on an open EIS step and suspends the context, and marks both registers without one; EMIT, SIG, PRIO and
SWAPPT leave their record, event, class request and bank; BAR suspends a member at its barrier, the barrier's end waits for the
boundary, and the release there resumes every arrived member with the shelf's T and N; a word the context does not have is a program fault with code 2, which stops the
channel with its PC kept. -/
def Obligations.MeasureAndCoordinate : Prop :=
  (∀ (s : State) (n : Fin 128) (a : Fin 16) (im : BitVec 16), s.ready (.chan n) = true → im ≠ 0 →
    (s.lane1 n).k.capsNext.length + (s.lane1 n).k.caps.length < 4 →
    ∃ t, exec (.capdc (.chan n) a 0 0 im) s = .next t ∧ (t.lane1 n).k.caps = (s.lane1 n).k.caps
      ∧ (t.lane1 n).k.capsNext = (s.lane1 n).k.capsNext ++ [{ dest := a, delay := im.toNat }]
      ∧ t.pc (.chan n) = (s.pc (.chan n) + 1) % 65536 ∧ Only s t [.CH_PSTAT n] ∧ t.mem = s.mem)
  ∧ (∀ (s : State) (n : Fin 128) (a : Fin 16) (im : BitVec 16), s.ready (.chan n) = true → im ≠ 0 →
    4 ≤ (s.lane1 n).k.capsNext.length + (s.lane1 n).k.caps.length →
    ∃ t, exec (.capdc (.chan n) a 0 0 im) s = .next t ∧ MoveStep s t (.chan n) a badMark ∧ (t.lane1 n).k = (s.lane1 n).k)
  ∧ (∀ (s : State) (n : Fin 128) (a b : Fin 16) (st : Fin 4) (im : BitVec 16) (o : OpenStep), s.ready (.chan n) = true → a ≠ b →
    1 ≤ im.toNat → im.toNat ≤ 1024 → (s.lane1 n).x.step = some o →
    (o.mode = 7 → ∃ t e, exec (.eisrun (.chan n) a b st im) s = .next t ∧ (t.lane1 n).k.eis = some e ∧ e.ra = a ∧ e.rb = b
      ∧ e.freq = o.freq ∧ e.cyc = im.toNat ∧ (t.lane1 n).x.susp = .eisrun ∧ Only s t [.CH_PSTAT n] ∧ t.mem = s.mem)
    ∧ (o.mode ≠ 7 → ∃ t, exec (.eisrun (.chan n) a b st im) s = .next t ∧ (t.lane1 n).x.g[a] = badMark
      ∧ (t.lane1 n).x.g[b] = badMark ∧ (t.lane1 n).k.eis = (s.lane1 n).k.eis ∧ Only s t [.CH_PSTAT n]))
  ∧ (∀ (s : State) (n : Fin 128) (a : Fin 16) (im : BitVec 16), s.ready (.chan n) = true → a.val ≤ 12 →
    (s.lane1 n).x.recQ.length < 16 →
    ∃ t bs, exec (.emit (.chan n) a 0 0 im) s = .next t ∧ (t.lane1 n).x.recQ = (s.lane1 n).x.recQ ++ [{ kind := 2, bytes := bs }]
      ∧ bs.length = 28 ∧ t.pc (.chan n) = (s.pc (.chan n) + 1) % 65536 ∧ Only s t [.CH_PSTAT n] ∧ t.mem = s.mem)
  ∧ (∀ (s : State) (c : Ctx) (a : Fin 16) (im : BitVec 16), s.ready c = true → a.val ≤ 12 → s.lastVEmit c = none →
    s.vault.queue.length < 1024 →
    ∃ t r, exec (.emit c a 0 1 im) s = .next t ∧ t.vault.queue = s.vault.queue ++ [r] ∧ r.typ = 3 ∧ r.occ.required = true
      ∧ t.lastVEmit c = some s.ctr ∧ t.pc c = (s.pc c + 1) % 65536 ∧ OnlyEv s t [statReg c] ∧ t.mem = s.mem)
  ∧ (∀ (s : State) (n : Fin 128) (st : Fin 4) (im : BitVec 16), s.ready (.chan n) = true →
    exec (.sig (.chan n) 0 0 st im) s
      = .next ((s.raise (2 * n.val + 1) st.val (le32 im.toNat ++ le32 (s.pc (.chan n)))).advance (.chan n)))
  ∧ (∀ (s : State) (n : Fin 128) (k : Fin 4), s.ready (.chan n) = true →
    ∃ t, exec (.prio (.chan n) 0 0 k 0) s = .next t ∧ Only s t [.CH_PSTAT n] ∧ t.fget (F.CH_PSTAT_CLASS n) = s.fget (F.CH_PSTAT_CLASS n)
      ∧ ((s.lane1 n).x.clsNext = none → (t.lane1 n).x.clsNext = some (k, false))
      ∧ (∀ j, (s.lane1 n).x.clsNext = some (j, true) → (t.lane1 n).x.clsNext = some (j, true)))
  ∧ (∀ (s : State) (k : Fin 4) (im : BitVec 16), s.ready .shelf = true → im.toNat ≤ 15 →
    ∃ t, exec (.prio .shelf 0 0 k im) s = .next t ∧ Only s t [.CS_SHSTAT] ∧ t.mem = s.mem
      ∧ ∀ n, s.barMember (Fin.ofNat 16 im.toNat) n = true → (t.lane1 n).x.clsNext = some (k, true))
  ∧ (∀ (s : State) (n : Fin 128) (im : BitVec 16), s.ready (.chan n) = true → (s.lane1 n).x.step = none →
    s.flag (F.CH_PROG_SWPEND n) = true →
    ∃ u, exec (.swappt (.chan n) 0 0 0 im) s = .next (u.raise (2 * n.val + 1) 0)
      ∧ u.flag (F.CH_PROG_ACT n) = (!s.flag (F.CH_PROG_ACT n)) ∧ u.flag (F.CH_PROG_SWPEND n) = false
      ∧ u.pc (.chan n) = (s.progBase (.chan n) + im.toNat) % 65536 ∧ Only s u [.CH_PROG n, .CH_PSTAT n])
  ∧ (∀ (s : State) (n : Fin 128) (im : BitVec 16), s.ready (.chan n) = true → s.flag (F.CH_PROG_SWPEND n) = false →
    exec (.swappt (.chan n) 0 0 0 im) s = .next (s.advance (.chan n)))
  ∧ (∀ (s : State) (n : Fin 128) (im : BitVec 16), s.ready (.chan n) = true → im.toNat ≤ 15 →
    s.barMember (Fin.ofNat 16 im.toNat) n = true →
    ∃ t, exec (.bar (.chan n) 0 0 0 im) s = .next t ∧ (t.lane1 n).x.susp = .bar (Fin.ofNat 16 im.toNat)
      ∧ t.flag (F.CH_PSTAT_BARW n) = true ∧ Only s t [.CH_PSTAT n] ∧ t.mem = s.mem)
  ∧ (∀ (s : State) (b : Fin 16), s.shelfWaits b = true →
    s.sh.relPend = none →
    ((∀ n, s.barMember b n = true → s.barCounted n = true → s.arrived b n = true) →
      ∃ t, exec (.barrierRelease b) s = .next t ∧ t.sh.relPend = some (b, false) ∧ Only s t [] ∧ t.mem = s.mem ∧ t.ch = s.ch)
    ∧ (s.fget F.CS_BART_TMO ≠ 0 → s.sh.epFrom + s.fget F.CS_BART_TMO * 1000000 ≤ s.ctr →
      ∃ t, exec (.barrierTimeout b) s = .next t ∧ t.sh.relPend = some (b, true) ∧ Only s t [] ∧ t.mem = s.mem ∧ t.ch = s.ch))
  ∧ (∀ (s : State) (b : Fin 16) (n : Fin 128), s.barMember b n = true → s.barCounted n = true → s.arrived b n = false →
    exec (.barrierRelease b) s = .next s)
  ∧ (∀ (s : State) (b : Fin 16) (late : Bool), (s.barRelease b late).sh.susp = .none
    ∧ (s.barRelease b late).flags .shelf % 2 = late.toNat
    ∧ (s.barRelease b late).flagN .shelf = ((s.inEpisode b && s.sh.epUncounted[b]) || s.barMissing b)
    ∧ (s.barRelease b late).mem = s.mem
    ∧ (∀ n, s.arrived b n = true → s.barMember b n = true → ((s.barRelease b late).lane1 n).x.susp = .none)
    ∧ ∀ n, s.arrived b n = false → ((s.barRelease b late).lane1 n).x.susp = (s.lane1 n).x.susp)
  ∧ (∀ (s : State) (n : Fin 128) (k : Nat), k < 8 →
    (s.progFault (.chan n) k).fget (F.CH_PSTAT_PFLT n) = k ∧ (s.progFault (.chan n) k).chState n = stSTOP
    ∧ ((s.progFault (.chan n) k).lane1 n).x.step = none ∧ (s.progFault (.chan n) k).pc (.chan n) = s.pc (.chan n)
    ∧ (s.progFault (.chan n) k).mem = s.mem)
  ∧ (∀ (s : State) (k : Nat), k < 8 → (s.progFault .shelf k).fget F.CS_SHSTAT_PFLT = k
    ∧ (s.progFault .shelf k).flag F.CS_SHSTAT_RUN = false ∧ (s.progFault .shelf k).pc .shelf = s.pc .shelf)
  ∧ (∀ (s : State) (a b : Fin 16) (st : Fin 4) (im : BitVec 16), s.ready .shelf = true →
    exec (.cc .shelf a b st im) s = .next (s.progFault .shelf 2) ∧ exec (.limv .shelf a b st im) s = .next (s.progFault .shelf 2)
    ∧ exec (.capdc .shelf a b st im) s = .next (s.progFault .shelf 2))
  ∧ ∀ (s : State) (c : Ctx) (a : Fin 16) (im : BitVec 16), s.ready c = true → a ≠ 0 ∨ im ≠ 0 →
    exec (.nop c a 0 0 im) s = .next (s.progFault c 2)

/-- R213–R223: the ledger. The cap in force is the lowest of host, rack manager and feed in SERVICE, PDMAX in RIDE and HALT, 0 else;
regeneration only in SERVICE. The passes lower, never raise: the cap pass the charger and charging scales alone, the regeneration
pass the discharging scales with diversion; while a feed limits no scale rises, and between both limits and their band nothing
changes. A throttle report joins
the shelf's records; a silent rack manager and a feed error that stays raise 308 and 309. -/
def Obligations.LedgerLimitsAndReports : Prop :=
  (∀ s : State, (s.shelf = shRIDE ∨ s.shelf = shHALT → s.capNow = ((s.fget F.HU_RIDE_PDMAX : Int) * 10 ^ 12, 3))
    ∧ (s.shelf = shSTART ∨ s.shelf = shSAFE → s.capNow = (0, 0) ∧ s.regenNow = 0)
    ∧ (s.shelf = shSERVICE → s.capNow.1 ≤ (s.eff F.LG_CAP_W_CAP : Int) * 10 ^ 12
      ∧ (s.eff F.LG_CTL_RMEN = 1 → s.flag F.LG_CAP_RM_VALID = true → s.capNow.1 ≤ (s.fget F.LG_CAP_RM_CAP : Int) * 10 ^ 12)
      ∧ (s.feedState 0 = 5 → s.capNow.1 ≤ s.feedTerm 0) ∧ s.regenNow = s.eff F.LG_REGEN_W_REGEN))
  ∧ (∀ (l : Loads) (cap : Int) (fl : Fin 4 → Nat) (x : Scales),
    (capPass l cap fl x).sh ≤ x.sh ∧ (capPass l cap fl x).sd = x.sd ∧ (capPass l cap fl x).div = x.div
      ∧ ∀ c : Fin 4, (capPass l cap fl x).sc[c] ≤ x.sc[c])
  ∧ (∀ (l : Loads) (regen acc : Int) (fl : Fin 4 → Nat) (x : Scales),
    (regenPass l regen acc fl x).sh = x.sh ∧ (regenPass l regen acc fl x).sc = x.sc ∧ x.div ≤ (regenPass l regen acc fl x).div
      ∧ ∀ c : Fin 4, (regenPass l regen acc fl x).sd[c] ≤ x.sd[c])
  ∧ (∀ (l : Loads) (cap regen acc : Int) (fl : Fin 4 → Nat) (rise : Nat) (x : Scales), x.div ≤ acc.toNat →
    predicted l x ≤ cap * 65536 → -regen * 65536 ≤ predicted l x →
    (rescale l cap regen acc fl rise true x).sc = x.sc ∧ (rescale l cap regen acc fl rise true x).sd = x.sd
    ∧ (rescale l cap regen acc fl rise true x).sh = x.sh ∧ (rescale l cap regen acc fl rise true x).div ≤ x.div
    ∧ (predicted l x ≤ (-regen + holdBand regen) * 65536 → rescale l cap regen acc fl rise true x = x))
  ∧ (∀ (s : State) (r : ThrottleRpt), s.led.due = some r →
    ∃ t b, exec .throttleReport s = .next t ∧ t.led.due = none ∧ t.fget F.LG_RPT_SEQ = (s.fget F.LG_RPT_SEQ + 1) % 2 ^ 32
      ∧ t.sh.recQ.getLast? = some { kind := 4, bytes := b } ∧ b.length = 64 ∧ b.take 60 = r.body (t.fget F.LG_RPT_SEQ) ∧ b.drop 60 = le32 (crc32c (b.take 60))
      ∧ Only s t [.LG_RPT] ∧ t.mem = s.mem ∧ t.ch = s.ch)
  ∧ (∀ s : State, s.eff F.LG_CTL_RMTMO ≠ 0 → s.eff F.LG_CTL_RMEN = 1 → s.flag F.LG_CAP_RM_VALID = true →
    s.flag F.LG_STAT_RMSTALE = false → s.reached (s.led.rmAt + s.eff F.LG_CTL_RMTMO * sec) = true →
    ∃ u, exec .rmCapStale s = .next (u.raise 308 1) ∧ u.flag F.LG_STAT_RMSTALE = true ∧ Only s u [.LG_STAT] ∧ u.mem = s.mem)
  ∧ ∀ s : State, 10 ≤ s.led.outN → s.led.alarmed = false →
    ∃ u, exec .feedErrorAlarm s = .next (u.raise 309 1) ∧ u.led.alarmed = true ∧ Only s u [] ∧ u.mem = s.mem

/-- R269–R277: the auxiliary converters. EN = 1 of one that is off, or in FAULT with every bit cleared, asks for its check, which the
next boundary starts; not while a new period waits or the rail table drives it. The check ends in the soft start or in FAULT with
SHORT, the soft start in RUN, 1 ms within 5 % in PG; an output over 115 % for 10 µs leads to FAULT; below 90 % for 1 ms, and the
limit for TOC, to a hiccup, the fourth to FAULT with HIC; a hiccup ends in a new check; EN = 0 puts both phases to mid and the
converter in OFF, one with a latched fault excepted. AX3 has no EN of its own; its output above V_C × 1.02 stops it and the charger. -/
def Obligations.AuxConvertersStartAndStop : Prop :=
  (∀ (s : State) (j : Fin 4), j ≠ 3 → s.divPending = false → s.axByTable j = false →
    ∃ t, exec (.auxEnable j) s = .next t ∧ t.axState j = s.axState j ∧ t.flag (F.AX_CTL_EN j) = true ∧ t.status = stOk
      ∧ t.ax[j].start = (s.ax[j].start || s.auxStartable j) ∧ Only s t [.AX_CTL j] ∧ t.mem = s.mem ∧ t.ch = s.ch)
  ∧ (∀ (s : State) (j : Fin 4), s.auxStartable j = decide (s.axState j = 0 ∨ (s.axState j = 5 ∧ s.word (.AX_FLT j) = 0)))
  ∧ (∀ (s : State) (j : Fin 4) (x : AuxIn), s.gateOn 10 = true → s.ax[j].start = true → s.auxStartable j = true →
    (s.axBoundary j x).axState j = 1 ∧ (s.axBoundary j x).ax[j].v0 = x.cm ∧ (s.axBoundary j x).ax[j].since = s.time
      ∧ (s.axBoundary j x).ax[j].duty = none ∧ (s.axBoundary j x).ax[j].start = false)
  ∧ (∀ (s : State) (j : Fin 4), j ≠ 3 → s.divPending = true ∨ s.axByTable j = true →
    exec (.auxEnable j) s = .next (s.answer stBusy))
  ∧ (∀ s : State, exec (.auxEnable 3) s = .next (s.answer stOk) ∧ exec (.auxDisable 3) s = .next (s.answer stOk))
  ∧ (∀ (s : State) (j : Fin 4), j ≠ 3 → s.axByTable j = false →
    ∃ t, exec (.auxDisable j) s = .next t ∧ t.axState j = (if s.axState j = 5 ∧ s.word (.AX_FLT j) ≠ 0 then 5 else 0) ∧ t.flag (F.AX_CTL_EN j) = false ∧ t.flag (F.AX_STAT_PG j) = false
      ∧ t.ax[j].duty = none ∧ t.ax[j].next = none ∧ t.status = stOk ∧ Only s t [.AX_CTL j, .AX_STAT j] ∧ t.mem = s.mem ∧ t.ch = s.ch)
  ∧ (∀ (s : State) (j : Fin 4), j ≠ 3 → s.axByTable j = true → exec (.auxDisable j) s = .next (s.answer stBusy))
  ∧ (∀ (s : State) (j : Fin 4) (mv : Int), s.axState j = 1 → s.reached (s.ax[j].since + 200 * us) = true →
    (mv * 10000 ≤ s.axTarget j * 13 → mv ≤ s.ax[j].v0 + 500 →
      ∃ t, exec (.auxCheck j mv) s = .next t ∧ t.axState j = 2 ∧ Only s t [.AX_STAT j] ∧ t.mem = s.mem)
    ∧ (s.axTarget j * 13 < mv * 10000 ∨ s.ax[j].v0 + 500 < mv →
      ∃ u, exec (.auxCheck j mv) s = .next (u.raise (368 + j.val) 2) ∧ u.axState j = 5 ∧ u.flag (F.AX_FLT_SHORT j) = true
        ∧ u.ax[j].duty = none ∧ Only s u [.AX_STAT j, .AX_FLT j] ∧ u.mem = s.mem))
  ∧ (∀ (s : State) (j : Fin 4), s.axState j = 2 → s.reached (s.ax[j].since + 200 * us + s.eff (F.AX_CFG_TSS j) * ms) = true →
    s.axBelow j 50 = false →
    ∃ t, exec (.auxSoftstartDone j) s = .next t ∧ t.axState j = 3 ∧ Only s t [.AX_STAT j] ∧ t.mem = s.mem ∧ t.ax = s.ax)
  ∧ (∀ (s : State) (j : Fin 4) (a : Nat), s.axState j = 3 → s.flag (F.AX_STAT_PG j) = false → s.ax[j].okAt = some a →
    s.reached (a + ms) = true →
    ∃ t, exec (.auxPowerGood j) s = .next t ∧ t.flag (F.AX_STAT_PG j) = true ∧ Only s t [.AX_STAT j] ∧ t.mem = s.mem)
  ∧ (∀ (s : State) (j : Fin 4) (mv : Int) (held : Nat), s.axState j = 2 ∨ s.axState j = 3 → s.axTarget j * 115 < mv * 100000 →
    10 * us ≤ held →
    ∃ u, exec (.auxOv j mv held) s = .next (u.raise (368 + j.val) 2) ∧ u.axState j = 5 ∧ u.flag (F.AX_FLT_OV j) = true ∧ u.ax[j].duty = none
      ∧ Only s u [.AX_STAT j, .AX_FLT j] ∧ u.mem = s.mem)
  ∧ (∀ (s : State) (j : Fin 4) (mv : Int) (held : Nat),
    s.axState j = 0 ∨ s.axState j = 1 ∨ mv * 100000 ≤ s.axTarget j * 115 ∨ held < 10 * us → exec (.auxOv j mv held) s = .next s)
  ∧ (∀ (s : State) (j : Fin 4) (a : Nat), j ≠ 3 → s.axState j = 3 → s.ax[j].uvAt = some a → s.reached (a + ms) = true →
    (s.fget (F.AX_STAT_TRIES j) < 3 → ∃ u, exec (.auxUv j) s = .next (u.raise (372 + j.val) 1) ∧ u.axState j = 4
      ∧ u.flag (F.AX_FLT_UV j) = true ∧ u.fget (F.AX_STAT_TRIES j) = s.fget (F.AX_STAT_TRIES j) + 1 ∧ u.ax[j].since = s.time
      ∧ Only s u [.AX_STAT j, .AX_FLT j] ∧ u.mem = s.mem)
    ∧ (3 ≤ s.fget (F.AX_STAT_TRIES j) → ∃ u, exec (.auxUv j) s = .next (u.raise (368 + j.val) 2) ∧ u.axState j = 5
      ∧ u.flag (F.AX_FLT_HIC j) = true ∧ u.flag (F.AX_FLT_UV j) = true ∧ Only s u [.AX_STAT j, .AX_FLT j] ∧ u.mem = s.mem))
  ∧ (∀ (s : State) (j : Fin 4), s.axState j = 2 ∨ s.axState j = 3 → s.eff (F.AX_CFG_TOC j) * 100 ≤ s.ax[j].limN →
    s.fget (F.AX_STAT_TRIES j) < 3 → ∃ u, exec (.auxOc j) s = .next (u.raise (372 + j.val) 1) ∧ u.axState j = 4
      ∧ u.flag (F.AX_FLT_OC j) = true ∧ u.fget (F.AX_STAT_TRIES j) = s.fget (F.AX_STAT_TRIES j) + 1
      ∧ Only s u [.AX_STAT j, .AX_FLT j] ∧ u.mem = s.mem)
  ∧ (∀ (s : State) (j : Fin 4) (mv : Int), s.axState j = 4 →
    s.reached (s.ax[j].since + s.eff (F.AX_CFG_THIC j) * (10 * ms)) = true →
    ∃ t, exec (.auxHiccupEnd j mv) s = .next t ∧ t.axState j = 1 ∧ t.ax[j].v0 = mv ∧ t.ax[j].since = s.time
      ∧ Only s t [.AX_STAT j] ∧ t.mem = s.mem)
  ∧ (∀ (s : State) (mv : Int), mv * 10 ≤ s.fget F.HU_STRAP_CEIL * 102 → exec (.auxChargerOv mv) s = .next s)
  ∧ ∀ (s : State) (mv : Int), s.flag (F.AX_FLT_OV 3) = false → (s.fget F.HU_STRAP_CEIL * 102 : Int) < mv * 10 →
    ∃ t, exec (.auxChargerOv mv) s = .next t ∧ t.axState 3 = 5 ∧ t.flag (F.AX_FLT_OV 3) = true ∧ t.flag (F.AX_CTL_EN 3) = false
      ∧ t.fget F.HU_STAT_CHG = 6 ∧ t.ax[3].duty = none ∧ OnlyEv s t [.AX_STAT 3, .AX_FLT 3, .AX_CTL 3, .HU_STAT] ∧ t.mem = s.mem

/-- R279–R286: the tray loops. Once in PER ms an enabled loop with a good code shows PV and gives AL_MAN in manual, an output between
OMIN and OMAX in auto; EN = 0 leaves it idle with output 0; a third bad code puts FAILOUT out, STATE 4, event 376; a setpoint source that
failed in the last period is marked with event 379. TUNE starts a tune in auto alone and is busy elsewhere; TABORT and the time limit end it with the gains kept and
TUNEFAIL. -/
def Obligations.TrayLoops : Prop :=
  (∀ (s : State) (k : Fin 16) (inp : LoopIn), s.reached (s.loopNext k) = false → exec (.loopPeriod k inp) s = .next s)
  ∧ (∀ (s : State) (k : Fin 16) (inp : LoopIn), s.gateOn 10 = true → s.gateOn 11 = true → s.reached (s.loopNext k) = true →
    s.flag (F.AL_CTL_EN k) = false → s.al[k].tune = none →
    ∃ t, exec (.loopPeriod k inp) s = .next t ∧ t.fget (F.AL_STAT_STATE k) = 0 ∧ t.fget (F.AL_STAT_OUT k) = 0
      ∧ Only s t [.AL_STAT k] ∧ t.mem = s.mem ∧ t.ch = s.ch)
  ∧ (∀ (s : State) (k : Fin 16) (inp : LoopIn), s.gateOn 10 = true → s.gateOn 11 = true → s.reached (s.loopNext k) = true →
    s.flag (F.AL_CTL_EN k) = true → s.flag (F.AL_CTL_FCHK k) = false → s.al[k].tune = none →
    ∃ t, exec (.loopPeriod k inp) s = .next t ∧ t.word (.AL_PV k) = wordOf (s.alPv k inp.lain)
      ∧ (s.flag (F.AL_CTL_AUTO k) = false → t.fget (F.AL_STAT_STATE k) = 1 ∧ t.fget (F.AL_STAT_OUT k) = s.fget (F.AL_MAN_MAN k))
      ∧ (s.flag (F.AL_CTL_AUTO k) = true → t.fget (F.AL_STAT_STATE k) = 2
        ∧ (s.fget (F.AL_OUT_OMIN k) ≤ s.fget (F.AL_OUT_OMAX k) → s.fget (F.AL_OUT_OMIN k) ≤ t.fget (F.AL_STAT_OUT k)
          ∧ t.fget (F.AL_STAT_OUT k) ≤ s.fget (F.AL_OUT_OMAX k)))
      ∧ Only s t [.AL_STAT k, .AL_PV k] ∧ t.mem = s.mem ∧ t.ch = s.ch)
  ∧ (∀ (s : State) (k : Fin 16) (inp : LoopIn), s.gateOn 10 = true → s.gateOn 11 = true → s.reached (s.loopNext k) = true →
    s.flag (F.AL_CTL_EN k) = true → s.flag (F.AL_CTL_FCHK k) = true → s.fget (F.AL_STAT_STATE k) ≠ 4 → s.al[k].tune = none → 2 ≤ s.al[k].bad →
    inp.lain < 20 ∨ 4075 < inp.lain →
    ∃ u, exec (.loopPeriod k inp) s = .next (u.raise 376 2 (loopPayload k)) ∧ u.fget (F.AL_STAT_STATE k) = 4
      ∧ u.fget (F.AL_STAT_OUT k) = s.fget (F.AL_MAN_FAILOUT k) ∧ Only s u [.AL_STAT k, .AL_PV k] ∧ u.mem = s.mem)
  ∧ (∀ (s : State) (k : Fin 16), s.fget (F.AL_SPSRC_SRC k) ≠ 0 → s.al[k].spBad = true →
    s.flag (F.AL_STAT_SPLOST k) = false →
    ∃ u, exec (.setpointLost k) s = .next (u.raise 379 1 (loopPayload k)) ∧ u.flag (F.AL_STAT_SPLOST k) = true
      ∧ Only s u [.AL_STAT k] ∧ u.mem = s.mem)
  ∧ (∀ (s : State) (k : Fin 16), s.flag (F.AL_CTL_AUTO k) = true → s.fget (F.AL_STAT_STATE k) = 2 →
    ∃ t, exec (.autotuneStart k) s = .next t ∧ t.fget (F.AL_STAT_STATE k) = 3 ∧ t.fget (F.AL_STAT_CYC k) = 0
      ∧ t.al[k].tune.isSome = true ∧ t.status = stOk ∧ Only s t [.AL_STAT k] ∧ t.mem = s.mem)
  ∧ (∀ (s : State) (k : Fin 16), s.fget (F.AL_STAT_STATE k) ≠ 2 → s.fget (F.AL_STAT_STATE k) ≠ 3 →
    exec (.autotuneStart k) s = .next (s.answer stBusy))
  ∧ (∀ (s : State) (k : Fin 16) (x : Tune), s.al[k].tune = some x →
    (∃ t, exec (.autotuneAbort k) s = .next t ∧ t.al[k].tune = none ∧ t.fget (F.AL_STAT_STATE k) = 2
      ∧ t.flag (F.AL_STAT_TUNEFAIL k) = true ∧ t.status = stOk ∧ OnlyEv s t [.AL_STAT k] ∧ t.mem = s.mem)
    ∧ (s.reached (x.startAt + s.fget (F.AL_AT_ATTMO k) * (10 * sec)) = true → s.reached (s.loopNext k) = false →
      ∃ t, exec (.autotuneTimeout k) s = .next t ∧ t.al[k].tune = none ∧ t.fget (F.AL_STAT_STATE k) = 2
        ∧ t.flag (F.AL_STAT_TUNEFAIL k) = true ∧ OnlyEv s t [.AL_STAT k] ∧ t.mem = s.mem))
  ∧ ∀ (s : State) (k : Fin 16), s.al[k].tune = none → exec (.autotuneAbort k) s = .next (s.answer stOk)

/-- R293–R297, R302, R433: the rail table's requests and order. An up request outside a power-down and TMINOFF starts the power-up at
once and is held otherwise; a down request reverses it; an entry that waits starts only when what it depends on is GOOD, and one
that powers down waits for what depends on it; an entry held off powers down; the table's saving is asked for once. -/
def Obligations.RailsComeUpInOrder : Prop :=
  (∀ s : State, s.fget F.SQ_STAT_SEQ ≠ 3 → s.boot.sysRst = none → s.offLongEnough = true → s.boot.wdiWait = false →
    ∃ t, exec .railUpRequest s = .next t ∧ t.status = stOk ∧ t.flag F.SQ_STAT_PENDUP = false
      ∧ (t.fget F.SQ_STAT_SEQ = 1 ∨ t.fget F.SQ_STAT_SEQ = 2) ∧ t.mem = s.mem ∧ t.ch = s.ch
      ∧ ∀ r : Reg, r.group ≠ 2 → r.group ≠ 3 → r.group ≠ 7 → r.group ≠ 10 → t.word r = s.word r)
  ∧ (∀ s : State, s.fget F.SQ_STAT_SEQ = 3 ∨ s.boot.sysRst.isSome = true ∨ s.offLongEnough = false →
    ∃ t, exec .railUpRequest s = .next t ∧ t.status = stOk ∧ t.flag F.SQ_STAT_PENDUP = true ∧ Only s t [.SQ_STAT] ∧ t.mem = s.mem)
  ∧ (∀ s : State, s.boot.sysRst = none → s.boot.wdiWait = false →
    ∃ t, exec .railDownRequest s = .next t ∧ t.status = stOk ∧ t.flag F.SQ_STAT_PENDUP = false
      ∧ (t.fget F.SQ_STAT_SEQ = 3 ∨ t.fget F.SQ_STAT_SEQ = 0) ∧ t.mem = s.mem ∧ t.ch = s.ch
      ∧ ∀ r : Reg, r.group ≠ 2 → r.group ≠ 3 → r.group ≠ 7 → r.group ≠ 10 → t.word r = s.word r)
  ∧ (∀ s : State, s.flag F.SQ_STAT_SAVING = false →
    ∃ t, exec .railTableSave s = .next t ∧ t.flag F.SQ_STAT_SAVING = true ∧ t.status = stOk
      ∧ (t.nv.dirty.any fun d => decide (d.1 = .rails)) = true ∧ Only s t [.SQ_STAT] ∧ t.mem = s.mem)
  ∧ (∀ s : State, s.flag F.SQ_STAT_SAVING = true → exec .railTableSave s = .next (s.answer stBusy))
  ∧ (∀ s : State, s.fget F.SQ_STAT_SEQ = 0 → s.offLongEnough = true →
    (s.boot.sysRst = none → s.flag F.SQ_STAT_PENDUP = true → s.boot.wdiWait = false →
      ∃ t, exec .pendingUpStart s = .next t ∧ t.flag F.SQ_STAT_PENDUP = false
        ∧ (t.fget F.SQ_STAT_SEQ = 1 ∨ t.fget F.SQ_STAT_SEQ = 2) ∧ t.mem = s.mem)
    ∧ ∀ c, c < 8 → s.boot.sysRst = some c →
      ∃ t, exec .pendingUpStart s = .next t ∧ t.fget F.SQ_BOOT_RSTCAUSE = c ∧ t.boot.waking = true ∧ t.boot.sysRst = none
        ∧ t.boot.done = false ∧ t.ch = State.reset.ch ∧ t.shelf = shSTART)
  ∧ (∀ (s : State) (e : Fin 24), s.rail e = rsWAIT → s.monitored e = false → s.sq[e].down = false →
    ((∃ i, s.railDep e i = true ∧ s.rail i ≠ rsGOOD) → s.railTurn e = s)
    ∧ ((∀ i, s.railDep e i = true → s.rail i = rsGOOD) → e.val < 21 → (s.railTurn e).rail e = rsRAMP
      ∧ (s.railTurn e).sq[e].since = s.time ∧ Only s (s.railTurn e) [.SQ_RSTAT e, .SQ_STAT]))
  ∧ (∀ (s : State) (e : Fin 24), s.rail e = rsGOOD → s.monitored e = false → s.sq[e].down = true →
    (∃ i, s.railUse i = true ∧ s.railDep i e = true ∧ rsRAMP ≤ s.rail i ∧ s.rail i ≤ rsDOWN) → s.railTurn e = s)
  ∧ ∀ (s : State) (val : Word),
    ∃ v : State, exec (.sqRoffWrite val) s = .next v.railsSettle ∧ Only s v [.SQ_ROFF] ∧ v.mem = s.mem
      ∧ (∀ e : Fin 24, 5 ≤ e.val → (v.word .SQ_ROFF).getLsbD e.val = val.getLsbD e.val)
      ∧ ∀ e : Fin 24, e ∈ v.heldOff → v.monitored e = false → rsWAIT ≤ v.rail e → v.rail e ≤ rsGOOD → v.sq[e].down = true

/-- R288–R301: a rail's life and its faults. The scan takes the entries in use in turn, 20 µs apart, and shows the reading; an entry that ramps reaches SETTLE in its window and GOOD after
TDLY; one that does not is RETRY, or FAILED with its event once the tries are used up; an own supply that fails at a wake ends it;
a reading out of its window in GOOD latches UV or OV and has its response: a log at RESP 0, a system reset at RESP 3; TOFF in
RETRY leads to WAIT with a try counted; DOWN ends after four TRMAX; a cleared FAILED entry is OFF. An edge restarts the WDI
watchdog, its expiry shows EXP with event 346, and the Attic tries again 1 s after a failed wake. -/
def Obligations.RailsRampFailAndRetry : Prop :=
  (∀ (s : State) (e : Fin 24) (st : Nat), st < 8 →
    (s.railTo e st).rail e = st ∧ (s.railTo e st).sq[e].since = s.time
      ∧ (s.railTo e st).flag ⟨.SQ_STAT, 8 + e.val, 1⟩ = decide (st = rsGOOD) ∧ ∀ i : Fin 24, i ≠ e → (s.railTo e st).rail i = s.rail i)
  ∧ (∀ (s : State) (e : Fin 24) (mv : Nat), s.boot.vbias = false ∨ s.railUse e = false → exec (.railScan e mv) s = .next s)
  ∧ (∀ (s : State) (e : Fin 24) (mv a : Nat), s.boot.scanAt = some a → s.time < a + 20 * us → exec (.railScan e mv) s = .next s)
  ∧ (∀ (s : State) (e : Fin 24) (mv : Nat), s.scanDue e = true → s.monitored e = false → mv ≤ 65535 →
    (s.rail e = rsGOOD → s.inWindow e mv = true → s.time < s.sq[e].since + 10 * sec →
      ∃ t, exec (.railScan e mv) s = .next t ∧ t.fget (F.SQ_RSTAT_V e) = mv ∧ t.rail e = rsGOOD ∧ Only s t [.SQ_RSTAT e]
        ∧ t.mem = s.mem)
    ∧ (s.rail e = rsRAMP → s.inWindow e mv = true → s.sq[e].since + s.trMin e ≤ s.time → s.time < s.sq[e].since + s.trMax e →
      ∃ v : State, exec (.railScan e mv) s = .next (v.railTo e rsSETTLE).railsSettle ∧ v.fget (F.SQ_RSTAT_V e) = mv
        ∧ v.fget (F.SQ_RSTAT_TRAMP e) = min 255 ((s.time - s.sq[e].since) / (100 * us)) ∧ Only s v [.SQ_RSTAT e])
    ∧ (s.rail e = rsGOOD → s.inWindow e mv = false → 5 ≤ e.val ∨ s.boot.waking = false → s.fget (F.SQ_RCFG_RESP e) = 0 →
      s.flag (rfltFld e (s.railSide e mv)) = false →
      ∃ u, exec (.railScan e mv) s = .next (u.raiseReq (320 + e.val) 1) ∧ u.flag (rfltFld e (s.railSide e mv)) = true
        ∧ u.rail e = rsGOOD ∧ Only s u [.SQ_RSTAT e, .SQ_RFLT e])
    ∧ (s.rail e = rsGOOD → s.inWindow e mv = false → 5 ≤ e.val ∨ s.boot.waking = false → s.fget (F.SQ_RCFG_RESP e) = 3 →
      s.sq[e].down = false → s.boot.scanResp ≤ 3 →
      ∃ v : State, exec (.railScan e mv) s = .next (v.sysReset 1) ∧ v.boot.vaultOn = false
        ∧ v.flag (rfltFld e (s.railSide e mv)) = true))
  ∧ (∀ (s : State) (e : Fin 24), s.rail e = rsRAMP → s.reached (s.sq[e].since + s.trMax e) = true →
    (5 ≤ e.val ∨ s.boot.waking = false →
      (s.fget (F.SQ_RSTAT_TRIES e) < s.fget (F.SQ_RCFG_RETRY e) →
        ∃ v : State, exec (.railRampTimeout e) s = .next (v.railTo e rsRETRY).railsSettle ∧ v.flag (F.SQ_RFLT_SLOW e) = true
          ∧ Only s v [.SQ_RFLT e] ∧ v.mem = s.mem)
      ∧ (s.fget (F.SQ_RCFG_RETRY e) ≤ s.fget (F.SQ_RSTAT_TRIES e) →
        ∃ v : State, exec (.railRampTimeout e) s = .next (v.raiseReq (320 + e.val) 2).railsSettle ∧ v.rail e = rsFAILED
          ∧ v.flag (F.SQ_RFLT_SLOW e) = true ∧ v.mem = s.mem))
    ∧ (e.val < 5 → s.boot.waking = true →
      ∃ v : State, exec (.railRampTimeout e) s = .next (v.raiseReq (320 + e.val) 3) ∧ (∀ k : Fin 24, k.val < 5 → v.rail k = rsOFF)
        ∧ v.fget F.SQ_BOOT_LASTFAIL = e.val ∧ v.boot.fails = s.boot.fails + 1
        ∧ v.boot.wakeAt = (if s.boot.fails + 1 < 3 then some (s.time + sec) else none)))
  ∧ (∀ (s : State) (e : Fin 24), s.rail e = rsSETTLE → s.reached (s.sq[e].since + s.tDly e) = true →
    (e ≠ 4 ∨ s.boot.waking = false → exec (.railSettled e) s = .next (s.railTo e rsGOOD).railsSettle)
    ∧ (e = 4 → s.boot.waking = true →
      ∃ v : State, exec (.railSettled e) s = .next v.railsSettle ∧ v.rail e = rsGOOD ∧ v.boot.waking = false ∧ v.boot.fails = 0
        ∧ v.clk.judge[clockIx .hfrc].from_ = some s.time))
  ∧ (∀ (s : State) (e : Fin 24) (a : Nat), s.rail e = rsRETRY → s.sq[e].offAt = some a → s.reached (a + s.tOff e) = true →
    s.sq[e].down = false →
    ∃ v : State, exec (.railRetryEnd e) s = .next (v.railTo e rsWAIT).railsSettle
      ∧ v.fget (F.SQ_RSTAT_TRIES e) = min (s.fget (F.SQ_RSTAT_TRIES e) + 1) 7 ∧ Only s v [.SQ_RSTAT e])
  ∧ (∀ (s : State) (e : Fin 24), s.rail e = rsDOWN → s.reached (s.sq[e].since + 4 * s.trMax e) = true →
    ∃ v : State, exec (.railDownTimeout e) s = .next (v.railOff e).railsSettle ∧ v.flag (F.SQ_RFLT_DNSLOW e) = true ∧ Only s v [.SQ_RFLT e])
  ∧ (∀ (s : State) (e : Fin 24) (val : Word),
    ∃ t, exec (.railFaultClear e val) s = .next t ∧ t.word (.SQ_RFLT e) = s.word (.SQ_RFLT e) &&& ~~~ (val &&& 0x3F#32)
      ∧ t.status = stOk
      ∧ (s.rail e = rsFAILED → t.rail e = (if t.word (.SQ_RFLT e) = 0 then rsOFF else rsFAILED))
      ∧ (s.rail e ≠ rsFAILED → Only s t [.SQ_RFLT e]) ∧ t.mem = s.mem)
  ∧ (∀ s : State, s.boot.done = true → s.wdiDue = false →
    ∃ t, exec .wdiEdge s = .next t ∧ t.boot.wdiAt = some s.time ∧ t.flag F.SQ_WDI_ARMED = true ∧ Only s t [.SQ_WDI] ∧ t.mem = s.mem)
  ∧ (∀ s : State, s.wdiDue = true →
    ∃ v : State, exec .wdiExpiry s = .next (v.raise 346 2).wdiAct ∧ v.flag F.SQ_WDI_EXP = true ∧ v.boot.wdiWait = true ∧ v.boot.wdiAt = none
      ∧ Only s v [.SQ_WDI] ∧ v.mem = s.mem)
  ∧ (∀ s : State, s.boot.wdiWait = true → s.fget F.SQ_STAT_SEQ = 3 → s.wdiAct = s)
  ∧ ∀ (s : State) (a : Nat), s.boot.wakeAt = some a → s.reached a = true →
    ∃ t, exec .atticWakeRetry s = .next t ∧ t.boot.waking = true ∧ t.boot.wakeAt = none ∧ t.mem = s.mem ∧ t.ch = s.ch

/-- R287, R289–R292: the resets and the boot. A power-on reset, after 10 µs without VBIAS, keeps what stands in MRAM, gives every other register its reset value,
clears the step store and the tables, stops every channel and starts the Attic's wake; the loss of VBIAS the same without a wake.
A soft reset, by RESET_L low for 10 µs or by SQ_CMD, closes every step, keeps the rail, feed and hold-up blocks, the step store and the records, shows its cause, and
leaves every channel PARKED with no step and the lock closed. A boot that finds a bank runs it with the Vault powered; one that
finds none enters recovery. -/
def Obligations.ResetsAndBoot : Prop :=
  (∀ (s : State) (x : Straps) (low : Nat), low < 10 * us → exec (.powerOnReset x low) s = .next s)
  ∧ (∀ (s : State) (x : Straps) (low : Nat), s.wf = true → 10 * us ≤ low →
    ∃ t, exec (.powerOnReset x low) s = .next t ∧ t.boot.vbias = true ∧ t.boot.waking = true ∧ t.boot.strapsDue = true
      ∧ t.boot.straps = some x ∧ t.ch = State.reset.ch ∧ t.time = 0 ∧ t.pending = s.pending
      ∧ (∀ r : Reg, r.group ≠ 3 → t.word r = (r.rst &&& ~~~ porMask false r) ||| (s.word r &&& porMask false r))
      ∧ ∀ a, t.byte a = if 0x400000 ≤ a then s.byte a else 0)
  ∧ (∀ s : State, s.wf = true →
    ∃ t, exec .vbiasLoss s = .next t ∧ t.boot.vbias = false ∧ t.boot.waking = false ∧ t.ch = State.reset.ch ∧ t.pending = s.pending
      ∧ (∀ r : Reg, t.word r = (r.rst &&& ~~~ porMask false r) ||| (s.word r &&& porMask false r))
      ∧ ∀ a, t.byte a = if 0x400000 ≤ a then s.byte a else 0)
  ∧ (∀ (s : State) (low : Nat), s.wf = true → s.boot.vbias = true → 10 * us ≤ low →
    ∃ t u, exec (.resetLPulse low) s = .next t ∧ exec .srst s = .next u ∧ t.fget F.SQ_BOOT_RSTCAUSE = 3 ∧ u.fget F.SQ_BOOT_RSTCAUSE = 4
      ∧ u.status = stOk
      ∧ ∀ v, v = t ∨ v = u → v.boot.done = false ∧ v.flag F.GL_LOCK_OPEN = false ∧ v.shelf = shSTART ∧ v.pending = s.pending
        ∧ (∀ n, v.chState n = stPARKED ∧ (v.lane1 n).x.step = none ∧ (v.lane1 n).p.h = (s.lane1 n).p.h)
        ∧ (∀ k : Fin 8, (v.link.sess[k]).opn = false)
        ∧ (∀ r : Reg, r.group = 4 ∨ r.group = 5 → v.word r = s.word r)
        ∧ ∀ a, (a < 0x300000 → v.byte a = s.byte a) ∧ (0x300000 ≤ a → a < 0x320000 → v.byte a = 0))
  ∧ (∀ (s : State) (low : Nat), s.boot.vbias = false ∨ low < 10 * us → exec (.resetLPulse low) s = .next s)
  ∧ (∀ s : State, s.boot.vbias = false → exec .srst s = .next s)
  ∧ (∀ (s : State) (img : BootImage), s.bootReady = true → s.boot.wdiWait = false →
    ((s.bootBank img).isSome = true →
      ∃ t, exec (.bootComplete img) s = .next t ∧ t.boot.done = true ∧ t.boot.vaultOn = true ∧ t.fsel.enabled = true
        ∧ t.ev.attic = [] ∧ t.link.held = []
        ∧ ∀ b k, s.bootBank img = some (b, k) → img.cfg = Vector.replicate 4 false → img.cfgOther = Vector.replicate 4 false →
          t.fget F.SQ_BOOT_RESULT = k ∧ t.flag F.GL_STATE_FWBANK = b ∧ t.flag F.HL_STAT_RECOV = false
            ∧ t.flag F.SQ_BOOT_CFGDEF = true)
    ∧ (s.bootBank img = none →
      ∃ t, exec (.bootComplete img) s = .next t ∧ t.boot.done = false ∧ t.boot.vaultOn = true ∧ t.fget F.SQ_BOOT_RESULT = 2
        ∧ t.flag F.HL_STAT_RECOV = true ∧ t.link.held = []))

/-- R324–R333: the power modes. A write of GL_MODE sets the request; a less active mode is entered once its conditions have held 100
ms, RUN from STANDBY once the cluster clock is at level 0, and a more active request starts the exit from AGING, complete 25 ms
later; an aging wake runs from 250 ms before its burst to its sleep, the burst's end is counted and sets the next; a wake cause in
DEEP judges the three PLLs, and with all three locked the mode is STANDBY, the Vault powered and TW1 awake. -/
def Obligations.PowerModesChange : Prop :=
  (∀ (s : State) (val : Word),
    ∃ t, exec (.modeRequest val) s = .next t ∧ t.fget F.GL_MODE_REQ = bitsOf val 0 2 ∧ t.flag F.GL_MODE_SHOK = val.getLsbD 2
      ∧ t.mode.condFrom = none ∧ t.link.rate.refused = false ∧ Only s t [.GL_MODE, .CK_CSTEP] ∧ t.mem = s.mem ∧ t.ch = s.ch)
  ∧ (∀ (s : State) (a : Nat), s.mode.exitAt = none → s.mode.wakeFrom = none → s.mode.toRun = false → s.pmode < s.modeAsked →
    s.modeWhy s.modeAsked = 0 → s.mode.condFrom = some a → s.reached (a + 100 * ms) = true →
    ∃ t, exec .modeEntry s = .next t ∧ t.pmode = s.modeAsked ∧ t.fget F.GL_MODE_PEND = 0
      ∧ (s.modeAsked = mdDEEP → t.boot.vaultOn = false ∧ t.flag F.CK_PLLSTAT_LOCK0 = false ∧ t.flag F.CK_PLLSTAT_LOCK1 = false
        ∧ t.flag F.CK_PLLSTAT_LOCK2 = false ∧ t.flag (F.TW_STAT_ASLEEP 1) = true)
      ∧ (s.modeAsked = mdAGING → t.mode.nextBurst = burstFrom (s.ctr + 250 * ms) s.agPeriod ∧ t.mode.awake = false) ∧ t.mem = s.mem)
  ∧ (∀ s : State, s.mode.exitAt = none → s.mode.wakeFrom = none → s.pmode = mdSTANDBY → s.modeAsked = 0 →
    s.flag F.GL_MODE_REFUSED = false → s.effFlag F.CK_COMPAT_EN = false →
    ∃ t, exec .modeEntry s = .next t ∧ t.pmode = mdRUN ∧ t.level = 0 ∧ Only s t [.GL_STATE, .CK_PLLSTAT] ∧ t.mem = s.mem ∧ t.ch = s.ch)
  ∧ (∀ s : State, s.mode.exitAt = none → s.mode.wakeFrom = none → s.pmode = mdAGING → s.modeAsked < mdAGING →
    ∃ t, exec .modeEntry s = .next t ∧ t.mode.exitAt = some (s.time + tCtl + 25 * ms) ∧ t.pmode = mdAGING ∧ t.mode.awake = true
      ∧ Only s t [] ∧ t.mem = s.mem ∧ t.ch = s.ch)
  ∧ (∀ s : State, s.pmode = mdAGING → s.mode.exitAt = none → s.mode.burst = none → s.mode.nextBurst < s.ctr + 250 * ms + tCtl →
    ∃ t, exec .agingWake s = .next t ∧ t.mode.awake = true ∧ t.mode.burst = some s.mode.nextBurst ∧ Only s t [] ∧ t.mem = s.mem
      ∧ t.ch = s.ch)
  ∧ (∀ (s : State) (b : Nat), s.mode.burst = some b → s.pmode = mdAGING →
    (s.mode.nextBurst = b → b ≤ s.ctr → s.ctr < b + tCtl →
      ∃ t, exec .agingBurst s = .next t ∧ (∀ n, t.word (.CH_I n) = 0 ∧ t.word (.CH_P n) = 0 ∧ (t.lane1 n).m.secN = 0)
        ∧ (∀ r : Reg, (∀ n, r ≠ .CH_I n ∧ r ≠ .CH_P n) → t.word r = s.word r) ∧ t.mem = s.mem)
    ∧ (s.mode.nextBurst = b → s.burstFull b = true →
      ∃ t, exec .agingBurstEnd s = .next t ∧ t.fget F.GL_AGSTAT_BURSTS = (s.fget F.GL_AGSTAT_BURSTS + 1) % 65536
        ∧ t.mode.nextBurst = burstFrom (b + 1) s.agPeriod ∧ t.mem = s.mem)
    ∧ (s.mode.nextBurst = b → s.ctr < b + 100 * ms + metDelay → exec .agingBurstEnd s = .next s)
    ∧ (s.mode.exitAt = none → b < s.mode.nextBurst → s.lane.done = none → s.lane.fixes = [] →
      ∃ t, exec .agingSleep s = .next t ∧ t.mode.awake = false ∧ t.mode.burst = none ∧ t.mem = s.mem ∧ t.ch = s.ch))
  ∧ (∀ s : State, (∃ t, exec .agingArmWake s = .next t ∧ t.mem = s.mem ∧ t.pmode = s.pmode ∧ t.time = s.time)
    ∧ ((∀ n, s.armDue (.chan n) = false) → s.armDue .shelf = false → exec .agingArmWake s = .next s))
  ∧ (∀ (s : State) (a : Nat), s.mode.exitAt = some a → s.reached a = true →
    (s.mode.safePend = none → ∃ t, exec .agingExitComplete s = .next t ∧ t.mode.exitAt = none ∧ t.pmode ≤ mdSTANDBY
      ∧ t.mode.awake = false ∧ t.shelf = s.shelf ∧ t.mem = s.mem ∧ ∀ n, (t.lane1 n).x.susp ≠ .aging)
    ∧ (∀ c, c < 256 → s.mode.safePend = some c → ∃ t, exec .agingExitComplete s = .next t ∧ t.shelf = shSAFE
      ∧ t.fget F.GL_SAFE_CAUSE = c ∧ t.mode.safePend = none ∧ t.pmode = mdSTANDBY))
  ∧ (∀ s : State, s.pmode = mdDEEP → s.mode.wakeFrom.isSome = true →
    (∃ t, exec .deepWake s = .next t ∧ Only s t [] ∧ t.mem = s.mem ∧ t.ch = s.ch
      ∧ ∀ c, c = Clock.syspll ∨ c = .pwmpll ∨ c = .adcpll → s.flag (stableFld c) = false →
        (s.clk.judge[clockIx c]).from_ = none → (t.clk.judge[clockIx c]).from_ = some s.time)
    ∧ (s.pllsUp = true → s.mode.safePend = none →
      ∃ t, exec .deepWakeComplete s = .next t ∧ t.pmode = mdSTANDBY ∧ t.boot.vaultOn = true ∧ t.flag (F.TW_STAT_ASLEEP 1) = false
        ∧ t.mode.wakeFrom = none ∧ t.ev.attic = [] ∧ t.mem = s.mem))
  ∧ ∀ (s : State) (a : Nat), s.link.rate.retryAt = some a → s.reached a = true → s.rateState = 0 → s.link.rate.restore = false →
    s.modeAsked = 2 ∨ s.modeAsked = 3 → s.pmode < s.modeAsked → s.modeWaits s.modeAsked = 0 → s.flag F.HL_CFG_HSREQ = true →
    s.managers ≠ [] →
    ∃ t, exec .rateRepropose s = .next t ∧ t.rateState = 1 ∧ t.link.rate.la = 1 ∧ t.link.rate.lb = 2
      ∧ t.link.rate.t = s.ctr + 2 * sec ∧ t.link.rate.accepted = false ∧ t.link.rate.retryAt = none ∧ Only s t [.HL_RATE]
      ∧ t.mem = s.mem

/-- R304–R314: the clocks. Eight windows in a row near the nominal count and near the first judge a clock stable, fewer or a stray
window do not; a judgement past its deadline begins again 1 s later, with its event; 200 ns without an edge, a window outside
±2 % or a loss of lock is the loss of XHF, which leaves the counter on the HFRC, every PLL coasting and the shelf in SAFE with
cause 3; PWMPLL below 0.76 MHz puts the converters' outputs to mid; a trim step, one per measurement due, moves CODE by one against
the error beyond 0.05 %, and the counter then takes the HFRC at the frequency measured against XHF; a step
of the compatibility mode is confirmed by READ_VOUT, and fails without it: a raise is retried twice, 10 ms apart, then refused. -/
def Obligations.ClocksAreJudgedAndStepped : Prop :=
  (∀ (s : State) (c : Clock) (k a : Nat), (s.clk.judge[clockIx c]).from_ = some a → s.windowDue c = true →
    (nearNominal c k = true → nearFirst (s.clk.judge[clockIx c]).first k = true → 7 ≤ (s.clk.judge[clockIx c]).run →
      ∃ t, exec (.clockJudgeWindow c k) s = .next t ∧ t.flag (stableFld c) = true ∧ (t.clk.judge[clockIx c]).from_ = none
        ∧ t.mem = s.mem ∧ t.ch = s.ch)
    ∧ (nearNominal c k = false →
      ∃ t, exec (.clockJudgeWindow c k) s = .next t ∧ (t.clk.judge[clockIx c]).run = 0 ∧ Only s t [] ∧ t.mem = s.mem ∧ t.ch = s.ch)
    ∧ ((s.clk.judge[clockIx c]).run < 7 →
      ∃ t, exec (.clockJudgeWindow c k) s = .next t ∧ t.flag (stableFld c) = s.flag (stableFld c) ∧ Only s t []))
  ∧ (∀ (s : State) (c : Clock) (k : Nat), s.windowDue c = false → exec (.clockJudgeWindow c k) s = .next s)
  ∧ (∀ (s : State) (c : Clock) (a : Nat), (s.clk.judge[clockIx c]).from_ = some a → s.reached (a + judgeDeadline c) = true →
    (s.clk.judge[clockIx c]).run < 7 ∨ s.windowDue c = false →
    ∃ t, exec (.clockJudgeDeadline c) s = .next t
      ∧ (t.clk.judge[clockIx c]).from_ = some (max s.time (a + judgeDeadline c) + sec) ∧ OnlyEv s t [.CK_SRCSTAT] ∧ t.mem = s.mem
      ∧ (c = .syspll → ∃ u, t = u.raise 386 3 ∧ Only s u []))
  ∧ (∀ x : XhfIn, xhfLost x = true ↔ 200 ≤ x.gap ∨ 96000 < ((x.count : Int) - 96000).natAbs * 50 ∨ x.unlock = true)
  ∧ (∀ (s : State) (x : XhfIn), xhfLost x = true → s.flag F.CK_SRCSTAT_XHF = true → s.pmode ≤ mdSTANDBY →
    ∃ t, exec (.xhfLoss x) s = .next t ∧ t.flag F.CK_SRCSTAT_XHF = false ∧ t.flag F.CK_SRCSTAT_XHFLOSS = true
      ∧ t.flag F.CK_SRCSTAT_TSRC = true ∧ t.shelf = shSAFE ∧ t.fget F.GL_SAFE_CAUSE = 3 ∧ t.clk.compat = none
      ∧ (∀ p, p < 4 → t.flag (lockFld p) = false ∧ t.flag (coastFld p) = true ∧ t.flag (reflossFld p) = true)
      ∧ t.flag (F.HL_PSTAT_LINK 0) = false ∧ t.flag (F.HL_PSTAT_LINK 1) = false)
  ∧ (∀ (s : State) (x : XhfIn), xhfLost x = false → 760000 ≤ x.pwm →
    ∃ t, exec (.xhfLoss x) s = .next t ∧ t.clk.pwmLow = false ∧ Only s t [] ∧ t.mem = s.mem ∧ t.ch = s.ch ∧ t.ax = s.ax)
  ∧ (∀ (s : State) (x : XhfIn), x.pwm < 760000 → s.pmode ≤ mdSTANDBY → s.clk.pwmLow = false →
    ∃ t, exec (.xhfLoss x) s = .next t ∧ t.clk.pwmLow = true ∧ t.shelf = shSAFE ∧ ∀ j : Fin 4, t.ax[j].duty = none)
  ∧ (∀ (s : State) (n : Nat), s.trimDue = false → exec (.trimMeasurement n) s = .next s)
  ∧ (∀ (s : State) (n : Nat), s.trimDue = true → ((n : Int) - 96000000).natAbs ≤ 31000000 →
    (((n : Int) - 96000000).natAbs ≤ 48000 → ∃ t, exec (.trimMeasurement n) s = .next t
      ∧ t.fgetS F.CK_TRIM_ERR = rdiv 310 (((n : Int) - 96000000) * 100000) 96000000
      ∧ t.fget F.CK_TRIM_CODE = s.fget F.CK_TRIM_CODE ∧ t.clk.trimAt = s.time
      ∧ (s.eff F.CK_SRC_TRSRC = 1 → t.clk.hfrcHz = some n) ∧ (s.eff F.CK_SRC_TRSRC = 2 → t.clk.hfrcHz = s.clk.hfrcHz)
      ∧ Only s t [.CK_TRIM] ∧ t.mem = s.mem)
    ∧ (96048000 < n → 13 < s.fget F.CK_TRIM_CODE → s.fget F.CK_TRIM_CODE ≤ 1012 →
      ∃ t, exec (.trimMeasurement n) s = .next t ∧ t.fgetS F.CK_TRIM_ERR = rdiv 310 (((n : Int) - 96000000) * 100000) 96000000
        ∧ t.fget F.CK_TRIM_CODE + 1 = s.fget F.CK_TRIM_CODE ∧ Only s t [.CK_TRIM] ∧ t.mem = s.mem)
    ∧ (n < 95952000 → s.fget F.CK_TRIM_CODE = 1011 → s.flag F.CK_SRCSTAT_TRIMLIM = false →
      ∃ u, exec (.trimMeasurement n) s = .next (u.raise 396 1) ∧ u.fget F.CK_TRIM_CODE = 1012
        ∧ u.flag F.CK_SRCSTAT_TRIMLIM = true ∧ Only s u [.CK_TRIM, .CK_SRCSTAT]))
  ∧ (∀ s : State, s.flag F.CK_SRCSTAT_TSRC = true →
    s.counterInc = (rdiv 311 ((10 ^ 12 + s.rate) * 2 ^ 32 * 10 ^ 9)
      ((if s.eff F.CK_SRC_TRSRC = 0 then 96000000 else s.clk.hfrcHz.getD 96000000) * 10 ^ 12)).toNat)
  ∧ (∀ (s : State) (k : CompatStep), s.clk.compat = some k → k.okAt = none → k.retryAt = none →
    s.reached (k.pollAt + 200 * us) = true →
    (∀ (md : Byte) (w : BitVec 16), md.toNat / 32 = 0 → confirms md w (s.levelVolt k.level) = true →
      (k.up = true → ∃ t, exec (.compatVoutPoll (some (md, w))) s = .next t ∧ t.clk.compat = some { k with okAt := some s.time }
        ∧ Only s t [] ∧ t.mem = s.mem)
      ∧ (k.up = false → ∃ u, exec (.compatVoutPoll (some (md, w))) s = .next (u.raise 397 0) ∧ u.clk.compat = none
        ∧ Only s u [.SQ_RNOM 2] ∧ u.mem = s.mem))
    ∧ (∀ (md : Byte) (w : BitVec 16), md.toNat / 32 = 0 → confirms md w (s.levelVolt k.level) = false →
      ∃ t, exec (.compatVoutPoll (some (md, w))) s = .next t ∧ t.clk.compat = some { k with pollAt := s.time } ∧ Only s t [] ∧ t.mem = s.mem)
    ∧ (∀ i : Instr, i = .compatVoutPoll none ∨ (i = .compatStepTimeout ∧ s.reached (k.since + s.eff F.CK_COMPAT_TVC * ms) = true) →
      (k.up = true → s.fget F.CK_CSTEP_FAILS < 2 →
        ∃ t, exec i s = .next t ∧ t.fget F.CK_CSTEP_FAILS = s.fget F.CK_CSTEP_FAILS + 1
          ∧ t.clk.compat = some { k with retryAt := some (s.time + 10 * ms) } ∧ OnlyEv s t [.CK_CSTEP] ∧ t.mem = s.mem)
      ∧ (k.up = true → 2 ≤ s.fget F.CK_CSTEP_FAILS →
        ∃ t, exec i s = .next t ∧ t.clk.compat = none ∧ t.flag F.GL_MODE_REFUSED = true ∧ t.fget F.GL_MODE_WHY = 5
          ∧ OnlyEv s t [.CK_CSTEP, .GL_MODE] ∧ t.mem = s.mem)))
  ∧ ∀ (s : State) (k : CompatStep) (a : Nat), s.clk.compat = some k → k.retryAt = some a → s.reached a = true →
    ∃ t, exec .compatRetry s = .next t ∧ t.clk.compat = some { k with since := s.time, retryAt := none, pollAt := s.time } ∧ Only s t [] ∧ t.mem = s.mem

/-- R315–R320: shelf time. CK_TSET is taken with every channel idle and busy otherwise; a qualified edge shows its offset, keeps r
within ±200 ppm and LOCKED; an edge with EN = 0 only leaves its stamp; 1.1 s without a qualified edge leads to HOLDOVER with event
392, HOLDMAX hours of it to event 393; a slew that ends returns r; EN written 0 leaves the servo FREE. -/
def Obligations.ShelfTimeIsServoed : Prop :=
  (∀ (s : State) (val : Word), s.allIdle = true →
    ∃ t, exec (.timeSet val) s = .next t ∧ t.flag F.CK_PPSSTAT_TSETP = true ∧ t.clk.tset = some val.toNat ∧ t.status = stOk
      ∧ t.ctr = s.ctr ∧ Only s t [.CK_PPSSTAT] ∧ t.mem = s.mem ∧ t.ch = s.ch)
  ∧ (∀ (s : State) (val : Word), s.allIdle = false → exec (.timeSet val) s = .next (s.answer stBusy))
  ∧ (∀ (s : State) (x : Nat), s.flag F.CK_PPS_EN = true → s.effFlag F.CK_PPS_EN = true → s.ppsSpaced (s.ctr + x) = true →
    s.fget F.CK_PPSSTAT_STATE = 3 → (ppsFold (s.ctr + x)).natAbs ≤ s.eff F.CK_PPS_WIN * 1000 →
    ∃ t, exec (.ppsEdge x) s = .next t ∧ t.fgetS F.CK_OFFSET_E = ppsFold (s.ctr + x) ∧ t.clk.lastQual = some (s.ctr + x)
      ∧ t.clk.lastEdge = some (s.ctr + x) ∧ t.fget F.CK_PPSSTAT_STATE = 3 ∧ -200000000 ≤ t.rate ∧ t.rate ≤ 200000000
      ∧ Only s t [.CK_OFFSET, .CK_RATE] ∧ t.ctr = s.ctr ∧ t.mem = s.mem ∧ t.ch = s.ch)
  ∧ (∀ (s : State) (x : Nat), s.flag F.CK_PPS_EN = false →
    ∃ t, exec (.ppsEdge x) s = .next t ∧ t.clk.lastEdge = some (s.ctr + x) ∧ t.clk.lastQual = s.clk.lastQual ∧ Only s t []
      ∧ t.mem = s.mem ∧ t.ch = s.ch)
  ∧ (∀ (s : State) (a : Nat), s.clk.lastQual = some a → a + 1100000000 < s.ctr → 1 ≤ s.fget F.CK_PPSSTAT_STATE →
    s.fget F.CK_PPSSTAT_STATE ≤ 3 →
    ∃ u, exec .ppsLost s = .next (u.raise 392 1) ∧ u.fget F.CK_PPSSTAT_STATE = 4 ∧ u.flag F.CK_PPSSTAT_LOST = true
      ∧ u.clk.holdAt = s.time ∧ u.clk.slew = none ∧ Only s u [.CK_PPSSTAT, .CK_RATE] ∧ u.mem = s.mem)
  ∧ (∀ (s : State) (r : Int) (a : Nat), s.clk.slew = some (r, a) → a < s.ctr + tCtl → -200000000 ≤ r → r ≤ 200000000 →
    ∃ t, exec .ppsSlewEnd s = .next t ∧ t.rate = r ∧ t.clk.slew = none ∧ Only s t [.CK_RATE] ∧ t.mem = s.mem)
  ∧ (∀ s : State, s.fget F.CK_PPSSTAT_STATE = 4 → s.clk.holdDone = false →
    s.reached (s.clk.holdAt + s.eff F.CK_HOLD_HOLDMAX * 3600 * sec + sec) = true →
    ∃ u, exec .holdoverLimit s = .next (u.raise 393 1) ∧ u.flag F.CK_PPSSTAT_HOLDEXP = true ∧ u.clk.holdDone = true
      ∧ Only s u [.CK_PPSSTAT] ∧ u.mem = s.mem)
  ∧ ∀ s : State, ∃ t, exec .ppsDisable s = .next t ∧ t.flag F.CK_PPS_EN = false ∧ t.fget F.CK_PPSSTAT_STATE = 0 ∧ t.status = stOk
    ∧ t.rate = s.rate ∧ Only s t [.CK_PPS, .CK_PPSSTAT] ∧ t.mem = s.mem ∧ t.ch = s.ch

/-- R402–R406, R413: the Vault. The writer gives the first queued record the next slot, its 64 bytes and the next sequence number, or
merges it into the record last written, touching its count, last time and CRC alone; a clear under the lock empties the ring by
its tail and leaves, once done, no record that passes its CRC. -/
def Obligations.VaultWritesMergesAndClears : Prop :=
  (∀ (s : State) (r : VRec) (q : List VRec), s.boot.vaultOn = true → s.flag F.VT_STAT_CLRING = false → s.vault.queue = r :: q →
    s.vault.last = none →
    let n := (s.word .VT_HEAD).toNat
    ∃ t, exec .vaultRecordWrite s = .next t ∧ t.vault.queue = q ∧ t.vault.last = some (r, 1) ∧ t.vault.lostMark = false
      ∧ t.word .VT_HEAD = s.word .VT_HEAD + 1 ∧ Only s t [.VT_HEAD, .VT_TAIL]
      ∧ (r.bytes n 1 r.occ.stamp s.vault.lostMark).length = 64
      ∧ (s.wf = true → ∀ k, k < 64 → t.byte (vaultAddr n + k) = (r.bytes n 1 r.occ.stamp s.vault.lostMark).getD k 0)
      ∧ (∀ a, a < vaultAddr n ∨ vaultAddr n + 64 ≤ a → t.byte a = s.byte a) ∧ t.ch = s.ch)
  ∧ (∀ (s : State) (r l : VRec) (q : List VRec) (c : Nat), s.boot.vaultOn = true → s.flag F.VT_STAT_CLRING = false →
    s.vault.queue = r :: q → s.vault.last = some (l, c) → r.merges l c = true → s.flag F.VT_CTL_FLOOD = true →
    let b := vaultAddr ((s.word .VT_HEAD).toNat + 2 ^ 32 - 1)
    ∃ t, exec .vaultRecordWrite s = .next t ∧ t.vault.queue = q ∧ t.vault.last = some (l, c + 1) ∧ Only s t []
      ∧ (s.wf = true → t.memWord (b + 0x14) = BitVec.ofNat 32 (c + 1)
        ∧ t.memWord (b + 0x3C) = BitVec.ofNat 32 (crc32c (memReadBytes t.mem b 60)))
      ∧ (∀ a, a < b + 0x14 ∨ (b + 0x20 ≤ a ∧ a < b + 0x3C) ∨ b + 0x40 ≤ a → t.byte a = s.byte a) ∧ t.ch = s.ch)
  ∧ (∀ s : State, s.boot.vaultOn = false ∨ s.flag F.VT_STAT_CLRING = true → exec .vaultRecordWrite s = .next s)
  ∧ (∀ s : State, (s.cellar.snap.map Snap.closed).getD false = false →
    (s.flag F.GL_LOCK_OPEN = true → ∃ t, exec .vaultClear s = .next t ∧ t.word .VT_TAIL = s.word .VT_HEAD
      ∧ t.flag F.VT_STAT_CLRING = true ∧ t.vault.last = none ∧ t.vault.queue = s.vault.queue ∧ t.status = stOk
      ∧ Only s t [.VT_TAIL, .VT_STAT] ∧ t.mem = s.mem)
    ∧ (s.flag F.GL_LOCK_OPEN = false → exec .vaultClear s = .next (s.answer stLocked)))
  ∧ (∀ s : State, (s.cellar.snap.map Snap.closed).getD false = true → exec .vaultClear s = .next (s.answer stBusy))
  ∧ ∀ s : State, s.wf = true → s.flag F.VT_STAT_CLRING = true →
    ∃ t, exec .vaultClearDone s = .next t ∧ t.flag F.VT_STAT_CLRING = false ∧ (∀ k, k < 65536 → t.slotSeq k = none)
      ∧ (∀ a, a < 0x400000 ∨ 0x800000 ≤ a → t.byte a = s.byte a) ∧ Only s t [.VT_STAT]

/-- R408–R411: the Cellar. A host trigger takes the free slot, or joins the snapshot under way, or is counted as lost with event 483;
the capture closes once its last instant is in; the slot written is valid, holds its causes and number, and leaves a type 4
record; a frozen slot is released. -/
def Obligations.CellarTakesSnapshots : Prop :=
  (∀ (s : State) (k : Fin 4), s.cellar.snap = none → s.freeSlot = some k →
    ∃ t sn, exec .cellarHostTrigger s = .next t ∧ t.cellar.snap = some sn ∧ sn.slot = k ∧ sn.causes = 8 ∧ sn.num = s.cellar.nextNum
      ∧ sn.stamp = s.ctr ∧ sn.t = gridUp s.ctr (100 * us) ∧ t.cellar.nextNum = s.cellar.nextNum + 1 ∧ t.flag F.VT_CSTAT_CAPT = true
      ∧ t.status = stOk ∧ Only s t [.VT_CSTAT] ∧ t.mem = s.mem ∧ t.ch = s.ch)
  ∧ (∀ (s : State) (sn : Snap), s.cellar.snap = some sn →
    ∃ t y, exec .cellarHostTrigger s = .next t ∧ t.cellar.snap = some y ∧ y.causes = sn.causes ||| 8 ∧ y.joined = sn.joined + 1
      ∧ y.slot = sn.slot ∧ y.num = sn.num ∧ t.status = stOk ∧ Only s t [] ∧ t.mem = s.mem)
  ∧ (∀ s : State, s.cellar.snap = none → s.freeSlot = none →
    ∃ u, exec .cellarHostTrigger s = .next ((u.raise 483 1).answer stOk)
      ∧ u.fget F.VT_CSTAT_LOST = min (s.fget F.VT_CSTAT_LOST + 1) 255 ∧ u.cellar = s.cellar ∧ Only s u [.VT_CSTAT] ∧ u.mem = s.mem)
  ∧ (∀ (s : State) (sn : Snap), s.cellar.snap = some sn → sn.closed = false → sn.t + 49900 * us + 400 * us ≤ s.ctr →
    ∃ t y, exec .cellarCaptureClose s = .next t ∧ t.cellar.snap = some y ∧ y.closed = true ∧ y.slot = sn.slot ∧ y.atT.isSome = true
      ∧ t.flag F.VT_CSTAT_CAPT = false ∧ t.flag F.VT_CSTAT_WRITING = true ∧ t.flag (F.VT_CSLOT_BUSY sn.slot) = true
      ∧ t.flag (F.VT_CSLOT_VALID sn.slot) = false ∧ Only s t [.VT_CSTAT, .VT_CSLOT sn.slot]
      ∧ ∀ a, a < slotHeader sn.slot + 0x3C ∨ slotHeader sn.slot + 0x40 ≤ a → t.byte a = s.byte a)
  ∧ (∀ (s : State) (sn : Snap), s.cellar.snap = some sn → sn.closed = true → s.boot.vaultOn = true → sn.causes < 16 →
    sn.num < 65536 → s.vault.queue.length < 1024 →
    ∃ t r, exec .cellarSlotWritten s = .next t ∧ t.cellar.snap = none ∧ t.flag (F.VT_CSLOT_VALID sn.slot) = true
      ∧ t.flag (F.VT_CSLOT_BUSY sn.slot) = false ∧ t.flag (F.VT_CSLOT_FROZEN sn.slot) = sn.freeze
      ∧ t.fget (F.VT_CSLOT_CAUSES sn.slot) = sn.causes ∧ t.fget (F.VT_CSLOT_SNAP sn.slot) = sn.num
      ∧ t.fget F.VT_CSTAT_SNAP = sn.num ∧ t.flag F.VT_CSTAT_WRITING = false ∧ t.vault.queue = s.vault.queue ++ [r] ∧ r.typ = 4
      ∧ Only s t [.VT_CSLOT sn.slot, .VT_CSTAT, .VT_QUEUE] ∧ t.ch = s.ch
      ∧ (s.wf = true → ∀ a, a < 0x800000 → t.byte a = s.byte a))
  ∧ ∀ (s : State) (k : Fin 4),
    ∃ t, exec (.cellarSlotRelease k) s = .next t ∧ t.flag (F.VT_CSLOT_FROZEN k) = false ∧ t.status = stOk ∧ Only s t [.VT_CSLOT k]
      ∧ t.cellar = s.cellar ∧ t.mem = s.mem ∧ t.ch = s.ch

/-- R335–R340: occurrences. One is counted, saturating, whatever its mask; unmasked it sets its EV_PEND bit and no other, and joins
each queue whose threshold it reaches, before the entries at its end that came later or, in the same 10 ns, with a greater number; masked it leaves the bit and the queues, but for a record its rule requires. While the
Vault is not powered it waits in the Attic queue of 64, oldest first, and a full queue counts what it loses; once the queue is
there, what comes later waits behind it; the drain empties both in order. -/
def Obligations.EventsAreCountedAndRouted : Prop :=
  (∀ (s : State) (o : Occ), o.num < 512 →
    ((s.routeOne o).1.fget (F.EV_CFG_COUNT (evIx o.num)) = min (s.fget (F.EV_CFG_COUNT (evIx o.num)) + 1) 65535)
    ∧ (s.masked o.num = false → (s.routeOne o).1.pend o.num = true)
    ∧ (∀ k : Nat, k < 512 → k ≠ o.num → (s.routeOne o).1.pend k = s.pend k)
    ∧ (s.masked o.num = true → (s.routeOne o).1.pend o.num = s.pend o.num ∧ (s.routeOne o).1.ev = s.ev
      ∧ (o.required = false → (s.routeOne o).1.vault = s.vault))
    ∧ (s.masked o.num = false → s.fget (F.EV_CFG_VLTSEV (evIx o.num)) ≤ o.sev ∨ o.required = true →
      s.vault.queue.length < 1024 → (s.routeOne o).2 = false
        ∧ ∃ p q, s.vault.queue = p ++ q ∧ (s.routeOne o).1.vault.queue = p ++ { typ := 1, occ := o } :: q
          ∧ (∀ y ∈ q, y.typ = 1 ∧ occAfter y.occ o = true) ∧ ∀ y, p.getLast? = some y → y.typ ≠ 1 ∨ occAfter y.occ o = false)
    ∧ (s.masked o.num = false → s.fget (F.EV_CFG_NTFYSEV (evIx o.num)) ≤ o.sev → o.num ≠ 430 → s.ev.notify.length < 16 →
      ∃ p q, s.ev.notify = p ++ q ∧ (s.routeOne o).1.ev.notify = p ++ o :: q ∧ (∀ y ∈ q, occAfter y o = true)
        ∧ ∀ y, p.getLast? = some y → occAfter y o = false)
    ∧ (∀ r : Reg, r.group ≠ 2 → r.group ≠ 10 → (s.routeOne o).1.word r = s.word r) ∧ (s.routeOne o).1.mem = s.mem
    ∧ (s.routeOne o).1.ch = s.ch)
  ∧ (∀ (s : State) (n v : Nat) (p : List Byte), s.boot.vaultOn = false → s.pmode ≠ mdDEEP →
    (s.ev.attic.length < 64 → ∃ o, (s.raise n v p).ev.attic = s.ev.attic ++ [o] ∧ o.num = n ∧ o.sev = v ∧ o.stamp = s.ctr
      ∧ o.payload = p ∧ o.queued = true ∧ Only s (s.raise n v p) [])
    ∧ (64 ≤ s.ev.attic.length → v < 2 → (s.raise n v p).ev.attic = s.ev.attic ∧ (s.raise n v p).flag F.EV_STAT_AQOVF = true
      ∧ (s.raise n v p).fget F.EV_STAT_AQLOST = min (s.fget F.EV_STAT_AQLOST + 1) 127))
  ∧ (∀ (s : State) (n v : Nat) (p : List Byte), s.boot.vaultOn = true → s.ev.attic ≠ [] →
    ∃ o, (s.raise n v p).ev.behind = s.ev.behind ++ [o] ∧ o.num = n ∧ Only s (s.raise n v p) [])
  ∧ (∀ s : State, s.boot.vaultOn = true →
    ∃ t, exec .atticQueueDrain s = .next t ∧ t.ev.attic = [] ∧ t.ev.behind = [] ∧ OnlyEv s t [] ∧ t.mem = s.mem ∧ t.ch = s.ch)
  ∧ (∀ s : State, s.boot.vaultOn = false → exec .atticQueueDrain s = .next s)

/-- R349–R352, R363, R364: who may give a command. Recovery refuses what it does not serve, a session without the right is answered
AUTH, and one that has it BUSY while the supervisor does not serve, but for a refusal that R349 judges before BUSY: in each case
nothing else happens. R350, R131: words and
blocks. READ32 and WRITE32 are the host's read and write of a word; a block of store words is read whole, and written whole unless
a word of it is protected; a block with an unoccupied word does nothing. -/
def Obligations.RightsThenWordsAndBlocks : Prop :=
  (∀ (s : State) (x : Sess) (a n : Nat) (w v : Word) (vs : List Word),
    let refused (st : Nat) : Prop := ∀ i : Instr, i = .write32 x a w ∨ i = .writeBlock x a vs ∨ i = .programLoad x w a n v
      ∨ i = .subscribe x w ∨ i = .ack x a n → exec i s = .next (s.answer st)
    (s.flag F.HL_STAT_RECOV = true → refused stRecovery ∧ exec (.wake x) s = .next (s.answer stRecovery))
    ∧ (s.flag F.HL_STAT_RECOV = false → s.allowed x .write = false → refused stAuth
      ∧ ∀ i : Instr, i = .bulkOpen x n ∨ i = .imageStage x w ∨ i = .imageCommit x w ∨ i = .wake x → exec i s = .next (s.answer stAuth))
    ∧ (s.flag F.HL_STAT_RECOV = false → s.allowed x .write = true → s.serving = false →
      exec (.subscribe x w) s = .next (s.answer stBusy) ∧ exec (.ack x a n) s = .next (s.answer stBusy)
      ∧ exec (.programLoad x w a n v) s = .next (s.answer (if 65536 < a + n then stAddress else stBusy))
      ∧ (placeOf a = .none → exec (.write32 x a w) s = .next (s.answer stAddress))
      ∧ (placeOf a = .store → exec (.write32 x a w) s = .next (s.answer stBusy))
      ∧ (occupied a = false → vs ≠ [] → exec (.writeBlock x a vs) s = .next (s.answer stAddress)))
    ∧ (s.flag F.HL_STAT_RECOV = false → s.allowed x .read = false →
      ∀ i : Instr, i = .read32 x a ∨ i = .readBlock x a n ∨ i = .bulkStatus x n ∨ i = .bulkRead x a n → exec i s = .next (s.answer stAuth))
    ∧ (s.flag F.HL_CFG_ANONRD = false → s.allowed .anon .read = false) ∧ s.allowed .anon .write = false
    ∧ (s.flag F.HL_CFG_SPIAUTH = false → s.allowed .spi .write = true))
  ∧ ((∀ (s : State) (x : Sess) (a : Nat), s.mayGive x .read →
    (∀ r, placeOf a = .reg r → ∃ t, exec (.read32 x a) s = .next t ∧ t.status = stOk ∧ t.data = bytesOf (s.regRead r).1
      ∧ Only s t [] ∧ t.mem = s.mem)
    ∧ (placeOf a = .store → exec (.read32 x a) s = .next (s.answer stOk (bytesOf (s.memWord a))))
    ∧ (placeOf a = .none → exec (.read32 x a) s = .next (s.answer stAddress)))
  ∧ (∀ (s : State) (x : Sess) (a : Nat) (w : Word), s.mayGive x .write → exec (.write32 x a w) s = .next (s.hostWrite (some x) a w))
  ∧ (∀ (s : State) (x : Sess) (a n : Nat), s.mayGive x .read →
    (a % 4 = 0 → 0x200000 ≤ a → a + 4 * n ≤ 0x280000 → 1 ≤ n → n ≤ 256 →
      exec (.readBlock x a n) s = .next (s.answer stOk (memReadBytes s.mem a (4 * n))))
    ∧ ((∃ k, k < n ∧ occupied (a + 4 * k) = false) → exec (.readBlock x a n) s = .next (s.answer stAddress)))
  ∧ (∀ (s : State) (x : Sess) (a : Nat) (vs : List Word), s.mayGive x .write → a % 4 = 0 → 0x200000 ≤ a →
    a + 4 * vs.length ≤ 0x280000 → vs ≠ [] → vs.length ≤ 256 →
    ((∀ k, k < vs.length → s.storeLocked (a + 4 * k) = false) →
      ∃ t, exec (.writeBlock x a vs) s = .next t ∧ t.status = stOk ∧ t.data = le32 0xFFFFFFFF ∧ Only s t []
        ∧ (s.wf = true → ∀ k, k < 4 * vs.length → t.byte (a + k) = (vs.flatMap bytesOf).getD k 0)
        ∧ (∀ b, b < a ∨ a + 4 * vs.length ≤ b → t.byte b = s.byte b) ∧ t.ch = s.ch)
    ∧ ∀ k, k < vs.length → s.storeLocked (a + 4 * k) = true → (∀ j, j < k → s.storeLocked (a + 4 * j) = false) →
      exec (.writeBlock x a vs) s = .next (s.answer stBusy (le32 k)))
  ∧ ∀ (s : State) (x : Sess) (a : Nat) (vs : List Word) (k : Nat), s.mayGive x .write → k < vs.length →
    occupied (a + 4 * k) = false → (∀ j, j < k → occupied (a + 4 * j) = true) →
    exec (.writeBlock x a vs) s = .next (s.answer stAddress (le32 k)))

/-- R358–R361: transfers, programs and images. A write transfer opens with an empty map, unless a command still uses the buffer, takes
the bytes its frames carry and says what it misses; a read transfer sends 1,400 bytes at a time when its pace allows and closes with
its last; PROGRAM_LOAD stores the staged words once all are there and their CRC is right; an image that passes its checks is staged
in the bank not running, and committed only once staged. -/
def Obligations.TransfersProgramsAndImages : Prop :=
  (∀ (s : State) (x : Sess) (n : Nat), s.mayGive x .write →
    (s.bufferUsed = false → n % 4 = 0 → n ≤ bulkMax → ∃ t, exec (.bulkOpen x n) s = .next t ∧ t.flag F.HL_BULK_WOPEN = true ∧ t.link.bulk.buf = []
      ∧ t.link.bulk.total = n ∧ t.link.bulk.owner = x ∧ t.status = stOk ∧ t.data = le32 (t.fget F.HL_BULK_WID)
      ∧ Only s t [.HL_BULK] ∧ t.mem = s.mem)
    ∧ (s.bufferUsed = false → n % 4 ≠ 0 ∨ bulkMax < n → exec (.bulkOpen x n) s = .next (s.answer stReserved))
    ∧ (s.bufferUsed = true → exec (.bulkOpen x n) s = .next (s.answer stBusy)))
  ∧ (∀ (s : State) (x : Sess) (id off : Nat) (bs : List Byte), s.allowed x .write = true → s.flag F.HL_BULK_WOPEN = true →
    (id = s.fget F.HL_BULK_WID → off % 4 = 0 → bs.length % 4 = 0 → bs.length ≤ 1400 → off + bs.length ≤ s.link.bulk.total →
      ∃ t, exec (.bulkWriteData x id off bs) s = .next t ∧ (∀ k, k < bs.length → memRead t.link.bulk.buf (off + k) = bs.getD k 0)
        ∧ (∀ a, a < off ∨ off + bs.length ≤ a → memRead t.link.bulk.buf a = memRead s.link.bulk.buf a) ∧ Only s t [] ∧ t.mem = s.mem)
    ∧ (id ≠ s.fget F.HL_BULK_WID → exec (.bulkWriteData x id off bs) s = .next s))
  ∧ (∀ (s : State) (x : Sess) (id : Nat), s.mayGive x .read →
    (s.flag F.HL_BULK_WOPEN = true → id = s.fget F.HL_BULK_WID →
      exec (.bulkStatus x id) s = .next (s.answer stOk (le32 s.link.bulk.buf.length
        ++ le32 (if s.link.bulk.buf.length = s.link.bulk.total then 0xFFFFFFFF else firstGap s.link.bulk.buf 0))))
    ∧ (s.flag F.HL_BULK_WOPEN = false → exec (.bulkStatus x id) s = .next (s.answer stReserved)))
  ∧ (∀ (s : State) (x : Sess) (a n : Nat), s.mayGive x .read →
    (a % 4 = 0 → 0x400000 ≤ a → a < 0xE00000 → a + n ≤ 0xE00000 → n % 4 = 0 → n ≤ bulkMax → s.link.bulk.reads.length < 4 →
      ∃ t r, exec (.bulkRead x a n) s = .next t ∧ t.link.bulk.reads = s.link.bulk.reads ++ [r] ∧ r.sess = x ∧ r.next = a ∧ r.base = a
        ∧ r.stop = a + n ∧ t.fget F.HL_BULK_ROPEN = s.link.bulk.reads.length + 1 ∧ t.status = stOk ∧ t.data = le32 r.id
        ∧ Only s t [.HL_BULK] ∧ t.mem = s.mem)
    ∧ (a % 4 = 0 → 0x400000 ≤ a → a < 0xE00000 → a + n ≤ 0xE00000 → 4 ≤ s.link.bulk.reads.length →
      exec (.bulkRead x a n) s = .next (s.answer stBusy)))
  ∧ (∀ (s : State) (id : Nat) (r : ReadXfer), s.link.bulk.reads.find? (fun q => decide (q.id = id)) = some r →
    s.flag F.VT_STAT_CLRING = false → s.link.bulk.reads.length ≤ 4 →
    (s.reached s.link.bulk.nextAt = false → exec (.bulkReadFrame id) s = .next s)
    ∧ (s.reached s.link.bulk.nextAt = true → ∃ t, exec (.bulkReadFrame id) s = .next t
      ∧ t.link.bulk.nextAt = max s.link.bulk.nextAt s.time + s.bulkPace (min r.stop (r.next + 1400) - r.next)
      ∧ (∀ q ∈ t.link.bulk.reads, q.id = id → q.next = min r.stop (r.next + 1400) ∧ q.next < q.stop)
      ∧ (∀ q, q.id ≠ id → (q ∈ t.link.bulk.reads ↔ q ∈ s.link.bulk.reads))
      ∧ t.fget F.HL_BULK_ROPEN = t.link.bulk.reads.length
      ∧ (r.sess = .anon → r.port = .la → s.flag (F.HL_PSTAT_LINK 0) = true →
        ∃ f, t.link.wire = f :: s.link.wire ∧ f.cls = 0x20 ∧ f.peer = r.peer
          ∧ f.payload = le16 r.id ++ le16 0 ++ le32 (r.next - r.base) ++ memReadBytes s.mem r.next (min 1400 (r.stop - r.next)))
      ∧ Only s t [.HL_BULK] ∧ t.mem = s.mem))
  ∧ (∀ (s : State) (x : Sess) (bank crc : Word) (i n : Nat), s.mayGive x .write → i + n ≤ 65536 → bank.toNat ≤ 1 →
    (∀ k, k < n → s.storeLocked (storeAddr bank.toNat i + 4 * k) = false) → s.stagedFull (4 * n) = true →
    (crc32c (s.staged 0 (4 * n)) = crc.toNat →
      ∃ t, exec (.programLoad x bank i n crc) s = .next t ∧ t.status = stOk ∧ Only s t [] ∧ t.ch = s.ch
        ∧ (s.wf = true → ∀ k, k < 4 * n → t.byte (storeAddr bank.toNat i + k) = (s.staged 0 (4 * n)).getD k 0)
        ∧ ∀ b, b < storeAddr bank.toNat i ∨ storeAddr bank.toNat i + 4 * n ≤ b → t.byte b = s.byte b)
    ∧ (crc32c (s.staged 0 (4 * n)) ≠ crc.toNat → exec (.programLoad x bank i n crc) s = .next (s.answer stCrc)))
  ∧ (∀ (s : State) (x : Sess), s.mayGive x .write →
    (s.imageCheck = stOk → ∃ u, exec (.imageStage x 0) s = .next ((u.raise 423 0).answer stOk
        (le32 (wordAt (s.staged 0 s.link.bulk.total) 12) ++ le32 (!s.flag F.GL_STATE_FWBANK).toNat)) ∧ Only s u [] ∧ u.mem = s.mem
      ∧ (s.flag F.GL_STATE_FWBANK = false → u.nv.stagedB = true ∧ u.nv.imgB = wordAt (s.staged 0 s.link.bulk.total) 12)
      ∧ (s.flag F.GL_STATE_FWBANK = true → u.nv.stagedA = true ∧ u.nv.imgA = wordAt (s.staged 0 s.link.bulk.total) 12))
    ∧ (s.imageCheck ≠ stOk → exec (.imageStage x 0) s = .next ((s.raise 424 2).answer s.imageCheck))
    ∧ (s.nv.stagedB = true → ∃ t, exec (.imageCommit x 1) s = .next t ∧ t.nv.bootB = true ∧ t.maint.commit = true ∧ t.status = stOk
      ∧ Only s t [] ∧ t.mem = s.mem)
    ∧ (s.nv.stagedA = false → exec (.imageCommit x 0) s = .next (s.answer stBusy)))

/-- R350–R357, R362, R365, R371: sessions and keys. Phase 1 opens a free slot with a number no slot has, phase 2 with the right code
authenticates it with event 418 and with a wrong one frees it, the fifth failure in 60 s locking phase 1 out; SUBSCRIBE, ACK and
CLOSE act on the session's own subscriptions, frames, transfers and lock; a key is set once in the open and wrapped afterwards; a
keepalive is echoed with the time; WAKE wakes DEEP. -/
def Obligations.SessionsAndKeys : Prop :=
  (∀ (s : State) (nh : List Byte), s.serving = true → s.link.lockAt = none → s.link.dkey.isSome = true → nh.length = 16 →
    (∃ k : Fin 8, (s.link.sess[k]).opn = false) →
    ∃ (t : State) (k : Fin 8) (num : Nat) (nd : List Byte), exec (.authPhase1 .anon nh) s = .next t ∧ (s.link.sess[k]).opn = false
      ∧ (t.link.sess[k]).opn = true ∧ (t.link.sess[k]).auth = false ∧ (t.link.sess[k]).num = num ∧ (t.link.sess[k]).nh = nh
      ∧ (t.link.sess[k]).nd = nd ∧ nd.length = 16 ∧ 1 ≤ num ∧ num < 0xFFFFFFFF ∧ (∀ j : Fin 8, (s.link.sess[j]).num ≠ num)
      ∧ (∀ j : Fin 8, j ≠ k → t.link.sess[j] = s.link.sess[j]) ∧ t.status = stOk ∧ t.data = le32 num ++ nd ∧ Only s t [] ∧ t.mem = s.mem)
  ∧ (∀ (s : State) (nh : List Byte), s.serving = true → nh.length = 16 →
    s.link.lockAt.isSome = true → exec (.authPhase1 .anon nh) s = .next (s.answer stBusy))
  ∧ (∀ (s : State) (x : Sess) (k : Fin 9) (ph : List Byte), sessIx x = some k → s.serving = true → (s.sessAt k).nh ≠ [] →
    ph.length = 32 →
    (ph = authMac (s.link.dkey.getD []) 0x48 (s.sessAt k) → s.time ≤ (s.sessAt k).phase1At + 5 * sec →
      ∃ u, exec (.authPhase2 x ph) s = .next ((u.raise 418 0).answer stOk (authMac (s.link.dkey.getD []) 0x44 (s.sessAt k)))
        ∧ (u.sessAt k).auth = true ∧ (u.sessAt k).key = authMac (s.link.dkey.getD []) 0x53 (s.sessAt k) ∧ (u.sessAt k).nh = []
        ∧ (∀ j, j ≠ k → u.sessAt j = s.sessAt j) ∧ Only s u [] ∧ u.mem = s.mem)
    ∧ (ph ≠ authMac (s.link.dkey.getD []) 0x48 (s.sessAt k) ∨ (s.sessAt k).phase1At + 5 * sec < s.time →
      ∃ t, exec (.authPhase2 x ph) s = .next t ∧ t.status = stAuth ∧ (k ≠ 8 → (t.sessAt k).opn = false)
        ∧ t.fget F.HL_KEYSTAT_AUTHFAIL = min (s.fget F.HL_KEYSTAT_AUTHFAIL + 1) 255
        ∧ t.link.lockAt = (if 4 ≤ (s.link.failAt.filter fun a => decide (s.time < a + 60 * sec)).length then some s.time
            else s.link.lockAt)
        ∧ OnlyEv s t [.HL_KEYSTAT] ∧ t.mem = s.mem))
  ∧ (∀ (s : State) (x : Sess) (k : Fin 9) (w : Word) (c n : Nat), s.mayGive x .write → sessIx x = some k →
    (w.toNat ≤ 3 → ∃ t, exec (.subscribe x w) s = .next t ∧ (t.sessAt k).evsub = w.getLsbD 0
      ∧ (t.sessAt k).lmgr = (w.getLsbD 1 && decide (k ≠ 8)) ∧ (∀ j, j ≠ k → t.sessAt j = s.sessAt j) ∧ t.status = stOk ∧ Only s t []
      ∧ t.mem = s.mem)
    ∧ (3 < w.toNat → exec (.subscribe x w) s = .next (s.answer stReserved))
    ∧ (∃ t, exec (.ack x 3 n) s = .next t ∧ (t.sessAt k).evq = (s.sessAt k).evq.filter (fun f => !seqCovers n f.seq)
      ∧ t.status = stOk ∧ Only s t [] ∧ t.mem = s.mem ∧ t.ch = s.ch)
    ∧ (∃ t, exec (.ack x 0x10 n) s = .next t ∧ t.link.recs = s.link.recs.filter (fun f => !seqCovers n f.seq) ∧ t.status = stOk
      ∧ Only s t [] ∧ t.mem = s.mem)
    ∧ (c ≠ 3 → c ≠ 0x10 → exec (.ack x c n) s = .next (s.answer stReserved)))
  ∧ (∀ (s : State) (k : Fin 8), s.mayGive (.slot k) .own →
    ∃ u, exec (.close (.slot k)) s = .next ((u.raise 418 0).answer stOk) ∧ (u.link.sess[k]).opn = false
      ∧ (s.lockBy = some (.slot k) → u.flag F.GL_LOCK_OPEN = false ∧ u.lockAt = none)
      ∧ (∀ r ∈ u.link.bulk.reads, r.sess ≠ .slot k) ∧ (s.link.bulk.owner = .slot k → u.flag F.HL_BULK_WOPEN = false)
      ∧ (∀ j : Fin 8, j ≠ k → u.link.sess[j] = s.link.sess[j]) ∧ Only s u [.GL_LOCK, .HL_BULK] ∧ u.mem = s.mem)
  ∧ (∀ (s : State) (x : Sess), s.flag F.HL_STAT_RECOV = false → s.allowed x .write = true → s.served = true →
    s.flag F.GL_STATE_SUPV = false →
    ∃ t, exec (.wake x) s = .next t ∧ t.status = stOk
      ∧ t.mode.wakeFrom = (if s.pmode = mdDEEP then some (s.mode.wakeFrom.getD s.time) else s.mode.wakeFrom) ∧ Only s t []
      ∧ t.mem = s.mem ∧ t.ch = s.ch)
  ∧ (∀ (s : State) (key : List Byte), s.flag F.HL_STAT_RECOV = false → s.serving = true → key.length = 32 →
    (s.flag F.HL_KEYSTAT_DKEY = false → (∃ t, exec (.keySetDevice .spi key) s = .next t ∧ t.link.dkey = some key
        ∧ t.flag F.HL_KEYSTAT_DKEY = true ∧ t.status = stOk ∧ Only s t [.HL_KEYSTAT] ∧ t.mem = s.mem)
      ∧ ∀ k : Fin 8, exec (.keySetDevice (.slot k) key) s = .next (s.answer stAuth))
    ∧ (∀ k : Fin 8, (s.link.sess[k]).opn = true → (s.link.sess[k]).auth = true → s.flag F.HL_KEYSTAT_DKEY = true → ∃ t, exec (.keySetDevice (.slot k) key) s = .next t
      ∧ t.link.dkey = some (xorBytes key (Config.hmacSha256 (s.link.sess[k]).key
          (aslpTag 0x57 ++ le32 ((s.link.sess[k]).last.getD 0))).toList) ∧ t.status = stOk ∧ Only s t [.HL_KEYSTAT])
    ∧ ∀ x : Sess, s.allowed x .own = true →
      (s.flag F.HL_KEYSTAT_OWNKEY = false → ∃ t, exec (.keySetOwner x key) s = .next t ∧ t.link.owner = some key
        ∧ t.flag F.HL_KEYSTAT_OWNKEY = true ∧ t.status = stOk ∧ Only s t [.HL_KEYSTAT] ∧ t.mem = s.mem)
      ∧ (s.flag F.HL_KEYSTAT_OWNKEY = true → exec (.keySetOwner x key) s = .next (s.answer stBusy)))
  ∧ ∀ (s : State) (k : Fin 8) (d : List Byte), (s.link.sess[k]).opn = true → (s.link.sess[k]).auth = true → d.length = 8 →
    ∃ t f, exec (.keepalive (.slot k) d) s = .next t ∧ (t.link.sess[k]).heard = s.time ∧ (t.link.sess[k]).cached = some f ∧ f.cls = 0x31
      ∧ f.payload = d ++ le64 (stampCode s.ctr) ∧ f.flags = 1 ∧ f.tag.length = 16
      ∧ (((s.link.sess[k]).port = .la ∧ s.flag (F.HL_PSTAT_LINK 0) = true) ∨ ((s.link.sess[k]).port = .lb
          ∧ s.flag (F.HL_PSTAT_LINK 1) = true) → t.link.wire = f :: s.link.wire) ∧ Only s t [] ∧ t.mem = s.mem ∧ t.ch = s.ch

/-- R371, R355, R372, R376–R378, R362: sessions age, rates change and ports restart. A silent session closes with its lock and
transfers; the lockout ends after 60 s; the accepted switch takes both links down at the proposed rates, LA's return completes the
handshake with event 421 and its absence restores the former rates with FAIL and event 422; an ACCEPT in time or a REFUSE of a
link manager decides it; a port that is not enabled stays down; an accepted port write restarts its link; NZOFF needs an owner key
and the lock. -/
def Obligations.SessionsRatesAndPorts : Prop :=
  (∀ (s : State) (k : Fin 8), (s.link.sess[k]).opn = true →
    (s.link.sess[k]).heard + s.fget F.HL_CFG_STMO * sec < s.time →
    ∃ t, exec (.sessionTimeout k) s = .next t ∧ (t.link.sess[k]).opn = false
      ∧ (s.lockBy = some (.slot k) → t.flag F.GL_LOCK_OPEN = false) ∧ (∀ r ∈ t.link.bulk.reads, r.sess ≠ .slot k)
      ∧ OnlyEv s t [.GL_LOCK, .HL_BULK] ∧ t.mem = s.mem)
  ∧ (∀ (s : State) (a : Nat), s.link.lockAt = some a → a + 60 * sec < s.time →
    ∃ t, exec .authLockoutEnd s = .next t ∧ t.link.lockAt = none ∧ t.link.failAt = [] ∧ t.flag F.HL_KEYSTAT_AUTHLOCK = false
      ∧ Only s t [.HL_KEYSTAT] ∧ t.mem = s.mem)
  ∧ (∀ s : State, s.rateState = 1 → s.link.rate.accepted = true → s.link.rate.t < s.ctr + tCtl →
    ∃ t, exec .rateSwitch s = .next t ∧ t.rateState = 2 ∧ t.flag (F.HL_PSTAT_LINK 0) = false ∧ t.flag (F.HL_PSTAT_LINK 1) = false
      ∧ t.fget (F.HL_PSTAT_RATE 0) = s.rateCode 0 s.link.rate.la ∧ t.fget (F.HL_PSTAT_RATE 1) = s.rateCode 1 s.link.rate.lb
      ∧ t.link.rate.oldLa = s.fget (F.HL_PSTAT_RATE 0) ∧ t.link.decAt = s.time
      ∧ OnlyEv s t [.HL_RATE, .HL_PSTAT 0, .HL_PSTAT 1] ∧ t.mem = s.mem)
  ∧ (∀ s : State, s.rateState = 2 → s.link.rate.done = false → s.linkable 0 = true → s.ctr ≤ s.link.rate.t + 2 * sec →
    ∃ t, exec .rateSwitchDone s = .next t ∧ t.rateState = (if s.link.rate.restore then 0 else 3)
      ∧ t.mode.handshake = !s.link.rate.restore ∧ t.flag (F.HL_PSTAT_LINK 0) = true ∧ OnlyEv s t [.HL_RATE, .HL_PSTAT 0] ∧ t.mem = s.mem)
  ∧ (∀ s : State, s.rateState = 2 → s.link.rate.t + 2 * sec < s.ctr →
    ∃ u, exec .rateSwitchTimeout s = .next (u.raise 422 1) ∧ u.flag F.HL_RATE_FAIL = true
      ∧ u.rateState = (if s.link.rate.restore then 3 else 0) ∧ u.link.rate.retryAt = some (s.time + 10 * sec)
      ∧ u.fget (F.HL_PSTAT_RATE 0) = s.link.rate.oldLa % 4 ∧ u.fget (F.HL_PSTAT_RATE 1) = s.link.rate.oldLb % 4
      ∧ Only s u [.HL_RATE, .HL_PSTAT 0, .HL_PSTAT 1] ∧ u.mem = s.mem)
  ∧ (∀ s : State, s.rateState = 1 → s.link.rate.accepted = false → s.reached (s.link.rate.proposedAt + 200 * ms) = true →
    ∃ t, exec .proposeResend s = .next t ∧ t.link.rate.proposedAt = s.time ∧ t.rateState = 1 ∧ Only s t [] ∧ t.mem = s.mem)
  ∧ (∀ (s : State) (x : Sess) (k : Fin 9), sessIx x = some k → (s.sessAt k).lmgr = true → s.rateState = 1 →
    s.link.rate.restore = false →
    (s.link.rate.accepted = false → s.ctr + 500 * ms ≤ s.link.rate.t →
      ∃ t, exec (.rateControlFrame x 2) s = .next t ∧ t.link.rate.accepted = true ∧ t.rateState = 1 ∧ Only s t [] ∧ t.mem = s.mem)
    ∧ (s.link.rate.accepted = false → s.link.rate.t < s.ctr + 500 * ms →
      ∃ t, exec (.rateControlFrame x 2) s = .next t ∧ t.link.rate.retryAt = some s.time ∧ t.rateState = 0 ∧ Only s t [.HL_RATE])
    ∧ (∃ t, exec (.rateControlFrame x 3) s = .next t ∧ t.link.rate.refused = true ∧ t.rateState = 0 ∧ Only s t [.HL_RATE]
      ∧ t.mem = s.mem))
  ∧ (∀ (s : State) (p : Fin 2),
    (s.flag (F.HL_PSTAT_LINK p) = true → ∃ t, exec (.linkChange p false) s = .next t ∧ t.flag (F.HL_PSTAT_LINK p) = false
      ∧ t.fget (F.HL_PSTAT_DOWNS p) = (s.fget (F.HL_PSTAT_DOWNS p) + 1) % 65536 ∧ t.link.decAt = s.time
      ∧ OnlyEv s t [.HL_PSTAT p] ∧ t.mem = s.mem)
    ∧ (s.flag (F.HL_PCFG_EN p) = true → s.fget (F.HL_PSTAT_RATE p) ≠ 3 → s.flag F.CK_PLLSTAT_LOCK3 = true → s.served = true →
      s.gateOn (if p = 0 then 5 else 6) = true → ∃ t, exec (.linkChange p true) s = .next t ∧ t.flag (F.HL_PSTAT_LINK p) = true
        ∧ OnlyEv s t [.HL_PSTAT p] ∧ t.mem = s.mem)
    ∧ (s.flag (F.HL_PCFG_EN p) = false ∨ s.flag F.CK_PLLSTAT_LOCK3 = false → exec (.linkChange p true) s = .next s))
  ∧ (∀ (s : State) (a : Nat) (val : Word),
    (∀ (r : Reg) (p : Fin 2), Reg.ofAddr a = some r → portReg r = some p →
      ((s.writeReg r val).status = stOk → ∃ t, exec (.portConfigWrite a val) s = .next t ∧ t.status = stOk
        ∧ t.word r = (s.writeReg r val).word r ∧ t.flag (F.HL_PSTAT_LINK p) = false
        ∧ (s.rateState = 0 → t.fget (F.HL_PSTAT_RATE p) = t.fget (F.HL_PCFG_RATE p)) ∧ OnlyEv s t [r, .HL_PSTAT p] ∧ t.mem = s.mem)
      ∧ ((s.writeReg r val).status ≠ stOk → exec (.portConfigWrite a val) s = .next (s.writeReg r val)))
    ∧ ((∀ r, Reg.ofAddr a = some r → portReg r = none) → exec (.portConfigWrite a val) s = .next (s.answer stAddress)))
  ∧ ∀ s : State, (s.flag F.HL_KEYSTAT_OWNKEY = false → exec .nzoffWrite s = .next (s.answer stReserved))
    ∧ (s.flag F.HL_KEYSTAT_OWNKEY = true → s.flag F.GL_LOCK_OPEN = false → exec .nzoffWrite s = .next (s.answer stLocked))
    ∧ (s.flag F.HL_KEYSTAT_OWNKEY = true → s.flag F.GL_LOCK_OPEN = true → ∃ t, exec .nzoffWrite s = .next t
      ∧ t.flag F.HL_KEYSTAT_NZOFF = true ∧ t.status = stOk ∧ Only s t [.HL_KEYSTAT] ∧ t.mem = s.mem)

/-- R344, R365–R370: what the ports send. The first event frame not sent goes out with 64 bytes for each occurrence and is marked; a
due one goes again; the record stream sends what waits and lets it go without REL; the control stream sends a kept instant's frame
of a group once and the raw tap, each 55th boundary and each modulator once, nothing but a count at the throttle level; an evaluation is due every 100 ms and leaves a stream that
is off; an ARP or an echo for the port's own address is answered while its link is up. -/
def Obligations.PortsSendFramesAndReplies : Prop :=
  (∀ (s : State) (k : Fin 9) (f : EvFrame), s.flag F.HL_STAT_RECOV = false →
    (s.sessAt k).evq.find? (fun g => g.sent.isNone) = some f → (k = 8 → ∀ g ∈ s.link.spiOut, g.cls = 3 → g.seq ≠ f.seq) →
    ∃ t w, exec (.eventFrameSend k) s = .next t ∧ (∀ g ∈ (t.sessAt k).evq, g.seq = f.seq → g.sent = some s.time)
      ∧ (t.sessAt k).evq.length = (s.sessAt k).evq.length ∧ w.cls = 3 ∧ w.seq = f.seq ∧ w.payload.length = 4 + 64 * f.occs.length
      ∧ ((s.sessAt k).port = .la → s.flag (F.HL_PSTAT_LINK 0) = true → t.link.wire = w :: s.link.wire)
      ∧ ((s.sessAt k).port = .spi → t.link.spiOut = s.link.spiOut ++ [w]) ∧ Only s t [] ∧ t.mem = s.mem ∧ t.ch = s.ch)
  ∧ (∀ (s : State) (k : Fin 9), s.flag F.HL_STAT_RECOV = false →
    ∃ t, exec (.eventFrameResend k) s = .next t ∧ Only s t [] ∧ t.mem = s.mem ∧ t.ch = s.ch
      ∧ (t.sessAt k).evq = (s.sessAt k).evq.map (fun f =>
          if (f.sent.any fun a => decide (a + 100 * ms < s.time)) = true then { f with sent := some s.time } else f))
  ∧ (∀ (s : State) (a : Nat) (it : RecItem), s.link.recFrom = some a → s.flag (F.HL_SCFG_EN 0) = true →
    s.flag F.HL_STAT_RECOV = false → s.reached (a + ms) = true → (∀ n, (s.lane1 n).x.recQ = []) → s.sh.recQ = [it] → it.frame = none →
    it.framed.length ≤ 1424 → s.flag (F.HL_SCFG_REL 0) = false → s.streamPorts 0 (s.streamSeq 0) = [0] →
    s.flag (F.HL_PSTAT_LINK 0) = true →
    ∃ t w, exec .recordFrameSend s = .next t ∧ t.link.wire = w :: s.link.wire ∧ w.cls = 0x10 ∧ w.seq = s.streamSeq 0
      ∧ w.payload = s.streamHeader 0 ++ it.framed ∧ t.sh.recQ = [] ∧ t.link.recFrom = none ∧ Only s t [] ∧ t.mem = s.mem)
  ∧ (∀ s : State, s.flag (F.HL_SCFG_REL 0) = true → s.flag (F.HL_SCFG_EN 0) = true → s.flag F.HL_STAT_RECOV = false →
    ∃ t, exec .recordFrameResend s = .next t ∧ Only s t [] ∧ t.mem = s.mem ∧ t.ch = s.ch
      ∧ t.link.recs = s.link.recs.map (fun f => if f.sentAt + 20 * ms < s.time then { f with sentAt := s.time } else f))
  ∧ (∀ (s : State) (md : Fin 258) (raw : List Byte) (g : Fin 16), s.flag (F.HL_SCFG_EN 2) = true → s.flag F.HL_STAT_RECOV = false →
    s.streamGroups 2 = [g] → s.streamKeeps 2 (s.ctr / tCtl) = true → s.streamPorts 2 (s.ctr / tCtl) = [0] →
    s.flag (F.HL_PSTAT_LINK 0) = true → s.sampling = true → (s.link.streams[(2 : Fin 5)]).lastAt ≠ some s.ctr →
    ∃ t w, exec (.streamFrameSend 2 md raw) s = .next t ∧ (t.link.streams[(2 : Fin 5)]).lastAt = some s.ctr ∧ t.link.wire = w :: s.link.wire ∧ w.cls = 0x12 ∧ w.payload.length = 148
      ∧ w.payload.take 16 = s.streamHeader 2 ++ le64 (stampCode s.ctr) ∧ w.seq = s.streamSeq 2 ∧ Only s t [] ∧ t.mem = s.mem)
  ∧ (∀ (s : State) (md : Fin 258) (raw : List Byte), s.flag (F.HL_SCFG_EN 4) = true → s.flag F.HL_STAT_RECOV = false →
    256 ≤ md.val → s.flag (F.HL_SCFG_LANE 4) = true → s.flag F.TS_STAT_THR = true → s.sampling = true →
    s.ctr / tCtl % 55 = 54 → (s.link.streams[(4 : Fin 5)]).lastAt ≠ some s.ctr →
    ∃ t, exec (.streamFrameSend 4 md raw) s = .next t ∧ t.fget (F.HL_SDROP_DROPS 4) = (s.fget (F.HL_SDROP_DROPS 4) + 1) % 2 ^ 32
      ∧ t.link.wire = s.link.wire ∧ (t.link.streams[(4 : Fin 5)]).mods = [md.val] ∧ Only s t [.HL_SDROP 4] ∧ t.mem = s.mem)
  ∧ (∀ (s : State) (md : Fin 258) (raw : List Byte), s.sampling = false ∨ s.ctr / tCtl % 55 ≠ 54
      ∨ ((s.link.streams[(4 : Fin 5)]).lastAt = some s.ctr ∧ md.val ∈ (s.link.streams[(4 : Fin 5)]).mods) →
    exec (.streamFrameSend 4 md raw) s = .next s)
  ∧ (∀ (s : State) (md : Fin 258) (raw : List Byte), s.sampling = false ∨ (s.link.streams[(2 : Fin 5)]).lastAt = some s.ctr →
    exec (.streamFrameSend 2 md raw) s = .next s)
  ∧ (∀ (s : State) (st : Fin 5) (md : Fin 258) (raw : List Byte), s.flag (F.HL_SCFG_EN st) = false →
    exec (.streamFrameSend st md raw) s = .next s)
  ∧ (∀ s : State, s.reached s.link.decAt = true →
    ∃ t, exec .decimationEvaluation s = .next t ∧ t.link.decAt = s.time + 100 * ms ∧ t.mem = s.mem ∧ t.ch = s.ch
      ∧ (∀ st : Fin 5, s.flag (F.HL_SCFG_EN st) = false → t.fget (F.HL_SSTAT_DECL2 st) = s.fget (F.HL_SSTAT_DECL2 st))
      ∧ ∀ r : Reg, r.group ≠ 2 → r.group ≠ 10 → (∀ st, r ≠ .HL_SSTAT st) → t.word r = s.word r)
  ∧ ∀ (s : State) (p : Fin 2) (b d : List Byte), s.flag (F.HL_PSTAT_LINK p) = true → s.flag (F.HL_PCFG_IP4EN p) = true →
    (∃ t, exec (.arpNdEchoReceive p (.arp (s.ip4 p) b)) s = .next t ∧ t.link.replies = (p, .arp b (s.ip4 p)) :: s.link.replies
      ∧ Only s t [] ∧ t.mem = s.mem)
    ∧ ∃ t, exec (.arpNdEchoReceive p (.echo false (s.ip4 p) b d)) s = .next t
      ∧ t.link.replies = (p, .echo false b (s.ip4 p) d) :: s.link.replies ∧ Only s t [] ∧ t.mem = s.mem

/-- R345–R349, R356, R364, R373, R374: frames in and answers out. A datagram for another address or port is not taken and one that is no frame is counted and dropped; an anonymous
command runs its entries and is answered at once; a session's repeat is answered from the copy kept, with nothing executed, and a
stale sequence counted; after a failed entry with STOPERR the rest are skipped; a queued response goes out once, and the restart
IMAGE_COMMIT asked for follows it. On the SPI port a busy session discards a write with OVR, each transaction returns the header first, an
unknown one is counted, and a frame leaves its queue only when clocked out in full. -/
def Obligations.FramesAreTakenAndAnswered : Prop :=
  (∀ (s : State) (p : LinkPort) (src : Peer) (d : Fin 65536) (bs : List Byte), s.portTakes p = true → s.aslpTo p src d.val = true →
    p ≠ .spi → parseFrame bs = none →
    ∃ t, exec (.aslpFrameReceive p src d bs) s = .next t ∧ t.fget F.HL_STAT_BADFR = (s.fget F.HL_STAT_BADFR + 1) % 65536
      ∧ Only s t [.HL_STAT] ∧ t.link = s.link ∧ t.mem = s.mem)
  ∧ (∀ (s : State) (p : LinkPort) (src : Peer) (d : Fin 65536) (bs : List Byte), s.portTakes p = false ∨ s.aslpTo p src d.val = false →
    exec (.aslpFrameReceive p src d bs) s = .next s)
  ∧ (∀ (s : State) (p : LinkPort) (src : Peer) (d : Fin 65536) (bs : List Byte) (f : InFrame), s.portTakes p = true → s.aslpTo p src d.val = true → p ≠ .spi →
    parseFrame bs = some f → f.sess = 0 → f.flags % 2 = 0 → f.cls = 1 → s.holds = false →
    let e := { s with link := { s.link with src := (p, src) } }.runPayload .anon (decide (4 ≤ f.flags)) f.payload
    exec (.aslpFrameReceive p src d bs) s
      = .next (if e.1.served = false then e.1 else e.1.transmit (anonFrame p src f.seq e.2)))
  ∧ (∀ (s : State) (src : Peer) (d : Fin 65536) (bs : List Byte) (f : InFrame) (k : Fin 8) (c : OutFrame), s.portTakes .la = true →
    s.aslpTo .la src d.val = true →
    parseFrame bs = some f → s.sessOf .la f = some (.slot k) → (s.link.sess[k]).last = some f.seq →
    (s.link.sess[k]).cached = some c →
    ∃ t w, exec (.aslpFrameReceive .la src d bs) s = .next t ∧ t.link.wire = w :: s.link.wire ∧ w.seq = c.seq ∧ w.cls = c.cls
      ∧ w.payload = c.payload ∧ Only s t [] ∧ t.mem = s.mem ∧ t.ch = s.ch ∧ t.sh = s.sh)
  ∧ (∀ (s : State) (src : Peer) (d : Fin 65536) (bs : List Byte) (f : InFrame) (k : Fin 8) (l : Nat), s.portTakes .la = true →
    s.aslpTo .la src d.val = true →
    parseFrame bs = some f → s.sessOf .la f = some (.slot k) → (s.link.sess[k]).last = some l →
    2 ^ 31 ≤ (f.seq + 2 ^ 32 - l) % 2 ^ 32 →
    ∃ t, exec (.aslpFrameReceive .la src d bs) s = .next t ∧ t.fget F.HL_STAT_SEQERR = min (s.fget F.HL_STAT_SEQERR + 1) 255
      ∧ Only s t [.HL_STAT] ∧ t.mem = s.mem ∧ t.ch = s.ch)
  ∧ (∀ (s : State) (x : Sess) (l : List Entry) (out : List Byte),
    s.runEntries x true l true out = (s, out ++ l.flatMap fun e => respEntry e.code stSkipped []))
  ∧ (∀ (s : State) (x : Sess) (k : Fin 9) (r : OutFrame), sessIx x = some k → (s.sessAt k).resp = some r → (s.sessAt k).waits = false →
    (s.maint.commit = false → ∃ t, exec (.responseQueued x) s = .next t ∧ (t.sessAt k).busy = false ∧ (t.sessAt k).resp = none
      ∧ ((s.sessAt k).last = some r.seq → (t.sessAt k).cached = some r)
      ∧ (r.port = .la → s.flag (F.HL_PSTAT_LINK 0) = true → t.link.wire = r :: s.link.wire)
      ∧ (r.port = .spi → t.link.spiOut = s.link.spiOut ++ [r]) ∧ Only s t [] ∧ t.mem = s.mem)
    ∧ (s.maint.commit = true → ∃ t, exec (.responseQueued x) s = .next t ∧ t.flag F.GL_STATE_SUPV = true
      ∧ t.fget F.GL_SUPV_CAUSE = 1 ∧ t.maint.commit = false ∧ t.maint.restartAt = some s.time))
  ∧ (∀ (s : State) (bs : List Byte), s.portTakes .spi = true →
    (s.link.spi.busy = true → ∃ t, exec (.spiWrite bs) s = .next t ∧ t.flag F.HL_SPI_OVR = true
      ∧ t.fget F.HL_SPI_DISC = (s.fget F.HL_SPI_DISC + 1) % 65536 ∧ Only s t [.HL_SPI] ∧ t.link = s.link ∧ t.mem = s.mem)
    ∧ (s.link.spi.busy = false → exec (.spiWrite bs) s = .next (s.receive .spi {} bs))
    ∧ (exec (.spiStatus 3) s = .next (s.answer stOk ([BitVec.ofNat 8 s.spiByte]
        ++ le16 ((s.spiNext.map fun f => f.bytes.length).getD 0) ++ [0])))
    ∧ (∀ op : Fin 256, op.val = 0 ∨ 4 < op.val → ∃ t, exec (.spiStatus op) s = .next t
      ∧ t.fget F.HL_SPI_DISC = (s.fget F.HL_SPI_DISC + 1) % 65536 ∧ t.data = s.spiHeader ∧ Only s t [.HL_SPI] ∧ t.link = s.link
      ∧ t.mem = s.mem)
    ∧ (s.spiNext = none → ∀ n : Nat, exec (.spiRead n) s = .next (s.answer stOk (s.spiHeader ++ List.replicate (4 + n) 0)))
    ∧ (s.flag F.HL_STAT_RECOV = false → s.allowed .spi .write = true → s.served = true → s.flag F.GL_STATE_SUPV = false →
      ∃ t, exec .spiWake s = .next t ∧ t.status = stOk
        ∧ t.mode.wakeFrom = (if s.pmode = mdDEEP then some (s.mode.wakeFrom.getD s.time) else s.mode.wakeFrom) ∧ Only s t []
        ∧ t.mem = s.mem)
    ∧ exec .spiWake s = exec (.wake .spi) s)
  ∧ ∀ (s : State) (n : Nat) (f : OutFrame), s.portTakes .spi = true → s.spiNext = some f →
    ∃ t, exec (.spiRead n) s = .next t ∧ t.status = stOk ∧ t.data = s.spiHeader ++ [0, 0, 0, 0] ++ f.bytes.take n ++ List.replicate (n - f.bytes.length) 0
      ∧ t.link.spiOut = (if f.bytes.length ≤ n then s.link.spiOut.erase f else s.link.spiOut) ∧ Only s t [] ∧ t.mem = s.mem

/-- R380, R386–R391: TW1. A served write whose PEC allows takes effect, one with a wrong PEC none, one without the PEC that is asked
for counts a bus error; reads answer their bytes, with a PEC where one more byte is clocked and PEC is on, and an access in DEEP waits;
a REG access moves the pointer on by four and leaves its status; a REG write
without WREN is AUTH. The wake NACK of DEEP is given once and the address acknowledged 200 µs later. An acknowledged Notify leaves
the queue, one that is not is retried 10 ms later, and the third NACK drops it with event 430. -/
def Obligations.TargetPortServesTheRack : Prop :=
  (∀ (s : State) (v : BitVec 16) (bs : List Byte), s.tw1Up = true → bs.length = 4 →
    ((s.fget (F.TW_CFG_PEC 1) = 0 →
      (∃ t, exec (.rmCap v none) s = .next t ∧ t.fget F.LG_CAP_RM_CAP = min (2 * v.toNat) 100000 ∧ t.flag F.LG_CAP_RM_VALID = true
        ∧ t.flag F.LG_STAT_RMSTALE = false ∧ t.led.rmAt = s.time ∧ Only s t [.LG_CAP_RM, .LG_STAT] ∧ t.mem = s.mem)
      ∧ ∃ t, exec (.ptr bs none) s = .next t ∧ bytesOf (t.word .TW1_PTR) = bs ∧ Only s t [.TW1_PTR] ∧ t.mem = s.mem)
    ∧ (s.fget (F.TW_CFG_PEC 1) = 2 → ∀ p : Byte,
      (p = pecOf (s.tw1Byte :: 0xD0 :: le16 v.toNat) → ∃ t, exec (.rmCap v (some p)) s = .next t ∧ t.flag F.LG_CAP_RM_VALID = true
        ∧ t.fget F.LG_CAP_RM_CAP = min (2 * v.toNat) 100000)
      ∧ (p ≠ pecOf (s.tw1Byte :: 0xD0 :: le16 v.toNat) → exec (.rmCap v (some p)) s = .next s)
      ∧ ∃ t, exec (.rmCap v none) s = .next t ∧ t.fget (F.TW_STAT_BUSERR 1) = min (s.fget (F.TW_STAT_BUSERR 1) + 1) 255
        ∧ Only s t [.TW_STAT 1])))
  ∧ (∀ (s : State) (v : BitVec 16) (p : Option Byte) (m : Bool), s.tw1Up = false → exec (.rmCap v p) s = .next s
    ∧ exec (.rstat m) s = .next s ∧ exec (.evlow m) s = .next s ∧ exec (.rmNet m) s = .next s ∧ exec (.regRead m) s = .next s)
  ∧ (∀ s : State, s.tw1Up = true → exec (.rstat false) s = .next (s.answer stOk [BitVec.ofNat 8 s.tw.rstat])
    ∧ exec (.evlow false) s = .next (s.answer stOk (le16 (s.lowestPend.getD 0xFFFF)))
    ∧ (s.fget (F.TW_CFG_PEC 1) ≠ 0 →
      exec (.rstat true) s = .next (s.answer stOk [BitVec.ofNat 8 s.tw.rstat,
        pecOf [s.tw1Byte, 0xE2, s.tw1Byte + 1, BitVec.ofNat 8 s.tw.rstat]])
      ∧ exec (.evlow true) s = .next (s.answer stOk (le16 (s.lowestPend.getD 0xFFFF)
        ++ [pecOf (s.tw1Byte :: 0xE3 :: (s.tw1Byte + 1) :: le16 (s.lowestPend.getD 0xFFFF))])))
    ∧ ∃ x : Int, (∀ m : Bool, exec (.rmNet m) s = .next (s.answer stOk (s.tw1Read 0xD1 [] (le16 (codeOf 16 x)) m))) ∧ -32767 ≤ x ∧ x ≤ 32767
      ∧ (x.natAbs < 32767 → sword (s.word .LG_NET_W) - 2 < 2 * x ∧ 2 * x < sword (s.word .LG_NET_W) + 2))
  ∧ (∀ (s : State) (m : Bool) (bs : List Byte) (p : Option Byte), s.pmode = mdDEEP →
    exec (.regRead m) s = .next s ∧ exec (.regWrite bs p) s = .next s)
  ∧ (∀ (s : State) (m : Bool), s.tw1Up = true → s.pmode ≠ mdDEEP →
    (s.serving = true → ∃ t, exec (.regRead m) s = .next t ∧ t.word .TW1_PTR = s.word .TW1_PTR + 4
      ∧ t.status = (s.hostRead (s.word .TW1_PTR).toNat).1 ∧ t.tw.rstat = t.status
      ∧ t.data = s.tw1Read 0xE1 [4] (bytesOf (if t.status = stOk then (s.hostRead (s.word .TW1_PTR).toNat).2.1 else 0)) m ∧ Only s t [.TW1_PTR] ∧ t.mem = s.mem)
    ∧ (s.serving = false → ∃ t, exec (.regRead m) s = .next t ∧ t.status = stBusy ∧ t.tw.rstat = stBusy ∧ t.data = s.tw1Read 0xE1 [4] [0, 0, 0, 0] m
      ∧ t.word .TW1_PTR = s.word .TW1_PTR + 4 ∧ Only s t [.TW1_PTR] ∧ t.mem = s.mem))
  ∧ (∀ (s : State) (w : Word), s.tw1Up = true → s.pmode ≠ mdDEEP → s.fget (F.TW_CFG_PEC 1) = 0 → s.serving = true →
    s.flag F.HL_STAT_RECOV = false →
    (s.flag F.TW1_ADDR_WREN = true → ∃ v, exec (.regWrite (bytesOf w) none) s = .next (v.regDone v.status)
      ∧ v = s.hostWrite none (s.word .TW1_PTR).toNat w)
    ∧ (s.flag F.TW1_ADDR_WREN = false → ∃ t, exec (.regWrite (bytesOf w) none) s = .next t ∧ t.status = stAuth ∧ t.tw.rstat = stAuth
      ∧ t.word .TW1_PTR = s.word .TW1_PTR + 4 ∧ Only s t [.TW1_PTR] ∧ t.mem = s.mem))
  ∧ (∀ s : State, s.pmode = mdDEEP → s.flag (F.TW_STAT_ASLEEP 1) = true → s.tw.nackAt = none → s.twOn 1 = true →
    ∃ t, exec .tw1DeepAddress s = .next t ∧ t.tw.nackAt = some s.time ∧ t.mode.wakeFrom = some (s.mode.wakeFrom.getD s.time)
      ∧ Only s t [] ∧ t.mem = s.mem)
  ∧ (∀ (s : State) (a : Nat), s.tw.nackAt = some a → s.reached (a + 200 * us) = true →
    ∃ t, exec .tw1AddressRearm s = .next t ∧ t.tw.nackAt = none ∧ t.flag (F.TW_STAT_ASLEEP 1) = false ∧ Only s t [.TW_STAT 1]
      ∧ t.mem = s.mem)
  ∧ (∀ (s : State) (o : Occ) (q : List Occ) (i : Bool → Instr), s.ev.notify = o :: q → s.notifyReady = true →
    (s.ev.retryAt = none ∧ i = Instr.hostNotify) ∨ (∃ a, s.ev.retryAt = some a ∧ s.reached a = true ∧ i = Instr.notifyRetry) →
    (∃ t, exec (i true) s = .next t ∧ t.ev.notify = q ∧ t.ev.nacks = 0 ∧ t.ev.retryAt = none
      ∧ t.fget F.TW1_NTFY_SENT = (s.fget F.TW1_NTFY_SENT + 1) % 256 ∧ t.tw.sent = (1, s.notifyBytes o) :: s.tw.sent
      ∧ Only s t [.TW1_NTFY] ∧ t.mem = s.mem)
    ∧ (s.ev.nacks < 2 → ∃ t, exec (i false) s = .next t ∧ t.ev.notify = o :: q ∧ t.ev.nacks = s.ev.nacks + 1
      ∧ t.ev.retryAt = some (s.time + 10 * ms) ∧ Only s t [] ∧ t.mem = s.mem)
    ∧ (2 ≤ s.ev.nacks → ∃ u, exec (i false) s = .next (u.raise 430 1) ∧ u.ev.notify = q ∧ u.ev.nacks = 0
      ∧ u.fget F.TW1_NTFY_FAILED = min (s.fget F.TW1_NTFY_FAILED + 1) 255 ∧ Only s u [.TW1_NTFY] ∧ u.mem = s.mem))

/-- R383–R385, R392–R399: the two-wire engines. A timeout releases the bus and is counted with event 428, a bus error and a lost
arbitration are counted; a poll, due every POLL ms, leaves each device in use its status, its readings and its run of failures, and one not in use as
it was; the Send Byte of CLEAR_FAULTS goes out once. -/
def Obligations.TwoWireEnginesAndPolls : Prop :=
  (∀ (s : State) (p : Fin 2) (low : Nat), s.twOn p = true →
    (low < s.fget (F.TW_CFG_TTO p) * 1000 → exec (.twTimeout p low) s = .next s)
    ∧ (s.fget (F.TW_CFG_TTO p) * 1000 ≤ low → ∃ u, exec (.twTimeout p low) s = .next (u.raise 428 1 [BitVec.ofNat 8 p.val]) ∧ u.flag (F.TW_STAT_BUSY p) = false
      ∧ u.flag (F.TW_STAT_CTRL p) = false ∧ u.fget (F.TW_STAT_TMO p) = min (s.fget (F.TW_STAT_TMO p) + 1) 255 ∧ Only s u [.TW_STAT p]
      ∧ u.mem = s.mem)
    ∧ (∃ t, exec (.twBusError p) s = .next t ∧ t.flag (F.TW_STAT_BUSY p) = false ∧ t.flag (F.TW_STAT_CTRL p) = false
      ∧ t.fget (F.TW_STAT_BUSERR p) = min (s.fget (F.TW_STAT_BUSERR p) + 1) 255 ∧ Only s t [.TW_STAT p] ∧ t.mem = s.mem)
    ∧ ∃ t, exec (.twArbitrationLost p) s = .next t ∧ t.flag (F.TW_STAT_CTRL p) = false
      ∧ t.fget (F.TW_STAT_ARB p) = min (s.fget (F.TW_STAT_ARB p) + 1) 255 ∧ Only s t [.TW_STAT p] ∧ t.mem = s.mem)
  ∧ (∀ (s : State) (p : Fin 2) (low : Nat), s.twOn p = false → exec (.twTimeout p low) s = .next s ∧ exec (.twBusError p) s = .next s
    ∧ exec (.twArbitrationLost p) s = .next s)
  ∧ (∀ (s : State) (xs : Vector PollAns 9), s.pollDue = false → exec (.tw0Poll xs) s = .next s)
  ∧ (∀ (s : State) (xs : Vector PollAns 9), s.pollDue = true →
    ∃ t, exec (.tw0Poll xs) s = .next t ∧ t.tw.pollAt = some s.time ∧ t.mem = s.mem ∧ t.ch = s.ch ∧ ∀ k : Fin 9,
      (s.flag (F.TW0_DEV_USE k) = false → t.word (.TW0_DEV k) = s.word (.TW0_DEV k) ∧ t.word (.TW0_RD0 k) = s.word (.TW0_RD0 k))
      ∧ (s.flag (F.TW0_DEV_USE k) = true → t.fget (F.TW0_DEV_ST k) = s.pollStatus k xs[k]
        ∧ ((xs[k]).bus ≠ 0 → s.pollStatus k xs[k] = (xs[k]).bus.val)
        ∧ ((xs[k]).bus = 0 → s.flag (F.TW0_DEV_PEC k) = true → (xs[k]).pecStatus ≠ s.readPec k 0x79 (xs[k]).status →
          s.pollStatus k xs[k] = 3)
        ∧ (s.pollStatus k xs[k] = 0 → t.fget (F.TW0_DEV_FAILS k) = 0 ∧ t.fget (F.TW0_RD0_STATUS k) = (xs[k]).status.toNat
          ∧ (-32768 ≤ linear11 (xs[k]).temp → linear11 (xs[k]).temp < 32768 → t.fgetS (F.TW0_RD0_TEMP k) = linear11 (xs[k]).temp))
        ∧ (s.pollStatus k xs[k] ≠ 0 → t.fget (F.TW0_DEV_FAILS k) = min (s.fget (F.TW0_DEV_FAILS k) + 1) 63
          ∧ t.word (.TW0_RD0 k) = s.word (.TW0_RD0 k))))
  ∧ ∀ (s : State) (k : Fin 9), s.twOn 0 = true →
    (k ∈ s.tw.clrDue → ∃ t, exec (.clearFaults k) s = .next t ∧ k ∉ t.tw.clrDue
      ∧ (s.flag (F.TW0_DEV_PEC k) = false → t.tw.sent = (0, [BitVec.ofNat 8 (2 * s.fget (F.TW0_DEV_ADDR k)), 3]) :: s.tw.sent)
      ∧ (s.flag (F.TW0_DEV_PEC k) = true → t.tw.sent = (0, [BitVec.ofNat 8 (2 * s.fget (F.TW0_DEV_ADDR k)), 3,
          pecOf [BitVec.ofNat 8 (2 * s.fget (F.TW0_DEV_ADDR k)), 3]]) :: s.tw.sent) ∧ Only s t [] ∧ t.mem = s.mem)
    ∧ (k ∉ s.tw.clrDue → exec (.clearFaults k) s = .next s)

/-- R291, R428–R436, R448: live maintenance. A restart shows its cause, closes the lock and leaves every other register; the third for
a fault within 60 s stops every RUN channel; its end runs the firmware of a bank that passes, or leaves recovery; a lost card's
channels are ABSENT with event 352 + k once two samples miss it, a returned one's PARKED after QUAL × 10 ms without a loss; EXTEST
comes into force in START and SAFE alone, and IDCODE answers its register; a saved region
stands in the configuration as its registers were. -/
def Obligations.LiveMaintenance : Prop :=
  (∀ (s : State) (key : BitVec 16),
    (s.flag F.GL_STATE_SUPV = true → exec (.supervisorRestartKey key) s = .next (s.answer stBusy))
    ∧ (s.flag F.GL_STATE_SUPV = false → key ≠ 0x5253 → exec (.supervisorRestartKey key) s = .next (s.answer stOk))
    ∧ (s.flag F.GL_STATE_SUPV = false → key = 0x5253 → ∃ t, exec (.supervisorRestartKey key) s = .next t
      ∧ t.flag F.GL_STATE_SUPV = true ∧ t.fget F.GL_SUPV_CAUSE = 2 ∧ t.flag F.GL_LOCK_OPEN = false ∧ t.maint.restartAt = some s.time
      ∧ t.status = stOk ∧ Only s t [.GL_STATE, .GL_SUPV, .GL_LOCK] ∧ t.mem = s.mem ∧ t.ch = s.ch))
  ∧ (∀ (s : State) (i : Instr) (c : Nat), (∃ d : Nat, 50 ≤ d ∧ i = .supervisorWatchdog d ∧ c = 3) ∨ (i = .supervisorException ∧ c = 4) →
    (s.served = false → exec i s = .next s)
    ∧ (s.served = true → ∃ t, exec i s = .next t ∧ t.flag F.GL_STATE_SUPV = true ∧ t.fget F.GL_SUPV_CAUSE = c
      ∧ t.flag F.GL_LOCK_OPEN = false ∧ t.maint.restartAt = some s.time ∧ OnlyEv s t [.GL_STATE, .GL_SUPV, .GL_LOCK] ∧ t.mem = s.mem
      ∧ (2 ≤ (s.recentRestarts.filter fun r => r.2).length → ∀ n, s.chState n = stRUN → (t.lane1 n).x.stopPend = some 8)
      ∧ ((s.recentRestarts.filter fun r => r.2).length < 2 → t.ch = s.ch)))
  ∧ (∀ (s : State) (d : Nat), d < 50 → exec (.supervisorWatchdog d) s = .next s)
  ∧ (∀ (s : State) (a b : Bool) (x : Nat), s.maint.restartAt = some x →
    (∀ (y : Bool) (k : Nat), s.bootBank { bankA := a, bankB := b } = some (y, k) → ∃ t, exec (.supervisorRestartDone a b) s = .next t
      ∧ t.flag F.GL_STATE_SUPV = false ∧ t.flag F.GL_STATE_FWBANK = y ∧ t.fget F.SQ_BOOT_RESULT = k ∧ t.flag F.HL_STAT_RECOV = false
      ∧ t.fget F.GL_SUPV_DUR = min 255 ((s.time - x) / ms) ∧ t.maint.restartAt = none ∧ t.link.held = []
      ∧ OnlyEv s t [.GL_STATE, .GL_SUPV, .SQ_BOOT, .HL_STAT, .HU_WDT] ∧ t.mem = s.mem ∧ t.ch = s.ch)
    ∧ (a = false → b = false → ∃ t, exec (.supervisorRestartDone a b) s = .next t ∧ t.flag F.HL_STAT_RECOV = true
      ∧ t.flag F.GL_STATE_SUPV = false ∧ t.fget F.SQ_BOOT_RESULT = 2
      ∧ (∀ n, s.chState n = stRUN → (t.lane1 n).x.stopPend = some 8) ∧ t.mem = s.mem))
  ∧ (∀ s : State, s.maint.restartAt = none → ∀ a b : Bool, exec (.supervisorRestartDone a b) s = .next s)
  ∧ (∀ (s : State) (k : Fin 16) (h : Nat),
    (2 ≤ h → s.flag ⟨.GL_CARD, k.val, 1⟩ = true ∨ (cardChans k).any (fun n => decide (s.chState n ≠ stABSENT)) = true →
      ∃ u : State, exec (.cardLoss k h) s = .next (u.raise (352 + k.val) 1)
      ∧ (∀ n ∈ cardChans k, u.chState n = stABSENT) ∧ u.flag ⟨.GL_CARD, k.val, 1⟩ = false ∧ u.maint.lossAt[k] = s.time)
    ∧ (2 ≤ h → s.flag ⟨.GL_CARD, k.val, 1⟩ = false → (∀ n ∈ cardChans k, s.chState n = stABSENT) →
      ∃ t : State, exec (.cardLoss k h) s = .next t ∧ t.maint.lossAt[k] = s.time ∧ Only s t [] ∧ t.mem = s.mem ∧ t.ch = s.ch)
    ∧ (h < 2 → exec (.cardLoss k h) s = .next s))
  ∧ (∀ (s : State) (k : Fin 16) (l : Nat),
    (s.flag ⟨.GL_CARD, k.val, 1⟩ = false → s.fget F.GL_CARD_QUAL * 10000 ≤ l →
      s.reached (s.maint.lossAt[k] + s.fget F.GL_CARD_QUAL * 10 * ms) = true →
      ∃ u : State, exec (.cardReturn k l) s = .next (u.raise (352 + k.val) 0)
      ∧ (∀ n ∈ cardChans k, s.chState n = stABSENT → u.chState n = stPARKED) ∧ u.flag ⟨.GL_CARD, k.val, 1⟩ = true ∧ u.mem = s.mem)
    ∧ (s.flag ⟨.GL_CARD, k.val, 1⟩ = true ∨ l < s.fget F.GL_CARD_QUAL * 10000
        ∨ s.reached (s.maint.lossAt[k] + s.fget F.GL_CARD_QUAL * 10 * ms) = false → exec (.cardReturn k l) s = .next s))
  ∧ (∀ (s : State) (ir : BitVec 5),
    ∃ t, exec (.jtagUpdateIr ir) s = .next t ∧ Only s t [] ∧ t.mem = s.mem ∧ t.ch = s.ch
      ∧ (t.maint.jtagIr = 0 ↔ ir = 0 ∧ (s.shelf = shSTART ∨ s.shelf = shSAFE)) ∧ (ir = 1 → t.maint.jtagIr = 1)
      ∧ (ir = 2 → t.maint.jtagIr = 2 ∧ t.status = stOk
        ∧ t.data = bytesOf (BitVec.ofNat 32 (s.fget F.GL_ID_STEP / 16 * 2 ^ 28 + 0x9128 * 2 ^ 12 + 0x3A5 * 2 + 1))) ∧ (2 < ir.toNat → t.maint.jtagIr = 31))
  ∧ ∀ (s : State) (r : Region),
    ((s.nv.dirty.any fun d => decide (d.1 = r)) = true → ∃ t, exec (.configRegionSave r) s = .next t ∧ s.regionNow r ∈ t.nv.cfgA
      ∧ s.regionNow r ∈ t.nv.cfgB ∧ (t.nv.dirty.any fun d => decide (d.1 = r)) = false
      ∧ (r = .rails → t.flag F.SQ_STAT_SAVING = false) ∧ Only s t [.SQ_STAT] ∧ t.mem = s.mem)
    ∧ ((s.nv.dirty.any fun d => decide (d.1 = r)) = false → exec (.configRegionSave r) s = .next s)
end

