-- ==== Sys2Proof/Laws/Bits.lean ====
section
/-! SUPPORT. Bit fields of a word: a field written reads back, and leaves the other fields alone. -/

namespace Sys2Proof.Machine

theorem bitsOf_lt (w : Word) (lo len : Nat) : bitsOf w lo len < 2 ^ len := Nat.mod_lt _ (Nat.two_pow_pos len)

theorem testBit_bitsOf (w : Word) (lo len k : Nat) :
    (bitsOf w lo len).testBit k = (decide (k < len) && w.getLsbD (lo + k)) := by
  simp only [bitsOf, Nat.testBit_mod_two_pow, Nat.testBit_shiftRight]
  rfl

theorem getLsbD_putBits (w : Word) (lo len v k : Nat) :
    (putBits w lo len v).getLsbD k
      = (decide (k < 32) && if lo ≤ k ∧ k < lo + len then v.testBit (k - lo) else w.getLsbD k) := by
  unfold putBits maskOf
  rw [BitVec.getLsbD_or, BitVec.getLsbD_and, BitVec.getLsbD_not, BitVec.getLsbD_ofNat, BitVec.getLsbD_ofNat,
    Nat.testBit_shiftLeft, Nat.testBit_shiftLeft, Nat.testBit_two_pow_sub_one, Nat.testBit_mod_two_pow]
  by_cases hk : k < 32
  · by_cases h1 : lo ≤ k
    · by_cases h2 : k - lo < len
      · have h3 : k < lo + len := by omega
        simp [hk, h1, h2, h3]
      · have h3 : ¬ k < lo + len := by omega
        simp [hk, h1, h2, h3]
    · simp [hk, h1]
  · have : 32 ≤ k := by omega
    simp [hk, BitVec.getLsbD_of_ge _ _ this]

/-- A field written reads back, modulo its width. -/
theorem bitsOf_putBits (w : Word) (lo len v : Nat) (h : lo + len ≤ 32) :
    bitsOf (putBits w lo len v) lo len = v % 2 ^ len := by
  apply Nat.eq_of_testBit_eq
  intro k
  rw [testBit_bitsOf, getLsbD_putBits, Nat.testBit_mod_two_pow]
  by_cases hk : k < len
  · have h1 : lo + k < 32 := by omega
    have h2 : lo + k < lo + len := by omega
    have h3 : lo + k - lo = k := by omega
    simp [hk, h1, h3]
  · simp [hk]

/-- Writing one field leaves a field apart from it as it was. -/
theorem bitsOf_putBits_apart (w : Word) (lo len v lo' len' : Nat) (h : lo' + len' ≤ 32)
    (hd : lo + len ≤ lo' ∨ lo' + len' ≤ lo) :
    bitsOf (putBits w lo len v) lo' len' = bitsOf w lo' len' := by
  apply Nat.eq_of_testBit_eq
  intro k
  rw [testBit_bitsOf, testBit_bitsOf, getLsbD_putBits]
  by_cases hk : k < len'
  · have h1 : lo' + k < 32 := by omega
    have h2 : ¬ (lo ≤ lo' + k ∧ lo' + k < lo + len) := by omega
    simp [hk, h1, h2]
  · simp [hk]

end Sys2Proof.Machine
end

