-- ==== Sys2Proof/Laws/Memory.lean ====
section
/-! SUPPORT. The memory windows: a byte written reads back and leaves every other byte alone, and every operation on the
list of cells keeps its canonical form. -/

namespace Sys2Proof.Machine

theorem Memory.wf_iff (l : List Host.Cell) :
    Memory.wf l = true ↔ (l.Pairwise fun p q => p.1 < q.1) ∧ ∀ c ∈ l, c.2 ≠ memDefault := by
  simp [Memory.wf, List.all_eq_true]

theorem mem_memWrite {l : List Host.Cell} {a : Nat} {v : Byte} {c : Host.Cell} (h : c ∈ memWrite l a v) :
    (c = (a, v) ∧ v ≠ memDefault) ∨ c ∈ l := by
  induction l with
  | nil =>
    unfold memWrite at h
    split at h
    · simp at h
    · next hv => left; exact ⟨by simpa using h, hv⟩
  | cons x l ih =>
    obtain ⟨b, w⟩ := x
    unfold memWrite at h
    split at h
    · split at h
      · right; exact h
      · next hv =>
        rcases List.mem_cons.1 h with h | h
        · left; exact ⟨h, hv⟩
        · right; exact h
    · split at h
      · split at h
        · right; exact List.mem_cons_of_mem _ h
        · next hv =>
          rcases List.mem_cons.1 h with h | h
          · left; exact ⟨h, hv⟩
          · right; exact List.mem_cons_of_mem _ h
      · rcases List.mem_cons.1 h with h | h
        · right; simp [h]
        · rcases ih h with h | h
          · left; exact h
          · right; exact List.mem_cons_of_mem _ h

/-- A byte write keeps the canonical form. -/
theorem memWrite_wf {l : List Host.Cell} (h : Memory.wf l = true) (a : Nat) (v : Byte) :
    Memory.wf (memWrite l a v) = true := by
  rw [Memory.wf_iff] at *
  refine ⟨?_, fun c hc => ?_⟩
  · obtain ⟨h1, -⟩ := h
    induction l with
    | nil => unfold memWrite; split <;> simp
    | cons x l ih =>
      obtain ⟨b, w⟩ := x
      have hx := List.pairwise_cons.1 h1
      unfold memWrite
      split
      · next hb =>
        split
        · exact h1
        · refine List.pairwise_cons.2 ⟨fun c hc => ?_, h1⟩
          rcases List.mem_cons.1 hc with hc | hc
          · subst hc; exact hb
          · exact Nat.lt_trans hb (hx.1 c hc)
      · split
        · next hab =>
          subst hab
          split
          · exact hx.2
          · exact List.pairwise_cons.2 ⟨hx.1, hx.2⟩
        · refine List.pairwise_cons.2 ⟨fun c hc => ?_, ih hx.2⟩
          rcases mem_memWrite hc with hc | hc
          · rw [hc.1]; show b < a; omega
          · exact hx.1 c hc
  · rcases mem_memWrite hc with hc | hc
    · rw [hc.1]; exact hc.2
    · exact h.2 c hc

theorem memWriteBytes_wf {l : List Host.Cell} (h : Memory.wf l = true) (a : Nat) (bs : List Byte) :
    Memory.wf (memWriteBytes l a bs) = true := by
  induction bs generalizing l a with
  | nil => exact h
  | cons b bs ih => exact ih (memWrite_wf h a b) (a + 1)

theorem Memory.wf_filter {l : List Host.Cell} (h : Memory.wf l = true) (p : Host.Cell → Bool) :
    Memory.wf (l.filter p) = true := by
  rw [Memory.wf_iff] at *
  exact ⟨h.1.sublist List.filter_sublist, fun c hc => h.2 c (List.mem_filter.1 hc).1⟩

theorem Memory.wf_nil : Memory.wf [] = true := rfl

/-- A window replaced by canonical cells that lie in it leaves the whole canonical. -/
theorem memReplace_wf {l cells : List Host.Cell} {b n : Nat} (h : Memory.wf l = true) (hc : Memory.wf cells = true)
    (hin : ∀ c ∈ cells, b ≤ c.1 ∧ c.1 < b + n) : Memory.wf (memReplace l b n cells) = true := by
  rw [Memory.wf_iff] at *
  unfold memReplace
  refine ⟨?_, fun c hm => ?_⟩
  · rw [List.pairwise_append, List.pairwise_append]
    refine ⟨⟨h.1.sublist List.filter_sublist, hc.1, fun x hx y hy => ?_⟩, h.1.sublist List.filter_sublist, fun x hx y hy => ?_⟩
    · have hx := (List.mem_filter.1 hx).2
      have := (hin y hy).1
      simp only [decide_eq_true_eq] at hx
      omega
    · have hy := (List.mem_filter.1 hy).2
      simp only [decide_eq_true_eq] at hy
      rcases List.mem_append.1 hx with hx | hx
      · have hx := (List.mem_filter.1 hx).2
        simp only [decide_eq_true_eq] at hx
        omega
      · have := (hin x hx).2; omega
  · rcases List.mem_append.1 hm with hm | hm
    · rcases List.mem_append.1 hm with hm | hm
      · exact h.2 c (List.mem_filter.1 hm).1
      · exact hc.2 c hm
    · exact h.2 c (List.mem_filter.1 hm).1

theorem Memory.wf_shift {l : List Host.Cell} (h : Memory.wf l = true) (f : Nat → Nat)
    (hf : ∀ c ∈ l, ∀ d ∈ l, c.1 < d.1 → f c.1 < f d.1) : Memory.wf (l.map fun p => (f p.1, p.2)) = true := by
  rw [Memory.wf_iff] at *
  refine ⟨?_, fun c hc => ?_⟩
  · rw [List.pairwise_map]
    exact h.1.imp_of_mem fun ha hb hab => hf _ ha _ hb hab
  · obtain ⟨p, hp, rfl⟩ := List.mem_map.1 hc
    exact h.2 p hp

theorem memMove_wf {l : List Host.Cell} (h : Memory.wf l = true) (a n b : Nat) : Memory.wf (memMove l a n b) = true := by
  refine Memory.wf_shift (Memory.wf_filter h _) (fun x => x - a + b) fun c hc d hd hcd => ?_
  have hc := (List.mem_filter.1 hc).2
  simp only [decide_eq_true_eq] at hc
  show c.1 - a + b < d.1 - a + b
  omega

theorem memMove_in (l : List Host.Cell) (a n b : Nat) (c : Host.Cell) (hc : c ∈ memMove l a n b) :
    b ≤ c.1 ∧ c.1 < b + n := by
  obtain ⟨p, hp, rfl⟩ := List.mem_map.1 hc
  have hp := (List.mem_filter.1 hp).2
  simp only [decide_eq_true_eq] at hp
  show b ≤ p.1 - a + b ∧ p.1 - a + b < b + n
  omega

theorem cellsAt_in (a : Nat) (bs : List Byte) (c : Host.Cell) (hc : c ∈ cellsAt a bs) :
    (a ≤ c.1 ∧ c.1 < a + bs.length) ∧ c.2 ≠ memDefault := by
  induction bs generalizing a with
  | nil => simp [cellsAt] at hc
  | cons b bs ih =>
    unfold cellsAt at hc
    split at hc
    · have := ih (a + 1) hc
      simp only [List.length_cons]; exact ⟨by omega, this.2⟩
    · next hb =>
      rcases List.mem_cons.1 hc with hc | hc
      · subst hc; simp only [List.length_cons]; exact ⟨by omega, hb⟩
      · have := ih (a + 1) hc
        simp only [List.length_cons]; exact ⟨by omega, this.2⟩

theorem cellsAt_wf (a : Nat) (bs : List Byte) : Memory.wf (cellsAt a bs) = true := by
  rw [Memory.wf_iff]
  refine ⟨?_, fun c hc => (cellsAt_in a bs c hc).2⟩
  induction bs generalizing a with
  | nil => simp [cellsAt]
  | cons b bs ih =>
    unfold cellsAt
    split
    · exact ih (a + 1)
    · refine List.pairwise_cons.2 ⟨fun c hc => ?_, ih (a + 1)⟩
      have := (cellsAt_in (a + 1) bs c hc).1
      show a < c.1; omega

/-! What a byte reads as after a write. -/

/-- Below a rising list nothing is listed. -/
theorem memRead_below {l : List Host.Cell} {x : Nat} (h : ∀ c ∈ l, x < c.1) : memRead l x = memDefault := by
  induction l with
  | nil => rfl
  | cons c l ih =>
    obtain ⟨b, w⟩ := c
    have hb : x < b := h (b, w) List.mem_cons_self
    unfold memRead
    rw [if_neg (by omega)]
    exact ih fun d hd => h d (List.mem_cons_of_mem _ hd)

/-- A byte written reads back, in canonical memory. -/
theorem memRead_memWrite_same {l : List Host.Cell} (h : Memory.wf l = true) (a : Nat) (v : Byte) :
    memRead (memWrite l a v) a = v := by
  rw [Memory.wf_iff] at h
  obtain ⟨h1, -⟩ := h
  induction l with
  | nil => unfold memWrite; split <;> simp_all [memRead]
  | cons c l ih =>
    obtain ⟨b, w⟩ := c
    have hx := List.pairwise_cons.1 h1
    unfold memWrite
    split
    · next hab =>
      split
      · next hv =>
        subst hv
        refine memRead_below fun d hd => ?_
        rcases List.mem_cons.1 hd with hd | hd
        · subst hd; exact hab
        · exact Nat.lt_trans hab (hx.1 d hd)
      · simp [memRead]
    · split
      · next hab =>
        subst hab
        split
        · next hv => subst hv; exact memRead_below fun d hd => hx.1 d hd
        · simp [memRead]
      · next hn => unfold memRead; rw [if_neg (fun e => hn e.symm)]; exact ih hx.2

/-- A byte write leaves every other address as it was. -/
theorem memRead_memWrite_other (l : List Host.Cell) (a x : Nat) (v : Byte) (hx : x ≠ a) :
    memRead (memWrite l a v) x = memRead l x := by
  induction l with
  | nil => unfold memWrite; split <;> simp [memRead, Ne.symm hx]
  | cons c l ih =>
    obtain ⟨b, w⟩ := c
    unfold memWrite
    split
    · split <;> simp [memRead, Ne.symm hx]
    · split
      · next hab => subst hab; split <;> simp [memRead, Ne.symm hx]
      · simp only [memRead, ih]

/-- Bytes written leave every address outside them as it was. -/
theorem memRead_memWriteBytes_outside (l : List Host.Cell) (a x : Nat) (bs : List Byte) (h : x < a ∨ a + bs.length ≤ x) :
    memRead (memWriteBytes l a bs) x = memRead l x := by
  induction bs generalizing l a with
  | nil => rfl
  | cons b bs ih =>
    simp only [List.length_cons] at h
    unfold memWriteBytes
    rw [ih _ _ (by omega), memRead_memWrite_other _ _ _ _ (by omega)]

/-- Bytes written read back, in canonical memory. -/
theorem memRead_memWriteBytes_inside {l : List Host.Cell} (hl : Memory.wf l = true) (a k : Nat) (bs : List Byte)
    (h : k < bs.length) : memRead (memWriteBytes l a bs) (a + k) = bs[k] := by
  induction bs generalizing l a k with
  | nil => simp at h
  | cons b bs ih =>
    unfold memWriteBytes
    cases k with
    | zero =>
      rw [memRead_memWriteBytes_outside _ _ _ _ (by omega)]
      exact memRead_memWrite_same hl a b
    | succ k =>
      rw [show a + (k + 1) = a + 1 + k from by omega, ih (memWrite_wf hl a b) (a + 1) k (by simpa using h)]
      rfl

end Sys2Proof.Machine
end

