-- ==== Sys2Proof/Laws/RegMap.lean ====
section
/-! SUPPORT. The address map (R13) is one to one: the decoder answers the register its address came from, so no two
registers share an address, but for the clash of notes/assumptions/8.md. -/

namespace Sys2Proof.Machine

set_option Elab.async false

theorem ofAddr_ch (n : Fin 128) (o : Nat) (h : o < 0x400) (h4 : o % 4 = 0) :
    Reg.ofAddr (0x100000 + n.val * 0x400 + o) = chAt n o := by
  have hn := n.isLt
  have e1 : (0x100000 + n.val * 0x400 + o) % 4 = 0 := by omega
  have e2 : (0x100000 + n.val * 0x400 + o - 0x100000) / 0x400 = n.val := by omega
  have e3 : (0x100000 + n.val * 0x400 + o - 0x100000) % 0x400 = o := by omega
  have e4 : Fin.ofNat 128 n.val = n := by ext; simp [Fin.ofNat]
  unfold Reg.ofAddr
  rw [if_neg (by omega)]
  iterate 19 rw [if_neg (by omega)]
  rw [if_pos (by omega), e2, e3, e4]

theorem chAt_trec (n : Fin 128) (w : Fin 16) : chAt n (0xC0 + w.val * 4) = some (.CH_TREC n w) := by
  have hw := w.isLt
  unfold chAt
  split
  all_goals try omega
  rw [if_pos (by omega)]
  congr 2
  ext
  simp only [Fin.ofNat]
  omega

theorem chAt_g (n : Fin 128) (w : Fin 16) : chAt n (0x300 + w.val * 4) = some (.CH_G n w) := by
  have hw := w.isLt
  unfold chAt
  split
  all_goals try omega
  rw [if_neg (by omega), if_pos (by omega)]
  congr 2
  ext
  simp only [Fin.ofNat]
  omega

theorem round_CK_GATE : ∀ b : Fin 15, Reg.ofAddr (Reg.addr (.CK_GATE b)) = some (.CK_GATE b) := by decide +kernel

theorem round_EV_PEND : ∀ w : Fin 16, Reg.ofAddr (Reg.addr (.EV_PEND w)) = some (.EV_PEND w) := by decide +kernel

theorem round_EV_MASK : ∀ w : Fin 16, Reg.ofAddr (Reg.addr (.EV_MASK w)) = some (.EV_MASK w) := by decide +kernel

theorem round_EV_CFG : ∀ n : Fin 512, Reg.ofAddr (Reg.addr (.EV_CFG n)) = some (.EV_CFG n) := by decide +kernel

theorem round_SQ_RCFG : ∀ e : Fin 24, Reg.ofAddr (Reg.addr (.SQ_RCFG e)) = some (.SQ_RCFG e) := by decide +kernel

theorem round_SQ_RDEP : ∀ e : Fin 24, Reg.ofAddr (Reg.addr (.SQ_RDEP e)) = some (.SQ_RDEP e) := by decide +kernel

theorem round_SQ_RNOM : ∀ e : Fin 24, Reg.ofAddr (Reg.addr (.SQ_RNOM e)) = some (.SQ_RNOM e) := by decide +kernel

theorem round_SQ_RTIM : ∀ e : Fin 24, Reg.ofAddr (Reg.addr (.SQ_RTIM e)) = some (.SQ_RTIM e) := by decide +kernel

theorem round_SQ_RSTAT : ∀ e : Fin 24, Reg.ofAddr (Reg.addr (.SQ_RSTAT e)) = some (.SQ_RSTAT e) := by decide +kernel

theorem round_SQ_RFLT : ∀ e : Fin 24, Reg.ofAddr (Reg.addr (.SQ_RFLT e)) = some (.SQ_RFLT e) := by decide +kernel

theorem round_FD_FCFG : ∀ f : Fin 2, Reg.ofAddr (Reg.addr (.FD_FCFG f)) = some (.FD_FCFG f) := by decide +kernel

theorem round_FD_ILIM : ∀ f : Fin 2, Reg.ofAddr (Reg.addr (.FD_ILIM f)) = some (.FD_ILIM f) := by decide +kernel

theorem round_FD_RSH : ∀ f : Fin 2, Reg.ofAddr (Reg.addr (.FD_RSH f)) = some (.FD_RSH f) := by decide +kernel

theorem round_FD_FSTAT : ∀ f : Fin 2, Reg.ofAddr (Reg.addr (.FD_FSTAT f)) = some (.FD_FSTAT f) := by decide +kernel

theorem round_FD_FLT : ∀ f : Fin 2, Reg.ofAddr (Reg.addr (.FD_FLT f)) = some (.FD_FLT f) := by decide +kernel

theorem round_FD_V : ∀ f : Fin 2, Reg.ofAddr (Reg.addr (.FD_V f)) = some (.FD_V f) := by decide +kernel

theorem round_FD_I : ∀ f : Fin 2, Reg.ofAddr (Reg.addr (.FD_I f)) = some (.FD_I f) := by decide +kernel

theorem round_FD_P : ∀ f : Fin 2, Reg.ofAddr (Reg.addr (.FD_P f)) = some (.FD_P f) := by decide +kernel

theorem round_FD_EIN : ∀ f : Fin 2, Reg.ofAddr (Reg.addr (.FD_EIN f)) = some (.FD_EIN f) := by decide +kernel

theorem round_FD_EINH : ∀ f : Fin 2, Reg.ofAddr (Reg.addr (.FD_EINH f)) = some (.FD_EINH f) := by decide +kernel

theorem round_FD_EOUT : ∀ f : Fin 2, Reg.ofAddr (Reg.addr (.FD_EOUT f)) = some (.FD_EOUT f) := by decide +kernel

theorem round_FD_EOUTH : ∀ f : Fin 2, Reg.ofAddr (Reg.addr (.FD_EOUTH f)) = some (.FD_EOUTH f) := by decide +kernel

theorem round_HU_GG_STATE : ∀ w : Fin 4, Reg.ofAddr (Reg.addr (.HU_GG_STATE w)) = some (.HU_GG_STATE w) := by decide +kernel

theorem round_HU_GG_RESTORE : ∀ w : Fin 4, Reg.ofAddr (Reg.addr (.HU_GG_RESTORE w)) = some (.HU_GG_RESTORE w) := by decide +kernel

theorem round_HU_OCV : ∀ w : Fin 8, Reg.ofAddr (Reg.addr (.HU_OCV w)) = some (.HU_OCV w) := by decide +kernel

theorem round_LG_SCALE : ∀ c : Fin 4, Reg.ofAddr (Reg.addr (.LG_SCALE c)) = some (.LG_SCALE c) := by decide +kernel

theorem round_LG_EFF : ∀ (n : Fin 128) (w : Fin 8), Reg.ofAddr (Reg.addr (.LG_EFF n w)) = some (.LG_EFF n w) := by decide +kernel

theorem round_AX_CTL : ∀ j : Fin 4, Reg.ofAddr (Reg.addr (.AX_CTL j)) = some (.AX_CTL j) := by decide +kernel

theorem round_AX_CFG : ∀ j : Fin 4, Reg.ofAddr (Reg.addr (.AX_CFG j)) = some (.AX_CFG j) := by decide +kernel

theorem round_AX_VNOM : ∀ j : Fin 4, Reg.ofAddr (Reg.addr (.AX_VNOM j)) = some (.AX_VNOM j) := by decide +kernel

theorem round_AX_MARG : ∀ j : Fin 4, Reg.ofAddr (Reg.addr (.AX_MARG j)) = some (.AX_MARG j) := by decide +kernel

theorem round_AX_ILIM : ∀ j : Fin 4, Reg.ofAddr (Reg.addr (.AX_ILIM j)) = some (.AX_ILIM j) := by decide +kernel

theorem round_AX_GAIN : ∀ j : Fin 4, Reg.ofAddr (Reg.addr (.AX_GAIN j)) = some (.AX_GAIN j) := by decide +kernel

theorem round_AX_PWM : ∀ j : Fin 4, Reg.ofAddr (Reg.addr (.AX_PWM j)) = some (.AX_PWM j) := by decide +kernel

theorem round_AX_STAT : ∀ j : Fin 4, Reg.ofAddr (Reg.addr (.AX_STAT j)) = some (.AX_STAT j) := by decide +kernel

theorem round_AX_FLT : ∀ j : Fin 4, Reg.ofAddr (Reg.addr (.AX_FLT j)) = some (.AX_FLT j) := by decide +kernel

theorem round_AX_V : ∀ j : Fin 4, Reg.ofAddr (Reg.addr (.AX_V j)) = some (.AX_V j) := by decide +kernel

theorem round_AX_I : ∀ j : Fin 4, Reg.ofAddr (Reg.addr (.AX_I j)) = some (.AX_I j) := by decide +kernel

theorem round_AX_P : ∀ j : Fin 4, Reg.ofAddr (Reg.addr (.AX_P j)) = some (.AX_P j) := by decide +kernel

theorem round_AL_CTL : ∀ k : Fin 16, Reg.ofAddr (Reg.addr (.AL_CTL k)) = some (.AL_CTL k) := by decide +kernel

theorem round_AL_CFG : ∀ k : Fin 16, Reg.ofAddr (Reg.addr (.AL_CFG k)) = some (.AL_CFG k) := by decide +kernel

theorem round_AL_INGAIN : ∀ k : Fin 16, Reg.ofAddr (Reg.addr (.AL_INGAIN k)) = some (.AL_INGAIN k) := by decide +kernel

theorem round_AL_INOFF : ∀ k : Fin 16, Reg.ofAddr (Reg.addr (.AL_INOFF k)) = some (.AL_INOFF k) := by decide +kernel

theorem round_AL_SP : ∀ k : Fin 16, Reg.ofAddr (Reg.addr (.AL_SP k)) = some (.AL_SP k) := by decide +kernel

theorem round_AL_SPSRC : ∀ k : Fin 16, Reg.ofAddr (Reg.addr (.AL_SPSRC k)) = some (.AL_SPSRC k) := by decide +kernel

theorem round_AL_SPGAIN : ∀ k : Fin 16, Reg.ofAddr (Reg.addr (.AL_SPGAIN k)) = some (.AL_SPGAIN k) := by decide +kernel

theorem round_AL_SPOFF : ∀ k : Fin 16, Reg.ofAddr (Reg.addr (.AL_SPOFF k)) = some (.AL_SPOFF k) := by decide +kernel

theorem round_AL_KP : ∀ k : Fin 16, Reg.ofAddr (Reg.addr (.AL_KP k)) = some (.AL_KP k) := by decide +kernel

theorem round_AL_TI : ∀ k : Fin 16, Reg.ofAddr (Reg.addr (.AL_TI k)) = some (.AL_TI k) := by decide +kernel

theorem round_AL_OUT : ∀ k : Fin 16, Reg.ofAddr (Reg.addr (.AL_OUT k)) = some (.AL_OUT k) := by decide +kernel

theorem round_AL_MAN : ∀ k : Fin 16, Reg.ofAddr (Reg.addr (.AL_MAN k)) = some (.AL_MAN k) := by decide +kernel

theorem round_AL_AT : ∀ k : Fin 16, Reg.ofAddr (Reg.addr (.AL_AT k)) = some (.AL_AT k) := by decide +kernel

theorem round_AL_ATHYS : ∀ k : Fin 16, Reg.ofAddr (Reg.addr (.AL_ATHYS k)) = some (.AL_ATHYS k) := by decide +kernel

theorem round_AL_STAT : ∀ k : Fin 16, Reg.ofAddr (Reg.addr (.AL_STAT k)) = some (.AL_STAT k) := by decide +kernel

theorem round_AL_PV : ∀ k : Fin 16, Reg.ofAddr (Reg.addr (.AL_PV k)) = some (.AL_PV k) := by decide +kernel

theorem round_TW_CFG : ∀ p : Fin 2, Reg.ofAddr (Reg.addr (.TW_CFG p)) = some (.TW_CFG p) := by decide +kernel

theorem round_TW_TIM : ∀ p : Fin 2, Reg.ofAddr (Reg.addr (.TW_TIM p)) = some (.TW_TIM p) := by decide +kernel

theorem round_TW_STAT : ∀ p : Fin 2, Reg.ofAddr (Reg.addr (.TW_STAT p)) = some (.TW_STAT p) := by decide +kernel

theorem round_TW0_DEV : ∀ k : Fin 9, Reg.ofAddr (Reg.addr (.TW0_DEV k)) = some (.TW0_DEV k) := by decide +kernel

theorem round_TW0_RD0 : ∀ k : Fin 9, Reg.ofAddr (Reg.addr (.TW0_RD0 k)) = some (.TW0_RD0 k) := by decide +kernel

theorem round_TW0_RD1 : ∀ k : Fin 9, Reg.ofAddr (Reg.addr (.TW0_RD1 k)) = some (.TW0_RD1 k) := by decide +kernel

theorem round_HL_SESS : ∀ k : Fin 8, Reg.ofAddr (Reg.addr (.HL_SESS k)) = some (.HL_SESS k) := by decide +kernel

theorem round_HL_PCFG : ∀ p : Fin 2, Reg.ofAddr (Reg.addr (.HL_PCFG p)) = some (.HL_PCFG p) := by decide +kernel

theorem round_HL_PSTAT : ∀ p : Fin 2, Reg.ofAddr (Reg.addr (.HL_PSTAT p)) = some (.HL_PSTAT p) := by decide +kernel

theorem round_HL_MACL : ∀ p : Fin 2, Reg.ofAddr (Reg.addr (.HL_MACL p)) = some (.HL_MACL p) := by decide +kernel

theorem round_HL_MACH : ∀ p : Fin 2, Reg.ofAddr (Reg.addr (.HL_MACH p)) = some (.HL_MACH p) := by decide +kernel

theorem round_HL_IP4 : ∀ p : Fin 2, Reg.ofAddr (Reg.addr (.HL_IP4 p)) = some (.HL_IP4 p) := by decide +kernel

theorem round_HL_GW4 : ∀ p : Fin 2, Reg.ofAddr (Reg.addr (.HL_GW4 p)) = some (.HL_GW4 p) := by decide +kernel

theorem round_HL_PLEN : ∀ p : Fin 2, Reg.ofAddr (Reg.addr (.HL_PLEN p)) = some (.HL_PLEN p) := by decide +kernel

theorem round_HL_IP6 : ∀ (p : Fin 2) (w : Fin 4), Reg.ofAddr (Reg.addr (.HL_IP6 p w)) = some (.HL_IP6 p w) := by decide +kernel

theorem round_HL_SCFG : ∀ s : Fin 5, Reg.ofAddr (Reg.addr (.HL_SCFG s)) = some (.HL_SCFG s) := by decide +kernel

theorem round_HL_SALLOT : ∀ s : Fin 5, Reg.ofAddr (Reg.addr (.HL_SALLOT s)) = some (.HL_SALLOT s) := by decide +kernel

theorem round_HL_SSTAT : ∀ s : Fin 5, Reg.ofAddr (Reg.addr (.HL_SSTAT s)) = some (.HL_SSTAT s) := by decide +kernel

theorem round_HL_SDROP : ∀ s : Fin 5, Reg.ofAddr (Reg.addr (.HL_SDROP s)) = some (.HL_SDROP s) := by decide +kernel

theorem round_HL_DCFG : ∀ d : Fin 4, Reg.ofAddr (Reg.addr (.HL_DCFG d)) = some (.HL_DCFG d) := by decide +kernel

theorem round_HL_DADDR : ∀ (d : Fin 4) (w : Fin 4), Reg.ofAddr (Reg.addr (.HL_DADDR d w)) = some (.HL_DADDR d w) := by decide +kernel

theorem round_VT_CSLOT : ∀ s : Fin 4, Reg.ofAddr (Reg.addr (.VT_CSLOT s)) = some (.VT_CSLOT s) := by decide +kernel

theorem round_VT_CTRIG : ∀ w : Fin 16, Reg.ofAddr (Reg.addr (.VT_CTRIG w)) = some (.VT_CTRIG w) := by decide +kernel

theorem round_BT_PWMF : ∀ w : Fin 9, w ≠ 8 → Reg.ofAddr (Reg.addr (.BT_PWMF w)) = some (.BT_PWMF w) := by
  decide +kernel

theorem round_TS_T : ∀ k : Fin 8, Reg.ofAddr (Reg.addr (.TS_T k)) = some (.TS_T k) := by decide +kernel

theorem round_LN_SUSP : ∀ w : Fin 4, Reg.ofAddr (Reg.addr (.LN_SUSP w)) = some (.LN_SUSP w) := by decide +kernel

theorem round_CS_MAP : ∀ w : Fin 4, Reg.ofAddr (Reg.addr (.CS_MAP w)) = some (.CS_MAP w) := by decide +kernel

theorem round_CS_STAT : ∀ k : Fin 17, Reg.ofAddr (Reg.addr (.CS_STAT k)) = some (.CS_STAT k) := by decide +kernel

theorem round_CS_SHUSR : ∀ i : Fin 4, Reg.ofAddr (Reg.addr (.CS_SHUSR i)) = some (.CS_SHUSR i) := by decide +kernel

theorem round_CS_SG : ∀ i : Fin 16, Reg.ofAddr (Reg.addr (.CS_SG i)) = some (.CS_SG i) := by decide +kernel

theorem round_CS_BARM : ∀ (b : Fin 16) (w : Fin 4), Reg.ofAddr (Reg.addr (.CS_BARM b w)) = some (.CS_BARM b w) := by decide +kernel

/-- The decoder of addresses answers each register for its address. -/
theorem Reg.ofAddr_addr (r : Reg) (hr : r ≠ .BT_PWMF 8) : Reg.ofAddr r.addr = some r := by
  cases r with
  | CK_GATE b => exact (round_CK_GATE b)
  | EV_PEND w => exact (round_EV_PEND w)
  | EV_MASK w => exact (round_EV_MASK w)
  | EV_CFG n => exact (round_EV_CFG n)
  | SQ_RCFG e => exact (round_SQ_RCFG e)
  | SQ_RDEP e => exact (round_SQ_RDEP e)
  | SQ_RNOM e => exact (round_SQ_RNOM e)
  | SQ_RTIM e => exact (round_SQ_RTIM e)
  | SQ_RSTAT e => exact (round_SQ_RSTAT e)
  | SQ_RFLT e => exact (round_SQ_RFLT e)
  | FD_FCFG f => exact (round_FD_FCFG f)
  | FD_ILIM f => exact (round_FD_ILIM f)
  | FD_RSH f => exact (round_FD_RSH f)
  | FD_FSTAT f => exact (round_FD_FSTAT f)
  | FD_FLT f => exact (round_FD_FLT f)
  | FD_V f => exact (round_FD_V f)
  | FD_I f => exact (round_FD_I f)
  | FD_P f => exact (round_FD_P f)
  | FD_EIN f => exact (round_FD_EIN f)
  | FD_EINH f => exact (round_FD_EINH f)
  | FD_EOUT f => exact (round_FD_EOUT f)
  | FD_EOUTH f => exact (round_FD_EOUTH f)
  | HU_GG_STATE w => exact (round_HU_GG_STATE w)
  | HU_GG_RESTORE w => exact (round_HU_GG_RESTORE w)
  | HU_OCV w => exact (round_HU_OCV w)
  | LG_SCALE c => exact (round_LG_SCALE c)
  | LG_EFF n w => exact (round_LG_EFF n w)
  | AX_CTL j => exact (round_AX_CTL j)
  | AX_CFG j => exact (round_AX_CFG j)
  | AX_VNOM j => exact (round_AX_VNOM j)
  | AX_MARG j => exact (round_AX_MARG j)
  | AX_ILIM j => exact (round_AX_ILIM j)
  | AX_GAIN j => exact (round_AX_GAIN j)
  | AX_PWM j => exact (round_AX_PWM j)
  | AX_STAT j => exact (round_AX_STAT j)
  | AX_FLT j => exact (round_AX_FLT j)
  | AX_V j => exact (round_AX_V j)
  | AX_I j => exact (round_AX_I j)
  | AX_P j => exact (round_AX_P j)
  | AL_CTL k => exact (round_AL_CTL k)
  | AL_CFG k => exact (round_AL_CFG k)
  | AL_INGAIN k => exact (round_AL_INGAIN k)
  | AL_INOFF k => exact (round_AL_INOFF k)
  | AL_SP k => exact (round_AL_SP k)
  | AL_SPSRC k => exact (round_AL_SPSRC k)
  | AL_SPGAIN k => exact (round_AL_SPGAIN k)
  | AL_SPOFF k => exact (round_AL_SPOFF k)
  | AL_KP k => exact (round_AL_KP k)
  | AL_TI k => exact (round_AL_TI k)
  | AL_OUT k => exact (round_AL_OUT k)
  | AL_MAN k => exact (round_AL_MAN k)
  | AL_AT k => exact (round_AL_AT k)
  | AL_ATHYS k => exact (round_AL_ATHYS k)
  | AL_STAT k => exact (round_AL_STAT k)
  | AL_PV k => exact (round_AL_PV k)
  | TW_CFG p => exact (round_TW_CFG p)
  | TW_TIM p => exact (round_TW_TIM p)
  | TW_STAT p => exact (round_TW_STAT p)
  | TW0_DEV k => exact (round_TW0_DEV k)
  | TW0_RD0 k => exact (round_TW0_RD0 k)
  | TW0_RD1 k => exact (round_TW0_RD1 k)
  | HL_SESS k => exact (round_HL_SESS k)
  | HL_PCFG p => exact (round_HL_PCFG p)
  | HL_PSTAT p => exact (round_HL_PSTAT p)
  | HL_MACL p => exact (round_HL_MACL p)
  | HL_MACH p => exact (round_HL_MACH p)
  | HL_IP4 p => exact (round_HL_IP4 p)
  | HL_GW4 p => exact (round_HL_GW4 p)
  | HL_PLEN p => exact (round_HL_PLEN p)
  | HL_IP6 p w => exact (round_HL_IP6 p w)
  | HL_SCFG s => exact (round_HL_SCFG s)
  | HL_SALLOT s => exact (round_HL_SALLOT s)
  | HL_SSTAT s => exact (round_HL_SSTAT s)
  | HL_SDROP s => exact (round_HL_SDROP s)
  | HL_DCFG d => exact (round_HL_DCFG d)
  | HL_DADDR d w => exact (round_HL_DADDR d w)
  | VT_CSLOT s => exact (round_VT_CSLOT s)
  | VT_CTRIG w => exact (round_VT_CTRIG w)
  | BT_PWMF w => exact (round_BT_PWMF w (by rintro rfl; exact hr rfl))
  | TS_T k => exact (round_TS_T k)
  | LN_SUSP w => exact (round_LN_SUSP w)
  | CS_MAP w => exact (round_CS_MAP w)
  | CS_STAT k => exact (round_CS_STAT k)
  | CS_SHUSR i => exact (round_CS_SHUSR i)
  | CS_SG i => exact (round_CS_SG i)
  | CS_BARM b w => exact (round_CS_BARM b w)
  | CH_MODE n => exact (by
      show Reg.ofAddr (0x100000 + n.val * 0x400) = _
      rw [show 0x100000 + n.val * 0x400 = 0x100000 + n.val * 0x400 + 0x0 from by omega, ofAddr_ch n 0x0 (by omega) rfl]; rfl)
  | CH_STATE n => exact (by
      show Reg.ofAddr (0x100004 + n.val * 0x400) = _
      rw [show 0x100004 + n.val * 0x400 = 0x100000 + n.val * 0x400 + 0x4 from by omega, ofAddr_ch n 0x4 (by omega) rfl]; rfl)
  | CH_PROG n => exact (by
      show Reg.ofAddr (0x100008 + n.val * 0x400) = _
      rw [show 0x100008 + n.val * 0x400 = 0x100000 + n.val * 0x400 + 0x8 from by omega, ofAddr_ch n 0x8 (by omega) rfl]; rfl)
  | CH_GANG n => exact (by
      show Reg.ofAddr (0x10000C + n.val * 0x400) = _
      rw [show 0x10000C + n.val * 0x400 = 0x100000 + n.val * 0x400 + 0xC from by omega, ofAddr_ch n 0xC (by omega) rfl]; rfl)
  | CH_PWM n => exact (by
      show Reg.ofAddr (0x100010 + n.val * 0x400) = _
      rw [show 0x100010 + n.val * 0x400 = 0x100000 + n.val * 0x400 + 0x10 from by omega, ofAddr_ch n 0x10 (by omega) rfl]; rfl)
  | CH_CMD n => exact (by
      show Reg.ofAddr (0x100014 + n.val * 0x400) = _
      rw [show 0x100014 + n.val * 0x400 = 0x100000 + n.val * 0x400 + 0x14 from by omega, ofAddr_ch n 0x14 (by omega) rfl]; rfl)
  | CH_SOFT n => exact (by
      show Reg.ofAddr (0x100018 + n.val * 0x400) = _
      rw [show 0x100018 + n.val * 0x400 = 0x100000 + n.val * 0x400 + 0x18 from by omega, ofAddr_ch n 0x18 (by omega) rfl]; rfl)
  | CH_SLEW n => exact (by
      show Reg.ofAddr (0x10001C + n.val * 0x400) = _
      rw [show 0x10001C + n.val * 0x400 = 0x100000 + n.val * 0x400 + 0x1C from by omega, ofAddr_ch n 0x1C (by omega) rfl]; rfl)
  | CH_LIM_V n => exact (by
      show Reg.ofAddr (0x100020 + n.val * 0x400) = _
      rw [show 0x100020 + n.val * 0x400 = 0x100000 + n.val * 0x400 + 0x20 from by omega, ofAddr_ch n 0x20 (by omega) rfl]; rfl)
  | CH_LIM_I n => exact (by
      show Reg.ofAddr (0x100024 + n.val * 0x400) = _
      rw [show 0x100024 + n.val * 0x400 = 0x100000 + n.val * 0x400 + 0x24 from by omega, ofAddr_ch n 0x24 (by omega) rfl]; rfl)
  | CH_LIM_T n => exact (by
      show Reg.ofAddr (0x100028 + n.val * 0x400) = _
      rw [show 0x100028 + n.val * 0x400 = 0x100000 + n.val * 0x400 + 0x28 from by omega, ofAddr_ch n 0x28 (by omega) rfl]; rfl)
  | CH_FUSE n => exact (by
      show Reg.ofAddr (0x10002C + n.val * 0x400) = _
      rw [show 0x10002C + n.val * 0x400 = 0x100000 + n.val * 0x400 + 0x2C from by omega, ofAddr_ch n 0x2C (by omega) rfl]; rfl)
  | CT_DELTA n => exact (by
      show Reg.ofAddr (0x100030 + n.val * 0x400) = _
      rw [show 0x100030 + n.val * 0x400 = 0x100000 + n.val * 0x400 + 0x30 from by omega, ofAddr_ch n 0x30 (by omega) rfl]; rfl)
  | CT_EMAX n => exact (by
      show Reg.ofAddr (0x100034 + n.val * 0x400) = _
      rw [show 0x100034 + n.val * 0x400 = 0x100000 + n.val * 0x400 + 0x34 from by omega, ofAddr_ch n 0x34 (by omega) rfl]; rfl)
  | CH_RPATH n => exact (by
      show Reg.ofAddr (0x100038 + n.val * 0x400) = _
      rw [show 0x100038 + n.val * 0x400 = 0x100000 + n.val * 0x400 + 0x38 from by omega, ofAddr_ch n 0x38 (by omega) rfl]; rfl)
  | CH_CHK n => exact (by
      show Reg.ofAddr (0x10003C + n.val * 0x400) = _
      rw [show 0x10003C + n.val * 0x400 = 0x100000 + n.val * 0x400 + 0x3C from by omega, ofAddr_ch n 0x3C (by omega) rfl]; rfl)
  | CH_MEAS n => exact (by
      show Reg.ofAddr (0x100040 + n.val * 0x400) = _
      rw [show 0x100040 + n.val * 0x400 = 0x100000 + n.val * 0x400 + 0x40 from by omega, ofAddr_ch n 0x40 (by omega) rfl]; rfl)
  | CH_SHUNT n => exact (by
      show Reg.ofAddr (0x100044 + n.val * 0x400) = _
      rw [show 0x100044 + n.val * 0x400 = 0x100000 + n.val * 0x400 + 0x44 from by omega, ofAddr_ch n 0x44 (by omega) rfl]; rfl)
  | CH_NTC n => exact (by
      show Reg.ofAddr (0x100048 + n.val * 0x400) = _
      rw [show 0x100048 + n.val * 0x400 = 0x100000 + n.val * 0x400 + 0x48 from by omega, ofAddr_ch n 0x48 (by omega) rfl]; rfl)
  | CH_MSTAT n => exact (by
      show Reg.ofAddr (0x10004C + n.val * 0x400) = _
      rw [show 0x10004C + n.val * 0x400 = 0x100000 + n.val * 0x400 + 0x4C from by omega, ofAddr_ch n 0x4C (by omega) rfl]; rfl)
  | CH_IKP n => exact (by
      show Reg.ofAddr (0x100050 + n.val * 0x400) = _
      rw [show 0x100050 + n.val * 0x400 = 0x100000 + n.val * 0x400 + 0x50 from by omega, ofAddr_ch n 0x50 (by omega) rfl]; rfl)
  | CH_IKI n => exact (by
      show Reg.ofAddr (0x100054 + n.val * 0x400) = _
      rw [show 0x100054 + n.val * 0x400 = 0x100000 + n.val * 0x400 + 0x54 from by omega, ofAddr_ch n 0x54 (by omega) rfl]; rfl)
  | CH_VKP n => exact (by
      show Reg.ofAddr (0x100058 + n.val * 0x400) = _
      rw [show 0x100058 + n.val * 0x400 = 0x100000 + n.val * 0x400 + 0x58 from by omega, ofAddr_ch n 0x58 (by omega) rfl]; rfl)
  | CH_VKI n => exact (by
      show Reg.ofAddr (0x10005C + n.val * 0x400) = _
      rw [show 0x10005C + n.val * 0x400 = 0x100000 + n.val * 0x400 + 0x5C from by omega, ofAddr_ch n 0x5C (by omega) rfl]; rfl)
  | CH_LCFG n => exact (by
      show Reg.ofAddr (0x100060 + n.val * 0x400) = _
      rw [show 0x100060 + n.val * 0x400 = 0x100000 + n.val * 0x400 + 0x60 from by omega, ofAddr_ch n 0x60 (by omega) rfl]; rfl)
  | CH_OSW n => exact (by
      show Reg.ofAddr (0x100064 + n.val * 0x400) = _
      rw [show 0x100064 + n.val * 0x400 = 0x100000 + n.val * 0x400 + 0x64 from by omega, ofAddr_ch n 0x64 (by omega) rfl]; rfl)
  | CH_V n => exact (by
      show Reg.ofAddr (0x100080 + n.val * 0x400) = _
      rw [show 0x100080 + n.val * 0x400 = 0x100000 + n.val * 0x400 + 0x80 from by omega, ofAddr_ch n 0x80 (by omega) rfl]; rfl)
  | CH_I n => exact (by
      show Reg.ofAddr (0x100084 + n.val * 0x400) = _
      rw [show 0x100084 + n.val * 0x400 = 0x100000 + n.val * 0x400 + 0x84 from by omega, ofAddr_ch n 0x84 (by omega) rfl]; rfl)
  | CH_P n => exact (by
      show Reg.ofAddr (0x100088 + n.val * 0x400) = _
      rw [show 0x100088 + n.val * 0x400 = 0x100000 + n.val * 0x400 + 0x88 from by omega, ofAddr_ch n 0x88 (by omega) rfl]; rfl)
  | CH_AH n => exact (by
      show Reg.ofAddr (0x100090 + n.val * 0x400) = _
      rw [show 0x100090 + n.val * 0x400 = 0x100000 + n.val * 0x400 + 0x90 from by omega, ofAddr_ch n 0x90 (by omega) rfl]; rfl)
  | CH_AHH n => exact (by
      show Reg.ofAddr (0x100094 + n.val * 0x400) = _
      rw [show 0x100094 + n.val * 0x400 = 0x100000 + n.val * 0x400 + 0x94 from by omega, ofAddr_ch n 0x94 (by omega) rfl]; rfl)
  | CH_WH n => exact (by
      show Reg.ofAddr (0x100098 + n.val * 0x400) = _
      rw [show 0x100098 + n.val * 0x400 = 0x100000 + n.val * 0x400 + 0x98 from by omega, ofAddr_ch n 0x98 (by omega) rfl]; rfl)
  | CH_WHH n => exact (by
      show Reg.ofAddr (0x10009C + n.val * 0x400) = _
      rw [show 0x10009C + n.val * 0x400 = 0x100000 + n.val * 0x400 + 0x9C from by omega, ofAddr_ch n 0x9C (by omega) rfl]; rfl)
  | CH_T n => exact (by
      show Reg.ofAddr (0x1000A0 + n.val * 0x400) = _
      rw [show 0x1000A0 + n.val * 0x400 = 0x100000 + n.val * 0x400 + 0xA0 from by omega, ofAddr_ch n 0xA0 (by omega) rfl]; rfl)
  | CH_VFD n => exact (by
      show Reg.ofAddr (0x1000A4 + n.val * 0x400) = _
      rw [show 0x1000A4 + n.val * 0x400 = 0x100000 + n.val * 0x400 + 0xA4 from by omega, ofAddr_ch n 0xA4 (by omega) rfl]; rfl)
  | CH_REF n => exact (by
      show Reg.ofAddr (0x1000A8 + n.val * 0x400) = _
      rw [show 0x1000A8 + n.val * 0x400 = 0x100000 + n.val * 0x400 + 0xA8 from by omega, ofAddr_ch n 0xA8 (by omega) rfl]; rfl)
  | CH_DUTY n => exact (by
      show Reg.ofAddr (0x1000AC + n.val * 0x400) = _
      rw [show 0x1000AC + n.val * 0x400 = 0x100000 + n.val * 0x400 + 0xAC from by omega, ofAddr_ch n 0xAC (by omega) rfl]; rfl)
  | CH_PSTAT n => exact (by
      show Reg.ofAddr (0x1000B0 + n.val * 0x400) = _
      rw [show 0x1000B0 + n.val * 0x400 = 0x100000 + n.val * 0x400 + 0xB0 from by omega, ofAddr_ch n 0xB0 (by omega) rfl]; rfl)
  | CH_PSEQ n => exact (by
      show Reg.ofAddr (0x1000B4 + n.val * 0x400) = _
      rw [show 0x1000B4 + n.val * 0x400 = 0x100000 + n.val * 0x400 + 0xB4 from by omega, ofAddr_ch n 0xB4 (by omega) rfl]; rfl)
  | CH_PCNT n => exact (by
      show Reg.ofAddr (0x1000B8 + n.val * 0x400) = _
      rw [show 0x1000B8 + n.val * 0x400 = 0x100000 + n.val * 0x400 + 0xB8 from by omega, ofAddr_ch n 0xB8 (by omega) rfl]; rfl)
  | CH_TREC n i => exact (by
      show Reg.ofAddr (0x1000C0 + n.val * 0x400 + i.val * 4) = _
      rw [show 0x1000C0 + n.val * 0x400 + i.val * 4 = 0x100000 + n.val * 0x400 + (0xC0 + i.val * 4) from by omega, ofAddr_ch n _ (by omega) (by omega), chAt_trec])
  | CH_FAULT n => exact (by
      show Reg.ofAddr (0x100100 + n.val * 0x400) = _
      rw [show 0x100100 + n.val * 0x400 = 0x100000 + n.val * 0x400 + 0x100 from by omega, ofAddr_ch n 0x100 (by omega) rfl]; rfl)
  | CH_FUSEST n => exact (by
      show Reg.ofAddr (0x100104 + n.val * 0x400) = _
      rw [show 0x100104 + n.val * 0x400 = 0x100000 + n.val * 0x400 + 0x104 from by omega, ofAddr_ch n 0x104 (by omega) rfl]; rfl)
  | CH_CTLAST n => exact (by
      show Reg.ofAddr (0x100108 + n.val * 0x400) = _
      rw [show 0x100108 + n.val * 0x400 = 0x100000 + n.val * 0x400 + 0x108 from by omega, ofAddr_ch n 0x108 (by omega) rfl]; rfl)
  | CH_CTCNT n => exact (by
      show Reg.ofAddr (0x10010C + n.val * 0x400) = _
      rw [show 0x10010C + n.val * 0x400 = 0x100000 + n.val * 0x400 + 0x10C from by omega, ofAddr_ch n 0x10C (by omega) rfl]; rfl)
  | CH_CTWEAR n => exact (by
      show Reg.ofAddr (0x100110 + n.val * 0x400) = _
      rw [show 0x100110 + n.val * 0x400 = 0x100000 + n.val * 0x400 + 0x110 from by omega, ofAddr_ch n 0x110 (by omega) rfl]; rfl)
  | CH_CTCLAMP n => exact (by
      show Reg.ofAddr (0x100114 + n.val * 0x400) = _
      rw [show 0x100114 + n.val * 0x400 = 0x100000 + n.val * 0x400 + 0x114 from by omega, ofAddr_ch n 0x114 (by omega) rfl]; rfl)
  | CH_STG n => exact (by
      show Reg.ofAddr (0x100118 + n.val * 0x400) = _
      rw [show 0x100118 + n.val * 0x400 = 0x100000 + n.val * 0x400 + 0x118 from by omega, ofAddr_ch n 0x118 (by omega) rfl]; rfl)
  | CH_DCIR n => exact (by
      show Reg.ofAddr (0x100200 + n.val * 0x400) = _
      rw [show 0x100200 + n.val * 0x400 = 0x100000 + n.val * 0x400 + 0x200 from by omega, ofAddr_ch n 0x200 (by omega) rfl]; rfl)
  | CH_DCDV n => exact (by
      show Reg.ofAddr (0x100204 + n.val * 0x400) = _
      rw [show 0x100204 + n.val * 0x400 = 0x100000 + n.val * 0x400 + 0x204 from by omega, ofAddr_ch n 0x204 (by omega) rfl]; rfl)
  | CH_DCDI n => exact (by
      show Reg.ofAddr (0x100208 + n.val * 0x400) = _
      rw [show 0x100208 + n.val * 0x400 = 0x100000 + n.val * 0x400 + 0x208 from by omega, ofAddr_ch n 0x208 (by omega) rfl]; rfl)
  | CH_DCCFG n => exact (by
      show Reg.ofAddr (0x10020C + n.val * 0x400) = _
      rw [show 0x10020C + n.val * 0x400 = 0x100000 + n.val * 0x400 + 0x20C from by omega, ofAddr_ch n 0x20C (by omega) rfl]; rfl)
  | CH_DCST n => exact (by
      show Reg.ofAddr (0x100210 + n.val * 0x400) = _
      rw [show 0x100210 + n.val * 0x400 = 0x100000 + n.val * 0x400 + 0x210 from by omega, ofAddr_ch n 0x210 (by omega) rfl]; rfl)
  | CH_EIS_F n => exact (by
      show Reg.ofAddr (0x100220 + n.val * 0x400) = _
      rw [show 0x100220 + n.val * 0x400 = 0x100000 + n.val * 0x400 + 0x220 from by omega, ofAddr_ch n 0x220 (by omega) rfl]; rfl)
  | CH_EIS_RE n => exact (by
      show Reg.ofAddr (0x100224 + n.val * 0x400) = _
      rw [show 0x100224 + n.val * 0x400 = 0x100000 + n.val * 0x400 + 0x224 from by omega, ofAddr_ch n 0x224 (by omega) rfl]; rfl)
  | CH_EIS_IM n => exact (by
      show Reg.ofAddr (0x100228 + n.val * 0x400) = _
      rw [show 0x100228 + n.val * 0x400 = 0x100000 + n.val * 0x400 + 0x228 from by omega, ofAddr_ch n 0x228 (by omega) rfl]; rfl)
  | CH_EIS_IA n => exact (by
      show Reg.ofAddr (0x10022C + n.val * 0x400) = _
      rw [show 0x10022C + n.val * 0x400 = 0x100000 + n.val * 0x400 + 0x22C from by omega, ofAddr_ch n 0x22C (by omega) rfl]; rfl)
  | CH_EIS_Q n => exact (by
      show Reg.ofAddr (0x100230 + n.val * 0x400) = _
      rw [show 0x100230 + n.val * 0x400 = 0x100000 + n.val * 0x400 + 0x230 from by omega, ofAddr_ch n 0x230 (by omega) rfl]; rfl)
  | CH_DVDT n => exact (by
      show Reg.ofAddr (0x100238 + n.val * 0x400) = _
      rw [show 0x100238 + n.val * 0x400 = 0x100000 + n.val * 0x400 + 0x238 from by omega, ofAddr_ch n 0x238 (by omega) rfl]; rfl)
  | CH_OCVCTL n => exact (by
      show Reg.ofAddr (0x100240 + n.val * 0x400) = _
      rw [show 0x100240 + n.val * 0x400 = 0x100000 + n.val * 0x400 + 0x240 from by omega, ofAddr_ch n 0x240 (by omega) rfl]; rfl)
  | CH_OCVSLOPE n => exact (by
      show Reg.ofAddr (0x100244 + n.val * 0x400) = _
      rw [show 0x100244 + n.val * 0x400 = 0x100000 + n.val * 0x400 + 0x244 from by omega, ofAddr_ch n 0x244 (by omega) rfl]; rfl)
  | CH_OCVSE n => exact (by
      show Reg.ofAddr (0x100248 + n.val * 0x400) = _
      rw [show 0x100248 + n.val * 0x400 = 0x100000 + n.val * 0x400 + 0x248 from by omega, ofAddr_ch n 0x248 (by omega) rfl]; rfl)
  | CH_OCVN n => exact (by
      show Reg.ofAddr (0x10024C + n.val * 0x400) = _
      rw [show 0x10024C + n.val * 0x400 = 0x100000 + n.val * 0x400 + 0x24C from by omega, ofAddr_ch n 0x24C (by omega) rfl]; rfl)
  | CH_OCVDUR n => exact (by
      show Reg.ofAddr (0x100250 + n.val * 0x400) = _
      rw [show 0x100250 + n.val * 0x400 = 0x100000 + n.val * 0x400 + 0x250 from by omega, ofAddr_ch n 0x250 (by omega) rfl]; rfl)
  | CH_OCVST n => exact (by
      show Reg.ofAddr (0x100254 + n.val * 0x400) = _
      rw [show 0x100254 + n.val * 0x400 = 0x100000 + n.val * 0x400 + 0x254 from by omega, ofAddr_ch n 0x254 (by omega) rfl]; rfl)
  | CH_OCVV0 n => exact (by
      show Reg.ofAddr (0x100258 + n.val * 0x400) = _
      rw [show 0x100258 + n.val * 0x400 = 0x100000 + n.val * 0x400 + 0x258 from by omega, ofAddr_ch n 0x258 (by omega) rfl]; rfl)
  | CH_G n i => exact (by
      show Reg.ofAddr (0x100300 + n.val * 0x400 + i.val * 4) = _
      rw [show 0x100300 + n.val * 0x400 + i.val * 4 = 0x100000 + n.val * 0x400 + (0x300 + i.val * 4) from by omega, ofAddr_ch n _ (by omega) (by omega), chAt_g])
  | GL_ID => exact rfl
  | GL_STATE => exact rfl
  | GL_SAFE => exact rfl
  | GL_LOCK => exact rfl
  | GL_MODE => exact rfl
  | GL_AGSTAT => exact rfl
  | GL_SUPV => exact rfl
  | GL_CARD => exact rfl
  | GL_BUSLIM => exact rfl
  | CK_SRC => exact rfl
  | CK_SRCSTAT => exact rfl
  | CK_PLLSTAT => exact rfl
  | CK_TRIM => exact rfl
  | CK_TIME => exact rfl
  | CK_TIMEH => exact rfl
  | CK_TSET => exact rfl
  | CK_PPS => exact rfl
  | CK_PPSSTAT => exact rfl
  | CK_OFFSET => exact rfl
  | CK_HOLD => exact rfl
  | CK_RATE => exact rfl
  | CK_COMPAT => exact rfl
  | CK_CSTEP => exact rfl
  | CK_CVOLT => exact rfl
  | CK_PWM => exact rfl
  | CK_SYNC => exact rfl
  | CK_SYNCST => exact rfl
  | EV_CTL => exact rfl
  | EV_STAT => exact rfl
  | SQ_CTL => exact rfl
  | SQ_CMD => exact rfl
  | SQ_STAT => exact rfl
  | SQ_BOOT => exact rfl
  | SQ_WDI => exact rfl
  | SQ_ROFF => exact rfl
  | FD_SEL => exact rfl
  | FD_QUAL => exact rfl
  | FD_CMAX => exact rfl
  | FD_CBUS => exact rfl
  | FD_BUSV => exact rfl
  | FD_CNT => exact rfl
  | HU_CTL => exact rfl
  | HU_STAT => exact rfl
  | HU_FLT => exact rfl
  | HU_INTM => exact rfl
  | HU_STRAP => exact rfl
  | HU_CHG => exact rfl
  | HU_VREG => exact rfl
  | HU_ACC => exact rfl
  | HU_TEMP => exact rfl
  | HU_DLIM => exact rfl
  | HU_RIDE => exact rfl
  | HU_RSH => exact rfl
  | HU_PRECFG => exact rfl
  | HU_TIMER => exact rfl
  | HU_WDT => exact rfl
  | HU_V => exact rfl
  | HU_I => exact rfl
  | HU_T => exact rfl
  | HU_GG_SOC => exact rfl
  | HU_GG_CAP => exact rfl
  | HU_GG_RPACK => exact rfl
  | LG_CTL => exact rfl
  | LG_CAP_W => exact rfl
  | LG_REGEN_W => exact rfl
  | LG_CAP_RM => exact rfl
  | LG_CAPEFF => exact rfl
  | LG_CLASS_FLOOR => exact rfl
  | LG_HU => exact rfl
  | LG_NET_W => exact rfl
  | LG_PRED_W => exact rfl
  | LG_STAT => exact rfl
  | LG_DEGRADE_PCT => exact rfl
  | LG_DEGRADE_S => exact rfl
  | LG_BASE_W => exact rfl
  | LG_AXEFF => exact rfl
  | LG_FEEDERR => exact rfl
  | LG_RPT => exact rfl
  | TW0_POLL => exact rfl
  | TW0_PKMASK => exact rfl
  | TW1_ADDR => exact rfl
  | TW1_PTR => exact rfl
  | TW1_NTFY => exact rfl
  | HL_CFG => exact rfl
  | HL_STAT => exact rfl
  | HL_KEYSTAT => exact rfl
  | HL_RATE => exact rfl
  | HL_BULK => exact rfl
  | HL_SPI => exact rfl
  | VT_CTL => exact rfl
  | VT_STAT => exact rfl
  | VT_HEAD => exact rfl
  | VT_TAIL => exact rfl
  | VT_QUEUE => exact rfl
  | VT_CCTL => exact rfl
  | VT_CSTAT => exact rfl
  | BT_CTL => exact rfl
  | BT_SRAM => exact rfl
  | BT_SRAMT => exact rfl
  | BT_MRAM => exact rfl
  | BT_MRAMT => exact rfl
  | BT_FAIL0 => exact rfl
  | BT_FAIL1 => exact rfl
  | BT_REPAIR => exact rfl
  | BT_REF => exact rfl
  | BT_REFLIM => exact rfl
  | TS_CTL => exact rfl
  | TS_MAX => exact rfl
  | TS_STAT => exact rfl
  | TS_BAND => exact rfl
  | TS_HK => exact rfl
  | LN_CFG => exact rfl
  | LN_STAT => exact rfl
  | LN_POS => exact rfl
  | LN_LIMIT => exact rfl
  | LN_ADOPT => exact rfl
  | LN_DWELL => exact rfl
  | LN_CNT => exact rfl
  | LN_REFV => exact rfl
  | LN_RES0 => exact rfl
  | LN_RES1 => exact rfl
  | LN_RES2 => exact rfl
  | LN_RES3 => exact rfl
  | LN_KBASE => exact rfl
  | LN_CALCTL => exact rfl
  | LN_CALSTAT => exact rfl
  | LN_CALSEQ => exact rfl
  | CS_CTL => exact rfl
  | CS_SPARE => exact rfl
  | CS_SHPROG => exact rfl
  | CS_SHCMD => exact rfl
  | CS_SHSTAT => exact rfl
  | CS_BART => exact rfl
  | CS_SHIN => exact rfl

theorem Reg.addr_inj {r t : Reg} (hr : r ≠ .BT_PWMF 8) (ht : t ≠ .BT_PWMF 8) (h : r.addr = t.addr) : r = t := by
  have a := Reg.ofAddr_addr r hr
  rw [h, Reg.ofAddr_addr t ht] at a
  exact (Option.some.inj a).symm

/-- No two registers share a place in the canonical order. -/
theorem Reg.key_inj {r t : Reg} (h : r.key = t.key) : r = t := by
  unfold Reg.key at h
  split at h <;> split at h
  · next a b => rw [a, b]
  · omega
  · omega
  · next a b => exact Reg.addr_inj a b (by omega)

end Sys2Proof.Machine
end

