-- ==== Sys2Proof/Laws/Regs.lean ====
section
/-! SUPPORT. Registers and fields: a register written reads back, leaves every other register alone, and the sparse list
of registers keeps its canonical form. -/

namespace Sys2Proof.Machine

theorem regFind_nil (r : Reg) : regFind [] r = none := rfl

theorem regFind_cons (e : Reg × Word) (l : List (Reg × Word)) (r : Reg) :
    regFind (e :: l) r = if e.1 = r then some e.2 else regFind l r := by
  unfold regFind
  by_cases h : e.1 = r <;> simp [List.find?_cons, h]

theorem regFind_insert_same (l : List (Reg × Word)) (r : Reg) (w : Word) (h : regFind l r = none) :
    regFind (regInsert l r w) r = some w := by
  induction l with
  | nil => simp [regInsert, regFind_cons]
  | cons e l ih =>
    rw [regFind_cons] at h
    split at h
    · cases h
    · next he =>
      unfold regInsert
      split
      · simp [regFind_cons]
      · rw [regFind_cons, if_neg he, ih h]

theorem regFind_insert_other (l : List (Reg × Word)) (r t : Reg) (w : Word) (h : r ≠ t) :
    regFind (regInsert l r w) t = regFind l t := by
  induction l with
  | nil => simp [regInsert, regFind_cons, h]
  | cons e l ih =>
    unfold regInsert
    split
    · rw [regFind_cons, if_neg h]
    · rw [regFind_cons, regFind_cons, ih]

theorem regFind_drop_same (l : List (Reg × Word)) (r : Reg) : regFind (regDrop l r) r = none := by
  unfold regFind regDrop
  simp only [Option.map_eq_none_iff, List.find?_eq_none, List.mem_filter, decide_eq_true_eq]
  exact fun e he => he.2

theorem regFind_drop_other (l : List (Reg × Word)) (r t : Reg) (h : t ≠ r) : regFind (regDrop l r) t = regFind l t := by
  induction l with
  | nil => rfl
  | cons e l ih =>
    have ih' : regFind (l.filter fun x => decide (x.1 ≠ r)) t = regFind l t := ih
    unfold regDrop
    by_cases he : e.1 = r
    · rw [List.filter_cons_of_neg (by simp [he]), ih', regFind_cons, if_neg]
      rw [he]; exact fun hh => h hh.symm
    · rw [List.filter_cons_of_pos (by simp [he]), regFind_cons, regFind_cons, ih']

theorem regFind_put (l : List (Reg × Word)) (r t : Reg) (w : Word) :
    regFind (regPut l r w) t = if r = t then some w else regFind l t := by
  unfold regPut
  by_cases h : r = t
  · subst h; rw [if_pos rfl, regFind_insert_same _ _ _ (regFind_drop_same l r)]
  · rw [if_neg h, regFind_insert_other _ _ _ _ h, regFind_drop_other l r t fun hh => h hh.symm]

/-- A register written reads back. -/
@[simp] theorem State.word_setWord_same (s : State) (r : Reg) (w : Word) : (s.setWord r w).word r = w := by
  simp only [State.word, State.setWord, regSet]
  split
  · next h => simp [regFind_drop_same, h]
  · simp [regFind_put]

/-- Writing a register leaves every other register as it was. -/
theorem State.word_setWord_other (s : State) (r t : Reg) (w : Word) (h : t ≠ r) : (s.setWord r w).word t = s.word t := by
  simp only [State.word, State.setWord, regSet]
  split
  · rw [regFind_drop_other _ _ _ h]
  · rw [regFind_put, if_neg (fun hh => h hh.symm)]

/-- A register written, read anywhere. -/
theorem State.word_setWord (s : State) (r t : Reg) (w : Word) :
    (s.setWord r w).word t = if t = r then w else s.word t := by
  by_cases h : t = r
  · subst h; simp
  · rw [if_neg h, State.word_setWord_other s r t w h]

/-- A field written reads back, modulo its width. -/
theorem State.fget_fset_same (s : State) (f : Fld) (v : Nat) (h : f.lo + f.len ≤ 32) :
    (s.fset f v).fget f = v % 2 ^ f.len := by
  simp [State.fget, State.fset, bitsOf_putBits _ _ _ _ h]

/-- A field write leaves the fields of every other register as they were. -/
theorem State.fget_fset_reg (s : State) (f g : Fld) (v : Nat) (h : g.reg ≠ f.reg) : (s.fset f v).fget g = s.fget g := by
  simp [State.fget, State.fset, State.word_setWord_other _ _ _ _ h]

/-- A field write leaves the fields of the same register apart from it as they were. -/
theorem State.fget_fset_apart (s : State) (f g : Fld) (v : Nat) (h : g.lo + g.len ≤ 32)
    (hd : f.lo + f.len ≤ g.lo ∨ g.lo + g.len ≤ f.lo) : (s.fset f v).fget g = s.fget g := by
  by_cases hr : g.reg = f.reg
  · simp only [State.fget, State.fset]
    rw [State.word_setWord, if_pos hr, bitsOf_putBits_apart _ _ _ _ _ _ h hd, hr]
  · exact s.fget_fset_reg f g v hr

theorem State.fget_lt (s : State) (f : Fld) : s.fget f < 2 ^ f.len := bitsOf_lt _ _ _

theorem State.word_fset_other (s : State) (f : Fld) (v : Nat) (r : Reg) (h : r ≠ f.reg) : (s.fset f v).word r = s.word r :=
  s.word_setWord_other _ _ _ h

/-! The canonical form. -/

theorem regsWf_iff (l : List (Reg × Word)) :
    regsWf l = true ↔ (l.Pairwise fun p q => p.1.key < q.1.key) ∧ ∀ e ∈ l, e.2 ≠ e.1.rst := by
  simp [regsWf, List.all_eq_true]

theorem regDrop_wf {l : List (Reg × Word)} (h : regsWf l = true) (r : Reg) : regsWf (regDrop l r) = true := by
  rw [regsWf_iff] at *
  refine ⟨h.1.sublist List.filter_sublist, fun e he => h.2 e (List.mem_filter.1 he).1⟩

theorem mem_regInsert {l : List (Reg × Word)} {r : Reg} {w : Word} {e : Reg × Word} (he : e ∈ regInsert l r w) :
    e = (r, w) ∨ e ∈ l := by
  induction l with
  | nil => simpa [regInsert] using he
  | cons x l ih =>
    unfold regInsert at he
    split at he
    · simpa using he
    · rcases List.mem_cons.1 he with h | h
      · right; simp [h]
      · rcases ih h with h | h
        · left; exact h
        · right; exact List.mem_cons_of_mem _ h

theorem regInsert_pairwise {l : List (Reg × Word)} {r : Reg} {w : Word} (h : l.Pairwise fun p q => p.1.key < q.1.key)
    (hr : ∀ e ∈ l, e.1 ≠ r) : (regInsert l r w).Pairwise fun p q => p.1.key < q.1.key := by
  induction l with
  | nil => simp [regInsert]
  | cons x l ih =>
    have hx := List.pairwise_cons.1 h
    have hne : x.1.key ≠ r.key := fun hk => hr x List.mem_cons_self (Reg.key_inj hk)
    unfold regInsert
    split
    · next hle =>
      refine List.pairwise_cons.2 ⟨fun e he => ?_, h⟩
      rcases List.mem_cons.1 he with he | he
      · subst he; show r.key < e.1.key; omega
      · have := hx.1 e he; show r.key < e.1.key; omega
    · next hgt =>
      refine List.pairwise_cons.2 ⟨fun e he => ?_, ih hx.2 fun e he => hr e (List.mem_cons_of_mem _ he)⟩
      rcases mem_regInsert he with he | he
      · subst he; show x.1.key < r.key; omega
      · exact hx.1 e he

/-- Setting a register keeps the canonical form. -/
theorem regSet_wf {l : List (Reg × Word)} (h : regsWf l = true) (r : Reg) (w : Word) : regsWf (regSet l r w) = true := by
  unfold regSet
  split
  · exact regDrop_wf h r
  · next hw =>
    have hd := (regsWf_iff _).1 (regDrop_wf h r)
    refine (regsWf_iff _).2 ⟨regInsert_pairwise hd.1 fun e he => ?_, fun e he => ?_⟩
    · simpa using (List.mem_filter.1 he).2
    · rcases mem_regInsert he with he | he
      · subst he; exact hw
      · exact hd.2 e he

/-- A part of a canonical list is canonical. -/
theorem regsWf_filter {l : List (Reg × Word)} (h : regsWf l = true) (p : Reg × Word → Bool) : regsWf (l.filter p) = true := by
  rw [regsWf_iff] at *
  exact ⟨h.1.sublist List.filter_sublist, fun e he => h.2 e (List.mem_filter.1 he).1⟩

end Sys2Proof.Machine
end

