-- ==== Sys2Proof/Laws/Conf.lean ====
section
/-! SUPPORT. The operations of the machine that leave every configuration register (`_conf`). -/

namespace Sys2Proof.Machine

set_option linter.unusedSimpArgs false
set_option Elab.async false


/-- The configuration words of a register list. -/
def confOf (l : List (Reg × Word)) (r : Reg) : Word := if r.isConf then (regFind l r).getD r.rst else 0

/-- The configuration words: what the registers of `Reg.isConf` hold. -/
def State.conf (s : State) : Reg → Word := confOf s.regs


theorem State.conf_mk {regs old held64 low64 mem nv time ctr ctrPrev lockAt lockBy safeReq clrReq ch sh lane spare led fd fsel hu ax al sq boot clk mode ev link tw vault cellar tst maint status data free pending} :
    State.conf ⟨regs, old, held64, low64, mem, nv, time, ctr, ctrPrev, lockAt, lockBy, safeReq, clrReq, ch, sh, lane, spare, led, fd, fsel, hu, ax, al, sq, boot, clk, mode, ev, link, tw, vault, cellar, tst, maint, status, data, free, pending⟩
      = confOf regs := by simp only [State.conf]

theorem State.conf_fold (s : State) : confOf s.regs = s.conf := by simp only [State.conf]

theorem confOf_regSet {l : List (Reg × Word)} {r : Reg} {w : Word} (h : r.isConf = false) : confOf (regSet l r w) = confOf l := by
  funext q
  unfold confOf
  split
  · next hq =>
    have : q ≠ r := fun e => by rw [e, h] at hq; cases hq
    exact State.word_setWord_other { regs := l } r q w this
  · rfl

@[simp] theorem State.setWord_conf {s r w} (h : Reg.isConf r = false) : State.conf (State.setWord s r w) = State.conf s := by
  unfold State.conf State.setWord; exact confOf_regSet h
@[simp] theorem State.putBytes_conf {s a bs} : State.conf (State.putBytes s a bs) = State.conf s := by unfold State.putBytes; simp [State.conf_mk, State.conf_fold]
@[simp] theorem Reg.isConf_EV_PEND {w} : Reg.isConf (.EV_PEND w) = false := id rfl
@[simp] theorem Reg.isConf_EV_CFG {n} : Reg.isConf (.EV_CFG n) = false := id rfl
@[simp] theorem Reg.isConf_SQ_RNOM {e} : Reg.isConf (.SQ_RNOM e) = false := id rfl
@[simp] theorem Reg.isConf_SQ_RSTAT {e} : Reg.isConf (.SQ_RSTAT e) = false := id rfl
@[simp] theorem Reg.isConf_SQ_RFLT {e} : Reg.isConf (.SQ_RFLT e) = false := id rfl
@[simp] theorem Reg.isConf_FD_FCFG {f} : Reg.isConf (.FD_FCFG f) = false := id rfl
@[simp] theorem Reg.isConf_FD_FSTAT {f} : Reg.isConf (.FD_FSTAT f) = false := id rfl
@[simp] theorem Reg.isConf_FD_FLT {f} : Reg.isConf (.FD_FLT f) = false := id rfl
@[simp] theorem Reg.isConf_FD_V {f} : Reg.isConf (.FD_V f) = false := id rfl
@[simp] theorem Reg.isConf_FD_I {f} : Reg.isConf (.FD_I f) = false := id rfl
@[simp] theorem Reg.isConf_FD_P {f} : Reg.isConf (.FD_P f) = false := id rfl
@[simp] theorem Reg.isConf_FD_EIN {f} : Reg.isConf (.FD_EIN f) = false := id rfl
@[simp] theorem Reg.isConf_FD_EINH {f} : Reg.isConf (.FD_EINH f) = false := id rfl
@[simp] theorem Reg.isConf_FD_EOUT {f} : Reg.isConf (.FD_EOUT f) = false := id rfl
@[simp] theorem Reg.isConf_FD_EOUTH {f} : Reg.isConf (.FD_EOUTH f) = false := id rfl
@[simp] theorem Reg.isConf_HU_GG_STATE {w} : Reg.isConf (.HU_GG_STATE w) = false := id rfl
@[simp] theorem Reg.isConf_HU_GG_RESTORE {w} : Reg.isConf (.HU_GG_RESTORE w) = false := id rfl
@[simp] theorem Reg.isConf_LG_SCALE {c} : Reg.isConf (.LG_SCALE c) = false := id rfl
@[simp] theorem Reg.isConf_AX_CTL {j} : Reg.isConf (.AX_CTL j) = false := id rfl
@[simp] theorem Reg.isConf_AX_STAT {j} : Reg.isConf (.AX_STAT j) = false := id rfl
@[simp] theorem Reg.isConf_AX_FLT {j} : Reg.isConf (.AX_FLT j) = false := id rfl
@[simp] theorem Reg.isConf_AX_V {j} : Reg.isConf (.AX_V j) = false := id rfl
@[simp] theorem Reg.isConf_AX_I {j} : Reg.isConf (.AX_I j) = false := id rfl
@[simp] theorem Reg.isConf_AX_P {j} : Reg.isConf (.AX_P j) = false := id rfl
@[simp] theorem Reg.isConf_AL_CTL {k} : Reg.isConf (.AL_CTL k) = false := id rfl
@[simp] theorem Reg.isConf_AL_KP {k} : Reg.isConf (.AL_KP k) = false := id rfl
@[simp] theorem Reg.isConf_AL_TI {k} : Reg.isConf (.AL_TI k) = false := id rfl
@[simp] theorem Reg.isConf_AL_STAT {k} : Reg.isConf (.AL_STAT k) = false := id rfl
@[simp] theorem Reg.isConf_AL_PV {k} : Reg.isConf (.AL_PV k) = false := id rfl
@[simp] theorem Reg.isConf_TW_STAT {p} : Reg.isConf (.TW_STAT p) = false := id rfl
@[simp] theorem Reg.isConf_TW0_DEV {k} : Reg.isConf (.TW0_DEV k) = false := id rfl
@[simp] theorem Reg.isConf_TW0_RD0 {k} : Reg.isConf (.TW0_RD0 k) = false := id rfl
@[simp] theorem Reg.isConf_TW0_RD1 {k} : Reg.isConf (.TW0_RD1 k) = false := id rfl
@[simp] theorem Reg.isConf_HL_SESS {k} : Reg.isConf (.HL_SESS k) = false := id rfl
@[simp] theorem Reg.isConf_HL_PCFG {p} : Reg.isConf (.HL_PCFG p) = false := id rfl
@[simp] theorem Reg.isConf_HL_PSTAT {p} : Reg.isConf (.HL_PSTAT p) = false := id rfl
@[simp] theorem Reg.isConf_HL_MACL {p} : Reg.isConf (.HL_MACL p) = false := id rfl
@[simp] theorem Reg.isConf_HL_MACH {p} : Reg.isConf (.HL_MACH p) = false := id rfl
@[simp] theorem Reg.isConf_HL_SCFG {s} : Reg.isConf (.HL_SCFG s) = false := id rfl
@[simp] theorem Reg.isConf_HL_SSTAT {s} : Reg.isConf (.HL_SSTAT s) = false := id rfl
@[simp] theorem Reg.isConf_HL_SDROP {s} : Reg.isConf (.HL_SDROP s) = false := id rfl
@[simp] theorem Reg.isConf_VT_CSLOT {s} : Reg.isConf (.VT_CSLOT s) = false := id rfl
@[simp] theorem Reg.isConf_BT_PWMF {w} : Reg.isConf (.BT_PWMF w) = false := id rfl
@[simp] theorem Reg.isConf_TS_T {k} : Reg.isConf (.TS_T k) = false := id rfl
@[simp] theorem Reg.isConf_LN_SUSP {w} : Reg.isConf (.LN_SUSP w) = false := id rfl
@[simp] theorem Reg.isConf_CS_MAP {w} : Reg.isConf (.CS_MAP w) = false := id rfl
@[simp] theorem Reg.isConf_CS_STAT {k} : Reg.isConf (.CS_STAT k) = false := id rfl
@[simp] theorem Reg.isConf_CS_SHUSR {i} : Reg.isConf (.CS_SHUSR i) = false := id rfl
@[simp] theorem Reg.isConf_CH_MODE {n} : Reg.isConf (.CH_MODE n) = false := id rfl
@[simp] theorem Reg.isConf_CH_STATE {n} : Reg.isConf (.CH_STATE n) = false := id rfl
@[simp] theorem Reg.isConf_CH_PROG {n} : Reg.isConf (.CH_PROG n) = false := id rfl
@[simp] theorem Reg.isConf_CH_GANG {n} : Reg.isConf (.CH_GANG n) = false := id rfl
@[simp] theorem Reg.isConf_CH_CMD {n} : Reg.isConf (.CH_CMD n) = false := id rfl
@[simp] theorem Reg.isConf_CH_RPATH {n} : Reg.isConf (.CH_RPATH n) = false := id rfl
@[simp] theorem Reg.isConf_CH_MSTAT {n} : Reg.isConf (.CH_MSTAT n) = false := id rfl
@[simp] theorem Reg.isConf_CH_V {n} : Reg.isConf (.CH_V n) = false := id rfl
@[simp] theorem Reg.isConf_CH_I {n} : Reg.isConf (.CH_I n) = false := id rfl
@[simp] theorem Reg.isConf_CH_P {n} : Reg.isConf (.CH_P n) = false := id rfl
@[simp] theorem Reg.isConf_CH_AH {n} : Reg.isConf (.CH_AH n) = false := id rfl
@[simp] theorem Reg.isConf_CH_AHH {n} : Reg.isConf (.CH_AHH n) = false := id rfl
@[simp] theorem Reg.isConf_CH_WH {n} : Reg.isConf (.CH_WH n) = false := id rfl
@[simp] theorem Reg.isConf_CH_WHH {n} : Reg.isConf (.CH_WHH n) = false := id rfl
@[simp] theorem Reg.isConf_CH_T {n} : Reg.isConf (.CH_T n) = false := id rfl
@[simp] theorem Reg.isConf_CH_VFD {n} : Reg.isConf (.CH_VFD n) = false := id rfl
@[simp] theorem Reg.isConf_CH_REF {n} : Reg.isConf (.CH_REF n) = false := id rfl
@[simp] theorem Reg.isConf_CH_DUTY {n} : Reg.isConf (.CH_DUTY n) = false := id rfl
@[simp] theorem Reg.isConf_CH_PSTAT {n} : Reg.isConf (.CH_PSTAT n) = false := id rfl
@[simp] theorem Reg.isConf_CH_PSEQ {n} : Reg.isConf (.CH_PSEQ n) = false := id rfl
@[simp] theorem Reg.isConf_CH_PCNT {n} : Reg.isConf (.CH_PCNT n) = false := id rfl
@[simp] theorem Reg.isConf_CH_TREC {n i} : Reg.isConf (.CH_TREC n i) = false := id rfl
@[simp] theorem Reg.isConf_CH_FAULT {n} : Reg.isConf (.CH_FAULT n) = false := id rfl
@[simp] theorem Reg.isConf_CH_FUSEST {n} : Reg.isConf (.CH_FUSEST n) = false := id rfl
@[simp] theorem Reg.isConf_CH_CTLAST {n} : Reg.isConf (.CH_CTLAST n) = false := id rfl
@[simp] theorem Reg.isConf_CH_CTCNT {n} : Reg.isConf (.CH_CTCNT n) = false := id rfl
@[simp] theorem Reg.isConf_CH_CTWEAR {n} : Reg.isConf (.CH_CTWEAR n) = false := id rfl
@[simp] theorem Reg.isConf_CH_CTCLAMP {n} : Reg.isConf (.CH_CTCLAMP n) = false := id rfl
@[simp] theorem Reg.isConf_CH_STG {n} : Reg.isConf (.CH_STG n) = false := id rfl
@[simp] theorem Reg.isConf_CH_DCIR {n} : Reg.isConf (.CH_DCIR n) = false := id rfl
@[simp] theorem Reg.isConf_CH_DCDV {n} : Reg.isConf (.CH_DCDV n) = false := id rfl
@[simp] theorem Reg.isConf_CH_DCDI {n} : Reg.isConf (.CH_DCDI n) = false := id rfl
@[simp] theorem Reg.isConf_CH_DCST {n} : Reg.isConf (.CH_DCST n) = false := id rfl
@[simp] theorem Reg.isConf_CH_EIS_F {n} : Reg.isConf (.CH_EIS_F n) = false := id rfl
@[simp] theorem Reg.isConf_CH_EIS_RE {n} : Reg.isConf (.CH_EIS_RE n) = false := id rfl
@[simp] theorem Reg.isConf_CH_EIS_IM {n} : Reg.isConf (.CH_EIS_IM n) = false := id rfl
@[simp] theorem Reg.isConf_CH_EIS_IA {n} : Reg.isConf (.CH_EIS_IA n) = false := id rfl
@[simp] theorem Reg.isConf_CH_EIS_Q {n} : Reg.isConf (.CH_EIS_Q n) = false := id rfl
@[simp] theorem Reg.isConf_CH_DVDT {n} : Reg.isConf (.CH_DVDT n) = false := id rfl
@[simp] theorem Reg.isConf_CH_OCVCTL {n} : Reg.isConf (.CH_OCVCTL n) = false := id rfl
@[simp] theorem Reg.isConf_CH_OCVSLOPE {n} : Reg.isConf (.CH_OCVSLOPE n) = false := id rfl
@[simp] theorem Reg.isConf_CH_OCVSE {n} : Reg.isConf (.CH_OCVSE n) = false := id rfl
@[simp] theorem Reg.isConf_CH_OCVN {n} : Reg.isConf (.CH_OCVN n) = false := id rfl
@[simp] theorem Reg.isConf_CH_OCVDUR {n} : Reg.isConf (.CH_OCVDUR n) = false := id rfl
@[simp] theorem Reg.isConf_CH_OCVST {n} : Reg.isConf (.CH_OCVST n) = false := id rfl
@[simp] theorem Reg.isConf_CH_OCVV0 {n} : Reg.isConf (.CH_OCVV0 n) = false := id rfl
@[simp] theorem Reg.isConf_GL_ID : Reg.isConf .GL_ID = false := id rfl
@[simp] theorem Reg.isConf_GL_STATE : Reg.isConf .GL_STATE = false := id rfl
@[simp] theorem Reg.isConf_GL_SAFE : Reg.isConf .GL_SAFE = false := id rfl
@[simp] theorem Reg.isConf_GL_LOCK : Reg.isConf .GL_LOCK = false := id rfl
@[simp] theorem Reg.isConf_GL_MODE : Reg.isConf .GL_MODE = false := id rfl
@[simp] theorem Reg.isConf_GL_AGSTAT : Reg.isConf .GL_AGSTAT = false := id rfl
@[simp] theorem Reg.isConf_GL_SUPV : Reg.isConf .GL_SUPV = false := id rfl
@[simp] theorem Reg.isConf_GL_CARD : Reg.isConf .GL_CARD = false := id rfl
@[simp] theorem Reg.isConf_CK_SRCSTAT : Reg.isConf .CK_SRCSTAT = false := id rfl
@[simp] theorem Reg.isConf_CK_PLLSTAT : Reg.isConf .CK_PLLSTAT = false := id rfl
@[simp] theorem Reg.isConf_CK_TRIM : Reg.isConf .CK_TRIM = false := id rfl
@[simp] theorem Reg.isConf_CK_TIME : Reg.isConf .CK_TIME = false := id rfl
@[simp] theorem Reg.isConf_CK_TIMEH : Reg.isConf .CK_TIMEH = false := id rfl
@[simp] theorem Reg.isConf_CK_TSET : Reg.isConf .CK_TSET = false := id rfl
@[simp] theorem Reg.isConf_CK_PPS : Reg.isConf .CK_PPS = false := id rfl
@[simp] theorem Reg.isConf_CK_PPSSTAT : Reg.isConf .CK_PPSSTAT = false := id rfl
@[simp] theorem Reg.isConf_CK_OFFSET : Reg.isConf .CK_OFFSET = false := id rfl
@[simp] theorem Reg.isConf_CK_RATE : Reg.isConf .CK_RATE = false := id rfl
@[simp] theorem Reg.isConf_CK_CSTEP : Reg.isConf .CK_CSTEP = false := id rfl
@[simp] theorem Reg.isConf_CK_SYNCST : Reg.isConf .CK_SYNCST = false := id rfl
@[simp] theorem Reg.isConf_EV_STAT : Reg.isConf .EV_STAT = false := id rfl
@[simp] theorem Reg.isConf_SQ_CMD : Reg.isConf .SQ_CMD = false := id rfl
@[simp] theorem Reg.isConf_SQ_STAT : Reg.isConf .SQ_STAT = false := id rfl
@[simp] theorem Reg.isConf_SQ_BOOT : Reg.isConf .SQ_BOOT = false := id rfl
@[simp] theorem Reg.isConf_SQ_WDI : Reg.isConf .SQ_WDI = false := id rfl
@[simp] theorem Reg.isConf_SQ_ROFF : Reg.isConf .SQ_ROFF = false := id rfl
@[simp] theorem Reg.isConf_FD_SEL : Reg.isConf .FD_SEL = false := id rfl
@[simp] theorem Reg.isConf_FD_CBUS : Reg.isConf .FD_CBUS = false := id rfl
@[simp] theorem Reg.isConf_FD_BUSV : Reg.isConf .FD_BUSV = false := id rfl
@[simp] theorem Reg.isConf_FD_CNT : Reg.isConf .FD_CNT = false := id rfl
@[simp] theorem Reg.isConf_HU_CTL : Reg.isConf .HU_CTL = false := id rfl
@[simp] theorem Reg.isConf_HU_STAT : Reg.isConf .HU_STAT = false := id rfl
@[simp] theorem Reg.isConf_HU_FLT : Reg.isConf .HU_FLT = false := id rfl
@[simp] theorem Reg.isConf_HU_STRAP : Reg.isConf .HU_STRAP = false := id rfl
@[simp] theorem Reg.isConf_HU_TIMER : Reg.isConf .HU_TIMER = false := id rfl
@[simp] theorem Reg.isConf_HU_WDT : Reg.isConf .HU_WDT = false := id rfl
@[simp] theorem Reg.isConf_HU_V : Reg.isConf .HU_V = false := id rfl
@[simp] theorem Reg.isConf_HU_I : Reg.isConf .HU_I = false := id rfl
@[simp] theorem Reg.isConf_HU_T : Reg.isConf .HU_T = false := id rfl
@[simp] theorem Reg.isConf_HU_GG_SOC : Reg.isConf .HU_GG_SOC = false := id rfl
@[simp] theorem Reg.isConf_HU_GG_CAP : Reg.isConf .HU_GG_CAP = false := id rfl
@[simp] theorem Reg.isConf_LG_CAP_RM : Reg.isConf .LG_CAP_RM = false := id rfl
@[simp] theorem Reg.isConf_LG_CAPEFF : Reg.isConf .LG_CAPEFF = false := id rfl
@[simp] theorem Reg.isConf_LG_HU : Reg.isConf .LG_HU = false := id rfl
@[simp] theorem Reg.isConf_LG_NET_W : Reg.isConf .LG_NET_W = false := id rfl
@[simp] theorem Reg.isConf_LG_PRED_W : Reg.isConf .LG_PRED_W = false := id rfl
@[simp] theorem Reg.isConf_LG_STAT : Reg.isConf .LG_STAT = false := id rfl
@[simp] theorem Reg.isConf_LG_FEEDERR : Reg.isConf .LG_FEEDERR = false := id rfl
@[simp] theorem Reg.isConf_LG_RPT : Reg.isConf .LG_RPT = false := id rfl
@[simp] theorem Reg.isConf_TW1_ADDR : Reg.isConf .TW1_ADDR = false := id rfl
@[simp] theorem Reg.isConf_TW1_PTR : Reg.isConf .TW1_PTR = false := id rfl
@[simp] theorem Reg.isConf_TW1_NTFY : Reg.isConf .TW1_NTFY = false := id rfl
@[simp] theorem Reg.isConf_HL_STAT : Reg.isConf .HL_STAT = false := id rfl
@[simp] theorem Reg.isConf_HL_KEYSTAT : Reg.isConf .HL_KEYSTAT = false := id rfl
@[simp] theorem Reg.isConf_HL_RATE : Reg.isConf .HL_RATE = false := id rfl
@[simp] theorem Reg.isConf_HL_BULK : Reg.isConf .HL_BULK = false := id rfl
@[simp] theorem Reg.isConf_HL_SPI : Reg.isConf .HL_SPI = false := id rfl
@[simp] theorem Reg.isConf_VT_CTL : Reg.isConf .VT_CTL = false := id rfl
@[simp] theorem Reg.isConf_VT_STAT : Reg.isConf .VT_STAT = false := id rfl
@[simp] theorem Reg.isConf_VT_HEAD : Reg.isConf .VT_HEAD = false := id rfl
@[simp] theorem Reg.isConf_VT_TAIL : Reg.isConf .VT_TAIL = false := id rfl
@[simp] theorem Reg.isConf_VT_QUEUE : Reg.isConf .VT_QUEUE = false := id rfl
@[simp] theorem Reg.isConf_VT_CCTL : Reg.isConf .VT_CCTL = false := id rfl
@[simp] theorem Reg.isConf_VT_CSTAT : Reg.isConf .VT_CSTAT = false := id rfl
@[simp] theorem Reg.isConf_BT_SRAM : Reg.isConf .BT_SRAM = false := id rfl
@[simp] theorem Reg.isConf_BT_SRAMT : Reg.isConf .BT_SRAMT = false := id rfl
@[simp] theorem Reg.isConf_BT_MRAM : Reg.isConf .BT_MRAM = false := id rfl
@[simp] theorem Reg.isConf_BT_MRAMT : Reg.isConf .BT_MRAMT = false := id rfl
@[simp] theorem Reg.isConf_BT_FAIL0 : Reg.isConf .BT_FAIL0 = false := id rfl
@[simp] theorem Reg.isConf_BT_FAIL1 : Reg.isConf .BT_FAIL1 = false := id rfl
@[simp] theorem Reg.isConf_BT_REPAIR : Reg.isConf .BT_REPAIR = false := id rfl
@[simp] theorem Reg.isConf_BT_REF : Reg.isConf .BT_REF = false := id rfl
@[simp] theorem Reg.isConf_BT_REFLIM : Reg.isConf .BT_REFLIM = false := id rfl
@[simp] theorem Reg.isConf_TS_MAX : Reg.isConf .TS_MAX = false := id rfl
@[simp] theorem Reg.isConf_TS_STAT : Reg.isConf .TS_STAT = false := id rfl
@[simp] theorem Reg.isConf_TS_BAND : Reg.isConf .TS_BAND = false := id rfl
@[simp] theorem Reg.isConf_TS_HK : Reg.isConf .TS_HK = false := id rfl
@[simp] theorem Reg.isConf_LN_STAT : Reg.isConf .LN_STAT = false := id rfl
@[simp] theorem Reg.isConf_LN_POS : Reg.isConf .LN_POS = false := id rfl
@[simp] theorem Reg.isConf_LN_ADOPT : Reg.isConf .LN_ADOPT = false := id rfl
@[simp] theorem Reg.isConf_LN_CNT : Reg.isConf .LN_CNT = false := id rfl
@[simp] theorem Reg.isConf_LN_RES0 : Reg.isConf .LN_RES0 = false := id rfl
@[simp] theorem Reg.isConf_LN_RES1 : Reg.isConf .LN_RES1 = false := id rfl
@[simp] theorem Reg.isConf_LN_RES2 : Reg.isConf .LN_RES2 = false := id rfl
@[simp] theorem Reg.isConf_LN_RES3 : Reg.isConf .LN_RES3 = false := id rfl
@[simp] theorem Reg.isConf_LN_KBASE : Reg.isConf .LN_KBASE = false := id rfl
@[simp] theorem Reg.isConf_LN_CALCTL : Reg.isConf .LN_CALCTL = false := id rfl
@[simp] theorem Reg.isConf_LN_CALSTAT : Reg.isConf .LN_CALSTAT = false := id rfl
@[simp] theorem Reg.isConf_LN_CALSEQ : Reg.isConf .LN_CALSEQ = false := id rfl
@[simp] theorem Reg.isConf_CS_CTL : Reg.isConf .CS_CTL = false := id rfl
@[simp] theorem Reg.isConf_CS_SPARE : Reg.isConf .CS_SPARE = false := id rfl
@[simp] theorem Reg.isConf_CS_SHPROG : Reg.isConf .CS_SHPROG = false := id rfl
@[simp] theorem Reg.isConf_CS_SHCMD : Reg.isConf .CS_SHCMD = false := id rfl
@[simp] theorem Reg.isConf_CS_SHSTAT : Reg.isConf .CS_SHSTAT = false := id rfl


@[simp] theorem State.conf_ite {c : Prop} [Decidable c] {a b : State} :
    State.conf (if c then a else b) = if c then State.conf a else State.conf b := apply_ite State.conf c a b

@[simp] theorem State.conf_each {α s} {l : List α} {f} (hf : ∀ x t, State.conf (f x t) = State.conf t) :
    State.conf (State.each s l f) = State.conf s := by
  unfold State.each
  induction l generalizing s with
  | nil => rfl
  | cons x l ih => exact (ih (s := f x s)).trans (hf x s)

theorem foldl_conf {α} {l : List α} {f : State → α → State} (hf : ∀ t x, State.conf (f t x) = State.conf t) {s} :
    State.conf (l.foldl f s) = State.conf s := by
  induction l generalizing s with
  | nil => rfl
  | cons x l ih => exact (ih (s := f s x)).trans (hf s x)

/-! Machine/Ops.lean -/

@[simp] theorem State.fset_conf {s f v} (h : Reg.isConf f.reg = false) : State.conf (State.fset s f v) = State.conf s := by
  unfold State.fset; simp [State.conf_mk, State.conf_fold, h]
@[simp] theorem State.fsetS_conf {s f v} (h : Reg.isConf f.reg = false) : State.conf (State.fsetS s f v) = State.conf s := by
  unfold State.fsetS; simp [State.conf_mk, State.conf_fold, h]
@[simp] theorem State.setFlag_conf {s f v} (h : Reg.isConf f.reg = false) : State.conf (State.setFlag s f v) = State.conf s := by
  unfold State.setFlag; simp [State.conf_mk, State.conf_fold, h]
@[simp] theorem State.incSat_conf {s f} (h : Reg.isConf f.reg = false) : State.conf (State.incSat s f) = State.conf s := by
  unfold State.incSat; simp [State.conf_mk, State.conf_fold, h]
@[simp] theorem State.incWrap_conf {s f} (h : Reg.isConf f.reg = false) : State.conf (State.incWrap s f) = State.conf s := by
  unfold State.incWrap; simp [State.conf_mk, State.conf_fold, h]
@[simp] theorem State.setWord64_conf {s lo hi v} (h : Reg.isConf lo = false) (h2 : Reg.isConf hi = false) : State.conf (State.setWord64 s lo hi v) = State.conf s := by
  unfold State.setWord64; simp [State.conf_mk, State.conf_fold, h, h2]
@[simp] theorem State.putMemWord_conf {s a w} : State.conf (State.putMemWord s a w) = State.conf s := by
  unfold State.putMemWord; simp (maxDischargeDepth := 60) [State.conf_mk, State.conf_fold, *]
@[simp] theorem State.setCh_conf {s n c} : State.conf (State.setCh s n c) = State.conf s := by
  unfold State.setCh; simp (maxDischargeDepth := 60) [State.conf_mk, State.conf_fold, *]
@[simp] theorem State.modCh_conf {s n f} : State.conf (State.modCh s n f) = State.conf s := by
  unfold State.modCh; simp (maxDischargeDepth := 60) [State.conf_mk, State.conf_fold, *]
@[simp] theorem State.modM_conf {s n f} : State.conf (State.modM s n f) = State.conf s := by
  unfold State.modM; simp (maxDischargeDepth := 60) [State.conf_mk, State.conf_fold, *]
@[simp] theorem State.modL_conf {s n f} : State.conf (State.modL s n f) = State.conf s := by
  unfold State.modL; simp (maxDischargeDepth := 60) [State.conf_mk, State.conf_fold, *]
@[simp] theorem State.modX_conf {s n f} : State.conf (State.modX s n f) = State.conf s := by
  unfold State.modX; simp (maxDischargeDepth := 60) [State.conf_mk, State.conf_fold, *]
@[simp] theorem State.modK_conf {s n f} : State.conf (State.modK s n f) = State.conf s := by
  unfold State.modK; simp (maxDischargeDepth := 60) [State.conf_mk, State.conf_fold, *]
@[simp] theorem State.modP_conf {s n f} : State.conf (State.modP s n f) = State.conf s := by
  unfold State.modP; simp (maxDischargeDepth := 60) [State.conf_mk, State.conf_fold, *]
@[simp] theorem State.modC_conf {s n f} : State.conf (State.modC s n f) = State.conf s := by
  unfold State.modC; simp (maxDischargeDepth := 60) [State.conf_mk, State.conf_fold, *]
@[simp] theorem State.fresh_conf {s} : State.conf (State.fresh s) = State.conf s := by
  unfold State.fresh; simp (maxDischargeDepth := 60) [State.conf_mk, State.conf_fold, *]
@[simp] theorem State.freshN_conf {s k} : State.conf (State.freshN s k) = State.conf s := by
  unfold State.freshN; simp (maxDischargeDepth := 60) [State.conf_mk, State.conf_fold, *]
@[simp] theorem State.reading_conf {s f signed x k} (h : Reg.isConf f.reg = false) : State.conf (State.reading s f signed x k) = State.conf s := by
  unfold State.reading; (repeat' split) <;> simp [State.conf_mk, State.conf_fold, h]
@[simp] theorem State.answer_conf {s st d} : State.conf (State.answer s st d) = State.conf s := by
  unfold State.answer; simp (maxDischargeDepth := 60) [State.conf_mk, State.conf_fold, *]

/-! Machine/Access.lean -/

@[simp] theorem State.writeReg_conf {s r v} (h : Reg.isConf r = false) : State.conf (State.writeReg s r v) = State.conf s := by
  unfold State.writeReg; simp [State.conf_mk, State.conf_fold, h]

/-! Machine/Events.lean -/

@[simp] theorem State.atticPut_conf {s o} : State.conf (State.atticPut s o) = State.conf s := by
  unfold State.atticPut; dsimp only; (repeat' split) <;> simp +contextual (maxDischargeDepth := 60) [State.conf_mk, State.conf_fold, *]
@[simp] theorem State.vaultPut_conf {s r} : State.conf (State.vaultPut s r).1 = State.conf s := by
  unfold State.vaultPut; (repeat' split) <;> simp (maxDischargeDepth := 60) [State.conf_mk, State.conf_fold, *]
@[simp] theorem State.setSessAt_conf {s k x} : State.conf (State.setSessAt s k x) = State.conf s := by
  unfold State.setSessAt; (repeat' split) <;> simp (maxDischargeDepth := 60) [State.conf_mk, State.conf_fold, *]
@[simp] theorem State.sessEvent_conf {s o k} : State.conf (State.sessEvent s o k) = State.conf s := by
  unfold State.sessEvent; simp (maxDischargeDepth := 60) [State.conf_mk, State.conf_fold, *]
@[simp] theorem State.notifyPut_conf {s o} : State.conf (State.notifyPut s o) = State.conf s := by
  unfold State.notifyPut; simp (maxDischargeDepth := 60) [State.conf_mk, State.conf_fold, *]
@[simp] theorem State.recordOcc_conf {s o} : State.conf (State.recordOcc s o).1 = State.conf s := by
  unfold State.recordOcc; (repeat' split) <;> simp (maxDischargeDepth := 60) [State.conf_mk, State.conf_fold, *]
@[simp] theorem State.routeOne_conf {s o} : State.conf (State.routeOne s o).1 = State.conf s := by
  unfold State.routeOne
  extract_lets v0 v1
  clear_value v0
  have h_v1 : State.conf v1 = State.conf s := by subst v1; simp (maxDischargeDepth := 60) [State.conf_mk, State.conf_fold, *]
  clear_value v1
  ((repeat' split) <;> (try extract_lets) <;> simp (maxDischargeDepth := 60) +zetaDelta [State.conf_mk, State.conf_fold, *])
@[simp] theorem State.cellarTrigger_conf {s cause stamp evNum} : State.conf (State.cellarTrigger s cause stamp evNum).1 = State.conf s := by
  unfold State.cellarTrigger; (repeat' split) <;> simp (maxDischargeDepth := 60) [State.conf_mk, State.conf_fold, *]
@[simp] theorem State.route_conf {s o} : State.conf (State.route s o) = State.conf s := by
  unfold State.route; simp (maxDischargeDepth := 60) [State.conf_mk, State.conf_fold, *]
@[simp] theorem State.deepEvent_conf {s sev} : State.conf (State.deepEvent s sev) = State.conf s := by
  unfold State.deepEvent; simp (maxDischargeDepth := 60) [State.conf_mk, State.conf_fold, *]
@[simp] theorem State.raiseOcc_conf {s o} : State.conf (State.raiseOcc s o) = State.conf s := by
  unfold State.raiseOcc; simp (maxDischargeDepth := 60) [State.conf_mk, State.conf_fold, *]
@[simp] theorem State.raise_conf {s num sev payload} : State.conf (State.raise s num sev payload) = State.conf s := by
  unfold State.raise; simp (maxDischargeDepth := 60) [State.conf_mk, State.conf_fold, *]
@[simp] theorem State.raiseReq_conf {s num sev payload} : State.conf (State.raiseReq s num sev payload) = State.conf s := by
  unfold State.raiseReq; simp (maxDischargeDepth := 60) [State.conf_mk, State.conf_fold, *]
@[simp] theorem State.record_conf {s typ num sev stamp payload} : State.conf (State.record s typ num sev stamp payload) = State.conf s := by
  unfold State.record; simp (maxDischargeDepth := 60) [State.conf_mk, State.conf_fold, *]
@[simp] theorem State.trigger_conf {s cause} : State.conf (State.trigger s cause) = State.conf s := by
  unfold State.trigger; simp (maxDischargeDepth := 60) [State.conf_mk, State.conf_fold, *]

/-! Machine/Measure.lean -/

@[simp] theorem State.putEntry_conf {s a e} : State.conf (State.putEntry s a e) = State.conf s := by
  unfold State.putEntry; simp (maxDischargeDepth := 60) [State.conf_mk, State.conf_fold, *]
@[simp] theorem State.rangeDecide_conf {s n i ovr} : State.conf (State.rangeDecide s n i ovr) = State.conf s := by
  unfold State.rangeDecide; dsimp only; (repeat' split) <;> simp +contextual (maxDischargeDepth := 60) [State.conf_mk, State.conf_fold, *]
@[simp] theorem State.rangeApply_conf {s n} : State.conf (State.rangeApply s n) = State.conf s := by
  unfold State.rangeApply; (repeat' split) <;> simp (maxDischargeDepth := 60) [State.conf_mk, State.conf_fold, *]
@[simp] theorem State.overload_conf {s n volt cur} : State.conf (State.overload s n volt cur) = State.conf s := by
  unfold State.overload
  extract_lets v0
  have h_v0 : State.conf v0 = State.conf s := by subst v0; simp (maxDischargeDepth := 60) [State.conf_mk, State.conf_fold, *]
  clear_value v0
  simp (maxDischargeDepth := 60) [State.conf_mk, State.conf_fold, *]
@[simp] theorem State.overloadRange_conf {s n} : State.conf (State.overloadRange s n) = State.conf s := by
  unfold State.overloadRange; (repeat' split) <;> simp (maxDischargeDepth := 60) [State.conf_mk, State.conf_fold, *]
@[simp] theorem State.chanOverload_conf {s n volt cur} : State.conf (State.chanOverload s n volt cur) = State.conf s := by
  unfold State.chanOverload
  extract_lets v0
  have h_v0 : State.conf v0 = State.conf s := by subst v0; simp (maxDischargeDepth := 60) [State.conf_mk, State.conf_fold, *]
  clear_value v0
  simp (maxDischargeDepth := 60) [State.conf_mk, State.conf_fold, *]
@[simp] theorem State.laneOverload_conf {s volt cur} : State.conf (State.laneOverload s volt cur) = State.conf s := by
  unfold State.laneOverload; simp (maxDischargeDepth := 60) [State.conf_mk, State.conf_fold, *]
@[simp] theorem State.calActivate_conf {s} : State.conf (State.calActivate s) = State.conf s := by
  unfold State.calActivate; simp (maxDischargeDepth := 60) [State.conf_mk, State.conf_fold, *]
@[simp] theorem State.calMirror_conf {s} : State.conf (State.calMirror s) = State.conf s := by
  unfold State.calMirror; simp (maxDischargeDepth := 60) [State.conf_mk, State.conf_fold, *]
@[simp] theorem State.calCopy_conf {s} : State.conf (State.calCopy s) = State.conf s := by
  unfold State.calCopy; simp (maxDischargeDepth := 60) [State.conf_mk, State.conf_fold, *]
@[simp] theorem State.calSwap_conf {s} : State.conf (State.calSwap s) = State.conf s := by
  unfold State.calSwap; simp (maxDischargeDepth := 60) [State.conf_mk, State.conf_fold, *]
@[simp] theorem State.calBoundary_conf {s} : State.conf (State.calBoundary s) = State.conf s := by
  unfold State.calBoundary; simp (maxDischargeDepth := 60) [State.conf_mk, State.conf_fold, *]
@[simp] theorem State.shadowWrite_conf {s addr val} : State.conf (State.shadowWrite s addr val) = State.conf s := by
  unfold State.shadowWrite
  split
  · simp (maxDischargeDepth := 60) [State.conf_mk, State.conf_fold, *]
  · split
    simp (maxDischargeDepth := 60) [State.conf_mk, State.conf_fold, *]

/-! Machine/Channel.lean -/

@[simp] theorem State.queueItem_conf {s n it} : State.conf (State.queueItem s n it) = State.conf s := by
  unfold State.queueItem; simp (maxDischargeDepth := 60) [State.conf_mk, State.conf_fold, *]
@[simp] theorem State.shelfItem_conf {s it} : State.conf (State.shelfItem s it) = State.conf s := by
  unfold State.shelfItem; simp (maxDischargeDepth := 60) [State.conf_mk, State.conf_fold, *]
@[simp] theorem State.metricEntry_conf {s n kind seq stamp a b c d e} : State.conf (State.metricEntry s n kind seq stamp a b c d e) = State.conf s := by
  unfold State.metricEntry; simp (maxDischargeDepth := 60) [State.conf_mk, State.conf_fold, *]
@[simp] theorem State.ocvPost_conf {s n} : State.conf (State.ocvPost s n) = State.conf s := by
  unfold State.ocvPost
  extract_lets v0 v1 v2
  clear_value v0
  clear_value v1
  have h_v2 : State.conf v2 = State.conf s := by subst v2; simp (maxDischargeDepth := 60) [State.conf_mk, State.conf_fold, *]
  clear_value v2
  simp (maxDischargeDepth := 60) [State.conf_mk, State.conf_fold, *]
@[simp] theorem State.setTrec_conf {s n bs} : State.conf (State.setTrec s n bs) = State.conf s := by
  unfold State.setTrec; simp (maxDischargeDepth := 60) [State.conf_mk, State.conf_fold, *]
@[simp] theorem State.putRecord_conf {s n body term close} : State.conf (State.putRecord s n body term close) = State.conf s := by
  unfold State.putRecord
  extract_lets v0 v1 v2 v3
  clear_value v0
  clear_value v1
  have h_v2 : State.conf v2 = State.conf s := by subst v2; simp (maxDischargeDepth := 60) [State.conf_mk, State.conf_fold, *]
  clear_value v2
  have h_v3 : State.conf v3 = State.conf s := by subst v3; simp (maxDischargeDepth := 60) [State.conf_mk, State.conf_fold, *]
  clear_value v3
  simp (maxDischargeDepth := 60) [State.conf_mk, State.conf_fold, *]
@[simp] theorem State.eisAbandon_conf {s n} : State.conf (State.eisAbandon s n) = State.conf s := by
  unfold State.eisAbandon; (repeat' split) <;> simp (maxDischargeDepth := 60) [State.conf_mk, State.conf_fold, *]
@[simp] theorem State.closeStep_conf {s n term src sat tm close} : State.conf (State.closeStep s n term src sat tm close) = State.conf s := by
  unfold State.closeStep; (repeat' split) <;> simp (maxDischargeDepth := 60) [State.conf_mk, State.conf_fold, *]
@[simp] theorem State.latchBeside_conf {s n bit} : State.conf (State.latchBeside s n bit) = State.conf s := by
  unfold State.latchBeside
  extract_lets v0
  have h_v0 : State.conf v0 = State.conf s := by subst v0; simp (maxDischargeDepth := 60) [State.conf_mk, State.conf_fold, *]
  clear_value v0
  simp (maxDischargeDepth := 60) [State.conf_mk, State.conf_fold, *]
@[simp] theorem State.latch_conf {s n bit t} : State.conf (State.latch s n bit t) = State.conf s := by
  unfold State.latch; simp (maxDischargeDepth := 60) [State.conf_mk, State.conf_fold, *]
@[simp] theorem State.settleMemb_conf {s l} : State.conf (State.settleMemb s l) = State.conf s := by
  unfold State.settleMemb; simp (maxDischargeDepth := 60) [State.conf_mk, State.conf_fold, *]
@[simp] theorem State.quiet_conf {s n} : State.conf (State.quiet s n) = State.conf s := by
  unfold State.quiet
  extract_lets v0 v1 v2 v3
  have h_v0 : State.conf v0 = State.conf s := by subst v0; simp (maxDischargeDepth := 60) [State.conf_mk, State.conf_fold, *]
  clear_value v0
  have h_v1 : State.conf v1 = State.conf s := by subst v1; simp (maxDischargeDepth := 60) [State.conf_mk, State.conf_fold, *]
  clear_value v1
  have h_v2 : State.conf v2 = State.conf s := by subst v2; simp (maxDischargeDepth := 60) [State.conf_mk, State.conf_fold, *]
  clear_value v2
  have h_v3 : State.conf v3 = State.conf s := by subst v3; simp (maxDischargeDepth := 60) [State.conf_mk, State.conf_fold, *]
  clear_value v3
  simp (maxDischargeDepth := 60) [State.conf_mk, State.conf_fold, *]
@[simp] theorem State.closeNow_conf {s n term src close} : State.conf (State.closeNow s n term src close) = State.conf s := by
  unfold State.closeNow; simp (maxDischargeDepth := 60) [State.conf_mk, State.conf_fold, *]
@[simp] theorem State.park_conf {s n src close} : State.conf (State.park s n src close) = State.conf s := by
  unfold State.park; simp (maxDischargeDepth := 60) [State.conf_mk, State.conf_fold, *]
@[simp] theorem State.parkMember_conf {s n} : State.conf (State.parkMember s n) = State.conf s := by
  unfold State.parkMember; simp (maxDischargeDepth := 60) [State.conf_mk, State.conf_fold, *]
@[simp] theorem State.parkGang_conf {s n src close} : State.conf (State.parkGang s n src close) = State.conf s := by
  unfold State.parkGang; simp (maxDischargeDepth := 60) [State.conf_mk, State.conf_fold, *]
@[simp] theorem State.latchTrip_conf {s n bits chk t} : State.conf (State.latchTrip s n bits chk t) = State.conf s := by
  unfold State.latchTrip
  extract_lets v0 v1
  have h_v0 : State.conf v0 = State.conf s := by subst v0; simp (maxDischargeDepth := 60) [State.conf_mk, State.conf_fold, *]
  clear_value v0
  have h_v1 : State.conf v1 = State.conf s := by subst v1; simp (maxDischargeDepth := 60) [State.conf_mk, State.conf_fold, *]
  clear_value v1
  simp (maxDischargeDepth := 60) [State.conf_mk, State.conf_fold, *]
@[simp] theorem State.parkTripped_conf {s n} : State.conf (State.parkTripped s n) = State.conf s := by
  unfold State.parkTripped; simp (maxDischargeDepth := 60) [State.conf_mk, State.conf_fold, *]
@[simp] theorem State.trip_conf {s n bits t rest sev} : State.conf (State.trip s n bits t rest sev) = State.conf s := by
  unfold State.trip
  extract_lets v0
  have h_v0 : State.conf v0 = State.conf s := by subst v0; simp (maxDischargeDepth := 60) [State.conf_mk, State.conf_fold, *]
  clear_value v0
  simp (maxDischargeDepth := 60) [State.conf_mk, State.conf_fold, *]
@[simp] theorem State.tripSoft_conf {s n bits} : State.conf (State.tripSoft s n bits) = State.conf s := by
  unfold State.tripSoft; simp (maxDischargeDepth := 60) [State.conf_mk, State.conf_fold, *]
@[simp] theorem State.tripSilent_conf {s n bits t} : State.conf (State.tripSilent s n bits t) = State.conf s := by
  unfold State.tripSilent; simp (maxDischargeDepth := 60) [State.conf_mk, State.conf_fold, *]
@[simp] theorem State.checkFail_conf {s n code} : State.conf (State.checkFail s n code) = State.conf s := by
  unfold State.checkFail
  extract_lets v0 v1 v2
  have h_v0 : State.conf v0 = State.conf s := by subst v0; simp (maxDischargeDepth := 60) [State.conf_mk, State.conf_fold, *]
  clear_value v0
  clear_value v1
  have h_v2 : State.conf v2 = State.conf s := by subst v2; simp (maxDischargeDepth := 60) [State.conf_mk, State.conf_fold, *]
  clear_value v2
  simp (maxDischargeDepth := 60) [State.conf_mk, State.conf_fold, *]
@[simp] theorem State.enterStop_conf {s n src sat tm} : State.conf (State.enterStop s n src sat tm) = State.conf s := by
  unfold State.enterStop
  extract_lets v0 v1 v2
  have h_v0 : State.conf v0 = State.conf s := by subst v0; simp (maxDischargeDepth := 60) [State.conf_mk, State.conf_fold, *]
  clear_value v0
  have h_v1 : State.conf v1 = State.conf s := by subst v1; simp (maxDischargeDepth := 60) [State.conf_mk, State.conf_fold, *]
  clear_value v1
  have h_v2 : State.conf v2 = State.conf s := by subst v2; simp (maxDischargeDepth := 60) [State.conf_mk, State.conf_fold, *]
  clear_value v2
  simp (maxDischargeDepth := 60) [State.conf_mk, State.conf_fold, *]
@[simp] theorem State.openSwitch_conf {s n} : State.conf (State.openSwitch s n) = State.conf s := by
  unfold State.openSwitch; simp (maxDischargeDepth := 60) [State.conf_mk, State.conf_fold, *]

/-! Machine/Sequencer.lean -/

@[simp] theorem State.auxMid_conf {s j} : State.conf (State.auxMid s j) = State.conf s := by
  unfold State.auxMid
  extract_lets v0
  have h_v0 : State.conf v0 = State.conf s := by subst v0; simp (maxDischargeDepth := 60) [State.conf_mk, State.conf_fold, *]
  clear_value v0
  simp (maxDischargeDepth := 60) [State.conf_mk, State.conf_fold, *]
@[simp] theorem State.auxOff_conf {s j} : State.conf (State.auxOff s j) = State.conf s := by
  unfold State.auxOff
  extract_lets v0
  have h_v0 : State.conf v0 = State.conf s := by subst v0; simp (maxDischargeDepth := 60) [State.conf_mk, State.conf_fold, *]
  clear_value v0
  simp (maxDischargeDepth := 60) [State.conf_mk, State.conf_fold, *]
@[simp] theorem State.auxStart_conf {s j mv} : State.conf (State.auxStart s j mv) = State.conf s := by
  unfold State.auxStart
  extract_lets v0
  have h_v0 : State.conf v0 = State.conf s := by subst v0; simp (maxDischargeDepth := 60) [State.conf_mk, State.conf_fold, *]
  clear_value v0
  simp (maxDischargeDepth := 60) [State.conf_mk, State.conf_fold, *]
@[simp] theorem State.auxAsk_conf {s j} : State.conf (State.auxAsk s j) = State.conf s := by
  unfold State.auxAsk; simp (maxDischargeDepth := 60) [State.conf_mk, State.conf_fold, *]
@[simp] theorem State.modSq_conf {s e f} : State.conf (State.modSq s e f) = State.conf s := by
  unfold State.modSq; simp (maxDischargeDepth := 60) [State.conf_mk, State.conf_fold, *]
@[simp] theorem State.railDisable_conf {s e} : State.conf (State.railDisable s e) = State.conf s := by
  unfold State.railDisable; simp (maxDischargeDepth := 60) [State.conf_mk, State.conf_fold, *]
@[simp] theorem State.railTo_conf {s e st} : State.conf (State.railTo s e st) = State.conf s := by
  unfold State.railTo
  extract_lets v0 v1
  have h_v0 : State.conf v0 = State.conf s := by subst v0; simp (maxDischargeDepth := 60) [State.conf_mk, State.conf_fold, *]
  clear_value v0
  have h_v1 : State.conf v1 = State.conf s := by subst v1; simp (maxDischargeDepth := 60) [State.conf_mk, State.conf_fold, *]
  clear_value v1
  simp (maxDischargeDepth := 60) [State.conf_mk, State.conf_fold, *]
@[simp] theorem State.railOff_conf {s e} : State.conf (State.railOff s e) = State.conf s := by
  unfold State.railOff; simp (maxDischargeDepth := 60) [State.conf_mk, State.conf_fold, *]
@[simp] theorem State.railStart_conf {s e} : State.conf (State.railStart s e) = State.conf s := by
  unfold State.railStart
  extract_lets v0 v1
  clear_value v0
  have h_v1 : State.conf v1 = State.conf s := by subst v1; simp (maxDischargeDepth := 60) [State.conf_mk, State.conf_fold, *]
  clear_value v1
  ((repeat' split) <;> (try extract_lets) <;> simp (maxDischargeDepth := 60) +zetaDelta [State.conf_mk, State.conf_fold, *])
@[simp] theorem State.railTurn_conf {s e} : State.conf (State.railTurn s e) = State.conf s := by
  unfold State.railTurn; simp (maxDischargeDepth := 60) [State.conf_mk, State.conf_fold, *]
@[simp] theorem State.railsDone_conf {s} : State.conf (State.railsDone s) = State.conf s := by
  unfold State.railsDone; simp (maxDischargeDepth := 60) [State.conf_mk, State.conf_fold, *]
@[simp] theorem State.railSweep_conf {s} : State.conf (State.railSweep s) = State.conf s := by
  unfold State.railSweep
  rw [State.railsDone_conf]
  exact foldl_conf (fun t _ => by simp [State.conf_mk, State.conf_fold])
@[simp] theorem State.railAsk_conf {s e wait} : State.conf (State.railAsk s e wait) = State.conf s := by
  unfold State.railAsk; simp (maxDischargeDepth := 60) [State.conf_mk, State.conf_fold, *]
@[simp] theorem State.railsSafe_conf {s} : State.conf (State.railsSafe s) = State.conf s := by
  unfold State.railsSafe; simp (maxDischargeDepth := 60) [State.conf_mk, State.conf_fold, *]

/-! Machine/Shelf.lean -/

@[simp] theorem State.stopShelfProgram_conf {s} : State.conf (State.stopShelfProgram s) = State.conf s := by
  unfold State.stopShelfProgram
  extract_lets v0
  have h_v0 : State.conf v0 = State.conf s := by subst v0; simp (maxDischargeDepth := 60) [State.conf_mk, State.conf_fold, *]
  clear_value v0
  simp (maxDischargeDepth := 60) [State.conf_mk, State.conf_fold, *]
@[simp] theorem State.parkForSafe_conf {s n} : State.conf (State.parkForSafe s n) = State.conf s := by
  unfold State.parkForSafe; simp (maxDischargeDepth := 60) [State.conf_mk, State.conf_fold, *]
@[simp] theorem State.freezeHalt_conf {s} : State.conf (State.freezeHalt s) = State.conf s := by
  unfold State.freezeHalt; (repeat' split) <;> simp (maxDischargeDepth := 60) [State.conf_mk, State.conf_fold, *]
@[simp] theorem State.auxSafe_conf {s} : State.conf (State.auxSafe s) = State.conf s := by
  unfold State.auxSafe
  extract_lets v0
  have h_v0 : State.conf v0 = State.conf s := by subst v0; simp (maxDischargeDepth := 60) [State.conf_mk, State.conf_fold, *]
  clear_value v0
  simp (maxDischargeDepth := 60) [State.conf_mk, State.conf_fold, *]
@[simp] theorem State.safeEntry_conf {s cause} : State.conf (State.safeEntry s cause) = State.conf s := by
  unfold State.safeEntry
  extract_lets v0 v1 v2 v3 v4 v5 v6
  clear_value v0
  have h_v1 : State.conf v1 = State.conf s := by subst v1; simp (maxDischargeDepth := 60) [State.conf_mk, State.conf_fold, *]
  clear_value v1
  have h_v2 : State.conf v2 = State.conf s := by subst v2; simp (maxDischargeDepth := 60) [State.conf_mk, State.conf_fold, *]
  clear_value v2
  have h_v3 : State.conf v3 = State.conf s := by subst v3; simp (maxDischargeDepth := 60) [State.conf_mk, State.conf_fold, *]
  clear_value v3
  have h_v4 : State.conf v4 = State.conf s := by subst v4; simp (maxDischargeDepth := 60) [State.conf_mk, State.conf_fold, *]
  clear_value v4
  have h_v5 : State.conf v5 = State.conf s := by subst v5; simp (maxDischargeDepth := 60) [State.conf_mk, State.conf_fold, *]
  clear_value v5
  have h_v6 : State.conf v6 = State.conf s := by subst v6; simp (maxDischargeDepth := 60) [State.conf_mk, State.conf_fold, *]
  clear_value v6
  simp (maxDischargeDepth := 60) [State.conf_mk, State.conf_fold, *]
@[simp] theorem State.beginAgingExit_conf {s} : State.conf (State.beginAgingExit s) = State.conf s := by
  unfold State.beginAgingExit; (repeat' split) <;> simp (maxDischargeDepth := 60) [State.conf_mk, State.conf_fold, *]
@[simp] theorem State.beginWake_conf {s} : State.conf (State.beginWake s) = State.conf s := by
  unfold State.beginWake; (repeat' split) <;> simp (maxDischargeDepth := 60) [State.conf_mk, State.conf_fold, *]
@[simp] theorem State.leaveSleep_conf {s} : State.conf (State.leaveSleep s) = State.conf s := by
  unfold State.leaveSleep; simp (maxDischargeDepth := 60) [State.conf_mk, State.conf_fold, *]
@[simp] theorem State.enterSafe_conf {s cause} : State.conf (State.enterSafe s cause) = State.conf s := by
  unfold State.enterSafe; simp (maxDischargeDepth := 60) [State.conf_mk, State.conf_fold, *]
@[simp] theorem State.wdtArm_conf {s} : State.conf (State.wdtArm s) = State.conf s := by
  unfold State.wdtArm; simp (maxDischargeDepth := 60) [State.conf_mk, State.conf_fold, *]
@[simp] theorem State.judgeClr_conf {s} : State.conf (State.judgeClr s) = State.conf s := by
  unfold State.judgeClr; simp (maxDischargeDepth := 60) [State.conf_mk, State.conf_fold, *]
@[simp] theorem State.haltChannels_conf {s} : State.conf (State.haltChannels s) = State.conf s := by
  unfold State.haltChannels
  extract_lets v0
  have h_v0 : State.conf v0 = State.conf s := by subst v0; simp (maxDischargeDepth := 60) [State.conf_mk, State.conf_fold, *]
  clear_value v0
  simp (maxDischargeDepth := 60) [State.conf_mk, State.conf_fold, *]
@[simp] theorem State.lockWrite_conf {s by_ key} : State.conf (State.lockWrite s by_ key) = State.conf s := by
  unfold State.lockWrite; simp (maxDischargeDepth := 60) [State.conf_mk, State.conf_fold, *]
@[simp] theorem State.lockClose_conf {s} : State.conf (State.lockClose s) = State.conf s := by
  unfold State.lockClose; simp (maxDischargeDepth := 60) [State.conf_mk, State.conf_fold, *]

/-! Machine/Convert.lean -/

@[simp] theorem State.fuseNote_conf {s n j i} : State.conf (State.fuseNote s n j i) = State.conf s := by
  unfold State.fuseNote; simp (maxDischargeDepth := 60) [State.conf_mk, State.conf_fold, *]
@[simp] theorem State.fuseMark_conf {s n i} : State.conf (State.fuseMark s n i) = State.conf s := by
  unfold State.fuseMark; simp (maxDischargeDepth := 60) [State.conf_mk, State.conf_fold, *]
@[simp] theorem State.shedCount_conf {s n share} : State.conf (State.shedCount s n share) = State.conf s := by
  unfold State.shedCount; dsimp only; (repeat' split) <;> simp +contextual (maxDischargeDepth := 60) [State.conf_mk, State.conf_fold, *]
@[simp] theorem State.memberLoop_conf {s n share eis engaged} : State.conf (State.memberLoop s n share eis engaged) = State.conf s := by
  unfold State.memberLoop; simp (maxDischargeDepth := 60) [State.conf_mk, State.conf_fold, *]
@[simp] theorem State.refSlot_conf {s n} : State.conf (State.refSlot s n) = State.conf s := by
  unfold State.refSlot
  extract_lets v0 v1 v2 v3 v4 v5 v6 v7 v8 v9 v10 v11 v12 v13 v14 v15 v16 v17 v18 v19
  clear_value v0
  clear_value v1
  clear_value v2
  clear_value v3
  clear_value v4
  clear_value v5
  clear_value v6
  clear_value v7
  clear_value v8
  have h_v9 : State.conf v9 = State.conf s := by subst v9; simp (maxDischargeDepth := 60) [State.conf_mk, State.conf_fold, *]
  clear_value v9
  clear_value v10
  clear_value v11
  clear_value v12
  clear_value v13
  have h_v14 : State.conf v14 = State.conf s := by subst v14; simp (maxDischargeDepth := 60) [State.conf_mk, State.conf_fold, *]
  clear_value v14
  have h_v15 : State.conf v15 = State.conf s := by subst v15; simp (maxDischargeDepth := 60) [State.conf_mk, State.conf_fold, *]
  clear_value v15
  have h_v16 : State.conf v16 = State.conf s := by subst v16; simp (maxDischargeDepth := 60) [State.conf_mk, State.conf_fold, *]
  clear_value v16
  have h_v17 : State.conf v17 = State.conf s := by subst v17; simp (maxDischargeDepth := 60) [State.conf_mk, State.conf_fold, *]
  clear_value v17
  clear_value v18
  have h_v19 : State.conf v19 = State.conf s := by subst v19; simp (maxDischargeDepth := 60) [State.conf_mk, State.conf_fold, *]
  clear_value v19
  simp (maxDischargeDepth := 60) [State.conf_mk, State.conf_fold, *]
@[simp] theorem State.restQuiet_conf {s n} : State.conf (State.restQuiet s n) = State.conf s := by
  unfold State.restQuiet; simp (maxDischargeDepth := 60) [State.conf_mk, State.conf_fold, *]
@[simp] theorem State.preSlot_conf {s n} : State.conf (State.preSlot s n) = State.conf s := by
  unfold State.preSlot; simp (maxDischargeDepth := 60) [State.conf_mk, State.conf_fold, *]
@[simp] theorem State.loopSlot_conf {s n} : State.conf (State.loopSlot s n) = State.conf s := by
  unfold State.loopSlot; simp (maxDischargeDepth := 60) [State.conf_mk, State.conf_fold, *]
@[simp] theorem State.bumpless_conf {s n} : State.conf (State.bumpless s n) = State.conf s := by
  unfold State.bumpless; simp (maxDischargeDepth := 60) [State.conf_mk, State.conf_fold, *]
@[simp] theorem State.ctClamp_conf {s n} : State.conf (State.ctClamp s n) = State.conf s := by
  unfold State.ctClamp; simp (maxDischargeDepth := 60) [State.conf_mk, State.conf_fold, *]
@[simp] theorem State.loadPhase_conf {s n k} : State.conf (State.loadPhase s n k) = State.conf s := by
  unfold State.loadPhase
  extract_lets v0 v1 v2 v3
  clear_value v0
  clear_value v1
  have h_v2 : State.conf v2 = State.conf s := by subst v2; simp (maxDischargeDepth := 60) [State.conf_mk, State.conf_fold, *]
  clear_value v2
  clear_value v3
  simp (maxDischargeDepth := 60) [State.conf_mk, State.conf_fold, *]
@[simp] theorem State.shedPhase_conf {s n phB} : State.conf (State.shedPhase s n phB) = State.conf s := by
  unfold State.shedPhase; simp (maxDischargeDepth := 60) [State.conf_mk, State.conf_fold, *]
@[simp] theorem State.busCount_conf {s} : State.conf (State.busCount s) = State.conf s := by
  unfold State.busCount; simp (maxDischargeDepth := 60) [State.conf_mk, State.conf_fold, *]
@[simp] theorem State.syncEdge_conf {s at_ dt} : State.conf (State.syncEdge s at_ dt) = State.conf s := by
  unfold State.syncEdge; simp (maxDischargeDepth := 60) [State.conf_mk, State.conf_fold, *]
@[simp] theorem State.syncFollow_conf {s} : State.conf (State.syncFollow s) = State.conf s := by
  unfold State.syncFollow; simp (maxDischargeDepth := 60) [State.conf_mk, State.conf_fold, *]
@[simp] theorem State.periodBoundary_conf {s0} : State.conf (State.periodBoundary s0) = State.conf s0 := by
  unfold State.periodBoundary; simp (maxDischargeDepth := 60) [State.conf_mk, State.conf_fold, *]
@[simp] theorem State.gangDissolve_conf {s n} : State.conf (State.gangDissolve s n) = State.conf s := by
  unfold State.gangDissolve
  extract_lets v0
  have h_v0 : State.conf v0 = State.conf s := by subst v0; simp (maxDischargeDepth := 60) [State.conf_mk, State.conf_fold, *]
  clear_value v0
  simp (maxDischargeDepth := 60) [State.conf_mk, State.conf_fold, *]
@[simp] theorem State.leaveParked_conf {s j} : State.conf (State.leaveParked s j) = State.conf s := by
  unfold State.leaveParked; simp (maxDischargeDepth := 60) [State.conf_mk, State.conf_fold, *]
@[simp] theorem State.gangForm_conf {s n code} : State.conf (State.gangForm s n code) = State.conf s := by
  unfold State.gangForm
  extract_lets v0
  have h_v0 : State.conf v0 = State.conf s := by subst v0; simp (maxDischargeDepth := 60) [State.conf_mk, State.conf_fold, *]
  clear_value v0
  simp (maxDischargeDepth := 60) [State.conf_mk, State.conf_fold, *]
@[simp] theorem State.gangWrite_conf {s n val} : State.conf (State.gangWrite s n val) = State.conf s := by
  unfold State.gangWrite; simp (maxDischargeDepth := 60) [State.conf_mk, State.conf_fold, *]
@[simp] theorem State.gangTake_conf {s n} : State.conf (State.gangTake s n) = State.conf s := by
  unfold State.gangTake; (repeat' split) <;> simp (maxDischargeDepth := 60) [State.conf_mk, State.conf_fold, *]
@[simp] theorem State.engage_conf {s n} : State.conf (State.engage s n) = State.conf s := by
  unfold State.engage; simp (maxDischargeDepth := 60) [State.conf_mk, State.conf_fold, *]
@[simp] theorem State.checkPhase_conf {s n ph} : State.conf (State.checkPhase s n ph) = State.conf s := by
  unfold State.checkPhase; simp (maxDischargeDepth := 60) [State.conf_mk, State.conf_fold, *]
@[simp] theorem State.startPhases_conf {s n} : State.conf (State.startPhases s n) = State.conf s := by
  unfold State.startPhases; simp (maxDischargeDepth := 60) [State.conf_mk, State.conf_fold, *]
@[simp] theorem State.restCheck_conf {s n} : State.conf (State.restCheck s n) = State.conf s := by
  unfold State.restCheck
  extract_lets v0
  have h_v0 : State.conf v0 = State.conf s := by subst v0; simp (maxDischargeDepth := 60) [State.conf_mk, State.conf_fold, *]
  clear_value v0
  simp (maxDischargeDepth := 60) [State.conf_mk, State.conf_fold, *]
@[simp] theorem State.leaveRest_conf {s n} : State.conf (State.leaveRest s n) = State.conf s := by
  unfold State.leaveRest; simp (maxDischargeDepth := 60) [State.conf_mk, State.conf_fold, *]
@[simp] theorem State.stepBegins_conf {s n t} : State.conf (State.stepBegins s n t) = State.conf s := by
  unfold State.stepBegins
  extract_lets v0
  have h_v0 : State.conf v0 = State.conf s := by subst v0; simp (maxDischargeDepth := 60) [State.conf_mk, State.conf_fold, *]
  clear_value v0
  simp (maxDischargeDepth := 60) [State.conf_mk, State.conf_fold, *]
@[simp] theorem State.cvStart_conf {s n} : State.conf (State.cvStart s n) = State.conf s := by
  unfold State.cvStart; simp (maxDischargeDepth := 60) [State.conf_mk, State.conf_fold, *]
@[simp] theorem State.startWaiting_conf {s n} : State.conf (State.startWaiting s n) = State.conf s := by
  unfold State.startWaiting; simp (maxDischargeDepth := 60) [State.conf_mk, State.conf_fold, *]

/-! Machine/Feeds.lean -/

@[simp] theorem State.modF_conf {s f g} : State.conf (State.modF s f g) = State.conf s := by
  unfold State.modF; simp (maxDischargeDepth := 60) [State.conf_mk, State.conf_fold, *]
@[simp] theorem State.modSel_conf {s g} : State.conf (State.modSel s g) = State.conf s := by
  unfold State.modSel; simp (maxDischargeDepth := 60) [State.conf_mk, State.conf_fold, *]
@[simp] theorem State.modHu_conf {s g} : State.conf (State.modHu s g) = State.conf s := by
  unfold State.modHu; simp (maxDischargeDepth := 60) [State.conf_mk, State.conf_fold, *]
@[simp] theorem State.setLim_conf {s f on t} : State.conf (State.setLim s f on t) = State.conf s := by
  unfold State.setLim; simp (maxDischargeDepth := 60) [State.conf_mk, State.conf_fold, *]
@[simp] theorem State.setServ_conf {s} : State.conf (State.setServ s) = State.conf s := by
  unfold State.setServ; simp (maxDischargeDepth := 60) [State.conf_mk, State.conf_fold, *]
@[simp] theorem State.capEnd_conf {s f last} : State.conf (State.capEnd s f last) = State.conf s := by
  unfold State.capEnd; simp (maxDischargeDepth := 60) [State.conf_mk, State.conf_fold, *]
@[simp] theorem State.capAbandon_conf {s f} : State.conf (State.capAbandon s f) = State.conf s := by
  unfold State.capAbandon; (repeat' split) <;> simp (maxDischargeDepth := 60) [State.conf_mk, State.conf_fold, *]
@[simp] theorem State.endChange_conf {s f} : State.conf (State.endChange s f) = State.conf s := by
  unfold State.endChange; simp (maxDischargeDepth := 60) [State.conf_mk, State.conf_fold, *]
@[simp] theorem State.setFeed_conf {s f st} : State.conf (State.setFeed s f st) = State.conf s := by
  unfold State.setFeed; simp (maxDischargeDepth := 60) [State.conf_mk, State.conf_fold, *]
@[simp] theorem State.rideCheck_conf {s} : State.conf (State.rideCheck s) = State.conf s := by
  unfold State.rideCheck; simp (maxDischargeDepth := 60) [State.conf_mk, State.conf_fold, *]
@[simp] theorem State.pickFeed_conf {s f was} : State.conf (State.pickFeed s f was) = State.conf s := by
  unfold State.pickFeed; simp (maxDischargeDepth := 60) [State.conf_mk, State.conf_fold, *]
@[simp] theorem State.deselect_conf {s f} : State.conf (State.deselect s f) = State.conf s := by
  unfold State.deselect; simp (maxDischargeDepth := 60) [State.conf_mk, State.conf_fold, *]
@[simp] theorem State.selectOnly_conf {s f was} : State.conf (State.selectOnly s f was) = State.conf s := by
  unfold State.selectOnly
  extract_lets v0
  have h_v0 : State.conf v0 = State.conf s := by subst v0; simp (maxDischargeDepth := 60) [State.conf_mk, State.conf_fold, *]
  clear_value v0
  simp (maxDischargeDepth := 60) [State.conf_mk, State.conf_fold, *]
@[simp] theorem State.selectAuto_conf {s was} : State.conf (State.selectAuto s was) = State.conf s := by
  unfold State.selectAuto; simp (maxDischargeDepth := 60) [State.conf_mk, State.conf_fold, *]
@[simp] theorem State.feedEval_conf {s was} : State.conf (State.feedEval s was) = State.conf s := by
  unfold State.feedEval; (repeat' split) <;> simp (maxDischargeDepth := 60) [State.conf_mk, State.conf_fold, *]
@[simp] theorem State.feedQual_conf {s f} : State.conf (State.feedQual s f) = State.conf s := by
  unfold State.feedQual; simp (maxDischargeDepth := 60) [State.conf_mk, State.conf_fold, *]
@[simp] theorem State.feedTick_conf {s} : State.conf (State.feedTick s) = State.conf s := by
  unfold State.feedTick
  extract_lets v0
  have h_v0 : State.conf v0 = State.conf s := by subst v0; simp (maxDischargeDepth := 60) [State.conf_mk, State.conf_fold, *]
  clear_value v0
  simp (maxDischargeDepth := 60) [State.conf_mk, State.conf_fold, *]
@[simp] theorem State.faultFeed_conf {s f bit} : State.conf (State.faultFeed s f bit) = State.conf s := by
  unfold State.faultFeed
  extract_lets v0 v1
  clear_value v0
  have h_v1 : State.conf v1 = State.conf s := by subst v1; simp (maxDischargeDepth := 60) [State.conf_mk, State.conf_fold, *]
  clear_value v1
  simp (maxDischargeDepth := 60) [State.conf_mk, State.conf_fold, *]
@[simp] theorem State.bounceFeed_conf {s f} : State.conf (State.bounceFeed s f) = State.conf s := by
  unfold State.bounceFeed
  extract_lets v0 v1 v2 v3
  clear_value v0
  clear_value v1
  have h_v2 : State.conf v2 = State.conf s := by subst v2; simp (maxDischargeDepth := 60) [State.conf_mk, State.conf_fold, *]
  clear_value v2
  have h_v3 : State.conf v3 = State.conf s := by subst v3; simp (maxDischargeDepth := 60) [State.conf_mk, State.conf_fold, *]
  clear_value v3
  simp (maxDischargeDepth := 60) [State.conf_mk, State.conf_fold, *]
@[simp] theorem State.vinLeave_conf {s f} : State.conf (State.vinLeave s f) = State.conf s := by
  unfold State.vinLeave
  extract_lets v0
  have h_v0 : State.conf v0 = State.conf s := by subst v0; simp (maxDischargeDepth := 60) [State.conf_mk, State.conf_fold, *]
  clear_value v0
  simp (maxDischargeDepth := 60) [State.conf_mk, State.conf_fold, *]
@[simp] theorem State.rampIfClear_conf {s f} : State.conf (State.rampIfClear s f) = State.conf s := by
  unfold State.rampIfClear; simp (maxDischargeDepth := 60) [State.conf_mk, State.conf_fold, *]
@[simp] theorem State.feedClear_conf {s f val} : State.conf (State.feedClear s f val) = State.conf s := by
  unfold State.feedClear
  extract_lets v0 v1
  have h_v0 : State.conf v0 = State.conf s := by subst v0; simp (maxDischargeDepth := 60) [State.conf_mk, State.conf_fold, *]
  clear_value v0
  have h_v1 : State.conf v1 = State.conf s := by subst v1; simp (maxDischargeDepth := 60) [State.conf_mk, State.conf_fold, *]
  clear_value v1
  simp (maxDischargeDepth := 60) [State.conf_mk, State.conf_fold, *]
@[simp] theorem State.feedDisable_conf {s f} : State.conf (State.feedDisable s f) = State.conf s := by
  unfold State.feedDisable; simp (maxDischargeDepth := 60) [State.conf_mk, State.conf_fold, *]
@[simp] theorem State.feedSelWrite_conf {s val} : State.conf (State.feedSelWrite s val) = State.conf s := by
  unfold State.feedSelWrite
  extract_lets v0 v1
  clear_value v0
  have h_v1 : State.conf v1 = State.conf s := by subst v1; simp (maxDischargeDepth := 60) [State.conf_mk, State.conf_fold, *]
  clear_value v1
  simp (maxDischargeDepth := 60) [State.conf_mk, State.conf_fold, *]
@[simp] theorem State.capResult_conf {s f c} : State.conf (State.capResult s f c) = State.conf s := by
  unfold State.capResult
  extract_lets v0
  have h_v0 : State.conf v0 = State.conf s := by subst v0; simp (maxDischargeDepth := 60) [State.conf_mk, State.conf_fold, *]
  clear_value v0
  simp (maxDischargeDepth := 60) [State.conf_mk, State.conf_fold, *]
@[simp] theorem State.meterEnergy_conf {s f p} : State.conf (State.meterEnergy s f p) = State.conf s := by
  unfold State.meterEnergy; simp (maxDischargeDepth := 60) [State.conf_mk, State.conf_fold, *]
@[simp] theorem State.meterFeed_conf {s f v i} : State.conf (State.meterFeed s f v i) = State.conf s := by
  unfold State.meterFeed; simp (maxDischargeDepth := 60) [State.conf_mk, State.conf_fold, *]
@[simp] theorem State.meterPublish_conf {s f} : State.conf (State.meterPublish s f) = State.conf s := by
  unfold State.meterPublish
  extract_lets v0 v1
  clear_value v0
  have h_v1 : State.conf v1 = State.conf s := by subst v1; simp (maxDischargeDepth := 60) [State.conf_mk, State.conf_fold, *]
  clear_value v1
  simp (maxDischargeDepth := 60) [State.conf_mk, State.conf_fold, *]
@[simp] theorem State.meterGate_conf {s f vin gs} : State.conf (State.meterGate s f vin gs) = State.conf s := by
  unfold State.meterGate
  extract_lets v0
  have h_v0 : State.conf v0 = State.conf s := by subst v0; simp (maxDischargeDepth := 60) [State.conf_mk, State.conf_fold, *]
  clear_value v0
  simp (maxDischargeDepth := 60) [State.conf_mk, State.conf_fold, *]
@[simp] theorem State.meterTake_conf {s inp} : State.conf (State.meterTake s inp) = State.conf s := by
  unfold State.meterTake
  extract_lets v0 v1 v2 v3
  have h_v0 : State.conf v0 = State.conf s := by subst v0; simp (maxDischargeDepth := 60) [State.conf_mk, State.conf_fold, *]
  clear_value v0
  have h_v1 : State.conf v1 = State.conf s := by subst v1; simp (maxDischargeDepth := 60) [State.conf_mk, State.conf_fold, *]
  clear_value v1
  have h_v2 : State.conf v2 = State.conf s := by subst v2; simp (maxDischargeDepth := 60) [State.conf_mk, State.conf_fold, *]
  clear_value v2
  have h_v3 : State.conf v3 = State.conf s := by subst v3; simp (maxDischargeDepth := 60) [State.conf_mk, State.conf_fold, *]
  clear_value v3
  ((repeat' split) <;> (try extract_lets) <;> simp +zetaDelta +contextual (maxDischargeDepth := 60) [State.conf_mk, State.conf_fold, *])

/-! Machine/Holdup.lean -/

@[simp] theorem State.strapFault_conf {s n v} : State.conf (State.strapFault s n v) = State.conf s := by
  unfold State.strapFault
  extract_lets v0 v1 v2
  have h_v0 : State.conf v0 = State.conf s := by subst v0; simp (maxDischargeDepth := 60) [State.conf_mk, State.conf_fold, *]
  clear_value v0
  have h_v1 : State.conf v1 = State.conf s := by subst v1; ((repeat' split) <;> simp (maxDischargeDepth := 60) [State.conf_mk, State.conf_fold, *])
  clear_value v1
  have h_v2 : State.conf v2 = State.conf s := by subst v2; ((repeat' split) <;> simp (maxDischargeDepth := 60) [State.conf_mk, State.conf_fold, *])
  clear_value v2
  simp (maxDischargeDepth := 60) [State.conf_mk, State.conf_fold, *]
@[simp] theorem State.readStraps_conf {s x} : State.conf (State.readStraps s x) = State.conf s := by
  unfold State.readStraps; dsimp only; (repeat' split) <;> simp +contextual (maxDischargeDepth := 60) [State.conf_mk, State.conf_fold, *]
@[simp] theorem State.haltEntry_conf {s} : State.conf (State.haltEntry s) = State.conf s := by
  unfold State.haltEntry
  extract_lets v0
  have h_v0 : State.conf v0 = State.conf s := by subst v0; simp (maxDischargeDepth := 60) [State.conf_mk, State.conf_fold, *]
  clear_value v0
  simp (maxDischargeDepth := 60) [State.conf_mk, State.conf_fold, *]
@[simp] theorem State.rideEnds_conf {s} : State.conf (State.rideEnds s) = State.conf s := by
  unfold State.rideEnds; simp (maxDischargeDepth := 60) [State.conf_mk, State.conf_fold, *]
@[simp] theorem State.rideBoundary_conf {s} : State.conf (State.rideBoundary s) = State.conf s := by
  unfold State.rideBoundary; simp (maxDischargeDepth := 60) [State.conf_mk, State.conf_fold, *]
@[simp] theorem State.pathOff_conf {s} : State.conf (State.pathOff s) = State.conf s := by
  unfold State.pathOff; simp (maxDischargeDepth := 60) [State.conf_mk, State.conf_fold, *]
@[simp] theorem State.preFail_conf {s} : State.conf (State.preFail s) = State.conf s := by
  unfold State.preFail; simp (maxDischargeDepth := 60) [State.conf_mk, State.conf_fold, *]
@[simp] theorem State.setHuLim_conf {s on} : State.conf (State.setHuLim s on) = State.conf s := by
  unfold State.setHuLim; simp (maxDischargeDepth := 60) [State.conf_mk, State.conf_fold, *]
@[simp] theorem State.wdtKick_conf {s} : State.conf (State.wdtKick s) = State.conf s := by
  unfold State.wdtKick; simp (maxDischargeDepth := 60) [State.conf_mk, State.conf_fold, *]
@[simp] theorem State.wdtConfirm_conf {s} : State.conf (State.wdtConfirm s) = State.conf s := by
  unfold State.wdtConfirm; simp (maxDischargeDepth := 60) [State.conf_mk, State.conf_fold, *]
@[simp] theorem State.chargerDrive_conf {s was st} : State.conf (State.chargerDrive s was st) = State.conf s := by
  unfold State.chargerDrive; simp (maxDischargeDepth := 60) [State.conf_mk, State.conf_fold, *]
@[simp] theorem State.chargerTick_conf {s} : State.conf (State.chargerTick s) = State.conf s := by
  unfold State.chargerTick; simp (maxDischargeDepth := 60) [State.conf_mk, State.conf_fold, *]
@[simp] theorem State.gaugeWords_conf {s} : State.conf (State.gaugeWords s) = State.conf s := by
  unfold State.gaugeWords; simp (maxDischargeDepth := 60) [State.conf_mk, State.conf_fold, *]
@[simp] theorem State.restCorrect_conf {s e1 soc} : State.conf (State.restCorrect s e1 soc) = State.conf s := by
  unfold State.restCorrect
  extract_lets v0 v1 v2
  clear_value v0
  have h_v1 : State.conf v1 = State.conf s := by subst v1; simp (maxDischargeDepth := 60) [State.conf_mk, State.conf_fold, *]
  clear_value v1
  have h_v2 : State.conf v2 = State.conf s := by subst v2; simp (maxDischargeDepth := 60) [State.conf_mk, State.conf_fold, *]
  clear_value v2
  simp (maxDischargeDepth := 60) [State.conf_mk, State.conf_fold, *]
@[simp] theorem State.norefDecay_conf {s} : State.conf (State.norefDecay s) = State.conf s := by
  unfold State.norefDecay; simp (maxDischargeDepth := 60) [State.conf_mk, State.conf_fold, *]
@[simp] theorem State.gaugeMinute_conf {s} : State.conf (State.gaugeMinute s) = State.conf s := by
  unfold State.gaugeMinute; simp (maxDischargeDepth := 60) [State.conf_mk, State.conf_fold, *]
@[simp] theorem State.relearn_conf {s soc} : State.conf (State.relearn s soc) = State.conf s := by
  unfold State.relearn; (repeat' split) <;> simp (maxDischargeDepth := 60) [State.conf_mk, State.conf_fold, *]
@[simp] theorem State.gaugeRestore_conf {s crc} : State.conf (State.gaugeRestore s crc) = State.conf s := by
  unfold State.gaugeRestore; simp (maxDischargeDepth := 60) [State.conf_mk, State.conf_fold, *]
@[simp] theorem State.huFltWrite_conf {s val} : State.conf (State.huFltWrite s val) = State.conf s := by
  unfold State.huFltWrite; (repeat' split) <;> simp (maxDischargeDepth := 60) [State.conf_mk, State.conf_fold, *]
@[simp] theorem State.huCtlWrite_conf {s val} : State.conf (State.huCtlWrite s val) = State.conf s := by
  unfold State.huCtlWrite; (repeat' split) <;> simp (maxDischargeDepth := 60) [State.conf_mk, State.conf_fold, *]

/-! Machine/Ledger.lean -/

@[simp] theorem State.setScales_conf {s x} : State.conf (State.setScales s x) = State.conf s := by
  unfold State.setScales
  extract_lets v0 v1
  have h_v0 : State.conf v0 = State.conf s := by subst v0; simp (maxDischargeDepth := 60) [State.conf_mk, State.conf_fold, *]
  clear_value v0
  have h_v1 : State.conf v1 = State.conf s := by subst v1; simp (maxDischargeDepth := 60) [State.conf_mk, State.conf_fold, *]
  clear_value v1
  simp (maxDischargeDepth := 60) [State.conf_mk, State.conf_fold, *]
@[simp] theorem State.ledgerBreach_conf {s x y} : State.conf (State.ledgerBreach s x y) = State.conf s := by
  unfold State.ledgerBreach
  extract_lets v0 v1 v2
  clear_value v0
  clear_value v1
  have h_v2 : State.conf v2 = State.conf s := by subst v2; simp (maxDischargeDepth := 60) [State.conf_mk, State.conf_fold, *]
  clear_value v2
  simp (maxDischargeDepth := 60) [State.conf_mk, State.conf_fold, *]
@[simp] theorem State.ledgerFlags_conf {s x y} : State.conf (State.ledgerFlags s x y) = State.conf s := by
  unfold State.ledgerFlags
  extract_lets v0 v1 v2 v3 v4 v5 v6
  clear_value v0
  have h_v1 : State.conf v1 = State.conf s := by subst v1; simp (maxDischargeDepth := 60) [State.conf_mk, State.conf_fold, *]
  clear_value v1
  have h_v2 : State.conf v2 = State.conf s := by subst v2; simp (maxDischargeDepth := 60) [State.conf_mk, State.conf_fold, *]
  clear_value v2
  have h_v3 : State.conf v3 = State.conf s := by subst v3; simp (maxDischargeDepth := 60) [State.conf_mk, State.conf_fold, *]
  clear_value v3
  have h_v4 : State.conf v4 = State.conf s := by subst v4; simp (maxDischargeDepth := 60) [State.conf_mk, State.conf_fold, *]
  clear_value v4
  have h_v5 : State.conf v5 = State.conf s := by subst v5; simp (maxDischargeDepth := 60) [State.conf_mk, State.conf_fold, *]
  clear_value v5
  have h_v6 : State.conf v6 = State.conf s := by subst v6; simp (maxDischargeDepth := 60) [State.conf_mk, State.conf_fold, *]
  clear_value v6
  simp (maxDischargeDepth := 60) [State.conf_mk, State.conf_fold, *]
@[simp] theorem State.ledgerSecond_conf {s at_ nthr} : State.conf (State.ledgerSecond s at_ nthr) = State.conf s := by
  unfold State.ledgerSecond
  extract_lets v0 v1 v2 v3
  clear_value v0
  clear_value v1
  clear_value v2
  have h_v3 : State.conf v3 = State.conf s := by subst v3; simp (maxDischargeDepth := 60) [State.conf_mk, State.conf_fold, *]
  clear_value v3
  simp (maxDischargeDepth := 60) [State.conf_mk, State.conf_fold, *]
@[simp] theorem State.ledgerAdd_conf {s l x y net} : State.conf (State.ledgerAdd s l x y net) = State.conf s := by
  unfold State.ledgerAdd; simp (maxDischargeDepth := 60) [State.conf_mk, State.conf_fold, *]
@[simp] theorem State.ledgerClose_conf {s} : State.conf (State.ledgerClose s) = State.conf s := by
  unfold State.ledgerClose; simp (maxDischargeDepth := 60) [State.conf_mk, State.conf_fold, *]

/-! Machine/AuxConv.lean -/

@[simp] theorem State.modAx_conf {s j g} : State.conf (State.modAx s j g) = State.conf s := by
  unfold State.modAx; simp (maxDischargeDepth := 60) [State.conf_mk, State.conf_fold, *]
@[simp] theorem State.axEnable_conf {s j} : State.conf (State.axEnable s j) = State.conf s := by
  unfold State.axEnable; simp (maxDischargeDepth := 60) [State.conf_mk, State.conf_fold, *]
@[simp] theorem State.axDisable_conf {s j} : State.conf (State.axDisable s j) = State.conf s := by
  unfold State.axDisable; simp (maxDischargeDepth := 60) [State.conf_mk, State.conf_fold, *]
@[simp] theorem State.auxFault_conf {s j bit} : State.conf (State.auxFault s j bit) = State.conf s := by
  unfold State.auxFault
  extract_lets v0
  have h_v0 : State.conf v0 = State.conf s := by subst v0; simp (maxDischargeDepth := 60) [State.conf_mk, State.conf_fold, *]
  clear_value v0
  simp (maxDischargeDepth := 60) [State.conf_mk, State.conf_fold, *]
@[simp] theorem State.auxHiccup_conf {s j} : State.conf (State.auxHiccup s j) = State.conf s := by
  unfold State.auxHiccup; simp (maxDischargeDepth := 60) [State.conf_mk, State.conf_fold, *]
@[simp] theorem State.axLegs_conf {s} : State.conf (State.axLegs s) = State.conf s := by
  unfold State.axLegs; simp (maxDischargeDepth := 60) [State.conf_mk, State.conf_fold, *]
@[simp] theorem State.axSoft_conf {s j mv} : State.conf (State.axSoft s j mv) = State.conf s := by
  unfold State.axSoft
  extract_lets v0 v1 v2
  clear_value v0
  clear_value v1
  have h_v2 : State.conf v2 = State.conf s := by subst v2; simp (maxDischargeDepth := 60) [State.conf_mk, State.conf_fold, *]
  clear_value v2
  simp (maxDischargeDepth := 60) [State.conf_mk, State.conf_fold, *]
@[simp] theorem State.axRegulate_conf {s j fb} : State.conf (State.axRegulate s j fb) = State.conf s := by
  unfold State.axRegulate; simp (maxDischargeDepth := 60) [State.conf_mk, State.conf_fold, *]
@[simp] theorem State.axShed_conf {s j shunt} : State.conf (State.axShed s j shunt) = State.conf s := by
  unfold State.axShed; simp (maxDischargeDepth := 60) [State.conf_mk, State.conf_fold, *]
@[simp] theorem State.axMeter_conf {s j inp} : State.conf (State.axMeter s j inp) = State.conf s := by
  unfold State.axMeter; simp (maxDischargeDepth := 60) [State.conf_mk, State.conf_fold, *]
@[simp] theorem State.axFloor_conf {s} : State.conf (State.axFloor s) = State.conf s := by
  unfold State.axFloor; simp (maxDischargeDepth := 60) [State.conf_mk, State.conf_fold, *]
@[simp] theorem State.axCycles_conf {s j phB} : State.conf (State.axCycles s j phB) = State.conf s := by
  unfold State.axCycles; dsimp only; (repeat' split) <;> simp +contextual (maxDischargeDepth := 60) [State.conf_mk, State.conf_fold, *]
@[simp] theorem State.axWatch_conf {s j lim} : State.conf (State.axWatch s j lim) = State.conf s := by
  unfold State.axWatch
  extract_lets v0 v1 v2 v3
  clear_value v0
  clear_value v1
  clear_value v2
  have h_v3 : State.conf v3 = State.conf s := by subst v3; simp (maxDischargeDepth := 60) [State.conf_mk, State.conf_fold, *]
  clear_value v3
  simp (maxDischargeDepth := 60) [State.conf_mk, State.conf_fold, *]
@[simp] theorem State.axBoundary_conf {s j inp} : State.conf (State.axBoundary s j inp) = State.conf s := by
  unfold State.axBoundary
  extract_lets v0
  have h_v0 : State.conf v0 = State.conf s := by subst v0; simp (maxDischargeDepth := 60) [State.conf_mk, State.conf_fold, *]
  clear_value v0
  ((repeat' split) <;> (try extract_lets) <;> simp (maxDischargeDepth := 60) +zetaDelta [State.conf_mk, State.conf_fold, *])
@[simp] theorem State.axFltWrite_conf {s j val} : State.conf (State.axFltWrite s j val) = State.conf s := by
  unfold State.axFltWrite; (repeat' split) <;> simp (maxDischargeDepth := 60) [State.conf_mk, State.conf_fold, *]

/-! Machine/Tray.lean -/

@[simp] theorem State.modAl_conf {s k g} : State.conf (State.modAl s k g) = State.conf s := by
  unfold State.modAl; simp (maxDischargeDepth := 60) [State.conf_mk, State.conf_fold, *]
@[simp] theorem State.alTake_conf {s k} : State.conf (State.alTake s k) = State.conf s := by
  unfold State.alTake; simp (maxDischargeDepth := 60) [State.conf_mk, State.conf_fold, *]
@[simp] theorem State.alSetpoint_conf {s k inp} : State.conf (State.alSetpoint s k inp) = State.conf s := by
  unfold State.alSetpoint; simp (maxDischargeDepth := 60) [State.conf_mk, State.conf_fold, *]
@[simp] theorem State.alOut_conf {s k o} : State.conf (State.alOut s k o) = State.conf s := by
  unfold State.alOut; simp (maxDischargeDepth := 60) [State.conf_mk, State.conf_fold, *]
@[simp] theorem State.alPid_conf {s k pv} : State.conf (State.alPid s k pv) = State.conf s := by
  unfold State.alPid
  extract_lets v0 v1 v2 v3 v4 v5 v6 v7 v8 v9 v10 v11
  clear_value v0
  clear_value v1
  clear_value v2
  clear_value v3
  clear_value v4
  clear_value v5
  clear_value v6
  clear_value v7
  clear_value v8
  clear_value v9
  clear_value v10
  have h_v11 : State.conf v11 = State.conf s := by subst v11; simp (maxDischargeDepth := 60) [State.conf_mk, State.conf_fold, *]
  clear_value v11
  simp (maxDischargeDepth := 60) [State.conf_mk, State.conf_fold, *]
@[simp] theorem State.alManual_conf {s k pv} : State.conf (State.alManual s k pv) = State.conf s := by
  unfold State.alManual
  extract_lets v0 v1 v2 v3
  clear_value v0
  clear_value v1
  clear_value v2
  have h_v3 : State.conf v3 = State.conf s := by subst v3; simp (maxDischargeDepth := 60) [State.conf_mk, State.conf_fold, *]
  clear_value v3
  simp (maxDischargeDepth := 60) [State.conf_mk, State.conf_fold, *]
@[simp] theorem State.tuneFail_conf {s k} : State.conf (State.tuneFail s k) = State.conf s := by
  unfold State.tuneFail; simp (maxDischargeDepth := 60) [State.conf_mk, State.conf_fold, *]
@[simp] theorem State.tuneResume_conf {s k} : State.conf (State.tuneResume s k) = State.conf s := by
  unfold State.tuneResume; simp (maxDischargeDepth := 60) [State.conf_mk, State.conf_fold, *]
@[simp] theorem State.alFail_conf {s k} : State.conf (State.alFail s k) = State.conf s := by
  unfold State.alFail
  extract_lets v0
  have h_v0 : State.conf v0 = State.conf s := by subst v0; simp (maxDischargeDepth := 60) [State.conf_mk, State.conf_fold, *]
  clear_value v0
  simp (maxDischargeDepth := 60) [State.conf_mk, State.conf_fold, *]
@[simp] theorem State.tuneDone_conf {s k p1 p2 a1 a2} : State.conf (State.tuneDone s k p1 p2 a1 a2) = State.conf s := by
  unfold State.tuneDone; simp (maxDischargeDepth := 60) [State.conf_mk, State.conf_fold, *]
@[simp] theorem State.alTune_conf {s k pv t} : State.conf (State.alTune s k pv t) = State.conf s := by
  unfold State.alTune
  extract_lets v0 v1 v2 v3 v4 v5 v6 v7 v8 v9
  clear_value v0
  clear_value v1
  clear_value v2
  clear_value v3
  clear_value v4
  clear_value v5
  clear_value v6
  clear_value v7
  have h_v8 : State.conf v8 = State.conf s := by subst v8; simp (maxDischargeDepth := 60) [State.conf_mk, State.conf_fold, *]
  clear_value v8
  have h_v9 : State.conf v9 = State.conf s := by subst v9; simp (maxDischargeDepth := 60) [State.conf_mk, State.conf_fold, *]
  clear_value v9
  ((repeat' split) <;> simp (maxDischargeDepth := 60) [State.conf_mk, State.conf_fold, *])
@[simp] theorem State.alRun_conf {s k pv} : State.conf (State.alRun s k pv) = State.conf s := by
  unfold State.alRun; (repeat' split) <;> simp (maxDischargeDepth := 60) [State.conf_mk, State.conf_fold, *]
@[simp] theorem State.alCount_conf {s k c} : State.conf (State.alCount s k c) = State.conf s := by
  unfold State.alCount; simp (maxDischargeDepth := 60) [State.conf_mk, State.conf_fold, *]
@[simp] theorem State.alIdle_conf {s k} : State.conf (State.alIdle s k) = State.conf s := by
  unfold State.alIdle
  extract_lets v0
  have h_v0 : State.conf v0 = State.conf s := by subst v0; simp (maxDischargeDepth := 60) [State.conf_mk, State.conf_fold, *]
  clear_value v0
  simp (maxDischargeDepth := 60) [State.conf_mk, State.conf_fold, *]
@[simp] theorem State.tuneStart_conf {s k} : State.conf (State.tuneStart s k) = State.conf s := by
  unfold State.tuneStart; simp (maxDischargeDepth := 60) [State.conf_mk, State.conf_fold, *]
@[simp] theorem State.tuneAbort_conf {s k} : State.conf (State.tuneAbort s k) = State.conf s := by
  unfold State.tuneAbort; simp (maxDischargeDepth := 60) [State.conf_mk, State.conf_fold, *]

/-! Machine/Clocks.lean -/

@[simp] theorem lockFld_conf {p} : Reg.isConf (lockFld p).reg = false := by simp [lockFld]
@[simp] theorem reflossFld_conf {p} : Reg.isConf (reflossFld p).reg = false := by simp [reflossFld]
@[simp] theorem coastFld_conf {p} : Reg.isConf (coastFld p).reg = false := by simp [coastFld]
@[simp] theorem stableFld_conf {c} : Reg.isConf (stableFld c).reg = false := by cases c <;> simp [stableFld]
@[simp] theorem State.setJudge_conf {s c j} : State.conf (State.setJudge s c j) = State.conf s := by
  unfold State.setJudge; simp (maxDischargeDepth := 60) [State.conf_mk, State.conf_fold, *]
@[simp] theorem State.startJudge_conf {s c} : State.conf (State.startJudge s c) = State.conf s := by
  unfold State.startJudge; simp (maxDischargeDepth := 60) [State.conf_mk, State.conf_fold, *]
@[simp] theorem State.relock_conf {s p} : State.conf (State.relock s p) = State.conf s := by
  unfold State.relock; simp (maxDischargeDepth := 60) [State.conf_mk, State.conf_fold, *]
@[simp] theorem State.clockStable_conf {s c} : State.conf (State.clockStable s c) = State.conf s := by
  unfold State.clockStable
  extract_lets v0
  have h_v0 : State.conf v0 = State.conf s := by subst v0; simp (maxDischargeDepth := 60) [State.conf_mk, State.conf_fold, *]
  clear_value v0
  ((repeat' split) <;> (try extract_lets) <;> simp (maxDischargeDepth := 60) +zetaDelta [State.conf_mk, State.conf_fold, *])
@[simp] theorem State.judgeFailed_conf {s c} : State.conf (State.judgeFailed s c) = State.conf s := by
  unfold State.judgeFailed; (repeat' split) <;> simp (maxDischargeDepth := 60) [State.conf_mk, State.conf_fold, *]
@[simp] theorem State.slewEnd_conf {s} : State.conf (State.slewEnd s) = State.conf s := by
  unfold State.slewEnd
  extract_lets v0
  have h_v0 : State.conf v0 = State.conf s := by subst v0; simp (maxDischargeDepth := 60) [State.conf_mk, State.conf_fold, *]
  clear_value v0
  simp (maxDischargeDepth := 60) [State.conf_mk, State.conf_fold, *]
@[simp] theorem State.slewStart_conf {s e stamp} : State.conf (State.slewStart s e stamp) = State.conf s := by
  unfold State.slewStart
  extract_lets v0 v1 v2 v3
  clear_value v0
  clear_value v1
  clear_value v2
  have h_v3 : State.conf v3 = State.conf s := by subst v3; simp (maxDischargeDepth := 60) [State.conf_mk, State.conf_fold, *]
  clear_value v3
  simp (maxDischargeDepth := 60) [State.conf_mk, State.conf_fold, *]
@[simp] theorem State.toHoldover_conf {s} : State.conf (State.toHoldover s) = State.conf s := by
  unfold State.toHoldover; simp (maxDischargeDepth := 60) [State.conf_mk, State.conf_fold, *]
@[simp] theorem State.coast_conf {s p sev} : State.conf (State.coast s p sev) = State.conf s := by
  unfold State.coast
  extract_lets v0
  have h_v0 : State.conf v0 = State.conf s := by subst v0; simp (maxDischargeDepth := 60) [State.conf_mk, State.conf_fold, *]
  clear_value v0
  simp (maxDischargeDepth := 60) [State.conf_mk, State.conf_fold, *]
@[simp] theorem State.parkCoast_conf {s} : State.conf (State.parkCoast s) = State.conf s := by
  unfold State.parkCoast; simp (maxDischargeDepth := 60) [State.conf_mk, State.conf_fold, *]
@[simp] theorem State.linkTo_conf {s p up} : State.conf (State.linkTo s p up) = State.conf s := by
  unfold State.linkTo; simp (maxDischargeDepth := 60) [State.conf_mk, State.conf_fold, *]
@[simp] theorem State.xhfLoss_conf {s} : State.conf (State.xhfLoss s) = State.conf s := by
  unfold State.xhfLoss; simp (maxDischargeDepth := 60) [State.conf_mk, State.conf_fold, *]
@[simp] theorem State.trimTake_conf {s count} : State.conf (State.trimTake s count) = State.conf s := by
  unfold State.trimTake; simp (maxDischargeDepth := 60) [State.conf_mk, State.conf_fold, *]
@[simp] theorem State.counterRun_conf {s dt} : State.conf (State.counterRun s dt) = State.conf s := by
  unfold State.counterRun; simp (maxDischargeDepth := 60) [State.conf_mk, State.conf_fold, *]
@[simp] theorem State.levelTo_conf {s level} : State.conf (State.levelTo s level) = State.conf s := by
  unfold State.levelTo; (repeat' split) <;> simp (maxDischargeDepth := 60) [State.conf_mk, State.conf_fold, *]
@[simp] theorem State.askRaise_conf {s} : State.conf (State.askRaise s) = State.conf s := by
  unfold State.askRaise; simp (maxDischargeDepth := 60) [State.conf_mk, State.conf_fold, *]
@[simp] theorem State.compatFail_conf {s k} : State.conf (State.compatFail s k) = State.conf s := by
  unfold State.compatFail
  extract_lets v0
  have h_v0 : State.conf v0 = State.conf s := by subst v0; simp (maxDischargeDepth := 60) [State.conf_mk, State.conf_fold, *]
  clear_value v0
  ((repeat' split) <;> (try extract_lets) <;> simp (maxDischargeDepth := 60) +zetaDelta [State.conf_mk, State.conf_fold, *])
@[simp] theorem State.compatDone_conf {s level} : State.conf (State.compatDone s level) = State.conf s := by
  unfold State.compatDone; simp (maxDischargeDepth := 60) [State.conf_mk, State.conf_fold, *]
@[simp] theorem State.compatBoundary_conf {s} : State.conf (State.compatBoundary s) = State.conf s := by
  unfold State.compatBoundary; (repeat' split) <;> simp (maxDischargeDepth := 60) [State.conf_mk, State.conf_fold, *]
@[simp] theorem State.timeSet_conf {s val} : State.conf (State.timeSet s val) = State.conf s := by
  unfold State.timeSet; simp (maxDischargeDepth := 60) [State.conf_mk, State.conf_fold, *]
@[simp] theorem State.ppsCorrect_conf {s} : State.conf (State.ppsCorrect s) = State.conf s := by
  unfold State.ppsCorrect; simp (maxDischargeDepth := 60) [State.conf_mk, State.conf_fold, *]
@[simp] theorem State.ppsTrack_conf {s e} : State.conf (State.ppsTrack s e) = State.conf s := by
  unfold State.ppsTrack; simp (maxDischargeDepth := 60) [State.conf_mk, State.conf_fold, *]
@[simp] theorem State.ppsAcquire_conf {s e stamp} : State.conf (State.ppsAcquire s e stamp) = State.conf s := by
  unfold State.ppsAcquire; simp (maxDischargeDepth := 60) [State.conf_mk, State.conf_fold, *]
@[simp] theorem State.ppsQualified_conf {s e stamp} : State.conf (State.ppsQualified s e stamp) = State.conf s := by
  unfold State.ppsQualified; (repeat' split) <;> simp (maxDischargeDepth := 60) [State.conf_mk, State.conf_fold, *]
@[simp] theorem State.ppsOutside_conf {s e} : State.conf (State.ppsOutside s e) = State.conf s := by
  unfold State.ppsOutside; simp (maxDischargeDepth := 60) [State.conf_mk, State.conf_fold, *]
@[simp] theorem State.ppsFree_conf {s} : State.conf (State.ppsFree s) = State.conf s := by
  unfold State.ppsFree; simp (maxDischargeDepth := 60) [State.conf_mk, State.conf_fold, *]
@[simp] theorem State.stepCounter_conf {s d} : State.conf (State.stepCounter s d) = State.conf s := by
  unfold State.stepCounter; simp (maxDischargeDepth := 60) [State.conf_mk, State.conf_fold, *]
@[simp] theorem State.servoStep_conf {s} : State.conf (State.servoStep s) = State.conf s := by
  unfold State.servoStep; (repeat' split) <;> simp (maxDischargeDepth := 60) [State.conf_mk, State.conf_fold, *]
@[simp] theorem State.tsetStep_conf {s} : State.conf (State.tsetStep s) = State.conf s := by
  unfold State.tsetStep; dsimp only; (repeat' split) <;> simp +contextual (maxDischargeDepth := 60) [State.conf_mk, State.conf_fold, *]
@[simp] theorem State.clockBoundary_conf {s} : State.conf (State.clockBoundary s) = State.conf s := by
  unfold State.clockBoundary
  extract_lets v0
  have h_v0 : State.conf v0 = State.conf s := by subst v0; simp (maxDischargeDepth := 60) [State.conf_mk, State.conf_fold, *]
  clear_value v0
  ((repeat' split) <;> (try extract_lets) <;> simp (maxDischargeDepth := 60) +zetaDelta [State.conf_mk, State.conf_fold, *])

/-! Machine/Vault.lean -/

@[simp] theorem State.vaultMerge_conf {s r last count rest} : State.conf (State.vaultMerge s r last count rest) = State.conf s := by
  unfold State.vaultMerge
  extract_lets v0 v1 v2
  clear_value v0
  have h_v1 : State.conf v1 = State.conf s := by subst v1; simp (maxDischargeDepth := 60) [State.conf_mk, State.conf_fold, *]
  clear_value v1
  have h_v2 : State.conf v2 = State.conf s := by subst v2; simp (maxDischargeDepth := 60) [State.conf_mk, State.conf_fold, *]
  clear_value v2
  simp (maxDischargeDepth := 60) [State.conf_mk, State.conf_fold, *]
@[simp] theorem State.vaultNew_conf {s r rest} : State.conf (State.vaultNew s r rest) = State.conf s := by
  unfold State.vaultNew; simp (maxDischargeDepth := 60) [State.conf_mk, State.conf_fold, *]
@[simp] theorem State.vaultTake_conf {s} : State.conf (State.vaultTake s) = State.conf s := by
  unfold State.vaultTake; (repeat' split) <;> simp (maxDischargeDepth := 60) [State.conf_mk, State.conf_fold, *]
@[simp] theorem State.vaultScan_conf {s} : State.conf (State.vaultScan s) = State.conf s := by
  unfold State.vaultScan
  extract_lets v0 v1 v2 v3
  clear_value v0
  clear_value v1
  clear_value v2
  have h_v3 : State.conf v3 = State.conf s := by subst v3; simp (maxDischargeDepth := 60) [State.conf_mk, State.conf_fold, *]
  clear_value v3
  simp (maxDischargeDepth := 60) [State.conf_mk, State.conf_fold, *]
@[simp] theorem State.vaultClear_conf {s} : State.conf (State.vaultClear s) = State.conf s := by
  unfold State.vaultClear; simp (maxDischargeDepth := 60) [State.conf_mk, State.conf_fold, *]
@[simp] theorem State.voidIf_conf {s k y2} : State.conf (State.voidIf s k y2) = State.conf s := by
  unfold State.voidIf
  split
  · exact State.putMemWord_conf
  · exact Eq.refl _
@[simp] theorem State.slotVoid_conf {s k} : State.conf (State.slotVoid s k) = State.conf s := by
  unfold State.slotVoid; simp (maxDischargeDepth := 60) [State.conf_mk, State.conf_fold, *]
@[simp] theorem State.atticDrain_conf {s} : State.conf (State.atticDrain s) = State.conf s := by
  unfold State.atticDrain; simp (maxDischargeDepth := 60) [State.conf_mk, State.conf_fold, *]
@[simp] theorem State.fill_conf {s a bs} : State.conf (State.fill s a bs) = State.conf s := by
  unfold State.fill; simp (maxDischargeDepth := 60) [State.conf_mk, State.conf_fold, *]
@[simp] theorem State.snapAtT_conf {s} : State.conf (State.snapAtT s) = State.conf s := by
  unfold State.snapAtT; (repeat' split) <;> simp (maxDischargeDepth := 60) [State.conf_mk, State.conf_fold, *]
@[simp] theorem State.slotWritten_conf {s sn} : State.conf (State.slotWritten s sn) = State.conf s := by
  unfold State.slotWritten
  extract_lets v0 v1 v2 v3 v4 v5
  clear_value v0
  clear_value v1
  clear_value v2
  have h_v3 : State.conf v3 = State.conf s := by subst v3; simp (maxDischargeDepth := 60) [State.conf_mk, State.conf_fold, *]
  clear_value v3
  clear_value v4
  clear_value v5
  simp (maxDischargeDepth := 60) [State.conf_mk, State.conf_fold, *]
@[simp] theorem State.slotRelease_conf {s k} : State.conf (State.slotRelease s k) = State.conf s := by
  unfold State.slotRelease; simp (maxDischargeDepth := 60) [State.conf_mk, State.conf_fold, *]

/-! Machine/Operands.lean -/

@[simp] theorem State.setPc_conf {s c v} : State.conf (State.setPc s c v) = State.conf s := by
  unfold State.setPc; (repeat' split) <;> simp (maxDischargeDepth := 60) [State.conf_mk, State.conf_fold, *]
@[simp] theorem State.advance_conf {s c} : State.conf (State.advance s c) = State.conf s := by
  unfold State.advance; simp (maxDischargeDepth := 60) [State.conf_mk, State.conf_fold, *]
@[simp] theorem State.setFlags_conf {s c v} : State.conf (State.setFlags s c v) = State.conf s := by
  unfold State.setFlags; (repeat' split) <;> simp (maxDischargeDepth := 60) [State.conf_mk, State.conf_fold, *]
@[simp] theorem State.setAlu_conf {s c o} : State.conf (State.setAlu s c o) = State.conf s := by
  unfold State.setAlu; simp (maxDischargeDepth := 60) [State.conf_mk, State.conf_fold, *]
@[simp] theorem State.setG_conf {s c i v} : State.conf (State.setG s c i v) = State.conf s := by
  unfold State.setG; (repeat' split) <;> simp (maxDischargeDepth := 60) [State.conf_mk, State.conf_fold, *]
@[simp] theorem State.setStack_conf {s c l} : State.conf (State.setStack s c l) = State.conf s := by
  unfold State.setStack; (repeat' split) <;> simp (maxDischargeDepth := 60) [State.conf_mk, State.conf_fold, *]
@[simp] theorem State.suspend_conf {s c y} : State.conf (State.suspend s c y) = State.conf s := by
  unfold State.suspend; (repeat' split) <;> simp (maxDischargeDepth := 60) [State.conf_mk, State.conf_fold, *]
@[simp] theorem State.setLdi_conf {s c o} : State.conf (State.setLdi s c o) = State.conf s := by
  unfold State.setLdi; (repeat' split) <;> simp (maxDischargeDepth := 60) [State.conf_mk, State.conf_fold, *]
theorem State.putPort_conf {s c p v t} (ht : State.putPort s c p v = some t) :
    State.conf t = State.conf s := by
  unfold State.putPort at ht
  (repeat' split at ht) <;> simp only [Option.some.injEq, reduceCtorEq] at ht <;> subst ht <;> simp +contextual (maxDischargeDepth := 60) [State.conf_mk, State.conf_fold, *]

/-! Machine/Gulgaub.lean -/

@[simp] theorem State.bareRecord_conf {s n term src} : State.conf (State.bareRecord s n term src) = State.conf s := by
  unfold State.bareRecord
  extract_lets v0 v1
  clear_value v0
  have h_v1 : State.conf v1 = State.conf s := by subst v1; simp (maxDischargeDepth := 60) [State.conf_mk, State.conf_fold, *]
  clear_value v1
  simp (maxDischargeDepth := 60) [State.conf_mk, State.conf_fold, *]
@[simp] theorem State.dropCaps_conf {s n} : State.conf (State.dropCaps s n) = State.conf s := by
  unfold State.dropCaps; simp (maxDischargeDepth := 60) [State.conf_mk, State.conf_fold, *]
@[simp] theorem State.progFault_conf {s c code} : State.conf (State.progFault s c code) = State.conf s := by
  unfold State.progFault; (repeat' split) <;> simp (maxDischargeDepth := 60) [State.conf_mk, State.conf_fold, *]
@[simp] theorem State.instr_conf {s c shelfOk fields f} (hf : ∀ t, State.conf (f t) = State.conf t) : State.conf (State.instr s c shelfOk fields f) = State.conf s := by
  unfold State.instr; simp (maxDischargeDepth := 60) [State.conf_mk, State.conf_fold, *]
@[simp] theorem State.freezeFor_conf {s n peak} : State.conf (State.freezeFor s n peak) = State.conf s := by
  unfold State.freezeFor; simp (maxDischargeDepth := 60) [State.conf_mk, State.conf_fold, *]
@[simp] theorem State.measTake_conf {s n} : State.conf (State.measTake s n) = State.conf s := by
  unfold State.measTake; simp (maxDischargeDepth := 60) [State.conf_mk, State.conf_fold, *]
@[simp] theorem State.openStep_conf {s n st peak} : State.conf (State.openStep s n st peak) = State.conf s := by
  unfold State.openStep
  extract_lets v0 v1 v2 v3 v4 v5 v6 v7 v8 v9 v10 v11 v12 v13 v14 v15 v16 v17
  clear_value v0
  have h_v1 : State.conf v1 = State.conf s := by subst v1; simp (maxDischargeDepth := 60) [State.conf_mk, State.conf_fold, *]
  clear_value v1
  clear_value v2
  clear_value v3
  clear_value v4
  clear_value v5
  clear_value v6
  clear_value v7
  have h_v8 : State.conf v8 = State.conf s := by subst v8; simp (maxDischargeDepth := 60) [State.conf_mk, State.conf_fold, *]
  clear_value v8
  have h_v9 : State.conf v9 = State.conf s := by subst v9; simp (maxDischargeDepth := 60) [State.conf_mk, State.conf_fold, *]
  clear_value v9
  have h_v10 : State.conf v10 = State.conf s := by subst v10; ((repeat' split) <;> simp (maxDischargeDepth := 60) [State.conf_mk, State.conf_fold, *])
  clear_value v10
  clear_value v11
  have h_v12 : State.conf v12 = State.conf s := by subst v12; simp (maxDischargeDepth := 60) [State.conf_mk, State.conf_fold, *]
  clear_value v12
  have h_v13 : State.conf v13 = State.conf s := by subst v13; simp (maxDischargeDepth := 60) [State.conf_mk, State.conf_fold, *]
  clear_value v13
  have h_v14 : State.conf v14 = State.conf s := by subst v14; simp (maxDischargeDepth := 60) [State.conf_mk, State.conf_fold, *]
  clear_value v14
  have h_v15 : State.conf v15 = State.conf s := by subst v15; simp (maxDischargeDepth := 60) [State.conf_mk, State.conf_fold, *]
  clear_value v15
  have h_v16 : State.conf v16 = State.conf s := by subst v16; simp (maxDischargeDepth := 60) [State.conf_mk, State.conf_fold, *]
  clear_value v16
  have h_v17 : State.conf v17 = State.conf s := by subst v17; simp (maxDischargeDepth := 60) [State.conf_mk, State.conf_fold, *]
  clear_value v17
  ((repeat' split) <;> (try extract_lets) <;> simp (maxDischargeDepth := 60) +zetaDelta [State.conf_mk, State.conf_fold, *])
@[simp] theorem State.modeGate_conf {s n op f} (hf : ∀ t, State.conf (f t) = State.conf t) : State.conf (State.modeGate s n op f) = State.conf s := by
  unfold State.modeGate; simp (maxDischargeDepth := 60) [State.conf_mk, State.conf_fold, *]
@[simp] theorem State.modeInstr_conf {s c op fields f} (hf : ∀ x0 t, State.conf (f x0 t) = State.conf t) : State.conf (State.modeInstr s c op fields f) = State.conf s := by
  unfold State.modeInstr; (repeat' split) <;> simp (maxDischargeDepth := 60) [State.conf_mk, State.conf_fold, *]
@[simp] theorem State.clampOperand_conf {s n w} : State.conf (State.clampOperand s n w) = State.conf s := by
  unfold State.clampOperand; simp (maxDischargeDepth := 60) [State.conf_mk, State.conf_fold, *]
@[simp] theorem State.opCurrent_conf {s c op w} : State.conf (State.opCurrent s c op w) = State.conf s := by
  unfold State.opCurrent; simp (maxDischargeDepth := 60) [State.conf_mk, State.conf_fold, *]
@[simp] theorem State.opCv_conf {s c w} : State.conf (State.opCv s c w) = State.conf s := by
  unfold State.opCv; simp (maxDischargeDepth := 60) [State.conf_mk, State.conf_fold, *]
@[simp] theorem State.opCcv_conf {s c w} : State.conf (State.opCcv s c w) = State.conf s := by
  unfold State.opCcv; simp (maxDischargeDepth := 60) [State.conf_mk, State.conf_fold, *]
@[simp] theorem State.opPulse_conf {s c w} : State.conf (State.opPulse s c w) = State.conf s := by
  unfold State.opPulse; simp (maxDischargeDepth := 60) [State.conf_mk, State.conf_fold, *]
@[simp] theorem State.opEis_conf {s c w} : State.conf (State.opEis s c w) = State.conf s := by
  unfold State.opEis; simp (maxDischargeDepth := 60) [State.conf_mk, State.conf_fold, *]
@[simp] theorem State.opStill_conf {s c op w} : State.conf (State.opStill s c op w) = State.conf s := by
  unfold State.opStill; simp (maxDischargeDepth := 60) [State.conf_mk, State.conf_fold, *]
@[simp] theorem State.chanInstr_conf {s c fields f} (hf : ∀ x0 t, State.conf (f x0 t) = State.conf t) : State.conf (State.chanInstr s c fields f) = State.conf s := by
  unfold State.chanInstr; (repeat' split) <;> simp (maxDischargeDepth := 60) [State.conf_mk, State.conf_fold, *]
@[simp] theorem State.opLimv_conf {s c w} : State.conf (State.opLimv s c w) = State.conf s := by
  unfold State.opLimv; simp (maxDischargeDepth := 60) [State.conf_mk, State.conf_fold, *]
@[simp] theorem State.opLimi_conf {s c w} : State.conf (State.opLimi s c w) = State.conf s := by
  unfold State.opLimi; simp (maxDischargeDepth := 60) [State.conf_mk, State.conf_fold, *]
@[simp] theorem State.opLimt_conf {s c w} : State.conf (State.opLimt s c w) = State.conf s := by
  unfold State.opLimt; simp (maxDischargeDepth := 60) [State.conf_mk, State.conf_fold, *]
@[simp] theorem State.armInstr_conf {s c fields f a} : State.conf (State.armInstr s c fields f a) = State.conf s := by
  unfold State.armInstr; simp (maxDischargeDepth := 60) [State.conf_mk, State.conf_fold, *]
@[simp] theorem State.opDisarm_conf {s c w} : State.conf (State.opDisarm s c w) = State.conf s := by
  unfold State.opDisarm; simp (maxDischargeDepth := 60) [State.conf_mk, State.conf_fold, *]
@[simp] theorem State.opArmt_conf {s c w} : State.conf (State.opArmt s c w) = State.conf s := by
  unfold State.opArmt; simp (maxDischargeDepth := 60) [State.conf_mk, State.conf_fold, *]
@[simp] theorem State.opArmv_conf {s c w} : State.conf (State.opArmv s c w) = State.conf s := by
  unfold State.opArmv; simp (maxDischargeDepth := 60) [State.conf_mk, State.conf_fold, *]
@[simp] theorem State.opArmi_conf {s c w} : State.conf (State.opArmi s c w) = State.conf s := by
  unfold State.opArmi; simp (maxDischargeDepth := 60) [State.conf_mk, State.conf_fold, *]
@[simp] theorem State.opArmtap_conf {s c w} : State.conf (State.opArmtap s c w) = State.conf s := by
  unfold State.opArmtap; simp (maxDischargeDepth := 60) [State.conf_mk, State.conf_fold, *]
@[simp] theorem State.opArmq_conf {s c w} : State.conf (State.opArmq s c w) = State.conf s := by
  unfold State.opArmq; simp (maxDischargeDepth := 60) [State.conf_mk, State.conf_fold, *]
@[simp] theorem State.opArme_conf {s c w} : State.conf (State.opArme s c w) = State.conf s := by
  unfold State.opArme; simp (maxDischargeDepth := 60) [State.conf_mk, State.conf_fold, *]
@[simp] theorem State.opArmdv_conf {s c w} : State.conf (State.opArmdv s c w) = State.conf s := by
  unfold State.opArmdv; simp (maxDischargeDepth := 60) [State.conf_mk, State.conf_fold, *]
@[simp] theorem State.opArmtc_conf {s c w} : State.conf (State.opArmtc s c w) = State.conf s := by
  unfold State.opArmtc; simp (maxDischargeDepth := 60) [State.conf_mk, State.conf_fold, *]
@[simp] theorem State.opWait_conf {s c w} : State.conf (State.opWait s c w) = State.conf s := by
  unfold State.opWait; (repeat' split) <;> simp (maxDischargeDepth := 60) [State.conf_mk, State.conf_fold, *]
@[simp] theorem State.opLdi_conf {s c w} : State.conf (State.opLdi s c w) = State.conf s := by
  unfold State.opLdi; simp (maxDischargeDepth := 60) [State.conf_mk, State.conf_fold, *]
@[simp] theorem State.literal_conf {s c v} : State.conf (State.literal s c v) = State.conf s := by
  unfold State.literal; (repeat' split) <;> simp (maxDischargeDepth := 60) [State.conf_mk, State.conf_fold, *]
@[simp] theorem State.opLdiLit_conf {s c w v} : State.conf (State.opLdiLit s c w v) = State.conf s := by
  unfold State.opLdiLit; simp (maxDischargeDepth := 60) [State.conf_mk, State.conf_fold, *]
@[simp] theorem State.opMov_conf {s c w} : State.conf (State.opMov s c w) = State.conf s := by
  unfold State.opMov; simp (maxDischargeDepth := 60) [State.conf_mk, State.conf_fold, *]
@[simp] theorem State.opGetm_conf {s c w} : State.conf (State.opGetm s c w) = State.conf s := by
  unfold State.opGetm
  refine State.instr_conf fun t => ?_
  split <;> simp +contextual (maxDischargeDepth := 60) [State.conf_mk, State.conf_fold, *]
@[simp] theorem State.opPutp_conf {s c w} : State.conf (State.opPutp s c w) = State.conf s := by
  unfold State.opPutp
  refine State.instr_conf fun t => ?_
  split
  · next u hu => rw [State.advance_conf, State.putPort_conf hu]
  · exact State.progFault_conf
@[simp] theorem State.opAlu_conf {s c fields wr f w y} : State.conf (State.opAlu s c fields wr f w y) = State.conf s := by
  unfold State.opAlu; simp (maxDischargeDepth := 60) [State.conf_mk, State.conf_fold, *]
@[simp] theorem State.opAdd_conf {s c w} : State.conf (State.opAdd s c w) = State.conf s := by
  unfold State.opAdd; simp (maxDischargeDepth := 60) [State.conf_mk, State.conf_fold, *]
@[simp] theorem State.opSub_conf {s c w} : State.conf (State.opSub s c w) = State.conf s := by
  unfold State.opSub; simp (maxDischargeDepth := 60) [State.conf_mk, State.conf_fold, *]
@[simp] theorem State.opCmp_conf {s c w} : State.conf (State.opCmp s c w) = State.conf s := by
  unfold State.opCmp; simp (maxDischargeDepth := 60) [State.conf_mk, State.conf_fold, *]
@[simp] theorem State.opMulsh_conf {s c w} : State.conf (State.opMulsh s c w) = State.conf s := by
  unfold State.opMulsh; simp (maxDischargeDepth := 60) [State.conf_mk, State.conf_fold, *]
@[simp] theorem State.flow_conf {s c w fields f} (hf : ∀ t, State.conf (f t) = State.conf t) : State.conf (State.flow s c w fields f) = State.conf s := by
  unfold State.flow; simp (maxDischargeDepth := 60) [State.conf_mk, State.conf_fold, *]
@[simp] theorem State.opBr_conf {s c w} : State.conf (State.opBr s c w) = State.conf s := by
  unfold State.opBr; simp (maxDischargeDepth := 60) [State.conf_mk, State.conf_fold, *]
@[simp] theorem State.opLoop_conf {s c w} : State.conf (State.opLoop s c w) = State.conf s := by
  unfold State.opLoop; simp (maxDischargeDepth := 60) [State.conf_mk, State.conf_fold, *]
@[simp] theorem State.opCall_conf {s c w} : State.conf (State.opCall s c w) = State.conf s := by
  unfold State.opCall; simp (maxDischargeDepth := 60) [State.conf_mk, State.conf_fold, *]
@[simp] theorem State.opRet_conf {s c w} : State.conf (State.opRet s c w) = State.conf s := by
  unfold State.opRet
  refine State.instr_conf fun t => ?_
  split <;> simp +contextual (maxDischargeDepth := 60) [State.conf_mk, State.conf_fold, *]
@[simp] theorem State.opNop_conf {s c w} : State.conf (State.opNop s c w) = State.conf s := by
  unfold State.opNop; simp (maxDischargeDepth := 60) [State.conf_mk, State.conf_fold, *]
@[simp] theorem State.opStop_conf {s c w} : State.conf (State.opStop s c w) = State.conf s := by
  unfold State.opStop; (repeat' split) <;> simp (maxDischargeDepth := 60) [State.conf_mk, State.conf_fold, *]
@[simp] theorem State.opCapdc_conf {s c w} : State.conf (State.opCapdc s c w) = State.conf s := by
  unfold State.opCapdc; simp (maxDischargeDepth := 60) [State.conf_mk, State.conf_fold, *]
@[simp] theorem State.opEisrun_conf {s c w} : State.conf (State.opEisrun s c w) = State.conf s := by
  unfold State.opEisrun
  refine State.chanInstr_conf fun n t => ?_
  split <;> simp +contextual (maxDischargeDepth := 60) [State.conf_mk, State.conf_fold, *]
@[simp] theorem State.setVEmit_conf {s c} : State.conf (State.setVEmit s c) = State.conf s := by
  unfold State.setVEmit; (repeat' split) <;> simp (maxDischargeDepth := 60) [State.conf_mk, State.conf_fold, *]
@[simp] theorem State.emitStream_conf {s c bs} : State.conf (State.emitStream s c bs) = State.conf s := by
  unfold State.emitStream; (repeat' split) <;> simp (maxDischargeDepth := 60) [State.conf_mk, State.conf_fold, *]
@[simp] theorem State.opEmit_conf {s c w} : State.conf (State.opEmit s c w) = State.conf s := by
  unfold State.opEmit; simp (maxDischargeDepth := 60) [State.conf_mk, State.conf_fold, *]
@[simp] theorem State.opBar_conf {s c w} : State.conf (State.opBar s c w) = State.conf s := by
  unfold State.opBar
  refine State.instr_conf fun t => ?_
  cases c <;> dsimp only <;> (repeat' split) <;> simp (maxDischargeDepth := 60) [State.conf_mk, State.conf_fold, *]
@[simp] theorem State.classNext_conf {s n k shelf} : State.conf (State.classNext s n k shelf) = State.conf s := by
  unfold State.classNext; simp (maxDischargeDepth := 60) [State.conf_mk, State.conf_fold, *]
@[simp] theorem State.opPrio_conf {s c w} : State.conf (State.opPrio s c w) = State.conf s := by
  unfold State.opPrio; (repeat' split) <;> simp (maxDischargeDepth := 60) [State.conf_mk, State.conf_fold, *]
@[simp] theorem State.opSig_conf {s c w} : State.conf (State.opSig s c w) = State.conf s := by
  unfold State.opSig; simp (maxDischargeDepth := 60) [State.conf_mk, State.conf_fold, *]
@[simp] theorem State.opSwappt_conf {s c w} : State.conf (State.opSwappt s c w) = State.conf s := by
  unfold State.opSwappt; (repeat' split) <;> simp (maxDischargeDepth := 60) [State.conf_mk, State.conf_fold, *]
@[simp] theorem State.barRelease_conf {s b timeout} : State.conf (State.barRelease s b timeout) = State.conf s := by
  unfold State.barRelease; simp (maxDischargeDepth := 60) [State.conf_mk, State.conf_fold, *]
@[simp] theorem State.barEnd_conf {s b timeout} : State.conf (State.barEnd s b timeout) = State.conf s := by
  unfold State.barEnd; simp (maxDischargeDepth := 60) [State.conf_mk, State.conf_fold, *]
@[simp] theorem State.execWord_conf {s c op w} : State.conf (State.execWord s c op w) = State.conf s := by
  unfold State.execWord; (repeat' split) <;> simp (maxDischargeDepth := 60) [State.conf_mk, State.conf_fold, *]
@[simp] theorem State.stepWord_conf {s c} : State.conf (State.stepWord s c) = State.conf s := by
  unfold State.stepWord; (repeat' split) <;> simp (maxDischargeDepth := 60) [State.conf_mk, State.conf_fold, *]
@[simp] theorem State.runWords_conf {k s c} : State.conf (State.runWords k s c) = State.conf s := by
  induction k generalizing s with
  | zero => rfl
  | succ k ih =>
    unfold State.runWords
    split
    · rw [ih, State.stepWord_conf]
    · rfl

/-! Machine/Lantern.lean -/

@[simp] theorem State.xsettle_conf {s n} : State.conf (State.xsettle s n) = State.conf s := by
  unfold State.xsettle; simp (maxDischargeDepth := 60) [State.conf_mk, State.conf_fold, *]
@[simp] theorem State.crossbar_conf {s o} : State.conf (State.crossbar s o) = State.conf s := by
  unfold State.crossbar
  extract_lets v0 v1
  have h_v0 : State.conf v0 = State.conf s := by subst v0; ((repeat' split) <;> simp (maxDischargeDepth := 60) [State.conf_mk, State.conf_fold, *])
  clear_value v0
  have h_v1 : State.conf v1 = State.conf s := by subst v1; ((repeat' split) <;> simp (maxDischargeDepth := 60) [State.conf_mk, State.conf_fold, *])
  clear_value v1
  simp (maxDischargeDepth := 60) [State.conf_mk, State.conf_fold, *]
@[simp] theorem State.laneRefs_conf {s r} : State.conf (State.laneRefs s r) = State.conf s := by
  unfold State.laneRefs; simp (maxDischargeDepth := 60) [State.conf_mk, State.conf_fold, *]
@[simp] theorem State.laneSelf_conf {s r} : State.conf (State.laneSelf s r) = State.conf s := by
  unfold State.laneSelf; (repeat' split) <;> simp (maxDischargeDepth := 60) [State.conf_mk, State.conf_fold, *]
@[simp] theorem State.beginSlot_conf {s v} : State.conf (State.beginSlot s v) = State.conf s := by
  unfold State.beginSlot; simp (maxDischargeDepth := 60) [State.conf_mk, State.conf_fold, *]
@[simp] theorem State.visitOver_conf {s} : State.conf (State.visitOver s) = State.conf s := by
  unfold State.visitOver; (repeat' split) <;> simp (maxDischargeDepth := 60) [State.conf_mk, State.conf_fold, *]
@[simp] theorem State.endSlot_conf {s} : State.conf (State.endSlot s) = State.conf s := by
  unfold State.endSlot; simp (maxDischargeDepth := 60) [State.conf_mk, State.conf_fold, *]
@[simp] theorem State.laneTake_conf {s} : State.conf (State.laneTake s) = State.conf s := by
  unfold State.laneTake; simp (maxDischargeDepth := 60) [State.conf_mk, State.conf_fold, *]
@[simp] theorem State.refStart_conf {s r} : State.conf (State.refStart s r) = State.conf s := by
  unfold State.refStart; simp (maxDischargeDepth := 60) [State.conf_mk, State.conf_fold, *]
@[simp] theorem State.laneRest_conf {s} : State.conf (State.laneRest s) = State.conf s := by
  unfold State.laneRest; simp (maxDischargeDepth := 60) [State.conf_mk, State.conf_fold, *]
@[simp] theorem State.laneOff_conf {s} : State.conf (State.laneOff s) = State.conf s := by
  unfold State.laneOff
  extract_lets v0
  have h_v0 : State.conf v0 = State.conf s := by subst v0; simp (maxDischargeDepth := 60) [State.conf_mk, State.conf_fold, *]
  clear_value v0
  simp (maxDischargeDepth := 60) [State.conf_mk, State.conf_fold, *]
@[simp] theorem State.tourEnds_conf {s} : State.conf (State.tourEnds s) = State.conf s := by
  unfold State.tourEnds; (repeat' split) <;> simp (maxDischargeDepth := 60) [State.conf_mk, State.conf_fold, *]
@[simp] theorem State.laneAgain_conf {s n reps confirm} : State.conf (State.laneAgain s n reps confirm) = State.conf s := by
  unfold State.laneAgain; (repeat' split) <;> simp (maxDischargeDepth := 60) [State.conf_mk, State.conf_fold, *]
@[simp] theorem State.laneSuspect_conf {s v ev ei} : State.conf (State.laneSuspect s v ev ei) = State.conf s := by
  unfold State.laneSuspect
  extract_lets v0 v1 v2 v3 v4 v5
  clear_value v0
  clear_value v1
  have h_v2 : State.conf v2 = State.conf s := by subst v2; simp (maxDischargeDepth := 60) [State.conf_mk, State.conf_fold, *]
  clear_value v2
  clear_value v3
  have h_v4 : State.conf v4 = State.conf s := by subst v4; simp (maxDischargeDepth := 60) [State.conf_mk, State.conf_fold, *]
  clear_value v4
  have h_v5 : State.conf v5 = State.conf s := by subst v5; simp (maxDischargeDepth := 60) [State.conf_mk, State.conf_fold, *]
  clear_value v5
  simp (maxDischargeDepth := 60) [State.conf_mk, State.conf_fold, *]
@[simp] theorem State.laneCount_conf {s v} : State.conf (State.laneCount s v) = State.conf s := by
  unfold State.laneCount; simp (maxDischargeDepth := 60) [State.conf_mk, State.conf_fold, *]
@[simp] theorem State.laneReport_conf {s v a b} : State.conf (State.laneReport s v a b) = State.conf s := by
  unfold State.laneReport
  extract_lets v0 v1 v2 v3 v4 v5 v6
  clear_value v0
  clear_value v1
  clear_value v2
  have h_v3 : State.conf v3 = State.conf s := by subst v3; simp (maxDischargeDepth := 60) [State.conf_mk, State.conf_fold, *]
  clear_value v3
  have h_v4 : State.conf v4 = State.conf s := by subst v4; simp (maxDischargeDepth := 60) [State.conf_mk, State.conf_fold, *]
  clear_value v4
  have h_v5 : State.conf v5 = State.conf s := by subst v5; simp (maxDischargeDepth := 60) [State.conf_mk, State.conf_fold, *]
  clear_value v5
  have h_v6 : State.conf v6 = State.conf s := by subst v6; simp (maxDischargeDepth := 60) [State.conf_mk, State.conf_fold, *]
  clear_value v6
  simp (maxDischargeDepth := 60) [State.conf_mk, State.conf_fold, *]
@[simp] theorem State.laneKeep_conf {s v a b} : State.conf (State.laneKeep s v a b) = State.conf s := by
  unfold State.laneKeep; simp (maxDischargeDepth := 60) [State.conf_mk, State.conf_fold, *]
@[simp] theorem State.commitFix_conf {s f} : State.conf (State.commitFix s f) = State.conf s := by
  unfold State.commitFix
  extract_lets v0 v1 v2
  clear_value v0
  clear_value v1
  have h_v2 : State.conf v2 = State.conf s := by subst v2; simp (maxDischargeDepth := 60) [State.conf_mk, State.conf_fold, *]
  clear_value v2
  simp (maxDischargeDepth := 60) [State.conf_mk, State.conf_fold, *]
@[simp] theorem State.histFix_conf {s f} : State.conf (State.histFix s f) = State.conf s := by
  unfold State.histFix; simp (maxDischargeDepth := 60) [State.conf_mk, State.conf_fold, *]
@[simp] theorem State.laneDropped_conf {s} : State.conf (State.laneDropped s) = State.conf s := by
  unfold State.laneDropped; simp (maxDischargeDepth := 60) [State.conf_mk, State.conf_fold, *]
@[simp] theorem State.laneAbandon_conf {s} : State.conf (State.laneAbandon s) = State.conf s := by
  unfold State.laneAbandon; (repeat' split) <;> simp (maxDischargeDepth := 60) [State.conf_mk, State.conf_fold, *]
@[simp] theorem State.dirtyRegion_conf {s r} : State.conf (State.dirtyRegion s r) = State.conf s := by
  unfold State.dirtyRegion; simp (maxDischargeDepth := 60) [State.conf_mk, State.conf_fold, *]
@[simp] theorem State.adoptStart_conf {s} : State.conf (State.adoptStart s) = State.conf s := by
  unfold State.adoptStart; simp (maxDischargeDepth := 60) [State.conf_mk, State.conf_fold, *]
@[simp] theorem State.adoptEnable_conf {s n} : State.conf (State.adoptEnable s n) = State.conf s := by
  unfold State.adoptEnable; simp (maxDischargeDepth := 60) [State.conf_mk, State.conf_fold, *]
@[simp] theorem State.adoptRelease_conf {s} : State.conf (State.adoptRelease s) = State.conf s := by
  unfold State.adoptRelease; simp (maxDischargeDepth := 60) [State.conf_mk, State.conf_fold, *]
@[simp] theorem State.refBoundary_conf {s} : State.conf (State.refBoundary s) = State.conf s := by
  unfold State.refBoundary; (repeat' split) <;> simp (maxDischargeDepth := 60) [State.conf_mk, State.conf_fold, *]
@[simp] theorem State.laneBoundary_conf {s} : State.conf (State.laneBoundary s) = State.conf s := by
  unfold State.laneBoundary; dsimp only; (repeat' split) <;> simp +contextual (maxDischargeDepth := 60) [State.conf_mk, State.conf_fold, *]
@[simp] theorem State.laneWake_conf {s} : State.conf (State.laneWake s) = State.conf s := by
  unfold State.laneWake; simp (maxDischargeDepth := 60) [State.conf_mk, State.conf_fold, *]

/-! Machine/Spare.lean -/

@[simp] theorem mapFld_conf {p} : Reg.isConf (mapFld p).reg = false := by simp [mapFld]
@[simp] theorem State.noteTest_conf {s c pass cover} : State.conf (State.noteTest s c pass cover) = State.conf s := by
  unfold State.noteTest; simp (maxDischargeDepth := 60) [State.conf_mk, State.conf_fold, *]
@[simp] theorem State.startLbist_conf {s c} : State.conf (State.startLbist s c) = State.conf s := by
  unfold State.startLbist; simp (maxDischargeDepth := 60) [State.conf_mk, State.conf_fold, *]
@[simp] theorem State.retire_conf {s c} : State.conf (State.retire s c) = State.conf s := by
  unfold State.retire
  extract_lets v0 v1
  have h_v0 : State.conf v0 = State.conf s := by subst v0; simp (maxDischargeDepth := 60) [State.conf_mk, State.conf_fold, *]
  clear_value v0
  have h_v1 : State.conf v1 = State.conf s := by subst v1; simp (maxDischargeDepth := 60) [State.conf_mk, State.conf_fold, *]
  clear_value v1
  simp (maxDischargeDepth := 60) [State.conf_mk, State.conf_fold, *]
@[simp] theorem State.handOver_conf {s k c} : State.conf (State.handOver s k c) = State.conf s := by
  unfold State.handOver; simp (maxDischargeDepth := 60) [State.conf_mk, State.conf_fold, *]
@[simp] theorem State.rotNow_conf {s} : State.conf (State.rotNow s) = State.conf s := by
  unfold State.rotNow; simp (maxDischargeDepth := 60) [State.conf_mk, State.conf_fold, *]
@[simp] theorem State.retGo_conf {s k} : State.conf (State.retGo s k) = State.conf s := by
  unfold State.retGo; (repeat' split) <;> simp (maxDischargeDepth := 60) [State.conf_mk, State.conf_fold, *]
@[simp] theorem State.mismBoundary_conf {s} : State.conf (State.mismBoundary s) = State.conf s := by
  unfold State.mismBoundary; (repeat' split) <;> simp (maxDischargeDepth := 60) [State.conf_mk, State.conf_fold, *]
@[simp] theorem State.spareBoundary_conf {s} : State.conf (State.spareBoundary s) = State.conf s := by
  unfold State.spareBoundary; simp (maxDischargeDepth := 60) [State.conf_mk, State.conf_fold, *]

/-! Machine/Metric.lean -/

@[simp] theorem State.dcirDeliver_conf {s n c} : State.conf (State.dcirDeliver s n c) = State.conf s := by
  unfold State.dcirDeliver; simp (maxDischargeDepth := 60) [State.conf_mk, State.conf_fold, *]
@[simp] theorem State.dcirReady_conf {s n} : State.conf (State.dcirReady s n) = State.conf s := by
  unfold State.dcirReady
  extract_lets v0 v1 v2
  clear_value v0
  clear_value v1
  have h_v2 : State.conf v2 = State.conf s := by subst v2; simp (maxDischargeDepth := 60) [State.conf_mk, State.conf_fold, *]
  clear_value v2
  simp (maxDischargeDepth := 60) [State.conf_mk, State.conf_fold, *]
@[simp] theorem State.eisWrite_conf {s n e re im ia q} : State.conf (State.eisWrite s n e re im ia q) = State.conf s := by
  unfold State.eisWrite; simp (maxDischargeDepth := 60) [State.conf_mk, State.conf_fold, *]
@[simp] theorem State.eisDeliver_conf {s n e} : State.conf (State.eisDeliver s n e) = State.conf s := by
  unfold State.eisDeliver; simp (maxDischargeDepth := 60) [State.conf_mk, State.conf_fold, *]
@[simp] theorem State.eisReady_conf {s n} : State.conf (State.eisReady s n) = State.conf s := by
  unfold State.eisReady; (repeat' split) <;> simp (maxDischargeDepth := 60) [State.conf_mk, State.conf_fold, *]
@[simp] theorem State.ocvShow_conf {s n o} : State.conf (State.ocvShow s n o) = State.conf s := by
  unfold State.ocvShow; simp (maxDischargeDepth := 60) [State.conf_mk, State.conf_fold, *]
@[simp] theorem State.ocvSample_conf {s n t v bad blend} : State.conf (State.ocvSample s n t v bad blend) = State.conf s := by
  unfold State.ocvSample; simp (maxDischargeDepth := 60) [State.conf_mk, State.conf_fold, *]
@[simp] theorem State.ocvTemp_conf {s n} : State.conf (State.ocvTemp s n) = State.conf s := by
  unfold State.ocvTemp; simp (maxDischargeDepth := 60) [State.conf_mk, State.conf_fold, *]
@[simp] theorem State.countLife_conf {s n v i dt} : State.conf (State.countLife s n v i dt) = State.conf s := by
  unfold State.countLife
  extract_lets v0 v1 v2 v3 v4 v5
  clear_value v0
  clear_value v1
  clear_value v2
  clear_value v3
  clear_value v4
  have h_v5 : State.conf v5 = State.conf s := by subst v5; simp (maxDischargeDepth := 60) [State.conf_mk, State.conf_fold, *]
  clear_value v5
  simp (maxDischargeDepth := 60) [State.conf_mk, State.conf_fold, *]
@[simp] theorem State.counterWrite_conf {s n energy val} : State.conf (State.counterWrite s n energy val) = State.conf s := by
  unfold State.counterWrite
  extract_lets v0
  have h_v0 : State.conf v0 = State.conf s := by subst v0; simp (maxDischargeDepth := 60) [State.conf_mk, State.conf_fold, *]
  clear_value v0
  simp (maxDischargeDepth := 60) [State.conf_mk, State.conf_fold, *]

/-! Machine/Slot.lean -/

@[simp] theorem State.degExpire_conf {s n sat time} : State.conf (State.degExpire s n sat time) = State.conf s := by
  unfold State.degExpire; (repeat' split) <;> simp (maxDischargeDepth := 60) [State.conf_mk, State.conf_fold, *]
@[simp] theorem State.resumed_conf {s n was} : State.conf (State.resumed s n was) = State.conf s := by
  unfold State.resumed; simp (maxDischargeDepth := 60) [State.conf_mk, State.conf_fold, *]
@[simp] theorem State.armsClose_conf {s n all} : State.conf (State.armsClose s n all) = State.conf s := by
  unfold State.armsClose
  extract_lets x
  clear_value x
  split
  · split <;> simp (maxDischargeDepth := 60) [State.conf_mk, State.conf_fold, *]
  · extract_lets start o deg s1
    have h1 : State.conf s1 = State.conf s := by subst s1; simp (maxDischargeDepth := 60) [State.conf_mk, State.conf_fold, *]
    clear_value s1 start o deg
    (repeat' split) <;> simp (maxDischargeDepth := 60) [State.conf_mk, State.conf_fold, *]
@[simp] theorem State.timedReady_conf {s c} : State.conf (State.timedReady s c) = State.conf s := by
  unfold State.timedReady; (repeat' split) <;> simp (maxDischargeDepth := 60) [State.conf_mk, State.conf_fold, *]
@[simp] theorem State.gapHold_conf {s n} : State.conf (State.gapHold s n) = State.conf s := by
  unfold State.gapHold; simp (maxDischargeDepth := 60) [State.conf_mk, State.conf_fold, *]
@[simp] theorem State.gapSlot_conf {s n} : State.conf (State.gapSlot s n) = State.conf s := by
  unfold State.gapSlot; simp (maxDischargeDepth := 60) [State.conf_mk, State.conf_fold, *]
@[simp] theorem State.contribute_conf {s n} : State.conf (State.contribute s n) = State.conf s := by
  unfold State.contribute; simp (maxDischargeDepth := 60) [State.conf_mk, State.conf_fold, *]
@[simp] theorem State.scaleSlot_conf {s n} : State.conf (State.scaleSlot s n) = State.conf s := by
  unfold State.scaleSlot; simp (maxDischargeDepth := 60) [State.conf_mk, State.conf_fold, *]
@[simp] theorem State.chanSlot_conf {s n all} : State.conf (State.chanSlot s n all) = State.conf s := by
  unfold State.chanSlot
  extract_lets v0
  have h_v0 : State.conf v0 = State.conf s := by subst v0; simp (maxDischargeDepth := 60) [State.conf_mk, State.conf_fold, *]
  clear_value v0
  ((repeat' split) <;> (try extract_lets) <;> simp (maxDischargeDepth := 60) +zetaDelta [State.conf_mk, State.conf_fold, *])
@[simp] theorem State.shelfSlot_conf {s} : State.conf (State.shelfSlot s) = State.conf s := by
  unfold State.shelfSlot; simp (maxDischargeDepth := 60) [State.conf_mk, State.conf_fold, *]
@[simp] theorem State.dueSlot_conf {s n} : State.conf (State.dueSlot s n) = State.conf s := by
  unfold State.dueSlot; simp (maxDischargeDepth := 60) [State.conf_mk, State.conf_fold, *]
@[simp] theorem State.dueShelf_conf {s} : State.conf (State.dueShelf s) = State.conf s := by
  unfold State.dueShelf; simp (maxDischargeDepth := 60) [State.conf_mk, State.conf_fold, *]
@[simp] theorem State.slotsEnd_conf {s} : State.conf (State.slotsEnd s) = State.conf s := by
  unfold State.slotsEnd; simp (maxDischargeDepth := 60) [State.conf_mk, State.conf_fold, *]

/-! Machine/Program.lean -/

@[simp] theorem State.storeWrite_conf {s addr vals} : State.conf (State.storeWrite s addr vals) = State.conf s := by
  unfold State.storeWrite; simp (maxDischargeDepth := 60) [State.conf_mk, State.conf_fold, *]
@[simp] theorem State.bankBoundary_conf {s} : State.conf (State.bankBoundary s) = State.conf s := by
  unfold State.bankBoundary
  extract_lets v0
  have h_v0 : State.conf v0 = State.conf s := by subst v0; simp (maxDischargeDepth := 60) [State.conf_mk, State.conf_fold, *]
  clear_value v0
  simp (maxDischargeDepth := 60) [State.conf_mk, State.conf_fold, *]
@[simp] theorem State.hostStart_conf {s n} : State.conf (State.hostStart s n) = State.conf s := by
  unfold State.hostStart; simp (maxDischargeDepth := 60) [State.conf_mk, State.conf_fold, *]
@[simp] theorem State.hostStop_conf {s n} : State.conf (State.hostStop s n) = State.conf s := by
  unfold State.hostStop; simp (maxDischargeDepth := 60) [State.conf_mk, State.conf_fold, *]
@[simp] theorem State.startContext_conf {s n} : State.conf (State.startContext s n) = State.conf s := by
  unfold State.startContext
  extract_lets v0 v1 v2 v3 v4
  have h_v0 : State.conf v0 = State.conf s := by subst v0; simp (maxDischargeDepth := 60) [State.conf_mk, State.conf_fold, *]
  clear_value v0
  have h_v1 : State.conf v1 = State.conf s := by subst v1; simp (maxDischargeDepth := 60) [State.conf_mk, State.conf_fold, *]
  clear_value v1
  have h_v2 : State.conf v2 = State.conf s := by subst v2; simp (maxDischargeDepth := 60) [State.conf_mk, State.conf_fold, *]
  clear_value v2
  have h_v3 : State.conf v3 = State.conf s := by subst v3; simp (maxDischargeDepth := 60) [State.conf_mk, State.conf_fold, *]
  clear_value v3
  have h_v4 : State.conf v4 = State.conf s := by subst v4; simp (maxDischargeDepth := 60) [State.conf_mk, State.conf_fold, *]
  clear_value v4
  simp (maxDischargeDepth := 60) [State.conf_mk, State.conf_fold, *]
@[simp] theorem State.startLane_conf {s j} : State.conf (State.startLane s j) = State.conf s := by
  unfold State.startLane
  extract_lets v0 v1 v2 v3
  have h_v0 : State.conf v0 = State.conf s := by subst v0; simp (maxDischargeDepth := 60) [State.conf_mk, State.conf_fold, *]
  clear_value v0
  have h_v1 : State.conf v1 = State.conf s := by subst v1; simp (maxDischargeDepth := 60) [State.conf_mk, State.conf_fold, *]
  clear_value v1
  have h_v2 : State.conf v2 = State.conf s := by subst v2; simp (maxDischargeDepth := 60) [State.conf_mk, State.conf_fold, *]
  clear_value v2
  have h_v3 : State.conf v3 = State.conf s := by subst v3; simp (maxDischargeDepth := 60) [State.conf_mk, State.conf_fold, *]
  clear_value v3
  simp (maxDischargeDepth := 60) [State.conf_mk, State.conf_fold, *]
@[simp] theorem State.startAccept_conf {s n} : State.conf (State.startAccept s n) = State.conf s := by
  unfold State.startAccept; (repeat' split) <;> simp (maxDischargeDepth := 60) [State.conf_mk, State.conf_fold, *]
@[simp] theorem State.startRefuse_conf {s n} : State.conf (State.startRefuse s n) = State.conf s := by
  unfold State.startRefuse
  extract_lets v0
  have h_v0 : State.conf v0 = State.conf s := by subst v0; simp (maxDischargeDepth := 60) [State.conf_mk, State.conf_fold, *]
  clear_value v0
  simp (maxDischargeDepth := 60) [State.conf_mk, State.conf_fold, *]
@[simp] theorem State.requestBoundary_conf {s n} : State.conf (State.requestBoundary s n) = State.conf s := by
  unfold State.requestBoundary; simp (maxDischargeDepth := 60) [State.conf_mk, State.conf_fold, *]
@[simp] theorem State.shelfStart_conf {s} : State.conf (State.shelfStart s) = State.conf s := by
  unfold State.shelfStart; simp (maxDischargeDepth := 60) [State.conf_mk, State.conf_fold, *]

/-! Machine/Link.lean -/

@[simp] theorem State.modSess_conf {s k f} : State.conf (State.modSess s k f) = State.conf s := by
  unfold State.modSess; simp (maxDischargeDepth := 60) [State.conf_mk, State.conf_fold, *]
@[simp] theorem State.closeSess_conf {s k} : State.conf (State.closeSess s k) = State.conf s := by
  unfold State.closeSess; simp (maxDischargeDepth := 60) [State.conf_mk, State.conf_fold, *]
@[simp] theorem State.transmit_conf {s f} : State.conf (State.transmit s f) = State.conf s := by
  unfold State.transmit; (repeat' split) <;> simp (maxDischargeDepth := 60) [State.conf_mk, State.conf_fold, *]
@[simp] theorem State.modRate_conf {s f} : State.conf (State.modRate s f) = State.conf s := by
  unfold State.modRate; simp (maxDischargeDepth := 60) [State.conf_mk, State.conf_fold, *]
@[simp] theorem State.rateFrames_conf {s op} : State.conf (State.rateFrames s op) = State.conf s := by
  unfold State.rateFrames; simp (maxDischargeDepth := 60) [State.conf_mk, State.conf_fold, *]
@[simp] theorem State.decDue_conf {s} : State.conf (State.decDue s) = State.conf s := by
  unfold State.decDue; simp (maxDischargeDepth := 60) [State.conf_mk, State.conf_fold, *]
@[simp] theorem State.rateSwitch_conf {s} : State.conf (State.rateSwitch s) = State.conf s := by
  unfold State.rateSwitch
  extract_lets v0 v1 v2
  clear_value v0
  have h_v1 : State.conf v1 = State.conf s := by subst v1; simp (maxDischargeDepth := 60) [State.conf_mk, State.conf_fold, *]
  clear_value v1
  have h_v2 : State.conf v2 = State.conf s := by subst v2; simp (maxDischargeDepth := 60) [State.conf_mk, State.conf_fold, *]
  clear_value v2
  simp (maxDischargeDepth := 60) [State.conf_mk, State.conf_fold, *]
@[simp] theorem State.propose_conf {s la lb restore} : State.conf (State.propose s la lb restore) = State.conf s := by
  unfold State.propose
  extract_lets v0
  have h_v0 : State.conf v0 = State.conf s := by subst v0; simp (maxDischargeDepth := 60) [State.conf_mk, State.conf_fold, *]
  clear_value v0
  simp (maxDischargeDepth := 60) [State.conf_mk, State.conf_fold, *]
@[simp] theorem State.proposeSleep_conf {s} : State.conf (State.proposeSleep s) = State.conf s := by
  unfold State.proposeSleep; simp (maxDischargeDepth := 60) [State.conf_mk, State.conf_fold, *]
@[simp] theorem State.proposeRestore_conf {s} : State.conf (State.proposeRestore s) = State.conf s := by
  unfold State.proposeRestore; simp (maxDischargeDepth := 60) [State.conf_mk, State.conf_fold, *]
@[simp] theorem State.rateExit_conf {s} : State.conf (State.rateExit s) = State.conf s := by
  unfold State.rateExit; (repeat' split) <;> simp (maxDischargeDepth := 60) [State.conf_mk, State.conf_fold, *]
@[simp] theorem State.rateControl_conf {s k op} : State.conf (State.rateControl s k op) = State.conf s := by
  unfold State.rateControl; simp (maxDischargeDepth := 60) [State.conf_mk, State.conf_fold, *]
@[simp] theorem State.sendEvent_conf {s k f} : State.conf (State.sendEvent s k f) = State.conf s := by
  unfold State.sendEvent; simp (maxDischargeDepth := 60) [State.conf_mk, State.conf_fold, *]
@[simp] theorem State.streamSeqNext_conf {s st} : State.conf (State.streamSeqNext s st) = State.conf s := by
  unfold State.streamSeqNext; simp (maxDischargeDepth := 60) [State.conf_mk, State.conf_fold, *]
@[simp] theorem State.sendStream_conf {s st index body} : State.conf (State.sendStream s st index body) = State.conf s := by
  unfold State.sendStream; (repeat' split) <;> simp (maxDischargeDepth := 60) [State.conf_mk, State.conf_fold, *]
@[simp] theorem State.recAck_conf {s ack} : State.conf (State.recAck s ack) = State.conf s := by
  unfold State.recAck; simp (maxDischargeDepth := 60) [State.conf_mk, State.conf_fold, *]
@[simp] theorem State.sendInstant_conf {s st stamp per size entry} : State.conf (State.sendInstant s st stamp per size entry) = State.conf s := by
  unfold State.sendInstant; simp (maxDischargeDepth := 60) [State.conf_mk, State.conf_fold, *]
@[simp] theorem State.sendRaw_conf {s md raw} : State.conf (State.sendRaw s md raw) = State.conf s := by
  unfold State.sendRaw; simp (maxDischargeDepth := 60) [State.conf_mk, State.conf_fold, *]
@[simp] theorem State.evalStream_conf {s p st} : State.conf (State.evalStream s p st).1 = State.conf p.1 := by
  unfold State.evalStream
  dsimp only
  split <;> simp (maxDischargeDepth := 60) [State.conf_mk, State.conf_fold]
@[simp] theorem State.streamWrite_conf {s st val} : State.conf (State.streamWrite s st val) = State.conf s := by
  unfold State.streamWrite
  extract_lets v0
  have h_v0 : State.conf v0 = State.conf s := by subst v0; simp (maxDischargeDepth := 60) [State.conf_mk, State.conf_fold, *]
  clear_value v0
  ((repeat' split) <;> (try extract_lets) <;> simp (maxDischargeDepth := 60) +zetaDelta [State.conf_mk, State.conf_fold, *])
@[simp] theorem State.reply_conf {s p pkt} : State.conf (State.reply s p pkt) = State.conf s := by
  unfold State.reply; simp (maxDischargeDepth := 60) [State.conf_mk, State.conf_fold, *]

/-! Machine/Modes.lean -/

@[simp] theorem State.modeBoundary_conf {s0} : State.conf (State.modeBoundary s0) = State.conf s0 := by
  unfold State.modeBoundary
  extract_lets v0 v1 v2
  have h_v0 : State.conf v0 = State.conf s0 := by subst v0; simp (maxDischargeDepth := 60) [State.conf_mk, State.conf_fold, *]
  clear_value v0
  clear_value v1
  have h_v2 : State.conf v2 = State.conf s0 := by subst v2; simp (maxDischargeDepth := 60) [State.conf_mk, State.conf_fold, *]
  clear_value v2
  ((repeat' split) <;> (try extract_lets) <;> simp +zetaDelta +contextual (maxDischargeDepth := 60) [State.conf_mk, State.conf_fold, *])
@[simp] theorem State.modeWrite_conf {s val} : State.conf (State.modeWrite s val) = State.conf s := by
  unfold State.modeWrite; simp (maxDischargeDepth := 60) [State.conf_mk, State.conf_fold, *]
@[simp] theorem State.spareSleep_conf {s} : State.conf (State.spareSleep s) = State.conf s := by
  unfold State.spareSleep; simp (maxDischargeDepth := 60) [State.conf_mk, State.conf_fold, *]
@[simp] theorem State.spareWake_conf {s} : State.conf (State.spareWake s) = State.conf s := by
  unfold State.spareWake; (repeat' split) <;> simp (maxDischargeDepth := 60) [State.conf_mk, State.conf_fold, *]
@[simp] theorem State.enterMode_conf {s target} : State.conf (State.enterMode s target) = State.conf s := by
  unfold State.enterMode; (repeat' split) <;> simp (maxDischargeDepth := 60) [State.conf_mk, State.conf_fold, *]
@[simp] theorem State.burstChan_conf {s n stamp} : State.conf (State.burstChan s n stamp) = State.conf s := by
  unfold State.burstChan; dsimp only; (repeat' split) <;> simp +contextual (maxDischargeDepth := 60) [State.conf_mk, State.conf_fold, *]
@[simp] theorem State.leaveAging_conf {s} : State.conf (State.leaveAging s) = State.conf s := by
  unfold State.leaveAging; simp (maxDischargeDepth := 60) [State.conf_mk, State.conf_fold, *]
@[simp] theorem State.safeWaited_conf {s} : State.conf (State.safeWaited s) = State.conf s := by
  unfold State.safeWaited; (repeat' split) <;> simp (maxDischargeDepth := 60) [State.conf_mk, State.conf_fold, *]
@[simp] theorem State.resumeAging_conf {s n} : State.conf (State.resumeAging s n) = State.conf s := by
  unfold State.resumeAging; simp (maxDischargeDepth := 60) [State.conf_mk, State.conf_fold, *]

/-! Machine/SelfTest.lean -/

@[simp] theorem bandFld_conf {p} : Reg.isConf (bandFld p).reg = false := by simp [bandFld]
@[simp] theorem faultFld_conf {p} : Reg.isConf (faultFld p).reg = false := by simp [faultFld]
@[simp] theorem State.noteFail_conf {s off bit mram uncorr repaired pending} : State.conf (State.noteFail s off bit mram uncorr repaired pending) = State.conf s := by
  unfold State.noteFail
  extract_lets v0
  have h_v0 : State.conf v0 = State.conf s := by subst v0; simp (maxDischargeDepth := 60) [State.conf_mk, State.conf_fold, *]
  clear_value v0
  simp (maxDischargeDepth := 60) [State.conf_mk, State.conf_fold, *]
@[simp] theorem State.sramFail_conf {s slice} : State.conf (State.sramFail s slice) = State.conf s := by
  unfold State.sramFail; simp (maxDischargeDepth := 60) [State.conf_mk, State.conf_fold, *]
@[simp] theorem State.mramFind_conf {s f} : State.conf (State.mramFind s f) = State.conf s := by
  unfold State.mramFind; simp (maxDischargeDepth := 60) [State.conf_mk, State.conf_fold, *]
@[simp] theorem State.mramVerify_conf {s l} : State.conf (State.mramVerify s l) = State.conf s := by
  unfold State.mramVerify; simp (maxDischargeDepth := 60) [State.conf_mk, State.conf_fold, *]
@[simp] theorem State.loopbackStop_conf {s w b} : State.conf (State.loopbackStop s w b) = State.conf s := by
  unfold State.loopbackStop; simp (maxDischargeDepth := 60) [State.conf_mk, State.conf_fold, *]
@[simp] theorem State.cellTemp_conf {s n ohm} : State.conf (State.cellTemp s n ohm) = State.conf s := by
  unfold State.cellTemp
  extract_lets v0 v1 v2 v3
  clear_value v0
  have h_v1 : State.conf v1 = State.conf s := by subst v1; simp (maxDischargeDepth := 60) [State.conf_mk, State.conf_fold, *]
  clear_value v1
  have h_v2 : State.conf v2 = State.conf s := by subst v2; simp (maxDischargeDepth := 60) [State.conf_mk, State.conf_fold, *]
  clear_value v2
  have h_v3 : State.conf v3 = State.conf s := by subst v3; simp (maxDischargeDepth := 60) [State.conf_mk, State.conf_fold, *]
  clear_value v3
  simp (maxDischargeDepth := 60) [State.conf_mk, State.conf_fold, *]
@[simp] theorem State.refCheck_conf {s r1 r2} : State.conf (State.refCheck s r1 r2) = State.conf s := by
  unfold State.refCheck; dsimp only; (repeat' split) <;> simp +contextual (maxDischargeDepth := 60) [State.conf_mk, State.conf_fold, *]
@[simp] theorem State.dieRead_conf {s k code} : State.conf (State.dieRead s k code) = State.conf s := by
  unfold State.dieRead; simp (maxDischargeDepth := 60) [State.conf_mk, State.conf_fold, *]
@[simp] theorem State.blendStart_conf {s n} : State.conf (State.blendStart s n) = State.conf s := by
  unfold State.blendStart; simp (maxDischargeDepth := 60) [State.conf_mk, State.conf_fold, *]
@[simp] theorem State.chanBand_conf {s n b} : State.conf (State.chanBand s n b) = State.conf s := by
  unfold State.chanBand
  extract_lets v0
  have h_v0 : State.conf v0 = State.conf s := by subst v0; simp (maxDischargeDepth := 60) [State.conf_mk, State.conf_fold, *]
  clear_value v0
  simp (maxDischargeDepth := 60) [State.conf_mk, State.conf_fold, *]
@[simp] theorem State.blendStep_conf {s n} : State.conf (State.blendStep s n) = State.conf s := by
  unfold State.blendStep; simp (maxDischargeDepth := 60) [State.conf_mk, State.conf_fold, *]
@[simp] theorem State.bands_conf {s first} : State.conf (State.bands s first) = State.conf s := by
  unfold State.bands
  extract_lets v0
  have h_v0 : State.conf v0 = State.conf s := by subst v0; simp (maxDischargeDepth := 60) [State.conf_mk, State.conf_fold, *]
  clear_value v0
  simp (maxDischargeDepth := 60) [State.conf_mk, State.conf_fold, *]
@[simp] theorem State.dieMax_conf {s} : State.conf (State.dieMax s) = State.conf s := by
  unfold State.dieMax; simp (maxDischargeDepth := 60) [State.conf_mk, State.conf_fold, *]

/-! Machine/Reset.lean -/

@[simp] theorem State.vaultFlush_conf {s} : State.conf (State.vaultFlush s) = State.conf s := by
  unfold State.vaultFlush
  exact foldl_conf fun t _ => State.vaultTake_conf
@[simp] theorem State.logicStart_conf {s} : State.conf (State.logicStart s) = State.conf s := by
  unfold State.logicStart; simp (maxDischargeDepth := 60) [State.conf_mk, State.conf_fold, *]
@[simp] theorem State.spareBoot_conf {s} : State.conf (State.spareBoot s) = State.conf s := by
  unfold State.spareBoot; simp (maxDischargeDepth := 60) [State.conf_mk, State.conf_fold, *]
@[simp] theorem State.wake_conf {s} : State.conf (State.wake s) = State.conf s := by
  unfold State.wake; simp (maxDischargeDepth := 60) [State.conf_mk, State.conf_fold, *]

/-! Machine/Rails.lean -/

@[simp] theorem rfltFld_conf {e b} : Reg.isConf (rfltFld e b).reg = false := by simp [rfltFld]
@[simp] theorem State.railSave_conf {s} : State.conf (State.railSave s) = State.conf s := by
  unfold State.railSave; simp (maxDischargeDepth := 60) [State.conf_mk, State.conf_fold, *]
@[simp] theorem State.railEvent_conf {s e sev} : State.conf (State.railEvent s e sev) = State.conf s := by
  unfold State.railEvent; simp (maxDischargeDepth := 60) [State.conf_mk, State.conf_fold, *]
@[simp] theorem State.ownFail_conf {s e} : State.conf (State.ownFail s e) = State.conf s := by
  unfold State.ownFail; simp (maxDischargeDepth := 60) [State.conf_mk, State.conf_fold, *]
@[simp] theorem State.railFailDown_conf {s e} : State.conf (State.railFailDown s e) = State.conf s := by
  unfold State.railFailDown
  extract_lets v0 v1
  clear_value v0
  have h_v1 : State.conf v1 = State.conf s := by subst v1; simp (maxDischargeDepth := 60) [State.conf_mk, State.conf_fold, *]
  clear_value v1
  simp (maxDischargeDepth := 60) [State.conf_mk, State.conf_fold, *]
@[simp] theorem State.railClear_conf {s e val} : State.conf (State.railClear s e val) = State.conf s := by
  unfold State.railClear
  extract_lets v0
  have h_v0 : State.conf v0 = State.conf s := by subst v0; simp (maxDischargeDepth := 60) [State.conf_mk, State.conf_fold, *]
  clear_value v0
  simp (maxDischargeDepth := 60) [State.conf_mk, State.conf_fold, *]
@[simp] theorem State.loadCal_conf {s l} : State.conf (State.loadCal s l) = State.conf s := by
  unfold State.loadCal
  simp [State.conf_mk, State.conf_fold]
@[simp] theorem State.cfgAlt_conf {s} : State.conf (State.cfgAlt s) = State.conf s := by
  unfold State.cfgAlt; simp (maxDischargeDepth := 60) [State.conf_mk, State.conf_fold, *]
@[simp] theorem State.applyRepairs_conf {s} : State.conf (State.applyRepairs s) = State.conf s := by
  unfold State.applyRepairs
  extract_lets v0 v1
  clear_value v0
  have h_v1 : State.conf v1 = State.conf s := by subst v1; simp (maxDischargeDepth := 60) [State.conf_mk, State.conf_fold, *]
  clear_value v1
  simp (maxDischargeDepth := 60) [State.conf_mk, State.conf_fold, *]
@[simp] theorem State.readAddr_conf {s x} : State.conf (State.readAddr s x) = State.conf s := by
  unfold State.readAddr; (repeat' split) <;> simp (maxDischargeDepth := 60) [State.conf_mk, State.conf_fold, *]
@[simp] theorem State.bootStraps_conf {s} : State.conf (State.bootStraps s) = State.conf s := by
  unfold State.bootStraps; (repeat' split) <;> simp (maxDischargeDepth := 60) [State.conf_mk, State.conf_fold, *]
@[simp] theorem State.bootDie_conf {s die} : State.conf (State.bootDie s die) = State.conf s := by
  unfold State.bootDie
  extract_lets v0
  have h_v0 : State.conf v0 = State.conf s := by subst v0; simp (maxDischargeDepth := 60) [State.conf_mk, State.conf_fold, *]
  clear_value v0
  simp (maxDischargeDepth := 60) [State.conf_mk, State.conf_fold, *]
@[simp] theorem State.bootAdopt_conf {s} : State.conf (State.bootAdopt s) = State.conf s := by
  unfold State.bootAdopt; simp (maxDischargeDepth := 60) [State.conf_mk, State.conf_fold, *]
@[simp] theorem State.bootVault_conf {s} : State.conf (State.bootVault s) = State.conf s := by
  unfold State.bootVault; simp (maxDischargeDepth := 60) [State.conf_mk, State.conf_fold, *]
@[simp] theorem State.bootEnd_conf {s} : State.conf (State.bootEnd s) = State.conf s := by
  unfold State.bootEnd; simp (maxDischargeDepth := 60) [State.conf_mk, State.conf_fold, *]
@[simp] theorem State.recover_conf {s} : State.conf (State.recover s) = State.conf s := by
  unfold State.recover; simp (maxDischargeDepth := 60) [State.conf_mk, State.conf_fold, *]

/-! Machine/Protect.lean -/

@[simp] theorem State.wearJudge_conf {s n} : State.conf (State.wearJudge s n) = State.conf s := by
  unfold State.wearJudge; simp (maxDischargeDepth := 60) [State.conf_mk, State.conf_fold, *]
@[simp] theorem State.ctSample_conf {s n r w ip sat} : State.conf (State.ctSample s n r w ip sat) = State.conf s := by
  unfold State.ctSample; simp (maxDischargeDepth := 60) [State.conf_mk, State.conf_fold, *]
@[simp] theorem State.faultClear_conf {s n val} : State.conf (State.faultClear s n val) = State.conf s := by
  unfold State.faultClear
  extract_lets v0 v1 v2 v3 v4
  clear_value v0
  clear_value v1
  have h_v2 : State.conf v2 = State.conf s := by subst v2; simp (maxDischargeDepth := 60) [State.conf_mk, State.conf_fold, *]
  clear_value v2
  have h_v3 : State.conf v3 = State.conf s := by subst v3; simp (maxDischargeDepth := 60) [State.conf_mk, State.conf_fold, *]
  clear_value v3
  have h_v4 : State.conf v4 = State.conf s := by subst v4; simp (maxDischargeDepth := 60) [State.conf_mk, State.conf_fold, *]
  clear_value v4
  simp (maxDischargeDepth := 60) [State.conf_mk, State.conf_fold, *]
@[simp] theorem State.protBoundary_conf {s n} : State.conf (State.protBoundary s n) = State.conf s := by
  unfold State.protBoundary
  extract_lets v0 v1 v2 v3 v4 v5 v6 v7 v8 v9 v10
  clear_value v0
  clear_value v1
  clear_value v2
  clear_value v3
  clear_value v4
  clear_value v5
  clear_value v6
  clear_value v7
  have h_v8 : State.conf v8 = State.conf s := by subst v8; simp (maxDischargeDepth := 60) [State.conf_mk, State.conf_fold, *]
  clear_value v8
  have h_v9 : State.conf v9 = State.conf s := by subst v9; simp (maxDischargeDepth := 60) [State.conf_mk, State.conf_fold, *]
  clear_value v9
  have h_v10 : State.conf v10 = State.conf s := by subst v10; simp (maxDischargeDepth := 60) [State.conf_mk, State.conf_fold, *]
  clear_value v10
  simp (maxDischargeDepth := 60) [State.conf_mk, State.conf_fold, *]

/-! Machine/Maint.lean -/

@[simp] theorem State.stopRuns_conf {s} : State.conf (State.stopRuns s) = State.conf s := by
  unfold State.stopRuns; simp (maxDischargeDepth := 60) [State.conf_mk, State.conf_fold, *]
@[simp] theorem State.restart_conf {s cause} : State.conf (State.restart s cause) = State.conf s := by
  unfold State.restart; simp (maxDischargeDepth := 60) [State.conf_mk, State.conf_fold, *]
@[simp] theorem State.restartKey_conf {s key} : State.conf (State.restartKey s key) = State.conf s := by
  unfold State.restartKey; simp (maxDischargeDepth := 60) [State.conf_mk, State.conf_fold, *]
@[simp] theorem State.restartEnd_conf {s bankA bankB t0} : State.conf (State.restartEnd s bankA bankB t0) = State.conf s := by
  unfold State.restartEnd; dsimp only; (repeat' split) <;> simp +contextual (maxDischargeDepth := 60) [State.conf_mk, State.conf_fold, *]
@[simp] theorem State.loseChan_conf {s n} : State.conf (State.loseChan s n) = State.conf s := by
  unfold State.loseChan; simp (maxDischargeDepth := 60) [State.conf_mk, State.conf_fold, *]
@[simp] theorem State.cardLost_conf {s k} : State.conf (State.cardLost s k) = State.conf s := by
  unfold State.cardLost; simp (maxDischargeDepth := 60) [State.conf_mk, State.conf_fold, *]
@[simp] theorem State.returnChan_conf {s n} : State.conf (State.returnChan s n) = State.conf s := by
  unfold State.returnChan
  extract_lets v0 v1 v2 v3
  clear_value v0
  have h_v1 : State.conf v1 = State.conf s := by subst v1; simp (maxDischargeDepth := 60) [State.conf_mk, State.conf_fold, *]
  clear_value v1
  have h_v2 : State.conf v2 = State.conf s := by subst v2; simp (maxDischargeDepth := 60) [State.conf_mk, State.conf_fold, *]
  clear_value v2
  have h_v3 : State.conf v3 = State.conf s := by subst v3; simp (maxDischargeDepth := 60) [State.conf_mk, State.conf_fold, *]
  clear_value v3
  simp (maxDischargeDepth := 60) [State.conf_mk, State.conf_fold, *]

/-! Machine/Host.lean -/

@[simp] theorem State.latchTrec_conf {s n} : State.conf (State.latchTrec s n) = State.conf s := by
  unfold State.latchTrec; simp (maxDischargeDepth := 60) [State.conf_mk, State.conf_fold, *]
@[simp] theorem State.regRead_conf {s r} : State.conf (State.regRead s r).2 = State.conf s := by
  unfold State.regRead; (repeat' split) <;> simp (maxDischargeDepth := 60) [State.conf_mk, State.conf_fold, *]
@[simp] theorem State.hostRead_conf {s a} : State.conf (State.hostRead s a).2.2 = State.conf s := by
  unfold State.hostRead; (repeat' split) <;> simp (maxDischargeDepth := 60) [State.conf_mk, State.conf_fold, *]
@[simp] theorem State.safeWrite_conf {s val} : State.conf (State.safeWrite s val) = State.conf s := by
  unfold State.safeWrite; (repeat' split) <;> simp (maxDischargeDepth := 60) [State.conf_mk, State.conf_fold, *]
@[simp] theorem State.pendWrite_conf {s w val} : State.conf (State.pendWrite s w val) = State.conf s := by
  unfold State.pendWrite
  extract_lets v0
  have h_v0 : State.conf v0 = State.conf s := by subst v0; simp (maxDischargeDepth := 60) [State.conf_mk, State.conf_fold, *]
  clear_value v0
  simp (maxDischargeDepth := 60) [State.conf_mk, State.conf_fold, *]
@[simp] theorem State.rfltWrite_conf {s e val} : State.conf (State.rfltWrite s e val) = State.conf s := by
  unfold State.rfltWrite; simp (maxDischargeDepth := 60) [State.conf_mk, State.conf_fold, *]
@[simp] theorem State.fcfgWrite_conf {s f val} : State.conf (State.fcfgWrite s f val) = State.conf s := by
  unfold State.fcfgWrite
  extract_lets v0
  have h_v0 : State.conf v0 = State.conf s := by subst v0; simp (maxDischargeDepth := 60) [State.conf_mk, State.conf_fold, *]
  clear_value v0
  simp (maxDischargeDepth := 60) [State.conf_mk, State.conf_fold, *]
@[simp] theorem State.wdtWrite_conf {s val} : State.conf (State.wdtWrite s val) = State.conf s := by
  unfold State.wdtWrite; simp (maxDischargeDepth := 60) [State.conf_mk, State.conf_fold, *]
@[simp] theorem State.restoreWrite_conf {s w val} : State.conf (State.restoreWrite s w val) = State.conf s := by
  unfold State.restoreWrite; (repeat' split) <;> simp (maxDischargeDepth := 60) [State.conf_mk, State.conf_fold, *]
@[simp] theorem State.axCtlWrite_conf {s j val} : State.conf (State.axCtlWrite s j val) = State.conf s := by
  unfold State.axCtlWrite; (repeat' split) <;> simp (maxDischargeDepth := 60) [State.conf_mk, State.conf_fold, *]
@[simp] theorem State.devWrite_conf {s k val} : State.conf (State.devWrite s k val) = State.conf s := by
  unfold State.devWrite; dsimp only; (repeat' split) <;> simp +contextual (maxDischargeDepth := 60) [State.conf_mk, State.conf_fold, *]
@[simp] theorem State.nzoffWrite_conf {s val} : State.conf (State.nzoffWrite s val) = State.conf s := by
  unfold State.nzoffWrite; (repeat' split) <;> simp (maxDischargeDepth := 60) [State.conf_mk, State.conf_fold, *]
@[simp] theorem State.vtCtlWrite_conf {s val} : State.conf (State.vtCtlWrite s val) = State.conf s := by
  unfold State.vtCtlWrite; (repeat' split) <;> simp (maxDischargeDepth := 60) [State.conf_mk, State.conf_fold, *]
@[simp] theorem State.cctlWrite_conf {s val} : State.conf (State.cctlWrite s val) = State.conf s := by
  unfold State.cctlWrite; (repeat' split) <;> simp (maxDischargeDepth := 60) [State.conf_mk, State.conf_fold, *]
@[simp] theorem State.cslotWrite_conf {s k val} : State.conf (State.cslotWrite s k val) = State.conf s := by
  unfold State.cslotWrite; (repeat' split) <;> simp (maxDischargeDepth := 60) [State.conf_mk, State.conf_fold, *]
@[simp] theorem State.lnStatWrite_conf {s val} : State.conf (State.lnStatWrite s val) = State.conf s := by
  unfold State.lnStatWrite; (repeat' split) <;> simp (maxDischargeDepth := 60) [State.conf_mk, State.conf_fold, *]
@[simp] theorem State.adoptWrite_conf {s val} : State.conf (State.adoptWrite s val) = State.conf s := by
  unfold State.adoptWrite; (repeat' split) <;> simp (maxDischargeDepth := 60) [State.conf_mk, State.conf_fold, *]
@[simp] theorem State.calWrite_conf {s val} : State.conf (State.calWrite s val) = State.conf s := by
  unfold State.calWrite; simp (maxDischargeDepth := 60) [State.conf_mk, State.conf_fold, *]
@[simp] theorem State.shCmdWrite_conf {s val} : State.conf (State.shCmdWrite s val) = State.conf s := by
  unfold State.shCmdWrite; (repeat' split) <;> simp (maxDischargeDepth := 60) [State.conf_mk, State.conf_fold, *]
@[simp] theorem State.chCmdWrite_conf {s n val} : State.conf (State.chCmdWrite s n val) = State.conf s := by
  unfold State.chCmdWrite; (repeat' split) <;> simp (maxDischargeDepth := 60) [State.conf_mk, State.conf_fold, *]
@[simp] theorem State.chGWrite_conf {s n i val} : State.conf (State.chGWrite s n i val) = State.conf s := by
  unfold State.chGWrite; simp (maxDischargeDepth := 60) [State.conf_mk, State.conf_fold, *]
@[simp] theorem State.csGWrite_conf {s i val} : State.conf (State.csGWrite s i val) = State.conf s := by
  unfold State.csGWrite; simp (maxDischargeDepth := 60) [State.conf_mk, State.conf_fold, *]
@[simp] theorem State.pcntWrite_conf {s n val} : State.conf (State.pcntWrite s n val) = State.conf s := by
  unfold State.pcntWrite; simp (maxDischargeDepth := 60) [State.conf_mk, State.conf_fold, *]
@[simp] theorem State.vtQueueWrite_conf {s val} : State.conf (State.vtQueueWrite s val) = State.conf s := by
  unfold State.vtQueueWrite; simp (maxDischargeDepth := 60) [State.conf_mk, State.conf_fold, *]
@[simp] theorem State.lowWrite_conf {s r val} : State.conf (State.lowWrite s r val) = State.conf s := by
  unfold State.lowWrite; simp (maxDischargeDepth := 60) [State.conf_mk, State.conf_fold, *]
@[simp] theorem State.highWrite_conf {s n energy val} : State.conf (State.highWrite s n energy val) = State.conf s := by
  unfold State.highWrite; simp (maxDischargeDepth := 60) [State.conf_mk, State.conf_fold, *]
@[simp] theorem State.readAnswer_conf {s a} : State.conf (State.readAnswer s a) = State.conf s := by
  unfold State.readAnswer; simp (maxDischargeDepth := 60) [State.conf_mk, State.conf_fold, *]

/-! Machine/TwoWire.lean -/

@[simp] theorem State.modTw_conf {s f} : State.conf (State.modTw s f) = State.conf s := by
  unfold State.modTw; simp (maxDischargeDepth := 60) [State.conf_mk, State.conf_fold, *]
@[simp] theorem State.tw1Write_conf {s body pec f} (hf : ∀ t, State.conf (f t) = State.conf t) : State.conf (State.tw1Write s body pec f) = State.conf s := by
  unfold State.tw1Write; (repeat' split) <;> simp (maxDischargeDepth := 60) [State.conf_mk, State.conf_fold, *]
@[simp] theorem State.rmCap_conf {s val} : State.conf (State.rmCap s val) = State.conf s := by
  unfold State.rmCap
  extract_lets v0 v1
  have h_v0 : State.conf v0 = State.conf s := by subst v0; simp (maxDischargeDepth := 60) [State.conf_mk, State.conf_fold, *]
  clear_value v0
  have h_v1 : State.conf v1 = State.conf s := by subst v1; simp (maxDischargeDepth := 60) [State.conf_mk, State.conf_fold, *]
  clear_value v1
  simp (maxDischargeDepth := 60) [State.conf_mk, State.conf_fold, *]
@[simp] theorem State.regDone_conf {s st} : State.conf (State.regDone s st) = State.conf s := by
  unfold State.regDone; simp (maxDischargeDepth := 60) [State.conf_mk, State.conf_fold, *]
@[simp] theorem State.notifySend_conf {s o rest ack} : State.conf (State.notifySend s o rest ack) = State.conf s := by
  unfold State.notifySend
  extract_lets v0 v1
  have h_v0 : State.conf v0 = State.conf s := by subst v0; simp (maxDischargeDepth := 60) [State.conf_mk, State.conf_fold, *]
  clear_value v0
  clear_value v1
  ((repeat' split) <;> (try extract_lets) <;> simp (maxDischargeDepth := 60) +zetaDelta [State.conf_mk, State.conf_fold, *])
@[simp] theorem State.packAlert_conf {s} : State.conf (State.packAlert s) = State.conf s := by
  unfold State.packAlert; simp (maxDischargeDepth := 60) [State.conf_mk, State.conf_fold, *]
@[simp] theorem State.pollGood_conf {s k x} : State.conf (State.pollGood s k x) = State.conf s := by
  unfold State.pollGood
  extract_lets v0 v1 v2 v3
  clear_value v0
  have h_v1 : State.conf v1 = State.conf s := by subst v1; simp (maxDischargeDepth := 60) [State.conf_mk, State.conf_fold, *]
  clear_value v1
  have h_v2 : State.conf v2 = State.conf s := by subst v2; simp (maxDischargeDepth := 60) [State.conf_mk, State.conf_fold, *]
  clear_value v2
  have h_v3 : State.conf v3 = State.conf s := by subst v3; simp (maxDischargeDepth := 60) [State.conf_mk, State.conf_fold, *]
  clear_value v3
  simp (maxDischargeDepth := 60) [State.conf_mk, State.conf_fold, *]
@[simp] theorem State.pollBad_conf {s k} : State.conf (State.pollBad s k) = State.conf s := by
  unfold State.pollBad
  extract_lets v0
  have h_v0 : State.conf v0 = State.conf s := by subst v0; simp (maxDischargeDepth := 60) [State.conf_mk, State.conf_fold, *]
  clear_value v0
  ((repeat' split) <;> (try extract_lets) <;> simp (maxDischargeDepth := 60) +zetaDelta [State.conf_mk, State.conf_fold, *])
@[simp] theorem State.pollDev_conf {s k x} : State.conf (State.pollDev s k x) = State.conf s := by
  unfold State.pollDev; simp (maxDischargeDepth := 60) [State.conf_mk, State.conf_fold, *]

/-! Machine/Commands.lean -/

@[simp] theorem State.gate_conf {s x r inRecovery f} (hf : ∀ t, State.conf (f t) = State.conf t) : State.conf (State.gate s x r inRecovery f) = State.conf s := by
  unfold State.gate; simp (maxDischargeDepth := 60) [State.conf_mk, State.conf_fold, *]
@[simp] theorem State.read32_conf {s x addr} : State.conf (State.read32 s x addr) = State.conf s := by
  unfold State.read32; simp (maxDischargeDepth := 60) [State.conf_mk, State.conf_fold, *]
@[simp] theorem State.readWords_conf {s a n out} : State.conf (State.readWords s a n out) = State.conf s := by
  induction n generalizing s a out with
  | zero => exact State.answer_conf
  | succ n ih =>
    unfold State.readWords
    dsimp only
    split
    · rw [ih, State.hostRead_conf]
    · exact State.answer_conf
@[simp] theorem State.readBlock_conf {s x addr n} : State.conf (State.readBlock s x addr n) = State.conf s := by
  unfold State.readBlock; simp (maxDischargeDepth := 60) [State.conf_mk, State.conf_fold, *]
@[simp] theorem State.modBulk_conf {s f} : State.conf (State.modBulk s f) = State.conf s := by
  unfold State.modBulk; simp (maxDischargeDepth := 60) [State.conf_mk, State.conf_fold, *]
@[simp] theorem State.bulkOpen_conf {s x total} : State.conf (State.bulkOpen s x total) = State.conf s := by
  unfold State.bulkOpen; simp (maxDischargeDepth := 60) [State.conf_mk, State.conf_fold, *]
@[simp] theorem State.bulkData_conf {s x id off data} : State.conf (State.bulkData s x id off data) = State.conf s := by
  unfold State.bulkData; simp (maxDischargeDepth := 60) [State.conf_mk, State.conf_fold, *]
@[simp] theorem State.bulkStatus_conf {s x id} : State.conf (State.bulkStatus s x id) = State.conf s := by
  unfold State.bulkStatus; simp (maxDischargeDepth := 60) [State.conf_mk, State.conf_fold, *]
@[simp] theorem State.bulkRead_conf {s x addr len} : State.conf (State.bulkRead s x addr len) = State.conf s := by
  unfold State.bulkRead; simp (maxDischargeDepth := 60) [State.conf_mk, State.conf_fold, *]
@[simp] theorem State.programLoad_conf {s x bank index n crc} : State.conf (State.programLoad s x bank index n crc) = State.conf s := by
  unfold State.programLoad; simp (maxDischargeDepth := 60) [State.conf_mk, State.conf_fold, *]
@[simp] theorem State.imageStage_conf {s x sel} : State.conf (State.imageStage s x sel) = State.conf s := by
  unfold State.imageStage
  refine State.gate_conf fun t => ?_
  dsimp only
  (repeat' split) <;> simp (maxDischargeDepth := 60) [State.conf_mk, State.conf_fold, *]
@[simp] theorem State.imageCommit_conf {s x bank} : State.conf (State.imageCommit s x bank) = State.conf s := by
  unfold State.imageCommit; simp (maxDischargeDepth := 60) [State.conf_mk, State.conf_fold, *]
@[simp] theorem State.authOpen_conf {s nh k num} : State.conf (State.authOpen s nh k num) = State.conf s := by
  unfold State.authOpen
  extract_lets v0 v1 v2
  clear_value v0
  clear_value v1
  have h_v2 : State.conf v2 = State.conf s := by subst v2; simp (maxDischargeDepth := 60) [State.conf_mk, State.conf_fold, *]
  clear_value v2
  simp (maxDischargeDepth := 60) [State.conf_mk, State.conf_fold, *]
@[simp] theorem State.authPhase1_conf {s x nh} : State.conf (State.authPhase1 s x nh) = State.conf s := by
  unfold State.authPhase1
  refine State.gate_conf fun t => ?_
  dsimp only
  (repeat' split) <;> simp (maxDischargeDepth := 60) [State.conf_mk, State.conf_fold, *]
@[simp] theorem State.authFail_conf {s k} : State.conf (State.authFail s k) = State.conf s := by
  unfold State.authFail
  extract_lets v0 v1 v2 v3
  clear_value v0
  have h_v1 : State.conf v1 = State.conf s := by subst v1; simp (maxDischargeDepth := 60) [State.conf_mk, State.conf_fold, *]
  clear_value v1
  clear_value v2
  have h_v3 : State.conf v3 = State.conf s := by subst v3; simp (maxDischargeDepth := 60) [State.conf_mk, State.conf_fold, *]
  clear_value v3
  simp (maxDischargeDepth := 60) [State.conf_mk, State.conf_fold, *]
@[simp] theorem State.authPhase2_conf {s x ph} : State.conf (State.authPhase2 s x ph) = State.conf s := by
  unfold State.authPhase2; (repeat' split) <;> simp (maxDischargeDepth := 60) [State.conf_mk, State.conf_fold, *]
@[simp] theorem State.subscribe_conf {s x bits} : State.conf (State.subscribe s x bits) = State.conf s := by
  unfold State.subscribe; (repeat' split) <;> simp (maxDischargeDepth := 60) [State.conf_mk, State.conf_fold, *]
@[simp] theorem State.ackFrames_conf {s x cls seq} : State.conf (State.ackFrames s x cls seq) = State.conf s := by
  unfold State.ackFrames; (repeat' split) <;> simp (maxDischargeDepth := 60) [State.conf_mk, State.conf_fold, *]
@[simp] theorem State.closeCmd_conf {s x} : State.conf (State.closeCmd s x) = State.conf s := by
  unfold State.closeCmd; (repeat' split) <;> simp (maxDischargeDepth := 60) [State.conf_mk, State.conf_fold, *]
@[simp] theorem State.wakeCmd_conf {s x} : State.conf (State.wakeCmd s x) = State.conf s := by
  unfold State.wakeCmd; simp (maxDischargeDepth := 60) [State.conf_mk, State.conf_fold, *]
@[simp] theorem State.keySetDevice_conf {s x key} : State.conf (State.keySetDevice s x key) = State.conf s := by
  unfold State.keySetDevice; (repeat' split) <;> simp (maxDischargeDepth := 60) [State.conf_mk, State.conf_fold, *]
@[simp] theorem State.keySetOwner_conf {s x key} : State.conf (State.keySetOwner s x key) = State.conf s := by
  unfold State.keySetOwner; simp (maxDischargeDepth := 60) [State.conf_mk, State.conf_fold, *]
@[simp] theorem State.keepalive_conf {s k seq data} : State.conf (State.keepalive s k seq data) = State.conf s := by
  unfold State.keepalive; simp (maxDischargeDepth := 60) [State.conf_mk, State.conf_fold, *]

/-! Machine/Frames.lean -/

@[simp] theorem State.badEntry_conf {s x code} : State.conf (State.badEntry s x code) = State.conf s := by
  unfold State.badEntry; simp (maxDischargeDepth := 60) [State.conf_mk, State.conf_fold, *]
@[simp] theorem State.answerBusy_conf {s k seq payload} : State.conf (State.answerBusy s k seq payload) = State.conf s := by
  unfold State.answerBusy; simp (maxDischargeDepth := 60) [State.conf_mk, State.conf_fold, *]
@[simp] theorem State.badFrame_conf {s p} : State.conf (State.badFrame s p) = State.conf s := by
  unfold State.badFrame
  extract_lets v0
  have h_v0 : State.conf v0 = State.conf s := by subst v0; simp (maxDischargeDepth := 60) [State.conf_mk, State.conf_fold, *]
  clear_value v0
  simp (maxDischargeDepth := 60) [State.conf_mk, State.conf_fold, *]
@[simp] theorem State.holdFrame_conf {s p src bytes} : State.conf (State.holdFrame s p src bytes) = State.conf s := by
  unfold State.holdFrame; simp (maxDischargeDepth := 60) [State.conf_mk, State.conf_fold, *]
@[simp] theorem State.hear_conf {s k p src} : State.conf (State.hear s k p src) = State.conf s := by
  unfold State.hear; simp (maxDischargeDepth := 60) [State.conf_mk, State.conf_fold, *]
@[simp] theorem State.bulkFrameIn_conf {s x bs} : State.conf (State.bulkFrameIn s x bs) = State.conf s := by
  unfold State.bulkFrameIn; simp (maxDischargeDepth := 60) [State.conf_mk, State.conf_fold, *]
@[simp] theorem State.flushOne_conf {s p src bytes} : State.conf (State.flushOne s p src bytes) = State.conf s := by
  unfold State.flushOne; (repeat' split) <;> simp (maxDischargeDepth := 60) [State.conf_mk, State.conf_fold, *]
@[simp] theorem State.flushHeld_conf {s} : State.conf (State.flushHeld s) = State.conf s := by
  unfold State.flushHeld; simp (maxDischargeDepth := 60) [State.conf_mk, State.conf_fold, *]

/-! Machine/Boundary.lean -/

@[simp] theorem State.latchLane_conf {s n x lane} : State.conf (State.latchLane s n x lane) = State.conf s := by
  unfold State.latchLane; simp (maxDischargeDepth := 60) [State.conf_mk, State.conf_fold, *]
@[simp] theorem State.divTake_conf {s} : State.conf (State.divTake s) = State.conf s := by
  unfold State.divTake; simp (maxDischargeDepth := 60) [State.conf_mk, State.conf_fold, *]
@[simp] theorem State.writesTake_conf {s} : State.conf (State.writesTake s) = State.conf s := by
  unfold State.writesTake
  extract_lets v0 v1 v2 v3 v4
  clear_value v0
  have h_v1 : State.conf v1 = State.conf s := by subst v1; simp (maxDischargeDepth := 60) [State.conf_mk, State.conf_fold, *]
  clear_value v1
  have h_v2 : State.conf v2 = State.conf s := by subst v2; simp (maxDischargeDepth := 60) [State.conf_mk, State.conf_fold, *]
  clear_value v2
  have h_v3 : State.conf v3 = State.conf s := by subst v3; simp (maxDischargeDepth := 60) [State.conf_mk, State.conf_fold, *]
  clear_value v3
  have h_v4 : State.conf v4 = State.conf s := by subst v4; simp (maxDischargeDepth := 60) [State.conf_mk, State.conf_fold, *]
  clear_value v4
  simp (maxDischargeDepth := 60) [State.conf_mk, State.conf_fold, *]
@[simp] theorem State.rangeForced_conf {s n} : State.conf (State.rangeForced s n) = State.conf s := by
  unfold State.rangeForced; simp (maxDischargeDepth := 60) [State.conf_mk, State.conf_fold, *]
@[simp] theorem State.rangeStep_conf {s n} : State.conf (State.rangeStep s n) = State.conf s := by
  unfold State.rangeStep
  extract_lets v0 v1
  have h_v0 : State.conf v0 = State.conf s := by subst v0; simp (maxDischargeDepth := 60) [State.conf_mk, State.conf_fold, *]
  clear_value v0
  clear_value v1
  simp (maxDischargeDepth := 60) [State.conf_mk, State.conf_fold, *]
@[simp] theorem State.histLane_conf {s n} : State.conf (State.histLane s n) = State.conf s := by
  unfold State.histLane; simp (maxDischargeDepth := 60) [State.conf_mk, State.conf_fold, *]
@[simp] theorem State.releaseDuty_conf {s n} : State.conf (State.releaseDuty s n) = State.conf s := by
  unfold State.releaseDuty; (repeat' split) <;> simp (maxDischargeDepth := 60) [State.conf_mk, State.conf_fold, *]
@[simp] theorem State.countLane_conf {s n dt} : State.conf (State.countLane s n dt) = State.conf s := by
  unfold State.countLane; simp (maxDischargeDepth := 60) [State.conf_mk, State.conf_fold, *]
@[simp] theorem State.countStep_conf {s n dt} : State.conf (State.countStep s n dt) = State.conf s := by
  unfold State.countStep; (repeat' split) <;> simp (maxDischargeDepth := 60) [State.conf_mk, State.conf_fold, *]
@[simp] theorem State.checkMean_conf {s n} : State.conf (State.checkMean s n) = State.conf s := by
  unfold State.checkMean; simp (maxDischargeDepth := 60) [State.conf_mk, State.conf_fold, *]
@[simp] theorem State.checkLane_conf {s n} : State.conf (State.checkLane s n) = State.conf s := by
  unfold State.checkLane; dsimp only; (repeat' split) <;> simp +contextual (maxDischargeDepth := 60) [State.conf_mk, State.conf_fold, *]
@[simp] theorem State.metricLane_conf {s n} : State.conf (State.metricLane s n) = State.conf s := by
  unfold State.metricLane; simp (maxDischargeDepth := 60) [State.conf_mk, State.conf_fold, *]
@[simp] theorem State.lanePeriod_conf {s n dt} : State.conf (State.lanePeriod s n dt) = State.conf s := by
  unfold State.lanePeriod
  extract_lets v0
  have h_v0 : State.conf v0 = State.conf s := by subst v0; simp (maxDischargeDepth := 60) [State.conf_mk, State.conf_fold, *]
  clear_value v0
  simp (maxDischargeDepth := 60) [State.conf_mk, State.conf_fold, *]
@[simp] theorem State.lanes_conf {s inp lane dt} : State.conf (State.lanes s inp lane dt) = State.conf s := by
  unfold State.lanes
  extract_lets v0 v1 v2 v3
  have h_v0 : State.conf v0 = State.conf s := by subst v0; simp (maxDischargeDepth := 60) [State.conf_mk, State.conf_fold, *]
  clear_value v0
  have h_v1 : State.conf v1 = State.conf s := by subst v1; simp (maxDischargeDepth := 60) [State.conf_mk, State.conf_fold, *]
  clear_value v1
  have h_v2 : State.conf v2 = State.conf s := by subst v2; simp (maxDischargeDepth := 60) [State.conf_mk, State.conf_fold, *]
  clear_value v2
  have h_v3 : State.conf v3 = State.conf s := by subst v3; simp (maxDischargeDepth := 60) [State.conf_mk, State.conf_fold, *]
  clear_value v3
  simp (maxDischargeDepth := 60) [State.conf_mk, State.conf_fold, *]
@[simp] theorem State.settleEnd_conf {s n} : State.conf (State.settleEnd s n) = State.conf s := by
  unfold State.settleEnd; simp (maxDischargeDepth := 60) [State.conf_mk, State.conf_fold, *]
@[simp] theorem State.classTake_conf {s n} : State.conf (State.classTake s n) = State.conf s := by
  unfold State.classTake; (repeat' split) <;> simp (maxDischargeDepth := 60) [State.conf_mk, State.conf_fold, *]
@[simp] theorem State.barBoundary_conf {s} : State.conf (State.barBoundary s) = State.conf s := by
  unfold State.barBoundary; dsimp only; (repeat' split) <;> simp +contextual (maxDischargeDepth := 60) [State.conf_mk, State.conf_fold, *]
@[simp] theorem State.showBoundary_conf {s} : State.conf (State.showBoundary s) = State.conf s := by
  unfold State.showBoundary
  extract_lets v0
  have h_v0 : State.conf v0 = State.conf s := by subst v0; simp (maxDischargeDepth := 60) [State.conf_mk, State.conf_fold, *]
  clear_value v0
  simp (maxDischargeDepth := 60) [State.conf_mk, State.conf_fold, *]
@[simp] theorem State.tick_conf {s} : State.conf (State.tick s) = State.conf s := by
  unfold State.tick; simp (maxDischargeDepth := 60) [State.conf_mk, State.conf_fold, *]
@[simp] theorem State.shelfBoundary_conf {s} : State.conf (State.shelfBoundary s) = State.conf s := by
  unfold State.shelfBoundary; simp (maxDischargeDepth := 60) [State.conf_mk, State.conf_fold, *]
@[simp] theorem State.ledgerBoundary_conf {s} : State.conf (State.ledgerBoundary s) = State.conf s := by
  unfold State.ledgerBoundary; simp (maxDischargeDepth := 60) [State.conf_mk, State.conf_fold, *]
@[simp] theorem State.lateBoundary_conf {s aux} : State.conf (State.lateBoundary s aux) = State.conf s := by
  unfold State.lateBoundary
  extract_lets v0 v1
  have h_v0 : State.conf v0 = State.conf s := by subst v0; simp (maxDischargeDepth := 60) [State.conf_mk, State.conf_fold, *]
  clear_value v0
  have h_v1 : State.conf v1 = State.conf s := by subst v1; simp (maxDischargeDepth := 60) [State.conf_mk, State.conf_fold, *]
  clear_value v1
  simp (maxDischargeDepth := 60) [State.conf_mk, State.conf_fold, *]
@[simp] theorem State.metLane_conf {s n t o} : State.conf (State.metLane s n t o) = State.conf s := by
  unfold State.metLane
  extract_lets v0 v1 v2 v3
  clear_value v0
  clear_value v1
  have h_v2 : State.conf v2 = State.conf s := by subst v2; simp (maxDischargeDepth := 60) [State.conf_mk, State.conf_fold, *]
  clear_value v2
  have h_v3 : State.conf v3 = State.conf s := by subst v3; simp (maxDischargeDepth := 60) [State.conf_mk, State.conf_fold, *]
  clear_value v3
  simp (maxDischargeDepth := 60) [State.conf_mk, State.conf_fold, *]
@[simp] theorem State.metGang_conf {s n t} : State.conf (State.metGang s n t) = State.conf s := by
  unfold State.metGang; simp (maxDischargeDepth := 60) [State.conf_mk, State.conf_fold, *]
@[simp] theorem State.ringTake_conf {s t} : State.conf (State.ringTake s t) = State.conf s := by
  unfold State.ringTake; simp (maxDischargeDepth := 60) [State.conf_mk, State.conf_fold, *]
@[simp] theorem State.visitTake_conf {s inp lane t} : State.conf (State.visitTake s inp lane t) = State.conf s := by
  unfold State.visitTake; (repeat' split) <;> simp (maxDischargeDepth := 60) [State.conf_mk, State.conf_fold, *]

end Sys2Proof.Machine
end

