-- ==== Sys2Proof/Laws/Groups.lean ====
section
/-! SUPPORT. The register group each register lies in, and for each operation of the machine that the words of a register outside the
groups it writes stay (`_rd`). -/

namespace Sys2Proof.Machine

set_option linter.unusedSimpArgs false
set_option Elab.async false

@[simp] theorem Reg.group_CK_GATE {b} : Reg.group (.CK_GATE b) = 1 := by simp only [Reg.group, Reg.addr]; omega
@[simp] theorem Reg.group_EV_PEND {w} : Reg.group (.EV_PEND w) = 2 := by simp only [Reg.group, Reg.addr]; omega
@[simp] theorem Reg.group_EV_MASK {w} : Reg.group (.EV_MASK w) = 2 := by simp only [Reg.group, Reg.addr]; omega
@[simp] theorem Reg.group_EV_CFG {n} : Reg.group (.EV_CFG n) = 2 := by simp only [Reg.group, Reg.addr]; omega
@[simp] theorem Reg.group_SQ_RCFG {e} : Reg.group (.SQ_RCFG e) = 3 := by simp only [Reg.group, Reg.addr]; omega
@[simp] theorem Reg.group_SQ_RDEP {e} : Reg.group (.SQ_RDEP e) = 3 := by simp only [Reg.group, Reg.addr]; omega
@[simp] theorem Reg.group_SQ_RNOM {e} : Reg.group (.SQ_RNOM e) = 3 := by simp only [Reg.group, Reg.addr]; omega
@[simp] theorem Reg.group_SQ_RTIM {e} : Reg.group (.SQ_RTIM e) = 3 := by simp only [Reg.group, Reg.addr]; omega
@[simp] theorem Reg.group_SQ_RSTAT {e} : Reg.group (.SQ_RSTAT e) = 3 := by simp only [Reg.group, Reg.addr]; omega
@[simp] theorem Reg.group_SQ_RFLT {e} : Reg.group (.SQ_RFLT e) = 3 := by simp only [Reg.group, Reg.addr]; omega
@[simp] theorem Reg.group_FD_FCFG {f} : Reg.group (.FD_FCFG f) = 4 := by simp only [Reg.group, Reg.addr]; omega
@[simp] theorem Reg.group_FD_ILIM {f} : Reg.group (.FD_ILIM f) = 4 := by simp only [Reg.group, Reg.addr]; omega
@[simp] theorem Reg.group_FD_RSH {f} : Reg.group (.FD_RSH f) = 4 := by simp only [Reg.group, Reg.addr]; omega
@[simp] theorem Reg.group_FD_FSTAT {f} : Reg.group (.FD_FSTAT f) = 4 := by simp only [Reg.group, Reg.addr]; omega
@[simp] theorem Reg.group_FD_FLT {f} : Reg.group (.FD_FLT f) = 4 := by simp only [Reg.group, Reg.addr]; omega
@[simp] theorem Reg.group_FD_V {f} : Reg.group (.FD_V f) = 4 := by simp only [Reg.group, Reg.addr]; omega
@[simp] theorem Reg.group_FD_I {f} : Reg.group (.FD_I f) = 4 := by simp only [Reg.group, Reg.addr]; omega
@[simp] theorem Reg.group_FD_P {f} : Reg.group (.FD_P f) = 4 := by simp only [Reg.group, Reg.addr]; omega
@[simp] theorem Reg.group_FD_EIN {f} : Reg.group (.FD_EIN f) = 4 := by simp only [Reg.group, Reg.addr]; omega
@[simp] theorem Reg.group_FD_EINH {f} : Reg.group (.FD_EINH f) = 4 := by simp only [Reg.group, Reg.addr]; omega
@[simp] theorem Reg.group_FD_EOUT {f} : Reg.group (.FD_EOUT f) = 4 := by simp only [Reg.group, Reg.addr]; omega
@[simp] theorem Reg.group_FD_EOUTH {f} : Reg.group (.FD_EOUTH f) = 4 := by simp only [Reg.group, Reg.addr]; omega
@[simp] theorem Reg.group_HU_GG_STATE {w} : Reg.group (.HU_GG_STATE w) = 5 := by simp only [Reg.group, Reg.addr]; omega
@[simp] theorem Reg.group_HU_GG_RESTORE {w} : Reg.group (.HU_GG_RESTORE w) = 5 := by simp only [Reg.group, Reg.addr]; omega
@[simp] theorem Reg.group_HU_OCV {w} : Reg.group (.HU_OCV w) = 5 := by simp only [Reg.group, Reg.addr]; omega
@[simp] theorem Reg.group_LG_SCALE {c} : Reg.group (.LG_SCALE c) = 6 := by simp only [Reg.group, Reg.addr]; omega
@[simp] theorem Reg.group_LG_EFF {n w} : Reg.group (.LG_EFF n w) = 6 := by simp only [Reg.group, Reg.addr]; omega
@[simp] theorem Reg.group_AX_CTL {j} : Reg.group (.AX_CTL j) = 7 := by simp only [Reg.group, Reg.addr]; omega
@[simp] theorem Reg.group_AX_CFG {j} : Reg.group (.AX_CFG j) = 7 := by simp only [Reg.group, Reg.addr]; omega
@[simp] theorem Reg.group_AX_VNOM {j} : Reg.group (.AX_VNOM j) = 7 := by simp only [Reg.group, Reg.addr]; omega
@[simp] theorem Reg.group_AX_MARG {j} : Reg.group (.AX_MARG j) = 7 := by simp only [Reg.group, Reg.addr]; omega
@[simp] theorem Reg.group_AX_ILIM {j} : Reg.group (.AX_ILIM j) = 7 := by simp only [Reg.group, Reg.addr]; omega
@[simp] theorem Reg.group_AX_GAIN {j} : Reg.group (.AX_GAIN j) = 7 := by simp only [Reg.group, Reg.addr]; omega
@[simp] theorem Reg.group_AX_PWM {j} : Reg.group (.AX_PWM j) = 7 := by simp only [Reg.group, Reg.addr]; omega
@[simp] theorem Reg.group_AX_STAT {j} : Reg.group (.AX_STAT j) = 7 := by simp only [Reg.group, Reg.addr]; omega
@[simp] theorem Reg.group_AX_FLT {j} : Reg.group (.AX_FLT j) = 7 := by simp only [Reg.group, Reg.addr]; omega
@[simp] theorem Reg.group_AX_V {j} : Reg.group (.AX_V j) = 7 := by simp only [Reg.group, Reg.addr]; omega
@[simp] theorem Reg.group_AX_I {j} : Reg.group (.AX_I j) = 7 := by simp only [Reg.group, Reg.addr]; omega
@[simp] theorem Reg.group_AX_P {j} : Reg.group (.AX_P j) = 7 := by simp only [Reg.group, Reg.addr]; omega
@[simp] theorem Reg.group_AL_CTL {k} : Reg.group (.AL_CTL k) = 7 := by simp only [Reg.group, Reg.addr]; omega
@[simp] theorem Reg.group_AL_CFG {k} : Reg.group (.AL_CFG k) = 7 := by simp only [Reg.group, Reg.addr]; omega
@[simp] theorem Reg.group_AL_INGAIN {k} : Reg.group (.AL_INGAIN k) = 7 := by simp only [Reg.group, Reg.addr]; omega
@[simp] theorem Reg.group_AL_INOFF {k} : Reg.group (.AL_INOFF k) = 7 := by simp only [Reg.group, Reg.addr]; omega
@[simp] theorem Reg.group_AL_SP {k} : Reg.group (.AL_SP k) = 7 := by simp only [Reg.group, Reg.addr]; omega
@[simp] theorem Reg.group_AL_SPSRC {k} : Reg.group (.AL_SPSRC k) = 7 := by simp only [Reg.group, Reg.addr]; omega
@[simp] theorem Reg.group_AL_SPGAIN {k} : Reg.group (.AL_SPGAIN k) = 7 := by simp only [Reg.group, Reg.addr]; omega
@[simp] theorem Reg.group_AL_SPOFF {k} : Reg.group (.AL_SPOFF k) = 7 := by simp only [Reg.group, Reg.addr]; omega
@[simp] theorem Reg.group_AL_KP {k} : Reg.group (.AL_KP k) = 7 := by simp only [Reg.group, Reg.addr]; omega
@[simp] theorem Reg.group_AL_TI {k} : Reg.group (.AL_TI k) = 7 := by simp only [Reg.group, Reg.addr]; omega
@[simp] theorem Reg.group_AL_OUT {k} : Reg.group (.AL_OUT k) = 7 := by simp only [Reg.group, Reg.addr]; omega
@[simp] theorem Reg.group_AL_MAN {k} : Reg.group (.AL_MAN k) = 7 := by simp only [Reg.group, Reg.addr]; omega
@[simp] theorem Reg.group_AL_AT {k} : Reg.group (.AL_AT k) = 7 := by simp only [Reg.group, Reg.addr]; omega
@[simp] theorem Reg.group_AL_ATHYS {k} : Reg.group (.AL_ATHYS k) = 7 := by simp only [Reg.group, Reg.addr]; omega
@[simp] theorem Reg.group_AL_STAT {k} : Reg.group (.AL_STAT k) = 7 := by simp only [Reg.group, Reg.addr]; omega
@[simp] theorem Reg.group_AL_PV {k} : Reg.group (.AL_PV k) = 7 := by simp only [Reg.group, Reg.addr]; omega
@[simp] theorem Reg.group_TW_CFG {p} : Reg.group (.TW_CFG p) = 8 := by simp only [Reg.group, Reg.addr]; omega
@[simp] theorem Reg.group_TW_TIM {p} : Reg.group (.TW_TIM p) = 8 := by simp only [Reg.group, Reg.addr]; omega
@[simp] theorem Reg.group_TW_STAT {p} : Reg.group (.TW_STAT p) = 8 := by simp only [Reg.group, Reg.addr]; omega
@[simp] theorem Reg.group_TW0_DEV {k} : Reg.group (.TW0_DEV k) = 8 := by simp only [Reg.group, Reg.addr]; omega
@[simp] theorem Reg.group_TW0_RD0 {k} : Reg.group (.TW0_RD0 k) = 8 := by simp only [Reg.group, Reg.addr]; omega
@[simp] theorem Reg.group_TW0_RD1 {k} : Reg.group (.TW0_RD1 k) = 8 := by simp only [Reg.group, Reg.addr]; omega
@[simp] theorem Reg.group_HL_SESS {k} : Reg.group (.HL_SESS k) = 9 := by simp only [Reg.group, Reg.addr]; omega
@[simp] theorem Reg.group_HL_PCFG {p} : Reg.group (.HL_PCFG p) = 9 := by simp only [Reg.group, Reg.addr]; omega
@[simp] theorem Reg.group_HL_PSTAT {p} : Reg.group (.HL_PSTAT p) = 9 := by simp only [Reg.group, Reg.addr]; omega
@[simp] theorem Reg.group_HL_MACL {p} : Reg.group (.HL_MACL p) = 9 := by simp only [Reg.group, Reg.addr]; omega
@[simp] theorem Reg.group_HL_MACH {p} : Reg.group (.HL_MACH p) = 9 := by simp only [Reg.group, Reg.addr]; omega
@[simp] theorem Reg.group_HL_IP4 {p} : Reg.group (.HL_IP4 p) = 9 := by simp only [Reg.group, Reg.addr]; omega
@[simp] theorem Reg.group_HL_GW4 {p} : Reg.group (.HL_GW4 p) = 9 := by simp only [Reg.group, Reg.addr]; omega
@[simp] theorem Reg.group_HL_PLEN {p} : Reg.group (.HL_PLEN p) = 9 := by simp only [Reg.group, Reg.addr]; omega
@[simp] theorem Reg.group_HL_IP6 {p w} : Reg.group (.HL_IP6 p w) = 9 := by simp only [Reg.group, Reg.addr]; omega
@[simp] theorem Reg.group_HL_SCFG {s} : Reg.group (.HL_SCFG s) = 9 := by simp only [Reg.group, Reg.addr]; omega
@[simp] theorem Reg.group_HL_SALLOT {s} : Reg.group (.HL_SALLOT s) = 9 := by simp only [Reg.group, Reg.addr]; omega
@[simp] theorem Reg.group_HL_SSTAT {s} : Reg.group (.HL_SSTAT s) = 9 := by simp only [Reg.group, Reg.addr]; omega
@[simp] theorem Reg.group_HL_SDROP {s} : Reg.group (.HL_SDROP s) = 9 := by simp only [Reg.group, Reg.addr]; omega
@[simp] theorem Reg.group_HL_DCFG {d} : Reg.group (.HL_DCFG d) = 9 := by simp only [Reg.group, Reg.addr]; omega
@[simp] theorem Reg.group_HL_DADDR {d w} : Reg.group (.HL_DADDR d w) = 9 := by simp only [Reg.group, Reg.addr]; omega
@[simp] theorem Reg.group_VT_CSLOT {s} : Reg.group (.VT_CSLOT s) = 10 := by simp only [Reg.group, Reg.addr]; omega
@[simp] theorem Reg.group_VT_CTRIG {w} : Reg.group (.VT_CTRIG w) = 10 := by simp only [Reg.group, Reg.addr]; omega
@[simp] theorem Reg.group_BT_PWMF {w} : Reg.group (.BT_PWMF w) = 11 := by simp only [Reg.group, Reg.addr]; omega
@[simp] theorem Reg.group_TS_T {k} : Reg.group (.TS_T k) = 11 := by simp only [Reg.group, Reg.addr]; omega
@[simp] theorem Reg.group_LN_SUSP {w} : Reg.group (.LN_SUSP w) = 12 := by simp only [Reg.group, Reg.addr]; omega
@[simp] theorem Reg.group_CS_MAP {w} : Reg.group (.CS_MAP w) = 12 := by simp only [Reg.group, Reg.addr]; omega
@[simp] theorem Reg.group_CS_STAT {k} : Reg.group (.CS_STAT k) = 12 := by simp only [Reg.group, Reg.addr]; omega
@[simp] theorem Reg.group_CS_SHUSR {i} : Reg.group (.CS_SHUSR i) = 12 := by simp only [Reg.group, Reg.addr]; omega
@[simp] theorem Reg.group_CS_SG {i} : Reg.group (.CS_SG i) = 12 := by simp only [Reg.group, Reg.addr]; omega
@[simp] theorem Reg.group_CS_BARM {b w} : Reg.group (.CS_BARM b w) = 12 := by simp only [Reg.group, Reg.addr]; omega
@[simp] theorem Reg.group_CH_MODE {n} : Reg.group (.CH_MODE n) = 16 := by simp only [Reg.group, Reg.addr]; omega
@[simp] theorem Reg.group_CH_STATE {n} : Reg.group (.CH_STATE n) = 16 := by simp only [Reg.group, Reg.addr]; omega
@[simp] theorem Reg.group_CH_PROG {n} : Reg.group (.CH_PROG n) = 16 := by simp only [Reg.group, Reg.addr]; omega
@[simp] theorem Reg.group_CH_GANG {n} : Reg.group (.CH_GANG n) = 16 := by simp only [Reg.group, Reg.addr]; omega
@[simp] theorem Reg.group_CH_PWM {n} : Reg.group (.CH_PWM n) = 16 := by simp only [Reg.group, Reg.addr]; omega
@[simp] theorem Reg.group_CH_CMD {n} : Reg.group (.CH_CMD n) = 16 := by simp only [Reg.group, Reg.addr]; omega
@[simp] theorem Reg.group_CH_SOFT {n} : Reg.group (.CH_SOFT n) = 16 := by simp only [Reg.group, Reg.addr]; omega
@[simp] theorem Reg.group_CH_SLEW {n} : Reg.group (.CH_SLEW n) = 16 := by simp only [Reg.group, Reg.addr]; omega
@[simp] theorem Reg.group_CH_LIM_V {n} : Reg.group (.CH_LIM_V n) = 16 := by simp only [Reg.group, Reg.addr]; omega
@[simp] theorem Reg.group_CH_LIM_I {n} : Reg.group (.CH_LIM_I n) = 16 := by simp only [Reg.group, Reg.addr]; omega
@[simp] theorem Reg.group_CH_LIM_T {n} : Reg.group (.CH_LIM_T n) = 16 := by simp only [Reg.group, Reg.addr]; omega
@[simp] theorem Reg.group_CH_FUSE {n} : Reg.group (.CH_FUSE n) = 16 := by simp only [Reg.group, Reg.addr]; omega
@[simp] theorem Reg.group_CT_DELTA {n} : Reg.group (.CT_DELTA n) = 16 := by simp only [Reg.group, Reg.addr]; omega
@[simp] theorem Reg.group_CT_EMAX {n} : Reg.group (.CT_EMAX n) = 16 := by simp only [Reg.group, Reg.addr]; omega
@[simp] theorem Reg.group_CH_RPATH {n} : Reg.group (.CH_RPATH n) = 16 := by simp only [Reg.group, Reg.addr]; omega
@[simp] theorem Reg.group_CH_CHK {n} : Reg.group (.CH_CHK n) = 16 := by simp only [Reg.group, Reg.addr]; omega
@[simp] theorem Reg.group_CH_MEAS {n} : Reg.group (.CH_MEAS n) = 16 := by simp only [Reg.group, Reg.addr]; omega
@[simp] theorem Reg.group_CH_SHUNT {n} : Reg.group (.CH_SHUNT n) = 16 := by simp only [Reg.group, Reg.addr]; omega
@[simp] theorem Reg.group_CH_NTC {n} : Reg.group (.CH_NTC n) = 16 := by simp only [Reg.group, Reg.addr]; omega
@[simp] theorem Reg.group_CH_MSTAT {n} : Reg.group (.CH_MSTAT n) = 16 := by simp only [Reg.group, Reg.addr]; omega
@[simp] theorem Reg.group_CH_IKP {n} : Reg.group (.CH_IKP n) = 16 := by simp only [Reg.group, Reg.addr]; omega
@[simp] theorem Reg.group_CH_IKI {n} : Reg.group (.CH_IKI n) = 16 := by simp only [Reg.group, Reg.addr]; omega
@[simp] theorem Reg.group_CH_VKP {n} : Reg.group (.CH_VKP n) = 16 := by simp only [Reg.group, Reg.addr]; omega
@[simp] theorem Reg.group_CH_VKI {n} : Reg.group (.CH_VKI n) = 16 := by simp only [Reg.group, Reg.addr]; omega
@[simp] theorem Reg.group_CH_LCFG {n} : Reg.group (.CH_LCFG n) = 16 := by simp only [Reg.group, Reg.addr]; omega
@[simp] theorem Reg.group_CH_OSW {n} : Reg.group (.CH_OSW n) = 16 := by simp only [Reg.group, Reg.addr]; omega
@[simp] theorem Reg.group_CH_V {n} : Reg.group (.CH_V n) = 16 := by simp only [Reg.group, Reg.addr]; omega
@[simp] theorem Reg.group_CH_I {n} : Reg.group (.CH_I n) = 16 := by simp only [Reg.group, Reg.addr]; omega
@[simp] theorem Reg.group_CH_P {n} : Reg.group (.CH_P n) = 16 := by simp only [Reg.group, Reg.addr]; omega
@[simp] theorem Reg.group_CH_AH {n} : Reg.group (.CH_AH n) = 16 := by simp only [Reg.group, Reg.addr]; omega
@[simp] theorem Reg.group_CH_AHH {n} : Reg.group (.CH_AHH n) = 16 := by simp only [Reg.group, Reg.addr]; omega
@[simp] theorem Reg.group_CH_WH {n} : Reg.group (.CH_WH n) = 16 := by simp only [Reg.group, Reg.addr]; omega
@[simp] theorem Reg.group_CH_WHH {n} : Reg.group (.CH_WHH n) = 16 := by simp only [Reg.group, Reg.addr]; omega
@[simp] theorem Reg.group_CH_T {n} : Reg.group (.CH_T n) = 16 := by simp only [Reg.group, Reg.addr]; omega
@[simp] theorem Reg.group_CH_VFD {n} : Reg.group (.CH_VFD n) = 16 := by simp only [Reg.group, Reg.addr]; omega
@[simp] theorem Reg.group_CH_REF {n} : Reg.group (.CH_REF n) = 16 := by simp only [Reg.group, Reg.addr]; omega
@[simp] theorem Reg.group_CH_DUTY {n} : Reg.group (.CH_DUTY n) = 16 := by simp only [Reg.group, Reg.addr]; omega
@[simp] theorem Reg.group_CH_PSTAT {n} : Reg.group (.CH_PSTAT n) = 16 := by simp only [Reg.group, Reg.addr]; omega
@[simp] theorem Reg.group_CH_PSEQ {n} : Reg.group (.CH_PSEQ n) = 16 := by simp only [Reg.group, Reg.addr]; omega
@[simp] theorem Reg.group_CH_PCNT {n} : Reg.group (.CH_PCNT n) = 16 := by simp only [Reg.group, Reg.addr]; omega
@[simp] theorem Reg.group_CH_TREC {n i} : Reg.group (.CH_TREC n i) = 16 := by simp only [Reg.group, Reg.addr]; omega
@[simp] theorem Reg.group_CH_FAULT {n} : Reg.group (.CH_FAULT n) = 16 := by simp only [Reg.group, Reg.addr]; omega
@[simp] theorem Reg.group_CH_FUSEST {n} : Reg.group (.CH_FUSEST n) = 16 := by simp only [Reg.group, Reg.addr]; omega
@[simp] theorem Reg.group_CH_CTLAST {n} : Reg.group (.CH_CTLAST n) = 16 := by simp only [Reg.group, Reg.addr]; omega
@[simp] theorem Reg.group_CH_CTCNT {n} : Reg.group (.CH_CTCNT n) = 16 := by simp only [Reg.group, Reg.addr]; omega
@[simp] theorem Reg.group_CH_CTWEAR {n} : Reg.group (.CH_CTWEAR n) = 16 := by simp only [Reg.group, Reg.addr]; omega
@[simp] theorem Reg.group_CH_CTCLAMP {n} : Reg.group (.CH_CTCLAMP n) = 16 := by simp only [Reg.group, Reg.addr]; omega
@[simp] theorem Reg.group_CH_STG {n} : Reg.group (.CH_STG n) = 16 := by simp only [Reg.group, Reg.addr]; omega
@[simp] theorem Reg.group_CH_DCIR {n} : Reg.group (.CH_DCIR n) = 16 := by simp only [Reg.group, Reg.addr]; omega
@[simp] theorem Reg.group_CH_DCDV {n} : Reg.group (.CH_DCDV n) = 16 := by simp only [Reg.group, Reg.addr]; omega
@[simp] theorem Reg.group_CH_DCDI {n} : Reg.group (.CH_DCDI n) = 16 := by simp only [Reg.group, Reg.addr]; omega
@[simp] theorem Reg.group_CH_DCCFG {n} : Reg.group (.CH_DCCFG n) = 16 := by simp only [Reg.group, Reg.addr]; omega
@[simp] theorem Reg.group_CH_DCST {n} : Reg.group (.CH_DCST n) = 16 := by simp only [Reg.group, Reg.addr]; omega
@[simp] theorem Reg.group_CH_EIS_F {n} : Reg.group (.CH_EIS_F n) = 16 := by simp only [Reg.group, Reg.addr]; omega
@[simp] theorem Reg.group_CH_EIS_RE {n} : Reg.group (.CH_EIS_RE n) = 16 := by simp only [Reg.group, Reg.addr]; omega
@[simp] theorem Reg.group_CH_EIS_IM {n} : Reg.group (.CH_EIS_IM n) = 16 := by simp only [Reg.group, Reg.addr]; omega
@[simp] theorem Reg.group_CH_EIS_IA {n} : Reg.group (.CH_EIS_IA n) = 16 := by simp only [Reg.group, Reg.addr]; omega
@[simp] theorem Reg.group_CH_EIS_Q {n} : Reg.group (.CH_EIS_Q n) = 16 := by simp only [Reg.group, Reg.addr]; omega
@[simp] theorem Reg.group_CH_DVDT {n} : Reg.group (.CH_DVDT n) = 16 := by simp only [Reg.group, Reg.addr]; omega
@[simp] theorem Reg.group_CH_OCVCTL {n} : Reg.group (.CH_OCVCTL n) = 16 := by simp only [Reg.group, Reg.addr]; omega
@[simp] theorem Reg.group_CH_OCVSLOPE {n} : Reg.group (.CH_OCVSLOPE n) = 16 := by simp only [Reg.group, Reg.addr]; omega
@[simp] theorem Reg.group_CH_OCVSE {n} : Reg.group (.CH_OCVSE n) = 16 := by simp only [Reg.group, Reg.addr]; omega
@[simp] theorem Reg.group_CH_OCVN {n} : Reg.group (.CH_OCVN n) = 16 := by simp only [Reg.group, Reg.addr]; omega
@[simp] theorem Reg.group_CH_OCVDUR {n} : Reg.group (.CH_OCVDUR n) = 16 := by simp only [Reg.group, Reg.addr]; omega
@[simp] theorem Reg.group_CH_OCVST {n} : Reg.group (.CH_OCVST n) = 16 := by simp only [Reg.group, Reg.addr]; omega
@[simp] theorem Reg.group_CH_OCVV0 {n} : Reg.group (.CH_OCVV0 n) = 16 := by simp only [Reg.group, Reg.addr]; omega
@[simp] theorem Reg.group_CH_G {n i} : Reg.group (.CH_G n i) = 16 := by simp only [Reg.group, Reg.addr]; omega
@[simp] theorem Reg.group_GL_ID : Reg.group .GL_ID = 0 := by simp only [Reg.group, Reg.addr]; omega
@[simp] theorem Reg.group_GL_STATE : Reg.group .GL_STATE = 0 := by simp only [Reg.group, Reg.addr]; omega
@[simp] theorem Reg.group_GL_SAFE : Reg.group .GL_SAFE = 0 := by simp only [Reg.group, Reg.addr]; omega
@[simp] theorem Reg.group_GL_LOCK : Reg.group .GL_LOCK = 0 := by simp only [Reg.group, Reg.addr]; omega
@[simp] theorem Reg.group_GL_MODE : Reg.group .GL_MODE = 0 := by simp only [Reg.group, Reg.addr]; omega
@[simp] theorem Reg.group_GL_AGSTAT : Reg.group .GL_AGSTAT = 0 := by simp only [Reg.group, Reg.addr]; omega
@[simp] theorem Reg.group_GL_SUPV : Reg.group .GL_SUPV = 0 := by simp only [Reg.group, Reg.addr]; omega
@[simp] theorem Reg.group_GL_CARD : Reg.group .GL_CARD = 0 := by simp only [Reg.group, Reg.addr]; omega
@[simp] theorem Reg.group_GL_BUSLIM : Reg.group .GL_BUSLIM = 0 := by simp only [Reg.group, Reg.addr]; omega
@[simp] theorem Reg.group_CK_SRC : Reg.group .CK_SRC = 1 := by simp only [Reg.group, Reg.addr]; omega
@[simp] theorem Reg.group_CK_SRCSTAT : Reg.group .CK_SRCSTAT = 1 := by simp only [Reg.group, Reg.addr]; omega
@[simp] theorem Reg.group_CK_PLLSTAT : Reg.group .CK_PLLSTAT = 1 := by simp only [Reg.group, Reg.addr]; omega
@[simp] theorem Reg.group_CK_TRIM : Reg.group .CK_TRIM = 1 := by simp only [Reg.group, Reg.addr]; omega
@[simp] theorem Reg.group_CK_TIME : Reg.group .CK_TIME = 1 := by simp only [Reg.group, Reg.addr]; omega
@[simp] theorem Reg.group_CK_TIMEH : Reg.group .CK_TIMEH = 1 := by simp only [Reg.group, Reg.addr]; omega
@[simp] theorem Reg.group_CK_TSET : Reg.group .CK_TSET = 1 := by simp only [Reg.group, Reg.addr]; omega
@[simp] theorem Reg.group_CK_PPS : Reg.group .CK_PPS = 1 := by simp only [Reg.group, Reg.addr]; omega
@[simp] theorem Reg.group_CK_PPSSTAT : Reg.group .CK_PPSSTAT = 1 := by simp only [Reg.group, Reg.addr]; omega
@[simp] theorem Reg.group_CK_OFFSET : Reg.group .CK_OFFSET = 1 := by simp only [Reg.group, Reg.addr]; omega
@[simp] theorem Reg.group_CK_HOLD : Reg.group .CK_HOLD = 1 := by simp only [Reg.group, Reg.addr]; omega
@[simp] theorem Reg.group_CK_RATE : Reg.group .CK_RATE = 1 := by simp only [Reg.group, Reg.addr]; omega
@[simp] theorem Reg.group_CK_COMPAT : Reg.group .CK_COMPAT = 1 := by simp only [Reg.group, Reg.addr]; omega
@[simp] theorem Reg.group_CK_CSTEP : Reg.group .CK_CSTEP = 1 := by simp only [Reg.group, Reg.addr]; omega
@[simp] theorem Reg.group_CK_CVOLT : Reg.group .CK_CVOLT = 1 := by simp only [Reg.group, Reg.addr]; omega
@[simp] theorem Reg.group_CK_PWM : Reg.group .CK_PWM = 1 := by simp only [Reg.group, Reg.addr]; omega
@[simp] theorem Reg.group_CK_SYNC : Reg.group .CK_SYNC = 1 := by simp only [Reg.group, Reg.addr]; omega
@[simp] theorem Reg.group_CK_SYNCST : Reg.group .CK_SYNCST = 1 := by simp only [Reg.group, Reg.addr]; omega
@[simp] theorem Reg.group_EV_CTL : Reg.group .EV_CTL = 2 := by simp only [Reg.group, Reg.addr]; omega
@[simp] theorem Reg.group_EV_STAT : Reg.group .EV_STAT = 2 := by simp only [Reg.group, Reg.addr]; omega
@[simp] theorem Reg.group_SQ_CTL : Reg.group .SQ_CTL = 3 := by simp only [Reg.group, Reg.addr]; omega
@[simp] theorem Reg.group_SQ_CMD : Reg.group .SQ_CMD = 3 := by simp only [Reg.group, Reg.addr]; omega
@[simp] theorem Reg.group_SQ_STAT : Reg.group .SQ_STAT = 3 := by simp only [Reg.group, Reg.addr]; omega
@[simp] theorem Reg.group_SQ_BOOT : Reg.group .SQ_BOOT = 3 := by simp only [Reg.group, Reg.addr]; omega
@[simp] theorem Reg.group_SQ_WDI : Reg.group .SQ_WDI = 3 := by simp only [Reg.group, Reg.addr]; omega
@[simp] theorem Reg.group_SQ_ROFF : Reg.group .SQ_ROFF = 3 := by simp only [Reg.group, Reg.addr]; omega
@[simp] theorem Reg.group_FD_SEL : Reg.group .FD_SEL = 4 := by simp only [Reg.group, Reg.addr]; omega
@[simp] theorem Reg.group_FD_QUAL : Reg.group .FD_QUAL = 4 := by simp only [Reg.group, Reg.addr]; omega
@[simp] theorem Reg.group_FD_CMAX : Reg.group .FD_CMAX = 4 := by simp only [Reg.group, Reg.addr]; omega
@[simp] theorem Reg.group_FD_CBUS : Reg.group .FD_CBUS = 4 := by simp only [Reg.group, Reg.addr]; omega
@[simp] theorem Reg.group_FD_BUSV : Reg.group .FD_BUSV = 4 := by simp only [Reg.group, Reg.addr]; omega
@[simp] theorem Reg.group_FD_CNT : Reg.group .FD_CNT = 4 := by simp only [Reg.group, Reg.addr]; omega
@[simp] theorem Reg.group_HU_CTL : Reg.group .HU_CTL = 5 := by simp only [Reg.group, Reg.addr]; omega
@[simp] theorem Reg.group_HU_STAT : Reg.group .HU_STAT = 5 := by simp only [Reg.group, Reg.addr]; omega
@[simp] theorem Reg.group_HU_FLT : Reg.group .HU_FLT = 5 := by simp only [Reg.group, Reg.addr]; omega
@[simp] theorem Reg.group_HU_INTM : Reg.group .HU_INTM = 5 := by simp only [Reg.group, Reg.addr]; omega
@[simp] theorem Reg.group_HU_STRAP : Reg.group .HU_STRAP = 5 := by simp only [Reg.group, Reg.addr]; omega
@[simp] theorem Reg.group_HU_CHG : Reg.group .HU_CHG = 5 := by simp only [Reg.group, Reg.addr]; omega
@[simp] theorem Reg.group_HU_VREG : Reg.group .HU_VREG = 5 := by simp only [Reg.group, Reg.addr]; omega
@[simp] theorem Reg.group_HU_ACC : Reg.group .HU_ACC = 5 := by simp only [Reg.group, Reg.addr]; omega
@[simp] theorem Reg.group_HU_TEMP : Reg.group .HU_TEMP = 5 := by simp only [Reg.group, Reg.addr]; omega
@[simp] theorem Reg.group_HU_DLIM : Reg.group .HU_DLIM = 5 := by simp only [Reg.group, Reg.addr]; omega
@[simp] theorem Reg.group_HU_RIDE : Reg.group .HU_RIDE = 5 := by simp only [Reg.group, Reg.addr]; omega
@[simp] theorem Reg.group_HU_RSH : Reg.group .HU_RSH = 5 := by simp only [Reg.group, Reg.addr]; omega
@[simp] theorem Reg.group_HU_PRECFG : Reg.group .HU_PRECFG = 5 := by simp only [Reg.group, Reg.addr]; omega
@[simp] theorem Reg.group_HU_TIMER : Reg.group .HU_TIMER = 5 := by simp only [Reg.group, Reg.addr]; omega
@[simp] theorem Reg.group_HU_WDT : Reg.group .HU_WDT = 5 := by simp only [Reg.group, Reg.addr]; omega
@[simp] theorem Reg.group_HU_V : Reg.group .HU_V = 5 := by simp only [Reg.group, Reg.addr]; omega
@[simp] theorem Reg.group_HU_I : Reg.group .HU_I = 5 := by simp only [Reg.group, Reg.addr]; omega
@[simp] theorem Reg.group_HU_T : Reg.group .HU_T = 5 := by simp only [Reg.group, Reg.addr]; omega
@[simp] theorem Reg.group_HU_GG_SOC : Reg.group .HU_GG_SOC = 5 := by simp only [Reg.group, Reg.addr]; omega
@[simp] theorem Reg.group_HU_GG_CAP : Reg.group .HU_GG_CAP = 5 := by simp only [Reg.group, Reg.addr]; omega
@[simp] theorem Reg.group_HU_GG_RPACK : Reg.group .HU_GG_RPACK = 5 := by simp only [Reg.group, Reg.addr]; omega
@[simp] theorem Reg.group_LG_CTL : Reg.group .LG_CTL = 6 := by simp only [Reg.group, Reg.addr]; omega
@[simp] theorem Reg.group_LG_CAP_W : Reg.group .LG_CAP_W = 6 := by simp only [Reg.group, Reg.addr]; omega
@[simp] theorem Reg.group_LG_REGEN_W : Reg.group .LG_REGEN_W = 6 := by simp only [Reg.group, Reg.addr]; omega
@[simp] theorem Reg.group_LG_CAP_RM : Reg.group .LG_CAP_RM = 6 := by simp only [Reg.group, Reg.addr]; omega
@[simp] theorem Reg.group_LG_CAPEFF : Reg.group .LG_CAPEFF = 6 := by simp only [Reg.group, Reg.addr]; omega
@[simp] theorem Reg.group_LG_CLASS_FLOOR : Reg.group .LG_CLASS_FLOOR = 6 := by simp only [Reg.group, Reg.addr]; omega
@[simp] theorem Reg.group_LG_HU : Reg.group .LG_HU = 6 := by simp only [Reg.group, Reg.addr]; omega
@[simp] theorem Reg.group_LG_NET_W : Reg.group .LG_NET_W = 6 := by simp only [Reg.group, Reg.addr]; omega
@[simp] theorem Reg.group_LG_PRED_W : Reg.group .LG_PRED_W = 6 := by simp only [Reg.group, Reg.addr]; omega
@[simp] theorem Reg.group_LG_STAT : Reg.group .LG_STAT = 6 := by simp only [Reg.group, Reg.addr]; omega
@[simp] theorem Reg.group_LG_DEGRADE_PCT : Reg.group .LG_DEGRADE_PCT = 6 := by simp only [Reg.group, Reg.addr]; omega
@[simp] theorem Reg.group_LG_DEGRADE_S : Reg.group .LG_DEGRADE_S = 6 := by simp only [Reg.group, Reg.addr]; omega
@[simp] theorem Reg.group_LG_BASE_W : Reg.group .LG_BASE_W = 6 := by simp only [Reg.group, Reg.addr]; omega
@[simp] theorem Reg.group_LG_AXEFF : Reg.group .LG_AXEFF = 6 := by simp only [Reg.group, Reg.addr]; omega
@[simp] theorem Reg.group_LG_FEEDERR : Reg.group .LG_FEEDERR = 6 := by simp only [Reg.group, Reg.addr]; omega
@[simp] theorem Reg.group_LG_RPT : Reg.group .LG_RPT = 6 := by simp only [Reg.group, Reg.addr]; omega
@[simp] theorem Reg.group_TW0_POLL : Reg.group .TW0_POLL = 8 := by simp only [Reg.group, Reg.addr]; omega
@[simp] theorem Reg.group_TW0_PKMASK : Reg.group .TW0_PKMASK = 8 := by simp only [Reg.group, Reg.addr]; omega
@[simp] theorem Reg.group_TW1_ADDR : Reg.group .TW1_ADDR = 8 := by simp only [Reg.group, Reg.addr]; omega
@[simp] theorem Reg.group_TW1_PTR : Reg.group .TW1_PTR = 8 := by simp only [Reg.group, Reg.addr]; omega
@[simp] theorem Reg.group_TW1_NTFY : Reg.group .TW1_NTFY = 8 := by simp only [Reg.group, Reg.addr]; omega
@[simp] theorem Reg.group_HL_CFG : Reg.group .HL_CFG = 9 := by simp only [Reg.group, Reg.addr]; omega
@[simp] theorem Reg.group_HL_STAT : Reg.group .HL_STAT = 9 := by simp only [Reg.group, Reg.addr]; omega
@[simp] theorem Reg.group_HL_KEYSTAT : Reg.group .HL_KEYSTAT = 9 := by simp only [Reg.group, Reg.addr]; omega
@[simp] theorem Reg.group_HL_RATE : Reg.group .HL_RATE = 9 := by simp only [Reg.group, Reg.addr]; omega
@[simp] theorem Reg.group_HL_BULK : Reg.group .HL_BULK = 9 := by simp only [Reg.group, Reg.addr]; omega
@[simp] theorem Reg.group_HL_SPI : Reg.group .HL_SPI = 9 := by simp only [Reg.group, Reg.addr]; omega
@[simp] theorem Reg.group_VT_CTL : Reg.group .VT_CTL = 10 := by simp only [Reg.group, Reg.addr]; omega
@[simp] theorem Reg.group_VT_STAT : Reg.group .VT_STAT = 10 := by simp only [Reg.group, Reg.addr]; omega
@[simp] theorem Reg.group_VT_HEAD : Reg.group .VT_HEAD = 10 := by simp only [Reg.group, Reg.addr]; omega
@[simp] theorem Reg.group_VT_TAIL : Reg.group .VT_TAIL = 10 := by simp only [Reg.group, Reg.addr]; omega
@[simp] theorem Reg.group_VT_QUEUE : Reg.group .VT_QUEUE = 10 := by simp only [Reg.group, Reg.addr]; omega
@[simp] theorem Reg.group_VT_CCTL : Reg.group .VT_CCTL = 10 := by simp only [Reg.group, Reg.addr]; omega
@[simp] theorem Reg.group_VT_CSTAT : Reg.group .VT_CSTAT = 10 := by simp only [Reg.group, Reg.addr]; omega
@[simp] theorem Reg.group_BT_CTL : Reg.group .BT_CTL = 11 := by simp only [Reg.group, Reg.addr]; omega
@[simp] theorem Reg.group_BT_SRAM : Reg.group .BT_SRAM = 11 := by simp only [Reg.group, Reg.addr]; omega
@[simp] theorem Reg.group_BT_SRAMT : Reg.group .BT_SRAMT = 11 := by simp only [Reg.group, Reg.addr]; omega
@[simp] theorem Reg.group_BT_MRAM : Reg.group .BT_MRAM = 11 := by simp only [Reg.group, Reg.addr]; omega
@[simp] theorem Reg.group_BT_MRAMT : Reg.group .BT_MRAMT = 11 := by simp only [Reg.group, Reg.addr]; omega
@[simp] theorem Reg.group_BT_FAIL0 : Reg.group .BT_FAIL0 = 11 := by simp only [Reg.group, Reg.addr]; omega
@[simp] theorem Reg.group_BT_FAIL1 : Reg.group .BT_FAIL1 = 11 := by simp only [Reg.group, Reg.addr]; omega
@[simp] theorem Reg.group_BT_REPAIR : Reg.group .BT_REPAIR = 11 := by simp only [Reg.group, Reg.addr]; omega
@[simp] theorem Reg.group_BT_REF : Reg.group .BT_REF = 11 := by simp only [Reg.group, Reg.addr]; omega
@[simp] theorem Reg.group_BT_REFLIM : Reg.group .BT_REFLIM = 11 := by simp only [Reg.group, Reg.addr]; omega
@[simp] theorem Reg.group_TS_CTL : Reg.group .TS_CTL = 11 := by simp only [Reg.group, Reg.addr]; omega
@[simp] theorem Reg.group_TS_MAX : Reg.group .TS_MAX = 11 := by simp only [Reg.group, Reg.addr]; omega
@[simp] theorem Reg.group_TS_STAT : Reg.group .TS_STAT = 11 := by simp only [Reg.group, Reg.addr]; omega
@[simp] theorem Reg.group_TS_BAND : Reg.group .TS_BAND = 11 := by simp only [Reg.group, Reg.addr]; omega
@[simp] theorem Reg.group_TS_HK : Reg.group .TS_HK = 11 := by simp only [Reg.group, Reg.addr]; omega
@[simp] theorem Reg.group_LN_CFG : Reg.group .LN_CFG = 12 := by simp only [Reg.group, Reg.addr]; omega
@[simp] theorem Reg.group_LN_STAT : Reg.group .LN_STAT = 12 := by simp only [Reg.group, Reg.addr]; omega
@[simp] theorem Reg.group_LN_POS : Reg.group .LN_POS = 12 := by simp only [Reg.group, Reg.addr]; omega
@[simp] theorem Reg.group_LN_LIMIT : Reg.group .LN_LIMIT = 12 := by simp only [Reg.group, Reg.addr]; omega
@[simp] theorem Reg.group_LN_ADOPT : Reg.group .LN_ADOPT = 12 := by simp only [Reg.group, Reg.addr]; omega
@[simp] theorem Reg.group_LN_DWELL : Reg.group .LN_DWELL = 12 := by simp only [Reg.group, Reg.addr]; omega
@[simp] theorem Reg.group_LN_CNT : Reg.group .LN_CNT = 12 := by simp only [Reg.group, Reg.addr]; omega
@[simp] theorem Reg.group_LN_REFV : Reg.group .LN_REFV = 12 := by simp only [Reg.group, Reg.addr]; omega
@[simp] theorem Reg.group_LN_RES0 : Reg.group .LN_RES0 = 12 := by simp only [Reg.group, Reg.addr]; omega
@[simp] theorem Reg.group_LN_RES1 : Reg.group .LN_RES1 = 12 := by simp only [Reg.group, Reg.addr]; omega
@[simp] theorem Reg.group_LN_RES2 : Reg.group .LN_RES2 = 12 := by simp only [Reg.group, Reg.addr]; omega
@[simp] theorem Reg.group_LN_RES3 : Reg.group .LN_RES3 = 12 := by simp only [Reg.group, Reg.addr]; omega
@[simp] theorem Reg.group_LN_KBASE : Reg.group .LN_KBASE = 12 := by simp only [Reg.group, Reg.addr]; omega
@[simp] theorem Reg.group_LN_CALCTL : Reg.group .LN_CALCTL = 12 := by simp only [Reg.group, Reg.addr]; omega
@[simp] theorem Reg.group_LN_CALSTAT : Reg.group .LN_CALSTAT = 12 := by simp only [Reg.group, Reg.addr]; omega
@[simp] theorem Reg.group_LN_CALSEQ : Reg.group .LN_CALSEQ = 12 := by simp only [Reg.group, Reg.addr]; omega
@[simp] theorem Reg.group_CS_CTL : Reg.group .CS_CTL = 12 := by simp only [Reg.group, Reg.addr]; omega
@[simp] theorem Reg.group_CS_SPARE : Reg.group .CS_SPARE = 12 := by simp only [Reg.group, Reg.addr]; omega
@[simp] theorem Reg.group_CS_SHPROG : Reg.group .CS_SHPROG = 12 := by simp only [Reg.group, Reg.addr]; omega
@[simp] theorem Reg.group_CS_SHCMD : Reg.group .CS_SHCMD = 12 := by simp only [Reg.group, Reg.addr]; omega
@[simp] theorem Reg.group_CS_SHSTAT : Reg.group .CS_SHSTAT = 12 := by simp only [Reg.group, Reg.addr]; omega
@[simp] theorem Reg.group_CS_BART : Reg.group .CS_BART = 12 := by simp only [Reg.group, Reg.addr]; omega
@[simp] theorem Reg.group_CS_SHIN : Reg.group .CS_SHIN = 12 := by simp only [Reg.group, Reg.addr]; omega

/-- The word of a register, the register first. -/
def State.rd (r : Reg) (s : State) : Word := s.word r

theorem State.rd_mk {r regs old held64 low64 mem nv time ctr ctrPrev lockAt lockBy safeReq clrReq ch sh lane spare led fd fsel hu ax al sq boot clk mode ev link tw vault cellar tst maint status data free pending} :
    State.rd r ⟨regs, old, held64, low64, mem, nv, time, ctr, ctrPrev, lockAt, lockBy, safeReq, clrReq, ch, sh, lane, spare, led, fd, fsel, hu, ax, al, sq, boot, clk, mode, ev, link, tw, vault, cellar, tst, maint, status, data, free, pending⟩
      = (regFind regs r).getD r.rst := by simp only [State.rd, State.word]

theorem State.rd_fold (s : State) (r : Reg) : (regFind s.regs r).getD r.rst = s.rd r := by simp only [State.rd, State.word]

@[simp] theorem State.setWord_rd {s q r w} (h : Reg.group r ≠ Reg.group q) : State.rd r (State.setWord s q w) = State.rd r s :=
  State.word_setWord_other s q r w fun e => h (by rw [e])

@[simp] theorem State.putBytes_rd {s r a bs} : State.rd r (State.putBytes s a bs) = State.rd r s := by unfold State.putBytes; simp [State.rd_mk, State.rd_fold]

@[simp] theorem State.rd_ite {r} {c : Prop} [Decidable c] {a b : State} :
    State.rd r (if c then a else b) = if c then State.rd r a else State.rd r b := apply_ite (State.rd r) c a b

@[simp] theorem State.rd_each {α s r} {l : List α} {f} (hf : ∀ x t, State.rd r (f x t) = State.rd r t) :
    State.rd r (State.each s l f) = State.rd r s := by
  unfold State.each
  induction l generalizing s with
  | nil => rfl
  | cons x l ih => exact (ih (s := f x s)).trans (hf x s)

theorem foldl_rd {α r} {l : List α} {f : State → α → State} (hf : ∀ t x, State.rd r (f t x) = State.rd r t) {s} :
    State.rd r (l.foldl f s) = State.rd r s := by
  induction l generalizing s with
  | nil => rfl
  | cons x l ih => exact (ih (s := f s x)).trans (hf s x)

/-! Machine/Ops.lean -/

@[simp] theorem State.fset_rd {s f v r} (h : Reg.group r ≠ Reg.group f.reg) : State.rd r (State.fset s f v) = State.rd r s := by
  unfold State.fset; simp [State.rd_mk, State.rd_fold, h]
@[simp] theorem State.fsetS_rd {s f v r} (h : Reg.group r ≠ Reg.group f.reg) : State.rd r (State.fsetS s f v) = State.rd r s := by
  unfold State.fsetS; simp [State.rd_mk, State.rd_fold, h]
@[simp] theorem State.setFlag_rd {s f v r} (h : Reg.group r ≠ Reg.group f.reg) : State.rd r (State.setFlag s f v) = State.rd r s := by
  unfold State.setFlag; simp [State.rd_mk, State.rd_fold, h]
@[simp] theorem State.incSat_rd {s f r} (h : Reg.group r ≠ Reg.group f.reg) : State.rd r (State.incSat s f) = State.rd r s := by
  unfold State.incSat; simp [State.rd_mk, State.rd_fold, h]
@[simp] theorem State.incWrap_rd {s f r} (h : Reg.group r ≠ Reg.group f.reg) : State.rd r (State.incWrap s f) = State.rd r s := by
  unfold State.incWrap; simp [State.rd_mk, State.rd_fold, h]
@[simp] theorem State.setWord64_rd {s lo hi v r} (h : Reg.group r ≠ Reg.group lo) (h2 : Reg.group r ≠ Reg.group hi) : State.rd r (State.setWord64 s lo hi v) = State.rd r s := by
  unfold State.setWord64; simp [State.rd_mk, State.rd_fold, h, h2]
@[simp] theorem State.putMemWord_rd {s a w rr} : State.rd rr (State.putMemWord s a w) = State.rd rr s := by
  unfold State.putMemWord; simp (maxDischargeDepth := 60) [State.rd_mk, State.rd_fold, *]
@[simp] theorem State.setCh_rd {s n c rr} : State.rd rr (State.setCh s n c) = State.rd rr s := by
  unfold State.setCh; simp (maxDischargeDepth := 60) [State.rd_mk, State.rd_fold, *]
@[simp] theorem State.modCh_rd {s n f rr} : State.rd rr (State.modCh s n f) = State.rd rr s := by
  unfold State.modCh; simp (maxDischargeDepth := 60) [State.rd_mk, State.rd_fold, *]
@[simp] theorem State.modM_rd {s n f rr} : State.rd rr (State.modM s n f) = State.rd rr s := by
  unfold State.modM; simp (maxDischargeDepth := 60) [State.rd_mk, State.rd_fold, *]
@[simp] theorem State.modL_rd {s n f rr} : State.rd rr (State.modL s n f) = State.rd rr s := by
  unfold State.modL; simp (maxDischargeDepth := 60) [State.rd_mk, State.rd_fold, *]
@[simp] theorem State.modX_rd {s n f rr} : State.rd rr (State.modX s n f) = State.rd rr s := by
  unfold State.modX; simp (maxDischargeDepth := 60) [State.rd_mk, State.rd_fold, *]
@[simp] theorem State.modK_rd {s n f rr} : State.rd rr (State.modK s n f) = State.rd rr s := by
  unfold State.modK; simp (maxDischargeDepth := 60) [State.rd_mk, State.rd_fold, *]
@[simp] theorem State.modP_rd {s n f rr} : State.rd rr (State.modP s n f) = State.rd rr s := by
  unfold State.modP; simp (maxDischargeDepth := 60) [State.rd_mk, State.rd_fold, *]
@[simp] theorem State.modC_rd {s n f rr} : State.rd rr (State.modC s n f) = State.rd rr s := by
  unfold State.modC; simp (maxDischargeDepth := 60) [State.rd_mk, State.rd_fold, *]
@[simp] theorem State.fresh_rd {s rr} : State.rd rr (State.fresh s) = State.rd rr s := by
  unfold State.fresh; simp (maxDischargeDepth := 60) [State.rd_mk, State.rd_fold, *]
@[simp] theorem State.freshN_rd {s k rr} : State.rd rr (State.freshN s k) = State.rd rr s := by
  unfold State.freshN; simp (maxDischargeDepth := 60) [State.rd_mk, State.rd_fold, *]
@[simp] theorem State.reading_rd {s f signed x k rr} (h : Reg.group rr ≠ Reg.group f.reg) : State.rd rr (State.reading s f signed x k) = State.rd rr s := by
  unfold State.reading; (repeat' split) <;> simp [State.rd_mk, State.rd_fold, h]
@[simp] theorem State.answer_rd {s st d rr} : State.rd rr (State.answer s st d) = State.rd rr s := by
  unfold State.answer; simp (maxDischargeDepth := 60) [State.rd_mk, State.rd_fold, *]

/-! Machine/Access.lean -/

@[simp] theorem State.writeReg_rd {s q v r} (h : Reg.group r ≠ Reg.group q) : State.rd r (State.writeReg s q v) = State.rd r s := by
  unfold State.writeReg; simp [State.rd_mk, State.rd_fold, h]

/-! Machine/Events.lean -/

@[simp] theorem State.atticPut_rd {s o rr} (h2 : Reg.group rr ≠ 2) : State.rd rr (State.atticPut s o) = State.rd rr s := by
  unfold State.atticPut; dsimp only; (repeat' split) <;> simp +contextual (maxDischargeDepth := 60) [State.rd_mk, State.rd_fold, *]
@[simp] theorem State.vaultPut_rd {s r rr} (h10 : Reg.group rr ≠ 10) : State.rd rr (State.vaultPut s r).1 = State.rd rr s := by
  unfold State.vaultPut; (repeat' split) <;> simp (maxDischargeDepth := 60) [State.rd_mk, State.rd_fold, *]
@[simp] theorem State.setSessAt_rd {s k x rr} : State.rd rr (State.setSessAt s k x) = State.rd rr s := by
  unfold State.setSessAt; (repeat' split) <;> simp (maxDischargeDepth := 60) [State.rd_mk, State.rd_fold, *]
@[simp] theorem State.sessEvent_rd {s o k rr} (h2 : Reg.group rr ≠ 2) : State.rd rr (State.sessEvent s o k) = State.rd rr s := by
  unfold State.sessEvent; simp (maxDischargeDepth := 60) [State.rd_mk, State.rd_fold, *]
@[simp] theorem State.notifyPut_rd {s o rr} (h2 : Reg.group rr ≠ 2) : State.rd rr (State.notifyPut s o) = State.rd rr s := by
  unfold State.notifyPut; simp (maxDischargeDepth := 60) [State.rd_mk, State.rd_fold, *]
@[simp] theorem State.recordOcc_rd {s o rr} (h10 : Reg.group rr ≠ 10) : State.rd rr (State.recordOcc s o).1 = State.rd rr s := by
  unfold State.recordOcc; (repeat' split) <;> simp (maxDischargeDepth := 60) [State.rd_mk, State.rd_fold, *]
@[simp] theorem State.routeOne_rd {s o rr} (h2 : Reg.group rr ≠ 2) (h10 : Reg.group rr ≠ 10) : State.rd rr (State.routeOne s o).1 = State.rd rr s := by
  unfold State.routeOne
  extract_lets v0 v1
  clear_value v0
  have h_v1 : State.rd rr v1 = State.rd rr s := by subst v1; simp (maxDischargeDepth := 60) [State.rd_mk, State.rd_fold, *]
  clear_value v1
  ((repeat' split) <;> (try extract_lets) <;> simp (maxDischargeDepth := 60) +zetaDelta [State.rd_mk, State.rd_fold, *])
@[simp] theorem State.cellarTrigger_rd {s cause stamp evNum rr} (h10 : Reg.group rr ≠ 10) : State.rd rr (State.cellarTrigger s cause stamp evNum).1 = State.rd rr s := by
  unfold State.cellarTrigger; (repeat' split) <;> simp (maxDischargeDepth := 60) [State.rd_mk, State.rd_fold, *]
@[simp] theorem State.route_rd {s o rr} (h2 : Reg.group rr ≠ 2) (h10 : Reg.group rr ≠ 10) : State.rd rr (State.route s o) = State.rd rr s := by
  unfold State.route; simp (maxDischargeDepth := 60) [State.rd_mk, State.rd_fold, *]
@[simp] theorem State.deepEvent_rd {s sev rr} : State.rd rr (State.deepEvent s sev) = State.rd rr s := by
  unfold State.deepEvent; simp (maxDischargeDepth := 60) [State.rd_mk, State.rd_fold, *]
@[simp] theorem State.raiseOcc_rd {s o rr} (h2 : Reg.group rr ≠ 2) (h10 : Reg.group rr ≠ 10) : State.rd rr (State.raiseOcc s o) = State.rd rr s := by
  unfold State.raiseOcc; simp (maxDischargeDepth := 60) [State.rd_mk, State.rd_fold, *]
@[simp] theorem State.raise_rd {s num sev payload rr} (h2 : Reg.group rr ≠ 2) (h10 : Reg.group rr ≠ 10) : State.rd rr (State.raise s num sev payload) = State.rd rr s := by
  unfold State.raise; simp (maxDischargeDepth := 60) [State.rd_mk, State.rd_fold, *]
@[simp] theorem State.raiseReq_rd {s num sev payload rr} (h2 : Reg.group rr ≠ 2) (h10 : Reg.group rr ≠ 10) : State.rd rr (State.raiseReq s num sev payload) = State.rd rr s := by
  unfold State.raiseReq; simp (maxDischargeDepth := 60) [State.rd_mk, State.rd_fold, *]
@[simp] theorem State.record_rd {s typ num sev stamp payload rr} (h2 : Reg.group rr ≠ 2) (h10 : Reg.group rr ≠ 10) : State.rd rr (State.record s typ num sev stamp payload) = State.rd rr s := by
  unfold State.record; simp (maxDischargeDepth := 60) [State.rd_mk, State.rd_fold, *]
@[simp] theorem State.trigger_rd {s cause rr} (h2 : Reg.group rr ≠ 2) (h10 : Reg.group rr ≠ 10) : State.rd rr (State.trigger s cause) = State.rd rr s := by
  unfold State.trigger; simp (maxDischargeDepth := 60) [State.rd_mk, State.rd_fold, *]

/-! Machine/Measure.lean -/

@[simp] theorem State.putEntry_rd {s a e rr} : State.rd rr (State.putEntry s a e) = State.rd rr s := by
  unfold State.putEntry; simp (maxDischargeDepth := 60) [State.rd_mk, State.rd_fold, *]
@[simp] theorem State.rangeDecide_rd {s n i ovr rr} : State.rd rr (State.rangeDecide s n i ovr) = State.rd rr s := by
  unfold State.rangeDecide; dsimp only; (repeat' split) <;> simp +contextual (maxDischargeDepth := 60) [State.rd_mk, State.rd_fold, *]
@[simp] theorem State.rangeApply_rd {s n rr} (h16 : Reg.group rr ≠ 16) : State.rd rr (State.rangeApply s n) = State.rd rr s := by
  unfold State.rangeApply; (repeat' split) <;> simp (maxDischargeDepth := 60) [State.rd_mk, State.rd_fold, *]
@[simp] theorem State.overload_rd {s n volt cur rr} (h16 : Reg.group rr ≠ 16) : State.rd rr (State.overload s n volt cur) = State.rd rr s := by
  unfold State.overload
  extract_lets v0
  have h_v0 : State.rd rr v0 = State.rd rr s := by subst v0; simp (maxDischargeDepth := 60) [State.rd_mk, State.rd_fold, *]
  clear_value v0
  simp (maxDischargeDepth := 60) [State.rd_mk, State.rd_fold, *]
@[simp] theorem State.overloadRange_rd {s n rr} : State.rd rr (State.overloadRange s n) = State.rd rr s := by
  unfold State.overloadRange; (repeat' split) <;> simp (maxDischargeDepth := 60) [State.rd_mk, State.rd_fold, *]
@[simp] theorem State.chanOverload_rd {s n volt cur rr} (h16 : Reg.group rr ≠ 16) : State.rd rr (State.chanOverload s n volt cur) = State.rd rr s := by
  unfold State.chanOverload
  extract_lets v0
  have h_v0 : State.rd rr v0 = State.rd rr s := by subst v0; simp (maxDischargeDepth := 60) [State.rd_mk, State.rd_fold, *]
  clear_value v0
  simp (maxDischargeDepth := 60) [State.rd_mk, State.rd_fold, *]
@[simp] theorem State.laneOverload_rd {s volt cur rr} : State.rd rr (State.laneOverload s volt cur) = State.rd rr s := by
  unfold State.laneOverload; simp (maxDischargeDepth := 60) [State.rd_mk, State.rd_fold, *]
@[simp] theorem State.calActivate_rd {s rr} : State.rd rr (State.calActivate s) = State.rd rr s := by
  unfold State.calActivate; simp (maxDischargeDepth := 60) [State.rd_mk, State.rd_fold, *]
@[simp] theorem State.calMirror_rd {s rr} : State.rd rr (State.calMirror s) = State.rd rr s := by
  unfold State.calMirror; simp (maxDischargeDepth := 60) [State.rd_mk, State.rd_fold, *]
@[simp] theorem State.calCopy_rd {s rr} (h12 : Reg.group rr ≠ 12) : State.rd rr (State.calCopy s) = State.rd rr s := by
  unfold State.calCopy; simp (maxDischargeDepth := 60) [State.rd_mk, State.rd_fold, *]
@[simp] theorem State.calSwap_rd {s rr} (h12 : Reg.group rr ≠ 12) : State.rd rr (State.calSwap s) = State.rd rr s := by
  unfold State.calSwap; simp (maxDischargeDepth := 60) [State.rd_mk, State.rd_fold, *]
@[simp] theorem State.calBoundary_rd {s rr} (h12 : Reg.group rr ≠ 12) (h16 : Reg.group rr ≠ 16) : State.rd rr (State.calBoundary s) = State.rd rr s := by
  unfold State.calBoundary; simp (maxDischargeDepth := 60) [State.rd_mk, State.rd_fold, *]
@[simp] theorem State.shadowWrite_rd {s addr val rr} : State.rd rr (State.shadowWrite s addr val) = State.rd rr s := by
  unfold State.shadowWrite
  split
  · simp (maxDischargeDepth := 60) [State.rd_mk, State.rd_fold, *]
  · split
    simp (maxDischargeDepth := 60) [State.rd_mk, State.rd_fold, *]

/-! Machine/Channel.lean -/

@[simp] theorem State.queueItem_rd {s n it rr} (h16 : Reg.group rr ≠ 16) : State.rd rr (State.queueItem s n it) = State.rd rr s := by
  unfold State.queueItem; simp (maxDischargeDepth := 60) [State.rd_mk, State.rd_fold, *]
@[simp] theorem State.shelfItem_rd {s it rr} : State.rd rr (State.shelfItem s it) = State.rd rr s := by
  unfold State.shelfItem; simp (maxDischargeDepth := 60) [State.rd_mk, State.rd_fold, *]
@[simp] theorem State.metricEntry_rd {s n kind seq stamp a b c d e rr} (h16 : Reg.group rr ≠ 16) : State.rd rr (State.metricEntry s n kind seq stamp a b c d e) = State.rd rr s := by
  unfold State.metricEntry; simp (maxDischargeDepth := 60) [State.rd_mk, State.rd_fold, *]
@[simp] theorem State.ocvPost_rd {s n rr} (h16 : Reg.group rr ≠ 16) : State.rd rr (State.ocvPost s n) = State.rd rr s := by
  unfold State.ocvPost
  extract_lets v0 v1 v2
  clear_value v0
  clear_value v1
  have h_v2 : State.rd rr v2 = State.rd rr s := by subst v2; simp (maxDischargeDepth := 60) [State.rd_mk, State.rd_fold, *]
  clear_value v2
  simp (maxDischargeDepth := 60) [State.rd_mk, State.rd_fold, *]
@[simp] theorem State.setTrec_rd {s n bs rr} (h16 : Reg.group rr ≠ 16) : State.rd rr (State.setTrec s n bs) = State.rd rr s := by
  unfold State.setTrec; simp (maxDischargeDepth := 60) [State.rd_mk, State.rd_fold, *]
@[simp] theorem State.putRecord_rd {s n body term close rr} (h2 : Reg.group rr ≠ 2) (h10 : Reg.group rr ≠ 10) (h16 : Reg.group rr ≠ 16) : State.rd rr (State.putRecord s n body term close) = State.rd rr s := by
  unfold State.putRecord
  extract_lets v0 v1 v2 v3
  clear_value v0
  clear_value v1
  have h_v2 : State.rd rr v2 = State.rd rr s := by subst v2; simp (maxDischargeDepth := 60) [State.rd_mk, State.rd_fold, *]
  clear_value v2
  have h_v3 : State.rd rr v3 = State.rd rr s := by subst v3; simp (maxDischargeDepth := 60) [State.rd_mk, State.rd_fold, *]
  clear_value v3
  simp (maxDischargeDepth := 60) [State.rd_mk, State.rd_fold, *]
@[simp] theorem State.eisAbandon_rd {s n rr} (h16 : Reg.group rr ≠ 16) : State.rd rr (State.eisAbandon s n) = State.rd rr s := by
  unfold State.eisAbandon; (repeat' split) <;> simp (maxDischargeDepth := 60) [State.rd_mk, State.rd_fold, *]
@[simp] theorem State.closeStep_rd {s n term src sat tm close rr} (h2 : Reg.group rr ≠ 2) (h10 : Reg.group rr ≠ 10) (h16 : Reg.group rr ≠ 16) : State.rd rr (State.closeStep s n term src sat tm close) = State.rd rr s := by
  unfold State.closeStep; (repeat' split) <;> simp (maxDischargeDepth := 60) [State.rd_mk, State.rd_fold, *]
@[simp] theorem State.latchBeside_rd {s n bit rr} (h16 : Reg.group rr ≠ 16) : State.rd rr (State.latchBeside s n bit) = State.rd rr s := by
  unfold State.latchBeside
  extract_lets v0
  have h_v0 : State.rd rr v0 = State.rd rr s := by subst v0; simp (maxDischargeDepth := 60) [State.rd_mk, State.rd_fold, *]
  clear_value v0
  simp (maxDischargeDepth := 60) [State.rd_mk, State.rd_fold, *]
@[simp] theorem State.latch_rd {s n bit t rr} (h16 : Reg.group rr ≠ 16) : State.rd rr (State.latch s n bit t) = State.rd rr s := by
  unfold State.latch; simp (maxDischargeDepth := 60) [State.rd_mk, State.rd_fold, *]
@[simp] theorem State.settleMemb_rd {s l rr} (h16 : Reg.group rr ≠ 16) : State.rd rr (State.settleMemb s l) = State.rd rr s := by
  unfold State.settleMemb; simp (maxDischargeDepth := 60) [State.rd_mk, State.rd_fold, *]
@[simp] theorem State.quiet_rd {s n rr} (h16 : Reg.group rr ≠ 16) : State.rd rr (State.quiet s n) = State.rd rr s := by
  unfold State.quiet
  extract_lets v0 v1 v2 v3
  have h_v0 : State.rd rr v0 = State.rd rr s := by subst v0; simp (maxDischargeDepth := 60) [State.rd_mk, State.rd_fold, *]
  clear_value v0
  have h_v1 : State.rd rr v1 = State.rd rr s := by subst v1; simp (maxDischargeDepth := 60) [State.rd_mk, State.rd_fold, *]
  clear_value v1
  have h_v2 : State.rd rr v2 = State.rd rr s := by subst v2; simp (maxDischargeDepth := 60) [State.rd_mk, State.rd_fold, *]
  clear_value v2
  have h_v3 : State.rd rr v3 = State.rd rr s := by subst v3; simp (maxDischargeDepth := 60) [State.rd_mk, State.rd_fold, *]
  clear_value v3
  simp (maxDischargeDepth := 60) [State.rd_mk, State.rd_fold, *]
@[simp] theorem State.closeNow_rd {s n term src close rr} (h2 : Reg.group rr ≠ 2) (h10 : Reg.group rr ≠ 10) (h16 : Reg.group rr ≠ 16) : State.rd rr (State.closeNow s n term src close) = State.rd rr s := by
  unfold State.closeNow; simp (maxDischargeDepth := 60) [State.rd_mk, State.rd_fold, *]
@[simp] theorem State.park_rd {s n src close rr} (h2 : Reg.group rr ≠ 2) (h10 : Reg.group rr ≠ 10) (h16 : Reg.group rr ≠ 16) : State.rd rr (State.park s n src close) = State.rd rr s := by
  unfold State.park; simp (maxDischargeDepth := 60) [State.rd_mk, State.rd_fold, *]
@[simp] theorem State.parkMember_rd {s n rr} (h16 : Reg.group rr ≠ 16) : State.rd rr (State.parkMember s n) = State.rd rr s := by
  unfold State.parkMember; simp (maxDischargeDepth := 60) [State.rd_mk, State.rd_fold, *]
@[simp] theorem State.parkGang_rd {s n src close rr} (h2 : Reg.group rr ≠ 2) (h10 : Reg.group rr ≠ 10) (h16 : Reg.group rr ≠ 16) : State.rd rr (State.parkGang s n src close) = State.rd rr s := by
  unfold State.parkGang; simp (maxDischargeDepth := 60) [State.rd_mk, State.rd_fold, *]
@[simp] theorem State.latchTrip_rd {s n bits chk t rr} (h16 : Reg.group rr ≠ 16) : State.rd rr (State.latchTrip s n bits chk t) = State.rd rr s := by
  unfold State.latchTrip
  extract_lets v0 v1
  have h_v0 : State.rd rr v0 = State.rd rr s := by subst v0; simp (maxDischargeDepth := 60) [State.rd_mk, State.rd_fold, *]
  clear_value v0
  have h_v1 : State.rd rr v1 = State.rd rr s := by subst v1; simp (maxDischargeDepth := 60) [State.rd_mk, State.rd_fold, *]
  clear_value v1
  simp (maxDischargeDepth := 60) [State.rd_mk, State.rd_fold, *]
@[simp] theorem State.parkTripped_rd {s n rr} (h2 : Reg.group rr ≠ 2) (h10 : Reg.group rr ≠ 10) (h16 : Reg.group rr ≠ 16) : State.rd rr (State.parkTripped s n) = State.rd rr s := by
  unfold State.parkTripped; simp (maxDischargeDepth := 60) [State.rd_mk, State.rd_fold, *]
@[simp] theorem State.trip_rd {s n bits t rest sev rr} (h2 : Reg.group rr ≠ 2) (h10 : Reg.group rr ≠ 10) (h16 : Reg.group rr ≠ 16) : State.rd rr (State.trip s n bits t rest sev) = State.rd rr s := by
  unfold State.trip
  extract_lets v0
  have h_v0 : State.rd rr v0 = State.rd rr s := by subst v0; simp (maxDischargeDepth := 60) [State.rd_mk, State.rd_fold, *]
  clear_value v0
  simp (maxDischargeDepth := 60) [State.rd_mk, State.rd_fold, *]
@[simp] theorem State.tripSoft_rd {s n bits rr} (h2 : Reg.group rr ≠ 2) (h10 : Reg.group rr ≠ 10) (h16 : Reg.group rr ≠ 16) : State.rd rr (State.tripSoft s n bits) = State.rd rr s := by
  unfold State.tripSoft; simp (maxDischargeDepth := 60) [State.rd_mk, State.rd_fold, *]
@[simp] theorem State.tripSilent_rd {s n bits t rr} (h2 : Reg.group rr ≠ 2) (h10 : Reg.group rr ≠ 10) (h16 : Reg.group rr ≠ 16) : State.rd rr (State.tripSilent s n bits t) = State.rd rr s := by
  unfold State.tripSilent; simp (maxDischargeDepth := 60) [State.rd_mk, State.rd_fold, *]
@[simp] theorem State.checkFail_rd {s n code rr} (h2 : Reg.group rr ≠ 2) (h10 : Reg.group rr ≠ 10) (h16 : Reg.group rr ≠ 16) : State.rd rr (State.checkFail s n code) = State.rd rr s := by
  unfold State.checkFail
  extract_lets v0 v1 v2
  have h_v0 : State.rd rr v0 = State.rd rr s := by subst v0; simp (maxDischargeDepth := 60) [State.rd_mk, State.rd_fold, *]
  clear_value v0
  clear_value v1
  have h_v2 : State.rd rr v2 = State.rd rr s := by subst v2; simp (maxDischargeDepth := 60) [State.rd_mk, State.rd_fold, *]
  clear_value v2
  simp (maxDischargeDepth := 60) [State.rd_mk, State.rd_fold, *]
@[simp] theorem State.enterStop_rd {s n src sat tm rr} (h2 : Reg.group rr ≠ 2) (h10 : Reg.group rr ≠ 10) (h16 : Reg.group rr ≠ 16) : State.rd rr (State.enterStop s n src sat tm) = State.rd rr s := by
  unfold State.enterStop
  extract_lets v0 v1 v2
  have h_v0 : State.rd rr v0 = State.rd rr s := by subst v0; simp (maxDischargeDepth := 60) [State.rd_mk, State.rd_fold, *]
  clear_value v0
  have h_v1 : State.rd rr v1 = State.rd rr s := by subst v1; simp (maxDischargeDepth := 60) [State.rd_mk, State.rd_fold, *]
  clear_value v1
  have h_v2 : State.rd rr v2 = State.rd rr s := by subst v2; simp (maxDischargeDepth := 60) [State.rd_mk, State.rd_fold, *]
  clear_value v2
  simp (maxDischargeDepth := 60) [State.rd_mk, State.rd_fold, *]
@[simp] theorem State.openSwitch_rd {s n rr} (h16 : Reg.group rr ≠ 16) : State.rd rr (State.openSwitch s n) = State.rd rr s := by
  unfold State.openSwitch; simp (maxDischargeDepth := 60) [State.rd_mk, State.rd_fold, *]

/-! Machine/Sequencer.lean -/

@[simp] theorem State.auxMid_rd {s j rr} (h7 : Reg.group rr ≠ 7) : State.rd rr (State.auxMid s j) = State.rd rr s := by
  unfold State.auxMid
  extract_lets v0
  have h_v0 : State.rd rr v0 = State.rd rr s := by subst v0; simp (maxDischargeDepth := 60) [State.rd_mk, State.rd_fold, *]
  clear_value v0
  simp (maxDischargeDepth := 60) [State.rd_mk, State.rd_fold, *]
@[simp] theorem State.auxOff_rd {s j rr} (h7 : Reg.group rr ≠ 7) : State.rd rr (State.auxOff s j) = State.rd rr s := by
  unfold State.auxOff
  extract_lets v0
  have h_v0 : State.rd rr v0 = State.rd rr s := by subst v0; simp (maxDischargeDepth := 60) [State.rd_mk, State.rd_fold, *]
  clear_value v0
  simp (maxDischargeDepth := 60) [State.rd_mk, State.rd_fold, *]
@[simp] theorem State.auxStart_rd {s j mv rr} (h7 : Reg.group rr ≠ 7) : State.rd rr (State.auxStart s j mv) = State.rd rr s := by
  unfold State.auxStart
  extract_lets v0
  have h_v0 : State.rd rr v0 = State.rd rr s := by subst v0; simp (maxDischargeDepth := 60) [State.rd_mk, State.rd_fold, *]
  clear_value v0
  simp (maxDischargeDepth := 60) [State.rd_mk, State.rd_fold, *]
@[simp] theorem State.auxAsk_rd {s j rr} : State.rd rr (State.auxAsk s j) = State.rd rr s := by
  unfold State.auxAsk; simp (maxDischargeDepth := 60) [State.rd_mk, State.rd_fold, *]
@[simp] theorem State.modSq_rd {s e f rr} : State.rd rr (State.modSq s e f) = State.rd rr s := by
  unfold State.modSq; simp (maxDischargeDepth := 60) [State.rd_mk, State.rd_fold, *]
@[simp] theorem State.railDisable_rd {s e rr} (h7 : Reg.group rr ≠ 7) : State.rd rr (State.railDisable s e) = State.rd rr s := by
  unfold State.railDisable; simp (maxDischargeDepth := 60) [State.rd_mk, State.rd_fold, *]
@[simp] theorem State.railTo_rd {s e st rr} (h3 : Reg.group rr ≠ 3) (h7 : Reg.group rr ≠ 7) : State.rd rr (State.railTo s e st) = State.rd rr s := by
  unfold State.railTo
  extract_lets v0 v1
  have h_v0 : State.rd rr v0 = State.rd rr s := by subst v0; simp (maxDischargeDepth := 60) [State.rd_mk, State.rd_fold, *]
  clear_value v0
  have h_v1 : State.rd rr v1 = State.rd rr s := by subst v1; simp (maxDischargeDepth := 60) [State.rd_mk, State.rd_fold, *]
  clear_value v1
  simp (maxDischargeDepth := 60) [State.rd_mk, State.rd_fold, *]
@[simp] theorem State.railOff_rd {s e rr} (h3 : Reg.group rr ≠ 3) (h7 : Reg.group rr ≠ 7) : State.rd rr (State.railOff s e) = State.rd rr s := by
  unfold State.railOff; simp (maxDischargeDepth := 60) [State.rd_mk, State.rd_fold, *]
@[simp] theorem State.railStart_rd {s e rr} (h3 : Reg.group rr ≠ 3) (h7 : Reg.group rr ≠ 7) : State.rd rr (State.railStart s e) = State.rd rr s := by
  unfold State.railStart
  extract_lets v0 v1
  clear_value v0
  have h_v1 : State.rd rr v1 = State.rd rr s := by subst v1; simp (maxDischargeDepth := 60) [State.rd_mk, State.rd_fold, *]
  clear_value v1
  ((repeat' split) <;> (try extract_lets) <;> simp (maxDischargeDepth := 60) +zetaDelta [State.rd_mk, State.rd_fold, *])
@[simp] theorem State.railTurn_rd {s e rr} (h3 : Reg.group rr ≠ 3) (h7 : Reg.group rr ≠ 7) : State.rd rr (State.railTurn s e) = State.rd rr s := by
  unfold State.railTurn; simp (maxDischargeDepth := 60) [State.rd_mk, State.rd_fold, *]
@[simp] theorem State.railsDone_rd {s rr} (h2 : Reg.group rr ≠ 2) (h3 : Reg.group rr ≠ 3) (h10 : Reg.group rr ≠ 10) : State.rd rr (State.railsDone s) = State.rd rr s := by
  unfold State.railsDone; simp (maxDischargeDepth := 60) [State.rd_mk, State.rd_fold, *]
@[simp] theorem State.railSweep_rd {s rr} (h2 : Reg.group rr ≠ 2) (h3 : Reg.group rr ≠ 3) (h7 : Reg.group rr ≠ 7) (h10 : Reg.group rr ≠ 10) : State.rd rr (State.railSweep s) = State.rd rr s := by
  unfold State.railSweep
  rw [State.railsDone_rd (by assumption) (by assumption) (by assumption)]
  exact foldl_rd fun t _ => by simp +contextual (maxDischargeDepth := 60) [State.rd_mk, State.rd_fold, *]
@[simp] theorem State.railAsk_rd {s e wait rr} : State.rd rr (State.railAsk s e wait) = State.rd rr s := by
  unfold State.railAsk; simp (maxDischargeDepth := 60) [State.rd_mk, State.rd_fold, *]
@[simp] theorem State.railsSafe_rd {s rr} (h2 : Reg.group rr ≠ 2) (h3 : Reg.group rr ≠ 3) (h7 : Reg.group rr ≠ 7) (h10 : Reg.group rr ≠ 10) : State.rd rr (State.railsSafe s) = State.rd rr s := by
  unfold State.railsSafe; simp (maxDischargeDepth := 60) [State.rd_mk, State.rd_fold, *]

/-! Machine/Shelf.lean -/

@[simp] theorem State.stopShelfProgram_rd {s rr} (h12 : Reg.group rr ≠ 12) : State.rd rr (State.stopShelfProgram s) = State.rd rr s := by
  unfold State.stopShelfProgram
  extract_lets v0
  have h_v0 : State.rd rr v0 = State.rd rr s := by subst v0; simp (maxDischargeDepth := 60) [State.rd_mk, State.rd_fold, *]
  clear_value v0
  simp (maxDischargeDepth := 60) [State.rd_mk, State.rd_fold, *]
@[simp] theorem State.parkForSafe_rd {s n rr} (h2 : Reg.group rr ≠ 2) (h10 : Reg.group rr ≠ 10) (h16 : Reg.group rr ≠ 16) : State.rd rr (State.parkForSafe s n) = State.rd rr s := by
  unfold State.parkForSafe; simp (maxDischargeDepth := 60) [State.rd_mk, State.rd_fold, *]
@[simp] theorem State.freezeHalt_rd {s rr} (h10 : Reg.group rr ≠ 10) : State.rd rr (State.freezeHalt s) = State.rd rr s := by
  unfold State.freezeHalt; (repeat' split) <;> simp (maxDischargeDepth := 60) [State.rd_mk, State.rd_fold, *]
@[simp] theorem State.auxSafe_rd {s rr} (h5 : Reg.group rr ≠ 5) (h7 : Reg.group rr ≠ 7) : State.rd rr (State.auxSafe s) = State.rd rr s := by
  unfold State.auxSafe
  extract_lets v0
  have h_v0 : State.rd rr v0 = State.rd rr s := by subst v0; simp (maxDischargeDepth := 60) [State.rd_mk, State.rd_fold, *]
  clear_value v0
  simp (maxDischargeDepth := 60) [State.rd_mk, State.rd_fold, *]
@[simp] theorem State.safeEntry_rd {s cause rr} (h0 : Reg.group rr ≠ 0) (h2 : Reg.group rr ≠ 2) (h3 : Reg.group rr ≠ 3) (h5 : Reg.group rr ≠ 5) (h7 : Reg.group rr ≠ 7) (h10 : Reg.group rr ≠ 10) (h12 : Reg.group rr ≠ 12) (h16 : Reg.group rr ≠ 16) : State.rd rr (State.safeEntry s cause) = State.rd rr s := by
  unfold State.safeEntry
  extract_lets v0 v1 v2 v3 v4 v5 v6
  clear_value v0
  have h_v1 : State.rd rr v1 = State.rd rr s := by subst v1; simp (maxDischargeDepth := 60) [State.rd_mk, State.rd_fold, *]
  clear_value v1
  have h_v2 : State.rd rr v2 = State.rd rr s := by subst v2; simp (maxDischargeDepth := 60) [State.rd_mk, State.rd_fold, *]
  clear_value v2
  have h_v3 : State.rd rr v3 = State.rd rr s := by subst v3; simp (maxDischargeDepth := 60) [State.rd_mk, State.rd_fold, *]
  clear_value v3
  have h_v4 : State.rd rr v4 = State.rd rr s := by subst v4; simp (maxDischargeDepth := 60) [State.rd_mk, State.rd_fold, *]
  clear_value v4
  have h_v5 : State.rd rr v5 = State.rd rr s := by subst v5; simp (maxDischargeDepth := 60) [State.rd_mk, State.rd_fold, *]
  clear_value v5
  have h_v6 : State.rd rr v6 = State.rd rr s := by subst v6; simp (maxDischargeDepth := 60) [State.rd_mk, State.rd_fold, *]
  clear_value v6
  simp (maxDischargeDepth := 60) [State.rd_mk, State.rd_fold, *]
@[simp] theorem State.beginAgingExit_rd {s rr} : State.rd rr (State.beginAgingExit s) = State.rd rr s := by
  unfold State.beginAgingExit; (repeat' split) <;> simp (maxDischargeDepth := 60) [State.rd_mk, State.rd_fold, *]
@[simp] theorem State.beginWake_rd {s rr} : State.rd rr (State.beginWake s) = State.rd rr s := by
  unfold State.beginWake; (repeat' split) <;> simp (maxDischargeDepth := 60) [State.rd_mk, State.rd_fold, *]
@[simp] theorem State.leaveSleep_rd {s rr} : State.rd rr (State.leaveSleep s) = State.rd rr s := by
  unfold State.leaveSleep; simp (maxDischargeDepth := 60) [State.rd_mk, State.rd_fold, *]
@[simp] theorem State.enterSafe_rd {s cause rr} (h0 : Reg.group rr ≠ 0) (h2 : Reg.group rr ≠ 2) (h3 : Reg.group rr ≠ 3) (h5 : Reg.group rr ≠ 5) (h7 : Reg.group rr ≠ 7) (h10 : Reg.group rr ≠ 10) (h12 : Reg.group rr ≠ 12) (h16 : Reg.group rr ≠ 16) : State.rd rr (State.enterSafe s cause) = State.rd rr s := by
  unfold State.enterSafe; simp (maxDischargeDepth := 60) [State.rd_mk, State.rd_fold, *]
@[simp] theorem State.wdtArm_rd {s rr} (h5 : Reg.group rr ≠ 5) : State.rd rr (State.wdtArm s) = State.rd rr s := by
  unfold State.wdtArm; simp (maxDischargeDepth := 60) [State.rd_mk, State.rd_fold, *]
@[simp] theorem State.judgeClr_rd {s rr} (h0 : Reg.group rr ≠ 0) (h5 : Reg.group rr ≠ 5) : State.rd rr (State.judgeClr s) = State.rd rr s := by
  unfold State.judgeClr; simp (maxDischargeDepth := 60) [State.rd_mk, State.rd_fold, *]
@[simp] theorem State.haltChannels_rd {s rr} (h12 : Reg.group rr ≠ 12) : State.rd rr (State.haltChannels s) = State.rd rr s := by
  unfold State.haltChannels
  extract_lets v0
  have h_v0 : State.rd rr v0 = State.rd rr s := by subst v0; simp (maxDischargeDepth := 60) [State.rd_mk, State.rd_fold, *]
  clear_value v0
  simp (maxDischargeDepth := 60) [State.rd_mk, State.rd_fold, *]
@[simp] theorem State.lockWrite_rd {s by_ key rr} (h0 : Reg.group rr ≠ 0) : State.rd rr (State.lockWrite s by_ key) = State.rd rr s := by
  unfold State.lockWrite; simp (maxDischargeDepth := 60) [State.rd_mk, State.rd_fold, *]
@[simp] theorem State.lockClose_rd {s rr} (h0 : Reg.group rr ≠ 0) : State.rd rr (State.lockClose s) = State.rd rr s := by
  unfold State.lockClose; simp (maxDischargeDepth := 60) [State.rd_mk, State.rd_fold, *]

/-! Machine/Convert.lean -/

@[simp] theorem State.fuseNote_rd {s n j i rr} (h2 : Reg.group rr ≠ 2) (h10 : Reg.group rr ≠ 10) (h16 : Reg.group rr ≠ 16) : State.rd rr (State.fuseNote s n j i) = State.rd rr s := by
  unfold State.fuseNote; simp (maxDischargeDepth := 60) [State.rd_mk, State.rd_fold, *]
@[simp] theorem State.fuseMark_rd {s n i rr} (h2 : Reg.group rr ≠ 2) (h10 : Reg.group rr ≠ 10) (h16 : Reg.group rr ≠ 16) : State.rd rr (State.fuseMark s n i) = State.rd rr s := by
  unfold State.fuseMark; simp (maxDischargeDepth := 60) [State.rd_mk, State.rd_fold, *]
@[simp] theorem State.shedCount_rd {s n share rr} : State.rd rr (State.shedCount s n share) = State.rd rr s := by
  unfold State.shedCount; dsimp only; (repeat' split) <;> simp +contextual (maxDischargeDepth := 60) [State.rd_mk, State.rd_fold, *]
@[simp] theorem State.memberLoop_rd {s n share eis engaged rr} (h16 : Reg.group rr ≠ 16) : State.rd rr (State.memberLoop s n share eis engaged) = State.rd rr s := by
  unfold State.memberLoop; simp (maxDischargeDepth := 60) [State.rd_mk, State.rd_fold, *]
@[simp] theorem State.refSlot_rd {s n rr} (h2 : Reg.group rr ≠ 2) (h10 : Reg.group rr ≠ 10) (h16 : Reg.group rr ≠ 16) : State.rd rr (State.refSlot s n) = State.rd rr s := by
  unfold State.refSlot
  extract_lets v0 v1 v2 v3 v4 v5 v6 v7 v8 v9 v10 v11 v12 v13 v14 v15 v16 v17 v18 v19
  clear_value v0
  clear_value v1
  clear_value v2
  clear_value v3
  clear_value v4
  clear_value v5
  clear_value v6
  clear_value v7
  clear_value v8
  have h_v9 : State.rd rr v9 = State.rd rr s := by subst v9; simp (maxDischargeDepth := 60) [State.rd_mk, State.rd_fold, *]
  clear_value v9
  clear_value v10
  clear_value v11
  clear_value v12
  clear_value v13
  have h_v14 : State.rd rr v14 = State.rd rr s := by subst v14; simp (maxDischargeDepth := 60) [State.rd_mk, State.rd_fold, *]
  clear_value v14
  have h_v15 : State.rd rr v15 = State.rd rr s := by subst v15; simp (maxDischargeDepth := 60) [State.rd_mk, State.rd_fold, *]
  clear_value v15
  have h_v16 : State.rd rr v16 = State.rd rr s := by subst v16; simp (maxDischargeDepth := 60) [State.rd_mk, State.rd_fold, *]
  clear_value v16
  have h_v17 : State.rd rr v17 = State.rd rr s := by subst v17; simp (maxDischargeDepth := 60) [State.rd_mk, State.rd_fold, *]
  clear_value v17
  clear_value v18
  have h_v19 : State.rd rr v19 = State.rd rr s := by subst v19; simp (maxDischargeDepth := 60) [State.rd_mk, State.rd_fold, *]
  clear_value v19
  simp (maxDischargeDepth := 60) [State.rd_mk, State.rd_fold, *]
@[simp] theorem State.restQuiet_rd {s n rr} (h16 : Reg.group rr ≠ 16) : State.rd rr (State.restQuiet s n) = State.rd rr s := by
  unfold State.restQuiet; simp (maxDischargeDepth := 60) [State.rd_mk, State.rd_fold, *]
@[simp] theorem State.preSlot_rd {s n rr} : State.rd rr (State.preSlot s n) = State.rd rr s := by
  unfold State.preSlot; simp (maxDischargeDepth := 60) [State.rd_mk, State.rd_fold, *]
@[simp] theorem State.loopSlot_rd {s n rr} (h2 : Reg.group rr ≠ 2) (h10 : Reg.group rr ≠ 10) (h16 : Reg.group rr ≠ 16) : State.rd rr (State.loopSlot s n) = State.rd rr s := by
  unfold State.loopSlot; simp (maxDischargeDepth := 60) [State.rd_mk, State.rd_fold, *]
@[simp] theorem State.bumpless_rd {s n rr} : State.rd rr (State.bumpless s n) = State.rd rr s := by
  unfold State.bumpless; simp (maxDischargeDepth := 60) [State.rd_mk, State.rd_fold, *]
@[simp] theorem State.ctClamp_rd {s n rr} (h16 : Reg.group rr ≠ 16) : State.rd rr (State.ctClamp s n) = State.rd rr s := by
  unfold State.ctClamp; simp (maxDischargeDepth := 60) [State.rd_mk, State.rd_fold, *]
@[simp] theorem State.loadPhase_rd {s n k rr} (h16 : Reg.group rr ≠ 16) : State.rd rr (State.loadPhase s n k) = State.rd rr s := by
  unfold State.loadPhase
  extract_lets v0 v1 v2 v3
  clear_value v0
  clear_value v1
  have h_v2 : State.rd rr v2 = State.rd rr s := by subst v2; simp (maxDischargeDepth := 60) [State.rd_mk, State.rd_fold, *]
  clear_value v2
  clear_value v3
  simp (maxDischargeDepth := 60) [State.rd_mk, State.rd_fold, *]
@[simp] theorem State.shedPhase_rd {s n phB rr} (h16 : Reg.group rr ≠ 16) : State.rd rr (State.shedPhase s n phB) = State.rd rr s := by
  unfold State.shedPhase; simp (maxDischargeDepth := 60) [State.rd_mk, State.rd_fold, *]
@[simp] theorem State.busCount_rd {s rr} : State.rd rr (State.busCount s) = State.rd rr s := by
  unfold State.busCount; simp (maxDischargeDepth := 60) [State.rd_mk, State.rd_fold, *]
@[simp] theorem State.pwmDivWrite_rd {s val rr} (h1 : Reg.group rr ≠ 1) : State.rd rr (State.pwmDivWrite s val) = State.rd rr s := by
  unfold State.pwmDivWrite; simp (maxDischargeDepth := 60) [State.rd_mk, State.rd_fold, *]
@[simp] theorem State.syncEdge_rd {s at_ dt rr} (h1 : Reg.group rr ≠ 1) : State.rd rr (State.syncEdge s at_ dt) = State.rd rr s := by
  unfold State.syncEdge; simp (maxDischargeDepth := 60) [State.rd_mk, State.rd_fold, *]
@[simp] theorem State.syncFollow_rd {s rr} (h1 : Reg.group rr ≠ 1) : State.rd rr (State.syncFollow s) = State.rd rr s := by
  unfold State.syncFollow; simp (maxDischargeDepth := 60) [State.rd_mk, State.rd_fold, *]
@[simp] theorem State.periodBoundary_rd {s0 rr} (h1 : Reg.group rr ≠ 1) : State.rd rr (State.periodBoundary s0) = State.rd rr s0 := by
  unfold State.periodBoundary; simp (maxDischargeDepth := 60) [State.rd_mk, State.rd_fold, *]
@[simp] theorem State.gangDissolve_rd {s n rr} (h16 : Reg.group rr ≠ 16) : State.rd rr (State.gangDissolve s n) = State.rd rr s := by
  unfold State.gangDissolve
  extract_lets v0
  have h_v0 : State.rd rr v0 = State.rd rr s := by subst v0; simp (maxDischargeDepth := 60) [State.rd_mk, State.rd_fold, *]
  clear_value v0
  simp (maxDischargeDepth := 60) [State.rd_mk, State.rd_fold, *]
@[simp] theorem State.leaveParked_rd {s j rr} : State.rd rr (State.leaveParked s j) = State.rd rr s := by
  unfold State.leaveParked; simp (maxDischargeDepth := 60) [State.rd_mk, State.rd_fold, *]
@[simp] theorem State.gangForm_rd {s n code rr} (h16 : Reg.group rr ≠ 16) : State.rd rr (State.gangForm s n code) = State.rd rr s := by
  unfold State.gangForm
  extract_lets v0
  have h_v0 : State.rd rr v0 = State.rd rr s := by subst v0; simp (maxDischargeDepth := 60) [State.rd_mk, State.rd_fold, *]
  clear_value v0
  simp (maxDischargeDepth := 60) [State.rd_mk, State.rd_fold, *]
@[simp] theorem State.gangWrite_rd {s n val rr} : State.rd rr (State.gangWrite s n val) = State.rd rr s := by
  unfold State.gangWrite; simp (maxDischargeDepth := 60) [State.rd_mk, State.rd_fold, *]
@[simp] theorem State.gangTake_rd {s n rr} (h16 : Reg.group rr ≠ 16) : State.rd rr (State.gangTake s n) = State.rd rr s := by
  unfold State.gangTake; (repeat' split) <;> simp (maxDischargeDepth := 60) [State.rd_mk, State.rd_fold, *]
@[simp] theorem State.engage_rd {s n rr} : State.rd rr (State.engage s n) = State.rd rr s := by
  unfold State.engage; simp (maxDischargeDepth := 60) [State.rd_mk, State.rd_fold, *]
@[simp] theorem State.checkPhase_rd {s n ph rr} : State.rd rr (State.checkPhase s n ph) = State.rd rr s := by
  unfold State.checkPhase; simp (maxDischargeDepth := 60) [State.rd_mk, State.rd_fold, *]
@[simp] theorem State.startPhases_rd {s n rr} (h16 : Reg.group rr ≠ 16) : State.rd rr (State.startPhases s n) = State.rd rr s := by
  unfold State.startPhases; simp (maxDischargeDepth := 60) [State.rd_mk, State.rd_fold, *]
@[simp] theorem State.restCheck_rd {s n rr} : State.rd rr (State.restCheck s n) = State.rd rr s := by
  unfold State.restCheck
  extract_lets v0
  have h_v0 : State.rd rr v0 = State.rd rr s := by subst v0; simp (maxDischargeDepth := 60) [State.rd_mk, State.rd_fold, *]
  clear_value v0
  simp (maxDischargeDepth := 60) [State.rd_mk, State.rd_fold, *]
@[simp] theorem State.leaveRest_rd {s n rr} (h16 : Reg.group rr ≠ 16) : State.rd rr (State.leaveRest s n) = State.rd rr s := by
  unfold State.leaveRest; simp (maxDischargeDepth := 60) [State.rd_mk, State.rd_fold, *]
@[simp] theorem State.stepBegins_rd {s n t rr} : State.rd rr (State.stepBegins s n t) = State.rd rr s := by
  unfold State.stepBegins
  extract_lets v0
  have h_v0 : State.rd rr v0 = State.rd rr s := by subst v0; simp (maxDischargeDepth := 60) [State.rd_mk, State.rd_fold, *]
  clear_value v0
  simp (maxDischargeDepth := 60) [State.rd_mk, State.rd_fold, *]
@[simp] theorem State.cvStart_rd {s n rr} (h16 : Reg.group rr ≠ 16) : State.rd rr (State.cvStart s n) = State.rd rr s := by
  unfold State.cvStart; simp (maxDischargeDepth := 60) [State.rd_mk, State.rd_fold, *]
@[simp] theorem State.startWaiting_rd {s n rr} (h16 : Reg.group rr ≠ 16) : State.rd rr (State.startWaiting s n) = State.rd rr s := by
  unfold State.startWaiting; simp (maxDischargeDepth := 60) [State.rd_mk, State.rd_fold, *]

/-! Machine/Feeds.lean -/

@[simp] theorem State.modF_rd {s f g rr} : State.rd rr (State.modF s f g) = State.rd rr s := by
  unfold State.modF; simp (maxDischargeDepth := 60) [State.rd_mk, State.rd_fold, *]
@[simp] theorem State.modSel_rd {s g rr} : State.rd rr (State.modSel s g) = State.rd rr s := by
  unfold State.modSel; simp (maxDischargeDepth := 60) [State.rd_mk, State.rd_fold, *]
@[simp] theorem State.modHu_rd {s g rr} : State.rd rr (State.modHu s g) = State.rd rr s := by
  unfold State.modHu; simp (maxDischargeDepth := 60) [State.rd_mk, State.rd_fold, *]
@[simp] theorem State.setLim_rd {s f on t rr} (h4 : Reg.group rr ≠ 4) : State.rd rr (State.setLim s f on t) = State.rd rr s := by
  unfold State.setLim; simp (maxDischargeDepth := 60) [State.rd_mk, State.rd_fold, *]
@[simp] theorem State.setServ_rd {s rr} (h4 : Reg.group rr ≠ 4) : State.rd rr (State.setServ s) = State.rd rr s := by
  unfold State.setServ; simp (maxDischargeDepth := 60) [State.rd_mk, State.rd_fold, *]
@[simp] theorem State.capEnd_rd {s f last rr} (h2 : Reg.group rr ≠ 2) (h4 : Reg.group rr ≠ 4) (h10 : Reg.group rr ≠ 10) : State.rd rr (State.capEnd s f last) = State.rd rr s := by
  unfold State.capEnd; simp (maxDischargeDepth := 60) [State.rd_mk, State.rd_fold, *]
@[simp] theorem State.capAbandon_rd {s f rr} (h2 : Reg.group rr ≠ 2) (h4 : Reg.group rr ≠ 4) (h10 : Reg.group rr ≠ 10) : State.rd rr (State.capAbandon s f) = State.rd rr s := by
  unfold State.capAbandon; (repeat' split) <;> simp (maxDischargeDepth := 60) [State.rd_mk, State.rd_fold, *]
@[simp] theorem State.endChange_rd {s f rr} : State.rd rr (State.endChange s f) = State.rd rr s := by
  unfold State.endChange; simp (maxDischargeDepth := 60) [State.rd_mk, State.rd_fold, *]
@[simp] theorem State.setFeed_rd {s f st rr} (h2 : Reg.group rr ≠ 2) (h4 : Reg.group rr ≠ 4) (h10 : Reg.group rr ≠ 10) : State.rd rr (State.setFeed s f st) = State.rd rr s := by
  unfold State.setFeed; simp (maxDischargeDepth := 60) [State.rd_mk, State.rd_fold, *]
@[simp] theorem State.rideCheck_rd {s rr} (h0 : Reg.group rr ≠ 0) (h5 : Reg.group rr ≠ 5) : State.rd rr (State.rideCheck s) = State.rd rr s := by
  unfold State.rideCheck; simp (maxDischargeDepth := 60) [State.rd_mk, State.rd_fold, *]
@[simp] theorem State.pickFeed_rd {s f was rr} (h2 : Reg.group rr ≠ 2) (h4 : Reg.group rr ≠ 4) (h10 : Reg.group rr ≠ 10) : State.rd rr (State.pickFeed s f was) = State.rd rr s := by
  unfold State.pickFeed; simp (maxDischargeDepth := 60) [State.rd_mk, State.rd_fold, *]
@[simp] theorem State.deselect_rd {s f rr} (h2 : Reg.group rr ≠ 2) (h4 : Reg.group rr ≠ 4) (h10 : Reg.group rr ≠ 10) : State.rd rr (State.deselect s f) = State.rd rr s := by
  unfold State.deselect; simp (maxDischargeDepth := 60) [State.rd_mk, State.rd_fold, *]
@[simp] theorem State.selectOnly_rd {s f was rr} (h2 : Reg.group rr ≠ 2) (h4 : Reg.group rr ≠ 4) (h10 : Reg.group rr ≠ 10) : State.rd rr (State.selectOnly s f was) = State.rd rr s := by
  unfold State.selectOnly
  extract_lets v0
  have h_v0 : State.rd rr v0 = State.rd rr s := by subst v0; simp (maxDischargeDepth := 60) [State.rd_mk, State.rd_fold, *]
  clear_value v0
  simp (maxDischargeDepth := 60) [State.rd_mk, State.rd_fold, *]
@[simp] theorem State.selectAuto_rd {s was rr} (h2 : Reg.group rr ≠ 2) (h4 : Reg.group rr ≠ 4) (h10 : Reg.group rr ≠ 10) : State.rd rr (State.selectAuto s was) = State.rd rr s := by
  unfold State.selectAuto; simp (maxDischargeDepth := 60) [State.rd_mk, State.rd_fold, *]
@[simp] theorem State.feedEval_rd {s was rr} (h2 : Reg.group rr ≠ 2) (h4 : Reg.group rr ≠ 4) (h10 : Reg.group rr ≠ 10) : State.rd rr (State.feedEval s was) = State.rd rr s := by
  unfold State.feedEval; (repeat' split) <;> simp (maxDischargeDepth := 60) [State.rd_mk, State.rd_fold, *]
@[simp] theorem State.feedQual_rd {s f rr} (h2 : Reg.group rr ≠ 2) (h4 : Reg.group rr ≠ 4) (h10 : Reg.group rr ≠ 10) : State.rd rr (State.feedQual s f) = State.rd rr s := by
  unfold State.feedQual; simp (maxDischargeDepth := 60) [State.rd_mk, State.rd_fold, *]
@[simp] theorem State.feedTick_rd {s rr} (h0 : Reg.group rr ≠ 0) (h2 : Reg.group rr ≠ 2) (h4 : Reg.group rr ≠ 4) (h5 : Reg.group rr ≠ 5) (h10 : Reg.group rr ≠ 10) : State.rd rr (State.feedTick s) = State.rd rr s := by
  unfold State.feedTick
  extract_lets v0
  have h_v0 : State.rd rr v0 = State.rd rr s := by subst v0; simp (maxDischargeDepth := 60) [State.rd_mk, State.rd_fold, *]
  clear_value v0
  simp (maxDischargeDepth := 60) [State.rd_mk, State.rd_fold, *]
@[simp] theorem State.faultFeed_rd {s f bit rr} (h2 : Reg.group rr ≠ 2) (h4 : Reg.group rr ≠ 4) (h10 : Reg.group rr ≠ 10) : State.rd rr (State.faultFeed s f bit) = State.rd rr s := by
  unfold State.faultFeed
  extract_lets v0 v1
  clear_value v0
  have h_v1 : State.rd rr v1 = State.rd rr s := by subst v1; simp (maxDischargeDepth := 60) [State.rd_mk, State.rd_fold, *]
  clear_value v1
  simp (maxDischargeDepth := 60) [State.rd_mk, State.rd_fold, *]
@[simp] theorem State.bounceFeed_rd {s f rr} (h2 : Reg.group rr ≠ 2) (h4 : Reg.group rr ≠ 4) (h10 : Reg.group rr ≠ 10) : State.rd rr (State.bounceFeed s f) = State.rd rr s := by
  unfold State.bounceFeed
  extract_lets v0 v1 v2 v3
  clear_value v0
  clear_value v1
  have h_v2 : State.rd rr v2 = State.rd rr s := by subst v2; simp (maxDischargeDepth := 60) [State.rd_mk, State.rd_fold, *]
  clear_value v2
  have h_v3 : State.rd rr v3 = State.rd rr s := by subst v3; simp (maxDischargeDepth := 60) [State.rd_mk, State.rd_fold, *]
  clear_value v3
  simp (maxDischargeDepth := 60) [State.rd_mk, State.rd_fold, *]
@[simp] theorem State.vinLeave_rd {s f rr} (h2 : Reg.group rr ≠ 2) (h4 : Reg.group rr ≠ 4) (h10 : Reg.group rr ≠ 10) : State.rd rr (State.vinLeave s f) = State.rd rr s := by
  unfold State.vinLeave
  extract_lets v0
  have h_v0 : State.rd rr v0 = State.rd rr s := by subst v0; simp (maxDischargeDepth := 60) [State.rd_mk, State.rd_fold, *]
  clear_value v0
  simp (maxDischargeDepth := 60) [State.rd_mk, State.rd_fold, *]
@[simp] theorem State.rampIfClear_rd {s f rr} (h2 : Reg.group rr ≠ 2) (h4 : Reg.group rr ≠ 4) (h10 : Reg.group rr ≠ 10) : State.rd rr (State.rampIfClear s f) = State.rd rr s := by
  unfold State.rampIfClear; simp (maxDischargeDepth := 60) [State.rd_mk, State.rd_fold, *]
@[simp] theorem State.feedClear_rd {s f val rr} (h2 : Reg.group rr ≠ 2) (h4 : Reg.group rr ≠ 4) (h10 : Reg.group rr ≠ 10) : State.rd rr (State.feedClear s f val) = State.rd rr s := by
  unfold State.feedClear
  extract_lets v0 v1
  have h_v0 : State.rd rr v0 = State.rd rr s := by subst v0; simp (maxDischargeDepth := 60) [State.rd_mk, State.rd_fold, *]
  clear_value v0
  have h_v1 : State.rd rr v1 = State.rd rr s := by subst v1; simp (maxDischargeDepth := 60) [State.rd_mk, State.rd_fold, *]
  clear_value v1
  simp (maxDischargeDepth := 60) [State.rd_mk, State.rd_fold, *]
@[simp] theorem State.feedDisable_rd {s f rr} (h2 : Reg.group rr ≠ 2) (h4 : Reg.group rr ≠ 4) (h10 : Reg.group rr ≠ 10) : State.rd rr (State.feedDisable s f) = State.rd rr s := by
  unfold State.feedDisable; simp (maxDischargeDepth := 60) [State.rd_mk, State.rd_fold, *]
@[simp] theorem State.feedSelWrite_rd {s val rr} (h2 : Reg.group rr ≠ 2) (h4 : Reg.group rr ≠ 4) (h10 : Reg.group rr ≠ 10) : State.rd rr (State.feedSelWrite s val) = State.rd rr s := by
  unfold State.feedSelWrite
  extract_lets v0 v1
  clear_value v0
  have h_v1 : State.rd rr v1 = State.rd rr s := by subst v1; simp (maxDischargeDepth := 60) [State.rd_mk, State.rd_fold, *]
  clear_value v1
  simp (maxDischargeDepth := 60) [State.rd_mk, State.rd_fold, *]
@[simp] theorem State.capResult_rd {s f c rr} (h0 : Reg.group rr ≠ 0) (h2 : Reg.group rr ≠ 2) (h3 : Reg.group rr ≠ 3) (h4 : Reg.group rr ≠ 4) (h5 : Reg.group rr ≠ 5) (h7 : Reg.group rr ≠ 7) (h10 : Reg.group rr ≠ 10) (h12 : Reg.group rr ≠ 12) (h16 : Reg.group rr ≠ 16) : State.rd rr (State.capResult s f c) = State.rd rr s := by
  unfold State.capResult
  extract_lets v0
  have h_v0 : State.rd rr v0 = State.rd rr s := by subst v0; simp (maxDischargeDepth := 60) [State.rd_mk, State.rd_fold, *]
  clear_value v0
  simp (maxDischargeDepth := 60) [State.rd_mk, State.rd_fold, *]
@[simp] theorem State.meterEnergy_rd {s f p rr} (h4 : Reg.group rr ≠ 4) : State.rd rr (State.meterEnergy s f p) = State.rd rr s := by
  unfold State.meterEnergy; simp (maxDischargeDepth := 60) [State.rd_mk, State.rd_fold, *]
@[simp] theorem State.meterFeed_rd {s f v i rr} (h4 : Reg.group rr ≠ 4) : State.rd rr (State.meterFeed s f v i) = State.rd rr s := by
  unfold State.meterFeed; simp (maxDischargeDepth := 60) [State.rd_mk, State.rd_fold, *]
@[simp] theorem State.meterPublish_rd {s f rr} (h4 : Reg.group rr ≠ 4) : State.rd rr (State.meterPublish s f) = State.rd rr s := by
  unfold State.meterPublish
  extract_lets v0 v1
  clear_value v0
  have h_v1 : State.rd rr v1 = State.rd rr s := by subst v1; simp (maxDischargeDepth := 60) [State.rd_mk, State.rd_fold, *]
  clear_value v1
  simp (maxDischargeDepth := 60) [State.rd_mk, State.rd_fold, *]
@[simp] theorem State.meterGate_rd {s f vin gs rr} (h4 : Reg.group rr ≠ 4) : State.rd rr (State.meterGate s f vin gs) = State.rd rr s := by
  unfold State.meterGate
  extract_lets v0
  have h_v0 : State.rd rr v0 = State.rd rr s := by subst v0; simp (maxDischargeDepth := 60) [State.rd_mk, State.rd_fold, *]
  clear_value v0
  simp (maxDischargeDepth := 60) [State.rd_mk, State.rd_fold, *]
@[simp] theorem State.meterTake_rd {s inp rr} (h4 : Reg.group rr ≠ 4) (h5 : Reg.group rr ≠ 5) : State.rd rr (State.meterTake s inp) = State.rd rr s := by
  unfold State.meterTake
  extract_lets v0 v1 v2 v3
  have h_v0 : State.rd rr v0 = State.rd rr s := by subst v0; simp (maxDischargeDepth := 60) [State.rd_mk, State.rd_fold, *]
  clear_value v0
  have h_v1 : State.rd rr v1 = State.rd rr s := by subst v1; simp (maxDischargeDepth := 60) [State.rd_mk, State.rd_fold, *]
  clear_value v1
  have h_v2 : State.rd rr v2 = State.rd rr s := by subst v2; simp (maxDischargeDepth := 60) [State.rd_mk, State.rd_fold, *]
  clear_value v2
  have h_v3 : State.rd rr v3 = State.rd rr s := by subst v3; simp (maxDischargeDepth := 60) [State.rd_mk, State.rd_fold, *]
  clear_value v3
  ((repeat' split) <;> (try extract_lets) <;> simp +zetaDelta +contextual (maxDischargeDepth := 60) [State.rd_mk, State.rd_fold, *])

/-! Machine/Holdup.lean -/

@[simp] theorem State.strapFault_rd {s n v rr} (h2 : Reg.group rr ≠ 2) (h5 : Reg.group rr ≠ 5) (h10 : Reg.group rr ≠ 10) : State.rd rr (State.strapFault s n v) = State.rd rr s := by
  unfold State.strapFault
  extract_lets v0 v1 v2
  have h_v0 : State.rd rr v0 = State.rd rr s := by subst v0; simp (maxDischargeDepth := 60) [State.rd_mk, State.rd_fold, *]
  clear_value v0
  have h_v1 : State.rd rr v1 = State.rd rr s := by subst v1; ((repeat' split) <;> simp (maxDischargeDepth := 60) [State.rd_mk, State.rd_fold, *])
  clear_value v1
  have h_v2 : State.rd rr v2 = State.rd rr s := by subst v2; ((repeat' split) <;> simp (maxDischargeDepth := 60) [State.rd_mk, State.rd_fold, *])
  clear_value v2
  simp (maxDischargeDepth := 60) [State.rd_mk, State.rd_fold, *]
@[simp] theorem State.readStraps_rd {s x rr} (h2 : Reg.group rr ≠ 2) (h5 : Reg.group rr ≠ 5) (h10 : Reg.group rr ≠ 10) : State.rd rr (State.readStraps s x) = State.rd rr s := by
  unfold State.readStraps; dsimp only; (repeat' split) <;> simp +contextual (maxDischargeDepth := 60) [State.rd_mk, State.rd_fold, *]
@[simp] theorem State.haltEntry_rd {s rr} (h0 : Reg.group rr ≠ 0) (h2 : Reg.group rr ≠ 2) (h5 : Reg.group rr ≠ 5) (h10 : Reg.group rr ≠ 10) (h12 : Reg.group rr ≠ 12) : State.rd rr (State.haltEntry s) = State.rd rr s := by
  unfold State.haltEntry
  extract_lets v0
  have h_v0 : State.rd rr v0 = State.rd rr s := by subst v0; simp (maxDischargeDepth := 60) [State.rd_mk, State.rd_fold, *]
  clear_value v0
  simp (maxDischargeDepth := 60) [State.rd_mk, State.rd_fold, *]
@[simp] theorem State.rideEnds_rd {s rr} (h0 : Reg.group rr ≠ 0) (h2 : Reg.group rr ≠ 2) (h5 : Reg.group rr ≠ 5) (h10 : Reg.group rr ≠ 10) (h12 : Reg.group rr ≠ 12) : State.rd rr (State.rideEnds s) = State.rd rr s := by
  unfold State.rideEnds; simp (maxDischargeDepth := 60) [State.rd_mk, State.rd_fold, *]
@[simp] theorem State.rideBoundary_rd {s rr} (h0 : Reg.group rr ≠ 0) (h2 : Reg.group rr ≠ 2) (h5 : Reg.group rr ≠ 5) (h10 : Reg.group rr ≠ 10) (h12 : Reg.group rr ≠ 12) : State.rd rr (State.rideBoundary s) = State.rd rr s := by
  unfold State.rideBoundary; simp (maxDischargeDepth := 60) [State.rd_mk, State.rd_fold, *]
@[simp] theorem State.pathOff_rd {s rr} (h5 : Reg.group rr ≠ 5) : State.rd rr (State.pathOff s) = State.rd rr s := by
  unfold State.pathOff; simp (maxDischargeDepth := 60) [State.rd_mk, State.rd_fold, *]
@[simp] theorem State.preFail_rd {s rr} (h5 : Reg.group rr ≠ 5) : State.rd rr (State.preFail s) = State.rd rr s := by
  unfold State.preFail; simp (maxDischargeDepth := 60) [State.rd_mk, State.rd_fold, *]
@[simp] theorem State.setHuLim_rd {s on rr} (h5 : Reg.group rr ≠ 5) : State.rd rr (State.setHuLim s on) = State.rd rr s := by
  unfold State.setHuLim; simp (maxDischargeDepth := 60) [State.rd_mk, State.rd_fold, *]
@[simp] theorem State.wdtKick_rd {s rr} : State.rd rr (State.wdtKick s) = State.rd rr s := by
  unfold State.wdtKick; simp (maxDischargeDepth := 60) [State.rd_mk, State.rd_fold, *]
@[simp] theorem State.wdtConfirm_rd {s rr} (h5 : Reg.group rr ≠ 5) : State.rd rr (State.wdtConfirm s) = State.rd rr s := by
  unfold State.wdtConfirm; simp (maxDischargeDepth := 60) [State.rd_mk, State.rd_fold, *]
@[simp] theorem State.chargerDrive_rd {s was st rr} (h7 : Reg.group rr ≠ 7) : State.rd rr (State.chargerDrive s was st) = State.rd rr s := by
  unfold State.chargerDrive; simp (maxDischargeDepth := 60) [State.rd_mk, State.rd_fold, *]
@[simp] theorem State.chargerTick_rd {s rr} (h5 : Reg.group rr ≠ 5) (h7 : Reg.group rr ≠ 7) : State.rd rr (State.chargerTick s) = State.rd rr s := by
  unfold State.chargerTick; simp (maxDischargeDepth := 60) [State.rd_mk, State.rd_fold, *]
@[simp] theorem State.gaugeWords_rd {s rr} (h5 : Reg.group rr ≠ 5) : State.rd rr (State.gaugeWords s) = State.rd rr s := by
  unfold State.gaugeWords; simp (maxDischargeDepth := 60) [State.rd_mk, State.rd_fold, *]
@[simp] theorem State.restCorrect_rd {s e1 soc rr} (h2 : Reg.group rr ≠ 2) (h5 : Reg.group rr ≠ 5) (h10 : Reg.group rr ≠ 10) : State.rd rr (State.restCorrect s e1 soc) = State.rd rr s := by
  unfold State.restCorrect
  extract_lets v0 v1 v2
  clear_value v0
  have h_v1 : State.rd rr v1 = State.rd rr s := by subst v1; simp (maxDischargeDepth := 60) [State.rd_mk, State.rd_fold, *]
  clear_value v1
  have h_v2 : State.rd rr v2 = State.rd rr s := by subst v2; simp (maxDischargeDepth := 60) [State.rd_mk, State.rd_fold, *]
  clear_value v2
  simp (maxDischargeDepth := 60) [State.rd_mk, State.rd_fold, *]
@[simp] theorem State.norefDecay_rd {s rr} (h5 : Reg.group rr ≠ 5) : State.rd rr (State.norefDecay s) = State.rd rr s := by
  unfold State.norefDecay; simp (maxDischargeDepth := 60) [State.rd_mk, State.rd_fold, *]
@[simp] theorem State.gaugeMinute_rd {s rr} (h2 : Reg.group rr ≠ 2) (h5 : Reg.group rr ≠ 5) (h10 : Reg.group rr ≠ 10) : State.rd rr (State.gaugeMinute s) = State.rd rr s := by
  unfold State.gaugeMinute; simp (maxDischargeDepth := 60) [State.rd_mk, State.rd_fold, *]
@[simp] theorem State.relearn_rd {s soc rr} (h5 : Reg.group rr ≠ 5) : State.rd rr (State.relearn s soc) = State.rd rr s := by
  unfold State.relearn; (repeat' split) <;> simp (maxDischargeDepth := 60) [State.rd_mk, State.rd_fold, *]
@[simp] theorem State.gaugeRestore_rd {s crc rr} (h5 : Reg.group rr ≠ 5) : State.rd rr (State.gaugeRestore s crc) = State.rd rr s := by
  unfold State.gaugeRestore; simp (maxDischargeDepth := 60) [State.rd_mk, State.rd_fold, *]
@[simp] theorem State.huFltWrite_rd {s val rr} (h5 : Reg.group rr ≠ 5) : State.rd rr (State.huFltWrite s val) = State.rd rr s := by
  unfold State.huFltWrite; (repeat' split) <;> simp (maxDischargeDepth := 60) [State.rd_mk, State.rd_fold, *]
@[simp] theorem State.huCtlWrite_rd {s val rr} (h0 : Reg.group rr ≠ 0) (h2 : Reg.group rr ≠ 2) (h5 : Reg.group rr ≠ 5) (h10 : Reg.group rr ≠ 10) (h12 : Reg.group rr ≠ 12) : State.rd rr (State.huCtlWrite s val) = State.rd rr s := by
  unfold State.huCtlWrite; (repeat' split) <;> simp (maxDischargeDepth := 60) [State.rd_mk, State.rd_fold, *]

/-! Machine/Ledger.lean -/

@[simp] theorem State.setScales_rd {s x rr} (h6 : Reg.group rr ≠ 6) : State.rd rr (State.setScales s x) = State.rd rr s := by
  unfold State.setScales
  extract_lets v0 v1
  have h_v0 : State.rd rr v0 = State.rd rr s := by subst v0; simp (maxDischargeDepth := 60) [State.rd_mk, State.rd_fold, *]
  clear_value v0
  have h_v1 : State.rd rr v1 = State.rd rr s := by subst v1; simp (maxDischargeDepth := 60) [State.rd_mk, State.rd_fold, *]
  clear_value v1
  simp (maxDischargeDepth := 60) [State.rd_mk, State.rd_fold, *]
@[simp] theorem State.ledgerBreach_rd {s x y rr} (h2 : Reg.group rr ≠ 2) (h6 : Reg.group rr ≠ 6) (h10 : Reg.group rr ≠ 10) : State.rd rr (State.ledgerBreach s x y) = State.rd rr s := by
  unfold State.ledgerBreach
  extract_lets v0 v1 v2
  clear_value v0
  clear_value v1
  have h_v2 : State.rd rr v2 = State.rd rr s := by subst v2; simp (maxDischargeDepth := 60) [State.rd_mk, State.rd_fold, *]
  clear_value v2
  simp (maxDischargeDepth := 60) [State.rd_mk, State.rd_fold, *]
@[simp] theorem State.ledgerFlags_rd {s x y rr} (h2 : Reg.group rr ≠ 2) (h6 : Reg.group rr ≠ 6) (h10 : Reg.group rr ≠ 10) : State.rd rr (State.ledgerFlags s x y) = State.rd rr s := by
  unfold State.ledgerFlags
  extract_lets v0 v1 v2 v3 v4 v5 v6
  clear_value v0
  have h_v1 : State.rd rr v1 = State.rd rr s := by subst v1; simp (maxDischargeDepth := 60) [State.rd_mk, State.rd_fold, *]
  clear_value v1
  have h_v2 : State.rd rr v2 = State.rd rr s := by subst v2; simp (maxDischargeDepth := 60) [State.rd_mk, State.rd_fold, *]
  clear_value v2
  have h_v3 : State.rd rr v3 = State.rd rr s := by subst v3; simp (maxDischargeDepth := 60) [State.rd_mk, State.rd_fold, *]
  clear_value v3
  have h_v4 : State.rd rr v4 = State.rd rr s := by subst v4; simp (maxDischargeDepth := 60) [State.rd_mk, State.rd_fold, *]
  clear_value v4
  have h_v5 : State.rd rr v5 = State.rd rr s := by subst v5; simp (maxDischargeDepth := 60) [State.rd_mk, State.rd_fold, *]
  clear_value v5
  have h_v6 : State.rd rr v6 = State.rd rr s := by subst v6; simp (maxDischargeDepth := 60) [State.rd_mk, State.rd_fold, *]
  clear_value v6
  simp (maxDischargeDepth := 60) [State.rd_mk, State.rd_fold, *]
@[simp] theorem State.ledgerSecond_rd {s at_ nthr rr} (h6 : Reg.group rr ≠ 6) : State.rd rr (State.ledgerSecond s at_ nthr) = State.rd rr s := by
  unfold State.ledgerSecond
  extract_lets v0 v1 v2 v3
  clear_value v0
  clear_value v1
  clear_value v2
  have h_v3 : State.rd rr v3 = State.rd rr s := by subst v3; simp (maxDischargeDepth := 60) [State.rd_mk, State.rd_fold, *]
  clear_value v3
  simp (maxDischargeDepth := 60) [State.rd_mk, State.rd_fold, *]
@[simp] theorem State.ledgerAdd_rd {s l x y net rr} : State.rd rr (State.ledgerAdd s l x y net) = State.rd rr s := by
  unfold State.ledgerAdd; simp (maxDischargeDepth := 60) [State.rd_mk, State.rd_fold, *]
@[simp] theorem State.ledgerClose_rd {s rr} (h2 : Reg.group rr ≠ 2) (h6 : Reg.group rr ≠ 6) (h10 : Reg.group rr ≠ 10) : State.rd rr (State.ledgerClose s) = State.rd rr s := by
  unfold State.ledgerClose; simp (maxDischargeDepth := 60) [State.rd_mk, State.rd_fold, *]

/-! Machine/AuxConv.lean -/

@[simp] theorem State.modAx_rd {s j g rr} : State.rd rr (State.modAx s j g) = State.rd rr s := by
  unfold State.modAx; simp (maxDischargeDepth := 60) [State.rd_mk, State.rd_fold, *]
@[simp] theorem State.axEnable_rd {s j rr} (h7 : Reg.group rr ≠ 7) : State.rd rr (State.axEnable s j) = State.rd rr s := by
  unfold State.axEnable; simp (maxDischargeDepth := 60) [State.rd_mk, State.rd_fold, *]
@[simp] theorem State.axDisable_rd {s j rr} (h7 : Reg.group rr ≠ 7) : State.rd rr (State.axDisable s j) = State.rd rr s := by
  unfold State.axDisable; simp (maxDischargeDepth := 60) [State.rd_mk, State.rd_fold, *]
@[simp] theorem State.auxFault_rd {s j bit rr} (h2 : Reg.group rr ≠ 2) (h7 : Reg.group rr ≠ 7) (h10 : Reg.group rr ≠ 10) : State.rd rr (State.auxFault s j bit) = State.rd rr s := by
  unfold State.auxFault
  extract_lets v0
  have h_v0 : State.rd rr v0 = State.rd rr s := by subst v0; simp (maxDischargeDepth := 60) [State.rd_mk, State.rd_fold, *]
  clear_value v0
  simp (maxDischargeDepth := 60) [State.rd_mk, State.rd_fold, *]
@[simp] theorem State.auxHiccup_rd {s j rr} (h2 : Reg.group rr ≠ 2) (h7 : Reg.group rr ≠ 7) (h10 : Reg.group rr ≠ 10) : State.rd rr (State.auxHiccup s j) = State.rd rr s := by
  unfold State.auxHiccup; simp (maxDischargeDepth := 60) [State.rd_mk, State.rd_fold, *]
@[simp] theorem State.axLegs_rd {s rr} (h7 : Reg.group rr ≠ 7) : State.rd rr (State.axLegs s) = State.rd rr s := by
  unfold State.axLegs; simp (maxDischargeDepth := 60) [State.rd_mk, State.rd_fold, *]
@[simp] theorem State.axSoft_rd {s j mv rr} (h7 : Reg.group rr ≠ 7) : State.rd rr (State.axSoft s j mv) = State.rd rr s := by
  unfold State.axSoft
  extract_lets v0 v1 v2
  clear_value v0
  clear_value v1
  have h_v2 : State.rd rr v2 = State.rd rr s := by subst v2; simp (maxDischargeDepth := 60) [State.rd_mk, State.rd_fold, *]
  clear_value v2
  simp (maxDischargeDepth := 60) [State.rd_mk, State.rd_fold, *]
@[simp] theorem State.axRegulate_rd {s j fb rr} : State.rd rr (State.axRegulate s j fb) = State.rd rr s := by
  unfold State.axRegulate; simp (maxDischargeDepth := 60) [State.rd_mk, State.rd_fold, *]
@[simp] theorem State.axShed_rd {s j shunt rr} (h7 : Reg.group rr ≠ 7) : State.rd rr (State.axShed s j shunt) = State.rd rr s := by
  unfold State.axShed; simp (maxDischargeDepth := 60) [State.rd_mk, State.rd_fold, *]
@[simp] theorem State.axMeter_rd {s j inp rr} (h7 : Reg.group rr ≠ 7) : State.rd rr (State.axMeter s j inp) = State.rd rr s := by
  unfold State.axMeter; simp (maxDischargeDepth := 60) [State.rd_mk, State.rd_fold, *]
@[simp] theorem State.axFloor_rd {s rr} : State.rd rr (State.axFloor s) = State.rd rr s := by
  unfold State.axFloor; simp (maxDischargeDepth := 60) [State.rd_mk, State.rd_fold, *]
@[simp] theorem State.axCycles_rd {s j phB rr} : State.rd rr (State.axCycles s j phB) = State.rd rr s := by
  unfold State.axCycles; dsimp only; (repeat' split) <;> simp +contextual (maxDischargeDepth := 60) [State.rd_mk, State.rd_fold, *]
@[simp] theorem State.axWatch_rd {s j lim rr} (h7 : Reg.group rr ≠ 7) : State.rd rr (State.axWatch s j lim) = State.rd rr s := by
  unfold State.axWatch
  extract_lets v0 v1 v2 v3
  clear_value v0
  clear_value v1
  clear_value v2
  have h_v3 : State.rd rr v3 = State.rd rr s := by subst v3; simp (maxDischargeDepth := 60) [State.rd_mk, State.rd_fold, *]
  clear_value v3
  simp (maxDischargeDepth := 60) [State.rd_mk, State.rd_fold, *]
@[simp] theorem State.axBoundary_rd {s j inp rr} (h7 : Reg.group rr ≠ 7) : State.rd rr (State.axBoundary s j inp) = State.rd rr s := by
  unfold State.axBoundary
  extract_lets v0
  have h_v0 : State.rd rr v0 = State.rd rr s := by subst v0; simp (maxDischargeDepth := 60) [State.rd_mk, State.rd_fold, *]
  clear_value v0
  ((repeat' split) <;> (try extract_lets) <;> simp (maxDischargeDepth := 60) +zetaDelta [State.rd_mk, State.rd_fold, *])
@[simp] theorem State.axFltWrite_rd {s j val rr} (h7 : Reg.group rr ≠ 7) : State.rd rr (State.axFltWrite s j val) = State.rd rr s := by
  unfold State.axFltWrite; (repeat' split) <;> simp (maxDischargeDepth := 60) [State.rd_mk, State.rd_fold, *]

/-! Machine/Tray.lean -/

@[simp] theorem State.modAl_rd {s k g rr} : State.rd rr (State.modAl s k g) = State.rd rr s := by
  unfold State.modAl; simp (maxDischargeDepth := 60) [State.rd_mk, State.rd_fold, *]
@[simp] theorem State.alTake_rd {s k rr} : State.rd rr (State.alTake s k) = State.rd rr s := by
  unfold State.alTake; simp (maxDischargeDepth := 60) [State.rd_mk, State.rd_fold, *]
@[simp] theorem State.alSetpoint_rd {s k inp rr} (h7 : Reg.group rr ≠ 7) : State.rd rr (State.alSetpoint s k inp) = State.rd rr s := by
  unfold State.alSetpoint; simp (maxDischargeDepth := 60) [State.rd_mk, State.rd_fold, *]
@[simp] theorem State.alOut_rd {s k o rr} (h7 : Reg.group rr ≠ 7) : State.rd rr (State.alOut s k o) = State.rd rr s := by
  unfold State.alOut; simp (maxDischargeDepth := 60) [State.rd_mk, State.rd_fold, *]
@[simp] theorem State.alPid_rd {s k pv rr} (h7 : Reg.group rr ≠ 7) : State.rd rr (State.alPid s k pv) = State.rd rr s := by
  unfold State.alPid
  extract_lets v0 v1 v2 v3 v4 v5 v6 v7 v8 v9 v10 v11
  clear_value v0
  clear_value v1
  clear_value v2
  clear_value v3
  clear_value v4
  clear_value v5
  clear_value v6
  clear_value v7
  clear_value v8
  clear_value v9
  clear_value v10
  have h_v11 : State.rd rr v11 = State.rd rr s := by subst v11; simp (maxDischargeDepth := 60) [State.rd_mk, State.rd_fold, *]
  clear_value v11
  simp (maxDischargeDepth := 60) [State.rd_mk, State.rd_fold, *]
@[simp] theorem State.alManual_rd {s k pv rr} (h7 : Reg.group rr ≠ 7) : State.rd rr (State.alManual s k pv) = State.rd rr s := by
  unfold State.alManual
  extract_lets v0 v1 v2 v3
  clear_value v0
  clear_value v1
  clear_value v2
  have h_v3 : State.rd rr v3 = State.rd rr s := by subst v3; simp (maxDischargeDepth := 60) [State.rd_mk, State.rd_fold, *]
  clear_value v3
  simp (maxDischargeDepth := 60) [State.rd_mk, State.rd_fold, *]
@[simp] theorem State.tuneFail_rd {s k rr} (h2 : Reg.group rr ≠ 2) (h7 : Reg.group rr ≠ 7) (h10 : Reg.group rr ≠ 10) : State.rd rr (State.tuneFail s k) = State.rd rr s := by
  unfold State.tuneFail; simp (maxDischargeDepth := 60) [State.rd_mk, State.rd_fold, *]
@[simp] theorem State.tuneResume_rd {s k rr} (h7 : Reg.group rr ≠ 7) : State.rd rr (State.tuneResume s k) = State.rd rr s := by
  unfold State.tuneResume; simp (maxDischargeDepth := 60) [State.rd_mk, State.rd_fold, *]
@[simp] theorem State.alFail_rd {s k rr} (h2 : Reg.group rr ≠ 2) (h7 : Reg.group rr ≠ 7) (h10 : Reg.group rr ≠ 10) : State.rd rr (State.alFail s k) = State.rd rr s := by
  unfold State.alFail
  extract_lets v0
  have h_v0 : State.rd rr v0 = State.rd rr s := by subst v0; simp (maxDischargeDepth := 60) [State.rd_mk, State.rd_fold, *]
  clear_value v0
  simp (maxDischargeDepth := 60) [State.rd_mk, State.rd_fold, *]
@[simp] theorem State.tuneDone_rd {s k p1 p2 a1 a2 rr} (h2 : Reg.group rr ≠ 2) (h7 : Reg.group rr ≠ 7) (h10 : Reg.group rr ≠ 10) : State.rd rr (State.tuneDone s k p1 p2 a1 a2) = State.rd rr s := by
  unfold State.tuneDone; simp (maxDischargeDepth := 60) [State.rd_mk, State.rd_fold, *]
@[simp] theorem State.alTune_rd {s k pv t rr} (h2 : Reg.group rr ≠ 2) (h7 : Reg.group rr ≠ 7) (h10 : Reg.group rr ≠ 10) : State.rd rr (State.alTune s k pv t) = State.rd rr s := by
  unfold State.alTune
  extract_lets v0 v1 v2 v3 v4 v5 v6 v7 v8 v9
  clear_value v0
  clear_value v1
  clear_value v2
  clear_value v3
  clear_value v4
  clear_value v5
  clear_value v6
  clear_value v7
  have h_v8 : State.rd rr v8 = State.rd rr s := by subst v8; simp (maxDischargeDepth := 60) [State.rd_mk, State.rd_fold, *]
  clear_value v8
  have h_v9 : State.rd rr v9 = State.rd rr s := by subst v9; simp (maxDischargeDepth := 60) [State.rd_mk, State.rd_fold, *]
  clear_value v9
  ((repeat' split) <;> simp (maxDischargeDepth := 60) [State.rd_mk, State.rd_fold, *])
@[simp] theorem State.alRun_rd {s k pv rr} (h2 : Reg.group rr ≠ 2) (h7 : Reg.group rr ≠ 7) (h10 : Reg.group rr ≠ 10) : State.rd rr (State.alRun s k pv) = State.rd rr s := by
  unfold State.alRun; (repeat' split) <;> simp (maxDischargeDepth := 60) [State.rd_mk, State.rd_fold, *]
@[simp] theorem State.alCount_rd {s k c rr} : State.rd rr (State.alCount s k c) = State.rd rr s := by
  unfold State.alCount; simp (maxDischargeDepth := 60) [State.rd_mk, State.rd_fold, *]
@[simp] theorem State.alIdle_rd {s k rr} (h2 : Reg.group rr ≠ 2) (h7 : Reg.group rr ≠ 7) (h10 : Reg.group rr ≠ 10) : State.rd rr (State.alIdle s k) = State.rd rr s := by
  unfold State.alIdle
  extract_lets v0
  have h_v0 : State.rd rr v0 = State.rd rr s := by subst v0; simp (maxDischargeDepth := 60) [State.rd_mk, State.rd_fold, *]
  clear_value v0
  simp (maxDischargeDepth := 60) [State.rd_mk, State.rd_fold, *]
@[simp] theorem State.tuneStart_rd {s k rr} (h7 : Reg.group rr ≠ 7) : State.rd rr (State.tuneStart s k) = State.rd rr s := by
  unfold State.tuneStart; simp (maxDischargeDepth := 60) [State.rd_mk, State.rd_fold, *]
@[simp] theorem State.tuneAbort_rd {s k rr} (h2 : Reg.group rr ≠ 2) (h7 : Reg.group rr ≠ 7) (h10 : Reg.group rr ≠ 10) : State.rd rr (State.tuneAbort s k) = State.rd rr s := by
  unfold State.tuneAbort; simp (maxDischargeDepth := 60) [State.rd_mk, State.rd_fold, *]

/-! Machine/Clocks.lean -/

@[simp] theorem lockFld_group {p} : Reg.group (lockFld p).reg = 1 := by simp [lockFld]
@[simp] theorem reflossFld_group {p} : Reg.group (reflossFld p).reg = 1 := by simp [reflossFld]
@[simp] theorem coastFld_group {p} : Reg.group (coastFld p).reg = 1 := by simp [coastFld]
@[simp] theorem stableFld_group {c} : Reg.group (stableFld c).reg = 1 := by cases c <;> simp [stableFld]
@[simp] theorem State.setJudge_rd {s c j rr} : State.rd rr (State.setJudge s c j) = State.rd rr s := by
  unfold State.setJudge; simp (maxDischargeDepth := 60) [State.rd_mk, State.rd_fold, *]
@[simp] theorem State.startJudge_rd {s c rr} : State.rd rr (State.startJudge s c) = State.rd rr s := by
  unfold State.startJudge; simp (maxDischargeDepth := 60) [State.rd_mk, State.rd_fold, *]
@[simp] theorem State.relock_rd {s p rr} (h1 : Reg.group rr ≠ 1) (h2 : Reg.group rr ≠ 2) (h10 : Reg.group rr ≠ 10) : State.rd rr (State.relock s p) = State.rd rr s := by
  unfold State.relock; simp (maxDischargeDepth := 60) [State.rd_mk, State.rd_fold, *]
@[simp] theorem State.clockStable_rd {s c rr} (h1 : Reg.group rr ≠ 1) (h2 : Reg.group rr ≠ 2) (h10 : Reg.group rr ≠ 10) : State.rd rr (State.clockStable s c) = State.rd rr s := by
  unfold State.clockStable
  extract_lets v0
  have h_v0 : State.rd rr v0 = State.rd rr s := by subst v0; simp (maxDischargeDepth := 60) [State.rd_mk, State.rd_fold, *]
  clear_value v0
  ((repeat' split) <;> (try extract_lets) <;> simp (maxDischargeDepth := 60) +zetaDelta [State.rd_mk, State.rd_fold, *])
@[simp] theorem State.judgeFailed_rd {s c rr} (h1 : Reg.group rr ≠ 1) (h2 : Reg.group rr ≠ 2) (h10 : Reg.group rr ≠ 10) : State.rd rr (State.judgeFailed s c) = State.rd rr s := by
  unfold State.judgeFailed; (repeat' split) <;> simp (maxDischargeDepth := 60) [State.rd_mk, State.rd_fold, *]
@[simp] theorem State.slewEnd_rd {s rr} (h1 : Reg.group rr ≠ 1) : State.rd rr (State.slewEnd s) = State.rd rr s := by
  unfold State.slewEnd
  extract_lets v0
  have h_v0 : State.rd rr v0 = State.rd rr s := by subst v0; simp (maxDischargeDepth := 60) [State.rd_mk, State.rd_fold, *]
  clear_value v0
  simp (maxDischargeDepth := 60) [State.rd_mk, State.rd_fold, *]
@[simp] theorem State.slewStart_rd {s e stamp rr} (h1 : Reg.group rr ≠ 1) : State.rd rr (State.slewStart s e stamp) = State.rd rr s := by
  unfold State.slewStart
  extract_lets v0 v1 v2 v3
  clear_value v0
  clear_value v1
  clear_value v2
  have h_v3 : State.rd rr v3 = State.rd rr s := by subst v3; simp (maxDischargeDepth := 60) [State.rd_mk, State.rd_fold, *]
  clear_value v3
  simp (maxDischargeDepth := 60) [State.rd_mk, State.rd_fold, *]
@[simp] theorem State.toHoldover_rd {s rr} (h1 : Reg.group rr ≠ 1) (h2 : Reg.group rr ≠ 2) (h10 : Reg.group rr ≠ 10) : State.rd rr (State.toHoldover s) = State.rd rr s := by
  unfold State.toHoldover; simp (maxDischargeDepth := 60) [State.rd_mk, State.rd_fold, *]
@[simp] theorem State.coast_rd {s p sev rr} (h1 : Reg.group rr ≠ 1) (h2 : Reg.group rr ≠ 2) (h10 : Reg.group rr ≠ 10) : State.rd rr (State.coast s p sev) = State.rd rr s := by
  unfold State.coast
  extract_lets v0
  have h_v0 : State.rd rr v0 = State.rd rr s := by subst v0; simp (maxDischargeDepth := 60) [State.rd_mk, State.rd_fold, *]
  clear_value v0
  simp (maxDischargeDepth := 60) [State.rd_mk, State.rd_fold, *]
@[simp] theorem State.parkCoast_rd {s rr} (h2 : Reg.group rr ≠ 2) (h10 : Reg.group rr ≠ 10) (h16 : Reg.group rr ≠ 16) : State.rd rr (State.parkCoast s) = State.rd rr s := by
  unfold State.parkCoast; simp (maxDischargeDepth := 60) [State.rd_mk, State.rd_fold, *]
@[simp] theorem State.linkTo_rd {s p up rr} (h2 : Reg.group rr ≠ 2) (h9 : Reg.group rr ≠ 9) (h10 : Reg.group rr ≠ 10) : State.rd rr (State.linkTo s p up) = State.rd rr s := by
  unfold State.linkTo; simp (maxDischargeDepth := 60) [State.rd_mk, State.rd_fold, *]
@[simp] theorem State.xhfLoss_rd {s rr} (h0 : Reg.group rr ≠ 0) (h1 : Reg.group rr ≠ 1) (h2 : Reg.group rr ≠ 2) (h3 : Reg.group rr ≠ 3) (h5 : Reg.group rr ≠ 5) (h7 : Reg.group rr ≠ 7) (h9 : Reg.group rr ≠ 9) (h10 : Reg.group rr ≠ 10) (h12 : Reg.group rr ≠ 12) (h16 : Reg.group rr ≠ 16) : State.rd rr (State.xhfLoss s) = State.rd rr s := by
  unfold State.xhfLoss; simp (maxDischargeDepth := 60) [State.rd_mk, State.rd_fold, *]
@[simp] theorem State.trimTake_rd {s count rr} (h1 : Reg.group rr ≠ 1) : State.rd rr (State.trimTake s count) = State.rd rr s := by
  unfold State.trimTake; simp (maxDischargeDepth := 60) [State.rd_mk, State.rd_fold, *]
@[simp] theorem State.counterRun_rd {s dt rr} : State.rd rr (State.counterRun s dt) = State.rd rr s := by
  unfold State.counterRun; simp (maxDischargeDepth := 60) [State.rd_mk, State.rd_fold, *]
@[simp] theorem State.levelTo_rd {s level rr} (h1 : Reg.group rr ≠ 1) : State.rd rr (State.levelTo s level) = State.rd rr s := by
  unfold State.levelTo; (repeat' split) <;> simp (maxDischargeDepth := 60) [State.rd_mk, State.rd_fold, *]
@[simp] theorem State.askRaise_rd {s rr} (h1 : Reg.group rr ≠ 1) : State.rd rr (State.askRaise s) = State.rd rr s := by
  unfold State.askRaise; simp (maxDischargeDepth := 60) [State.rd_mk, State.rd_fold, *]
@[simp] theorem State.compatFail_rd {s k rr} (h0 : Reg.group rr ≠ 0) (h1 : Reg.group rr ≠ 1) (h2 : Reg.group rr ≠ 2) (h10 : Reg.group rr ≠ 10) : State.rd rr (State.compatFail s k) = State.rd rr s := by
  unfold State.compatFail
  extract_lets v0
  have h_v0 : State.rd rr v0 = State.rd rr s := by subst v0; simp (maxDischargeDepth := 60) [State.rd_mk, State.rd_fold, *]
  clear_value v0
  ((repeat' split) <;> (try extract_lets) <;> simp (maxDischargeDepth := 60) +zetaDelta [State.rd_mk, State.rd_fold, *])
@[simp] theorem State.compatDone_rd {s level rr} (h2 : Reg.group rr ≠ 2) (h3 : Reg.group rr ≠ 3) (h10 : Reg.group rr ≠ 10) : State.rd rr (State.compatDone s level) = State.rd rr s := by
  unfold State.compatDone; simp (maxDischargeDepth := 60) [State.rd_mk, State.rd_fold, *]
@[simp] theorem State.compatBoundary_rd {s rr} (h0 : Reg.group rr ≠ 0) (h1 : Reg.group rr ≠ 1) (h2 : Reg.group rr ≠ 2) (h3 : Reg.group rr ≠ 3) (h10 : Reg.group rr ≠ 10) : State.rd rr (State.compatBoundary s) = State.rd rr s := by
  unfold State.compatBoundary; (repeat' split) <;> simp (maxDischargeDepth := 60) [State.rd_mk, State.rd_fold, *]
@[simp] theorem State.timeSet_rd {s val rr} (h1 : Reg.group rr ≠ 1) : State.rd rr (State.timeSet s val) = State.rd rr s := by
  unfold State.timeSet; simp (maxDischargeDepth := 60) [State.rd_mk, State.rd_fold, *]
@[simp] theorem State.ppsCorrect_rd {s rr} (h1 : Reg.group rr ≠ 1) : State.rd rr (State.ppsCorrect s) = State.rd rr s := by
  unfold State.ppsCorrect; simp (maxDischargeDepth := 60) [State.rd_mk, State.rd_fold, *]
@[simp] theorem State.ppsTrack_rd {s e rr} (h1 : Reg.group rr ≠ 1) (h2 : Reg.group rr ≠ 2) (h10 : Reg.group rr ≠ 10) : State.rd rr (State.ppsTrack s e) = State.rd rr s := by
  unfold State.ppsTrack; simp (maxDischargeDepth := 60) [State.rd_mk, State.rd_fold, *]
@[simp] theorem State.ppsAcquire_rd {s e stamp rr} (h1 : Reg.group rr ≠ 1) (h2 : Reg.group rr ≠ 2) (h10 : Reg.group rr ≠ 10) : State.rd rr (State.ppsAcquire s e stamp) = State.rd rr s := by
  unfold State.ppsAcquire; simp (maxDischargeDepth := 60) [State.rd_mk, State.rd_fold, *]
@[simp] theorem State.ppsQualified_rd {s e stamp rr} (h1 : Reg.group rr ≠ 1) (h2 : Reg.group rr ≠ 2) (h10 : Reg.group rr ≠ 10) : State.rd rr (State.ppsQualified s e stamp) = State.rd rr s := by
  unfold State.ppsQualified; (repeat' split) <;> simp (maxDischargeDepth := 60) [State.rd_mk, State.rd_fold, *]
@[simp] theorem State.ppsOutside_rd {s e rr} (h1 : Reg.group rr ≠ 1) (h2 : Reg.group rr ≠ 2) (h10 : Reg.group rr ≠ 10) : State.rd rr (State.ppsOutside s e) = State.rd rr s := by
  unfold State.ppsOutside; simp (maxDischargeDepth := 60) [State.rd_mk, State.rd_fold, *]
@[simp] theorem State.ppsFree_rd {s rr} (h1 : Reg.group rr ≠ 1) : State.rd rr (State.ppsFree s) = State.rd rr s := by
  unfold State.ppsFree; simp (maxDischargeDepth := 60) [State.rd_mk, State.rd_fold, *]
@[simp] theorem State.stepCounter_rd {s d rr} (h1 : Reg.group rr ≠ 1) (h2 : Reg.group rr ≠ 2) (h10 : Reg.group rr ≠ 10) : State.rd rr (State.stepCounter s d) = State.rd rr s := by
  unfold State.stepCounter; simp (maxDischargeDepth := 60) [State.rd_mk, State.rd_fold, *]
@[simp] theorem State.servoStep_rd {s rr} (h1 : Reg.group rr ≠ 1) (h2 : Reg.group rr ≠ 2) (h10 : Reg.group rr ≠ 10) : State.rd rr (State.servoStep s) = State.rd rr s := by
  unfold State.servoStep; (repeat' split) <;> simp (maxDischargeDepth := 60) [State.rd_mk, State.rd_fold, *]
@[simp] theorem State.tsetStep_rd {s rr} (h1 : Reg.group rr ≠ 1) (h2 : Reg.group rr ≠ 2) (h10 : Reg.group rr ≠ 10) : State.rd rr (State.tsetStep s) = State.rd rr s := by
  unfold State.tsetStep; dsimp only; (repeat' split) <;> simp +contextual (maxDischargeDepth := 60) [State.rd_mk, State.rd_fold, *]
@[simp] theorem State.clockBoundary_rd {s rr} (h0 : Reg.group rr ≠ 0) (h1 : Reg.group rr ≠ 1) (h2 : Reg.group rr ≠ 2) (h3 : Reg.group rr ≠ 3) (h10 : Reg.group rr ≠ 10) : State.rd rr (State.clockBoundary s) = State.rd rr s := by
  unfold State.clockBoundary
  extract_lets v0
  have h_v0 : State.rd rr v0 = State.rd rr s := by subst v0; simp (maxDischargeDepth := 60) [State.rd_mk, State.rd_fold, *]
  clear_value v0
  ((repeat' split) <;> (try extract_lets) <;> simp (maxDischargeDepth := 60) +zetaDelta [State.rd_mk, State.rd_fold, *])

/-! Machine/Vault.lean -/

@[simp] theorem State.vaultMerge_rd {s r last count rest rr} : State.rd rr (State.vaultMerge s r last count rest) = State.rd rr s := by
  unfold State.vaultMerge
  extract_lets v0 v1 v2
  clear_value v0
  have h_v1 : State.rd rr v1 = State.rd rr s := by subst v1; simp (maxDischargeDepth := 60) [State.rd_mk, State.rd_fold, *]
  clear_value v1
  have h_v2 : State.rd rr v2 = State.rd rr s := by subst v2; simp (maxDischargeDepth := 60) [State.rd_mk, State.rd_fold, *]
  clear_value v2
  simp (maxDischargeDepth := 60) [State.rd_mk, State.rd_fold, *]
@[simp] theorem State.vaultNew_rd {s r rest rr} (h10 : Reg.group rr ≠ 10) : State.rd rr (State.vaultNew s r rest) = State.rd rr s := by
  unfold State.vaultNew; simp (maxDischargeDepth := 60) [State.rd_mk, State.rd_fold, *]
@[simp] theorem State.vaultTake_rd {s rr} (h10 : Reg.group rr ≠ 10) : State.rd rr (State.vaultTake s) = State.rd rr s := by
  unfold State.vaultTake; (repeat' split) <;> simp (maxDischargeDepth := 60) [State.rd_mk, State.rd_fold, *]
@[simp] theorem State.vaultScan_rd {s rr} (h10 : Reg.group rr ≠ 10) : State.rd rr (State.vaultScan s) = State.rd rr s := by
  unfold State.vaultScan
  extract_lets v0 v1 v2 v3
  clear_value v0
  clear_value v1
  clear_value v2
  have h_v3 : State.rd rr v3 = State.rd rr s := by subst v3; simp (maxDischargeDepth := 60) [State.rd_mk, State.rd_fold, *]
  clear_value v3
  simp (maxDischargeDepth := 60) [State.rd_mk, State.rd_fold, *]
@[simp] theorem State.vaultClear_rd {s rr} (h10 : Reg.group rr ≠ 10) : State.rd rr (State.vaultClear s) = State.rd rr s := by
  unfold State.vaultClear; simp (maxDischargeDepth := 60) [State.rd_mk, State.rd_fold, *]
@[simp] theorem State.voidIf_rd {s k y2 rr} : State.rd rr (State.voidIf s k y2) = State.rd rr s := by
  unfold State.voidIf
  split
  · exact State.putMemWord_rd
  · exact Eq.refl _
@[simp] theorem State.slotVoid_rd {s k rr} : State.rd rr (State.slotVoid s k) = State.rd rr s := by
  unfold State.slotVoid; simp (maxDischargeDepth := 60) [State.rd_mk, State.rd_fold, *]
@[simp] theorem State.atticDrain_rd {s rr} (h2 : Reg.group rr ≠ 2) (h10 : Reg.group rr ≠ 10) : State.rd rr (State.atticDrain s) = State.rd rr s := by
  unfold State.atticDrain; simp (maxDischargeDepth := 60) [State.rd_mk, State.rd_fold, *]
@[simp] theorem State.fill_rd {s a bs rr} : State.rd rr (State.fill s a bs) = State.rd rr s := by
  unfold State.fill; simp (maxDischargeDepth := 60) [State.rd_mk, State.rd_fold, *]
@[simp] theorem State.snapAtT_rd {s rr} : State.rd rr (State.snapAtT s) = State.rd rr s := by
  unfold State.snapAtT; (repeat' split) <;> simp (maxDischargeDepth := 60) [State.rd_mk, State.rd_fold, *]
@[simp] theorem State.slotWritten_rd {s sn rr} (h2 : Reg.group rr ≠ 2) (h10 : Reg.group rr ≠ 10) : State.rd rr (State.slotWritten s sn) = State.rd rr s := by
  unfold State.slotWritten
  extract_lets v0 v1 v2 v3 v4 v5
  clear_value v0
  clear_value v1
  clear_value v2
  have h_v3 : State.rd rr v3 = State.rd rr s := by subst v3; simp (maxDischargeDepth := 60) [State.rd_mk, State.rd_fold, *]
  clear_value v3
  clear_value v4
  clear_value v5
  simp (maxDischargeDepth := 60) [State.rd_mk, State.rd_fold, *]
@[simp] theorem State.slotRelease_rd {s k rr} (h10 : Reg.group rr ≠ 10) : State.rd rr (State.slotRelease s k) = State.rd rr s := by
  unfold State.slotRelease; simp (maxDischargeDepth := 60) [State.rd_mk, State.rd_fold, *]

/-! Machine/Operands.lean -/

@[simp] theorem State.setPc_rd {s c v rr} (h12 : Reg.group rr ≠ 12) (h16 : Reg.group rr ≠ 16) : State.rd rr (State.setPc s c v) = State.rd rr s := by
  unfold State.setPc; (repeat' split) <;> simp (maxDischargeDepth := 60) [State.rd_mk, State.rd_fold, *]
@[simp] theorem State.advance_rd {s c rr} (h12 : Reg.group rr ≠ 12) (h16 : Reg.group rr ≠ 16) : State.rd rr (State.advance s c) = State.rd rr s := by
  unfold State.advance; simp (maxDischargeDepth := 60) [State.rd_mk, State.rd_fold, *]
@[simp] theorem State.setFlags_rd {s c v rr} (h12 : Reg.group rr ≠ 12) (h16 : Reg.group rr ≠ 16) : State.rd rr (State.setFlags s c v) = State.rd rr s := by
  unfold State.setFlags; (repeat' split) <;> simp (maxDischargeDepth := 60) [State.rd_mk, State.rd_fold, *]
@[simp] theorem State.setAlu_rd {s c o rr} (h12 : Reg.group rr ≠ 12) (h16 : Reg.group rr ≠ 16) : State.rd rr (State.setAlu s c o) = State.rd rr s := by
  unfold State.setAlu; simp (maxDischargeDepth := 60) [State.rd_mk, State.rd_fold, *]
@[simp] theorem State.setG_rd {s c i v rr} : State.rd rr (State.setG s c i v) = State.rd rr s := by
  unfold State.setG; (repeat' split) <;> simp (maxDischargeDepth := 60) [State.rd_mk, State.rd_fold, *]
@[simp] theorem State.setStack_rd {s c l rr} (h12 : Reg.group rr ≠ 12) (h16 : Reg.group rr ≠ 16) : State.rd rr (State.setStack s c l) = State.rd rr s := by
  unfold State.setStack; (repeat' split) <;> simp (maxDischargeDepth := 60) [State.rd_mk, State.rd_fold, *]
@[simp] theorem State.suspend_rd {s c y rr} (h12 : Reg.group rr ≠ 12) (h16 : Reg.group rr ≠ 16) : State.rd rr (State.suspend s c y) = State.rd rr s := by
  unfold State.suspend; (repeat' split) <;> simp (maxDischargeDepth := 60) [State.rd_mk, State.rd_fold, *]
@[simp] theorem State.setLdi_rd {s c o rr} : State.rd rr (State.setLdi s c o) = State.rd rr s := by
  unfold State.setLdi; (repeat' split) <;> simp (maxDischargeDepth := 60) [State.rd_mk, State.rd_fold, *]
theorem State.putPort_rd {s c p v t rr} (ht : State.putPort s c p v = some t) (h12 : Reg.group rr ≠ 12) (h16 : Reg.group rr ≠ 16) : State.rd rr t = State.rd rr s := by
  unfold State.putPort at ht
  (repeat' split at ht) <;> simp only [Option.some.injEq, reduceCtorEq] at ht <;> subst ht <;> simp +contextual (maxDischargeDepth := 60) [State.rd_mk, State.rd_fold, *]

/-! Machine/Gulgaub.lean -/

@[simp] theorem State.bareRecord_rd {s n term src rr} (h2 : Reg.group rr ≠ 2) (h10 : Reg.group rr ≠ 10) (h16 : Reg.group rr ≠ 16) : State.rd rr (State.bareRecord s n term src) = State.rd rr s := by
  unfold State.bareRecord
  extract_lets v0 v1
  clear_value v0
  have h_v1 : State.rd rr v1 = State.rd rr s := by subst v1; simp (maxDischargeDepth := 60) [State.rd_mk, State.rd_fold, *]
  clear_value v1
  simp (maxDischargeDepth := 60) [State.rd_mk, State.rd_fold, *]
@[simp] theorem State.dropCaps_rd {s n rr} : State.rd rr (State.dropCaps s n) = State.rd rr s := by
  unfold State.dropCaps; simp (maxDischargeDepth := 60) [State.rd_mk, State.rd_fold, *]
@[simp] theorem State.progFault_rd {s c code rr} (h2 : Reg.group rr ≠ 2) (h10 : Reg.group rr ≠ 10) (h12 : Reg.group rr ≠ 12) (h16 : Reg.group rr ≠ 16) : State.rd rr (State.progFault s c code) = State.rd rr s := by
  unfold State.progFault; (repeat' split) <;> simp (maxDischargeDepth := 60) [State.rd_mk, State.rd_fold, *]
@[simp] theorem State.instr_rd {s c shelfOk fields f rr} (h2 : Reg.group rr ≠ 2) (h10 : Reg.group rr ≠ 10) (h12 : Reg.group rr ≠ 12) (h16 : Reg.group rr ≠ 16) (hf : ∀ t, State.rd rr (f t) = State.rd rr t) : State.rd rr (State.instr s c shelfOk fields f) = State.rd rr s := by
  unfold State.instr; simp (maxDischargeDepth := 60) [State.rd_mk, State.rd_fold, *]
@[simp] theorem State.freezeFor_rd {s n peak rr} : State.rd rr (State.freezeFor s n peak) = State.rd rr s := by
  unfold State.freezeFor; simp (maxDischargeDepth := 60) [State.rd_mk, State.rd_fold, *]
@[simp] theorem State.measTake_rd {s n rr} : State.rd rr (State.measTake s n) = State.rd rr s := by
  unfold State.measTake; simp (maxDischargeDepth := 60) [State.rd_mk, State.rd_fold, *]
@[simp] theorem State.openStep_rd {s n st peak rr} (h2 : Reg.group rr ≠ 2) (h10 : Reg.group rr ≠ 10) (h16 : Reg.group rr ≠ 16) : State.rd rr (State.openStep s n st peak) = State.rd rr s := by
  unfold State.openStep
  extract_lets v0 v1 v2 v3 v4 v5 v6 v7 v8 v9 v10 v11 v12 v13 v14 v15 v16 v17
  clear_value v0
  have h_v1 : State.rd rr v1 = State.rd rr s := by subst v1; simp (maxDischargeDepth := 60) [State.rd_mk, State.rd_fold, *]
  clear_value v1
  clear_value v2
  clear_value v3
  clear_value v4
  clear_value v5
  clear_value v6
  clear_value v7
  have h_v8 : State.rd rr v8 = State.rd rr s := by subst v8; simp (maxDischargeDepth := 60) [State.rd_mk, State.rd_fold, *]
  clear_value v8
  have h_v9 : State.rd rr v9 = State.rd rr s := by subst v9; simp (maxDischargeDepth := 60) [State.rd_mk, State.rd_fold, *]
  clear_value v9
  have h_v10 : State.rd rr v10 = State.rd rr s := by subst v10; ((repeat' split) <;> simp (maxDischargeDepth := 60) [State.rd_mk, State.rd_fold, *])
  clear_value v10
  clear_value v11
  have h_v12 : State.rd rr v12 = State.rd rr s := by subst v12; simp (maxDischargeDepth := 60) [State.rd_mk, State.rd_fold, *]
  clear_value v12
  have h_v13 : State.rd rr v13 = State.rd rr s := by subst v13; simp (maxDischargeDepth := 60) [State.rd_mk, State.rd_fold, *]
  clear_value v13
  have h_v14 : State.rd rr v14 = State.rd rr s := by subst v14; simp (maxDischargeDepth := 60) [State.rd_mk, State.rd_fold, *]
  clear_value v14
  have h_v15 : State.rd rr v15 = State.rd rr s := by subst v15; simp (maxDischargeDepth := 60) [State.rd_mk, State.rd_fold, *]
  clear_value v15
  have h_v16 : State.rd rr v16 = State.rd rr s := by subst v16; simp (maxDischargeDepth := 60) [State.rd_mk, State.rd_fold, *]
  clear_value v16
  have h_v17 : State.rd rr v17 = State.rd rr s := by subst v17; simp (maxDischargeDepth := 60) [State.rd_mk, State.rd_fold, *]
  clear_value v17
  ((repeat' split) <;> (try extract_lets) <;> simp (maxDischargeDepth := 60) +zetaDelta [State.rd_mk, State.rd_fold, *])
@[simp] theorem State.modeGate_rd {s n op f rr} (h12 : Reg.group rr ≠ 12) (h16 : Reg.group rr ≠ 16) (hf : ∀ t, State.rd rr (f t) = State.rd rr t) : State.rd rr (State.modeGate s n op f) = State.rd rr s := by
  unfold State.modeGate; simp (maxDischargeDepth := 60) [State.rd_mk, State.rd_fold, *]
@[simp] theorem State.modeInstr_rd {s c op fields f rr} (h2 : Reg.group rr ≠ 2) (h10 : Reg.group rr ≠ 10) (h12 : Reg.group rr ≠ 12) (h16 : Reg.group rr ≠ 16) (hf : ∀ x0 t, State.rd rr (f x0 t) = State.rd rr t) : State.rd rr (State.modeInstr s c op fields f) = State.rd rr s := by
  unfold State.modeInstr; (repeat' split) <;> simp (maxDischargeDepth := 60) [State.rd_mk, State.rd_fold, *]
@[simp] theorem State.clampOperand_rd {s n w rr} : State.rd rr (State.clampOperand s n w) = State.rd rr s := by
  unfold State.clampOperand; simp (maxDischargeDepth := 60) [State.rd_mk, State.rd_fold, *]
@[simp] theorem State.opCurrent_rd {s c op w rr} (h2 : Reg.group rr ≠ 2) (h10 : Reg.group rr ≠ 10) (h12 : Reg.group rr ≠ 12) (h16 : Reg.group rr ≠ 16) : State.rd rr (State.opCurrent s c op w) = State.rd rr s := by
  unfold State.opCurrent; simp (maxDischargeDepth := 60) [State.rd_mk, State.rd_fold, *]
@[simp] theorem State.opCv_rd {s c w rr} (h2 : Reg.group rr ≠ 2) (h10 : Reg.group rr ≠ 10) (h12 : Reg.group rr ≠ 12) (h16 : Reg.group rr ≠ 16) : State.rd rr (State.opCv s c w) = State.rd rr s := by
  unfold State.opCv; simp (maxDischargeDepth := 60) [State.rd_mk, State.rd_fold, *]
@[simp] theorem State.opCcv_rd {s c w rr} (h2 : Reg.group rr ≠ 2) (h10 : Reg.group rr ≠ 10) (h12 : Reg.group rr ≠ 12) (h16 : Reg.group rr ≠ 16) : State.rd rr (State.opCcv s c w) = State.rd rr s := by
  unfold State.opCcv; simp (maxDischargeDepth := 60) [State.rd_mk, State.rd_fold, *]
@[simp] theorem State.opPulse_rd {s c w rr} (h2 : Reg.group rr ≠ 2) (h10 : Reg.group rr ≠ 10) (h12 : Reg.group rr ≠ 12) (h16 : Reg.group rr ≠ 16) : State.rd rr (State.opPulse s c w) = State.rd rr s := by
  unfold State.opPulse; simp (maxDischargeDepth := 60) [State.rd_mk, State.rd_fold, *]
@[simp] theorem State.opEis_rd {s c w rr} (h2 : Reg.group rr ≠ 2) (h10 : Reg.group rr ≠ 10) (h12 : Reg.group rr ≠ 12) (h16 : Reg.group rr ≠ 16) : State.rd rr (State.opEis s c w) = State.rd rr s := by
  unfold State.opEis; simp (maxDischargeDepth := 60) [State.rd_mk, State.rd_fold, *]
@[simp] theorem State.opStill_rd {s c op w rr} (h2 : Reg.group rr ≠ 2) (h10 : Reg.group rr ≠ 10) (h12 : Reg.group rr ≠ 12) (h16 : Reg.group rr ≠ 16) : State.rd rr (State.opStill s c op w) = State.rd rr s := by
  unfold State.opStill; simp (maxDischargeDepth := 60) [State.rd_mk, State.rd_fold, *]
@[simp] theorem State.chanInstr_rd {s c fields f rr} (h2 : Reg.group rr ≠ 2) (h10 : Reg.group rr ≠ 10) (h12 : Reg.group rr ≠ 12) (h16 : Reg.group rr ≠ 16) (hf : ∀ x0 t, State.rd rr (f x0 t) = State.rd rr t) : State.rd rr (State.chanInstr s c fields f) = State.rd rr s := by
  unfold State.chanInstr; (repeat' split) <;> simp (maxDischargeDepth := 60) [State.rd_mk, State.rd_fold, *]
@[simp] theorem State.opLimv_rd {s c w rr} (h2 : Reg.group rr ≠ 2) (h10 : Reg.group rr ≠ 10) (h12 : Reg.group rr ≠ 12) (h16 : Reg.group rr ≠ 16) : State.rd rr (State.opLimv s c w) = State.rd rr s := by
  unfold State.opLimv; simp (maxDischargeDepth := 60) [State.rd_mk, State.rd_fold, *]
@[simp] theorem State.opLimi_rd {s c w rr} (h2 : Reg.group rr ≠ 2) (h10 : Reg.group rr ≠ 10) (h12 : Reg.group rr ≠ 12) (h16 : Reg.group rr ≠ 16) : State.rd rr (State.opLimi s c w) = State.rd rr s := by
  unfold State.opLimi; simp (maxDischargeDepth := 60) [State.rd_mk, State.rd_fold, *]
@[simp] theorem State.opLimt_rd {s c w rr} (h2 : Reg.group rr ≠ 2) (h10 : Reg.group rr ≠ 10) (h12 : Reg.group rr ≠ 12) (h16 : Reg.group rr ≠ 16) : State.rd rr (State.opLimt s c w) = State.rd rr s := by
  unfold State.opLimt; simp (maxDischargeDepth := 60) [State.rd_mk, State.rd_fold, *]
@[simp] theorem State.armInstr_rd {s c fields f a rr} (h2 : Reg.group rr ≠ 2) (h10 : Reg.group rr ≠ 10) (h12 : Reg.group rr ≠ 12) (h16 : Reg.group rr ≠ 16) : State.rd rr (State.armInstr s c fields f a) = State.rd rr s := by
  unfold State.armInstr; simp (maxDischargeDepth := 60) [State.rd_mk, State.rd_fold, *]
@[simp] theorem State.opDisarm_rd {s c w rr} (h2 : Reg.group rr ≠ 2) (h10 : Reg.group rr ≠ 10) (h12 : Reg.group rr ≠ 12) (h16 : Reg.group rr ≠ 16) : State.rd rr (State.opDisarm s c w) = State.rd rr s := by
  unfold State.opDisarm; simp (maxDischargeDepth := 60) [State.rd_mk, State.rd_fold, *]
@[simp] theorem State.opArmt_rd {s c w rr} (h2 : Reg.group rr ≠ 2) (h10 : Reg.group rr ≠ 10) (h12 : Reg.group rr ≠ 12) (h16 : Reg.group rr ≠ 16) : State.rd rr (State.opArmt s c w) = State.rd rr s := by
  unfold State.opArmt; simp (maxDischargeDepth := 60) [State.rd_mk, State.rd_fold, *]
@[simp] theorem State.opArmv_rd {s c w rr} (h2 : Reg.group rr ≠ 2) (h10 : Reg.group rr ≠ 10) (h12 : Reg.group rr ≠ 12) (h16 : Reg.group rr ≠ 16) : State.rd rr (State.opArmv s c w) = State.rd rr s := by
  unfold State.opArmv; simp (maxDischargeDepth := 60) [State.rd_mk, State.rd_fold, *]
@[simp] theorem State.opArmi_rd {s c w rr} (h2 : Reg.group rr ≠ 2) (h10 : Reg.group rr ≠ 10) (h12 : Reg.group rr ≠ 12) (h16 : Reg.group rr ≠ 16) : State.rd rr (State.opArmi s c w) = State.rd rr s := by
  unfold State.opArmi; simp (maxDischargeDepth := 60) [State.rd_mk, State.rd_fold, *]
@[simp] theorem State.opArmtap_rd {s c w rr} (h2 : Reg.group rr ≠ 2) (h10 : Reg.group rr ≠ 10) (h12 : Reg.group rr ≠ 12) (h16 : Reg.group rr ≠ 16) : State.rd rr (State.opArmtap s c w) = State.rd rr s := by
  unfold State.opArmtap; simp (maxDischargeDepth := 60) [State.rd_mk, State.rd_fold, *]
@[simp] theorem State.opArmq_rd {s c w rr} (h2 : Reg.group rr ≠ 2) (h10 : Reg.group rr ≠ 10) (h12 : Reg.group rr ≠ 12) (h16 : Reg.group rr ≠ 16) : State.rd rr (State.opArmq s c w) = State.rd rr s := by
  unfold State.opArmq; simp (maxDischargeDepth := 60) [State.rd_mk, State.rd_fold, *]
@[simp] theorem State.opArme_rd {s c w rr} (h2 : Reg.group rr ≠ 2) (h10 : Reg.group rr ≠ 10) (h12 : Reg.group rr ≠ 12) (h16 : Reg.group rr ≠ 16) : State.rd rr (State.opArme s c w) = State.rd rr s := by
  unfold State.opArme; simp (maxDischargeDepth := 60) [State.rd_mk, State.rd_fold, *]
@[simp] theorem State.opArmdv_rd {s c w rr} (h2 : Reg.group rr ≠ 2) (h10 : Reg.group rr ≠ 10) (h12 : Reg.group rr ≠ 12) (h16 : Reg.group rr ≠ 16) : State.rd rr (State.opArmdv s c w) = State.rd rr s := by
  unfold State.opArmdv; simp (maxDischargeDepth := 60) [State.rd_mk, State.rd_fold, *]
@[simp] theorem State.opArmtc_rd {s c w rr} (h2 : Reg.group rr ≠ 2) (h10 : Reg.group rr ≠ 10) (h12 : Reg.group rr ≠ 12) (h16 : Reg.group rr ≠ 16) : State.rd rr (State.opArmtc s c w) = State.rd rr s := by
  unfold State.opArmtc; simp (maxDischargeDepth := 60) [State.rd_mk, State.rd_fold, *]
@[simp] theorem State.opWait_rd {s c w rr} (h2 : Reg.group rr ≠ 2) (h10 : Reg.group rr ≠ 10) (h12 : Reg.group rr ≠ 12) (h16 : Reg.group rr ≠ 16) : State.rd rr (State.opWait s c w) = State.rd rr s := by
  unfold State.opWait; (repeat' split) <;> simp (maxDischargeDepth := 60) [State.rd_mk, State.rd_fold, *]
@[simp] theorem State.opLdi_rd {s c w rr} (h2 : Reg.group rr ≠ 2) (h10 : Reg.group rr ≠ 10) (h12 : Reg.group rr ≠ 12) (h16 : Reg.group rr ≠ 16) : State.rd rr (State.opLdi s c w) = State.rd rr s := by
  unfold State.opLdi; simp (maxDischargeDepth := 60) [State.rd_mk, State.rd_fold, *]
@[simp] theorem State.literal_rd {s c v rr} (h12 : Reg.group rr ≠ 12) (h16 : Reg.group rr ≠ 16) : State.rd rr (State.literal s c v) = State.rd rr s := by
  unfold State.literal; (repeat' split) <;> simp (maxDischargeDepth := 60) [State.rd_mk, State.rd_fold, *]
@[simp] theorem State.opLdiLit_rd {s c w v rr} (h2 : Reg.group rr ≠ 2) (h10 : Reg.group rr ≠ 10) (h12 : Reg.group rr ≠ 12) (h16 : Reg.group rr ≠ 16) : State.rd rr (State.opLdiLit s c w v) = State.rd rr s := by
  unfold State.opLdiLit; simp (maxDischargeDepth := 60) [State.rd_mk, State.rd_fold, *]
@[simp] theorem State.opMov_rd {s c w rr} (h2 : Reg.group rr ≠ 2) (h10 : Reg.group rr ≠ 10) (h12 : Reg.group rr ≠ 12) (h16 : Reg.group rr ≠ 16) : State.rd rr (State.opMov s c w) = State.rd rr s := by
  unfold State.opMov; simp (maxDischargeDepth := 60) [State.rd_mk, State.rd_fold, *]
@[simp] theorem State.opGetm_rd {s c w rr} (h2 : Reg.group rr ≠ 2) (h10 : Reg.group rr ≠ 10) (h12 : Reg.group rr ≠ 12) (h16 : Reg.group rr ≠ 16) : State.rd rr (State.opGetm s c w) = State.rd rr s := by
  unfold State.opGetm
  refine State.instr_rd (by assumption) (by assumption) (by assumption) (by assumption) fun t => ?_
  split <;> simp +contextual (maxDischargeDepth := 60) [State.rd_mk, State.rd_fold, *]
@[simp] theorem State.opPutp_rd {s c w rr} (h2 : Reg.group rr ≠ 2) (h10 : Reg.group rr ≠ 10) (h12 : Reg.group rr ≠ 12) (h16 : Reg.group rr ≠ 16) : State.rd rr (State.opPutp s c w) = State.rd rr s := by
  unfold State.opPutp
  refine State.instr_rd (by assumption) (by assumption) (by assumption) (by assumption) fun t => ?_
  split
  · next u hu => simp +contextual (maxDischargeDepth := 60) [State.rd_mk, State.rd_fold, *]; exact State.putPort_rd hu (by assumption) (by assumption)
  · simp +contextual (maxDischargeDepth := 60) [State.rd_mk, State.rd_fold, *]
@[simp] theorem State.opAlu_rd {s c fields wr f w y rr} (h2 : Reg.group rr ≠ 2) (h10 : Reg.group rr ≠ 10) (h12 : Reg.group rr ≠ 12) (h16 : Reg.group rr ≠ 16) : State.rd rr (State.opAlu s c fields wr f w y) = State.rd rr s := by
  unfold State.opAlu; simp (maxDischargeDepth := 60) [State.rd_mk, State.rd_fold, *]
@[simp] theorem State.opAdd_rd {s c w rr} (h2 : Reg.group rr ≠ 2) (h10 : Reg.group rr ≠ 10) (h12 : Reg.group rr ≠ 12) (h16 : Reg.group rr ≠ 16) : State.rd rr (State.opAdd s c w) = State.rd rr s := by
  unfold State.opAdd; simp (maxDischargeDepth := 60) [State.rd_mk, State.rd_fold, *]
@[simp] theorem State.opSub_rd {s c w rr} (h2 : Reg.group rr ≠ 2) (h10 : Reg.group rr ≠ 10) (h12 : Reg.group rr ≠ 12) (h16 : Reg.group rr ≠ 16) : State.rd rr (State.opSub s c w) = State.rd rr s := by
  unfold State.opSub; simp (maxDischargeDepth := 60) [State.rd_mk, State.rd_fold, *]
@[simp] theorem State.opCmp_rd {s c w rr} (h2 : Reg.group rr ≠ 2) (h10 : Reg.group rr ≠ 10) (h12 : Reg.group rr ≠ 12) (h16 : Reg.group rr ≠ 16) : State.rd rr (State.opCmp s c w) = State.rd rr s := by
  unfold State.opCmp; simp (maxDischargeDepth := 60) [State.rd_mk, State.rd_fold, *]
@[simp] theorem State.opMulsh_rd {s c w rr} (h2 : Reg.group rr ≠ 2) (h10 : Reg.group rr ≠ 10) (h12 : Reg.group rr ≠ 12) (h16 : Reg.group rr ≠ 16) : State.rd rr (State.opMulsh s c w) = State.rd rr s := by
  unfold State.opMulsh; simp (maxDischargeDepth := 60) [State.rd_mk, State.rd_fold, *]
@[simp] theorem State.flow_rd {s c w fields f rr} (h2 : Reg.group rr ≠ 2) (h10 : Reg.group rr ≠ 10) (h12 : Reg.group rr ≠ 12) (h16 : Reg.group rr ≠ 16) (hf : ∀ t, State.rd rr (f t) = State.rd rr t) : State.rd rr (State.flow s c w fields f) = State.rd rr s := by
  unfold State.flow; simp (maxDischargeDepth := 60) [State.rd_mk, State.rd_fold, *]
@[simp] theorem State.opBr_rd {s c w rr} (h2 : Reg.group rr ≠ 2) (h10 : Reg.group rr ≠ 10) (h12 : Reg.group rr ≠ 12) (h16 : Reg.group rr ≠ 16) : State.rd rr (State.opBr s c w) = State.rd rr s := by
  unfold State.opBr; simp (maxDischargeDepth := 60) [State.rd_mk, State.rd_fold, *]
@[simp] theorem State.opLoop_rd {s c w rr} (h2 : Reg.group rr ≠ 2) (h10 : Reg.group rr ≠ 10) (h12 : Reg.group rr ≠ 12) (h16 : Reg.group rr ≠ 16) : State.rd rr (State.opLoop s c w) = State.rd rr s := by
  unfold State.opLoop; simp (maxDischargeDepth := 60) [State.rd_mk, State.rd_fold, *]
@[simp] theorem State.opCall_rd {s c w rr} (h2 : Reg.group rr ≠ 2) (h10 : Reg.group rr ≠ 10) (h12 : Reg.group rr ≠ 12) (h16 : Reg.group rr ≠ 16) : State.rd rr (State.opCall s c w) = State.rd rr s := by
  unfold State.opCall; simp (maxDischargeDepth := 60) [State.rd_mk, State.rd_fold, *]
@[simp] theorem State.opRet_rd {s c w rr} (h2 : Reg.group rr ≠ 2) (h10 : Reg.group rr ≠ 10) (h12 : Reg.group rr ≠ 12) (h16 : Reg.group rr ≠ 16) : State.rd rr (State.opRet s c w) = State.rd rr s := by
  unfold State.opRet
  refine State.instr_rd (by assumption) (by assumption) (by assumption) (by assumption) fun t => ?_
  split <;> simp +contextual (maxDischargeDepth := 60) [State.rd_mk, State.rd_fold, *]
@[simp] theorem State.opNop_rd {s c w rr} (h2 : Reg.group rr ≠ 2) (h10 : Reg.group rr ≠ 10) (h12 : Reg.group rr ≠ 12) (h16 : Reg.group rr ≠ 16) : State.rd rr (State.opNop s c w) = State.rd rr s := by
  unfold State.opNop; simp (maxDischargeDepth := 60) [State.rd_mk, State.rd_fold, *]
@[simp] theorem State.opStop_rd {s c w rr} (h2 : Reg.group rr ≠ 2) (h10 : Reg.group rr ≠ 10) (h12 : Reg.group rr ≠ 12) (h16 : Reg.group rr ≠ 16) : State.rd rr (State.opStop s c w) = State.rd rr s := by
  unfold State.opStop; (repeat' split) <;> simp (maxDischargeDepth := 60) [State.rd_mk, State.rd_fold, *]
@[simp] theorem State.opCapdc_rd {s c w rr} (h2 : Reg.group rr ≠ 2) (h10 : Reg.group rr ≠ 10) (h12 : Reg.group rr ≠ 12) (h16 : Reg.group rr ≠ 16) : State.rd rr (State.opCapdc s c w) = State.rd rr s := by
  unfold State.opCapdc; simp (maxDischargeDepth := 60) [State.rd_mk, State.rd_fold, *]
@[simp] theorem State.opEisrun_rd {s c w rr} (h2 : Reg.group rr ≠ 2) (h10 : Reg.group rr ≠ 10) (h12 : Reg.group rr ≠ 12) (h16 : Reg.group rr ≠ 16) : State.rd rr (State.opEisrun s c w) = State.rd rr s := by
  unfold State.opEisrun
  refine State.chanInstr_rd (by assumption) (by assumption) (by assumption) (by assumption) fun n t => ?_
  split <;> simp +contextual (maxDischargeDepth := 60) [State.rd_mk, State.rd_fold, *]
@[simp] theorem State.setVEmit_rd {s c rr} : State.rd rr (State.setVEmit s c) = State.rd rr s := by
  unfold State.setVEmit; (repeat' split) <;> simp (maxDischargeDepth := 60) [State.rd_mk, State.rd_fold, *]
@[simp] theorem State.emitStream_rd {s c bs rr} (h16 : Reg.group rr ≠ 16) : State.rd rr (State.emitStream s c bs) = State.rd rr s := by
  unfold State.emitStream; (repeat' split) <;> simp (maxDischargeDepth := 60) [State.rd_mk, State.rd_fold, *]
@[simp] theorem State.opEmit_rd {s c w rr} (h2 : Reg.group rr ≠ 2) (h10 : Reg.group rr ≠ 10) (h12 : Reg.group rr ≠ 12) (h16 : Reg.group rr ≠ 16) : State.rd rr (State.opEmit s c w) = State.rd rr s := by
  unfold State.opEmit; simp (maxDischargeDepth := 60) [State.rd_mk, State.rd_fold, *]
@[simp] theorem State.opBar_rd {s c w rr} (h2 : Reg.group rr ≠ 2) (h10 : Reg.group rr ≠ 10) (h12 : Reg.group rr ≠ 12) (h16 : Reg.group rr ≠ 16) : State.rd rr (State.opBar s c w) = State.rd rr s := by
  unfold State.opBar
  refine State.instr_rd (by assumption) (by assumption) (by assumption) (by assumption) fun t => ?_
  cases c <;> dsimp only <;> (repeat' split) <;> simp (maxDischargeDepth := 60) [State.rd_mk, State.rd_fold, *]
@[simp] theorem State.classNext_rd {s n k shelf rr} : State.rd rr (State.classNext s n k shelf) = State.rd rr s := by
  unfold State.classNext; simp (maxDischargeDepth := 60) [State.rd_mk, State.rd_fold, *]
@[simp] theorem State.opPrio_rd {s c w rr} (h2 : Reg.group rr ≠ 2) (h10 : Reg.group rr ≠ 10) (h12 : Reg.group rr ≠ 12) (h16 : Reg.group rr ≠ 16) : State.rd rr (State.opPrio s c w) = State.rd rr s := by
  unfold State.opPrio; (repeat' split) <;> simp (maxDischargeDepth := 60) [State.rd_mk, State.rd_fold, *]
@[simp] theorem State.opSig_rd {s c w rr} (h2 : Reg.group rr ≠ 2) (h10 : Reg.group rr ≠ 10) (h12 : Reg.group rr ≠ 12) (h16 : Reg.group rr ≠ 16) : State.rd rr (State.opSig s c w) = State.rd rr s := by
  unfold State.opSig; simp (maxDischargeDepth := 60) [State.rd_mk, State.rd_fold, *]
@[simp] theorem State.opSwappt_rd {s c w rr} (h2 : Reg.group rr ≠ 2) (h10 : Reg.group rr ≠ 10) (h12 : Reg.group rr ≠ 12) (h16 : Reg.group rr ≠ 16) : State.rd rr (State.opSwappt s c w) = State.rd rr s := by
  unfold State.opSwappt; (repeat' split) <;> simp (maxDischargeDepth := 60) [State.rd_mk, State.rd_fold, *]
@[simp] theorem State.barRelease_rd {s b timeout rr} (h12 : Reg.group rr ≠ 12) (h16 : Reg.group rr ≠ 16) : State.rd rr (State.barRelease s b timeout) = State.rd rr s := by
  unfold State.barRelease; simp (maxDischargeDepth := 60) [State.rd_mk, State.rd_fold, *]
@[simp] theorem State.barEnd_rd {s b timeout rr} : State.rd rr (State.barEnd s b timeout) = State.rd rr s := by
  unfold State.barEnd; simp (maxDischargeDepth := 60) [State.rd_mk, State.rd_fold, *]
@[simp] theorem State.execWord_rd {s c op w rr} (h2 : Reg.group rr ≠ 2) (h10 : Reg.group rr ≠ 10) (h12 : Reg.group rr ≠ 12) (h16 : Reg.group rr ≠ 16) : State.rd rr (State.execWord s c op w) = State.rd rr s := by
  unfold State.execWord; (repeat' split) <;> simp (maxDischargeDepth := 60) [State.rd_mk, State.rd_fold, *]
@[simp] theorem State.stepWord_rd {s c rr} (h2 : Reg.group rr ≠ 2) (h10 : Reg.group rr ≠ 10) (h12 : Reg.group rr ≠ 12) (h16 : Reg.group rr ≠ 16) : State.rd rr (State.stepWord s c) = State.rd rr s := by
  unfold State.stepWord; (repeat' split) <;> simp (maxDischargeDepth := 60) [State.rd_mk, State.rd_fold, *]
@[simp] theorem State.runWords_rd {k s c rr} (h2 : Reg.group rr ≠ 2) (h10 : Reg.group rr ≠ 10) (h12 : Reg.group rr ≠ 12) (h16 : Reg.group rr ≠ 16) : State.rd rr (State.runWords k s c) = State.rd rr s := by
  induction k generalizing s with
  | zero => rfl
  | succ k ih =>
    unfold State.runWords
    split
    · rw [ih, State.stepWord_rd] <;> assumption
    · rfl

/-! Machine/Lantern.lean -/

@[simp] theorem State.xsettle_rd {s n rr} (h16 : Reg.group rr ≠ 16) : State.rd rr (State.xsettle s n) = State.rd rr s := by
  unfold State.xsettle; simp (maxDischargeDepth := 60) [State.rd_mk, State.rd_fold, *]
@[simp] theorem State.crossbar_rd {s o rr} (h16 : Reg.group rr ≠ 16) : State.rd rr (State.crossbar s o) = State.rd rr s := by
  unfold State.crossbar
  extract_lets v0 v1
  have h_v0 : State.rd rr v0 = State.rd rr s := by subst v0; ((repeat' split) <;> simp (maxDischargeDepth := 60) [State.rd_mk, State.rd_fold, *])
  clear_value v0
  have h_v1 : State.rd rr v1 = State.rd rr s := by subst v1; ((repeat' split) <;> simp (maxDischargeDepth := 60) [State.rd_mk, State.rd_fold, *])
  clear_value v1
  simp (maxDischargeDepth := 60) [State.rd_mk, State.rd_fold, *]
@[simp] theorem State.laneRefs_rd {s r rr} : State.rd rr (State.laneRefs s r) = State.rd rr s := by
  unfold State.laneRefs; simp (maxDischargeDepth := 60) [State.rd_mk, State.rd_fold, *]
@[simp] theorem State.laneSelf_rd {s r rr} (h2 : Reg.group rr ≠ 2) (h10 : Reg.group rr ≠ 10) (h12 : Reg.group rr ≠ 12) : State.rd rr (State.laneSelf s r) = State.rd rr s := by
  unfold State.laneSelf; (repeat' split) <;> simp (maxDischargeDepth := 60) [State.rd_mk, State.rd_fold, *]
@[simp] theorem State.beginSlot_rd {s v rr} (h12 : Reg.group rr ≠ 12) : State.rd rr (State.beginSlot s v) = State.rd rr s := by
  unfold State.beginSlot; simp (maxDischargeDepth := 60) [State.rd_mk, State.rd_fold, *]
@[simp] theorem State.visitOver_rd {s rr} : State.rd rr (State.visitOver s) = State.rd rr s := by
  unfold State.visitOver; (repeat' split) <;> simp (maxDischargeDepth := 60) [State.rd_mk, State.rd_fold, *]
@[simp] theorem State.endSlot_rd {s rr} (h16 : Reg.group rr ≠ 16) : State.rd rr (State.endSlot s) = State.rd rr s := by
  unfold State.endSlot; simp (maxDischargeDepth := 60) [State.rd_mk, State.rd_fold, *]
@[simp] theorem State.laneTake_rd {s rr} : State.rd rr (State.laneTake s) = State.rd rr s := by
  unfold State.laneTake; simp (maxDischargeDepth := 60) [State.rd_mk, State.rd_fold, *]
@[simp] theorem State.refStart_rd {s r rr} (h12 : Reg.group rr ≠ 12) : State.rd rr (State.refStart s r) = State.rd rr s := by
  unfold State.refStart; simp (maxDischargeDepth := 60) [State.rd_mk, State.rd_fold, *]
@[simp] theorem State.laneRest_rd {s rr} (h12 : Reg.group rr ≠ 12) : State.rd rr (State.laneRest s) = State.rd rr s := by
  unfold State.laneRest; simp (maxDischargeDepth := 60) [State.rd_mk, State.rd_fold, *]
@[simp] theorem State.laneOff_rd {s rr} (h12 : Reg.group rr ≠ 12) : State.rd rr (State.laneOff s) = State.rd rr s := by
  unfold State.laneOff
  extract_lets v0
  have h_v0 : State.rd rr v0 = State.rd rr s := by subst v0; simp (maxDischargeDepth := 60) [State.rd_mk, State.rd_fold, *]
  clear_value v0
  simp (maxDischargeDepth := 60) [State.rd_mk, State.rd_fold, *]
@[simp] theorem State.tourEnds_rd {s rr} (h12 : Reg.group rr ≠ 12) : State.rd rr (State.tourEnds s) = State.rd rr s := by
  unfold State.tourEnds; (repeat' split) <;> simp (maxDischargeDepth := 60) [State.rd_mk, State.rd_fold, *]
@[simp] theorem State.laneAgain_rd {s n reps confirm rr} (h12 : Reg.group rr ≠ 12) : State.rd rr (State.laneAgain s n reps confirm) = State.rd rr s := by
  unfold State.laneAgain; (repeat' split) <;> simp (maxDischargeDepth := 60) [State.rd_mk, State.rd_fold, *]
@[simp] theorem State.laneSuspect_rd {s v ev ei rr} (h2 : Reg.group rr ≠ 2) (h10 : Reg.group rr ≠ 10) (h12 : Reg.group rr ≠ 12) (h16 : Reg.group rr ≠ 16) : State.rd rr (State.laneSuspect s v ev ei) = State.rd rr s := by
  unfold State.laneSuspect
  extract_lets v0 v1 v2 v3 v4 v5
  clear_value v0
  clear_value v1
  have h_v2 : State.rd rr v2 = State.rd rr s := by subst v2; simp (maxDischargeDepth := 60) [State.rd_mk, State.rd_fold, *]
  clear_value v2
  clear_value v3
  have h_v4 : State.rd rr v4 = State.rd rr s := by subst v4; simp (maxDischargeDepth := 60) [State.rd_mk, State.rd_fold, *]
  clear_value v4
  have h_v5 : State.rd rr v5 = State.rd rr s := by subst v5; simp (maxDischargeDepth := 60) [State.rd_mk, State.rd_fold, *]
  clear_value v5
  simp (maxDischargeDepth := 60) [State.rd_mk, State.rd_fold, *]
@[simp] theorem State.laneCount_rd {s v rr} (h12 : Reg.group rr ≠ 12) : State.rd rr (State.laneCount s v) = State.rd rr s := by
  unfold State.laneCount; simp (maxDischargeDepth := 60) [State.rd_mk, State.rd_fold, *]
@[simp] theorem State.laneReport_rd {s v a b rr} (h12 : Reg.group rr ≠ 12) : State.rd rr (State.laneReport s v a b) = State.rd rr s := by
  unfold State.laneReport
  extract_lets v0 v1 v2 v3 v4 v5 v6
  clear_value v0
  clear_value v1
  clear_value v2
  have h_v3 : State.rd rr v3 = State.rd rr s := by subst v3; simp (maxDischargeDepth := 60) [State.rd_mk, State.rd_fold, *]
  clear_value v3
  have h_v4 : State.rd rr v4 = State.rd rr s := by subst v4; simp (maxDischargeDepth := 60) [State.rd_mk, State.rd_fold, *]
  clear_value v4
  have h_v5 : State.rd rr v5 = State.rd rr s := by subst v5; simp (maxDischargeDepth := 60) [State.rd_mk, State.rd_fold, *]
  clear_value v5
  have h_v6 : State.rd rr v6 = State.rd rr s := by subst v6; simp (maxDischargeDepth := 60) [State.rd_mk, State.rd_fold, *]
  clear_value v6
  simp (maxDischargeDepth := 60) [State.rd_mk, State.rd_fold, *]
@[simp] theorem State.laneKeep_rd {s v a b rr} : State.rd rr (State.laneKeep s v a b) = State.rd rr s := by
  unfold State.laneKeep; simp (maxDischargeDepth := 60) [State.rd_mk, State.rd_fold, *]
@[simp] theorem State.commitFix_rd {s f rr} : State.rd rr (State.commitFix s f) = State.rd rr s := by
  unfold State.commitFix
  extract_lets v0 v1 v2
  clear_value v0
  clear_value v1
  have h_v2 : State.rd rr v2 = State.rd rr s := by subst v2; simp (maxDischargeDepth := 60) [State.rd_mk, State.rd_fold, *]
  clear_value v2
  simp (maxDischargeDepth := 60) [State.rd_mk, State.rd_fold, *]
@[simp] theorem State.histFix_rd {s f rr} : State.rd rr (State.histFix s f) = State.rd rr s := by
  unfold State.histFix; simp (maxDischargeDepth := 60) [State.rd_mk, State.rd_fold, *]
@[simp] theorem State.laneDropped_rd {s rr} (h12 : Reg.group rr ≠ 12) : State.rd rr (State.laneDropped s) = State.rd rr s := by
  unfold State.laneDropped; simp (maxDischargeDepth := 60) [State.rd_mk, State.rd_fold, *]
@[simp] theorem State.laneAbandon_rd {s rr} (h12 : Reg.group rr ≠ 12) : State.rd rr (State.laneAbandon s) = State.rd rr s := by
  unfold State.laneAbandon; (repeat' split) <;> simp (maxDischargeDepth := 60) [State.rd_mk, State.rd_fold, *]
@[simp] theorem State.dirtyRegion_rd {s r rr} : State.rd rr (State.dirtyRegion s r) = State.rd rr s := by
  unfold State.dirtyRegion; simp (maxDischargeDepth := 60) [State.rd_mk, State.rd_fold, *]
@[simp] theorem State.adoptStart_rd {s rr} (h12 : Reg.group rr ≠ 12) : State.rd rr (State.adoptStart s) = State.rd rr s := by
  unfold State.adoptStart; simp (maxDischargeDepth := 60) [State.rd_mk, State.rd_fold, *]
@[simp] theorem State.adoptEnable_rd {s n rr} (h12 : Reg.group rr ≠ 12) : State.rd rr (State.adoptEnable s n) = State.rd rr s := by
  unfold State.adoptEnable; simp (maxDischargeDepth := 60) [State.rd_mk, State.rd_fold, *]
@[simp] theorem State.adoptRelease_rd {s rr} (h2 : Reg.group rr ≠ 2) (h10 : Reg.group rr ≠ 10) (h12 : Reg.group rr ≠ 12) : State.rd rr (State.adoptRelease s) = State.rd rr s := by
  unfold State.adoptRelease; simp (maxDischargeDepth := 60) [State.rd_mk, State.rd_fold, *]
@[simp] theorem State.refBoundary_rd {s rr} (h2 : Reg.group rr ≠ 2) (h10 : Reg.group rr ≠ 10) (h12 : Reg.group rr ≠ 12) : State.rd rr (State.refBoundary s) = State.rd rr s := by
  unfold State.refBoundary; (repeat' split) <;> simp (maxDischargeDepth := 60) [State.rd_mk, State.rd_fold, *]
@[simp] theorem State.laneBoundary_rd {s rr} (h2 : Reg.group rr ≠ 2) (h10 : Reg.group rr ≠ 10) (h12 : Reg.group rr ≠ 12) (h16 : Reg.group rr ≠ 16) : State.rd rr (State.laneBoundary s) = State.rd rr s := by
  unfold State.laneBoundary; dsimp only; (repeat' split) <;> simp +contextual (maxDischargeDepth := 60) [State.rd_mk, State.rd_fold, *]
@[simp] theorem State.laneWake_rd {s rr} (h12 : Reg.group rr ≠ 12) : State.rd rr (State.laneWake s) = State.rd rr s := by
  unfold State.laneWake; simp (maxDischargeDepth := 60) [State.rd_mk, State.rd_fold, *]

/-! Machine/Spare.lean -/

@[simp] theorem mapFld_group {p} : Reg.group (mapFld p).reg = 12 := by simp [mapFld]
@[simp] theorem State.noteTest_rd {s c pass cover rr} (h12 : Reg.group rr ≠ 12) : State.rd rr (State.noteTest s c pass cover) = State.rd rr s := by
  unfold State.noteTest; simp (maxDischargeDepth := 60) [State.rd_mk, State.rd_fold, *]
@[simp] theorem State.startLbist_rd {s c rr} (h12 : Reg.group rr ≠ 12) : State.rd rr (State.startLbist s c) = State.rd rr s := by
  unfold State.startLbist; simp (maxDischargeDepth := 60) [State.rd_mk, State.rd_fold, *]
@[simp] theorem State.retire_rd {s c rr} (h2 : Reg.group rr ≠ 2) (h10 : Reg.group rr ≠ 10) (h12 : Reg.group rr ≠ 12) : State.rd rr (State.retire s c) = State.rd rr s := by
  unfold State.retire
  extract_lets v0 v1
  have h_v0 : State.rd rr v0 = State.rd rr s := by subst v0; simp (maxDischargeDepth := 60) [State.rd_mk, State.rd_fold, *]
  clear_value v0
  have h_v1 : State.rd rr v1 = State.rd rr s := by subst v1; simp (maxDischargeDepth := 60) [State.rd_mk, State.rd_fold, *]
  clear_value v1
  simp (maxDischargeDepth := 60) [State.rd_mk, State.rd_fold, *]
@[simp] theorem State.handOver_rd {s k c rr} (h12 : Reg.group rr ≠ 12) : State.rd rr (State.handOver s k c) = State.rd rr s := by
  unfold State.handOver; simp (maxDischargeDepth := 60) [State.rd_mk, State.rd_fold, *]
@[simp] theorem State.rotNow_rd {s rr} : State.rd rr (State.rotNow s) = State.rd rr s := by
  unfold State.rotNow; simp (maxDischargeDepth := 60) [State.rd_mk, State.rd_fold, *]
@[simp] theorem State.retGo_rd {s k rr} (h2 : Reg.group rr ≠ 2) (h10 : Reg.group rr ≠ 10) (h12 : Reg.group rr ≠ 12) : State.rd rr (State.retGo s k) = State.rd rr s := by
  unfold State.retGo; (repeat' split) <;> simp (maxDischargeDepth := 60) [State.rd_mk, State.rd_fold, *]
@[simp] theorem State.mismBoundary_rd {s rr} (h2 : Reg.group rr ≠ 2) (h10 : Reg.group rr ≠ 10) (h12 : Reg.group rr ≠ 12) (h16 : Reg.group rr ≠ 16) : State.rd rr (State.mismBoundary s) = State.rd rr s := by
  unfold State.mismBoundary; (repeat' split) <;> simp (maxDischargeDepth := 60) [State.rd_mk, State.rd_fold, *]
@[simp] theorem State.spareBoundary_rd {s rr} (h12 : Reg.group rr ≠ 12) : State.rd rr (State.spareBoundary s) = State.rd rr s := by
  unfold State.spareBoundary; simp (maxDischargeDepth := 60) [State.rd_mk, State.rd_fold, *]

/-! Machine/Metric.lean -/

@[simp] theorem State.dcirDeliver_rd {s n c rr} (h16 : Reg.group rr ≠ 16) : State.rd rr (State.dcirDeliver s n c) = State.rd rr s := by
  unfold State.dcirDeliver; simp (maxDischargeDepth := 60) [State.rd_mk, State.rd_fold, *]
@[simp] theorem State.dcirReady_rd {s n rr} (h16 : Reg.group rr ≠ 16) : State.rd rr (State.dcirReady s n) = State.rd rr s := by
  unfold State.dcirReady
  extract_lets v0 v1 v2
  clear_value v0
  clear_value v1
  have h_v2 : State.rd rr v2 = State.rd rr s := by subst v2; simp (maxDischargeDepth := 60) [State.rd_mk, State.rd_fold, *]
  clear_value v2
  simp (maxDischargeDepth := 60) [State.rd_mk, State.rd_fold, *]
@[simp] theorem State.eisWrite_rd {s n e re im ia q rr} (h12 : Reg.group rr ≠ 12) (h16 : Reg.group rr ≠ 16) : State.rd rr (State.eisWrite s n e re im ia q) = State.rd rr s := by
  unfold State.eisWrite; simp (maxDischargeDepth := 60) [State.rd_mk, State.rd_fold, *]
@[simp] theorem State.eisDeliver_rd {s n e rr} (h12 : Reg.group rr ≠ 12) (h16 : Reg.group rr ≠ 16) : State.rd rr (State.eisDeliver s n e) = State.rd rr s := by
  unfold State.eisDeliver; simp (maxDischargeDepth := 60) [State.rd_mk, State.rd_fold, *]
@[simp] theorem State.eisReady_rd {s n rr} (h12 : Reg.group rr ≠ 12) (h16 : Reg.group rr ≠ 16) : State.rd rr (State.eisReady s n) = State.rd rr s := by
  unfold State.eisReady; (repeat' split) <;> simp (maxDischargeDepth := 60) [State.rd_mk, State.rd_fold, *]
@[simp] theorem State.ocvShow_rd {s n o rr} (h16 : Reg.group rr ≠ 16) : State.rd rr (State.ocvShow s n o) = State.rd rr s := by
  unfold State.ocvShow; simp (maxDischargeDepth := 60) [State.rd_mk, State.rd_fold, *]
@[simp] theorem State.ocvSample_rd {s n t v bad blend rr} (h16 : Reg.group rr ≠ 16) : State.rd rr (State.ocvSample s n t v bad blend) = State.rd rr s := by
  unfold State.ocvSample; simp (maxDischargeDepth := 60) [State.rd_mk, State.rd_fold, *]
@[simp] theorem State.ocvTemp_rd {s n rr} (h16 : Reg.group rr ≠ 16) : State.rd rr (State.ocvTemp s n) = State.rd rr s := by
  unfold State.ocvTemp; simp (maxDischargeDepth := 60) [State.rd_mk, State.rd_fold, *]
@[simp] theorem State.countLife_rd {s n v i dt rr} (h16 : Reg.group rr ≠ 16) : State.rd rr (State.countLife s n v i dt) = State.rd rr s := by
  unfold State.countLife
  extract_lets v0 v1 v2 v3 v4 v5
  clear_value v0
  clear_value v1
  clear_value v2
  clear_value v3
  clear_value v4
  have h_v5 : State.rd rr v5 = State.rd rr s := by subst v5; simp (maxDischargeDepth := 60) [State.rd_mk, State.rd_fold, *]
  clear_value v5
  simp (maxDischargeDepth := 60) [State.rd_mk, State.rd_fold, *]
@[simp] theorem State.counterWrite_rd {s n energy val rr} (h16 : Reg.group rr ≠ 16) : State.rd rr (State.counterWrite s n energy val) = State.rd rr s := by
  unfold State.counterWrite
  extract_lets v0
  have h_v0 : State.rd rr v0 = State.rd rr s := by subst v0; simp (maxDischargeDepth := 60) [State.rd_mk, State.rd_fold, *]
  clear_value v0
  simp (maxDischargeDepth := 60) [State.rd_mk, State.rd_fold, *]

/-! Machine/Slot.lean -/

@[simp] theorem State.degExpire_rd {s n sat time rr} (h2 : Reg.group rr ≠ 2) (h10 : Reg.group rr ≠ 10) (h16 : Reg.group rr ≠ 16) : State.rd rr (State.degExpire s n sat time) = State.rd rr s := by
  unfold State.degExpire; (repeat' split) <;> simp (maxDischargeDepth := 60) [State.rd_mk, State.rd_fold, *]
@[simp] theorem State.resumed_rd {s n was rr} (h2 : Reg.group rr ≠ 2) (h10 : Reg.group rr ≠ 10) (h12 : Reg.group rr ≠ 12) (h16 : Reg.group rr ≠ 16) : State.rd rr (State.resumed s n was) = State.rd rr s := by
  unfold State.resumed; simp (maxDischargeDepth := 60) [State.rd_mk, State.rd_fold, *]
@[simp] theorem State.armsClose_rd {s n all rr} (h2 : Reg.group rr ≠ 2) (h10 : Reg.group rr ≠ 10) (h12 : Reg.group rr ≠ 12) (h16 : Reg.group rr ≠ 16) : State.rd rr (State.armsClose s n all) = State.rd rr s := by
  unfold State.armsClose
  extract_lets x
  clear_value x
  split
  · split <;> simp (maxDischargeDepth := 60) [State.rd_mk, State.rd_fold, *]
  · extract_lets start o deg s1
    have h1 : State.rd rr s1 = State.rd rr s := by subst s1; simp (maxDischargeDepth := 60) [State.rd_mk, State.rd_fold, *]
    clear_value s1 start o deg
    (repeat' split) <;> simp (maxDischargeDepth := 60) [State.rd_mk, State.rd_fold, *]
@[simp] theorem State.timedReady_rd {s c rr} (h12 : Reg.group rr ≠ 12) (h16 : Reg.group rr ≠ 16) : State.rd rr (State.timedReady s c) = State.rd rr s := by
  unfold State.timedReady; (repeat' split) <;> simp (maxDischargeDepth := 60) [State.rd_mk, State.rd_fold, *]
@[simp] theorem State.gapHold_rd {s n rr} (h16 : Reg.group rr ≠ 16) : State.rd rr (State.gapHold s n) = State.rd rr s := by
  unfold State.gapHold; simp (maxDischargeDepth := 60) [State.rd_mk, State.rd_fold, *]
@[simp] theorem State.gapSlot_rd {s n rr} (h16 : Reg.group rr ≠ 16) : State.rd rr (State.gapSlot s n) = State.rd rr s := by
  unfold State.gapSlot; simp (maxDischargeDepth := 60) [State.rd_mk, State.rd_fold, *]
@[simp] theorem State.contribute_rd {s n rr} : State.rd rr (State.contribute s n) = State.rd rr s := by
  unfold State.contribute; simp (maxDischargeDepth := 60) [State.rd_mk, State.rd_fold, *]
@[simp] theorem State.scaleSlot_rd {s n rr} : State.rd rr (State.scaleSlot s n) = State.rd rr s := by
  unfold State.scaleSlot; simp (maxDischargeDepth := 60) [State.rd_mk, State.rd_fold, *]
@[simp] theorem State.chanSlot_rd {s n all rr} (h2 : Reg.group rr ≠ 2) (h10 : Reg.group rr ≠ 10) (h12 : Reg.group rr ≠ 12) (h16 : Reg.group rr ≠ 16) : State.rd rr (State.chanSlot s n all) = State.rd rr s := by
  unfold State.chanSlot
  extract_lets v0
  have h_v0 : State.rd rr v0 = State.rd rr s := by subst v0; simp (maxDischargeDepth := 60) [State.rd_mk, State.rd_fold, *]
  clear_value v0
  ((repeat' split) <;> (try extract_lets) <;> simp (maxDischargeDepth := 60) +zetaDelta [State.rd_mk, State.rd_fold, *])
@[simp] theorem State.shelfSlot_rd {s rr} (h2 : Reg.group rr ≠ 2) (h10 : Reg.group rr ≠ 10) (h12 : Reg.group rr ≠ 12) (h16 : Reg.group rr ≠ 16) : State.rd rr (State.shelfSlot s) = State.rd rr s := by
  unfold State.shelfSlot; simp (maxDischargeDepth := 60) [State.rd_mk, State.rd_fold, *]
@[simp] theorem State.dueSlot_rd {s n rr} (h2 : Reg.group rr ≠ 2) (h10 : Reg.group rr ≠ 10) (h12 : Reg.group rr ≠ 12) (h16 : Reg.group rr ≠ 16) : State.rd rr (State.dueSlot s n) = State.rd rr s := by
  unfold State.dueSlot; simp (maxDischargeDepth := 60) [State.rd_mk, State.rd_fold, *]
@[simp] theorem State.dueShelf_rd {s rr} (h2 : Reg.group rr ≠ 2) (h10 : Reg.group rr ≠ 10) (h12 : Reg.group rr ≠ 12) (h16 : Reg.group rr ≠ 16) : State.rd rr (State.dueShelf s) = State.rd rr s := by
  unfold State.dueShelf; simp (maxDischargeDepth := 60) [State.rd_mk, State.rd_fold, *]
@[simp] theorem State.slotsEnd_rd {s rr} (h2 : Reg.group rr ≠ 2) (h10 : Reg.group rr ≠ 10) (h12 : Reg.group rr ≠ 12) (h16 : Reg.group rr ≠ 16) : State.rd rr (State.slotsEnd s) = State.rd rr s := by
  unfold State.slotsEnd; simp (maxDischargeDepth := 60) [State.rd_mk, State.rd_fold, *]

/-! Machine/Program.lean -/

@[simp] theorem State.storeWrite_rd {s addr vals rr} : State.rd rr (State.storeWrite s addr vals) = State.rd rr s := by
  unfold State.storeWrite; simp (maxDischargeDepth := 60) [State.rd_mk, State.rd_fold, *]
@[simp] theorem State.progWriteReg_rd {s r stopped val rr} (hq : Reg.group rr ≠ Reg.group r) : State.rd rr (State.progWriteReg s r stopped val) = State.rd rr s := by
  unfold State.progWriteReg
  (repeat' split) <;> simp [State.rd_mk, State.rd_fold, *]
@[simp] theorem State.bankBoundary_rd {s rr} (h12 : Reg.group rr ≠ 12) (h16 : Reg.group rr ≠ 16) : State.rd rr (State.bankBoundary s) = State.rd rr s := by
  unfold State.bankBoundary
  extract_lets v0
  have h_v0 : State.rd rr v0 = State.rd rr s := by subst v0; simp (maxDischargeDepth := 60) [State.rd_mk, State.rd_fold, *]
  clear_value v0
  simp (maxDischargeDepth := 60) [State.rd_mk, State.rd_fold, *]
@[simp] theorem State.hostStart_rd {s n rr} : State.rd rr (State.hostStart s n) = State.rd rr s := by
  unfold State.hostStart; simp (maxDischargeDepth := 60) [State.rd_mk, State.rd_fold, *]
@[simp] theorem State.hostStop_rd {s n rr} : State.rd rr (State.hostStop s n) = State.rd rr s := by
  unfold State.hostStop; simp (maxDischargeDepth := 60) [State.rd_mk, State.rd_fold, *]
@[simp] theorem State.startContext_rd {s n rr} (h12 : Reg.group rr ≠ 12) (h16 : Reg.group rr ≠ 16) : State.rd rr (State.startContext s n) = State.rd rr s := by
  unfold State.startContext
  extract_lets v0 v1 v2 v3 v4
  have h_v0 : State.rd rr v0 = State.rd rr s := by subst v0; simp (maxDischargeDepth := 60) [State.rd_mk, State.rd_fold, *]
  clear_value v0
  have h_v1 : State.rd rr v1 = State.rd rr s := by subst v1; simp (maxDischargeDepth := 60) [State.rd_mk, State.rd_fold, *]
  clear_value v1
  have h_v2 : State.rd rr v2 = State.rd rr s := by subst v2; simp (maxDischargeDepth := 60) [State.rd_mk, State.rd_fold, *]
  clear_value v2
  have h_v3 : State.rd rr v3 = State.rd rr s := by subst v3; simp (maxDischargeDepth := 60) [State.rd_mk, State.rd_fold, *]
  clear_value v3
  have h_v4 : State.rd rr v4 = State.rd rr s := by subst v4; simp (maxDischargeDepth := 60) [State.rd_mk, State.rd_fold, *]
  clear_value v4
  simp (maxDischargeDepth := 60) [State.rd_mk, State.rd_fold, *]
@[simp] theorem State.startLane_rd {s j rr} (h16 : Reg.group rr ≠ 16) : State.rd rr (State.startLane s j) = State.rd rr s := by
  unfold State.startLane
  extract_lets v0 v1 v2 v3
  have h_v0 : State.rd rr v0 = State.rd rr s := by subst v0; simp (maxDischargeDepth := 60) [State.rd_mk, State.rd_fold, *]
  clear_value v0
  have h_v1 : State.rd rr v1 = State.rd rr s := by subst v1; simp (maxDischargeDepth := 60) [State.rd_mk, State.rd_fold, *]
  clear_value v1
  have h_v2 : State.rd rr v2 = State.rd rr s := by subst v2; simp (maxDischargeDepth := 60) [State.rd_mk, State.rd_fold, *]
  clear_value v2
  have h_v3 : State.rd rr v3 = State.rd rr s := by subst v3; simp (maxDischargeDepth := 60) [State.rd_mk, State.rd_fold, *]
  clear_value v3
  simp (maxDischargeDepth := 60) [State.rd_mk, State.rd_fold, *]
@[simp] theorem State.startAccept_rd {s n rr} (h2 : Reg.group rr ≠ 2) (h10 : Reg.group rr ≠ 10) (h12 : Reg.group rr ≠ 12) (h16 : Reg.group rr ≠ 16) : State.rd rr (State.startAccept s n) = State.rd rr s := by
  unfold State.startAccept; (repeat' split) <;> simp (maxDischargeDepth := 60) [State.rd_mk, State.rd_fold, *]
@[simp] theorem State.startRefuse_rd {s n rr} (h2 : Reg.group rr ≠ 2) (h10 : Reg.group rr ≠ 10) (h16 : Reg.group rr ≠ 16) : State.rd rr (State.startRefuse s n) = State.rd rr s := by
  unfold State.startRefuse
  extract_lets v0
  have h_v0 : State.rd rr v0 = State.rd rr s := by subst v0; simp (maxDischargeDepth := 60) [State.rd_mk, State.rd_fold, *]
  clear_value v0
  simp (maxDischargeDepth := 60) [State.rd_mk, State.rd_fold, *]
@[simp] theorem State.requestBoundary_rd {s n rr} (h2 : Reg.group rr ≠ 2) (h10 : Reg.group rr ≠ 10) (h12 : Reg.group rr ≠ 12) (h16 : Reg.group rr ≠ 16) : State.rd rr (State.requestBoundary s n) = State.rd rr s := by
  unfold State.requestBoundary; simp (maxDischargeDepth := 60) [State.rd_mk, State.rd_fold, *]
@[simp] theorem State.shelfStart_rd {s rr} (h12 : Reg.group rr ≠ 12) (h16 : Reg.group rr ≠ 16) : State.rd rr (State.shelfStart s) = State.rd rr s := by
  unfold State.shelfStart; simp (maxDischargeDepth := 60) [State.rd_mk, State.rd_fold, *]

/-! Machine/Link.lean -/

@[simp] theorem State.modSess_rd {s k f rr} : State.rd rr (State.modSess s k f) = State.rd rr s := by
  unfold State.modSess; simp (maxDischargeDepth := 60) [State.rd_mk, State.rd_fold, *]
@[simp] theorem State.closeSess_rd {s k rr} (h0 : Reg.group rr ≠ 0) (h2 : Reg.group rr ≠ 2) (h9 : Reg.group rr ≠ 9) (h10 : Reg.group rr ≠ 10) : State.rd rr (State.closeSess s k) = State.rd rr s := by
  unfold State.closeSess; simp (maxDischargeDepth := 60) [State.rd_mk, State.rd_fold, *]
@[simp] theorem State.transmit_rd {s f rr} : State.rd rr (State.transmit s f) = State.rd rr s := by
  unfold State.transmit; (repeat' split) <;> simp (maxDischargeDepth := 60) [State.rd_mk, State.rd_fold, *]
@[simp] theorem State.modRate_rd {s f rr} : State.rd rr (State.modRate s f) = State.rd rr s := by
  unfold State.modRate; simp (maxDischargeDepth := 60) [State.rd_mk, State.rd_fold, *]
@[simp] theorem State.rateFrames_rd {s op rr} : State.rd rr (State.rateFrames s op) = State.rd rr s := by
  unfold State.rateFrames; simp (maxDischargeDepth := 60) [State.rd_mk, State.rd_fold, *]
@[simp] theorem State.decDue_rd {s rr} : State.rd rr (State.decDue s) = State.rd rr s := by
  unfold State.decDue; simp (maxDischargeDepth := 60) [State.rd_mk, State.rd_fold, *]
@[simp] theorem State.rateSwitch_rd {s rr} (h2 : Reg.group rr ≠ 2) (h9 : Reg.group rr ≠ 9) (h10 : Reg.group rr ≠ 10) : State.rd rr (State.rateSwitch s) = State.rd rr s := by
  unfold State.rateSwitch
  extract_lets v0 v1 v2
  clear_value v0
  have h_v1 : State.rd rr v1 = State.rd rr s := by subst v1; simp (maxDischargeDepth := 60) [State.rd_mk, State.rd_fold, *]
  clear_value v1
  have h_v2 : State.rd rr v2 = State.rd rr s := by subst v2; simp (maxDischargeDepth := 60) [State.rd_mk, State.rd_fold, *]
  clear_value v2
  simp (maxDischargeDepth := 60) [State.rd_mk, State.rd_fold, *]
@[simp] theorem State.propose_rd {s la lb restore rr} (h2 : Reg.group rr ≠ 2) (h9 : Reg.group rr ≠ 9) (h10 : Reg.group rr ≠ 10) : State.rd rr (State.propose s la lb restore) = State.rd rr s := by
  unfold State.propose
  extract_lets v0
  have h_v0 : State.rd rr v0 = State.rd rr s := by subst v0; simp (maxDischargeDepth := 60) [State.rd_mk, State.rd_fold, *]
  clear_value v0
  simp (maxDischargeDepth := 60) [State.rd_mk, State.rd_fold, *]
@[simp] theorem State.proposeSleep_rd {s rr} (h2 : Reg.group rr ≠ 2) (h9 : Reg.group rr ≠ 9) (h10 : Reg.group rr ≠ 10) : State.rd rr (State.proposeSleep s) = State.rd rr s := by
  unfold State.proposeSleep; simp (maxDischargeDepth := 60) [State.rd_mk, State.rd_fold, *]
@[simp] theorem State.proposeRestore_rd {s rr} (h2 : Reg.group rr ≠ 2) (h9 : Reg.group rr ≠ 9) (h10 : Reg.group rr ≠ 10) : State.rd rr (State.proposeRestore s) = State.rd rr s := by
  unfold State.proposeRestore; simp (maxDischargeDepth := 60) [State.rd_mk, State.rd_fold, *]
@[simp] theorem State.rateExit_rd {s rr} (h2 : Reg.group rr ≠ 2) (h9 : Reg.group rr ≠ 9) (h10 : Reg.group rr ≠ 10) : State.rd rr (State.rateExit s) = State.rd rr s := by
  unfold State.rateExit; (repeat' split) <;> simp (maxDischargeDepth := 60) [State.rd_mk, State.rd_fold, *]
@[simp] theorem State.rateControl_rd {s k op rr} (h9 : Reg.group rr ≠ 9) : State.rd rr (State.rateControl s k op) = State.rd rr s := by
  unfold State.rateControl; simp (maxDischargeDepth := 60) [State.rd_mk, State.rd_fold, *]
@[simp] theorem State.portWrite_rd {s r p val rr} (h2 : Reg.group rr ≠ 2) (h9 : Reg.group rr ≠ 9) (h10 : Reg.group rr ≠ 10) (hq : Reg.group rr ≠ Reg.group r) : State.rd rr (State.portWrite s r p val) = State.rd rr s := by
  unfold State.portWrite; dsimp only; (repeat' split) <;> simp (maxDischargeDepth := 60) [State.rd_mk, State.rd_fold, *]
@[simp] theorem State.sendEvent_rd {s k f rr} : State.rd rr (State.sendEvent s k f) = State.rd rr s := by
  unfold State.sendEvent; simp (maxDischargeDepth := 60) [State.rd_mk, State.rd_fold, *]
@[simp] theorem State.streamSeqNext_rd {s st rr} : State.rd rr (State.streamSeqNext s st) = State.rd rr s := by
  unfold State.streamSeqNext; simp (maxDischargeDepth := 60) [State.rd_mk, State.rd_fold, *]
@[simp] theorem State.sendStream_rd {s st index body rr} (h9 : Reg.group rr ≠ 9) : State.rd rr (State.sendStream s st index body) = State.rd rr s := by
  unfold State.sendStream; (repeat' split) <;> simp (maxDischargeDepth := 60) [State.rd_mk, State.rd_fold, *]
@[simp] theorem State.recAck_rd {s ack rr} : State.rd rr (State.recAck s ack) = State.rd rr s := by
  unfold State.recAck; simp (maxDischargeDepth := 60) [State.rd_mk, State.rd_fold, *]
@[simp] theorem State.sendInstant_rd {s st stamp per size entry rr} (h9 : Reg.group rr ≠ 9) : State.rd rr (State.sendInstant s st stamp per size entry) = State.rd rr s := by
  unfold State.sendInstant; simp (maxDischargeDepth := 60) [State.rd_mk, State.rd_fold, *]
@[simp] theorem State.sendRaw_rd {s md raw rr} (h9 : Reg.group rr ≠ 9) : State.rd rr (State.sendRaw s md raw) = State.rd rr s := by
  unfold State.sendRaw; simp (maxDischargeDepth := 60) [State.rd_mk, State.rd_fold, *]
@[simp] theorem State.evalStream_rd {s p st rr} (h2 : Reg.group rr ≠ 2) (h9 : Reg.group rr ≠ 9) (h10 : Reg.group rr ≠ 10) : State.rd rr (State.evalStream s p st).1 = State.rd rr p.1 := by
  unfold State.evalStream
  dsimp only
  split <;> simp (maxDischargeDepth := 60) [State.rd_mk, State.rd_fold, h2, h9, h10]
@[simp] theorem State.streamWrite_rd {s st val rr} (h9 : Reg.group rr ≠ 9) : State.rd rr (State.streamWrite s st val) = State.rd rr s := by
  unfold State.streamWrite
  extract_lets v0
  have h_v0 : State.rd rr v0 = State.rd rr s := by subst v0; simp (maxDischargeDepth := 60) [State.rd_mk, State.rd_fold, *]
  clear_value v0
  ((repeat' split) <;> (try extract_lets) <;> simp (maxDischargeDepth := 60) +zetaDelta [State.rd_mk, State.rd_fold, *])
@[simp] theorem State.reply_rd {s p pkt rr} : State.rd rr (State.reply s p pkt) = State.rd rr s := by
  unfold State.reply; simp (maxDischargeDepth := 60) [State.rd_mk, State.rd_fold, *]

/-! Machine/Modes.lean -/

@[simp] theorem State.modeBoundary_rd {s0 rr} (h0 : Reg.group rr ≠ 0) (h1 : Reg.group rr ≠ 1) (h2 : Reg.group rr ≠ 2) (h9 : Reg.group rr ≠ 9) (h10 : Reg.group rr ≠ 10) : State.rd rr (State.modeBoundary s0) = State.rd rr s0 := by
  unfold State.modeBoundary
  extract_lets v0 v1 v2
  have h_v0 : State.rd rr v0 = State.rd rr s0 := by subst v0; simp (maxDischargeDepth := 60) [State.rd_mk, State.rd_fold, *]
  clear_value v0
  clear_value v1
  have h_v2 : State.rd rr v2 = State.rd rr s0 := by subst v2; simp (maxDischargeDepth := 60) [State.rd_mk, State.rd_fold, *]
  clear_value v2
  ((repeat' split) <;> (try extract_lets) <;> simp +zetaDelta +contextual (maxDischargeDepth := 60) [State.rd_mk, State.rd_fold, *])
@[simp] theorem State.modeWrite_rd {s val rr} (h0 : Reg.group rr ≠ 0) (h1 : Reg.group rr ≠ 1) : State.rd rr (State.modeWrite s val) = State.rd rr s := by
  unfold State.modeWrite; simp (maxDischargeDepth := 60) [State.rd_mk, State.rd_fold, *]
@[simp] theorem State.spareSleep_rd {s rr} (h12 : Reg.group rr ≠ 12) : State.rd rr (State.spareSleep s) = State.rd rr s := by
  unfold State.spareSleep; simp (maxDischargeDepth := 60) [State.rd_mk, State.rd_fold, *]
@[simp] theorem State.spareWake_rd {s rr} (h12 : Reg.group rr ≠ 12) : State.rd rr (State.spareWake s) = State.rd rr s := by
  unfold State.spareWake; (repeat' split) <;> simp (maxDischargeDepth := 60) [State.rd_mk, State.rd_fold, *]
@[simp] theorem State.enterMode_rd {s target rr} (h0 : Reg.group rr ≠ 0) (h1 : Reg.group rr ≠ 1) (h8 : Reg.group rr ≠ 8) (h12 : Reg.group rr ≠ 12) (h16 : Reg.group rr ≠ 16) : State.rd rr (State.enterMode s target) = State.rd rr s := by
  unfold State.enterMode; (repeat' split) <;> simp (maxDischargeDepth := 60) [State.rd_mk, State.rd_fold, *]
@[simp] theorem State.burstChan_rd {s n stamp rr} (h2 : Reg.group rr ≠ 2) (h10 : Reg.group rr ≠ 10) (h12 : Reg.group rr ≠ 12) (h16 : Reg.group rr ≠ 16) : State.rd rr (State.burstChan s n stamp) = State.rd rr s := by
  unfold State.burstChan
  extract_lets m
  split
  · simp (maxDischargeDepth := 60) [State.rd_mk, State.rd_fold, *]
  · extract_lets uv smp s1 s2 s3
    have h_1 : State.rd rr s1 = State.rd rr s := by subst s1; simp (maxDischargeDepth := 60) [State.rd_mk, State.rd_fold, *]
    clear_value s1
    have h_2 : State.rd rr s2 = State.rd rr s := by subst s2; simp (maxDischargeDepth := 60) [State.rd_mk, State.rd_fold, *]
    clear_value s2
    have h_3 : State.rd rr s3 = State.rd rr s := by subst s3; split <;> simp (maxDischargeDepth := 60) [State.rd_mk, State.rd_fold, *]
    clear_value s3
    simp (maxDischargeDepth := 60) [State.rd_mk, State.rd_fold, *]
@[simp] theorem State.leaveAging_rd {s rr} (h0 : Reg.group rr ≠ 0) (h1 : Reg.group rr ≠ 1) : State.rd rr (State.leaveAging s) = State.rd rr s := by
  unfold State.leaveAging; simp (maxDischargeDepth := 60) [State.rd_mk, State.rd_fold, *]
@[simp] theorem State.safeWaited_rd {s rr} (h0 : Reg.group rr ≠ 0) (h2 : Reg.group rr ≠ 2) (h3 : Reg.group rr ≠ 3) (h5 : Reg.group rr ≠ 5) (h7 : Reg.group rr ≠ 7) (h10 : Reg.group rr ≠ 10) (h12 : Reg.group rr ≠ 12) (h16 : Reg.group rr ≠ 16) : State.rd rr (State.safeWaited s) = State.rd rr s := by
  unfold State.safeWaited; (repeat' split) <;> simp (maxDischargeDepth := 60) [State.rd_mk, State.rd_fold, *]
@[simp] theorem State.resumeAging_rd {s n rr} : State.rd rr (State.resumeAging s n) = State.rd rr s := by
  unfold State.resumeAging; simp (maxDischargeDepth := 60) [State.rd_mk, State.rd_fold, *]

/-! Machine/SelfTest.lean -/

@[simp] theorem bandFld_group {p} : Reg.group (bandFld p).reg = 11 := by simp [bandFld]
@[simp] theorem faultFld_group {p} : Reg.group (faultFld p).reg = 11 := by simp [faultFld]
@[simp] theorem State.noteFail_rd {s off bit mram uncorr repaired pending rr} (h11 : Reg.group rr ≠ 11) : State.rd rr (State.noteFail s off bit mram uncorr repaired pending) = State.rd rr s := by
  unfold State.noteFail
  extract_lets v0
  have h_v0 : State.rd rr v0 = State.rd rr s := by subst v0; simp (maxDischargeDepth := 60) [State.rd_mk, State.rd_fold, *]
  clear_value v0
  simp (maxDischargeDepth := 60) [State.rd_mk, State.rd_fold, *]
@[simp] theorem State.sramFail_rd {s slice rr} (h2 : Reg.group rr ≠ 2) (h10 : Reg.group rr ≠ 10) (h11 : Reg.group rr ≠ 11) : State.rd rr (State.sramFail s slice) = State.rd rr s := by
  unfold State.sramFail; simp (maxDischargeDepth := 60) [State.rd_mk, State.rd_fold, *]
@[simp] theorem State.mramFind_rd {s f rr} (h2 : Reg.group rr ≠ 2) (h10 : Reg.group rr ≠ 10) (h11 : Reg.group rr ≠ 11) : State.rd rr (State.mramFind s f) = State.rd rr s := by
  unfold State.mramFind; simp (maxDischargeDepth := 60) [State.rd_mk, State.rd_fold, *]
@[simp] theorem State.mramVerify_rd {s l rr} (h2 : Reg.group rr ≠ 2) (h10 : Reg.group rr ≠ 10) (h11 : Reg.group rr ≠ 11) : State.rd rr (State.mramVerify s l) = State.rd rr s := by
  unfold State.mramVerify; simp (maxDischargeDepth := 60) [State.rd_mk, State.rd_fold, *]
@[simp] theorem State.loopbackStop_rd {s w b rr} (h2 : Reg.group rr ≠ 2) (h5 : Reg.group rr ≠ 5) (h7 : Reg.group rr ≠ 7) (h10 : Reg.group rr ≠ 10) (h16 : Reg.group rr ≠ 16) : State.rd rr (State.loopbackStop s w b) = State.rd rr s := by
  unfold State.loopbackStop; simp (maxDischargeDepth := 60) [State.rd_mk, State.rd_fold, *]
@[simp] theorem State.cellTemp_rd {s n ohm rr} (h2 : Reg.group rr ≠ 2) (h10 : Reg.group rr ≠ 10) (h16 : Reg.group rr ≠ 16) : State.rd rr (State.cellTemp s n ohm) = State.rd rr s := by
  unfold State.cellTemp
  extract_lets v0 v1 v2 v3
  clear_value v0
  have h_v1 : State.rd rr v1 = State.rd rr s := by subst v1; simp (maxDischargeDepth := 60) [State.rd_mk, State.rd_fold, *]
  clear_value v1
  have h_v2 : State.rd rr v2 = State.rd rr s := by subst v2; simp (maxDischargeDepth := 60) [State.rd_mk, State.rd_fold, *]
  clear_value v2
  have h_v3 : State.rd rr v3 = State.rd rr s := by subst v3; simp (maxDischargeDepth := 60) [State.rd_mk, State.rd_fold, *]
  clear_value v3
  simp (maxDischargeDepth := 60) [State.rd_mk, State.rd_fold, *]
@[simp] theorem State.refCheck_rd {s r1 r2 rr} (h2 : Reg.group rr ≠ 2) (h10 : Reg.group rr ≠ 10) (h11 : Reg.group rr ≠ 11) (h12 : Reg.group rr ≠ 12) : State.rd rr (State.refCheck s r1 r2) = State.rd rr s := by
  unfold State.refCheck; dsimp only; (repeat' split) <;> simp +contextual (maxDischargeDepth := 60) [State.rd_mk, State.rd_fold, *]
@[simp] theorem State.dieRead_rd {s k code rr} (h2 : Reg.group rr ≠ 2) (h10 : Reg.group rr ≠ 10) (h11 : Reg.group rr ≠ 11) : State.rd rr (State.dieRead s k code) = State.rd rr s := by
  unfold State.dieRead; simp (maxDischargeDepth := 60) [State.rd_mk, State.rd_fold, *]
@[simp] theorem State.blendStart_rd {s n rr} (h16 : Reg.group rr ≠ 16) : State.rd rr (State.blendStart s n) = State.rd rr s := by
  unfold State.blendStart; simp (maxDischargeDepth := 60) [State.rd_mk, State.rd_fold, *]
@[simp] theorem State.chanBand_rd {s n b rr} (h16 : Reg.group rr ≠ 16) : State.rd rr (State.chanBand s n b) = State.rd rr s := by
  unfold State.chanBand
  extract_lets v0
  have h_v0 : State.rd rr v0 = State.rd rr s := by subst v0; simp (maxDischargeDepth := 60) [State.rd_mk, State.rd_fold, *]
  clear_value v0
  simp (maxDischargeDepth := 60) [State.rd_mk, State.rd_fold, *]
@[simp] theorem State.blendStep_rd {s n rr} (h16 : Reg.group rr ≠ 16) : State.rd rr (State.blendStep s n) = State.rd rr s := by
  unfold State.blendStep; simp (maxDischargeDepth := 60) [State.rd_mk, State.rd_fold, *]
@[simp] theorem State.bands_rd {s first rr} (h11 : Reg.group rr ≠ 11) (h16 : Reg.group rr ≠ 16) : State.rd rr (State.bands s first) = State.rd rr s := by
  unfold State.bands
  extract_lets v0
  have h_v0 : State.rd rr v0 = State.rd rr s := by subst v0; simp (maxDischargeDepth := 60) [State.rd_mk, State.rd_fold, *]
  clear_value v0
  simp (maxDischargeDepth := 60) [State.rd_mk, State.rd_fold, *]
@[simp] theorem State.dieMax_rd {s rr} (h11 : Reg.group rr ≠ 11) : State.rd rr (State.dieMax s) = State.rd rr s := by
  unfold State.dieMax; simp (maxDischargeDepth := 60) [State.rd_mk, State.rd_fold, *]
@[simp] theorem State.thermal_rd {s f up down num sev rr} (h2 : Reg.group rr ≠ 2) (h10 : Reg.group rr ≠ 10) (hq : Reg.group rr ≠ Reg.group f.reg) : State.rd rr (State.thermal s f up down num sev) = State.rd rr s := by
  unfold State.thermal
  (repeat' split) <;> simp [State.rd_mk, State.rd_fold, *]
@[simp] theorem State.thermals_rd {s rr} (h0 : Reg.group rr ≠ 0) (h2 : Reg.group rr ≠ 2) (h3 : Reg.group rr ≠ 3) (h5 : Reg.group rr ≠ 5) (h7 : Reg.group rr ≠ 7) (h10 : Reg.group rr ≠ 10) (h11 : Reg.group rr ≠ 11) (h12 : Reg.group rr ≠ 12) (h16 : Reg.group rr ≠ 16) : State.rd rr (State.thermals s) = State.rd rr s := by
  unfold State.thermals
  extract_lets v0 v1
  have h_v0 : State.rd rr v0 = State.rd rr s := by subst v0; simp (maxDischargeDepth := 60) [State.rd_mk, State.rd_fold, *]
  clear_value v0
  have h_v1 : State.rd rr v1 = State.rd rr s := by subst v1; simp (maxDischargeDepth := 60) [State.rd_mk, State.rd_fold, *]
  clear_value v1
  simp (maxDischargeDepth := 60) [State.rd_mk, State.rd_fold, *]

/-! Machine/Reset.lean -/

@[simp] theorem State.vaultFlush_rd {s rr} (h10 : Reg.group rr ≠ 10) : State.rd rr (State.vaultFlush s) = State.rd rr s := by
  unfold State.vaultFlush
  exact foldl_rd fun t _ => State.vaultTake_rd (by assumption)
@[simp] theorem State.logicStart_rd {s rr} : State.rd rr (State.logicStart s) = State.rd rr s := by
  unfold State.logicStart; simp (maxDischargeDepth := 60) [State.rd_mk, State.rd_fold, *]
@[simp] theorem State.spareBoot_rd {s rr} (h12 : Reg.group rr ≠ 12) : State.rd rr (State.spareBoot s) = State.rd rr s := by
  unfold State.spareBoot; simp (maxDischargeDepth := 60) [State.rd_mk, State.rd_fold, *]
@[simp] theorem State.wake_rd {s rr} (h2 : Reg.group rr ≠ 2) (h3 : Reg.group rr ≠ 3) (h7 : Reg.group rr ≠ 7) (h10 : Reg.group rr ≠ 10) : State.rd rr (State.wake s) = State.rd rr s := by
  unfold State.wake; simp (maxDischargeDepth := 60) [State.rd_mk, State.rd_fold, *]

/-! Machine/Rails.lean -/

@[simp] theorem rfltFld_group {e b} : Reg.group (rfltFld e b).reg = 3 := by simp [rfltFld]
@[simp] theorem State.railSave_rd {s rr} (h3 : Reg.group rr ≠ 3) : State.rd rr (State.railSave s) = State.rd rr s := by
  unfold State.railSave; simp (maxDischargeDepth := 60) [State.rd_mk, State.rd_fold, *]
@[simp] theorem State.railEvent_rd {s e sev rr} (h2 : Reg.group rr ≠ 2) (h10 : Reg.group rr ≠ 10) : State.rd rr (State.railEvent s e sev) = State.rd rr s := by
  unfold State.railEvent; simp (maxDischargeDepth := 60) [State.rd_mk, State.rd_fold, *]
@[simp] theorem State.ownFail_rd {s e rr} (h2 : Reg.group rr ≠ 2) (h3 : Reg.group rr ≠ 3) (h7 : Reg.group rr ≠ 7) (h10 : Reg.group rr ≠ 10) : State.rd rr (State.ownFail s e) = State.rd rr s := by
  unfold State.ownFail; simp (maxDischargeDepth := 60) [State.rd_mk, State.rd_fold, *]
@[simp] theorem State.railFailDown_rd {s e rr} (h2 : Reg.group rr ≠ 2) (h3 : Reg.group rr ≠ 3) (h7 : Reg.group rr ≠ 7) (h10 : Reg.group rr ≠ 10) : State.rd rr (State.railFailDown s e) = State.rd rr s := by
  unfold State.railFailDown
  extract_lets v0 v1
  clear_value v0
  have h_v1 : State.rd rr v1 = State.rd rr s := by subst v1; simp (maxDischargeDepth := 60) [State.rd_mk, State.rd_fold, *]
  clear_value v1
  simp (maxDischargeDepth := 60) [State.rd_mk, State.rd_fold, *]
@[simp] theorem State.railClear_rd {s e val rr} (h3 : Reg.group rr ≠ 3) (h7 : Reg.group rr ≠ 7) : State.rd rr (State.railClear s e val) = State.rd rr s := by
  unfold State.railClear
  extract_lets v0
  have h_v0 : State.rd rr v0 = State.rd rr s := by subst v0; simp (maxDischargeDepth := 60) [State.rd_mk, State.rd_fold, *]
  clear_value v0
  simp (maxDischargeDepth := 60) [State.rd_mk, State.rd_fold, *]
@[simp] theorem State.loadCal_rd {s l rr} : State.rd rr (State.loadCal s l) = State.rd rr s := by
  unfold State.loadCal
  simp [State.rd_mk, State.rd_fold]
@[simp] theorem State.cfgAlt_rd {s rr} (h2 : Reg.group rr ≠ 2) (h3 : Reg.group rr ≠ 3) (h10 : Reg.group rr ≠ 10) : State.rd rr (State.cfgAlt s) = State.rd rr s := by
  unfold State.cfgAlt; simp (maxDischargeDepth := 60) [State.rd_mk, State.rd_fold, *]
@[simp] theorem State.applyRepairs_rd {s rr} (h11 : Reg.group rr ≠ 11) : State.rd rr (State.applyRepairs s) = State.rd rr s := by
  unfold State.applyRepairs
  extract_lets v0 v1
  clear_value v0
  have h_v1 : State.rd rr v1 = State.rd rr s := by subst v1; simp (maxDischargeDepth := 60) [State.rd_mk, State.rd_fold, *]
  clear_value v1
  simp (maxDischargeDepth := 60) [State.rd_mk, State.rd_fold, *]
@[simp] theorem State.readAddr_rd {s x rr} (h2 : Reg.group rr ≠ 2) (h8 : Reg.group rr ≠ 8) (h10 : Reg.group rr ≠ 10) : State.rd rr (State.readAddr s x) = State.rd rr s := by
  unfold State.readAddr; (repeat' split) <;> simp (maxDischargeDepth := 60) [State.rd_mk, State.rd_fold, *]
@[simp] theorem State.bootStraps_rd {s rr} (h2 : Reg.group rr ≠ 2) (h5 : Reg.group rr ≠ 5) (h8 : Reg.group rr ≠ 8) (h10 : Reg.group rr ≠ 10) : State.rd rr (State.bootStraps s) = State.rd rr s := by
  unfold State.bootStraps; (repeat' split) <;> simp (maxDischargeDepth := 60) [State.rd_mk, State.rd_fold, *]
@[simp] theorem State.bootDie_rd {s die rr} (h2 : Reg.group rr ≠ 2) (h10 : Reg.group rr ≠ 10) (h11 : Reg.group rr ≠ 11) (h16 : Reg.group rr ≠ 16) : State.rd rr (State.bootDie s die) = State.rd rr s := by
  unfold State.bootDie
  extract_lets v0
  have h_v0 : State.rd rr v0 = State.rd rr s := by subst v0; simp (maxDischargeDepth := 60) [State.rd_mk, State.rd_fold, *]
  clear_value v0
  simp (maxDischargeDepth := 60) [State.rd_mk, State.rd_fold, *]
@[simp] theorem State.bootAdopt_rd {s rr} (h12 : Reg.group rr ≠ 12) : State.rd rr (State.bootAdopt s) = State.rd rr s := by
  unfold State.bootAdopt; simp (maxDischargeDepth := 60) [State.rd_mk, State.rd_fold, *]
@[simp] theorem State.bootVault_rd {s rr} (h2 : Reg.group rr ≠ 2) (h10 : Reg.group rr ≠ 10) : State.rd rr (State.bootVault s) = State.rd rr s := by
  unfold State.bootVault; simp (maxDischargeDepth := 60) [State.rd_mk, State.rd_fold, *]
@[simp] theorem State.bootEnd_rd {s rr} (h2 : Reg.group rr ≠ 2) (h4 : Reg.group rr ≠ 4) (h10 : Reg.group rr ≠ 10) : State.rd rr (State.bootEnd s) = State.rd rr s := by
  unfold State.bootEnd; simp (maxDischargeDepth := 60) [State.rd_mk, State.rd_fold, *]
@[simp] theorem State.recover_rd {s rr} (h3 : Reg.group rr ≠ 3) (h9 : Reg.group rr ≠ 9) : State.rd rr (State.recover s) = State.rd rr s := by
  unfold State.recover; simp (maxDischargeDepth := 60) [State.rd_mk, State.rd_fold, *]

/-! Machine/Protect.lean -/

@[simp] theorem State.wearJudge_rd {s n rr} (h2 : Reg.group rr ≠ 2) (h10 : Reg.group rr ≠ 10) (h16 : Reg.group rr ≠ 16) : State.rd rr (State.wearJudge s n) = State.rd rr s := by
  unfold State.wearJudge; simp (maxDischargeDepth := 60) [State.rd_mk, State.rd_fold, *]
@[simp] theorem State.ctSample_rd {s n r w ip sat rr} (h2 : Reg.group rr ≠ 2) (h10 : Reg.group rr ≠ 10) (h16 : Reg.group rr ≠ 16) : State.rd rr (State.ctSample s n r w ip sat) = State.rd rr s := by
  unfold State.ctSample; simp (maxDischargeDepth := 60) [State.rd_mk, State.rd_fold, *]
@[simp] theorem State.faultClear_rd {s n val rr} (h16 : Reg.group rr ≠ 16) : State.rd rr (State.faultClear s n val) = State.rd rr s := by
  unfold State.faultClear
  extract_lets v0 v1 v2 v3 v4
  clear_value v0
  clear_value v1
  have h_v2 : State.rd rr v2 = State.rd rr s := by subst v2; simp (maxDischargeDepth := 60) [State.rd_mk, State.rd_fold, *]
  clear_value v2
  have h_v3 : State.rd rr v3 = State.rd rr s := by subst v3; simp (maxDischargeDepth := 60) [State.rd_mk, State.rd_fold, *]
  clear_value v3
  have h_v4 : State.rd rr v4 = State.rd rr s := by subst v4; simp (maxDischargeDepth := 60) [State.rd_mk, State.rd_fold, *]
  clear_value v4
  simp (maxDischargeDepth := 60) [State.rd_mk, State.rd_fold, *]
@[simp] theorem State.protBoundary_rd {s n rr} (h2 : Reg.group rr ≠ 2) (h10 : Reg.group rr ≠ 10) (h16 : Reg.group rr ≠ 16) : State.rd rr (State.protBoundary s n) = State.rd rr s := by
  unfold State.protBoundary
  extract_lets v0 v1 v2 v3 v4 v5 v6 v7 v8 v9 v10
  clear_value v0
  clear_value v1
  clear_value v2
  clear_value v3
  clear_value v4
  clear_value v5
  clear_value v6
  clear_value v7
  have h_v8 : State.rd rr v8 = State.rd rr s := by subst v8; simp (maxDischargeDepth := 60) [State.rd_mk, State.rd_fold, *]
  clear_value v8
  have h_v9 : State.rd rr v9 = State.rd rr s := by subst v9; simp (maxDischargeDepth := 60) [State.rd_mk, State.rd_fold, *]
  clear_value v9
  have h_v10 : State.rd rr v10 = State.rd rr s := by subst v10; simp (maxDischargeDepth := 60) [State.rd_mk, State.rd_fold, *]
  clear_value v10
  simp (maxDischargeDepth := 60) [State.rd_mk, State.rd_fold, *]

/-! Machine/Maint.lean -/

@[simp] theorem State.stopRuns_rd {s rr} : State.rd rr (State.stopRuns s) = State.rd rr s := by
  unfold State.stopRuns; simp (maxDischargeDepth := 60) [State.rd_mk, State.rd_fold, *]
@[simp] theorem State.restart_rd {s cause rr} (h0 : Reg.group rr ≠ 0) (h2 : Reg.group rr ≠ 2) (h10 : Reg.group rr ≠ 10) : State.rd rr (State.restart s cause) = State.rd rr s := by
  unfold State.restart; simp (maxDischargeDepth := 60) [State.rd_mk, State.rd_fold, *]
@[simp] theorem State.restartKey_rd {s key rr} (h0 : Reg.group rr ≠ 0) (h2 : Reg.group rr ≠ 2) (h10 : Reg.group rr ≠ 10) : State.rd rr (State.restartKey s key) = State.rd rr s := by
  unfold State.restartKey; simp (maxDischargeDepth := 60) [State.rd_mk, State.rd_fold, *]
@[simp] theorem State.restartEnd_rd {s bankA bankB t0 rr} (h0 : Reg.group rr ≠ 0) (h2 : Reg.group rr ≠ 2) (h3 : Reg.group rr ≠ 3) (h5 : Reg.group rr ≠ 5) (h9 : Reg.group rr ≠ 9) (h10 : Reg.group rr ≠ 10) : State.rd rr (State.restartEnd s bankA bankB t0) = State.rd rr s := by
  unfold State.restartEnd; dsimp only; (repeat' split) <;> simp +contextual (maxDischargeDepth := 60) [State.rd_mk, State.rd_fold, *]
@[simp] theorem State.loseChan_rd {s n rr} (h2 : Reg.group rr ≠ 2) (h10 : Reg.group rr ≠ 10) (h16 : Reg.group rr ≠ 16) : State.rd rr (State.loseChan s n) = State.rd rr s := by
  unfold State.loseChan; simp (maxDischargeDepth := 60) [State.rd_mk, State.rd_fold, *]
@[simp] theorem State.cardLost_rd {s k rr} (h0 : Reg.group rr ≠ 0) (h2 : Reg.group rr ≠ 2) (h10 : Reg.group rr ≠ 10) (h12 : Reg.group rr ≠ 12) (h16 : Reg.group rr ≠ 16) : State.rd rr (State.cardLost s k) = State.rd rr s := by
  unfold State.cardLost; simp (maxDischargeDepth := 60) [State.rd_mk, State.rd_fold, *]
@[simp] theorem State.returnChan_rd {s n rr} (h16 : Reg.group rr ≠ 16) : State.rd rr (State.returnChan s n) = State.rd rr s := by
  unfold State.returnChan
  extract_lets v0 v1 v2 v3
  clear_value v0
  have h_v1 : State.rd rr v1 = State.rd rr s := by subst v1; simp (maxDischargeDepth := 60) [State.rd_mk, State.rd_fold, *]
  clear_value v1
  have h_v2 : State.rd rr v2 = State.rd rr s := by subst v2; simp (maxDischargeDepth := 60) [State.rd_mk, State.rd_fold, *]
  clear_value v2
  have h_v3 : State.rd rr v3 = State.rd rr s := by subst v3; simp (maxDischargeDepth := 60) [State.rd_mk, State.rd_fold, *]
  clear_value v3
  simp (maxDischargeDepth := 60) [State.rd_mk, State.rd_fold, *]

/-! Machine/Host.lean -/

@[simp] theorem State.latchTrec_rd {s n rr} : State.rd rr (State.latchTrec s n) = State.rd rr s := by
  unfold State.latchTrec; simp (maxDischargeDepth := 60) [State.rd_mk, State.rd_fold, *]
@[simp] theorem State.regRead_rd {s r rr} : State.rd rr (State.regRead s r).2 = State.rd rr s := by
  unfold State.regRead; (repeat' split) <;> simp (maxDischargeDepth := 60) [State.rd_mk, State.rd_fold, *]
@[simp] theorem State.hostRead_rd {s a rr} : State.rd rr (State.hostRead s a).2.2 = State.rd rr s := by
  unfold State.hostRead; (repeat' split) <;> simp (maxDischargeDepth := 60) [State.rd_mk, State.rd_fold, *]
@[simp] theorem State.plainWrite_rd {s r val rr} (hq : Reg.group rr ≠ Reg.group r) : State.rd rr (State.plainWrite s r val) = State.rd rr s := by
  unfold State.plainWrite
  extract_lets v0
  have h_v0 : State.rd rr v0 = State.rd rr s := by subst v0; simp [State.rd_mk, State.rd_fold, *]
  clear_value v0
  split <;> simp [State.rd_mk, State.rd_fold, *]
@[simp] theorem State.measWrite_rd {s n val rr} (h16 : Reg.group rr ≠ 16) : State.rd rr (State.measWrite s n val) = State.rd rr s := by
  unfold State.measWrite; simp (maxDischargeDepth := 60) [State.rd_mk, State.rd_fold, *]
@[simp] theorem State.safeWrite_rd {s val rr} (h0 : Reg.group rr ≠ 0) (h2 : Reg.group rr ≠ 2) (h3 : Reg.group rr ≠ 3) (h5 : Reg.group rr ≠ 5) (h7 : Reg.group rr ≠ 7) (h10 : Reg.group rr ≠ 10) (h12 : Reg.group rr ≠ 12) (h16 : Reg.group rr ≠ 16) : State.rd rr (State.safeWrite s val) = State.rd rr s := by
  unfold State.safeWrite; (repeat' split) <;> simp (maxDischargeDepth := 60) [State.rd_mk, State.rd_fold, *]
@[simp] theorem State.pendWrite_rd {s w val rr} (h2 : Reg.group rr ≠ 2) : State.rd rr (State.pendWrite s w val) = State.rd rr s := by
  unfold State.pendWrite
  extract_lets v0
  have h_v0 : State.rd rr v0 = State.rd rr s := by subst v0; simp (maxDischargeDepth := 60) [State.rd_mk, State.rd_fold, *]
  clear_value v0
  simp (maxDischargeDepth := 60) [State.rd_mk, State.rd_fold, *]
@[simp] theorem State.ppsWrite_rd {s val rr} (h1 : Reg.group rr ≠ 1) : State.rd rr (State.ppsWrite s val) = State.rd rr s := by
  unfold State.ppsWrite
  extract_lets v0
  have h_v0 : State.rd rr v0 = State.rd rr s := by subst v0; simp (maxDischargeDepth := 60) [State.rd_mk, State.rd_fold, *]
  clear_value v0
  simp (maxDischargeDepth := 60) [State.rd_mk, State.rd_fold, *]
@[simp] theorem State.compatWrite_rd {s val rr} (h1 : Reg.group rr ≠ 1) : State.rd rr (State.compatWrite s val) = State.rd rr s := by
  unfold State.compatWrite; simp (maxDischargeDepth := 60) [State.rd_mk, State.rd_fold, *]
@[simp] theorem State.rfltWrite_rd {s e val rr} (h3 : Reg.group rr ≠ 3) (h7 : Reg.group rr ≠ 7) : State.rd rr (State.rfltWrite s e val) = State.rd rr s := by
  unfold State.rfltWrite; simp (maxDischargeDepth := 60) [State.rd_mk, State.rd_fold, *]
@[simp] theorem State.fcfgWrite_rd {s f val rr} (h2 : Reg.group rr ≠ 2) (h4 : Reg.group rr ≠ 4) (h10 : Reg.group rr ≠ 10) : State.rd rr (State.fcfgWrite s f val) = State.rd rr s := by
  unfold State.fcfgWrite
  extract_lets v0
  have h_v0 : State.rd rr v0 = State.rd rr s := by subst v0; simp (maxDischargeDepth := 60) [State.rd_mk, State.rd_fold, *]
  clear_value v0
  simp (maxDischargeDepth := 60) [State.rd_mk, State.rd_fold, *]
@[simp] theorem State.cmaxWrite_rd {s val rr} (h4 : Reg.group rr ≠ 4) : State.rd rr (State.cmaxWrite s val) = State.rd rr s := by
  unfold State.cmaxWrite
  extract_lets v0
  have h_v0 : State.rd rr v0 = State.rd rr s := by subst v0; simp (maxDischargeDepth := 60) [State.rd_mk, State.rd_fold, *]
  clear_value v0
  simp (maxDischargeDepth := 60) [State.rd_mk, State.rd_fold, *]
@[simp] theorem State.wdtWrite_rd {s val rr} (h5 : Reg.group rr ≠ 5) : State.rd rr (State.wdtWrite s val) = State.rd rr s := by
  unfold State.wdtWrite; simp (maxDischargeDepth := 60) [State.rd_mk, State.rd_fold, *]
@[simp] theorem State.restoreWrite_rd {s w val rr} (h5 : Reg.group rr ≠ 5) : State.rd rr (State.restoreWrite s w val) = State.rd rr s := by
  unfold State.restoreWrite; (repeat' split) <;> simp (maxDischargeDepth := 60) [State.rd_mk, State.rd_fold, *]
@[simp] theorem State.axCtlWrite_rd {s j val rr} (h7 : Reg.group rr ≠ 7) : State.rd rr (State.axCtlWrite s j val) = State.rd rr s := by
  unfold State.axCtlWrite; (repeat' split) <;> simp (maxDischargeDepth := 60) [State.rd_mk, State.rd_fold, *]
@[simp] theorem State.axCfgWrite_rd {s j r val rr} (hq : Reg.group rr ≠ Reg.group r) : State.rd rr (State.axCfgWrite s j r val) = State.rd rr s := by
  unfold State.axCfgWrite; dsimp only; (repeat' split) <;> simp (maxDischargeDepth := 60) [State.rd_mk, State.rd_fold, *]
@[simp] theorem State.alCtlWrite_rd {s k val rr} (h2 : Reg.group rr ≠ 2) (h7 : Reg.group rr ≠ 7) (h10 : Reg.group rr ≠ 10) : State.rd rr (State.alCtlWrite s k val) = State.rd rr s := by
  unfold State.alCtlWrite; (repeat' split) <;> simp (maxDischargeDepth := 60) [State.rd_mk, State.rd_fold, *]
@[simp] theorem State.devWrite_rd {s k val rr} (h8 : Reg.group rr ≠ 8) : State.rd rr (State.devWrite s k val) = State.rd rr s := by
  unfold State.devWrite; dsimp only; (repeat' split) <;> simp +contextual (maxDischargeDepth := 60) [State.rd_mk, State.rd_fold, *]
@[simp] theorem State.nzoffWrite_rd {s val rr} (h9 : Reg.group rr ≠ 9) : State.rd rr (State.nzoffWrite s val) = State.rd rr s := by
  unfold State.nzoffWrite; (repeat' split) <;> simp (maxDischargeDepth := 60) [State.rd_mk, State.rd_fold, *]
@[simp] theorem State.hlCfgWrite_rd {s val rr} (h9 : Reg.group rr ≠ 9) : State.rd rr (State.hlCfgWrite s val) = State.rd rr s := by
  unfold State.hlCfgWrite
  extract_lets v0
  have h_v0 : State.rd rr v0 = State.rd rr s := by subst v0; simp (maxDischargeDepth := 60) [State.rd_mk, State.rd_fold, *]
  clear_value v0
  simp (maxDischargeDepth := 60) [State.rd_mk, State.rd_fold, *]
@[simp] theorem State.vtCtlWrite_rd {s val rr} (h10 : Reg.group rr ≠ 10) : State.rd rr (State.vtCtlWrite s val) = State.rd rr s := by
  unfold State.vtCtlWrite; (repeat' split) <;> simp (maxDischargeDepth := 60) [State.rd_mk, State.rd_fold, *]
@[simp] theorem State.cctlWrite_rd {s val rr} (h2 : Reg.group rr ≠ 2) (h10 : Reg.group rr ≠ 10) : State.rd rr (State.cctlWrite s val) = State.rd rr s := by
  unfold State.cctlWrite; (repeat' split) <;> simp (maxDischargeDepth := 60) [State.rd_mk, State.rd_fold, *]
@[simp] theorem State.cslotWrite_rd {s k val rr} (h10 : Reg.group rr ≠ 10) : State.rd rr (State.cslotWrite s k val) = State.rd rr s := by
  unfold State.cslotWrite; (repeat' split) <;> simp (maxDischargeDepth := 60) [State.rd_mk, State.rd_fold, *]
@[simp] theorem State.lnStatWrite_rd {s val rr} : State.rd rr (State.lnStatWrite s val) = State.rd rr s := by
  unfold State.lnStatWrite; (repeat' split) <;> simp (maxDischargeDepth := 60) [State.rd_mk, State.rd_fold, *]
@[simp] theorem State.adoptWrite_rd {s val rr} (h2 : Reg.group rr ≠ 2) (h10 : Reg.group rr ≠ 10) (h12 : Reg.group rr ≠ 12) : State.rd rr (State.adoptWrite s val) = State.rd rr s := by
  unfold State.adoptWrite; (repeat' split) <;> simp (maxDischargeDepth := 60) [State.rd_mk, State.rd_fold, *]
@[simp] theorem State.calWrite_rd {s val rr} (h12 : Reg.group rr ≠ 12) : State.rd rr (State.calWrite s val) = State.rd rr s := by
  unfold State.calWrite; simp (maxDischargeDepth := 60) [State.rd_mk, State.rd_fold, *]
@[simp] theorem State.shCmdWrite_rd {s val rr} (h12 : Reg.group rr ≠ 12) (h16 : Reg.group rr ≠ 16) : State.rd rr (State.shCmdWrite s val) = State.rd rr s := by
  unfold State.shCmdWrite; (repeat' split) <;> simp (maxDischargeDepth := 60) [State.rd_mk, State.rd_fold, *]
@[simp] theorem State.chCmdWrite_rd {s n val rr} : State.rd rr (State.chCmdWrite s n val) = State.rd rr s := by
  unfold State.chCmdWrite; (repeat' split) <;> simp (maxDischargeDepth := 60) [State.rd_mk, State.rd_fold, *]
@[simp] theorem State.chGWrite_rd {s n i val rr} : State.rd rr (State.chGWrite s n i val) = State.rd rr s := by
  unfold State.chGWrite; simp (maxDischargeDepth := 60) [State.rd_mk, State.rd_fold, *]
@[simp] theorem State.csGWrite_rd {s i val rr} : State.rd rr (State.csGWrite s i val) = State.rd rr s := by
  unfold State.csGWrite; simp (maxDischargeDepth := 60) [State.rd_mk, State.rd_fold, *]
@[simp] theorem State.pcntWrite_rd {s n val rr} (h16 : Reg.group rr ≠ 16) : State.rd rr (State.pcntWrite s n val) = State.rd rr s := by
  unfold State.pcntWrite; simp (maxDischargeDepth := 60) [State.rd_mk, State.rd_fold, *]
@[simp] theorem State.vtQueueWrite_rd {s val rr} (h10 : Reg.group rr ≠ 10) : State.rd rr (State.vtQueueWrite s val) = State.rd rr s := by
  unfold State.vtQueueWrite; simp (maxDischargeDepth := 60) [State.rd_mk, State.rd_fold, *]
@[simp] theorem State.lowWrite_rd {s r val rr} : State.rd rr (State.lowWrite s r val) = State.rd rr s := by
  unfold State.lowWrite; simp (maxDischargeDepth := 60) [State.rd_mk, State.rd_fold, *]
@[simp] theorem State.highWrite_rd {s n energy val rr} (h16 : Reg.group rr ≠ 16) : State.rd rr (State.highWrite s n energy val) = State.rd rr s := by
  unfold State.highWrite; simp (maxDischargeDepth := 60) [State.rd_mk, State.rd_fold, *]
@[simp] theorem State.readAnswer_rd {s a rr} : State.rd rr (State.readAnswer s a) = State.rd rr s := by
  unfold State.readAnswer; simp (maxDischargeDepth := 60) [State.rd_mk, State.rd_fold, *]

/-! Machine/TwoWire.lean -/

@[simp] theorem State.modTw_rd {s f rr} : State.rd rr (State.modTw s f) = State.rd rr s := by
  unfold State.modTw; simp (maxDischargeDepth := 60) [State.rd_mk, State.rd_fold, *]
@[simp] theorem State.tw1Write_rd {s body pec f rr} (h8 : Reg.group rr ≠ 8) (hf : ∀ t, State.rd rr (f t) = State.rd rr t) : State.rd rr (State.tw1Write s body pec f) = State.rd rr s := by
  unfold State.tw1Write; (repeat' split) <;> simp (maxDischargeDepth := 60) [State.rd_mk, State.rd_fold, *]
@[simp] theorem State.rmCap_rd {s val rr} (h6 : Reg.group rr ≠ 6) : State.rd rr (State.rmCap s val) = State.rd rr s := by
  unfold State.rmCap
  extract_lets v0 v1
  have h_v0 : State.rd rr v0 = State.rd rr s := by subst v0; simp (maxDischargeDepth := 60) [State.rd_mk, State.rd_fold, *]
  clear_value v0
  have h_v1 : State.rd rr v1 = State.rd rr s := by subst v1; simp (maxDischargeDepth := 60) [State.rd_mk, State.rd_fold, *]
  clear_value v1
  simp (maxDischargeDepth := 60) [State.rd_mk, State.rd_fold, *]
@[simp] theorem State.regDone_rd {s st rr} (h8 : Reg.group rr ≠ 8) : State.rd rr (State.regDone s st) = State.rd rr s := by
  unfold State.regDone; simp (maxDischargeDepth := 60) [State.rd_mk, State.rd_fold, *]
@[simp] theorem State.notifySend_rd {s o rest ack rr} (h2 : Reg.group rr ≠ 2) (h8 : Reg.group rr ≠ 8) (h10 : Reg.group rr ≠ 10) : State.rd rr (State.notifySend s o rest ack) = State.rd rr s := by
  unfold State.notifySend
  extract_lets v0 v1
  have h_v0 : State.rd rr v0 = State.rd rr s := by subst v0; simp (maxDischargeDepth := 60) [State.rd_mk, State.rd_fold, *]
  clear_value v0
  clear_value v1
  ((repeat' split) <;> (try extract_lets) <;> simp (maxDischargeDepth := 60) +zetaDelta [State.rd_mk, State.rd_fold, *])
@[simp] theorem State.packAlert_rd {s rr} (h2 : Reg.group rr ≠ 2) (h5 : Reg.group rr ≠ 5) (h10 : Reg.group rr ≠ 10) : State.rd rr (State.packAlert s) = State.rd rr s := by
  unfold State.packAlert; simp (maxDischargeDepth := 60) [State.rd_mk, State.rd_fold, *]
@[simp] theorem State.pollGood_rd {s k x rr} (h2 : Reg.group rr ≠ 2) (h5 : Reg.group rr ≠ 5) (h8 : Reg.group rr ≠ 8) (h10 : Reg.group rr ≠ 10) : State.rd rr (State.pollGood s k x) = State.rd rr s := by
  unfold State.pollGood
  extract_lets v0 v1 v2 v3
  clear_value v0
  have h_v1 : State.rd rr v1 = State.rd rr s := by subst v1; simp (maxDischargeDepth := 60) [State.rd_mk, State.rd_fold, *]
  clear_value v1
  have h_v2 : State.rd rr v2 = State.rd rr s := by subst v2; simp (maxDischargeDepth := 60) [State.rd_mk, State.rd_fold, *]
  clear_value v2
  have h_v3 : State.rd rr v3 = State.rd rr s := by subst v3; simp (maxDischargeDepth := 60) [State.rd_mk, State.rd_fold, *]
  clear_value v3
  simp (maxDischargeDepth := 60) [State.rd_mk, State.rd_fold, *]
@[simp] theorem State.pollBad_rd {s k rr} (h2 : Reg.group rr ≠ 2) (h5 : Reg.group rr ≠ 5) (h8 : Reg.group rr ≠ 8) (h10 : Reg.group rr ≠ 10) : State.rd rr (State.pollBad s k) = State.rd rr s := by
  unfold State.pollBad
  extract_lets v0
  have h_v0 : State.rd rr v0 = State.rd rr s := by subst v0; simp (maxDischargeDepth := 60) [State.rd_mk, State.rd_fold, *]
  clear_value v0
  ((repeat' split) <;> (try extract_lets) <;> simp (maxDischargeDepth := 60) +zetaDelta [State.rd_mk, State.rd_fold, *])
@[simp] theorem State.pollDev_rd {s k x rr} (h2 : Reg.group rr ≠ 2) (h5 : Reg.group rr ≠ 5) (h8 : Reg.group rr ≠ 8) (h10 : Reg.group rr ≠ 10) : State.rd rr (State.pollDev s k x) = State.rd rr s := by
  unfold State.pollDev; simp (maxDischargeDepth := 60) [State.rd_mk, State.rd_fold, *]

/-! Machine/Commands.lean -/

@[simp] theorem State.gate_rd {s x r inRecovery f rr} (hf : ∀ t, State.rd rr (f t) = State.rd rr t) : State.rd rr (State.gate s x r inRecovery f) = State.rd rr s := by
  unfold State.gate; simp (maxDischargeDepth := 60) [State.rd_mk, State.rd_fold, *]
@[simp] theorem State.read32_rd {s x addr rr} : State.rd rr (State.read32 s x addr) = State.rd rr s := by
  unfold State.read32; simp (maxDischargeDepth := 60) [State.rd_mk, State.rd_fold, *]
@[simp] theorem State.readWords_rd {s a n out rr} : State.rd rr (State.readWords s a n out) = State.rd rr s := by
  induction n generalizing s a out with
  | zero => exact State.answer_rd
  | succ n ih =>
    unfold State.readWords
    dsimp only
    split
    · rw [ih, State.hostRead_rd]
    · exact State.answer_rd
@[simp] theorem State.readBlock_rd {s x addr n rr} : State.rd rr (State.readBlock s x addr n) = State.rd rr s := by
  unfold State.readBlock; simp (maxDischargeDepth := 60) [State.rd_mk, State.rd_fold, *]
@[simp] theorem State.modBulk_rd {s f rr} : State.rd rr (State.modBulk s f) = State.rd rr s := by
  unfold State.modBulk; simp (maxDischargeDepth := 60) [State.rd_mk, State.rd_fold, *]
@[simp] theorem State.bulkOpen_rd {s x total rr} (h9 : Reg.group rr ≠ 9) : State.rd rr (State.bulkOpen s x total) = State.rd rr s := by
  unfold State.bulkOpen; simp (maxDischargeDepth := 60) [State.rd_mk, State.rd_fold, *]
@[simp] theorem State.bulkData_rd {s x id off data rr} : State.rd rr (State.bulkData s x id off data) = State.rd rr s := by
  unfold State.bulkData; simp (maxDischargeDepth := 60) [State.rd_mk, State.rd_fold, *]
@[simp] theorem State.bulkStatus_rd {s x id rr} : State.rd rr (State.bulkStatus s x id) = State.rd rr s := by
  unfold State.bulkStatus; simp (maxDischargeDepth := 60) [State.rd_mk, State.rd_fold, *]
@[simp] theorem State.bulkRead_rd {s x addr len rr} (h9 : Reg.group rr ≠ 9) : State.rd rr (State.bulkRead s x addr len) = State.rd rr s := by
  unfold State.bulkRead; simp (maxDischargeDepth := 60) [State.rd_mk, State.rd_fold, *]
@[simp] theorem State.programLoad_rd {s x bank index n crc rr} : State.rd rr (State.programLoad s x bank index n crc) = State.rd rr s := by
  unfold State.programLoad; simp (maxDischargeDepth := 60) [State.rd_mk, State.rd_fold, *]
@[simp] theorem State.imageStage_rd {s x sel rr} (h2 : Reg.group rr ≠ 2) (h10 : Reg.group rr ≠ 10) : State.rd rr (State.imageStage s x sel) = State.rd rr s := by
  unfold State.imageStage
  refine State.gate_rd fun t => ?_
  dsimp only
  (repeat' split) <;> simp (maxDischargeDepth := 60) [State.rd_mk, State.rd_fold, *]
@[simp] theorem State.imageCommit_rd {s x bank rr} : State.rd rr (State.imageCommit s x bank) = State.rd rr s := by
  unfold State.imageCommit; simp (maxDischargeDepth := 60) [State.rd_mk, State.rd_fold, *]
@[simp] theorem State.authOpen_rd {s nh k num rr} : State.rd rr (State.authOpen s nh k num) = State.rd rr s := by
  unfold State.authOpen
  extract_lets v0 v1 v2
  clear_value v0
  clear_value v1
  have h_v2 : State.rd rr v2 = State.rd rr s := by subst v2; simp (maxDischargeDepth := 60) [State.rd_mk, State.rd_fold, *]
  clear_value v2
  simp (maxDischargeDepth := 60) [State.rd_mk, State.rd_fold, *]
@[simp] theorem State.authPhase1_rd {s x nh rr} : State.rd rr (State.authPhase1 s x nh) = State.rd rr s := by
  unfold State.authPhase1
  refine State.gate_rd fun t => ?_
  dsimp only
  (repeat' split) <;> simp (maxDischargeDepth := 60) [State.rd_mk, State.rd_fold, *]
@[simp] theorem State.authFail_rd {s k rr} (h2 : Reg.group rr ≠ 2) (h9 : Reg.group rr ≠ 9) (h10 : Reg.group rr ≠ 10) : State.rd rr (State.authFail s k) = State.rd rr s := by
  unfold State.authFail
  extract_lets v0 v1 v2 v3
  clear_value v0
  have h_v1 : State.rd rr v1 = State.rd rr s := by subst v1; simp (maxDischargeDepth := 60) [State.rd_mk, State.rd_fold, *]
  clear_value v1
  clear_value v2
  have h_v3 : State.rd rr v3 = State.rd rr s := by subst v3; simp (maxDischargeDepth := 60) [State.rd_mk, State.rd_fold, *]
  clear_value v3
  simp (maxDischargeDepth := 60) [State.rd_mk, State.rd_fold, *]
@[simp] theorem State.authPhase2_rd {s x ph rr} (h2 : Reg.group rr ≠ 2) (h9 : Reg.group rr ≠ 9) (h10 : Reg.group rr ≠ 10) : State.rd rr (State.authPhase2 s x ph) = State.rd rr s := by
  unfold State.authPhase2; (repeat' split) <;> simp (maxDischargeDepth := 60) [State.rd_mk, State.rd_fold, *]
@[simp] theorem State.subscribe_rd {s x bits rr} : State.rd rr (State.subscribe s x bits) = State.rd rr s := by
  unfold State.subscribe; (repeat' split) <;> simp (maxDischargeDepth := 60) [State.rd_mk, State.rd_fold, *]
@[simp] theorem State.ackFrames_rd {s x cls seq rr} : State.rd rr (State.ackFrames s x cls seq) = State.rd rr s := by
  unfold State.ackFrames; (repeat' split) <;> simp (maxDischargeDepth := 60) [State.rd_mk, State.rd_fold, *]
@[simp] theorem State.closeCmd_rd {s x rr} (h0 : Reg.group rr ≠ 0) (h2 : Reg.group rr ≠ 2) (h9 : Reg.group rr ≠ 9) (h10 : Reg.group rr ≠ 10) : State.rd rr (State.closeCmd s x) = State.rd rr s := by
  unfold State.closeCmd; (repeat' split) <;> simp (maxDischargeDepth := 60) [State.rd_mk, State.rd_fold, *]
@[simp] theorem State.wakeCmd_rd {s x rr} : State.rd rr (State.wakeCmd s x) = State.rd rr s := by
  unfold State.wakeCmd; simp (maxDischargeDepth := 60) [State.rd_mk, State.rd_fold, *]
@[simp] theorem State.keySetDevice_rd {s x key rr} (h9 : Reg.group rr ≠ 9) : State.rd rr (State.keySetDevice s x key) = State.rd rr s := by
  unfold State.keySetDevice; (repeat' split) <;> simp (maxDischargeDepth := 60) [State.rd_mk, State.rd_fold, *]
@[simp] theorem State.keySetOwner_rd {s x key rr} (h9 : Reg.group rr ≠ 9) : State.rd rr (State.keySetOwner s x key) = State.rd rr s := by
  unfold State.keySetOwner; simp (maxDischargeDepth := 60) [State.rd_mk, State.rd_fold, *]
@[simp] theorem State.keepalive_rd {s k seq data rr} : State.rd rr (State.keepalive s k seq data) = State.rd rr s := by
  unfold State.keepalive; simp (maxDischargeDepth := 60) [State.rd_mk, State.rd_fold, *]

/-! Machine/Frames.lean -/

@[simp] theorem State.badEntry_rd {s x code rr} : State.rd rr (State.badEntry s x code) = State.rd rr s := by
  unfold State.badEntry; simp (maxDischargeDepth := 60) [State.rd_mk, State.rd_fold, *]
@[simp] theorem State.answerBusy_rd {s k seq payload rr} : State.rd rr (State.answerBusy s k seq payload) = State.rd rr s := by
  unfold State.answerBusy; simp (maxDischargeDepth := 60) [State.rd_mk, State.rd_fold, *]
@[simp] theorem State.badFrame_rd {s p rr} (h9 : Reg.group rr ≠ 9) : State.rd rr (State.badFrame s p) = State.rd rr s := by
  unfold State.badFrame
  extract_lets v0
  have h_v0 : State.rd rr v0 = State.rd rr s := by subst v0; simp (maxDischargeDepth := 60) [State.rd_mk, State.rd_fold, *]
  clear_value v0
  simp (maxDischargeDepth := 60) [State.rd_mk, State.rd_fold, *]
@[simp] theorem State.holdFrame_rd {s p src bytes rr} : State.rd rr (State.holdFrame s p src bytes) = State.rd rr s := by
  unfold State.holdFrame; simp (maxDischargeDepth := 60) [State.rd_mk, State.rd_fold, *]
@[simp] theorem State.hear_rd {s k p src rr} : State.rd rr (State.hear s k p src) = State.rd rr s := by
  unfold State.hear; simp (maxDischargeDepth := 60) [State.rd_mk, State.rd_fold, *]
@[simp] theorem State.bulkFrameIn_rd {s x bs rr} : State.rd rr (State.bulkFrameIn s x bs) = State.rd rr s := by
  unfold State.bulkFrameIn; simp (maxDischargeDepth := 60) [State.rd_mk, State.rd_fold, *]
@[simp] theorem State.flushOne_rd {s p src bytes rr} : State.rd rr (State.flushOne s p src bytes) = State.rd rr s := by
  unfold State.flushOne; (repeat' split) <;> simp (maxDischargeDepth := 60) [State.rd_mk, State.rd_fold, *]
@[simp] theorem State.flushHeld_rd {s rr} : State.rd rr (State.flushHeld s) = State.rd rr s := by
  unfold State.flushHeld; simp (maxDischargeDepth := 60) [State.rd_mk, State.rd_fold, *]

/-! Machine/Boundary.lean -/

@[simp] theorem State.latchLane_rd {s n x lane rr} (h16 : Reg.group rr ≠ 16) : State.rd rr (State.latchLane s n x lane) = State.rd rr s := by
  unfold State.latchLane; simp (maxDischargeDepth := 60) [State.rd_mk, State.rd_fold, *]
@[simp] theorem State.divTake_rd {s rr} : State.rd rr (State.divTake s) = State.rd rr s := by
  unfold State.divTake; simp (maxDischargeDepth := 60) [State.rd_mk, State.rd_fold, *]
@[simp] theorem State.writesTake_rd {s rr} (h2 : Reg.group rr ≠ 2) (h10 : Reg.group rr ≠ 10) (h16 : Reg.group rr ≠ 16) : State.rd rr (State.writesTake s) = State.rd rr s := by
  unfold State.writesTake
  extract_lets v0 v1 v2 v3 v4
  clear_value v0
  have h_v1 : State.rd rr v1 = State.rd rr s := by subst v1; simp (maxDischargeDepth := 60) [State.rd_mk, State.rd_fold, *]
  clear_value v1
  have h_v2 : State.rd rr v2 = State.rd rr s := by subst v2; simp (maxDischargeDepth := 60) [State.rd_mk, State.rd_fold, *]
  clear_value v2
  have h_v3 : State.rd rr v3 = State.rd rr s := by subst v3; simp (maxDischargeDepth := 60) [State.rd_mk, State.rd_fold, *]
  clear_value v3
  have h_v4 : State.rd rr v4 = State.rd rr s := by subst v4; simp (maxDischargeDepth := 60) [State.rd_mk, State.rd_fold, *]
  clear_value v4
  simp (maxDischargeDepth := 60) [State.rd_mk, State.rd_fold, *]
@[simp] theorem State.rangeForced_rd {s n rr} : State.rd rr (State.rangeForced s n) = State.rd rr s := by
  unfold State.rangeForced; simp (maxDischargeDepth := 60) [State.rd_mk, State.rd_fold, *]
@[simp] theorem State.rangeStep_rd {s n rr} (h16 : Reg.group rr ≠ 16) : State.rd rr (State.rangeStep s n) = State.rd rr s := by
  unfold State.rangeStep
  extract_lets v0 v1
  have h_v0 : State.rd rr v0 = State.rd rr s := by subst v0; simp (maxDischargeDepth := 60) [State.rd_mk, State.rd_fold, *]
  clear_value v0
  clear_value v1
  simp (maxDischargeDepth := 60) [State.rd_mk, State.rd_fold, *]
@[simp] theorem State.histLane_rd {s n rr} : State.rd rr (State.histLane s n) = State.rd rr s := by
  unfold State.histLane; simp (maxDischargeDepth := 60) [State.rd_mk, State.rd_fold, *]
@[simp] theorem State.releaseDuty_rd {s n rr} (h16 : Reg.group rr ≠ 16) : State.rd rr (State.releaseDuty s n) = State.rd rr s := by
  unfold State.releaseDuty; (repeat' split) <;> simp (maxDischargeDepth := 60) [State.rd_mk, State.rd_fold, *]
@[simp] theorem State.countLane_rd {s n dt rr} (h16 : Reg.group rr ≠ 16) : State.rd rr (State.countLane s n dt) = State.rd rr s := by
  unfold State.countLane; simp (maxDischargeDepth := 60) [State.rd_mk, State.rd_fold, *]
@[simp] theorem State.countStep_rd {s n dt rr} : State.rd rr (State.countStep s n dt) = State.rd rr s := by
  unfold State.countStep; (repeat' split) <;> simp (maxDischargeDepth := 60) [State.rd_mk, State.rd_fold, *]
@[simp] theorem State.checkMean_rd {s n rr} : State.rd rr (State.checkMean s n) = State.rd rr s := by
  unfold State.checkMean; simp (maxDischargeDepth := 60) [State.rd_mk, State.rd_fold, *]
@[simp] theorem State.checkLane_rd {s n rr} (h2 : Reg.group rr ≠ 2) (h10 : Reg.group rr ≠ 10) (h16 : Reg.group rr ≠ 16) : State.rd rr (State.checkLane s n) = State.rd rr s := by
  unfold State.checkLane; dsimp only; (repeat' split) <;> simp +contextual (maxDischargeDepth := 60) [State.rd_mk, State.rd_fold, *]
@[simp] theorem State.metricLane_rd {s n rr} : State.rd rr (State.metricLane s n) = State.rd rr s := by
  unfold State.metricLane; simp (maxDischargeDepth := 60) [State.rd_mk, State.rd_fold, *]
@[simp] theorem State.lanePeriod_rd {s n dt rr} (h2 : Reg.group rr ≠ 2) (h10 : Reg.group rr ≠ 10) (h16 : Reg.group rr ≠ 16) : State.rd rr (State.lanePeriod s n dt) = State.rd rr s := by
  unfold State.lanePeriod
  extract_lets v0
  have h_v0 : State.rd rr v0 = State.rd rr s := by subst v0; simp (maxDischargeDepth := 60) [State.rd_mk, State.rd_fold, *]
  clear_value v0
  simp (maxDischargeDepth := 60) [State.rd_mk, State.rd_fold, *]
@[simp] theorem State.lanes_rd {s inp lane dt rr} (h2 : Reg.group rr ≠ 2) (h10 : Reg.group rr ≠ 10) (h12 : Reg.group rr ≠ 12) (h16 : Reg.group rr ≠ 16) : State.rd rr (State.lanes s inp lane dt) = State.rd rr s := by
  unfold State.lanes
  extract_lets v0 v1 v2 v3
  have h_v0 : State.rd rr v0 = State.rd rr s := by subst v0; simp (maxDischargeDepth := 60) [State.rd_mk, State.rd_fold, *]
  clear_value v0
  have h_v1 : State.rd rr v1 = State.rd rr s := by subst v1; simp (maxDischargeDepth := 60) [State.rd_mk, State.rd_fold, *]
  clear_value v1
  have h_v2 : State.rd rr v2 = State.rd rr s := by subst v2; simp (maxDischargeDepth := 60) [State.rd_mk, State.rd_fold, *]
  clear_value v2
  have h_v3 : State.rd rr v3 = State.rd rr s := by subst v3; simp (maxDischargeDepth := 60) [State.rd_mk, State.rd_fold, *]
  clear_value v3
  simp (maxDischargeDepth := 60) [State.rd_mk, State.rd_fold, *]
@[simp] theorem State.settleEnd_rd {s n rr} (h16 : Reg.group rr ≠ 16) : State.rd rr (State.settleEnd s n) = State.rd rr s := by
  unfold State.settleEnd; simp (maxDischargeDepth := 60) [State.rd_mk, State.rd_fold, *]
@[simp] theorem State.classTake_rd {s n rr} (h16 : Reg.group rr ≠ 16) : State.rd rr (State.classTake s n) = State.rd rr s := by
  unfold State.classTake; (repeat' split) <;> simp (maxDischargeDepth := 60) [State.rd_mk, State.rd_fold, *]
@[simp] theorem State.barBoundary_rd {s rr} (h12 : Reg.group rr ≠ 12) (h16 : Reg.group rr ≠ 16) : State.rd rr (State.barBoundary s) = State.rd rr s := by
  unfold State.barBoundary; dsimp only; (repeat' split) <;> simp +contextual (maxDischargeDepth := 60) [State.rd_mk, State.rd_fold, *]
@[simp] theorem State.showBoundary_rd {s rr} : State.rd rr (State.showBoundary s) = State.rd rr s := by
  unfold State.showBoundary
  extract_lets v0
  have h_v0 : State.rd rr v0 = State.rd rr s := by subst v0; simp (maxDischargeDepth := 60) [State.rd_mk, State.rd_fold, *]
  clear_value v0
  simp (maxDischargeDepth := 60) [State.rd_mk, State.rd_fold, *]
@[simp] theorem State.tick_rd {s rr} : State.rd rr (State.tick s) = State.rd rr s := by
  unfold State.tick; simp (maxDischargeDepth := 60) [State.rd_mk, State.rd_fold, *]
@[simp] theorem State.shelfBoundary_rd {s rr} (h0 : Reg.group rr ≠ 0) (h2 : Reg.group rr ≠ 2) (h4 : Reg.group rr ≠ 4) (h5 : Reg.group rr ≠ 5) (h10 : Reg.group rr ≠ 10) (h12 : Reg.group rr ≠ 12) (h16 : Reg.group rr ≠ 16) : State.rd rr (State.shelfBoundary s) = State.rd rr s := by
  unfold State.shelfBoundary; simp (maxDischargeDepth := 60) [State.rd_mk, State.rd_fold, *]
@[simp] theorem State.ledgerBoundary_rd {s rr} (h2 : Reg.group rr ≠ 2) (h6 : Reg.group rr ≠ 6) (h10 : Reg.group rr ≠ 10) : State.rd rr (State.ledgerBoundary s) = State.rd rr s := by
  unfold State.ledgerBoundary; simp (maxDischargeDepth := 60) [State.rd_mk, State.rd_fold, *]
@[simp] theorem State.lateBoundary_rd {s aux rr} (h0 : Reg.group rr ≠ 0) (h1 : Reg.group rr ≠ 1) (h2 : Reg.group rr ≠ 2) (h3 : Reg.group rr ≠ 3) (h7 : Reg.group rr ≠ 7) (h9 : Reg.group rr ≠ 9) (h10 : Reg.group rr ≠ 10) (h12 : Reg.group rr ≠ 12) (h16 : Reg.group rr ≠ 16) : State.rd rr (State.lateBoundary s aux) = State.rd rr s := by
  unfold State.lateBoundary
  extract_lets v0 v1
  have h_v0 : State.rd rr v0 = State.rd rr s := by subst v0; simp (maxDischargeDepth := 60) [State.rd_mk, State.rd_fold, *]
  clear_value v0
  have h_v1 : State.rd rr v1 = State.rd rr s := by subst v1; simp (maxDischargeDepth := 60) [State.rd_mk, State.rd_fold, *]
  clear_value v1
  simp (maxDischargeDepth := 60) [State.rd_mk, State.rd_fold, *]
@[simp] theorem State.metLane_rd {s n t o rr} (h16 : Reg.group rr ≠ 16) : State.rd rr (State.metLane s n t o) = State.rd rr s := by
  unfold State.metLane
  extract_lets v0 v1 v2 v3
  clear_value v0
  clear_value v1
  have h_v2 : State.rd rr v2 = State.rd rr s := by subst v2; simp (maxDischargeDepth := 60) [State.rd_mk, State.rd_fold, *]
  clear_value v2
  have h_v3 : State.rd rr v3 = State.rd rr s := by subst v3; simp (maxDischargeDepth := 60) [State.rd_mk, State.rd_fold, *]
  clear_value v3
  simp (maxDischargeDepth := 60) [State.rd_mk, State.rd_fold, *]
@[simp] theorem State.metGang_rd {s n t rr} (h16 : Reg.group rr ≠ 16) : State.rd rr (State.metGang s n t) = State.rd rr s := by
  unfold State.metGang; simp (maxDischargeDepth := 60) [State.rd_mk, State.rd_fold, *]
@[simp] theorem State.ringTake_rd {s t rr} : State.rd rr (State.ringTake s t) = State.rd rr s := by
  unfold State.ringTake; simp (maxDischargeDepth := 60) [State.rd_mk, State.rd_fold, *]
@[simp] theorem State.visitTake_rd {s inp lane t rr} : State.rd rr (State.visitTake s inp lane t) = State.rd rr s := by
  unfold State.visitTake; (repeat' split) <;> simp (maxDischargeDepth := 60) [State.rd_mk, State.rd_fold, *]

end Sys2Proof.Machine
end

