-- ==== Sys2Proof/Laws/Keeps.lean ====
section
/-! SUPPORT. Every operation of the machine keeps the canonical form of a state (`_wf`) and leaves the queue of waiting
commands as it is (`_pending`). -/

namespace Sys2Proof.Machine

set_option linter.unusedSimpArgs false
set_option Elab.async false

theorem State.wf_mk {regs old held64 low64 mem nv time ctr ctrPrev lockAt lockBy safeReq clrReq ch sh lane spare led fd fsel hu ax al sq boot clk mode ev link tw vault cellar tst maint status data free pending} :
    State.wf
      ⟨regs, old, held64, low64, mem, nv, time, ctr, ctrPrev, lockAt, lockBy, safeReq, clrReq, ch, sh, lane, spare,
      led, fd, fsel, hu, ax, al, sq, boot, clk, mode, ev, link, tw, vault, cellar, tst, maint, status, data,
      free, pending⟩
      = (regsWf regs && Memory.wf mem && Memory.wf nv.calSaved) := by simp only [State.wf]

theorem State.wf_fold (s : State) : (regsWf s.regs && Memory.wf s.mem && Memory.wf s.nv.calSaved) = s.wf := by simp only [State.wf]

theorem State.wf_iff (s : State) :
    s.wf = true ↔ regsWf s.regs = true ∧ Memory.wf s.mem = true ∧ Memory.wf s.nv.calSaved = true := by
  simp only [State.wf, Bool.and_eq_true, and_assoc]

@[simp] theorem State.wf_setWord {s r w} (h : State.wf s = true) : State.wf (State.setWord s r w) = true := by
  rw [State.wf_iff] at *
  exact ⟨regSet_wf h.1 r w, h.2⟩

@[simp] theorem State.wf_putBytes {s a bs} (h : State.wf s = true) : State.wf (State.putBytes s a bs) = true := by
  rw [State.wf_iff] at *
  exact ⟨h.1, memWriteBytes_wf h.2.1 a bs, h.2.2⟩

/-- The waiting commands. -/
def State.waiting (s : State) : List Instr := s.pending

theorem State.waiting_mk {regs old held64 low64 mem nv time ctr ctrPrev lockAt lockBy safeReq clrReq ch sh lane spare led fd fsel hu ax al sq boot clk mode ev link tw vault cellar tst maint status data free pending} :
    State.waiting
      ⟨regs, old, held64, low64, mem, nv, time, ctr, ctrPrev, lockAt, lockBy, safeReq, clrReq, ch, sh, lane, spare,
      led, fd, fsel, hu, ax, al, sq, boot, clk, mode, ev, link, tw, vault, cellar, tst, maint, status, data,
      free, pending⟩
      = pending := by simp only [State.waiting]

theorem State.waiting_fold (s : State) : s.pending = s.waiting := by simp only [State.waiting]

@[simp] theorem State.setWord_pending {s r w} : State.waiting (State.setWord s r w) = State.waiting s := by unfold State.setWord; simp [State.wf_mk, State.wf_fold, State.waiting_mk, State.waiting_fold]
@[simp] theorem State.putBytes_pending {s a bs} : State.waiting (State.putBytes s a bs) = State.waiting s := by unfold State.putBytes; simp [State.wf_mk, State.wf_fold, State.waiting_mk, State.waiting_fold]

@[simp] theorem State.wf_ite {c : Prop} [Decidable c] {a b : State} :
    State.wf (if c then a else b) = if c then State.wf a else State.wf b := apply_ite State.wf c a b

@[simp] theorem State.pending_ite {c : Prop} [Decidable c] {a b : State} :
    State.waiting (if c then a else b) = if c then State.waiting a else State.waiting b := apply_ite State.waiting c a b

@[simp] theorem State.wf_each {α s} {l : List α} {f} (h : State.wf s = true) (hf : ∀ x t, State.wf t = true → State.wf (f x t) = true) :
    State.wf (State.each s l f) = true := by
  unfold State.each
  induction l generalizing s with
  | nil => exact h
  | cons x l ih => exact ih (hf x s h)

@[simp] theorem State.pending_each {α s} {l : List α} {f} (hf : ∀ x t, State.waiting (f x t) = State.waiting t) :
    State.waiting (State.each s l f) = State.waiting s := by
  unfold State.each
  induction l generalizing s with
  | nil => rfl
  | cons x l ih => exact (ih (s := f x s)).trans (hf x s)

theorem foldl_wf {α} {l : List α} {f : State → α → State} (hf : ∀ t x, State.wf t = true → State.wf (f t x) = true) {s}
    (h : State.wf s = true) : State.wf (l.foldl f s) = true := by
  induction l generalizing s with
  | nil => exact h
  | cons x l ih => exact ih (hf s x h)

theorem foldl_pending {α} {l : List α} {f : State → α → State} (hf : ∀ t x, State.waiting (f t x) = State.waiting t) {s} :
    State.waiting (l.foldl f s) = State.waiting s := by
  induction l generalizing s with
  | nil => rfl
  | cons x l ih => exact (ih (s := f s x)).trans (hf s x)

/-! Machine/Ops.lean -/

@[simp] theorem State.fset_wf {s f v} (h : State.wf s = true) : State.wf (State.fset s f v) = true := by
  unfold State.fset; simp (maxDischargeDepth := 60) [State.wf_mk, State.wf_fold, State.waiting_mk, State.waiting_fold, *]
@[simp] theorem State.fset_pending {s f v} : State.waiting (State.fset s f v) = State.waiting s := by
  unfold State.fset; simp (maxDischargeDepth := 60) [State.wf_mk, State.wf_fold, State.waiting_mk, State.waiting_fold, *]
@[simp] theorem State.fsetS_wf {s f v} (h : State.wf s = true) : State.wf (State.fsetS s f v) = true := by
  unfold State.fsetS; simp (maxDischargeDepth := 60) [State.wf_mk, State.wf_fold, State.waiting_mk, State.waiting_fold, *]
@[simp] theorem State.fsetS_pending {s f v} : State.waiting (State.fsetS s f v) = State.waiting s := by
  unfold State.fsetS; simp (maxDischargeDepth := 60) [State.wf_mk, State.wf_fold, State.waiting_mk, State.waiting_fold, *]
@[simp] theorem State.setFlag_wf {s f b} (h : State.wf s = true) : State.wf (State.setFlag s f b) = true := by
  unfold State.setFlag; simp (maxDischargeDepth := 60) [State.wf_mk, State.wf_fold, State.waiting_mk, State.waiting_fold, *]
@[simp] theorem State.setFlag_pending {s f b} : State.waiting (State.setFlag s f b) = State.waiting s := by
  unfold State.setFlag; simp (maxDischargeDepth := 60) [State.wf_mk, State.wf_fold, State.waiting_mk, State.waiting_fold, *]
@[simp] theorem State.incSat_wf {s f} (h : State.wf s = true) : State.wf (State.incSat s f) = true := by
  unfold State.incSat; simp (maxDischargeDepth := 60) [State.wf_mk, State.wf_fold, State.waiting_mk, State.waiting_fold, *]
@[simp] theorem State.incSat_pending {s f} : State.waiting (State.incSat s f) = State.waiting s := by
  unfold State.incSat; simp (maxDischargeDepth := 60) [State.wf_mk, State.wf_fold, State.waiting_mk, State.waiting_fold, *]
@[simp] theorem State.incWrap_wf {s f} (h : State.wf s = true) : State.wf (State.incWrap s f) = true := by
  unfold State.incWrap; simp (maxDischargeDepth := 60) [State.wf_mk, State.wf_fold, State.waiting_mk, State.waiting_fold, *]
@[simp] theorem State.incWrap_pending {s f} : State.waiting (State.incWrap s f) = State.waiting s := by
  unfold State.incWrap; simp (maxDischargeDepth := 60) [State.wf_mk, State.wf_fold, State.waiting_mk, State.waiting_fold, *]
@[simp] theorem State.setWord64_wf {s lo hi v} (h : State.wf s = true) : State.wf (State.setWord64 s lo hi v) = true := by
  unfold State.setWord64; simp (maxDischargeDepth := 60) [State.wf_mk, State.wf_fold, State.waiting_mk, State.waiting_fold, *]
@[simp] theorem State.setWord64_pending {s lo hi v} : State.waiting (State.setWord64 s lo hi v) = State.waiting s := by
  unfold State.setWord64; simp (maxDischargeDepth := 60) [State.wf_mk, State.wf_fold, State.waiting_mk, State.waiting_fold, *]
@[simp] theorem State.putMemWord_wf {s a w} (h : State.wf s = true) : State.wf (State.putMemWord s a w) = true := by
  unfold State.putMemWord; simp (maxDischargeDepth := 60) [State.wf_mk, State.wf_fold, State.waiting_mk, State.waiting_fold, *]
@[simp] theorem State.putMemWord_pending {s a w} : State.waiting (State.putMemWord s a w) = State.waiting s := by
  unfold State.putMemWord; simp (maxDischargeDepth := 60) [State.wf_mk, State.wf_fold, State.waiting_mk, State.waiting_fold, *]
@[simp] theorem State.setCh_wf {s n c} (h : State.wf s = true) : State.wf (State.setCh s n c) = true := by
  unfold State.setCh; simp (maxDischargeDepth := 60) [State.wf_mk, State.wf_fold, State.waiting_mk, State.waiting_fold, *]
@[simp] theorem State.setCh_pending {s n c} : State.waiting (State.setCh s n c) = State.waiting s := by
  unfold State.setCh; simp (maxDischargeDepth := 60) [State.wf_mk, State.wf_fold, State.waiting_mk, State.waiting_fold, *]
@[simp] theorem State.modCh_wf {s n f} (h : State.wf s = true) : State.wf (State.modCh s n f) = true := by
  unfold State.modCh; simp (maxDischargeDepth := 60) [State.wf_mk, State.wf_fold, State.waiting_mk, State.waiting_fold, *]
@[simp] theorem State.modCh_pending {s n f} : State.waiting (State.modCh s n f) = State.waiting s := by
  unfold State.modCh; simp (maxDischargeDepth := 60) [State.wf_mk, State.wf_fold, State.waiting_mk, State.waiting_fold, *]
@[simp] theorem State.modM_wf {s n f} (h : State.wf s = true) : State.wf (State.modM s n f) = true := by
  unfold State.modM; simp (maxDischargeDepth := 60) [State.wf_mk, State.wf_fold, State.waiting_mk, State.waiting_fold, *]
@[simp] theorem State.modM_pending {s n f} : State.waiting (State.modM s n f) = State.waiting s := by
  unfold State.modM; simp (maxDischargeDepth := 60) [State.wf_mk, State.wf_fold, State.waiting_mk, State.waiting_fold, *]
@[simp] theorem State.modL_wf {s n f} (h : State.wf s = true) : State.wf (State.modL s n f) = true := by
  unfold State.modL; simp (maxDischargeDepth := 60) [State.wf_mk, State.wf_fold, State.waiting_mk, State.waiting_fold, *]
@[simp] theorem State.modL_pending {s n f} : State.waiting (State.modL s n f) = State.waiting s := by
  unfold State.modL; simp (maxDischargeDepth := 60) [State.wf_mk, State.wf_fold, State.waiting_mk, State.waiting_fold, *]
@[simp] theorem State.modX_wf {s n f} (h : State.wf s = true) : State.wf (State.modX s n f) = true := by
  unfold State.modX; simp (maxDischargeDepth := 60) [State.wf_mk, State.wf_fold, State.waiting_mk, State.waiting_fold, *]
@[simp] theorem State.modX_pending {s n f} : State.waiting (State.modX s n f) = State.waiting s := by
  unfold State.modX; simp (maxDischargeDepth := 60) [State.wf_mk, State.wf_fold, State.waiting_mk, State.waiting_fold, *]
@[simp] theorem State.modK_wf {s n f} (h : State.wf s = true) : State.wf (State.modK s n f) = true := by
  unfold State.modK; simp (maxDischargeDepth := 60) [State.wf_mk, State.wf_fold, State.waiting_mk, State.waiting_fold, *]
@[simp] theorem State.modK_pending {s n f} : State.waiting (State.modK s n f) = State.waiting s := by
  unfold State.modK; simp (maxDischargeDepth := 60) [State.wf_mk, State.wf_fold, State.waiting_mk, State.waiting_fold, *]
@[simp] theorem State.modP_wf {s n f} (h : State.wf s = true) : State.wf (State.modP s n f) = true := by
  unfold State.modP; simp (maxDischargeDepth := 60) [State.wf_mk, State.wf_fold, State.waiting_mk, State.waiting_fold, *]
@[simp] theorem State.modP_pending {s n f} : State.waiting (State.modP s n f) = State.waiting s := by
  unfold State.modP; simp (maxDischargeDepth := 60) [State.wf_mk, State.wf_fold, State.waiting_mk, State.waiting_fold, *]
@[simp] theorem State.modC_wf {s n f} (h : State.wf s = true) : State.wf (State.modC s n f) = true := by
  unfold State.modC; simp (maxDischargeDepth := 60) [State.wf_mk, State.wf_fold, State.waiting_mk, State.waiting_fold, *]
@[simp] theorem State.modC_pending {s n f} : State.waiting (State.modC s n f) = State.waiting s := by
  unfold State.modC; simp (maxDischargeDepth := 60) [State.wf_mk, State.wf_fold, State.waiting_mk, State.waiting_fold, *]
@[simp] theorem State.fresh_wf {s} (h : State.wf s = true) : State.wf (State.fresh s) = true := by
  unfold State.fresh; simp (maxDischargeDepth := 60) [State.wf_mk, State.wf_fold, State.waiting_mk, State.waiting_fold, *]
@[simp] theorem State.fresh_pending {s} : State.waiting (State.fresh s) = State.waiting s := by
  unfold State.fresh; simp (maxDischargeDepth := 60) [State.wf_mk, State.wf_fold, State.waiting_mk, State.waiting_fold, *]
@[simp] theorem State.freshN_wf {s k} (h : State.wf s = true) : State.wf (State.freshN s k) = true := by
  unfold State.freshN; simp (maxDischargeDepth := 60) [State.wf_mk, State.wf_fold, State.waiting_mk, State.waiting_fold, *]
@[simp] theorem State.freshN_pending {s k} : State.waiting (State.freshN s k) = State.waiting s := by
  unfold State.freshN; simp (maxDischargeDepth := 60) [State.wf_mk, State.wf_fold, State.waiting_mk, State.waiting_fold, *]
@[simp] theorem State.reading_wf {s f signed x k} (h : State.wf s = true) : State.wf (State.reading s f signed x k) = true := by
  unfold State.reading; simp (maxDischargeDepth := 60) [State.wf_mk, State.wf_fold, State.waiting_mk, State.waiting_fold, *]
@[simp] theorem State.reading_pending {s f signed x k} : State.waiting (State.reading s f signed x k) = State.waiting s := by
  unfold State.reading; simp (maxDischargeDepth := 60) [State.wf_mk, State.wf_fold, State.waiting_mk, State.waiting_fold, *]
@[simp] theorem State.answer_wf {s st d} (h : State.wf s = true) : State.wf (State.answer s st d) = true := by
  unfold State.answer; simp (maxDischargeDepth := 60) [State.wf_mk, State.wf_fold, State.waiting_mk, State.waiting_fold, *]
@[simp] theorem State.answer_pending {s st d} : State.waiting (State.answer s st d) = State.waiting s := by
  unfold State.answer; simp (maxDischargeDepth := 60) [State.wf_mk, State.wf_fold, State.waiting_mk, State.waiting_fold, *]

/-! Machine/Access.lean -/

@[simp] theorem State.writeReg_wf {s r val} (h : State.wf s = true) : State.wf (State.writeReg s r val) = true := by
  unfold State.writeReg; simp (maxDischargeDepth := 60) [State.wf_mk, State.wf_fold, State.waiting_mk, State.waiting_fold, *]
@[simp] theorem State.writeReg_pending {s r val} : State.waiting (State.writeReg s r val) = State.waiting s := by
  unfold State.writeReg; simp (maxDischargeDepth := 60) [State.wf_mk, State.wf_fold, State.waiting_mk, State.waiting_fold, *]

/-! Machine/Events.lean -/

@[simp] theorem State.atticPut_wf {s o} (h : State.wf s = true) : State.wf (State.atticPut s o) = true := by
  unfold State.atticPut; dsimp only; (repeat' split) <;> simp +contextual (maxDischargeDepth := 60) [State.wf_mk, State.wf_fold, State.waiting_mk, State.waiting_fold, *]
@[simp] theorem State.atticPut_pending {s o} : State.waiting (State.atticPut s o) = State.waiting s := by
  unfold State.atticPut; dsimp only; (repeat' split) <;> simp +contextual (maxDischargeDepth := 60) [State.wf_mk, State.wf_fold, State.waiting_mk, State.waiting_fold, *]
@[simp] theorem State.vaultPut_wf {s r} (h : State.wf s = true) : State.wf (State.vaultPut s r).1 = true := by
  unfold State.vaultPut; (repeat' split) <;> simp (maxDischargeDepth := 60) [State.wf_mk, State.wf_fold, State.waiting_mk, State.waiting_fold, *]
@[simp] theorem State.vaultPut_pending {s r} : State.waiting (State.vaultPut s r).1 = State.waiting s := by
  unfold State.vaultPut; (repeat' split) <;> simp (maxDischargeDepth := 60) [State.wf_mk, State.wf_fold, State.waiting_mk, State.waiting_fold, *]
@[simp] theorem State.setSessAt_wf {s k x} (h : State.wf s = true) : State.wf (State.setSessAt s k x) = true := by
  unfold State.setSessAt; (repeat' split) <;> simp (maxDischargeDepth := 60) [State.wf_mk, State.wf_fold, State.waiting_mk, State.waiting_fold, *]
@[simp] theorem State.setSessAt_pending {s k x} : State.waiting (State.setSessAt s k x) = State.waiting s := by
  unfold State.setSessAt; (repeat' split) <;> simp (maxDischargeDepth := 60) [State.wf_mk, State.wf_fold, State.waiting_mk, State.waiting_fold, *]
@[simp] theorem State.sessEvent_wf {s o k} (h : State.wf s = true) : State.wf (State.sessEvent s o k) = true := by
  unfold State.sessEvent; simp (maxDischargeDepth := 60) [State.wf_mk, State.wf_fold, State.waiting_mk, State.waiting_fold, *]
@[simp] theorem State.sessEvent_pending {s o k} : State.waiting (State.sessEvent s o k) = State.waiting s := by
  unfold State.sessEvent; simp (maxDischargeDepth := 60) [State.wf_mk, State.wf_fold, State.waiting_mk, State.waiting_fold, *]
@[simp] theorem State.notifyPut_wf {s o} (h : State.wf s = true) : State.wf (State.notifyPut s o) = true := by
  unfold State.notifyPut; simp (maxDischargeDepth := 60) [State.wf_mk, State.wf_fold, State.waiting_mk, State.waiting_fold, *]
@[simp] theorem State.notifyPut_pending {s o} : State.waiting (State.notifyPut s o) = State.waiting s := by
  unfold State.notifyPut; simp (maxDischargeDepth := 60) [State.wf_mk, State.wf_fold, State.waiting_mk, State.waiting_fold, *]
@[simp] theorem State.recordOcc_wf {s o} (h : State.wf s = true) : State.wf (State.recordOcc s o).1 = true := by
  unfold State.recordOcc; (repeat' split) <;> simp (maxDischargeDepth := 60) [State.wf_mk, State.wf_fold, State.waiting_mk, State.waiting_fold, *]
@[simp] theorem State.recordOcc_pending {s o} : State.waiting (State.recordOcc s o).1 = State.waiting s := by
  unfold State.recordOcc; (repeat' split) <;> simp (maxDischargeDepth := 60) [State.wf_mk, State.wf_fold, State.waiting_mk, State.waiting_fold, *]
@[simp] theorem State.routeOne_wf {s o} (h : State.wf s = true) : State.wf (State.routeOne s o).1 = true := by
  unfold State.routeOne; dsimp only; (repeat' split) <;> simp +contextual (maxDischargeDepth := 60) [State.wf_mk, State.wf_fold, State.waiting_mk, State.waiting_fold, *]
@[simp] theorem State.routeOne_pending {s o} : State.waiting (State.routeOne s o).1 = State.waiting s := by
  unfold State.routeOne
  extract_lets v0 v1
  clear_value v0
  have h_v1 : State.waiting v1 = State.waiting s := by subst v1; simp (maxDischargeDepth := 60) [State.wf_mk, State.wf_fold, State.waiting_mk, State.waiting_fold, *]
  clear_value v1
  ((repeat' split) <;> (try extract_lets) <;> simp (maxDischargeDepth := 60) +zetaDelta [State.wf_mk, State.wf_fold, State.waiting_mk, State.waiting_fold, *])
@[simp] theorem State.cellarTrigger_wf {s cause stamp evNum} (h : State.wf s = true) : State.wf (State.cellarTrigger s cause stamp evNum).1 = true := by
  unfold State.cellarTrigger; (repeat' split) <;> simp (maxDischargeDepth := 60) [State.wf_mk, State.wf_fold, State.waiting_mk, State.waiting_fold, *]
@[simp] theorem State.cellarTrigger_pending {s cause stamp evNum} : State.waiting (State.cellarTrigger s cause stamp evNum).1 = State.waiting s := by
  unfold State.cellarTrigger; (repeat' split) <;> simp (maxDischargeDepth := 60) [State.wf_mk, State.wf_fold, State.waiting_mk, State.waiting_fold, *]
@[simp] theorem State.route_wf {s o} (h : State.wf s = true) : State.wf (State.route s o) = true := by
  unfold State.route; simp (maxDischargeDepth := 60) [State.wf_mk, State.wf_fold, State.waiting_mk, State.waiting_fold, *]
@[simp] theorem State.route_pending {s o} : State.waiting (State.route s o) = State.waiting s := by
  unfold State.route; simp (maxDischargeDepth := 60) [State.wf_mk, State.wf_fold, State.waiting_mk, State.waiting_fold, *]
@[simp] theorem State.deepEvent_wf {s sev} (h : State.wf s = true) : State.wf (State.deepEvent s sev) = true := by
  unfold State.deepEvent; simp (maxDischargeDepth := 60) [State.wf_mk, State.wf_fold, State.waiting_mk, State.waiting_fold, *]
@[simp] theorem State.deepEvent_pending {s sev} : State.waiting (State.deepEvent s sev) = State.waiting s := by
  unfold State.deepEvent; simp (maxDischargeDepth := 60) [State.wf_mk, State.wf_fold, State.waiting_mk, State.waiting_fold, *]
@[simp] theorem State.raiseOcc_wf {s o} (h : State.wf s = true) : State.wf (State.raiseOcc s o) = true := by
  unfold State.raiseOcc; simp (maxDischargeDepth := 60) [State.wf_mk, State.wf_fold, State.waiting_mk, State.waiting_fold, *]
@[simp] theorem State.raiseOcc_pending {s o} : State.waiting (State.raiseOcc s o) = State.waiting s := by
  unfold State.raiseOcc; simp (maxDischargeDepth := 60) [State.wf_mk, State.wf_fold, State.waiting_mk, State.waiting_fold, *]
@[simp] theorem State.raise_wf {s num sev payload} (h : State.wf s = true) : State.wf (State.raise s num sev payload) = true := by
  unfold State.raise; simp (maxDischargeDepth := 60) [State.wf_mk, State.wf_fold, State.waiting_mk, State.waiting_fold, *]
@[simp] theorem State.raise_pending {s num sev payload} : State.waiting (State.raise s num sev payload) = State.waiting s := by
  unfold State.raise; simp (maxDischargeDepth := 60) [State.wf_mk, State.wf_fold, State.waiting_mk, State.waiting_fold, *]
@[simp] theorem State.raiseReq_wf {s num sev payload} (h : State.wf s = true) : State.wf (State.raiseReq s num sev payload) = true := by
  unfold State.raiseReq; simp (maxDischargeDepth := 60) [State.wf_mk, State.wf_fold, State.waiting_mk, State.waiting_fold, *]
@[simp] theorem State.raiseReq_pending {s num sev payload} : State.waiting (State.raiseReq s num sev payload) = State.waiting s := by
  unfold State.raiseReq; simp (maxDischargeDepth := 60) [State.wf_mk, State.wf_fold, State.waiting_mk, State.waiting_fold, *]
@[simp] theorem State.record_wf {s typ num sev stamp payload} (h : State.wf s = true) : State.wf (State.record s typ num sev stamp payload) = true := by
  unfold State.record; simp (maxDischargeDepth := 60) [State.wf_mk, State.wf_fold, State.waiting_mk, State.waiting_fold, *]
@[simp] theorem State.record_pending {s typ num sev stamp payload} : State.waiting (State.record s typ num sev stamp payload) = State.waiting s := by
  unfold State.record; simp (maxDischargeDepth := 60) [State.wf_mk, State.wf_fold, State.waiting_mk, State.waiting_fold, *]
@[simp] theorem State.trigger_wf {s cause} (h : State.wf s = true) : State.wf (State.trigger s cause) = true := by
  unfold State.trigger; simp (maxDischargeDepth := 60) [State.wf_mk, State.wf_fold, State.waiting_mk, State.waiting_fold, *]
@[simp] theorem State.trigger_pending {s cause} : State.waiting (State.trigger s cause) = State.waiting s := by
  unfold State.trigger; simp (maxDischargeDepth := 60) [State.wf_mk, State.wf_fold, State.waiting_mk, State.waiting_fold, *]

/-! Machine/Measure.lean -/

@[simp] theorem State.putEntry_wf {s a e} (h : State.wf s = true) : State.wf (State.putEntry s a e) = true := by
  unfold State.putEntry; simp (maxDischargeDepth := 60) [State.wf_mk, State.wf_fold, State.waiting_mk, State.waiting_fold, *]
@[simp] theorem State.putEntry_pending {s a e} : State.waiting (State.putEntry s a e) = State.waiting s := by
  unfold State.putEntry; simp (maxDischargeDepth := 60) [State.wf_mk, State.wf_fold, State.waiting_mk, State.waiting_fold, *]
@[simp] theorem State.rangeDecide_wf {s n i ovr} (h : State.wf s = true) : State.wf (State.rangeDecide s n i ovr) = true := by
  unfold State.rangeDecide; dsimp only; (repeat' split) <;> simp +contextual (maxDischargeDepth := 60) [State.wf_mk, State.wf_fold, State.waiting_mk, State.waiting_fold, *]
@[simp] theorem State.rangeDecide_pending {s n i ovr} : State.waiting (State.rangeDecide s n i ovr) = State.waiting s := by
  unfold State.rangeDecide; dsimp only; (repeat' split) <;> simp +contextual (maxDischargeDepth := 60) [State.wf_mk, State.wf_fold, State.waiting_mk, State.waiting_fold, *]
@[simp] theorem State.rangeApply_wf {s n} (h : State.wf s = true) : State.wf (State.rangeApply s n) = true := by
  unfold State.rangeApply; (repeat' split) <;> simp (maxDischargeDepth := 60) [State.wf_mk, State.wf_fold, State.waiting_mk, State.waiting_fold, *]
@[simp] theorem State.rangeApply_pending {s n} : State.waiting (State.rangeApply s n) = State.waiting s := by
  unfold State.rangeApply; (repeat' split) <;> simp (maxDischargeDepth := 60) [State.wf_mk, State.wf_fold, State.waiting_mk, State.waiting_fold, *]
@[simp] theorem State.overload_wf {s n volt cur} (h : State.wf s = true) : State.wf (State.overload s n volt cur) = true := by
  unfold State.overload
  extract_lets v0
  have h_v0 : State.wf v0 = true := by subst v0; simp (maxDischargeDepth := 60) [State.wf_mk, State.wf_fold, State.waiting_mk, State.waiting_fold, *]
  clear_value v0
  simp (maxDischargeDepth := 60) [State.wf_mk, State.wf_fold, State.waiting_mk, State.waiting_fold, *]
@[simp] theorem State.overload_pending {s n volt cur} : State.waiting (State.overload s n volt cur) = State.waiting s := by
  unfold State.overload
  extract_lets v0
  have h_v0 : State.waiting v0 = State.waiting s := by subst v0; simp (maxDischargeDepth := 60) [State.wf_mk, State.wf_fold, State.waiting_mk, State.waiting_fold, *]
  clear_value v0
  simp (maxDischargeDepth := 60) [State.wf_mk, State.wf_fold, State.waiting_mk, State.waiting_fold, *]
@[simp] theorem State.overloadRange_wf {s n} (h : State.wf s = true) : State.wf (State.overloadRange s n) = true := by
  unfold State.overloadRange; (repeat' split) <;> simp (maxDischargeDepth := 60) [State.wf_mk, State.wf_fold, State.waiting_mk, State.waiting_fold, *]
@[simp] theorem State.overloadRange_pending {s n} : State.waiting (State.overloadRange s n) = State.waiting s := by
  unfold State.overloadRange; (repeat' split) <;> simp (maxDischargeDepth := 60) [State.wf_mk, State.wf_fold, State.waiting_mk, State.waiting_fold, *]
@[simp] theorem State.chanOverload_wf {s n volt cur} (h : State.wf s = true) : State.wf (State.chanOverload s n volt cur) = true := by
  unfold State.chanOverload
  extract_lets v0
  have h_v0 : State.wf v0 = true := by subst v0; simp (maxDischargeDepth := 60) [State.wf_mk, State.wf_fold, State.waiting_mk, State.waiting_fold, *]
  clear_value v0
  simp (maxDischargeDepth := 60) [State.wf_mk, State.wf_fold, State.waiting_mk, State.waiting_fold, *]
@[simp] theorem State.chanOverload_pending {s n volt cur} : State.waiting (State.chanOverload s n volt cur) = State.waiting s := by
  unfold State.chanOverload
  extract_lets v0
  have h_v0 : State.waiting v0 = State.waiting s := by subst v0; simp (maxDischargeDepth := 60) [State.wf_mk, State.wf_fold, State.waiting_mk, State.waiting_fold, *]
  clear_value v0
  simp (maxDischargeDepth := 60) [State.wf_mk, State.wf_fold, State.waiting_mk, State.waiting_fold, *]
@[simp] theorem State.laneOverload_wf {s volt cur} (h : State.wf s = true) : State.wf (State.laneOverload s volt cur) = true := by
  unfold State.laneOverload; simp (maxDischargeDepth := 60) [State.wf_mk, State.wf_fold, State.waiting_mk, State.waiting_fold, *]
@[simp] theorem State.laneOverload_pending {s volt cur} : State.waiting (State.laneOverload s volt cur) = State.waiting s := by
  unfold State.laneOverload; simp (maxDischargeDepth := 60) [State.wf_mk, State.wf_fold, State.waiting_mk, State.waiting_fold, *]
@[simp] theorem State.calActivate_wf {s} (h : State.wf s = true) : State.wf (State.calActivate s) = true := by
  rw [State.wf_iff] at *
  exact ⟨h.1, memReplace_wf h.2.1 (memMove_wf h.2.1 _ _ _) (memMove_in _ _ _ _), h.2.2⟩
@[simp] theorem State.calActivate_pending {s} : State.waiting (State.calActivate s) = State.waiting s := by
  unfold State.calActivate; simp (maxDischargeDepth := 60) [State.wf_mk, State.wf_fold, State.waiting_mk, State.waiting_fold, *]
@[simp] theorem State.calMirror_wf {s} (h : State.wf s = true) : State.wf (State.calMirror s) = true := by
  rw [State.wf_iff] at *
  exact ⟨h.1, memReplace_wf h.2.1 (memMove_wf h.2.1 _ _ _) (memMove_in _ _ _ _), h.2.2⟩
@[simp] theorem State.calMirror_pending {s} : State.waiting (State.calMirror s) = State.waiting s := by
  unfold State.calMirror; simp (maxDischargeDepth := 60) [State.wf_mk, State.wf_fold, State.waiting_mk, State.waiting_fold, *]
@[simp] theorem State.calCopy_wf {s} (h : State.wf s = true) : State.wf (State.calCopy s) = true := by
  unfold State.calCopy; simp (maxDischargeDepth := 60) [State.wf_mk, State.wf_fold, State.waiting_mk, State.waiting_fold, *]
@[simp] theorem State.calCopy_pending {s} : State.waiting (State.calCopy s) = State.waiting s := by
  unfold State.calCopy; simp (maxDischargeDepth := 60) [State.wf_mk, State.wf_fold, State.waiting_mk, State.waiting_fold, *]
@[simp] theorem State.calSwap_wf {s} (h : State.wf s = true) : State.wf (State.calSwap s) = true := by
  unfold State.calSwap; simp (maxDischargeDepth := 60) [State.wf_mk, State.wf_fold, State.waiting_mk, State.waiting_fold, *]
@[simp] theorem State.calSwap_pending {s} : State.waiting (State.calSwap s) = State.waiting s := by
  unfold State.calSwap; simp (maxDischargeDepth := 60) [State.wf_mk, State.wf_fold, State.waiting_mk, State.waiting_fold, *]
@[simp] theorem State.calBoundary_wf {s} (h : State.wf s = true) : State.wf (State.calBoundary s) = true := by
  unfold State.calBoundary; simp +contextual (maxDischargeDepth := 60) [State.wf_mk, State.wf_fold, State.waiting_mk, State.waiting_fold, *]
@[simp] theorem State.calBoundary_pending {s} : State.waiting (State.calBoundary s) = State.waiting s := by
  unfold State.calBoundary; simp (maxDischargeDepth := 60) [State.wf_mk, State.wf_fold, State.waiting_mk, State.waiting_fold, *]
@[simp] theorem State.shadowWrite_wf {s addr val} (h : State.wf s = true) : State.wf (State.shadowWrite s addr val) = true := by
  unfold State.shadowWrite
  split
  · simp (maxDischargeDepth := 60) [State.wf_mk, State.wf_fold, State.waiting_mk, State.waiting_fold, *]
  · split
    simp (maxDischargeDepth := 60) [State.wf_mk, State.wf_fold, State.waiting_mk, State.waiting_fold, *]
@[simp] theorem State.shadowWrite_pending {s addr val} : State.waiting (State.shadowWrite s addr val) = State.waiting s := by
  unfold State.shadowWrite
  split
  · simp (maxDischargeDepth := 60) [State.wf_mk, State.wf_fold, State.waiting_mk, State.waiting_fold, *]
  · split
    simp (maxDischargeDepth := 60) [State.wf_mk, State.wf_fold, State.waiting_mk, State.waiting_fold, *]

/-! Machine/Channel.lean -/

@[simp] theorem State.queueItem_wf {s n it} (h : State.wf s = true) : State.wf (State.queueItem s n it) = true := by
  unfold State.queueItem; simp (maxDischargeDepth := 60) [State.wf_mk, State.wf_fold, State.waiting_mk, State.waiting_fold, *]
@[simp] theorem State.queueItem_pending {s n it} : State.waiting (State.queueItem s n it) = State.waiting s := by
  unfold State.queueItem; simp (maxDischargeDepth := 60) [State.wf_mk, State.wf_fold, State.waiting_mk, State.waiting_fold, *]
@[simp] theorem State.shelfItem_wf {s it} (h : State.wf s = true) : State.wf (State.shelfItem s it) = true := by
  unfold State.shelfItem; simp (maxDischargeDepth := 60) [State.wf_mk, State.wf_fold, State.waiting_mk, State.waiting_fold, *]
@[simp] theorem State.shelfItem_pending {s it} : State.waiting (State.shelfItem s it) = State.waiting s := by
  unfold State.shelfItem; simp (maxDischargeDepth := 60) [State.wf_mk, State.wf_fold, State.waiting_mk, State.waiting_fold, *]
@[simp] theorem State.metricEntry_wf {s n kind seq stamp a b c d e} (h : State.wf s = true) : State.wf (State.metricEntry s n kind seq stamp a b c d e) = true := by
  unfold State.metricEntry; simp (maxDischargeDepth := 60) [State.wf_mk, State.wf_fold, State.waiting_mk, State.waiting_fold, *]
@[simp] theorem State.metricEntry_pending {s n kind seq stamp a b c d e} : State.waiting (State.metricEntry s n kind seq stamp a b c d e) = State.waiting s := by
  unfold State.metricEntry; simp (maxDischargeDepth := 60) [State.wf_mk, State.wf_fold, State.waiting_mk, State.waiting_fold, *]
@[simp] theorem State.ocvPost_wf {s n} (h : State.wf s = true) : State.wf (State.ocvPost s n) = true := by
  unfold State.ocvPost
  extract_lets v0 v1 v2
  clear_value v0
  clear_value v1
  have h_v2 : State.wf v2 = true := by subst v2; simp (maxDischargeDepth := 60) [State.wf_mk, State.wf_fold, State.waiting_mk, State.waiting_fold, *]
  clear_value v2
  simp (maxDischargeDepth := 60) [State.wf_mk, State.wf_fold, State.waiting_mk, State.waiting_fold, *]
@[simp] theorem State.ocvPost_pending {s n} : State.waiting (State.ocvPost s n) = State.waiting s := by
  unfold State.ocvPost
  extract_lets v0 v1 v2
  clear_value v0
  clear_value v1
  have h_v2 : State.waiting v2 = State.waiting s := by subst v2; simp (maxDischargeDepth := 60) [State.wf_mk, State.wf_fold, State.waiting_mk, State.waiting_fold, *]
  clear_value v2
  simp (maxDischargeDepth := 60) [State.wf_mk, State.wf_fold, State.waiting_mk, State.waiting_fold, *]
@[simp] theorem State.setTrec_wf {s n bs} (h : State.wf s = true) : State.wf (State.setTrec s n bs) = true := by
  unfold State.setTrec; simp +contextual (maxDischargeDepth := 60) [State.wf_mk, State.wf_fold, State.waiting_mk, State.waiting_fold, *]
@[simp] theorem State.setTrec_pending {s n bs} : State.waiting (State.setTrec s n bs) = State.waiting s := by
  unfold State.setTrec; simp (maxDischargeDepth := 60) [State.wf_mk, State.wf_fold, State.waiting_mk, State.waiting_fold, *]
@[simp] theorem State.putRecord_wf {s n body term close} (h : State.wf s = true) : State.wf (State.putRecord s n body term close) = true := by
  unfold State.putRecord
  extract_lets v0 v1 v2 v3
  clear_value v0
  clear_value v1
  have h_v2 : State.wf v2 = true := by subst v2; simp (maxDischargeDepth := 60) [State.wf_mk, State.wf_fold, State.waiting_mk, State.waiting_fold, *]
  clear_value v2
  have h_v3 : State.wf v3 = true := by subst v3; simp (maxDischargeDepth := 60) [State.wf_mk, State.wf_fold, State.waiting_mk, State.waiting_fold, *]
  clear_value v3
  simp (maxDischargeDepth := 60) [State.wf_mk, State.wf_fold, State.waiting_mk, State.waiting_fold, *]
@[simp] theorem State.putRecord_pending {s n body term close} : State.waiting (State.putRecord s n body term close) = State.waiting s := by
  unfold State.putRecord
  extract_lets v0 v1 v2 v3
  clear_value v0
  clear_value v1
  have h_v2 : State.waiting v2 = State.waiting s := by subst v2; simp (maxDischargeDepth := 60) [State.wf_mk, State.wf_fold, State.waiting_mk, State.waiting_fold, *]
  clear_value v2
  have h_v3 : State.waiting v3 = State.waiting s := by subst v3; simp (maxDischargeDepth := 60) [State.wf_mk, State.wf_fold, State.waiting_mk, State.waiting_fold, *]
  clear_value v3
  simp (maxDischargeDepth := 60) [State.wf_mk, State.wf_fold, State.waiting_mk, State.waiting_fold, *]
@[simp] theorem State.eisAbandon_wf {s n} (h : State.wf s = true) : State.wf (State.eisAbandon s n) = true := by
  unfold State.eisAbandon; (repeat' split) <;> simp (maxDischargeDepth := 60) [State.wf_mk, State.wf_fold, State.waiting_mk, State.waiting_fold, *]
@[simp] theorem State.eisAbandon_pending {s n} : State.waiting (State.eisAbandon s n) = State.waiting s := by
  unfold State.eisAbandon; (repeat' split) <;> simp (maxDischargeDepth := 60) [State.wf_mk, State.wf_fold, State.waiting_mk, State.waiting_fold, *]
@[simp] theorem State.closeStep_wf {s n term src sat tm close} (h : State.wf s = true) : State.wf (State.closeStep s n term src sat tm close) = true := by
  unfold State.closeStep
  split
  · exact h
  · extract_lets now s0 s1 s2 s3 s4 s5 s6 s7
    clear_value now
    have h0 : State.wf s0 = true := by subst s0; first | (simp (maxDischargeDepth := 60) [State.wf_mk, State.wf_fold, State.waiting_mk, State.waiting_fold, *]; done) | (simp +contextual (maxDischargeDepth := 60) [State.wf_mk, State.wf_fold, State.waiting_mk, State.waiting_fold, *]; done) | ((repeat' split) <;> simp (maxDischargeDepth := 60) [State.wf_mk, State.wf_fold, State.waiting_mk, State.waiting_fold, *])
    clear_value s0
    have h1 : State.wf s1 = true := by subst s1; first | (simp (maxDischargeDepth := 60) [State.wf_mk, State.wf_fold, State.waiting_mk, State.waiting_fold, *]; done) | (simp +contextual (maxDischargeDepth := 60) [State.wf_mk, State.wf_fold, State.waiting_mk, State.waiting_fold, *]; done) | ((repeat' split) <;> simp (maxDischargeDepth := 60) [State.wf_mk, State.wf_fold, State.waiting_mk, State.waiting_fold, *])
    clear_value s1
    have h2 : State.wf s2 = true := by subst s2; first | (simp (maxDischargeDepth := 60) [State.wf_mk, State.wf_fold, State.waiting_mk, State.waiting_fold, *]; done) | (simp +contextual (maxDischargeDepth := 60) [State.wf_mk, State.wf_fold, State.waiting_mk, State.waiting_fold, *]; done) | ((repeat' split) <;> simp (maxDischargeDepth := 60) [State.wf_mk, State.wf_fold, State.waiting_mk, State.waiting_fold, *])
    clear_value s2
    have h3 : State.wf s3 = true := by subst s3; first | (simp (maxDischargeDepth := 60) [State.wf_mk, State.wf_fold, State.waiting_mk, State.waiting_fold, *]; done) | (simp +contextual (maxDischargeDepth := 60) [State.wf_mk, State.wf_fold, State.waiting_mk, State.waiting_fold, *]; done) | ((repeat' split) <;> simp (maxDischargeDepth := 60) [State.wf_mk, State.wf_fold, State.waiting_mk, State.waiting_fold, *])
    clear_value s3
    have h4 : State.wf s4 = true := by subst s4; first | (simp (maxDischargeDepth := 60) [State.wf_mk, State.wf_fold, State.waiting_mk, State.waiting_fold, *]; done) | (simp +contextual (maxDischargeDepth := 60) [State.wf_mk, State.wf_fold, State.waiting_mk, State.waiting_fold, *]; done) | ((repeat' split) <;> simp (maxDischargeDepth := 60) [State.wf_mk, State.wf_fold, State.waiting_mk, State.waiting_fold, *])
    clear_value s4
    have h5 : State.wf s5 = true := by subst s5; first | (simp (maxDischargeDepth := 60) [State.wf_mk, State.wf_fold, State.waiting_mk, State.waiting_fold, *]; done) | (simp +contextual (maxDischargeDepth := 60) [State.wf_mk, State.wf_fold, State.waiting_mk, State.waiting_fold, *]; done) | ((repeat' split) <;> simp (maxDischargeDepth := 60) [State.wf_mk, State.wf_fold, State.waiting_mk, State.waiting_fold, *])
    clear_value s5
    have h6 : State.wf s6 = true := by subst s6; first | (simp (maxDischargeDepth := 60) [State.wf_mk, State.wf_fold, State.waiting_mk, State.waiting_fold, *]; done) | (simp +contextual (maxDischargeDepth := 60) [State.wf_mk, State.wf_fold, State.waiting_mk, State.waiting_fold, *]; done) | ((repeat' split) <;> simp (maxDischargeDepth := 60) [State.wf_mk, State.wf_fold, State.waiting_mk, State.waiting_fold, *])
    clear_value s6
    have h7 : State.wf s7 = true := by subst s7; first | (simp (maxDischargeDepth := 60) [State.wf_mk, State.wf_fold, State.waiting_mk, State.waiting_fold, *]; done) | (simp +contextual (maxDischargeDepth := 60) [State.wf_mk, State.wf_fold, State.waiting_mk, State.waiting_fold, *]; done) | ((repeat' split) <;> simp (maxDischargeDepth := 60) [State.wf_mk, State.wf_fold, State.waiting_mk, State.waiting_fold, *])
    clear_value s7
    simp (maxDischargeDepth := 60) [State.wf_mk, State.wf_fold, State.waiting_mk, State.waiting_fold, *]
@[simp] theorem State.closeStep_pending {s n term src sat tm close} : State.waiting (State.closeStep s n term src sat tm close) = State.waiting s := by
  unfold State.closeStep
  split
  · exact Eq.refl _
  · extract_lets now s0 s1 s2 s3 s4 s5 s6 s7
    clear_value now
    have h0 : State.waiting s0 = State.waiting s := by subst s0; first | (simp (maxDischargeDepth := 60) [State.wf_mk, State.wf_fold, State.waiting_mk, State.waiting_fold, *]; done) | (simp +contextual (maxDischargeDepth := 60) [State.wf_mk, State.wf_fold, State.waiting_mk, State.waiting_fold, *]; done) | ((repeat' split) <;> simp (maxDischargeDepth := 60) [State.wf_mk, State.wf_fold, State.waiting_mk, State.waiting_fold, *])
    clear_value s0
    have h1 : State.waiting s1 = State.waiting s := by subst s1; first | (simp (maxDischargeDepth := 60) [State.wf_mk, State.wf_fold, State.waiting_mk, State.waiting_fold, *]; done) | (simp +contextual (maxDischargeDepth := 60) [State.wf_mk, State.wf_fold, State.waiting_mk, State.waiting_fold, *]; done) | ((repeat' split) <;> simp (maxDischargeDepth := 60) [State.wf_mk, State.wf_fold, State.waiting_mk, State.waiting_fold, *])
    clear_value s1
    have h2 : State.waiting s2 = State.waiting s := by subst s2; first | (simp (maxDischargeDepth := 60) [State.wf_mk, State.wf_fold, State.waiting_mk, State.waiting_fold, *]; done) | (simp +contextual (maxDischargeDepth := 60) [State.wf_mk, State.wf_fold, State.waiting_mk, State.waiting_fold, *]; done) | ((repeat' split) <;> simp (maxDischargeDepth := 60) [State.wf_mk, State.wf_fold, State.waiting_mk, State.waiting_fold, *])
    clear_value s2
    have h3 : State.waiting s3 = State.waiting s := by subst s3; first | (simp (maxDischargeDepth := 60) [State.wf_mk, State.wf_fold, State.waiting_mk, State.waiting_fold, *]; done) | (simp +contextual (maxDischargeDepth := 60) [State.wf_mk, State.wf_fold, State.waiting_mk, State.waiting_fold, *]; done) | ((repeat' split) <;> simp (maxDischargeDepth := 60) [State.wf_mk, State.wf_fold, State.waiting_mk, State.waiting_fold, *])
    clear_value s3
    have h4 : State.waiting s4 = State.waiting s := by subst s4; first | (simp (maxDischargeDepth := 60) [State.wf_mk, State.wf_fold, State.waiting_mk, State.waiting_fold, *]; done) | (simp +contextual (maxDischargeDepth := 60) [State.wf_mk, State.wf_fold, State.waiting_mk, State.waiting_fold, *]; done) | ((repeat' split) <;> simp (maxDischargeDepth := 60) [State.wf_mk, State.wf_fold, State.waiting_mk, State.waiting_fold, *])
    clear_value s4
    have h5 : State.waiting s5 = State.waiting s := by subst s5; first | (simp (maxDischargeDepth := 60) [State.wf_mk, State.wf_fold, State.waiting_mk, State.waiting_fold, *]; done) | (simp +contextual (maxDischargeDepth := 60) [State.wf_mk, State.wf_fold, State.waiting_mk, State.waiting_fold, *]; done) | ((repeat' split) <;> simp (maxDischargeDepth := 60) [State.wf_mk, State.wf_fold, State.waiting_mk, State.waiting_fold, *])
    clear_value s5
    have h6 : State.waiting s6 = State.waiting s := by subst s6; first | (simp (maxDischargeDepth := 60) [State.wf_mk, State.wf_fold, State.waiting_mk, State.waiting_fold, *]; done) | (simp +contextual (maxDischargeDepth := 60) [State.wf_mk, State.wf_fold, State.waiting_mk, State.waiting_fold, *]; done) | ((repeat' split) <;> simp (maxDischargeDepth := 60) [State.wf_mk, State.wf_fold, State.waiting_mk, State.waiting_fold, *])
    clear_value s6
    have h7 : State.waiting s7 = State.waiting s := by subst s7; first | (simp (maxDischargeDepth := 60) [State.wf_mk, State.wf_fold, State.waiting_mk, State.waiting_fold, *]; done) | (simp +contextual (maxDischargeDepth := 60) [State.wf_mk, State.wf_fold, State.waiting_mk, State.waiting_fold, *]; done) | ((repeat' split) <;> simp (maxDischargeDepth := 60) [State.wf_mk, State.wf_fold, State.waiting_mk, State.waiting_fold, *])
    clear_value s7
    simp (maxDischargeDepth := 60) [State.wf_mk, State.wf_fold, State.waiting_mk, State.waiting_fold, *]
@[simp] theorem State.latchBeside_wf {s n bit} (h : State.wf s = true) : State.wf (State.latchBeside s n bit) = true := by
  unfold State.latchBeside
  extract_lets v0
  have h_v0 : State.wf v0 = true := by subst v0; simp (maxDischargeDepth := 60) [State.wf_mk, State.wf_fold, State.waiting_mk, State.waiting_fold, *]
  clear_value v0
  simp (maxDischargeDepth := 60) [State.wf_mk, State.wf_fold, State.waiting_mk, State.waiting_fold, *]
@[simp] theorem State.latchBeside_pending {s n bit} : State.waiting (State.latchBeside s n bit) = State.waiting s := by
  unfold State.latchBeside
  extract_lets v0
  have h_v0 : State.waiting v0 = State.waiting s := by subst v0; simp (maxDischargeDepth := 60) [State.wf_mk, State.wf_fold, State.waiting_mk, State.waiting_fold, *]
  clear_value v0
  simp (maxDischargeDepth := 60) [State.wf_mk, State.wf_fold, State.waiting_mk, State.waiting_fold, *]
@[simp] theorem State.latch_wf {s n bit t} (h : State.wf s = true) : State.wf (State.latch s n bit t) = true := by
  unfold State.latch; simp (maxDischargeDepth := 60) [State.wf_mk, State.wf_fold, State.waiting_mk, State.waiting_fold, *]
@[simp] theorem State.latch_pending {s n bit t} : State.waiting (State.latch s n bit t) = State.waiting s := by
  unfold State.latch; simp (maxDischargeDepth := 60) [State.wf_mk, State.wf_fold, State.waiting_mk, State.waiting_fold, *]
@[simp] theorem State.settleMemb_wf {s l} (h : State.wf s = true) : State.wf (State.settleMemb s l) = true := by
  unfold State.settleMemb; simp (maxDischargeDepth := 60) [State.wf_mk, State.wf_fold, State.waiting_mk, State.waiting_fold, *]
@[simp] theorem State.settleMemb_pending {s l} : State.waiting (State.settleMemb s l) = State.waiting s := by
  unfold State.settleMemb; simp (maxDischargeDepth := 60) [State.wf_mk, State.wf_fold, State.waiting_mk, State.waiting_fold, *]
@[simp] theorem State.quiet_wf {s n} (h : State.wf s = true) : State.wf (State.quiet s n) = true := by
  unfold State.quiet
  extract_lets v0 v1 v2 v3
  have h_v0 : State.wf v0 = true := by subst v0; simp (maxDischargeDepth := 60) [State.wf_mk, State.wf_fold, State.waiting_mk, State.waiting_fold, *]
  clear_value v0
  have h_v1 : State.wf v1 = true := by subst v1; simp (maxDischargeDepth := 60) [State.wf_mk, State.wf_fold, State.waiting_mk, State.waiting_fold, *]
  clear_value v1
  have h_v2 : State.wf v2 = true := by subst v2; simp (maxDischargeDepth := 60) [State.wf_mk, State.wf_fold, State.waiting_mk, State.waiting_fold, *]
  clear_value v2
  have h_v3 : State.wf v3 = true := by subst v3; simp (maxDischargeDepth := 60) [State.wf_mk, State.wf_fold, State.waiting_mk, State.waiting_fold, *]
  clear_value v3
  simp (maxDischargeDepth := 60) [State.wf_mk, State.wf_fold, State.waiting_mk, State.waiting_fold, *]
@[simp] theorem State.quiet_pending {s n} : State.waiting (State.quiet s n) = State.waiting s := by
  unfold State.quiet
  extract_lets v0 v1 v2 v3
  have h_v0 : State.waiting v0 = State.waiting s := by subst v0; simp (maxDischargeDepth := 60) [State.wf_mk, State.wf_fold, State.waiting_mk, State.waiting_fold, *]
  clear_value v0
  have h_v1 : State.waiting v1 = State.waiting s := by subst v1; simp (maxDischargeDepth := 60) [State.wf_mk, State.wf_fold, State.waiting_mk, State.waiting_fold, *]
  clear_value v1
  have h_v2 : State.waiting v2 = State.waiting s := by subst v2; simp (maxDischargeDepth := 60) [State.wf_mk, State.wf_fold, State.waiting_mk, State.waiting_fold, *]
  clear_value v2
  have h_v3 : State.waiting v3 = State.waiting s := by subst v3; simp (maxDischargeDepth := 60) [State.wf_mk, State.wf_fold, State.waiting_mk, State.waiting_fold, *]
  clear_value v3
  simp (maxDischargeDepth := 60) [State.wf_mk, State.wf_fold, State.waiting_mk, State.waiting_fold, *]
@[simp] theorem State.closeNow_wf {s n term src close} (h : State.wf s = true) : State.wf (State.closeNow s n term src close) = true := by
  unfold State.closeNow
  exact State.closeStep_wf h
@[simp] theorem State.closeNow_pending {s n term src close} : State.waiting (State.closeNow s n term src close) = State.waiting s := by
  unfold State.closeNow
  exact State.closeStep_pending
@[simp] theorem State.park_wf {s n src close} (h : State.wf s = true) : State.wf (State.park s n src close) = true := by
  unfold State.park; simp (maxDischargeDepth := 60) [State.wf_mk, State.wf_fold, State.waiting_mk, State.waiting_fold, *]
@[simp] theorem State.park_pending {s n src close} : State.waiting (State.park s n src close) = State.waiting s := by
  unfold State.park; simp (maxDischargeDepth := 60) [State.wf_mk, State.wf_fold, State.waiting_mk, State.waiting_fold, *]
@[simp] theorem State.parkMember_wf {s n} (h : State.wf s = true) : State.wf (State.parkMember s n) = true := by
  unfold State.parkMember; simp (maxDischargeDepth := 60) [State.wf_mk, State.wf_fold, State.waiting_mk, State.waiting_fold, *]
@[simp] theorem State.parkMember_pending {s n} : State.waiting (State.parkMember s n) = State.waiting s := by
  unfold State.parkMember; simp (maxDischargeDepth := 60) [State.wf_mk, State.wf_fold, State.waiting_mk, State.waiting_fold, *]
@[simp] theorem State.parkGang_wf {s n src close} (h : State.wf s = true) : State.wf (State.parkGang s n src close) = true := by
  unfold State.parkGang; simp +contextual (maxDischargeDepth := 60) [State.wf_mk, State.wf_fold, State.waiting_mk, State.waiting_fold, *]
@[simp] theorem State.parkGang_pending {s n src close} : State.waiting (State.parkGang s n src close) = State.waiting s := by
  unfold State.parkGang; simp (maxDischargeDepth := 60) [State.wf_mk, State.wf_fold, State.waiting_mk, State.waiting_fold, *]
@[simp] theorem State.latchTrip_wf {s n bits chk t} (h : State.wf s = true) : State.wf (State.latchTrip s n bits chk t) = true := by
  unfold State.latchTrip; simp +contextual (maxDischargeDepth := 60) [State.wf_mk, State.wf_fold, State.waiting_mk, State.waiting_fold, *]
@[simp] theorem State.latchTrip_pending {s n bits chk t} : State.waiting (State.latchTrip s n bits chk t) = State.waiting s := by
  unfold State.latchTrip
  extract_lets v0 v1
  have h_v0 : State.waiting v0 = State.waiting s := by subst v0; simp (maxDischargeDepth := 60) [State.wf_mk, State.wf_fold, State.waiting_mk, State.waiting_fold, *]
  clear_value v0
  have h_v1 : State.waiting v1 = State.waiting s := by subst v1; simp (maxDischargeDepth := 60) [State.wf_mk, State.wf_fold, State.waiting_mk, State.waiting_fold, *]
  clear_value v1
  simp (maxDischargeDepth := 60) [State.wf_mk, State.wf_fold, State.waiting_mk, State.waiting_fold, *]
@[simp] theorem State.parkTripped_wf {s n} (h : State.wf s = true) : State.wf (State.parkTripped s n) = true := by
  unfold State.parkTripped; simp (maxDischargeDepth := 60) [State.wf_mk, State.wf_fold, State.waiting_mk, State.waiting_fold, *]
@[simp] theorem State.parkTripped_pending {s n} : State.waiting (State.parkTripped s n) = State.waiting s := by
  unfold State.parkTripped; simp (maxDischargeDepth := 60) [State.wf_mk, State.wf_fold, State.waiting_mk, State.waiting_fold, *]
@[simp] theorem State.trip_wf {s n bits t rest sev} (h : State.wf s = true) : State.wf (State.trip s n bits t rest sev) = true := by
  unfold State.trip
  extract_lets v0
  have h_v0 : State.wf v0 = true := by subst v0; simp (maxDischargeDepth := 60) [State.wf_mk, State.wf_fold, State.waiting_mk, State.waiting_fold, *]
  clear_value v0
  simp (maxDischargeDepth := 60) [State.wf_mk, State.wf_fold, State.waiting_mk, State.waiting_fold, *]
@[simp] theorem State.trip_pending {s n bits t rest sev} : State.waiting (State.trip s n bits t rest sev) = State.waiting s := by
  unfold State.trip
  extract_lets v0
  have h_v0 : State.waiting v0 = State.waiting s := by subst v0; simp (maxDischargeDepth := 60) [State.wf_mk, State.wf_fold, State.waiting_mk, State.waiting_fold, *]
  clear_value v0
  simp (maxDischargeDepth := 60) [State.wf_mk, State.wf_fold, State.waiting_mk, State.waiting_fold, *]
@[simp] theorem State.tripSoft_wf {s n bits} (h : State.wf s = true) : State.wf (State.tripSoft s n bits) = true := by
  unfold State.tripSoft; simp +contextual (maxDischargeDepth := 60) [State.wf_mk, State.wf_fold, State.waiting_mk, State.waiting_fold, *]
@[simp] theorem State.tripSoft_pending {s n bits} : State.waiting (State.tripSoft s n bits) = State.waiting s := by
  unfold State.tripSoft; simp (maxDischargeDepth := 60) [State.wf_mk, State.wf_fold, State.waiting_mk, State.waiting_fold, *]
@[simp] theorem State.tripSilent_wf {s n bits t} (h : State.wf s = true) : State.wf (State.tripSilent s n bits t) = true := by
  unfold State.tripSilent; simp (maxDischargeDepth := 60) [State.wf_mk, State.wf_fold, State.waiting_mk, State.waiting_fold, *]
@[simp] theorem State.tripSilent_pending {s n bits t} : State.waiting (State.tripSilent s n bits t) = State.waiting s := by
  unfold State.tripSilent; simp (maxDischargeDepth := 60) [State.wf_mk, State.wf_fold, State.waiting_mk, State.waiting_fold, *]
@[simp] theorem State.checkFail_wf {s n code} (h : State.wf s = true) : State.wf (State.checkFail s n code) = true := by
  unfold State.checkFail
  extract_lets v0 v1 v2
  have h_v0 : State.wf v0 = true := by subst v0; simp (maxDischargeDepth := 60) [State.wf_mk, State.wf_fold, State.waiting_mk, State.waiting_fold, *]
  clear_value v0
  clear_value v1
  have h_v2 : State.wf v2 = true := by subst v2; simp (maxDischargeDepth := 60) [State.wf_mk, State.wf_fold, State.waiting_mk, State.waiting_fold, *]
  clear_value v2
  simp (maxDischargeDepth := 60) [State.wf_mk, State.wf_fold, State.waiting_mk, State.waiting_fold, *]
@[simp] theorem State.checkFail_pending {s n code} : State.waiting (State.checkFail s n code) = State.waiting s := by
  unfold State.checkFail
  extract_lets v0 v1 v2
  have h_v0 : State.waiting v0 = State.waiting s := by subst v0; simp (maxDischargeDepth := 60) [State.wf_mk, State.wf_fold, State.waiting_mk, State.waiting_fold, *]
  clear_value v0
  clear_value v1
  have h_v2 : State.waiting v2 = State.waiting s := by subst v2; simp (maxDischargeDepth := 60) [State.wf_mk, State.wf_fold, State.waiting_mk, State.waiting_fold, *]
  clear_value v2
  simp (maxDischargeDepth := 60) [State.wf_mk, State.wf_fold, State.waiting_mk, State.waiting_fold, *]
@[simp] theorem State.enterStop_wf {s n src sat tm} (h : State.wf s = true) : State.wf (State.enterStop s n src sat tm) = true := by
  unfold State.enterStop
  extract_lets s1 s2 s3
  have h1 : State.wf s1 = true := by subst s1; simp (maxDischargeDepth := 60) [State.wf_mk, State.wf_fold, State.waiting_mk, State.waiting_fold, *]
  clear_value s1
  have h2 : State.wf s2 = true := by subst s2; simp (maxDischargeDepth := 60) [State.wf_mk, State.wf_fold, State.waiting_mk, State.waiting_fold, *]
  clear_value s2
  have h3 : State.wf s3 = true := by subst s3; simp (maxDischargeDepth := 60) [State.wf_mk, State.wf_fold, State.waiting_mk, State.waiting_fold, *]
  clear_value s3
  simp (maxDischargeDepth := 60) [State.wf_mk, State.wf_fold, State.waiting_mk, State.waiting_fold, *]
@[simp] theorem State.enterStop_pending {s n src sat tm} : State.waiting (State.enterStop s n src sat tm) = State.waiting s := by
  unfold State.enterStop
  extract_lets s1 s2 s3
  have h1 : State.waiting s1 = State.waiting s := by subst s1; simp (maxDischargeDepth := 60) [State.wf_mk, State.wf_fold, State.waiting_mk, State.waiting_fold, *]
  clear_value s1
  have h2 : State.waiting s2 = State.waiting s := by subst s2; simp (maxDischargeDepth := 60) [State.wf_mk, State.wf_fold, State.waiting_mk, State.waiting_fold, *]
  clear_value s2
  have h3 : State.waiting s3 = State.waiting s := by subst s3; simp (maxDischargeDepth := 60) [State.wf_mk, State.wf_fold, State.waiting_mk, State.waiting_fold, *]
  clear_value s3
  simp (maxDischargeDepth := 60) [State.wf_mk, State.wf_fold, State.waiting_mk, State.waiting_fold, *]
@[simp] theorem State.openSwitch_wf {s n} (h : State.wf s = true) : State.wf (State.openSwitch s n) = true := by
  unfold State.openSwitch; simp (maxDischargeDepth := 60) [State.wf_mk, State.wf_fold, State.waiting_mk, State.waiting_fold, *]
@[simp] theorem State.openSwitch_pending {s n} : State.waiting (State.openSwitch s n) = State.waiting s := by
  unfold State.openSwitch; simp (maxDischargeDepth := 60) [State.wf_mk, State.wf_fold, State.waiting_mk, State.waiting_fold, *]

/-! Machine/Sequencer.lean -/

@[simp] theorem State.auxMid_wf {s j} (h : State.wf s = true) : State.wf (State.auxMid s j) = true := by
  unfold State.auxMid
  extract_lets v0
  have h_v0 : State.wf v0 = true := by subst v0; simp (maxDischargeDepth := 60) [State.wf_mk, State.wf_fold, State.waiting_mk, State.waiting_fold, *]
  clear_value v0
  simp (maxDischargeDepth := 60) [State.wf_mk, State.wf_fold, State.waiting_mk, State.waiting_fold, *]
@[simp] theorem State.auxMid_pending {s j} : State.waiting (State.auxMid s j) = State.waiting s := by
  unfold State.auxMid
  extract_lets v0
  have h_v0 : State.waiting v0 = State.waiting s := by subst v0; simp (maxDischargeDepth := 60) [State.wf_mk, State.wf_fold, State.waiting_mk, State.waiting_fold, *]
  clear_value v0
  simp (maxDischargeDepth := 60) [State.wf_mk, State.wf_fold, State.waiting_mk, State.waiting_fold, *]
@[simp] theorem State.auxOff_wf {s j} (h : State.wf s = true) : State.wf (State.auxOff s j) = true := by
  unfold State.auxOff
  extract_lets v0
  have h_v0 : State.wf v0 = true := by subst v0; simp (maxDischargeDepth := 60) [State.wf_mk, State.wf_fold, State.waiting_mk, State.waiting_fold, *]
  clear_value v0
  simp (maxDischargeDepth := 60) [State.wf_mk, State.wf_fold, State.waiting_mk, State.waiting_fold, *]
@[simp] theorem State.auxOff_pending {s j} : State.waiting (State.auxOff s j) = State.waiting s := by
  unfold State.auxOff
  extract_lets v0
  have h_v0 : State.waiting v0 = State.waiting s := by subst v0; simp (maxDischargeDepth := 60) [State.wf_mk, State.wf_fold, State.waiting_mk, State.waiting_fold, *]
  clear_value v0
  simp (maxDischargeDepth := 60) [State.wf_mk, State.wf_fold, State.waiting_mk, State.waiting_fold, *]
@[simp] theorem State.auxStart_wf {s j mv} (h : State.wf s = true) : State.wf (State.auxStart s j mv) = true := by
  unfold State.auxStart
  extract_lets v0
  have h_v0 : State.wf v0 = true := by subst v0; simp (maxDischargeDepth := 60) [State.wf_mk, State.wf_fold, State.waiting_mk, State.waiting_fold, *]
  clear_value v0
  simp (maxDischargeDepth := 60) [State.wf_mk, State.wf_fold, State.waiting_mk, State.waiting_fold, *]
@[simp] theorem State.auxStart_pending {s j mv} : State.waiting (State.auxStart s j mv) = State.waiting s := by
  unfold State.auxStart
  extract_lets v0
  have h_v0 : State.waiting v0 = State.waiting s := by subst v0; simp (maxDischargeDepth := 60) [State.wf_mk, State.wf_fold, State.waiting_mk, State.waiting_fold, *]
  clear_value v0
  simp (maxDischargeDepth := 60) [State.wf_mk, State.wf_fold, State.waiting_mk, State.waiting_fold, *]
@[simp] theorem State.auxAsk_wf {s j} (h : State.wf s = true) : State.wf (State.auxAsk s j) = true := by
  unfold State.auxAsk; simp (maxDischargeDepth := 60) [State.wf_mk, State.wf_fold, State.waiting_mk, State.waiting_fold, *]
@[simp] theorem State.auxAsk_pending {s j} : State.waiting (State.auxAsk s j) = State.waiting s := by
  unfold State.auxAsk; simp (maxDischargeDepth := 60) [State.wf_mk, State.wf_fold, State.waiting_mk, State.waiting_fold, *]
@[simp] theorem State.modSq_wf {s e f} (h : State.wf s = true) : State.wf (State.modSq s e f) = true := by
  unfold State.modSq; simp (maxDischargeDepth := 60) [State.wf_mk, State.wf_fold, State.waiting_mk, State.waiting_fold, *]
@[simp] theorem State.modSq_pending {s e f} : State.waiting (State.modSq s e f) = State.waiting s := by
  unfold State.modSq; simp (maxDischargeDepth := 60) [State.wf_mk, State.wf_fold, State.waiting_mk, State.waiting_fold, *]
@[simp] theorem State.railDisable_wf {s e} (h : State.wf s = true) : State.wf (State.railDisable s e) = true := by
  unfold State.railDisable; simp (maxDischargeDepth := 60) [State.wf_mk, State.wf_fold, State.waiting_mk, State.waiting_fold, *]
@[simp] theorem State.railDisable_pending {s e} : State.waiting (State.railDisable s e) = State.waiting s := by
  unfold State.railDisable; simp (maxDischargeDepth := 60) [State.wf_mk, State.wf_fold, State.waiting_mk, State.waiting_fold, *]
@[simp] theorem State.railTo_wf {s e st} (h : State.wf s = true) : State.wf (State.railTo s e st) = true := by
  unfold State.railTo
  extract_lets v0 v1
  have h_v0 : State.wf v0 = true := by subst v0; simp (maxDischargeDepth := 60) [State.wf_mk, State.wf_fold, State.waiting_mk, State.waiting_fold, *]
  clear_value v0
  have h_v1 : State.wf v1 = true := by subst v1; simp (maxDischargeDepth := 60) [State.wf_mk, State.wf_fold, State.waiting_mk, State.waiting_fold, *]
  clear_value v1
  simp (maxDischargeDepth := 60) [State.wf_mk, State.wf_fold, State.waiting_mk, State.waiting_fold, *]
@[simp] theorem State.railTo_pending {s e st} : State.waiting (State.railTo s e st) = State.waiting s := by
  unfold State.railTo
  extract_lets v0 v1
  have h_v0 : State.waiting v0 = State.waiting s := by subst v0; simp (maxDischargeDepth := 60) [State.wf_mk, State.wf_fold, State.waiting_mk, State.waiting_fold, *]
  clear_value v0
  have h_v1 : State.waiting v1 = State.waiting s := by subst v1; simp (maxDischargeDepth := 60) [State.wf_mk, State.wf_fold, State.waiting_mk, State.waiting_fold, *]
  clear_value v1
  simp (maxDischargeDepth := 60) [State.wf_mk, State.wf_fold, State.waiting_mk, State.waiting_fold, *]
@[simp] theorem State.railOff_wf {s e} (h : State.wf s = true) : State.wf (State.railOff s e) = true := by
  unfold State.railOff; simp (maxDischargeDepth := 60) [State.wf_mk, State.wf_fold, State.waiting_mk, State.waiting_fold, *]
@[simp] theorem State.railOff_pending {s e} : State.waiting (State.railOff s e) = State.waiting s := by
  unfold State.railOff; simp (maxDischargeDepth := 60) [State.wf_mk, State.wf_fold, State.waiting_mk, State.waiting_fold, *]
@[simp] theorem State.railStart_wf {s e} (h : State.wf s = true) : State.wf (State.railStart s e) = true := by
  unfold State.railStart
  extract_lets v0 v1
  clear_value v0
  have h_v1 : State.wf v1 = true := by subst v1; simp (maxDischargeDepth := 60) [State.wf_mk, State.wf_fold, State.waiting_mk, State.waiting_fold, *]
  clear_value v1
  ((repeat' split) <;> (try extract_lets) <;> simp (maxDischargeDepth := 60) +zetaDelta [State.wf_mk, State.wf_fold, State.waiting_mk, State.waiting_fold, *])
@[simp] theorem State.railStart_pending {s e} : State.waiting (State.railStart s e) = State.waiting s := by
  unfold State.railStart
  extract_lets v0 v1
  clear_value v0
  have h_v1 : State.waiting v1 = State.waiting s := by subst v1; simp (maxDischargeDepth := 60) [State.wf_mk, State.wf_fold, State.waiting_mk, State.waiting_fold, *]
  clear_value v1
  ((repeat' split) <;> (try extract_lets) <;> simp (maxDischargeDepth := 60) +zetaDelta [State.wf_mk, State.wf_fold, State.waiting_mk, State.waiting_fold, *])
@[simp] theorem State.railTurn_wf {s e} (h : State.wf s = true) : State.wf (State.railTurn s e) = true := by
  unfold State.railTurn; simp (maxDischargeDepth := 60) [State.wf_mk, State.wf_fold, State.waiting_mk, State.waiting_fold, *]
@[simp] theorem State.railTurn_pending {s e} : State.waiting (State.railTurn s e) = State.waiting s := by
  unfold State.railTurn; simp (maxDischargeDepth := 60) [State.wf_mk, State.wf_fold, State.waiting_mk, State.waiting_fold, *]
@[simp] theorem State.railsDone_wf {s} (h : State.wf s = true) : State.wf (State.railsDone s) = true := by
  unfold State.railsDone; simp (maxDischargeDepth := 60) [State.wf_mk, State.wf_fold, State.waiting_mk, State.waiting_fold, *]
@[simp] theorem State.railsDone_pending {s} : State.waiting (State.railsDone s) = State.waiting s := by
  unfold State.railsDone; simp (maxDischargeDepth := 60) [State.wf_mk, State.wf_fold, State.waiting_mk, State.waiting_fold, *]
@[simp] theorem State.railSweep_wf {s} (h : State.wf s = true) : State.wf (State.railSweep s) = true := by
  unfold State.railSweep
  refine State.railsDone_wf ?_
  refine foldl_wf (fun t _ ht => ?_) h
  simp +contextual (maxDischargeDepth := 60) [State.wf_mk, State.wf_fold, State.waiting_mk, State.waiting_fold, *]
@[simp] theorem State.railSweep_pending {s} : State.waiting (State.railSweep s) = State.waiting s := by
  unfold State.railSweep
  rw [State.railsDone_pending]
  exact foldl_pending (fun t _ => by simp [State.wf_mk, State.wf_fold, State.waiting_mk, State.waiting_fold])
@[simp] theorem State.railAsk_wf {s e wait} (h : State.wf s = true) : State.wf (State.railAsk s e wait) = true := by
  unfold State.railAsk; simp (maxDischargeDepth := 60) [State.wf_mk, State.wf_fold, State.waiting_mk, State.waiting_fold, *]
@[simp] theorem State.railAsk_pending {s e wait} : State.waiting (State.railAsk s e wait) = State.waiting s := by
  unfold State.railAsk; simp (maxDischargeDepth := 60) [State.wf_mk, State.wf_fold, State.waiting_mk, State.waiting_fold, *]
@[simp] theorem State.railsSafe_wf {s} (h : State.wf s = true) : State.wf (State.railsSafe s) = true := by
  unfold State.railsSafe; simp +contextual (maxDischargeDepth := 60) [State.wf_mk, State.wf_fold, State.waiting_mk, State.waiting_fold, *]
@[simp] theorem State.railsSafe_pending {s} : State.waiting (State.railsSafe s) = State.waiting s := by
  unfold State.railsSafe; simp (maxDischargeDepth := 60) [State.wf_mk, State.wf_fold, State.waiting_mk, State.waiting_fold, *]

/-! Machine/Shelf.lean -/

@[simp] theorem State.stopShelfProgram_wf {s} (h : State.wf s = true) : State.wf (State.stopShelfProgram s) = true := by
  unfold State.stopShelfProgram
  extract_lets v0
  have h_v0 : State.wf v0 = true := by subst v0; simp (maxDischargeDepth := 60) [State.wf_mk, State.wf_fold, State.waiting_mk, State.waiting_fold, *]
  clear_value v0
  simp (maxDischargeDepth := 60) [State.wf_mk, State.wf_fold, State.waiting_mk, State.waiting_fold, *]
@[simp] theorem State.stopShelfProgram_pending {s} : State.waiting (State.stopShelfProgram s) = State.waiting s := by
  unfold State.stopShelfProgram
  extract_lets v0
  have h_v0 : State.waiting v0 = State.waiting s := by subst v0; simp (maxDischargeDepth := 60) [State.wf_mk, State.wf_fold, State.waiting_mk, State.waiting_fold, *]
  clear_value v0
  simp (maxDischargeDepth := 60) [State.wf_mk, State.wf_fold, State.waiting_mk, State.waiting_fold, *]
@[simp] theorem State.parkForSafe_wf {s n} (h : State.wf s = true) : State.wf (State.parkForSafe s n) = true := by
  unfold State.parkForSafe; simp (maxDischargeDepth := 60) [State.wf_mk, State.wf_fold, State.waiting_mk, State.waiting_fold, *]
@[simp] theorem State.parkForSafe_pending {s n} : State.waiting (State.parkForSafe s n) = State.waiting s := by
  unfold State.parkForSafe; simp (maxDischargeDepth := 60) [State.wf_mk, State.wf_fold, State.waiting_mk, State.waiting_fold, *]
@[simp] theorem State.freezeHalt_wf {s} (h : State.wf s = true) : State.wf (State.freezeHalt s) = true := by
  unfold State.freezeHalt; (repeat' split) <;> simp (maxDischargeDepth := 60) [State.wf_mk, State.wf_fold, State.waiting_mk, State.waiting_fold, *]
@[simp] theorem State.freezeHalt_pending {s} : State.waiting (State.freezeHalt s) = State.waiting s := by
  unfold State.freezeHalt; (repeat' split) <;> simp (maxDischargeDepth := 60) [State.wf_mk, State.wf_fold, State.waiting_mk, State.waiting_fold, *]
@[simp] theorem State.auxSafe_wf {s} (h : State.wf s = true) : State.wf (State.auxSafe s) = true := by
  unfold State.auxSafe; simp +contextual (maxDischargeDepth := 60) [State.wf_mk, State.wf_fold, State.waiting_mk, State.waiting_fold, *]
@[simp] theorem State.auxSafe_pending {s} : State.waiting (State.auxSafe s) = State.waiting s := by
  unfold State.auxSafe
  extract_lets v0
  have h_v0 : State.waiting v0 = State.waiting s := by subst v0; simp (maxDischargeDepth := 60) [State.wf_mk, State.wf_fold, State.waiting_mk, State.waiting_fold, *]
  clear_value v0
  simp (maxDischargeDepth := 60) [State.wf_mk, State.wf_fold, State.waiting_mk, State.waiting_fold, *]
@[simp] theorem State.safeEntry_wf {s cause} (h : State.wf s = true) : State.wf (State.safeEntry s cause) = true := by
  unfold State.safeEntry; simp +contextual (maxDischargeDepth := 60) [State.wf_mk, State.wf_fold, State.waiting_mk, State.waiting_fold, *]
@[simp] theorem State.safeEntry_pending {s cause} : State.waiting (State.safeEntry s cause) = State.waiting s := by
  unfold State.safeEntry
  extract_lets v0 v1 v2 v3 v4 v5 v6
  clear_value v0
  have h_v1 : State.waiting v1 = State.waiting s := by subst v1; simp (maxDischargeDepth := 60) [State.wf_mk, State.wf_fold, State.waiting_mk, State.waiting_fold, *]
  clear_value v1
  have h_v2 : State.waiting v2 = State.waiting s := by subst v2; simp (maxDischargeDepth := 60) [State.wf_mk, State.wf_fold, State.waiting_mk, State.waiting_fold, *]
  clear_value v2
  have h_v3 : State.waiting v3 = State.waiting s := by subst v3; simp (maxDischargeDepth := 60) [State.wf_mk, State.wf_fold, State.waiting_mk, State.waiting_fold, *]
  clear_value v3
  have h_v4 : State.waiting v4 = State.waiting s := by subst v4; simp (maxDischargeDepth := 60) [State.wf_mk, State.wf_fold, State.waiting_mk, State.waiting_fold, *]
  clear_value v4
  have h_v5 : State.waiting v5 = State.waiting s := by subst v5; simp (maxDischargeDepth := 60) [State.wf_mk, State.wf_fold, State.waiting_mk, State.waiting_fold, *]
  clear_value v5
  have h_v6 : State.waiting v6 = State.waiting s := by subst v6; simp (maxDischargeDepth := 60) [State.wf_mk, State.wf_fold, State.waiting_mk, State.waiting_fold, *]
  clear_value v6
  simp (maxDischargeDepth := 60) [State.wf_mk, State.wf_fold, State.waiting_mk, State.waiting_fold, *]
@[simp] theorem State.beginAgingExit_wf {s} (h : State.wf s = true) : State.wf (State.beginAgingExit s) = true := by
  unfold State.beginAgingExit; (repeat' split) <;> simp (maxDischargeDepth := 60) [State.wf_mk, State.wf_fold, State.waiting_mk, State.waiting_fold, *]
@[simp] theorem State.beginAgingExit_pending {s} : State.waiting (State.beginAgingExit s) = State.waiting s := by
  unfold State.beginAgingExit; (repeat' split) <;> simp (maxDischargeDepth := 60) [State.wf_mk, State.wf_fold, State.waiting_mk, State.waiting_fold, *]
@[simp] theorem State.beginWake_wf {s} (h : State.wf s = true) : State.wf (State.beginWake s) = true := by
  unfold State.beginWake; (repeat' split) <;> simp (maxDischargeDepth := 60) [State.wf_mk, State.wf_fold, State.waiting_mk, State.waiting_fold, *]
@[simp] theorem State.beginWake_pending {s} : State.waiting (State.beginWake s) = State.waiting s := by
  unfold State.beginWake; (repeat' split) <;> simp (maxDischargeDepth := 60) [State.wf_mk, State.wf_fold, State.waiting_mk, State.waiting_fold, *]
@[simp] theorem State.leaveSleep_wf {s} (h : State.wf s = true) : State.wf (State.leaveSleep s) = true := by
  unfold State.leaveSleep; simp (maxDischargeDepth := 60) [State.wf_mk, State.wf_fold, State.waiting_mk, State.waiting_fold, *]
@[simp] theorem State.leaveSleep_pending {s} : State.waiting (State.leaveSleep s) = State.waiting s := by
  unfold State.leaveSleep; simp (maxDischargeDepth := 60) [State.wf_mk, State.wf_fold, State.waiting_mk, State.waiting_fold, *]
@[simp] theorem State.enterSafe_wf {s cause} (h : State.wf s = true) : State.wf (State.enterSafe s cause) = true := by
  unfold State.enterSafe; simp (maxDischargeDepth := 60) [State.wf_mk, State.wf_fold, State.waiting_mk, State.waiting_fold, *]
@[simp] theorem State.enterSafe_pending {s cause} : State.waiting (State.enterSafe s cause) = State.waiting s := by
  unfold State.enterSafe; simp (maxDischargeDepth := 60) [State.wf_mk, State.wf_fold, State.waiting_mk, State.waiting_fold, *]
@[simp] theorem State.wdtArm_wf {s} (h : State.wf s = true) : State.wf (State.wdtArm s) = true := by
  unfold State.wdtArm; simp (maxDischargeDepth := 60) [State.wf_mk, State.wf_fold, State.waiting_mk, State.waiting_fold, *]
@[simp] theorem State.wdtArm_pending {s} : State.waiting (State.wdtArm s) = State.waiting s := by
  unfold State.wdtArm; simp (maxDischargeDepth := 60) [State.wf_mk, State.wf_fold, State.waiting_mk, State.waiting_fold, *]
@[simp] theorem State.judgeClr_wf {s} (h : State.wf s = true) : State.wf (State.judgeClr s) = true := by
  unfold State.judgeClr; simp (maxDischargeDepth := 60) [State.wf_mk, State.wf_fold, State.waiting_mk, State.waiting_fold, *]
@[simp] theorem State.judgeClr_pending {s} : State.waiting (State.judgeClr s) = State.waiting s := by
  unfold State.judgeClr; simp (maxDischargeDepth := 60) [State.wf_mk, State.wf_fold, State.waiting_mk, State.waiting_fold, *]
@[simp] theorem State.haltChannels_wf {s} (h : State.wf s = true) : State.wf (State.haltChannels s) = true := by
  unfold State.haltChannels; simp +contextual (maxDischargeDepth := 60) [State.wf_mk, State.wf_fold, State.waiting_mk, State.waiting_fold, *]
@[simp] theorem State.haltChannels_pending {s} : State.waiting (State.haltChannels s) = State.waiting s := by
  unfold State.haltChannels
  extract_lets v0
  have h_v0 : State.waiting v0 = State.waiting s := by subst v0; simp (maxDischargeDepth := 60) [State.wf_mk, State.wf_fold, State.waiting_mk, State.waiting_fold, *]
  clear_value v0
  simp (maxDischargeDepth := 60) [State.wf_mk, State.wf_fold, State.waiting_mk, State.waiting_fold, *]
@[simp] theorem State.lockWrite_wf {s by_ key} (h : State.wf s = true) : State.wf (State.lockWrite s by_ key) = true := by
  unfold State.lockWrite; simp (maxDischargeDepth := 60) [State.wf_mk, State.wf_fold, State.waiting_mk, State.waiting_fold, *]
@[simp] theorem State.lockWrite_pending {s by_ key} : State.waiting (State.lockWrite s by_ key) = State.waiting s := by
  unfold State.lockWrite; simp (maxDischargeDepth := 60) [State.wf_mk, State.wf_fold, State.waiting_mk, State.waiting_fold, *]
@[simp] theorem State.lockClose_wf {s} (h : State.wf s = true) : State.wf (State.lockClose s) = true := by
  unfold State.lockClose; simp (maxDischargeDepth := 60) [State.wf_mk, State.wf_fold, State.waiting_mk, State.waiting_fold, *]
@[simp] theorem State.lockClose_pending {s} : State.waiting (State.lockClose s) = State.waiting s := by
  unfold State.lockClose; simp (maxDischargeDepth := 60) [State.wf_mk, State.wf_fold, State.waiting_mk, State.waiting_fold, *]

/-! Machine/Convert.lean -/

@[simp] theorem State.fuseNote_wf {s n j i} (h : State.wf s = true) : State.wf (State.fuseNote s n j i) = true := by
  unfold State.fuseNote; simp (maxDischargeDepth := 60) [State.wf_mk, State.wf_fold, State.waiting_mk, State.waiting_fold, *]
@[simp] theorem State.fuseNote_pending {s n j i} : State.waiting (State.fuseNote s n j i) = State.waiting s := by
  unfold State.fuseNote; simp (maxDischargeDepth := 60) [State.wf_mk, State.wf_fold, State.waiting_mk, State.waiting_fold, *]
@[simp] theorem State.fuseMark_wf {s n i} (h : State.wf s = true) : State.wf (State.fuseMark s n i) = true := by
  unfold State.fuseMark; simp +contextual (maxDischargeDepth := 60) [State.wf_mk, State.wf_fold, State.waiting_mk, State.waiting_fold, *]
@[simp] theorem State.fuseMark_pending {s n i} : State.waiting (State.fuseMark s n i) = State.waiting s := by
  unfold State.fuseMark; simp (maxDischargeDepth := 60) [State.wf_mk, State.wf_fold, State.waiting_mk, State.waiting_fold, *]
@[simp] theorem State.shedCount_wf {s n share} (h : State.wf s = true) : State.wf (State.shedCount s n share) = true := by
  unfold State.shedCount; dsimp only; (repeat' split) <;> simp +contextual (maxDischargeDepth := 60) [State.wf_mk, State.wf_fold, State.waiting_mk, State.waiting_fold, *]
@[simp] theorem State.shedCount_pending {s n share} : State.waiting (State.shedCount s n share) = State.waiting s := by
  unfold State.shedCount; dsimp only; (repeat' split) <;> simp +contextual (maxDischargeDepth := 60) [State.wf_mk, State.wf_fold, State.waiting_mk, State.waiting_fold, *]
@[simp] theorem State.memberLoop_wf {s n share eis engaged} (h : State.wf s = true) : State.wf (State.memberLoop s n share eis engaged) = true := by
  unfold State.memberLoop; simp (maxDischargeDepth := 60) [State.wf_mk, State.wf_fold, State.waiting_mk, State.waiting_fold, *]
@[simp] theorem State.memberLoop_pending {s n share eis engaged} : State.waiting (State.memberLoop s n share eis engaged) = State.waiting s := by
  unfold State.memberLoop; simp (maxDischargeDepth := 60) [State.wf_mk, State.wf_fold, State.waiting_mk, State.waiting_fold, *]
@[simp] theorem State.refSlot_wf {s n} (h : State.wf s = true) : State.wf (State.refSlot s n) = true := by
  unfold State.refSlot
  extract_lets v0 v1 v2 v3 v4 v5 v6 v7 v8 v9 v10 v11 v12 v13 v14 v15 v16 v17 v18 v19
  clear_value v0
  clear_value v1
  clear_value v2
  clear_value v3
  clear_value v4
  clear_value v5
  clear_value v6
  clear_value v7
  clear_value v8
  have h_v9 : State.wf v9 = true := by subst v9; simp (maxDischargeDepth := 60) [State.wf_mk, State.wf_fold, State.waiting_mk, State.waiting_fold, *]
  clear_value v9
  clear_value v10
  clear_value v11
  clear_value v12
  clear_value v13
  have h_v14 : State.wf v14 = true := by subst v14; simp (maxDischargeDepth := 60) [State.wf_mk, State.wf_fold, State.waiting_mk, State.waiting_fold, *]
  clear_value v14
  have h_v15 : State.wf v15 = true := by subst v15; simp (maxDischargeDepth := 60) [State.wf_mk, State.wf_fold, State.waiting_mk, State.waiting_fold, *]
  clear_value v15
  have h_v16 : State.wf v16 = true := by subst v16; simp (maxDischargeDepth := 60) [State.wf_mk, State.wf_fold, State.waiting_mk, State.waiting_fold, *]
  clear_value v16
  have h_v17 : State.wf v17 = true := by subst v17; simp (maxDischargeDepth := 60) [State.wf_mk, State.wf_fold, State.waiting_mk, State.waiting_fold, *]
  clear_value v17
  clear_value v18
  have h_v19 : State.wf v19 = true := by subst v19; simp (maxDischargeDepth := 60) [State.wf_mk, State.wf_fold, State.waiting_mk, State.waiting_fold, *]
  clear_value v19
  simp (maxDischargeDepth := 60) [State.wf_mk, State.wf_fold, State.waiting_mk, State.waiting_fold, *]
@[simp] theorem State.refSlot_pending {s n} : State.waiting (State.refSlot s n) = State.waiting s := by
  unfold State.refSlot
  extract_lets v0 v1 v2 v3 v4 v5 v6 v7 v8 v9 v10 v11 v12 v13 v14 v15 v16 v17 v18 v19
  clear_value v0
  clear_value v1
  clear_value v2
  clear_value v3
  clear_value v4
  clear_value v5
  clear_value v6
  clear_value v7
  clear_value v8
  have h_v9 : State.waiting v9 = State.waiting s := by subst v9; simp (maxDischargeDepth := 60) [State.wf_mk, State.wf_fold, State.waiting_mk, State.waiting_fold, *]
  clear_value v9
  clear_value v10
  clear_value v11
  clear_value v12
  clear_value v13
  have h_v14 : State.waiting v14 = State.waiting s := by subst v14; simp (maxDischargeDepth := 60) [State.wf_mk, State.wf_fold, State.waiting_mk, State.waiting_fold, *]
  clear_value v14
  have h_v15 : State.waiting v15 = State.waiting s := by subst v15; simp (maxDischargeDepth := 60) [State.wf_mk, State.wf_fold, State.waiting_mk, State.waiting_fold, *]
  clear_value v15
  have h_v16 : State.waiting v16 = State.waiting s := by subst v16; simp (maxDischargeDepth := 60) [State.wf_mk, State.wf_fold, State.waiting_mk, State.waiting_fold, *]
  clear_value v16
  have h_v17 : State.waiting v17 = State.waiting s := by subst v17; simp (maxDischargeDepth := 60) [State.wf_mk, State.wf_fold, State.waiting_mk, State.waiting_fold, *]
  clear_value v17
  clear_value v18
  have h_v19 : State.waiting v19 = State.waiting s := by subst v19; simp (maxDischargeDepth := 60) [State.wf_mk, State.wf_fold, State.waiting_mk, State.waiting_fold, *]
  clear_value v19
  simp (maxDischargeDepth := 60) [State.wf_mk, State.wf_fold, State.waiting_mk, State.waiting_fold, *]
@[simp] theorem State.restQuiet_wf {s n} (h : State.wf s = true) : State.wf (State.restQuiet s n) = true := by
  unfold State.restQuiet; simp +contextual (maxDischargeDepth := 60) [State.wf_mk, State.wf_fold, State.waiting_mk, State.waiting_fold, *]
@[simp] theorem State.restQuiet_pending {s n} : State.waiting (State.restQuiet s n) = State.waiting s := by
  unfold State.restQuiet; simp (maxDischargeDepth := 60) [State.wf_mk, State.wf_fold, State.waiting_mk, State.waiting_fold, *]
@[simp] theorem State.preSlot_wf {s n} (h : State.wf s = true) : State.wf (State.preSlot s n) = true := by
  unfold State.preSlot; simp (maxDischargeDepth := 60) [State.wf_mk, State.wf_fold, State.waiting_mk, State.waiting_fold, *]
@[simp] theorem State.preSlot_pending {s n} : State.waiting (State.preSlot s n) = State.waiting s := by
  unfold State.preSlot; simp (maxDischargeDepth := 60) [State.wf_mk, State.wf_fold, State.waiting_mk, State.waiting_fold, *]
@[simp] theorem State.loopSlot_wf {s n} (h : State.wf s = true) : State.wf (State.loopSlot s n) = true := by
  unfold State.loopSlot; simp (maxDischargeDepth := 60) [State.wf_mk, State.wf_fold, State.waiting_mk, State.waiting_fold, *]
@[simp] theorem State.loopSlot_pending {s n} : State.waiting (State.loopSlot s n) = State.waiting s := by
  unfold State.loopSlot; simp (maxDischargeDepth := 60) [State.wf_mk, State.wf_fold, State.waiting_mk, State.waiting_fold, *]
@[simp] theorem State.bumpless_wf {s n} (h : State.wf s = true) : State.wf (State.bumpless s n) = true := by
  unfold State.bumpless; simp +contextual (maxDischargeDepth := 60) [State.wf_mk, State.wf_fold, State.waiting_mk, State.waiting_fold, *]
@[simp] theorem State.bumpless_pending {s n} : State.waiting (State.bumpless s n) = State.waiting s := by
  unfold State.bumpless; simp (maxDischargeDepth := 60) [State.wf_mk, State.wf_fold, State.waiting_mk, State.waiting_fold, *]
@[simp] theorem State.ctClamp_wf {s n} (h : State.wf s = true) : State.wf (State.ctClamp s n) = true := by
  unfold State.ctClamp; simp (maxDischargeDepth := 60) [State.wf_mk, State.wf_fold, State.waiting_mk, State.waiting_fold, *]
@[simp] theorem State.ctClamp_pending {s n} : State.waiting (State.ctClamp s n) = State.waiting s := by
  unfold State.ctClamp; simp (maxDischargeDepth := 60) [State.wf_mk, State.wf_fold, State.waiting_mk, State.waiting_fold, *]
@[simp] theorem State.loadPhase_wf {s n k} (h : State.wf s = true) : State.wf (State.loadPhase s n k) = true := by
  unfold State.loadPhase
  extract_lets v0 v1 v2 v3
  clear_value v0
  clear_value v1
  have h_v2 : State.wf v2 = true := by subst v2; simp (maxDischargeDepth := 60) [State.wf_mk, State.wf_fold, State.waiting_mk, State.waiting_fold, *]
  clear_value v2
  clear_value v3
  simp (maxDischargeDepth := 60) [State.wf_mk, State.wf_fold, State.waiting_mk, State.waiting_fold, *]
@[simp] theorem State.loadPhase_pending {s n k} : State.waiting (State.loadPhase s n k) = State.waiting s := by
  unfold State.loadPhase
  extract_lets v0 v1 v2 v3
  clear_value v0
  clear_value v1
  have h_v2 : State.waiting v2 = State.waiting s := by subst v2; simp (maxDischargeDepth := 60) [State.wf_mk, State.wf_fold, State.waiting_mk, State.waiting_fold, *]
  clear_value v2
  clear_value v3
  simp (maxDischargeDepth := 60) [State.wf_mk, State.wf_fold, State.waiting_mk, State.waiting_fold, *]
@[simp] theorem State.shedPhase_wf {s n phB} (h : State.wf s = true) : State.wf (State.shedPhase s n phB) = true := by
  unfold State.shedPhase; simp (maxDischargeDepth := 60) [State.wf_mk, State.wf_fold, State.waiting_mk, State.waiting_fold, *]
@[simp] theorem State.shedPhase_pending {s n phB} : State.waiting (State.shedPhase s n phB) = State.waiting s := by
  unfold State.shedPhase; simp (maxDischargeDepth := 60) [State.wf_mk, State.wf_fold, State.waiting_mk, State.waiting_fold, *]
@[simp] theorem State.busCount_wf {s} (h : State.wf s = true) : State.wf (State.busCount s) = true := by
  unfold State.busCount; simp (maxDischargeDepth := 60) [State.wf_mk, State.wf_fold, State.waiting_mk, State.waiting_fold, *]
@[simp] theorem State.busCount_pending {s} : State.waiting (State.busCount s) = State.waiting s := by
  unfold State.busCount; simp (maxDischargeDepth := 60) [State.wf_mk, State.wf_fold, State.waiting_mk, State.waiting_fold, *]
@[simp] theorem State.pwmDivWrite_wf {s val} (h : State.wf s = true) : State.wf (State.pwmDivWrite s val) = true := by
  unfold State.pwmDivWrite; simp (maxDischargeDepth := 60) [State.wf_mk, State.wf_fold, State.waiting_mk, State.waiting_fold, *]
@[simp] theorem State.pwmDivWrite_pending {s val} : State.waiting (State.pwmDivWrite s val) = State.waiting s := by
  unfold State.pwmDivWrite; simp (maxDischargeDepth := 60) [State.wf_mk, State.wf_fold, State.waiting_mk, State.waiting_fold, *]
@[simp] theorem State.syncEdge_wf {s at_ dt} (h : State.wf s = true) : State.wf (State.syncEdge s at_ dt) = true := by
  unfold State.syncEdge; simp (maxDischargeDepth := 60) [State.wf_mk, State.wf_fold, State.waiting_mk, State.waiting_fold, *]
@[simp] theorem State.syncEdge_pending {s at_ dt} : State.waiting (State.syncEdge s at_ dt) = State.waiting s := by
  unfold State.syncEdge; simp (maxDischargeDepth := 60) [State.wf_mk, State.wf_fold, State.waiting_mk, State.waiting_fold, *]
@[simp] theorem State.syncFollow_wf {s} (h : State.wf s = true) : State.wf (State.syncFollow s) = true := by
  unfold State.syncFollow; simp (maxDischargeDepth := 60) [State.wf_mk, State.wf_fold, State.waiting_mk, State.waiting_fold, *]
@[simp] theorem State.syncFollow_pending {s} : State.waiting (State.syncFollow s) = State.waiting s := by
  unfold State.syncFollow; simp (maxDischargeDepth := 60) [State.wf_mk, State.wf_fold, State.waiting_mk, State.waiting_fold, *]
@[simp] theorem State.periodBoundary_wf {s0} (h : State.wf s0 = true) : State.wf (State.periodBoundary s0) = true := by
  unfold State.periodBoundary; simp (maxDischargeDepth := 60) [State.wf_mk, State.wf_fold, State.waiting_mk, State.waiting_fold, *]
@[simp] theorem State.periodBoundary_pending {s0} : State.waiting (State.periodBoundary s0) = State.waiting s0 := by
  unfold State.periodBoundary; simp (maxDischargeDepth := 60) [State.wf_mk, State.wf_fold, State.waiting_mk, State.waiting_fold, *]
@[simp] theorem State.gangDissolve_wf {s n} (h : State.wf s = true) : State.wf (State.gangDissolve s n) = true := by
  unfold State.gangDissolve; simp +contextual (maxDischargeDepth := 60) [State.wf_mk, State.wf_fold, State.waiting_mk, State.waiting_fold, *]
@[simp] theorem State.gangDissolve_pending {s n} : State.waiting (State.gangDissolve s n) = State.waiting s := by
  unfold State.gangDissolve
  extract_lets v0
  have h_v0 : State.waiting v0 = State.waiting s := by subst v0; simp (maxDischargeDepth := 60) [State.wf_mk, State.wf_fold, State.waiting_mk, State.waiting_fold, *]
  clear_value v0
  simp (maxDischargeDepth := 60) [State.wf_mk, State.wf_fold, State.waiting_mk, State.waiting_fold, *]
@[simp] theorem State.leaveParked_wf {s j} (h : State.wf s = true) : State.wf (State.leaveParked s j) = true := by
  unfold State.leaveParked; simp (maxDischargeDepth := 60) [State.wf_mk, State.wf_fold, State.waiting_mk, State.waiting_fold, *]
@[simp] theorem State.leaveParked_pending {s j} : State.waiting (State.leaveParked s j) = State.waiting s := by
  unfold State.leaveParked; simp (maxDischargeDepth := 60) [State.wf_mk, State.wf_fold, State.waiting_mk, State.waiting_fold, *]
@[simp] theorem State.gangForm_wf {s n code} (h : State.wf s = true) : State.wf (State.gangForm s n code) = true := by
  unfold State.gangForm; simp +contextual (maxDischargeDepth := 60) [State.wf_mk, State.wf_fold, State.waiting_mk, State.waiting_fold, *]
@[simp] theorem State.gangForm_pending {s n code} : State.waiting (State.gangForm s n code) = State.waiting s := by
  unfold State.gangForm
  extract_lets v0
  have h_v0 : State.waiting v0 = State.waiting s := by subst v0; simp (maxDischargeDepth := 60) [State.wf_mk, State.wf_fold, State.waiting_mk, State.waiting_fold, *]
  clear_value v0
  simp (maxDischargeDepth := 60) [State.wf_mk, State.wf_fold, State.waiting_mk, State.waiting_fold, *]
@[simp] theorem State.gangWrite_wf {s n val} (h : State.wf s = true) : State.wf (State.gangWrite s n val) = true := by
  unfold State.gangWrite; simp (maxDischargeDepth := 60) [State.wf_mk, State.wf_fold, State.waiting_mk, State.waiting_fold, *]
@[simp] theorem State.gangWrite_pending {s n val} : State.waiting (State.gangWrite s n val) = State.waiting s := by
  unfold State.gangWrite; simp (maxDischargeDepth := 60) [State.wf_mk, State.wf_fold, State.waiting_mk, State.waiting_fold, *]
@[simp] theorem State.gangTake_wf {s n} (h : State.wf s = true) : State.wf (State.gangTake s n) = true := by
  unfold State.gangTake; (repeat' split) <;> simp (maxDischargeDepth := 60) [State.wf_mk, State.wf_fold, State.waiting_mk, State.waiting_fold, *]
@[simp] theorem State.gangTake_pending {s n} : State.waiting (State.gangTake s n) = State.waiting s := by
  unfold State.gangTake; (repeat' split) <;> simp (maxDischargeDepth := 60) [State.wf_mk, State.wf_fold, State.waiting_mk, State.waiting_fold, *]
@[simp] theorem State.engage_wf {s n} (h : State.wf s = true) : State.wf (State.engage s n) = true := by
  unfold State.engage; simp +contextual (maxDischargeDepth := 60) [State.wf_mk, State.wf_fold, State.waiting_mk, State.waiting_fold, *]
@[simp] theorem State.engage_pending {s n} : State.waiting (State.engage s n) = State.waiting s := by
  unfold State.engage; simp (maxDischargeDepth := 60) [State.wf_mk, State.wf_fold, State.waiting_mk, State.waiting_fold, *]
@[simp] theorem State.checkPhase_wf {s n ph} (h : State.wf s = true) : State.wf (State.checkPhase s n ph) = true := by
  unfold State.checkPhase; simp +contextual (maxDischargeDepth := 60) [State.wf_mk, State.wf_fold, State.waiting_mk, State.waiting_fold, *]
@[simp] theorem State.checkPhase_pending {s n ph} : State.waiting (State.checkPhase s n ph) = State.waiting s := by
  unfold State.checkPhase; simp (maxDischargeDepth := 60) [State.wf_mk, State.wf_fold, State.waiting_mk, State.waiting_fold, *]
@[simp] theorem State.startPhases_wf {s n} (h : State.wf s = true) : State.wf (State.startPhases s n) = true := by
  unfold State.startPhases; simp +contextual (maxDischargeDepth := 60) [State.wf_mk, State.wf_fold, State.waiting_mk, State.waiting_fold, *]
@[simp] theorem State.startPhases_pending {s n} : State.waiting (State.startPhases s n) = State.waiting s := by
  unfold State.startPhases; simp (maxDischargeDepth := 60) [State.wf_mk, State.wf_fold, State.waiting_mk, State.waiting_fold, *]
@[simp] theorem State.restCheck_wf {s n} (h : State.wf s = true) : State.wf (State.restCheck s n) = true := by
  unfold State.restCheck; simp +contextual (maxDischargeDepth := 60) [State.wf_mk, State.wf_fold, State.waiting_mk, State.waiting_fold, *]
@[simp] theorem State.restCheck_pending {s n} : State.waiting (State.restCheck s n) = State.waiting s := by
  unfold State.restCheck
  extract_lets v0
  have h_v0 : State.waiting v0 = State.waiting s := by subst v0; simp (maxDischargeDepth := 60) [State.wf_mk, State.wf_fold, State.waiting_mk, State.waiting_fold, *]
  clear_value v0
  simp (maxDischargeDepth := 60) [State.wf_mk, State.wf_fold, State.waiting_mk, State.waiting_fold, *]
@[simp] theorem State.leaveRest_wf {s n} (h : State.wf s = true) : State.wf (State.leaveRest s n) = true := by
  unfold State.leaveRest; simp (maxDischargeDepth := 60) [State.wf_mk, State.wf_fold, State.waiting_mk, State.waiting_fold, *]
@[simp] theorem State.leaveRest_pending {s n} : State.waiting (State.leaveRest s n) = State.waiting s := by
  unfold State.leaveRest; simp (maxDischargeDepth := 60) [State.wf_mk, State.wf_fold, State.waiting_mk, State.waiting_fold, *]
@[simp] theorem State.stepBegins_wf {s n t} (h : State.wf s = true) : State.wf (State.stepBegins s n t) = true := by
  unfold State.stepBegins
  extract_lets v0
  have h_v0 : State.wf v0 = true := by subst v0; simp (maxDischargeDepth := 60) [State.wf_mk, State.wf_fold, State.waiting_mk, State.waiting_fold, *]
  clear_value v0
  simp (maxDischargeDepth := 60) [State.wf_mk, State.wf_fold, State.waiting_mk, State.waiting_fold, *]
@[simp] theorem State.stepBegins_pending {s n t} : State.waiting (State.stepBegins s n t) = State.waiting s := by
  unfold State.stepBegins
  extract_lets v0
  have h_v0 : State.waiting v0 = State.waiting s := by subst v0; simp (maxDischargeDepth := 60) [State.wf_mk, State.wf_fold, State.waiting_mk, State.waiting_fold, *]
  clear_value v0
  simp (maxDischargeDepth := 60) [State.wf_mk, State.wf_fold, State.waiting_mk, State.waiting_fold, *]
@[simp] theorem State.cvStart_wf {s n} (h : State.wf s = true) : State.wf (State.cvStart s n) = true := by
  unfold State.cvStart; simp (maxDischargeDepth := 60) [State.wf_mk, State.wf_fold, State.waiting_mk, State.waiting_fold, *]
@[simp] theorem State.cvStart_pending {s n} : State.waiting (State.cvStart s n) = State.waiting s := by
  unfold State.cvStart; simp (maxDischargeDepth := 60) [State.wf_mk, State.wf_fold, State.waiting_mk, State.waiting_fold, *]
@[simp] theorem State.startWaiting_wf {s n} (h : State.wf s = true) : State.wf (State.startWaiting s n) = true := by
  unfold State.startWaiting
  extract_lets v0
  have h_v0 : State.wf v0 = true := by subst v0; simp +contextual (maxDischargeDepth := 60) [State.wf_mk, State.wf_fold, State.waiting_mk, State.waiting_fold, *]
  clear_value v0
  simp (maxDischargeDepth := 60) [State.wf_mk, State.wf_fold, State.waiting_mk, State.waiting_fold, *]
@[simp] theorem State.startWaiting_pending {s n} : State.waiting (State.startWaiting s n) = State.waiting s := by
  unfold State.startWaiting; simp (maxDischargeDepth := 60) [State.wf_mk, State.wf_fold, State.waiting_mk, State.waiting_fold, *]

/-! Machine/Feeds.lean -/

@[simp] theorem State.modF_wf {s f g} (h : State.wf s = true) : State.wf (State.modF s f g) = true := by
  unfold State.modF; simp (maxDischargeDepth := 60) [State.wf_mk, State.wf_fold, State.waiting_mk, State.waiting_fold, *]
@[simp] theorem State.modF_pending {s f g} : State.waiting (State.modF s f g) = State.waiting s := by
  unfold State.modF; simp (maxDischargeDepth := 60) [State.wf_mk, State.wf_fold, State.waiting_mk, State.waiting_fold, *]
@[simp] theorem State.modSel_wf {s g} (h : State.wf s = true) : State.wf (State.modSel s g) = true := by
  unfold State.modSel; simp (maxDischargeDepth := 60) [State.wf_mk, State.wf_fold, State.waiting_mk, State.waiting_fold, *]
@[simp] theorem State.modSel_pending {s g} : State.waiting (State.modSel s g) = State.waiting s := by
  unfold State.modSel; simp (maxDischargeDepth := 60) [State.wf_mk, State.wf_fold, State.waiting_mk, State.waiting_fold, *]
@[simp] theorem State.modHu_wf {s g} (h : State.wf s = true) : State.wf (State.modHu s g) = true := by
  unfold State.modHu; simp (maxDischargeDepth := 60) [State.wf_mk, State.wf_fold, State.waiting_mk, State.waiting_fold, *]
@[simp] theorem State.modHu_pending {s g} : State.waiting (State.modHu s g) = State.waiting s := by
  unfold State.modHu; simp (maxDischargeDepth := 60) [State.wf_mk, State.wf_fold, State.waiting_mk, State.waiting_fold, *]
@[simp] theorem State.setLim_wf {s f on t} (h : State.wf s = true) : State.wf (State.setLim s f on t) = true := by
  unfold State.setLim; simp (maxDischargeDepth := 60) [State.wf_mk, State.wf_fold, State.waiting_mk, State.waiting_fold, *]
@[simp] theorem State.setLim_pending {s f on t} : State.waiting (State.setLim s f on t) = State.waiting s := by
  unfold State.setLim; simp (maxDischargeDepth := 60) [State.wf_mk, State.wf_fold, State.waiting_mk, State.waiting_fold, *]
@[simp] theorem State.setServ_wf {s} (h : State.wf s = true) : State.wf (State.setServ s) = true := by
  unfold State.setServ; simp (maxDischargeDepth := 60) [State.wf_mk, State.wf_fold, State.waiting_mk, State.waiting_fold, *]
@[simp] theorem State.setServ_pending {s} : State.waiting (State.setServ s) = State.waiting s := by
  unfold State.setServ; simp (maxDischargeDepth := 60) [State.wf_mk, State.wf_fold, State.waiting_mk, State.waiting_fold, *]
@[simp] theorem State.capEnd_wf {s f last} (h : State.wf s = true) : State.wf (State.capEnd s f last) = true := by
  unfold State.capEnd; simp (maxDischargeDepth := 60) [State.wf_mk, State.wf_fold, State.waiting_mk, State.waiting_fold, *]
@[simp] theorem State.capEnd_pending {s f last} : State.waiting (State.capEnd s f last) = State.waiting s := by
  unfold State.capEnd; simp (maxDischargeDepth := 60) [State.wf_mk, State.wf_fold, State.waiting_mk, State.waiting_fold, *]
@[simp] theorem State.capAbandon_wf {s f} (h : State.wf s = true) : State.wf (State.capAbandon s f) = true := by
  unfold State.capAbandon; (repeat' split) <;> simp (maxDischargeDepth := 60) [State.wf_mk, State.wf_fold, State.waiting_mk, State.waiting_fold, *]
@[simp] theorem State.capAbandon_pending {s f} : State.waiting (State.capAbandon s f) = State.waiting s := by
  unfold State.capAbandon; (repeat' split) <;> simp (maxDischargeDepth := 60) [State.wf_mk, State.wf_fold, State.waiting_mk, State.waiting_fold, *]
@[simp] theorem State.endChange_wf {s f} (h : State.wf s = true) : State.wf (State.endChange s f) = true := by
  unfold State.endChange; simp (maxDischargeDepth := 60) [State.wf_mk, State.wf_fold, State.waiting_mk, State.waiting_fold, *]
@[simp] theorem State.endChange_pending {s f} : State.waiting (State.endChange s f) = State.waiting s := by
  unfold State.endChange; simp (maxDischargeDepth := 60) [State.wf_mk, State.wf_fold, State.waiting_mk, State.waiting_fold, *]
@[simp] theorem State.setFeed_wf {s f st} (h : State.wf s = true) : State.wf (State.setFeed s f st) = true := by
  unfold State.setFeed; simp (maxDischargeDepth := 60) [State.wf_mk, State.wf_fold, State.waiting_mk, State.waiting_fold, *]
@[simp] theorem State.setFeed_pending {s f st} : State.waiting (State.setFeed s f st) = State.waiting s := by
  unfold State.setFeed; simp (maxDischargeDepth := 60) [State.wf_mk, State.wf_fold, State.waiting_mk, State.waiting_fold, *]
@[simp] theorem State.rideCheck_wf {s} (h : State.wf s = true) : State.wf (State.rideCheck s) = true := by
  unfold State.rideCheck; simp (maxDischargeDepth := 60) [State.wf_mk, State.wf_fold, State.waiting_mk, State.waiting_fold, *]
@[simp] theorem State.rideCheck_pending {s} : State.waiting (State.rideCheck s) = State.waiting s := by
  unfold State.rideCheck; simp (maxDischargeDepth := 60) [State.wf_mk, State.wf_fold, State.waiting_mk, State.waiting_fold, *]
@[simp] theorem State.pickFeed_wf {s f was} (h : State.wf s = true) : State.wf (State.pickFeed s f was) = true := by
  unfold State.pickFeed; simp (maxDischargeDepth := 60) [State.wf_mk, State.wf_fold, State.waiting_mk, State.waiting_fold, *]
@[simp] theorem State.pickFeed_pending {s f was} : State.waiting (State.pickFeed s f was) = State.waiting s := by
  unfold State.pickFeed; simp (maxDischargeDepth := 60) [State.wf_mk, State.wf_fold, State.waiting_mk, State.waiting_fold, *]
@[simp] theorem State.deselect_wf {s f} (h : State.wf s = true) : State.wf (State.deselect s f) = true := by
  unfold State.deselect; simp (maxDischargeDepth := 60) [State.wf_mk, State.wf_fold, State.waiting_mk, State.waiting_fold, *]
@[simp] theorem State.deselect_pending {s f} : State.waiting (State.deselect s f) = State.waiting s := by
  unfold State.deselect; simp (maxDischargeDepth := 60) [State.wf_mk, State.wf_fold, State.waiting_mk, State.waiting_fold, *]
@[simp] theorem State.selectOnly_wf {s f was} (h : State.wf s = true) : State.wf (State.selectOnly s f was) = true := by
  unfold State.selectOnly
  extract_lets v0
  have h_v0 : State.wf v0 = true := by subst v0; simp (maxDischargeDepth := 60) [State.wf_mk, State.wf_fold, State.waiting_mk, State.waiting_fold, *]
  clear_value v0
  simp (maxDischargeDepth := 60) [State.wf_mk, State.wf_fold, State.waiting_mk, State.waiting_fold, *]
@[simp] theorem State.selectOnly_pending {s f was} : State.waiting (State.selectOnly s f was) = State.waiting s := by
  unfold State.selectOnly
  extract_lets v0
  have h_v0 : State.waiting v0 = State.waiting s := by subst v0; simp (maxDischargeDepth := 60) [State.wf_mk, State.wf_fold, State.waiting_mk, State.waiting_fold, *]
  clear_value v0
  simp (maxDischargeDepth := 60) [State.wf_mk, State.wf_fold, State.waiting_mk, State.waiting_fold, *]
@[simp] theorem State.selectAuto_wf {s was} (h : State.wf s = true) : State.wf (State.selectAuto s was) = true := by
  unfold State.selectAuto; simp (maxDischargeDepth := 60) [State.wf_mk, State.wf_fold, State.waiting_mk, State.waiting_fold, *]
@[simp] theorem State.selectAuto_pending {s was} : State.waiting (State.selectAuto s was) = State.waiting s := by
  unfold State.selectAuto; simp (maxDischargeDepth := 60) [State.wf_mk, State.wf_fold, State.waiting_mk, State.waiting_fold, *]
@[simp] theorem State.feedEval_wf {s was} (h : State.wf s = true) : State.wf (State.feedEval s was) = true := by
  unfold State.feedEval; (repeat' split) <;> simp (maxDischargeDepth := 60) [State.wf_mk, State.wf_fold, State.waiting_mk, State.waiting_fold, *]
@[simp] theorem State.feedEval_pending {s was} : State.waiting (State.feedEval s was) = State.waiting s := by
  unfold State.feedEval; (repeat' split) <;> simp (maxDischargeDepth := 60) [State.wf_mk, State.wf_fold, State.waiting_mk, State.waiting_fold, *]
@[simp] theorem State.feedQual_wf {s f} (h : State.wf s = true) : State.wf (State.feedQual s f) = true := by
  unfold State.feedQual; simp (maxDischargeDepth := 60) [State.wf_mk, State.wf_fold, State.waiting_mk, State.waiting_fold, *]
@[simp] theorem State.feedQual_pending {s f} : State.waiting (State.feedQual s f) = State.waiting s := by
  unfold State.feedQual; simp (maxDischargeDepth := 60) [State.wf_mk, State.wf_fold, State.waiting_mk, State.waiting_fold, *]
@[simp] theorem State.feedTick_wf {s} (h : State.wf s = true) : State.wf (State.feedTick s) = true := by
  unfold State.feedTick
  extract_lets v0
  have h_v0 : State.wf v0 = true := by subst v0; simp (maxDischargeDepth := 60) [State.wf_mk, State.wf_fold, State.waiting_mk, State.waiting_fold, *]
  clear_value v0
  simp (maxDischargeDepth := 60) [State.wf_mk, State.wf_fold, State.waiting_mk, State.waiting_fold, *]
@[simp] theorem State.feedTick_pending {s} : State.waiting (State.feedTick s) = State.waiting s := by
  unfold State.feedTick
  extract_lets v0
  have h_v0 : State.waiting v0 = State.waiting s := by subst v0; simp (maxDischargeDepth := 60) [State.wf_mk, State.wf_fold, State.waiting_mk, State.waiting_fold, *]
  clear_value v0
  simp (maxDischargeDepth := 60) [State.wf_mk, State.wf_fold, State.waiting_mk, State.waiting_fold, *]
@[simp] theorem State.faultFeed_wf {s f bit} (h : State.wf s = true) : State.wf (State.faultFeed s f bit) = true := by
  unfold State.faultFeed
  extract_lets v0 v1
  clear_value v0
  have h_v1 : State.wf v1 = true := by subst v1; simp (maxDischargeDepth := 60) [State.wf_mk, State.wf_fold, State.waiting_mk, State.waiting_fold, *]
  clear_value v1
  simp (maxDischargeDepth := 60) [State.wf_mk, State.wf_fold, State.waiting_mk, State.waiting_fold, *]
@[simp] theorem State.faultFeed_pending {s f bit} : State.waiting (State.faultFeed s f bit) = State.waiting s := by
  unfold State.faultFeed
  extract_lets v0 v1
  clear_value v0
  have h_v1 : State.waiting v1 = State.waiting s := by subst v1; simp (maxDischargeDepth := 60) [State.wf_mk, State.wf_fold, State.waiting_mk, State.waiting_fold, *]
  clear_value v1
  simp (maxDischargeDepth := 60) [State.wf_mk, State.wf_fold, State.waiting_mk, State.waiting_fold, *]
@[simp] theorem State.bounceFeed_wf {s f} (h : State.wf s = true) : State.wf (State.bounceFeed s f) = true := by
  unfold State.bounceFeed
  extract_lets v0 v1 v2 v3
  clear_value v0
  clear_value v1
  have h_v2 : State.wf v2 = true := by subst v2; simp (maxDischargeDepth := 60) [State.wf_mk, State.wf_fold, State.waiting_mk, State.waiting_fold, *]
  clear_value v2
  have h_v3 : State.wf v3 = true := by subst v3; simp (maxDischargeDepth := 60) [State.wf_mk, State.wf_fold, State.waiting_mk, State.waiting_fold, *]
  clear_value v3
  simp (maxDischargeDepth := 60) [State.wf_mk, State.wf_fold, State.waiting_mk, State.waiting_fold, *]
@[simp] theorem State.bounceFeed_pending {s f} : State.waiting (State.bounceFeed s f) = State.waiting s := by
  unfold State.bounceFeed
  extract_lets v0 v1 v2 v3
  clear_value v0
  clear_value v1
  have h_v2 : State.waiting v2 = State.waiting s := by subst v2; simp (maxDischargeDepth := 60) [State.wf_mk, State.wf_fold, State.waiting_mk, State.waiting_fold, *]
  clear_value v2
  have h_v3 : State.waiting v3 = State.waiting s := by subst v3; simp (maxDischargeDepth := 60) [State.wf_mk, State.wf_fold, State.waiting_mk, State.waiting_fold, *]
  clear_value v3
  simp (maxDischargeDepth := 60) [State.wf_mk, State.wf_fold, State.waiting_mk, State.waiting_fold, *]
@[simp] theorem State.vinLeave_wf {s f} (h : State.wf s = true) : State.wf (State.vinLeave s f) = true := by
  unfold State.vinLeave
  extract_lets v0
  have h_v0 : State.wf v0 = true := by subst v0; simp (maxDischargeDepth := 60) [State.wf_mk, State.wf_fold, State.waiting_mk, State.waiting_fold, *]
  clear_value v0
  simp (maxDischargeDepth := 60) [State.wf_mk, State.wf_fold, State.waiting_mk, State.waiting_fold, *]
@[simp] theorem State.vinLeave_pending {s f} : State.waiting (State.vinLeave s f) = State.waiting s := by
  unfold State.vinLeave
  extract_lets v0
  have h_v0 : State.waiting v0 = State.waiting s := by subst v0; simp (maxDischargeDepth := 60) [State.wf_mk, State.wf_fold, State.waiting_mk, State.waiting_fold, *]
  clear_value v0
  simp (maxDischargeDepth := 60) [State.wf_mk, State.wf_fold, State.waiting_mk, State.waiting_fold, *]
@[simp] theorem State.rampIfClear_wf {s f} (h : State.wf s = true) : State.wf (State.rampIfClear s f) = true := by
  unfold State.rampIfClear; simp (maxDischargeDepth := 60) [State.wf_mk, State.wf_fold, State.waiting_mk, State.waiting_fold, *]
@[simp] theorem State.rampIfClear_pending {s f} : State.waiting (State.rampIfClear s f) = State.waiting s := by
  unfold State.rampIfClear; simp (maxDischargeDepth := 60) [State.wf_mk, State.wf_fold, State.waiting_mk, State.waiting_fold, *]
@[simp] theorem State.feedClear_wf {s f val} (h : State.wf s = true) : State.wf (State.feedClear s f val) = true := by
  unfold State.feedClear
  extract_lets v0 v1
  have h_v0 : State.wf v0 = true := by subst v0; simp (maxDischargeDepth := 60) [State.wf_mk, State.wf_fold, State.waiting_mk, State.waiting_fold, *]
  clear_value v0
  have h_v1 : State.wf v1 = true := by subst v1; simp (maxDischargeDepth := 60) [State.wf_mk, State.wf_fold, State.waiting_mk, State.waiting_fold, *]
  clear_value v1
  simp (maxDischargeDepth := 60) [State.wf_mk, State.wf_fold, State.waiting_mk, State.waiting_fold, *]
@[simp] theorem State.feedClear_pending {s f val} : State.waiting (State.feedClear s f val) = State.waiting s := by
  unfold State.feedClear
  extract_lets v0 v1
  have h_v0 : State.waiting v0 = State.waiting s := by subst v0; simp (maxDischargeDepth := 60) [State.wf_mk, State.wf_fold, State.waiting_mk, State.waiting_fold, *]
  clear_value v0
  have h_v1 : State.waiting v1 = State.waiting s := by subst v1; simp (maxDischargeDepth := 60) [State.wf_mk, State.wf_fold, State.waiting_mk, State.waiting_fold, *]
  clear_value v1
  simp (maxDischargeDepth := 60) [State.wf_mk, State.wf_fold, State.waiting_mk, State.waiting_fold, *]
@[simp] theorem State.feedDisable_wf {s f} (h : State.wf s = true) : State.wf (State.feedDisable s f) = true := by
  unfold State.feedDisable; simp (maxDischargeDepth := 60) [State.wf_mk, State.wf_fold, State.waiting_mk, State.waiting_fold, *]
@[simp] theorem State.feedDisable_pending {s f} : State.waiting (State.feedDisable s f) = State.waiting s := by
  unfold State.feedDisable; simp (maxDischargeDepth := 60) [State.wf_mk, State.wf_fold, State.waiting_mk, State.waiting_fold, *]
@[simp] theorem State.feedSelWrite_wf {s val} (h : State.wf s = true) : State.wf (State.feedSelWrite s val) = true := by
  unfold State.feedSelWrite
  extract_lets v0 v1
  clear_value v0
  have h_v1 : State.wf v1 = true := by subst v1; simp (maxDischargeDepth := 60) [State.wf_mk, State.wf_fold, State.waiting_mk, State.waiting_fold, *]
  clear_value v1
  simp (maxDischargeDepth := 60) [State.wf_mk, State.wf_fold, State.waiting_mk, State.waiting_fold, *]
@[simp] theorem State.feedSelWrite_pending {s val} : State.waiting (State.feedSelWrite s val) = State.waiting s := by
  unfold State.feedSelWrite
  extract_lets v0 v1
  clear_value v0
  have h_v1 : State.waiting v1 = State.waiting s := by subst v1; simp (maxDischargeDepth := 60) [State.wf_mk, State.wf_fold, State.waiting_mk, State.waiting_fold, *]
  clear_value v1
  simp (maxDischargeDepth := 60) [State.wf_mk, State.wf_fold, State.waiting_mk, State.waiting_fold, *]
@[simp] theorem State.capResult_wf {s f c} (h : State.wf s = true) : State.wf (State.capResult s f c) = true := by
  unfold State.capResult
  extract_lets v0
  have h_v0 : State.wf v0 = true := by subst v0; simp (maxDischargeDepth := 60) [State.wf_mk, State.wf_fold, State.waiting_mk, State.waiting_fold, *]
  clear_value v0
  simp (maxDischargeDepth := 60) [State.wf_mk, State.wf_fold, State.waiting_mk, State.waiting_fold, *]
@[simp] theorem State.capResult_pending {s f c} : State.waiting (State.capResult s f c) = State.waiting s := by
  unfold State.capResult
  extract_lets v0
  have h_v0 : State.waiting v0 = State.waiting s := by subst v0; simp (maxDischargeDepth := 60) [State.wf_mk, State.wf_fold, State.waiting_mk, State.waiting_fold, *]
  clear_value v0
  simp (maxDischargeDepth := 60) [State.wf_mk, State.wf_fold, State.waiting_mk, State.waiting_fold, *]
@[simp] theorem State.meterEnergy_wf {s f p} (h : State.wf s = true) : State.wf (State.meterEnergy s f p) = true := by
  unfold State.meterEnergy; simp (maxDischargeDepth := 60) [State.wf_mk, State.wf_fold, State.waiting_mk, State.waiting_fold, *]
@[simp] theorem State.meterEnergy_pending {s f p} : State.waiting (State.meterEnergy s f p) = State.waiting s := by
  unfold State.meterEnergy; simp (maxDischargeDepth := 60) [State.wf_mk, State.wf_fold, State.waiting_mk, State.waiting_fold, *]
@[simp] theorem State.meterFeed_wf {s f v i} (h : State.wf s = true) : State.wf (State.meterFeed s f v i) = true := by
  unfold State.meterFeed; simp (maxDischargeDepth := 60) [State.wf_mk, State.wf_fold, State.waiting_mk, State.waiting_fold, *]
@[simp] theorem State.meterFeed_pending {s f v i} : State.waiting (State.meterFeed s f v i) = State.waiting s := by
  unfold State.meterFeed; simp (maxDischargeDepth := 60) [State.wf_mk, State.wf_fold, State.waiting_mk, State.waiting_fold, *]
@[simp] theorem State.meterPublish_wf {s f} (h : State.wf s = true) : State.wf (State.meterPublish s f) = true := by
  unfold State.meterPublish
  extract_lets v0 v1
  clear_value v0
  have h_v1 : State.wf v1 = true := by subst v1; simp (maxDischargeDepth := 60) [State.wf_mk, State.wf_fold, State.waiting_mk, State.waiting_fold, *]
  clear_value v1
  simp (maxDischargeDepth := 60) [State.wf_mk, State.wf_fold, State.waiting_mk, State.waiting_fold, *]
@[simp] theorem State.meterPublish_pending {s f} : State.waiting (State.meterPublish s f) = State.waiting s := by
  unfold State.meterPublish
  extract_lets v0 v1
  clear_value v0
  have h_v1 : State.waiting v1 = State.waiting s := by subst v1; simp (maxDischargeDepth := 60) [State.wf_mk, State.wf_fold, State.waiting_mk, State.waiting_fold, *]
  clear_value v1
  simp (maxDischargeDepth := 60) [State.wf_mk, State.wf_fold, State.waiting_mk, State.waiting_fold, *]
@[simp] theorem State.meterGate_wf {s f vin gs} (h : State.wf s = true) : State.wf (State.meterGate s f vin gs) = true := by
  unfold State.meterGate
  extract_lets v0
  have h_v0 : State.wf v0 = true := by subst v0; simp (maxDischargeDepth := 60) [State.wf_mk, State.wf_fold, State.waiting_mk, State.waiting_fold, *]
  clear_value v0
  simp (maxDischargeDepth := 60) [State.wf_mk, State.wf_fold, State.waiting_mk, State.waiting_fold, *]
@[simp] theorem State.meterGate_pending {s f vin gs} : State.waiting (State.meterGate s f vin gs) = State.waiting s := by
  unfold State.meterGate
  extract_lets v0
  have h_v0 : State.waiting v0 = State.waiting s := by subst v0; simp (maxDischargeDepth := 60) [State.wf_mk, State.wf_fold, State.waiting_mk, State.waiting_fold, *]
  clear_value v0
  simp (maxDischargeDepth := 60) [State.wf_mk, State.wf_fold, State.waiting_mk, State.waiting_fold, *]
@[simp] theorem State.meterTake_wf {s inp} (h : State.wf s = true) : State.wf (State.meterTake s inp) = true := by
  unfold State.meterTake
  extract_lets v0 v1 v2 v3
  have h_v0 : State.wf v0 = true := by subst v0; simp (maxDischargeDepth := 60) [State.wf_mk, State.wf_fold, State.waiting_mk, State.waiting_fold, *]
  clear_value v0
  have h_v1 : State.wf v1 = true := by subst v1; simp (maxDischargeDepth := 60) [State.wf_mk, State.wf_fold, State.waiting_mk, State.waiting_fold, *]
  clear_value v1
  have h_v2 : State.wf v2 = true := by subst v2; simp (maxDischargeDepth := 60) [State.wf_mk, State.wf_fold, State.waiting_mk, State.waiting_fold, *]
  clear_value v2
  have h_v3 : State.wf v3 = true := by subst v3; simp (maxDischargeDepth := 60) [State.wf_mk, State.wf_fold, State.waiting_mk, State.waiting_fold, *]
  clear_value v3
  ((repeat' split) <;> (try extract_lets) <;> simp +zetaDelta +contextual (maxDischargeDepth := 60) [State.wf_mk, State.wf_fold, State.waiting_mk, State.waiting_fold, *])
@[simp] theorem State.meterTake_pending {s inp} : State.waiting (State.meterTake s inp) = State.waiting s := by
  unfold State.meterTake
  extract_lets v0 v1 v2 v3
  have h_v0 : State.waiting v0 = State.waiting s := by subst v0; simp (maxDischargeDepth := 60) [State.wf_mk, State.wf_fold, State.waiting_mk, State.waiting_fold, *]
  clear_value v0
  have h_v1 : State.waiting v1 = State.waiting s := by subst v1; simp (maxDischargeDepth := 60) [State.wf_mk, State.wf_fold, State.waiting_mk, State.waiting_fold, *]
  clear_value v1
  have h_v2 : State.waiting v2 = State.waiting s := by subst v2; simp (maxDischargeDepth := 60) [State.wf_mk, State.wf_fold, State.waiting_mk, State.waiting_fold, *]
  clear_value v2
  have h_v3 : State.waiting v3 = State.waiting s := by subst v3; simp (maxDischargeDepth := 60) [State.wf_mk, State.wf_fold, State.waiting_mk, State.waiting_fold, *]
  clear_value v3
  ((repeat' split) <;> (try extract_lets) <;> simp +zetaDelta +contextual (maxDischargeDepth := 60) [State.wf_mk, State.wf_fold, State.waiting_mk, State.waiting_fold, *])

/-! Machine/Holdup.lean -/

@[simp] theorem State.strapFault_wf {s n v} (h : State.wf s = true) : State.wf (State.strapFault s n v) = true := by
  unfold State.strapFault
  extract_lets v0 v1 v2
  have h_v0 : State.wf v0 = true := by subst v0; simp (maxDischargeDepth := 60) [State.wf_mk, State.wf_fold, State.waiting_mk, State.waiting_fold, *]
  clear_value v0
  have h_v1 : State.wf v1 = true := by subst v1; ((repeat' split) <;> simp (maxDischargeDepth := 60) [State.wf_mk, State.wf_fold, State.waiting_mk, State.waiting_fold, *])
  clear_value v1
  have h_v2 : State.wf v2 = true := by subst v2; ((repeat' split) <;> simp (maxDischargeDepth := 60) [State.wf_mk, State.wf_fold, State.waiting_mk, State.waiting_fold, *])
  clear_value v2
  simp (maxDischargeDepth := 60) [State.wf_mk, State.wf_fold, State.waiting_mk, State.waiting_fold, *]
@[simp] theorem State.strapFault_pending {s n v} : State.waiting (State.strapFault s n v) = State.waiting s := by
  unfold State.strapFault
  extract_lets v0 v1 v2
  have h_v0 : State.waiting v0 = State.waiting s := by subst v0; simp (maxDischargeDepth := 60) [State.wf_mk, State.wf_fold, State.waiting_mk, State.waiting_fold, *]
  clear_value v0
  have h_v1 : State.waiting v1 = State.waiting s := by subst v1; ((repeat' split) <;> simp (maxDischargeDepth := 60) [State.wf_mk, State.wf_fold, State.waiting_mk, State.waiting_fold, *])
  clear_value v1
  have h_v2 : State.waiting v2 = State.waiting s := by subst v2; ((repeat' split) <;> simp (maxDischargeDepth := 60) [State.wf_mk, State.wf_fold, State.waiting_mk, State.waiting_fold, *])
  clear_value v2
  simp (maxDischargeDepth := 60) [State.wf_mk, State.wf_fold, State.waiting_mk, State.waiting_fold, *]
@[simp] theorem State.readStraps_wf {s x} (h : State.wf s = true) : State.wf (State.readStraps s x) = true := by
  unfold State.readStraps; dsimp only; (repeat' split) <;> simp +contextual (maxDischargeDepth := 60) [State.wf_mk, State.wf_fold, State.waiting_mk, State.waiting_fold, *]
@[simp] theorem State.readStraps_pending {s x} : State.waiting (State.readStraps s x) = State.waiting s := by
  unfold State.readStraps; dsimp only; (repeat' split) <;> simp +contextual (maxDischargeDepth := 60) [State.wf_mk, State.wf_fold, State.waiting_mk, State.waiting_fold, *]
@[simp] theorem State.haltEntry_wf {s} (h : State.wf s = true) : State.wf (State.haltEntry s) = true := by
  unfold State.haltEntry
  extract_lets v0
  have h_v0 : State.wf v0 = true := by subst v0; simp (maxDischargeDepth := 60) [State.wf_mk, State.wf_fold, State.waiting_mk, State.waiting_fold, *]
  clear_value v0
  simp (maxDischargeDepth := 60) [State.wf_mk, State.wf_fold, State.waiting_mk, State.waiting_fold, *]
@[simp] theorem State.haltEntry_pending {s} : State.waiting (State.haltEntry s) = State.waiting s := by
  unfold State.haltEntry
  extract_lets v0
  have h_v0 : State.waiting v0 = State.waiting s := by subst v0; simp (maxDischargeDepth := 60) [State.wf_mk, State.wf_fold, State.waiting_mk, State.waiting_fold, *]
  clear_value v0
  simp (maxDischargeDepth := 60) [State.wf_mk, State.wf_fold, State.waiting_mk, State.waiting_fold, *]
@[simp] theorem State.rideEnds_wf {s} (h : State.wf s = true) : State.wf (State.rideEnds s) = true := by
  unfold State.rideEnds; simp (maxDischargeDepth := 60) [State.wf_mk, State.wf_fold, State.waiting_mk, State.waiting_fold, *]
@[simp] theorem State.rideEnds_pending {s} : State.waiting (State.rideEnds s) = State.waiting s := by
  unfold State.rideEnds; simp (maxDischargeDepth := 60) [State.wf_mk, State.wf_fold, State.waiting_mk, State.waiting_fold, *]
@[simp] theorem State.rideBoundary_wf {s} (h : State.wf s = true) : State.wf (State.rideBoundary s) = true := by
  unfold State.rideBoundary; simp (maxDischargeDepth := 60) [State.wf_mk, State.wf_fold, State.waiting_mk, State.waiting_fold, *]
@[simp] theorem State.rideBoundary_pending {s} : State.waiting (State.rideBoundary s) = State.waiting s := by
  unfold State.rideBoundary; simp (maxDischargeDepth := 60) [State.wf_mk, State.wf_fold, State.waiting_mk, State.waiting_fold, *]
@[simp] theorem State.pathOff_wf {s} (h : State.wf s = true) : State.wf (State.pathOff s) = true := by
  unfold State.pathOff; simp (maxDischargeDepth := 60) [State.wf_mk, State.wf_fold, State.waiting_mk, State.waiting_fold, *]
@[simp] theorem State.pathOff_pending {s} : State.waiting (State.pathOff s) = State.waiting s := by
  unfold State.pathOff; simp (maxDischargeDepth := 60) [State.wf_mk, State.wf_fold, State.waiting_mk, State.waiting_fold, *]
@[simp] theorem State.preFail_wf {s} (h : State.wf s = true) : State.wf (State.preFail s) = true := by
  unfold State.preFail; simp (maxDischargeDepth := 60) [State.wf_mk, State.wf_fold, State.waiting_mk, State.waiting_fold, *]
@[simp] theorem State.preFail_pending {s} : State.waiting (State.preFail s) = State.waiting s := by
  unfold State.preFail; simp (maxDischargeDepth := 60) [State.wf_mk, State.wf_fold, State.waiting_mk, State.waiting_fold, *]
@[simp] theorem State.setHuLim_wf {s on} (h : State.wf s = true) : State.wf (State.setHuLim s on) = true := by
  unfold State.setHuLim; simp (maxDischargeDepth := 60) [State.wf_mk, State.wf_fold, State.waiting_mk, State.waiting_fold, *]
@[simp] theorem State.setHuLim_pending {s on} : State.waiting (State.setHuLim s on) = State.waiting s := by
  unfold State.setHuLim; simp (maxDischargeDepth := 60) [State.wf_mk, State.wf_fold, State.waiting_mk, State.waiting_fold, *]
@[simp] theorem State.wdtKick_wf {s} (h : State.wf s = true) : State.wf (State.wdtKick s) = true := by
  unfold State.wdtKick; simp (maxDischargeDepth := 60) [State.wf_mk, State.wf_fold, State.waiting_mk, State.waiting_fold, *]
@[simp] theorem State.wdtKick_pending {s} : State.waiting (State.wdtKick s) = State.waiting s := by
  unfold State.wdtKick; simp (maxDischargeDepth := 60) [State.wf_mk, State.wf_fold, State.waiting_mk, State.waiting_fold, *]
@[simp] theorem State.wdtConfirm_wf {s} (h : State.wf s = true) : State.wf (State.wdtConfirm s) = true := by
  unfold State.wdtConfirm; simp (maxDischargeDepth := 60) [State.wf_mk, State.wf_fold, State.waiting_mk, State.waiting_fold, *]
@[simp] theorem State.wdtConfirm_pending {s} : State.waiting (State.wdtConfirm s) = State.waiting s := by
  unfold State.wdtConfirm; simp (maxDischargeDepth := 60) [State.wf_mk, State.wf_fold, State.waiting_mk, State.waiting_fold, *]
@[simp] theorem State.chargerDrive_wf {s was st} (h : State.wf s = true) : State.wf (State.chargerDrive s was st) = true := by
  unfold State.chargerDrive; simp (maxDischargeDepth := 60) [State.wf_mk, State.wf_fold, State.waiting_mk, State.waiting_fold, *]
@[simp] theorem State.chargerDrive_pending {s was st} : State.waiting (State.chargerDrive s was st) = State.waiting s := by
  unfold State.chargerDrive; simp (maxDischargeDepth := 60) [State.wf_mk, State.wf_fold, State.waiting_mk, State.waiting_fold, *]
@[simp] theorem State.chargerTick_wf {s} (h : State.wf s = true) : State.wf (State.chargerTick s) = true := by
  unfold State.chargerTick; simp (maxDischargeDepth := 60) [State.wf_mk, State.wf_fold, State.waiting_mk, State.waiting_fold, *]
@[simp] theorem State.chargerTick_pending {s} : State.waiting (State.chargerTick s) = State.waiting s := by
  unfold State.chargerTick; simp (maxDischargeDepth := 60) [State.wf_mk, State.wf_fold, State.waiting_mk, State.waiting_fold, *]
@[simp] theorem State.gaugeWords_wf {s} (h : State.wf s = true) : State.wf (State.gaugeWords s) = true := by
  unfold State.gaugeWords; simp (maxDischargeDepth := 60) [State.wf_mk, State.wf_fold, State.waiting_mk, State.waiting_fold, *]
@[simp] theorem State.gaugeWords_pending {s} : State.waiting (State.gaugeWords s) = State.waiting s := by
  unfold State.gaugeWords; simp (maxDischargeDepth := 60) [State.wf_mk, State.wf_fold, State.waiting_mk, State.waiting_fold, *]
@[simp] theorem State.restCorrect_wf {s e1 soc} (h : State.wf s = true) : State.wf (State.restCorrect s e1 soc) = true := by
  unfold State.restCorrect
  extract_lets v0 v1 v2
  clear_value v0
  have h_v1 : State.wf v1 = true := by subst v1; simp (maxDischargeDepth := 60) [State.wf_mk, State.wf_fold, State.waiting_mk, State.waiting_fold, *]
  clear_value v1
  have h_v2 : State.wf v2 = true := by subst v2; simp (maxDischargeDepth := 60) [State.wf_mk, State.wf_fold, State.waiting_mk, State.waiting_fold, *]
  clear_value v2
  simp (maxDischargeDepth := 60) [State.wf_mk, State.wf_fold, State.waiting_mk, State.waiting_fold, *]
@[simp] theorem State.restCorrect_pending {s e1 soc} : State.waiting (State.restCorrect s e1 soc) = State.waiting s := by
  unfold State.restCorrect
  extract_lets v0 v1 v2
  clear_value v0
  have h_v1 : State.waiting v1 = State.waiting s := by subst v1; simp (maxDischargeDepth := 60) [State.wf_mk, State.wf_fold, State.waiting_mk, State.waiting_fold, *]
  clear_value v1
  have h_v2 : State.waiting v2 = State.waiting s := by subst v2; simp (maxDischargeDepth := 60) [State.wf_mk, State.wf_fold, State.waiting_mk, State.waiting_fold, *]
  clear_value v2
  simp (maxDischargeDepth := 60) [State.wf_mk, State.wf_fold, State.waiting_mk, State.waiting_fold, *]
@[simp] theorem State.norefDecay_wf {s} (h : State.wf s = true) : State.wf (State.norefDecay s) = true := by
  unfold State.norefDecay; simp (maxDischargeDepth := 60) [State.wf_mk, State.wf_fold, State.waiting_mk, State.waiting_fold, *]
@[simp] theorem State.norefDecay_pending {s} : State.waiting (State.norefDecay s) = State.waiting s := by
  unfold State.norefDecay; simp (maxDischargeDepth := 60) [State.wf_mk, State.wf_fold, State.waiting_mk, State.waiting_fold, *]
@[simp] theorem State.gaugeMinute_wf {s} (h : State.wf s = true) : State.wf (State.gaugeMinute s) = true := by
  unfold State.gaugeMinute; simp (maxDischargeDepth := 60) [State.wf_mk, State.wf_fold, State.waiting_mk, State.waiting_fold, *]
@[simp] theorem State.gaugeMinute_pending {s} : State.waiting (State.gaugeMinute s) = State.waiting s := by
  unfold State.gaugeMinute; simp (maxDischargeDepth := 60) [State.wf_mk, State.wf_fold, State.waiting_mk, State.waiting_fold, *]
@[simp] theorem State.relearn_wf {s soc} (h : State.wf s = true) : State.wf (State.relearn s soc) = true := by
  unfold State.relearn; (repeat' split) <;> simp (maxDischargeDepth := 60) [State.wf_mk, State.wf_fold, State.waiting_mk, State.waiting_fold, *]
@[simp] theorem State.relearn_pending {s soc} : State.waiting (State.relearn s soc) = State.waiting s := by
  unfold State.relearn; (repeat' split) <;> simp (maxDischargeDepth := 60) [State.wf_mk, State.wf_fold, State.waiting_mk, State.waiting_fold, *]
@[simp] theorem State.gaugeRestore_wf {s crc} (h : State.wf s = true) : State.wf (State.gaugeRestore s crc) = true := by
  unfold State.gaugeRestore; simp (maxDischargeDepth := 60) [State.wf_mk, State.wf_fold, State.waiting_mk, State.waiting_fold, *]
@[simp] theorem State.gaugeRestore_pending {s crc} : State.waiting (State.gaugeRestore s crc) = State.waiting s := by
  unfold State.gaugeRestore; simp (maxDischargeDepth := 60) [State.wf_mk, State.wf_fold, State.waiting_mk, State.waiting_fold, *]
@[simp] theorem State.huFltWrite_wf {s val} (h : State.wf s = true) : State.wf (State.huFltWrite s val) = true := by
  unfold State.huFltWrite; (repeat' split) <;> simp (maxDischargeDepth := 60) [State.wf_mk, State.wf_fold, State.waiting_mk, State.waiting_fold, *]
@[simp] theorem State.huFltWrite_pending {s val} : State.waiting (State.huFltWrite s val) = State.waiting s := by
  unfold State.huFltWrite; (repeat' split) <;> simp (maxDischargeDepth := 60) [State.wf_mk, State.wf_fold, State.waiting_mk, State.waiting_fold, *]
@[simp] theorem State.huCtlWrite_wf {s val} (h : State.wf s = true) : State.wf (State.huCtlWrite s val) = true := by
  unfold State.huCtlWrite; (repeat' split) <;> simp (maxDischargeDepth := 60) [State.wf_mk, State.wf_fold, State.waiting_mk, State.waiting_fold, *]
@[simp] theorem State.huCtlWrite_pending {s val} : State.waiting (State.huCtlWrite s val) = State.waiting s := by
  unfold State.huCtlWrite; (repeat' split) <;> simp (maxDischargeDepth := 60) [State.wf_mk, State.wf_fold, State.waiting_mk, State.waiting_fold, *]

/-! Machine/Ledger.lean -/

@[simp] theorem State.setScales_wf {s x} (h : State.wf s = true) : State.wf (State.setScales s x) = true := by
  unfold State.setScales; simp +contextual (maxDischargeDepth := 60) [State.wf_mk, State.wf_fold, State.waiting_mk, State.waiting_fold, *]
@[simp] theorem State.setScales_pending {s x} : State.waiting (State.setScales s x) = State.waiting s := by
  unfold State.setScales
  extract_lets v0 v1
  have h_v0 : State.waiting v0 = State.waiting s := by subst v0; simp (maxDischargeDepth := 60) [State.wf_mk, State.wf_fold, State.waiting_mk, State.waiting_fold, *]
  clear_value v0
  have h_v1 : State.waiting v1 = State.waiting s := by subst v1; simp (maxDischargeDepth := 60) [State.wf_mk, State.wf_fold, State.waiting_mk, State.waiting_fold, *]
  clear_value v1
  simp (maxDischargeDepth := 60) [State.wf_mk, State.wf_fold, State.waiting_mk, State.waiting_fold, *]
@[simp] theorem State.ledgerBreach_wf {s x y} (h : State.wf s = true) : State.wf (State.ledgerBreach s x y) = true := by
  unfold State.ledgerBreach
  extract_lets v0 v1 v2
  clear_value v0
  clear_value v1
  have h_v2 : State.wf v2 = true := by subst v2; simp (maxDischargeDepth := 60) [State.wf_mk, State.wf_fold, State.waiting_mk, State.waiting_fold, *]
  clear_value v2
  simp (maxDischargeDepth := 60) [State.wf_mk, State.wf_fold, State.waiting_mk, State.waiting_fold, *]
@[simp] theorem State.ledgerBreach_pending {s x y} : State.waiting (State.ledgerBreach s x y) = State.waiting s := by
  unfold State.ledgerBreach
  extract_lets v0 v1 v2
  clear_value v0
  clear_value v1
  have h_v2 : State.waiting v2 = State.waiting s := by subst v2; simp (maxDischargeDepth := 60) [State.wf_mk, State.wf_fold, State.waiting_mk, State.waiting_fold, *]
  clear_value v2
  simp (maxDischargeDepth := 60) [State.wf_mk, State.wf_fold, State.waiting_mk, State.waiting_fold, *]
@[simp] theorem State.ledgerFlags_wf {s x y} (h : State.wf s = true) : State.wf (State.ledgerFlags s x y) = true := by
  unfold State.ledgerFlags
  extract_lets v0 v1 v2 v3 v4 v5 v6
  clear_value v0
  have h_v1 : State.wf v1 = true := by subst v1; simp (maxDischargeDepth := 60) [State.wf_mk, State.wf_fold, State.waiting_mk, State.waiting_fold, *]
  clear_value v1
  have h_v2 : State.wf v2 = true := by subst v2; simp (maxDischargeDepth := 60) [State.wf_mk, State.wf_fold, State.waiting_mk, State.waiting_fold, *]
  clear_value v2
  have h_v3 : State.wf v3 = true := by subst v3; simp (maxDischargeDepth := 60) [State.wf_mk, State.wf_fold, State.waiting_mk, State.waiting_fold, *]
  clear_value v3
  have h_v4 : State.wf v4 = true := by subst v4; simp (maxDischargeDepth := 60) [State.wf_mk, State.wf_fold, State.waiting_mk, State.waiting_fold, *]
  clear_value v4
  have h_v5 : State.wf v5 = true := by subst v5; simp (maxDischargeDepth := 60) [State.wf_mk, State.wf_fold, State.waiting_mk, State.waiting_fold, *]
  clear_value v5
  have h_v6 : State.wf v6 = true := by subst v6; simp (maxDischargeDepth := 60) [State.wf_mk, State.wf_fold, State.waiting_mk, State.waiting_fold, *]
  clear_value v6
  simp (maxDischargeDepth := 60) [State.wf_mk, State.wf_fold, State.waiting_mk, State.waiting_fold, *]
@[simp] theorem State.ledgerFlags_pending {s x y} : State.waiting (State.ledgerFlags s x y) = State.waiting s := by
  unfold State.ledgerFlags
  extract_lets v0 v1 v2 v3 v4 v5 v6
  clear_value v0
  have h_v1 : State.waiting v1 = State.waiting s := by subst v1; simp (maxDischargeDepth := 60) [State.wf_mk, State.wf_fold, State.waiting_mk, State.waiting_fold, *]
  clear_value v1
  have h_v2 : State.waiting v2 = State.waiting s := by subst v2; simp (maxDischargeDepth := 60) [State.wf_mk, State.wf_fold, State.waiting_mk, State.waiting_fold, *]
  clear_value v2
  have h_v3 : State.waiting v3 = State.waiting s := by subst v3; simp (maxDischargeDepth := 60) [State.wf_mk, State.wf_fold, State.waiting_mk, State.waiting_fold, *]
  clear_value v3
  have h_v4 : State.waiting v4 = State.waiting s := by subst v4; simp (maxDischargeDepth := 60) [State.wf_mk, State.wf_fold, State.waiting_mk, State.waiting_fold, *]
  clear_value v4
  have h_v5 : State.waiting v5 = State.waiting s := by subst v5; simp (maxDischargeDepth := 60) [State.wf_mk, State.wf_fold, State.waiting_mk, State.waiting_fold, *]
  clear_value v5
  have h_v6 : State.waiting v6 = State.waiting s := by subst v6; simp (maxDischargeDepth := 60) [State.wf_mk, State.wf_fold, State.waiting_mk, State.waiting_fold, *]
  clear_value v6
  simp (maxDischargeDepth := 60) [State.wf_mk, State.wf_fold, State.waiting_mk, State.waiting_fold, *]
@[simp] theorem State.ledgerSecond_wf {s at_ nthr} (h : State.wf s = true) : State.wf (State.ledgerSecond s at_ nthr) = true := by
  unfold State.ledgerSecond
  extract_lets v0 v1 v2 v3
  clear_value v0
  clear_value v1
  clear_value v2
  have h_v3 : State.wf v3 = true := by subst v3; simp (maxDischargeDepth := 60) [State.wf_mk, State.wf_fold, State.waiting_mk, State.waiting_fold, *]
  clear_value v3
  simp (maxDischargeDepth := 60) [State.wf_mk, State.wf_fold, State.waiting_mk, State.waiting_fold, *]
@[simp] theorem State.ledgerSecond_pending {s at_ nthr} : State.waiting (State.ledgerSecond s at_ nthr) = State.waiting s := by
  unfold State.ledgerSecond
  extract_lets v0 v1 v2 v3
  clear_value v0
  clear_value v1
  clear_value v2
  have h_v3 : State.waiting v3 = State.waiting s := by subst v3; simp (maxDischargeDepth := 60) [State.wf_mk, State.wf_fold, State.waiting_mk, State.waiting_fold, *]
  clear_value v3
  simp (maxDischargeDepth := 60) [State.wf_mk, State.wf_fold, State.waiting_mk, State.waiting_fold, *]
@[simp] theorem State.ledgerAdd_wf {s l x y net} (h : State.wf s = true) : State.wf (State.ledgerAdd s l x y net) = true := by
  unfold State.ledgerAdd; simp (maxDischargeDepth := 60) [State.wf_mk, State.wf_fold, State.waiting_mk, State.waiting_fold, *]
@[simp] theorem State.ledgerAdd_pending {s l x y net} : State.waiting (State.ledgerAdd s l x y net) = State.waiting s := by
  unfold State.ledgerAdd; simp (maxDischargeDepth := 60) [State.wf_mk, State.wf_fold, State.waiting_mk, State.waiting_fold, *]
@[simp] theorem State.ledgerClose_wf {s} (h : State.wf s = true) : State.wf (State.ledgerClose s) = true := by
  unfold State.ledgerClose; simp (maxDischargeDepth := 60) [State.wf_mk, State.wf_fold, State.waiting_mk, State.waiting_fold, *]
@[simp] theorem State.ledgerClose_pending {s} : State.waiting (State.ledgerClose s) = State.waiting s := by
  unfold State.ledgerClose; simp (maxDischargeDepth := 60) [State.wf_mk, State.wf_fold, State.waiting_mk, State.waiting_fold, *]

/-! Machine/AuxConv.lean -/

@[simp] theorem State.modAx_wf {s j g} (h : State.wf s = true) : State.wf (State.modAx s j g) = true := by
  unfold State.modAx; simp (maxDischargeDepth := 60) [State.wf_mk, State.wf_fold, State.waiting_mk, State.waiting_fold, *]
@[simp] theorem State.modAx_pending {s j g} : State.waiting (State.modAx s j g) = State.waiting s := by
  unfold State.modAx; simp (maxDischargeDepth := 60) [State.wf_mk, State.wf_fold, State.waiting_mk, State.waiting_fold, *]
@[simp] theorem State.axEnable_wf {s j} (h : State.wf s = true) : State.wf (State.axEnable s j) = true := by
  unfold State.axEnable; simp (maxDischargeDepth := 60) [State.wf_mk, State.wf_fold, State.waiting_mk, State.waiting_fold, *]
@[simp] theorem State.axEnable_pending {s j} : State.waiting (State.axEnable s j) = State.waiting s := by
  unfold State.axEnable; simp (maxDischargeDepth := 60) [State.wf_mk, State.wf_fold, State.waiting_mk, State.waiting_fold, *]
@[simp] theorem State.axDisable_wf {s j} (h : State.wf s = true) : State.wf (State.axDisable s j) = true := by
  unfold State.axDisable; simp (maxDischargeDepth := 60) [State.wf_mk, State.wf_fold, State.waiting_mk, State.waiting_fold, *]
@[simp] theorem State.axDisable_pending {s j} : State.waiting (State.axDisable s j) = State.waiting s := by
  unfold State.axDisable; simp (maxDischargeDepth := 60) [State.wf_mk, State.wf_fold, State.waiting_mk, State.waiting_fold, *]
@[simp] theorem State.auxFault_wf {s j bit} (h : State.wf s = true) : State.wf (State.auxFault s j bit) = true := by
  unfold State.auxFault
  extract_lets v0
  have h_v0 : State.wf v0 = true := by subst v0; simp (maxDischargeDepth := 60) [State.wf_mk, State.wf_fold, State.waiting_mk, State.waiting_fold, *]
  clear_value v0
  simp (maxDischargeDepth := 60) [State.wf_mk, State.wf_fold, State.waiting_mk, State.waiting_fold, *]
@[simp] theorem State.auxFault_pending {s j bit} : State.waiting (State.auxFault s j bit) = State.waiting s := by
  unfold State.auxFault
  extract_lets v0
  have h_v0 : State.waiting v0 = State.waiting s := by subst v0; simp (maxDischargeDepth := 60) [State.wf_mk, State.wf_fold, State.waiting_mk, State.waiting_fold, *]
  clear_value v0
  simp (maxDischargeDepth := 60) [State.wf_mk, State.wf_fold, State.waiting_mk, State.waiting_fold, *]
@[simp] theorem State.auxHiccup_wf {s j} (h : State.wf s = true) : State.wf (State.auxHiccup s j) = true := by
  unfold State.auxHiccup; simp (maxDischargeDepth := 60) [State.wf_mk, State.wf_fold, State.waiting_mk, State.waiting_fold, *]
@[simp] theorem State.auxHiccup_pending {s j} : State.waiting (State.auxHiccup s j) = State.waiting s := by
  unfold State.auxHiccup; simp (maxDischargeDepth := 60) [State.wf_mk, State.wf_fold, State.waiting_mk, State.waiting_fold, *]
@[simp] theorem State.axLegs_wf {s} (h : State.wf s = true) : State.wf (State.axLegs s) = true := by
  unfold State.axLegs; simp (maxDischargeDepth := 60) [State.wf_mk, State.wf_fold, State.waiting_mk, State.waiting_fold, *]
@[simp] theorem State.axLegs_pending {s} : State.waiting (State.axLegs s) = State.waiting s := by
  unfold State.axLegs; simp (maxDischargeDepth := 60) [State.wf_mk, State.wf_fold, State.waiting_mk, State.waiting_fold, *]
@[simp] theorem State.axSoft_wf {s j mv} (h : State.wf s = true) : State.wf (State.axSoft s j mv) = true := by
  unfold State.axSoft
  extract_lets v0 v1 v2
  clear_value v0
  clear_value v1
  have h_v2 : State.wf v2 = true := by subst v2; simp (maxDischargeDepth := 60) [State.wf_mk, State.wf_fold, State.waiting_mk, State.waiting_fold, *]
  clear_value v2
  simp (maxDischargeDepth := 60) [State.wf_mk, State.wf_fold, State.waiting_mk, State.waiting_fold, *]
@[simp] theorem State.axSoft_pending {s j mv} : State.waiting (State.axSoft s j mv) = State.waiting s := by
  unfold State.axSoft
  extract_lets v0 v1 v2
  clear_value v0
  clear_value v1
  have h_v2 : State.waiting v2 = State.waiting s := by subst v2; simp (maxDischargeDepth := 60) [State.wf_mk, State.wf_fold, State.waiting_mk, State.waiting_fold, *]
  clear_value v2
  simp (maxDischargeDepth := 60) [State.wf_mk, State.wf_fold, State.waiting_mk, State.waiting_fold, *]
@[simp] theorem State.axRegulate_wf {s j fb} (h : State.wf s = true) : State.wf (State.axRegulate s j fb) = true := by
  unfold State.axRegulate; simp (maxDischargeDepth := 60) [State.wf_mk, State.wf_fold, State.waiting_mk, State.waiting_fold, *]
@[simp] theorem State.axRegulate_pending {s j fb} : State.waiting (State.axRegulate s j fb) = State.waiting s := by
  unfold State.axRegulate; simp (maxDischargeDepth := 60) [State.wf_mk, State.wf_fold, State.waiting_mk, State.waiting_fold, *]
@[simp] theorem State.axShed_wf {s j shunt} (h : State.wf s = true) : State.wf (State.axShed s j shunt) = true := by
  unfold State.axShed; simp (maxDischargeDepth := 60) [State.wf_mk, State.wf_fold, State.waiting_mk, State.waiting_fold, *]
@[simp] theorem State.axShed_pending {s j shunt} : State.waiting (State.axShed s j shunt) = State.waiting s := by
  unfold State.axShed; simp (maxDischargeDepth := 60) [State.wf_mk, State.wf_fold, State.waiting_mk, State.waiting_fold, *]
@[simp] theorem State.axMeter_wf {s j inp} (h : State.wf s = true) : State.wf (State.axMeter s j inp) = true := by
  unfold State.axMeter; simp (maxDischargeDepth := 60) [State.wf_mk, State.wf_fold, State.waiting_mk, State.waiting_fold, *]
@[simp] theorem State.axMeter_pending {s j inp} : State.waiting (State.axMeter s j inp) = State.waiting s := by
  unfold State.axMeter; simp (maxDischargeDepth := 60) [State.wf_mk, State.wf_fold, State.waiting_mk, State.waiting_fold, *]
@[simp] theorem State.axFloor_wf {s} (h : State.wf s = true) : State.wf (State.axFloor s) = true := by
  unfold State.axFloor; simp (maxDischargeDepth := 60) [State.wf_mk, State.wf_fold, State.waiting_mk, State.waiting_fold, *]
@[simp] theorem State.axFloor_pending {s} : State.waiting (State.axFloor s) = State.waiting s := by
  unfold State.axFloor; simp (maxDischargeDepth := 60) [State.wf_mk, State.wf_fold, State.waiting_mk, State.waiting_fold, *]
@[simp] theorem State.axCycles_wf {s j phB} (h : State.wf s = true) : State.wf (State.axCycles s j phB) = true := by
  unfold State.axCycles; dsimp only; (repeat' split) <;> simp +contextual (maxDischargeDepth := 60) [State.wf_mk, State.wf_fold, State.waiting_mk, State.waiting_fold, *]
@[simp] theorem State.axCycles_pending {s j phB} : State.waiting (State.axCycles s j phB) = State.waiting s := by
  unfold State.axCycles; dsimp only; (repeat' split) <;> simp +contextual (maxDischargeDepth := 60) [State.wf_mk, State.wf_fold, State.waiting_mk, State.waiting_fold, *]
@[simp] theorem State.axWatch_wf {s j lim} (h : State.wf s = true) : State.wf (State.axWatch s j lim) = true := by
  unfold State.axWatch
  extract_lets v0 v1 v2 v3
  clear_value v0
  clear_value v1
  clear_value v2
  have h_v3 : State.wf v3 = true := by subst v3; simp (maxDischargeDepth := 60) [State.wf_mk, State.wf_fold, State.waiting_mk, State.waiting_fold, *]
  clear_value v3
  simp (maxDischargeDepth := 60) [State.wf_mk, State.wf_fold, State.waiting_mk, State.waiting_fold, *]
@[simp] theorem State.axWatch_pending {s j lim} : State.waiting (State.axWatch s j lim) = State.waiting s := by
  unfold State.axWatch
  extract_lets v0 v1 v2 v3
  clear_value v0
  clear_value v1
  clear_value v2
  have h_v3 : State.waiting v3 = State.waiting s := by subst v3; simp (maxDischargeDepth := 60) [State.wf_mk, State.wf_fold, State.waiting_mk, State.waiting_fold, *]
  clear_value v3
  simp (maxDischargeDepth := 60) [State.wf_mk, State.wf_fold, State.waiting_mk, State.waiting_fold, *]
@[simp] theorem State.axBoundary_wf {s j inp} (h : State.wf s = true) : State.wf (State.axBoundary s j inp) = true := by
  unfold State.axBoundary
  extract_lets v0
  have h_v0 : State.wf v0 = true := by subst v0; simp (maxDischargeDepth := 60) [State.wf_mk, State.wf_fold, State.waiting_mk, State.waiting_fold, *]
  clear_value v0
  ((repeat' split) <;> (try extract_lets) <;> simp (maxDischargeDepth := 60) +zetaDelta [State.wf_mk, State.wf_fold, State.waiting_mk, State.waiting_fold, *])
@[simp] theorem State.axBoundary_pending {s j inp} : State.waiting (State.axBoundary s j inp) = State.waiting s := by
  unfold State.axBoundary
  extract_lets v0
  have h_v0 : State.waiting v0 = State.waiting s := by subst v0; simp (maxDischargeDepth := 60) [State.wf_mk, State.wf_fold, State.waiting_mk, State.waiting_fold, *]
  clear_value v0
  ((repeat' split) <;> (try extract_lets) <;> simp (maxDischargeDepth := 60) +zetaDelta [State.wf_mk, State.wf_fold, State.waiting_mk, State.waiting_fold, *])
@[simp] theorem State.axFltWrite_wf {s j val} (h : State.wf s = true) : State.wf (State.axFltWrite s j val) = true := by
  unfold State.axFltWrite; (repeat' split) <;> simp (maxDischargeDepth := 60) [State.wf_mk, State.wf_fold, State.waiting_mk, State.waiting_fold, *]
@[simp] theorem State.axFltWrite_pending {s j val} : State.waiting (State.axFltWrite s j val) = State.waiting s := by
  unfold State.axFltWrite; (repeat' split) <;> simp (maxDischargeDepth := 60) [State.wf_mk, State.wf_fold, State.waiting_mk, State.waiting_fold, *]

/-! Machine/Tray.lean -/

@[simp] theorem State.modAl_wf {s k g} (h : State.wf s = true) : State.wf (State.modAl s k g) = true := by
  unfold State.modAl; simp (maxDischargeDepth := 60) [State.wf_mk, State.wf_fold, State.waiting_mk, State.waiting_fold, *]
@[simp] theorem State.modAl_pending {s k g} : State.waiting (State.modAl s k g) = State.waiting s := by
  unfold State.modAl; simp (maxDischargeDepth := 60) [State.wf_mk, State.wf_fold, State.waiting_mk, State.waiting_fold, *]
@[simp] theorem State.alTake_wf {s k} (h : State.wf s = true) : State.wf (State.alTake s k) = true := by
  unfold State.alTake; simp (maxDischargeDepth := 60) [State.wf_mk, State.wf_fold, State.waiting_mk, State.waiting_fold, *]
@[simp] theorem State.alTake_pending {s k} : State.waiting (State.alTake s k) = State.waiting s := by
  unfold State.alTake; simp (maxDischargeDepth := 60) [State.wf_mk, State.wf_fold, State.waiting_mk, State.waiting_fold, *]
@[simp] theorem State.alSetpoint_wf {s k inp} (h : State.wf s = true) : State.wf (State.alSetpoint s k inp) = true := by
  unfold State.alSetpoint; simp (maxDischargeDepth := 60) [State.wf_mk, State.wf_fold, State.waiting_mk, State.waiting_fold, *]
@[simp] theorem State.alSetpoint_pending {s k inp} : State.waiting (State.alSetpoint s k inp) = State.waiting s := by
  unfold State.alSetpoint; simp (maxDischargeDepth := 60) [State.wf_mk, State.wf_fold, State.waiting_mk, State.waiting_fold, *]
@[simp] theorem State.alOut_wf {s k o} (h : State.wf s = true) : State.wf (State.alOut s k o) = true := by
  unfold State.alOut; simp (maxDischargeDepth := 60) [State.wf_mk, State.wf_fold, State.waiting_mk, State.waiting_fold, *]
@[simp] theorem State.alOut_pending {s k o} : State.waiting (State.alOut s k o) = State.waiting s := by
  unfold State.alOut; simp (maxDischargeDepth := 60) [State.wf_mk, State.wf_fold, State.waiting_mk, State.waiting_fold, *]
@[simp] theorem State.alPid_wf {s k pv} (h : State.wf s = true) : State.wf (State.alPid s k pv) = true := by
  unfold State.alPid
  extract_lets v0 v1 v2 v3 v4 v5 v6 v7 v8 v9 v10 v11
  clear_value v0
  clear_value v1
  clear_value v2
  clear_value v3
  clear_value v4
  clear_value v5
  clear_value v6
  clear_value v7
  clear_value v8
  clear_value v9
  clear_value v10
  have h_v11 : State.wf v11 = true := by subst v11; simp (maxDischargeDepth := 60) [State.wf_mk, State.wf_fold, State.waiting_mk, State.waiting_fold, *]
  clear_value v11
  simp (maxDischargeDepth := 60) [State.wf_mk, State.wf_fold, State.waiting_mk, State.waiting_fold, *]
@[simp] theorem State.alPid_pending {s k pv} : State.waiting (State.alPid s k pv) = State.waiting s := by
  unfold State.alPid
  extract_lets v0 v1 v2 v3 v4 v5 v6 v7 v8 v9 v10 v11
  clear_value v0
  clear_value v1
  clear_value v2
  clear_value v3
  clear_value v4
  clear_value v5
  clear_value v6
  clear_value v7
  clear_value v8
  clear_value v9
  clear_value v10
  have h_v11 : State.waiting v11 = State.waiting s := by subst v11; simp (maxDischargeDepth := 60) [State.wf_mk, State.wf_fold, State.waiting_mk, State.waiting_fold, *]
  clear_value v11
  simp (maxDischargeDepth := 60) [State.wf_mk, State.wf_fold, State.waiting_mk, State.waiting_fold, *]
@[simp] theorem State.alManual_wf {s k pv} (h : State.wf s = true) : State.wf (State.alManual s k pv) = true := by
  unfold State.alManual
  extract_lets v0 v1 v2 v3
  clear_value v0
  clear_value v1
  clear_value v2
  have h_v3 : State.wf v3 = true := by subst v3; simp (maxDischargeDepth := 60) [State.wf_mk, State.wf_fold, State.waiting_mk, State.waiting_fold, *]
  clear_value v3
  simp (maxDischargeDepth := 60) [State.wf_mk, State.wf_fold, State.waiting_mk, State.waiting_fold, *]
@[simp] theorem State.alManual_pending {s k pv} : State.waiting (State.alManual s k pv) = State.waiting s := by
  unfold State.alManual
  extract_lets v0 v1 v2 v3
  clear_value v0
  clear_value v1
  clear_value v2
  have h_v3 : State.waiting v3 = State.waiting s := by subst v3; simp (maxDischargeDepth := 60) [State.wf_mk, State.wf_fold, State.waiting_mk, State.waiting_fold, *]
  clear_value v3
  simp (maxDischargeDepth := 60) [State.wf_mk, State.wf_fold, State.waiting_mk, State.waiting_fold, *]
@[simp] theorem State.tuneFail_wf {s k} (h : State.wf s = true) : State.wf (State.tuneFail s k) = true := by
  unfold State.tuneFail; simp (maxDischargeDepth := 60) [State.wf_mk, State.wf_fold, State.waiting_mk, State.waiting_fold, *]
@[simp] theorem State.tuneFail_pending {s k} : State.waiting (State.tuneFail s k) = State.waiting s := by
  unfold State.tuneFail; simp (maxDischargeDepth := 60) [State.wf_mk, State.wf_fold, State.waiting_mk, State.waiting_fold, *]
@[simp] theorem State.tuneResume_wf {s k} (h : State.wf s = true) : State.wf (State.tuneResume s k) = true := by
  unfold State.tuneResume; simp (maxDischargeDepth := 60) [State.wf_mk, State.wf_fold, State.waiting_mk, State.waiting_fold, *]
@[simp] theorem State.tuneResume_pending {s k} : State.waiting (State.tuneResume s k) = State.waiting s := by
  unfold State.tuneResume; simp (maxDischargeDepth := 60) [State.wf_mk, State.wf_fold, State.waiting_mk, State.waiting_fold, *]
@[simp] theorem State.alFail_wf {s k} (h : State.wf s = true) : State.wf (State.alFail s k) = true := by
  unfold State.alFail
  extract_lets v0
  have h_v0 : State.wf v0 = true := by subst v0; simp (maxDischargeDepth := 60) [State.wf_mk, State.wf_fold, State.waiting_mk, State.waiting_fold, *]
  clear_value v0
  simp (maxDischargeDepth := 60) [State.wf_mk, State.wf_fold, State.waiting_mk, State.waiting_fold, *]
@[simp] theorem State.alFail_pending {s k} : State.waiting (State.alFail s k) = State.waiting s := by
  unfold State.alFail
  extract_lets v0
  have h_v0 : State.waiting v0 = State.waiting s := by subst v0; simp (maxDischargeDepth := 60) [State.wf_mk, State.wf_fold, State.waiting_mk, State.waiting_fold, *]
  clear_value v0
  simp (maxDischargeDepth := 60) [State.wf_mk, State.wf_fold, State.waiting_mk, State.waiting_fold, *]
@[simp] theorem State.tuneDone_wf {s k p1 p2 a1 a2} (h : State.wf s = true) : State.wf (State.tuneDone s k p1 p2 a1 a2) = true := by
  unfold State.tuneDone; simp (maxDischargeDepth := 60) [State.wf_mk, State.wf_fold, State.waiting_mk, State.waiting_fold, *]
@[simp] theorem State.tuneDone_pending {s k p1 p2 a1 a2} : State.waiting (State.tuneDone s k p1 p2 a1 a2) = State.waiting s := by
  unfold State.tuneDone; simp (maxDischargeDepth := 60) [State.wf_mk, State.wf_fold, State.waiting_mk, State.waiting_fold, *]
@[simp] theorem State.alTune_wf {s k pv t} (h : State.wf s = true) : State.wf (State.alTune s k pv t) = true := by
  unfold State.alTune
  extract_lets v0 v1 v2 v3 v4 v5 v6 v7 v8 v9
  clear_value v0
  clear_value v1
  clear_value v2
  clear_value v3
  clear_value v4
  clear_value v5
  clear_value v6
  clear_value v7
  have h_v8 : State.wf v8 = true := by subst v8; simp (maxDischargeDepth := 60) [State.wf_mk, State.wf_fold, State.waiting_mk, State.waiting_fold, *]
  clear_value v8
  have h_v9 : State.wf v9 = true := by subst v9; simp (maxDischargeDepth := 60) [State.wf_mk, State.wf_fold, State.waiting_mk, State.waiting_fold, *]
  clear_value v9
  ((repeat' split) <;> simp (maxDischargeDepth := 60) [State.wf_mk, State.wf_fold, State.waiting_mk, State.waiting_fold, *])
@[simp] theorem State.alTune_pending {s k pv t} : State.waiting (State.alTune s k pv t) = State.waiting s := by
  unfold State.alTune
  extract_lets v0 v1 v2 v3 v4 v5 v6 v7 v8 v9
  clear_value v0
  clear_value v1
  clear_value v2
  clear_value v3
  clear_value v4
  clear_value v5
  clear_value v6
  clear_value v7
  have h_v8 : State.waiting v8 = State.waiting s := by subst v8; simp (maxDischargeDepth := 60) [State.wf_mk, State.wf_fold, State.waiting_mk, State.waiting_fold, *]
  clear_value v8
  have h_v9 : State.waiting v9 = State.waiting s := by subst v9; simp (maxDischargeDepth := 60) [State.wf_mk, State.wf_fold, State.waiting_mk, State.waiting_fold, *]
  clear_value v9
  ((repeat' split) <;> simp (maxDischargeDepth := 60) [State.wf_mk, State.wf_fold, State.waiting_mk, State.waiting_fold, *])
@[simp] theorem State.alRun_wf {s k pv} (h : State.wf s = true) : State.wf (State.alRun s k pv) = true := by
  unfold State.alRun; (repeat' split) <;> simp (maxDischargeDepth := 60) [State.wf_mk, State.wf_fold, State.waiting_mk, State.waiting_fold, *]
@[simp] theorem State.alRun_pending {s k pv} : State.waiting (State.alRun s k pv) = State.waiting s := by
  unfold State.alRun; (repeat' split) <;> simp (maxDischargeDepth := 60) [State.wf_mk, State.wf_fold, State.waiting_mk, State.waiting_fold, *]
@[simp] theorem State.alCount_wf {s k c} (h : State.wf s = true) : State.wf (State.alCount s k c) = true := by
  unfold State.alCount; simp (maxDischargeDepth := 60) [State.wf_mk, State.wf_fold, State.waiting_mk, State.waiting_fold, *]
@[simp] theorem State.alCount_pending {s k c} : State.waiting (State.alCount s k c) = State.waiting s := by
  unfold State.alCount; simp (maxDischargeDepth := 60) [State.wf_mk, State.wf_fold, State.waiting_mk, State.waiting_fold, *]
@[simp] theorem State.alIdle_wf {s k} (h : State.wf s = true) : State.wf (State.alIdle s k) = true := by
  unfold State.alIdle
  extract_lets v0
  have h_v0 : State.wf v0 = true := by subst v0; simp (maxDischargeDepth := 60) [State.wf_mk, State.wf_fold, State.waiting_mk, State.waiting_fold, *]
  clear_value v0
  simp (maxDischargeDepth := 60) [State.wf_mk, State.wf_fold, State.waiting_mk, State.waiting_fold, *]
@[simp] theorem State.alIdle_pending {s k} : State.waiting (State.alIdle s k) = State.waiting s := by
  unfold State.alIdle
  extract_lets v0
  have h_v0 : State.waiting v0 = State.waiting s := by subst v0; simp (maxDischargeDepth := 60) [State.wf_mk, State.wf_fold, State.waiting_mk, State.waiting_fold, *]
  clear_value v0
  simp (maxDischargeDepth := 60) [State.wf_mk, State.wf_fold, State.waiting_mk, State.waiting_fold, *]
@[simp] theorem State.tuneStart_wf {s k} (h : State.wf s = true) : State.wf (State.tuneStart s k) = true := by
  unfold State.tuneStart; simp (maxDischargeDepth := 60) [State.wf_mk, State.wf_fold, State.waiting_mk, State.waiting_fold, *]
@[simp] theorem State.tuneStart_pending {s k} : State.waiting (State.tuneStart s k) = State.waiting s := by
  unfold State.tuneStart; simp (maxDischargeDepth := 60) [State.wf_mk, State.wf_fold, State.waiting_mk, State.waiting_fold, *]
@[simp] theorem State.tuneAbort_wf {s k} (h : State.wf s = true) : State.wf (State.tuneAbort s k) = true := by
  unfold State.tuneAbort; simp (maxDischargeDepth := 60) [State.wf_mk, State.wf_fold, State.waiting_mk, State.waiting_fold, *]
@[simp] theorem State.tuneAbort_pending {s k} : State.waiting (State.tuneAbort s k) = State.waiting s := by
  unfold State.tuneAbort; simp (maxDischargeDepth := 60) [State.wf_mk, State.wf_fold, State.waiting_mk, State.waiting_fold, *]

/-! Machine/Clocks.lean -/

@[simp] theorem State.setJudge_wf {s c j} (h : State.wf s = true) : State.wf (State.setJudge s c j) = true := by
  unfold State.setJudge; simp (maxDischargeDepth := 60) [State.wf_mk, State.wf_fold, State.waiting_mk, State.waiting_fold, *]
@[simp] theorem State.setJudge_pending {s c j} : State.waiting (State.setJudge s c j) = State.waiting s := by
  unfold State.setJudge; simp (maxDischargeDepth := 60) [State.wf_mk, State.wf_fold, State.waiting_mk, State.waiting_fold, *]
@[simp] theorem State.startJudge_wf {s c} (h : State.wf s = true) : State.wf (State.startJudge s c) = true := by
  unfold State.startJudge; simp (maxDischargeDepth := 60) [State.wf_mk, State.wf_fold, State.waiting_mk, State.waiting_fold, *]
@[simp] theorem State.startJudge_pending {s c} : State.waiting (State.startJudge s c) = State.waiting s := by
  unfold State.startJudge; simp (maxDischargeDepth := 60) [State.wf_mk, State.wf_fold, State.waiting_mk, State.waiting_fold, *]
@[simp] theorem State.relock_wf {s p} (h : State.wf s = true) : State.wf (State.relock s p) = true := by
  unfold State.relock; simp (maxDischargeDepth := 60) [State.wf_mk, State.wf_fold, State.waiting_mk, State.waiting_fold, *]
@[simp] theorem State.relock_pending {s p} : State.waiting (State.relock s p) = State.waiting s := by
  unfold State.relock; simp (maxDischargeDepth := 60) [State.wf_mk, State.wf_fold, State.waiting_mk, State.waiting_fold, *]
@[simp] theorem State.clockStable_wf {s c} (h : State.wf s = true) : State.wf (State.clockStable s c) = true := by
  unfold State.clockStable; (repeat' split) <;> simp +contextual (maxDischargeDepth := 60) [State.wf_mk, State.wf_fold, State.waiting_mk, State.waiting_fold, *]
@[simp] theorem State.clockStable_pending {s c} : State.waiting (State.clockStable s c) = State.waiting s := by
  unfold State.clockStable
  extract_lets v0
  have h_v0 : State.waiting v0 = State.waiting s := by subst v0; simp (maxDischargeDepth := 60) [State.wf_mk, State.wf_fold, State.waiting_mk, State.waiting_fold, *]
  clear_value v0
  ((repeat' split) <;> (try extract_lets) <;> simp (maxDischargeDepth := 60) +zetaDelta [State.wf_mk, State.wf_fold, State.waiting_mk, State.waiting_fold, *])
@[simp] theorem State.judgeFailed_wf {s c} (h : State.wf s = true) : State.wf (State.judgeFailed s c) = true := by
  unfold State.judgeFailed; (repeat' split) <;> simp (maxDischargeDepth := 60) [State.wf_mk, State.wf_fold, State.waiting_mk, State.waiting_fold, *]
@[simp] theorem State.judgeFailed_pending {s c} : State.waiting (State.judgeFailed s c) = State.waiting s := by
  unfold State.judgeFailed; (repeat' split) <;> simp (maxDischargeDepth := 60) [State.wf_mk, State.wf_fold, State.waiting_mk, State.waiting_fold, *]
@[simp] theorem State.slewEnd_wf {s} (h : State.wf s = true) : State.wf (State.slewEnd s) = true := by
  unfold State.slewEnd
  extract_lets v0
  have h_v0 : State.wf v0 = true := by subst v0; simp (maxDischargeDepth := 60) [State.wf_mk, State.wf_fold, State.waiting_mk, State.waiting_fold, *]
  clear_value v0
  simp (maxDischargeDepth := 60) [State.wf_mk, State.wf_fold, State.waiting_mk, State.waiting_fold, *]
@[simp] theorem State.slewEnd_pending {s} : State.waiting (State.slewEnd s) = State.waiting s := by
  unfold State.slewEnd
  extract_lets v0
  have h_v0 : State.waiting v0 = State.waiting s := by subst v0; simp (maxDischargeDepth := 60) [State.wf_mk, State.wf_fold, State.waiting_mk, State.waiting_fold, *]
  clear_value v0
  simp (maxDischargeDepth := 60) [State.wf_mk, State.wf_fold, State.waiting_mk, State.waiting_fold, *]
@[simp] theorem State.slewStart_wf {s e stamp} (h : State.wf s = true) : State.wf (State.slewStart s e stamp) = true := by
  unfold State.slewStart
  extract_lets v0 v1 v2 v3
  clear_value v0
  clear_value v1
  clear_value v2
  have h_v3 : State.wf v3 = true := by subst v3; simp (maxDischargeDepth := 60) [State.wf_mk, State.wf_fold, State.waiting_mk, State.waiting_fold, *]
  clear_value v3
  simp (maxDischargeDepth := 60) [State.wf_mk, State.wf_fold, State.waiting_mk, State.waiting_fold, *]
@[simp] theorem State.slewStart_pending {s e stamp} : State.waiting (State.slewStart s e stamp) = State.waiting s := by
  unfold State.slewStart
  extract_lets v0 v1 v2 v3
  clear_value v0
  clear_value v1
  clear_value v2
  have h_v3 : State.waiting v3 = State.waiting s := by subst v3; simp (maxDischargeDepth := 60) [State.wf_mk, State.wf_fold, State.waiting_mk, State.waiting_fold, *]
  clear_value v3
  simp (maxDischargeDepth := 60) [State.wf_mk, State.wf_fold, State.waiting_mk, State.waiting_fold, *]
@[simp] theorem State.toHoldover_wf {s} (h : State.wf s = true) : State.wf (State.toHoldover s) = true := by
  unfold State.toHoldover; simp (maxDischargeDepth := 60) [State.wf_mk, State.wf_fold, State.waiting_mk, State.waiting_fold, *]
@[simp] theorem State.toHoldover_pending {s} : State.waiting (State.toHoldover s) = State.waiting s := by
  unfold State.toHoldover; simp (maxDischargeDepth := 60) [State.wf_mk, State.wf_fold, State.waiting_mk, State.waiting_fold, *]
@[simp] theorem State.coast_wf {s p sev} (h : State.wf s = true) : State.wf (State.coast s p sev) = true := by
  unfold State.coast
  extract_lets v0
  have h_v0 : State.wf v0 = true := by subst v0; simp (maxDischargeDepth := 60) [State.wf_mk, State.wf_fold, State.waiting_mk, State.waiting_fold, *]
  clear_value v0
  simp (maxDischargeDepth := 60) [State.wf_mk, State.wf_fold, State.waiting_mk, State.waiting_fold, *]
@[simp] theorem State.coast_pending {s p sev} : State.waiting (State.coast s p sev) = State.waiting s := by
  unfold State.coast
  extract_lets v0
  have h_v0 : State.waiting v0 = State.waiting s := by subst v0; simp (maxDischargeDepth := 60) [State.wf_mk, State.wf_fold, State.waiting_mk, State.waiting_fold, *]
  clear_value v0
  simp (maxDischargeDepth := 60) [State.wf_mk, State.wf_fold, State.waiting_mk, State.waiting_fold, *]
@[simp] theorem State.parkCoast_wf {s} (h : State.wf s = true) : State.wf (State.parkCoast s) = true := by
  unfold State.parkCoast; simp +contextual (maxDischargeDepth := 60) [State.wf_mk, State.wf_fold, State.waiting_mk, State.waiting_fold, *]
@[simp] theorem State.parkCoast_pending {s} : State.waiting (State.parkCoast s) = State.waiting s := by
  unfold State.parkCoast; simp (maxDischargeDepth := 60) [State.wf_mk, State.wf_fold, State.waiting_mk, State.waiting_fold, *]
@[simp] theorem State.linkTo_wf {s p up} (h : State.wf s = true) : State.wf (State.linkTo s p up) = true := by
  unfold State.linkTo; simp (maxDischargeDepth := 60) [State.wf_mk, State.wf_fold, State.waiting_mk, State.waiting_fold, *]
@[simp] theorem State.linkTo_pending {s p up} : State.waiting (State.linkTo s p up) = State.waiting s := by
  unfold State.linkTo; simp (maxDischargeDepth := 60) [State.wf_mk, State.wf_fold, State.waiting_mk, State.waiting_fold, *]
@[simp] theorem State.xhfLoss_wf {s} (h : State.wf s = true) : State.wf (State.xhfLoss s) = true := by
  unfold State.xhfLoss; simp +contextual (maxDischargeDepth := 60) [State.wf_mk, State.wf_fold, State.waiting_mk, State.waiting_fold, *]
@[simp] theorem State.xhfLoss_pending {s} : State.waiting (State.xhfLoss s) = State.waiting s := by
  unfold State.xhfLoss; simp (maxDischargeDepth := 60) [State.wf_mk, State.wf_fold, State.waiting_mk, State.waiting_fold, *]
@[simp] theorem State.trimTake_wf {s count} (h : State.wf s = true) : State.wf (State.trimTake s count) = true := by
  unfold State.trimTake; simp (maxDischargeDepth := 60) [State.wf_mk, State.wf_fold, State.waiting_mk, State.waiting_fold, *]
@[simp] theorem State.trimTake_pending {s count} : State.waiting (State.trimTake s count) = State.waiting s := by
  unfold State.trimTake; simp (maxDischargeDepth := 60) [State.wf_mk, State.wf_fold, State.waiting_mk, State.waiting_fold, *]
@[simp] theorem State.counterRun_wf {s dt} (h : State.wf s = true) : State.wf (State.counterRun s dt) = true := by
  unfold State.counterRun; simp (maxDischargeDepth := 60) [State.wf_mk, State.wf_fold, State.waiting_mk, State.waiting_fold, *]
@[simp] theorem State.counterRun_pending {s dt} : State.waiting (State.counterRun s dt) = State.waiting s := by
  unfold State.counterRun; simp (maxDischargeDepth := 60) [State.wf_mk, State.wf_fold, State.waiting_mk, State.waiting_fold, *]
@[simp] theorem State.levelTo_wf {s level} (h : State.wf s = true) : State.wf (State.levelTo s level) = true := by
  unfold State.levelTo; (repeat' split) <;> simp (maxDischargeDepth := 60) [State.wf_mk, State.wf_fold, State.waiting_mk, State.waiting_fold, *]
@[simp] theorem State.levelTo_pending {s level} : State.waiting (State.levelTo s level) = State.waiting s := by
  unfold State.levelTo; (repeat' split) <;> simp (maxDischargeDepth := 60) [State.wf_mk, State.wf_fold, State.waiting_mk, State.waiting_fold, *]
@[simp] theorem State.askRaise_wf {s} (h : State.wf s = true) : State.wf (State.askRaise s) = true := by
  unfold State.askRaise; simp (maxDischargeDepth := 60) [State.wf_mk, State.wf_fold, State.waiting_mk, State.waiting_fold, *]
@[simp] theorem State.askRaise_pending {s} : State.waiting (State.askRaise s) = State.waiting s := by
  unfold State.askRaise; simp (maxDischargeDepth := 60) [State.wf_mk, State.wf_fold, State.waiting_mk, State.waiting_fold, *]
@[simp] theorem State.compatFail_wf {s k} (h : State.wf s = true) : State.wf (State.compatFail s k) = true := by
  unfold State.compatFail
  extract_lets v0
  have h_v0 : State.wf v0 = true := by subst v0; simp (maxDischargeDepth := 60) [State.wf_mk, State.wf_fold, State.waiting_mk, State.waiting_fold, *]
  clear_value v0
  ((repeat' split) <;> (try extract_lets) <;> simp (maxDischargeDepth := 60) +zetaDelta [State.wf_mk, State.wf_fold, State.waiting_mk, State.waiting_fold, *])
@[simp] theorem State.compatFail_pending {s k} : State.waiting (State.compatFail s k) = State.waiting s := by
  unfold State.compatFail
  extract_lets v0
  have h_v0 : State.waiting v0 = State.waiting s := by subst v0; simp (maxDischargeDepth := 60) [State.wf_mk, State.wf_fold, State.waiting_mk, State.waiting_fold, *]
  clear_value v0
  ((repeat' split) <;> (try extract_lets) <;> simp (maxDischargeDepth := 60) +zetaDelta [State.wf_mk, State.wf_fold, State.waiting_mk, State.waiting_fold, *])
@[simp] theorem State.compatDone_wf {s level} (h : State.wf s = true) : State.wf (State.compatDone s level) = true := by
  unfold State.compatDone; simp (maxDischargeDepth := 60) [State.wf_mk, State.wf_fold, State.waiting_mk, State.waiting_fold, *]
@[simp] theorem State.compatDone_pending {s level} : State.waiting (State.compatDone s level) = State.waiting s := by
  unfold State.compatDone; simp (maxDischargeDepth := 60) [State.wf_mk, State.wf_fold, State.waiting_mk, State.waiting_fold, *]
@[simp] theorem State.compatBoundary_wf {s} (h : State.wf s = true) : State.wf (State.compatBoundary s) = true := by
  unfold State.compatBoundary; (repeat' split) <;> simp (maxDischargeDepth := 60) [State.wf_mk, State.wf_fold, State.waiting_mk, State.waiting_fold, *]
@[simp] theorem State.compatBoundary_pending {s} : State.waiting (State.compatBoundary s) = State.waiting s := by
  unfold State.compatBoundary; (repeat' split) <;> simp (maxDischargeDepth := 60) [State.wf_mk, State.wf_fold, State.waiting_mk, State.waiting_fold, *]
@[simp] theorem State.timeSet_wf {s val} (h : State.wf s = true) : State.wf (State.timeSet s val) = true := by
  unfold State.timeSet; simp (maxDischargeDepth := 60) [State.wf_mk, State.wf_fold, State.waiting_mk, State.waiting_fold, *]
@[simp] theorem State.timeSet_pending {s val} : State.waiting (State.timeSet s val) = State.waiting s := by
  unfold State.timeSet; simp (maxDischargeDepth := 60) [State.wf_mk, State.wf_fold, State.waiting_mk, State.waiting_fold, *]
@[simp] theorem State.ppsCorrect_wf {s} (h : State.wf s = true) : State.wf (State.ppsCorrect s) = true := by
  unfold State.ppsCorrect; simp (maxDischargeDepth := 60) [State.wf_mk, State.wf_fold, State.waiting_mk, State.waiting_fold, *]
@[simp] theorem State.ppsCorrect_pending {s} : State.waiting (State.ppsCorrect s) = State.waiting s := by
  unfold State.ppsCorrect; simp (maxDischargeDepth := 60) [State.wf_mk, State.wf_fold, State.waiting_mk, State.waiting_fold, *]
@[simp] theorem State.ppsTrack_wf {s e} (h : State.wf s = true) : State.wf (State.ppsTrack s e) = true := by
  unfold State.ppsTrack; simp (maxDischargeDepth := 60) [State.wf_mk, State.wf_fold, State.waiting_mk, State.waiting_fold, *]
@[simp] theorem State.ppsTrack_pending {s e} : State.waiting (State.ppsTrack s e) = State.waiting s := by
  unfold State.ppsTrack; simp (maxDischargeDepth := 60) [State.wf_mk, State.wf_fold, State.waiting_mk, State.waiting_fold, *]
@[simp] theorem State.ppsAcquire_wf {s e stamp} (h : State.wf s = true) : State.wf (State.ppsAcquire s e stamp) = true := by
  unfold State.ppsAcquire; simp (maxDischargeDepth := 60) [State.wf_mk, State.wf_fold, State.waiting_mk, State.waiting_fold, *]
@[simp] theorem State.ppsAcquire_pending {s e stamp} : State.waiting (State.ppsAcquire s e stamp) = State.waiting s := by
  unfold State.ppsAcquire; simp (maxDischargeDepth := 60) [State.wf_mk, State.wf_fold, State.waiting_mk, State.waiting_fold, *]
@[simp] theorem State.ppsQualified_wf {s e stamp} (h : State.wf s = true) : State.wf (State.ppsQualified s e stamp) = true := by
  unfold State.ppsQualified; (repeat' split) <;> simp (maxDischargeDepth := 60) [State.wf_mk, State.wf_fold, State.waiting_mk, State.waiting_fold, *]
@[simp] theorem State.ppsQualified_pending {s e stamp} : State.waiting (State.ppsQualified s e stamp) = State.waiting s := by
  unfold State.ppsQualified; (repeat' split) <;> simp (maxDischargeDepth := 60) [State.wf_mk, State.wf_fold, State.waiting_mk, State.waiting_fold, *]
@[simp] theorem State.ppsOutside_wf {s e} (h : State.wf s = true) : State.wf (State.ppsOutside s e) = true := by
  unfold State.ppsOutside; simp (maxDischargeDepth := 60) [State.wf_mk, State.wf_fold, State.waiting_mk, State.waiting_fold, *]
@[simp] theorem State.ppsOutside_pending {s e} : State.waiting (State.ppsOutside s e) = State.waiting s := by
  unfold State.ppsOutside; simp (maxDischargeDepth := 60) [State.wf_mk, State.wf_fold, State.waiting_mk, State.waiting_fold, *]
@[simp] theorem State.ppsFree_wf {s} (h : State.wf s = true) : State.wf (State.ppsFree s) = true := by
  unfold State.ppsFree; simp (maxDischargeDepth := 60) [State.wf_mk, State.wf_fold, State.waiting_mk, State.waiting_fold, *]
@[simp] theorem State.ppsFree_pending {s} : State.waiting (State.ppsFree s) = State.waiting s := by
  unfold State.ppsFree; simp (maxDischargeDepth := 60) [State.wf_mk, State.wf_fold, State.waiting_mk, State.waiting_fold, *]
@[simp] theorem State.stepCounter_wf {s d} (h : State.wf s = true) : State.wf (State.stepCounter s d) = true := by
  unfold State.stepCounter; simp (maxDischargeDepth := 60) [State.wf_mk, State.wf_fold, State.waiting_mk, State.waiting_fold, *]
@[simp] theorem State.stepCounter_pending {s d} : State.waiting (State.stepCounter s d) = State.waiting s := by
  unfold State.stepCounter; simp (maxDischargeDepth := 60) [State.wf_mk, State.wf_fold, State.waiting_mk, State.waiting_fold, *]
@[simp] theorem State.servoStep_wf {s} (h : State.wf s = true) : State.wf (State.servoStep s) = true := by
  unfold State.servoStep; (repeat' split) <;> simp (maxDischargeDepth := 60) [State.wf_mk, State.wf_fold, State.waiting_mk, State.waiting_fold, *]
@[simp] theorem State.servoStep_pending {s} : State.waiting (State.servoStep s) = State.waiting s := by
  unfold State.servoStep; (repeat' split) <;> simp (maxDischargeDepth := 60) [State.wf_mk, State.wf_fold, State.waiting_mk, State.waiting_fold, *]
@[simp] theorem State.tsetStep_wf {s} (h : State.wf s = true) : State.wf (State.tsetStep s) = true := by
  unfold State.tsetStep; dsimp only; (repeat' split) <;> simp +contextual (maxDischargeDepth := 60) [State.wf_mk, State.wf_fold, State.waiting_mk, State.waiting_fold, *]
@[simp] theorem State.tsetStep_pending {s} : State.waiting (State.tsetStep s) = State.waiting s := by
  unfold State.tsetStep; dsimp only; (repeat' split) <;> simp +contextual (maxDischargeDepth := 60) [State.wf_mk, State.wf_fold, State.waiting_mk, State.waiting_fold, *]
@[simp] theorem State.clockBoundary_wf {s} (h : State.wf s = true) : State.wf (State.clockBoundary s) = true := by
  unfold State.clockBoundary
  extract_lets v0
  have h_v0 : State.wf v0 = true := by subst v0; simp (maxDischargeDepth := 60) [State.wf_mk, State.wf_fold, State.waiting_mk, State.waiting_fold, *]
  clear_value v0
  ((repeat' split) <;> (try extract_lets) <;> simp (maxDischargeDepth := 60) +zetaDelta [State.wf_mk, State.wf_fold, State.waiting_mk, State.waiting_fold, *])
@[simp] theorem State.clockBoundary_pending {s} : State.waiting (State.clockBoundary s) = State.waiting s := by
  unfold State.clockBoundary
  extract_lets v0
  have h_v0 : State.waiting v0 = State.waiting s := by subst v0; simp (maxDischargeDepth := 60) [State.wf_mk, State.wf_fold, State.waiting_mk, State.waiting_fold, *]
  clear_value v0
  ((repeat' split) <;> (try extract_lets) <;> simp (maxDischargeDepth := 60) +zetaDelta [State.wf_mk, State.wf_fold, State.waiting_mk, State.waiting_fold, *])

/-! Machine/Vault.lean -/

@[simp] theorem State.vaultMerge_wf {s r last count rest} (h : State.wf s = true) : State.wf (State.vaultMerge s r last count rest) = true := by
  unfold State.vaultMerge
  extract_lets v0 v1 v2
  clear_value v0
  have h_v1 : State.wf v1 = true := by subst v1; simp (maxDischargeDepth := 60) [State.wf_mk, State.wf_fold, State.waiting_mk, State.waiting_fold, *]
  clear_value v1
  have h_v2 : State.wf v2 = true := by subst v2; simp (maxDischargeDepth := 60) [State.wf_mk, State.wf_fold, State.waiting_mk, State.waiting_fold, *]
  clear_value v2
  simp (maxDischargeDepth := 60) [State.wf_mk, State.wf_fold, State.waiting_mk, State.waiting_fold, *]
@[simp] theorem State.vaultMerge_pending {s r last count rest} : State.waiting (State.vaultMerge s r last count rest) = State.waiting s := by
  unfold State.vaultMerge
  extract_lets v0 v1 v2
  clear_value v0
  have h_v1 : State.waiting v1 = State.waiting s := by subst v1; simp (maxDischargeDepth := 60) [State.wf_mk, State.wf_fold, State.waiting_mk, State.waiting_fold, *]
  clear_value v1
  have h_v2 : State.waiting v2 = State.waiting s := by subst v2; simp (maxDischargeDepth := 60) [State.wf_mk, State.wf_fold, State.waiting_mk, State.waiting_fold, *]
  clear_value v2
  simp (maxDischargeDepth := 60) [State.wf_mk, State.wf_fold, State.waiting_mk, State.waiting_fold, *]
@[simp] theorem State.vaultNew_wf {s r rest} (h : State.wf s = true) : State.wf (State.vaultNew s r rest) = true := by
  unfold State.vaultNew; simp (maxDischargeDepth := 60) [State.wf_mk, State.wf_fold, State.waiting_mk, State.waiting_fold, *]
@[simp] theorem State.vaultNew_pending {s r rest} : State.waiting (State.vaultNew s r rest) = State.waiting s := by
  unfold State.vaultNew; simp (maxDischargeDepth := 60) [State.wf_mk, State.wf_fold, State.waiting_mk, State.waiting_fold, *]
@[simp] theorem State.vaultTake_wf {s} (h : State.wf s = true) : State.wf (State.vaultTake s) = true := by
  unfold State.vaultTake; (repeat' split) <;> simp (maxDischargeDepth := 60) [State.wf_mk, State.wf_fold, State.waiting_mk, State.waiting_fold, *]
@[simp] theorem State.vaultTake_pending {s} : State.waiting (State.vaultTake s) = State.waiting s := by
  unfold State.vaultTake; (repeat' split) <;> simp (maxDischargeDepth := 60) [State.wf_mk, State.wf_fold, State.waiting_mk, State.waiting_fold, *]
@[simp] theorem State.vaultScan_wf {s} (h : State.wf s = true) : State.wf (State.vaultScan s) = true := by
  unfold State.vaultScan
  extract_lets v0 v1 v2 v3
  clear_value v0
  clear_value v1
  clear_value v2
  have h_v3 : State.wf v3 = true := by subst v3; simp (maxDischargeDepth := 60) [State.wf_mk, State.wf_fold, State.waiting_mk, State.waiting_fold, *]
  clear_value v3
  simp (maxDischargeDepth := 60) [State.wf_mk, State.wf_fold, State.waiting_mk, State.waiting_fold, *]
@[simp] theorem State.vaultScan_pending {s} : State.waiting (State.vaultScan s) = State.waiting s := by
  unfold State.vaultScan
  extract_lets v0 v1 v2 v3
  clear_value v0
  clear_value v1
  clear_value v2
  have h_v3 : State.waiting v3 = State.waiting s := by subst v3; simp (maxDischargeDepth := 60) [State.wf_mk, State.wf_fold, State.waiting_mk, State.waiting_fold, *]
  clear_value v3
  simp (maxDischargeDepth := 60) [State.wf_mk, State.wf_fold, State.waiting_mk, State.waiting_fold, *]
@[simp] theorem State.vaultClear_wf {s} (h : State.wf s = true) : State.wf (State.vaultClear s) = true := by
  unfold State.vaultClear; simp (maxDischargeDepth := 60) [State.wf_mk, State.wf_fold, State.waiting_mk, State.waiting_fold, *]
@[simp] theorem State.vaultClear_pending {s} : State.waiting (State.vaultClear s) = State.waiting s := by
  unfold State.vaultClear; simp (maxDischargeDepth := 60) [State.wf_mk, State.wf_fold, State.waiting_mk, State.waiting_fold, *]
@[simp] theorem State.voidIf_wf {s k y2} (h : State.wf s = true) : State.wf (State.voidIf s k y2) = true := by
  unfold State.voidIf
  split
  · exact State.putMemWord_wf h
  · exact h
@[simp] theorem State.voidIf_pending {s k y2} : State.waiting (State.voidIf s k y2) = State.waiting s := by
  unfold State.voidIf
  split
  · exact State.putMemWord_pending
  · exact Eq.refl _
@[simp] theorem State.slotVoid_wf {s k} (h : State.wf s = true) : State.wf (State.slotVoid s k) = true := by
  unfold State.slotVoid; simp (maxDischargeDepth := 60) [State.wf_mk, State.wf_fold, State.waiting_mk, State.waiting_fold, *]
@[simp] theorem State.slotVoid_pending {s k} : State.waiting (State.slotVoid s k) = State.waiting s := by
  unfold State.slotVoid; simp (maxDischargeDepth := 60) [State.wf_mk, State.wf_fold, State.waiting_mk, State.waiting_fold, *]
@[simp] theorem State.atticDrain_wf {s} (h : State.wf s = true) : State.wf (State.atticDrain s) = true := by
  unfold State.atticDrain; simp +contextual (maxDischargeDepth := 60) [State.wf_mk, State.wf_fold, State.waiting_mk, State.waiting_fold, *]
@[simp] theorem State.atticDrain_pending {s} : State.waiting (State.atticDrain s) = State.waiting s := by
  unfold State.atticDrain; simp (maxDischargeDepth := 60) [State.wf_mk, State.wf_fold, State.waiting_mk, State.waiting_fold, *]
@[simp] theorem State.fill_wf {s a bs} (h : State.wf s = true) : State.wf (State.fill s a bs) = true := by
  rw [State.wf_iff] at *
  exact ⟨h.1, memReplace_wf h.2.1 (cellsAt_wf _ _) fun c hc => (cellsAt_in _ _ c hc).1, h.2.2⟩
@[simp] theorem State.fill_pending {s a bs} : State.waiting (State.fill s a bs) = State.waiting s := by
  unfold State.fill; simp (maxDischargeDepth := 60) [State.wf_mk, State.wf_fold, State.waiting_mk, State.waiting_fold, *]
@[simp] theorem State.snapAtT_wf {s} (h : State.wf s = true) : State.wf (State.snapAtT s) = true := by
  unfold State.snapAtT; (repeat' split) <;> simp (maxDischargeDepth := 60) [State.wf_mk, State.wf_fold, State.waiting_mk, State.waiting_fold, *]
@[simp] theorem State.snapAtT_pending {s} : State.waiting (State.snapAtT s) = State.waiting s := by
  unfold State.snapAtT; (repeat' split) <;> simp (maxDischargeDepth := 60) [State.wf_mk, State.wf_fold, State.waiting_mk, State.waiting_fold, *]
@[simp] theorem State.slotWritten_wf {s sn} (h : State.wf s = true) : State.wf (State.slotWritten s sn) = true := by
  unfold State.slotWritten
  extract_lets v0 v1 v2 v3 v4 v5
  clear_value v0
  clear_value v1
  clear_value v2
  have h_v3 : State.wf v3 = true := by subst v3; simp (maxDischargeDepth := 60) [State.wf_mk, State.wf_fold, State.waiting_mk, State.waiting_fold, *]
  clear_value v3
  clear_value v4
  clear_value v5
  simp (maxDischargeDepth := 60) [State.wf_mk, State.wf_fold, State.waiting_mk, State.waiting_fold, *]
@[simp] theorem State.slotWritten_pending {s sn} : State.waiting (State.slotWritten s sn) = State.waiting s := by
  unfold State.slotWritten
  extract_lets v0 v1 v2 v3 v4 v5
  clear_value v0
  clear_value v1
  clear_value v2
  have h_v3 : State.waiting v3 = State.waiting s := by subst v3; simp (maxDischargeDepth := 60) [State.wf_mk, State.wf_fold, State.waiting_mk, State.waiting_fold, *]
  clear_value v3
  clear_value v4
  clear_value v5
  simp (maxDischargeDepth := 60) [State.wf_mk, State.wf_fold, State.waiting_mk, State.waiting_fold, *]
@[simp] theorem State.slotRelease_wf {s k} (h : State.wf s = true) : State.wf (State.slotRelease s k) = true := by
  unfold State.slotRelease; simp (maxDischargeDepth := 60) [State.wf_mk, State.wf_fold, State.waiting_mk, State.waiting_fold, *]
@[simp] theorem State.slotRelease_pending {s k} : State.waiting (State.slotRelease s k) = State.waiting s := by
  unfold State.slotRelease; simp (maxDischargeDepth := 60) [State.wf_mk, State.wf_fold, State.waiting_mk, State.waiting_fold, *]

/-! Machine/Operands.lean -/

@[simp] theorem State.setPc_wf {s c v} (h : State.wf s = true) : State.wf (State.setPc s c v) = true := by
  unfold State.setPc; (repeat' split) <;> simp (maxDischargeDepth := 60) [State.wf_mk, State.wf_fold, State.waiting_mk, State.waiting_fold, *]
@[simp] theorem State.setPc_pending {s c v} : State.waiting (State.setPc s c v) = State.waiting s := by
  unfold State.setPc; (repeat' split) <;> simp (maxDischargeDepth := 60) [State.wf_mk, State.wf_fold, State.waiting_mk, State.waiting_fold, *]
@[simp] theorem State.advance_wf {s c} (h : State.wf s = true) : State.wf (State.advance s c) = true := by
  unfold State.advance; simp (maxDischargeDepth := 60) [State.wf_mk, State.wf_fold, State.waiting_mk, State.waiting_fold, *]
@[simp] theorem State.advance_pending {s c} : State.waiting (State.advance s c) = State.waiting s := by
  unfold State.advance; simp (maxDischargeDepth := 60) [State.wf_mk, State.wf_fold, State.waiting_mk, State.waiting_fold, *]
@[simp] theorem State.setFlags_wf {s c v} (h : State.wf s = true) : State.wf (State.setFlags s c v) = true := by
  unfold State.setFlags; (repeat' split) <;> simp (maxDischargeDepth := 60) [State.wf_mk, State.wf_fold, State.waiting_mk, State.waiting_fold, *]
@[simp] theorem State.setFlags_pending {s c v} : State.waiting (State.setFlags s c v) = State.waiting s := by
  unfold State.setFlags; (repeat' split) <;> simp (maxDischargeDepth := 60) [State.wf_mk, State.wf_fold, State.waiting_mk, State.waiting_fold, *]
@[simp] theorem State.setAlu_wf {s c o} (h : State.wf s = true) : State.wf (State.setAlu s c o) = true := by
  unfold State.setAlu; simp (maxDischargeDepth := 60) [State.wf_mk, State.wf_fold, State.waiting_mk, State.waiting_fold, *]
@[simp] theorem State.setAlu_pending {s c o} : State.waiting (State.setAlu s c o) = State.waiting s := by
  unfold State.setAlu; simp (maxDischargeDepth := 60) [State.wf_mk, State.wf_fold, State.waiting_mk, State.waiting_fold, *]
@[simp] theorem State.setG_wf {s c i v} (h : State.wf s = true) : State.wf (State.setG s c i v) = true := by
  unfold State.setG; (repeat' split) <;> simp (maxDischargeDepth := 60) [State.wf_mk, State.wf_fold, State.waiting_mk, State.waiting_fold, *]
@[simp] theorem State.setG_pending {s c i v} : State.waiting (State.setG s c i v) = State.waiting s := by
  unfold State.setG; (repeat' split) <;> simp (maxDischargeDepth := 60) [State.wf_mk, State.wf_fold, State.waiting_mk, State.waiting_fold, *]
@[simp] theorem State.setStack_wf {s c l} (h : State.wf s = true) : State.wf (State.setStack s c l) = true := by
  unfold State.setStack; (repeat' split) <;> simp (maxDischargeDepth := 60) [State.wf_mk, State.wf_fold, State.waiting_mk, State.waiting_fold, *]
@[simp] theorem State.setStack_pending {s c l} : State.waiting (State.setStack s c l) = State.waiting s := by
  unfold State.setStack; (repeat' split) <;> simp (maxDischargeDepth := 60) [State.wf_mk, State.wf_fold, State.waiting_mk, State.waiting_fold, *]
@[simp] theorem State.suspend_wf {s c y} (h : State.wf s = true) : State.wf (State.suspend s c y) = true := by
  unfold State.suspend; (repeat' split) <;> simp (maxDischargeDepth := 60) [State.wf_mk, State.wf_fold, State.waiting_mk, State.waiting_fold, *]
@[simp] theorem State.suspend_pending {s c y} : State.waiting (State.suspend s c y) = State.waiting s := by
  unfold State.suspend; (repeat' split) <;> simp (maxDischargeDepth := 60) [State.wf_mk, State.wf_fold, State.waiting_mk, State.waiting_fold, *]
@[simp] theorem State.setLdi_wf {s c o} (h : State.wf s = true) : State.wf (State.setLdi s c o) = true := by
  unfold State.setLdi; (repeat' split) <;> simp (maxDischargeDepth := 60) [State.wf_mk, State.wf_fold, State.waiting_mk, State.waiting_fold, *]
@[simp] theorem State.setLdi_pending {s c o} : State.waiting (State.setLdi s c o) = State.waiting s := by
  unfold State.setLdi; (repeat' split) <;> simp (maxDischargeDepth := 60) [State.wf_mk, State.wf_fold, State.waiting_mk, State.waiting_fold, *]
@[simp] theorem State.putPort_wf {s c p v t} (h : State.wf s = true) (ht : State.putPort s c p v = some t) :
    State.wf t = true := by
  unfold State.putPort at ht
  (repeat' split at ht) <;> simp only [Option.some.injEq, reduceCtorEq] at ht <;> subst ht <;> simp +contextual (maxDischargeDepth := 60) [State.wf_mk, State.wf_fold, State.waiting_mk, State.waiting_fold, *]
theorem State.putPort_pending {s c p v t} (ht : State.putPort s c p v = some t) :
    State.waiting t = State.waiting s := by
  unfold State.putPort at ht
  (repeat' split at ht) <;> simp only [Option.some.injEq, reduceCtorEq] at ht <;> subst ht <;> simp +contextual (maxDischargeDepth := 60) [State.wf_mk, State.wf_fold, State.waiting_mk, State.waiting_fold, *]

/-! Machine/Gulgaub.lean -/

@[simp] theorem State.bareRecord_wf {s n term src} (h : State.wf s = true) : State.wf (State.bareRecord s n term src) = true := by
  unfold State.bareRecord
  extract_lets v0 v1
  clear_value v0
  have h_v1 : State.wf v1 = true := by subst v1; simp (maxDischargeDepth := 60) [State.wf_mk, State.wf_fold, State.waiting_mk, State.waiting_fold, *]
  clear_value v1
  simp (maxDischargeDepth := 60) [State.wf_mk, State.wf_fold, State.waiting_mk, State.waiting_fold, *]
@[simp] theorem State.bareRecord_pending {s n term src} : State.waiting (State.bareRecord s n term src) = State.waiting s := by
  unfold State.bareRecord
  extract_lets v0 v1
  clear_value v0
  have h_v1 : State.waiting v1 = State.waiting s := by subst v1; simp (maxDischargeDepth := 60) [State.wf_mk, State.wf_fold, State.waiting_mk, State.waiting_fold, *]
  clear_value v1
  simp (maxDischargeDepth := 60) [State.wf_mk, State.wf_fold, State.waiting_mk, State.waiting_fold, *]
@[simp] theorem State.dropCaps_wf {s n} (h : State.wf s = true) : State.wf (State.dropCaps s n) = true := by
  unfold State.dropCaps; simp (maxDischargeDepth := 60) [State.wf_mk, State.wf_fold, State.waiting_mk, State.waiting_fold, *]
@[simp] theorem State.dropCaps_pending {s n} : State.waiting (State.dropCaps s n) = State.waiting s := by
  unfold State.dropCaps; simp (maxDischargeDepth := 60) [State.wf_mk, State.wf_fold, State.waiting_mk, State.waiting_fold, *]
@[simp] theorem State.progFault_wf {s c code} (h : State.wf s = true) : State.wf (State.progFault s c code) = true := by
  unfold State.progFault; (repeat' split) <;> simp (maxDischargeDepth := 60) [State.wf_mk, State.wf_fold, State.waiting_mk, State.waiting_fold, *]
@[simp] theorem State.progFault_pending {s c code} : State.waiting (State.progFault s c code) = State.waiting s := by
  unfold State.progFault; (repeat' split) <;> simp (maxDischargeDepth := 60) [State.wf_mk, State.wf_fold, State.waiting_mk, State.waiting_fold, *]
@[simp] theorem State.instr_wf {s c shelfOk fields f} (h : State.wf s = true) (hf : ∀ t, State.wf t = true → State.wf (f t) = true) : State.wf (State.instr s c shelfOk fields f) = true := by
  unfold State.instr; simp (maxDischargeDepth := 60) [State.wf_mk, State.wf_fold, State.waiting_mk, State.waiting_fold, *]
@[simp] theorem State.instr_pending {s c shelfOk fields f} (hf : ∀ t, State.waiting (f t) = State.waiting t) : State.waiting (State.instr s c shelfOk fields f) = State.waiting s := by
  unfold State.instr; simp (maxDischargeDepth := 60) [State.wf_mk, State.wf_fold, State.waiting_mk, State.waiting_fold, *]
@[simp] theorem State.freezeFor_wf {s n peak} (h : State.wf s = true) : State.wf (State.freezeFor s n peak) = true := by
  unfold State.freezeFor; simp +contextual (maxDischargeDepth := 60) [State.wf_mk, State.wf_fold, State.waiting_mk, State.waiting_fold, *]
@[simp] theorem State.freezeFor_pending {s n peak} : State.waiting (State.freezeFor s n peak) = State.waiting s := by
  unfold State.freezeFor; simp (maxDischargeDepth := 60) [State.wf_mk, State.wf_fold, State.waiting_mk, State.waiting_fold, *]
@[simp] theorem State.measTake_wf {s n} (h : State.wf s = true) : State.wf (State.measTake s n) = true := by
  unfold State.measTake; simp +contextual (maxDischargeDepth := 60) [State.wf_mk, State.wf_fold, State.waiting_mk, State.waiting_fold, *]
@[simp] theorem State.measTake_pending {s n} : State.waiting (State.measTake s n) = State.waiting s := by
  unfold State.measTake; simp (maxDischargeDepth := 60) [State.wf_mk, State.wf_fold, State.waiting_mk, State.waiting_fold, *]
@[simp] theorem State.openStep_wf {s n st peak} (h : State.wf s = true) : State.wf (State.openStep s n st peak) = true := by
  unfold State.openStep
  extract_lets v0 v1 v2 v3 v4 v5 v6 v7 v8 v9 v10 v11 v12 v13 v14 v15 v16 v17
  clear_value v0
  have h_v1 : State.wf v1 = true := by subst v1; simp (maxDischargeDepth := 60) [State.wf_mk, State.wf_fold, State.waiting_mk, State.waiting_fold, *]
  clear_value v1
  clear_value v2
  clear_value v3
  clear_value v4
  clear_value v5
  clear_value v6
  clear_value v7
  have h_v8 : State.wf v8 = true := by subst v8; simp (maxDischargeDepth := 60) [State.wf_mk, State.wf_fold, State.waiting_mk, State.waiting_fold, *]
  clear_value v8
  have h_v9 : State.wf v9 = true := by subst v9; simp (maxDischargeDepth := 60) [State.wf_mk, State.wf_fold, State.waiting_mk, State.waiting_fold, *]
  clear_value v9
  have h_v10 : State.wf v10 = true := by subst v10; ((repeat' split) <;> simp (maxDischargeDepth := 60) [State.wf_mk, State.wf_fold, State.waiting_mk, State.waiting_fold, *])
  clear_value v10
  clear_value v11
  have h_v12 : State.wf v12 = true := by subst v12; simp (maxDischargeDepth := 60) [State.wf_mk, State.wf_fold, State.waiting_mk, State.waiting_fold, *]
  clear_value v12
  have h_v13 : State.wf v13 = true := by subst v13; simp +contextual (maxDischargeDepth := 60) [State.wf_mk, State.wf_fold, State.waiting_mk, State.waiting_fold, *]
  clear_value v13
  have h_v14 : State.wf v14 = true := by subst v14; simp (maxDischargeDepth := 60) [State.wf_mk, State.wf_fold, State.waiting_mk, State.waiting_fold, *]
  clear_value v14
  have h_v15 : State.wf v15 = true := by subst v15; simp (maxDischargeDepth := 60) [State.wf_mk, State.wf_fold, State.waiting_mk, State.waiting_fold, *]
  clear_value v15
  have h_v16 : State.wf v16 = true := by subst v16; simp (maxDischargeDepth := 60) [State.wf_mk, State.wf_fold, State.waiting_mk, State.waiting_fold, *]
  clear_value v16
  have h_v17 : State.wf v17 = true := by subst v17; simp (maxDischargeDepth := 60) [State.wf_mk, State.wf_fold, State.waiting_mk, State.waiting_fold, *]
  clear_value v17
  ((repeat' split) <;> (try extract_lets) <;> simp +zetaDelta +contextual (maxDischargeDepth := 60) [State.wf_mk, State.wf_fold, State.waiting_mk, State.waiting_fold, *])
@[simp] theorem State.openStep_pending {s n st peak} : State.waiting (State.openStep s n st peak) = State.waiting s := by
  unfold State.openStep
  extract_lets v0 v1 v2 v3 v4 v5 v6 v7 v8 v9 v10 v11 v12 v13 v14 v15 v16 v17
  clear_value v0
  have h_v1 : State.waiting v1 = State.waiting s := by subst v1; simp (maxDischargeDepth := 60) [State.wf_mk, State.wf_fold, State.waiting_mk, State.waiting_fold, *]
  clear_value v1
  clear_value v2
  clear_value v3
  clear_value v4
  clear_value v5
  clear_value v6
  clear_value v7
  have h_v8 : State.waiting v8 = State.waiting s := by subst v8; simp (maxDischargeDepth := 60) [State.wf_mk, State.wf_fold, State.waiting_mk, State.waiting_fold, *]
  clear_value v8
  have h_v9 : State.waiting v9 = State.waiting s := by subst v9; simp (maxDischargeDepth := 60) [State.wf_mk, State.wf_fold, State.waiting_mk, State.waiting_fold, *]
  clear_value v9
  have h_v10 : State.waiting v10 = State.waiting s := by subst v10; ((repeat' split) <;> simp (maxDischargeDepth := 60) [State.wf_mk, State.wf_fold, State.waiting_mk, State.waiting_fold, *])
  clear_value v10
  clear_value v11
  have h_v12 : State.waiting v12 = State.waiting s := by subst v12; simp (maxDischargeDepth := 60) [State.wf_mk, State.wf_fold, State.waiting_mk, State.waiting_fold, *]
  clear_value v12
  have h_v13 : State.waiting v13 = State.waiting s := by subst v13; simp (maxDischargeDepth := 60) [State.wf_mk, State.wf_fold, State.waiting_mk, State.waiting_fold, *]
  clear_value v13
  have h_v14 : State.waiting v14 = State.waiting s := by subst v14; simp (maxDischargeDepth := 60) [State.wf_mk, State.wf_fold, State.waiting_mk, State.waiting_fold, *]
  clear_value v14
  have h_v15 : State.waiting v15 = State.waiting s := by subst v15; simp (maxDischargeDepth := 60) [State.wf_mk, State.wf_fold, State.waiting_mk, State.waiting_fold, *]
  clear_value v15
  have h_v16 : State.waiting v16 = State.waiting s := by subst v16; simp (maxDischargeDepth := 60) [State.wf_mk, State.wf_fold, State.waiting_mk, State.waiting_fold, *]
  clear_value v16
  have h_v17 : State.waiting v17 = State.waiting s := by subst v17; simp (maxDischargeDepth := 60) [State.wf_mk, State.wf_fold, State.waiting_mk, State.waiting_fold, *]
  clear_value v17
  ((repeat' split) <;> (try extract_lets) <;> simp (maxDischargeDepth := 60) +zetaDelta [State.wf_mk, State.wf_fold, State.waiting_mk, State.waiting_fold, *])
@[simp] theorem State.modeGate_wf {s n op f} (h : State.wf s = true) (hf : ∀ t, State.wf t = true → State.wf (f t) = true) : State.wf (State.modeGate s n op f) = true := by
  unfold State.modeGate; simp (maxDischargeDepth := 60) [State.wf_mk, State.wf_fold, State.waiting_mk, State.waiting_fold, *]
@[simp] theorem State.modeGate_pending {s n op f} (hf : ∀ t, State.waiting (f t) = State.waiting t) : State.waiting (State.modeGate s n op f) = State.waiting s := by
  unfold State.modeGate; simp (maxDischargeDepth := 60) [State.wf_mk, State.wf_fold, State.waiting_mk, State.waiting_fold, *]
@[simp] theorem State.modeInstr_wf {s c op fields f} (h : State.wf s = true) (hf : ∀ x0 t, State.wf t = true → State.wf (f x0 t) = true) : State.wf (State.modeInstr s c op fields f) = true := by
  unfold State.modeInstr; (repeat' split) <;> simp +contextual (maxDischargeDepth := 60) [State.wf_mk, State.wf_fold, State.waiting_mk, State.waiting_fold, *]
@[simp] theorem State.modeInstr_pending {s c op fields f} (hf : ∀ x0 t, State.waiting (f x0 t) = State.waiting t) : State.waiting (State.modeInstr s c op fields f) = State.waiting s := by
  unfold State.modeInstr; (repeat' split) <;> simp (maxDischargeDepth := 60) [State.wf_mk, State.wf_fold, State.waiting_mk, State.waiting_fold, *]
@[simp] theorem State.clampOperand_wf {s n w} (h : State.wf s = true) : State.wf (State.clampOperand s n w) = true := by
  unfold State.clampOperand; simp (maxDischargeDepth := 60) [State.wf_mk, State.wf_fold, State.waiting_mk, State.waiting_fold, *]
@[simp] theorem State.clampOperand_pending {s n w} : State.waiting (State.clampOperand s n w) = State.waiting s := by
  unfold State.clampOperand; simp (maxDischargeDepth := 60) [State.wf_mk, State.wf_fold, State.waiting_mk, State.waiting_fold, *]
@[simp] theorem State.opCurrent_wf {s c op w} (h : State.wf s = true) : State.wf (State.opCurrent s c op w) = true := by
  unfold State.opCurrent; simp +contextual (maxDischargeDepth := 60) [State.wf_mk, State.wf_fold, State.waiting_mk, State.waiting_fold, *]
@[simp] theorem State.opCurrent_pending {s c op w} : State.waiting (State.opCurrent s c op w) = State.waiting s := by
  unfold State.opCurrent; simp (maxDischargeDepth := 60) [State.wf_mk, State.wf_fold, State.waiting_mk, State.waiting_fold, *]
@[simp] theorem State.opCv_wf {s c w} (h : State.wf s = true) : State.wf (State.opCv s c w) = true := by
  unfold State.opCv; simp +contextual (maxDischargeDepth := 60) [State.wf_mk, State.wf_fold, State.waiting_mk, State.waiting_fold, *]
@[simp] theorem State.opCv_pending {s c w} : State.waiting (State.opCv s c w) = State.waiting s := by
  unfold State.opCv; simp (maxDischargeDepth := 60) [State.wf_mk, State.wf_fold, State.waiting_mk, State.waiting_fold, *]
@[simp] theorem State.opCcv_wf {s c w} (h : State.wf s = true) : State.wf (State.opCcv s c w) = true := by
  unfold State.opCcv; simp +contextual (maxDischargeDepth := 60) [State.wf_mk, State.wf_fold, State.waiting_mk, State.waiting_fold, *]
@[simp] theorem State.opCcv_pending {s c w} : State.waiting (State.opCcv s c w) = State.waiting s := by
  unfold State.opCcv; simp (maxDischargeDepth := 60) [State.wf_mk, State.wf_fold, State.waiting_mk, State.waiting_fold, *]
@[simp] theorem State.opPulse_wf {s c w} (h : State.wf s = true) : State.wf (State.opPulse s c w) = true := by
  unfold State.opPulse; simp +contextual (maxDischargeDepth := 60) [State.wf_mk, State.wf_fold, State.waiting_mk, State.waiting_fold, *]
@[simp] theorem State.opPulse_pending {s c w} : State.waiting (State.opPulse s c w) = State.waiting s := by
  unfold State.opPulse; simp (maxDischargeDepth := 60) [State.wf_mk, State.wf_fold, State.waiting_mk, State.waiting_fold, *]
@[simp] theorem State.opEis_wf {s c w} (h : State.wf s = true) : State.wf (State.opEis s c w) = true := by
  unfold State.opEis; simp +contextual (maxDischargeDepth := 60) [State.wf_mk, State.wf_fold, State.waiting_mk, State.waiting_fold, *]
@[simp] theorem State.opEis_pending {s c w} : State.waiting (State.opEis s c w) = State.waiting s := by
  unfold State.opEis; simp (maxDischargeDepth := 60) [State.wf_mk, State.wf_fold, State.waiting_mk, State.waiting_fold, *]
@[simp] theorem State.opStill_wf {s c op w} (h : State.wf s = true) : State.wf (State.opStill s c op w) = true := by
  unfold State.opStill; simp +contextual (maxDischargeDepth := 60) [State.wf_mk, State.wf_fold, State.waiting_mk, State.waiting_fold, *]
@[simp] theorem State.opStill_pending {s c op w} : State.waiting (State.opStill s c op w) = State.waiting s := by
  unfold State.opStill; simp (maxDischargeDepth := 60) [State.wf_mk, State.wf_fold, State.waiting_mk, State.waiting_fold, *]
@[simp] theorem State.chanInstr_wf {s c fields f} (h : State.wf s = true) (hf : ∀ x0 t, State.wf t = true → State.wf (f x0 t) = true) : State.wf (State.chanInstr s c fields f) = true := by
  unfold State.chanInstr; (repeat' split) <;> simp +contextual (maxDischargeDepth := 60) [State.wf_mk, State.wf_fold, State.waiting_mk, State.waiting_fold, *]
@[simp] theorem State.chanInstr_pending {s c fields f} (hf : ∀ x0 t, State.waiting (f x0 t) = State.waiting t) : State.waiting (State.chanInstr s c fields f) = State.waiting s := by
  unfold State.chanInstr; (repeat' split) <;> simp (maxDischargeDepth := 60) [State.wf_mk, State.wf_fold, State.waiting_mk, State.waiting_fold, *]
@[simp] theorem State.opLimv_wf {s c w} (h : State.wf s = true) : State.wf (State.opLimv s c w) = true := by
  unfold State.opLimv; simp +contextual (maxDischargeDepth := 60) [State.wf_mk, State.wf_fold, State.waiting_mk, State.waiting_fold, *]
@[simp] theorem State.opLimv_pending {s c w} : State.waiting (State.opLimv s c w) = State.waiting s := by
  unfold State.opLimv; simp (maxDischargeDepth := 60) [State.wf_mk, State.wf_fold, State.waiting_mk, State.waiting_fold, *]
@[simp] theorem State.opLimi_wf {s c w} (h : State.wf s = true) : State.wf (State.opLimi s c w) = true := by
  unfold State.opLimi; simp +contextual (maxDischargeDepth := 60) [State.wf_mk, State.wf_fold, State.waiting_mk, State.waiting_fold, *]
@[simp] theorem State.opLimi_pending {s c w} : State.waiting (State.opLimi s c w) = State.waiting s := by
  unfold State.opLimi; simp (maxDischargeDepth := 60) [State.wf_mk, State.wf_fold, State.waiting_mk, State.waiting_fold, *]
@[simp] theorem State.opLimt_wf {s c w} (h : State.wf s = true) : State.wf (State.opLimt s c w) = true := by
  unfold State.opLimt; simp +contextual (maxDischargeDepth := 60) [State.wf_mk, State.wf_fold, State.waiting_mk, State.waiting_fold, *]
@[simp] theorem State.opLimt_pending {s c w} : State.waiting (State.opLimt s c w) = State.waiting s := by
  unfold State.opLimt; simp (maxDischargeDepth := 60) [State.wf_mk, State.wf_fold, State.waiting_mk, State.waiting_fold, *]
@[simp] theorem State.armInstr_wf {s c fields f a} (h : State.wf s = true) : State.wf (State.armInstr s c fields f a) = true := by
  unfold State.armInstr; simp +contextual (maxDischargeDepth := 60) [State.wf_mk, State.wf_fold, State.waiting_mk, State.waiting_fold, *]
@[simp] theorem State.armInstr_pending {s c fields f a} : State.waiting (State.armInstr s c fields f a) = State.waiting s := by
  unfold State.armInstr; simp (maxDischargeDepth := 60) [State.wf_mk, State.wf_fold, State.waiting_mk, State.waiting_fold, *]
@[simp] theorem State.opDisarm_wf {s c w} (h : State.wf s = true) : State.wf (State.opDisarm s c w) = true := by
  unfold State.opDisarm; simp (maxDischargeDepth := 60) [State.wf_mk, State.wf_fold, State.waiting_mk, State.waiting_fold, *]
@[simp] theorem State.opDisarm_pending {s c w} : State.waiting (State.opDisarm s c w) = State.waiting s := by
  unfold State.opDisarm; simp (maxDischargeDepth := 60) [State.wf_mk, State.wf_fold, State.waiting_mk, State.waiting_fold, *]
@[simp] theorem State.opArmt_wf {s c w} (h : State.wf s = true) : State.wf (State.opArmt s c w) = true := by
  unfold State.opArmt; simp (maxDischargeDepth := 60) [State.wf_mk, State.wf_fold, State.waiting_mk, State.waiting_fold, *]
@[simp] theorem State.opArmt_pending {s c w} : State.waiting (State.opArmt s c w) = State.waiting s := by
  unfold State.opArmt; simp (maxDischargeDepth := 60) [State.wf_mk, State.wf_fold, State.waiting_mk, State.waiting_fold, *]
@[simp] theorem State.opArmv_wf {s c w} (h : State.wf s = true) : State.wf (State.opArmv s c w) = true := by
  unfold State.opArmv; simp (maxDischargeDepth := 60) [State.wf_mk, State.wf_fold, State.waiting_mk, State.waiting_fold, *]
@[simp] theorem State.opArmv_pending {s c w} : State.waiting (State.opArmv s c w) = State.waiting s := by
  unfold State.opArmv; simp (maxDischargeDepth := 60) [State.wf_mk, State.wf_fold, State.waiting_mk, State.waiting_fold, *]
@[simp] theorem State.opArmi_wf {s c w} (h : State.wf s = true) : State.wf (State.opArmi s c w) = true := by
  unfold State.opArmi; simp (maxDischargeDepth := 60) [State.wf_mk, State.wf_fold, State.waiting_mk, State.waiting_fold, *]
@[simp] theorem State.opArmi_pending {s c w} : State.waiting (State.opArmi s c w) = State.waiting s := by
  unfold State.opArmi; simp (maxDischargeDepth := 60) [State.wf_mk, State.wf_fold, State.waiting_mk, State.waiting_fold, *]
@[simp] theorem State.opArmtap_wf {s c w} (h : State.wf s = true) : State.wf (State.opArmtap s c w) = true := by
  unfold State.opArmtap; simp (maxDischargeDepth := 60) [State.wf_mk, State.wf_fold, State.waiting_mk, State.waiting_fold, *]
@[simp] theorem State.opArmtap_pending {s c w} : State.waiting (State.opArmtap s c w) = State.waiting s := by
  unfold State.opArmtap; simp (maxDischargeDepth := 60) [State.wf_mk, State.wf_fold, State.waiting_mk, State.waiting_fold, *]
@[simp] theorem State.opArmq_wf {s c w} (h : State.wf s = true) : State.wf (State.opArmq s c w) = true := by
  unfold State.opArmq; simp (maxDischargeDepth := 60) [State.wf_mk, State.wf_fold, State.waiting_mk, State.waiting_fold, *]
@[simp] theorem State.opArmq_pending {s c w} : State.waiting (State.opArmq s c w) = State.waiting s := by
  unfold State.opArmq; simp (maxDischargeDepth := 60) [State.wf_mk, State.wf_fold, State.waiting_mk, State.waiting_fold, *]
@[simp] theorem State.opArme_wf {s c w} (h : State.wf s = true) : State.wf (State.opArme s c w) = true := by
  unfold State.opArme; simp (maxDischargeDepth := 60) [State.wf_mk, State.wf_fold, State.waiting_mk, State.waiting_fold, *]
@[simp] theorem State.opArme_pending {s c w} : State.waiting (State.opArme s c w) = State.waiting s := by
  unfold State.opArme; simp (maxDischargeDepth := 60) [State.wf_mk, State.wf_fold, State.waiting_mk, State.waiting_fold, *]
@[simp] theorem State.opArmdv_wf {s c w} (h : State.wf s = true) : State.wf (State.opArmdv s c w) = true := by
  unfold State.opArmdv; simp +contextual (maxDischargeDepth := 60) [State.wf_mk, State.wf_fold, State.waiting_mk, State.waiting_fold, *]
@[simp] theorem State.opArmdv_pending {s c w} : State.waiting (State.opArmdv s c w) = State.waiting s := by
  unfold State.opArmdv; simp (maxDischargeDepth := 60) [State.wf_mk, State.wf_fold, State.waiting_mk, State.waiting_fold, *]
@[simp] theorem State.opArmtc_wf {s c w} (h : State.wf s = true) : State.wf (State.opArmtc s c w) = true := by
  unfold State.opArmtc; simp (maxDischargeDepth := 60) [State.wf_mk, State.wf_fold, State.waiting_mk, State.waiting_fold, *]
@[simp] theorem State.opArmtc_pending {s c w} : State.waiting (State.opArmtc s c w) = State.waiting s := by
  unfold State.opArmtc; simp (maxDischargeDepth := 60) [State.wf_mk, State.wf_fold, State.waiting_mk, State.waiting_fold, *]
@[simp] theorem State.opWait_wf {s c w} (h : State.wf s = true) : State.wf (State.opWait s c w) = true := by
  unfold State.opWait; (repeat' split) <;> simp +contextual (maxDischargeDepth := 60) [State.wf_mk, State.wf_fold, State.waiting_mk, State.waiting_fold, *]
@[simp] theorem State.opWait_pending {s c w} : State.waiting (State.opWait s c w) = State.waiting s := by
  unfold State.opWait; (repeat' split) <;> simp (maxDischargeDepth := 60) [State.wf_mk, State.wf_fold, State.waiting_mk, State.waiting_fold, *]
@[simp] theorem State.opLdi_wf {s c w} (h : State.wf s = true) : State.wf (State.opLdi s c w) = true := by
  unfold State.opLdi; simp +contextual (maxDischargeDepth := 60) [State.wf_mk, State.wf_fold, State.waiting_mk, State.waiting_fold, *]
@[simp] theorem State.opLdi_pending {s c w} : State.waiting (State.opLdi s c w) = State.waiting s := by
  unfold State.opLdi; simp (maxDischargeDepth := 60) [State.wf_mk, State.wf_fold, State.waiting_mk, State.waiting_fold, *]
@[simp] theorem State.literal_wf {s c v} (h : State.wf s = true) : State.wf (State.literal s c v) = true := by
  unfold State.literal; (repeat' split) <;> simp (maxDischargeDepth := 60) [State.wf_mk, State.wf_fold, State.waiting_mk, State.waiting_fold, *]
@[simp] theorem State.literal_pending {s c v} : State.waiting (State.literal s c v) = State.waiting s := by
  unfold State.literal; (repeat' split) <;> simp (maxDischargeDepth := 60) [State.wf_mk, State.wf_fold, State.waiting_mk, State.waiting_fold, *]
@[simp] theorem State.opLdiLit_wf {s c w v} (h : State.wf s = true) : State.wf (State.opLdiLit s c w v) = true := by
  unfold State.opLdiLit; simp (maxDischargeDepth := 60) [State.wf_mk, State.wf_fold, State.waiting_mk, State.waiting_fold, *]
@[simp] theorem State.opLdiLit_pending {s c w v} : State.waiting (State.opLdiLit s c w v) = State.waiting s := by
  unfold State.opLdiLit; simp (maxDischargeDepth := 60) [State.wf_mk, State.wf_fold, State.waiting_mk, State.waiting_fold, *]
@[simp] theorem State.opMov_wf {s c w} (h : State.wf s = true) : State.wf (State.opMov s c w) = true := by
  unfold State.opMov; simp +contextual (maxDischargeDepth := 60) [State.wf_mk, State.wf_fold, State.waiting_mk, State.waiting_fold, *]
@[simp] theorem State.opMov_pending {s c w} : State.waiting (State.opMov s c w) = State.waiting s := by
  unfold State.opMov; simp (maxDischargeDepth := 60) [State.wf_mk, State.wf_fold, State.waiting_mk, State.waiting_fold, *]
@[simp] theorem State.opGetm_wf {s c w} (h : State.wf s = true) : State.wf (State.opGetm s c w) = true := by
  unfold State.opGetm
  refine State.instr_wf h fun t ht => ?_
  split <;> simp +contextual (maxDischargeDepth := 60) [State.wf_mk, State.wf_fold, State.waiting_mk, State.waiting_fold, *]
@[simp] theorem State.opGetm_pending {s c w} : State.waiting (State.opGetm s c w) = State.waiting s := by
  unfold State.opGetm
  refine State.instr_pending fun t => ?_
  split <;> simp +contextual (maxDischargeDepth := 60) [State.wf_mk, State.wf_fold, State.waiting_mk, State.waiting_fold, *]
@[simp] theorem State.opPutp_wf {s c w} (h : State.wf s = true) : State.wf (State.opPutp s c w) = true := by
  unfold State.opPutp
  refine State.instr_wf h fun t ht => ?_
  split
  · next u hu => exact State.advance_wf (State.putPort_wf ht hu)
  · exact State.progFault_wf ht
@[simp] theorem State.opPutp_pending {s c w} : State.waiting (State.opPutp s c w) = State.waiting s := by
  unfold State.opPutp
  refine State.instr_pending fun t => ?_
  split
  · next u hu => rw [State.advance_pending, State.putPort_pending hu]
  · exact State.progFault_pending
@[simp] theorem State.opAlu_wf {s c fields wr f w y} (h : State.wf s = true) : State.wf (State.opAlu s c fields wr f w y) = true := by
  unfold State.opAlu; simp +contextual (maxDischargeDepth := 60) [State.wf_mk, State.wf_fold, State.waiting_mk, State.waiting_fold, *]
@[simp] theorem State.opAlu_pending {s c fields wr f w y} : State.waiting (State.opAlu s c fields wr f w y) = State.waiting s := by
  unfold State.opAlu; simp (maxDischargeDepth := 60) [State.wf_mk, State.wf_fold, State.waiting_mk, State.waiting_fold, *]
@[simp] theorem State.opAdd_wf {s c w} (h : State.wf s = true) : State.wf (State.opAdd s c w) = true := by
  unfold State.opAdd; simp (maxDischargeDepth := 60) [State.wf_mk, State.wf_fold, State.waiting_mk, State.waiting_fold, *]
@[simp] theorem State.opAdd_pending {s c w} : State.waiting (State.opAdd s c w) = State.waiting s := by
  unfold State.opAdd; simp (maxDischargeDepth := 60) [State.wf_mk, State.wf_fold, State.waiting_mk, State.waiting_fold, *]
@[simp] theorem State.opSub_wf {s c w} (h : State.wf s = true) : State.wf (State.opSub s c w) = true := by
  unfold State.opSub; simp (maxDischargeDepth := 60) [State.wf_mk, State.wf_fold, State.waiting_mk, State.waiting_fold, *]
@[simp] theorem State.opSub_pending {s c w} : State.waiting (State.opSub s c w) = State.waiting s := by
  unfold State.opSub; simp (maxDischargeDepth := 60) [State.wf_mk, State.wf_fold, State.waiting_mk, State.waiting_fold, *]
@[simp] theorem State.opCmp_wf {s c w} (h : State.wf s = true) : State.wf (State.opCmp s c w) = true := by
  unfold State.opCmp; simp (maxDischargeDepth := 60) [State.wf_mk, State.wf_fold, State.waiting_mk, State.waiting_fold, *]
@[simp] theorem State.opCmp_pending {s c w} : State.waiting (State.opCmp s c w) = State.waiting s := by
  unfold State.opCmp; simp (maxDischargeDepth := 60) [State.wf_mk, State.wf_fold, State.waiting_mk, State.waiting_fold, *]
@[simp] theorem State.opMulsh_wf {s c w} (h : State.wf s = true) : State.wf (State.opMulsh s c w) = true := by
  unfold State.opMulsh; simp (maxDischargeDepth := 60) [State.wf_mk, State.wf_fold, State.waiting_mk, State.waiting_fold, *]
@[simp] theorem State.opMulsh_pending {s c w} : State.waiting (State.opMulsh s c w) = State.waiting s := by
  unfold State.opMulsh; simp (maxDischargeDepth := 60) [State.wf_mk, State.wf_fold, State.waiting_mk, State.waiting_fold, *]
@[simp] theorem State.flow_wf {s c w fields f} (h : State.wf s = true) (hf : ∀ t, State.wf t = true → State.wf (f t) = true) : State.wf (State.flow s c w fields f) = true := by
  unfold State.flow; simp +contextual (maxDischargeDepth := 60) [State.wf_mk, State.wf_fold, State.waiting_mk, State.waiting_fold, *]
@[simp] theorem State.flow_pending {s c w fields f} (hf : ∀ t, State.waiting (f t) = State.waiting t) : State.waiting (State.flow s c w fields f) = State.waiting s := by
  unfold State.flow; simp (maxDischargeDepth := 60) [State.wf_mk, State.wf_fold, State.waiting_mk, State.waiting_fold, *]
@[simp] theorem State.opBr_wf {s c w} (h : State.wf s = true) : State.wf (State.opBr s c w) = true := by
  unfold State.opBr; simp +contextual (maxDischargeDepth := 60) [State.wf_mk, State.wf_fold, State.waiting_mk, State.waiting_fold, *]
@[simp] theorem State.opBr_pending {s c w} : State.waiting (State.opBr s c w) = State.waiting s := by
  unfold State.opBr; simp (maxDischargeDepth := 60) [State.wf_mk, State.wf_fold, State.waiting_mk, State.waiting_fold, *]
@[simp] theorem State.opLoop_wf {s c w} (h : State.wf s = true) : State.wf (State.opLoop s c w) = true := by
  unfold State.opLoop; simp +contextual (maxDischargeDepth := 60) [State.wf_mk, State.wf_fold, State.waiting_mk, State.waiting_fold, *]
@[simp] theorem State.opLoop_pending {s c w} : State.waiting (State.opLoop s c w) = State.waiting s := by
  unfold State.opLoop; simp (maxDischargeDepth := 60) [State.wf_mk, State.wf_fold, State.waiting_mk, State.waiting_fold, *]
@[simp] theorem State.opCall_wf {s c w} (h : State.wf s = true) : State.wf (State.opCall s c w) = true := by
  unfold State.opCall; simp +contextual (maxDischargeDepth := 60) [State.wf_mk, State.wf_fold, State.waiting_mk, State.waiting_fold, *]
@[simp] theorem State.opCall_pending {s c w} : State.waiting (State.opCall s c w) = State.waiting s := by
  unfold State.opCall; simp (maxDischargeDepth := 60) [State.wf_mk, State.wf_fold, State.waiting_mk, State.waiting_fold, *]
@[simp] theorem State.opRet_wf {s c w} (h : State.wf s = true) : State.wf (State.opRet s c w) = true := by
  unfold State.opRet
  refine State.instr_wf h fun t ht => ?_
  split <;> simp +contextual (maxDischargeDepth := 60) [State.wf_mk, State.wf_fold, State.waiting_mk, State.waiting_fold, *]
@[simp] theorem State.opRet_pending {s c w} : State.waiting (State.opRet s c w) = State.waiting s := by
  unfold State.opRet
  refine State.instr_pending fun t => ?_
  split <;> simp +contextual (maxDischargeDepth := 60) [State.wf_mk, State.wf_fold, State.waiting_mk, State.waiting_fold, *]
@[simp] theorem State.opNop_wf {s c w} (h : State.wf s = true) : State.wf (State.opNop s c w) = true := by
  unfold State.opNop; simp +contextual (maxDischargeDepth := 60) [State.wf_mk, State.wf_fold, State.waiting_mk, State.waiting_fold, *]
@[simp] theorem State.opNop_pending {s c w} : State.waiting (State.opNop s c w) = State.waiting s := by
  unfold State.opNop; simp (maxDischargeDepth := 60) [State.wf_mk, State.wf_fold, State.waiting_mk, State.waiting_fold, *]
@[simp] theorem State.opStop_wf {s c w} (h : State.wf s = true) : State.wf (State.opStop s c w) = true := by
  unfold State.opStop; (repeat' split) <;> simp +contextual (maxDischargeDepth := 60) [State.wf_mk, State.wf_fold, State.waiting_mk, State.waiting_fold, *]
@[simp] theorem State.opStop_pending {s c w} : State.waiting (State.opStop s c w) = State.waiting s := by
  unfold State.opStop; (repeat' split) <;> simp (maxDischargeDepth := 60) [State.wf_mk, State.wf_fold, State.waiting_mk, State.waiting_fold, *]
@[simp] theorem State.opCapdc_wf {s c w} (h : State.wf s = true) : State.wf (State.opCapdc s c w) = true := by
  unfold State.opCapdc; simp +contextual (maxDischargeDepth := 60) [State.wf_mk, State.wf_fold, State.waiting_mk, State.waiting_fold, *]
@[simp] theorem State.opCapdc_pending {s c w} : State.waiting (State.opCapdc s c w) = State.waiting s := by
  unfold State.opCapdc; simp (maxDischargeDepth := 60) [State.wf_mk, State.wf_fold, State.waiting_mk, State.waiting_fold, *]
@[simp] theorem State.opEisrun_wf {s c w} (h : State.wf s = true) : State.wf (State.opEisrun s c w) = true := by
  unfold State.opEisrun
  refine State.chanInstr_wf h fun n t ht => ?_
  split <;> simp +contextual (maxDischargeDepth := 60) [State.wf_mk, State.wf_fold, State.waiting_mk, State.waiting_fold, *]
@[simp] theorem State.opEisrun_pending {s c w} : State.waiting (State.opEisrun s c w) = State.waiting s := by
  unfold State.opEisrun
  refine State.chanInstr_pending fun n t => ?_
  split <;> simp +contextual (maxDischargeDepth := 60) [State.wf_mk, State.wf_fold, State.waiting_mk, State.waiting_fold, *]
@[simp] theorem State.setVEmit_wf {s c} (h : State.wf s = true) : State.wf (State.setVEmit s c) = true := by
  unfold State.setVEmit; (repeat' split) <;> simp (maxDischargeDepth := 60) [State.wf_mk, State.wf_fold, State.waiting_mk, State.waiting_fold, *]
@[simp] theorem State.setVEmit_pending {s c} : State.waiting (State.setVEmit s c) = State.waiting s := by
  unfold State.setVEmit; (repeat' split) <;> simp (maxDischargeDepth := 60) [State.wf_mk, State.wf_fold, State.waiting_mk, State.waiting_fold, *]
@[simp] theorem State.emitStream_wf {s c bs} (h : State.wf s = true) : State.wf (State.emitStream s c bs) = true := by
  unfold State.emitStream; (repeat' split) <;> simp (maxDischargeDepth := 60) [State.wf_mk, State.wf_fold, State.waiting_mk, State.waiting_fold, *]
@[simp] theorem State.emitStream_pending {s c bs} : State.waiting (State.emitStream s c bs) = State.waiting s := by
  unfold State.emitStream; (repeat' split) <;> simp (maxDischargeDepth := 60) [State.wf_mk, State.wf_fold, State.waiting_mk, State.waiting_fold, *]
@[simp] theorem State.opEmit_wf {s c w} (h : State.wf s = true) : State.wf (State.opEmit s c w) = true := by
  unfold State.opEmit; simp +contextual (maxDischargeDepth := 60) [State.wf_mk, State.wf_fold, State.waiting_mk, State.waiting_fold, *]
@[simp] theorem State.opEmit_pending {s c w} : State.waiting (State.opEmit s c w) = State.waiting s := by
  unfold State.opEmit; simp (maxDischargeDepth := 60) [State.wf_mk, State.wf_fold, State.waiting_mk, State.waiting_fold, *]
@[simp] theorem State.opBar_wf {s c w} (h : State.wf s = true) : State.wf (State.opBar s c w) = true := by
  unfold State.opBar
  refine State.instr_wf h fun t ht => ?_
  cases c <;> dsimp only <;> (repeat' split) <;> simp (maxDischargeDepth := 60) [State.wf_mk, State.wf_fold, State.waiting_mk, State.waiting_fold, *]
@[simp] theorem State.opBar_pending {s c w} : State.waiting (State.opBar s c w) = State.waiting s := by
  unfold State.opBar
  refine State.instr_pending fun t => ?_
  cases c <;> dsimp only <;> (repeat' split) <;> simp (maxDischargeDepth := 60) [State.wf_mk, State.wf_fold, State.waiting_mk, State.waiting_fold, *]
@[simp] theorem State.classNext_wf {s n k shelf} (h : State.wf s = true) : State.wf (State.classNext s n k shelf) = true := by
  unfold State.classNext; simp (maxDischargeDepth := 60) [State.wf_mk, State.wf_fold, State.waiting_mk, State.waiting_fold, *]
@[simp] theorem State.classNext_pending {s n k shelf} : State.waiting (State.classNext s n k shelf) = State.waiting s := by
  unfold State.classNext; simp (maxDischargeDepth := 60) [State.wf_mk, State.wf_fold, State.waiting_mk, State.waiting_fold, *]
@[simp] theorem State.opPrio_wf {s c w} (h : State.wf s = true) : State.wf (State.opPrio s c w) = true := by
  unfold State.opPrio; (repeat' split) <;> simp +contextual (maxDischargeDepth := 60) [State.wf_mk, State.wf_fold, State.waiting_mk, State.waiting_fold, *]
@[simp] theorem State.opPrio_pending {s c w} : State.waiting (State.opPrio s c w) = State.waiting s := by
  unfold State.opPrio; (repeat' split) <;> simp (maxDischargeDepth := 60) [State.wf_mk, State.wf_fold, State.waiting_mk, State.waiting_fold, *]
@[simp] theorem State.opSig_wf {s c w} (h : State.wf s = true) : State.wf (State.opSig s c w) = true := by
  unfold State.opSig; simp +contextual (maxDischargeDepth := 60) [State.wf_mk, State.wf_fold, State.waiting_mk, State.waiting_fold, *]
@[simp] theorem State.opSig_pending {s c w} : State.waiting (State.opSig s c w) = State.waiting s := by
  unfold State.opSig; simp (maxDischargeDepth := 60) [State.wf_mk, State.wf_fold, State.waiting_mk, State.waiting_fold, *]
@[simp] theorem State.opSwappt_wf {s c w} (h : State.wf s = true) : State.wf (State.opSwappt s c w) = true := by
  unfold State.opSwappt; (repeat' split) <;> simp +contextual (maxDischargeDepth := 60) [State.wf_mk, State.wf_fold, State.waiting_mk, State.waiting_fold, *]
@[simp] theorem State.opSwappt_pending {s c w} : State.waiting (State.opSwappt s c w) = State.waiting s := by
  unfold State.opSwappt; (repeat' split) <;> simp (maxDischargeDepth := 60) [State.wf_mk, State.wf_fold, State.waiting_mk, State.waiting_fold, *]
@[simp] theorem State.barRelease_wf {s b timeout} (h : State.wf s = true) : State.wf (State.barRelease s b timeout) = true := by
  unfold State.barRelease; simp +contextual (maxDischargeDepth := 60) [State.wf_mk, State.wf_fold, State.waiting_mk, State.waiting_fold, *]
@[simp] theorem State.barRelease_pending {s b timeout} : State.waiting (State.barRelease s b timeout) = State.waiting s := by
  unfold State.barRelease; simp (maxDischargeDepth := 60) [State.wf_mk, State.wf_fold, State.waiting_mk, State.waiting_fold, *]
@[simp] theorem State.barEnd_wf {s b timeout} (h : State.wf s = true) : State.wf (State.barEnd s b timeout) = true := by
  unfold State.barEnd; simp (maxDischargeDepth := 60) [State.wf_mk, State.wf_fold, State.waiting_mk, State.waiting_fold, *]
@[simp] theorem State.barEnd_pending {s b timeout} : State.waiting (State.barEnd s b timeout) = State.waiting s := by
  unfold State.barEnd; simp (maxDischargeDepth := 60) [State.wf_mk, State.wf_fold, State.waiting_mk, State.waiting_fold, *]
@[simp] theorem State.execWord_wf {s c op w} (h : State.wf s = true) : State.wf (State.execWord s c op w) = true := by
  unfold State.execWord; (repeat' split) <;> simp (maxDischargeDepth := 60) [State.wf_mk, State.wf_fold, State.waiting_mk, State.waiting_fold, *]
@[simp] theorem State.execWord_pending {s c op w} : State.waiting (State.execWord s c op w) = State.waiting s := by
  unfold State.execWord; (repeat' split) <;> simp (maxDischargeDepth := 60) [State.wf_mk, State.wf_fold, State.waiting_mk, State.waiting_fold, *]
@[simp] theorem State.stepWord_wf {s c} (h : State.wf s = true) : State.wf (State.stepWord s c) = true := by
  unfold State.stepWord; (repeat' split) <;> simp (maxDischargeDepth := 60) [State.wf_mk, State.wf_fold, State.waiting_mk, State.waiting_fold, *]
@[simp] theorem State.stepWord_pending {s c} : State.waiting (State.stepWord s c) = State.waiting s := by
  unfold State.stepWord; (repeat' split) <;> simp (maxDischargeDepth := 60) [State.wf_mk, State.wf_fold, State.waiting_mk, State.waiting_fold, *]
@[simp] theorem State.runWords_wf {k s c} (h : State.wf s = true) : State.wf (State.runWords k s c) = true := by
  induction k generalizing s with
  | zero => exact h
  | succ k ih =>
    unfold State.runWords
    split
    · exact ih (State.stepWord_wf h)
    · exact h
@[simp] theorem State.runWords_pending {k s c} : State.waiting (State.runWords k s c) = State.waiting s := by
  induction k generalizing s with
  | zero => rfl
  | succ k ih =>
    unfold State.runWords
    split
    · rw [ih, State.stepWord_pending]
    · rfl

/-! Machine/Lantern.lean -/

@[simp] theorem State.xsettle_wf {s n} (h : State.wf s = true) : State.wf (State.xsettle s n) = true := by
  unfold State.xsettle; simp (maxDischargeDepth := 60) [State.wf_mk, State.wf_fold, State.waiting_mk, State.waiting_fold, *]
@[simp] theorem State.xsettle_pending {s n} : State.waiting (State.xsettle s n) = State.waiting s := by
  unfold State.xsettle; simp (maxDischargeDepth := 60) [State.wf_mk, State.wf_fold, State.waiting_mk, State.waiting_fold, *]
@[simp] theorem State.crossbar_wf {s o} (h : State.wf s = true) : State.wf (State.crossbar s o) = true := by
  unfold State.crossbar
  extract_lets v0 v1
  have h_v0 : State.wf v0 = true := by subst v0; ((repeat' split) <;> simp (maxDischargeDepth := 60) [State.wf_mk, State.wf_fold, State.waiting_mk, State.waiting_fold, *])
  clear_value v0
  have h_v1 : State.wf v1 = true := by subst v1; ((repeat' split) <;> simp (maxDischargeDepth := 60) [State.wf_mk, State.wf_fold, State.waiting_mk, State.waiting_fold, *])
  clear_value v1
  simp (maxDischargeDepth := 60) [State.wf_mk, State.wf_fold, State.waiting_mk, State.waiting_fold, *]
@[simp] theorem State.crossbar_pending {s o} : State.waiting (State.crossbar s o) = State.waiting s := by
  unfold State.crossbar
  extract_lets v0 v1
  have h_v0 : State.waiting v0 = State.waiting s := by subst v0; ((repeat' split) <;> simp (maxDischargeDepth := 60) [State.wf_mk, State.wf_fold, State.waiting_mk, State.waiting_fold, *])
  clear_value v0
  have h_v1 : State.waiting v1 = State.waiting s := by subst v1; ((repeat' split) <;> simp (maxDischargeDepth := 60) [State.wf_mk, State.wf_fold, State.waiting_mk, State.waiting_fold, *])
  clear_value v1
  simp (maxDischargeDepth := 60) [State.wf_mk, State.wf_fold, State.waiting_mk, State.waiting_fold, *]
@[simp] theorem State.laneRefs_wf {s r} (h : State.wf s = true) : State.wf (State.laneRefs s r) = true := by
  unfold State.laneRefs; simp (maxDischargeDepth := 60) [State.wf_mk, State.wf_fold, State.waiting_mk, State.waiting_fold, *]
@[simp] theorem State.laneRefs_pending {s r} : State.waiting (State.laneRefs s r) = State.waiting s := by
  unfold State.laneRefs; simp (maxDischargeDepth := 60) [State.wf_mk, State.wf_fold, State.waiting_mk, State.waiting_fold, *]
@[simp] theorem State.laneSelf_wf {s r} (h : State.wf s = true) : State.wf (State.laneSelf s r) = true := by
  unfold State.laneSelf; (repeat' split) <;> simp (maxDischargeDepth := 60) [State.wf_mk, State.wf_fold, State.waiting_mk, State.waiting_fold, *]
@[simp] theorem State.laneSelf_pending {s r} : State.waiting (State.laneSelf s r) = State.waiting s := by
  unfold State.laneSelf; (repeat' split) <;> simp (maxDischargeDepth := 60) [State.wf_mk, State.wf_fold, State.waiting_mk, State.waiting_fold, *]
@[simp] theorem State.beginSlot_wf {s v} (h : State.wf s = true) : State.wf (State.beginSlot s v) = true := by
  unfold State.beginSlot; simp (maxDischargeDepth := 60) [State.wf_mk, State.wf_fold, State.waiting_mk, State.waiting_fold, *]
@[simp] theorem State.beginSlot_pending {s v} : State.waiting (State.beginSlot s v) = State.waiting s := by
  unfold State.beginSlot; simp (maxDischargeDepth := 60) [State.wf_mk, State.wf_fold, State.waiting_mk, State.waiting_fold, *]
@[simp] theorem State.visitOver_wf {s} (h : State.wf s = true) : State.wf (State.visitOver s) = true := by
  unfold State.visitOver; (repeat' split) <;> simp (maxDischargeDepth := 60) [State.wf_mk, State.wf_fold, State.waiting_mk, State.waiting_fold, *]
@[simp] theorem State.visitOver_pending {s} : State.waiting (State.visitOver s) = State.waiting s := by
  unfold State.visitOver; (repeat' split) <;> simp (maxDischargeDepth := 60) [State.wf_mk, State.wf_fold, State.waiting_mk, State.waiting_fold, *]
@[simp] theorem State.endSlot_wf {s} (h : State.wf s = true) : State.wf (State.endSlot s) = true := by
  unfold State.endSlot; simp (maxDischargeDepth := 60) [State.wf_mk, State.wf_fold, State.waiting_mk, State.waiting_fold, *]
@[simp] theorem State.endSlot_pending {s} : State.waiting (State.endSlot s) = State.waiting s := by
  unfold State.endSlot; simp (maxDischargeDepth := 60) [State.wf_mk, State.wf_fold, State.waiting_mk, State.waiting_fold, *]
@[simp] theorem State.laneTake_wf {s} (h : State.wf s = true) : State.wf (State.laneTake s) = true := by
  unfold State.laneTake; simp (maxDischargeDepth := 60) [State.wf_mk, State.wf_fold, State.waiting_mk, State.waiting_fold, *]
@[simp] theorem State.laneTake_pending {s} : State.waiting (State.laneTake s) = State.waiting s := by
  unfold State.laneTake; simp (maxDischargeDepth := 60) [State.wf_mk, State.wf_fold, State.waiting_mk, State.waiting_fold, *]
@[simp] theorem State.refStart_wf {s r} (h : State.wf s = true) : State.wf (State.refStart s r) = true := by
  unfold State.refStart; simp (maxDischargeDepth := 60) [State.wf_mk, State.wf_fold, State.waiting_mk, State.waiting_fold, *]
@[simp] theorem State.refStart_pending {s r} : State.waiting (State.refStart s r) = State.waiting s := by
  unfold State.refStart; simp (maxDischargeDepth := 60) [State.wf_mk, State.wf_fold, State.waiting_mk, State.waiting_fold, *]
@[simp] theorem State.laneRest_wf {s} (h : State.wf s = true) : State.wf (State.laneRest s) = true := by
  unfold State.laneRest; simp (maxDischargeDepth := 60) [State.wf_mk, State.wf_fold, State.waiting_mk, State.waiting_fold, *]
@[simp] theorem State.laneRest_pending {s} : State.waiting (State.laneRest s) = State.waiting s := by
  unfold State.laneRest; simp (maxDischargeDepth := 60) [State.wf_mk, State.wf_fold, State.waiting_mk, State.waiting_fold, *]
@[simp] theorem State.laneOff_wf {s} (h : State.wf s = true) : State.wf (State.laneOff s) = true := by
  unfold State.laneOff
  extract_lets v0
  have h_v0 : State.wf v0 = true := by subst v0; simp (maxDischargeDepth := 60) [State.wf_mk, State.wf_fold, State.waiting_mk, State.waiting_fold, *]
  clear_value v0
  simp (maxDischargeDepth := 60) [State.wf_mk, State.wf_fold, State.waiting_mk, State.waiting_fold, *]
@[simp] theorem State.laneOff_pending {s} : State.waiting (State.laneOff s) = State.waiting s := by
  unfold State.laneOff
  extract_lets v0
  have h_v0 : State.waiting v0 = State.waiting s := by subst v0; simp (maxDischargeDepth := 60) [State.wf_mk, State.wf_fold, State.waiting_mk, State.waiting_fold, *]
  clear_value v0
  simp (maxDischargeDepth := 60) [State.wf_mk, State.wf_fold, State.waiting_mk, State.waiting_fold, *]
@[simp] theorem State.tourEnds_wf {s} (h : State.wf s = true) : State.wf (State.tourEnds s) = true := by
  unfold State.tourEnds; (repeat' split) <;> simp (maxDischargeDepth := 60) [State.wf_mk, State.wf_fold, State.waiting_mk, State.waiting_fold, *]
@[simp] theorem State.tourEnds_pending {s} : State.waiting (State.tourEnds s) = State.waiting s := by
  unfold State.tourEnds; (repeat' split) <;> simp (maxDischargeDepth := 60) [State.wf_mk, State.wf_fold, State.waiting_mk, State.waiting_fold, *]
@[simp] theorem State.laneAgain_wf {s n reps confirm} (h : State.wf s = true) : State.wf (State.laneAgain s n reps confirm) = true := by
  unfold State.laneAgain; (repeat' split) <;> simp (maxDischargeDepth := 60) [State.wf_mk, State.wf_fold, State.waiting_mk, State.waiting_fold, *]
@[simp] theorem State.laneAgain_pending {s n reps confirm} : State.waiting (State.laneAgain s n reps confirm) = State.waiting s := by
  unfold State.laneAgain; (repeat' split) <;> simp (maxDischargeDepth := 60) [State.wf_mk, State.wf_fold, State.waiting_mk, State.waiting_fold, *]
@[simp] theorem State.laneSuspect_wf {s v ev ei} (h : State.wf s = true) : State.wf (State.laneSuspect s v ev ei) = true := by
  unfold State.laneSuspect
  extract_lets v0 v1 v2 v3 v4 v5
  clear_value v0
  clear_value v1
  have h_v2 : State.wf v2 = true := by subst v2; simp (maxDischargeDepth := 60) [State.wf_mk, State.wf_fold, State.waiting_mk, State.waiting_fold, *]
  clear_value v2
  clear_value v3
  have h_v4 : State.wf v4 = true := by subst v4; simp (maxDischargeDepth := 60) [State.wf_mk, State.wf_fold, State.waiting_mk, State.waiting_fold, *]
  clear_value v4
  have h_v5 : State.wf v5 = true := by subst v5; simp (maxDischargeDepth := 60) [State.wf_mk, State.wf_fold, State.waiting_mk, State.waiting_fold, *]
  clear_value v5
  simp (maxDischargeDepth := 60) [State.wf_mk, State.wf_fold, State.waiting_mk, State.waiting_fold, *]
@[simp] theorem State.laneSuspect_pending {s v ev ei} : State.waiting (State.laneSuspect s v ev ei) = State.waiting s := by
  unfold State.laneSuspect
  extract_lets v0 v1 v2 v3 v4 v5
  clear_value v0
  clear_value v1
  have h_v2 : State.waiting v2 = State.waiting s := by subst v2; simp (maxDischargeDepth := 60) [State.wf_mk, State.wf_fold, State.waiting_mk, State.waiting_fold, *]
  clear_value v2
  clear_value v3
  have h_v4 : State.waiting v4 = State.waiting s := by subst v4; simp (maxDischargeDepth := 60) [State.wf_mk, State.wf_fold, State.waiting_mk, State.waiting_fold, *]
  clear_value v4
  have h_v5 : State.waiting v5 = State.waiting s := by subst v5; simp (maxDischargeDepth := 60) [State.wf_mk, State.wf_fold, State.waiting_mk, State.waiting_fold, *]
  clear_value v5
  simp (maxDischargeDepth := 60) [State.wf_mk, State.wf_fold, State.waiting_mk, State.waiting_fold, *]
@[simp] theorem State.laneCount_wf {s v} (h : State.wf s = true) : State.wf (State.laneCount s v) = true := by
  unfold State.laneCount; simp (maxDischargeDepth := 60) [State.wf_mk, State.wf_fold, State.waiting_mk, State.waiting_fold, *]
@[simp] theorem State.laneCount_pending {s v} : State.waiting (State.laneCount s v) = State.waiting s := by
  unfold State.laneCount; simp (maxDischargeDepth := 60) [State.wf_mk, State.wf_fold, State.waiting_mk, State.waiting_fold, *]
@[simp] theorem State.laneReport_wf {s v a b} (h : State.wf s = true) : State.wf (State.laneReport s v a b) = true := by
  unfold State.laneReport
  extract_lets v0 v1 v2 v3 v4 v5 v6
  clear_value v0
  clear_value v1
  clear_value v2
  have h_v3 : State.wf v3 = true := by subst v3; simp (maxDischargeDepth := 60) [State.wf_mk, State.wf_fold, State.waiting_mk, State.waiting_fold, *]
  clear_value v3
  have h_v4 : State.wf v4 = true := by subst v4; simp (maxDischargeDepth := 60) [State.wf_mk, State.wf_fold, State.waiting_mk, State.waiting_fold, *]
  clear_value v4
  have h_v5 : State.wf v5 = true := by subst v5; simp (maxDischargeDepth := 60) [State.wf_mk, State.wf_fold, State.waiting_mk, State.waiting_fold, *]
  clear_value v5
  have h_v6 : State.wf v6 = true := by subst v6; simp (maxDischargeDepth := 60) [State.wf_mk, State.wf_fold, State.waiting_mk, State.waiting_fold, *]
  clear_value v6
  simp (maxDischargeDepth := 60) [State.wf_mk, State.wf_fold, State.waiting_mk, State.waiting_fold, *]
@[simp] theorem State.laneReport_pending {s v a b} : State.waiting (State.laneReport s v a b) = State.waiting s := by
  unfold State.laneReport
  extract_lets v0 v1 v2 v3 v4 v5 v6
  clear_value v0
  clear_value v1
  clear_value v2
  have h_v3 : State.waiting v3 = State.waiting s := by subst v3; simp (maxDischargeDepth := 60) [State.wf_mk, State.wf_fold, State.waiting_mk, State.waiting_fold, *]
  clear_value v3
  have h_v4 : State.waiting v4 = State.waiting s := by subst v4; simp (maxDischargeDepth := 60) [State.wf_mk, State.wf_fold, State.waiting_mk, State.waiting_fold, *]
  clear_value v4
  have h_v5 : State.waiting v5 = State.waiting s := by subst v5; simp (maxDischargeDepth := 60) [State.wf_mk, State.wf_fold, State.waiting_mk, State.waiting_fold, *]
  clear_value v5
  have h_v6 : State.waiting v6 = State.waiting s := by subst v6; simp (maxDischargeDepth := 60) [State.wf_mk, State.wf_fold, State.waiting_mk, State.waiting_fold, *]
  clear_value v6
  simp (maxDischargeDepth := 60) [State.wf_mk, State.wf_fold, State.waiting_mk, State.waiting_fold, *]
@[simp] theorem State.laneKeep_wf {s v a b} (h : State.wf s = true) : State.wf (State.laneKeep s v a b) = true := by
  unfold State.laneKeep; simp (maxDischargeDepth := 60) [State.wf_mk, State.wf_fold, State.waiting_mk, State.waiting_fold, *]
@[simp] theorem State.laneKeep_pending {s v a b} : State.waiting (State.laneKeep s v a b) = State.waiting s := by
  unfold State.laneKeep; simp (maxDischargeDepth := 60) [State.wf_mk, State.wf_fold, State.waiting_mk, State.waiting_fold, *]
@[simp] theorem State.commitFix_wf {s f} (h : State.wf s = true) : State.wf (State.commitFix s f) = true := by
  unfold State.commitFix
  extract_lets v0 v1 v2
  clear_value v0
  clear_value v1
  have h_v2 : State.wf v2 = true := by subst v2; simp (maxDischargeDepth := 60) [State.wf_mk, State.wf_fold, State.waiting_mk, State.waiting_fold, *]
  clear_value v2
  simp (maxDischargeDepth := 60) [State.wf_mk, State.wf_fold, State.waiting_mk, State.waiting_fold, *]
@[simp] theorem State.commitFix_pending {s f} : State.waiting (State.commitFix s f) = State.waiting s := by
  unfold State.commitFix
  extract_lets v0 v1 v2
  clear_value v0
  clear_value v1
  have h_v2 : State.waiting v2 = State.waiting s := by subst v2; simp (maxDischargeDepth := 60) [State.wf_mk, State.wf_fold, State.waiting_mk, State.waiting_fold, *]
  clear_value v2
  simp (maxDischargeDepth := 60) [State.wf_mk, State.wf_fold, State.waiting_mk, State.waiting_fold, *]
@[simp] theorem State.histFix_wf {s f} (h : State.wf s = true) : State.wf (State.histFix s f) = true := by
  unfold State.histFix; simp (maxDischargeDepth := 60) [State.wf_mk, State.wf_fold, State.waiting_mk, State.waiting_fold, *]
@[simp] theorem State.histFix_pending {s f} : State.waiting (State.histFix s f) = State.waiting s := by
  unfold State.histFix; simp (maxDischargeDepth := 60) [State.wf_mk, State.wf_fold, State.waiting_mk, State.waiting_fold, *]
@[simp] theorem State.laneDropped_wf {s} (h : State.wf s = true) : State.wf (State.laneDropped s) = true := by
  unfold State.laneDropped; simp (maxDischargeDepth := 60) [State.wf_mk, State.wf_fold, State.waiting_mk, State.waiting_fold, *]
@[simp] theorem State.laneDropped_pending {s} : State.waiting (State.laneDropped s) = State.waiting s := by
  unfold State.laneDropped; simp (maxDischargeDepth := 60) [State.wf_mk, State.wf_fold, State.waiting_mk, State.waiting_fold, *]
@[simp] theorem State.laneApply_wf {s} (h : State.wf s = true) : State.wf (State.laneApply s) = true := by
  have hf : ∀ (l : List LaneFix) (u : State), State.wf u = true → State.wf (l.foldl (fun t f => (t.commitFix f).histFix f) u) = true := fun l u hu =>
    foldl_wf (fun t f ht => by simp [ht]) hu
  unfold State.laneApply
  dsimp only
  (repeat' split) <;> simp (maxDischargeDepth := 60) [State.wf_mk, State.wf_fold, State.waiting_mk, State.waiting_fold, *]
@[simp] theorem State.laneApply_pending {s} : State.waiting (State.laneApply s) = State.waiting s := by
  have hf : ∀ (l : List LaneFix) (u : State), State.waiting (l.foldl (fun t f => (t.commitFix f).histFix f) u) = State.waiting u := fun l u =>
    foldl_pending fun t f => by simp
  unfold State.laneApply
  dsimp only
  (repeat' split) <;> simp (maxDischargeDepth := 60) [State.wf_mk, State.wf_fold, State.waiting_mk, State.waiting_fold, *]
@[simp] theorem State.laneAbandon_wf {s} (h : State.wf s = true) : State.wf (State.laneAbandon s) = true := by
  unfold State.laneAbandon; (repeat' split) <;> simp (maxDischargeDepth := 60) [State.wf_mk, State.wf_fold, State.waiting_mk, State.waiting_fold, *]
@[simp] theorem State.laneAbandon_pending {s} : State.waiting (State.laneAbandon s) = State.waiting s := by
  unfold State.laneAbandon; (repeat' split) <;> simp (maxDischargeDepth := 60) [State.wf_mk, State.wf_fold, State.waiting_mk, State.waiting_fold, *]
@[simp] theorem State.dirtyRegion_wf {s r} (h : State.wf s = true) : State.wf (State.dirtyRegion s r) = true := by
  unfold State.dirtyRegion; simp (maxDischargeDepth := 60) [State.wf_mk, State.wf_fold, State.waiting_mk, State.waiting_fold, *]
@[simp] theorem State.dirtyRegion_pending {s r} : State.waiting (State.dirtyRegion s r) = State.waiting s := by
  unfold State.dirtyRegion; simp (maxDischargeDepth := 60) [State.wf_mk, State.wf_fold, State.waiting_mk, State.waiting_fold, *]
@[simp] theorem State.adoptStart_wf {s} (h : State.wf s = true) : State.wf (State.adoptStart s) = true := by
  unfold State.adoptStart; simp (maxDischargeDepth := 60) [State.wf_mk, State.wf_fold, State.waiting_mk, State.waiting_fold, *]
@[simp] theorem State.adoptStart_pending {s} : State.waiting (State.adoptStart s) = State.waiting s := by
  unfold State.adoptStart; simp (maxDischargeDepth := 60) [State.wf_mk, State.wf_fold, State.waiting_mk, State.waiting_fold, *]
@[simp] theorem State.adoptEnable_wf {s n} (h : State.wf s = true) : State.wf (State.adoptEnable s n) = true := by
  unfold State.adoptEnable; simp (maxDischargeDepth := 60) [State.wf_mk, State.wf_fold, State.waiting_mk, State.waiting_fold, *]
@[simp] theorem State.adoptEnable_pending {s n} : State.waiting (State.adoptEnable s n) = State.waiting s := by
  unfold State.adoptEnable; simp (maxDischargeDepth := 60) [State.wf_mk, State.wf_fold, State.waiting_mk, State.waiting_fold, *]
@[simp] theorem State.adoptRelease_wf {s} (h : State.wf s = true) : State.wf (State.adoptRelease s) = true := by
  unfold State.adoptRelease; simp (maxDischargeDepth := 60) [State.wf_mk, State.wf_fold, State.waiting_mk, State.waiting_fold, *]
@[simp] theorem State.adoptRelease_pending {s} : State.waiting (State.adoptRelease s) = State.waiting s := by
  unfold State.adoptRelease; simp (maxDischargeDepth := 60) [State.wf_mk, State.wf_fold, State.waiting_mk, State.waiting_fold, *]
@[simp] theorem State.refBoundary_wf {s} (h : State.wf s = true) : State.wf (State.refBoundary s) = true := by
  unfold State.refBoundary; (repeat' split) <;> simp (maxDischargeDepth := 60) [State.wf_mk, State.wf_fold, State.waiting_mk, State.waiting_fold, *]
@[simp] theorem State.refBoundary_pending {s} : State.waiting (State.refBoundary s) = State.waiting s := by
  unfold State.refBoundary; (repeat' split) <;> simp (maxDischargeDepth := 60) [State.wf_mk, State.wf_fold, State.waiting_mk, State.waiting_fold, *]
@[simp] theorem State.laneBoundary_wf {s} (h : State.wf s = true) : State.wf (State.laneBoundary s) = true := by
  unfold State.laneBoundary; dsimp only; (repeat' split) <;> simp +contextual (maxDischargeDepth := 60) [State.wf_mk, State.wf_fold, State.waiting_mk, State.waiting_fold, *]
@[simp] theorem State.laneBoundary_pending {s} : State.waiting (State.laneBoundary s) = State.waiting s := by
  unfold State.laneBoundary; dsimp only; (repeat' split) <;> simp +contextual (maxDischargeDepth := 60) [State.wf_mk, State.wf_fold, State.waiting_mk, State.waiting_fold, *]
@[simp] theorem State.laneWake_wf {s} (h : State.wf s = true) : State.wf (State.laneWake s) = true := by
  unfold State.laneWake; simp (maxDischargeDepth := 60) [State.wf_mk, State.wf_fold, State.waiting_mk, State.waiting_fold, *]
@[simp] theorem State.laneWake_pending {s} : State.waiting (State.laneWake s) = State.waiting s := by
  unfold State.laneWake; simp (maxDischargeDepth := 60) [State.wf_mk, State.wf_fold, State.waiting_mk, State.waiting_fold, *]

/-! Machine/Spare.lean -/

@[simp] theorem State.noteTest_wf {s c pass cover} (h : State.wf s = true) : State.wf (State.noteTest s c pass cover) = true := by
  unfold State.noteTest; simp (maxDischargeDepth := 60) [State.wf_mk, State.wf_fold, State.waiting_mk, State.waiting_fold, *]
@[simp] theorem State.noteTest_pending {s c pass cover} : State.waiting (State.noteTest s c pass cover) = State.waiting s := by
  unfold State.noteTest; simp (maxDischargeDepth := 60) [State.wf_mk, State.wf_fold, State.waiting_mk, State.waiting_fold, *]
@[simp] theorem State.startLbist_wf {s c} (h : State.wf s = true) : State.wf (State.startLbist s c) = true := by
  unfold State.startLbist; simp (maxDischargeDepth := 60) [State.wf_mk, State.wf_fold, State.waiting_mk, State.waiting_fold, *]
@[simp] theorem State.startLbist_pending {s c} : State.waiting (State.startLbist s c) = State.waiting s := by
  unfold State.startLbist; simp (maxDischargeDepth := 60) [State.wf_mk, State.wf_fold, State.waiting_mk, State.waiting_fold, *]
@[simp] theorem State.retire_wf {s c} (h : State.wf s = true) : State.wf (State.retire s c) = true := by
  unfold State.retire
  extract_lets v0 v1
  have h_v0 : State.wf v0 = true := by subst v0; simp (maxDischargeDepth := 60) [State.wf_mk, State.wf_fold, State.waiting_mk, State.waiting_fold, *]
  clear_value v0
  have h_v1 : State.wf v1 = true := by subst v1; simp (maxDischargeDepth := 60) [State.wf_mk, State.wf_fold, State.waiting_mk, State.waiting_fold, *]
  clear_value v1
  simp (maxDischargeDepth := 60) [State.wf_mk, State.wf_fold, State.waiting_mk, State.waiting_fold, *]
@[simp] theorem State.retire_pending {s c} : State.waiting (State.retire s c) = State.waiting s := by
  unfold State.retire
  extract_lets v0 v1
  have h_v0 : State.waiting v0 = State.waiting s := by subst v0; simp (maxDischargeDepth := 60) [State.wf_mk, State.wf_fold, State.waiting_mk, State.waiting_fold, *]
  clear_value v0
  have h_v1 : State.waiting v1 = State.waiting s := by subst v1; simp (maxDischargeDepth := 60) [State.wf_mk, State.wf_fold, State.waiting_mk, State.waiting_fold, *]
  clear_value v1
  simp (maxDischargeDepth := 60) [State.wf_mk, State.wf_fold, State.waiting_mk, State.waiting_fold, *]
@[simp] theorem State.handOver_wf {s k c} (h : State.wf s = true) : State.wf (State.handOver s k c) = true := by
  unfold State.handOver; simp (maxDischargeDepth := 60) [State.wf_mk, State.wf_fold, State.waiting_mk, State.waiting_fold, *]
@[simp] theorem State.handOver_pending {s k c} : State.waiting (State.handOver s k c) = State.waiting s := by
  unfold State.handOver; simp (maxDischargeDepth := 60) [State.wf_mk, State.wf_fold, State.waiting_mk, State.waiting_fold, *]
@[simp] theorem State.rotNow_wf {s} (h : State.wf s = true) : State.wf (State.rotNow s) = true := by
  unfold State.rotNow; simp (maxDischargeDepth := 60) [State.wf_mk, State.wf_fold, State.waiting_mk, State.waiting_fold, *]
@[simp] theorem State.rotNow_pending {s} : State.waiting (State.rotNow s) = State.waiting s := by
  unfold State.rotNow; simp (maxDischargeDepth := 60) [State.wf_mk, State.wf_fold, State.waiting_mk, State.waiting_fold, *]
@[simp] theorem State.retGo_wf {s k} (h : State.wf s = true) : State.wf (State.retGo s k) = true := by
  unfold State.retGo; (repeat' split) <;> simp (maxDischargeDepth := 60) [State.wf_mk, State.wf_fold, State.waiting_mk, State.waiting_fold, *]
@[simp] theorem State.retGo_pending {s k} : State.waiting (State.retGo s k) = State.waiting s := by
  unfold State.retGo; (repeat' split) <;> simp (maxDischargeDepth := 60) [State.wf_mk, State.wf_fold, State.waiting_mk, State.waiting_fold, *]
@[simp] theorem State.mismBoundary_wf {s} (h : State.wf s = true) : State.wf (State.mismBoundary s) = true := by
  unfold State.mismBoundary; (repeat' split) <;> simp +contextual (maxDischargeDepth := 60) [State.wf_mk, State.wf_fold, State.waiting_mk, State.waiting_fold, *]
@[simp] theorem State.mismBoundary_pending {s} : State.waiting (State.mismBoundary s) = State.waiting s := by
  unfold State.mismBoundary; (repeat' split) <;> simp (maxDischargeDepth := 60) [State.wf_mk, State.wf_fold, State.waiting_mk, State.waiting_fold, *]
@[simp] theorem State.spareBoundary_wf {s} (h : State.wf s = true) : State.wf (State.spareBoundary s) = true := by
  unfold State.spareBoundary; simp (maxDischargeDepth := 60) [State.wf_mk, State.wf_fold, State.waiting_mk, State.waiting_fold, *]
@[simp] theorem State.spareBoundary_pending {s} : State.waiting (State.spareBoundary s) = State.waiting s := by
  unfold State.spareBoundary; simp (maxDischargeDepth := 60) [State.wf_mk, State.wf_fold, State.waiting_mk, State.waiting_fold, *]

/-! Machine/Metric.lean -/

@[simp] theorem State.dcirDeliver_wf {s n c} (h : State.wf s = true) : State.wf (State.dcirDeliver s n c) = true := by
  unfold State.dcirDeliver; simp (maxDischargeDepth := 60) [State.wf_mk, State.wf_fold, State.waiting_mk, State.waiting_fold, *]
@[simp] theorem State.dcirDeliver_pending {s n c} : State.waiting (State.dcirDeliver s n c) = State.waiting s := by
  unfold State.dcirDeliver; simp (maxDischargeDepth := 60) [State.wf_mk, State.wf_fold, State.waiting_mk, State.waiting_fold, *]
@[simp] theorem State.dcirReady_wf {s n} (h : State.wf s = true) : State.wf (State.dcirReady s n) = true := by
  unfold State.dcirReady; simp +contextual (maxDischargeDepth := 60) [State.wf_mk, State.wf_fold, State.waiting_mk, State.waiting_fold, *]
@[simp] theorem State.dcirReady_pending {s n} : State.waiting (State.dcirReady s n) = State.waiting s := by
  unfold State.dcirReady
  extract_lets v0 v1 v2
  clear_value v0
  clear_value v1
  have h_v2 : State.waiting v2 = State.waiting s := by subst v2; simp (maxDischargeDepth := 60) [State.wf_mk, State.wf_fold, State.waiting_mk, State.waiting_fold, *]
  clear_value v2
  simp (maxDischargeDepth := 60) [State.wf_mk, State.wf_fold, State.waiting_mk, State.waiting_fold, *]
@[simp] theorem State.eisWrite_wf {s n e re im ia q} (h : State.wf s = true) : State.wf (State.eisWrite s n e re im ia q) = true := by
  unfold State.eisWrite; simp (maxDischargeDepth := 60) [State.wf_mk, State.wf_fold, State.waiting_mk, State.waiting_fold, *]
@[simp] theorem State.eisDeliver_wf {s n e} (h : State.wf s = true) : State.wf (State.eisDeliver s n e) = true := by
  unfold State.eisDeliver; simp (maxDischargeDepth := 60) [State.wf_mk, State.wf_fold, State.waiting_mk, State.waiting_fold, *]
@[simp] theorem State.eisWrite_pending {s n e re im ia q} : State.waiting (State.eisWrite s n e re im ia q) = State.waiting s := by
  unfold State.eisWrite; simp (maxDischargeDepth := 60) [State.wf_mk, State.wf_fold, State.waiting_mk, State.waiting_fold, *]
@[simp] theorem State.eisDeliver_pending {s n e} : State.waiting (State.eisDeliver s n e) = State.waiting s := by
  unfold State.eisDeliver; simp (maxDischargeDepth := 60) [State.wf_mk, State.wf_fold, State.waiting_mk, State.waiting_fold, *]
@[simp] theorem State.eisReady_wf {s n} (h : State.wf s = true) : State.wf (State.eisReady s n) = true := by
  unfold State.eisReady; (repeat' split) <;> simp (maxDischargeDepth := 60) [State.wf_mk, State.wf_fold, State.waiting_mk, State.waiting_fold, *]
@[simp] theorem State.eisReady_pending {s n} : State.waiting (State.eisReady s n) = State.waiting s := by
  unfold State.eisReady; (repeat' split) <;> simp (maxDischargeDepth := 60) [State.wf_mk, State.wf_fold, State.waiting_mk, State.waiting_fold, *]
@[simp] theorem State.ocvShow_wf {s n o} (h : State.wf s = true) : State.wf (State.ocvShow s n o) = true := by
  unfold State.ocvShow; simp (maxDischargeDepth := 60) [State.wf_mk, State.wf_fold, State.waiting_mk, State.waiting_fold, *]
@[simp] theorem State.ocvShow_pending {s n o} : State.waiting (State.ocvShow s n o) = State.waiting s := by
  unfold State.ocvShow; simp (maxDischargeDepth := 60) [State.wf_mk, State.wf_fold, State.waiting_mk, State.waiting_fold, *]
@[simp] theorem State.ocvSample_wf {s n t v bad blend} (h : State.wf s = true) : State.wf (State.ocvSample s n t v bad blend) = true := by
  unfold State.ocvSample; simp (maxDischargeDepth := 60) [State.wf_mk, State.wf_fold, State.waiting_mk, State.waiting_fold, *]
@[simp] theorem State.ocvSample_pending {s n t v bad blend} : State.waiting (State.ocvSample s n t v bad blend) = State.waiting s := by
  unfold State.ocvSample; simp (maxDischargeDepth := 60) [State.wf_mk, State.wf_fold, State.waiting_mk, State.waiting_fold, *]
@[simp] theorem State.ocvTemp_wf {s n} (h : State.wf s = true) : State.wf (State.ocvTemp s n) = true := by
  unfold State.ocvTemp; simp (maxDischargeDepth := 60) [State.wf_mk, State.wf_fold, State.waiting_mk, State.waiting_fold, *]
@[simp] theorem State.ocvTemp_pending {s n} : State.waiting (State.ocvTemp s n) = State.waiting s := by
  unfold State.ocvTemp; simp (maxDischargeDepth := 60) [State.wf_mk, State.wf_fold, State.waiting_mk, State.waiting_fold, *]
@[simp] theorem State.countLife_wf {s n v i dt} (h : State.wf s = true) : State.wf (State.countLife s n v i dt) = true := by
  unfold State.countLife
  extract_lets v0 v1 v2 v3 v4 v5
  clear_value v0
  clear_value v1
  clear_value v2
  clear_value v3
  clear_value v4
  have h_v5 : State.wf v5 = true := by subst v5; simp (maxDischargeDepth := 60) [State.wf_mk, State.wf_fold, State.waiting_mk, State.waiting_fold, *]
  clear_value v5
  simp (maxDischargeDepth := 60) [State.wf_mk, State.wf_fold, State.waiting_mk, State.waiting_fold, *]
@[simp] theorem State.countLife_pending {s n v i dt} : State.waiting (State.countLife s n v i dt) = State.waiting s := by
  unfold State.countLife
  extract_lets v0 v1 v2 v3 v4 v5
  clear_value v0
  clear_value v1
  clear_value v2
  clear_value v3
  clear_value v4
  have h_v5 : State.waiting v5 = State.waiting s := by subst v5; simp (maxDischargeDepth := 60) [State.wf_mk, State.wf_fold, State.waiting_mk, State.waiting_fold, *]
  clear_value v5
  simp (maxDischargeDepth := 60) [State.wf_mk, State.wf_fold, State.waiting_mk, State.waiting_fold, *]
@[simp] theorem State.counterWrite_wf {s n energy val} (h : State.wf s = true) : State.wf (State.counterWrite s n energy val) = true := by
  unfold State.counterWrite
  extract_lets v0
  have h_v0 : State.wf v0 = true := by subst v0; simp (maxDischargeDepth := 60) [State.wf_mk, State.wf_fold, State.waiting_mk, State.waiting_fold, *]
  clear_value v0
  simp (maxDischargeDepth := 60) [State.wf_mk, State.wf_fold, State.waiting_mk, State.waiting_fold, *]
@[simp] theorem State.counterWrite_pending {s n energy val} : State.waiting (State.counterWrite s n energy val) = State.waiting s := by
  unfold State.counterWrite
  extract_lets v0
  have h_v0 : State.waiting v0 = State.waiting s := by subst v0; simp (maxDischargeDepth := 60) [State.wf_mk, State.wf_fold, State.waiting_mk, State.waiting_fold, *]
  clear_value v0
  simp (maxDischargeDepth := 60) [State.wf_mk, State.wf_fold, State.waiting_mk, State.waiting_fold, *]

/-! Machine/Slot.lean -/

@[simp] theorem State.degExpire_wf {s n sat time} (h : State.wf s = true) : State.wf (State.degExpire s n sat time) = true := by
  unfold State.degExpire; (repeat' split) <;> simp (maxDischargeDepth := 60) [State.wf_mk, State.wf_fold, State.waiting_mk, State.waiting_fold, *]
@[simp] theorem State.degExpire_pending {s n sat time} : State.waiting (State.degExpire s n sat time) = State.waiting s := by
  unfold State.degExpire; (repeat' split) <;> simp (maxDischargeDepth := 60) [State.wf_mk, State.wf_fold, State.waiting_mk, State.waiting_fold, *]
@[simp] theorem State.resumed_wf {s n was} (h : State.wf s = true) : State.wf (State.resumed s n was) = true := by
  unfold State.resumed; simp (maxDischargeDepth := 60) [State.wf_mk, State.wf_fold, State.waiting_mk, State.waiting_fold, *]
@[simp] theorem State.resumed_pending {s n was} : State.waiting (State.resumed s n was) = State.waiting s := by
  unfold State.resumed; simp (maxDischargeDepth := 60) [State.wf_mk, State.wf_fold, State.waiting_mk, State.waiting_fold, *]
@[simp] theorem State.armsClose_wf {s n all} (h : State.wf s = true) : State.wf (State.armsClose s n all) = true := by
  unfold State.armsClose
  extract_lets x
  clear_value x
  split
  · split <;> simp (maxDischargeDepth := 60) [State.wf_mk, State.wf_fold, State.waiting_mk, State.waiting_fold, *]
  · extract_lets start o deg s1
    have h1 : State.wf s1 = true := by subst s1; simp (maxDischargeDepth := 60) [State.wf_mk, State.wf_fold, State.waiting_mk, State.waiting_fold, *]
    clear_value s1 start o deg
    (repeat' split) <;> simp (maxDischargeDepth := 60) [State.wf_mk, State.wf_fold, State.waiting_mk, State.waiting_fold, *]
@[simp] theorem State.armsClose_pending {s n all} : State.waiting (State.armsClose s n all) = State.waiting s := by
  unfold State.armsClose
  extract_lets x
  clear_value x
  split
  · split <;> simp (maxDischargeDepth := 60) [State.wf_mk, State.wf_fold, State.waiting_mk, State.waiting_fold, *]
  · extract_lets start o deg s1
    have h1 : State.waiting s1 = State.waiting s := by subst s1; simp (maxDischargeDepth := 60) [State.wf_mk, State.wf_fold, State.waiting_mk, State.waiting_fold, *]
    clear_value s1 start o deg
    (repeat' split) <;> simp (maxDischargeDepth := 60) [State.wf_mk, State.wf_fold, State.waiting_mk, State.waiting_fold, *]
@[simp] theorem State.timedReady_wf {s c} (h : State.wf s = true) : State.wf (State.timedReady s c) = true := by
  unfold State.timedReady; (repeat' split) <;> simp (maxDischargeDepth := 60) [State.wf_mk, State.wf_fold, State.waiting_mk, State.waiting_fold, *]
@[simp] theorem State.timedReady_pending {s c} : State.waiting (State.timedReady s c) = State.waiting s := by
  unfold State.timedReady; (repeat' split) <;> simp (maxDischargeDepth := 60) [State.wf_mk, State.wf_fold, State.waiting_mk, State.waiting_fold, *]
@[simp] theorem State.gapHold_wf {s n} (h : State.wf s = true) : State.wf (State.gapHold s n) = true := by
  unfold State.gapHold; simp (maxDischargeDepth := 60) [State.wf_mk, State.wf_fold, State.waiting_mk, State.waiting_fold, *]
@[simp] theorem State.gapHold_pending {s n} : State.waiting (State.gapHold s n) = State.waiting s := by
  unfold State.gapHold; simp (maxDischargeDepth := 60) [State.wf_mk, State.wf_fold, State.waiting_mk, State.waiting_fold, *]
@[simp] theorem State.gapSlot_wf {s n} (h : State.wf s = true) : State.wf (State.gapSlot s n) = true := by
  unfold State.gapSlot; simp (maxDischargeDepth := 60) [State.wf_mk, State.wf_fold, State.waiting_mk, State.waiting_fold, *]
@[simp] theorem State.gapSlot_pending {s n} : State.waiting (State.gapSlot s n) = State.waiting s := by
  unfold State.gapSlot; simp (maxDischargeDepth := 60) [State.wf_mk, State.wf_fold, State.waiting_mk, State.waiting_fold, *]
@[simp] theorem State.contribute_wf {s n} (h : State.wf s = true) : State.wf (State.contribute s n) = true := by
  unfold State.contribute; simp (maxDischargeDepth := 60) [State.wf_mk, State.wf_fold, State.waiting_mk, State.waiting_fold, *]
@[simp] theorem State.contribute_pending {s n} : State.waiting (State.contribute s n) = State.waiting s := by
  unfold State.contribute; simp (maxDischargeDepth := 60) [State.wf_mk, State.wf_fold, State.waiting_mk, State.waiting_fold, *]
@[simp] theorem State.scaleSlot_wf {s n} (h : State.wf s = true) : State.wf (State.scaleSlot s n) = true := by
  unfold State.scaleSlot; simp (maxDischargeDepth := 60) [State.wf_mk, State.wf_fold, State.waiting_mk, State.waiting_fold, *]
@[simp] theorem State.scaleSlot_pending {s n} : State.waiting (State.scaleSlot s n) = State.waiting s := by
  unfold State.scaleSlot; simp (maxDischargeDepth := 60) [State.wf_mk, State.wf_fold, State.waiting_mk, State.waiting_fold, *]
@[simp] theorem State.chanSlot_wf {s n all} (h : State.wf s = true) : State.wf (State.chanSlot s n all) = true := by
  unfold State.chanSlot
  extract_lets v0
  have h_v0 : State.wf v0 = true := by subst v0; simp (maxDischargeDepth := 60) [State.wf_mk, State.wf_fold, State.waiting_mk, State.waiting_fold, *]
  clear_value v0
  ((repeat' split) <;> (try extract_lets) <;> simp (maxDischargeDepth := 60) +zetaDelta [State.wf_mk, State.wf_fold, State.waiting_mk, State.waiting_fold, *])
@[simp] theorem State.chanSlot_pending {s n all} : State.waiting (State.chanSlot s n all) = State.waiting s := by
  unfold State.chanSlot
  extract_lets v0
  have h_v0 : State.waiting v0 = State.waiting s := by subst v0; simp (maxDischargeDepth := 60) [State.wf_mk, State.wf_fold, State.waiting_mk, State.waiting_fold, *]
  clear_value v0
  ((repeat' split) <;> (try extract_lets) <;> simp (maxDischargeDepth := 60) +zetaDelta [State.wf_mk, State.wf_fold, State.waiting_mk, State.waiting_fold, *])
@[simp] theorem State.shelfSlot_wf {s} (h : State.wf s = true) : State.wf (State.shelfSlot s) = true := by
  unfold State.shelfSlot; simp (maxDischargeDepth := 60) [State.wf_mk, State.wf_fold, State.waiting_mk, State.waiting_fold, *]
@[simp] theorem State.shelfSlot_pending {s} : State.waiting (State.shelfSlot s) = State.waiting s := by
  unfold State.shelfSlot; simp (maxDischargeDepth := 60) [State.wf_mk, State.wf_fold, State.waiting_mk, State.waiting_fold, *]
@[simp] theorem State.dueSlot_wf {s n} (h : State.wf s = true) : State.wf (State.dueSlot s n) = true := by
  unfold State.dueSlot; simp (maxDischargeDepth := 60) [State.wf_mk, State.wf_fold, State.waiting_mk, State.waiting_fold, *]
@[simp] theorem State.dueSlot_pending {s n} : State.waiting (State.dueSlot s n) = State.waiting s := by
  unfold State.dueSlot; simp (maxDischargeDepth := 60) [State.wf_mk, State.wf_fold, State.waiting_mk, State.waiting_fold, *]
@[simp] theorem State.dueShelf_wf {s} (h : State.wf s = true) : State.wf (State.dueShelf s) = true := by
  unfold State.dueShelf; simp (maxDischargeDepth := 60) [State.wf_mk, State.wf_fold, State.waiting_mk, State.waiting_fold, *]
@[simp] theorem State.dueShelf_pending {s} : State.waiting (State.dueShelf s) = State.waiting s := by
  unfold State.dueShelf; simp (maxDischargeDepth := 60) [State.wf_mk, State.wf_fold, State.waiting_mk, State.waiting_fold, *]
@[simp] theorem State.slotsEnd_wf {s} (h : State.wf s = true) : State.wf (State.slotsEnd s) = true := by
  unfold State.slotsEnd; simp +contextual (maxDischargeDepth := 60) [State.wf_mk, State.wf_fold, State.waiting_mk, State.waiting_fold, *]
@[simp] theorem State.slotsEnd_pending {s} : State.waiting (State.slotsEnd s) = State.waiting s := by
  unfold State.slotsEnd; simp (maxDischargeDepth := 60) [State.wf_mk, State.wf_fold, State.waiting_mk, State.waiting_fold, *]

/-! Machine/Program.lean -/

@[simp] theorem State.storeWrite_wf {s addr vals} (h : State.wf s = true) : State.wf (State.storeWrite s addr vals) = true := by
  unfold State.storeWrite; simp (maxDischargeDepth := 60) [State.wf_mk, State.wf_fold, State.waiting_mk, State.waiting_fold, *]
@[simp] theorem State.storeWrite_pending {s addr vals} : State.waiting (State.storeWrite s addr vals) = State.waiting s := by
  unfold State.storeWrite; simp (maxDischargeDepth := 60) [State.wf_mk, State.wf_fold, State.waiting_mk, State.waiting_fold, *]
@[simp] theorem State.progWriteReg_wf {s r stopped val} (h : State.wf s = true) : State.wf (State.progWriteReg s r stopped val) = true := by
  unfold State.progWriteReg; simp (maxDischargeDepth := 60) [State.wf_mk, State.wf_fold, State.waiting_mk, State.waiting_fold, *]
@[simp] theorem State.progWriteReg_pending {s r stopped val} : State.waiting (State.progWriteReg s r stopped val) = State.waiting s := by
  unfold State.progWriteReg; simp (maxDischargeDepth := 60) [State.wf_mk, State.wf_fold, State.waiting_mk, State.waiting_fold, *]
@[simp] theorem State.bankBoundary_wf {s} (h : State.wf s = true) : State.wf (State.bankBoundary s) = true := by
  unfold State.bankBoundary; simp +contextual (maxDischargeDepth := 60) [State.wf_mk, State.wf_fold, State.waiting_mk, State.waiting_fold, *]
@[simp] theorem State.bankBoundary_pending {s} : State.waiting (State.bankBoundary s) = State.waiting s := by
  unfold State.bankBoundary
  extract_lets v0
  have h_v0 : State.waiting v0 = State.waiting s := by subst v0; simp (maxDischargeDepth := 60) [State.wf_mk, State.wf_fold, State.waiting_mk, State.waiting_fold, *]
  clear_value v0
  simp (maxDischargeDepth := 60) [State.wf_mk, State.wf_fold, State.waiting_mk, State.waiting_fold, *]
@[simp] theorem State.hostStart_wf {s n} (h : State.wf s = true) : State.wf (State.hostStart s n) = true := by
  unfold State.hostStart; simp (maxDischargeDepth := 60) [State.wf_mk, State.wf_fold, State.waiting_mk, State.waiting_fold, *]
@[simp] theorem State.hostStart_pending {s n} : State.waiting (State.hostStart s n) = State.waiting s := by
  unfold State.hostStart; simp (maxDischargeDepth := 60) [State.wf_mk, State.wf_fold, State.waiting_mk, State.waiting_fold, *]
@[simp] theorem State.hostStop_wf {s n} (h : State.wf s = true) : State.wf (State.hostStop s n) = true := by
  unfold State.hostStop; simp (maxDischargeDepth := 60) [State.wf_mk, State.wf_fold, State.waiting_mk, State.waiting_fold, *]
@[simp] theorem State.hostStop_pending {s n} : State.waiting (State.hostStop s n) = State.waiting s := by
  unfold State.hostStop; simp (maxDischargeDepth := 60) [State.wf_mk, State.wf_fold, State.waiting_mk, State.waiting_fold, *]
@[simp] theorem State.startContext_wf {s n} (h : State.wf s = true) : State.wf (State.startContext s n) = true := by
  unfold State.startContext
  extract_lets v0 v1 v2 v3 v4
  have h_v0 : State.wf v0 = true := by subst v0; simp (maxDischargeDepth := 60) [State.wf_mk, State.wf_fold, State.waiting_mk, State.waiting_fold, *]
  clear_value v0
  have h_v1 : State.wf v1 = true := by subst v1; simp (maxDischargeDepth := 60) [State.wf_mk, State.wf_fold, State.waiting_mk, State.waiting_fold, *]
  clear_value v1
  have h_v2 : State.wf v2 = true := by subst v2; simp (maxDischargeDepth := 60) [State.wf_mk, State.wf_fold, State.waiting_mk, State.waiting_fold, *]
  clear_value v2
  have h_v3 : State.wf v3 = true := by subst v3; simp (maxDischargeDepth := 60) [State.wf_mk, State.wf_fold, State.waiting_mk, State.waiting_fold, *]
  clear_value v3
  have h_v4 : State.wf v4 = true := by subst v4; simp (maxDischargeDepth := 60) [State.wf_mk, State.wf_fold, State.waiting_mk, State.waiting_fold, *]
  clear_value v4
  simp (maxDischargeDepth := 60) [State.wf_mk, State.wf_fold, State.waiting_mk, State.waiting_fold, *]
@[simp] theorem State.startContext_pending {s n} : State.waiting (State.startContext s n) = State.waiting s := by
  unfold State.startContext
  extract_lets v0 v1 v2 v3 v4
  have h_v0 : State.waiting v0 = State.waiting s := by subst v0; simp (maxDischargeDepth := 60) [State.wf_mk, State.wf_fold, State.waiting_mk, State.waiting_fold, *]
  clear_value v0
  have h_v1 : State.waiting v1 = State.waiting s := by subst v1; simp (maxDischargeDepth := 60) [State.wf_mk, State.wf_fold, State.waiting_mk, State.waiting_fold, *]
  clear_value v1
  have h_v2 : State.waiting v2 = State.waiting s := by subst v2; simp (maxDischargeDepth := 60) [State.wf_mk, State.wf_fold, State.waiting_mk, State.waiting_fold, *]
  clear_value v2
  have h_v3 : State.waiting v3 = State.waiting s := by subst v3; simp (maxDischargeDepth := 60) [State.wf_mk, State.wf_fold, State.waiting_mk, State.waiting_fold, *]
  clear_value v3
  have h_v4 : State.waiting v4 = State.waiting s := by subst v4; simp (maxDischargeDepth := 60) [State.wf_mk, State.wf_fold, State.waiting_mk, State.waiting_fold, *]
  clear_value v4
  simp (maxDischargeDepth := 60) [State.wf_mk, State.wf_fold, State.waiting_mk, State.waiting_fold, *]
@[simp] theorem State.startLane_wf {s j} (h : State.wf s = true) : State.wf (State.startLane s j) = true := by
  unfold State.startLane
  extract_lets v0 v1 v2 v3
  have h_v0 : State.wf v0 = true := by subst v0; simp (maxDischargeDepth := 60) [State.wf_mk, State.wf_fold, State.waiting_mk, State.waiting_fold, *]
  clear_value v0
  have h_v1 : State.wf v1 = true := by subst v1; simp (maxDischargeDepth := 60) [State.wf_mk, State.wf_fold, State.waiting_mk, State.waiting_fold, *]
  clear_value v1
  have h_v2 : State.wf v2 = true := by subst v2; simp (maxDischargeDepth := 60) [State.wf_mk, State.wf_fold, State.waiting_mk, State.waiting_fold, *]
  clear_value v2
  have h_v3 : State.wf v3 = true := by subst v3; simp (maxDischargeDepth := 60) [State.wf_mk, State.wf_fold, State.waiting_mk, State.waiting_fold, *]
  clear_value v3
  simp (maxDischargeDepth := 60) [State.wf_mk, State.wf_fold, State.waiting_mk, State.waiting_fold, *]
@[simp] theorem State.startLane_pending {s j} : State.waiting (State.startLane s j) = State.waiting s := by
  unfold State.startLane
  extract_lets v0 v1 v2 v3
  have h_v0 : State.waiting v0 = State.waiting s := by subst v0; simp (maxDischargeDepth := 60) [State.wf_mk, State.wf_fold, State.waiting_mk, State.waiting_fold, *]
  clear_value v0
  have h_v1 : State.waiting v1 = State.waiting s := by subst v1; simp (maxDischargeDepth := 60) [State.wf_mk, State.wf_fold, State.waiting_mk, State.waiting_fold, *]
  clear_value v1
  have h_v2 : State.waiting v2 = State.waiting s := by subst v2; simp (maxDischargeDepth := 60) [State.wf_mk, State.wf_fold, State.waiting_mk, State.waiting_fold, *]
  clear_value v2
  have h_v3 : State.waiting v3 = State.waiting s := by subst v3; simp (maxDischargeDepth := 60) [State.wf_mk, State.wf_fold, State.waiting_mk, State.waiting_fold, *]
  clear_value v3
  simp (maxDischargeDepth := 60) [State.wf_mk, State.wf_fold, State.waiting_mk, State.waiting_fold, *]
@[simp] theorem State.startAccept_wf {s n} (h : State.wf s = true) : State.wf (State.startAccept s n) = true := by
  unfold State.startAccept; (repeat' split) <;> simp +contextual (maxDischargeDepth := 60) [State.wf_mk, State.wf_fold, State.waiting_mk, State.waiting_fold, *]
@[simp] theorem State.startAccept_pending {s n} : State.waiting (State.startAccept s n) = State.waiting s := by
  unfold State.startAccept; (repeat' split) <;> simp (maxDischargeDepth := 60) [State.wf_mk, State.wf_fold, State.waiting_mk, State.waiting_fold, *]
@[simp] theorem State.startRefuse_wf {s n} (h : State.wf s = true) : State.wf (State.startRefuse s n) = true := by
  unfold State.startRefuse
  extract_lets v0
  have h_v0 : State.wf v0 = true := by subst v0; simp (maxDischargeDepth := 60) [State.wf_mk, State.wf_fold, State.waiting_mk, State.waiting_fold, *]
  clear_value v0
  simp (maxDischargeDepth := 60) [State.wf_mk, State.wf_fold, State.waiting_mk, State.waiting_fold, *]
@[simp] theorem State.startRefuse_pending {s n} : State.waiting (State.startRefuse s n) = State.waiting s := by
  unfold State.startRefuse
  extract_lets v0
  have h_v0 : State.waiting v0 = State.waiting s := by subst v0; simp (maxDischargeDepth := 60) [State.wf_mk, State.wf_fold, State.waiting_mk, State.waiting_fold, *]
  clear_value v0
  simp (maxDischargeDepth := 60) [State.wf_mk, State.wf_fold, State.waiting_mk, State.waiting_fold, *]
@[simp] theorem State.requestBoundary_wf {s n} (h : State.wf s = true) : State.wf (State.requestBoundary s n) = true := by
  unfold State.requestBoundary; simp (maxDischargeDepth := 60) [State.wf_mk, State.wf_fold, State.waiting_mk, State.waiting_fold, *]
@[simp] theorem State.requestBoundary_pending {s n} : State.waiting (State.requestBoundary s n) = State.waiting s := by
  unfold State.requestBoundary; simp (maxDischargeDepth := 60) [State.wf_mk, State.wf_fold, State.waiting_mk, State.waiting_fold, *]
@[simp] theorem State.shelfStart_wf {s} (h : State.wf s = true) : State.wf (State.shelfStart s) = true := by
  unfold State.shelfStart; simp (maxDischargeDepth := 60) [State.wf_mk, State.wf_fold, State.waiting_mk, State.waiting_fold, *]
@[simp] theorem State.shelfStart_pending {s} : State.waiting (State.shelfStart s) = State.waiting s := by
  unfold State.shelfStart; simp (maxDischargeDepth := 60) [State.wf_mk, State.wf_fold, State.waiting_mk, State.waiting_fold, *]

/-! Machine/Link.lean -/

@[simp] theorem State.modSess_wf {s k f} (h : State.wf s = true) : State.wf (State.modSess s k f) = true := by
  unfold State.modSess; simp (maxDischargeDepth := 60) [State.wf_mk, State.wf_fold, State.waiting_mk, State.waiting_fold, *]
@[simp] theorem State.modSess_pending {s k f} : State.waiting (State.modSess s k f) = State.waiting s := by
  unfold State.modSess; simp (maxDischargeDepth := 60) [State.wf_mk, State.wf_fold, State.waiting_mk, State.waiting_fold, *]
@[simp] theorem State.closeSess_wf {s k} (h : State.wf s = true) : State.wf (State.closeSess s k) = true := by
  unfold State.closeSess; simp (maxDischargeDepth := 60) [State.wf_mk, State.wf_fold, State.waiting_mk, State.waiting_fold, *]
@[simp] theorem State.closeSess_pending {s k} : State.waiting (State.closeSess s k) = State.waiting s := by
  unfold State.closeSess; simp (maxDischargeDepth := 60) [State.wf_mk, State.wf_fold, State.waiting_mk, State.waiting_fold, *]
@[simp] theorem State.transmit_wf {s f} (h : State.wf s = true) : State.wf (State.transmit s f) = true := by
  unfold State.transmit; (repeat' split) <;> simp (maxDischargeDepth := 60) [State.wf_mk, State.wf_fold, State.waiting_mk, State.waiting_fold, *]
@[simp] theorem State.transmit_pending {s f} : State.waiting (State.transmit s f) = State.waiting s := by
  unfold State.transmit; (repeat' split) <;> simp (maxDischargeDepth := 60) [State.wf_mk, State.wf_fold, State.waiting_mk, State.waiting_fold, *]
@[simp] theorem State.modRate_wf {s f} (h : State.wf s = true) : State.wf (State.modRate s f) = true := by
  unfold State.modRate; simp (maxDischargeDepth := 60) [State.wf_mk, State.wf_fold, State.waiting_mk, State.waiting_fold, *]
@[simp] theorem State.modRate_pending {s f} : State.waiting (State.modRate s f) = State.waiting s := by
  unfold State.modRate; simp (maxDischargeDepth := 60) [State.wf_mk, State.wf_fold, State.waiting_mk, State.waiting_fold, *]
@[simp] theorem State.rateFrames_wf {s op} (h : State.wf s = true) : State.wf (State.rateFrames s op) = true := by
  unfold State.rateFrames; simp +contextual (maxDischargeDepth := 60) [State.wf_mk, State.wf_fold, State.waiting_mk, State.waiting_fold, *]
@[simp] theorem State.rateFrames_pending {s op} : State.waiting (State.rateFrames s op) = State.waiting s := by
  unfold State.rateFrames; simp (maxDischargeDepth := 60) [State.wf_mk, State.wf_fold, State.waiting_mk, State.waiting_fold, *]
@[simp] theorem State.decDue_wf {s} (h : State.wf s = true) : State.wf (State.decDue s) = true := by
  unfold State.decDue; simp (maxDischargeDepth := 60) [State.wf_mk, State.wf_fold, State.waiting_mk, State.waiting_fold, *]
@[simp] theorem State.decDue_pending {s} : State.waiting (State.decDue s) = State.waiting s := by
  unfold State.decDue; simp (maxDischargeDepth := 60) [State.wf_mk, State.wf_fold, State.waiting_mk, State.waiting_fold, *]
@[simp] theorem State.rateSwitch_wf {s} (h : State.wf s = true) : State.wf (State.rateSwitch s) = true := by
  unfold State.rateSwitch
  extract_lets v0 v1 v2
  clear_value v0
  have h_v1 : State.wf v1 = true := by subst v1; simp (maxDischargeDepth := 60) [State.wf_mk, State.wf_fold, State.waiting_mk, State.waiting_fold, *]
  clear_value v1
  have h_v2 : State.wf v2 = true := by subst v2; simp (maxDischargeDepth := 60) [State.wf_mk, State.wf_fold, State.waiting_mk, State.waiting_fold, *]
  clear_value v2
  simp (maxDischargeDepth := 60) [State.wf_mk, State.wf_fold, State.waiting_mk, State.waiting_fold, *]
@[simp] theorem State.rateSwitch_pending {s} : State.waiting (State.rateSwitch s) = State.waiting s := by
  unfold State.rateSwitch
  extract_lets v0 v1 v2
  clear_value v0
  have h_v1 : State.waiting v1 = State.waiting s := by subst v1; simp (maxDischargeDepth := 60) [State.wf_mk, State.wf_fold, State.waiting_mk, State.waiting_fold, *]
  clear_value v1
  have h_v2 : State.waiting v2 = State.waiting s := by subst v2; simp (maxDischargeDepth := 60) [State.wf_mk, State.wf_fold, State.waiting_mk, State.waiting_fold, *]
  clear_value v2
  simp (maxDischargeDepth := 60) [State.wf_mk, State.wf_fold, State.waiting_mk, State.waiting_fold, *]
@[simp] theorem State.propose_wf {s la lb restore} (h : State.wf s = true) : State.wf (State.propose s la lb restore) = true := by
  unfold State.propose
  extract_lets v0
  have h_v0 : State.wf v0 = true := by subst v0; simp (maxDischargeDepth := 60) [State.wf_mk, State.wf_fold, State.waiting_mk, State.waiting_fold, *]
  clear_value v0
  simp (maxDischargeDepth := 60) [State.wf_mk, State.wf_fold, State.waiting_mk, State.waiting_fold, *]
@[simp] theorem State.propose_pending {s la lb restore} : State.waiting (State.propose s la lb restore) = State.waiting s := by
  unfold State.propose
  extract_lets v0
  have h_v0 : State.waiting v0 = State.waiting s := by subst v0; simp (maxDischargeDepth := 60) [State.wf_mk, State.wf_fold, State.waiting_mk, State.waiting_fold, *]
  clear_value v0
  simp (maxDischargeDepth := 60) [State.wf_mk, State.wf_fold, State.waiting_mk, State.waiting_fold, *]
@[simp] theorem State.proposeSleep_wf {s} (h : State.wf s = true) : State.wf (State.proposeSleep s) = true := by
  unfold State.proposeSleep; simp (maxDischargeDepth := 60) [State.wf_mk, State.wf_fold, State.waiting_mk, State.waiting_fold, *]
@[simp] theorem State.proposeSleep_pending {s} : State.waiting (State.proposeSleep s) = State.waiting s := by
  unfold State.proposeSleep; simp (maxDischargeDepth := 60) [State.wf_mk, State.wf_fold, State.waiting_mk, State.waiting_fold, *]
@[simp] theorem State.proposeRestore_wf {s} (h : State.wf s = true) : State.wf (State.proposeRestore s) = true := by
  unfold State.proposeRestore; simp (maxDischargeDepth := 60) [State.wf_mk, State.wf_fold, State.waiting_mk, State.waiting_fold, *]
@[simp] theorem State.proposeRestore_pending {s} : State.waiting (State.proposeRestore s) = State.waiting s := by
  unfold State.proposeRestore; simp (maxDischargeDepth := 60) [State.wf_mk, State.wf_fold, State.waiting_mk, State.waiting_fold, *]
@[simp] theorem State.rateExit_wf {s} (h : State.wf s = true) : State.wf (State.rateExit s) = true := by
  unfold State.rateExit; (repeat' split) <;> simp (maxDischargeDepth := 60) [State.wf_mk, State.wf_fold, State.waiting_mk, State.waiting_fold, *]
@[simp] theorem State.rateExit_pending {s} : State.waiting (State.rateExit s) = State.waiting s := by
  unfold State.rateExit; (repeat' split) <;> simp (maxDischargeDepth := 60) [State.wf_mk, State.wf_fold, State.waiting_mk, State.waiting_fold, *]
@[simp] theorem State.rateControl_wf {s k op} (h : State.wf s = true) : State.wf (State.rateControl s k op) = true := by
  unfold State.rateControl; simp (maxDischargeDepth := 60) [State.wf_mk, State.wf_fold, State.waiting_mk, State.waiting_fold, *]
@[simp] theorem State.rateControl_pending {s k op} : State.waiting (State.rateControl s k op) = State.waiting s := by
  unfold State.rateControl; simp (maxDischargeDepth := 60) [State.wf_mk, State.wf_fold, State.waiting_mk, State.waiting_fold, *]
@[simp] theorem State.portWrite_wf {s r p val} (h : State.wf s = true) : State.wf (State.portWrite s r p val) = true := by
  unfold State.portWrite
  extract_lets v0
  have h_v0 : State.wf v0 = true := by subst v0; simp (maxDischargeDepth := 60) [State.wf_mk, State.wf_fold, State.waiting_mk, State.waiting_fold, *]
  clear_value v0
  ((repeat' split) <;> (try extract_lets) <;> simp (maxDischargeDepth := 60) +zetaDelta [State.wf_mk, State.wf_fold, State.waiting_mk, State.waiting_fold, *])
@[simp] theorem State.portWrite_pending {s r p val} : State.waiting (State.portWrite s r p val) = State.waiting s := by
  unfold State.portWrite
  extract_lets v0
  have h_v0 : State.waiting v0 = State.waiting s := by subst v0; simp (maxDischargeDepth := 60) [State.wf_mk, State.wf_fold, State.waiting_mk, State.waiting_fold, *]
  clear_value v0
  ((repeat' split) <;> (try extract_lets) <;> simp (maxDischargeDepth := 60) +zetaDelta [State.wf_mk, State.wf_fold, State.waiting_mk, State.waiting_fold, *])
@[simp] theorem State.sendEvent_wf {s k f} (h : State.wf s = true) : State.wf (State.sendEvent s k f) = true := by
  unfold State.sendEvent; simp (maxDischargeDepth := 60) [State.wf_mk, State.wf_fold, State.waiting_mk, State.waiting_fold, *]
@[simp] theorem State.sendEvent_pending {s k f} : State.waiting (State.sendEvent s k f) = State.waiting s := by
  unfold State.sendEvent; simp (maxDischargeDepth := 60) [State.wf_mk, State.wf_fold, State.waiting_mk, State.waiting_fold, *]
@[simp] theorem State.streamSeqNext_wf {s st} (h : State.wf s = true) : State.wf (State.streamSeqNext s st) = true := by
  unfold State.streamSeqNext; simp (maxDischargeDepth := 60) [State.wf_mk, State.wf_fold, State.waiting_mk, State.waiting_fold, *]
@[simp] theorem State.streamSeqNext_pending {s st} : State.waiting (State.streamSeqNext s st) = State.waiting s := by
  unfold State.streamSeqNext; simp (maxDischargeDepth := 60) [State.wf_mk, State.wf_fold, State.waiting_mk, State.waiting_fold, *]
@[simp] theorem State.sendStream_wf {s st index body} (h : State.wf s = true) : State.wf (State.sendStream s st index body) = true := by
  unfold State.sendStream; (repeat' split) <;> simp +contextual (maxDischargeDepth := 60) [State.wf_mk, State.wf_fold, State.waiting_mk, State.waiting_fold, *]
@[simp] theorem State.sendStream_pending {s st index body} : State.waiting (State.sendStream s st index body) = State.waiting s := by
  unfold State.sendStream; (repeat' split) <;> simp (maxDischargeDepth := 60) [State.wf_mk, State.wf_fold, State.waiting_mk, State.waiting_fold, *]
@[simp] theorem State.recAck_wf {s ack} (h : State.wf s = true) : State.wf (State.recAck s ack) = true := by
  unfold State.recAck; simp +contextual (maxDischargeDepth := 60) [State.wf_mk, State.wf_fold, State.waiting_mk, State.waiting_fold, *]
@[simp] theorem State.recAck_pending {s ack} : State.waiting (State.recAck s ack) = State.waiting s := by
  unfold State.recAck; simp (maxDischargeDepth := 60) [State.wf_mk, State.wf_fold, State.waiting_mk, State.waiting_fold, *]
@[simp] theorem State.sendInstant_wf {s st stamp per size entry} (h : State.wf s = true) : State.wf (State.sendInstant s st stamp per size entry) = true := by
  unfold State.sendInstant; simp +contextual (maxDischargeDepth := 60) [State.wf_mk, State.wf_fold, State.waiting_mk, State.waiting_fold, *]
@[simp] theorem State.sendInstant_pending {s st stamp per size entry} : State.waiting (State.sendInstant s st stamp per size entry) = State.waiting s := by
  unfold State.sendInstant; simp (maxDischargeDepth := 60) [State.wf_mk, State.wf_fold, State.waiting_mk, State.waiting_fold, *]
@[simp] theorem State.sendRaw_wf {s md raw} (h : State.wf s = true) : State.wf (State.sendRaw s md raw) = true := by
  unfold State.sendRaw; simp (maxDischargeDepth := 60) [State.wf_mk, State.wf_fold, State.waiting_mk, State.waiting_fold, *]
@[simp] theorem State.sendRaw_pending {s md raw} : State.waiting (State.sendRaw s md raw) = State.waiting s := by
  unfold State.sendRaw; simp (maxDischargeDepth := 60) [State.wf_mk, State.wf_fold, State.waiting_mk, State.waiting_fold, *]
@[simp] theorem State.evalStream_wf {s p st} (h : State.wf p.1 = true) : State.wf (State.evalStream s p st).1 = true := by
  unfold State.evalStream
  dsimp only
  split <;> simp (maxDischargeDepth := 60) [State.wf_mk, State.wf_fold, State.waiting_mk, State.waiting_fold, h]
@[simp] theorem State.evalStream_pending {s p st} : State.waiting (State.evalStream s p st).1 = State.waiting p.1 := by
  unfold State.evalStream
  dsimp only
  split <;> simp (maxDischargeDepth := 60) [State.wf_mk, State.wf_fold, State.waiting_mk, State.waiting_fold]
@[simp] theorem State.streamWrite_wf {s st val} (h : State.wf s = true) : State.wf (State.streamWrite s st val) = true := by
  unfold State.streamWrite
  extract_lets v0
  have h_v0 : State.wf v0 = true := by subst v0; simp (maxDischargeDepth := 60) [State.wf_mk, State.wf_fold, State.waiting_mk, State.waiting_fold, *]
  clear_value v0
  ((repeat' split) <;> (try extract_lets) <;> simp (maxDischargeDepth := 60) +zetaDelta [State.wf_mk, State.wf_fold, State.waiting_mk, State.waiting_fold, *])
@[simp] theorem State.streamWrite_pending {s st val} : State.waiting (State.streamWrite s st val) = State.waiting s := by
  unfold State.streamWrite
  extract_lets v0
  have h_v0 : State.waiting v0 = State.waiting s := by subst v0; simp (maxDischargeDepth := 60) [State.wf_mk, State.wf_fold, State.waiting_mk, State.waiting_fold, *]
  clear_value v0
  ((repeat' split) <;> (try extract_lets) <;> simp (maxDischargeDepth := 60) +zetaDelta [State.wf_mk, State.wf_fold, State.waiting_mk, State.waiting_fold, *])
@[simp] theorem State.reply_wf {s p pkt} (h : State.wf s = true) : State.wf (State.reply s p pkt) = true := by
  unfold State.reply; simp (maxDischargeDepth := 60) [State.wf_mk, State.wf_fold, State.waiting_mk, State.waiting_fold, *]
@[simp] theorem State.reply_pending {s p pkt} : State.waiting (State.reply s p pkt) = State.waiting s := by
  unfold State.reply; simp (maxDischargeDepth := 60) [State.wf_mk, State.wf_fold, State.waiting_mk, State.waiting_fold, *]

/-! Machine/Modes.lean -/

@[simp] theorem State.modeBoundary_wf {s0} (h : State.wf s0 = true) : State.wf (State.modeBoundary s0) = true := by
  unfold State.modeBoundary
  extract_lets v0 v1 v2
  have h_v0 : State.wf v0 = true := by subst v0; simp (maxDischargeDepth := 60) [State.wf_mk, State.wf_fold, State.waiting_mk, State.waiting_fold, *]
  clear_value v0
  clear_value v1
  have h_v2 : State.wf v2 = true := by subst v2; simp (maxDischargeDepth := 60) [State.wf_mk, State.wf_fold, State.waiting_mk, State.waiting_fold, *]
  clear_value v2
  ((repeat' split) <;> (try extract_lets) <;> simp +zetaDelta +contextual (maxDischargeDepth := 60) [State.wf_mk, State.wf_fold, State.waiting_mk, State.waiting_fold, *])
@[simp] theorem State.modeBoundary_pending {s0} : State.waiting (State.modeBoundary s0) = State.waiting s0 := by
  unfold State.modeBoundary
  extract_lets v0 v1 v2
  have h_v0 : State.waiting v0 = State.waiting s0 := by subst v0; simp (maxDischargeDepth := 60) [State.wf_mk, State.wf_fold, State.waiting_mk, State.waiting_fold, *]
  clear_value v0
  clear_value v1
  have h_v2 : State.waiting v2 = State.waiting s0 := by subst v2; simp (maxDischargeDepth := 60) [State.wf_mk, State.wf_fold, State.waiting_mk, State.waiting_fold, *]
  clear_value v2
  ((repeat' split) <;> (try extract_lets) <;> simp +zetaDelta +contextual (maxDischargeDepth := 60) [State.wf_mk, State.wf_fold, State.waiting_mk, State.waiting_fold, *])
@[simp] theorem State.modeWrite_wf {s val} (h : State.wf s = true) : State.wf (State.modeWrite s val) = true := by
  unfold State.modeWrite; simp (maxDischargeDepth := 60) [State.wf_mk, State.wf_fold, State.waiting_mk, State.waiting_fold, *]
@[simp] theorem State.modeWrite_pending {s val} : State.waiting (State.modeWrite s val) = State.waiting s := by
  unfold State.modeWrite; simp (maxDischargeDepth := 60) [State.wf_mk, State.wf_fold, State.waiting_mk, State.waiting_fold, *]
@[simp] theorem State.spareSleep_wf {s} (h : State.wf s = true) : State.wf (State.spareSleep s) = true := by
  unfold State.spareSleep; simp (maxDischargeDepth := 60) [State.wf_mk, State.wf_fold, State.waiting_mk, State.waiting_fold, *]
@[simp] theorem State.spareSleep_pending {s} : State.waiting (State.spareSleep s) = State.waiting s := by
  unfold State.spareSleep; simp (maxDischargeDepth := 60) [State.wf_mk, State.wf_fold, State.waiting_mk, State.waiting_fold, *]
@[simp] theorem State.spareWake_wf {s} (h : State.wf s = true) : State.wf (State.spareWake s) = true := by
  unfold State.spareWake; (repeat' split) <;> simp (maxDischargeDepth := 60) [State.wf_mk, State.wf_fold, State.waiting_mk, State.waiting_fold, *]
@[simp] theorem State.spareWake_pending {s} : State.waiting (State.spareWake s) = State.waiting s := by
  unfold State.spareWake; (repeat' split) <;> simp (maxDischargeDepth := 60) [State.wf_mk, State.wf_fold, State.waiting_mk, State.waiting_fold, *]
@[simp] theorem State.enterMode_wf {s target} (h : State.wf s = true) : State.wf (State.enterMode s target) = true := by
  unfold State.enterMode; (repeat' split) <;> simp (maxDischargeDepth := 60) [State.wf_mk, State.wf_fold, State.waiting_mk, State.waiting_fold, *]
@[simp] theorem State.enterMode_pending {s target} : State.waiting (State.enterMode s target) = State.waiting s := by
  unfold State.enterMode; (repeat' split) <;> simp (maxDischargeDepth := 60) [State.wf_mk, State.wf_fold, State.waiting_mk, State.waiting_fold, *]
@[simp] theorem State.burstChan_wf {s n stamp} (h : State.wf s = true) : State.wf (State.burstChan s n stamp) = true := by
  unfold State.burstChan; dsimp only; (repeat' split) <;> simp +contextual (maxDischargeDepth := 60) [State.wf_mk, State.wf_fold, State.waiting_mk, State.waiting_fold, *]
@[simp] theorem State.burstChan_pending {s n stamp} : State.waiting (State.burstChan s n stamp) = State.waiting s := by
  unfold State.burstChan; dsimp only; (repeat' split) <;> simp +contextual (maxDischargeDepth := 60) [State.wf_mk, State.wf_fold, State.waiting_mk, State.waiting_fold, *]
@[simp] theorem State.leaveAging_wf {s} (h : State.wf s = true) : State.wf (State.leaveAging s) = true := by
  unfold State.leaveAging; simp (maxDischargeDepth := 60) [State.wf_mk, State.wf_fold, State.waiting_mk, State.waiting_fold, *]
@[simp] theorem State.leaveAging_pending {s} : State.waiting (State.leaveAging s) = State.waiting s := by
  unfold State.leaveAging; simp (maxDischargeDepth := 60) [State.wf_mk, State.wf_fold, State.waiting_mk, State.waiting_fold, *]
@[simp] theorem State.safeWaited_wf {s} (h : State.wf s = true) : State.wf (State.safeWaited s) = true := by
  unfold State.safeWaited; (repeat' split) <;> simp (maxDischargeDepth := 60) [State.wf_mk, State.wf_fold, State.waiting_mk, State.waiting_fold, *]
@[simp] theorem State.safeWaited_pending {s} : State.waiting (State.safeWaited s) = State.waiting s := by
  unfold State.safeWaited; (repeat' split) <;> simp (maxDischargeDepth := 60) [State.wf_mk, State.wf_fold, State.waiting_mk, State.waiting_fold, *]
@[simp] theorem State.resumeAging_wf {s n} (h : State.wf s = true) : State.wf (State.resumeAging s n) = true := by
  unfold State.resumeAging; simp (maxDischargeDepth := 60) [State.wf_mk, State.wf_fold, State.waiting_mk, State.waiting_fold, *]
@[simp] theorem State.resumeAging_pending {s n} : State.waiting (State.resumeAging s n) = State.waiting s := by
  unfold State.resumeAging; simp (maxDischargeDepth := 60) [State.wf_mk, State.wf_fold, State.waiting_mk, State.waiting_fold, *]

/-! Machine/SelfTest.lean -/

@[simp] theorem State.noteFail_wf {s off bit mram uncorr repaired pending} (h : State.wf s = true) : State.wf (State.noteFail s off bit mram uncorr repaired pending) = true := by
  unfold State.noteFail
  extract_lets v0
  have h_v0 : State.wf v0 = true := by subst v0; simp (maxDischargeDepth := 60) [State.wf_mk, State.wf_fold, State.waiting_mk, State.waiting_fold, *]
  clear_value v0
  simp (maxDischargeDepth := 60) [State.wf_mk, State.wf_fold, State.waiting_mk, State.waiting_fold, *]
@[simp] theorem State.noteFail_pending {s off bit mram uncorr repaired pending} : State.waiting (State.noteFail s off bit mram uncorr repaired pending) = State.waiting s := by
  unfold State.noteFail
  extract_lets v0
  have h_v0 : State.waiting v0 = State.waiting s := by subst v0; simp (maxDischargeDepth := 60) [State.wf_mk, State.wf_fold, State.waiting_mk, State.waiting_fold, *]
  clear_value v0
  simp (maxDischargeDepth := 60) [State.wf_mk, State.wf_fold, State.waiting_mk, State.waiting_fold, *]
@[simp] theorem State.sramFail_wf {s slice} (h : State.wf s = true) : State.wf (State.sramFail s slice) = true := by
  unfold State.sramFail; simp (maxDischargeDepth := 60) [State.wf_mk, State.wf_fold, State.waiting_mk, State.waiting_fold, *]
@[simp] theorem State.sramFail_pending {s slice} : State.waiting (State.sramFail s slice) = State.waiting s := by
  unfold State.sramFail; simp (maxDischargeDepth := 60) [State.wf_mk, State.wf_fold, State.waiting_mk, State.waiting_fold, *]
@[simp] theorem State.mramFind_wf {s f} (h : State.wf s = true) : State.wf (State.mramFind s f) = true := by
  unfold State.mramFind; simp (maxDischargeDepth := 60) [State.wf_mk, State.wf_fold, State.waiting_mk, State.waiting_fold, *]
@[simp] theorem State.mramFind_pending {s f} : State.waiting (State.mramFind s f) = State.waiting s := by
  unfold State.mramFind; simp (maxDischargeDepth := 60) [State.wf_mk, State.wf_fold, State.waiting_mk, State.waiting_fold, *]
@[simp] theorem State.mramVerify_wf {s l} (h : State.wf s = true) : State.wf (State.mramVerify s l) = true := by
  unfold State.mramVerify; simp +contextual (maxDischargeDepth := 60) [State.wf_mk, State.wf_fold, State.waiting_mk, State.waiting_fold, *]
@[simp] theorem State.mramVerify_pending {s l} : State.waiting (State.mramVerify s l) = State.waiting s := by
  unfold State.mramVerify; simp (maxDischargeDepth := 60) [State.wf_mk, State.wf_fold, State.waiting_mk, State.waiting_fold, *]
@[simp] theorem State.loopbackStop_wf {s w b} (h : State.wf s = true) : State.wf (State.loopbackStop s w b) = true := by
  unfold State.loopbackStop; simp (maxDischargeDepth := 60) [State.wf_mk, State.wf_fold, State.waiting_mk, State.waiting_fold, *]
@[simp] theorem State.loopbackStop_pending {s w b} : State.waiting (State.loopbackStop s w b) = State.waiting s := by
  unfold State.loopbackStop; simp (maxDischargeDepth := 60) [State.wf_mk, State.wf_fold, State.waiting_mk, State.waiting_fold, *]
@[simp] theorem State.cellTemp_wf {s n ohm} (h : State.wf s = true) : State.wf (State.cellTemp s n ohm) = true := by
  unfold State.cellTemp
  extract_lets v0 v1 v2 v3
  clear_value v0
  have h_v1 : State.wf v1 = true := by subst v1; simp (maxDischargeDepth := 60) [State.wf_mk, State.wf_fold, State.waiting_mk, State.waiting_fold, *]
  clear_value v1
  have h_v2 : State.wf v2 = true := by subst v2; simp (maxDischargeDepth := 60) [State.wf_mk, State.wf_fold, State.waiting_mk, State.waiting_fold, *]
  clear_value v2
  have h_v3 : State.wf v3 = true := by subst v3; simp (maxDischargeDepth := 60) [State.wf_mk, State.wf_fold, State.waiting_mk, State.waiting_fold, *]
  clear_value v3
  simp (maxDischargeDepth := 60) [State.wf_mk, State.wf_fold, State.waiting_mk, State.waiting_fold, *]
@[simp] theorem State.cellTemp_pending {s n ohm} : State.waiting (State.cellTemp s n ohm) = State.waiting s := by
  unfold State.cellTemp
  extract_lets v0 v1 v2 v3
  clear_value v0
  have h_v1 : State.waiting v1 = State.waiting s := by subst v1; simp (maxDischargeDepth := 60) [State.wf_mk, State.wf_fold, State.waiting_mk, State.waiting_fold, *]
  clear_value v1
  have h_v2 : State.waiting v2 = State.waiting s := by subst v2; simp (maxDischargeDepth := 60) [State.wf_mk, State.wf_fold, State.waiting_mk, State.waiting_fold, *]
  clear_value v2
  have h_v3 : State.waiting v3 = State.waiting s := by subst v3; simp (maxDischargeDepth := 60) [State.wf_mk, State.wf_fold, State.waiting_mk, State.waiting_fold, *]
  clear_value v3
  simp (maxDischargeDepth := 60) [State.wf_mk, State.wf_fold, State.waiting_mk, State.waiting_fold, *]
@[simp] theorem State.refCheck_wf {s r1 r2} (h : State.wf s = true) : State.wf (State.refCheck s r1 r2) = true := by
  unfold State.refCheck; dsimp only; (repeat' split) <;> simp +contextual (maxDischargeDepth := 60) [State.wf_mk, State.wf_fold, State.waiting_mk, State.waiting_fold, *]
@[simp] theorem State.refCheck_pending {s r1 r2} : State.waiting (State.refCheck s r1 r2) = State.waiting s := by
  unfold State.refCheck; dsimp only; (repeat' split) <;> simp +contextual (maxDischargeDepth := 60) [State.wf_mk, State.wf_fold, State.waiting_mk, State.waiting_fold, *]
@[simp] theorem State.dieRead_wf {s k code} (h : State.wf s = true) : State.wf (State.dieRead s k code) = true := by
  unfold State.dieRead; simp (maxDischargeDepth := 60) [State.wf_mk, State.wf_fold, State.waiting_mk, State.waiting_fold, *]
@[simp] theorem State.dieRead_pending {s k code} : State.waiting (State.dieRead s k code) = State.waiting s := by
  unfold State.dieRead; simp (maxDischargeDepth := 60) [State.wf_mk, State.wf_fold, State.waiting_mk, State.waiting_fold, *]
@[simp] theorem State.blendStart_wf {s n} (h : State.wf s = true) : State.wf (State.blendStart s n) = true := by
  unfold State.blendStart; simp (maxDischargeDepth := 60) [State.wf_mk, State.wf_fold, State.waiting_mk, State.waiting_fold, *]
@[simp] theorem State.blendStart_pending {s n} : State.waiting (State.blendStart s n) = State.waiting s := by
  unfold State.blendStart; simp (maxDischargeDepth := 60) [State.wf_mk, State.wf_fold, State.waiting_mk, State.waiting_fold, *]
@[simp] theorem State.chanBand_wf {s n b} (h : State.wf s = true) : State.wf (State.chanBand s n b) = true := by
  unfold State.chanBand
  extract_lets v0
  have h_v0 : State.wf v0 = true := by subst v0; simp (maxDischargeDepth := 60) [State.wf_mk, State.wf_fold, State.waiting_mk, State.waiting_fold, *]
  clear_value v0
  simp (maxDischargeDepth := 60) [State.wf_mk, State.wf_fold, State.waiting_mk, State.waiting_fold, *]
@[simp] theorem State.chanBand_pending {s n b} : State.waiting (State.chanBand s n b) = State.waiting s := by
  unfold State.chanBand
  extract_lets v0
  have h_v0 : State.waiting v0 = State.waiting s := by subst v0; simp (maxDischargeDepth := 60) [State.wf_mk, State.wf_fold, State.waiting_mk, State.waiting_fold, *]
  clear_value v0
  simp (maxDischargeDepth := 60) [State.wf_mk, State.wf_fold, State.waiting_mk, State.waiting_fold, *]
@[simp] theorem State.blendStep_wf {s n} (h : State.wf s = true) : State.wf (State.blendStep s n) = true := by
  unfold State.blendStep; simp (maxDischargeDepth := 60) [State.wf_mk, State.wf_fold, State.waiting_mk, State.waiting_fold, *]
@[simp] theorem State.blendStep_pending {s n} : State.waiting (State.blendStep s n) = State.waiting s := by
  unfold State.blendStep; simp (maxDischargeDepth := 60) [State.wf_mk, State.wf_fold, State.waiting_mk, State.waiting_fold, *]
@[simp] theorem State.bands_wf {s first} (h : State.wf s = true) : State.wf (State.bands s first) = true := by
  unfold State.bands; simp +contextual (maxDischargeDepth := 60) [State.wf_mk, State.wf_fold, State.waiting_mk, State.waiting_fold, *]
@[simp] theorem State.bands_pending {s first} : State.waiting (State.bands s first) = State.waiting s := by
  unfold State.bands
  extract_lets v0
  have h_v0 : State.waiting v0 = State.waiting s := by subst v0; simp (maxDischargeDepth := 60) [State.wf_mk, State.wf_fold, State.waiting_mk, State.waiting_fold, *]
  clear_value v0
  simp (maxDischargeDepth := 60) [State.wf_mk, State.wf_fold, State.waiting_mk, State.waiting_fold, *]
@[simp] theorem State.dieMax_wf {s} (h : State.wf s = true) : State.wf (State.dieMax s) = true := by
  unfold State.dieMax; simp (maxDischargeDepth := 60) [State.wf_mk, State.wf_fold, State.waiting_mk, State.waiting_fold, *]
@[simp] theorem State.dieMax_pending {s} : State.waiting (State.dieMax s) = State.waiting s := by
  unfold State.dieMax; simp (maxDischargeDepth := 60) [State.wf_mk, State.wf_fold, State.waiting_mk, State.waiting_fold, *]
@[simp] theorem State.thermal_wf {s f up down num sev} (h : State.wf s = true) : State.wf (State.thermal s f up down num sev) = true := by
  unfold State.thermal; simp (maxDischargeDepth := 60) [State.wf_mk, State.wf_fold, State.waiting_mk, State.waiting_fold, *]
@[simp] theorem State.thermal_pending {s f up down num sev} : State.waiting (State.thermal s f up down num sev) = State.waiting s := by
  unfold State.thermal; simp (maxDischargeDepth := 60) [State.wf_mk, State.wf_fold, State.waiting_mk, State.waiting_fold, *]
@[simp] theorem State.thermals_wf {s} (h : State.wf s = true) : State.wf (State.thermals s) = true := by
  unfold State.thermals
  extract_lets v0 v1
  have h_v0 : State.wf v0 = true := by subst v0; simp (maxDischargeDepth := 60) [State.wf_mk, State.wf_fold, State.waiting_mk, State.waiting_fold, *]
  clear_value v0
  have h_v1 : State.wf v1 = true := by subst v1; simp (maxDischargeDepth := 60) [State.wf_mk, State.wf_fold, State.waiting_mk, State.waiting_fold, *]
  clear_value v1
  simp (maxDischargeDepth := 60) [State.wf_mk, State.wf_fold, State.waiting_mk, State.waiting_fold, *]
@[simp] theorem State.thermals_pending {s} : State.waiting (State.thermals s) = State.waiting s := by
  unfold State.thermals
  extract_lets v0 v1
  have h_v0 : State.waiting v0 = State.waiting s := by subst v0; simp (maxDischargeDepth := 60) [State.wf_mk, State.wf_fold, State.waiting_mk, State.waiting_fold, *]
  clear_value v0
  have h_v1 : State.waiting v1 = State.waiting s := by subst v1; simp (maxDischargeDepth := 60) [State.wf_mk, State.wf_fold, State.waiting_mk, State.waiting_fold, *]
  clear_value v1
  simp (maxDischargeDepth := 60) [State.wf_mk, State.wf_fold, State.waiting_mk, State.waiting_fold, *]

/-! Machine/Reset.lean -/

theorem keepRegs_wf {l : List (Reg × Word)} (h : regsWf l = true) (m : Reg → Word) : regsWf (keepRegs m l) = true := by
  rw [regsWf_iff] at *
  have key : ∀ {p q : Reg × Word}, q ∈ (let w := (p.1.rst &&& ~~~ m p.1) ||| (p.2 &&& m p.1)
      if w = p.1.rst then none else some (p.1, w)) → q.1 = p.1 ∧ q.2 ≠ q.1.rst := by
    intro p q hq
    dsimp only at hq
    split at hq
    · cases hq
    · next hw =>
      have := Option.some.inj hq
      subst this
      exact ⟨rfl, hw⟩
  refine ⟨?_, fun e he => ?_⟩
  · unfold keepRegs
    refine List.Pairwise.filterMap _ ?_ h.1
    intro p q hpq p' hp' q' hq'
    rw [(key hp').1, (key hq').1]
    exact hpq
  · obtain ⟨p, -, hp⟩ := List.mem_filterMap.1 he
    exact (key hp).2
@[simp] theorem State.softClear_wf {s} (h : State.wf s = true) : State.wf (State.softClear s) = true := by
  rw [State.wf_iff] at *
  exact ⟨keepRegs_wf h.1 _, Memory.wf_filter h.2.1 _, h.2.2⟩
@[simp] theorem State.softClear_pending {s} : State.waiting (State.softClear s) = State.waiting s := by
  unfold State.softClear; simp (maxDischargeDepth := 60) [State.wf_mk, State.wf_fold, State.waiting_mk, State.waiting_fold, *]
@[simp] theorem State.vaultFlush_wf {s} (h : State.wf s = true) : State.wf (State.vaultFlush s) = true := by
  unfold State.vaultFlush
  exact foldl_wf (fun t _ ht => State.vaultTake_wf ht) h
@[simp] theorem State.vaultFlush_pending {s} : State.waiting (State.vaultFlush s) = State.waiting s := by
  unfold State.vaultFlush
  exact foldl_pending fun t _ => State.vaultTake_pending
@[simp] theorem State.logicStart_wf {s} (h : State.wf s = true) : State.wf (State.logicStart s) = true := by
  unfold State.logicStart; simp (maxDischargeDepth := 60) [State.wf_mk, State.wf_fold, State.waiting_mk, State.waiting_fold, *]
@[simp] theorem State.logicStart_pending {s} : State.waiting (State.logicStart s) = State.waiting s := by
  unfold State.logicStart; simp (maxDischargeDepth := 60) [State.wf_mk, State.wf_fold, State.waiting_mk, State.waiting_fold, *]
@[simp] theorem State.spareBoot_wf {s} (h : State.wf s = true) : State.wf (State.spareBoot s) = true := by
  unfold State.spareBoot; simp (maxDischargeDepth := 60) [State.wf_mk, State.wf_fold, State.waiting_mk, State.waiting_fold, *]
@[simp] theorem State.spareBoot_pending {s} : State.waiting (State.spareBoot s) = State.waiting s := by
  unfold State.spareBoot; simp (maxDischargeDepth := 60) [State.wf_mk, State.wf_fold, State.waiting_mk, State.waiting_fold, *]
@[simp] theorem State.wake_wf {s} (h : State.wf s = true) : State.wf (State.wake s) = true := by
  unfold State.wake; simp +contextual (maxDischargeDepth := 60) [State.wf_mk, State.wf_fold, State.waiting_mk, State.waiting_fold, *]
@[simp] theorem State.wake_pending {s} : State.waiting (State.wake s) = State.waiting s := by
  unfold State.wake; simp (maxDischargeDepth := 60) [State.wf_mk, State.wf_fold, State.waiting_mk, State.waiting_fold, *]
@[simp] theorem State.softReset_wf {s cause} (h : State.wf s = true) : State.wf (State.softReset s cause) = true := by
  unfold State.softReset; simp +contextual (maxDischargeDepth := 60) [State.wf_mk, State.wf_fold, State.waiting_mk, State.waiting_fold, *]
@[simp] theorem State.softReset_pending {s cause} : State.waiting (State.softReset s cause) = State.waiting s := by
  unfold State.softReset
  extract_lets v0 v1 v2
  have h_v0 : State.waiting v0 = State.waiting s := by subst v0; simp (maxDischargeDepth := 60) [State.wf_mk, State.wf_fold, State.waiting_mk, State.waiting_fold, *]
  clear_value v0
  have h_v1 : State.waiting v1 = State.waiting s := by subst v1; simp (maxDischargeDepth := 60) [State.wf_mk, State.wf_fold, State.waiting_mk, State.waiting_fold, *]
  clear_value v1
  have h_v2 : State.waiting v2 = State.waiting s := by subst v2; simp (maxDischargeDepth := 60) [State.wf_mk, State.wf_fold, State.waiting_mk, State.waiting_fold, *]
  clear_value v2
  simp (maxDischargeDepth := 60) [State.wf_mk, State.wf_fold, State.waiting_mk, State.waiting_fold, *]
@[simp] theorem State.powerClear_wf {s vbias} (h : State.wf s = true) : State.wf (State.powerClear s vbias) = true := by
  rw [State.wf_iff] at *
  exact ⟨keepRegs_wf h.1 _, Memory.wf_filter h.2.1 _, h.2.2⟩
@[simp] theorem State.powerClear_pending {s vbias} : State.waiting (State.powerClear s vbias) = State.waiting s := by
  unfold State.powerClear; simp (maxDischargeDepth := 60) [State.wf_mk, State.wf_fold, State.waiting_mk, State.waiting_fold, *]

/-! Machine/Rails.lean -/

@[simp] theorem State.coreOff_wf {s t} (h : State.wf t = true) : State.wf (State.coreOff s t) = true := by
  unfold State.coreOff
  split
  · exact State.softClear_wf h
  · exact h
@[simp] theorem State.coreOff_pending {s t} : State.waiting (State.coreOff s t) = State.waiting t := by
  unfold State.coreOff
  split
  · exact State.softClear_pending
  · rfl
@[simp] theorem State.sysReset_wf {s cause} (h : State.wf s = true) : State.wf (State.sysReset s cause) = true := by
  unfold State.sysReset
  split
  · exact h
  · refine State.coreOff_wf (State.railSweep_wf (State.wf_each ?_ fun x t ht => ?_)) <;> simp +contextual (maxDischargeDepth := 60) [State.wf_mk, State.wf_fold, State.waiting_mk, State.waiting_fold, *]
@[simp] theorem State.sysReset_pending {s cause} : State.waiting (State.sysReset s cause) = State.waiting s := by
  unfold State.sysReset
  split
  · exact Eq.refl _
  · rw [State.coreOff_pending, State.railSweep_pending, State.pending_each fun x t => State.railAsk_pending]
    simp +contextual (maxDischargeDepth := 60) [State.wf_mk, State.wf_fold, State.waiting_mk, State.waiting_fold, *]
@[simp] theorem State.wdiAct_wf {s} (h : State.wf s = true) : State.wf (State.wdiAct s) = true := by
  unfold State.wdiAct; (repeat' split) <;> simp (maxDischargeDepth := 60) [State.wf_mk, State.wf_fold, State.waiting_mk, State.waiting_fold, *]
@[simp] theorem State.wdiAct_pending {s} : State.waiting (State.wdiAct s) = State.waiting s := by
  unfold State.wdiAct; (repeat' split) <;> simp (maxDischargeDepth := 60) [State.wf_mk, State.wf_fold, State.waiting_mk, State.waiting_fold, *]
@[simp] theorem State.railsSettle_wf {s} (h : State.wf s = true) : State.wf (State.railsSettle s) = true := by
  unfold State.railsSettle
  exact State.wdiAct_wf (State.coreOff_wf (State.railSweep_wf h))
@[simp] theorem State.railsSettle_pending {s} : State.waiting (State.railsSettle s) = State.waiting s := by
  unfold State.railsSettle
  rw [State.wdiAct_pending, State.coreOff_pending, State.railSweep_pending]
@[simp] theorem State.railUpNow_wf {s} (h : State.wf s = true) : State.wf (State.railUpNow s) = true := by
  unfold State.railUpNow; simp +contextual (maxDischargeDepth := 60) [State.wf_mk, State.wf_fold, State.waiting_mk, State.waiting_fold, *]
@[simp] theorem State.railUpNow_pending {s} : State.waiting (State.railUpNow s) = State.waiting s := by
  unfold State.railUpNow
  extract_lets v0 v1 v2
  clear_value v0
  clear_value v1
  have h_v2 : State.waiting v2 = State.waiting s := by subst v2; simp (maxDischargeDepth := 60) [State.wf_mk, State.wf_fold, State.waiting_mk, State.waiting_fold, *]
  clear_value v2
  simp (maxDischargeDepth := 60) [State.wf_mk, State.wf_fold, State.waiting_mk, State.waiting_fold, *]
@[simp] theorem State.railUp_wf {s} (h : State.wf s = true) : State.wf (State.railUp s) = true := by
  unfold State.railUp; simp (maxDischargeDepth := 60) [State.wf_mk, State.wf_fold, State.waiting_mk, State.waiting_fold, *]
@[simp] theorem State.railUp_pending {s} : State.waiting (State.railUp s) = State.waiting s := by
  unfold State.railUp; simp (maxDischargeDepth := 60) [State.wf_mk, State.wf_fold, State.waiting_mk, State.waiting_fold, *]
@[simp] theorem State.railDown_wf {s} (h : State.wf s = true) : State.wf (State.railDown s) = true := by
  unfold State.railDown; simp +contextual (maxDischargeDepth := 60) [State.wf_mk, State.wf_fold, State.waiting_mk, State.waiting_fold, *]
@[simp] theorem State.railDown_pending {s} : State.waiting (State.railDown s) = State.waiting s := by
  unfold State.railDown
  extract_lets v0 v1
  have h_v0 : State.waiting v0 = State.waiting s := by subst v0; simp (maxDischargeDepth := 60) [State.wf_mk, State.wf_fold, State.waiting_mk, State.waiting_fold, *]
  clear_value v0
  have h_v1 : State.waiting v1 = State.waiting s := by subst v1; simp (maxDischargeDepth := 60) [State.wf_mk, State.wf_fold, State.waiting_mk, State.waiting_fold, *]
  clear_value v1
  simp (maxDischargeDepth := 60) [State.wf_mk, State.wf_fold, State.waiting_mk, State.waiting_fold, *]
@[simp] theorem State.railSave_wf {s} (h : State.wf s = true) : State.wf (State.railSave s) = true := by
  unfold State.railSave; simp (maxDischargeDepth := 60) [State.wf_mk, State.wf_fold, State.waiting_mk, State.waiting_fold, *]
@[simp] theorem State.railSave_pending {s} : State.waiting (State.railSave s) = State.waiting s := by
  unfold State.railSave; simp (maxDischargeDepth := 60) [State.wf_mk, State.wf_fold, State.waiting_mk, State.waiting_fold, *]
@[simp] theorem State.railEvent_wf {s e sev} (h : State.wf s = true) : State.wf (State.railEvent s e sev) = true := by
  unfold State.railEvent; simp (maxDischargeDepth := 60) [State.wf_mk, State.wf_fold, State.waiting_mk, State.waiting_fold, *]
@[simp] theorem State.railEvent_pending {s e sev} : State.waiting (State.railEvent s e sev) = State.waiting s := by
  unfold State.railEvent; simp (maxDischargeDepth := 60) [State.wf_mk, State.wf_fold, State.waiting_mk, State.waiting_fold, *]
@[simp] theorem State.ownFail_wf {s e} (h : State.wf s = true) : State.wf (State.ownFail s e) = true := by
  unfold State.ownFail; simp +contextual (maxDischargeDepth := 60) [State.wf_mk, State.wf_fold, State.waiting_mk, State.waiting_fold, *]
@[simp] theorem State.ownFail_pending {s e} : State.waiting (State.ownFail s e) = State.waiting s := by
  unfold State.ownFail; simp (maxDischargeDepth := 60) [State.wf_mk, State.wf_fold, State.waiting_mk, State.waiting_fold, *]
@[simp] theorem State.railFailDown_wf {s e} (h : State.wf s = true) : State.wf (State.railFailDown s e) = true := by
  unfold State.railFailDown; simp +contextual (maxDischargeDepth := 60) [State.wf_mk, State.wf_fold, State.waiting_mk, State.waiting_fold, *]
@[simp] theorem State.railFailDown_pending {s e} : State.waiting (State.railFailDown s e) = State.waiting s := by
  unfold State.railFailDown
  extract_lets v0 v1
  clear_value v0
  have h_v1 : State.waiting v1 = State.waiting s := by subst v1; simp (maxDischargeDepth := 60) [State.wf_mk, State.wf_fold, State.waiting_mk, State.waiting_fold, *]
  clear_value v1
  simp (maxDischargeDepth := 60) [State.wf_mk, State.wf_fold, State.waiting_mk, State.waiting_fold, *]
@[simp] theorem State.railNotUp_wf {s e bit} (h : State.wf s = true) : State.wf (State.railNotUp s e bit) = true := by
  unfold State.railNotUp
  extract_lets v0
  have h_v0 : State.wf v0 = true := by subst v0; simp (maxDischargeDepth := 60) [State.wf_mk, State.wf_fold, State.waiting_mk, State.waiting_fold, *]
  clear_value v0
  simp (maxDischargeDepth := 60) [State.wf_mk, State.wf_fold, State.waiting_mk, State.waiting_fold, *]
@[simp] theorem State.railNotUp_pending {s e bit} : State.waiting (State.railNotUp s e bit) = State.waiting s := by
  unfold State.railNotUp
  extract_lets v0
  have h_v0 : State.waiting v0 = State.waiting s := by subst v0; simp (maxDischargeDepth := 60) [State.wf_mk, State.wf_fold, State.waiting_mk, State.waiting_fold, *]
  clear_value v0
  simp (maxDischargeDepth := 60) [State.wf_mk, State.wf_fold, State.waiting_mk, State.waiting_fold, *]
@[simp] theorem State.railGroupDown_wf {s e} (h : State.wf s = true) : State.wf (State.railGroupDown s e) = true := by
  unfold State.railGroupDown; simp +contextual (maxDischargeDepth := 60) [State.wf_mk, State.wf_fold, State.waiting_mk, State.waiting_fold, *]
@[simp] theorem State.railGroupDown_pending {s e} : State.waiting (State.railGroupDown s e) = State.waiting s := by
  unfold State.railGroupDown
  extract_lets v0 v1 v2 v3 v4 v5
  clear_value v0
  clear_value v1
  clear_value v2
  have h_v3 : State.waiting v3 = State.waiting s := by subst v3; simp (maxDischargeDepth := 60) [State.wf_mk, State.wf_fold, State.waiting_mk, State.waiting_fold, *]
  clear_value v3
  have h_v4 : State.waiting v4 = State.waiting s := by subst v4; simp (maxDischargeDepth := 60) [State.wf_mk, State.wf_fold, State.waiting_mk, State.waiting_fold, *]
  clear_value v4
  have h_v5 : State.waiting v5 = State.waiting s := by subst v5; simp (maxDischargeDepth := 60) [State.wf_mk, State.wf_fold, State.waiting_mk, State.waiting_fold, *]
  clear_value v5
  simp (maxDischargeDepth := 60) [State.wf_mk, State.wf_fold, State.waiting_mk, State.waiting_fold, *]
@[simp] theorem State.railRespond_wf {s e bit} (h : State.wf s = true) : State.wf (State.railRespond s e bit) = true := by
  unfold State.railRespond; dsimp only; (repeat' split) <;> simp +contextual (maxDischargeDepth := 60) [State.wf_mk, State.wf_fold, State.waiting_mk, State.waiting_fold, *]
@[simp] theorem State.railRespond_pending {s e bit} : State.waiting (State.railRespond s e bit) = State.waiting s := by
  unfold State.railRespond
  extract_lets v0 v1 v2
  clear_value v0
  have h_v1 : State.waiting v1 = State.waiting s := by subst v1; simp (maxDischargeDepth := 60) [State.wf_mk, State.wf_fold, State.waiting_mk, State.waiting_fold, *]
  clear_value v1
  clear_value v2
  ((repeat' split) <;> (try extract_lets) <;> simp (maxDischargeDepth := 60) +zetaDelta [State.wf_mk, State.wf_fold, State.waiting_mk, State.waiting_fold, *])
@[simp] theorem State.railFollow_wf {s e mv} (h : State.wf s = true) : State.wf (State.railFollow s e mv) = true := by
  unfold State.railFollow; simp (maxDischargeDepth := 60) [State.wf_mk, State.wf_fold, State.waiting_mk, State.waiting_fold, *]
@[simp] theorem State.railFollow_pending {s e mv} : State.waiting (State.railFollow s e mv) = State.waiting s := by
  unfold State.railFollow; simp (maxDischargeDepth := 60) [State.wf_mk, State.wf_fold, State.waiting_mk, State.waiting_fold, *]
@[simp] theorem State.railRead_wf {s e mv} (h : State.wf s = true) : State.wf (State.railRead s e mv) = true := by
  unfold State.railRead; (repeat' split) <;> simp (maxDischargeDepth := 60) [State.wf_mk, State.wf_fold, State.waiting_mk, State.waiting_fold, *]
@[simp] theorem State.railRead_pending {s e mv} : State.waiting (State.railRead s e mv) = State.waiting s := by
  unfold State.railRead; (repeat' split) <;> simp (maxDischargeDepth := 60) [State.wf_mk, State.wf_fold, State.waiting_mk, State.waiting_fold, *]
@[simp] theorem State.railClear_wf {s e val} (h : State.wf s = true) : State.wf (State.railClear s e val) = true := by
  unfold State.railClear
  extract_lets v0
  have h_v0 : State.wf v0 = true := by subst v0; simp (maxDischargeDepth := 60) [State.wf_mk, State.wf_fold, State.waiting_mk, State.waiting_fold, *]
  clear_value v0
  simp (maxDischargeDepth := 60) [State.wf_mk, State.wf_fold, State.waiting_mk, State.waiting_fold, *]
@[simp] theorem State.railClear_pending {s e val} : State.waiting (State.railClear s e val) = State.waiting s := by
  unfold State.railClear
  extract_lets v0
  have h_v0 : State.waiting v0 = State.waiting s := by subst v0; simp (maxDischargeDepth := 60) [State.wf_mk, State.wf_fold, State.waiting_mk, State.waiting_fold, *]
  clear_value v0
  simp (maxDischargeDepth := 60) [State.wf_mk, State.wf_fold, State.waiting_mk, State.waiting_fold, *]
@[simp] theorem State.roffWrite_wf {s val} (h : State.wf s = true) : State.wf (State.roffWrite s val) = true := by
  unfold State.roffWrite; simp +contextual (maxDischargeDepth := 60) [State.wf_mk, State.wf_fold, State.waiting_mk, State.waiting_fold, *]
@[simp] theorem State.roffWrite_pending {s val} : State.waiting (State.roffWrite s val) = State.waiting s := by
  unfold State.roffWrite
  extract_lets v0
  have h_v0 : State.waiting v0 = State.waiting s := by subst v0; simp (maxDischargeDepth := 60) [State.wf_mk, State.wf_fold, State.waiting_mk, State.waiting_fold, *]
  clear_value v0
  simp (maxDischargeDepth := 60) [State.wf_mk, State.wf_fold, State.waiting_mk, State.waiting_fold, *]
@[simp] theorem State.railWrite_wf {s e r val} (h : State.wf s = true) : State.wf (State.railWrite s e r val) = true := by
  unfold State.railWrite; (repeat' split) <;> simp (maxDischargeDepth := 60) [State.wf_mk, State.wf_fold, State.waiting_mk, State.waiting_fold, *]
@[simp] theorem State.railWrite_pending {s e r val} : State.waiting (State.railWrite s e r val) = State.waiting s := by
  unfold State.railWrite; (repeat' split) <;> simp (maxDischargeDepth := 60) [State.wf_mk, State.wf_fold, State.waiting_mk, State.waiting_fold, *]
@[simp] theorem State.loadRegion_wf {s r} (h : State.wf s = true) : State.wf (State.loadRegion s r) = true := by
  unfold State.loadRegion; simp +contextual (maxDischargeDepth := 60) [State.wf_mk, State.wf_fold, State.waiting_mk, State.waiting_fold, *]
@[simp] theorem State.loadRegion_pending {s r} : State.waiting (State.loadRegion s r) = State.waiting s := by
  unfold State.loadRegion; simp (maxDischargeDepth := 60) [State.wf_mk, State.wf_fold, State.waiting_mk, State.waiting_fold, *]
@[simp] theorem State.loadRegions_wf {s l} (h : State.wf s = true) : State.wf (State.loadRegions s l) = true := by
  unfold State.loadRegions; simp +contextual (maxDischargeDepth := 60) [State.wf_mk, State.wf_fold, State.waiting_mk, State.waiting_fold, *]
@[simp] theorem State.loadRegions_pending {s l} : State.waiting (State.loadRegions s l) = State.waiting s := by
  unfold State.loadRegions; simp (maxDischargeDepth := 60) [State.wf_mk, State.wf_fold, State.waiting_mk, State.waiting_fold, *]
theorem State.wf_cal {s} (h : State.wf s = true) : Memory.wf (NvSt.calSaved (State.nv s)) = true := ((State.wf_iff _).1 h).2.2
@[simp] theorem State.loadCal_wf {s l} (h : State.wf s = true) (hl : Memory.wf l = true) : State.wf (State.loadCal s l) = true := by
  have low : ∀ b, Memory.wf ((l.filter fun c => decide (c.1 < 0x10000)).map fun c => (b + c.1, c.2)) = true := fun b =>
    Memory.wf_shift (Memory.wf_filter hl _) (fun x => b + x) fun _ _ _ _ hcd => Nat.add_lt_add_left hcd b
  have lin : ∀ b, ∀ c ∈ (l.filter fun c => decide (c.1 < 0x10000)).map fun c => (b + c.1, c.2), b ≤ c.1 ∧ c.1 < b + 0x10000 := by
    intro b c hc
    obtain ⟨p, hp, rfl⟩ := List.mem_map.1 hc
    have hp := (List.mem_filter.1 hp).2
    simp only [decide_eq_true_eq] at hp
    exact ⟨Nat.le_add_right b p.1, Nat.add_lt_add_left hp b⟩
  rw [State.wf_iff] at *
  exact ⟨h.1, memReplace_wf (memReplace_wf h.2.1 (low _) (lin _)) (low _) (lin _), h.2.2⟩
@[simp] theorem State.loadCal_pending {s l} : State.waiting (State.loadCal s l) = State.waiting s := by
  unfold State.loadCal
  simp [State.wf_mk, State.wf_fold, State.waiting_mk, State.waiting_fold]
@[simp] theorem State.cfgAlt_wf {s} (h : State.wf s = true) : State.wf (State.cfgAlt s) = true := by
  unfold State.cfgAlt; simp (maxDischargeDepth := 60) [State.wf_mk, State.wf_fold, State.waiting_mk, State.waiting_fold, *]
@[simp] theorem State.cfgAlt_pending {s} : State.waiting (State.cfgAlt s) = State.waiting s := by
  unfold State.cfgAlt; simp (maxDischargeDepth := 60) [State.wf_mk, State.wf_fold, State.waiting_mk, State.waiting_fold, *]
@[simp] theorem State.loadOne_wf {s img r} (h : State.wf s = true) : State.wf (State.loadOne s img r) = true := by
  unfold State.loadOne; simp (maxDischargeDepth := 60) [State.wf_mk, State.wf_fold, State.waiting_mk, State.waiting_fold, *]
@[simp] theorem State.loadOne_pending {s img r} : State.waiting (State.loadOne s img r) = State.waiting s := by
  unfold State.loadOne; simp (maxDischargeDepth := 60) [State.wf_mk, State.wf_fold, State.waiting_mk, State.waiting_fold, *]
@[simp] theorem State.loadConfig_wf {s img} (h : State.wf s = true) : State.wf (State.loadConfig s img) = true := by
  unfold State.loadConfig
  have h1 : State.wf (s.each [.adopt, .link, .rails] fun (r : Region) t => t.loadOne img r) = true := by
    simp +contextual (maxDischargeDepth := 60) [State.wf_mk, State.wf_fold, State.waiting_mk, State.waiting_fold, *]
  generalize (s.each [.adopt, .link, .rails] fun (r : Region) t => t.loadOne img r) = s1 at h1 ⊢
  have hc := State.wf_cal h1
  dsimp only
  have hn : Memory.wf [] = true := Memory.wf_nil
  (repeat' split) <;> simp [*]
@[simp] theorem State.loadConfig_pending {s img} : State.waiting (State.loadConfig s img) = State.waiting s := by
  unfold State.loadConfig; simp (maxDischargeDepth := 60) [State.wf_mk, State.wf_fold, State.waiting_mk, State.waiting_fold, *]
@[simp] theorem State.applyRepairs_wf {s} (h : State.wf s = true) : State.wf (State.applyRepairs s) = true := by
  unfold State.applyRepairs
  extract_lets v0 v1
  clear_value v0
  have h_v1 : State.wf v1 = true := by subst v1; simp (maxDischargeDepth := 60) [State.wf_mk, State.wf_fold, State.waiting_mk, State.waiting_fold, *]
  clear_value v1
  simp (maxDischargeDepth := 60) [State.wf_mk, State.wf_fold, State.waiting_mk, State.waiting_fold, *]
@[simp] theorem State.applyRepairs_pending {s} : State.waiting (State.applyRepairs s) = State.waiting s := by
  unfold State.applyRepairs
  extract_lets v0 v1
  clear_value v0
  have h_v1 : State.waiting v1 = State.waiting s := by subst v1; simp (maxDischargeDepth := 60) [State.wf_mk, State.wf_fold, State.waiting_mk, State.waiting_fold, *]
  clear_value v1
  simp (maxDischargeDepth := 60) [State.wf_mk, State.wf_fold, State.waiting_mk, State.waiting_fold, *]
@[simp] theorem State.readAddr_wf {s x} (h : State.wf s = true) : State.wf (State.readAddr s x) = true := by
  unfold State.readAddr; (repeat' split) <;> simp (maxDischargeDepth := 60) [State.wf_mk, State.wf_fold, State.waiting_mk, State.waiting_fold, *]
@[simp] theorem State.readAddr_pending {s x} : State.waiting (State.readAddr s x) = State.waiting s := by
  unfold State.readAddr; (repeat' split) <;> simp (maxDischargeDepth := 60) [State.wf_mk, State.wf_fold, State.waiting_mk, State.waiting_fold, *]
@[simp] theorem State.bootStraps_wf {s} (h : State.wf s = true) : State.wf (State.bootStraps s) = true := by
  unfold State.bootStraps; (repeat' split) <;> simp (maxDischargeDepth := 60) [State.wf_mk, State.wf_fold, State.waiting_mk, State.waiting_fold, *]
@[simp] theorem State.bootStraps_pending {s} : State.waiting (State.bootStraps s) = State.waiting s := by
  unfold State.bootStraps; (repeat' split) <;> simp (maxDischargeDepth := 60) [State.wf_mk, State.wf_fold, State.waiting_mk, State.waiting_fold, *]
@[simp] theorem State.bootDie_wf {s die} (h : State.wf s = true) : State.wf (State.bootDie s die) = true := by
  unfold State.bootDie; simp +contextual (maxDischargeDepth := 60) [State.wf_mk, State.wf_fold, State.waiting_mk, State.waiting_fold, *]
@[simp] theorem State.bootDie_pending {s die} : State.waiting (State.bootDie s die) = State.waiting s := by
  unfold State.bootDie
  extract_lets v0
  have h_v0 : State.waiting v0 = State.waiting s := by subst v0; simp (maxDischargeDepth := 60) [State.wf_mk, State.wf_fold, State.waiting_mk, State.waiting_fold, *]
  clear_value v0
  simp (maxDischargeDepth := 60) [State.wf_mk, State.wf_fold, State.waiting_mk, State.waiting_fold, *]
@[simp] theorem State.bootAdopt_wf {s} (h : State.wf s = true) : State.wf (State.bootAdopt s) = true := by
  unfold State.bootAdopt; simp (maxDischargeDepth := 60) [State.wf_mk, State.wf_fold, State.waiting_mk, State.waiting_fold, *]
@[simp] theorem State.bootAdopt_pending {s} : State.waiting (State.bootAdopt s) = State.waiting s := by
  unfold State.bootAdopt; simp (maxDischargeDepth := 60) [State.wf_mk, State.wf_fold, State.waiting_mk, State.waiting_fold, *]
@[simp] theorem State.bootVault_wf {s} (h : State.wf s = true) : State.wf (State.bootVault s) = true := by
  unfold State.bootVault; simp (maxDischargeDepth := 60) [State.wf_mk, State.wf_fold, State.waiting_mk, State.waiting_fold, *]
@[simp] theorem State.bootVault_pending {s} : State.waiting (State.bootVault s) = State.waiting s := by
  unfold State.bootVault; simp (maxDischargeDepth := 60) [State.wf_mk, State.wf_fold, State.waiting_mk, State.waiting_fold, *]
@[simp] theorem State.bootConfig_wf {s img b} (h : State.wf s = true) : State.wf (State.bootConfig s img b) = true := by
  unfold State.bootConfig; simp +contextual (maxDischargeDepth := 60) [State.wf_mk, State.wf_fold, State.waiting_mk, State.waiting_fold, *]
@[simp] theorem State.bootConfig_pending {s img b} : State.waiting (State.bootConfig s img b) = State.waiting s := by
  unfold State.bootConfig; simp (maxDischargeDepth := 60) [State.wf_mk, State.wf_fold, State.waiting_mk, State.waiting_fold, *]
@[simp] theorem State.bootEnd_wf {s} (h : State.wf s = true) : State.wf (State.bootEnd s) = true := by
  unfold State.bootEnd; simp +contextual (maxDischargeDepth := 60) [State.wf_mk, State.wf_fold, State.waiting_mk, State.waiting_fold, *]
@[simp] theorem State.bootEnd_pending {s} : State.waiting (State.bootEnd s) = State.waiting s := by
  unfold State.bootEnd; simp (maxDischargeDepth := 60) [State.wf_mk, State.wf_fold, State.waiting_mk, State.waiting_fold, *]
@[simp] theorem State.bootRun_wf {s img b result} (h : State.wf s = true) : State.wf (State.bootRun s img b result) = true := by
  unfold State.bootRun
  extract_lets v0 v1 v2
  have h_v0 : State.wf v0 = true := by subst v0; simp (maxDischargeDepth := 60) [State.wf_mk, State.wf_fold, State.waiting_mk, State.waiting_fold, *]
  clear_value v0
  have h_v1 : State.wf v1 = true := by subst v1; simp (maxDischargeDepth := 60) [State.wf_mk, State.wf_fold, State.waiting_mk, State.waiting_fold, *]
  clear_value v1
  have h_v2 : State.wf v2 = true := by subst v2; simp (maxDischargeDepth := 60) [State.wf_mk, State.wf_fold, State.waiting_mk, State.waiting_fold, *]
  clear_value v2
  simp (maxDischargeDepth := 60) [State.wf_mk, State.wf_fold, State.waiting_mk, State.waiting_fold, *]
@[simp] theorem State.bootRun_pending {s img b result} : State.waiting (State.bootRun s img b result) = State.waiting s := by
  unfold State.bootRun
  extract_lets v0 v1 v2
  have h_v0 : State.waiting v0 = State.waiting s := by subst v0; simp (maxDischargeDepth := 60) [State.wf_mk, State.wf_fold, State.waiting_mk, State.waiting_fold, *]
  clear_value v0
  have h_v1 : State.waiting v1 = State.waiting s := by subst v1; simp (maxDischargeDepth := 60) [State.wf_mk, State.wf_fold, State.waiting_mk, State.waiting_fold, *]
  clear_value v1
  have h_v2 : State.waiting v2 = State.waiting s := by subst v2; simp (maxDischargeDepth := 60) [State.wf_mk, State.wf_fold, State.waiting_mk, State.waiting_fold, *]
  clear_value v2
  simp (maxDischargeDepth := 60) [State.wf_mk, State.wf_fold, State.waiting_mk, State.waiting_fold, *]
@[simp] theorem State.recoverPorts_wf {s img} (h : State.wf s = true) : State.wf (State.recoverPorts s img) = true := by
  unfold State.recoverPorts; simp +contextual (maxDischargeDepth := 60) [State.wf_mk, State.wf_fold, State.waiting_mk, State.waiting_fold, *]
@[simp] theorem State.recoverPorts_pending {s img} : State.waiting (State.recoverPorts s img) = State.waiting s := by
  unfold State.recoverPorts; simp (maxDischargeDepth := 60) [State.wf_mk, State.wf_fold, State.waiting_mk, State.waiting_fold, *]
@[simp] theorem State.recover_wf {s} (h : State.wf s = true) : State.wf (State.recover s) = true := by
  unfold State.recover; simp (maxDischargeDepth := 60) [State.wf_mk, State.wf_fold, State.waiting_mk, State.waiting_fold, *]
@[simp] theorem State.recover_pending {s} : State.waiting (State.recover s) = State.waiting s := by
  unfold State.recover; simp (maxDischargeDepth := 60) [State.wf_mk, State.wf_fold, State.waiting_mk, State.waiting_fold, *]
@[simp] theorem State.bootDone_wf {s img} (h : State.wf s = true) : State.wf (State.bootDone s img) = true := by
  unfold State.bootDone; dsimp only; (repeat' split) <;> simp +contextual (maxDischargeDepth := 60) [State.wf_mk, State.wf_fold, State.waiting_mk, State.waiting_fold, *]
@[simp] theorem State.bootDone_pending {s img} : State.waiting (State.bootDone s img) = State.waiting s := by
  unfold State.bootDone
  extract_lets v0
  have h_v0 : State.waiting v0 = State.waiting s := by subst v0; simp (maxDischargeDepth := 60) [State.wf_mk, State.wf_fold, State.waiting_mk, State.waiting_fold, *]
  clear_value v0
  ((repeat' split) <;> simp (maxDischargeDepth := 60) [State.wf_mk, State.wf_fold, State.waiting_mk, State.waiting_fold, *])

/-! Machine/Protect.lean -/

@[simp] theorem State.wearJudge_wf {s n} (h : State.wf s = true) : State.wf (State.wearJudge s n) = true := by
  unfold State.wearJudge; simp (maxDischargeDepth := 60) [State.wf_mk, State.wf_fold, State.waiting_mk, State.waiting_fold, *]
@[simp] theorem State.wearJudge_pending {s n} : State.waiting (State.wearJudge s n) = State.waiting s := by
  unfold State.wearJudge; simp (maxDischargeDepth := 60) [State.wf_mk, State.wf_fold, State.waiting_mk, State.waiting_fold, *]
@[simp] theorem State.ctSample_wf {s n r w ip sat} (h : State.wf s = true) : State.wf (State.ctSample s n r w ip sat) = true := by
  unfold State.ctSample; simp (maxDischargeDepth := 60) [State.wf_mk, State.wf_fold, State.waiting_mk, State.waiting_fold, *]
@[simp] theorem State.ctSample_pending {s n r w ip sat} : State.waiting (State.ctSample s n r w ip sat) = State.waiting s := by
  unfold State.ctSample; simp (maxDischargeDepth := 60) [State.wf_mk, State.wf_fold, State.waiting_mk, State.waiting_fold, *]
@[simp] theorem State.faultClear_wf {s n val} (h : State.wf s = true) : State.wf (State.faultClear s n val) = true := by
  unfold State.faultClear
  extract_lets v0 v1 v2 v3 v4
  clear_value v0
  clear_value v1
  have h_v2 : State.wf v2 = true := by subst v2; simp (maxDischargeDepth := 60) [State.wf_mk, State.wf_fold, State.waiting_mk, State.waiting_fold, *]
  clear_value v2
  have h_v3 : State.wf v3 = true := by subst v3; simp (maxDischargeDepth := 60) [State.wf_mk, State.wf_fold, State.waiting_mk, State.waiting_fold, *]
  clear_value v3
  have h_v4 : State.wf v4 = true := by subst v4; simp (maxDischargeDepth := 60) [State.wf_mk, State.wf_fold, State.waiting_mk, State.waiting_fold, *]
  clear_value v4
  simp (maxDischargeDepth := 60) [State.wf_mk, State.wf_fold, State.waiting_mk, State.waiting_fold, *]
@[simp] theorem State.faultClear_pending {s n val} : State.waiting (State.faultClear s n val) = State.waiting s := by
  unfold State.faultClear
  extract_lets v0 v1 v2 v3 v4
  clear_value v0
  clear_value v1
  have h_v2 : State.waiting v2 = State.waiting s := by subst v2; simp (maxDischargeDepth := 60) [State.wf_mk, State.wf_fold, State.waiting_mk, State.waiting_fold, *]
  clear_value v2
  have h_v3 : State.waiting v3 = State.waiting s := by subst v3; simp (maxDischargeDepth := 60) [State.wf_mk, State.wf_fold, State.waiting_mk, State.waiting_fold, *]
  clear_value v3
  have h_v4 : State.waiting v4 = State.waiting s := by subst v4; simp (maxDischargeDepth := 60) [State.wf_mk, State.wf_fold, State.waiting_mk, State.waiting_fold, *]
  clear_value v4
  simp (maxDischargeDepth := 60) [State.wf_mk, State.wf_fold, State.waiting_mk, State.waiting_fold, *]
@[simp] theorem State.protBoundary_wf {s n} (h : State.wf s = true) : State.wf (State.protBoundary s n) = true := by
  unfold State.protBoundary
  extract_lets v0 v1 v2 v3 v4 v5 v6 v7 v8 v9 v10
  clear_value v0
  clear_value v1
  clear_value v2
  clear_value v3
  clear_value v4
  clear_value v5
  clear_value v6
  clear_value v7
  have h_v8 : State.wf v8 = true := by subst v8; simp (maxDischargeDepth := 60) [State.wf_mk, State.wf_fold, State.waiting_mk, State.waiting_fold, *]
  clear_value v8
  have h_v9 : State.wf v9 = true := by subst v9; simp (maxDischargeDepth := 60) [State.wf_mk, State.wf_fold, State.waiting_mk, State.waiting_fold, *]
  clear_value v9
  have h_v10 : State.wf v10 = true := by subst v10; simp (maxDischargeDepth := 60) [State.wf_mk, State.wf_fold, State.waiting_mk, State.waiting_fold, *]
  clear_value v10
  simp (maxDischargeDepth := 60) [State.wf_mk, State.wf_fold, State.waiting_mk, State.waiting_fold, *]
@[simp] theorem State.protBoundary_pending {s n} : State.waiting (State.protBoundary s n) = State.waiting s := by
  unfold State.protBoundary
  extract_lets v0 v1 v2 v3 v4 v5 v6 v7 v8 v9 v10
  clear_value v0
  clear_value v1
  clear_value v2
  clear_value v3
  clear_value v4
  clear_value v5
  clear_value v6
  clear_value v7
  have h_v8 : State.waiting v8 = State.waiting s := by subst v8; simp (maxDischargeDepth := 60) [State.wf_mk, State.wf_fold, State.waiting_mk, State.waiting_fold, *]
  clear_value v8
  have h_v9 : State.waiting v9 = State.waiting s := by subst v9; simp (maxDischargeDepth := 60) [State.wf_mk, State.wf_fold, State.waiting_mk, State.waiting_fold, *]
  clear_value v9
  have h_v10 : State.waiting v10 = State.waiting s := by subst v10; simp (maxDischargeDepth := 60) [State.wf_mk, State.wf_fold, State.waiting_mk, State.waiting_fold, *]
  clear_value v10
  simp (maxDischargeDepth := 60) [State.wf_mk, State.wf_fold, State.waiting_mk, State.waiting_fold, *]

/-! Machine/Maint.lean -/

@[simp] theorem State.stopRuns_wf {s} (h : State.wf s = true) : State.wf (State.stopRuns s) = true := by
  unfold State.stopRuns; simp +contextual (maxDischargeDepth := 60) [State.wf_mk, State.wf_fold, State.waiting_mk, State.waiting_fold, *]
@[simp] theorem State.stopRuns_pending {s} : State.waiting (State.stopRuns s) = State.waiting s := by
  unfold State.stopRuns; simp (maxDischargeDepth := 60) [State.wf_mk, State.wf_fold, State.waiting_mk, State.waiting_fold, *]
@[simp] theorem State.restart_wf {s cause} (h : State.wf s = true) : State.wf (State.restart s cause) = true := by
  unfold State.restart; simp (maxDischargeDepth := 60) [State.wf_mk, State.wf_fold, State.waiting_mk, State.waiting_fold, *]
@[simp] theorem State.restart_pending {s cause} : State.waiting (State.restart s cause) = State.waiting s := by
  unfold State.restart; simp (maxDischargeDepth := 60) [State.wf_mk, State.wf_fold, State.waiting_mk, State.waiting_fold, *]
@[simp] theorem State.restartKey_wf {s key} (h : State.wf s = true) : State.wf (State.restartKey s key) = true := by
  unfold State.restartKey; simp (maxDischargeDepth := 60) [State.wf_mk, State.wf_fold, State.waiting_mk, State.waiting_fold, *]
@[simp] theorem State.restartKey_pending {s key} : State.waiting (State.restartKey s key) = State.waiting s := by
  unfold State.restartKey; simp (maxDischargeDepth := 60) [State.wf_mk, State.wf_fold, State.waiting_mk, State.waiting_fold, *]
@[simp] theorem State.restartEnd_wf {s bankA bankB t0} (h : State.wf s = true) : State.wf (State.restartEnd s bankA bankB t0) = true := by
  unfold State.restartEnd; dsimp only; (repeat' split) <;> simp +contextual (maxDischargeDepth := 60) [State.wf_mk, State.wf_fold, State.waiting_mk, State.waiting_fold, *]
@[simp] theorem State.restartEnd_pending {s bankA bankB t0} : State.waiting (State.restartEnd s bankA bankB t0) = State.waiting s := by
  unfold State.restartEnd; dsimp only; (repeat' split) <;> simp +contextual (maxDischargeDepth := 60) [State.wf_mk, State.wf_fold, State.waiting_mk, State.waiting_fold, *]
@[simp] theorem State.loseChan_wf {s n} (h : State.wf s = true) : State.wf (State.loseChan s n) = true := by
  unfold State.loseChan; simp (maxDischargeDepth := 60) [State.wf_mk, State.wf_fold, State.waiting_mk, State.waiting_fold, *]
@[simp] theorem State.loseChan_pending {s n} : State.waiting (State.loseChan s n) = State.waiting s := by
  unfold State.loseChan; simp (maxDischargeDepth := 60) [State.wf_mk, State.wf_fold, State.waiting_mk, State.waiting_fold, *]
@[simp] theorem State.cardLost_wf {s k} (h : State.wf s = true) : State.wf (State.cardLost s k) = true := by
  unfold State.cardLost; simp +contextual (maxDischargeDepth := 60) [State.wf_mk, State.wf_fold, State.waiting_mk, State.waiting_fold, *]
@[simp] theorem State.cardLost_pending {s k} : State.waiting (State.cardLost s k) = State.waiting s := by
  unfold State.cardLost; simp (maxDischargeDepth := 60) [State.wf_mk, State.wf_fold, State.waiting_mk, State.waiting_fold, *]
@[simp] theorem State.returnChan_wf {s n} (h : State.wf s = true) : State.wf (State.returnChan s n) = true := by
  unfold State.returnChan
  extract_lets v0 v1 v2 v3
  clear_value v0
  have h_v1 : State.wf v1 = true := by subst v1; simp (maxDischargeDepth := 60) [State.wf_mk, State.wf_fold, State.waiting_mk, State.waiting_fold, *]
  clear_value v1
  have h_v2 : State.wf v2 = true := by subst v2; simp (maxDischargeDepth := 60) [State.wf_mk, State.wf_fold, State.waiting_mk, State.waiting_fold, *]
  clear_value v2
  have h_v3 : State.wf v3 = true := by subst v3; simp (maxDischargeDepth := 60) [State.wf_mk, State.wf_fold, State.waiting_mk, State.waiting_fold, *]
  clear_value v3
  simp (maxDischargeDepth := 60) [State.wf_mk, State.wf_fold, State.waiting_mk, State.waiting_fold, *]
@[simp] theorem State.returnChan_pending {s n} : State.waiting (State.returnChan s n) = State.waiting s := by
  unfold State.returnChan
  extract_lets v0 v1 v2 v3
  clear_value v0
  have h_v1 : State.waiting v1 = State.waiting s := by subst v1; simp (maxDischargeDepth := 60) [State.wf_mk, State.wf_fold, State.waiting_mk, State.waiting_fold, *]
  clear_value v1
  have h_v2 : State.waiting v2 = State.waiting s := by subst v2; simp (maxDischargeDepth := 60) [State.wf_mk, State.wf_fold, State.waiting_mk, State.waiting_fold, *]
  clear_value v2
  have h_v3 : State.waiting v3 = State.waiting s := by subst v3; simp (maxDischargeDepth := 60) [State.wf_mk, State.wf_fold, State.waiting_mk, State.waiting_fold, *]
  clear_value v3
  simp (maxDischargeDepth := 60) [State.wf_mk, State.wf_fold, State.waiting_mk, State.waiting_fold, *]

/-! Machine/Host.lean -/

@[simp] theorem State.latchTrec_wf {s n} (h : State.wf s = true) : State.wf (State.latchTrec s n) = true := by
  unfold State.latchTrec; simp (maxDischargeDepth := 60) [State.wf_mk, State.wf_fold, State.waiting_mk, State.waiting_fold, *]
@[simp] theorem State.latchTrec_pending {s n} : State.waiting (State.latchTrec s n) = State.waiting s := by
  unfold State.latchTrec; simp (maxDischargeDepth := 60) [State.wf_mk, State.wf_fold, State.waiting_mk, State.waiting_fold, *]
@[simp] theorem State.regRead_wf {s r} (h : State.wf s = true) : State.wf (State.regRead s r).2 = true := by
  unfold State.regRead; (repeat' split) <;> simp (maxDischargeDepth := 60) [State.wf_mk, State.wf_fold, State.waiting_mk, State.waiting_fold, *]
@[simp] theorem State.regRead_pending {s r} : State.waiting (State.regRead s r).2 = State.waiting s := by
  unfold State.regRead; (repeat' split) <;> simp (maxDischargeDepth := 60) [State.wf_mk, State.wf_fold, State.waiting_mk, State.waiting_fold, *]
@[simp] theorem State.hostRead_wf {s a} (h : State.wf s = true) : State.wf (State.hostRead s a).2.2 = true := by
  unfold State.hostRead; (repeat' split) <;> simp (maxDischargeDepth := 60) [State.wf_mk, State.wf_fold, State.waiting_mk, State.waiting_fold, *]
@[simp] theorem State.hostRead_pending {s a} : State.waiting (State.hostRead s a).2.2 = State.waiting s := by
  unfold State.hostRead; (repeat' split) <;> simp (maxDischargeDepth := 60) [State.wf_mk, State.wf_fold, State.waiting_mk, State.waiting_fold, *]
@[simp] theorem State.plainWrite_wf {s r val} (h : State.wf s = true) : State.wf (State.plainWrite s r val) = true := by
  unfold State.plainWrite
  extract_lets v0
  have h_v0 : State.wf v0 = true := by subst v0; simp (maxDischargeDepth := 60) [State.wf_mk, State.wf_fold, State.waiting_mk, State.waiting_fold, *]
  clear_value v0
  simp (maxDischargeDepth := 60) [State.wf_mk, State.wf_fold, State.waiting_mk, State.waiting_fold, *]
@[simp] theorem State.plainWrite_pending {s r val} : State.waiting (State.plainWrite s r val) = State.waiting s := by
  unfold State.plainWrite
  extract_lets v0
  have h_v0 : State.waiting v0 = State.waiting s := by subst v0; simp (maxDischargeDepth := 60) [State.wf_mk, State.wf_fold, State.waiting_mk, State.waiting_fold, *]
  clear_value v0
  simp (maxDischargeDepth := 60) [State.wf_mk, State.wf_fold, State.waiting_mk, State.waiting_fold, *]
@[simp] theorem State.measWrite_wf {s n val} (h : State.wf s = true) : State.wf (State.measWrite s n val) = true := by
  unfold State.measWrite; simp (maxDischargeDepth := 60) [State.wf_mk, State.wf_fold, State.waiting_mk, State.waiting_fold, *]
@[simp] theorem State.measWrite_pending {s n val} : State.waiting (State.measWrite s n val) = State.waiting s := by
  unfold State.measWrite; simp (maxDischargeDepth := 60) [State.wf_mk, State.wf_fold, State.waiting_mk, State.waiting_fold, *]
@[simp] theorem State.safeWrite_wf {s val} (h : State.wf s = true) : State.wf (State.safeWrite s val) = true := by
  unfold State.safeWrite; (repeat' split) <;> simp (maxDischargeDepth := 60) [State.wf_mk, State.wf_fold, State.waiting_mk, State.waiting_fold, *]
@[simp] theorem State.safeWrite_pending {s val} : State.waiting (State.safeWrite s val) = State.waiting s := by
  unfold State.safeWrite; (repeat' split) <;> simp (maxDischargeDepth := 60) [State.wf_mk, State.wf_fold, State.waiting_mk, State.waiting_fold, *]
@[simp] theorem State.pendWrite_wf {s w val} (h : State.wf s = true) : State.wf (State.pendWrite s w val) = true := by
  unfold State.pendWrite
  extract_lets v0
  have h_v0 : State.wf v0 = true := by subst v0; simp (maxDischargeDepth := 60) [State.wf_mk, State.wf_fold, State.waiting_mk, State.waiting_fold, *]
  clear_value v0
  simp (maxDischargeDepth := 60) [State.wf_mk, State.wf_fold, State.waiting_mk, State.waiting_fold, *]
@[simp] theorem State.pendWrite_pending {s w val} : State.waiting (State.pendWrite s w val) = State.waiting s := by
  unfold State.pendWrite
  extract_lets v0
  have h_v0 : State.waiting v0 = State.waiting s := by subst v0; simp (maxDischargeDepth := 60) [State.wf_mk, State.wf_fold, State.waiting_mk, State.waiting_fold, *]
  clear_value v0
  simp (maxDischargeDepth := 60) [State.wf_mk, State.wf_fold, State.waiting_mk, State.waiting_fold, *]
@[simp] theorem State.sqCmd_wf {s val} (h : State.wf s = true) : State.wf (State.sqCmd s val) = true := by
  unfold State.sqCmd; (repeat' split) <;> simp (maxDischargeDepth := 60) [State.wf_mk, State.wf_fold, State.waiting_mk, State.waiting_fold, *]
@[simp] theorem State.sqCmd_pending {s val} : State.waiting (State.sqCmd s val) = State.waiting s := by
  unfold State.sqCmd; (repeat' split) <;> simp (maxDischargeDepth := 60) [State.wf_mk, State.wf_fold, State.waiting_mk, State.waiting_fold, *]
@[simp] theorem State.ppsWrite_wf {s val} (h : State.wf s = true) : State.wf (State.ppsWrite s val) = true := by
  unfold State.ppsWrite
  extract_lets v0
  have h_v0 : State.wf v0 = true := by subst v0; simp (maxDischargeDepth := 60) [State.wf_mk, State.wf_fold, State.waiting_mk, State.waiting_fold, *]
  clear_value v0
  simp (maxDischargeDepth := 60) [State.wf_mk, State.wf_fold, State.waiting_mk, State.waiting_fold, *]
@[simp] theorem State.ppsWrite_pending {s val} : State.waiting (State.ppsWrite s val) = State.waiting s := by
  unfold State.ppsWrite
  extract_lets v0
  have h_v0 : State.waiting v0 = State.waiting s := by subst v0; simp (maxDischargeDepth := 60) [State.wf_mk, State.wf_fold, State.waiting_mk, State.waiting_fold, *]
  clear_value v0
  simp (maxDischargeDepth := 60) [State.wf_mk, State.wf_fold, State.waiting_mk, State.waiting_fold, *]
@[simp] theorem State.compatWrite_wf {s val} (h : State.wf s = true) : State.wf (State.compatWrite s val) = true := by
  unfold State.compatWrite; simp (maxDischargeDepth := 60) [State.wf_mk, State.wf_fold, State.waiting_mk, State.waiting_fold, *]
@[simp] theorem State.compatWrite_pending {s val} : State.waiting (State.compatWrite s val) = State.waiting s := by
  unfold State.compatWrite; simp (maxDischargeDepth := 60) [State.wf_mk, State.wf_fold, State.waiting_mk, State.waiting_fold, *]
@[simp] theorem State.rfltWrite_wf {s e val} (h : State.wf s = true) : State.wf (State.rfltWrite s e val) = true := by
  unfold State.rfltWrite; simp (maxDischargeDepth := 60) [State.wf_mk, State.wf_fold, State.waiting_mk, State.waiting_fold, *]
@[simp] theorem State.rfltWrite_pending {s e val} : State.waiting (State.rfltWrite s e val) = State.waiting s := by
  unfold State.rfltWrite; simp (maxDischargeDepth := 60) [State.wf_mk, State.wf_fold, State.waiting_mk, State.waiting_fold, *]
@[simp] theorem State.fcfgWrite_wf {s f val} (h : State.wf s = true) : State.wf (State.fcfgWrite s f val) = true := by
  unfold State.fcfgWrite
  extract_lets v0
  have h_v0 : State.wf v0 = true := by subst v0; simp (maxDischargeDepth := 60) [State.wf_mk, State.wf_fold, State.waiting_mk, State.waiting_fold, *]
  clear_value v0
  simp (maxDischargeDepth := 60) [State.wf_mk, State.wf_fold, State.waiting_mk, State.waiting_fold, *]
@[simp] theorem State.fcfgWrite_pending {s f val} : State.waiting (State.fcfgWrite s f val) = State.waiting s := by
  unfold State.fcfgWrite
  extract_lets v0
  have h_v0 : State.waiting v0 = State.waiting s := by subst v0; simp (maxDischargeDepth := 60) [State.wf_mk, State.wf_fold, State.waiting_mk, State.waiting_fold, *]
  clear_value v0
  simp (maxDischargeDepth := 60) [State.wf_mk, State.wf_fold, State.waiting_mk, State.waiting_fold, *]
@[simp] theorem State.cmaxWrite_wf {s val} (h : State.wf s = true) : State.wf (State.cmaxWrite s val) = true := by
  unfold State.cmaxWrite
  extract_lets v0
  have h_v0 : State.wf v0 = true := by subst v0; simp (maxDischargeDepth := 60) [State.wf_mk, State.wf_fold, State.waiting_mk, State.waiting_fold, *]
  clear_value v0
  simp (maxDischargeDepth := 60) [State.wf_mk, State.wf_fold, State.waiting_mk, State.waiting_fold, *]
@[simp] theorem State.cmaxWrite_pending {s val} : State.waiting (State.cmaxWrite s val) = State.waiting s := by
  unfold State.cmaxWrite
  extract_lets v0
  have h_v0 : State.waiting v0 = State.waiting s := by subst v0; simp (maxDischargeDepth := 60) [State.wf_mk, State.wf_fold, State.waiting_mk, State.waiting_fold, *]
  clear_value v0
  simp (maxDischargeDepth := 60) [State.wf_mk, State.wf_fold, State.waiting_mk, State.waiting_fold, *]
@[simp] theorem State.wdtWrite_wf {s val} (h : State.wf s = true) : State.wf (State.wdtWrite s val) = true := by
  unfold State.wdtWrite; simp (maxDischargeDepth := 60) [State.wf_mk, State.wf_fold, State.waiting_mk, State.waiting_fold, *]
@[simp] theorem State.wdtWrite_pending {s val} : State.waiting (State.wdtWrite s val) = State.waiting s := by
  unfold State.wdtWrite; simp (maxDischargeDepth := 60) [State.wf_mk, State.wf_fold, State.waiting_mk, State.waiting_fold, *]
@[simp] theorem State.restoreWrite_wf {s w val} (h : State.wf s = true) : State.wf (State.restoreWrite s w val) = true := by
  unfold State.restoreWrite; (repeat' split) <;> simp (maxDischargeDepth := 60) [State.wf_mk, State.wf_fold, State.waiting_mk, State.waiting_fold, *]
@[simp] theorem State.restoreWrite_pending {s w val} : State.waiting (State.restoreWrite s w val) = State.waiting s := by
  unfold State.restoreWrite; (repeat' split) <;> simp (maxDischargeDepth := 60) [State.wf_mk, State.wf_fold, State.waiting_mk, State.waiting_fold, *]
@[simp] theorem State.axCtlWrite_wf {s j val} (h : State.wf s = true) : State.wf (State.axCtlWrite s j val) = true := by
  unfold State.axCtlWrite; (repeat' split) <;> simp (maxDischargeDepth := 60) [State.wf_mk, State.wf_fold, State.waiting_mk, State.waiting_fold, *]
@[simp] theorem State.axCtlWrite_pending {s j val} : State.waiting (State.axCtlWrite s j val) = State.waiting s := by
  unfold State.axCtlWrite; (repeat' split) <;> simp (maxDischargeDepth := 60) [State.wf_mk, State.wf_fold, State.waiting_mk, State.waiting_fold, *]
@[simp] theorem State.axCfgWrite_wf {s j r val} (h : State.wf s = true) : State.wf (State.axCfgWrite s j r val) = true := by
  unfold State.axCfgWrite
  extract_lets v0 v1
  have h_v0 : State.wf v0 = true := by subst v0; simp (maxDischargeDepth := 60) [State.wf_mk, State.wf_fold, State.waiting_mk, State.waiting_fold, *]
  clear_value v0
  clear_value v1
  simp (maxDischargeDepth := 60) [State.wf_mk, State.wf_fold, State.waiting_mk, State.waiting_fold, *]
@[simp] theorem State.axCfgWrite_pending {s j r val} : State.waiting (State.axCfgWrite s j r val) = State.waiting s := by
  unfold State.axCfgWrite
  extract_lets v0 v1
  have h_v0 : State.waiting v0 = State.waiting s := by subst v0; simp (maxDischargeDepth := 60) [State.wf_mk, State.wf_fold, State.waiting_mk, State.waiting_fold, *]
  clear_value v0
  clear_value v1
  simp (maxDischargeDepth := 60) [State.wf_mk, State.wf_fold, State.waiting_mk, State.waiting_fold, *]
@[simp] theorem State.alCtlWrite_wf {s k val} (h : State.wf s = true) : State.wf (State.alCtlWrite s k val) = true := by
  unfold State.alCtlWrite; (repeat' split) <;> simp (maxDischargeDepth := 60) [State.wf_mk, State.wf_fold, State.waiting_mk, State.waiting_fold, *]
@[simp] theorem State.alCtlWrite_pending {s k val} : State.waiting (State.alCtlWrite s k val) = State.waiting s := by
  unfold State.alCtlWrite; (repeat' split) <;> simp (maxDischargeDepth := 60) [State.wf_mk, State.wf_fold, State.waiting_mk, State.waiting_fold, *]
@[simp] theorem State.devWrite_wf {s k val} (h : State.wf s = true) : State.wf (State.devWrite s k val) = true := by
  unfold State.devWrite; dsimp only; (repeat' split) <;> simp +contextual (maxDischargeDepth := 60) [State.wf_mk, State.wf_fold, State.waiting_mk, State.waiting_fold, *]
@[simp] theorem State.devWrite_pending {s k val} : State.waiting (State.devWrite s k val) = State.waiting s := by
  unfold State.devWrite; dsimp only; (repeat' split) <;> simp +contextual (maxDischargeDepth := 60) [State.wf_mk, State.wf_fold, State.waiting_mk, State.waiting_fold, *]
@[simp] theorem State.nzoffWrite_wf {s val} (h : State.wf s = true) : State.wf (State.nzoffWrite s val) = true := by
  unfold State.nzoffWrite; (repeat' split) <;> simp (maxDischargeDepth := 60) [State.wf_mk, State.wf_fold, State.waiting_mk, State.waiting_fold, *]
@[simp] theorem State.nzoffWrite_pending {s val} : State.waiting (State.nzoffWrite s val) = State.waiting s := by
  unfold State.nzoffWrite; (repeat' split) <;> simp (maxDischargeDepth := 60) [State.wf_mk, State.wf_fold, State.waiting_mk, State.waiting_fold, *]
@[simp] theorem State.hlCfgWrite_wf {s val} (h : State.wf s = true) : State.wf (State.hlCfgWrite s val) = true := by
  unfold State.hlCfgWrite
  extract_lets v0
  have h_v0 : State.wf v0 = true := by subst v0; simp (maxDischargeDepth := 60) [State.wf_mk, State.wf_fold, State.waiting_mk, State.waiting_fold, *]
  clear_value v0
  simp (maxDischargeDepth := 60) [State.wf_mk, State.wf_fold, State.waiting_mk, State.waiting_fold, *]
@[simp] theorem State.hlCfgWrite_pending {s val} : State.waiting (State.hlCfgWrite s val) = State.waiting s := by
  unfold State.hlCfgWrite
  extract_lets v0
  have h_v0 : State.waiting v0 = State.waiting s := by subst v0; simp (maxDischargeDepth := 60) [State.wf_mk, State.wf_fold, State.waiting_mk, State.waiting_fold, *]
  clear_value v0
  simp (maxDischargeDepth := 60) [State.wf_mk, State.wf_fold, State.waiting_mk, State.waiting_fold, *]
@[simp] theorem State.vtCtlWrite_wf {s val} (h : State.wf s = true) : State.wf (State.vtCtlWrite s val) = true := by
  unfold State.vtCtlWrite; (repeat' split) <;> simp (maxDischargeDepth := 60) [State.wf_mk, State.wf_fold, State.waiting_mk, State.waiting_fold, *]
@[simp] theorem State.vtCtlWrite_pending {s val} : State.waiting (State.vtCtlWrite s val) = State.waiting s := by
  unfold State.vtCtlWrite; (repeat' split) <;> simp (maxDischargeDepth := 60) [State.wf_mk, State.wf_fold, State.waiting_mk, State.waiting_fold, *]
@[simp] theorem State.cctlWrite_wf {s val} (h : State.wf s = true) : State.wf (State.cctlWrite s val) = true := by
  unfold State.cctlWrite; (repeat' split) <;> simp (maxDischargeDepth := 60) [State.wf_mk, State.wf_fold, State.waiting_mk, State.waiting_fold, *]
@[simp] theorem State.cctlWrite_pending {s val} : State.waiting (State.cctlWrite s val) = State.waiting s := by
  unfold State.cctlWrite; (repeat' split) <;> simp (maxDischargeDepth := 60) [State.wf_mk, State.wf_fold, State.waiting_mk, State.waiting_fold, *]
@[simp] theorem State.cslotWrite_wf {s k val} (h : State.wf s = true) : State.wf (State.cslotWrite s k val) = true := by
  unfold State.cslotWrite; (repeat' split) <;> simp (maxDischargeDepth := 60) [State.wf_mk, State.wf_fold, State.waiting_mk, State.waiting_fold, *]
@[simp] theorem State.cslotWrite_pending {s k val} : State.waiting (State.cslotWrite s k val) = State.waiting s := by
  unfold State.cslotWrite; (repeat' split) <;> simp (maxDischargeDepth := 60) [State.wf_mk, State.wf_fold, State.waiting_mk, State.waiting_fold, *]
@[simp] theorem State.lnStatWrite_wf {s val} (h : State.wf s = true) : State.wf (State.lnStatWrite s val) = true := by
  unfold State.lnStatWrite; (repeat' split) <;> simp (maxDischargeDepth := 60) [State.wf_mk, State.wf_fold, State.waiting_mk, State.waiting_fold, *]
@[simp] theorem State.lnStatWrite_pending {s val} : State.waiting (State.lnStatWrite s val) = State.waiting s := by
  unfold State.lnStatWrite; (repeat' split) <;> simp (maxDischargeDepth := 60) [State.wf_mk, State.wf_fold, State.waiting_mk, State.waiting_fold, *]
@[simp] theorem State.adoptWrite_wf {s val} (h : State.wf s = true) : State.wf (State.adoptWrite s val) = true := by
  unfold State.adoptWrite; (repeat' split) <;> simp (maxDischargeDepth := 60) [State.wf_mk, State.wf_fold, State.waiting_mk, State.waiting_fold, *]
@[simp] theorem State.adoptWrite_pending {s val} : State.waiting (State.adoptWrite s val) = State.waiting s := by
  unfold State.adoptWrite; (repeat' split) <;> simp (maxDischargeDepth := 60) [State.wf_mk, State.wf_fold, State.waiting_mk, State.waiting_fold, *]
@[simp] theorem State.calWrite_wf {s val} (h : State.wf s = true) : State.wf (State.calWrite s val) = true := by
  unfold State.calWrite; simp (maxDischargeDepth := 60) [State.wf_mk, State.wf_fold, State.waiting_mk, State.waiting_fold, *]
@[simp] theorem State.calWrite_pending {s val} : State.waiting (State.calWrite s val) = State.waiting s := by
  unfold State.calWrite; simp (maxDischargeDepth := 60) [State.wf_mk, State.wf_fold, State.waiting_mk, State.waiting_fold, *]
@[simp] theorem State.csCtlWrite_wf {s val} (h : State.wf s = true) : State.wf (State.csCtlWrite s val) = true := by
  unfold State.csCtlWrite
  extract_lets v
  have hv : State.wf v = true := by subst v; split <;> simp +contextual (maxDischargeDepth := 60) [State.wf_mk, State.wf_fold, State.waiting_mk, State.waiting_fold, *]
  clear_value v
  split
  · exact hv
  · refine State.writeReg_wf ?_
    split
    · exact State.rotNow_wf hv
    · exact hv
@[simp] theorem State.csCtlWrite_pending {s val} : State.waiting (State.csCtlWrite s val) = State.waiting s := by
  unfold State.csCtlWrite
  extract_lets v
  have hv : State.waiting v = State.waiting s := by subst v; split <;> simp +contextual (maxDischargeDepth := 60) [State.wf_mk, State.wf_fold, State.waiting_mk, State.waiting_fold, *]
  clear_value v
  split
  · exact hv
  · rw [State.writeReg_pending]
    split
    · rw [State.rotNow_pending, hv]
    · exact hv
@[simp] theorem State.shCmdWrite_wf {s val} (h : State.wf s = true) : State.wf (State.shCmdWrite s val) = true := by
  unfold State.shCmdWrite; (repeat' split) <;> simp (maxDischargeDepth := 60) [State.wf_mk, State.wf_fold, State.waiting_mk, State.waiting_fold, *]
@[simp] theorem State.shCmdWrite_pending {s val} : State.waiting (State.shCmdWrite s val) = State.waiting s := by
  unfold State.shCmdWrite; (repeat' split) <;> simp (maxDischargeDepth := 60) [State.wf_mk, State.wf_fold, State.waiting_mk, State.waiting_fold, *]
@[simp] theorem State.chCmdWrite_wf {s n val} (h : State.wf s = true) : State.wf (State.chCmdWrite s n val) = true := by
  unfold State.chCmdWrite; (repeat' split) <;> simp (maxDischargeDepth := 60) [State.wf_mk, State.wf_fold, State.waiting_mk, State.waiting_fold, *]
@[simp] theorem State.chCmdWrite_pending {s n val} : State.waiting (State.chCmdWrite s n val) = State.waiting s := by
  unfold State.chCmdWrite; (repeat' split) <;> simp (maxDischargeDepth := 60) [State.wf_mk, State.wf_fold, State.waiting_mk, State.waiting_fold, *]
@[simp] theorem State.chGWrite_wf {s n i val} (h : State.wf s = true) : State.wf (State.chGWrite s n i val) = true := by
  unfold State.chGWrite; simp (maxDischargeDepth := 60) [State.wf_mk, State.wf_fold, State.waiting_mk, State.waiting_fold, *]
@[simp] theorem State.chGWrite_pending {s n i val} : State.waiting (State.chGWrite s n i val) = State.waiting s := by
  unfold State.chGWrite; simp (maxDischargeDepth := 60) [State.wf_mk, State.wf_fold, State.waiting_mk, State.waiting_fold, *]
@[simp] theorem State.csGWrite_wf {s i val} (h : State.wf s = true) : State.wf (State.csGWrite s i val) = true := by
  unfold State.csGWrite; simp (maxDischargeDepth := 60) [State.wf_mk, State.wf_fold, State.waiting_mk, State.waiting_fold, *]
@[simp] theorem State.csGWrite_pending {s i val} : State.waiting (State.csGWrite s i val) = State.waiting s := by
  unfold State.csGWrite; simp (maxDischargeDepth := 60) [State.wf_mk, State.wf_fold, State.waiting_mk, State.waiting_fold, *]
@[simp] theorem State.pcntWrite_wf {s n val} (h : State.wf s = true) : State.wf (State.pcntWrite s n val) = true := by
  unfold State.pcntWrite; simp (maxDischargeDepth := 60) [State.wf_mk, State.wf_fold, State.waiting_mk, State.waiting_fold, *]
@[simp] theorem State.pcntWrite_pending {s n val} : State.waiting (State.pcntWrite s n val) = State.waiting s := by
  unfold State.pcntWrite; simp (maxDischargeDepth := 60) [State.wf_mk, State.wf_fold, State.waiting_mk, State.waiting_fold, *]
@[simp] theorem State.vtQueueWrite_wf {s val} (h : State.wf s = true) : State.wf (State.vtQueueWrite s val) = true := by
  unfold State.vtQueueWrite; simp (maxDischargeDepth := 60) [State.wf_mk, State.wf_fold, State.waiting_mk, State.waiting_fold, *]
@[simp] theorem State.vtQueueWrite_pending {s val} : State.waiting (State.vtQueueWrite s val) = State.waiting s := by
  unfold State.vtQueueWrite; simp (maxDischargeDepth := 60) [State.wf_mk, State.wf_fold, State.waiting_mk, State.waiting_fold, *]
@[simp] theorem State.lowWrite_wf {s r val} (h : State.wf s = true) : State.wf (State.lowWrite s r val) = true := by
  unfold State.lowWrite; simp (maxDischargeDepth := 60) [State.wf_mk, State.wf_fold, State.waiting_mk, State.waiting_fold, *]
@[simp] theorem State.lowWrite_pending {s r val} : State.waiting (State.lowWrite s r val) = State.waiting s := by
  unfold State.lowWrite; simp (maxDischargeDepth := 60) [State.wf_mk, State.wf_fold, State.waiting_mk, State.waiting_fold, *]
@[simp] theorem State.highWrite_wf {s n energy val} (h : State.wf s = true) : State.wf (State.highWrite s n energy val) = true := by
  unfold State.highWrite; simp (maxDischargeDepth := 60) [State.wf_mk, State.wf_fold, State.waiting_mk, State.waiting_fold, *]
@[simp] theorem State.highWrite_pending {s n energy val} : State.waiting (State.highWrite s n energy val) = State.waiting s := by
  unfold State.highWrite; simp (maxDischargeDepth := 60) [State.wf_mk, State.wf_fold, State.waiting_mk, State.waiting_fold, *]
@[simp] theorem State.regWrite_wf {s who r val} (h : State.wf s = true) : State.wf (State.regWrite s who r val) = true := by
  unfold State.regWrite
  split <;> simp +contextual (maxDischargeDepth := 60) [State.wf_mk, State.wf_fold, State.waiting_mk, State.waiting_fold, *]
@[simp] theorem State.regWrite_pending {s who r val} : State.waiting (State.regWrite s who r val) = State.waiting s := by
  unfold State.regWrite
  split <;> simp +contextual (maxDischargeDepth := 60) [State.wf_mk, State.wf_fold, State.waiting_mk, State.waiting_fold, *]
@[simp] theorem State.hostWrite_wf {s who a val} (h : State.wf s = true) : State.wf (State.hostWrite s who a val) = true := by
  unfold State.hostWrite; (repeat' split) <;> simp (maxDischargeDepth := 60) [State.wf_mk, State.wf_fold, State.waiting_mk, State.waiting_fold, *]
@[simp] theorem State.hostWrite_pending {s who a val} : State.waiting (State.hostWrite s who a val) = State.waiting s := by
  unfold State.hostWrite; (repeat' split) <;> simp (maxDischargeDepth := 60) [State.wf_mk, State.wf_fold, State.waiting_mk, State.waiting_fold, *]
@[simp] theorem State.readAnswer_wf {s a} (h : State.wf s = true) : State.wf (State.readAnswer s a) = true := by
  unfold State.readAnswer; simp (maxDischargeDepth := 60) [State.wf_mk, State.wf_fold, State.waiting_mk, State.waiting_fold, *]
@[simp] theorem State.readAnswer_pending {s a} : State.waiting (State.readAnswer s a) = State.waiting s := by
  unfold State.readAnswer; simp (maxDischargeDepth := 60) [State.wf_mk, State.wf_fold, State.waiting_mk, State.waiting_fold, *]

/-! Machine/TwoWire.lean -/

@[simp] theorem State.modTw_wf {s f} (h : State.wf s = true) : State.wf (State.modTw s f) = true := by
  unfold State.modTw; simp (maxDischargeDepth := 60) [State.wf_mk, State.wf_fold, State.waiting_mk, State.waiting_fold, *]
@[simp] theorem State.modTw_pending {s f} : State.waiting (State.modTw s f) = State.waiting s := by
  unfold State.modTw; simp (maxDischargeDepth := 60) [State.wf_mk, State.wf_fold, State.waiting_mk, State.waiting_fold, *]
@[simp] theorem State.tw1Write_wf {s body pec f} (h : State.wf s = true) (hf : ∀ t, State.wf t = true → State.wf (f t) = true) : State.wf (State.tw1Write s body pec f) = true := by
  unfold State.tw1Write; (repeat' split) <;> simp (maxDischargeDepth := 60) [State.wf_mk, State.wf_fold, State.waiting_mk, State.waiting_fold, *]
@[simp] theorem State.tw1Write_pending {s body pec f} (hf : ∀ t, State.waiting (f t) = State.waiting t) : State.waiting (State.tw1Write s body pec f) = State.waiting s := by
  unfold State.tw1Write; (repeat' split) <;> simp (maxDischargeDepth := 60) [State.wf_mk, State.wf_fold, State.waiting_mk, State.waiting_fold, *]
@[simp] theorem State.rmCap_wf {s val} (h : State.wf s = true) : State.wf (State.rmCap s val) = true := by
  unfold State.rmCap
  extract_lets v0 v1
  have h_v0 : State.wf v0 = true := by subst v0; simp (maxDischargeDepth := 60) [State.wf_mk, State.wf_fold, State.waiting_mk, State.waiting_fold, *]
  clear_value v0
  have h_v1 : State.wf v1 = true := by subst v1; simp (maxDischargeDepth := 60) [State.wf_mk, State.wf_fold, State.waiting_mk, State.waiting_fold, *]
  clear_value v1
  simp (maxDischargeDepth := 60) [State.wf_mk, State.wf_fold, State.waiting_mk, State.waiting_fold, *]
@[simp] theorem State.rmCap_pending {s val} : State.waiting (State.rmCap s val) = State.waiting s := by
  unfold State.rmCap
  extract_lets v0 v1
  have h_v0 : State.waiting v0 = State.waiting s := by subst v0; simp (maxDischargeDepth := 60) [State.wf_mk, State.wf_fold, State.waiting_mk, State.waiting_fold, *]
  clear_value v0
  have h_v1 : State.waiting v1 = State.waiting s := by subst v1; simp (maxDischargeDepth := 60) [State.wf_mk, State.wf_fold, State.waiting_mk, State.waiting_fold, *]
  clear_value v1
  simp (maxDischargeDepth := 60) [State.wf_mk, State.wf_fold, State.waiting_mk, State.waiting_fold, *]
@[simp] theorem State.regDone_wf {s st} (h : State.wf s = true) : State.wf (State.regDone s st) = true := by
  unfold State.regDone; simp (maxDischargeDepth := 60) [State.wf_mk, State.wf_fold, State.waiting_mk, State.waiting_fold, *]
@[simp] theorem State.regDone_pending {s st} : State.waiting (State.regDone s st) = State.waiting s := by
  unfold State.regDone; simp (maxDischargeDepth := 60) [State.wf_mk, State.wf_fold, State.waiting_mk, State.waiting_fold, *]
@[simp] theorem State.tw1RegWrite_wf {s val} (h : State.wf s = true) : State.wf (State.tw1RegWrite s val) = true := by
  unfold State.tw1RegWrite; simp (maxDischargeDepth := 60) [State.wf_mk, State.wf_fold, State.waiting_mk, State.waiting_fold, *]
@[simp] theorem State.tw1RegWrite_pending {s val} : State.waiting (State.tw1RegWrite s val) = State.waiting s := by
  unfold State.tw1RegWrite; simp (maxDischargeDepth := 60) [State.wf_mk, State.wf_fold, State.waiting_mk, State.waiting_fold, *]
@[simp] theorem State.notifySend_wf {s o rest ack} (h : State.wf s = true) : State.wf (State.notifySend s o rest ack) = true := by
  unfold State.notifySend
  extract_lets v0 v1
  have h_v0 : State.wf v0 = true := by subst v0; simp (maxDischargeDepth := 60) [State.wf_mk, State.wf_fold, State.waiting_mk, State.waiting_fold, *]
  clear_value v0
  clear_value v1
  ((repeat' split) <;> (try extract_lets) <;> simp (maxDischargeDepth := 60) +zetaDelta [State.wf_mk, State.wf_fold, State.waiting_mk, State.waiting_fold, *])
@[simp] theorem State.notifySend_pending {s o rest ack} : State.waiting (State.notifySend s o rest ack) = State.waiting s := by
  unfold State.notifySend
  extract_lets v0 v1
  have h_v0 : State.waiting v0 = State.waiting s := by subst v0; simp (maxDischargeDepth := 60) [State.wf_mk, State.wf_fold, State.waiting_mk, State.waiting_fold, *]
  clear_value v0
  clear_value v1
  ((repeat' split) <;> (try extract_lets) <;> simp (maxDischargeDepth := 60) +zetaDelta [State.wf_mk, State.wf_fold, State.waiting_mk, State.waiting_fold, *])
@[simp] theorem State.packAlert_wf {s} (h : State.wf s = true) : State.wf (State.packAlert s) = true := by
  unfold State.packAlert; simp (maxDischargeDepth := 60) [State.wf_mk, State.wf_fold, State.waiting_mk, State.waiting_fold, *]
@[simp] theorem State.packAlert_pending {s} : State.waiting (State.packAlert s) = State.waiting s := by
  unfold State.packAlert; simp (maxDischargeDepth := 60) [State.wf_mk, State.wf_fold, State.waiting_mk, State.waiting_fold, *]
@[simp] theorem State.pollGood_wf {s k x} (h : State.wf s = true) : State.wf (State.pollGood s k x) = true := by
  unfold State.pollGood
  extract_lets v0 v1 v2 v3
  clear_value v0
  have h_v1 : State.wf v1 = true := by subst v1; simp (maxDischargeDepth := 60) [State.wf_mk, State.wf_fold, State.waiting_mk, State.waiting_fold, *]
  clear_value v1
  have h_v2 : State.wf v2 = true := by subst v2; simp (maxDischargeDepth := 60) [State.wf_mk, State.wf_fold, State.waiting_mk, State.waiting_fold, *]
  clear_value v2
  have h_v3 : State.wf v3 = true := by subst v3; simp (maxDischargeDepth := 60) [State.wf_mk, State.wf_fold, State.waiting_mk, State.waiting_fold, *]
  clear_value v3
  simp (maxDischargeDepth := 60) [State.wf_mk, State.wf_fold, State.waiting_mk, State.waiting_fold, *]
@[simp] theorem State.pollGood_pending {s k x} : State.waiting (State.pollGood s k x) = State.waiting s := by
  unfold State.pollGood
  extract_lets v0 v1 v2 v3
  clear_value v0
  have h_v1 : State.waiting v1 = State.waiting s := by subst v1; simp (maxDischargeDepth := 60) [State.wf_mk, State.wf_fold, State.waiting_mk, State.waiting_fold, *]
  clear_value v1
  have h_v2 : State.waiting v2 = State.waiting s := by subst v2; simp (maxDischargeDepth := 60) [State.wf_mk, State.wf_fold, State.waiting_mk, State.waiting_fold, *]
  clear_value v2
  have h_v3 : State.waiting v3 = State.waiting s := by subst v3; simp (maxDischargeDepth := 60) [State.wf_mk, State.wf_fold, State.waiting_mk, State.waiting_fold, *]
  clear_value v3
  simp (maxDischargeDepth := 60) [State.wf_mk, State.wf_fold, State.waiting_mk, State.waiting_fold, *]
@[simp] theorem State.pollBad_wf {s k} (h : State.wf s = true) : State.wf (State.pollBad s k) = true := by
  unfold State.pollBad
  extract_lets v0
  have h_v0 : State.wf v0 = true := by subst v0; simp (maxDischargeDepth := 60) [State.wf_mk, State.wf_fold, State.waiting_mk, State.waiting_fold, *]
  clear_value v0
  ((repeat' split) <;> (try extract_lets) <;> simp (maxDischargeDepth := 60) +zetaDelta [State.wf_mk, State.wf_fold, State.waiting_mk, State.waiting_fold, *])
@[simp] theorem State.pollBad_pending {s k} : State.waiting (State.pollBad s k) = State.waiting s := by
  unfold State.pollBad
  extract_lets v0
  have h_v0 : State.waiting v0 = State.waiting s := by subst v0; simp (maxDischargeDepth := 60) [State.wf_mk, State.wf_fold, State.waiting_mk, State.waiting_fold, *]
  clear_value v0
  ((repeat' split) <;> (try extract_lets) <;> simp (maxDischargeDepth := 60) +zetaDelta [State.wf_mk, State.wf_fold, State.waiting_mk, State.waiting_fold, *])
@[simp] theorem State.pollDev_wf {s k x} (h : State.wf s = true) : State.wf (State.pollDev s k x) = true := by
  unfold State.pollDev; simp (maxDischargeDepth := 60) [State.wf_mk, State.wf_fold, State.waiting_mk, State.waiting_fold, *]
@[simp] theorem State.pollDev_pending {s k x} : State.waiting (State.pollDev s k x) = State.waiting s := by
  unfold State.pollDev; simp (maxDischargeDepth := 60) [State.wf_mk, State.wf_fold, State.waiting_mk, State.waiting_fold, *]

/-! Machine/Commands.lean -/

@[simp] theorem State.gate_wf {s x r inRecovery f} (h : State.wf s = true) (hf : ∀ t, State.wf t = true → State.wf (f t) = true) : State.wf (State.gate s x r inRecovery f) = true := by
  unfold State.gate; simp (maxDischargeDepth := 60) [State.wf_mk, State.wf_fold, State.waiting_mk, State.waiting_fold, *]
@[simp] theorem State.gate_pending {s x r inRecovery f} (hf : ∀ t, State.waiting (f t) = State.waiting t) : State.waiting (State.gate s x r inRecovery f) = State.waiting s := by
  unfold State.gate; simp (maxDischargeDepth := 60) [State.wf_mk, State.wf_fold, State.waiting_mk, State.waiting_fold, *]
@[simp] theorem State.read32_wf {s x addr} (h : State.wf s = true) : State.wf (State.read32 s x addr) = true := by
  unfold State.read32; simp +contextual (maxDischargeDepth := 60) [State.wf_mk, State.wf_fold, State.waiting_mk, State.waiting_fold, *]
@[simp] theorem State.read32_pending {s x addr} : State.waiting (State.read32 s x addr) = State.waiting s := by
  unfold State.read32; simp (maxDischargeDepth := 60) [State.wf_mk, State.wf_fold, State.waiting_mk, State.waiting_fold, *]
@[simp] theorem State.write32_wf {s x addr val} (h : State.wf s = true) : State.wf (State.write32 s x addr val) = true := by
  unfold State.write32; simp +contextual (maxDischargeDepth := 60) [State.wf_mk, State.wf_fold, State.waiting_mk, State.waiting_fold, *]
@[simp] theorem State.write32_pending {s x addr val} : State.waiting (State.write32 s x addr val) = State.waiting s := by
  unfold State.write32; simp (maxDischargeDepth := 60) [State.wf_mk, State.wf_fold, State.waiting_mk, State.waiting_fold, *]
@[simp] theorem State.readWords_wf {s a n out} (h : State.wf s = true) : State.wf (State.readWords s a n out) = true := by
  induction n generalizing s a out with
  | zero => exact State.answer_wf h
  | succ n ih =>
    unfold State.readWords
    dsimp only
    split
    · exact ih (State.hostRead_wf h)
    · exact State.answer_wf h
@[simp] theorem State.readWords_pending {s a n out} : State.waiting (State.readWords s a n out) = State.waiting s := by
  induction n generalizing s a out with
  | zero => exact State.answer_pending
  | succ n ih =>
    unfold State.readWords
    dsimp only
    split
    · rw [ih, State.hostRead_pending]
    · exact State.answer_pending
@[simp] theorem State.readBlock_wf {s x addr n} (h : State.wf s = true) : State.wf (State.readBlock s x addr n) = true := by
  unfold State.readBlock; simp +contextual (maxDischargeDepth := 60) [State.wf_mk, State.wf_fold, State.waiting_mk, State.waiting_fold, *]
@[simp] theorem State.readBlock_pending {s x addr n} : State.waiting (State.readBlock s x addr n) = State.waiting s := by
  unfold State.readBlock; simp (maxDischargeDepth := 60) [State.wf_mk, State.wf_fold, State.waiting_mk, State.waiting_fold, *]
@[simp] theorem State.writeWords_wf {s x a i l bad} (h : State.wf s = true) : State.wf (State.writeWords s x a i l bad) = true := by
  induction l generalizing s a i bad with
  | nil => exact State.answer_wf h
  | cons w l ih =>
    unfold State.writeWords
    exact ih (State.hostWrite_wf h)
@[simp] theorem State.writeWords_pending {s x a i l bad} : State.waiting (State.writeWords s x a i l bad) = State.waiting s := by
  induction l generalizing s a i bad with
  | nil => exact State.answer_pending
  | cons w l ih =>
    unfold State.writeWords
    dsimp only
    rw [ih, State.hostWrite_pending]
@[simp] theorem State.writeBlock_wf {s x addr vals} (h : State.wf s = true) : State.wf (State.writeBlock s x addr vals) = true := by
  unfold State.writeBlock
  refine State.gate_wf h fun t ht => ?_
  dsimp only
  (repeat' split) <;> simp (maxDischargeDepth := 60) [State.wf_mk, State.wf_fold, State.waiting_mk, State.waiting_fold, *]
@[simp] theorem State.writeBlock_pending {s x addr vals} : State.waiting (State.writeBlock s x addr vals) = State.waiting s := by
  unfold State.writeBlock
  refine State.gate_pending fun t => ?_
  dsimp only
  (repeat' split) <;> simp (maxDischargeDepth := 60) [State.wf_mk, State.wf_fold, State.waiting_mk, State.waiting_fold, *]
@[simp] theorem State.modBulk_wf {s f} (h : State.wf s = true) : State.wf (State.modBulk s f) = true := by
  unfold State.modBulk; simp (maxDischargeDepth := 60) [State.wf_mk, State.wf_fold, State.waiting_mk, State.waiting_fold, *]
@[simp] theorem State.modBulk_pending {s f} : State.waiting (State.modBulk s f) = State.waiting s := by
  unfold State.modBulk; simp (maxDischargeDepth := 60) [State.wf_mk, State.wf_fold, State.waiting_mk, State.waiting_fold, *]
@[simp] theorem State.bulkOpen_wf {s x total} (h : State.wf s = true) : State.wf (State.bulkOpen s x total) = true := by
  unfold State.bulkOpen; simp +contextual (maxDischargeDepth := 60) [State.wf_mk, State.wf_fold, State.waiting_mk, State.waiting_fold, *]
@[simp] theorem State.bulkOpen_pending {s x total} : State.waiting (State.bulkOpen s x total) = State.waiting s := by
  unfold State.bulkOpen; simp (maxDischargeDepth := 60) [State.wf_mk, State.wf_fold, State.waiting_mk, State.waiting_fold, *]
@[simp] theorem State.bulkData_wf {s x id off data} (h : State.wf s = true) : State.wf (State.bulkData s x id off data) = true := by
  unfold State.bulkData; simp (maxDischargeDepth := 60) [State.wf_mk, State.wf_fold, State.waiting_mk, State.waiting_fold, *]
@[simp] theorem State.bulkData_pending {s x id off data} : State.waiting (State.bulkData s x id off data) = State.waiting s := by
  unfold State.bulkData; simp (maxDischargeDepth := 60) [State.wf_mk, State.wf_fold, State.waiting_mk, State.waiting_fold, *]
@[simp] theorem State.bulkStatus_wf {s x id} (h : State.wf s = true) : State.wf (State.bulkStatus s x id) = true := by
  unfold State.bulkStatus; simp +contextual (maxDischargeDepth := 60) [State.wf_mk, State.wf_fold, State.waiting_mk, State.waiting_fold, *]
@[simp] theorem State.bulkStatus_pending {s x id} : State.waiting (State.bulkStatus s x id) = State.waiting s := by
  unfold State.bulkStatus; simp (maxDischargeDepth := 60) [State.wf_mk, State.wf_fold, State.waiting_mk, State.waiting_fold, *]
@[simp] theorem State.bulkRead_wf {s x addr len} (h : State.wf s = true) : State.wf (State.bulkRead s x addr len) = true := by
  unfold State.bulkRead; simp +contextual (maxDischargeDepth := 60) [State.wf_mk, State.wf_fold, State.waiting_mk, State.waiting_fold, *]
@[simp] theorem State.bulkRead_pending {s x addr len} : State.waiting (State.bulkRead s x addr len) = State.waiting s := by
  unfold State.bulkRead; simp (maxDischargeDepth := 60) [State.wf_mk, State.wf_fold, State.waiting_mk, State.waiting_fold, *]
@[simp] theorem State.programLoad_wf {s x bank index n crc} (h : State.wf s = true) : State.wf (State.programLoad s x bank index n crc) = true := by
  unfold State.programLoad; simp +contextual (maxDischargeDepth := 60) [State.wf_mk, State.wf_fold, State.waiting_mk, State.waiting_fold, *]
@[simp] theorem State.programLoad_pending {s x bank index n crc} : State.waiting (State.programLoad s x bank index n crc) = State.waiting s := by
  unfold State.programLoad; simp (maxDischargeDepth := 60) [State.wf_mk, State.wf_fold, State.waiting_mk, State.waiting_fold, *]
@[simp] theorem State.imageStage_wf {s x sel} (h : State.wf s = true) : State.wf (State.imageStage s x sel) = true := by
  unfold State.imageStage
  refine State.gate_wf h fun t ht => ?_
  dsimp only
  (repeat' split) <;> simp (maxDischargeDepth := 60) [State.wf_mk, State.wf_fold, State.waiting_mk, State.waiting_fold, *]
@[simp] theorem State.imageStage_pending {s x sel} : State.waiting (State.imageStage s x sel) = State.waiting s := by
  unfold State.imageStage
  refine State.gate_pending fun t => ?_
  dsimp only
  (repeat' split) <;> simp (maxDischargeDepth := 60) [State.wf_mk, State.wf_fold, State.waiting_mk, State.waiting_fold, *]
@[simp] theorem State.imageCommit_wf {s x bank} (h : State.wf s = true) : State.wf (State.imageCommit s x bank) = true := by
  unfold State.imageCommit; simp +contextual (maxDischargeDepth := 60) [State.wf_mk, State.wf_fold, State.waiting_mk, State.waiting_fold, *]
@[simp] theorem State.imageCommit_pending {s x bank} : State.waiting (State.imageCommit s x bank) = State.waiting s := by
  unfold State.imageCommit; simp (maxDischargeDepth := 60) [State.wf_mk, State.wf_fold, State.waiting_mk, State.waiting_fold, *]
@[simp] theorem State.authOpen_wf {s nh k num} (h : State.wf s = true) : State.wf (State.authOpen s nh k num) = true := by
  unfold State.authOpen
  extract_lets v0 v1 v2
  clear_value v0
  clear_value v1
  have h_v2 : State.wf v2 = true := by subst v2; simp (maxDischargeDepth := 60) [State.wf_mk, State.wf_fold, State.waiting_mk, State.waiting_fold, *]
  clear_value v2
  simp (maxDischargeDepth := 60) [State.wf_mk, State.wf_fold, State.waiting_mk, State.waiting_fold, *]
@[simp] theorem State.authOpen_pending {s nh k num} : State.waiting (State.authOpen s nh k num) = State.waiting s := by
  unfold State.authOpen
  extract_lets v0 v1 v2
  clear_value v0
  clear_value v1
  have h_v2 : State.waiting v2 = State.waiting s := by subst v2; simp (maxDischargeDepth := 60) [State.wf_mk, State.wf_fold, State.waiting_mk, State.waiting_fold, *]
  clear_value v2
  simp (maxDischargeDepth := 60) [State.wf_mk, State.wf_fold, State.waiting_mk, State.waiting_fold, *]
@[simp] theorem State.authPhase1_wf {s x nh} (h : State.wf s = true) : State.wf (State.authPhase1 s x nh) = true := by
  unfold State.authPhase1
  refine State.gate_wf h fun t ht => ?_
  dsimp only
  (repeat' split) <;> simp (maxDischargeDepth := 60) [State.wf_mk, State.wf_fold, State.waiting_mk, State.waiting_fold, *]
@[simp] theorem State.authPhase1_pending {s x nh} : State.waiting (State.authPhase1 s x nh) = State.waiting s := by
  unfold State.authPhase1
  refine State.gate_pending fun t => ?_
  dsimp only
  (repeat' split) <;> simp (maxDischargeDepth := 60) [State.wf_mk, State.wf_fold, State.waiting_mk, State.waiting_fold, *]
@[simp] theorem State.authFail_wf {s k} (h : State.wf s = true) : State.wf (State.authFail s k) = true := by
  unfold State.authFail
  extract_lets v0 v1 v2 v3
  clear_value v0
  have h_v1 : State.wf v1 = true := by subst v1; simp (maxDischargeDepth := 60) [State.wf_mk, State.wf_fold, State.waiting_mk, State.waiting_fold, *]
  clear_value v1
  clear_value v2
  have h_v3 : State.wf v3 = true := by subst v3; simp (maxDischargeDepth := 60) [State.wf_mk, State.wf_fold, State.waiting_mk, State.waiting_fold, *]
  clear_value v3
  simp (maxDischargeDepth := 60) [State.wf_mk, State.wf_fold, State.waiting_mk, State.waiting_fold, *]
@[simp] theorem State.authFail_pending {s k} : State.waiting (State.authFail s k) = State.waiting s := by
  unfold State.authFail
  extract_lets v0 v1 v2 v3
  clear_value v0
  have h_v1 : State.waiting v1 = State.waiting s := by subst v1; simp (maxDischargeDepth := 60) [State.wf_mk, State.wf_fold, State.waiting_mk, State.waiting_fold, *]
  clear_value v1
  clear_value v2
  have h_v3 : State.waiting v3 = State.waiting s := by subst v3; simp (maxDischargeDepth := 60) [State.wf_mk, State.wf_fold, State.waiting_mk, State.waiting_fold, *]
  clear_value v3
  simp (maxDischargeDepth := 60) [State.wf_mk, State.wf_fold, State.waiting_mk, State.waiting_fold, *]
@[simp] theorem State.authPhase2_wf {s x ph} (h : State.wf s = true) : State.wf (State.authPhase2 s x ph) = true := by
  unfold State.authPhase2; (repeat' split) <;> simp +contextual (maxDischargeDepth := 60) [State.wf_mk, State.wf_fold, State.waiting_mk, State.waiting_fold, *]
@[simp] theorem State.authPhase2_pending {s x ph} : State.waiting (State.authPhase2 s x ph) = State.waiting s := by
  unfold State.authPhase2; (repeat' split) <;> simp (maxDischargeDepth := 60) [State.wf_mk, State.wf_fold, State.waiting_mk, State.waiting_fold, *]
@[simp] theorem State.subscribe_wf {s x bits} (h : State.wf s = true) : State.wf (State.subscribe s x bits) = true := by
  unfold State.subscribe; (repeat' split) <;> simp +contextual (maxDischargeDepth := 60) [State.wf_mk, State.wf_fold, State.waiting_mk, State.waiting_fold, *]
@[simp] theorem State.subscribe_pending {s x bits} : State.waiting (State.subscribe s x bits) = State.waiting s := by
  unfold State.subscribe; (repeat' split) <;> simp (maxDischargeDepth := 60) [State.wf_mk, State.wf_fold, State.waiting_mk, State.waiting_fold, *]
@[simp] theorem State.ackFrames_wf {s x cls seq} (h : State.wf s = true) : State.wf (State.ackFrames s x cls seq) = true := by
  unfold State.ackFrames; (repeat' split) <;> simp +contextual (maxDischargeDepth := 60) [State.wf_mk, State.wf_fold, State.waiting_mk, State.waiting_fold, *]
@[simp] theorem State.ackFrames_pending {s x cls seq} : State.waiting (State.ackFrames s x cls seq) = State.waiting s := by
  unfold State.ackFrames; (repeat' split) <;> simp (maxDischargeDepth := 60) [State.wf_mk, State.wf_fold, State.waiting_mk, State.waiting_fold, *]
@[simp] theorem State.closeCmd_wf {s x} (h : State.wf s = true) : State.wf (State.closeCmd s x) = true := by
  unfold State.closeCmd; (repeat' split) <;> simp +contextual (maxDischargeDepth := 60) [State.wf_mk, State.wf_fold, State.waiting_mk, State.waiting_fold, *]
@[simp] theorem State.closeCmd_pending {s x} : State.waiting (State.closeCmd s x) = State.waiting s := by
  unfold State.closeCmd; (repeat' split) <;> simp (maxDischargeDepth := 60) [State.wf_mk, State.wf_fold, State.waiting_mk, State.waiting_fold, *]
@[simp] theorem State.wakeCmd_wf {s x} (h : State.wf s = true) : State.wf (State.wakeCmd s x) = true := by
  unfold State.wakeCmd; simp (maxDischargeDepth := 60) [State.wf_mk, State.wf_fold, State.waiting_mk, State.waiting_fold, *]
@[simp] theorem State.wakeCmd_pending {s x} : State.waiting (State.wakeCmd s x) = State.waiting s := by
  unfold State.wakeCmd; simp (maxDischargeDepth := 60) [State.wf_mk, State.wf_fold, State.waiting_mk, State.waiting_fold, *]
@[simp] theorem State.keySetDevice_wf {s x key} (h : State.wf s = true) : State.wf (State.keySetDevice s x key) = true := by
  unfold State.keySetDevice; (repeat' split) <;> simp +contextual (maxDischargeDepth := 60) [State.wf_mk, State.wf_fold, State.waiting_mk, State.waiting_fold, *]
@[simp] theorem State.keySetDevice_pending {s x key} : State.waiting (State.keySetDevice s x key) = State.waiting s := by
  unfold State.keySetDevice; (repeat' split) <;> simp (maxDischargeDepth := 60) [State.wf_mk, State.wf_fold, State.waiting_mk, State.waiting_fold, *]
@[simp] theorem State.keySetOwner_wf {s x key} (h : State.wf s = true) : State.wf (State.keySetOwner s x key) = true := by
  unfold State.keySetOwner; simp +contextual (maxDischargeDepth := 60) [State.wf_mk, State.wf_fold, State.waiting_mk, State.waiting_fold, *]
@[simp] theorem State.keySetOwner_pending {s x key} : State.waiting (State.keySetOwner s x key) = State.waiting s := by
  unfold State.keySetOwner; simp (maxDischargeDepth := 60) [State.wf_mk, State.wf_fold, State.waiting_mk, State.waiting_fold, *]
@[simp] theorem State.keepalive_wf {s k seq data} (h : State.wf s = true) : State.wf (State.keepalive s k seq data) = true := by
  unfold State.keepalive; simp (maxDischargeDepth := 60) [State.wf_mk, State.wf_fold, State.waiting_mk, State.waiting_fold, *]
@[simp] theorem State.keepalive_pending {s k seq data} : State.waiting (State.keepalive s k seq data) = State.waiting s := by
  unfold State.keepalive; simp (maxDischargeDepth := 60) [State.wf_mk, State.wf_fold, State.waiting_mk, State.waiting_fold, *]

/-! Machine/Frames.lean -/

@[simp] theorem State.badEntry_wf {s x code} (h : State.wf s = true) : State.wf (State.badEntry s x code) = true := by
  unfold State.badEntry; simp +contextual (maxDischargeDepth := 60) [State.wf_mk, State.wf_fold, State.waiting_mk, State.waiting_fold, *]
@[simp] theorem State.badEntry_pending {s x code} : State.waiting (State.badEntry s x code) = State.waiting s := by
  unfold State.badEntry; simp (maxDischargeDepth := 60) [State.wf_mk, State.wf_fold, State.waiting_mk, State.waiting_fold, *]
@[simp] theorem State.entry_wf {s x e} (h : State.wf s = true) : State.wf (State.entry s x e) = true := by
  unfold State.entry; (repeat' split) <;> simp +contextual (maxDischargeDepth := 60) [State.wf_mk, State.wf_fold, State.waiting_mk, State.waiting_fold, *]
@[simp] theorem State.entry_pending {s x e} : State.waiting (State.entry s x e) = State.waiting s := by
  unfold State.entry; (repeat' split) <;> simp (maxDischargeDepth := 60) [State.wf_mk, State.wf_fold, State.waiting_mk, State.waiting_fold, *]
@[simp] theorem State.runEntries_wf {s x stop l failed out} (h : State.wf s = true) :
    State.wf (State.runEntries s x stop l failed out).1 = true := by
  induction l generalizing s failed out with
  | nil => exact h
  | cons e l ih =>
    unfold State.runEntries
    split
    · exact ih h
    · exact ih (State.entry_wf h)
@[simp] theorem State.runEntries_pending {s x stop l failed out} :
    State.waiting (State.runEntries s x stop l failed out).1 = State.waiting s := by
  induction l generalizing s failed out with
  | nil => rfl
  | cons e l ih =>
    unfold State.runEntries
    split
    · rw [ih]
    · dsimp only
      rw [ih, State.entry_pending]
@[simp] theorem State.runPayload_wf {s x stop payload} (h : State.wf s = true) : State.wf (State.runPayload s x stop payload).1 = true := by
  unfold State.runPayload; dsimp only; (repeat' split) <;> simp +contextual (maxDischargeDepth := 60) [State.wf_mk, State.wf_fold, State.waiting_mk, State.waiting_fold, *]
@[simp] theorem State.runPayload_pending {s x stop payload} : State.waiting (State.runPayload s x stop payload).1 = State.waiting s := by
  unfold State.runPayload; dsimp only; (repeat' split) <;> simp +contextual (maxDischargeDepth := 60) [State.wf_mk, State.wf_fold, State.waiting_mk, State.waiting_fold, *]
@[simp] theorem State.answerBusy_wf {s k seq payload} (h : State.wf s = true) : State.wf (State.answerBusy s k seq payload) = true := by
  unfold State.answerBusy; simp (maxDischargeDepth := 60) [State.wf_mk, State.wf_fold, State.waiting_mk, State.waiting_fold, *]
@[simp] theorem State.answerBusy_pending {s k seq payload} : State.waiting (State.answerBusy s k seq payload) = State.waiting s := by
  unfold State.answerBusy; simp (maxDischargeDepth := 60) [State.wf_mk, State.wf_fold, State.waiting_mk, State.waiting_fold, *]
@[simp] theorem State.runSession_wf {s x k f} (h : State.wf s = true) : State.wf (State.runSession s x k f) = true := by
  unfold State.runSession; simp (maxDischargeDepth := 60) [State.wf_mk, State.wf_fold, State.waiting_mk, State.waiting_fold, *]
@[simp] theorem State.runSession_pending {s x k f} : State.waiting (State.runSession s x k f) = State.waiting s := by
  unfold State.runSession; simp (maxDischargeDepth := 60) [State.wf_mk, State.wf_fold, State.waiting_mk, State.waiting_fold, *]
@[simp] theorem State.badFrame_wf {s p} (h : State.wf s = true) : State.wf (State.badFrame s p) = true := by
  unfold State.badFrame
  extract_lets v0
  have h_v0 : State.wf v0 = true := by subst v0; simp (maxDischargeDepth := 60) [State.wf_mk, State.wf_fold, State.waiting_mk, State.waiting_fold, *]
  clear_value v0
  simp (maxDischargeDepth := 60) [State.wf_mk, State.wf_fold, State.waiting_mk, State.waiting_fold, *]
@[simp] theorem State.badFrame_pending {s p} : State.waiting (State.badFrame s p) = State.waiting s := by
  unfold State.badFrame
  extract_lets v0
  have h_v0 : State.waiting v0 = State.waiting s := by subst v0; simp (maxDischargeDepth := 60) [State.wf_mk, State.wf_fold, State.waiting_mk, State.waiting_fold, *]
  clear_value v0
  simp (maxDischargeDepth := 60) [State.wf_mk, State.wf_fold, State.waiting_mk, State.waiting_fold, *]
@[simp] theorem State.holdFrame_wf {s p src bytes} (h : State.wf s = true) : State.wf (State.holdFrame s p src bytes) = true := by
  unfold State.holdFrame; simp (maxDischargeDepth := 60) [State.wf_mk, State.wf_fold, State.waiting_mk, State.waiting_fold, *]
@[simp] theorem State.holdFrame_pending {s p src bytes} : State.waiting (State.holdFrame s p src bytes) = State.waiting s := by
  unfold State.holdFrame; simp (maxDischargeDepth := 60) [State.wf_mk, State.wf_fold, State.waiting_mk, State.waiting_fold, *]
@[simp] theorem State.hear_wf {s k p src} (h : State.wf s = true) : State.wf (State.hear s k p src) = true := by
  unfold State.hear; simp (maxDischargeDepth := 60) [State.wf_mk, State.wf_fold, State.waiting_mk, State.waiting_fold, *]
@[simp] theorem State.hear_pending {s k p src} : State.waiting (State.hear s k p src) = State.waiting s := by
  unfold State.hear; simp (maxDischargeDepth := 60) [State.wf_mk, State.wf_fold, State.waiting_mk, State.waiting_fold, *]
@[simp] theorem State.bulkFrameIn_wf {s x bs} (h : State.wf s = true) : State.wf (State.bulkFrameIn s x bs) = true := by
  unfold State.bulkFrameIn; simp (maxDischargeDepth := 60) [State.wf_mk, State.wf_fold, State.waiting_mk, State.waiting_fold, *]
@[simp] theorem State.bulkFrameIn_pending {s x bs} : State.waiting (State.bulkFrameIn s x bs) = State.waiting s := by
  unfold State.bulkFrameIn; simp (maxDischargeDepth := 60) [State.wf_mk, State.wf_fold, State.waiting_mk, State.waiting_fold, *]
@[simp] theorem State.takeFrame_wf {s x k p src bytes f} (h : State.wf s = true) : State.wf (State.takeFrame s x k p src bytes f) = true := by
  unfold State.takeFrame
  extract_lets v0 v1
  clear_value v0
  have h_v1 : State.wf v1 = true := by subst v1; simp (maxDischargeDepth := 60) [State.wf_mk, State.wf_fold, State.waiting_mk, State.waiting_fold, *]
  clear_value v1
  simp (maxDischargeDepth := 60) [State.wf_mk, State.wf_fold, State.waiting_mk, State.waiting_fold, *]
@[simp] theorem State.takeFrame_pending {s x k p src bytes f} : State.waiting (State.takeFrame s x k p src bytes f) = State.waiting s := by
  unfold State.takeFrame
  extract_lets v0 v1
  clear_value v0
  have h_v1 : State.waiting v1 = State.waiting s := by subst v1; simp (maxDischargeDepth := 60) [State.wf_mk, State.wf_fold, State.waiting_mk, State.waiting_fold, *]
  clear_value v1
  simp (maxDischargeDepth := 60) [State.wf_mk, State.wf_fold, State.waiting_mk, State.waiting_fold, *]
@[simp] theorem State.judgeFrame_wf {s x k p src bytes f} (h : State.wf s = true) : State.wf (State.judgeFrame s x k p src bytes f) = true := by
  unfold State.judgeFrame; dsimp only; (repeat' split) <;> simp +contextual (maxDischargeDepth := 60) [State.wf_mk, State.wf_fold, State.waiting_mk, State.waiting_fold, *]
@[simp] theorem State.judgeFrame_pending {s x k p src bytes f} : State.waiting (State.judgeFrame s x k p src bytes f) = State.waiting s := by
  unfold State.judgeFrame; dsimp only; (repeat' split) <;> simp +contextual (maxDischargeDepth := 60) [State.wf_mk, State.wf_fold, State.waiting_mk, State.waiting_fold, *]
@[simp] theorem State.anonIn_wf {s p src bytes f} (h : State.wf s = true) : State.wf (State.anonIn s p src bytes f) = true := by
  unfold State.anonIn; simp (maxDischargeDepth := 60) [State.wf_mk, State.wf_fold, State.waiting_mk, State.waiting_fold, *]
@[simp] theorem State.anonIn_pending {s p src bytes f} : State.waiting (State.anonIn s p src bytes f) = State.waiting s := by
  unfold State.anonIn; simp (maxDischargeDepth := 60) [State.wf_mk, State.wf_fold, State.waiting_mk, State.waiting_fold, *]
@[simp] theorem State.receive_wf {s p src bytes} (h : State.wf s = true) : State.wf (State.receive s p src bytes) = true := by
  unfold State.receive; (repeat' split) <;> simp (maxDischargeDepth := 60) [State.wf_mk, State.wf_fold, State.waiting_mk, State.waiting_fold, *]
@[simp] theorem State.receive_pending {s p src bytes} : State.waiting (State.receive s p src bytes) = State.waiting s := by
  unfold State.receive; (repeat' split) <;> simp (maxDischargeDepth := 60) [State.wf_mk, State.wf_fold, State.waiting_mk, State.waiting_fold, *]
@[simp] theorem State.flushOne_wf {s p src bytes} (h : State.wf s = true) : State.wf (State.flushOne s p src bytes) = true := by
  unfold State.flushOne; (repeat' split) <;> simp (maxDischargeDepth := 60) [State.wf_mk, State.wf_fold, State.waiting_mk, State.waiting_fold, *]
@[simp] theorem State.flushOne_pending {s p src bytes} : State.waiting (State.flushOne s p src bytes) = State.waiting s := by
  unfold State.flushOne; (repeat' split) <;> simp (maxDischargeDepth := 60) [State.wf_mk, State.wf_fold, State.waiting_mk, State.waiting_fold, *]
@[simp] theorem State.flushHeld_wf {s} (h : State.wf s = true) : State.wf (State.flushHeld s) = true := by
  unfold State.flushHeld; simp +contextual (maxDischargeDepth := 60) [State.wf_mk, State.wf_fold, State.waiting_mk, State.waiting_fold, *]
@[simp] theorem State.flushHeld_pending {s} : State.waiting (State.flushHeld s) = State.waiting s := by
  unfold State.flushHeld; simp (maxDischargeDepth := 60) [State.wf_mk, State.wf_fold, State.waiting_mk, State.waiting_fold, *]

/-! Machine/Boundary.lean -/

@[simp] theorem State.latchLane_wf {s n x lane} (h : State.wf s = true) : State.wf (State.latchLane s n x lane) = true := by
  unfold State.latchLane; simp (maxDischargeDepth := 60) [State.wf_mk, State.wf_fold, State.waiting_mk, State.waiting_fold, *]
@[simp] theorem State.latchLane_pending {s n x lane} : State.waiting (State.latchLane s n x lane) = State.waiting s := by
  unfold State.latchLane; simp (maxDischargeDepth := 60) [State.wf_mk, State.wf_fold, State.waiting_mk, State.waiting_fold, *]
@[simp] theorem State.divTake_wf {s} (h : State.wf s = true) : State.wf (State.divTake s) = true := by
  unfold State.divTake; simp (maxDischargeDepth := 60) [State.wf_mk, State.wf_fold, State.waiting_mk, State.waiting_fold, *]
@[simp] theorem State.divTake_pending {s} : State.waiting (State.divTake s) = State.waiting s := by
  unfold State.divTake; simp (maxDischargeDepth := 60) [State.wf_mk, State.wf_fold, State.waiting_mk, State.waiting_fold, *]
@[simp] theorem State.writesTake_wf {s} (h : State.wf s = true) : State.wf (State.writesTake s) = true := by
  unfold State.writesTake; simp +contextual (maxDischargeDepth := 60) [State.wf_mk, State.wf_fold, State.waiting_mk, State.waiting_fold, *]
@[simp] theorem State.writesTake_pending {s} : State.waiting (State.writesTake s) = State.waiting s := by
  unfold State.writesTake
  extract_lets v0 v1 v2 v3 v4
  clear_value v0
  have h_v1 : State.waiting v1 = State.waiting s := by subst v1; simp (maxDischargeDepth := 60) [State.wf_mk, State.wf_fold, State.waiting_mk, State.waiting_fold, *]
  clear_value v1
  have h_v2 : State.waiting v2 = State.waiting s := by subst v2; simp (maxDischargeDepth := 60) [State.wf_mk, State.wf_fold, State.waiting_mk, State.waiting_fold, *]
  clear_value v2
  have h_v3 : State.waiting v3 = State.waiting s := by subst v3; simp (maxDischargeDepth := 60) [State.wf_mk, State.wf_fold, State.waiting_mk, State.waiting_fold, *]
  clear_value v3
  have h_v4 : State.waiting v4 = State.waiting s := by subst v4; simp (maxDischargeDepth := 60) [State.wf_mk, State.wf_fold, State.waiting_mk, State.waiting_fold, *]
  clear_value v4
  simp (maxDischargeDepth := 60) [State.wf_mk, State.wf_fold, State.waiting_mk, State.waiting_fold, *]
@[simp] theorem State.rangeForced_wf {s n} (h : State.wf s = true) : State.wf (State.rangeForced s n) = true := by
  unfold State.rangeForced; simp (maxDischargeDepth := 60) [State.wf_mk, State.wf_fold, State.waiting_mk, State.waiting_fold, *]
@[simp] theorem State.rangeForced_pending {s n} : State.waiting (State.rangeForced s n) = State.waiting s := by
  unfold State.rangeForced; simp (maxDischargeDepth := 60) [State.wf_mk, State.wf_fold, State.waiting_mk, State.waiting_fold, *]
@[simp] theorem State.rangeStep_wf {s n} (h : State.wf s = true) : State.wf (State.rangeStep s n) = true := by
  unfold State.rangeStep
  extract_lets v0 v1
  have h_v0 : State.wf v0 = true := by subst v0; simp (maxDischargeDepth := 60) [State.wf_mk, State.wf_fold, State.waiting_mk, State.waiting_fold, *]
  clear_value v0
  clear_value v1
  simp (maxDischargeDepth := 60) [State.wf_mk, State.wf_fold, State.waiting_mk, State.waiting_fold, *]
@[simp] theorem State.rangeStep_pending {s n} : State.waiting (State.rangeStep s n) = State.waiting s := by
  unfold State.rangeStep
  extract_lets v0 v1
  have h_v0 : State.waiting v0 = State.waiting s := by subst v0; simp (maxDischargeDepth := 60) [State.wf_mk, State.wf_fold, State.waiting_mk, State.waiting_fold, *]
  clear_value v0
  clear_value v1
  simp (maxDischargeDepth := 60) [State.wf_mk, State.wf_fold, State.waiting_mk, State.waiting_fold, *]
@[simp] theorem State.histLane_wf {s n} (h : State.wf s = true) : State.wf (State.histLane s n) = true := by
  unfold State.histLane; simp (maxDischargeDepth := 60) [State.wf_mk, State.wf_fold, State.waiting_mk, State.waiting_fold, *]
@[simp] theorem State.histLane_pending {s n} : State.waiting (State.histLane s n) = State.waiting s := by
  unfold State.histLane; simp (maxDischargeDepth := 60) [State.wf_mk, State.wf_fold, State.waiting_mk, State.waiting_fold, *]
@[simp] theorem State.releaseDuty_wf {s n} (h : State.wf s = true) : State.wf (State.releaseDuty s n) = true := by
  unfold State.releaseDuty; (repeat' split) <;> simp (maxDischargeDepth := 60) [State.wf_mk, State.wf_fold, State.waiting_mk, State.waiting_fold, *]
@[simp] theorem State.releaseDuty_pending {s n} : State.waiting (State.releaseDuty s n) = State.waiting s := by
  unfold State.releaseDuty; (repeat' split) <;> simp (maxDischargeDepth := 60) [State.wf_mk, State.wf_fold, State.waiting_mk, State.waiting_fold, *]
@[simp] theorem State.countLane_wf {s n dt} (h : State.wf s = true) : State.wf (State.countLane s n dt) = true := by
  unfold State.countLane; simp (maxDischargeDepth := 60) [State.wf_mk, State.wf_fold, State.waiting_mk, State.waiting_fold, *]
@[simp] theorem State.countLane_pending {s n dt} : State.waiting (State.countLane s n dt) = State.waiting s := by
  unfold State.countLane; simp (maxDischargeDepth := 60) [State.wf_mk, State.wf_fold, State.waiting_mk, State.waiting_fold, *]
@[simp] theorem State.countStep_wf {s n dt} (h : State.wf s = true) : State.wf (State.countStep s n dt) = true := by
  unfold State.countStep; (repeat' split) <;> simp (maxDischargeDepth := 60) [State.wf_mk, State.wf_fold, State.waiting_mk, State.waiting_fold, *]
@[simp] theorem State.countStep_pending {s n dt} : State.waiting (State.countStep s n dt) = State.waiting s := by
  unfold State.countStep; (repeat' split) <;> simp (maxDischargeDepth := 60) [State.wf_mk, State.wf_fold, State.waiting_mk, State.waiting_fold, *]
@[simp] theorem State.checkMean_wf {s n} (h : State.wf s = true) : State.wf (State.checkMean s n) = true := by
  unfold State.checkMean; simp (maxDischargeDepth := 60) [State.wf_mk, State.wf_fold, State.waiting_mk, State.waiting_fold, *]
@[simp] theorem State.checkMean_pending {s n} : State.waiting (State.checkMean s n) = State.waiting s := by
  unfold State.checkMean; simp (maxDischargeDepth := 60) [State.wf_mk, State.wf_fold, State.waiting_mk, State.waiting_fold, *]
@[simp] theorem State.checkLane_wf {s n} (h : State.wf s = true) : State.wf (State.checkLane s n) = true := by
  unfold State.checkLane; dsimp only; (repeat' split) <;> simp +contextual (maxDischargeDepth := 60) [State.wf_mk, State.wf_fold, State.waiting_mk, State.waiting_fold, *]
@[simp] theorem State.checkLane_pending {s n} : State.waiting (State.checkLane s n) = State.waiting s := by
  unfold State.checkLane; dsimp only; (repeat' split) <;> simp +contextual (maxDischargeDepth := 60) [State.wf_mk, State.wf_fold, State.waiting_mk, State.waiting_fold, *]
@[simp] theorem State.metricLane_wf {s n} (h : State.wf s = true) : State.wf (State.metricLane s n) = true := by
  unfold State.metricLane; simp (maxDischargeDepth := 60) [State.wf_mk, State.wf_fold, State.waiting_mk, State.waiting_fold, *]
@[simp] theorem State.metricLane_pending {s n} : State.waiting (State.metricLane s n) = State.waiting s := by
  unfold State.metricLane; simp (maxDischargeDepth := 60) [State.wf_mk, State.wf_fold, State.waiting_mk, State.waiting_fold, *]
@[simp] theorem State.lanePeriod_wf {s n dt} (h : State.wf s = true) : State.wf (State.lanePeriod s n dt) = true := by
  unfold State.lanePeriod
  extract_lets v0
  have h_v0 : State.wf v0 = true := by subst v0; simp (maxDischargeDepth := 60) [State.wf_mk, State.wf_fold, State.waiting_mk, State.waiting_fold, *]
  clear_value v0
  simp (maxDischargeDepth := 60) [State.wf_mk, State.wf_fold, State.waiting_mk, State.waiting_fold, *]
@[simp] theorem State.lanePeriod_pending {s n dt} : State.waiting (State.lanePeriod s n dt) = State.waiting s := by
  unfold State.lanePeriod
  extract_lets v0
  have h_v0 : State.waiting v0 = State.waiting s := by subst v0; simp (maxDischargeDepth := 60) [State.wf_mk, State.wf_fold, State.waiting_mk, State.waiting_fold, *]
  clear_value v0
  simp (maxDischargeDepth := 60) [State.wf_mk, State.wf_fold, State.waiting_mk, State.waiting_fold, *]
@[simp] theorem State.lanes_wf {s inp lane dt} (h : State.wf s = true) : State.wf (State.lanes s inp lane dt) = true := by
  unfold State.lanes; simp +contextual (maxDischargeDepth := 60) [State.wf_mk, State.wf_fold, State.waiting_mk, State.waiting_fold, *]
@[simp] theorem State.lanes_pending {s inp lane dt} : State.waiting (State.lanes s inp lane dt) = State.waiting s := by
  unfold State.lanes
  extract_lets v0 v1 v2 v3
  have h_v0 : State.waiting v0 = State.waiting s := by subst v0; simp (maxDischargeDepth := 60) [State.wf_mk, State.wf_fold, State.waiting_mk, State.waiting_fold, *]
  clear_value v0
  have h_v1 : State.waiting v1 = State.waiting s := by subst v1; simp (maxDischargeDepth := 60) [State.wf_mk, State.wf_fold, State.waiting_mk, State.waiting_fold, *]
  clear_value v1
  have h_v2 : State.waiting v2 = State.waiting s := by subst v2; simp (maxDischargeDepth := 60) [State.wf_mk, State.wf_fold, State.waiting_mk, State.waiting_fold, *]
  clear_value v2
  have h_v3 : State.waiting v3 = State.waiting s := by subst v3; simp (maxDischargeDepth := 60) [State.wf_mk, State.wf_fold, State.waiting_mk, State.waiting_fold, *]
  clear_value v3
  simp (maxDischargeDepth := 60) [State.wf_mk, State.wf_fold, State.waiting_mk, State.waiting_fold, *]
@[simp] theorem State.settleEnd_wf {s n} (h : State.wf s = true) : State.wf (State.settleEnd s n) = true := by
  unfold State.settleEnd; simp (maxDischargeDepth := 60) [State.wf_mk, State.wf_fold, State.waiting_mk, State.waiting_fold, *]
@[simp] theorem State.settleEnd_pending {s n} : State.waiting (State.settleEnd s n) = State.waiting s := by
  unfold State.settleEnd; simp (maxDischargeDepth := 60) [State.wf_mk, State.wf_fold, State.waiting_mk, State.waiting_fold, *]
@[simp] theorem State.classTake_wf {s n} (h : State.wf s = true) : State.wf (State.classTake s n) = true := by
  unfold State.classTake; (repeat' split) <;> simp (maxDischargeDepth := 60) [State.wf_mk, State.wf_fold, State.waiting_mk, State.waiting_fold, *]
@[simp] theorem State.classTake_pending {s n} : State.waiting (State.classTake s n) = State.waiting s := by
  unfold State.classTake; (repeat' split) <;> simp (maxDischargeDepth := 60) [State.wf_mk, State.wf_fold, State.waiting_mk, State.waiting_fold, *]
@[simp] theorem State.barBoundary_wf {s} (h : State.wf s = true) : State.wf (State.barBoundary s) = true := by
  unfold State.barBoundary; dsimp only; (repeat' split) <;> simp +contextual (maxDischargeDepth := 60) [State.wf_mk, State.wf_fold, State.waiting_mk, State.waiting_fold, *]
@[simp] theorem State.barBoundary_pending {s} : State.waiting (State.barBoundary s) = State.waiting s := by
  unfold State.barBoundary; dsimp only; (repeat' split) <;> simp +contextual (maxDischargeDepth := 60) [State.wf_mk, State.wf_fold, State.waiting_mk, State.waiting_fold, *]
@[simp] theorem State.showBoundary_wf {s} (h : State.wf s = true) : State.wf (State.showBoundary s) = true := by
  unfold State.showBoundary; simp +contextual (maxDischargeDepth := 60) [State.wf_mk, State.wf_fold, State.waiting_mk, State.waiting_fold, *]
@[simp] theorem State.showBoundary_pending {s} : State.waiting (State.showBoundary s) = State.waiting s := by
  unfold State.showBoundary
  extract_lets v0
  have h_v0 : State.waiting v0 = State.waiting s := by subst v0; simp (maxDischargeDepth := 60) [State.wf_mk, State.wf_fold, State.waiting_mk, State.waiting_fold, *]
  clear_value v0
  simp (maxDischargeDepth := 60) [State.wf_mk, State.wf_fold, State.waiting_mk, State.waiting_fold, *]
@[simp] theorem State.tick_wf {s} (h : State.wf s = true) : State.wf (State.tick s) = true := by
  unfold State.tick; simp (maxDischargeDepth := 60) [State.wf_mk, State.wf_fold, State.waiting_mk, State.waiting_fold, *]
@[simp] theorem State.tick_pending {s} : State.waiting (State.tick s) = State.waiting s := by
  unfold State.tick; simp (maxDischargeDepth := 60) [State.wf_mk, State.wf_fold, State.waiting_mk, State.waiting_fold, *]
@[simp] theorem State.shelfBoundary_wf {s} (h : State.wf s = true) : State.wf (State.shelfBoundary s) = true := by
  unfold State.shelfBoundary; simp (maxDischargeDepth := 60) [State.wf_mk, State.wf_fold, State.waiting_mk, State.waiting_fold, *]
@[simp] theorem State.shelfBoundary_pending {s} : State.waiting (State.shelfBoundary s) = State.waiting s := by
  unfold State.shelfBoundary; simp (maxDischargeDepth := 60) [State.wf_mk, State.wf_fold, State.waiting_mk, State.waiting_fold, *]
@[simp] theorem State.ledgerBoundary_wf {s} (h : State.wf s = true) : State.wf (State.ledgerBoundary s) = true := by
  unfold State.ledgerBoundary; simp (maxDischargeDepth := 60) [State.wf_mk, State.wf_fold, State.waiting_mk, State.waiting_fold, *]
@[simp] theorem State.ledgerBoundary_pending {s} : State.waiting (State.ledgerBoundary s) = State.waiting s := by
  unfold State.ledgerBoundary; simp (maxDischargeDepth := 60) [State.wf_mk, State.wf_fold, State.waiting_mk, State.waiting_fold, *]
@[simp] theorem State.lateBoundary_wf {s aux} (h : State.wf s = true) : State.wf (State.lateBoundary s aux) = true := by
  unfold State.lateBoundary; simp +contextual (maxDischargeDepth := 60) [State.wf_mk, State.wf_fold, State.waiting_mk, State.waiting_fold, *]
@[simp] theorem State.lateBoundary_pending {s aux} : State.waiting (State.lateBoundary s aux) = State.waiting s := by
  unfold State.lateBoundary
  extract_lets v0 v1
  have h_v0 : State.waiting v0 = State.waiting s := by subst v0; simp (maxDischargeDepth := 60) [State.wf_mk, State.wf_fold, State.waiting_mk, State.waiting_fold, *]
  clear_value v0
  have h_v1 : State.waiting v1 = State.waiting s := by subst v1; simp (maxDischargeDepth := 60) [State.wf_mk, State.wf_fold, State.waiting_mk, State.waiting_fold, *]
  clear_value v1
  simp (maxDischargeDepth := 60) [State.wf_mk, State.wf_fold, State.waiting_mk, State.waiting_fold, *]
@[simp] theorem State.metLane_wf {s n t o} (h : State.wf s = true) : State.wf (State.metLane s n t o) = true := by
  unfold State.metLane
  extract_lets v0 v1 v2 v3
  clear_value v0
  clear_value v1
  have h_v2 : State.wf v2 = true := by subst v2; simp (maxDischargeDepth := 60) [State.wf_mk, State.wf_fold, State.waiting_mk, State.waiting_fold, *]
  clear_value v2
  have h_v3 : State.wf v3 = true := by subst v3; simp (maxDischargeDepth := 60) [State.wf_mk, State.wf_fold, State.waiting_mk, State.waiting_fold, *]
  clear_value v3
  simp (maxDischargeDepth := 60) [State.wf_mk, State.wf_fold, State.waiting_mk, State.waiting_fold, *]
@[simp] theorem State.metLane_pending {s n t o} : State.waiting (State.metLane s n t o) = State.waiting s := by
  unfold State.metLane
  extract_lets v0 v1 v2 v3
  clear_value v0
  clear_value v1
  have h_v2 : State.waiting v2 = State.waiting s := by subst v2; simp (maxDischargeDepth := 60) [State.wf_mk, State.wf_fold, State.waiting_mk, State.waiting_fold, *]
  clear_value v2
  have h_v3 : State.waiting v3 = State.waiting s := by subst v3; simp (maxDischargeDepth := 60) [State.wf_mk, State.wf_fold, State.waiting_mk, State.waiting_fold, *]
  clear_value v3
  simp (maxDischargeDepth := 60) [State.wf_mk, State.wf_fold, State.waiting_mk, State.waiting_fold, *]
@[simp] theorem State.metGang_wf {s n t} (h : State.wf s = true) : State.wf (State.metGang s n t) = true := by
  unfold State.metGang; simp (maxDischargeDepth := 60) [State.wf_mk, State.wf_fold, State.waiting_mk, State.waiting_fold, *]
@[simp] theorem State.metGang_pending {s n t} : State.waiting (State.metGang s n t) = State.waiting s := by
  unfold State.metGang; simp (maxDischargeDepth := 60) [State.wf_mk, State.wf_fold, State.waiting_mk, State.waiting_fold, *]
@[simp] theorem State.ringTake_wf {s t} (h : State.wf s = true) : State.wf (State.ringTake s t) = true := by
  unfold State.ringTake; simp (maxDischargeDepth := 60) [State.wf_mk, State.wf_fold, State.waiting_mk, State.waiting_fold, *]
@[simp] theorem State.ringTake_pending {s t} : State.waiting (State.ringTake s t) = State.waiting s := by
  unfold State.ringTake; simp (maxDischargeDepth := 60) [State.wf_mk, State.wf_fold, State.waiting_mk, State.waiting_fold, *]
@[simp] theorem State.visitTake_wf {s inp lane t} (h : State.wf s = true) : State.wf (State.visitTake s inp lane t) = true := by
  unfold State.visitTake; (repeat' split) <;> simp (maxDischargeDepth := 60) [State.wf_mk, State.wf_fold, State.waiting_mk, State.waiting_fold, *]
@[simp] theorem State.visitTake_pending {s inp lane t} : State.waiting (State.visitTake s inp lane t) = State.waiting s := by
  unfold State.visitTake; (repeat' split) <;> simp (maxDischargeDepth := 60) [State.wf_mk, State.wf_fold, State.waiting_mk, State.waiting_fold, *]

end Sys2Proof.Machine
end

