-- ==== Sys2Proof/Laws/Lanes.lean ====
section
/-! SUPPORT. The operations of the machine that leave every channel lane (`_chv`). -/

namespace Sys2Proof.Machine

set_option linter.unusedSimpArgs false
set_option Elab.async false

/-- The channel lanes. -/
def State.chv (s : State) : Vector Chan 128 := s.ch

theorem State.chv_mk {regs old held64 low64 mem nv time ctr ctrPrev lockAt lockBy safeReq clrReq ch sh lane spare led fd fsel hu ax al sq boot clk mode ev link tw vault cellar tst maint status data free pending} :
    State.chv ⟨regs, old, held64, low64, mem, nv, time, ctr, ctrPrev, lockAt, lockBy, safeReq, clrReq, ch, sh, lane, spare, led, fd, fsel, hu, ax, al, sq, boot, clk, mode, ev, link, tw, vault, cellar, tst, maint, status, data, free, pending⟩
      = ch := by simp only [State.chv]

theorem State.chv_fold (s : State) : s.ch = s.chv := by simp only [State.chv]

@[simp] theorem State.setWord_chv {s r w} : State.chv (State.setWord s r w) = State.chv s := by unfold State.setWord; simp [State.chv_mk, State.chv_fold]
@[simp] theorem State.putBytes_chv {s a bs} : State.chv (State.putBytes s a bs) = State.chv s := by unfold State.putBytes; simp [State.chv_mk, State.chv_fold]
@[simp] theorem State.chv_ite {c : Prop} [Decidable c] {a b : State} :
    State.chv (if c then a else b) = if c then State.chv a else State.chv b := apply_ite State.chv c a b

@[simp] theorem State.chv_each {α s} {l : List α} {f} (hf : ∀ x t, State.chv (f x t) = State.chv t) :
    State.chv (State.each s l f) = State.chv s := by
  unfold State.each
  induction l generalizing s with
  | nil => rfl
  | cons x l ih => exact (ih (s := f x s)).trans (hf x s)

theorem foldl_chv {α} {l : List α} {f : State → α → State} (hf : ∀ t x, State.chv (f t x) = State.chv t) {s} :
    State.chv (l.foldl f s) = State.chv s := by
  induction l generalizing s with
  | nil => rfl
  | cons x l ih => exact (ih (s := f s x)).trans (hf s x)

/-! Machine/Ops.lean -/

@[simp] theorem State.fset_chv {s f v} : State.chv (State.fset s f v) = State.chv s := by
  unfold State.fset; simp (maxDischargeDepth := 60) [State.chv_mk, State.chv_fold, *]
@[simp] theorem State.fsetS_chv {s f v} : State.chv (State.fsetS s f v) = State.chv s := by
  unfold State.fsetS; simp (maxDischargeDepth := 60) [State.chv_mk, State.chv_fold, *]
@[simp] theorem State.setFlag_chv {s f b} : State.chv (State.setFlag s f b) = State.chv s := by
  unfold State.setFlag; simp (maxDischargeDepth := 60) [State.chv_mk, State.chv_fold, *]
@[simp] theorem State.incSat_chv {s f} : State.chv (State.incSat s f) = State.chv s := by
  unfold State.incSat; simp (maxDischargeDepth := 60) [State.chv_mk, State.chv_fold, *]
@[simp] theorem State.incWrap_chv {s f} : State.chv (State.incWrap s f) = State.chv s := by
  unfold State.incWrap; simp (maxDischargeDepth := 60) [State.chv_mk, State.chv_fold, *]
@[simp] theorem State.setWord64_chv {s lo hi v} : State.chv (State.setWord64 s lo hi v) = State.chv s := by
  unfold State.setWord64; simp (maxDischargeDepth := 60) [State.chv_mk, State.chv_fold, *]
@[simp] theorem State.putMemWord_chv {s a w} : State.chv (State.putMemWord s a w) = State.chv s := by
  unfold State.putMemWord; simp (maxDischargeDepth := 60) [State.chv_mk, State.chv_fold, *]
@[simp] theorem State.fresh_chv {s} : State.chv (State.fresh s) = State.chv s := by
  unfold State.fresh; simp (maxDischargeDepth := 60) [State.chv_mk, State.chv_fold, *]
@[simp] theorem State.freshN_chv {s k} : State.chv (State.freshN s k) = State.chv s := by
  unfold State.freshN; simp (maxDischargeDepth := 60) [State.chv_mk, State.chv_fold, *]
@[simp] theorem State.reading_chv {s f signed x k} : State.chv (State.reading s f signed x k) = State.chv s := by
  unfold State.reading; simp (maxDischargeDepth := 60) [State.chv_mk, State.chv_fold, *]
@[simp] theorem State.answer_chv {s st d} : State.chv (State.answer s st d) = State.chv s := by
  unfold State.answer; simp (maxDischargeDepth := 60) [State.chv_mk, State.chv_fold, *]

/-! Machine/Access.lean -/

@[simp] theorem State.writeReg_chv {s r val} : State.chv (State.writeReg s r val) = State.chv s := by
  unfold State.writeReg; simp (maxDischargeDepth := 60) [State.chv_mk, State.chv_fold, *]

/-! Machine/Events.lean -/

@[simp] theorem State.atticPut_chv {s o} : State.chv (State.atticPut s o) = State.chv s := by
  unfold State.atticPut; dsimp only; (repeat' split) <;> simp +contextual (maxDischargeDepth := 60) [State.chv_mk, State.chv_fold, *]
@[simp] theorem State.vaultPut_chv {s r} : State.chv (State.vaultPut s r).1 = State.chv s := by
  unfold State.vaultPut; (repeat' split) <;> simp (maxDischargeDepth := 60) [State.chv_mk, State.chv_fold, *]
@[simp] theorem State.setSessAt_chv {s k x} : State.chv (State.setSessAt s k x) = State.chv s := by
  unfold State.setSessAt; (repeat' split) <;> simp (maxDischargeDepth := 60) [State.chv_mk, State.chv_fold, *]
@[simp] theorem State.sessEvent_chv {s o k} : State.chv (State.sessEvent s o k) = State.chv s := by
  unfold State.sessEvent; simp (maxDischargeDepth := 60) [State.chv_mk, State.chv_fold, *]
@[simp] theorem State.notifyPut_chv {s o} : State.chv (State.notifyPut s o) = State.chv s := by
  unfold State.notifyPut; simp (maxDischargeDepth := 60) [State.chv_mk, State.chv_fold, *]
@[simp] theorem State.recordOcc_chv {s o} : State.chv (State.recordOcc s o).1 = State.chv s := by
  unfold State.recordOcc; (repeat' split) <;> simp (maxDischargeDepth := 60) [State.chv_mk, State.chv_fold, *]
@[simp] theorem State.routeOne_chv {s o} : State.chv (State.routeOne s o).1 = State.chv s := by
  unfold State.routeOne
  extract_lets v0 v1
  clear_value v0
  have h_v1 : State.chv v1 = State.chv s := by subst v1; simp (maxDischargeDepth := 60) [State.chv_mk, State.chv_fold, *]
  clear_value v1
  ((repeat' split) <;> (try extract_lets) <;> simp (maxDischargeDepth := 60) +zetaDelta [State.chv_mk, State.chv_fold, *])
@[simp] theorem State.cellarTrigger_chv {s cause stamp evNum} : State.chv (State.cellarTrigger s cause stamp evNum).1 = State.chv s := by
  unfold State.cellarTrigger; (repeat' split) <;> simp (maxDischargeDepth := 60) [State.chv_mk, State.chv_fold, *]
@[simp] theorem State.route_chv {s o} : State.chv (State.route s o) = State.chv s := by
  unfold State.route; simp (maxDischargeDepth := 60) [State.chv_mk, State.chv_fold, *]
@[simp] theorem State.deepEvent_chv {s sev} : State.chv (State.deepEvent s sev) = State.chv s := by
  unfold State.deepEvent; simp (maxDischargeDepth := 60) [State.chv_mk, State.chv_fold, *]
@[simp] theorem State.raiseOcc_chv {s o} : State.chv (State.raiseOcc s o) = State.chv s := by
  unfold State.raiseOcc; simp (maxDischargeDepth := 60) [State.chv_mk, State.chv_fold, *]
@[simp] theorem State.raise_chv {s num sev payload} : State.chv (State.raise s num sev payload) = State.chv s := by
  unfold State.raise; simp (maxDischargeDepth := 60) [State.chv_mk, State.chv_fold, *]
@[simp] theorem State.raiseReq_chv {s num sev payload} : State.chv (State.raiseReq s num sev payload) = State.chv s := by
  unfold State.raiseReq; simp (maxDischargeDepth := 60) [State.chv_mk, State.chv_fold, *]
@[simp] theorem State.record_chv {s typ num sev stamp payload} : State.chv (State.record s typ num sev stamp payload) = State.chv s := by
  unfold State.record; simp (maxDischargeDepth := 60) [State.chv_mk, State.chv_fold, *]
@[simp] theorem State.trigger_chv {s cause} : State.chv (State.trigger s cause) = State.chv s := by
  unfold State.trigger; simp (maxDischargeDepth := 60) [State.chv_mk, State.chv_fold, *]

/-! Machine/Measure.lean -/

@[simp] theorem State.putEntry_chv {s a e} : State.chv (State.putEntry s a e) = State.chv s := by
  unfold State.putEntry; simp (maxDischargeDepth := 60) [State.chv_mk, State.chv_fold, *]
@[simp] theorem State.laneOverload_chv {s volt cur} : State.chv (State.laneOverload s volt cur) = State.chv s := by
  unfold State.laneOverload; simp (maxDischargeDepth := 60) [State.chv_mk, State.chv_fold, *]
@[simp] theorem State.calActivate_chv {s} : State.chv (State.calActivate s) = State.chv s := by
  unfold State.calActivate; simp (maxDischargeDepth := 60) [State.chv_mk, State.chv_fold, *]
@[simp] theorem State.calMirror_chv {s} : State.chv (State.calMirror s) = State.chv s := by
  unfold State.calMirror; simp (maxDischargeDepth := 60) [State.chv_mk, State.chv_fold, *]
@[simp] theorem State.calCopy_chv {s} : State.chv (State.calCopy s) = State.chv s := by
  unfold State.calCopy; simp (maxDischargeDepth := 60) [State.chv_mk, State.chv_fold, *]
@[simp] theorem State.calSwap_chv {s} : State.chv (State.calSwap s) = State.chv s := by
  unfold State.calSwap; simp (maxDischargeDepth := 60) [State.chv_mk, State.chv_fold, *]
@[simp] theorem State.shadowWrite_chv {s addr val} : State.chv (State.shadowWrite s addr val) = State.chv s := by
  unfold State.shadowWrite
  split
  · simp (maxDischargeDepth := 60) [State.chv_mk, State.chv_fold, *]
  · split
    simp (maxDischargeDepth := 60) [State.chv_mk, State.chv_fold, *]

/-! Machine/Channel.lean -/

@[simp] theorem State.shelfItem_chv {s it} : State.chv (State.shelfItem s it) = State.chv s := by
  unfold State.shelfItem; simp (maxDischargeDepth := 60) [State.chv_mk, State.chv_fold, *]
@[simp] theorem State.setTrec_chv {s n bs} : State.chv (State.setTrec s n bs) = State.chv s := by
  unfold State.setTrec; simp (maxDischargeDepth := 60) [State.chv_mk, State.chv_fold, *]
@[simp] theorem State.latchBeside_chv {s n bit} : State.chv (State.latchBeside s n bit) = State.chv s := by
  unfold State.latchBeside
  extract_lets v0
  have h_v0 : State.chv v0 = State.chv s := by subst v0; simp (maxDischargeDepth := 60) [State.chv_mk, State.chv_fold, *]
  clear_value v0
  simp (maxDischargeDepth := 60) [State.chv_mk, State.chv_fold, *]
@[simp] theorem State.settleMemb_chv {s l} : State.chv (State.settleMemb s l) = State.chv s := by
  unfold State.settleMemb; simp (maxDischargeDepth := 60) [State.chv_mk, State.chv_fold, *]

/-! Machine/Sequencer.lean -/

@[simp] theorem State.auxMid_chv {s j} : State.chv (State.auxMid s j) = State.chv s := by
  unfold State.auxMid
  extract_lets v0
  have h_v0 : State.chv v0 = State.chv s := by subst v0; simp (maxDischargeDepth := 60) [State.chv_mk, State.chv_fold, *]
  clear_value v0
  simp (maxDischargeDepth := 60) [State.chv_mk, State.chv_fold, *]
@[simp] theorem State.auxOff_chv {s j} : State.chv (State.auxOff s j) = State.chv s := by
  unfold State.auxOff
  extract_lets v0
  have h_v0 : State.chv v0 = State.chv s := by subst v0; simp (maxDischargeDepth := 60) [State.chv_mk, State.chv_fold, *]
  clear_value v0
  simp (maxDischargeDepth := 60) [State.chv_mk, State.chv_fold, *]
@[simp] theorem State.auxStart_chv {s j mv} : State.chv (State.auxStart s j mv) = State.chv s := by
  unfold State.auxStart
  extract_lets v0
  have h_v0 : State.chv v0 = State.chv s := by subst v0; simp (maxDischargeDepth := 60) [State.chv_mk, State.chv_fold, *]
  clear_value v0
  simp (maxDischargeDepth := 60) [State.chv_mk, State.chv_fold, *]
@[simp] theorem State.auxAsk_chv {s j} : State.chv (State.auxAsk s j) = State.chv s := by
  unfold State.auxAsk; simp (maxDischargeDepth := 60) [State.chv_mk, State.chv_fold, *]
@[simp] theorem State.modSq_chv {s e f} : State.chv (State.modSq s e f) = State.chv s := by
  unfold State.modSq; simp (maxDischargeDepth := 60) [State.chv_mk, State.chv_fold, *]
@[simp] theorem State.railDisable_chv {s e} : State.chv (State.railDisable s e) = State.chv s := by
  unfold State.railDisable; simp (maxDischargeDepth := 60) [State.chv_mk, State.chv_fold, *]
@[simp] theorem State.railTo_chv {s e st} : State.chv (State.railTo s e st) = State.chv s := by
  unfold State.railTo
  extract_lets v0 v1
  have h_v0 : State.chv v0 = State.chv s := by subst v0; simp (maxDischargeDepth := 60) [State.chv_mk, State.chv_fold, *]
  clear_value v0
  have h_v1 : State.chv v1 = State.chv s := by subst v1; simp (maxDischargeDepth := 60) [State.chv_mk, State.chv_fold, *]
  clear_value v1
  simp (maxDischargeDepth := 60) [State.chv_mk, State.chv_fold, *]
@[simp] theorem State.railOff_chv {s e} : State.chv (State.railOff s e) = State.chv s := by
  unfold State.railOff; simp (maxDischargeDepth := 60) [State.chv_mk, State.chv_fold, *]
@[simp] theorem State.railStart_chv {s e} : State.chv (State.railStart s e) = State.chv s := by
  unfold State.railStart
  extract_lets v0 v1
  clear_value v0
  have h_v1 : State.chv v1 = State.chv s := by subst v1; simp (maxDischargeDepth := 60) [State.chv_mk, State.chv_fold, *]
  clear_value v1
  ((repeat' split) <;> (try extract_lets) <;> simp (maxDischargeDepth := 60) +zetaDelta [State.chv_mk, State.chv_fold, *])
@[simp] theorem State.railTurn_chv {s e} : State.chv (State.railTurn s e) = State.chv s := by
  unfold State.railTurn; simp (maxDischargeDepth := 60) [State.chv_mk, State.chv_fold, *]
@[simp] theorem State.railsDone_chv {s} : State.chv (State.railsDone s) = State.chv s := by
  unfold State.railsDone; simp (maxDischargeDepth := 60) [State.chv_mk, State.chv_fold, *]
@[simp] theorem State.railSweep_chv {s} : State.chv (State.railSweep s) = State.chv s := by
  unfold State.railSweep
  rw [State.railsDone_chv]
  exact foldl_chv (fun t _ => by simp [State.chv_mk, State.chv_fold])
@[simp] theorem State.railAsk_chv {s e wait} : State.chv (State.railAsk s e wait) = State.chv s := by
  unfold State.railAsk; simp (maxDischargeDepth := 60) [State.chv_mk, State.chv_fold, *]
@[simp] theorem State.railsSafe_chv {s} : State.chv (State.railsSafe s) = State.chv s := by
  unfold State.railsSafe; simp (maxDischargeDepth := 60) [State.chv_mk, State.chv_fold, *]

/-! Machine/Shelf.lean -/

@[simp] theorem State.stopShelfProgram_chv {s} : State.chv (State.stopShelfProgram s) = State.chv s := by
  unfold State.stopShelfProgram
  extract_lets v0
  have h_v0 : State.chv v0 = State.chv s := by subst v0; simp (maxDischargeDepth := 60) [State.chv_mk, State.chv_fold, *]
  clear_value v0
  simp (maxDischargeDepth := 60) [State.chv_mk, State.chv_fold, *]
@[simp] theorem State.freezeHalt_chv {s} : State.chv (State.freezeHalt s) = State.chv s := by
  unfold State.freezeHalt; (repeat' split) <;> simp (maxDischargeDepth := 60) [State.chv_mk, State.chv_fold, *]
@[simp] theorem State.auxSafe_chv {s} : State.chv (State.auxSafe s) = State.chv s := by
  unfold State.auxSafe
  extract_lets v0
  have h_v0 : State.chv v0 = State.chv s := by subst v0; simp (maxDischargeDepth := 60) [State.chv_mk, State.chv_fold, *]
  clear_value v0
  simp (maxDischargeDepth := 60) [State.chv_mk, State.chv_fold, *]
@[simp] theorem State.beginAgingExit_chv {s} : State.chv (State.beginAgingExit s) = State.chv s := by
  unfold State.beginAgingExit; (repeat' split) <;> simp (maxDischargeDepth := 60) [State.chv_mk, State.chv_fold, *]
@[simp] theorem State.beginWake_chv {s} : State.chv (State.beginWake s) = State.chv s := by
  unfold State.beginWake; (repeat' split) <;> simp (maxDischargeDepth := 60) [State.chv_mk, State.chv_fold, *]
@[simp] theorem State.leaveSleep_chv {s} : State.chv (State.leaveSleep s) = State.chv s := by
  unfold State.leaveSleep; simp (maxDischargeDepth := 60) [State.chv_mk, State.chv_fold, *]
@[simp] theorem State.wdtArm_chv {s} : State.chv (State.wdtArm s) = State.chv s := by
  unfold State.wdtArm; simp (maxDischargeDepth := 60) [State.chv_mk, State.chv_fold, *]
@[simp] theorem State.judgeClr_chv {s} : State.chv (State.judgeClr s) = State.chv s := by
  unfold State.judgeClr; simp (maxDischargeDepth := 60) [State.chv_mk, State.chv_fold, *]
@[simp] theorem State.lockWrite_chv {s by_ key} : State.chv (State.lockWrite s by_ key) = State.chv s := by
  unfold State.lockWrite; simp (maxDischargeDepth := 60) [State.chv_mk, State.chv_fold, *]
@[simp] theorem State.lockClose_chv {s} : State.chv (State.lockClose s) = State.chv s := by
  unfold State.lockClose; simp (maxDischargeDepth := 60) [State.chv_mk, State.chv_fold, *]

/-! Machine/Convert.lean -/

@[simp] theorem State.ctClamp_chv {s n} : State.chv (State.ctClamp s n) = State.chv s := by
  unfold State.ctClamp; simp (maxDischargeDepth := 60) [State.chv_mk, State.chv_fold, *]
@[simp] theorem State.busCount_chv {s} : State.chv (State.busCount s) = State.chv s := by
  unfold State.busCount; simp (maxDischargeDepth := 60) [State.chv_mk, State.chv_fold, *]
@[simp] theorem State.pwmDivWrite_chv {s val} : State.chv (State.pwmDivWrite s val) = State.chv s := by
  unfold State.pwmDivWrite; simp (maxDischargeDepth := 60) [State.chv_mk, State.chv_fold, *]
@[simp] theorem State.syncEdge_chv {s at_ dt} : State.chv (State.syncEdge s at_ dt) = State.chv s := by
  unfold State.syncEdge; simp (maxDischargeDepth := 60) [State.chv_mk, State.chv_fold, *]
@[simp] theorem State.syncFollow_chv {s} : State.chv (State.syncFollow s) = State.chv s := by
  unfold State.syncFollow; simp (maxDischargeDepth := 60) [State.chv_mk, State.chv_fold, *]
@[simp] theorem State.periodBoundary_chv {s0} : State.chv (State.periodBoundary s0) = State.chv s0 := by
  unfold State.periodBoundary; simp (maxDischargeDepth := 60) [State.chv_mk, State.chv_fold, *]
@[simp] theorem State.gangDissolve_chv {s n} : State.chv (State.gangDissolve s n) = State.chv s := by
  unfold State.gangDissolve
  extract_lets v0
  have h_v0 : State.chv v0 = State.chv s := by subst v0; simp (maxDischargeDepth := 60) [State.chv_mk, State.chv_fold, *]
  clear_value v0
  simp (maxDischargeDepth := 60) [State.chv_mk, State.chv_fold, *]
@[simp] theorem State.cvStart_chv {s n} : State.chv (State.cvStart s n) = State.chv s := by
  unfold State.cvStart; simp (maxDischargeDepth := 60) [State.chv_mk, State.chv_fold, *]

/-! Machine/Feeds.lean -/

@[simp] theorem State.modF_chv {s f g} : State.chv (State.modF s f g) = State.chv s := by
  unfold State.modF; simp (maxDischargeDepth := 60) [State.chv_mk, State.chv_fold, *]
@[simp] theorem State.modSel_chv {s g} : State.chv (State.modSel s g) = State.chv s := by
  unfold State.modSel; simp (maxDischargeDepth := 60) [State.chv_mk, State.chv_fold, *]
@[simp] theorem State.modHu_chv {s g} : State.chv (State.modHu s g) = State.chv s := by
  unfold State.modHu; simp (maxDischargeDepth := 60) [State.chv_mk, State.chv_fold, *]
@[simp] theorem State.setLim_chv {s f on t} : State.chv (State.setLim s f on t) = State.chv s := by
  unfold State.setLim; simp (maxDischargeDepth := 60) [State.chv_mk, State.chv_fold, *]
@[simp] theorem State.setServ_chv {s} : State.chv (State.setServ s) = State.chv s := by
  unfold State.setServ; simp (maxDischargeDepth := 60) [State.chv_mk, State.chv_fold, *]
@[simp] theorem State.capEnd_chv {s f last} : State.chv (State.capEnd s f last) = State.chv s := by
  unfold State.capEnd; simp (maxDischargeDepth := 60) [State.chv_mk, State.chv_fold, *]
@[simp] theorem State.capAbandon_chv {s f} : State.chv (State.capAbandon s f) = State.chv s := by
  unfold State.capAbandon; (repeat' split) <;> simp (maxDischargeDepth := 60) [State.chv_mk, State.chv_fold, *]
@[simp] theorem State.endChange_chv {s f} : State.chv (State.endChange s f) = State.chv s := by
  unfold State.endChange; simp (maxDischargeDepth := 60) [State.chv_mk, State.chv_fold, *]
@[simp] theorem State.setFeed_chv {s f st} : State.chv (State.setFeed s f st) = State.chv s := by
  unfold State.setFeed; simp (maxDischargeDepth := 60) [State.chv_mk, State.chv_fold, *]
@[simp] theorem State.rideCheck_chv {s} : State.chv (State.rideCheck s) = State.chv s := by
  unfold State.rideCheck; simp (maxDischargeDepth := 60) [State.chv_mk, State.chv_fold, *]
@[simp] theorem State.pickFeed_chv {s f was} : State.chv (State.pickFeed s f was) = State.chv s := by
  unfold State.pickFeed; simp (maxDischargeDepth := 60) [State.chv_mk, State.chv_fold, *]
@[simp] theorem State.deselect_chv {s f} : State.chv (State.deselect s f) = State.chv s := by
  unfold State.deselect; simp (maxDischargeDepth := 60) [State.chv_mk, State.chv_fold, *]
@[simp] theorem State.selectOnly_chv {s f was} : State.chv (State.selectOnly s f was) = State.chv s := by
  unfold State.selectOnly
  extract_lets v0
  have h_v0 : State.chv v0 = State.chv s := by subst v0; simp (maxDischargeDepth := 60) [State.chv_mk, State.chv_fold, *]
  clear_value v0
  simp (maxDischargeDepth := 60) [State.chv_mk, State.chv_fold, *]
@[simp] theorem State.selectAuto_chv {s was} : State.chv (State.selectAuto s was) = State.chv s := by
  unfold State.selectAuto; simp (maxDischargeDepth := 60) [State.chv_mk, State.chv_fold, *]
@[simp] theorem State.feedEval_chv {s was} : State.chv (State.feedEval s was) = State.chv s := by
  unfold State.feedEval; (repeat' split) <;> simp (maxDischargeDepth := 60) [State.chv_mk, State.chv_fold, *]
@[simp] theorem State.feedQual_chv {s f} : State.chv (State.feedQual s f) = State.chv s := by
  unfold State.feedQual; simp (maxDischargeDepth := 60) [State.chv_mk, State.chv_fold, *]
@[simp] theorem State.feedTick_chv {s} : State.chv (State.feedTick s) = State.chv s := by
  unfold State.feedTick
  extract_lets v0
  have h_v0 : State.chv v0 = State.chv s := by subst v0; simp (maxDischargeDepth := 60) [State.chv_mk, State.chv_fold, *]
  clear_value v0
  simp (maxDischargeDepth := 60) [State.chv_mk, State.chv_fold, *]
@[simp] theorem State.faultFeed_chv {s f bit} : State.chv (State.faultFeed s f bit) = State.chv s := by
  unfold State.faultFeed
  extract_lets v0 v1
  clear_value v0
  have h_v1 : State.chv v1 = State.chv s := by subst v1; simp (maxDischargeDepth := 60) [State.chv_mk, State.chv_fold, *]
  clear_value v1
  simp (maxDischargeDepth := 60) [State.chv_mk, State.chv_fold, *]
@[simp] theorem State.bounceFeed_chv {s f} : State.chv (State.bounceFeed s f) = State.chv s := by
  unfold State.bounceFeed
  extract_lets v0 v1 v2 v3
  clear_value v0
  clear_value v1
  have h_v2 : State.chv v2 = State.chv s := by subst v2; simp (maxDischargeDepth := 60) [State.chv_mk, State.chv_fold, *]
  clear_value v2
  have h_v3 : State.chv v3 = State.chv s := by subst v3; simp (maxDischargeDepth := 60) [State.chv_mk, State.chv_fold, *]
  clear_value v3
  simp (maxDischargeDepth := 60) [State.chv_mk, State.chv_fold, *]
@[simp] theorem State.vinLeave_chv {s f} : State.chv (State.vinLeave s f) = State.chv s := by
  unfold State.vinLeave
  extract_lets v0
  have h_v0 : State.chv v0 = State.chv s := by subst v0; simp (maxDischargeDepth := 60) [State.chv_mk, State.chv_fold, *]
  clear_value v0
  simp (maxDischargeDepth := 60) [State.chv_mk, State.chv_fold, *]
@[simp] theorem State.rampIfClear_chv {s f} : State.chv (State.rampIfClear s f) = State.chv s := by
  unfold State.rampIfClear; simp (maxDischargeDepth := 60) [State.chv_mk, State.chv_fold, *]
@[simp] theorem State.feedClear_chv {s f val} : State.chv (State.feedClear s f val) = State.chv s := by
  unfold State.feedClear
  extract_lets v0 v1
  have h_v0 : State.chv v0 = State.chv s := by subst v0; simp (maxDischargeDepth := 60) [State.chv_mk, State.chv_fold, *]
  clear_value v0
  have h_v1 : State.chv v1 = State.chv s := by subst v1; simp (maxDischargeDepth := 60) [State.chv_mk, State.chv_fold, *]
  clear_value v1
  simp (maxDischargeDepth := 60) [State.chv_mk, State.chv_fold, *]
@[simp] theorem State.feedDisable_chv {s f} : State.chv (State.feedDisable s f) = State.chv s := by
  unfold State.feedDisable; simp (maxDischargeDepth := 60) [State.chv_mk, State.chv_fold, *]
@[simp] theorem State.feedSelWrite_chv {s val} : State.chv (State.feedSelWrite s val) = State.chv s := by
  unfold State.feedSelWrite
  extract_lets v0 v1
  clear_value v0
  have h_v1 : State.chv v1 = State.chv s := by subst v1; simp (maxDischargeDepth := 60) [State.chv_mk, State.chv_fold, *]
  clear_value v1
  simp (maxDischargeDepth := 60) [State.chv_mk, State.chv_fold, *]
@[simp] theorem State.meterEnergy_chv {s f p} : State.chv (State.meterEnergy s f p) = State.chv s := by
  unfold State.meterEnergy; simp (maxDischargeDepth := 60) [State.chv_mk, State.chv_fold, *]
@[simp] theorem State.meterFeed_chv {s f v i} : State.chv (State.meterFeed s f v i) = State.chv s := by
  unfold State.meterFeed; simp (maxDischargeDepth := 60) [State.chv_mk, State.chv_fold, *]
@[simp] theorem State.meterPublish_chv {s f} : State.chv (State.meterPublish s f) = State.chv s := by
  unfold State.meterPublish
  extract_lets v0 v1
  clear_value v0
  have h_v1 : State.chv v1 = State.chv s := by subst v1; simp (maxDischargeDepth := 60) [State.chv_mk, State.chv_fold, *]
  clear_value v1
  simp (maxDischargeDepth := 60) [State.chv_mk, State.chv_fold, *]
@[simp] theorem State.meterGate_chv {s f vin gs} : State.chv (State.meterGate s f vin gs) = State.chv s := by
  unfold State.meterGate
  extract_lets v0
  have h_v0 : State.chv v0 = State.chv s := by subst v0; simp (maxDischargeDepth := 60) [State.chv_mk, State.chv_fold, *]
  clear_value v0
  simp (maxDischargeDepth := 60) [State.chv_mk, State.chv_fold, *]
@[simp] theorem State.meterTake_chv {s inp} : State.chv (State.meterTake s inp) = State.chv s := by
  unfold State.meterTake
  extract_lets v0 v1 v2 v3
  have h_v0 : State.chv v0 = State.chv s := by subst v0; simp (maxDischargeDepth := 60) [State.chv_mk, State.chv_fold, *]
  clear_value v0
  have h_v1 : State.chv v1 = State.chv s := by subst v1; simp (maxDischargeDepth := 60) [State.chv_mk, State.chv_fold, *]
  clear_value v1
  have h_v2 : State.chv v2 = State.chv s := by subst v2; simp (maxDischargeDepth := 60) [State.chv_mk, State.chv_fold, *]
  clear_value v2
  have h_v3 : State.chv v3 = State.chv s := by subst v3; simp (maxDischargeDepth := 60) [State.chv_mk, State.chv_fold, *]
  clear_value v3
  ((repeat' split) <;> (try extract_lets) <;> simp +zetaDelta +contextual (maxDischargeDepth := 60) [State.chv_mk, State.chv_fold, *])

/-! Machine/Holdup.lean -/

@[simp] theorem State.strapFault_chv {s n v} : State.chv (State.strapFault s n v) = State.chv s := by
  unfold State.strapFault
  extract_lets v0 v1 v2
  have h_v0 : State.chv v0 = State.chv s := by subst v0; simp (maxDischargeDepth := 60) [State.chv_mk, State.chv_fold, *]
  clear_value v0
  have h_v1 : State.chv v1 = State.chv s := by subst v1; ((repeat' split) <;> simp (maxDischargeDepth := 60) [State.chv_mk, State.chv_fold, *])
  clear_value v1
  have h_v2 : State.chv v2 = State.chv s := by subst v2; ((repeat' split) <;> simp (maxDischargeDepth := 60) [State.chv_mk, State.chv_fold, *])
  clear_value v2
  simp (maxDischargeDepth := 60) [State.chv_mk, State.chv_fold, *]
@[simp] theorem State.readStraps_chv {s x} : State.chv (State.readStraps s x) = State.chv s := by
  unfold State.readStraps; dsimp only; (repeat' split) <;> simp +contextual (maxDischargeDepth := 60) [State.chv_mk, State.chv_fold, *]
@[simp] theorem State.pathOff_chv {s} : State.chv (State.pathOff s) = State.chv s := by
  unfold State.pathOff; simp (maxDischargeDepth := 60) [State.chv_mk, State.chv_fold, *]
@[simp] theorem State.preFail_chv {s} : State.chv (State.preFail s) = State.chv s := by
  unfold State.preFail; simp (maxDischargeDepth := 60) [State.chv_mk, State.chv_fold, *]
@[simp] theorem State.setHuLim_chv {s on} : State.chv (State.setHuLim s on) = State.chv s := by
  unfold State.setHuLim; simp (maxDischargeDepth := 60) [State.chv_mk, State.chv_fold, *]
@[simp] theorem State.wdtKick_chv {s} : State.chv (State.wdtKick s) = State.chv s := by
  unfold State.wdtKick; simp (maxDischargeDepth := 60) [State.chv_mk, State.chv_fold, *]
@[simp] theorem State.wdtConfirm_chv {s} : State.chv (State.wdtConfirm s) = State.chv s := by
  unfold State.wdtConfirm; simp (maxDischargeDepth := 60) [State.chv_mk, State.chv_fold, *]
@[simp] theorem State.chargerDrive_chv {s was st} : State.chv (State.chargerDrive s was st) = State.chv s := by
  unfold State.chargerDrive; simp (maxDischargeDepth := 60) [State.chv_mk, State.chv_fold, *]
@[simp] theorem State.chargerTick_chv {s} : State.chv (State.chargerTick s) = State.chv s := by
  unfold State.chargerTick; simp (maxDischargeDepth := 60) [State.chv_mk, State.chv_fold, *]
@[simp] theorem State.gaugeWords_chv {s} : State.chv (State.gaugeWords s) = State.chv s := by
  unfold State.gaugeWords; simp (maxDischargeDepth := 60) [State.chv_mk, State.chv_fold, *]
@[simp] theorem State.restCorrect_chv {s e1 soc} : State.chv (State.restCorrect s e1 soc) = State.chv s := by
  unfold State.restCorrect
  extract_lets v0 v1 v2
  clear_value v0
  have h_v1 : State.chv v1 = State.chv s := by subst v1; simp (maxDischargeDepth := 60) [State.chv_mk, State.chv_fold, *]
  clear_value v1
  have h_v2 : State.chv v2 = State.chv s := by subst v2; simp (maxDischargeDepth := 60) [State.chv_mk, State.chv_fold, *]
  clear_value v2
  simp (maxDischargeDepth := 60) [State.chv_mk, State.chv_fold, *]
@[simp] theorem State.norefDecay_chv {s} : State.chv (State.norefDecay s) = State.chv s := by
  unfold State.norefDecay; simp (maxDischargeDepth := 60) [State.chv_mk, State.chv_fold, *]
@[simp] theorem State.gaugeMinute_chv {s} : State.chv (State.gaugeMinute s) = State.chv s := by
  unfold State.gaugeMinute; simp (maxDischargeDepth := 60) [State.chv_mk, State.chv_fold, *]
@[simp] theorem State.relearn_chv {s soc} : State.chv (State.relearn s soc) = State.chv s := by
  unfold State.relearn; (repeat' split) <;> simp (maxDischargeDepth := 60) [State.chv_mk, State.chv_fold, *]
@[simp] theorem State.gaugeRestore_chv {s crc} : State.chv (State.gaugeRestore s crc) = State.chv s := by
  unfold State.gaugeRestore; simp (maxDischargeDepth := 60) [State.chv_mk, State.chv_fold, *]
@[simp] theorem State.huFltWrite_chv {s val} : State.chv (State.huFltWrite s val) = State.chv s := by
  unfold State.huFltWrite; (repeat' split) <;> simp (maxDischargeDepth := 60) [State.chv_mk, State.chv_fold, *]

/-! Machine/Ledger.lean -/

@[simp] theorem State.setScales_chv {s x} : State.chv (State.setScales s x) = State.chv s := by
  unfold State.setScales
  extract_lets v0 v1
  have h_v0 : State.chv v0 = State.chv s := by subst v0; simp (maxDischargeDepth := 60) [State.chv_mk, State.chv_fold, *]
  clear_value v0
  have h_v1 : State.chv v1 = State.chv s := by subst v1; simp (maxDischargeDepth := 60) [State.chv_mk, State.chv_fold, *]
  clear_value v1
  simp (maxDischargeDepth := 60) [State.chv_mk, State.chv_fold, *]
@[simp] theorem State.ledgerBreach_chv {s x y} : State.chv (State.ledgerBreach s x y) = State.chv s := by
  unfold State.ledgerBreach
  extract_lets v0 v1 v2
  clear_value v0
  clear_value v1
  have h_v2 : State.chv v2 = State.chv s := by subst v2; simp (maxDischargeDepth := 60) [State.chv_mk, State.chv_fold, *]
  clear_value v2
  simp (maxDischargeDepth := 60) [State.chv_mk, State.chv_fold, *]
@[simp] theorem State.ledgerFlags_chv {s x y} : State.chv (State.ledgerFlags s x y) = State.chv s := by
  unfold State.ledgerFlags
  extract_lets v0 v1 v2 v3 v4 v5 v6
  clear_value v0
  have h_v1 : State.chv v1 = State.chv s := by subst v1; simp (maxDischargeDepth := 60) [State.chv_mk, State.chv_fold, *]
  clear_value v1
  have h_v2 : State.chv v2 = State.chv s := by subst v2; simp (maxDischargeDepth := 60) [State.chv_mk, State.chv_fold, *]
  clear_value v2
  have h_v3 : State.chv v3 = State.chv s := by subst v3; simp (maxDischargeDepth := 60) [State.chv_mk, State.chv_fold, *]
  clear_value v3
  have h_v4 : State.chv v4 = State.chv s := by subst v4; simp (maxDischargeDepth := 60) [State.chv_mk, State.chv_fold, *]
  clear_value v4
  have h_v5 : State.chv v5 = State.chv s := by subst v5; simp (maxDischargeDepth := 60) [State.chv_mk, State.chv_fold, *]
  clear_value v5
  have h_v6 : State.chv v6 = State.chv s := by subst v6; simp (maxDischargeDepth := 60) [State.chv_mk, State.chv_fold, *]
  clear_value v6
  simp (maxDischargeDepth := 60) [State.chv_mk, State.chv_fold, *]
@[simp] theorem State.ledgerSecond_chv {s at_ nthr} : State.chv (State.ledgerSecond s at_ nthr) = State.chv s := by
  unfold State.ledgerSecond
  extract_lets v0 v1 v2 v3
  clear_value v0
  clear_value v1
  clear_value v2
  have h_v3 : State.chv v3 = State.chv s := by subst v3; simp (maxDischargeDepth := 60) [State.chv_mk, State.chv_fold, *]
  clear_value v3
  simp (maxDischargeDepth := 60) [State.chv_mk, State.chv_fold, *]
@[simp] theorem State.ledgerAdd_chv {s l x y net} : State.chv (State.ledgerAdd s l x y net) = State.chv s := by
  unfold State.ledgerAdd; simp (maxDischargeDepth := 60) [State.chv_mk, State.chv_fold, *]
@[simp] theorem State.ledgerClose_chv {s} : State.chv (State.ledgerClose s) = State.chv s := by
  unfold State.ledgerClose; simp (maxDischargeDepth := 60) [State.chv_mk, State.chv_fold, *]

/-! Machine/AuxConv.lean -/

@[simp] theorem State.modAx_chv {s j g} : State.chv (State.modAx s j g) = State.chv s := by
  unfold State.modAx; simp (maxDischargeDepth := 60) [State.chv_mk, State.chv_fold, *]
@[simp] theorem State.axEnable_chv {s j} : State.chv (State.axEnable s j) = State.chv s := by
  unfold State.axEnable; simp (maxDischargeDepth := 60) [State.chv_mk, State.chv_fold, *]
@[simp] theorem State.axDisable_chv {s j} : State.chv (State.axDisable s j) = State.chv s := by
  unfold State.axDisable; simp (maxDischargeDepth := 60) [State.chv_mk, State.chv_fold, *]
@[simp] theorem State.auxFault_chv {s j bit} : State.chv (State.auxFault s j bit) = State.chv s := by
  unfold State.auxFault
  extract_lets v0
  have h_v0 : State.chv v0 = State.chv s := by subst v0; simp (maxDischargeDepth := 60) [State.chv_mk, State.chv_fold, *]
  clear_value v0
  simp (maxDischargeDepth := 60) [State.chv_mk, State.chv_fold, *]
@[simp] theorem State.auxHiccup_chv {s j} : State.chv (State.auxHiccup s j) = State.chv s := by
  unfold State.auxHiccup; simp (maxDischargeDepth := 60) [State.chv_mk, State.chv_fold, *]
@[simp] theorem State.axLegs_chv {s} : State.chv (State.axLegs s) = State.chv s := by
  unfold State.axLegs; simp (maxDischargeDepth := 60) [State.chv_mk, State.chv_fold, *]
@[simp] theorem State.axSoft_chv {s j mv} : State.chv (State.axSoft s j mv) = State.chv s := by
  unfold State.axSoft
  extract_lets v0 v1 v2
  clear_value v0
  clear_value v1
  have h_v2 : State.chv v2 = State.chv s := by subst v2; simp (maxDischargeDepth := 60) [State.chv_mk, State.chv_fold, *]
  clear_value v2
  simp (maxDischargeDepth := 60) [State.chv_mk, State.chv_fold, *]
@[simp] theorem State.axRegulate_chv {s j fb} : State.chv (State.axRegulate s j fb) = State.chv s := by
  unfold State.axRegulate; simp (maxDischargeDepth := 60) [State.chv_mk, State.chv_fold, *]
@[simp] theorem State.axShed_chv {s j shunt} : State.chv (State.axShed s j shunt) = State.chv s := by
  unfold State.axShed; simp (maxDischargeDepth := 60) [State.chv_mk, State.chv_fold, *]
@[simp] theorem State.axMeter_chv {s j inp} : State.chv (State.axMeter s j inp) = State.chv s := by
  unfold State.axMeter; simp (maxDischargeDepth := 60) [State.chv_mk, State.chv_fold, *]
@[simp] theorem State.axFloor_chv {s} : State.chv (State.axFloor s) = State.chv s := by
  unfold State.axFloor; simp (maxDischargeDepth := 60) [State.chv_mk, State.chv_fold, *]
@[simp] theorem State.axCycles_chv {s j phB} : State.chv (State.axCycles s j phB) = State.chv s := by
  unfold State.axCycles; dsimp only; (repeat' split) <;> simp +contextual (maxDischargeDepth := 60) [State.chv_mk, State.chv_fold, *]
@[simp] theorem State.axWatch_chv {s j lim} : State.chv (State.axWatch s j lim) = State.chv s := by
  unfold State.axWatch
  extract_lets v0 v1 v2 v3
  clear_value v0
  clear_value v1
  clear_value v2
  have h_v3 : State.chv v3 = State.chv s := by subst v3; simp (maxDischargeDepth := 60) [State.chv_mk, State.chv_fold, *]
  clear_value v3
  simp (maxDischargeDepth := 60) [State.chv_mk, State.chv_fold, *]
@[simp] theorem State.axBoundary_chv {s j inp} : State.chv (State.axBoundary s j inp) = State.chv s := by
  unfold State.axBoundary
  extract_lets v0
  have h_v0 : State.chv v0 = State.chv s := by subst v0; simp (maxDischargeDepth := 60) [State.chv_mk, State.chv_fold, *]
  clear_value v0
  ((repeat' split) <;> (try extract_lets) <;> simp (maxDischargeDepth := 60) +zetaDelta [State.chv_mk, State.chv_fold, *])
@[simp] theorem State.axFltWrite_chv {s j val} : State.chv (State.axFltWrite s j val) = State.chv s := by
  unfold State.axFltWrite; (repeat' split) <;> simp (maxDischargeDepth := 60) [State.chv_mk, State.chv_fold, *]

/-! Machine/Tray.lean -/

@[simp] theorem State.modAl_chv {s k g} : State.chv (State.modAl s k g) = State.chv s := by
  unfold State.modAl; simp (maxDischargeDepth := 60) [State.chv_mk, State.chv_fold, *]
@[simp] theorem State.alTake_chv {s k} : State.chv (State.alTake s k) = State.chv s := by
  unfold State.alTake; simp (maxDischargeDepth := 60) [State.chv_mk, State.chv_fold, *]
@[simp] theorem State.alSetpoint_chv {s k inp} : State.chv (State.alSetpoint s k inp) = State.chv s := by
  unfold State.alSetpoint; simp (maxDischargeDepth := 60) [State.chv_mk, State.chv_fold, *]
@[simp] theorem State.alOut_chv {s k o} : State.chv (State.alOut s k o) = State.chv s := by
  unfold State.alOut; simp (maxDischargeDepth := 60) [State.chv_mk, State.chv_fold, *]
@[simp] theorem State.alPid_chv {s k pv} : State.chv (State.alPid s k pv) = State.chv s := by
  unfold State.alPid
  extract_lets v0 v1 v2 v3 v4 v5 v6 v7 v8 v9 v10 v11
  clear_value v0
  clear_value v1
  clear_value v2
  clear_value v3
  clear_value v4
  clear_value v5
  clear_value v6
  clear_value v7
  clear_value v8
  clear_value v9
  clear_value v10
  have h_v11 : State.chv v11 = State.chv s := by subst v11; simp (maxDischargeDepth := 60) [State.chv_mk, State.chv_fold, *]
  clear_value v11
  simp (maxDischargeDepth := 60) [State.chv_mk, State.chv_fold, *]
@[simp] theorem State.alManual_chv {s k pv} : State.chv (State.alManual s k pv) = State.chv s := by
  unfold State.alManual
  extract_lets v0 v1 v2 v3
  clear_value v0
  clear_value v1
  clear_value v2
  have h_v3 : State.chv v3 = State.chv s := by subst v3; simp (maxDischargeDepth := 60) [State.chv_mk, State.chv_fold, *]
  clear_value v3
  simp (maxDischargeDepth := 60) [State.chv_mk, State.chv_fold, *]
@[simp] theorem State.tuneFail_chv {s k} : State.chv (State.tuneFail s k) = State.chv s := by
  unfold State.tuneFail; simp (maxDischargeDepth := 60) [State.chv_mk, State.chv_fold, *]
@[simp] theorem State.tuneResume_chv {s k} : State.chv (State.tuneResume s k) = State.chv s := by
  unfold State.tuneResume; simp (maxDischargeDepth := 60) [State.chv_mk, State.chv_fold, *]
@[simp] theorem State.alFail_chv {s k} : State.chv (State.alFail s k) = State.chv s := by
  unfold State.alFail
  extract_lets v0
  have h_v0 : State.chv v0 = State.chv s := by subst v0; simp (maxDischargeDepth := 60) [State.chv_mk, State.chv_fold, *]
  clear_value v0
  simp (maxDischargeDepth := 60) [State.chv_mk, State.chv_fold, *]
@[simp] theorem State.tuneDone_chv {s k p1 p2 a1 a2} : State.chv (State.tuneDone s k p1 p2 a1 a2) = State.chv s := by
  unfold State.tuneDone; simp (maxDischargeDepth := 60) [State.chv_mk, State.chv_fold, *]
@[simp] theorem State.alTune_chv {s k pv t} : State.chv (State.alTune s k pv t) = State.chv s := by
  unfold State.alTune
  extract_lets v0 v1 v2 v3 v4 v5 v6 v7 v8 v9
  clear_value v0
  clear_value v1
  clear_value v2
  clear_value v3
  clear_value v4
  clear_value v5
  clear_value v6
  clear_value v7
  have h_v8 : State.chv v8 = State.chv s := by subst v8; simp (maxDischargeDepth := 60) [State.chv_mk, State.chv_fold, *]
  clear_value v8
  have h_v9 : State.chv v9 = State.chv s := by subst v9; simp (maxDischargeDepth := 60) [State.chv_mk, State.chv_fold, *]
  clear_value v9
  ((repeat' split) <;> simp (maxDischargeDepth := 60) [State.chv_mk, State.chv_fold, *])
@[simp] theorem State.alRun_chv {s k pv} : State.chv (State.alRun s k pv) = State.chv s := by
  unfold State.alRun; (repeat' split) <;> simp (maxDischargeDepth := 60) [State.chv_mk, State.chv_fold, *]
@[simp] theorem State.alCount_chv {s k c} : State.chv (State.alCount s k c) = State.chv s := by
  unfold State.alCount; simp (maxDischargeDepth := 60) [State.chv_mk, State.chv_fold, *]
@[simp] theorem State.alIdle_chv {s k} : State.chv (State.alIdle s k) = State.chv s := by
  unfold State.alIdle
  extract_lets v0
  have h_v0 : State.chv v0 = State.chv s := by subst v0; simp (maxDischargeDepth := 60) [State.chv_mk, State.chv_fold, *]
  clear_value v0
  simp (maxDischargeDepth := 60) [State.chv_mk, State.chv_fold, *]
@[simp] theorem State.tuneStart_chv {s k} : State.chv (State.tuneStart s k) = State.chv s := by
  unfold State.tuneStart; simp (maxDischargeDepth := 60) [State.chv_mk, State.chv_fold, *]
@[simp] theorem State.tuneAbort_chv {s k} : State.chv (State.tuneAbort s k) = State.chv s := by
  unfold State.tuneAbort; simp (maxDischargeDepth := 60) [State.chv_mk, State.chv_fold, *]

/-! Machine/Clocks.lean -/

@[simp] theorem State.setJudge_chv {s c j} : State.chv (State.setJudge s c j) = State.chv s := by
  unfold State.setJudge; simp (maxDischargeDepth := 60) [State.chv_mk, State.chv_fold, *]
@[simp] theorem State.startJudge_chv {s c} : State.chv (State.startJudge s c) = State.chv s := by
  unfold State.startJudge; simp (maxDischargeDepth := 60) [State.chv_mk, State.chv_fold, *]
@[simp] theorem State.relock_chv {s p} : State.chv (State.relock s p) = State.chv s := by
  unfold State.relock; simp (maxDischargeDepth := 60) [State.chv_mk, State.chv_fold, *]
@[simp] theorem State.clockStable_chv {s c} : State.chv (State.clockStable s c) = State.chv s := by
  unfold State.clockStable
  extract_lets v0
  have h_v0 : State.chv v0 = State.chv s := by subst v0; simp (maxDischargeDepth := 60) [State.chv_mk, State.chv_fold, *]
  clear_value v0
  ((repeat' split) <;> (try extract_lets) <;> simp (maxDischargeDepth := 60) +zetaDelta [State.chv_mk, State.chv_fold, *])
@[simp] theorem State.judgeFailed_chv {s c} : State.chv (State.judgeFailed s c) = State.chv s := by
  unfold State.judgeFailed; (repeat' split) <;> simp (maxDischargeDepth := 60) [State.chv_mk, State.chv_fold, *]
@[simp] theorem State.slewEnd_chv {s} : State.chv (State.slewEnd s) = State.chv s := by
  unfold State.slewEnd
  extract_lets v0
  have h_v0 : State.chv v0 = State.chv s := by subst v0; simp (maxDischargeDepth := 60) [State.chv_mk, State.chv_fold, *]
  clear_value v0
  simp (maxDischargeDepth := 60) [State.chv_mk, State.chv_fold, *]
@[simp] theorem State.slewStart_chv {s e stamp} : State.chv (State.slewStart s e stamp) = State.chv s := by
  unfold State.slewStart
  extract_lets v0 v1 v2 v3
  clear_value v0
  clear_value v1
  clear_value v2
  have h_v3 : State.chv v3 = State.chv s := by subst v3; simp (maxDischargeDepth := 60) [State.chv_mk, State.chv_fold, *]
  clear_value v3
  simp (maxDischargeDepth := 60) [State.chv_mk, State.chv_fold, *]
@[simp] theorem State.toHoldover_chv {s} : State.chv (State.toHoldover s) = State.chv s := by
  unfold State.toHoldover; simp (maxDischargeDepth := 60) [State.chv_mk, State.chv_fold, *]
@[simp] theorem State.coast_chv {s p sev} : State.chv (State.coast s p sev) = State.chv s := by
  unfold State.coast
  extract_lets v0
  have h_v0 : State.chv v0 = State.chv s := by subst v0; simp (maxDischargeDepth := 60) [State.chv_mk, State.chv_fold, *]
  clear_value v0
  simp (maxDischargeDepth := 60) [State.chv_mk, State.chv_fold, *]
@[simp] theorem State.linkTo_chv {s p up} : State.chv (State.linkTo s p up) = State.chv s := by
  unfold State.linkTo; simp (maxDischargeDepth := 60) [State.chv_mk, State.chv_fold, *]
@[simp] theorem State.trimTake_chv {s count} : State.chv (State.trimTake s count) = State.chv s := by
  unfold State.trimTake; simp (maxDischargeDepth := 60) [State.chv_mk, State.chv_fold, *]
@[simp] theorem State.counterRun_chv {s dt} : State.chv (State.counterRun s dt) = State.chv s := by
  unfold State.counterRun; simp (maxDischargeDepth := 60) [State.chv_mk, State.chv_fold, *]
@[simp] theorem State.levelTo_chv {s level} : State.chv (State.levelTo s level) = State.chv s := by
  unfold State.levelTo; (repeat' split) <;> simp (maxDischargeDepth := 60) [State.chv_mk, State.chv_fold, *]
@[simp] theorem State.askRaise_chv {s} : State.chv (State.askRaise s) = State.chv s := by
  unfold State.askRaise; simp (maxDischargeDepth := 60) [State.chv_mk, State.chv_fold, *]
@[simp] theorem State.compatFail_chv {s k} : State.chv (State.compatFail s k) = State.chv s := by
  unfold State.compatFail
  extract_lets v0
  have h_v0 : State.chv v0 = State.chv s := by subst v0; simp (maxDischargeDepth := 60) [State.chv_mk, State.chv_fold, *]
  clear_value v0
  ((repeat' split) <;> (try extract_lets) <;> simp (maxDischargeDepth := 60) +zetaDelta [State.chv_mk, State.chv_fold, *])
@[simp] theorem State.compatDone_chv {s level} : State.chv (State.compatDone s level) = State.chv s := by
  unfold State.compatDone; simp (maxDischargeDepth := 60) [State.chv_mk, State.chv_fold, *]
@[simp] theorem State.compatBoundary_chv {s} : State.chv (State.compatBoundary s) = State.chv s := by
  unfold State.compatBoundary; (repeat' split) <;> simp (maxDischargeDepth := 60) [State.chv_mk, State.chv_fold, *]
@[simp] theorem State.timeSet_chv {s val} : State.chv (State.timeSet s val) = State.chv s := by
  unfold State.timeSet; simp (maxDischargeDepth := 60) [State.chv_mk, State.chv_fold, *]
@[simp] theorem State.ppsCorrect_chv {s} : State.chv (State.ppsCorrect s) = State.chv s := by
  unfold State.ppsCorrect; simp (maxDischargeDepth := 60) [State.chv_mk, State.chv_fold, *]
@[simp] theorem State.ppsTrack_chv {s e} : State.chv (State.ppsTrack s e) = State.chv s := by
  unfold State.ppsTrack; simp (maxDischargeDepth := 60) [State.chv_mk, State.chv_fold, *]
@[simp] theorem State.ppsAcquire_chv {s e stamp} : State.chv (State.ppsAcquire s e stamp) = State.chv s := by
  unfold State.ppsAcquire; simp (maxDischargeDepth := 60) [State.chv_mk, State.chv_fold, *]
@[simp] theorem State.ppsQualified_chv {s e stamp} : State.chv (State.ppsQualified s e stamp) = State.chv s := by
  unfold State.ppsQualified; (repeat' split) <;> simp (maxDischargeDepth := 60) [State.chv_mk, State.chv_fold, *]
@[simp] theorem State.ppsOutside_chv {s e} : State.chv (State.ppsOutside s e) = State.chv s := by
  unfold State.ppsOutside; simp (maxDischargeDepth := 60) [State.chv_mk, State.chv_fold, *]
@[simp] theorem State.ppsFree_chv {s} : State.chv (State.ppsFree s) = State.chv s := by
  unfold State.ppsFree; simp (maxDischargeDepth := 60) [State.chv_mk, State.chv_fold, *]
@[simp] theorem State.stepCounter_chv {s d} : State.chv (State.stepCounter s d) = State.chv s := by
  unfold State.stepCounter; simp (maxDischargeDepth := 60) [State.chv_mk, State.chv_fold, *]
@[simp] theorem State.servoStep_chv {s} : State.chv (State.servoStep s) = State.chv s := by
  unfold State.servoStep; (repeat' split) <;> simp (maxDischargeDepth := 60) [State.chv_mk, State.chv_fold, *]
@[simp] theorem State.tsetStep_chv {s} : State.chv (State.tsetStep s) = State.chv s := by
  unfold State.tsetStep; dsimp only; (repeat' split) <;> simp +contextual (maxDischargeDepth := 60) [State.chv_mk, State.chv_fold, *]
@[simp] theorem State.clockBoundary_chv {s} : State.chv (State.clockBoundary s) = State.chv s := by
  unfold State.clockBoundary
  extract_lets v0
  have h_v0 : State.chv v0 = State.chv s := by subst v0; simp (maxDischargeDepth := 60) [State.chv_mk, State.chv_fold, *]
  clear_value v0
  ((repeat' split) <;> (try extract_lets) <;> simp (maxDischargeDepth := 60) +zetaDelta [State.chv_mk, State.chv_fold, *])

/-! Machine/Vault.lean -/

@[simp] theorem State.vaultMerge_chv {s r last count rest} : State.chv (State.vaultMerge s r last count rest) = State.chv s := by
  unfold State.vaultMerge
  extract_lets v0 v1 v2
  clear_value v0
  have h_v1 : State.chv v1 = State.chv s := by subst v1; simp (maxDischargeDepth := 60) [State.chv_mk, State.chv_fold, *]
  clear_value v1
  have h_v2 : State.chv v2 = State.chv s := by subst v2; simp (maxDischargeDepth := 60) [State.chv_mk, State.chv_fold, *]
  clear_value v2
  simp (maxDischargeDepth := 60) [State.chv_mk, State.chv_fold, *]
@[simp] theorem State.vaultNew_chv {s r rest} : State.chv (State.vaultNew s r rest) = State.chv s := by
  unfold State.vaultNew; simp (maxDischargeDepth := 60) [State.chv_mk, State.chv_fold, *]
@[simp] theorem State.vaultTake_chv {s} : State.chv (State.vaultTake s) = State.chv s := by
  unfold State.vaultTake; (repeat' split) <;> simp (maxDischargeDepth := 60) [State.chv_mk, State.chv_fold, *]
@[simp] theorem State.vaultScan_chv {s} : State.chv (State.vaultScan s) = State.chv s := by
  unfold State.vaultScan
  extract_lets v0 v1 v2 v3
  clear_value v0
  clear_value v1
  clear_value v2
  have h_v3 : State.chv v3 = State.chv s := by subst v3; simp (maxDischargeDepth := 60) [State.chv_mk, State.chv_fold, *]
  clear_value v3
  simp (maxDischargeDepth := 60) [State.chv_mk, State.chv_fold, *]
@[simp] theorem State.vaultClear_chv {s} : State.chv (State.vaultClear s) = State.chv s := by
  unfold State.vaultClear; simp (maxDischargeDepth := 60) [State.chv_mk, State.chv_fold, *]
@[simp] theorem State.voidIf_chv {s k y2} : State.chv (State.voidIf s k y2) = State.chv s := by
  unfold State.voidIf
  split
  · exact State.putMemWord_chv
  · exact Eq.refl _
@[simp] theorem State.slotVoid_chv {s k} : State.chv (State.slotVoid s k) = State.chv s := by
  unfold State.slotVoid; simp (maxDischargeDepth := 60) [State.chv_mk, State.chv_fold, *]
@[simp] theorem State.atticDrain_chv {s} : State.chv (State.atticDrain s) = State.chv s := by
  unfold State.atticDrain; simp (maxDischargeDepth := 60) [State.chv_mk, State.chv_fold, *]
@[simp] theorem State.fill_chv {s a bs} : State.chv (State.fill s a bs) = State.chv s := by
  unfold State.fill; simp (maxDischargeDepth := 60) [State.chv_mk, State.chv_fold, *]
@[simp] theorem State.snapAtT_chv {s} : State.chv (State.snapAtT s) = State.chv s := by
  unfold State.snapAtT; (repeat' split) <;> simp (maxDischargeDepth := 60) [State.chv_mk, State.chv_fold, *]
@[simp] theorem State.slotWritten_chv {s sn} : State.chv (State.slotWritten s sn) = State.chv s := by
  unfold State.slotWritten
  extract_lets v0 v1 v2 v3 v4 v5
  clear_value v0
  clear_value v1
  clear_value v2
  have h_v3 : State.chv v3 = State.chv s := by subst v3; simp (maxDischargeDepth := 60) [State.chv_mk, State.chv_fold, *]
  clear_value v3
  clear_value v4
  clear_value v5
  simp (maxDischargeDepth := 60) [State.chv_mk, State.chv_fold, *]
@[simp] theorem State.slotRelease_chv {s k} : State.chv (State.slotRelease s k) = State.chv s := by
  unfold State.slotRelease; simp (maxDischargeDepth := 60) [State.chv_mk, State.chv_fold, *]

/-! Machine/Operands.lean -/

@[simp] theorem State.setPc_chv {s c v} : State.chv (State.setPc s c v) = State.chv s := by
  unfold State.setPc; (repeat' split) <;> simp (maxDischargeDepth := 60) [State.chv_mk, State.chv_fold, *]
@[simp] theorem State.advance_chv {s c} : State.chv (State.advance s c) = State.chv s := by
  unfold State.advance; simp (maxDischargeDepth := 60) [State.chv_mk, State.chv_fold, *]
@[simp] theorem State.setFlags_chv {s c v} : State.chv (State.setFlags s c v) = State.chv s := by
  unfold State.setFlags; (repeat' split) <;> simp (maxDischargeDepth := 60) [State.chv_mk, State.chv_fold, *]
@[simp] theorem State.setAlu_chv {s c o} : State.chv (State.setAlu s c o) = State.chv s := by
  unfold State.setAlu; simp (maxDischargeDepth := 60) [State.chv_mk, State.chv_fold, *]

/-! Machine/Gulgaub.lean -/

@[simp] theorem State.barEnd_chv {s b timeout} : State.chv (State.barEnd s b timeout) = State.chv s := by
  unfold State.barEnd; simp (maxDischargeDepth := 60) [State.chv_mk, State.chv_fold, *]

/-! Machine/Lantern.lean -/

@[simp] theorem State.laneRefs_chv {s r} : State.chv (State.laneRefs s r) = State.chv s := by
  unfold State.laneRefs; simp (maxDischargeDepth := 60) [State.chv_mk, State.chv_fold, *]
@[simp] theorem State.laneSelf_chv {s r} : State.chv (State.laneSelf s r) = State.chv s := by
  unfold State.laneSelf; (repeat' split) <;> simp (maxDischargeDepth := 60) [State.chv_mk, State.chv_fold, *]
@[simp] theorem State.beginSlot_chv {s v} : State.chv (State.beginSlot s v) = State.chv s := by
  unfold State.beginSlot; simp (maxDischargeDepth := 60) [State.chv_mk, State.chv_fold, *]
@[simp] theorem State.visitOver_chv {s} : State.chv (State.visitOver s) = State.chv s := by
  unfold State.visitOver; (repeat' split) <;> simp (maxDischargeDepth := 60) [State.chv_mk, State.chv_fold, *]
@[simp] theorem State.laneTake_chv {s} : State.chv (State.laneTake s) = State.chv s := by
  unfold State.laneTake; simp (maxDischargeDepth := 60) [State.chv_mk, State.chv_fold, *]
@[simp] theorem State.refStart_chv {s r} : State.chv (State.refStart s r) = State.chv s := by
  unfold State.refStart; simp (maxDischargeDepth := 60) [State.chv_mk, State.chv_fold, *]
@[simp] theorem State.laneRest_chv {s} : State.chv (State.laneRest s) = State.chv s := by
  unfold State.laneRest; simp (maxDischargeDepth := 60) [State.chv_mk, State.chv_fold, *]
@[simp] theorem State.laneOff_chv {s} : State.chv (State.laneOff s) = State.chv s := by
  unfold State.laneOff
  extract_lets v0
  have h_v0 : State.chv v0 = State.chv s := by subst v0; simp (maxDischargeDepth := 60) [State.chv_mk, State.chv_fold, *]
  clear_value v0
  simp (maxDischargeDepth := 60) [State.chv_mk, State.chv_fold, *]
@[simp] theorem State.tourEnds_chv {s} : State.chv (State.tourEnds s) = State.chv s := by
  unfold State.tourEnds; (repeat' split) <;> simp (maxDischargeDepth := 60) [State.chv_mk, State.chv_fold, *]
@[simp] theorem State.laneAgain_chv {s n reps confirm} : State.chv (State.laneAgain s n reps confirm) = State.chv s := by
  unfold State.laneAgain; (repeat' split) <;> simp (maxDischargeDepth := 60) [State.chv_mk, State.chv_fold, *]
@[simp] theorem State.laneCount_chv {s v} : State.chv (State.laneCount s v) = State.chv s := by
  unfold State.laneCount; simp (maxDischargeDepth := 60) [State.chv_mk, State.chv_fold, *]
@[simp] theorem State.laneReport_chv {s v a b} : State.chv (State.laneReport s v a b) = State.chv s := by
  unfold State.laneReport
  extract_lets v0 v1 v2 v3 v4 v5 v6
  clear_value v0
  clear_value v1
  clear_value v2
  have h_v3 : State.chv v3 = State.chv s := by subst v3; simp (maxDischargeDepth := 60) [State.chv_mk, State.chv_fold, *]
  clear_value v3
  have h_v4 : State.chv v4 = State.chv s := by subst v4; simp (maxDischargeDepth := 60) [State.chv_mk, State.chv_fold, *]
  clear_value v4
  have h_v5 : State.chv v5 = State.chv s := by subst v5; simp (maxDischargeDepth := 60) [State.chv_mk, State.chv_fold, *]
  clear_value v5
  have h_v6 : State.chv v6 = State.chv s := by subst v6; simp (maxDischargeDepth := 60) [State.chv_mk, State.chv_fold, *]
  clear_value v6
  simp (maxDischargeDepth := 60) [State.chv_mk, State.chv_fold, *]
@[simp] theorem State.laneKeep_chv {s v a b} : State.chv (State.laneKeep s v a b) = State.chv s := by
  unfold State.laneKeep; simp (maxDischargeDepth := 60) [State.chv_mk, State.chv_fold, *]
@[simp] theorem State.commitFix_chv {s f} : State.chv (State.commitFix s f) = State.chv s := by
  unfold State.commitFix
  extract_lets v0 v1 v2
  clear_value v0
  clear_value v1
  have h_v2 : State.chv v2 = State.chv s := by subst v2; simp (maxDischargeDepth := 60) [State.chv_mk, State.chv_fold, *]
  clear_value v2
  simp (maxDischargeDepth := 60) [State.chv_mk, State.chv_fold, *]
@[simp] theorem State.histFix_chv {s f} : State.chv (State.histFix s f) = State.chv s := by
  unfold State.histFix; simp (maxDischargeDepth := 60) [State.chv_mk, State.chv_fold, *]
@[simp] theorem State.laneDropped_chv {s} : State.chv (State.laneDropped s) = State.chv s := by
  unfold State.laneDropped; simp (maxDischargeDepth := 60) [State.chv_mk, State.chv_fold, *]
@[simp] theorem State.laneAbandon_chv {s} : State.chv (State.laneAbandon s) = State.chv s := by
  unfold State.laneAbandon; (repeat' split) <;> simp (maxDischargeDepth := 60) [State.chv_mk, State.chv_fold, *]
@[simp] theorem State.dirtyRegion_chv {s r} : State.chv (State.dirtyRegion s r) = State.chv s := by
  unfold State.dirtyRegion; simp (maxDischargeDepth := 60) [State.chv_mk, State.chv_fold, *]
@[simp] theorem State.adoptStart_chv {s} : State.chv (State.adoptStart s) = State.chv s := by
  unfold State.adoptStart; simp (maxDischargeDepth := 60) [State.chv_mk, State.chv_fold, *]
@[simp] theorem State.adoptEnable_chv {s n} : State.chv (State.adoptEnable s n) = State.chv s := by
  unfold State.adoptEnable; simp (maxDischargeDepth := 60) [State.chv_mk, State.chv_fold, *]
@[simp] theorem State.adoptRelease_chv {s} : State.chv (State.adoptRelease s) = State.chv s := by
  unfold State.adoptRelease; simp (maxDischargeDepth := 60) [State.chv_mk, State.chv_fold, *]
@[simp] theorem State.refBoundary_chv {s} : State.chv (State.refBoundary s) = State.chv s := by
  unfold State.refBoundary; (repeat' split) <;> simp (maxDischargeDepth := 60) [State.chv_mk, State.chv_fold, *]
@[simp] theorem State.laneWake_chv {s} : State.chv (State.laneWake s) = State.chv s := by
  unfold State.laneWake; simp (maxDischargeDepth := 60) [State.chv_mk, State.chv_fold, *]

/-! Machine/Spare.lean -/

@[simp] theorem State.noteTest_chv {s c pass cover} : State.chv (State.noteTest s c pass cover) = State.chv s := by
  unfold State.noteTest; simp (maxDischargeDepth := 60) [State.chv_mk, State.chv_fold, *]
@[simp] theorem State.startLbist_chv {s c} : State.chv (State.startLbist s c) = State.chv s := by
  unfold State.startLbist; simp (maxDischargeDepth := 60) [State.chv_mk, State.chv_fold, *]
@[simp] theorem State.retire_chv {s c} : State.chv (State.retire s c) = State.chv s := by
  unfold State.retire
  extract_lets v0 v1
  have h_v0 : State.chv v0 = State.chv s := by subst v0; simp (maxDischargeDepth := 60) [State.chv_mk, State.chv_fold, *]
  clear_value v0
  have h_v1 : State.chv v1 = State.chv s := by subst v1; simp (maxDischargeDepth := 60) [State.chv_mk, State.chv_fold, *]
  clear_value v1
  simp (maxDischargeDepth := 60) [State.chv_mk, State.chv_fold, *]
@[simp] theorem State.handOver_chv {s k c} : State.chv (State.handOver s k c) = State.chv s := by
  unfold State.handOver; simp (maxDischargeDepth := 60) [State.chv_mk, State.chv_fold, *]
@[simp] theorem State.rotNow_chv {s} : State.chv (State.rotNow s) = State.chv s := by
  unfold State.rotNow; simp (maxDischargeDepth := 60) [State.chv_mk, State.chv_fold, *]
@[simp] theorem State.retGo_chv {s k} : State.chv (State.retGo s k) = State.chv s := by
  unfold State.retGo; (repeat' split) <;> simp (maxDischargeDepth := 60) [State.chv_mk, State.chv_fold, *]
@[simp] theorem State.spareBoundary_chv {s} : State.chv (State.spareBoundary s) = State.chv s := by
  unfold State.spareBoundary; simp (maxDischargeDepth := 60) [State.chv_mk, State.chv_fold, *]

/-! Machine/Metric.lean -/

@[simp] theorem State.ocvShow_chv {s n o} : State.chv (State.ocvShow s n o) = State.chv s := by
  unfold State.ocvShow; simp (maxDischargeDepth := 60) [State.chv_mk, State.chv_fold, *]

/-! Machine/Program.lean -/

@[simp] theorem State.storeWrite_chv {s addr vals} : State.chv (State.storeWrite s addr vals) = State.chv s := by
  unfold State.storeWrite; simp (maxDischargeDepth := 60) [State.chv_mk, State.chv_fold, *]
@[simp] theorem State.progWriteReg_chv {s r stopped val} : State.chv (State.progWriteReg s r stopped val) = State.chv s := by
  unfold State.progWriteReg; simp (maxDischargeDepth := 60) [State.chv_mk, State.chv_fold, *]
@[simp] theorem State.bankBoundary_chv {s} : State.chv (State.bankBoundary s) = State.chv s := by
  unfold State.bankBoundary
  extract_lets v0
  have h_v0 : State.chv v0 = State.chv s := by subst v0; simp (maxDischargeDepth := 60) [State.chv_mk, State.chv_fold, *]
  clear_value v0
  simp (maxDischargeDepth := 60) [State.chv_mk, State.chv_fold, *]
@[simp] theorem State.startRefuse_chv {s n} : State.chv (State.startRefuse s n) = State.chv s := by
  unfold State.startRefuse
  extract_lets v0
  have h_v0 : State.chv v0 = State.chv s := by subst v0; simp (maxDischargeDepth := 60) [State.chv_mk, State.chv_fold, *]
  clear_value v0
  simp (maxDischargeDepth := 60) [State.chv_mk, State.chv_fold, *]

/-! Machine/Link.lean -/

@[simp] theorem State.modSess_chv {s k f} : State.chv (State.modSess s k f) = State.chv s := by
  unfold State.modSess; simp (maxDischargeDepth := 60) [State.chv_mk, State.chv_fold, *]
@[simp] theorem State.closeSess_chv {s k} : State.chv (State.closeSess s k) = State.chv s := by
  unfold State.closeSess; simp (maxDischargeDepth := 60) [State.chv_mk, State.chv_fold, *]
@[simp] theorem State.transmit_chv {s f} : State.chv (State.transmit s f) = State.chv s := by
  unfold State.transmit; (repeat' split) <;> simp (maxDischargeDepth := 60) [State.chv_mk, State.chv_fold, *]
@[simp] theorem State.modRate_chv {s f} : State.chv (State.modRate s f) = State.chv s := by
  unfold State.modRate; simp (maxDischargeDepth := 60) [State.chv_mk, State.chv_fold, *]
@[simp] theorem State.rateFrames_chv {s op} : State.chv (State.rateFrames s op) = State.chv s := by
  unfold State.rateFrames; simp (maxDischargeDepth := 60) [State.chv_mk, State.chv_fold, *]
@[simp] theorem State.decDue_chv {s} : State.chv (State.decDue s) = State.chv s := by
  unfold State.decDue; simp (maxDischargeDepth := 60) [State.chv_mk, State.chv_fold, *]
@[simp] theorem State.rateSwitch_chv {s} : State.chv (State.rateSwitch s) = State.chv s := by
  unfold State.rateSwitch
  extract_lets v0 v1 v2
  clear_value v0
  have h_v1 : State.chv v1 = State.chv s := by subst v1; simp (maxDischargeDepth := 60) [State.chv_mk, State.chv_fold, *]
  clear_value v1
  have h_v2 : State.chv v2 = State.chv s := by subst v2; simp (maxDischargeDepth := 60) [State.chv_mk, State.chv_fold, *]
  clear_value v2
  simp (maxDischargeDepth := 60) [State.chv_mk, State.chv_fold, *]
@[simp] theorem State.propose_chv {s la lb restore} : State.chv (State.propose s la lb restore) = State.chv s := by
  unfold State.propose
  extract_lets v0
  have h_v0 : State.chv v0 = State.chv s := by subst v0; simp (maxDischargeDepth := 60) [State.chv_mk, State.chv_fold, *]
  clear_value v0
  simp (maxDischargeDepth := 60) [State.chv_mk, State.chv_fold, *]
@[simp] theorem State.proposeSleep_chv {s} : State.chv (State.proposeSleep s) = State.chv s := by
  unfold State.proposeSleep; simp (maxDischargeDepth := 60) [State.chv_mk, State.chv_fold, *]
@[simp] theorem State.proposeRestore_chv {s} : State.chv (State.proposeRestore s) = State.chv s := by
  unfold State.proposeRestore; simp (maxDischargeDepth := 60) [State.chv_mk, State.chv_fold, *]
@[simp] theorem State.rateExit_chv {s} : State.chv (State.rateExit s) = State.chv s := by
  unfold State.rateExit; (repeat' split) <;> simp (maxDischargeDepth := 60) [State.chv_mk, State.chv_fold, *]
@[simp] theorem State.rateControl_chv {s k op} : State.chv (State.rateControl s k op) = State.chv s := by
  unfold State.rateControl; simp (maxDischargeDepth := 60) [State.chv_mk, State.chv_fold, *]
@[simp] theorem State.portWrite_chv {s r p val} : State.chv (State.portWrite s r p val) = State.chv s := by
  unfold State.portWrite
  extract_lets v0
  have h_v0 : State.chv v0 = State.chv s := by subst v0; simp (maxDischargeDepth := 60) [State.chv_mk, State.chv_fold, *]
  clear_value v0
  ((repeat' split) <;> (try extract_lets) <;> simp (maxDischargeDepth := 60) +zetaDelta [State.chv_mk, State.chv_fold, *])
@[simp] theorem State.sendEvent_chv {s k f} : State.chv (State.sendEvent s k f) = State.chv s := by
  unfold State.sendEvent; simp (maxDischargeDepth := 60) [State.chv_mk, State.chv_fold, *]
@[simp] theorem State.streamSeqNext_chv {s st} : State.chv (State.streamSeqNext s st) = State.chv s := by
  unfold State.streamSeqNext; simp (maxDischargeDepth := 60) [State.chv_mk, State.chv_fold, *]
@[simp] theorem State.sendStream_chv {s st index body} : State.chv (State.sendStream s st index body) = State.chv s := by
  unfold State.sendStream; (repeat' split) <;> simp (maxDischargeDepth := 60) [State.chv_mk, State.chv_fold, *]
@[simp] theorem State.sendInstant_chv {s st stamp per size entry} : State.chv (State.sendInstant s st stamp per size entry) = State.chv s := by
  unfold State.sendInstant; simp (maxDischargeDepth := 60) [State.chv_mk, State.chv_fold, *]
@[simp] theorem State.sendRaw_chv {s md raw} : State.chv (State.sendRaw s md raw) = State.chv s := by
  unfold State.sendRaw; simp (maxDischargeDepth := 60) [State.chv_mk, State.chv_fold, *]
@[simp] theorem State.evalStream_chv {s p st} : State.chv (State.evalStream s p st).1 = State.chv p.1 := by
  unfold State.evalStream
  dsimp only
  split <;> simp (maxDischargeDepth := 60) [State.chv_mk, State.chv_fold]
@[simp] theorem State.streamWrite_chv {s st val} : State.chv (State.streamWrite s st val) = State.chv s := by
  unfold State.streamWrite
  extract_lets v0
  have h_v0 : State.chv v0 = State.chv s := by subst v0; simp (maxDischargeDepth := 60) [State.chv_mk, State.chv_fold, *]
  clear_value v0
  ((repeat' split) <;> (try extract_lets) <;> simp (maxDischargeDepth := 60) +zetaDelta [State.chv_mk, State.chv_fold, *])
@[simp] theorem State.reply_chv {s p pkt} : State.chv (State.reply s p pkt) = State.chv s := by
  unfold State.reply; simp (maxDischargeDepth := 60) [State.chv_mk, State.chv_fold, *]

/-! Machine/Modes.lean -/

@[simp] theorem State.modeBoundary_chv {s0} : State.chv (State.modeBoundary s0) = State.chv s0 := by
  unfold State.modeBoundary
  extract_lets v0 v1 v2
  have h_v0 : State.chv v0 = State.chv s0 := by subst v0; simp (maxDischargeDepth := 60) [State.chv_mk, State.chv_fold, *]
  clear_value v0
  clear_value v1
  have h_v2 : State.chv v2 = State.chv s0 := by subst v2; simp (maxDischargeDepth := 60) [State.chv_mk, State.chv_fold, *]
  clear_value v2
  ((repeat' split) <;> (try extract_lets) <;> simp +zetaDelta +contextual (maxDischargeDepth := 60) [State.chv_mk, State.chv_fold, *])
@[simp] theorem State.modeWrite_chv {s val} : State.chv (State.modeWrite s val) = State.chv s := by
  unfold State.modeWrite; simp (maxDischargeDepth := 60) [State.chv_mk, State.chv_fold, *]
@[simp] theorem State.spareSleep_chv {s} : State.chv (State.spareSleep s) = State.chv s := by
  unfold State.spareSleep; simp (maxDischargeDepth := 60) [State.chv_mk, State.chv_fold, *]
@[simp] theorem State.spareWake_chv {s} : State.chv (State.spareWake s) = State.chv s := by
  unfold State.spareWake; (repeat' split) <;> simp (maxDischargeDepth := 60) [State.chv_mk, State.chv_fold, *]
@[simp] theorem State.leaveAging_chv {s} : State.chv (State.leaveAging s) = State.chv s := by
  unfold State.leaveAging; simp (maxDischargeDepth := 60) [State.chv_mk, State.chv_fold, *]

/-! Machine/SelfTest.lean -/

@[simp] theorem State.noteFail_chv {s off bit mram uncorr repaired pending} : State.chv (State.noteFail s off bit mram uncorr repaired pending) = State.chv s := by
  unfold State.noteFail
  extract_lets v0
  have h_v0 : State.chv v0 = State.chv s := by subst v0; simp (maxDischargeDepth := 60) [State.chv_mk, State.chv_fold, *]
  clear_value v0
  simp (maxDischargeDepth := 60) [State.chv_mk, State.chv_fold, *]
@[simp] theorem State.sramFail_chv {s slice} : State.chv (State.sramFail s slice) = State.chv s := by
  unfold State.sramFail; simp (maxDischargeDepth := 60) [State.chv_mk, State.chv_fold, *]
@[simp] theorem State.mramFind_chv {s f} : State.chv (State.mramFind s f) = State.chv s := by
  unfold State.mramFind; simp (maxDischargeDepth := 60) [State.chv_mk, State.chv_fold, *]
@[simp] theorem State.mramVerify_chv {s l} : State.chv (State.mramVerify s l) = State.chv s := by
  unfold State.mramVerify; simp (maxDischargeDepth := 60) [State.chv_mk, State.chv_fold, *]
@[simp] theorem State.refCheck_chv {s r1 r2} : State.chv (State.refCheck s r1 r2) = State.chv s := by
  unfold State.refCheck; dsimp only; (repeat' split) <;> simp +contextual (maxDischargeDepth := 60) [State.chv_mk, State.chv_fold, *]
@[simp] theorem State.dieRead_chv {s k code} : State.chv (State.dieRead s k code) = State.chv s := by
  unfold State.dieRead; simp (maxDischargeDepth := 60) [State.chv_mk, State.chv_fold, *]
@[simp] theorem State.dieMax_chv {s} : State.chv (State.dieMax s) = State.chv s := by
  unfold State.dieMax; simp (maxDischargeDepth := 60) [State.chv_mk, State.chv_fold, *]
@[simp] theorem State.thermal_chv {s f up down num sev} : State.chv (State.thermal s f up down num sev) = State.chv s := by
  unfold State.thermal; simp (maxDischargeDepth := 60) [State.chv_mk, State.chv_fold, *]

/-! Machine/Reset.lean -/

@[simp] theorem State.vaultFlush_chv {s} : State.chv (State.vaultFlush s) = State.chv s := by
  unfold State.vaultFlush
  exact foldl_chv fun t _ => State.vaultTake_chv
@[simp] theorem State.logicStart_chv {s} : State.chv (State.logicStart s) = State.chv s := by
  unfold State.logicStart; simp (maxDischargeDepth := 60) [State.chv_mk, State.chv_fold, *]
@[simp] theorem State.spareBoot_chv {s} : State.chv (State.spareBoot s) = State.chv s := by
  unfold State.spareBoot; simp (maxDischargeDepth := 60) [State.chv_mk, State.chv_fold, *]
@[simp] theorem State.wake_chv {s} : State.chv (State.wake s) = State.chv s := by
  unfold State.wake; simp (maxDischargeDepth := 60) [State.chv_mk, State.chv_fold, *]

/-! Machine/Rails.lean -/

@[simp] theorem State.railSave_chv {s} : State.chv (State.railSave s) = State.chv s := by
  unfold State.railSave; simp (maxDischargeDepth := 60) [State.chv_mk, State.chv_fold, *]
@[simp] theorem State.railEvent_chv {s e sev} : State.chv (State.railEvent s e sev) = State.chv s := by
  unfold State.railEvent; simp (maxDischargeDepth := 60) [State.chv_mk, State.chv_fold, *]
@[simp] theorem State.ownFail_chv {s e} : State.chv (State.ownFail s e) = State.chv s := by
  unfold State.ownFail; simp (maxDischargeDepth := 60) [State.chv_mk, State.chv_fold, *]
@[simp] theorem State.railFailDown_chv {s e} : State.chv (State.railFailDown s e) = State.chv s := by
  unfold State.railFailDown
  extract_lets v0 v1
  clear_value v0
  have h_v1 : State.chv v1 = State.chv s := by subst v1; simp (maxDischargeDepth := 60) [State.chv_mk, State.chv_fold, *]
  clear_value v1
  simp (maxDischargeDepth := 60) [State.chv_mk, State.chv_fold, *]
@[simp] theorem State.railClear_chv {s e val} : State.chv (State.railClear s e val) = State.chv s := by
  unfold State.railClear
  extract_lets v0
  have h_v0 : State.chv v0 = State.chv s := by subst v0; simp (maxDischargeDepth := 60) [State.chv_mk, State.chv_fold, *]
  clear_value v0
  simp (maxDischargeDepth := 60) [State.chv_mk, State.chv_fold, *]
@[simp] theorem State.railWrite_chv {s e r val} : State.chv (State.railWrite s e r val) = State.chv s := by
  unfold State.railWrite; (repeat' split) <;> simp (maxDischargeDepth := 60) [State.chv_mk, State.chv_fold, *]
@[simp] theorem State.loadRegion_chv {s r} : State.chv (State.loadRegion s r) = State.chv s := by
  unfold State.loadRegion; simp (maxDischargeDepth := 60) [State.chv_mk, State.chv_fold, *]
@[simp] theorem State.loadRegions_chv {s l} : State.chv (State.loadRegions s l) = State.chv s := by
  unfold State.loadRegions; simp (maxDischargeDepth := 60) [State.chv_mk, State.chv_fold, *]
@[simp] theorem State.loadCal_chv {s l} : State.chv (State.loadCal s l) = State.chv s := by
  unfold State.loadCal
  simp [State.chv_mk, State.chv_fold]
@[simp] theorem State.cfgAlt_chv {s} : State.chv (State.cfgAlt s) = State.chv s := by
  unfold State.cfgAlt; simp (maxDischargeDepth := 60) [State.chv_mk, State.chv_fold, *]
@[simp] theorem State.loadOne_chv {s img r} : State.chv (State.loadOne s img r) = State.chv s := by
  unfold State.loadOne; simp (maxDischargeDepth := 60) [State.chv_mk, State.chv_fold, *]
@[simp] theorem State.loadConfig_chv {s img} : State.chv (State.loadConfig s img) = State.chv s := by
  unfold State.loadConfig; simp (maxDischargeDepth := 60) [State.chv_mk, State.chv_fold, *]
@[simp] theorem State.applyRepairs_chv {s} : State.chv (State.applyRepairs s) = State.chv s := by
  unfold State.applyRepairs
  extract_lets v0 v1
  clear_value v0
  have h_v1 : State.chv v1 = State.chv s := by subst v1; simp (maxDischargeDepth := 60) [State.chv_mk, State.chv_fold, *]
  clear_value v1
  simp (maxDischargeDepth := 60) [State.chv_mk, State.chv_fold, *]
@[simp] theorem State.readAddr_chv {s x} : State.chv (State.readAddr s x) = State.chv s := by
  unfold State.readAddr; (repeat' split) <;> simp (maxDischargeDepth := 60) [State.chv_mk, State.chv_fold, *]
@[simp] theorem State.bootStraps_chv {s} : State.chv (State.bootStraps s) = State.chv s := by
  unfold State.bootStraps; (repeat' split) <;> simp (maxDischargeDepth := 60) [State.chv_mk, State.chv_fold, *]
@[simp] theorem State.bootAdopt_chv {s} : State.chv (State.bootAdopt s) = State.chv s := by
  unfold State.bootAdopt; simp (maxDischargeDepth := 60) [State.chv_mk, State.chv_fold, *]
@[simp] theorem State.bootVault_chv {s} : State.chv (State.bootVault s) = State.chv s := by
  unfold State.bootVault; simp (maxDischargeDepth := 60) [State.chv_mk, State.chv_fold, *]
@[simp] theorem State.bootConfig_chv {s img b} : State.chv (State.bootConfig s img b) = State.chv s := by
  unfold State.bootConfig; simp (maxDischargeDepth := 60) [State.chv_mk, State.chv_fold, *]
@[simp] theorem State.bootEnd_chv {s} : State.chv (State.bootEnd s) = State.chv s := by
  unfold State.bootEnd; simp (maxDischargeDepth := 60) [State.chv_mk, State.chv_fold, *]
@[simp] theorem State.recoverPorts_chv {s img} : State.chv (State.recoverPorts s img) = State.chv s := by
  unfold State.recoverPorts; simp (maxDischargeDepth := 60) [State.chv_mk, State.chv_fold, *]
@[simp] theorem State.recover_chv {s} : State.chv (State.recover s) = State.chv s := by
  unfold State.recover; simp (maxDischargeDepth := 60) [State.chv_mk, State.chv_fold, *]

/-! Machine/Protect.lean -/

@[simp] theorem State.wearJudge_chv {s n} : State.chv (State.wearJudge s n) = State.chv s := by
  unfold State.wearJudge; simp (maxDischargeDepth := 60) [State.chv_mk, State.chv_fold, *]
@[simp] theorem State.faultClear_chv {s n val} : State.chv (State.faultClear s n val) = State.chv s := by
  unfold State.faultClear
  extract_lets v0 v1 v2 v3 v4
  clear_value v0
  clear_value v1
  have h_v2 : State.chv v2 = State.chv s := by subst v2; simp (maxDischargeDepth := 60) [State.chv_mk, State.chv_fold, *]
  clear_value v2
  have h_v3 : State.chv v3 = State.chv s := by subst v3; simp (maxDischargeDepth := 60) [State.chv_mk, State.chv_fold, *]
  clear_value v3
  have h_v4 : State.chv v4 = State.chv s := by subst v4; simp (maxDischargeDepth := 60) [State.chv_mk, State.chv_fold, *]
  clear_value v4
  simp (maxDischargeDepth := 60) [State.chv_mk, State.chv_fold, *]

/-! Machine/Maint.lean -/

@[simp] theorem State.returnChan_chv {s n} : State.chv (State.returnChan s n) = State.chv s := by
  unfold State.returnChan
  extract_lets v0 v1 v2 v3
  clear_value v0
  have h_v1 : State.chv v1 = State.chv s := by subst v1; simp (maxDischargeDepth := 60) [State.chv_mk, State.chv_fold, *]
  clear_value v1
  have h_v2 : State.chv v2 = State.chv s := by subst v2; simp (maxDischargeDepth := 60) [State.chv_mk, State.chv_fold, *]
  clear_value v2
  have h_v3 : State.chv v3 = State.chv s := by subst v3; simp (maxDischargeDepth := 60) [State.chv_mk, State.chv_fold, *]
  clear_value v3
  simp (maxDischargeDepth := 60) [State.chv_mk, State.chv_fold, *]

/-! Machine/Host.lean -/

@[simp] theorem State.latchTrec_chv {s n} : State.chv (State.latchTrec s n) = State.chv s := by
  unfold State.latchTrec; simp (maxDischargeDepth := 60) [State.chv_mk, State.chv_fold, *]
@[simp] theorem State.regRead_chv {s r} : State.chv (State.regRead s r).2 = State.chv s := by
  unfold State.regRead; (repeat' split) <;> simp (maxDischargeDepth := 60) [State.chv_mk, State.chv_fold, *]
@[simp] theorem State.hostRead_chv {s a} : State.chv (State.hostRead s a).2.2 = State.chv s := by
  unfold State.hostRead; (repeat' split) <;> simp (maxDischargeDepth := 60) [State.chv_mk, State.chv_fold, *]
@[simp] theorem State.plainWrite_chv {s r val} : State.chv (State.plainWrite s r val) = State.chv s := by
  unfold State.plainWrite
  extract_lets v0
  have h_v0 : State.chv v0 = State.chv s := by subst v0; simp (maxDischargeDepth := 60) [State.chv_mk, State.chv_fold, *]
  clear_value v0
  simp (maxDischargeDepth := 60) [State.chv_mk, State.chv_fold, *]
@[simp] theorem State.pendWrite_chv {s w val} : State.chv (State.pendWrite s w val) = State.chv s := by
  unfold State.pendWrite
  extract_lets v0
  have h_v0 : State.chv v0 = State.chv s := by subst v0; simp (maxDischargeDepth := 60) [State.chv_mk, State.chv_fold, *]
  clear_value v0
  simp (maxDischargeDepth := 60) [State.chv_mk, State.chv_fold, *]
@[simp] theorem State.ppsWrite_chv {s val} : State.chv (State.ppsWrite s val) = State.chv s := by
  unfold State.ppsWrite
  extract_lets v0
  have h_v0 : State.chv v0 = State.chv s := by subst v0; simp (maxDischargeDepth := 60) [State.chv_mk, State.chv_fold, *]
  clear_value v0
  simp (maxDischargeDepth := 60) [State.chv_mk, State.chv_fold, *]
@[simp] theorem State.compatWrite_chv {s val} : State.chv (State.compatWrite s val) = State.chv s := by
  unfold State.compatWrite; simp (maxDischargeDepth := 60) [State.chv_mk, State.chv_fold, *]
@[simp] theorem State.rfltWrite_chv {s e val} : State.chv (State.rfltWrite s e val) = State.chv s := by
  unfold State.rfltWrite; simp (maxDischargeDepth := 60) [State.chv_mk, State.chv_fold, *]
@[simp] theorem State.fcfgWrite_chv {s f val} : State.chv (State.fcfgWrite s f val) = State.chv s := by
  unfold State.fcfgWrite
  extract_lets v0
  have h_v0 : State.chv v0 = State.chv s := by subst v0; simp (maxDischargeDepth := 60) [State.chv_mk, State.chv_fold, *]
  clear_value v0
  simp (maxDischargeDepth := 60) [State.chv_mk, State.chv_fold, *]
@[simp] theorem State.cmaxWrite_chv {s val} : State.chv (State.cmaxWrite s val) = State.chv s := by
  unfold State.cmaxWrite
  extract_lets v0
  have h_v0 : State.chv v0 = State.chv s := by subst v0; simp (maxDischargeDepth := 60) [State.chv_mk, State.chv_fold, *]
  clear_value v0
  simp (maxDischargeDepth := 60) [State.chv_mk, State.chv_fold, *]
@[simp] theorem State.wdtWrite_chv {s val} : State.chv (State.wdtWrite s val) = State.chv s := by
  unfold State.wdtWrite; simp (maxDischargeDepth := 60) [State.chv_mk, State.chv_fold, *]
@[simp] theorem State.restoreWrite_chv {s w val} : State.chv (State.restoreWrite s w val) = State.chv s := by
  unfold State.restoreWrite; (repeat' split) <;> simp (maxDischargeDepth := 60) [State.chv_mk, State.chv_fold, *]
@[simp] theorem State.axCtlWrite_chv {s j val} : State.chv (State.axCtlWrite s j val) = State.chv s := by
  unfold State.axCtlWrite; (repeat' split) <;> simp (maxDischargeDepth := 60) [State.chv_mk, State.chv_fold, *]
@[simp] theorem State.axCfgWrite_chv {s j r val} : State.chv (State.axCfgWrite s j r val) = State.chv s := by
  unfold State.axCfgWrite
  extract_lets v0 v1
  have h_v0 : State.chv v0 = State.chv s := by subst v0; simp (maxDischargeDepth := 60) [State.chv_mk, State.chv_fold, *]
  clear_value v0
  clear_value v1
  simp (maxDischargeDepth := 60) [State.chv_mk, State.chv_fold, *]
@[simp] theorem State.alCtlWrite_chv {s k val} : State.chv (State.alCtlWrite s k val) = State.chv s := by
  unfold State.alCtlWrite; (repeat' split) <;> simp (maxDischargeDepth := 60) [State.chv_mk, State.chv_fold, *]
@[simp] theorem State.devWrite_chv {s k val} : State.chv (State.devWrite s k val) = State.chv s := by
  unfold State.devWrite; dsimp only; (repeat' split) <;> simp +contextual (maxDischargeDepth := 60) [State.chv_mk, State.chv_fold, *]
@[simp] theorem State.nzoffWrite_chv {s val} : State.chv (State.nzoffWrite s val) = State.chv s := by
  unfold State.nzoffWrite; (repeat' split) <;> simp (maxDischargeDepth := 60) [State.chv_mk, State.chv_fold, *]
@[simp] theorem State.hlCfgWrite_chv {s val} : State.chv (State.hlCfgWrite s val) = State.chv s := by
  unfold State.hlCfgWrite
  extract_lets v0
  have h_v0 : State.chv v0 = State.chv s := by subst v0; simp (maxDischargeDepth := 60) [State.chv_mk, State.chv_fold, *]
  clear_value v0
  simp (maxDischargeDepth := 60) [State.chv_mk, State.chv_fold, *]
@[simp] theorem State.vtCtlWrite_chv {s val} : State.chv (State.vtCtlWrite s val) = State.chv s := by
  unfold State.vtCtlWrite; (repeat' split) <;> simp (maxDischargeDepth := 60) [State.chv_mk, State.chv_fold, *]
@[simp] theorem State.cctlWrite_chv {s val} : State.chv (State.cctlWrite s val) = State.chv s := by
  unfold State.cctlWrite; (repeat' split) <;> simp (maxDischargeDepth := 60) [State.chv_mk, State.chv_fold, *]
@[simp] theorem State.cslotWrite_chv {s k val} : State.chv (State.cslotWrite s k val) = State.chv s := by
  unfold State.cslotWrite; (repeat' split) <;> simp (maxDischargeDepth := 60) [State.chv_mk, State.chv_fold, *]
@[simp] theorem State.lnStatWrite_chv {s val} : State.chv (State.lnStatWrite s val) = State.chv s := by
  unfold State.lnStatWrite; (repeat' split) <;> simp (maxDischargeDepth := 60) [State.chv_mk, State.chv_fold, *]
@[simp] theorem State.adoptWrite_chv {s val} : State.chv (State.adoptWrite s val) = State.chv s := by
  unfold State.adoptWrite; (repeat' split) <;> simp (maxDischargeDepth := 60) [State.chv_mk, State.chv_fold, *]
@[simp] theorem State.calWrite_chv {s val} : State.chv (State.calWrite s val) = State.chv s := by
  unfold State.calWrite; simp (maxDischargeDepth := 60) [State.chv_mk, State.chv_fold, *]
@[simp] theorem State.csCtlWrite_chv {s val} : State.chv (State.csCtlWrite s val) = State.chv s := by
  unfold State.csCtlWrite
  extract_lets v
  have hv : State.chv v = State.chv s := by subst v; split <;> simp +contextual (maxDischargeDepth := 60) [State.chv_mk, State.chv_fold, *]
  clear_value v
  split
  · exact hv
  · rw [State.writeReg_chv]
    split
    · rw [State.rotNow_chv, hv]
    · exact hv
@[simp] theorem State.csGWrite_chv {s i val} : State.chv (State.csGWrite s i val) = State.chv s := by
  unfold State.csGWrite; simp (maxDischargeDepth := 60) [State.chv_mk, State.chv_fold, *]
@[simp] theorem State.pcntWrite_chv {s n val} : State.chv (State.pcntWrite s n val) = State.chv s := by
  unfold State.pcntWrite; simp (maxDischargeDepth := 60) [State.chv_mk, State.chv_fold, *]
@[simp] theorem State.vtQueueWrite_chv {s val} : State.chv (State.vtQueueWrite s val) = State.chv s := by
  unfold State.vtQueueWrite; simp (maxDischargeDepth := 60) [State.chv_mk, State.chv_fold, *]
@[simp] theorem State.lowWrite_chv {s r val} : State.chv (State.lowWrite s r val) = State.chv s := by
  unfold State.lowWrite; simp (maxDischargeDepth := 60) [State.chv_mk, State.chv_fold, *]
@[simp] theorem State.readAnswer_chv {s a} : State.chv (State.readAnswer s a) = State.chv s := by
  unfold State.readAnswer; simp (maxDischargeDepth := 60) [State.chv_mk, State.chv_fold, *]

/-! Machine/TwoWire.lean -/

@[simp] theorem State.modTw_chv {s f} : State.chv (State.modTw s f) = State.chv s := by
  unfold State.modTw; simp (maxDischargeDepth := 60) [State.chv_mk, State.chv_fold, *]
@[simp] theorem State.tw1Write_chv {s body pec f} (hf : ∀ t, State.chv (f t) = State.chv t) : State.chv (State.tw1Write s body pec f) = State.chv s := by
  unfold State.tw1Write; (repeat' split) <;> simp (maxDischargeDepth := 60) [State.chv_mk, State.chv_fold, *]
@[simp] theorem State.rmCap_chv {s val} : State.chv (State.rmCap s val) = State.chv s := by
  unfold State.rmCap
  extract_lets v0 v1
  have h_v0 : State.chv v0 = State.chv s := by subst v0; simp (maxDischargeDepth := 60) [State.chv_mk, State.chv_fold, *]
  clear_value v0
  have h_v1 : State.chv v1 = State.chv s := by subst v1; simp (maxDischargeDepth := 60) [State.chv_mk, State.chv_fold, *]
  clear_value v1
  simp (maxDischargeDepth := 60) [State.chv_mk, State.chv_fold, *]
@[simp] theorem State.regDone_chv {s st} : State.chv (State.regDone s st) = State.chv s := by
  unfold State.regDone; simp (maxDischargeDepth := 60) [State.chv_mk, State.chv_fold, *]
@[simp] theorem State.notifySend_chv {s o rest ack} : State.chv (State.notifySend s o rest ack) = State.chv s := by
  unfold State.notifySend
  extract_lets v0 v1
  have h_v0 : State.chv v0 = State.chv s := by subst v0; simp (maxDischargeDepth := 60) [State.chv_mk, State.chv_fold, *]
  clear_value v0
  clear_value v1
  ((repeat' split) <;> (try extract_lets) <;> simp (maxDischargeDepth := 60) +zetaDelta [State.chv_mk, State.chv_fold, *])
@[simp] theorem State.packAlert_chv {s} : State.chv (State.packAlert s) = State.chv s := by
  unfold State.packAlert; simp (maxDischargeDepth := 60) [State.chv_mk, State.chv_fold, *]
@[simp] theorem State.pollGood_chv {s k x} : State.chv (State.pollGood s k x) = State.chv s := by
  unfold State.pollGood
  extract_lets v0 v1 v2 v3
  clear_value v0
  have h_v1 : State.chv v1 = State.chv s := by subst v1; simp (maxDischargeDepth := 60) [State.chv_mk, State.chv_fold, *]
  clear_value v1
  have h_v2 : State.chv v2 = State.chv s := by subst v2; simp (maxDischargeDepth := 60) [State.chv_mk, State.chv_fold, *]
  clear_value v2
  have h_v3 : State.chv v3 = State.chv s := by subst v3; simp (maxDischargeDepth := 60) [State.chv_mk, State.chv_fold, *]
  clear_value v3
  simp (maxDischargeDepth := 60) [State.chv_mk, State.chv_fold, *]
@[simp] theorem State.pollBad_chv {s k} : State.chv (State.pollBad s k) = State.chv s := by
  unfold State.pollBad
  extract_lets v0
  have h_v0 : State.chv v0 = State.chv s := by subst v0; simp (maxDischargeDepth := 60) [State.chv_mk, State.chv_fold, *]
  clear_value v0
  ((repeat' split) <;> (try extract_lets) <;> simp (maxDischargeDepth := 60) +zetaDelta [State.chv_mk, State.chv_fold, *])
@[simp] theorem State.pollDev_chv {s k x} : State.chv (State.pollDev s k x) = State.chv s := by
  unfold State.pollDev; simp (maxDischargeDepth := 60) [State.chv_mk, State.chv_fold, *]

/-! Machine/Commands.lean -/

@[simp] theorem State.gate_chv {s x r inRecovery f} (hf : ∀ t, State.chv (f t) = State.chv t) : State.chv (State.gate s x r inRecovery f) = State.chv s := by
  unfold State.gate; simp (maxDischargeDepth := 60) [State.chv_mk, State.chv_fold, *]
@[simp] theorem State.read32_chv {s x addr} : State.chv (State.read32 s x addr) = State.chv s := by
  unfold State.read32; simp (maxDischargeDepth := 60) [State.chv_mk, State.chv_fold, *]
@[simp] theorem State.readWords_chv {s a n out} : State.chv (State.readWords s a n out) = State.chv s := by
  induction n generalizing s a out with
  | zero => exact State.answer_chv
  | succ n ih =>
    unfold State.readWords
    dsimp only
    split
    · rw [ih, State.hostRead_chv]
    · exact State.answer_chv
@[simp] theorem State.readBlock_chv {s x addr n} : State.chv (State.readBlock s x addr n) = State.chv s := by
  unfold State.readBlock; simp (maxDischargeDepth := 60) [State.chv_mk, State.chv_fold, *]
@[simp] theorem State.modBulk_chv {s f} : State.chv (State.modBulk s f) = State.chv s := by
  unfold State.modBulk; simp (maxDischargeDepth := 60) [State.chv_mk, State.chv_fold, *]
@[simp] theorem State.bulkOpen_chv {s x total} : State.chv (State.bulkOpen s x total) = State.chv s := by
  unfold State.bulkOpen; simp (maxDischargeDepth := 60) [State.chv_mk, State.chv_fold, *]
@[simp] theorem State.bulkData_chv {s x id off data} : State.chv (State.bulkData s x id off data) = State.chv s := by
  unfold State.bulkData; simp (maxDischargeDepth := 60) [State.chv_mk, State.chv_fold, *]
@[simp] theorem State.bulkStatus_chv {s x id} : State.chv (State.bulkStatus s x id) = State.chv s := by
  unfold State.bulkStatus; simp (maxDischargeDepth := 60) [State.chv_mk, State.chv_fold, *]
@[simp] theorem State.bulkRead_chv {s x addr len} : State.chv (State.bulkRead s x addr len) = State.chv s := by
  unfold State.bulkRead; simp (maxDischargeDepth := 60) [State.chv_mk, State.chv_fold, *]
@[simp] theorem State.programLoad_chv {s x bank index n crc} : State.chv (State.programLoad s x bank index n crc) = State.chv s := by
  unfold State.programLoad; simp (maxDischargeDepth := 60) [State.chv_mk, State.chv_fold, *]
@[simp] theorem State.imageStage_chv {s x sel} : State.chv (State.imageStage s x sel) = State.chv s := by
  unfold State.imageStage
  refine State.gate_chv fun t => ?_
  dsimp only
  (repeat' split) <;> simp (maxDischargeDepth := 60) [State.chv_mk, State.chv_fold, *]
@[simp] theorem State.imageCommit_chv {s x bank} : State.chv (State.imageCommit s x bank) = State.chv s := by
  unfold State.imageCommit; simp (maxDischargeDepth := 60) [State.chv_mk, State.chv_fold, *]
@[simp] theorem State.authOpen_chv {s nh k num} : State.chv (State.authOpen s nh k num) = State.chv s := by
  unfold State.authOpen
  extract_lets v0 v1 v2
  clear_value v0
  clear_value v1
  have h_v2 : State.chv v2 = State.chv s := by subst v2; simp (maxDischargeDepth := 60) [State.chv_mk, State.chv_fold, *]
  clear_value v2
  simp (maxDischargeDepth := 60) [State.chv_mk, State.chv_fold, *]
@[simp] theorem State.authPhase1_chv {s x nh} : State.chv (State.authPhase1 s x nh) = State.chv s := by
  unfold State.authPhase1
  refine State.gate_chv fun t => ?_
  dsimp only
  (repeat' split) <;> simp (maxDischargeDepth := 60) [State.chv_mk, State.chv_fold, *]
@[simp] theorem State.authFail_chv {s k} : State.chv (State.authFail s k) = State.chv s := by
  unfold State.authFail
  extract_lets v0 v1 v2 v3
  clear_value v0
  have h_v1 : State.chv v1 = State.chv s := by subst v1; simp (maxDischargeDepth := 60) [State.chv_mk, State.chv_fold, *]
  clear_value v1
  clear_value v2
  have h_v3 : State.chv v3 = State.chv s := by subst v3; simp (maxDischargeDepth := 60) [State.chv_mk, State.chv_fold, *]
  clear_value v3
  simp (maxDischargeDepth := 60) [State.chv_mk, State.chv_fold, *]
@[simp] theorem State.authPhase2_chv {s x ph} : State.chv (State.authPhase2 s x ph) = State.chv s := by
  unfold State.authPhase2; (repeat' split) <;> simp (maxDischargeDepth := 60) [State.chv_mk, State.chv_fold, *]
@[simp] theorem State.subscribe_chv {s x bits} : State.chv (State.subscribe s x bits) = State.chv s := by
  unfold State.subscribe; (repeat' split) <;> simp (maxDischargeDepth := 60) [State.chv_mk, State.chv_fold, *]
@[simp] theorem State.closeCmd_chv {s x} : State.chv (State.closeCmd s x) = State.chv s := by
  unfold State.closeCmd; (repeat' split) <;> simp (maxDischargeDepth := 60) [State.chv_mk, State.chv_fold, *]
@[simp] theorem State.wakeCmd_chv {s x} : State.chv (State.wakeCmd s x) = State.chv s := by
  unfold State.wakeCmd; simp (maxDischargeDepth := 60) [State.chv_mk, State.chv_fold, *]
@[simp] theorem State.keySetDevice_chv {s x key} : State.chv (State.keySetDevice s x key) = State.chv s := by
  unfold State.keySetDevice; (repeat' split) <;> simp (maxDischargeDepth := 60) [State.chv_mk, State.chv_fold, *]
@[simp] theorem State.keySetOwner_chv {s x key} : State.chv (State.keySetOwner s x key) = State.chv s := by
  unfold State.keySetOwner; simp (maxDischargeDepth := 60) [State.chv_mk, State.chv_fold, *]
@[simp] theorem State.keepalive_chv {s k seq data} : State.chv (State.keepalive s k seq data) = State.chv s := by
  unfold State.keepalive; simp (maxDischargeDepth := 60) [State.chv_mk, State.chv_fold, *]

/-! Machine/Frames.lean -/

@[simp] theorem State.badEntry_chv {s x code} : State.chv (State.badEntry s x code) = State.chv s := by
  unfold State.badEntry; simp (maxDischargeDepth := 60) [State.chv_mk, State.chv_fold, *]
@[simp] theorem State.answerBusy_chv {s k seq payload} : State.chv (State.answerBusy s k seq payload) = State.chv s := by
  unfold State.answerBusy; simp (maxDischargeDepth := 60) [State.chv_mk, State.chv_fold, *]
@[simp] theorem State.badFrame_chv {s p} : State.chv (State.badFrame s p) = State.chv s := by
  unfold State.badFrame
  extract_lets v0
  have h_v0 : State.chv v0 = State.chv s := by subst v0; simp (maxDischargeDepth := 60) [State.chv_mk, State.chv_fold, *]
  clear_value v0
  simp (maxDischargeDepth := 60) [State.chv_mk, State.chv_fold, *]
@[simp] theorem State.holdFrame_chv {s p src bytes} : State.chv (State.holdFrame s p src bytes) = State.chv s := by
  unfold State.holdFrame; simp (maxDischargeDepth := 60) [State.chv_mk, State.chv_fold, *]
@[simp] theorem State.hear_chv {s k p src} : State.chv (State.hear s k p src) = State.chv s := by
  unfold State.hear; simp (maxDischargeDepth := 60) [State.chv_mk, State.chv_fold, *]
@[simp] theorem State.bulkFrameIn_chv {s x bs} : State.chv (State.bulkFrameIn s x bs) = State.chv s := by
  unfold State.bulkFrameIn; simp (maxDischargeDepth := 60) [State.chv_mk, State.chv_fold, *]
@[simp] theorem State.flushOne_chv {s p src bytes} : State.chv (State.flushOne s p src bytes) = State.chv s := by
  unfold State.flushOne; (repeat' split) <;> simp (maxDischargeDepth := 60) [State.chv_mk, State.chv_fold, *]
@[simp] theorem State.flushHeld_chv {s} : State.chv (State.flushHeld s) = State.chv s := by
  unfold State.flushHeld; simp (maxDischargeDepth := 60) [State.chv_mk, State.chv_fold, *]

/-! Machine/Boundary.lean -/

@[simp] theorem State.divTake_chv {s} : State.chv (State.divTake s) = State.chv s := by
  unfold State.divTake; simp (maxDischargeDepth := 60) [State.chv_mk, State.chv_fold, *]
@[simp] theorem State.settleEnd_chv {s n} : State.chv (State.settleEnd s n) = State.chv s := by
  unfold State.settleEnd; simp (maxDischargeDepth := 60) [State.chv_mk, State.chv_fold, *]
@[simp] theorem State.tick_chv {s} : State.chv (State.tick s) = State.chv s := by
  unfold State.tick; simp (maxDischargeDepth := 60) [State.chv_mk, State.chv_fold, *]
@[simp] theorem State.ledgerBoundary_chv {s} : State.chv (State.ledgerBoundary s) = State.chv s := by
  unfold State.ledgerBoundary; simp (maxDischargeDepth := 60) [State.chv_mk, State.chv_fold, *]
@[simp] theorem State.ringTake_chv {s t} : State.chv (State.ringTake s t) = State.chv s := by
  unfold State.ringTake; simp (maxDischargeDepth := 60) [State.chv_mk, State.chv_fold, *]
@[simp] theorem State.visitTake_chv {s inp lane t} : State.chv (State.visitTake s inp lane t) = State.chv s := by
  unfold State.visitTake; (repeat' split) <;> simp (maxDischargeDepth := 60) [State.chv_mk, State.chv_fold, *]

end Sys2Proof.Machine
end

