-- ==== Sys2Proof/Laws/State.lean ====
section
/-! SUPPORT. One lemma per field of the state and per named update that leaves the field: the field reads as before. And what each
update leaves in the fields it is for. -/

namespace Sys2Proof.Machine

@[simp] theorem State.old_of_setWord {s : State} {r w} : (s.setWord r w).old = s.old := rfl
@[simp] theorem State.held64_of_setWord {s : State} {r w} : (s.setWord r w).held64 = s.held64 := rfl
@[simp] theorem State.low64_of_setWord {s : State} {r w} : (s.setWord r w).low64 = s.low64 := rfl
@[simp] theorem State.mem_of_setWord {s : State} {r w} : (s.setWord r w).mem = s.mem := rfl
@[simp] theorem State.nv_of_setWord {s : State} {r w} : (s.setWord r w).nv = s.nv := rfl
@[simp] theorem State.time_of_setWord {s : State} {r w} : (s.setWord r w).time = s.time := rfl
@[simp] theorem State.ctr_of_setWord {s : State} {r w} : (s.setWord r w).ctr = s.ctr := rfl
@[simp] theorem State.ctrPrev_of_setWord {s : State} {r w} : (s.setWord r w).ctrPrev = s.ctrPrev := rfl
@[simp] theorem State.lockAt_of_setWord {s : State} {r w} : (s.setWord r w).lockAt = s.lockAt := rfl
@[simp] theorem State.lockBy_of_setWord {s : State} {r w} : (s.setWord r w).lockBy = s.lockBy := rfl
@[simp] theorem State.safeReq_of_setWord {s : State} {r w} : (s.setWord r w).safeReq = s.safeReq := rfl
@[simp] theorem State.clrReq_of_setWord {s : State} {r w} : (s.setWord r w).clrReq = s.clrReq := rfl
@[simp] theorem State.ch_of_setWord {s : State} {r w} : (s.setWord r w).ch = s.ch := rfl
@[simp] theorem State.sh_of_setWord {s : State} {r w} : (s.setWord r w).sh = s.sh := rfl
@[simp] theorem State.lane_of_setWord {s : State} {r w} : (s.setWord r w).lane = s.lane := rfl
@[simp] theorem State.spare_of_setWord {s : State} {r w} : (s.setWord r w).spare = s.spare := rfl
@[simp] theorem State.led_of_setWord {s : State} {r w} : (s.setWord r w).led = s.led := rfl
@[simp] theorem State.fd_of_setWord {s : State} {r w} : (s.setWord r w).fd = s.fd := rfl
@[simp] theorem State.fsel_of_setWord {s : State} {r w} : (s.setWord r w).fsel = s.fsel := rfl
@[simp] theorem State.hu_of_setWord {s : State} {r w} : (s.setWord r w).hu = s.hu := rfl
@[simp] theorem State.ax_of_setWord {s : State} {r w} : (s.setWord r w).ax = s.ax := rfl
@[simp] theorem State.al_of_setWord {s : State} {r w} : (s.setWord r w).al = s.al := rfl
@[simp] theorem State.sq_of_setWord {s : State} {r w} : (s.setWord r w).sq = s.sq := rfl
@[simp] theorem State.boot_of_setWord {s : State} {r w} : (s.setWord r w).boot = s.boot := rfl
@[simp] theorem State.clk_of_setWord {s : State} {r w} : (s.setWord r w).clk = s.clk := rfl
@[simp] theorem State.mode_of_setWord {s : State} {r w} : (s.setWord r w).mode = s.mode := rfl
@[simp] theorem State.ev_of_setWord {s : State} {r w} : (s.setWord r w).ev = s.ev := rfl
@[simp] theorem State.link_of_setWord {s : State} {r w} : (s.setWord r w).link = s.link := rfl
@[simp] theorem State.tw_of_setWord {s : State} {r w} : (s.setWord r w).tw = s.tw := rfl
@[simp] theorem State.vault_of_setWord {s : State} {r w} : (s.setWord r w).vault = s.vault := rfl
@[simp] theorem State.cellar_of_setWord {s : State} {r w} : (s.setWord r w).cellar = s.cellar := rfl
@[simp] theorem State.tst_of_setWord {s : State} {r w} : (s.setWord r w).tst = s.tst := rfl
@[simp] theorem State.maint_of_setWord {s : State} {r w} : (s.setWord r w).maint = s.maint := rfl
@[simp] theorem State.status_of_setWord {s : State} {r w} : (s.setWord r w).status = s.status := rfl
@[simp] theorem State.data_of_setWord {s : State} {r w} : (s.setWord r w).data = s.data := rfl
@[simp] theorem State.free_of_setWord {s : State} {r w} : (s.setWord r w).free = s.free := rfl
@[simp] theorem State.pending_of_setWord {s : State} {r w} : (s.setWord r w).pending = s.pending := rfl

@[simp] theorem State.old_of_fset {s : State} {f v} : (s.fset f v).old = s.old := rfl
@[simp] theorem State.held64_of_fset {s : State} {f v} : (s.fset f v).held64 = s.held64 := rfl
@[simp] theorem State.low64_of_fset {s : State} {f v} : (s.fset f v).low64 = s.low64 := rfl
@[simp] theorem State.mem_of_fset {s : State} {f v} : (s.fset f v).mem = s.mem := rfl
@[simp] theorem State.nv_of_fset {s : State} {f v} : (s.fset f v).nv = s.nv := rfl
@[simp] theorem State.time_of_fset {s : State} {f v} : (s.fset f v).time = s.time := rfl
@[simp] theorem State.ctr_of_fset {s : State} {f v} : (s.fset f v).ctr = s.ctr := rfl
@[simp] theorem State.ctrPrev_of_fset {s : State} {f v} : (s.fset f v).ctrPrev = s.ctrPrev := rfl
@[simp] theorem State.lockAt_of_fset {s : State} {f v} : (s.fset f v).lockAt = s.lockAt := rfl
@[simp] theorem State.lockBy_of_fset {s : State} {f v} : (s.fset f v).lockBy = s.lockBy := rfl
@[simp] theorem State.safeReq_of_fset {s : State} {f v} : (s.fset f v).safeReq = s.safeReq := rfl
@[simp] theorem State.clrReq_of_fset {s : State} {f v} : (s.fset f v).clrReq = s.clrReq := rfl
@[simp] theorem State.ch_of_fset {s : State} {f v} : (s.fset f v).ch = s.ch := rfl
@[simp] theorem State.sh_of_fset {s : State} {f v} : (s.fset f v).sh = s.sh := rfl
@[simp] theorem State.lane_of_fset {s : State} {f v} : (s.fset f v).lane = s.lane := rfl
@[simp] theorem State.spare_of_fset {s : State} {f v} : (s.fset f v).spare = s.spare := rfl
@[simp] theorem State.led_of_fset {s : State} {f v} : (s.fset f v).led = s.led := rfl
@[simp] theorem State.fd_of_fset {s : State} {f v} : (s.fset f v).fd = s.fd := rfl
@[simp] theorem State.fsel_of_fset {s : State} {f v} : (s.fset f v).fsel = s.fsel := rfl
@[simp] theorem State.hu_of_fset {s : State} {f v} : (s.fset f v).hu = s.hu := rfl
@[simp] theorem State.ax_of_fset {s : State} {f v} : (s.fset f v).ax = s.ax := rfl
@[simp] theorem State.al_of_fset {s : State} {f v} : (s.fset f v).al = s.al := rfl
@[simp] theorem State.sq_of_fset {s : State} {f v} : (s.fset f v).sq = s.sq := rfl
@[simp] theorem State.boot_of_fset {s : State} {f v} : (s.fset f v).boot = s.boot := rfl
@[simp] theorem State.clk_of_fset {s : State} {f v} : (s.fset f v).clk = s.clk := rfl
@[simp] theorem State.mode_of_fset {s : State} {f v} : (s.fset f v).mode = s.mode := rfl
@[simp] theorem State.ev_of_fset {s : State} {f v} : (s.fset f v).ev = s.ev := rfl
@[simp] theorem State.link_of_fset {s : State} {f v} : (s.fset f v).link = s.link := rfl
@[simp] theorem State.tw_of_fset {s : State} {f v} : (s.fset f v).tw = s.tw := rfl
@[simp] theorem State.vault_of_fset {s : State} {f v} : (s.fset f v).vault = s.vault := rfl
@[simp] theorem State.cellar_of_fset {s : State} {f v} : (s.fset f v).cellar = s.cellar := rfl
@[simp] theorem State.tst_of_fset {s : State} {f v} : (s.fset f v).tst = s.tst := rfl
@[simp] theorem State.maint_of_fset {s : State} {f v} : (s.fset f v).maint = s.maint := rfl
@[simp] theorem State.status_of_fset {s : State} {f v} : (s.fset f v).status = s.status := rfl
@[simp] theorem State.data_of_fset {s : State} {f v} : (s.fset f v).data = s.data := rfl
@[simp] theorem State.free_of_fset {s : State} {f v} : (s.fset f v).free = s.free := rfl
@[simp] theorem State.pending_of_fset {s : State} {f v} : (s.fset f v).pending = s.pending := rfl

@[simp] theorem State.old_of_fsetS {s : State} {f v} : (s.fsetS f v).old = s.old := rfl
@[simp] theorem State.held64_of_fsetS {s : State} {f v} : (s.fsetS f v).held64 = s.held64 := rfl
@[simp] theorem State.low64_of_fsetS {s : State} {f v} : (s.fsetS f v).low64 = s.low64 := rfl
@[simp] theorem State.mem_of_fsetS {s : State} {f v} : (s.fsetS f v).mem = s.mem := rfl
@[simp] theorem State.nv_of_fsetS {s : State} {f v} : (s.fsetS f v).nv = s.nv := rfl
@[simp] theorem State.time_of_fsetS {s : State} {f v} : (s.fsetS f v).time = s.time := rfl
@[simp] theorem State.ctr_of_fsetS {s : State} {f v} : (s.fsetS f v).ctr = s.ctr := rfl
@[simp] theorem State.ctrPrev_of_fsetS {s : State} {f v} : (s.fsetS f v).ctrPrev = s.ctrPrev := rfl
@[simp] theorem State.lockAt_of_fsetS {s : State} {f v} : (s.fsetS f v).lockAt = s.lockAt := rfl
@[simp] theorem State.lockBy_of_fsetS {s : State} {f v} : (s.fsetS f v).lockBy = s.lockBy := rfl
@[simp] theorem State.safeReq_of_fsetS {s : State} {f v} : (s.fsetS f v).safeReq = s.safeReq := rfl
@[simp] theorem State.clrReq_of_fsetS {s : State} {f v} : (s.fsetS f v).clrReq = s.clrReq := rfl
@[simp] theorem State.ch_of_fsetS {s : State} {f v} : (s.fsetS f v).ch = s.ch := rfl
@[simp] theorem State.sh_of_fsetS {s : State} {f v} : (s.fsetS f v).sh = s.sh := rfl
@[simp] theorem State.lane_of_fsetS {s : State} {f v} : (s.fsetS f v).lane = s.lane := rfl
@[simp] theorem State.spare_of_fsetS {s : State} {f v} : (s.fsetS f v).spare = s.spare := rfl
@[simp] theorem State.led_of_fsetS {s : State} {f v} : (s.fsetS f v).led = s.led := rfl
@[simp] theorem State.fd_of_fsetS {s : State} {f v} : (s.fsetS f v).fd = s.fd := rfl
@[simp] theorem State.fsel_of_fsetS {s : State} {f v} : (s.fsetS f v).fsel = s.fsel := rfl
@[simp] theorem State.hu_of_fsetS {s : State} {f v} : (s.fsetS f v).hu = s.hu := rfl
@[simp] theorem State.ax_of_fsetS {s : State} {f v} : (s.fsetS f v).ax = s.ax := rfl
@[simp] theorem State.al_of_fsetS {s : State} {f v} : (s.fsetS f v).al = s.al := rfl
@[simp] theorem State.sq_of_fsetS {s : State} {f v} : (s.fsetS f v).sq = s.sq := rfl
@[simp] theorem State.boot_of_fsetS {s : State} {f v} : (s.fsetS f v).boot = s.boot := rfl
@[simp] theorem State.clk_of_fsetS {s : State} {f v} : (s.fsetS f v).clk = s.clk := rfl
@[simp] theorem State.mode_of_fsetS {s : State} {f v} : (s.fsetS f v).mode = s.mode := rfl
@[simp] theorem State.ev_of_fsetS {s : State} {f v} : (s.fsetS f v).ev = s.ev := rfl
@[simp] theorem State.link_of_fsetS {s : State} {f v} : (s.fsetS f v).link = s.link := rfl
@[simp] theorem State.tw_of_fsetS {s : State} {f v} : (s.fsetS f v).tw = s.tw := rfl
@[simp] theorem State.vault_of_fsetS {s : State} {f v} : (s.fsetS f v).vault = s.vault := rfl
@[simp] theorem State.cellar_of_fsetS {s : State} {f v} : (s.fsetS f v).cellar = s.cellar := rfl
@[simp] theorem State.tst_of_fsetS {s : State} {f v} : (s.fsetS f v).tst = s.tst := rfl
@[simp] theorem State.maint_of_fsetS {s : State} {f v} : (s.fsetS f v).maint = s.maint := rfl
@[simp] theorem State.status_of_fsetS {s : State} {f v} : (s.fsetS f v).status = s.status := rfl
@[simp] theorem State.data_of_fsetS {s : State} {f v} : (s.fsetS f v).data = s.data := rfl
@[simp] theorem State.free_of_fsetS {s : State} {f v} : (s.fsetS f v).free = s.free := rfl
@[simp] theorem State.pending_of_fsetS {s : State} {f v} : (s.fsetS f v).pending = s.pending := rfl

@[simp] theorem State.old_of_setFlag {s : State} {f b} : (s.setFlag f b).old = s.old := rfl
@[simp] theorem State.held64_of_setFlag {s : State} {f b} : (s.setFlag f b).held64 = s.held64 := rfl
@[simp] theorem State.low64_of_setFlag {s : State} {f b} : (s.setFlag f b).low64 = s.low64 := rfl
@[simp] theorem State.mem_of_setFlag {s : State} {f b} : (s.setFlag f b).mem = s.mem := rfl
@[simp] theorem State.nv_of_setFlag {s : State} {f b} : (s.setFlag f b).nv = s.nv := rfl
@[simp] theorem State.time_of_setFlag {s : State} {f b} : (s.setFlag f b).time = s.time := rfl
@[simp] theorem State.ctr_of_setFlag {s : State} {f b} : (s.setFlag f b).ctr = s.ctr := rfl
@[simp] theorem State.ctrPrev_of_setFlag {s : State} {f b} : (s.setFlag f b).ctrPrev = s.ctrPrev := rfl
@[simp] theorem State.lockAt_of_setFlag {s : State} {f b} : (s.setFlag f b).lockAt = s.lockAt := rfl
@[simp] theorem State.lockBy_of_setFlag {s : State} {f b} : (s.setFlag f b).lockBy = s.lockBy := rfl
@[simp] theorem State.safeReq_of_setFlag {s : State} {f b} : (s.setFlag f b).safeReq = s.safeReq := rfl
@[simp] theorem State.clrReq_of_setFlag {s : State} {f b} : (s.setFlag f b).clrReq = s.clrReq := rfl
@[simp] theorem State.ch_of_setFlag {s : State} {f b} : (s.setFlag f b).ch = s.ch := rfl
@[simp] theorem State.sh_of_setFlag {s : State} {f b} : (s.setFlag f b).sh = s.sh := rfl
@[simp] theorem State.lane_of_setFlag {s : State} {f b} : (s.setFlag f b).lane = s.lane := rfl
@[simp] theorem State.spare_of_setFlag {s : State} {f b} : (s.setFlag f b).spare = s.spare := rfl
@[simp] theorem State.led_of_setFlag {s : State} {f b} : (s.setFlag f b).led = s.led := rfl
@[simp] theorem State.fd_of_setFlag {s : State} {f b} : (s.setFlag f b).fd = s.fd := rfl
@[simp] theorem State.fsel_of_setFlag {s : State} {f b} : (s.setFlag f b).fsel = s.fsel := rfl
@[simp] theorem State.hu_of_setFlag {s : State} {f b} : (s.setFlag f b).hu = s.hu := rfl
@[simp] theorem State.ax_of_setFlag {s : State} {f b} : (s.setFlag f b).ax = s.ax := rfl
@[simp] theorem State.al_of_setFlag {s : State} {f b} : (s.setFlag f b).al = s.al := rfl
@[simp] theorem State.sq_of_setFlag {s : State} {f b} : (s.setFlag f b).sq = s.sq := rfl
@[simp] theorem State.boot_of_setFlag {s : State} {f b} : (s.setFlag f b).boot = s.boot := rfl
@[simp] theorem State.clk_of_setFlag {s : State} {f b} : (s.setFlag f b).clk = s.clk := rfl
@[simp] theorem State.mode_of_setFlag {s : State} {f b} : (s.setFlag f b).mode = s.mode := rfl
@[simp] theorem State.ev_of_setFlag {s : State} {f b} : (s.setFlag f b).ev = s.ev := rfl
@[simp] theorem State.link_of_setFlag {s : State} {f b} : (s.setFlag f b).link = s.link := rfl
@[simp] theorem State.tw_of_setFlag {s : State} {f b} : (s.setFlag f b).tw = s.tw := rfl
@[simp] theorem State.vault_of_setFlag {s : State} {f b} : (s.setFlag f b).vault = s.vault := rfl
@[simp] theorem State.cellar_of_setFlag {s : State} {f b} : (s.setFlag f b).cellar = s.cellar := rfl
@[simp] theorem State.tst_of_setFlag {s : State} {f b} : (s.setFlag f b).tst = s.tst := rfl
@[simp] theorem State.maint_of_setFlag {s : State} {f b} : (s.setFlag f b).maint = s.maint := rfl
@[simp] theorem State.status_of_setFlag {s : State} {f b} : (s.setFlag f b).status = s.status := rfl
@[simp] theorem State.data_of_setFlag {s : State} {f b} : (s.setFlag f b).data = s.data := rfl
@[simp] theorem State.free_of_setFlag {s : State} {f b} : (s.setFlag f b).free = s.free := rfl
@[simp] theorem State.pending_of_setFlag {s : State} {f b} : (s.setFlag f b).pending = s.pending := rfl

@[simp] theorem State.old_of_incSat {s : State} {f} : (s.incSat f).old = s.old := rfl
@[simp] theorem State.held64_of_incSat {s : State} {f} : (s.incSat f).held64 = s.held64 := rfl
@[simp] theorem State.low64_of_incSat {s : State} {f} : (s.incSat f).low64 = s.low64 := rfl
@[simp] theorem State.mem_of_incSat {s : State} {f} : (s.incSat f).mem = s.mem := rfl
@[simp] theorem State.nv_of_incSat {s : State} {f} : (s.incSat f).nv = s.nv := rfl
@[simp] theorem State.time_of_incSat {s : State} {f} : (s.incSat f).time = s.time := rfl
@[simp] theorem State.ctr_of_incSat {s : State} {f} : (s.incSat f).ctr = s.ctr := rfl
@[simp] theorem State.ctrPrev_of_incSat {s : State} {f} : (s.incSat f).ctrPrev = s.ctrPrev := rfl
@[simp] theorem State.lockAt_of_incSat {s : State} {f} : (s.incSat f).lockAt = s.lockAt := rfl
@[simp] theorem State.lockBy_of_incSat {s : State} {f} : (s.incSat f).lockBy = s.lockBy := rfl
@[simp] theorem State.safeReq_of_incSat {s : State} {f} : (s.incSat f).safeReq = s.safeReq := rfl
@[simp] theorem State.clrReq_of_incSat {s : State} {f} : (s.incSat f).clrReq = s.clrReq := rfl
@[simp] theorem State.ch_of_incSat {s : State} {f} : (s.incSat f).ch = s.ch := rfl
@[simp] theorem State.sh_of_incSat {s : State} {f} : (s.incSat f).sh = s.sh := rfl
@[simp] theorem State.lane_of_incSat {s : State} {f} : (s.incSat f).lane = s.lane := rfl
@[simp] theorem State.spare_of_incSat {s : State} {f} : (s.incSat f).spare = s.spare := rfl
@[simp] theorem State.led_of_incSat {s : State} {f} : (s.incSat f).led = s.led := rfl
@[simp] theorem State.fd_of_incSat {s : State} {f} : (s.incSat f).fd = s.fd := rfl
@[simp] theorem State.fsel_of_incSat {s : State} {f} : (s.incSat f).fsel = s.fsel := rfl
@[simp] theorem State.hu_of_incSat {s : State} {f} : (s.incSat f).hu = s.hu := rfl
@[simp] theorem State.ax_of_incSat {s : State} {f} : (s.incSat f).ax = s.ax := rfl
@[simp] theorem State.al_of_incSat {s : State} {f} : (s.incSat f).al = s.al := rfl
@[simp] theorem State.sq_of_incSat {s : State} {f} : (s.incSat f).sq = s.sq := rfl
@[simp] theorem State.boot_of_incSat {s : State} {f} : (s.incSat f).boot = s.boot := rfl
@[simp] theorem State.clk_of_incSat {s : State} {f} : (s.incSat f).clk = s.clk := rfl
@[simp] theorem State.mode_of_incSat {s : State} {f} : (s.incSat f).mode = s.mode := rfl
@[simp] theorem State.ev_of_incSat {s : State} {f} : (s.incSat f).ev = s.ev := rfl
@[simp] theorem State.link_of_incSat {s : State} {f} : (s.incSat f).link = s.link := rfl
@[simp] theorem State.tw_of_incSat {s : State} {f} : (s.incSat f).tw = s.tw := rfl
@[simp] theorem State.vault_of_incSat {s : State} {f} : (s.incSat f).vault = s.vault := rfl
@[simp] theorem State.cellar_of_incSat {s : State} {f} : (s.incSat f).cellar = s.cellar := rfl
@[simp] theorem State.tst_of_incSat {s : State} {f} : (s.incSat f).tst = s.tst := rfl
@[simp] theorem State.maint_of_incSat {s : State} {f} : (s.incSat f).maint = s.maint := rfl
@[simp] theorem State.status_of_incSat {s : State} {f} : (s.incSat f).status = s.status := rfl
@[simp] theorem State.data_of_incSat {s : State} {f} : (s.incSat f).data = s.data := rfl
@[simp] theorem State.free_of_incSat {s : State} {f} : (s.incSat f).free = s.free := rfl
@[simp] theorem State.pending_of_incSat {s : State} {f} : (s.incSat f).pending = s.pending := rfl

@[simp] theorem State.old_of_incWrap {s : State} {f} : (s.incWrap f).old = s.old := rfl
@[simp] theorem State.held64_of_incWrap {s : State} {f} : (s.incWrap f).held64 = s.held64 := rfl
@[simp] theorem State.low64_of_incWrap {s : State} {f} : (s.incWrap f).low64 = s.low64 := rfl
@[simp] theorem State.mem_of_incWrap {s : State} {f} : (s.incWrap f).mem = s.mem := rfl
@[simp] theorem State.nv_of_incWrap {s : State} {f} : (s.incWrap f).nv = s.nv := rfl
@[simp] theorem State.time_of_incWrap {s : State} {f} : (s.incWrap f).time = s.time := rfl
@[simp] theorem State.ctr_of_incWrap {s : State} {f} : (s.incWrap f).ctr = s.ctr := rfl
@[simp] theorem State.ctrPrev_of_incWrap {s : State} {f} : (s.incWrap f).ctrPrev = s.ctrPrev := rfl
@[simp] theorem State.lockAt_of_incWrap {s : State} {f} : (s.incWrap f).lockAt = s.lockAt := rfl
@[simp] theorem State.lockBy_of_incWrap {s : State} {f} : (s.incWrap f).lockBy = s.lockBy := rfl
@[simp] theorem State.safeReq_of_incWrap {s : State} {f} : (s.incWrap f).safeReq = s.safeReq := rfl
@[simp] theorem State.clrReq_of_incWrap {s : State} {f} : (s.incWrap f).clrReq = s.clrReq := rfl
@[simp] theorem State.ch_of_incWrap {s : State} {f} : (s.incWrap f).ch = s.ch := rfl
@[simp] theorem State.sh_of_incWrap {s : State} {f} : (s.incWrap f).sh = s.sh := rfl
@[simp] theorem State.lane_of_incWrap {s : State} {f} : (s.incWrap f).lane = s.lane := rfl
@[simp] theorem State.spare_of_incWrap {s : State} {f} : (s.incWrap f).spare = s.spare := rfl
@[simp] theorem State.led_of_incWrap {s : State} {f} : (s.incWrap f).led = s.led := rfl
@[simp] theorem State.fd_of_incWrap {s : State} {f} : (s.incWrap f).fd = s.fd := rfl
@[simp] theorem State.fsel_of_incWrap {s : State} {f} : (s.incWrap f).fsel = s.fsel := rfl
@[simp] theorem State.hu_of_incWrap {s : State} {f} : (s.incWrap f).hu = s.hu := rfl
@[simp] theorem State.ax_of_incWrap {s : State} {f} : (s.incWrap f).ax = s.ax := rfl
@[simp] theorem State.al_of_incWrap {s : State} {f} : (s.incWrap f).al = s.al := rfl
@[simp] theorem State.sq_of_incWrap {s : State} {f} : (s.incWrap f).sq = s.sq := rfl
@[simp] theorem State.boot_of_incWrap {s : State} {f} : (s.incWrap f).boot = s.boot := rfl
@[simp] theorem State.clk_of_incWrap {s : State} {f} : (s.incWrap f).clk = s.clk := rfl
@[simp] theorem State.mode_of_incWrap {s : State} {f} : (s.incWrap f).mode = s.mode := rfl
@[simp] theorem State.ev_of_incWrap {s : State} {f} : (s.incWrap f).ev = s.ev := rfl
@[simp] theorem State.link_of_incWrap {s : State} {f} : (s.incWrap f).link = s.link := rfl
@[simp] theorem State.tw_of_incWrap {s : State} {f} : (s.incWrap f).tw = s.tw := rfl
@[simp] theorem State.vault_of_incWrap {s : State} {f} : (s.incWrap f).vault = s.vault := rfl
@[simp] theorem State.cellar_of_incWrap {s : State} {f} : (s.incWrap f).cellar = s.cellar := rfl
@[simp] theorem State.tst_of_incWrap {s : State} {f} : (s.incWrap f).tst = s.tst := rfl
@[simp] theorem State.maint_of_incWrap {s : State} {f} : (s.incWrap f).maint = s.maint := rfl
@[simp] theorem State.status_of_incWrap {s : State} {f} : (s.incWrap f).status = s.status := rfl
@[simp] theorem State.data_of_incWrap {s : State} {f} : (s.incWrap f).data = s.data := rfl
@[simp] theorem State.free_of_incWrap {s : State} {f} : (s.incWrap f).free = s.free := rfl
@[simp] theorem State.pending_of_incWrap {s : State} {f} : (s.incWrap f).pending = s.pending := rfl

@[simp] theorem State.old_of_setWord64 {s : State} {lo hi v} : (s.setWord64 lo hi v).old = s.old := rfl
@[simp] theorem State.held64_of_setWord64 {s : State} {lo hi v} : (s.setWord64 lo hi v).held64 = s.held64 := rfl
@[simp] theorem State.low64_of_setWord64 {s : State} {lo hi v} : (s.setWord64 lo hi v).low64 = s.low64 := rfl
@[simp] theorem State.mem_of_setWord64 {s : State} {lo hi v} : (s.setWord64 lo hi v).mem = s.mem := rfl
@[simp] theorem State.nv_of_setWord64 {s : State} {lo hi v} : (s.setWord64 lo hi v).nv = s.nv := rfl
@[simp] theorem State.time_of_setWord64 {s : State} {lo hi v} : (s.setWord64 lo hi v).time = s.time := rfl
@[simp] theorem State.ctr_of_setWord64 {s : State} {lo hi v} : (s.setWord64 lo hi v).ctr = s.ctr := rfl
@[simp] theorem State.ctrPrev_of_setWord64 {s : State} {lo hi v} : (s.setWord64 lo hi v).ctrPrev = s.ctrPrev := rfl
@[simp] theorem State.lockAt_of_setWord64 {s : State} {lo hi v} : (s.setWord64 lo hi v).lockAt = s.lockAt := rfl
@[simp] theorem State.lockBy_of_setWord64 {s : State} {lo hi v} : (s.setWord64 lo hi v).lockBy = s.lockBy := rfl
@[simp] theorem State.safeReq_of_setWord64 {s : State} {lo hi v} : (s.setWord64 lo hi v).safeReq = s.safeReq := rfl
@[simp] theorem State.clrReq_of_setWord64 {s : State} {lo hi v} : (s.setWord64 lo hi v).clrReq = s.clrReq := rfl
@[simp] theorem State.ch_of_setWord64 {s : State} {lo hi v} : (s.setWord64 lo hi v).ch = s.ch := rfl
@[simp] theorem State.sh_of_setWord64 {s : State} {lo hi v} : (s.setWord64 lo hi v).sh = s.sh := rfl
@[simp] theorem State.lane_of_setWord64 {s : State} {lo hi v} : (s.setWord64 lo hi v).lane = s.lane := rfl
@[simp] theorem State.spare_of_setWord64 {s : State} {lo hi v} : (s.setWord64 lo hi v).spare = s.spare := rfl
@[simp] theorem State.led_of_setWord64 {s : State} {lo hi v} : (s.setWord64 lo hi v).led = s.led := rfl
@[simp] theorem State.fd_of_setWord64 {s : State} {lo hi v} : (s.setWord64 lo hi v).fd = s.fd := rfl
@[simp] theorem State.fsel_of_setWord64 {s : State} {lo hi v} : (s.setWord64 lo hi v).fsel = s.fsel := rfl
@[simp] theorem State.hu_of_setWord64 {s : State} {lo hi v} : (s.setWord64 lo hi v).hu = s.hu := rfl
@[simp] theorem State.ax_of_setWord64 {s : State} {lo hi v} : (s.setWord64 lo hi v).ax = s.ax := rfl
@[simp] theorem State.al_of_setWord64 {s : State} {lo hi v} : (s.setWord64 lo hi v).al = s.al := rfl
@[simp] theorem State.sq_of_setWord64 {s : State} {lo hi v} : (s.setWord64 lo hi v).sq = s.sq := rfl
@[simp] theorem State.boot_of_setWord64 {s : State} {lo hi v} : (s.setWord64 lo hi v).boot = s.boot := rfl
@[simp] theorem State.clk_of_setWord64 {s : State} {lo hi v} : (s.setWord64 lo hi v).clk = s.clk := rfl
@[simp] theorem State.mode_of_setWord64 {s : State} {lo hi v} : (s.setWord64 lo hi v).mode = s.mode := rfl
@[simp] theorem State.ev_of_setWord64 {s : State} {lo hi v} : (s.setWord64 lo hi v).ev = s.ev := rfl
@[simp] theorem State.link_of_setWord64 {s : State} {lo hi v} : (s.setWord64 lo hi v).link = s.link := rfl
@[simp] theorem State.tw_of_setWord64 {s : State} {lo hi v} : (s.setWord64 lo hi v).tw = s.tw := rfl
@[simp] theorem State.vault_of_setWord64 {s : State} {lo hi v} : (s.setWord64 lo hi v).vault = s.vault := rfl
@[simp] theorem State.cellar_of_setWord64 {s : State} {lo hi v} : (s.setWord64 lo hi v).cellar = s.cellar := rfl
@[simp] theorem State.tst_of_setWord64 {s : State} {lo hi v} : (s.setWord64 lo hi v).tst = s.tst := rfl
@[simp] theorem State.maint_of_setWord64 {s : State} {lo hi v} : (s.setWord64 lo hi v).maint = s.maint := rfl
@[simp] theorem State.status_of_setWord64 {s : State} {lo hi v} : (s.setWord64 lo hi v).status = s.status := rfl
@[simp] theorem State.data_of_setWord64 {s : State} {lo hi v} : (s.setWord64 lo hi v).data = s.data := rfl
@[simp] theorem State.free_of_setWord64 {s : State} {lo hi v} : (s.setWord64 lo hi v).free = s.free := rfl
@[simp] theorem State.pending_of_setWord64 {s : State} {lo hi v} : (s.setWord64 lo hi v).pending = s.pending := rfl

@[simp] theorem State.regs_of_putBytes {s : State} {a bs} : (s.putBytes a bs).regs = s.regs := rfl
@[simp] theorem State.old_of_putBytes {s : State} {a bs} : (s.putBytes a bs).old = s.old := rfl
@[simp] theorem State.held64_of_putBytes {s : State} {a bs} : (s.putBytes a bs).held64 = s.held64 := rfl
@[simp] theorem State.low64_of_putBytes {s : State} {a bs} : (s.putBytes a bs).low64 = s.low64 := rfl
@[simp] theorem State.nv_of_putBytes {s : State} {a bs} : (s.putBytes a bs).nv = s.nv := rfl
@[simp] theorem State.time_of_putBytes {s : State} {a bs} : (s.putBytes a bs).time = s.time := rfl
@[simp] theorem State.ctr_of_putBytes {s : State} {a bs} : (s.putBytes a bs).ctr = s.ctr := rfl
@[simp] theorem State.ctrPrev_of_putBytes {s : State} {a bs} : (s.putBytes a bs).ctrPrev = s.ctrPrev := rfl
@[simp] theorem State.lockAt_of_putBytes {s : State} {a bs} : (s.putBytes a bs).lockAt = s.lockAt := rfl
@[simp] theorem State.lockBy_of_putBytes {s : State} {a bs} : (s.putBytes a bs).lockBy = s.lockBy := rfl
@[simp] theorem State.safeReq_of_putBytes {s : State} {a bs} : (s.putBytes a bs).safeReq = s.safeReq := rfl
@[simp] theorem State.clrReq_of_putBytes {s : State} {a bs} : (s.putBytes a bs).clrReq = s.clrReq := rfl
@[simp] theorem State.ch_of_putBytes {s : State} {a bs} : (s.putBytes a bs).ch = s.ch := rfl
@[simp] theorem State.sh_of_putBytes {s : State} {a bs} : (s.putBytes a bs).sh = s.sh := rfl
@[simp] theorem State.lane_of_putBytes {s : State} {a bs} : (s.putBytes a bs).lane = s.lane := rfl
@[simp] theorem State.spare_of_putBytes {s : State} {a bs} : (s.putBytes a bs).spare = s.spare := rfl
@[simp] theorem State.led_of_putBytes {s : State} {a bs} : (s.putBytes a bs).led = s.led := rfl
@[simp] theorem State.fd_of_putBytes {s : State} {a bs} : (s.putBytes a bs).fd = s.fd := rfl
@[simp] theorem State.fsel_of_putBytes {s : State} {a bs} : (s.putBytes a bs).fsel = s.fsel := rfl
@[simp] theorem State.hu_of_putBytes {s : State} {a bs} : (s.putBytes a bs).hu = s.hu := rfl
@[simp] theorem State.ax_of_putBytes {s : State} {a bs} : (s.putBytes a bs).ax = s.ax := rfl
@[simp] theorem State.al_of_putBytes {s : State} {a bs} : (s.putBytes a bs).al = s.al := rfl
@[simp] theorem State.sq_of_putBytes {s : State} {a bs} : (s.putBytes a bs).sq = s.sq := rfl
@[simp] theorem State.boot_of_putBytes {s : State} {a bs} : (s.putBytes a bs).boot = s.boot := rfl
@[simp] theorem State.clk_of_putBytes {s : State} {a bs} : (s.putBytes a bs).clk = s.clk := rfl
@[simp] theorem State.mode_of_putBytes {s : State} {a bs} : (s.putBytes a bs).mode = s.mode := rfl
@[simp] theorem State.ev_of_putBytes {s : State} {a bs} : (s.putBytes a bs).ev = s.ev := rfl
@[simp] theorem State.link_of_putBytes {s : State} {a bs} : (s.putBytes a bs).link = s.link := rfl
@[simp] theorem State.tw_of_putBytes {s : State} {a bs} : (s.putBytes a bs).tw = s.tw := rfl
@[simp] theorem State.vault_of_putBytes {s : State} {a bs} : (s.putBytes a bs).vault = s.vault := rfl
@[simp] theorem State.cellar_of_putBytes {s : State} {a bs} : (s.putBytes a bs).cellar = s.cellar := rfl
@[simp] theorem State.tst_of_putBytes {s : State} {a bs} : (s.putBytes a bs).tst = s.tst := rfl
@[simp] theorem State.maint_of_putBytes {s : State} {a bs} : (s.putBytes a bs).maint = s.maint := rfl
@[simp] theorem State.status_of_putBytes {s : State} {a bs} : (s.putBytes a bs).status = s.status := rfl
@[simp] theorem State.data_of_putBytes {s : State} {a bs} : (s.putBytes a bs).data = s.data := rfl
@[simp] theorem State.free_of_putBytes {s : State} {a bs} : (s.putBytes a bs).free = s.free := rfl
@[simp] theorem State.pending_of_putBytes {s : State} {a bs} : (s.putBytes a bs).pending = s.pending := rfl

@[simp] theorem State.regs_of_putMemWord {s : State} {a w} : (s.putMemWord a w).regs = s.regs := rfl
@[simp] theorem State.old_of_putMemWord {s : State} {a w} : (s.putMemWord a w).old = s.old := rfl
@[simp] theorem State.held64_of_putMemWord {s : State} {a w} : (s.putMemWord a w).held64 = s.held64 := rfl
@[simp] theorem State.low64_of_putMemWord {s : State} {a w} : (s.putMemWord a w).low64 = s.low64 := rfl
@[simp] theorem State.nv_of_putMemWord {s : State} {a w} : (s.putMemWord a w).nv = s.nv := rfl
@[simp] theorem State.time_of_putMemWord {s : State} {a w} : (s.putMemWord a w).time = s.time := rfl
@[simp] theorem State.ctr_of_putMemWord {s : State} {a w} : (s.putMemWord a w).ctr = s.ctr := rfl
@[simp] theorem State.ctrPrev_of_putMemWord {s : State} {a w} : (s.putMemWord a w).ctrPrev = s.ctrPrev := rfl
@[simp] theorem State.lockAt_of_putMemWord {s : State} {a w} : (s.putMemWord a w).lockAt = s.lockAt := rfl
@[simp] theorem State.lockBy_of_putMemWord {s : State} {a w} : (s.putMemWord a w).lockBy = s.lockBy := rfl
@[simp] theorem State.safeReq_of_putMemWord {s : State} {a w} : (s.putMemWord a w).safeReq = s.safeReq := rfl
@[simp] theorem State.clrReq_of_putMemWord {s : State} {a w} : (s.putMemWord a w).clrReq = s.clrReq := rfl
@[simp] theorem State.ch_of_putMemWord {s : State} {a w} : (s.putMemWord a w).ch = s.ch := rfl
@[simp] theorem State.sh_of_putMemWord {s : State} {a w} : (s.putMemWord a w).sh = s.sh := rfl
@[simp] theorem State.lane_of_putMemWord {s : State} {a w} : (s.putMemWord a w).lane = s.lane := rfl
@[simp] theorem State.spare_of_putMemWord {s : State} {a w} : (s.putMemWord a w).spare = s.spare := rfl
@[simp] theorem State.led_of_putMemWord {s : State} {a w} : (s.putMemWord a w).led = s.led := rfl
@[simp] theorem State.fd_of_putMemWord {s : State} {a w} : (s.putMemWord a w).fd = s.fd := rfl
@[simp] theorem State.fsel_of_putMemWord {s : State} {a w} : (s.putMemWord a w).fsel = s.fsel := rfl
@[simp] theorem State.hu_of_putMemWord {s : State} {a w} : (s.putMemWord a w).hu = s.hu := rfl
@[simp] theorem State.ax_of_putMemWord {s : State} {a w} : (s.putMemWord a w).ax = s.ax := rfl
@[simp] theorem State.al_of_putMemWord {s : State} {a w} : (s.putMemWord a w).al = s.al := rfl
@[simp] theorem State.sq_of_putMemWord {s : State} {a w} : (s.putMemWord a w).sq = s.sq := rfl
@[simp] theorem State.boot_of_putMemWord {s : State} {a w} : (s.putMemWord a w).boot = s.boot := rfl
@[simp] theorem State.clk_of_putMemWord {s : State} {a w} : (s.putMemWord a w).clk = s.clk := rfl
@[simp] theorem State.mode_of_putMemWord {s : State} {a w} : (s.putMemWord a w).mode = s.mode := rfl
@[simp] theorem State.ev_of_putMemWord {s : State} {a w} : (s.putMemWord a w).ev = s.ev := rfl
@[simp] theorem State.link_of_putMemWord {s : State} {a w} : (s.putMemWord a w).link = s.link := rfl
@[simp] theorem State.tw_of_putMemWord {s : State} {a w} : (s.putMemWord a w).tw = s.tw := rfl
@[simp] theorem State.vault_of_putMemWord {s : State} {a w} : (s.putMemWord a w).vault = s.vault := rfl
@[simp] theorem State.cellar_of_putMemWord {s : State} {a w} : (s.putMemWord a w).cellar = s.cellar := rfl
@[simp] theorem State.tst_of_putMemWord {s : State} {a w} : (s.putMemWord a w).tst = s.tst := rfl
@[simp] theorem State.maint_of_putMemWord {s : State} {a w} : (s.putMemWord a w).maint = s.maint := rfl
@[simp] theorem State.status_of_putMemWord {s : State} {a w} : (s.putMemWord a w).status = s.status := rfl
@[simp] theorem State.data_of_putMemWord {s : State} {a w} : (s.putMemWord a w).data = s.data := rfl
@[simp] theorem State.free_of_putMemWord {s : State} {a w} : (s.putMemWord a w).free = s.free := rfl
@[simp] theorem State.pending_of_putMemWord {s : State} {a w} : (s.putMemWord a w).pending = s.pending := rfl

@[simp] theorem State.regs_of_setCh {s : State} {n c} : (s.setCh n c).regs = s.regs := rfl
@[simp] theorem State.old_of_setCh {s : State} {n c} : (s.setCh n c).old = s.old := rfl
@[simp] theorem State.held64_of_setCh {s : State} {n c} : (s.setCh n c).held64 = s.held64 := rfl
@[simp] theorem State.low64_of_setCh {s : State} {n c} : (s.setCh n c).low64 = s.low64 := rfl
@[simp] theorem State.mem_of_setCh {s : State} {n c} : (s.setCh n c).mem = s.mem := rfl
@[simp] theorem State.nv_of_setCh {s : State} {n c} : (s.setCh n c).nv = s.nv := rfl
@[simp] theorem State.time_of_setCh {s : State} {n c} : (s.setCh n c).time = s.time := rfl
@[simp] theorem State.ctr_of_setCh {s : State} {n c} : (s.setCh n c).ctr = s.ctr := rfl
@[simp] theorem State.ctrPrev_of_setCh {s : State} {n c} : (s.setCh n c).ctrPrev = s.ctrPrev := rfl
@[simp] theorem State.lockAt_of_setCh {s : State} {n c} : (s.setCh n c).lockAt = s.lockAt := rfl
@[simp] theorem State.lockBy_of_setCh {s : State} {n c} : (s.setCh n c).lockBy = s.lockBy := rfl
@[simp] theorem State.safeReq_of_setCh {s : State} {n c} : (s.setCh n c).safeReq = s.safeReq := rfl
@[simp] theorem State.clrReq_of_setCh {s : State} {n c} : (s.setCh n c).clrReq = s.clrReq := rfl
@[simp] theorem State.sh_of_setCh {s : State} {n c} : (s.setCh n c).sh = s.sh := rfl
@[simp] theorem State.lane_of_setCh {s : State} {n c} : (s.setCh n c).lane = s.lane := rfl
@[simp] theorem State.spare_of_setCh {s : State} {n c} : (s.setCh n c).spare = s.spare := rfl
@[simp] theorem State.led_of_setCh {s : State} {n c} : (s.setCh n c).led = s.led := rfl
@[simp] theorem State.fd_of_setCh {s : State} {n c} : (s.setCh n c).fd = s.fd := rfl
@[simp] theorem State.fsel_of_setCh {s : State} {n c} : (s.setCh n c).fsel = s.fsel := rfl
@[simp] theorem State.hu_of_setCh {s : State} {n c} : (s.setCh n c).hu = s.hu := rfl
@[simp] theorem State.ax_of_setCh {s : State} {n c} : (s.setCh n c).ax = s.ax := rfl
@[simp] theorem State.al_of_setCh {s : State} {n c} : (s.setCh n c).al = s.al := rfl
@[simp] theorem State.sq_of_setCh {s : State} {n c} : (s.setCh n c).sq = s.sq := rfl
@[simp] theorem State.boot_of_setCh {s : State} {n c} : (s.setCh n c).boot = s.boot := rfl
@[simp] theorem State.clk_of_setCh {s : State} {n c} : (s.setCh n c).clk = s.clk := rfl
@[simp] theorem State.mode_of_setCh {s : State} {n c} : (s.setCh n c).mode = s.mode := rfl
@[simp] theorem State.ev_of_setCh {s : State} {n c} : (s.setCh n c).ev = s.ev := rfl
@[simp] theorem State.link_of_setCh {s : State} {n c} : (s.setCh n c).link = s.link := rfl
@[simp] theorem State.tw_of_setCh {s : State} {n c} : (s.setCh n c).tw = s.tw := rfl
@[simp] theorem State.vault_of_setCh {s : State} {n c} : (s.setCh n c).vault = s.vault := rfl
@[simp] theorem State.cellar_of_setCh {s : State} {n c} : (s.setCh n c).cellar = s.cellar := rfl
@[simp] theorem State.tst_of_setCh {s : State} {n c} : (s.setCh n c).tst = s.tst := rfl
@[simp] theorem State.maint_of_setCh {s : State} {n c} : (s.setCh n c).maint = s.maint := rfl
@[simp] theorem State.status_of_setCh {s : State} {n c} : (s.setCh n c).status = s.status := rfl
@[simp] theorem State.data_of_setCh {s : State} {n c} : (s.setCh n c).data = s.data := rfl
@[simp] theorem State.free_of_setCh {s : State} {n c} : (s.setCh n c).free = s.free := rfl
@[simp] theorem State.pending_of_setCh {s : State} {n c} : (s.setCh n c).pending = s.pending := rfl

@[simp] theorem State.regs_of_modCh {s : State} {n f} : (s.modCh n f).regs = s.regs := rfl
@[simp] theorem State.old_of_modCh {s : State} {n f} : (s.modCh n f).old = s.old := rfl
@[simp] theorem State.held64_of_modCh {s : State} {n f} : (s.modCh n f).held64 = s.held64 := rfl
@[simp] theorem State.low64_of_modCh {s : State} {n f} : (s.modCh n f).low64 = s.low64 := rfl
@[simp] theorem State.mem_of_modCh {s : State} {n f} : (s.modCh n f).mem = s.mem := rfl
@[simp] theorem State.nv_of_modCh {s : State} {n f} : (s.modCh n f).nv = s.nv := rfl
@[simp] theorem State.time_of_modCh {s : State} {n f} : (s.modCh n f).time = s.time := rfl
@[simp] theorem State.ctr_of_modCh {s : State} {n f} : (s.modCh n f).ctr = s.ctr := rfl
@[simp] theorem State.ctrPrev_of_modCh {s : State} {n f} : (s.modCh n f).ctrPrev = s.ctrPrev := rfl
@[simp] theorem State.lockAt_of_modCh {s : State} {n f} : (s.modCh n f).lockAt = s.lockAt := rfl
@[simp] theorem State.lockBy_of_modCh {s : State} {n f} : (s.modCh n f).lockBy = s.lockBy := rfl
@[simp] theorem State.safeReq_of_modCh {s : State} {n f} : (s.modCh n f).safeReq = s.safeReq := rfl
@[simp] theorem State.clrReq_of_modCh {s : State} {n f} : (s.modCh n f).clrReq = s.clrReq := rfl
@[simp] theorem State.sh_of_modCh {s : State} {n f} : (s.modCh n f).sh = s.sh := rfl
@[simp] theorem State.lane_of_modCh {s : State} {n f} : (s.modCh n f).lane = s.lane := rfl
@[simp] theorem State.spare_of_modCh {s : State} {n f} : (s.modCh n f).spare = s.spare := rfl
@[simp] theorem State.led_of_modCh {s : State} {n f} : (s.modCh n f).led = s.led := rfl
@[simp] theorem State.fd_of_modCh {s : State} {n f} : (s.modCh n f).fd = s.fd := rfl
@[simp] theorem State.fsel_of_modCh {s : State} {n f} : (s.modCh n f).fsel = s.fsel := rfl
@[simp] theorem State.hu_of_modCh {s : State} {n f} : (s.modCh n f).hu = s.hu := rfl
@[simp] theorem State.ax_of_modCh {s : State} {n f} : (s.modCh n f).ax = s.ax := rfl
@[simp] theorem State.al_of_modCh {s : State} {n f} : (s.modCh n f).al = s.al := rfl
@[simp] theorem State.sq_of_modCh {s : State} {n f} : (s.modCh n f).sq = s.sq := rfl
@[simp] theorem State.boot_of_modCh {s : State} {n f} : (s.modCh n f).boot = s.boot := rfl
@[simp] theorem State.clk_of_modCh {s : State} {n f} : (s.modCh n f).clk = s.clk := rfl
@[simp] theorem State.mode_of_modCh {s : State} {n f} : (s.modCh n f).mode = s.mode := rfl
@[simp] theorem State.ev_of_modCh {s : State} {n f} : (s.modCh n f).ev = s.ev := rfl
@[simp] theorem State.link_of_modCh {s : State} {n f} : (s.modCh n f).link = s.link := rfl
@[simp] theorem State.tw_of_modCh {s : State} {n f} : (s.modCh n f).tw = s.tw := rfl
@[simp] theorem State.vault_of_modCh {s : State} {n f} : (s.modCh n f).vault = s.vault := rfl
@[simp] theorem State.cellar_of_modCh {s : State} {n f} : (s.modCh n f).cellar = s.cellar := rfl
@[simp] theorem State.tst_of_modCh {s : State} {n f} : (s.modCh n f).tst = s.tst := rfl
@[simp] theorem State.maint_of_modCh {s : State} {n f} : (s.modCh n f).maint = s.maint := rfl
@[simp] theorem State.status_of_modCh {s : State} {n f} : (s.modCh n f).status = s.status := rfl
@[simp] theorem State.data_of_modCh {s : State} {n f} : (s.modCh n f).data = s.data := rfl
@[simp] theorem State.free_of_modCh {s : State} {n f} : (s.modCh n f).free = s.free := rfl
@[simp] theorem State.pending_of_modCh {s : State} {n f} : (s.modCh n f).pending = s.pending := rfl

@[simp] theorem State.regs_of_modM {s : State} {n f} : (s.modM n f).regs = s.regs := rfl
@[simp] theorem State.old_of_modM {s : State} {n f} : (s.modM n f).old = s.old := rfl
@[simp] theorem State.held64_of_modM {s : State} {n f} : (s.modM n f).held64 = s.held64 := rfl
@[simp] theorem State.low64_of_modM {s : State} {n f} : (s.modM n f).low64 = s.low64 := rfl
@[simp] theorem State.mem_of_modM {s : State} {n f} : (s.modM n f).mem = s.mem := rfl
@[simp] theorem State.nv_of_modM {s : State} {n f} : (s.modM n f).nv = s.nv := rfl
@[simp] theorem State.time_of_modM {s : State} {n f} : (s.modM n f).time = s.time := rfl
@[simp] theorem State.ctr_of_modM {s : State} {n f} : (s.modM n f).ctr = s.ctr := rfl
@[simp] theorem State.ctrPrev_of_modM {s : State} {n f} : (s.modM n f).ctrPrev = s.ctrPrev := rfl
@[simp] theorem State.lockAt_of_modM {s : State} {n f} : (s.modM n f).lockAt = s.lockAt := rfl
@[simp] theorem State.lockBy_of_modM {s : State} {n f} : (s.modM n f).lockBy = s.lockBy := rfl
@[simp] theorem State.safeReq_of_modM {s : State} {n f} : (s.modM n f).safeReq = s.safeReq := rfl
@[simp] theorem State.clrReq_of_modM {s : State} {n f} : (s.modM n f).clrReq = s.clrReq := rfl
@[simp] theorem State.sh_of_modM {s : State} {n f} : (s.modM n f).sh = s.sh := rfl
@[simp] theorem State.lane_of_modM {s : State} {n f} : (s.modM n f).lane = s.lane := rfl
@[simp] theorem State.spare_of_modM {s : State} {n f} : (s.modM n f).spare = s.spare := rfl
@[simp] theorem State.led_of_modM {s : State} {n f} : (s.modM n f).led = s.led := rfl
@[simp] theorem State.fd_of_modM {s : State} {n f} : (s.modM n f).fd = s.fd := rfl
@[simp] theorem State.fsel_of_modM {s : State} {n f} : (s.modM n f).fsel = s.fsel := rfl
@[simp] theorem State.hu_of_modM {s : State} {n f} : (s.modM n f).hu = s.hu := rfl
@[simp] theorem State.ax_of_modM {s : State} {n f} : (s.modM n f).ax = s.ax := rfl
@[simp] theorem State.al_of_modM {s : State} {n f} : (s.modM n f).al = s.al := rfl
@[simp] theorem State.sq_of_modM {s : State} {n f} : (s.modM n f).sq = s.sq := rfl
@[simp] theorem State.boot_of_modM {s : State} {n f} : (s.modM n f).boot = s.boot := rfl
@[simp] theorem State.clk_of_modM {s : State} {n f} : (s.modM n f).clk = s.clk := rfl
@[simp] theorem State.mode_of_modM {s : State} {n f} : (s.modM n f).mode = s.mode := rfl
@[simp] theorem State.ev_of_modM {s : State} {n f} : (s.modM n f).ev = s.ev := rfl
@[simp] theorem State.link_of_modM {s : State} {n f} : (s.modM n f).link = s.link := rfl
@[simp] theorem State.tw_of_modM {s : State} {n f} : (s.modM n f).tw = s.tw := rfl
@[simp] theorem State.vault_of_modM {s : State} {n f} : (s.modM n f).vault = s.vault := rfl
@[simp] theorem State.cellar_of_modM {s : State} {n f} : (s.modM n f).cellar = s.cellar := rfl
@[simp] theorem State.tst_of_modM {s : State} {n f} : (s.modM n f).tst = s.tst := rfl
@[simp] theorem State.maint_of_modM {s : State} {n f} : (s.modM n f).maint = s.maint := rfl
@[simp] theorem State.status_of_modM {s : State} {n f} : (s.modM n f).status = s.status := rfl
@[simp] theorem State.data_of_modM {s : State} {n f} : (s.modM n f).data = s.data := rfl
@[simp] theorem State.free_of_modM {s : State} {n f} : (s.modM n f).free = s.free := rfl
@[simp] theorem State.pending_of_modM {s : State} {n f} : (s.modM n f).pending = s.pending := rfl

@[simp] theorem State.regs_of_modL {s : State} {n f} : (s.modL n f).regs = s.regs := rfl
@[simp] theorem State.old_of_modL {s : State} {n f} : (s.modL n f).old = s.old := rfl
@[simp] theorem State.held64_of_modL {s : State} {n f} : (s.modL n f).held64 = s.held64 := rfl
@[simp] theorem State.low64_of_modL {s : State} {n f} : (s.modL n f).low64 = s.low64 := rfl
@[simp] theorem State.mem_of_modL {s : State} {n f} : (s.modL n f).mem = s.mem := rfl
@[simp] theorem State.nv_of_modL {s : State} {n f} : (s.modL n f).nv = s.nv := rfl
@[simp] theorem State.time_of_modL {s : State} {n f} : (s.modL n f).time = s.time := rfl
@[simp] theorem State.ctr_of_modL {s : State} {n f} : (s.modL n f).ctr = s.ctr := rfl
@[simp] theorem State.ctrPrev_of_modL {s : State} {n f} : (s.modL n f).ctrPrev = s.ctrPrev := rfl
@[simp] theorem State.lockAt_of_modL {s : State} {n f} : (s.modL n f).lockAt = s.lockAt := rfl
@[simp] theorem State.lockBy_of_modL {s : State} {n f} : (s.modL n f).lockBy = s.lockBy := rfl
@[simp] theorem State.safeReq_of_modL {s : State} {n f} : (s.modL n f).safeReq = s.safeReq := rfl
@[simp] theorem State.clrReq_of_modL {s : State} {n f} : (s.modL n f).clrReq = s.clrReq := rfl
@[simp] theorem State.sh_of_modL {s : State} {n f} : (s.modL n f).sh = s.sh := rfl
@[simp] theorem State.lane_of_modL {s : State} {n f} : (s.modL n f).lane = s.lane := rfl
@[simp] theorem State.spare_of_modL {s : State} {n f} : (s.modL n f).spare = s.spare := rfl
@[simp] theorem State.led_of_modL {s : State} {n f} : (s.modL n f).led = s.led := rfl
@[simp] theorem State.fd_of_modL {s : State} {n f} : (s.modL n f).fd = s.fd := rfl
@[simp] theorem State.fsel_of_modL {s : State} {n f} : (s.modL n f).fsel = s.fsel := rfl
@[simp] theorem State.hu_of_modL {s : State} {n f} : (s.modL n f).hu = s.hu := rfl
@[simp] theorem State.ax_of_modL {s : State} {n f} : (s.modL n f).ax = s.ax := rfl
@[simp] theorem State.al_of_modL {s : State} {n f} : (s.modL n f).al = s.al := rfl
@[simp] theorem State.sq_of_modL {s : State} {n f} : (s.modL n f).sq = s.sq := rfl
@[simp] theorem State.boot_of_modL {s : State} {n f} : (s.modL n f).boot = s.boot := rfl
@[simp] theorem State.clk_of_modL {s : State} {n f} : (s.modL n f).clk = s.clk := rfl
@[simp] theorem State.mode_of_modL {s : State} {n f} : (s.modL n f).mode = s.mode := rfl
@[simp] theorem State.ev_of_modL {s : State} {n f} : (s.modL n f).ev = s.ev := rfl
@[simp] theorem State.link_of_modL {s : State} {n f} : (s.modL n f).link = s.link := rfl
@[simp] theorem State.tw_of_modL {s : State} {n f} : (s.modL n f).tw = s.tw := rfl
@[simp] theorem State.vault_of_modL {s : State} {n f} : (s.modL n f).vault = s.vault := rfl
@[simp] theorem State.cellar_of_modL {s : State} {n f} : (s.modL n f).cellar = s.cellar := rfl
@[simp] theorem State.tst_of_modL {s : State} {n f} : (s.modL n f).tst = s.tst := rfl
@[simp] theorem State.maint_of_modL {s : State} {n f} : (s.modL n f).maint = s.maint := rfl
@[simp] theorem State.status_of_modL {s : State} {n f} : (s.modL n f).status = s.status := rfl
@[simp] theorem State.data_of_modL {s : State} {n f} : (s.modL n f).data = s.data := rfl
@[simp] theorem State.free_of_modL {s : State} {n f} : (s.modL n f).free = s.free := rfl
@[simp] theorem State.pending_of_modL {s : State} {n f} : (s.modL n f).pending = s.pending := rfl

@[simp] theorem State.regs_of_modX {s : State} {n f} : (s.modX n f).regs = s.regs := rfl
@[simp] theorem State.old_of_modX {s : State} {n f} : (s.modX n f).old = s.old := rfl
@[simp] theorem State.held64_of_modX {s : State} {n f} : (s.modX n f).held64 = s.held64 := rfl
@[simp] theorem State.low64_of_modX {s : State} {n f} : (s.modX n f).low64 = s.low64 := rfl
@[simp] theorem State.mem_of_modX {s : State} {n f} : (s.modX n f).mem = s.mem := rfl
@[simp] theorem State.nv_of_modX {s : State} {n f} : (s.modX n f).nv = s.nv := rfl
@[simp] theorem State.time_of_modX {s : State} {n f} : (s.modX n f).time = s.time := rfl
@[simp] theorem State.ctr_of_modX {s : State} {n f} : (s.modX n f).ctr = s.ctr := rfl
@[simp] theorem State.ctrPrev_of_modX {s : State} {n f} : (s.modX n f).ctrPrev = s.ctrPrev := rfl
@[simp] theorem State.lockAt_of_modX {s : State} {n f} : (s.modX n f).lockAt = s.lockAt := rfl
@[simp] theorem State.lockBy_of_modX {s : State} {n f} : (s.modX n f).lockBy = s.lockBy := rfl
@[simp] theorem State.safeReq_of_modX {s : State} {n f} : (s.modX n f).safeReq = s.safeReq := rfl
@[simp] theorem State.clrReq_of_modX {s : State} {n f} : (s.modX n f).clrReq = s.clrReq := rfl
@[simp] theorem State.sh_of_modX {s : State} {n f} : (s.modX n f).sh = s.sh := rfl
@[simp] theorem State.lane_of_modX {s : State} {n f} : (s.modX n f).lane = s.lane := rfl
@[simp] theorem State.spare_of_modX {s : State} {n f} : (s.modX n f).spare = s.spare := rfl
@[simp] theorem State.led_of_modX {s : State} {n f} : (s.modX n f).led = s.led := rfl
@[simp] theorem State.fd_of_modX {s : State} {n f} : (s.modX n f).fd = s.fd := rfl
@[simp] theorem State.fsel_of_modX {s : State} {n f} : (s.modX n f).fsel = s.fsel := rfl
@[simp] theorem State.hu_of_modX {s : State} {n f} : (s.modX n f).hu = s.hu := rfl
@[simp] theorem State.ax_of_modX {s : State} {n f} : (s.modX n f).ax = s.ax := rfl
@[simp] theorem State.al_of_modX {s : State} {n f} : (s.modX n f).al = s.al := rfl
@[simp] theorem State.sq_of_modX {s : State} {n f} : (s.modX n f).sq = s.sq := rfl
@[simp] theorem State.boot_of_modX {s : State} {n f} : (s.modX n f).boot = s.boot := rfl
@[simp] theorem State.clk_of_modX {s : State} {n f} : (s.modX n f).clk = s.clk := rfl
@[simp] theorem State.mode_of_modX {s : State} {n f} : (s.modX n f).mode = s.mode := rfl
@[simp] theorem State.ev_of_modX {s : State} {n f} : (s.modX n f).ev = s.ev := rfl
@[simp] theorem State.link_of_modX {s : State} {n f} : (s.modX n f).link = s.link := rfl
@[simp] theorem State.tw_of_modX {s : State} {n f} : (s.modX n f).tw = s.tw := rfl
@[simp] theorem State.vault_of_modX {s : State} {n f} : (s.modX n f).vault = s.vault := rfl
@[simp] theorem State.cellar_of_modX {s : State} {n f} : (s.modX n f).cellar = s.cellar := rfl
@[simp] theorem State.tst_of_modX {s : State} {n f} : (s.modX n f).tst = s.tst := rfl
@[simp] theorem State.maint_of_modX {s : State} {n f} : (s.modX n f).maint = s.maint := rfl
@[simp] theorem State.status_of_modX {s : State} {n f} : (s.modX n f).status = s.status := rfl
@[simp] theorem State.data_of_modX {s : State} {n f} : (s.modX n f).data = s.data := rfl
@[simp] theorem State.free_of_modX {s : State} {n f} : (s.modX n f).free = s.free := rfl
@[simp] theorem State.pending_of_modX {s : State} {n f} : (s.modX n f).pending = s.pending := rfl

@[simp] theorem State.regs_of_modK {s : State} {n f} : (s.modK n f).regs = s.regs := rfl
@[simp] theorem State.old_of_modK {s : State} {n f} : (s.modK n f).old = s.old := rfl
@[simp] theorem State.held64_of_modK {s : State} {n f} : (s.modK n f).held64 = s.held64 := rfl
@[simp] theorem State.low64_of_modK {s : State} {n f} : (s.modK n f).low64 = s.low64 := rfl
@[simp] theorem State.mem_of_modK {s : State} {n f} : (s.modK n f).mem = s.mem := rfl
@[simp] theorem State.nv_of_modK {s : State} {n f} : (s.modK n f).nv = s.nv := rfl
@[simp] theorem State.time_of_modK {s : State} {n f} : (s.modK n f).time = s.time := rfl
@[simp] theorem State.ctr_of_modK {s : State} {n f} : (s.modK n f).ctr = s.ctr := rfl
@[simp] theorem State.ctrPrev_of_modK {s : State} {n f} : (s.modK n f).ctrPrev = s.ctrPrev := rfl
@[simp] theorem State.lockAt_of_modK {s : State} {n f} : (s.modK n f).lockAt = s.lockAt := rfl
@[simp] theorem State.lockBy_of_modK {s : State} {n f} : (s.modK n f).lockBy = s.lockBy := rfl
@[simp] theorem State.safeReq_of_modK {s : State} {n f} : (s.modK n f).safeReq = s.safeReq := rfl
@[simp] theorem State.clrReq_of_modK {s : State} {n f} : (s.modK n f).clrReq = s.clrReq := rfl
@[simp] theorem State.sh_of_modK {s : State} {n f} : (s.modK n f).sh = s.sh := rfl
@[simp] theorem State.lane_of_modK {s : State} {n f} : (s.modK n f).lane = s.lane := rfl
@[simp] theorem State.spare_of_modK {s : State} {n f} : (s.modK n f).spare = s.spare := rfl
@[simp] theorem State.led_of_modK {s : State} {n f} : (s.modK n f).led = s.led := rfl
@[simp] theorem State.fd_of_modK {s : State} {n f} : (s.modK n f).fd = s.fd := rfl
@[simp] theorem State.fsel_of_modK {s : State} {n f} : (s.modK n f).fsel = s.fsel := rfl
@[simp] theorem State.hu_of_modK {s : State} {n f} : (s.modK n f).hu = s.hu := rfl
@[simp] theorem State.ax_of_modK {s : State} {n f} : (s.modK n f).ax = s.ax := rfl
@[simp] theorem State.al_of_modK {s : State} {n f} : (s.modK n f).al = s.al := rfl
@[simp] theorem State.sq_of_modK {s : State} {n f} : (s.modK n f).sq = s.sq := rfl
@[simp] theorem State.boot_of_modK {s : State} {n f} : (s.modK n f).boot = s.boot := rfl
@[simp] theorem State.clk_of_modK {s : State} {n f} : (s.modK n f).clk = s.clk := rfl
@[simp] theorem State.mode_of_modK {s : State} {n f} : (s.modK n f).mode = s.mode := rfl
@[simp] theorem State.ev_of_modK {s : State} {n f} : (s.modK n f).ev = s.ev := rfl
@[simp] theorem State.link_of_modK {s : State} {n f} : (s.modK n f).link = s.link := rfl
@[simp] theorem State.tw_of_modK {s : State} {n f} : (s.modK n f).tw = s.tw := rfl
@[simp] theorem State.vault_of_modK {s : State} {n f} : (s.modK n f).vault = s.vault := rfl
@[simp] theorem State.cellar_of_modK {s : State} {n f} : (s.modK n f).cellar = s.cellar := rfl
@[simp] theorem State.tst_of_modK {s : State} {n f} : (s.modK n f).tst = s.tst := rfl
@[simp] theorem State.maint_of_modK {s : State} {n f} : (s.modK n f).maint = s.maint := rfl
@[simp] theorem State.status_of_modK {s : State} {n f} : (s.modK n f).status = s.status := rfl
@[simp] theorem State.data_of_modK {s : State} {n f} : (s.modK n f).data = s.data := rfl
@[simp] theorem State.free_of_modK {s : State} {n f} : (s.modK n f).free = s.free := rfl
@[simp] theorem State.pending_of_modK {s : State} {n f} : (s.modK n f).pending = s.pending := rfl

@[simp] theorem State.regs_of_modP {s : State} {n f} : (s.modP n f).regs = s.regs := rfl
@[simp] theorem State.old_of_modP {s : State} {n f} : (s.modP n f).old = s.old := rfl
@[simp] theorem State.held64_of_modP {s : State} {n f} : (s.modP n f).held64 = s.held64 := rfl
@[simp] theorem State.low64_of_modP {s : State} {n f} : (s.modP n f).low64 = s.low64 := rfl
@[simp] theorem State.mem_of_modP {s : State} {n f} : (s.modP n f).mem = s.mem := rfl
@[simp] theorem State.nv_of_modP {s : State} {n f} : (s.modP n f).nv = s.nv := rfl
@[simp] theorem State.time_of_modP {s : State} {n f} : (s.modP n f).time = s.time := rfl
@[simp] theorem State.ctr_of_modP {s : State} {n f} : (s.modP n f).ctr = s.ctr := rfl
@[simp] theorem State.ctrPrev_of_modP {s : State} {n f} : (s.modP n f).ctrPrev = s.ctrPrev := rfl
@[simp] theorem State.lockAt_of_modP {s : State} {n f} : (s.modP n f).lockAt = s.lockAt := rfl
@[simp] theorem State.lockBy_of_modP {s : State} {n f} : (s.modP n f).lockBy = s.lockBy := rfl
@[simp] theorem State.safeReq_of_modP {s : State} {n f} : (s.modP n f).safeReq = s.safeReq := rfl
@[simp] theorem State.clrReq_of_modP {s : State} {n f} : (s.modP n f).clrReq = s.clrReq := rfl
@[simp] theorem State.sh_of_modP {s : State} {n f} : (s.modP n f).sh = s.sh := rfl
@[simp] theorem State.lane_of_modP {s : State} {n f} : (s.modP n f).lane = s.lane := rfl
@[simp] theorem State.spare_of_modP {s : State} {n f} : (s.modP n f).spare = s.spare := rfl
@[simp] theorem State.led_of_modP {s : State} {n f} : (s.modP n f).led = s.led := rfl
@[simp] theorem State.fd_of_modP {s : State} {n f} : (s.modP n f).fd = s.fd := rfl
@[simp] theorem State.fsel_of_modP {s : State} {n f} : (s.modP n f).fsel = s.fsel := rfl
@[simp] theorem State.hu_of_modP {s : State} {n f} : (s.modP n f).hu = s.hu := rfl
@[simp] theorem State.ax_of_modP {s : State} {n f} : (s.modP n f).ax = s.ax := rfl
@[simp] theorem State.al_of_modP {s : State} {n f} : (s.modP n f).al = s.al := rfl
@[simp] theorem State.sq_of_modP {s : State} {n f} : (s.modP n f).sq = s.sq := rfl
@[simp] theorem State.boot_of_modP {s : State} {n f} : (s.modP n f).boot = s.boot := rfl
@[simp] theorem State.clk_of_modP {s : State} {n f} : (s.modP n f).clk = s.clk := rfl
@[simp] theorem State.mode_of_modP {s : State} {n f} : (s.modP n f).mode = s.mode := rfl
@[simp] theorem State.ev_of_modP {s : State} {n f} : (s.modP n f).ev = s.ev := rfl
@[simp] theorem State.link_of_modP {s : State} {n f} : (s.modP n f).link = s.link := rfl
@[simp] theorem State.tw_of_modP {s : State} {n f} : (s.modP n f).tw = s.tw := rfl
@[simp] theorem State.vault_of_modP {s : State} {n f} : (s.modP n f).vault = s.vault := rfl
@[simp] theorem State.cellar_of_modP {s : State} {n f} : (s.modP n f).cellar = s.cellar := rfl
@[simp] theorem State.tst_of_modP {s : State} {n f} : (s.modP n f).tst = s.tst := rfl
@[simp] theorem State.maint_of_modP {s : State} {n f} : (s.modP n f).maint = s.maint := rfl
@[simp] theorem State.status_of_modP {s : State} {n f} : (s.modP n f).status = s.status := rfl
@[simp] theorem State.data_of_modP {s : State} {n f} : (s.modP n f).data = s.data := rfl
@[simp] theorem State.free_of_modP {s : State} {n f} : (s.modP n f).free = s.free := rfl
@[simp] theorem State.pending_of_modP {s : State} {n f} : (s.modP n f).pending = s.pending := rfl

@[simp] theorem State.regs_of_modC {s : State} {n f} : (s.modC n f).regs = s.regs := rfl
@[simp] theorem State.old_of_modC {s : State} {n f} : (s.modC n f).old = s.old := rfl
@[simp] theorem State.held64_of_modC {s : State} {n f} : (s.modC n f).held64 = s.held64 := rfl
@[simp] theorem State.low64_of_modC {s : State} {n f} : (s.modC n f).low64 = s.low64 := rfl
@[simp] theorem State.mem_of_modC {s : State} {n f} : (s.modC n f).mem = s.mem := rfl
@[simp] theorem State.nv_of_modC {s : State} {n f} : (s.modC n f).nv = s.nv := rfl
@[simp] theorem State.time_of_modC {s : State} {n f} : (s.modC n f).time = s.time := rfl
@[simp] theorem State.ctr_of_modC {s : State} {n f} : (s.modC n f).ctr = s.ctr := rfl
@[simp] theorem State.ctrPrev_of_modC {s : State} {n f} : (s.modC n f).ctrPrev = s.ctrPrev := rfl
@[simp] theorem State.lockAt_of_modC {s : State} {n f} : (s.modC n f).lockAt = s.lockAt := rfl
@[simp] theorem State.lockBy_of_modC {s : State} {n f} : (s.modC n f).lockBy = s.lockBy := rfl
@[simp] theorem State.safeReq_of_modC {s : State} {n f} : (s.modC n f).safeReq = s.safeReq := rfl
@[simp] theorem State.clrReq_of_modC {s : State} {n f} : (s.modC n f).clrReq = s.clrReq := rfl
@[simp] theorem State.sh_of_modC {s : State} {n f} : (s.modC n f).sh = s.sh := rfl
@[simp] theorem State.lane_of_modC {s : State} {n f} : (s.modC n f).lane = s.lane := rfl
@[simp] theorem State.spare_of_modC {s : State} {n f} : (s.modC n f).spare = s.spare := rfl
@[simp] theorem State.led_of_modC {s : State} {n f} : (s.modC n f).led = s.led := rfl
@[simp] theorem State.fd_of_modC {s : State} {n f} : (s.modC n f).fd = s.fd := rfl
@[simp] theorem State.fsel_of_modC {s : State} {n f} : (s.modC n f).fsel = s.fsel := rfl
@[simp] theorem State.hu_of_modC {s : State} {n f} : (s.modC n f).hu = s.hu := rfl
@[simp] theorem State.ax_of_modC {s : State} {n f} : (s.modC n f).ax = s.ax := rfl
@[simp] theorem State.al_of_modC {s : State} {n f} : (s.modC n f).al = s.al := rfl
@[simp] theorem State.sq_of_modC {s : State} {n f} : (s.modC n f).sq = s.sq := rfl
@[simp] theorem State.boot_of_modC {s : State} {n f} : (s.modC n f).boot = s.boot := rfl
@[simp] theorem State.clk_of_modC {s : State} {n f} : (s.modC n f).clk = s.clk := rfl
@[simp] theorem State.mode_of_modC {s : State} {n f} : (s.modC n f).mode = s.mode := rfl
@[simp] theorem State.ev_of_modC {s : State} {n f} : (s.modC n f).ev = s.ev := rfl
@[simp] theorem State.link_of_modC {s : State} {n f} : (s.modC n f).link = s.link := rfl
@[simp] theorem State.tw_of_modC {s : State} {n f} : (s.modC n f).tw = s.tw := rfl
@[simp] theorem State.vault_of_modC {s : State} {n f} : (s.modC n f).vault = s.vault := rfl
@[simp] theorem State.cellar_of_modC {s : State} {n f} : (s.modC n f).cellar = s.cellar := rfl
@[simp] theorem State.tst_of_modC {s : State} {n f} : (s.modC n f).tst = s.tst := rfl
@[simp] theorem State.maint_of_modC {s : State} {n f} : (s.modC n f).maint = s.maint := rfl
@[simp] theorem State.status_of_modC {s : State} {n f} : (s.modC n f).status = s.status := rfl
@[simp] theorem State.data_of_modC {s : State} {n f} : (s.modC n f).data = s.data := rfl
@[simp] theorem State.free_of_modC {s : State} {n f} : (s.modC n f).free = s.free := rfl
@[simp] theorem State.pending_of_modC {s : State} {n f} : (s.modC n f).pending = s.pending := rfl

@[simp] theorem State.regs_of_fresh {s : State} : (s.fresh).regs = s.regs := rfl
@[simp] theorem State.old_of_fresh {s : State} : (s.fresh).old = s.old := rfl
@[simp] theorem State.held64_of_fresh {s : State} : (s.fresh).held64 = s.held64 := rfl
@[simp] theorem State.low64_of_fresh {s : State} : (s.fresh).low64 = s.low64 := rfl
@[simp] theorem State.mem_of_fresh {s : State} : (s.fresh).mem = s.mem := rfl
@[simp] theorem State.nv_of_fresh {s : State} : (s.fresh).nv = s.nv := rfl
@[simp] theorem State.time_of_fresh {s : State} : (s.fresh).time = s.time := rfl
@[simp] theorem State.ctr_of_fresh {s : State} : (s.fresh).ctr = s.ctr := rfl
@[simp] theorem State.ctrPrev_of_fresh {s : State} : (s.fresh).ctrPrev = s.ctrPrev := rfl
@[simp] theorem State.lockAt_of_fresh {s : State} : (s.fresh).lockAt = s.lockAt := rfl
@[simp] theorem State.lockBy_of_fresh {s : State} : (s.fresh).lockBy = s.lockBy := rfl
@[simp] theorem State.safeReq_of_fresh {s : State} : (s.fresh).safeReq = s.safeReq := rfl
@[simp] theorem State.clrReq_of_fresh {s : State} : (s.fresh).clrReq = s.clrReq := rfl
@[simp] theorem State.ch_of_fresh {s : State} : (s.fresh).ch = s.ch := rfl
@[simp] theorem State.sh_of_fresh {s : State} : (s.fresh).sh = s.sh := rfl
@[simp] theorem State.lane_of_fresh {s : State} : (s.fresh).lane = s.lane := rfl
@[simp] theorem State.spare_of_fresh {s : State} : (s.fresh).spare = s.spare := rfl
@[simp] theorem State.led_of_fresh {s : State} : (s.fresh).led = s.led := rfl
@[simp] theorem State.fd_of_fresh {s : State} : (s.fresh).fd = s.fd := rfl
@[simp] theorem State.fsel_of_fresh {s : State} : (s.fresh).fsel = s.fsel := rfl
@[simp] theorem State.hu_of_fresh {s : State} : (s.fresh).hu = s.hu := rfl
@[simp] theorem State.ax_of_fresh {s : State} : (s.fresh).ax = s.ax := rfl
@[simp] theorem State.al_of_fresh {s : State} : (s.fresh).al = s.al := rfl
@[simp] theorem State.sq_of_fresh {s : State} : (s.fresh).sq = s.sq := rfl
@[simp] theorem State.boot_of_fresh {s : State} : (s.fresh).boot = s.boot := rfl
@[simp] theorem State.clk_of_fresh {s : State} : (s.fresh).clk = s.clk := rfl
@[simp] theorem State.mode_of_fresh {s : State} : (s.fresh).mode = s.mode := rfl
@[simp] theorem State.ev_of_fresh {s : State} : (s.fresh).ev = s.ev := rfl
@[simp] theorem State.link_of_fresh {s : State} : (s.fresh).link = s.link := rfl
@[simp] theorem State.tw_of_fresh {s : State} : (s.fresh).tw = s.tw := rfl
@[simp] theorem State.vault_of_fresh {s : State} : (s.fresh).vault = s.vault := rfl
@[simp] theorem State.cellar_of_fresh {s : State} : (s.fresh).cellar = s.cellar := rfl
@[simp] theorem State.tst_of_fresh {s : State} : (s.fresh).tst = s.tst := rfl
@[simp] theorem State.maint_of_fresh {s : State} : (s.fresh).maint = s.maint := rfl
@[simp] theorem State.status_of_fresh {s : State} : (s.fresh).status = s.status := rfl
@[simp] theorem State.data_of_fresh {s : State} : (s.fresh).data = s.data := rfl
@[simp] theorem State.pending_of_fresh {s : State} : (s.fresh).pending = s.pending := rfl

@[simp] theorem State.regs_of_answer {s : State} {st d} : (s.answer st d).regs = s.regs := rfl
@[simp] theorem State.old_of_answer {s : State} {st d} : (s.answer st d).old = s.old := rfl
@[simp] theorem State.held64_of_answer {s : State} {st d} : (s.answer st d).held64 = s.held64 := rfl
@[simp] theorem State.low64_of_answer {s : State} {st d} : (s.answer st d).low64 = s.low64 := rfl
@[simp] theorem State.mem_of_answer {s : State} {st d} : (s.answer st d).mem = s.mem := rfl
@[simp] theorem State.nv_of_answer {s : State} {st d} : (s.answer st d).nv = s.nv := rfl
@[simp] theorem State.time_of_answer {s : State} {st d} : (s.answer st d).time = s.time := rfl
@[simp] theorem State.ctr_of_answer {s : State} {st d} : (s.answer st d).ctr = s.ctr := rfl
@[simp] theorem State.ctrPrev_of_answer {s : State} {st d} : (s.answer st d).ctrPrev = s.ctrPrev := rfl
@[simp] theorem State.lockAt_of_answer {s : State} {st d} : (s.answer st d).lockAt = s.lockAt := rfl
@[simp] theorem State.lockBy_of_answer {s : State} {st d} : (s.answer st d).lockBy = s.lockBy := rfl
@[simp] theorem State.safeReq_of_answer {s : State} {st d} : (s.answer st d).safeReq = s.safeReq := rfl
@[simp] theorem State.clrReq_of_answer {s : State} {st d} : (s.answer st d).clrReq = s.clrReq := rfl
@[simp] theorem State.ch_of_answer {s : State} {st d} : (s.answer st d).ch = s.ch := rfl
@[simp] theorem State.sh_of_answer {s : State} {st d} : (s.answer st d).sh = s.sh := rfl
@[simp] theorem State.lane_of_answer {s : State} {st d} : (s.answer st d).lane = s.lane := rfl
@[simp] theorem State.spare_of_answer {s : State} {st d} : (s.answer st d).spare = s.spare := rfl
@[simp] theorem State.led_of_answer {s : State} {st d} : (s.answer st d).led = s.led := rfl
@[simp] theorem State.fd_of_answer {s : State} {st d} : (s.answer st d).fd = s.fd := rfl
@[simp] theorem State.fsel_of_answer {s : State} {st d} : (s.answer st d).fsel = s.fsel := rfl
@[simp] theorem State.hu_of_answer {s : State} {st d} : (s.answer st d).hu = s.hu := rfl
@[simp] theorem State.ax_of_answer {s : State} {st d} : (s.answer st d).ax = s.ax := rfl
@[simp] theorem State.al_of_answer {s : State} {st d} : (s.answer st d).al = s.al := rfl
@[simp] theorem State.sq_of_answer {s : State} {st d} : (s.answer st d).sq = s.sq := rfl
@[simp] theorem State.boot_of_answer {s : State} {st d} : (s.answer st d).boot = s.boot := rfl
@[simp] theorem State.clk_of_answer {s : State} {st d} : (s.answer st d).clk = s.clk := rfl
@[simp] theorem State.mode_of_answer {s : State} {st d} : (s.answer st d).mode = s.mode := rfl
@[simp] theorem State.ev_of_answer {s : State} {st d} : (s.answer st d).ev = s.ev := rfl
@[simp] theorem State.link_of_answer {s : State} {st d} : (s.answer st d).link = s.link := rfl
@[simp] theorem State.tw_of_answer {s : State} {st d} : (s.answer st d).tw = s.tw := rfl
@[simp] theorem State.vault_of_answer {s : State} {st d} : (s.answer st d).vault = s.vault := rfl
@[simp] theorem State.cellar_of_answer {s : State} {st d} : (s.answer st d).cellar = s.cellar := rfl
@[simp] theorem State.tst_of_answer {s : State} {st d} : (s.answer st d).tst = s.tst := rfl
@[simp] theorem State.maint_of_answer {s : State} {st d} : (s.answer st d).maint = s.maint := rfl
@[simp] theorem State.free_of_answer {s : State} {st d} : (s.answer st d).free = s.free := rfl
@[simp] theorem State.pending_of_answer {s : State} {st d} : (s.answer st d).pending = s.pending := rfl

@[simp] theorem State.status_answer {s : State} {st d} : (s.answer st d).status = st := rfl
@[simp] theorem State.data_answer {s : State} {st d} : (s.answer st d).data = d := rfl
@[simp] theorem State.free_fresh {s : State} : s.fresh.free = s.free + 1 := rfl
@[simp] theorem State.word_putBytes {s : State} {a bs r} : (s.putBytes a bs).word r = s.word r := rfl
@[simp] theorem State.word_putMemWord {s : State} {a w r} : (s.putMemWord a w).word r = s.word r := rfl
@[simp] theorem State.word_answer {s : State} {st d r} : (s.answer st d).word r = s.word r := rfl
@[simp] theorem State.word_fresh {s : State} {r} : s.fresh.word r = s.word r := rfl
@[simp] theorem State.word_setCh {s : State} {n c r} : (s.setCh n c).word r = s.word r := rfl
@[simp] theorem State.word_modCh {s : State} {n f r} : (s.modCh n f).word r = s.word r := rfl
@[simp] theorem State.word_modM {s : State} {n f r} : (s.modM n f).word r = s.word r := rfl
@[simp] theorem State.word_modL {s : State} {n f r} : (s.modL n f).word r = s.word r := rfl
@[simp] theorem State.word_modX {s : State} {n f r} : (s.modX n f).word r = s.word r := rfl
@[simp] theorem State.word_modK {s : State} {n f r} : (s.modK n f).word r = s.word r := rfl
@[simp] theorem State.word_modP {s : State} {n f r} : (s.modP n f).word r = s.word r := rfl
@[simp] theorem State.word_modC {s : State} {n f r} : (s.modC n f).word r = s.word r := rfl

/-- A lane after it is replaced. -/
@[simp] theorem State.lane1_setCh_same {s : State} {n c} : (s.setCh n c).lane1 n = c := by simp [State.setCh, State.lane1]

/-- Another lane is replaced. -/
theorem State.lane1_setCh_other {s : State} {n m c} (h : m ≠ n) : (s.setCh n c).lane1 m = s.lane1 m := by
  have : n.val ≠ m.val := fun e => h (Fin.ext e.symm)
  simp [State.setCh, State.lane1, Vector.getElem_set, this]

@[simp] theorem State.lane1_modCh_same {s : State} {n f} : (s.modCh n f).lane1 n = f (s.lane1 n) := by simp [State.modCh]
theorem State.lane1_modCh_other {s : State} {n m f} (h : m ≠ n) : (s.modCh n f).lane1 m = s.lane1 m := by
  simp [State.modCh, State.lane1_setCh_other h]

@[simp] theorem State.lane1_modM_same {s : State} {n f} : (s.modM n f).lane1 n = { s.lane1 n with m := f (s.lane1 n).m } := by simp [State.modM]
theorem State.lane1_modM_other {s : State} {n m f} (h : m ≠ n) : (s.modM n f).lane1 m = s.lane1 m := by simp [State.modM, State.lane1_modCh_other h]
@[simp] theorem State.lane1_modL_same {s : State} {n f} : (s.modL n f).lane1 n = { s.lane1 n with l := f (s.lane1 n).l } := by simp [State.modL]
theorem State.lane1_modL_other {s : State} {n m f} (h : m ≠ n) : (s.modL n f).lane1 m = s.lane1 m := by simp [State.modL, State.lane1_modCh_other h]
@[simp] theorem State.lane1_modX_same {s : State} {n f} : (s.modX n f).lane1 n = { s.lane1 n with x := f (s.lane1 n).x } := by simp [State.modX]
theorem State.lane1_modX_other {s : State} {n m f} (h : m ≠ n) : (s.modX n f).lane1 m = s.lane1 m := by simp [State.modX, State.lane1_modCh_other h]
@[simp] theorem State.lane1_modK_same {s : State} {n f} : (s.modK n f).lane1 n = { s.lane1 n with k := f (s.lane1 n).k } := by simp [State.modK]
theorem State.lane1_modK_other {s : State} {n m f} (h : m ≠ n) : (s.modK n f).lane1 m = s.lane1 m := by simp [State.modK, State.lane1_modCh_other h]
@[simp] theorem State.lane1_modP_same {s : State} {n f} : (s.modP n f).lane1 n = { s.lane1 n with p := f (s.lane1 n).p } := by simp [State.modP]
theorem State.lane1_modP_other {s : State} {n m f} (h : m ≠ n) : (s.modP n f).lane1 m = s.lane1 m := by simp [State.modP, State.lane1_modCh_other h]
@[simp] theorem State.lane1_modC_same {s : State} {n f} : (s.modC n f).lane1 n = { s.lane1 n with c := f (s.lane1 n).c } := by simp [State.modC]
theorem State.lane1_modC_other {s : State} {n m f} (h : m ≠ n) : (s.modC n f).lane1 m = s.lane1 m := by simp [State.modC, State.lane1_modCh_other h]
@[simp] theorem State.lane1_setWord {s : State} {r w m} : (s.setWord r w).lane1 m = s.lane1 m := rfl
@[simp] theorem State.lane1_fset {s : State} {f v m} : (s.fset f v).lane1 m = s.lane1 m := rfl
@[simp] theorem State.lane1_fsetS {s : State} {f v m} : (s.fsetS f v).lane1 m = s.lane1 m := rfl
@[simp] theorem State.lane1_setFlag {s : State} {f b m} : (s.setFlag f b).lane1 m = s.lane1 m := rfl
@[simp] theorem State.lane1_incSat {s : State} {f m} : (s.incSat f).lane1 m = s.lane1 m := rfl
@[simp] theorem State.lane1_incWrap {s : State} {f m} : (s.incWrap f).lane1 m = s.lane1 m := rfl
@[simp] theorem State.lane1_setWord64 {s : State} {lo hi v m} : (s.setWord64 lo hi v).lane1 m = s.lane1 m := rfl
@[simp] theorem State.lane1_putBytes {s : State} {a bs m} : (s.putBytes a bs).lane1 m = s.lane1 m := rfl
@[simp] theorem State.lane1_putMemWord {s : State} {a w m} : (s.putMemWord a w).lane1 m = s.lane1 m := rfl
@[simp] theorem State.lane1_fresh {s : State} {m} : (s.fresh).lane1 m = s.lane1 m := rfl
@[simp] theorem State.lane1_answer {s : State} {st d m} : (s.answer st d).lane1 m = s.lane1 m := rfl
@[simp] theorem State.byte_setWord {s : State} {r w b} : (s.setWord r w).byte b = s.byte b := rfl
@[simp] theorem State.byte_fset {s : State} {f v b} : (s.fset f v).byte b = s.byte b := rfl
@[simp] theorem State.byte_fsetS {s : State} {f v b} : (s.fsetS f v).byte b = s.byte b := rfl
@[simp] theorem State.byte_setFlag {s : State} {f b1 b} : (s.setFlag f b1).byte b = s.byte b := rfl
@[simp] theorem State.byte_incSat {s : State} {f b} : (s.incSat f).byte b = s.byte b := rfl
@[simp] theorem State.byte_incWrap {s : State} {f b} : (s.incWrap f).byte b = s.byte b := rfl
@[simp] theorem State.byte_setWord64 {s : State} {lo hi v b} : (s.setWord64 lo hi v).byte b = s.byte b := rfl
@[simp] theorem State.byte_fresh {s : State} {b} : (s.fresh).byte b = s.byte b := rfl
@[simp] theorem State.byte_answer {s : State} {st d b} : (s.answer st d).byte b = s.byte b := rfl
@[simp] theorem State.byte_setCh {s : State} {n c b} : (s.setCh n c).byte b = s.byte b := rfl
@[simp] theorem State.byte_modCh {s : State} {n f b} : (s.modCh n f).byte b = s.byte b := rfl
@[simp] theorem State.byte_modM {s : State} {n f b} : (s.modM n f).byte b = s.byte b := rfl
@[simp] theorem State.byte_modL {s : State} {n f b} : (s.modL n f).byte b = s.byte b := rfl
@[simp] theorem State.byte_modX {s : State} {n f b} : (s.modX n f).byte b = s.byte b := rfl
@[simp] theorem State.byte_modK {s : State} {n f b} : (s.modK n f).byte b = s.byte b := rfl
@[simp] theorem State.byte_modP {s : State} {n f b} : (s.modP n f).byte b = s.byte b := rfl
@[simp] theorem State.byte_modC {s : State} {n f b} : (s.modC n f).byte b = s.byte b := rfl

end Sys2Proof.Machine
end

