-- ==== Sys2Proof/Laws/Store.lean ====
section
/-! SUPPORT. The operations of the machine that leave every byte of the memory windows (`_store`). -/

namespace Sys2Proof.Machine

set_option linter.unusedSimpArgs false
set_option Elab.async false

/-- The bytes of the memory windows. -/
def State.store (s : State) : List Host.Cell := s.mem

theorem State.store_mk {regs old held64 low64 mem nv time ctr ctrPrev lockAt lockBy safeReq clrReq ch sh lane spare led fd fsel hu ax al sq boot clk mode ev link tw vault cellar tst maint status data free pending} :
    State.store ⟨regs, old, held64, low64, mem, nv, time, ctr, ctrPrev, lockAt, lockBy, safeReq, clrReq, ch, sh, lane, spare, led, fd, fsel, hu, ax, al, sq, boot, clk, mode, ev, link, tw, vault, cellar, tst, maint, status, data, free, pending⟩
      = mem := by simp only [State.store]

theorem State.store_fold (s : State) : s.mem = s.store := by simp only [State.store]

@[simp] theorem State.setWord_store {s r w} : State.store (State.setWord s r w) = State.store s := by unfold State.setWord; simp [State.store_mk, State.store_fold]

@[simp] theorem State.store_ite {c : Prop} [Decidable c] {a b : State} :
    State.store (if c then a else b) = if c then State.store a else State.store b := apply_ite State.store c a b

@[simp] theorem State.store_each {α s} {l : List α} {f} (hf : ∀ x t, State.store (f x t) = State.store t) :
    State.store (State.each s l f) = State.store s := by
  unfold State.each
  induction l generalizing s with
  | nil => rfl
  | cons x l ih => exact (ih (s := f x s)).trans (hf x s)

theorem foldl_store {α} {l : List α} {f : State → α → State} (hf : ∀ t x, State.store (f t x) = State.store t) {s} :
    State.store (l.foldl f s) = State.store s := by
  induction l generalizing s with
  | nil => rfl
  | cons x l ih => exact (ih (s := f s x)).trans (hf s x)

/-! Machine/Ops.lean -/

@[simp] theorem State.fset_store {s f v} : State.store (State.fset s f v) = State.store s := by
  unfold State.fset; simp (maxDischargeDepth := 60) [State.store_mk, State.store_fold, *]
@[simp] theorem State.fsetS_store {s f v} : State.store (State.fsetS s f v) = State.store s := by
  unfold State.fsetS; simp (maxDischargeDepth := 60) [State.store_mk, State.store_fold, *]
@[simp] theorem State.setFlag_store {s f b} : State.store (State.setFlag s f b) = State.store s := by
  unfold State.setFlag; simp (maxDischargeDepth := 60) [State.store_mk, State.store_fold, *]
@[simp] theorem State.incSat_store {s f} : State.store (State.incSat s f) = State.store s := by
  unfold State.incSat; simp (maxDischargeDepth := 60) [State.store_mk, State.store_fold, *]
@[simp] theorem State.incWrap_store {s f} : State.store (State.incWrap s f) = State.store s := by
  unfold State.incWrap; simp (maxDischargeDepth := 60) [State.store_mk, State.store_fold, *]
@[simp] theorem State.setWord64_store {s lo hi v} : State.store (State.setWord64 s lo hi v) = State.store s := by
  unfold State.setWord64; simp (maxDischargeDepth := 60) [State.store_mk, State.store_fold, *]
@[simp] theorem State.setCh_store {s n c} : State.store (State.setCh s n c) = State.store s := by
  unfold State.setCh; simp (maxDischargeDepth := 60) [State.store_mk, State.store_fold, *]
@[simp] theorem State.modCh_store {s n f} : State.store (State.modCh s n f) = State.store s := by
  unfold State.modCh; simp (maxDischargeDepth := 60) [State.store_mk, State.store_fold, *]
@[simp] theorem State.modM_store {s n f} : State.store (State.modM s n f) = State.store s := by
  unfold State.modM; simp (maxDischargeDepth := 60) [State.store_mk, State.store_fold, *]
@[simp] theorem State.modL_store {s n f} : State.store (State.modL s n f) = State.store s := by
  unfold State.modL; simp (maxDischargeDepth := 60) [State.store_mk, State.store_fold, *]
@[simp] theorem State.modX_store {s n f} : State.store (State.modX s n f) = State.store s := by
  unfold State.modX; simp (maxDischargeDepth := 60) [State.store_mk, State.store_fold, *]
@[simp] theorem State.modK_store {s n f} : State.store (State.modK s n f) = State.store s := by
  unfold State.modK; simp (maxDischargeDepth := 60) [State.store_mk, State.store_fold, *]
@[simp] theorem State.modP_store {s n f} : State.store (State.modP s n f) = State.store s := by
  unfold State.modP; simp (maxDischargeDepth := 60) [State.store_mk, State.store_fold, *]
@[simp] theorem State.modC_store {s n f} : State.store (State.modC s n f) = State.store s := by
  unfold State.modC; simp (maxDischargeDepth := 60) [State.store_mk, State.store_fold, *]
@[simp] theorem State.fresh_store {s} : State.store (State.fresh s) = State.store s := by
  unfold State.fresh; simp (maxDischargeDepth := 60) [State.store_mk, State.store_fold, *]
@[simp] theorem State.freshN_store {s k} : State.store (State.freshN s k) = State.store s := by
  unfold State.freshN; simp (maxDischargeDepth := 60) [State.store_mk, State.store_fold, *]
@[simp] theorem State.reading_store {s f signed x k} : State.store (State.reading s f signed x k) = State.store s := by
  unfold State.reading; simp (maxDischargeDepth := 60) [State.store_mk, State.store_fold, *]
@[simp] theorem State.answer_store {s st d} : State.store (State.answer s st d) = State.store s := by
  unfold State.answer; simp (maxDischargeDepth := 60) [State.store_mk, State.store_fold, *]

/-! Machine/Access.lean -/

@[simp] theorem State.writeReg_store {s r val} : State.store (State.writeReg s r val) = State.store s := by
  unfold State.writeReg; simp (maxDischargeDepth := 60) [State.store_mk, State.store_fold, *]

/-! Machine/Events.lean -/

@[simp] theorem State.atticPut_store {s o} : State.store (State.atticPut s o) = State.store s := by
  unfold State.atticPut; dsimp only; (repeat' split) <;> simp +contextual (maxDischargeDepth := 60) [State.store_mk, State.store_fold, *]
@[simp] theorem State.vaultPut_store {s r} : State.store (State.vaultPut s r).1 = State.store s := by
  unfold State.vaultPut; (repeat' split) <;> simp (maxDischargeDepth := 60) [State.store_mk, State.store_fold, *]
@[simp] theorem State.setSessAt_store {s k x} : State.store (State.setSessAt s k x) = State.store s := by
  unfold State.setSessAt; (repeat' split) <;> simp (maxDischargeDepth := 60) [State.store_mk, State.store_fold, *]
@[simp] theorem State.sessEvent_store {s o k} : State.store (State.sessEvent s o k) = State.store s := by
  unfold State.sessEvent; simp (maxDischargeDepth := 60) [State.store_mk, State.store_fold, *]
@[simp] theorem State.notifyPut_store {s o} : State.store (State.notifyPut s o) = State.store s := by
  unfold State.notifyPut; simp (maxDischargeDepth := 60) [State.store_mk, State.store_fold, *]
@[simp] theorem State.recordOcc_store {s o} : State.store (State.recordOcc s o).1 = State.store s := by
  unfold State.recordOcc; (repeat' split) <;> simp (maxDischargeDepth := 60) [State.store_mk, State.store_fold, *]
@[simp] theorem State.routeOne_store {s o} : State.store (State.routeOne s o).1 = State.store s := by
  unfold State.routeOne
  extract_lets v0 v1
  clear_value v0
  have h_v1 : State.store v1 = State.store s := by subst v1; simp (maxDischargeDepth := 60) [State.store_mk, State.store_fold, *]
  clear_value v1
  ((repeat' split) <;> (try extract_lets) <;> simp (maxDischargeDepth := 60) +zetaDelta [State.store_mk, State.store_fold, *])
@[simp] theorem State.cellarTrigger_store {s cause stamp evNum} : State.store (State.cellarTrigger s cause stamp evNum).1 = State.store s := by
  unfold State.cellarTrigger; (repeat' split) <;> simp (maxDischargeDepth := 60) [State.store_mk, State.store_fold, *]
@[simp] theorem State.route_store {s o} : State.store (State.route s o) = State.store s := by
  unfold State.route; simp (maxDischargeDepth := 60) [State.store_mk, State.store_fold, *]
@[simp] theorem State.deepEvent_store {s sev} : State.store (State.deepEvent s sev) = State.store s := by
  unfold State.deepEvent; simp (maxDischargeDepth := 60) [State.store_mk, State.store_fold, *]
@[simp] theorem State.raiseOcc_store {s o} : State.store (State.raiseOcc s o) = State.store s := by
  unfold State.raiseOcc; simp (maxDischargeDepth := 60) [State.store_mk, State.store_fold, *]
@[simp] theorem State.raise_store {s num sev payload} : State.store (State.raise s num sev payload) = State.store s := by
  unfold State.raise; simp (maxDischargeDepth := 60) [State.store_mk, State.store_fold, *]
@[simp] theorem State.raiseReq_store {s num sev payload} : State.store (State.raiseReq s num sev payload) = State.store s := by
  unfold State.raiseReq; simp (maxDischargeDepth := 60) [State.store_mk, State.store_fold, *]
@[simp] theorem State.record_store {s typ num sev stamp payload} : State.store (State.record s typ num sev stamp payload) = State.store s := by
  unfold State.record; simp (maxDischargeDepth := 60) [State.store_mk, State.store_fold, *]
@[simp] theorem State.trigger_store {s cause} : State.store (State.trigger s cause) = State.store s := by
  unfold State.trigger; simp (maxDischargeDepth := 60) [State.store_mk, State.store_fold, *]

/-! Machine/Measure.lean -/

@[simp] theorem State.rangeDecide_store {s n i ovr} : State.store (State.rangeDecide s n i ovr) = State.store s := by
  unfold State.rangeDecide; dsimp only; (repeat' split) <;> simp +contextual (maxDischargeDepth := 60) [State.store_mk, State.store_fold, *]
@[simp] theorem State.rangeApply_store {s n} : State.store (State.rangeApply s n) = State.store s := by
  unfold State.rangeApply; (repeat' split) <;> simp (maxDischargeDepth := 60) [State.store_mk, State.store_fold, *]
@[simp] theorem State.overload_store {s n volt cur} : State.store (State.overload s n volt cur) = State.store s := by
  unfold State.overload
  extract_lets v0
  have h_v0 : State.store v0 = State.store s := by subst v0; simp (maxDischargeDepth := 60) [State.store_mk, State.store_fold, *]
  clear_value v0
  simp (maxDischargeDepth := 60) [State.store_mk, State.store_fold, *]
@[simp] theorem State.overloadRange_store {s n} : State.store (State.overloadRange s n) = State.store s := by
  unfold State.overloadRange; (repeat' split) <;> simp (maxDischargeDepth := 60) [State.store_mk, State.store_fold, *]
@[simp] theorem State.chanOverload_store {s n volt cur} : State.store (State.chanOverload s n volt cur) = State.store s := by
  unfold State.chanOverload
  extract_lets v0
  have h_v0 : State.store v0 = State.store s := by subst v0; simp (maxDischargeDepth := 60) [State.store_mk, State.store_fold, *]
  clear_value v0
  simp (maxDischargeDepth := 60) [State.store_mk, State.store_fold, *]
@[simp] theorem State.laneOverload_store {s volt cur} : State.store (State.laneOverload s volt cur) = State.store s := by
  unfold State.laneOverload; simp (maxDischargeDepth := 60) [State.store_mk, State.store_fold, *]
@[simp] theorem State.calCopy_store {s} : State.store (State.calCopy s) = State.store s := by
  unfold State.calCopy; simp (maxDischargeDepth := 60) [State.store_mk, State.store_fold, *]
@[simp] theorem State.calSwap_store {s} : State.store (State.calSwap s) = State.store s := by
  unfold State.calSwap; simp (maxDischargeDepth := 60) [State.store_mk, State.store_fold, *]

/-! Machine/Channel.lean -/

@[simp] theorem State.queueItem_store {s n it} : State.store (State.queueItem s n it) = State.store s := by
  unfold State.queueItem; simp (maxDischargeDepth := 60) [State.store_mk, State.store_fold, *]
@[simp] theorem State.shelfItem_store {s it} : State.store (State.shelfItem s it) = State.store s := by
  unfold State.shelfItem; simp (maxDischargeDepth := 60) [State.store_mk, State.store_fold, *]
@[simp] theorem State.metricEntry_store {s n kind seq stamp a b c d e} : State.store (State.metricEntry s n kind seq stamp a b c d e) = State.store s := by
  unfold State.metricEntry; simp (maxDischargeDepth := 60) [State.store_mk, State.store_fold, *]
@[simp] theorem State.ocvPost_store {s n} : State.store (State.ocvPost s n) = State.store s := by
  unfold State.ocvPost
  extract_lets v0 v1 v2
  clear_value v0
  clear_value v1
  have h_v2 : State.store v2 = State.store s := by subst v2; simp (maxDischargeDepth := 60) [State.store_mk, State.store_fold, *]
  clear_value v2
  simp (maxDischargeDepth := 60) [State.store_mk, State.store_fold, *]
@[simp] theorem State.setTrec_store {s n bs} : State.store (State.setTrec s n bs) = State.store s := by
  unfold State.setTrec; simp (maxDischargeDepth := 60) [State.store_mk, State.store_fold, *]
@[simp] theorem State.putRecord_store {s n body term close} : State.store (State.putRecord s n body term close) = State.store s := by
  unfold State.putRecord
  extract_lets v0 v1 v2 v3
  clear_value v0
  clear_value v1
  have h_v2 : State.store v2 = State.store s := by subst v2; simp (maxDischargeDepth := 60) [State.store_mk, State.store_fold, *]
  clear_value v2
  have h_v3 : State.store v3 = State.store s := by subst v3; simp (maxDischargeDepth := 60) [State.store_mk, State.store_fold, *]
  clear_value v3
  simp (maxDischargeDepth := 60) [State.store_mk, State.store_fold, *]
@[simp] theorem State.eisAbandon_store {s n} : State.store (State.eisAbandon s n) = State.store s := by
  unfold State.eisAbandon; (repeat' split) <;> simp (maxDischargeDepth := 60) [State.store_mk, State.store_fold, *]
@[simp] theorem State.closeStep_store {s n term src sat tm close} : State.store (State.closeStep s n term src sat tm close) = State.store s := by
  unfold State.closeStep; (repeat' split) <;> simp (maxDischargeDepth := 60) [State.store_mk, State.store_fold, *]
@[simp] theorem State.latchBeside_store {s n bit} : State.store (State.latchBeside s n bit) = State.store s := by
  unfold State.latchBeside
  extract_lets v0
  have h_v0 : State.store v0 = State.store s := by subst v0; simp (maxDischargeDepth := 60) [State.store_mk, State.store_fold, *]
  clear_value v0
  simp (maxDischargeDepth := 60) [State.store_mk, State.store_fold, *]
@[simp] theorem State.latch_store {s n bit t} : State.store (State.latch s n bit t) = State.store s := by
  unfold State.latch; simp (maxDischargeDepth := 60) [State.store_mk, State.store_fold, *]
@[simp] theorem State.settleMemb_store {s l} : State.store (State.settleMemb s l) = State.store s := by
  unfold State.settleMemb; simp (maxDischargeDepth := 60) [State.store_mk, State.store_fold, *]
@[simp] theorem State.quiet_store {s n} : State.store (State.quiet s n) = State.store s := by
  unfold State.quiet
  extract_lets v0 v1 v2 v3
  have h_v0 : State.store v0 = State.store s := by subst v0; simp (maxDischargeDepth := 60) [State.store_mk, State.store_fold, *]
  clear_value v0
  have h_v1 : State.store v1 = State.store s := by subst v1; simp (maxDischargeDepth := 60) [State.store_mk, State.store_fold, *]
  clear_value v1
  have h_v2 : State.store v2 = State.store s := by subst v2; simp (maxDischargeDepth := 60) [State.store_mk, State.store_fold, *]
  clear_value v2
  have h_v3 : State.store v3 = State.store s := by subst v3; simp (maxDischargeDepth := 60) [State.store_mk, State.store_fold, *]
  clear_value v3
  simp (maxDischargeDepth := 60) [State.store_mk, State.store_fold, *]
@[simp] theorem State.closeNow_store {s n term src close} : State.store (State.closeNow s n term src close) = State.store s := by
  unfold State.closeNow; simp (maxDischargeDepth := 60) [State.store_mk, State.store_fold, *]
@[simp] theorem State.park_store {s n src close} : State.store (State.park s n src close) = State.store s := by
  unfold State.park; simp (maxDischargeDepth := 60) [State.store_mk, State.store_fold, *]
@[simp] theorem State.parkMember_store {s n} : State.store (State.parkMember s n) = State.store s := by
  unfold State.parkMember; simp (maxDischargeDepth := 60) [State.store_mk, State.store_fold, *]
@[simp] theorem State.parkGang_store {s n src close} : State.store (State.parkGang s n src close) = State.store s := by
  unfold State.parkGang; simp (maxDischargeDepth := 60) [State.store_mk, State.store_fold, *]
@[simp] theorem State.latchTrip_store {s n bits chk t} : State.store (State.latchTrip s n bits chk t) = State.store s := by
  unfold State.latchTrip
  extract_lets v0 v1
  have h_v0 : State.store v0 = State.store s := by subst v0; simp (maxDischargeDepth := 60) [State.store_mk, State.store_fold, *]
  clear_value v0
  have h_v1 : State.store v1 = State.store s := by subst v1; simp (maxDischargeDepth := 60) [State.store_mk, State.store_fold, *]
  clear_value v1
  simp (maxDischargeDepth := 60) [State.store_mk, State.store_fold, *]
@[simp] theorem State.parkTripped_store {s n} : State.store (State.parkTripped s n) = State.store s := by
  unfold State.parkTripped; simp (maxDischargeDepth := 60) [State.store_mk, State.store_fold, *]
@[simp] theorem State.trip_store {s n bits t rest sev} : State.store (State.trip s n bits t rest sev) = State.store s := by
  unfold State.trip
  extract_lets v0
  have h_v0 : State.store v0 = State.store s := by subst v0; simp (maxDischargeDepth := 60) [State.store_mk, State.store_fold, *]
  clear_value v0
  simp (maxDischargeDepth := 60) [State.store_mk, State.store_fold, *]
@[simp] theorem State.tripSoft_store {s n bits} : State.store (State.tripSoft s n bits) = State.store s := by
  unfold State.tripSoft; simp (maxDischargeDepth := 60) [State.store_mk, State.store_fold, *]
@[simp] theorem State.tripSilent_store {s n bits t} : State.store (State.tripSilent s n bits t) = State.store s := by
  unfold State.tripSilent; simp (maxDischargeDepth := 60) [State.store_mk, State.store_fold, *]
@[simp] theorem State.checkFail_store {s n code} : State.store (State.checkFail s n code) = State.store s := by
  unfold State.checkFail
  extract_lets v0 v1 v2
  have h_v0 : State.store v0 = State.store s := by subst v0; simp (maxDischargeDepth := 60) [State.store_mk, State.store_fold, *]
  clear_value v0
  clear_value v1
  have h_v2 : State.store v2 = State.store s := by subst v2; simp (maxDischargeDepth := 60) [State.store_mk, State.store_fold, *]
  clear_value v2
  simp (maxDischargeDepth := 60) [State.store_mk, State.store_fold, *]
@[simp] theorem State.enterStop_store {s n src sat tm} : State.store (State.enterStop s n src sat tm) = State.store s := by
  unfold State.enterStop
  extract_lets v0 v1 v2
  have h_v0 : State.store v0 = State.store s := by subst v0; simp (maxDischargeDepth := 60) [State.store_mk, State.store_fold, *]
  clear_value v0
  have h_v1 : State.store v1 = State.store s := by subst v1; simp (maxDischargeDepth := 60) [State.store_mk, State.store_fold, *]
  clear_value v1
  have h_v2 : State.store v2 = State.store s := by subst v2; simp (maxDischargeDepth := 60) [State.store_mk, State.store_fold, *]
  clear_value v2
  simp (maxDischargeDepth := 60) [State.store_mk, State.store_fold, *]
@[simp] theorem State.openSwitch_store {s n} : State.store (State.openSwitch s n) = State.store s := by
  unfold State.openSwitch; simp (maxDischargeDepth := 60) [State.store_mk, State.store_fold, *]

/-! Machine/Sequencer.lean -/

@[simp] theorem State.auxMid_store {s j} : State.store (State.auxMid s j) = State.store s := by
  unfold State.auxMid
  extract_lets v0
  have h_v0 : State.store v0 = State.store s := by subst v0; simp (maxDischargeDepth := 60) [State.store_mk, State.store_fold, *]
  clear_value v0
  simp (maxDischargeDepth := 60) [State.store_mk, State.store_fold, *]
@[simp] theorem State.auxOff_store {s j} : State.store (State.auxOff s j) = State.store s := by
  unfold State.auxOff
  extract_lets v0
  have h_v0 : State.store v0 = State.store s := by subst v0; simp (maxDischargeDepth := 60) [State.store_mk, State.store_fold, *]
  clear_value v0
  simp (maxDischargeDepth := 60) [State.store_mk, State.store_fold, *]
@[simp] theorem State.auxStart_store {s j mv} : State.store (State.auxStart s j mv) = State.store s := by
  unfold State.auxStart
  extract_lets v0
  have h_v0 : State.store v0 = State.store s := by subst v0; simp (maxDischargeDepth := 60) [State.store_mk, State.store_fold, *]
  clear_value v0
  simp (maxDischargeDepth := 60) [State.store_mk, State.store_fold, *]
@[simp] theorem State.auxAsk_store {s j} : State.store (State.auxAsk s j) = State.store s := by
  unfold State.auxAsk; simp (maxDischargeDepth := 60) [State.store_mk, State.store_fold, *]
@[simp] theorem State.modSq_store {s e f} : State.store (State.modSq s e f) = State.store s := by
  unfold State.modSq; simp (maxDischargeDepth := 60) [State.store_mk, State.store_fold, *]
@[simp] theorem State.railDisable_store {s e} : State.store (State.railDisable s e) = State.store s := by
  unfold State.railDisable; simp (maxDischargeDepth := 60) [State.store_mk, State.store_fold, *]
@[simp] theorem State.railTo_store {s e st} : State.store (State.railTo s e st) = State.store s := by
  unfold State.railTo
  extract_lets v0 v1
  have h_v0 : State.store v0 = State.store s := by subst v0; simp (maxDischargeDepth := 60) [State.store_mk, State.store_fold, *]
  clear_value v0
  have h_v1 : State.store v1 = State.store s := by subst v1; simp (maxDischargeDepth := 60) [State.store_mk, State.store_fold, *]
  clear_value v1
  simp (maxDischargeDepth := 60) [State.store_mk, State.store_fold, *]
@[simp] theorem State.railOff_store {s e} : State.store (State.railOff s e) = State.store s := by
  unfold State.railOff; simp (maxDischargeDepth := 60) [State.store_mk, State.store_fold, *]
@[simp] theorem State.railStart_store {s e} : State.store (State.railStart s e) = State.store s := by
  unfold State.railStart
  extract_lets v0 v1
  clear_value v0
  have h_v1 : State.store v1 = State.store s := by subst v1; simp (maxDischargeDepth := 60) [State.store_mk, State.store_fold, *]
  clear_value v1
  ((repeat' split) <;> (try extract_lets) <;> simp (maxDischargeDepth := 60) +zetaDelta [State.store_mk, State.store_fold, *])
@[simp] theorem State.railTurn_store {s e} : State.store (State.railTurn s e) = State.store s := by
  unfold State.railTurn; simp (maxDischargeDepth := 60) [State.store_mk, State.store_fold, *]
@[simp] theorem State.railsDone_store {s} : State.store (State.railsDone s) = State.store s := by
  unfold State.railsDone; simp (maxDischargeDepth := 60) [State.store_mk, State.store_fold, *]
@[simp] theorem State.railSweep_store {s} : State.store (State.railSweep s) = State.store s := by
  unfold State.railSweep
  rw [State.railsDone_store]
  exact foldl_store (fun t _ => by simp [State.store_mk, State.store_fold])
@[simp] theorem State.railAsk_store {s e wait} : State.store (State.railAsk s e wait) = State.store s := by
  unfold State.railAsk; simp (maxDischargeDepth := 60) [State.store_mk, State.store_fold, *]
@[simp] theorem State.railsSafe_store {s} : State.store (State.railsSafe s) = State.store s := by
  unfold State.railsSafe; simp (maxDischargeDepth := 60) [State.store_mk, State.store_fold, *]

/-! Machine/Shelf.lean -/

@[simp] theorem State.stopShelfProgram_store {s} : State.store (State.stopShelfProgram s) = State.store s := by
  unfold State.stopShelfProgram
  extract_lets v0
  have h_v0 : State.store v0 = State.store s := by subst v0; simp (maxDischargeDepth := 60) [State.store_mk, State.store_fold, *]
  clear_value v0
  simp (maxDischargeDepth := 60) [State.store_mk, State.store_fold, *]
@[simp] theorem State.parkForSafe_store {s n} : State.store (State.parkForSafe s n) = State.store s := by
  unfold State.parkForSafe; simp (maxDischargeDepth := 60) [State.store_mk, State.store_fold, *]
@[simp] theorem State.auxSafe_store {s} : State.store (State.auxSafe s) = State.store s := by
  unfold State.auxSafe
  extract_lets v0
  have h_v0 : State.store v0 = State.store s := by subst v0; simp (maxDischargeDepth := 60) [State.store_mk, State.store_fold, *]
  clear_value v0
  simp (maxDischargeDepth := 60) [State.store_mk, State.store_fold, *]
@[simp] theorem State.beginAgingExit_store {s} : State.store (State.beginAgingExit s) = State.store s := by
  unfold State.beginAgingExit; (repeat' split) <;> simp (maxDischargeDepth := 60) [State.store_mk, State.store_fold, *]
@[simp] theorem State.beginWake_store {s} : State.store (State.beginWake s) = State.store s := by
  unfold State.beginWake; (repeat' split) <;> simp (maxDischargeDepth := 60) [State.store_mk, State.store_fold, *]
@[simp] theorem State.leaveSleep_store {s} : State.store (State.leaveSleep s) = State.store s := by
  unfold State.leaveSleep; simp (maxDischargeDepth := 60) [State.store_mk, State.store_fold, *]
@[simp] theorem State.wdtArm_store {s} : State.store (State.wdtArm s) = State.store s := by
  unfold State.wdtArm; simp (maxDischargeDepth := 60) [State.store_mk, State.store_fold, *]
@[simp] theorem State.judgeClr_store {s} : State.store (State.judgeClr s) = State.store s := by
  unfold State.judgeClr; simp (maxDischargeDepth := 60) [State.store_mk, State.store_fold, *]
@[simp] theorem State.haltChannels_store {s} : State.store (State.haltChannels s) = State.store s := by
  unfold State.haltChannels
  extract_lets v0
  have h_v0 : State.store v0 = State.store s := by subst v0; simp (maxDischargeDepth := 60) [State.store_mk, State.store_fold, *]
  clear_value v0
  simp (maxDischargeDepth := 60) [State.store_mk, State.store_fold, *]
@[simp] theorem State.lockWrite_store {s by_ key} : State.store (State.lockWrite s by_ key) = State.store s := by
  unfold State.lockWrite; simp (maxDischargeDepth := 60) [State.store_mk, State.store_fold, *]
@[simp] theorem State.lockClose_store {s} : State.store (State.lockClose s) = State.store s := by
  unfold State.lockClose; simp (maxDischargeDepth := 60) [State.store_mk, State.store_fold, *]

/-! Machine/Convert.lean -/

@[simp] theorem State.fuseNote_store {s n j i} : State.store (State.fuseNote s n j i) = State.store s := by
  unfold State.fuseNote; simp (maxDischargeDepth := 60) [State.store_mk, State.store_fold, *]
@[simp] theorem State.fuseMark_store {s n i} : State.store (State.fuseMark s n i) = State.store s := by
  unfold State.fuseMark; simp (maxDischargeDepth := 60) [State.store_mk, State.store_fold, *]
@[simp] theorem State.shedCount_store {s n share} : State.store (State.shedCount s n share) = State.store s := by
  unfold State.shedCount; dsimp only; (repeat' split) <;> simp +contextual (maxDischargeDepth := 60) [State.store_mk, State.store_fold, *]
@[simp] theorem State.memberLoop_store {s n share eis engaged} : State.store (State.memberLoop s n share eis engaged) = State.store s := by
  unfold State.memberLoop; simp (maxDischargeDepth := 60) [State.store_mk, State.store_fold, *]
@[simp] theorem State.refSlot_store {s n} : State.store (State.refSlot s n) = State.store s := by
  unfold State.refSlot
  extract_lets v0 v1 v2 v3 v4 v5 v6 v7 v8 v9 v10 v11 v12 v13 v14 v15 v16 v17 v18 v19
  clear_value v0
  clear_value v1
  clear_value v2
  clear_value v3
  clear_value v4
  clear_value v5
  clear_value v6
  clear_value v7
  clear_value v8
  have h_v9 : State.store v9 = State.store s := by subst v9; simp (maxDischargeDepth := 60) [State.store_mk, State.store_fold, *]
  clear_value v9
  clear_value v10
  clear_value v11
  clear_value v12
  clear_value v13
  have h_v14 : State.store v14 = State.store s := by subst v14; simp (maxDischargeDepth := 60) [State.store_mk, State.store_fold, *]
  clear_value v14
  have h_v15 : State.store v15 = State.store s := by subst v15; simp (maxDischargeDepth := 60) [State.store_mk, State.store_fold, *]
  clear_value v15
  have h_v16 : State.store v16 = State.store s := by subst v16; simp (maxDischargeDepth := 60) [State.store_mk, State.store_fold, *]
  clear_value v16
  have h_v17 : State.store v17 = State.store s := by subst v17; simp (maxDischargeDepth := 60) [State.store_mk, State.store_fold, *]
  clear_value v17
  clear_value v18
  have h_v19 : State.store v19 = State.store s := by subst v19; simp (maxDischargeDepth := 60) [State.store_mk, State.store_fold, *]
  clear_value v19
  simp (maxDischargeDepth := 60) [State.store_mk, State.store_fold, *]
@[simp] theorem State.restQuiet_store {s n} : State.store (State.restQuiet s n) = State.store s := by
  unfold State.restQuiet; simp (maxDischargeDepth := 60) [State.store_mk, State.store_fold, *]
@[simp] theorem State.preSlot_store {s n} : State.store (State.preSlot s n) = State.store s := by
  unfold State.preSlot; simp (maxDischargeDepth := 60) [State.store_mk, State.store_fold, *]
@[simp] theorem State.loopSlot_store {s n} : State.store (State.loopSlot s n) = State.store s := by
  unfold State.loopSlot; simp (maxDischargeDepth := 60) [State.store_mk, State.store_fold, *]
@[simp] theorem State.bumpless_store {s n} : State.store (State.bumpless s n) = State.store s := by
  unfold State.bumpless; simp (maxDischargeDepth := 60) [State.store_mk, State.store_fold, *]
@[simp] theorem State.ctClamp_store {s n} : State.store (State.ctClamp s n) = State.store s := by
  unfold State.ctClamp; simp (maxDischargeDepth := 60) [State.store_mk, State.store_fold, *]
@[simp] theorem State.loadPhase_store {s n k} : State.store (State.loadPhase s n k) = State.store s := by
  unfold State.loadPhase
  extract_lets v0 v1 v2 v3
  clear_value v0
  clear_value v1
  have h_v2 : State.store v2 = State.store s := by subst v2; simp (maxDischargeDepth := 60) [State.store_mk, State.store_fold, *]
  clear_value v2
  clear_value v3
  simp (maxDischargeDepth := 60) [State.store_mk, State.store_fold, *]
@[simp] theorem State.shedPhase_store {s n phB} : State.store (State.shedPhase s n phB) = State.store s := by
  unfold State.shedPhase; simp (maxDischargeDepth := 60) [State.store_mk, State.store_fold, *]
@[simp] theorem State.busCount_store {s} : State.store (State.busCount s) = State.store s := by
  unfold State.busCount; simp (maxDischargeDepth := 60) [State.store_mk, State.store_fold, *]
@[simp] theorem State.pwmDivWrite_store {s val} : State.store (State.pwmDivWrite s val) = State.store s := by
  unfold State.pwmDivWrite; simp (maxDischargeDepth := 60) [State.store_mk, State.store_fold, *]
@[simp] theorem State.syncEdge_store {s at_ dt} : State.store (State.syncEdge s at_ dt) = State.store s := by
  unfold State.syncEdge; simp (maxDischargeDepth := 60) [State.store_mk, State.store_fold, *]
@[simp] theorem State.syncFollow_store {s} : State.store (State.syncFollow s) = State.store s := by
  unfold State.syncFollow; simp (maxDischargeDepth := 60) [State.store_mk, State.store_fold, *]
@[simp] theorem State.periodBoundary_store {s0} : State.store (State.periodBoundary s0) = State.store s0 := by
  unfold State.periodBoundary; simp (maxDischargeDepth := 60) [State.store_mk, State.store_fold, *]
@[simp] theorem State.gangDissolve_store {s n} : State.store (State.gangDissolve s n) = State.store s := by
  unfold State.gangDissolve
  extract_lets v0
  have h_v0 : State.store v0 = State.store s := by subst v0; simp (maxDischargeDepth := 60) [State.store_mk, State.store_fold, *]
  clear_value v0
  simp (maxDischargeDepth := 60) [State.store_mk, State.store_fold, *]
@[simp] theorem State.leaveParked_store {s j} : State.store (State.leaveParked s j) = State.store s := by
  unfold State.leaveParked; simp (maxDischargeDepth := 60) [State.store_mk, State.store_fold, *]
@[simp] theorem State.gangForm_store {s n code} : State.store (State.gangForm s n code) = State.store s := by
  unfold State.gangForm
  extract_lets v0
  have h_v0 : State.store v0 = State.store s := by subst v0; simp (maxDischargeDepth := 60) [State.store_mk, State.store_fold, *]
  clear_value v0
  simp (maxDischargeDepth := 60) [State.store_mk, State.store_fold, *]
@[simp] theorem State.gangWrite_store {s n val} : State.store (State.gangWrite s n val) = State.store s := by
  unfold State.gangWrite; simp (maxDischargeDepth := 60) [State.store_mk, State.store_fold, *]
@[simp] theorem State.gangTake_store {s n} : State.store (State.gangTake s n) = State.store s := by
  unfold State.gangTake; (repeat' split) <;> simp (maxDischargeDepth := 60) [State.store_mk, State.store_fold, *]
@[simp] theorem State.engage_store {s n} : State.store (State.engage s n) = State.store s := by
  unfold State.engage; simp (maxDischargeDepth := 60) [State.store_mk, State.store_fold, *]
@[simp] theorem State.checkPhase_store {s n ph} : State.store (State.checkPhase s n ph) = State.store s := by
  unfold State.checkPhase; simp (maxDischargeDepth := 60) [State.store_mk, State.store_fold, *]
@[simp] theorem State.startPhases_store {s n} : State.store (State.startPhases s n) = State.store s := by
  unfold State.startPhases; simp (maxDischargeDepth := 60) [State.store_mk, State.store_fold, *]
@[simp] theorem State.restCheck_store {s n} : State.store (State.restCheck s n) = State.store s := by
  unfold State.restCheck
  extract_lets v0
  have h_v0 : State.store v0 = State.store s := by subst v0; simp (maxDischargeDepth := 60) [State.store_mk, State.store_fold, *]
  clear_value v0
  simp (maxDischargeDepth := 60) [State.store_mk, State.store_fold, *]
@[simp] theorem State.leaveRest_store {s n} : State.store (State.leaveRest s n) = State.store s := by
  unfold State.leaveRest; simp (maxDischargeDepth := 60) [State.store_mk, State.store_fold, *]
@[simp] theorem State.stepBegins_store {s n t} : State.store (State.stepBegins s n t) = State.store s := by
  unfold State.stepBegins
  extract_lets v0
  have h_v0 : State.store v0 = State.store s := by subst v0; simp (maxDischargeDepth := 60) [State.store_mk, State.store_fold, *]
  clear_value v0
  simp (maxDischargeDepth := 60) [State.store_mk, State.store_fold, *]
@[simp] theorem State.cvStart_store {s n} : State.store (State.cvStart s n) = State.store s := by
  unfold State.cvStart; simp (maxDischargeDepth := 60) [State.store_mk, State.store_fold, *]
@[simp] theorem State.startWaiting_store {s n} : State.store (State.startWaiting s n) = State.store s := by
  unfold State.startWaiting; simp (maxDischargeDepth := 60) [State.store_mk, State.store_fold, *]

/-! Machine/Feeds.lean -/

@[simp] theorem State.modF_store {s f g} : State.store (State.modF s f g) = State.store s := by
  unfold State.modF; simp (maxDischargeDepth := 60) [State.store_mk, State.store_fold, *]
@[simp] theorem State.modSel_store {s g} : State.store (State.modSel s g) = State.store s := by
  unfold State.modSel; simp (maxDischargeDepth := 60) [State.store_mk, State.store_fold, *]
@[simp] theorem State.modHu_store {s g} : State.store (State.modHu s g) = State.store s := by
  unfold State.modHu; simp (maxDischargeDepth := 60) [State.store_mk, State.store_fold, *]
@[simp] theorem State.setLim_store {s f on t} : State.store (State.setLim s f on t) = State.store s := by
  unfold State.setLim; simp (maxDischargeDepth := 60) [State.store_mk, State.store_fold, *]
@[simp] theorem State.setServ_store {s} : State.store (State.setServ s) = State.store s := by
  unfold State.setServ; simp (maxDischargeDepth := 60) [State.store_mk, State.store_fold, *]
@[simp] theorem State.capEnd_store {s f last} : State.store (State.capEnd s f last) = State.store s := by
  unfold State.capEnd; simp (maxDischargeDepth := 60) [State.store_mk, State.store_fold, *]
@[simp] theorem State.capAbandon_store {s f} : State.store (State.capAbandon s f) = State.store s := by
  unfold State.capAbandon; (repeat' split) <;> simp (maxDischargeDepth := 60) [State.store_mk, State.store_fold, *]
@[simp] theorem State.endChange_store {s f} : State.store (State.endChange s f) = State.store s := by
  unfold State.endChange; simp (maxDischargeDepth := 60) [State.store_mk, State.store_fold, *]
@[simp] theorem State.setFeed_store {s f st} : State.store (State.setFeed s f st) = State.store s := by
  unfold State.setFeed; simp (maxDischargeDepth := 60) [State.store_mk, State.store_fold, *]
@[simp] theorem State.rideCheck_store {s} : State.store (State.rideCheck s) = State.store s := by
  unfold State.rideCheck; simp (maxDischargeDepth := 60) [State.store_mk, State.store_fold, *]
@[simp] theorem State.pickFeed_store {s f was} : State.store (State.pickFeed s f was) = State.store s := by
  unfold State.pickFeed; simp (maxDischargeDepth := 60) [State.store_mk, State.store_fold, *]
@[simp] theorem State.deselect_store {s f} : State.store (State.deselect s f) = State.store s := by
  unfold State.deselect; simp (maxDischargeDepth := 60) [State.store_mk, State.store_fold, *]
@[simp] theorem State.selectOnly_store {s f was} : State.store (State.selectOnly s f was) = State.store s := by
  unfold State.selectOnly
  extract_lets v0
  have h_v0 : State.store v0 = State.store s := by subst v0; simp (maxDischargeDepth := 60) [State.store_mk, State.store_fold, *]
  clear_value v0
  simp (maxDischargeDepth := 60) [State.store_mk, State.store_fold, *]
@[simp] theorem State.selectAuto_store {s was} : State.store (State.selectAuto s was) = State.store s := by
  unfold State.selectAuto; simp (maxDischargeDepth := 60) [State.store_mk, State.store_fold, *]
@[simp] theorem State.feedEval_store {s was} : State.store (State.feedEval s was) = State.store s := by
  unfold State.feedEval; (repeat' split) <;> simp (maxDischargeDepth := 60) [State.store_mk, State.store_fold, *]
@[simp] theorem State.feedQual_store {s f} : State.store (State.feedQual s f) = State.store s := by
  unfold State.feedQual; simp (maxDischargeDepth := 60) [State.store_mk, State.store_fold, *]
@[simp] theorem State.feedTick_store {s} : State.store (State.feedTick s) = State.store s := by
  unfold State.feedTick
  extract_lets v0
  have h_v0 : State.store v0 = State.store s := by subst v0; simp (maxDischargeDepth := 60) [State.store_mk, State.store_fold, *]
  clear_value v0
  simp (maxDischargeDepth := 60) [State.store_mk, State.store_fold, *]
@[simp] theorem State.faultFeed_store {s f bit} : State.store (State.faultFeed s f bit) = State.store s := by
  unfold State.faultFeed
  extract_lets v0 v1
  clear_value v0
  have h_v1 : State.store v1 = State.store s := by subst v1; simp (maxDischargeDepth := 60) [State.store_mk, State.store_fold, *]
  clear_value v1
  simp (maxDischargeDepth := 60) [State.store_mk, State.store_fold, *]
@[simp] theorem State.bounceFeed_store {s f} : State.store (State.bounceFeed s f) = State.store s := by
  unfold State.bounceFeed
  extract_lets v0 v1 v2 v3
  clear_value v0
  clear_value v1
  have h_v2 : State.store v2 = State.store s := by subst v2; simp (maxDischargeDepth := 60) [State.store_mk, State.store_fold, *]
  clear_value v2
  have h_v3 : State.store v3 = State.store s := by subst v3; simp (maxDischargeDepth := 60) [State.store_mk, State.store_fold, *]
  clear_value v3
  simp (maxDischargeDepth := 60) [State.store_mk, State.store_fold, *]
@[simp] theorem State.vinLeave_store {s f} : State.store (State.vinLeave s f) = State.store s := by
  unfold State.vinLeave
  extract_lets v0
  have h_v0 : State.store v0 = State.store s := by subst v0; simp (maxDischargeDepth := 60) [State.store_mk, State.store_fold, *]
  clear_value v0
  simp (maxDischargeDepth := 60) [State.store_mk, State.store_fold, *]
@[simp] theorem State.rampIfClear_store {s f} : State.store (State.rampIfClear s f) = State.store s := by
  unfold State.rampIfClear; simp (maxDischargeDepth := 60) [State.store_mk, State.store_fold, *]
@[simp] theorem State.feedClear_store {s f val} : State.store (State.feedClear s f val) = State.store s := by
  unfold State.feedClear
  extract_lets v0 v1
  have h_v0 : State.store v0 = State.store s := by subst v0; simp (maxDischargeDepth := 60) [State.store_mk, State.store_fold, *]
  clear_value v0
  have h_v1 : State.store v1 = State.store s := by subst v1; simp (maxDischargeDepth := 60) [State.store_mk, State.store_fold, *]
  clear_value v1
  simp (maxDischargeDepth := 60) [State.store_mk, State.store_fold, *]
@[simp] theorem State.feedDisable_store {s f} : State.store (State.feedDisable s f) = State.store s := by
  unfold State.feedDisable; simp (maxDischargeDepth := 60) [State.store_mk, State.store_fold, *]
@[simp] theorem State.feedSelWrite_store {s val} : State.store (State.feedSelWrite s val) = State.store s := by
  unfold State.feedSelWrite
  extract_lets v0 v1
  clear_value v0
  have h_v1 : State.store v1 = State.store s := by subst v1; simp (maxDischargeDepth := 60) [State.store_mk, State.store_fold, *]
  clear_value v1
  simp (maxDischargeDepth := 60) [State.store_mk, State.store_fold, *]
@[simp] theorem State.meterEnergy_store {s f p} : State.store (State.meterEnergy s f p) = State.store s := by
  unfold State.meterEnergy; simp (maxDischargeDepth := 60) [State.store_mk, State.store_fold, *]
@[simp] theorem State.meterFeed_store {s f v i} : State.store (State.meterFeed s f v i) = State.store s := by
  unfold State.meterFeed; simp (maxDischargeDepth := 60) [State.store_mk, State.store_fold, *]
@[simp] theorem State.meterPublish_store {s f} : State.store (State.meterPublish s f) = State.store s := by
  unfold State.meterPublish
  extract_lets v0 v1
  clear_value v0
  have h_v1 : State.store v1 = State.store s := by subst v1; simp (maxDischargeDepth := 60) [State.store_mk, State.store_fold, *]
  clear_value v1
  simp (maxDischargeDepth := 60) [State.store_mk, State.store_fold, *]
@[simp] theorem State.meterGate_store {s f vin gs} : State.store (State.meterGate s f vin gs) = State.store s := by
  unfold State.meterGate
  extract_lets v0
  have h_v0 : State.store v0 = State.store s := by subst v0; simp (maxDischargeDepth := 60) [State.store_mk, State.store_fold, *]
  clear_value v0
  simp (maxDischargeDepth := 60) [State.store_mk, State.store_fold, *]
@[simp] theorem State.meterTake_store {s inp} : State.store (State.meterTake s inp) = State.store s := by
  unfold State.meterTake
  extract_lets v0 v1 v2 v3
  have h_v0 : State.store v0 = State.store s := by subst v0; simp (maxDischargeDepth := 60) [State.store_mk, State.store_fold, *]
  clear_value v0
  have h_v1 : State.store v1 = State.store s := by subst v1; simp (maxDischargeDepth := 60) [State.store_mk, State.store_fold, *]
  clear_value v1
  have h_v2 : State.store v2 = State.store s := by subst v2; simp (maxDischargeDepth := 60) [State.store_mk, State.store_fold, *]
  clear_value v2
  have h_v3 : State.store v3 = State.store s := by subst v3; simp (maxDischargeDepth := 60) [State.store_mk, State.store_fold, *]
  clear_value v3
  ((repeat' split) <;> (try extract_lets) <;> simp +zetaDelta +contextual (maxDischargeDepth := 60) [State.store_mk, State.store_fold, *])

/-! Machine/Holdup.lean -/

@[simp] theorem State.strapFault_store {s n v} : State.store (State.strapFault s n v) = State.store s := by
  unfold State.strapFault
  extract_lets v0 v1 v2
  have h_v0 : State.store v0 = State.store s := by subst v0; simp (maxDischargeDepth := 60) [State.store_mk, State.store_fold, *]
  clear_value v0
  have h_v1 : State.store v1 = State.store s := by subst v1; ((repeat' split) <;> simp (maxDischargeDepth := 60) [State.store_mk, State.store_fold, *])
  clear_value v1
  have h_v2 : State.store v2 = State.store s := by subst v2; ((repeat' split) <;> simp (maxDischargeDepth := 60) [State.store_mk, State.store_fold, *])
  clear_value v2
  simp (maxDischargeDepth := 60) [State.store_mk, State.store_fold, *]
@[simp] theorem State.readStraps_store {s x} : State.store (State.readStraps s x) = State.store s := by
  unfold State.readStraps; dsimp only; (repeat' split) <;> simp +contextual (maxDischargeDepth := 60) [State.store_mk, State.store_fold, *]
@[simp] theorem State.haltEntry_store {s} : State.store (State.haltEntry s) = State.store s := by
  unfold State.haltEntry
  extract_lets v0
  have h_v0 : State.store v0 = State.store s := by subst v0; simp (maxDischargeDepth := 60) [State.store_mk, State.store_fold, *]
  clear_value v0
  simp (maxDischargeDepth := 60) [State.store_mk, State.store_fold, *]
@[simp] theorem State.rideEnds_store {s} : State.store (State.rideEnds s) = State.store s := by
  unfold State.rideEnds; simp (maxDischargeDepth := 60) [State.store_mk, State.store_fold, *]
@[simp] theorem State.rideBoundary_store {s} : State.store (State.rideBoundary s) = State.store s := by
  unfold State.rideBoundary; simp (maxDischargeDepth := 60) [State.store_mk, State.store_fold, *]
@[simp] theorem State.pathOff_store {s} : State.store (State.pathOff s) = State.store s := by
  unfold State.pathOff; simp (maxDischargeDepth := 60) [State.store_mk, State.store_fold, *]
@[simp] theorem State.preFail_store {s} : State.store (State.preFail s) = State.store s := by
  unfold State.preFail; simp (maxDischargeDepth := 60) [State.store_mk, State.store_fold, *]
@[simp] theorem State.setHuLim_store {s on} : State.store (State.setHuLim s on) = State.store s := by
  unfold State.setHuLim; simp (maxDischargeDepth := 60) [State.store_mk, State.store_fold, *]
@[simp] theorem State.wdtKick_store {s} : State.store (State.wdtKick s) = State.store s := by
  unfold State.wdtKick; simp (maxDischargeDepth := 60) [State.store_mk, State.store_fold, *]
@[simp] theorem State.wdtConfirm_store {s} : State.store (State.wdtConfirm s) = State.store s := by
  unfold State.wdtConfirm; simp (maxDischargeDepth := 60) [State.store_mk, State.store_fold, *]
@[simp] theorem State.chargerDrive_store {s was st} : State.store (State.chargerDrive s was st) = State.store s := by
  unfold State.chargerDrive; simp (maxDischargeDepth := 60) [State.store_mk, State.store_fold, *]
@[simp] theorem State.chargerTick_store {s} : State.store (State.chargerTick s) = State.store s := by
  unfold State.chargerTick; simp (maxDischargeDepth := 60) [State.store_mk, State.store_fold, *]
@[simp] theorem State.gaugeWords_store {s} : State.store (State.gaugeWords s) = State.store s := by
  unfold State.gaugeWords; simp (maxDischargeDepth := 60) [State.store_mk, State.store_fold, *]
@[simp] theorem State.restCorrect_store {s e1 soc} : State.store (State.restCorrect s e1 soc) = State.store s := by
  unfold State.restCorrect
  extract_lets v0 v1 v2
  clear_value v0
  have h_v1 : State.store v1 = State.store s := by subst v1; simp (maxDischargeDepth := 60) [State.store_mk, State.store_fold, *]
  clear_value v1
  have h_v2 : State.store v2 = State.store s := by subst v2; simp (maxDischargeDepth := 60) [State.store_mk, State.store_fold, *]
  clear_value v2
  simp (maxDischargeDepth := 60) [State.store_mk, State.store_fold, *]
@[simp] theorem State.norefDecay_store {s} : State.store (State.norefDecay s) = State.store s := by
  unfold State.norefDecay; simp (maxDischargeDepth := 60) [State.store_mk, State.store_fold, *]
@[simp] theorem State.gaugeMinute_store {s} : State.store (State.gaugeMinute s) = State.store s := by
  unfold State.gaugeMinute; simp (maxDischargeDepth := 60) [State.store_mk, State.store_fold, *]
@[simp] theorem State.relearn_store {s soc} : State.store (State.relearn s soc) = State.store s := by
  unfold State.relearn; (repeat' split) <;> simp (maxDischargeDepth := 60) [State.store_mk, State.store_fold, *]
@[simp] theorem State.gaugeRestore_store {s crc} : State.store (State.gaugeRestore s crc) = State.store s := by
  unfold State.gaugeRestore; simp (maxDischargeDepth := 60) [State.store_mk, State.store_fold, *]
@[simp] theorem State.huFltWrite_store {s val} : State.store (State.huFltWrite s val) = State.store s := by
  unfold State.huFltWrite; (repeat' split) <;> simp (maxDischargeDepth := 60) [State.store_mk, State.store_fold, *]
@[simp] theorem State.huCtlWrite_store {s val} : State.store (State.huCtlWrite s val) = State.store s := by
  unfold State.huCtlWrite; (repeat' split) <;> simp (maxDischargeDepth := 60) [State.store_mk, State.store_fold, *]

/-! Machine/Ledger.lean -/

@[simp] theorem State.setScales_store {s x} : State.store (State.setScales s x) = State.store s := by
  unfold State.setScales
  extract_lets v0 v1
  have h_v0 : State.store v0 = State.store s := by subst v0; simp (maxDischargeDepth := 60) [State.store_mk, State.store_fold, *]
  clear_value v0
  have h_v1 : State.store v1 = State.store s := by subst v1; simp (maxDischargeDepth := 60) [State.store_mk, State.store_fold, *]
  clear_value v1
  simp (maxDischargeDepth := 60) [State.store_mk, State.store_fold, *]
@[simp] theorem State.ledgerBreach_store {s x y} : State.store (State.ledgerBreach s x y) = State.store s := by
  unfold State.ledgerBreach
  extract_lets v0 v1 v2
  clear_value v0
  clear_value v1
  have h_v2 : State.store v2 = State.store s := by subst v2; simp (maxDischargeDepth := 60) [State.store_mk, State.store_fold, *]
  clear_value v2
  simp (maxDischargeDepth := 60) [State.store_mk, State.store_fold, *]
@[simp] theorem State.ledgerFlags_store {s x y} : State.store (State.ledgerFlags s x y) = State.store s := by
  unfold State.ledgerFlags
  extract_lets v0 v1 v2 v3 v4 v5 v6
  clear_value v0
  have h_v1 : State.store v1 = State.store s := by subst v1; simp (maxDischargeDepth := 60) [State.store_mk, State.store_fold, *]
  clear_value v1
  have h_v2 : State.store v2 = State.store s := by subst v2; simp (maxDischargeDepth := 60) [State.store_mk, State.store_fold, *]
  clear_value v2
  have h_v3 : State.store v3 = State.store s := by subst v3; simp (maxDischargeDepth := 60) [State.store_mk, State.store_fold, *]
  clear_value v3
  have h_v4 : State.store v4 = State.store s := by subst v4; simp (maxDischargeDepth := 60) [State.store_mk, State.store_fold, *]
  clear_value v4
  have h_v5 : State.store v5 = State.store s := by subst v5; simp (maxDischargeDepth := 60) [State.store_mk, State.store_fold, *]
  clear_value v5
  have h_v6 : State.store v6 = State.store s := by subst v6; simp (maxDischargeDepth := 60) [State.store_mk, State.store_fold, *]
  clear_value v6
  simp (maxDischargeDepth := 60) [State.store_mk, State.store_fold, *]
@[simp] theorem State.ledgerSecond_store {s at_ nthr} : State.store (State.ledgerSecond s at_ nthr) = State.store s := by
  unfold State.ledgerSecond
  extract_lets v0 v1 v2 v3
  clear_value v0
  clear_value v1
  clear_value v2
  have h_v3 : State.store v3 = State.store s := by subst v3; simp (maxDischargeDepth := 60) [State.store_mk, State.store_fold, *]
  clear_value v3
  simp (maxDischargeDepth := 60) [State.store_mk, State.store_fold, *]
@[simp] theorem State.ledgerAdd_store {s l x y net} : State.store (State.ledgerAdd s l x y net) = State.store s := by
  unfold State.ledgerAdd; simp (maxDischargeDepth := 60) [State.store_mk, State.store_fold, *]
@[simp] theorem State.ledgerClose_store {s} : State.store (State.ledgerClose s) = State.store s := by
  unfold State.ledgerClose; simp (maxDischargeDepth := 60) [State.store_mk, State.store_fold, *]

/-! Machine/AuxConv.lean -/

@[simp] theorem State.modAx_store {s j g} : State.store (State.modAx s j g) = State.store s := by
  unfold State.modAx; simp (maxDischargeDepth := 60) [State.store_mk, State.store_fold, *]
@[simp] theorem State.axEnable_store {s j} : State.store (State.axEnable s j) = State.store s := by
  unfold State.axEnable; simp (maxDischargeDepth := 60) [State.store_mk, State.store_fold, *]
@[simp] theorem State.axDisable_store {s j} : State.store (State.axDisable s j) = State.store s := by
  unfold State.axDisable; simp (maxDischargeDepth := 60) [State.store_mk, State.store_fold, *]
@[simp] theorem State.auxFault_store {s j bit} : State.store (State.auxFault s j bit) = State.store s := by
  unfold State.auxFault
  extract_lets v0
  have h_v0 : State.store v0 = State.store s := by subst v0; simp (maxDischargeDepth := 60) [State.store_mk, State.store_fold, *]
  clear_value v0
  simp (maxDischargeDepth := 60) [State.store_mk, State.store_fold, *]
@[simp] theorem State.auxHiccup_store {s j} : State.store (State.auxHiccup s j) = State.store s := by
  unfold State.auxHiccup; simp (maxDischargeDepth := 60) [State.store_mk, State.store_fold, *]
@[simp] theorem State.axLegs_store {s} : State.store (State.axLegs s) = State.store s := by
  unfold State.axLegs; simp (maxDischargeDepth := 60) [State.store_mk, State.store_fold, *]
@[simp] theorem State.axSoft_store {s j mv} : State.store (State.axSoft s j mv) = State.store s := by
  unfold State.axSoft
  extract_lets v0 v1 v2
  clear_value v0
  clear_value v1
  have h_v2 : State.store v2 = State.store s := by subst v2; simp (maxDischargeDepth := 60) [State.store_mk, State.store_fold, *]
  clear_value v2
  simp (maxDischargeDepth := 60) [State.store_mk, State.store_fold, *]
@[simp] theorem State.axRegulate_store {s j fb} : State.store (State.axRegulate s j fb) = State.store s := by
  unfold State.axRegulate; simp (maxDischargeDepth := 60) [State.store_mk, State.store_fold, *]
@[simp] theorem State.axShed_store {s j shunt} : State.store (State.axShed s j shunt) = State.store s := by
  unfold State.axShed; simp (maxDischargeDepth := 60) [State.store_mk, State.store_fold, *]
@[simp] theorem State.axMeter_store {s j inp} : State.store (State.axMeter s j inp) = State.store s := by
  unfold State.axMeter; simp (maxDischargeDepth := 60) [State.store_mk, State.store_fold, *]
@[simp] theorem State.axFloor_store {s} : State.store (State.axFloor s) = State.store s := by
  unfold State.axFloor; simp (maxDischargeDepth := 60) [State.store_mk, State.store_fold, *]
@[simp] theorem State.axCycles_store {s j phB} : State.store (State.axCycles s j phB) = State.store s := by
  unfold State.axCycles; dsimp only; (repeat' split) <;> simp +contextual (maxDischargeDepth := 60) [State.store_mk, State.store_fold, *]
@[simp] theorem State.axWatch_store {s j lim} : State.store (State.axWatch s j lim) = State.store s := by
  unfold State.axWatch
  extract_lets v0 v1 v2 v3
  clear_value v0
  clear_value v1
  clear_value v2
  have h_v3 : State.store v3 = State.store s := by subst v3; simp (maxDischargeDepth := 60) [State.store_mk, State.store_fold, *]
  clear_value v3
  simp (maxDischargeDepth := 60) [State.store_mk, State.store_fold, *]
@[simp] theorem State.axBoundary_store {s j inp} : State.store (State.axBoundary s j inp) = State.store s := by
  unfold State.axBoundary
  extract_lets v0
  have h_v0 : State.store v0 = State.store s := by subst v0; simp (maxDischargeDepth := 60) [State.store_mk, State.store_fold, *]
  clear_value v0
  ((repeat' split) <;> (try extract_lets) <;> simp (maxDischargeDepth := 60) +zetaDelta [State.store_mk, State.store_fold, *])
@[simp] theorem State.axFltWrite_store {s j val} : State.store (State.axFltWrite s j val) = State.store s := by
  unfold State.axFltWrite; (repeat' split) <;> simp (maxDischargeDepth := 60) [State.store_mk, State.store_fold, *]

/-! Machine/Tray.lean -/

@[simp] theorem State.modAl_store {s k g} : State.store (State.modAl s k g) = State.store s := by
  unfold State.modAl; simp (maxDischargeDepth := 60) [State.store_mk, State.store_fold, *]
@[simp] theorem State.alTake_store {s k} : State.store (State.alTake s k) = State.store s := by
  unfold State.alTake; simp (maxDischargeDepth := 60) [State.store_mk, State.store_fold, *]
@[simp] theorem State.alSetpoint_store {s k inp} : State.store (State.alSetpoint s k inp) = State.store s := by
  unfold State.alSetpoint; simp (maxDischargeDepth := 60) [State.store_mk, State.store_fold, *]
@[simp] theorem State.alOut_store {s k o} : State.store (State.alOut s k o) = State.store s := by
  unfold State.alOut; simp (maxDischargeDepth := 60) [State.store_mk, State.store_fold, *]
@[simp] theorem State.alPid_store {s k pv} : State.store (State.alPid s k pv) = State.store s := by
  unfold State.alPid
  extract_lets v0 v1 v2 v3 v4 v5 v6 v7 v8 v9 v10 v11
  clear_value v0
  clear_value v1
  clear_value v2
  clear_value v3
  clear_value v4
  clear_value v5
  clear_value v6
  clear_value v7
  clear_value v8
  clear_value v9
  clear_value v10
  have h_v11 : State.store v11 = State.store s := by subst v11; simp (maxDischargeDepth := 60) [State.store_mk, State.store_fold, *]
  clear_value v11
  simp (maxDischargeDepth := 60) [State.store_mk, State.store_fold, *]
@[simp] theorem State.alManual_store {s k pv} : State.store (State.alManual s k pv) = State.store s := by
  unfold State.alManual
  extract_lets v0 v1 v2 v3
  clear_value v0
  clear_value v1
  clear_value v2
  have h_v3 : State.store v3 = State.store s := by subst v3; simp (maxDischargeDepth := 60) [State.store_mk, State.store_fold, *]
  clear_value v3
  simp (maxDischargeDepth := 60) [State.store_mk, State.store_fold, *]
@[simp] theorem State.tuneFail_store {s k} : State.store (State.tuneFail s k) = State.store s := by
  unfold State.tuneFail; simp (maxDischargeDepth := 60) [State.store_mk, State.store_fold, *]
@[simp] theorem State.tuneResume_store {s k} : State.store (State.tuneResume s k) = State.store s := by
  unfold State.tuneResume; simp (maxDischargeDepth := 60) [State.store_mk, State.store_fold, *]
@[simp] theorem State.alFail_store {s k} : State.store (State.alFail s k) = State.store s := by
  unfold State.alFail
  extract_lets v0
  have h_v0 : State.store v0 = State.store s := by subst v0; simp (maxDischargeDepth := 60) [State.store_mk, State.store_fold, *]
  clear_value v0
  simp (maxDischargeDepth := 60) [State.store_mk, State.store_fold, *]
@[simp] theorem State.tuneDone_store {s k p1 p2 a1 a2} : State.store (State.tuneDone s k p1 p2 a1 a2) = State.store s := by
  unfold State.tuneDone; simp (maxDischargeDepth := 60) [State.store_mk, State.store_fold, *]
@[simp] theorem State.alTune_store {s k pv t} : State.store (State.alTune s k pv t) = State.store s := by
  unfold State.alTune
  extract_lets v0 v1 v2 v3 v4 v5 v6 v7 v8 v9
  clear_value v0
  clear_value v1
  clear_value v2
  clear_value v3
  clear_value v4
  clear_value v5
  clear_value v6
  clear_value v7
  have h_v8 : State.store v8 = State.store s := by subst v8; simp (maxDischargeDepth := 60) [State.store_mk, State.store_fold, *]
  clear_value v8
  have h_v9 : State.store v9 = State.store s := by subst v9; simp (maxDischargeDepth := 60) [State.store_mk, State.store_fold, *]
  clear_value v9
  ((repeat' split) <;> simp (maxDischargeDepth := 60) [State.store_mk, State.store_fold, *])
@[simp] theorem State.alRun_store {s k pv} : State.store (State.alRun s k pv) = State.store s := by
  unfold State.alRun; (repeat' split) <;> simp (maxDischargeDepth := 60) [State.store_mk, State.store_fold, *]
@[simp] theorem State.alCount_store {s k c} : State.store (State.alCount s k c) = State.store s := by
  unfold State.alCount; simp (maxDischargeDepth := 60) [State.store_mk, State.store_fold, *]
@[simp] theorem State.alIdle_store {s k} : State.store (State.alIdle s k) = State.store s := by
  unfold State.alIdle
  extract_lets v0
  have h_v0 : State.store v0 = State.store s := by subst v0; simp (maxDischargeDepth := 60) [State.store_mk, State.store_fold, *]
  clear_value v0
  simp (maxDischargeDepth := 60) [State.store_mk, State.store_fold, *]
@[simp] theorem State.tuneStart_store {s k} : State.store (State.tuneStart s k) = State.store s := by
  unfold State.tuneStart; simp (maxDischargeDepth := 60) [State.store_mk, State.store_fold, *]
@[simp] theorem State.tuneAbort_store {s k} : State.store (State.tuneAbort s k) = State.store s := by
  unfold State.tuneAbort; simp (maxDischargeDepth := 60) [State.store_mk, State.store_fold, *]

/-! Machine/Clocks.lean -/

@[simp] theorem State.setJudge_store {s c j} : State.store (State.setJudge s c j) = State.store s := by
  unfold State.setJudge; simp (maxDischargeDepth := 60) [State.store_mk, State.store_fold, *]
@[simp] theorem State.startJudge_store {s c} : State.store (State.startJudge s c) = State.store s := by
  unfold State.startJudge; simp (maxDischargeDepth := 60) [State.store_mk, State.store_fold, *]
@[simp] theorem State.relock_store {s p} : State.store (State.relock s p) = State.store s := by
  unfold State.relock; simp (maxDischargeDepth := 60) [State.store_mk, State.store_fold, *]
@[simp] theorem State.clockStable_store {s c} : State.store (State.clockStable s c) = State.store s := by
  unfold State.clockStable
  extract_lets v0
  have h_v0 : State.store v0 = State.store s := by subst v0; simp (maxDischargeDepth := 60) [State.store_mk, State.store_fold, *]
  clear_value v0
  ((repeat' split) <;> (try extract_lets) <;> simp (maxDischargeDepth := 60) +zetaDelta [State.store_mk, State.store_fold, *])
@[simp] theorem State.judgeFailed_store {s c} : State.store (State.judgeFailed s c) = State.store s := by
  unfold State.judgeFailed; (repeat' split) <;> simp (maxDischargeDepth := 60) [State.store_mk, State.store_fold, *]
@[simp] theorem State.slewEnd_store {s} : State.store (State.slewEnd s) = State.store s := by
  unfold State.slewEnd
  extract_lets v0
  have h_v0 : State.store v0 = State.store s := by subst v0; simp (maxDischargeDepth := 60) [State.store_mk, State.store_fold, *]
  clear_value v0
  simp (maxDischargeDepth := 60) [State.store_mk, State.store_fold, *]
@[simp] theorem State.slewStart_store {s e stamp} : State.store (State.slewStart s e stamp) = State.store s := by
  unfold State.slewStart
  extract_lets v0 v1 v2 v3
  clear_value v0
  clear_value v1
  clear_value v2
  have h_v3 : State.store v3 = State.store s := by subst v3; simp (maxDischargeDepth := 60) [State.store_mk, State.store_fold, *]
  clear_value v3
  simp (maxDischargeDepth := 60) [State.store_mk, State.store_fold, *]
@[simp] theorem State.toHoldover_store {s} : State.store (State.toHoldover s) = State.store s := by
  unfold State.toHoldover; simp (maxDischargeDepth := 60) [State.store_mk, State.store_fold, *]
@[simp] theorem State.coast_store {s p sev} : State.store (State.coast s p sev) = State.store s := by
  unfold State.coast
  extract_lets v0
  have h_v0 : State.store v0 = State.store s := by subst v0; simp (maxDischargeDepth := 60) [State.store_mk, State.store_fold, *]
  clear_value v0
  simp (maxDischargeDepth := 60) [State.store_mk, State.store_fold, *]
@[simp] theorem State.parkCoast_store {s} : State.store (State.parkCoast s) = State.store s := by
  unfold State.parkCoast; simp (maxDischargeDepth := 60) [State.store_mk, State.store_fold, *]
@[simp] theorem State.linkTo_store {s p up} : State.store (State.linkTo s p up) = State.store s := by
  unfold State.linkTo; simp (maxDischargeDepth := 60) [State.store_mk, State.store_fold, *]
@[simp] theorem State.trimTake_store {s count} : State.store (State.trimTake s count) = State.store s := by
  unfold State.trimTake; simp (maxDischargeDepth := 60) [State.store_mk, State.store_fold, *]
@[simp] theorem State.counterRun_store {s dt} : State.store (State.counterRun s dt) = State.store s := by
  unfold State.counterRun; simp (maxDischargeDepth := 60) [State.store_mk, State.store_fold, *]
@[simp] theorem State.levelTo_store {s level} : State.store (State.levelTo s level) = State.store s := by
  unfold State.levelTo; (repeat' split) <;> simp (maxDischargeDepth := 60) [State.store_mk, State.store_fold, *]
@[simp] theorem State.askRaise_store {s} : State.store (State.askRaise s) = State.store s := by
  unfold State.askRaise; simp (maxDischargeDepth := 60) [State.store_mk, State.store_fold, *]
@[simp] theorem State.compatFail_store {s k} : State.store (State.compatFail s k) = State.store s := by
  unfold State.compatFail
  extract_lets v0
  have h_v0 : State.store v0 = State.store s := by subst v0; simp (maxDischargeDepth := 60) [State.store_mk, State.store_fold, *]
  clear_value v0
  ((repeat' split) <;> (try extract_lets) <;> simp (maxDischargeDepth := 60) +zetaDelta [State.store_mk, State.store_fold, *])
@[simp] theorem State.compatDone_store {s level} : State.store (State.compatDone s level) = State.store s := by
  unfold State.compatDone; simp (maxDischargeDepth := 60) [State.store_mk, State.store_fold, *]
@[simp] theorem State.compatBoundary_store {s} : State.store (State.compatBoundary s) = State.store s := by
  unfold State.compatBoundary; (repeat' split) <;> simp (maxDischargeDepth := 60) [State.store_mk, State.store_fold, *]
@[simp] theorem State.timeSet_store {s val} : State.store (State.timeSet s val) = State.store s := by
  unfold State.timeSet; simp (maxDischargeDepth := 60) [State.store_mk, State.store_fold, *]
@[simp] theorem State.ppsCorrect_store {s} : State.store (State.ppsCorrect s) = State.store s := by
  unfold State.ppsCorrect; simp (maxDischargeDepth := 60) [State.store_mk, State.store_fold, *]
@[simp] theorem State.ppsTrack_store {s e} : State.store (State.ppsTrack s e) = State.store s := by
  unfold State.ppsTrack; simp (maxDischargeDepth := 60) [State.store_mk, State.store_fold, *]
@[simp] theorem State.ppsAcquire_store {s e stamp} : State.store (State.ppsAcquire s e stamp) = State.store s := by
  unfold State.ppsAcquire; simp (maxDischargeDepth := 60) [State.store_mk, State.store_fold, *]
@[simp] theorem State.ppsQualified_store {s e stamp} : State.store (State.ppsQualified s e stamp) = State.store s := by
  unfold State.ppsQualified; (repeat' split) <;> simp (maxDischargeDepth := 60) [State.store_mk, State.store_fold, *]
@[simp] theorem State.ppsOutside_store {s e} : State.store (State.ppsOutside s e) = State.store s := by
  unfold State.ppsOutside; simp (maxDischargeDepth := 60) [State.store_mk, State.store_fold, *]
@[simp] theorem State.ppsFree_store {s} : State.store (State.ppsFree s) = State.store s := by
  unfold State.ppsFree; simp (maxDischargeDepth := 60) [State.store_mk, State.store_fold, *]
@[simp] theorem State.stepCounter_store {s d} : State.store (State.stepCounter s d) = State.store s := by
  unfold State.stepCounter; simp (maxDischargeDepth := 60) [State.store_mk, State.store_fold, *]
@[simp] theorem State.servoStep_store {s} : State.store (State.servoStep s) = State.store s := by
  unfold State.servoStep; (repeat' split) <;> simp (maxDischargeDepth := 60) [State.store_mk, State.store_fold, *]
@[simp] theorem State.tsetStep_store {s} : State.store (State.tsetStep s) = State.store s := by
  unfold State.tsetStep; dsimp only; (repeat' split) <;> simp +contextual (maxDischargeDepth := 60) [State.store_mk, State.store_fold, *]
@[simp] theorem State.clockBoundary_store {s} : State.store (State.clockBoundary s) = State.store s := by
  unfold State.clockBoundary
  extract_lets v0
  have h_v0 : State.store v0 = State.store s := by subst v0; simp (maxDischargeDepth := 60) [State.store_mk, State.store_fold, *]
  clear_value v0
  ((repeat' split) <;> (try extract_lets) <;> simp (maxDischargeDepth := 60) +zetaDelta [State.store_mk, State.store_fold, *])

/-! Machine/Vault.lean -/

@[simp] theorem State.vaultScan_store {s} : State.store (State.vaultScan s) = State.store s := by
  unfold State.vaultScan
  extract_lets v0 v1 v2 v3
  clear_value v0
  clear_value v1
  clear_value v2
  have h_v3 : State.store v3 = State.store s := by subst v3; simp (maxDischargeDepth := 60) [State.store_mk, State.store_fold, *]
  clear_value v3
  simp (maxDischargeDepth := 60) [State.store_mk, State.store_fold, *]
@[simp] theorem State.vaultClear_store {s} : State.store (State.vaultClear s) = State.store s := by
  unfold State.vaultClear; simp (maxDischargeDepth := 60) [State.store_mk, State.store_fold, *]
@[simp] theorem State.atticDrain_store {s} : State.store (State.atticDrain s) = State.store s := by
  unfold State.atticDrain; simp (maxDischargeDepth := 60) [State.store_mk, State.store_fold, *]
@[simp] theorem State.snapAtT_store {s} : State.store (State.snapAtT s) = State.store s := by
  unfold State.snapAtT; (repeat' split) <;> simp (maxDischargeDepth := 60) [State.store_mk, State.store_fold, *]
@[simp] theorem State.slotRelease_store {s k} : State.store (State.slotRelease s k) = State.store s := by
  unfold State.slotRelease; simp (maxDischargeDepth := 60) [State.store_mk, State.store_fold, *]

/-! Machine/Operands.lean -/

@[simp] theorem State.setPc_store {s c v} : State.store (State.setPc s c v) = State.store s := by
  unfold State.setPc; (repeat' split) <;> simp (maxDischargeDepth := 60) [State.store_mk, State.store_fold, *]
@[simp] theorem State.advance_store {s c} : State.store (State.advance s c) = State.store s := by
  unfold State.advance; simp (maxDischargeDepth := 60) [State.store_mk, State.store_fold, *]
@[simp] theorem State.setFlags_store {s c v} : State.store (State.setFlags s c v) = State.store s := by
  unfold State.setFlags; (repeat' split) <;> simp (maxDischargeDepth := 60) [State.store_mk, State.store_fold, *]
@[simp] theorem State.setAlu_store {s c o} : State.store (State.setAlu s c o) = State.store s := by
  unfold State.setAlu; simp (maxDischargeDepth := 60) [State.store_mk, State.store_fold, *]
@[simp] theorem State.setG_store {s c i v} : State.store (State.setG s c i v) = State.store s := by
  unfold State.setG; (repeat' split) <;> simp (maxDischargeDepth := 60) [State.store_mk, State.store_fold, *]
@[simp] theorem State.setStack_store {s c l} : State.store (State.setStack s c l) = State.store s := by
  unfold State.setStack; (repeat' split) <;> simp (maxDischargeDepth := 60) [State.store_mk, State.store_fold, *]
@[simp] theorem State.suspend_store {s c y} : State.store (State.suspend s c y) = State.store s := by
  unfold State.suspend; (repeat' split) <;> simp (maxDischargeDepth := 60) [State.store_mk, State.store_fold, *]
@[simp] theorem State.setLdi_store {s c o} : State.store (State.setLdi s c o) = State.store s := by
  unfold State.setLdi; (repeat' split) <;> simp (maxDischargeDepth := 60) [State.store_mk, State.store_fold, *]
theorem State.putPort_store {s c p v t} (ht : State.putPort s c p v = some t) :
    State.store t = State.store s := by
  unfold State.putPort at ht
  (repeat' split at ht) <;> simp only [Option.some.injEq, reduceCtorEq] at ht <;> subst ht <;> simp +contextual (maxDischargeDepth := 60) [State.store_mk, State.store_fold, *]

/-! Machine/Gulgaub.lean -/

@[simp] theorem State.bareRecord_store {s n term src} : State.store (State.bareRecord s n term src) = State.store s := by
  unfold State.bareRecord
  extract_lets v0 v1
  clear_value v0
  have h_v1 : State.store v1 = State.store s := by subst v1; simp (maxDischargeDepth := 60) [State.store_mk, State.store_fold, *]
  clear_value v1
  simp (maxDischargeDepth := 60) [State.store_mk, State.store_fold, *]
@[simp] theorem State.dropCaps_store {s n} : State.store (State.dropCaps s n) = State.store s := by
  unfold State.dropCaps; simp (maxDischargeDepth := 60) [State.store_mk, State.store_fold, *]
@[simp] theorem State.progFault_store {s c code} : State.store (State.progFault s c code) = State.store s := by
  unfold State.progFault; (repeat' split) <;> simp (maxDischargeDepth := 60) [State.store_mk, State.store_fold, *]
@[simp] theorem State.instr_store {s c shelfOk fields f} (hf : ∀ t, State.store (f t) = State.store t) : State.store (State.instr s c shelfOk fields f) = State.store s := by
  unfold State.instr; simp (maxDischargeDepth := 60) [State.store_mk, State.store_fold, *]
@[simp] theorem State.freezeFor_store {s n peak} : State.store (State.freezeFor s n peak) = State.store s := by
  unfold State.freezeFor; simp (maxDischargeDepth := 60) [State.store_mk, State.store_fold, *]
@[simp] theorem State.measTake_store {s n} : State.store (State.measTake s n) = State.store s := by
  unfold State.measTake; simp (maxDischargeDepth := 60) [State.store_mk, State.store_fold, *]
@[simp] theorem State.openStep_store {s n st peak} : State.store (State.openStep s n st peak) = State.store s := by
  unfold State.openStep
  extract_lets v0 v1 v2 v3 v4 v5 v6 v7 v8 v9 v10 v11 v12 v13 v14 v15 v16 v17
  clear_value v0
  have h_v1 : State.store v1 = State.store s := by subst v1; simp (maxDischargeDepth := 60) [State.store_mk, State.store_fold, *]
  clear_value v1
  clear_value v2
  clear_value v3
  clear_value v4
  clear_value v5
  clear_value v6
  clear_value v7
  have h_v8 : State.store v8 = State.store s := by subst v8; simp (maxDischargeDepth := 60) [State.store_mk, State.store_fold, *]
  clear_value v8
  have h_v9 : State.store v9 = State.store s := by subst v9; simp (maxDischargeDepth := 60) [State.store_mk, State.store_fold, *]
  clear_value v9
  have h_v10 : State.store v10 = State.store s := by subst v10; ((repeat' split) <;> simp (maxDischargeDepth := 60) [State.store_mk, State.store_fold, *])
  clear_value v10
  clear_value v11
  have h_v12 : State.store v12 = State.store s := by subst v12; simp (maxDischargeDepth := 60) [State.store_mk, State.store_fold, *]
  clear_value v12
  have h_v13 : State.store v13 = State.store s := by subst v13; simp (maxDischargeDepth := 60) [State.store_mk, State.store_fold, *]
  clear_value v13
  have h_v14 : State.store v14 = State.store s := by subst v14; simp (maxDischargeDepth := 60) [State.store_mk, State.store_fold, *]
  clear_value v14
  have h_v15 : State.store v15 = State.store s := by subst v15; simp (maxDischargeDepth := 60) [State.store_mk, State.store_fold, *]
  clear_value v15
  have h_v16 : State.store v16 = State.store s := by subst v16; simp (maxDischargeDepth := 60) [State.store_mk, State.store_fold, *]
  clear_value v16
  have h_v17 : State.store v17 = State.store s := by subst v17; simp (maxDischargeDepth := 60) [State.store_mk, State.store_fold, *]
  clear_value v17
  ((repeat' split) <;> (try extract_lets) <;> simp (maxDischargeDepth := 60) +zetaDelta [State.store_mk, State.store_fold, *])
@[simp] theorem State.modeGate_store {s n op f} (hf : ∀ t, State.store (f t) = State.store t) : State.store (State.modeGate s n op f) = State.store s := by
  unfold State.modeGate; simp (maxDischargeDepth := 60) [State.store_mk, State.store_fold, *]
@[simp] theorem State.modeInstr_store {s c op fields f} (hf : ∀ x0 t, State.store (f x0 t) = State.store t) : State.store (State.modeInstr s c op fields f) = State.store s := by
  unfold State.modeInstr; (repeat' split) <;> simp (maxDischargeDepth := 60) [State.store_mk, State.store_fold, *]
@[simp] theorem State.clampOperand_store {s n w} : State.store (State.clampOperand s n w) = State.store s := by
  unfold State.clampOperand; simp (maxDischargeDepth := 60) [State.store_mk, State.store_fold, *]
@[simp] theorem State.opCurrent_store {s c op w} : State.store (State.opCurrent s c op w) = State.store s := by
  unfold State.opCurrent; simp (maxDischargeDepth := 60) [State.store_mk, State.store_fold, *]
@[simp] theorem State.opCv_store {s c w} : State.store (State.opCv s c w) = State.store s := by
  unfold State.opCv; simp (maxDischargeDepth := 60) [State.store_mk, State.store_fold, *]
@[simp] theorem State.opCcv_store {s c w} : State.store (State.opCcv s c w) = State.store s := by
  unfold State.opCcv; simp (maxDischargeDepth := 60) [State.store_mk, State.store_fold, *]
@[simp] theorem State.opPulse_store {s c w} : State.store (State.opPulse s c w) = State.store s := by
  unfold State.opPulse; simp (maxDischargeDepth := 60) [State.store_mk, State.store_fold, *]
@[simp] theorem State.opEis_store {s c w} : State.store (State.opEis s c w) = State.store s := by
  unfold State.opEis; simp (maxDischargeDepth := 60) [State.store_mk, State.store_fold, *]
@[simp] theorem State.opStill_store {s c op w} : State.store (State.opStill s c op w) = State.store s := by
  unfold State.opStill; simp (maxDischargeDepth := 60) [State.store_mk, State.store_fold, *]
@[simp] theorem State.chanInstr_store {s c fields f} (hf : ∀ x0 t, State.store (f x0 t) = State.store t) : State.store (State.chanInstr s c fields f) = State.store s := by
  unfold State.chanInstr; (repeat' split) <;> simp (maxDischargeDepth := 60) [State.store_mk, State.store_fold, *]
@[simp] theorem State.opLimv_store {s c w} : State.store (State.opLimv s c w) = State.store s := by
  unfold State.opLimv; simp (maxDischargeDepth := 60) [State.store_mk, State.store_fold, *]
@[simp] theorem State.opLimi_store {s c w} : State.store (State.opLimi s c w) = State.store s := by
  unfold State.opLimi; simp (maxDischargeDepth := 60) [State.store_mk, State.store_fold, *]
@[simp] theorem State.opLimt_store {s c w} : State.store (State.opLimt s c w) = State.store s := by
  unfold State.opLimt; simp (maxDischargeDepth := 60) [State.store_mk, State.store_fold, *]
@[simp] theorem State.armInstr_store {s c fields f a} : State.store (State.armInstr s c fields f a) = State.store s := by
  unfold State.armInstr; simp (maxDischargeDepth := 60) [State.store_mk, State.store_fold, *]
@[simp] theorem State.opDisarm_store {s c w} : State.store (State.opDisarm s c w) = State.store s := by
  unfold State.opDisarm; simp (maxDischargeDepth := 60) [State.store_mk, State.store_fold, *]
@[simp] theorem State.opArmt_store {s c w} : State.store (State.opArmt s c w) = State.store s := by
  unfold State.opArmt; simp (maxDischargeDepth := 60) [State.store_mk, State.store_fold, *]
@[simp] theorem State.opArmv_store {s c w} : State.store (State.opArmv s c w) = State.store s := by
  unfold State.opArmv; simp (maxDischargeDepth := 60) [State.store_mk, State.store_fold, *]
@[simp] theorem State.opArmi_store {s c w} : State.store (State.opArmi s c w) = State.store s := by
  unfold State.opArmi; simp (maxDischargeDepth := 60) [State.store_mk, State.store_fold, *]
@[simp] theorem State.opArmtap_store {s c w} : State.store (State.opArmtap s c w) = State.store s := by
  unfold State.opArmtap; simp (maxDischargeDepth := 60) [State.store_mk, State.store_fold, *]
@[simp] theorem State.opArmq_store {s c w} : State.store (State.opArmq s c w) = State.store s := by
  unfold State.opArmq; simp (maxDischargeDepth := 60) [State.store_mk, State.store_fold, *]
@[simp] theorem State.opArme_store {s c w} : State.store (State.opArme s c w) = State.store s := by
  unfold State.opArme; simp (maxDischargeDepth := 60) [State.store_mk, State.store_fold, *]
@[simp] theorem State.opArmdv_store {s c w} : State.store (State.opArmdv s c w) = State.store s := by
  unfold State.opArmdv; simp (maxDischargeDepth := 60) [State.store_mk, State.store_fold, *]
@[simp] theorem State.opArmtc_store {s c w} : State.store (State.opArmtc s c w) = State.store s := by
  unfold State.opArmtc; simp (maxDischargeDepth := 60) [State.store_mk, State.store_fold, *]
@[simp] theorem State.opWait_store {s c w} : State.store (State.opWait s c w) = State.store s := by
  unfold State.opWait; (repeat' split) <;> simp (maxDischargeDepth := 60) [State.store_mk, State.store_fold, *]
@[simp] theorem State.opLdi_store {s c w} : State.store (State.opLdi s c w) = State.store s := by
  unfold State.opLdi; simp (maxDischargeDepth := 60) [State.store_mk, State.store_fold, *]
@[simp] theorem State.literal_store {s c v} : State.store (State.literal s c v) = State.store s := by
  unfold State.literal; (repeat' split) <;> simp (maxDischargeDepth := 60) [State.store_mk, State.store_fold, *]
@[simp] theorem State.opLdiLit_store {s c w v} : State.store (State.opLdiLit s c w v) = State.store s := by
  unfold State.opLdiLit; simp (maxDischargeDepth := 60) [State.store_mk, State.store_fold, *]
@[simp] theorem State.opMov_store {s c w} : State.store (State.opMov s c w) = State.store s := by
  unfold State.opMov; simp (maxDischargeDepth := 60) [State.store_mk, State.store_fold, *]
@[simp] theorem State.opGetm_store {s c w} : State.store (State.opGetm s c w) = State.store s := by
  unfold State.opGetm
  refine State.instr_store fun t => ?_
  split <;> simp +contextual (maxDischargeDepth := 60) [State.store_mk, State.store_fold, *]
@[simp] theorem State.opPutp_store {s c w} : State.store (State.opPutp s c w) = State.store s := by
  unfold State.opPutp
  refine State.instr_store fun t => ?_
  split
  · next u hu => rw [State.advance_store, State.putPort_store hu]
  · exact State.progFault_store
@[simp] theorem State.opAlu_store {s c fields wr f w y} : State.store (State.opAlu s c fields wr f w y) = State.store s := by
  unfold State.opAlu; simp (maxDischargeDepth := 60) [State.store_mk, State.store_fold, *]
@[simp] theorem State.opAdd_store {s c w} : State.store (State.opAdd s c w) = State.store s := by
  unfold State.opAdd; simp (maxDischargeDepth := 60) [State.store_mk, State.store_fold, *]
@[simp] theorem State.opSub_store {s c w} : State.store (State.opSub s c w) = State.store s := by
  unfold State.opSub; simp (maxDischargeDepth := 60) [State.store_mk, State.store_fold, *]
@[simp] theorem State.opCmp_store {s c w} : State.store (State.opCmp s c w) = State.store s := by
  unfold State.opCmp; simp (maxDischargeDepth := 60) [State.store_mk, State.store_fold, *]
@[simp] theorem State.opMulsh_store {s c w} : State.store (State.opMulsh s c w) = State.store s := by
  unfold State.opMulsh; simp (maxDischargeDepth := 60) [State.store_mk, State.store_fold, *]
@[simp] theorem State.flow_store {s c w fields f} (hf : ∀ t, State.store (f t) = State.store t) : State.store (State.flow s c w fields f) = State.store s := by
  unfold State.flow; simp (maxDischargeDepth := 60) [State.store_mk, State.store_fold, *]
@[simp] theorem State.opBr_store {s c w} : State.store (State.opBr s c w) = State.store s := by
  unfold State.opBr; simp (maxDischargeDepth := 60) [State.store_mk, State.store_fold, *]
@[simp] theorem State.opLoop_store {s c w} : State.store (State.opLoop s c w) = State.store s := by
  unfold State.opLoop; simp (maxDischargeDepth := 60) [State.store_mk, State.store_fold, *]
@[simp] theorem State.opCall_store {s c w} : State.store (State.opCall s c w) = State.store s := by
  unfold State.opCall; simp (maxDischargeDepth := 60) [State.store_mk, State.store_fold, *]
@[simp] theorem State.opRet_store {s c w} : State.store (State.opRet s c w) = State.store s := by
  unfold State.opRet
  refine State.instr_store fun t => ?_
  split <;> simp +contextual (maxDischargeDepth := 60) [State.store_mk, State.store_fold, *]
@[simp] theorem State.opNop_store {s c w} : State.store (State.opNop s c w) = State.store s := by
  unfold State.opNop; simp (maxDischargeDepth := 60) [State.store_mk, State.store_fold, *]
@[simp] theorem State.opStop_store {s c w} : State.store (State.opStop s c w) = State.store s := by
  unfold State.opStop; (repeat' split) <;> simp (maxDischargeDepth := 60) [State.store_mk, State.store_fold, *]
@[simp] theorem State.opCapdc_store {s c w} : State.store (State.opCapdc s c w) = State.store s := by
  unfold State.opCapdc; simp (maxDischargeDepth := 60) [State.store_mk, State.store_fold, *]
@[simp] theorem State.opEisrun_store {s c w} : State.store (State.opEisrun s c w) = State.store s := by
  unfold State.opEisrun
  refine State.chanInstr_store fun n t => ?_
  split <;> simp +contextual (maxDischargeDepth := 60) [State.store_mk, State.store_fold, *]
@[simp] theorem State.setVEmit_store {s c} : State.store (State.setVEmit s c) = State.store s := by
  unfold State.setVEmit; (repeat' split) <;> simp (maxDischargeDepth := 60) [State.store_mk, State.store_fold, *]
@[simp] theorem State.emitStream_store {s c bs} : State.store (State.emitStream s c bs) = State.store s := by
  unfold State.emitStream; (repeat' split) <;> simp (maxDischargeDepth := 60) [State.store_mk, State.store_fold, *]
@[simp] theorem State.opEmit_store {s c w} : State.store (State.opEmit s c w) = State.store s := by
  unfold State.opEmit; simp (maxDischargeDepth := 60) [State.store_mk, State.store_fold, *]
@[simp] theorem State.opBar_store {s c w} : State.store (State.opBar s c w) = State.store s := by
  unfold State.opBar
  refine State.instr_store fun t => ?_
  cases c <;> dsimp only <;> (repeat' split) <;> simp (maxDischargeDepth := 60) [State.store_mk, State.store_fold, *]
@[simp] theorem State.classNext_store {s n k shelf} : State.store (State.classNext s n k shelf) = State.store s := by
  unfold State.classNext; simp (maxDischargeDepth := 60) [State.store_mk, State.store_fold, *]
@[simp] theorem State.opPrio_store {s c w} : State.store (State.opPrio s c w) = State.store s := by
  unfold State.opPrio; (repeat' split) <;> simp (maxDischargeDepth := 60) [State.store_mk, State.store_fold, *]
@[simp] theorem State.opSig_store {s c w} : State.store (State.opSig s c w) = State.store s := by
  unfold State.opSig; simp (maxDischargeDepth := 60) [State.store_mk, State.store_fold, *]
@[simp] theorem State.opSwappt_store {s c w} : State.store (State.opSwappt s c w) = State.store s := by
  unfold State.opSwappt; (repeat' split) <;> simp (maxDischargeDepth := 60) [State.store_mk, State.store_fold, *]
@[simp] theorem State.barRelease_store {s b timeout} : State.store (State.barRelease s b timeout) = State.store s := by
  unfold State.barRelease; simp (maxDischargeDepth := 60) [State.store_mk, State.store_fold, *]
@[simp] theorem State.barEnd_store {s b timeout} : State.store (State.barEnd s b timeout) = State.store s := by
  unfold State.barEnd; simp (maxDischargeDepth := 60) [State.store_mk, State.store_fold, *]
@[simp] theorem State.execWord_store {s c op w} : State.store (State.execWord s c op w) = State.store s := by
  unfold State.execWord; (repeat' split) <;> simp (maxDischargeDepth := 60) [State.store_mk, State.store_fold, *]
@[simp] theorem State.stepWord_store {s c} : State.store (State.stepWord s c) = State.store s := by
  unfold State.stepWord; (repeat' split) <;> simp (maxDischargeDepth := 60) [State.store_mk, State.store_fold, *]
@[simp] theorem State.runWords_store {k s c} : State.store (State.runWords k s c) = State.store s := by
  induction k generalizing s with
  | zero => rfl
  | succ k ih =>
    unfold State.runWords
    split
    · rw [ih, State.stepWord_store]
    · rfl

/-! Machine/Lantern.lean -/

@[simp] theorem State.xsettle_store {s n} : State.store (State.xsettle s n) = State.store s := by
  unfold State.xsettle; simp (maxDischargeDepth := 60) [State.store_mk, State.store_fold, *]
@[simp] theorem State.crossbar_store {s o} : State.store (State.crossbar s o) = State.store s := by
  unfold State.crossbar
  extract_lets v0 v1
  have h_v0 : State.store v0 = State.store s := by subst v0; ((repeat' split) <;> simp (maxDischargeDepth := 60) [State.store_mk, State.store_fold, *])
  clear_value v0
  have h_v1 : State.store v1 = State.store s := by subst v1; ((repeat' split) <;> simp (maxDischargeDepth := 60) [State.store_mk, State.store_fold, *])
  clear_value v1
  simp (maxDischargeDepth := 60) [State.store_mk, State.store_fold, *]
@[simp] theorem State.laneRefs_store {s r} : State.store (State.laneRefs s r) = State.store s := by
  unfold State.laneRefs; simp (maxDischargeDepth := 60) [State.store_mk, State.store_fold, *]
@[simp] theorem State.laneSelf_store {s r} : State.store (State.laneSelf s r) = State.store s := by
  unfold State.laneSelf; (repeat' split) <;> simp (maxDischargeDepth := 60) [State.store_mk, State.store_fold, *]
@[simp] theorem State.beginSlot_store {s v} : State.store (State.beginSlot s v) = State.store s := by
  unfold State.beginSlot; simp (maxDischargeDepth := 60) [State.store_mk, State.store_fold, *]
@[simp] theorem State.visitOver_store {s} : State.store (State.visitOver s) = State.store s := by
  unfold State.visitOver; (repeat' split) <;> simp (maxDischargeDepth := 60) [State.store_mk, State.store_fold, *]
@[simp] theorem State.endSlot_store {s} : State.store (State.endSlot s) = State.store s := by
  unfold State.endSlot; simp (maxDischargeDepth := 60) [State.store_mk, State.store_fold, *]
@[simp] theorem State.laneTake_store {s} : State.store (State.laneTake s) = State.store s := by
  unfold State.laneTake; simp (maxDischargeDepth := 60) [State.store_mk, State.store_fold, *]
@[simp] theorem State.refStart_store {s r} : State.store (State.refStart s r) = State.store s := by
  unfold State.refStart; simp (maxDischargeDepth := 60) [State.store_mk, State.store_fold, *]
@[simp] theorem State.laneRest_store {s} : State.store (State.laneRest s) = State.store s := by
  unfold State.laneRest; simp (maxDischargeDepth := 60) [State.store_mk, State.store_fold, *]
@[simp] theorem State.laneOff_store {s} : State.store (State.laneOff s) = State.store s := by
  unfold State.laneOff
  extract_lets v0
  have h_v0 : State.store v0 = State.store s := by subst v0; simp (maxDischargeDepth := 60) [State.store_mk, State.store_fold, *]
  clear_value v0
  simp (maxDischargeDepth := 60) [State.store_mk, State.store_fold, *]
@[simp] theorem State.tourEnds_store {s} : State.store (State.tourEnds s) = State.store s := by
  unfold State.tourEnds; (repeat' split) <;> simp (maxDischargeDepth := 60) [State.store_mk, State.store_fold, *]
@[simp] theorem State.laneAgain_store {s n reps confirm} : State.store (State.laneAgain s n reps confirm) = State.store s := by
  unfold State.laneAgain; (repeat' split) <;> simp (maxDischargeDepth := 60) [State.store_mk, State.store_fold, *]
@[simp] theorem State.laneSuspect_store {s v ev ei} : State.store (State.laneSuspect s v ev ei) = State.store s := by
  unfold State.laneSuspect
  extract_lets v0 v1 v2 v3 v4 v5
  clear_value v0
  clear_value v1
  have h_v2 : State.store v2 = State.store s := by subst v2; simp (maxDischargeDepth := 60) [State.store_mk, State.store_fold, *]
  clear_value v2
  clear_value v3
  have h_v4 : State.store v4 = State.store s := by subst v4; simp (maxDischargeDepth := 60) [State.store_mk, State.store_fold, *]
  clear_value v4
  have h_v5 : State.store v5 = State.store s := by subst v5; simp (maxDischargeDepth := 60) [State.store_mk, State.store_fold, *]
  clear_value v5
  simp (maxDischargeDepth := 60) [State.store_mk, State.store_fold, *]
@[simp] theorem State.laneCount_store {s v} : State.store (State.laneCount s v) = State.store s := by
  unfold State.laneCount; simp (maxDischargeDepth := 60) [State.store_mk, State.store_fold, *]
@[simp] theorem State.laneReport_store {s v a b} : State.store (State.laneReport s v a b) = State.store s := by
  unfold State.laneReport
  extract_lets v0 v1 v2 v3 v4 v5 v6
  clear_value v0
  clear_value v1
  clear_value v2
  have h_v3 : State.store v3 = State.store s := by subst v3; simp (maxDischargeDepth := 60) [State.store_mk, State.store_fold, *]
  clear_value v3
  have h_v4 : State.store v4 = State.store s := by subst v4; simp (maxDischargeDepth := 60) [State.store_mk, State.store_fold, *]
  clear_value v4
  have h_v5 : State.store v5 = State.store s := by subst v5; simp (maxDischargeDepth := 60) [State.store_mk, State.store_fold, *]
  clear_value v5
  have h_v6 : State.store v6 = State.store s := by subst v6; simp (maxDischargeDepth := 60) [State.store_mk, State.store_fold, *]
  clear_value v6
  simp (maxDischargeDepth := 60) [State.store_mk, State.store_fold, *]
@[simp] theorem State.laneKeep_store {s v a b} : State.store (State.laneKeep s v a b) = State.store s := by
  unfold State.laneKeep; simp (maxDischargeDepth := 60) [State.store_mk, State.store_fold, *]
@[simp] theorem State.histFix_store {s f} : State.store (State.histFix s f) = State.store s := by
  unfold State.histFix; simp (maxDischargeDepth := 60) [State.store_mk, State.store_fold, *]
@[simp] theorem State.laneDropped_store {s} : State.store (State.laneDropped s) = State.store s := by
  unfold State.laneDropped; simp (maxDischargeDepth := 60) [State.store_mk, State.store_fold, *]
@[simp] theorem State.laneAbandon_store {s} : State.store (State.laneAbandon s) = State.store s := by
  unfold State.laneAbandon; (repeat' split) <;> simp (maxDischargeDepth := 60) [State.store_mk, State.store_fold, *]
@[simp] theorem State.dirtyRegion_store {s r} : State.store (State.dirtyRegion s r) = State.store s := by
  unfold State.dirtyRegion; simp (maxDischargeDepth := 60) [State.store_mk, State.store_fold, *]
@[simp] theorem State.adoptStart_store {s} : State.store (State.adoptStart s) = State.store s := by
  unfold State.adoptStart; simp (maxDischargeDepth := 60) [State.store_mk, State.store_fold, *]
@[simp] theorem State.adoptEnable_store {s n} : State.store (State.adoptEnable s n) = State.store s := by
  unfold State.adoptEnable; simp (maxDischargeDepth := 60) [State.store_mk, State.store_fold, *]
@[simp] theorem State.adoptRelease_store {s} : State.store (State.adoptRelease s) = State.store s := by
  unfold State.adoptRelease; simp (maxDischargeDepth := 60) [State.store_mk, State.store_fold, *]
@[simp] theorem State.refBoundary_store {s} : State.store (State.refBoundary s) = State.store s := by
  unfold State.refBoundary; (repeat' split) <;> simp (maxDischargeDepth := 60) [State.store_mk, State.store_fold, *]
@[simp] theorem State.laneBoundary_store {s} : State.store (State.laneBoundary s) = State.store s := by
  unfold State.laneBoundary; dsimp only; (repeat' split) <;> simp +contextual (maxDischargeDepth := 60) [State.store_mk, State.store_fold, *]
@[simp] theorem State.laneWake_store {s} : State.store (State.laneWake s) = State.store s := by
  unfold State.laneWake; simp (maxDischargeDepth := 60) [State.store_mk, State.store_fold, *]

/-! Machine/Spare.lean -/

@[simp] theorem State.noteTest_store {s c pass cover} : State.store (State.noteTest s c pass cover) = State.store s := by
  unfold State.noteTest; simp (maxDischargeDepth := 60) [State.store_mk, State.store_fold, *]
@[simp] theorem State.startLbist_store {s c} : State.store (State.startLbist s c) = State.store s := by
  unfold State.startLbist; simp (maxDischargeDepth := 60) [State.store_mk, State.store_fold, *]
@[simp] theorem State.retire_store {s c} : State.store (State.retire s c) = State.store s := by
  unfold State.retire
  extract_lets v0 v1
  have h_v0 : State.store v0 = State.store s := by subst v0; simp (maxDischargeDepth := 60) [State.store_mk, State.store_fold, *]
  clear_value v0
  have h_v1 : State.store v1 = State.store s := by subst v1; simp (maxDischargeDepth := 60) [State.store_mk, State.store_fold, *]
  clear_value v1
  simp (maxDischargeDepth := 60) [State.store_mk, State.store_fold, *]
@[simp] theorem State.handOver_store {s k c} : State.store (State.handOver s k c) = State.store s := by
  unfold State.handOver; simp (maxDischargeDepth := 60) [State.store_mk, State.store_fold, *]
@[simp] theorem State.rotNow_store {s} : State.store (State.rotNow s) = State.store s := by
  unfold State.rotNow; simp (maxDischargeDepth := 60) [State.store_mk, State.store_fold, *]
@[simp] theorem State.retGo_store {s k} : State.store (State.retGo s k) = State.store s := by
  unfold State.retGo; (repeat' split) <;> simp (maxDischargeDepth := 60) [State.store_mk, State.store_fold, *]
@[simp] theorem State.mismBoundary_store {s} : State.store (State.mismBoundary s) = State.store s := by
  unfold State.mismBoundary; (repeat' split) <;> simp (maxDischargeDepth := 60) [State.store_mk, State.store_fold, *]
@[simp] theorem State.spareBoundary_store {s} : State.store (State.spareBoundary s) = State.store s := by
  unfold State.spareBoundary; simp (maxDischargeDepth := 60) [State.store_mk, State.store_fold, *]

/-! Machine/Metric.lean -/

@[simp] theorem State.dcirDeliver_store {s n c} : State.store (State.dcirDeliver s n c) = State.store s := by
  unfold State.dcirDeliver; simp (maxDischargeDepth := 60) [State.store_mk, State.store_fold, *]
@[simp] theorem State.dcirReady_store {s n} : State.store (State.dcirReady s n) = State.store s := by
  unfold State.dcirReady
  extract_lets v0 v1 v2
  clear_value v0
  clear_value v1
  have h_v2 : State.store v2 = State.store s := by subst v2; simp (maxDischargeDepth := 60) [State.store_mk, State.store_fold, *]
  clear_value v2
  simp (maxDischargeDepth := 60) [State.store_mk, State.store_fold, *]
@[simp] theorem State.eisWrite_store {s n e re im ia q} : State.store (State.eisWrite s n e re im ia q) = State.store s := by
  unfold State.eisWrite; simp (maxDischargeDepth := 60) [State.store_mk, State.store_fold, *]
@[simp] theorem State.eisDeliver_store {s n e} : State.store (State.eisDeliver s n e) = State.store s := by
  unfold State.eisDeliver; simp (maxDischargeDepth := 60) [State.store_mk, State.store_fold, *]
@[simp] theorem State.eisReady_store {s n} : State.store (State.eisReady s n) = State.store s := by
  unfold State.eisReady; (repeat' split) <;> simp (maxDischargeDepth := 60) [State.store_mk, State.store_fold, *]
@[simp] theorem State.ocvShow_store {s n o} : State.store (State.ocvShow s n o) = State.store s := by
  unfold State.ocvShow; simp (maxDischargeDepth := 60) [State.store_mk, State.store_fold, *]
@[simp] theorem State.ocvSample_store {s n t v bad blend} : State.store (State.ocvSample s n t v bad blend) = State.store s := by
  unfold State.ocvSample; simp (maxDischargeDepth := 60) [State.store_mk, State.store_fold, *]
@[simp] theorem State.ocvTemp_store {s n} : State.store (State.ocvTemp s n) = State.store s := by
  unfold State.ocvTemp; simp (maxDischargeDepth := 60) [State.store_mk, State.store_fold, *]
@[simp] theorem State.countLife_store {s n v i dt} : State.store (State.countLife s n v i dt) = State.store s := by
  unfold State.countLife
  extract_lets v0 v1 v2 v3 v4 v5
  clear_value v0
  clear_value v1
  clear_value v2
  clear_value v3
  clear_value v4
  have h_v5 : State.store v5 = State.store s := by subst v5; simp (maxDischargeDepth := 60) [State.store_mk, State.store_fold, *]
  clear_value v5
  simp (maxDischargeDepth := 60) [State.store_mk, State.store_fold, *]
@[simp] theorem State.counterWrite_store {s n energy val} : State.store (State.counterWrite s n energy val) = State.store s := by
  unfold State.counterWrite
  extract_lets v0
  have h_v0 : State.store v0 = State.store s := by subst v0; simp (maxDischargeDepth := 60) [State.store_mk, State.store_fold, *]
  clear_value v0
  simp (maxDischargeDepth := 60) [State.store_mk, State.store_fold, *]

/-! Machine/Slot.lean -/

@[simp] theorem State.degExpire_store {s n sat time} : State.store (State.degExpire s n sat time) = State.store s := by
  unfold State.degExpire; (repeat' split) <;> simp (maxDischargeDepth := 60) [State.store_mk, State.store_fold, *]
@[simp] theorem State.resumed_store {s n was} : State.store (State.resumed s n was) = State.store s := by
  unfold State.resumed; simp (maxDischargeDepth := 60) [State.store_mk, State.store_fold, *]
@[simp] theorem State.armsClose_store {s n all} : State.store (State.armsClose s n all) = State.store s := by
  unfold State.armsClose
  extract_lets x
  clear_value x
  split
  · split <;> simp (maxDischargeDepth := 60) [State.store_mk, State.store_fold, *]
  · extract_lets start o deg s1
    have h1 : State.store s1 = State.store s := by subst s1; simp (maxDischargeDepth := 60) [State.store_mk, State.store_fold, *]
    clear_value s1 start o deg
    (repeat' split) <;> simp (maxDischargeDepth := 60) [State.store_mk, State.store_fold, *]
@[simp] theorem State.timedReady_store {s c} : State.store (State.timedReady s c) = State.store s := by
  unfold State.timedReady; (repeat' split) <;> simp (maxDischargeDepth := 60) [State.store_mk, State.store_fold, *]
@[simp] theorem State.gapHold_store {s n} : State.store (State.gapHold s n) = State.store s := by
  unfold State.gapHold; simp (maxDischargeDepth := 60) [State.store_mk, State.store_fold, *]
@[simp] theorem State.gapSlot_store {s n} : State.store (State.gapSlot s n) = State.store s := by
  unfold State.gapSlot; simp (maxDischargeDepth := 60) [State.store_mk, State.store_fold, *]
@[simp] theorem State.contribute_store {s n} : State.store (State.contribute s n) = State.store s := by
  unfold State.contribute; simp (maxDischargeDepth := 60) [State.store_mk, State.store_fold, *]
@[simp] theorem State.scaleSlot_store {s n} : State.store (State.scaleSlot s n) = State.store s := by
  unfold State.scaleSlot; simp (maxDischargeDepth := 60) [State.store_mk, State.store_fold, *]
@[simp] theorem State.chanSlot_store {s n all} : State.store (State.chanSlot s n all) = State.store s := by
  unfold State.chanSlot
  extract_lets v0
  have h_v0 : State.store v0 = State.store s := by subst v0; simp (maxDischargeDepth := 60) [State.store_mk, State.store_fold, *]
  clear_value v0
  ((repeat' split) <;> (try extract_lets) <;> simp (maxDischargeDepth := 60) +zetaDelta [State.store_mk, State.store_fold, *])
@[simp] theorem State.shelfSlot_store {s} : State.store (State.shelfSlot s) = State.store s := by
  unfold State.shelfSlot; simp (maxDischargeDepth := 60) [State.store_mk, State.store_fold, *]
@[simp] theorem State.dueSlot_store {s n} : State.store (State.dueSlot s n) = State.store s := by
  unfold State.dueSlot; simp (maxDischargeDepth := 60) [State.store_mk, State.store_fold, *]
@[simp] theorem State.dueShelf_store {s} : State.store (State.dueShelf s) = State.store s := by
  unfold State.dueShelf; simp (maxDischargeDepth := 60) [State.store_mk, State.store_fold, *]
@[simp] theorem State.slotsEnd_store {s} : State.store (State.slotsEnd s) = State.store s := by
  unfold State.slotsEnd; simp (maxDischargeDepth := 60) [State.store_mk, State.store_fold, *]

/-! Machine/Program.lean -/

@[simp] theorem State.progWriteReg_store {s r stopped val} : State.store (State.progWriteReg s r stopped val) = State.store s := by
  unfold State.progWriteReg; simp (maxDischargeDepth := 60) [State.store_mk, State.store_fold, *]
@[simp] theorem State.bankBoundary_store {s} : State.store (State.bankBoundary s) = State.store s := by
  unfold State.bankBoundary
  extract_lets v0
  have h_v0 : State.store v0 = State.store s := by subst v0; simp (maxDischargeDepth := 60) [State.store_mk, State.store_fold, *]
  clear_value v0
  simp (maxDischargeDepth := 60) [State.store_mk, State.store_fold, *]
@[simp] theorem State.hostStart_store {s n} : State.store (State.hostStart s n) = State.store s := by
  unfold State.hostStart; simp (maxDischargeDepth := 60) [State.store_mk, State.store_fold, *]
@[simp] theorem State.hostStop_store {s n} : State.store (State.hostStop s n) = State.store s := by
  unfold State.hostStop; simp (maxDischargeDepth := 60) [State.store_mk, State.store_fold, *]
@[simp] theorem State.startContext_store {s n} : State.store (State.startContext s n) = State.store s := by
  unfold State.startContext
  extract_lets v0 v1 v2 v3 v4
  have h_v0 : State.store v0 = State.store s := by subst v0; simp (maxDischargeDepth := 60) [State.store_mk, State.store_fold, *]
  clear_value v0
  have h_v1 : State.store v1 = State.store s := by subst v1; simp (maxDischargeDepth := 60) [State.store_mk, State.store_fold, *]
  clear_value v1
  have h_v2 : State.store v2 = State.store s := by subst v2; simp (maxDischargeDepth := 60) [State.store_mk, State.store_fold, *]
  clear_value v2
  have h_v3 : State.store v3 = State.store s := by subst v3; simp (maxDischargeDepth := 60) [State.store_mk, State.store_fold, *]
  clear_value v3
  have h_v4 : State.store v4 = State.store s := by subst v4; simp (maxDischargeDepth := 60) [State.store_mk, State.store_fold, *]
  clear_value v4
  simp (maxDischargeDepth := 60) [State.store_mk, State.store_fold, *]
@[simp] theorem State.startLane_store {s j} : State.store (State.startLane s j) = State.store s := by
  unfold State.startLane
  extract_lets v0 v1 v2 v3
  have h_v0 : State.store v0 = State.store s := by subst v0; simp (maxDischargeDepth := 60) [State.store_mk, State.store_fold, *]
  clear_value v0
  have h_v1 : State.store v1 = State.store s := by subst v1; simp (maxDischargeDepth := 60) [State.store_mk, State.store_fold, *]
  clear_value v1
  have h_v2 : State.store v2 = State.store s := by subst v2; simp (maxDischargeDepth := 60) [State.store_mk, State.store_fold, *]
  clear_value v2
  have h_v3 : State.store v3 = State.store s := by subst v3; simp (maxDischargeDepth := 60) [State.store_mk, State.store_fold, *]
  clear_value v3
  simp (maxDischargeDepth := 60) [State.store_mk, State.store_fold, *]
@[simp] theorem State.startAccept_store {s n} : State.store (State.startAccept s n) = State.store s := by
  unfold State.startAccept; (repeat' split) <;> simp (maxDischargeDepth := 60) [State.store_mk, State.store_fold, *]
@[simp] theorem State.startRefuse_store {s n} : State.store (State.startRefuse s n) = State.store s := by
  unfold State.startRefuse
  extract_lets v0
  have h_v0 : State.store v0 = State.store s := by subst v0; simp (maxDischargeDepth := 60) [State.store_mk, State.store_fold, *]
  clear_value v0
  simp (maxDischargeDepth := 60) [State.store_mk, State.store_fold, *]
@[simp] theorem State.requestBoundary_store {s n} : State.store (State.requestBoundary s n) = State.store s := by
  unfold State.requestBoundary; simp (maxDischargeDepth := 60) [State.store_mk, State.store_fold, *]
@[simp] theorem State.shelfStart_store {s} : State.store (State.shelfStart s) = State.store s := by
  unfold State.shelfStart; simp (maxDischargeDepth := 60) [State.store_mk, State.store_fold, *]

/-! Machine/Link.lean -/

@[simp] theorem State.modSess_store {s k f} : State.store (State.modSess s k f) = State.store s := by
  unfold State.modSess; simp (maxDischargeDepth := 60) [State.store_mk, State.store_fold, *]
@[simp] theorem State.closeSess_store {s k} : State.store (State.closeSess s k) = State.store s := by
  unfold State.closeSess; simp (maxDischargeDepth := 60) [State.store_mk, State.store_fold, *]
@[simp] theorem State.transmit_store {s f} : State.store (State.transmit s f) = State.store s := by
  unfold State.transmit; (repeat' split) <;> simp (maxDischargeDepth := 60) [State.store_mk, State.store_fold, *]
@[simp] theorem State.modRate_store {s f} : State.store (State.modRate s f) = State.store s := by
  unfold State.modRate; simp (maxDischargeDepth := 60) [State.store_mk, State.store_fold, *]
@[simp] theorem State.rateFrames_store {s op} : State.store (State.rateFrames s op) = State.store s := by
  unfold State.rateFrames; simp (maxDischargeDepth := 60) [State.store_mk, State.store_fold, *]
@[simp] theorem State.decDue_store {s} : State.store (State.decDue s) = State.store s := by
  unfold State.decDue; simp (maxDischargeDepth := 60) [State.store_mk, State.store_fold, *]
@[simp] theorem State.rateSwitch_store {s} : State.store (State.rateSwitch s) = State.store s := by
  unfold State.rateSwitch
  extract_lets v0 v1 v2
  clear_value v0
  have h_v1 : State.store v1 = State.store s := by subst v1; simp (maxDischargeDepth := 60) [State.store_mk, State.store_fold, *]
  clear_value v1
  have h_v2 : State.store v2 = State.store s := by subst v2; simp (maxDischargeDepth := 60) [State.store_mk, State.store_fold, *]
  clear_value v2
  simp (maxDischargeDepth := 60) [State.store_mk, State.store_fold, *]
@[simp] theorem State.propose_store {s la lb restore} : State.store (State.propose s la lb restore) = State.store s := by
  unfold State.propose
  extract_lets v0
  have h_v0 : State.store v0 = State.store s := by subst v0; simp (maxDischargeDepth := 60) [State.store_mk, State.store_fold, *]
  clear_value v0
  simp (maxDischargeDepth := 60) [State.store_mk, State.store_fold, *]
@[simp] theorem State.proposeSleep_store {s} : State.store (State.proposeSleep s) = State.store s := by
  unfold State.proposeSleep; simp (maxDischargeDepth := 60) [State.store_mk, State.store_fold, *]
@[simp] theorem State.proposeRestore_store {s} : State.store (State.proposeRestore s) = State.store s := by
  unfold State.proposeRestore; simp (maxDischargeDepth := 60) [State.store_mk, State.store_fold, *]
@[simp] theorem State.rateExit_store {s} : State.store (State.rateExit s) = State.store s := by
  unfold State.rateExit; (repeat' split) <;> simp (maxDischargeDepth := 60) [State.store_mk, State.store_fold, *]
@[simp] theorem State.rateControl_store {s k op} : State.store (State.rateControl s k op) = State.store s := by
  unfold State.rateControl; simp (maxDischargeDepth := 60) [State.store_mk, State.store_fold, *]
@[simp] theorem State.portWrite_store {s r p val} : State.store (State.portWrite s r p val) = State.store s := by
  unfold State.portWrite
  extract_lets v0
  have h_v0 : State.store v0 = State.store s := by subst v0; simp (maxDischargeDepth := 60) [State.store_mk, State.store_fold, *]
  clear_value v0
  ((repeat' split) <;> (try extract_lets) <;> simp (maxDischargeDepth := 60) +zetaDelta [State.store_mk, State.store_fold, *])
@[simp] theorem State.sendEvent_store {s k f} : State.store (State.sendEvent s k f) = State.store s := by
  unfold State.sendEvent; simp (maxDischargeDepth := 60) [State.store_mk, State.store_fold, *]
@[simp] theorem State.streamSeqNext_store {s st} : State.store (State.streamSeqNext s st) = State.store s := by
  unfold State.streamSeqNext; simp (maxDischargeDepth := 60) [State.store_mk, State.store_fold, *]
@[simp] theorem State.sendStream_store {s st index body} : State.store (State.sendStream s st index body) = State.store s := by
  unfold State.sendStream; (repeat' split) <;> simp (maxDischargeDepth := 60) [State.store_mk, State.store_fold, *]
@[simp] theorem State.recAck_store {s ack} : State.store (State.recAck s ack) = State.store s := by
  unfold State.recAck; simp (maxDischargeDepth := 60) [State.store_mk, State.store_fold, *]
@[simp] theorem State.sendInstant_store {s st stamp per size entry} : State.store (State.sendInstant s st stamp per size entry) = State.store s := by
  unfold State.sendInstant; simp (maxDischargeDepth := 60) [State.store_mk, State.store_fold, *]
@[simp] theorem State.sendRaw_store {s md raw} : State.store (State.sendRaw s md raw) = State.store s := by
  unfold State.sendRaw; simp (maxDischargeDepth := 60) [State.store_mk, State.store_fold, *]
@[simp] theorem State.evalStream_store {s p st} : State.store (State.evalStream s p st).1 = State.store p.1 := by
  unfold State.evalStream
  dsimp only
  split <;> simp (maxDischargeDepth := 60) [State.store_mk, State.store_fold]
@[simp] theorem State.streamWrite_store {s st val} : State.store (State.streamWrite s st val) = State.store s := by
  unfold State.streamWrite
  extract_lets v0
  have h_v0 : State.store v0 = State.store s := by subst v0; simp (maxDischargeDepth := 60) [State.store_mk, State.store_fold, *]
  clear_value v0
  ((repeat' split) <;> (try extract_lets) <;> simp (maxDischargeDepth := 60) +zetaDelta [State.store_mk, State.store_fold, *])
@[simp] theorem State.reply_store {s p pkt} : State.store (State.reply s p pkt) = State.store s := by
  unfold State.reply; simp (maxDischargeDepth := 60) [State.store_mk, State.store_fold, *]

/-! Machine/Modes.lean -/

@[simp] theorem State.modeBoundary_store {s0} : State.store (State.modeBoundary s0) = State.store s0 := by
  unfold State.modeBoundary
  extract_lets v0 v1 v2
  have h_v0 : State.store v0 = State.store s0 := by subst v0; simp (maxDischargeDepth := 60) [State.store_mk, State.store_fold, *]
  clear_value v0
  clear_value v1
  have h_v2 : State.store v2 = State.store s0 := by subst v2; simp (maxDischargeDepth := 60) [State.store_mk, State.store_fold, *]
  clear_value v2
  ((repeat' split) <;> (try extract_lets) <;> simp +zetaDelta +contextual (maxDischargeDepth := 60) [State.store_mk, State.store_fold, *])
@[simp] theorem State.modeWrite_store {s val} : State.store (State.modeWrite s val) = State.store s := by
  unfold State.modeWrite; simp (maxDischargeDepth := 60) [State.store_mk, State.store_fold, *]
@[simp] theorem State.spareSleep_store {s} : State.store (State.spareSleep s) = State.store s := by
  unfold State.spareSleep; simp (maxDischargeDepth := 60) [State.store_mk, State.store_fold, *]
@[simp] theorem State.spareWake_store {s} : State.store (State.spareWake s) = State.store s := by
  unfold State.spareWake; (repeat' split) <;> simp (maxDischargeDepth := 60) [State.store_mk, State.store_fold, *]
@[simp] theorem State.enterMode_store {s target} : State.store (State.enterMode s target) = State.store s := by
  unfold State.enterMode; (repeat' split) <;> simp (maxDischargeDepth := 60) [State.store_mk, State.store_fold, *]
@[simp] theorem State.burstChan_store {s n stamp} : State.store (State.burstChan s n stamp) = State.store s := by
  unfold State.burstChan; dsimp only; (repeat' split) <;> simp +contextual (maxDischargeDepth := 60) [State.store_mk, State.store_fold, *]
@[simp] theorem State.leaveAging_store {s} : State.store (State.leaveAging s) = State.store s := by
  unfold State.leaveAging; simp (maxDischargeDepth := 60) [State.store_mk, State.store_fold, *]
@[simp] theorem State.resumeAging_store {s n} : State.store (State.resumeAging s n) = State.store s := by
  unfold State.resumeAging; simp (maxDischargeDepth := 60) [State.store_mk, State.store_fold, *]

/-! Machine/SelfTest.lean -/

@[simp] theorem State.noteFail_store {s off bit mram uncorr repaired pending} : State.store (State.noteFail s off bit mram uncorr repaired pending) = State.store s := by
  unfold State.noteFail
  extract_lets v0
  have h_v0 : State.store v0 = State.store s := by subst v0; simp (maxDischargeDepth := 60) [State.store_mk, State.store_fold, *]
  clear_value v0
  simp (maxDischargeDepth := 60) [State.store_mk, State.store_fold, *]
@[simp] theorem State.sramFail_store {s slice} : State.store (State.sramFail s slice) = State.store s := by
  unfold State.sramFail; simp (maxDischargeDepth := 60) [State.store_mk, State.store_fold, *]
@[simp] theorem State.mramFind_store {s f} : State.store (State.mramFind s f) = State.store s := by
  unfold State.mramFind; simp (maxDischargeDepth := 60) [State.store_mk, State.store_fold, *]
@[simp] theorem State.mramVerify_store {s l} : State.store (State.mramVerify s l) = State.store s := by
  unfold State.mramVerify; simp (maxDischargeDepth := 60) [State.store_mk, State.store_fold, *]
@[simp] theorem State.loopbackStop_store {s w b} : State.store (State.loopbackStop s w b) = State.store s := by
  unfold State.loopbackStop; simp (maxDischargeDepth := 60) [State.store_mk, State.store_fold, *]
@[simp] theorem State.cellTemp_store {s n ohm} : State.store (State.cellTemp s n ohm) = State.store s := by
  unfold State.cellTemp
  extract_lets v0 v1 v2 v3
  clear_value v0
  have h_v1 : State.store v1 = State.store s := by subst v1; simp (maxDischargeDepth := 60) [State.store_mk, State.store_fold, *]
  clear_value v1
  have h_v2 : State.store v2 = State.store s := by subst v2; simp (maxDischargeDepth := 60) [State.store_mk, State.store_fold, *]
  clear_value v2
  have h_v3 : State.store v3 = State.store s := by subst v3; simp (maxDischargeDepth := 60) [State.store_mk, State.store_fold, *]
  clear_value v3
  simp (maxDischargeDepth := 60) [State.store_mk, State.store_fold, *]
@[simp] theorem State.refCheck_store {s r1 r2} : State.store (State.refCheck s r1 r2) = State.store s := by
  unfold State.refCheck; dsimp only; (repeat' split) <;> simp +contextual (maxDischargeDepth := 60) [State.store_mk, State.store_fold, *]
@[simp] theorem State.dieRead_store {s k code} : State.store (State.dieRead s k code) = State.store s := by
  unfold State.dieRead; simp (maxDischargeDepth := 60) [State.store_mk, State.store_fold, *]
@[simp] theorem State.blendStart_store {s n} : State.store (State.blendStart s n) = State.store s := by
  unfold State.blendStart; simp (maxDischargeDepth := 60) [State.store_mk, State.store_fold, *]
@[simp] theorem State.chanBand_store {s n b} : State.store (State.chanBand s n b) = State.store s := by
  unfold State.chanBand
  extract_lets v0
  have h_v0 : State.store v0 = State.store s := by subst v0; simp (maxDischargeDepth := 60) [State.store_mk, State.store_fold, *]
  clear_value v0
  simp (maxDischargeDepth := 60) [State.store_mk, State.store_fold, *]
@[simp] theorem State.blendStep_store {s n} : State.store (State.blendStep s n) = State.store s := by
  unfold State.blendStep; simp (maxDischargeDepth := 60) [State.store_mk, State.store_fold, *]
@[simp] theorem State.bands_store {s first} : State.store (State.bands s first) = State.store s := by
  unfold State.bands
  extract_lets v0
  have h_v0 : State.store v0 = State.store s := by subst v0; simp (maxDischargeDepth := 60) [State.store_mk, State.store_fold, *]
  clear_value v0
  simp (maxDischargeDepth := 60) [State.store_mk, State.store_fold, *]
@[simp] theorem State.dieMax_store {s} : State.store (State.dieMax s) = State.store s := by
  unfold State.dieMax; simp (maxDischargeDepth := 60) [State.store_mk, State.store_fold, *]
@[simp] theorem State.thermal_store {s f up down num sev} : State.store (State.thermal s f up down num sev) = State.store s := by
  unfold State.thermal; simp (maxDischargeDepth := 60) [State.store_mk, State.store_fold, *]

/-! Machine/Reset.lean -/

@[simp] theorem State.logicStart_store {s} : State.store (State.logicStart s) = State.store s := by
  unfold State.logicStart; simp (maxDischargeDepth := 60) [State.store_mk, State.store_fold, *]
@[simp] theorem State.spareBoot_store {s} : State.store (State.spareBoot s) = State.store s := by
  unfold State.spareBoot; simp (maxDischargeDepth := 60) [State.store_mk, State.store_fold, *]
@[simp] theorem State.wake_store {s} : State.store (State.wake s) = State.store s := by
  unfold State.wake; simp (maxDischargeDepth := 60) [State.store_mk, State.store_fold, *]

/-! Machine/Rails.lean -/

@[simp] theorem State.railSave_store {s} : State.store (State.railSave s) = State.store s := by
  unfold State.railSave; simp (maxDischargeDepth := 60) [State.store_mk, State.store_fold, *]
@[simp] theorem State.railEvent_store {s e sev} : State.store (State.railEvent s e sev) = State.store s := by
  unfold State.railEvent; simp (maxDischargeDepth := 60) [State.store_mk, State.store_fold, *]
@[simp] theorem State.ownFail_store {s e} : State.store (State.ownFail s e) = State.store s := by
  unfold State.ownFail; simp (maxDischargeDepth := 60) [State.store_mk, State.store_fold, *]
@[simp] theorem State.railFailDown_store {s e} : State.store (State.railFailDown s e) = State.store s := by
  unfold State.railFailDown
  extract_lets v0 v1
  clear_value v0
  have h_v1 : State.store v1 = State.store s := by subst v1; simp (maxDischargeDepth := 60) [State.store_mk, State.store_fold, *]
  clear_value v1
  simp (maxDischargeDepth := 60) [State.store_mk, State.store_fold, *]
@[simp] theorem State.railClear_store {s e val} : State.store (State.railClear s e val) = State.store s := by
  unfold State.railClear
  extract_lets v0
  have h_v0 : State.store v0 = State.store s := by subst v0; simp (maxDischargeDepth := 60) [State.store_mk, State.store_fold, *]
  clear_value v0
  simp (maxDischargeDepth := 60) [State.store_mk, State.store_fold, *]
@[simp] theorem State.railWrite_store {s e r val} : State.store (State.railWrite s e r val) = State.store s := by
  unfold State.railWrite; (repeat' split) <;> simp (maxDischargeDepth := 60) [State.store_mk, State.store_fold, *]
@[simp] theorem State.loadRegion_store {s r} : State.store (State.loadRegion s r) = State.store s := by
  unfold State.loadRegion; simp (maxDischargeDepth := 60) [State.store_mk, State.store_fold, *]
@[simp] theorem State.loadRegions_store {s l} : State.store (State.loadRegions s l) = State.store s := by
  unfold State.loadRegions; simp (maxDischargeDepth := 60) [State.store_mk, State.store_fold, *]
@[simp] theorem State.cfgAlt_store {s} : State.store (State.cfgAlt s) = State.store s := by
  unfold State.cfgAlt; simp (maxDischargeDepth := 60) [State.store_mk, State.store_fold, *]
@[simp] theorem State.loadOne_store {s img r} : State.store (State.loadOne s img r) = State.store s := by
  unfold State.loadOne; simp (maxDischargeDepth := 60) [State.store_mk, State.store_fold, *]
@[simp] theorem State.applyRepairs_store {s} : State.store (State.applyRepairs s) = State.store s := by
  unfold State.applyRepairs
  extract_lets v0 v1
  clear_value v0
  have h_v1 : State.store v1 = State.store s := by subst v1; simp (maxDischargeDepth := 60) [State.store_mk, State.store_fold, *]
  clear_value v1
  simp (maxDischargeDepth := 60) [State.store_mk, State.store_fold, *]
@[simp] theorem State.readAddr_store {s x} : State.store (State.readAddr s x) = State.store s := by
  unfold State.readAddr; (repeat' split) <;> simp (maxDischargeDepth := 60) [State.store_mk, State.store_fold, *]
@[simp] theorem State.bootStraps_store {s} : State.store (State.bootStraps s) = State.store s := by
  unfold State.bootStraps; (repeat' split) <;> simp (maxDischargeDepth := 60) [State.store_mk, State.store_fold, *]
@[simp] theorem State.bootDie_store {s die} : State.store (State.bootDie s die) = State.store s := by
  unfold State.bootDie
  extract_lets v0
  have h_v0 : State.store v0 = State.store s := by subst v0; simp (maxDischargeDepth := 60) [State.store_mk, State.store_fold, *]
  clear_value v0
  simp (maxDischargeDepth := 60) [State.store_mk, State.store_fold, *]
@[simp] theorem State.bootAdopt_store {s} : State.store (State.bootAdopt s) = State.store s := by
  unfold State.bootAdopt; simp (maxDischargeDepth := 60) [State.store_mk, State.store_fold, *]
@[simp] theorem State.bootVault_store {s} : State.store (State.bootVault s) = State.store s := by
  unfold State.bootVault; simp (maxDischargeDepth := 60) [State.store_mk, State.store_fold, *]
@[simp] theorem State.bootEnd_store {s} : State.store (State.bootEnd s) = State.store s := by
  unfold State.bootEnd; simp (maxDischargeDepth := 60) [State.store_mk, State.store_fold, *]
@[simp] theorem State.recoverPorts_store {s img} : State.store (State.recoverPorts s img) = State.store s := by
  unfold State.recoverPorts; simp (maxDischargeDepth := 60) [State.store_mk, State.store_fold, *]
@[simp] theorem State.recover_store {s} : State.store (State.recover s) = State.store s := by
  unfold State.recover; simp (maxDischargeDepth := 60) [State.store_mk, State.store_fold, *]

/-! Machine/Protect.lean -/

@[simp] theorem State.wearJudge_store {s n} : State.store (State.wearJudge s n) = State.store s := by
  unfold State.wearJudge; simp (maxDischargeDepth := 60) [State.store_mk, State.store_fold, *]
@[simp] theorem State.ctSample_store {s n r w ip sat} : State.store (State.ctSample s n r w ip sat) = State.store s := by
  unfold State.ctSample; simp (maxDischargeDepth := 60) [State.store_mk, State.store_fold, *]
@[simp] theorem State.faultClear_store {s n val} : State.store (State.faultClear s n val) = State.store s := by
  unfold State.faultClear
  extract_lets v0 v1 v2 v3 v4
  clear_value v0
  clear_value v1
  have h_v2 : State.store v2 = State.store s := by subst v2; simp (maxDischargeDepth := 60) [State.store_mk, State.store_fold, *]
  clear_value v2
  have h_v3 : State.store v3 = State.store s := by subst v3; simp (maxDischargeDepth := 60) [State.store_mk, State.store_fold, *]
  clear_value v3
  have h_v4 : State.store v4 = State.store s := by subst v4; simp (maxDischargeDepth := 60) [State.store_mk, State.store_fold, *]
  clear_value v4
  simp (maxDischargeDepth := 60) [State.store_mk, State.store_fold, *]
@[simp] theorem State.protBoundary_store {s n} : State.store (State.protBoundary s n) = State.store s := by
  unfold State.protBoundary
  extract_lets v0 v1 v2 v3 v4 v5 v6 v7 v8 v9 v10
  clear_value v0
  clear_value v1
  clear_value v2
  clear_value v3
  clear_value v4
  clear_value v5
  clear_value v6
  clear_value v7
  have h_v8 : State.store v8 = State.store s := by subst v8; simp (maxDischargeDepth := 60) [State.store_mk, State.store_fold, *]
  clear_value v8
  have h_v9 : State.store v9 = State.store s := by subst v9; simp (maxDischargeDepth := 60) [State.store_mk, State.store_fold, *]
  clear_value v9
  have h_v10 : State.store v10 = State.store s := by subst v10; simp (maxDischargeDepth := 60) [State.store_mk, State.store_fold, *]
  clear_value v10
  simp (maxDischargeDepth := 60) [State.store_mk, State.store_fold, *]

/-! Machine/Maint.lean -/

@[simp] theorem State.stopRuns_store {s} : State.store (State.stopRuns s) = State.store s := by
  unfold State.stopRuns; simp (maxDischargeDepth := 60) [State.store_mk, State.store_fold, *]
@[simp] theorem State.restart_store {s cause} : State.store (State.restart s cause) = State.store s := by
  unfold State.restart; simp (maxDischargeDepth := 60) [State.store_mk, State.store_fold, *]
@[simp] theorem State.restartKey_store {s key} : State.store (State.restartKey s key) = State.store s := by
  unfold State.restartKey; simp (maxDischargeDepth := 60) [State.store_mk, State.store_fold, *]
@[simp] theorem State.restartEnd_store {s bankA bankB t0} : State.store (State.restartEnd s bankA bankB t0) = State.store s := by
  unfold State.restartEnd; dsimp only; (repeat' split) <;> simp +contextual (maxDischargeDepth := 60) [State.store_mk, State.store_fold, *]
@[simp] theorem State.loseChan_store {s n} : State.store (State.loseChan s n) = State.store s := by
  unfold State.loseChan; simp (maxDischargeDepth := 60) [State.store_mk, State.store_fold, *]
@[simp] theorem State.cardLost_store {s k} : State.store (State.cardLost s k) = State.store s := by
  unfold State.cardLost; simp (maxDischargeDepth := 60) [State.store_mk, State.store_fold, *]
@[simp] theorem State.returnChan_store {s n} : State.store (State.returnChan s n) = State.store s := by
  unfold State.returnChan
  extract_lets v0 v1 v2 v3
  clear_value v0
  have h_v1 : State.store v1 = State.store s := by subst v1; simp (maxDischargeDepth := 60) [State.store_mk, State.store_fold, *]
  clear_value v1
  have h_v2 : State.store v2 = State.store s := by subst v2; simp (maxDischargeDepth := 60) [State.store_mk, State.store_fold, *]
  clear_value v2
  have h_v3 : State.store v3 = State.store s := by subst v3; simp (maxDischargeDepth := 60) [State.store_mk, State.store_fold, *]
  clear_value v3
  simp (maxDischargeDepth := 60) [State.store_mk, State.store_fold, *]

/-! Machine/Host.lean -/

@[simp] theorem State.latchTrec_store {s n} : State.store (State.latchTrec s n) = State.store s := by
  unfold State.latchTrec; simp (maxDischargeDepth := 60) [State.store_mk, State.store_fold, *]
@[simp] theorem State.regRead_store {s r} : State.store (State.regRead s r).2 = State.store s := by
  unfold State.regRead; (repeat' split) <;> simp (maxDischargeDepth := 60) [State.store_mk, State.store_fold, *]
@[simp] theorem State.hostRead_store {s a} : State.store (State.hostRead s a).2.2 = State.store s := by
  unfold State.hostRead; (repeat' split) <;> simp (maxDischargeDepth := 60) [State.store_mk, State.store_fold, *]
@[simp] theorem State.plainWrite_store {s r val} : State.store (State.plainWrite s r val) = State.store s := by
  unfold State.plainWrite
  extract_lets v0
  have h_v0 : State.store v0 = State.store s := by subst v0; simp (maxDischargeDepth := 60) [State.store_mk, State.store_fold, *]
  clear_value v0
  simp (maxDischargeDepth := 60) [State.store_mk, State.store_fold, *]
@[simp] theorem State.measWrite_store {s n val} : State.store (State.measWrite s n val) = State.store s := by
  unfold State.measWrite; simp (maxDischargeDepth := 60) [State.store_mk, State.store_fold, *]
@[simp] theorem State.pendWrite_store {s w val} : State.store (State.pendWrite s w val) = State.store s := by
  unfold State.pendWrite
  extract_lets v0
  have h_v0 : State.store v0 = State.store s := by subst v0; simp (maxDischargeDepth := 60) [State.store_mk, State.store_fold, *]
  clear_value v0
  simp (maxDischargeDepth := 60) [State.store_mk, State.store_fold, *]
@[simp] theorem State.ppsWrite_store {s val} : State.store (State.ppsWrite s val) = State.store s := by
  unfold State.ppsWrite
  extract_lets v0
  have h_v0 : State.store v0 = State.store s := by subst v0; simp (maxDischargeDepth := 60) [State.store_mk, State.store_fold, *]
  clear_value v0
  simp (maxDischargeDepth := 60) [State.store_mk, State.store_fold, *]
@[simp] theorem State.compatWrite_store {s val} : State.store (State.compatWrite s val) = State.store s := by
  unfold State.compatWrite; simp (maxDischargeDepth := 60) [State.store_mk, State.store_fold, *]
@[simp] theorem State.rfltWrite_store {s e val} : State.store (State.rfltWrite s e val) = State.store s := by
  unfold State.rfltWrite; simp (maxDischargeDepth := 60) [State.store_mk, State.store_fold, *]
@[simp] theorem State.fcfgWrite_store {s f val} : State.store (State.fcfgWrite s f val) = State.store s := by
  unfold State.fcfgWrite
  extract_lets v0
  have h_v0 : State.store v0 = State.store s := by subst v0; simp (maxDischargeDepth := 60) [State.store_mk, State.store_fold, *]
  clear_value v0
  simp (maxDischargeDepth := 60) [State.store_mk, State.store_fold, *]
@[simp] theorem State.cmaxWrite_store {s val} : State.store (State.cmaxWrite s val) = State.store s := by
  unfold State.cmaxWrite
  extract_lets v0
  have h_v0 : State.store v0 = State.store s := by subst v0; simp (maxDischargeDepth := 60) [State.store_mk, State.store_fold, *]
  clear_value v0
  simp (maxDischargeDepth := 60) [State.store_mk, State.store_fold, *]
@[simp] theorem State.wdtWrite_store {s val} : State.store (State.wdtWrite s val) = State.store s := by
  unfold State.wdtWrite; simp (maxDischargeDepth := 60) [State.store_mk, State.store_fold, *]
@[simp] theorem State.restoreWrite_store {s w val} : State.store (State.restoreWrite s w val) = State.store s := by
  unfold State.restoreWrite; (repeat' split) <;> simp (maxDischargeDepth := 60) [State.store_mk, State.store_fold, *]
@[simp] theorem State.axCtlWrite_store {s j val} : State.store (State.axCtlWrite s j val) = State.store s := by
  unfold State.axCtlWrite; (repeat' split) <;> simp (maxDischargeDepth := 60) [State.store_mk, State.store_fold, *]
@[simp] theorem State.axCfgWrite_store {s j r val} : State.store (State.axCfgWrite s j r val) = State.store s := by
  unfold State.axCfgWrite
  extract_lets v0 v1
  have h_v0 : State.store v0 = State.store s := by subst v0; simp (maxDischargeDepth := 60) [State.store_mk, State.store_fold, *]
  clear_value v0
  clear_value v1
  simp (maxDischargeDepth := 60) [State.store_mk, State.store_fold, *]
@[simp] theorem State.alCtlWrite_store {s k val} : State.store (State.alCtlWrite s k val) = State.store s := by
  unfold State.alCtlWrite; (repeat' split) <;> simp (maxDischargeDepth := 60) [State.store_mk, State.store_fold, *]
@[simp] theorem State.devWrite_store {s k val} : State.store (State.devWrite s k val) = State.store s := by
  unfold State.devWrite; dsimp only; (repeat' split) <;> simp +contextual (maxDischargeDepth := 60) [State.store_mk, State.store_fold, *]
@[simp] theorem State.nzoffWrite_store {s val} : State.store (State.nzoffWrite s val) = State.store s := by
  unfold State.nzoffWrite; (repeat' split) <;> simp (maxDischargeDepth := 60) [State.store_mk, State.store_fold, *]
@[simp] theorem State.hlCfgWrite_store {s val} : State.store (State.hlCfgWrite s val) = State.store s := by
  unfold State.hlCfgWrite
  extract_lets v0
  have h_v0 : State.store v0 = State.store s := by subst v0; simp (maxDischargeDepth := 60) [State.store_mk, State.store_fold, *]
  clear_value v0
  simp (maxDischargeDepth := 60) [State.store_mk, State.store_fold, *]
@[simp] theorem State.vtCtlWrite_store {s val} : State.store (State.vtCtlWrite s val) = State.store s := by
  unfold State.vtCtlWrite; (repeat' split) <;> simp (maxDischargeDepth := 60) [State.store_mk, State.store_fold, *]
@[simp] theorem State.cctlWrite_store {s val} : State.store (State.cctlWrite s val) = State.store s := by
  unfold State.cctlWrite; (repeat' split) <;> simp (maxDischargeDepth := 60) [State.store_mk, State.store_fold, *]
@[simp] theorem State.cslotWrite_store {s k val} : State.store (State.cslotWrite s k val) = State.store s := by
  unfold State.cslotWrite; (repeat' split) <;> simp (maxDischargeDepth := 60) [State.store_mk, State.store_fold, *]
@[simp] theorem State.lnStatWrite_store {s val} : State.store (State.lnStatWrite s val) = State.store s := by
  unfold State.lnStatWrite; (repeat' split) <;> simp (maxDischargeDepth := 60) [State.store_mk, State.store_fold, *]
@[simp] theorem State.adoptWrite_store {s val} : State.store (State.adoptWrite s val) = State.store s := by
  unfold State.adoptWrite; (repeat' split) <;> simp (maxDischargeDepth := 60) [State.store_mk, State.store_fold, *]
@[simp] theorem State.calWrite_store {s val} : State.store (State.calWrite s val) = State.store s := by
  unfold State.calWrite; simp (maxDischargeDepth := 60) [State.store_mk, State.store_fold, *]
@[simp] theorem State.csCtlWrite_store {s val} : State.store (State.csCtlWrite s val) = State.store s := by
  unfold State.csCtlWrite
  extract_lets v
  have hv : State.store v = State.store s := by subst v; split <;> simp +contextual (maxDischargeDepth := 60) [State.store_mk, State.store_fold, *]
  clear_value v
  split
  · exact hv
  · rw [State.writeReg_store]
    split
    · rw [State.rotNow_store, hv]
    · exact hv
@[simp] theorem State.shCmdWrite_store {s val} : State.store (State.shCmdWrite s val) = State.store s := by
  unfold State.shCmdWrite; (repeat' split) <;> simp (maxDischargeDepth := 60) [State.store_mk, State.store_fold, *]
@[simp] theorem State.chCmdWrite_store {s n val} : State.store (State.chCmdWrite s n val) = State.store s := by
  unfold State.chCmdWrite; (repeat' split) <;> simp (maxDischargeDepth := 60) [State.store_mk, State.store_fold, *]
@[simp] theorem State.chGWrite_store {s n i val} : State.store (State.chGWrite s n i val) = State.store s := by
  unfold State.chGWrite; simp (maxDischargeDepth := 60) [State.store_mk, State.store_fold, *]
@[simp] theorem State.csGWrite_store {s i val} : State.store (State.csGWrite s i val) = State.store s := by
  unfold State.csGWrite; simp (maxDischargeDepth := 60) [State.store_mk, State.store_fold, *]
@[simp] theorem State.pcntWrite_store {s n val} : State.store (State.pcntWrite s n val) = State.store s := by
  unfold State.pcntWrite; simp (maxDischargeDepth := 60) [State.store_mk, State.store_fold, *]
@[simp] theorem State.vtQueueWrite_store {s val} : State.store (State.vtQueueWrite s val) = State.store s := by
  unfold State.vtQueueWrite; simp (maxDischargeDepth := 60) [State.store_mk, State.store_fold, *]
@[simp] theorem State.lowWrite_store {s r val} : State.store (State.lowWrite s r val) = State.store s := by
  unfold State.lowWrite; simp (maxDischargeDepth := 60) [State.store_mk, State.store_fold, *]
@[simp] theorem State.highWrite_store {s n energy val} : State.store (State.highWrite s n energy val) = State.store s := by
  unfold State.highWrite; simp (maxDischargeDepth := 60) [State.store_mk, State.store_fold, *]
@[simp] theorem State.readAnswer_store {s a} : State.store (State.readAnswer s a) = State.store s := by
  unfold State.readAnswer; simp (maxDischargeDepth := 60) [State.store_mk, State.store_fold, *]

/-! Machine/TwoWire.lean -/

@[simp] theorem State.modTw_store {s f} : State.store (State.modTw s f) = State.store s := by
  unfold State.modTw; simp (maxDischargeDepth := 60) [State.store_mk, State.store_fold, *]
@[simp] theorem State.tw1Write_store {s body pec f} (hf : ∀ t, State.store (f t) = State.store t) : State.store (State.tw1Write s body pec f) = State.store s := by
  unfold State.tw1Write; (repeat' split) <;> simp (maxDischargeDepth := 60) [State.store_mk, State.store_fold, *]
@[simp] theorem State.rmCap_store {s val} : State.store (State.rmCap s val) = State.store s := by
  unfold State.rmCap
  extract_lets v0 v1
  have h_v0 : State.store v0 = State.store s := by subst v0; simp (maxDischargeDepth := 60) [State.store_mk, State.store_fold, *]
  clear_value v0
  have h_v1 : State.store v1 = State.store s := by subst v1; simp (maxDischargeDepth := 60) [State.store_mk, State.store_fold, *]
  clear_value v1
  simp (maxDischargeDepth := 60) [State.store_mk, State.store_fold, *]
@[simp] theorem State.regDone_store {s st} : State.store (State.regDone s st) = State.store s := by
  unfold State.regDone; simp (maxDischargeDepth := 60) [State.store_mk, State.store_fold, *]
@[simp] theorem State.notifySend_store {s o rest ack} : State.store (State.notifySend s o rest ack) = State.store s := by
  unfold State.notifySend
  extract_lets v0 v1
  have h_v0 : State.store v0 = State.store s := by subst v0; simp (maxDischargeDepth := 60) [State.store_mk, State.store_fold, *]
  clear_value v0
  clear_value v1
  ((repeat' split) <;> (try extract_lets) <;> simp (maxDischargeDepth := 60) +zetaDelta [State.store_mk, State.store_fold, *])
@[simp] theorem State.packAlert_store {s} : State.store (State.packAlert s) = State.store s := by
  unfold State.packAlert; simp (maxDischargeDepth := 60) [State.store_mk, State.store_fold, *]
@[simp] theorem State.pollGood_store {s k x} : State.store (State.pollGood s k x) = State.store s := by
  unfold State.pollGood
  extract_lets v0 v1 v2 v3
  clear_value v0
  have h_v1 : State.store v1 = State.store s := by subst v1; simp (maxDischargeDepth := 60) [State.store_mk, State.store_fold, *]
  clear_value v1
  have h_v2 : State.store v2 = State.store s := by subst v2; simp (maxDischargeDepth := 60) [State.store_mk, State.store_fold, *]
  clear_value v2
  have h_v3 : State.store v3 = State.store s := by subst v3; simp (maxDischargeDepth := 60) [State.store_mk, State.store_fold, *]
  clear_value v3
  simp (maxDischargeDepth := 60) [State.store_mk, State.store_fold, *]
@[simp] theorem State.pollBad_store {s k} : State.store (State.pollBad s k) = State.store s := by
  unfold State.pollBad
  extract_lets v0
  have h_v0 : State.store v0 = State.store s := by subst v0; simp (maxDischargeDepth := 60) [State.store_mk, State.store_fold, *]
  clear_value v0
  ((repeat' split) <;> (try extract_lets) <;> simp (maxDischargeDepth := 60) +zetaDelta [State.store_mk, State.store_fold, *])
@[simp] theorem State.pollDev_store {s k x} : State.store (State.pollDev s k x) = State.store s := by
  unfold State.pollDev; simp (maxDischargeDepth := 60) [State.store_mk, State.store_fold, *]

/-! Machine/Commands.lean -/

@[simp] theorem State.gate_store {s x r inRecovery f} (hf : ∀ t, State.store (f t) = State.store t) : State.store (State.gate s x r inRecovery f) = State.store s := by
  unfold State.gate; simp (maxDischargeDepth := 60) [State.store_mk, State.store_fold, *]
@[simp] theorem State.read32_store {s x addr} : State.store (State.read32 s x addr) = State.store s := by
  unfold State.read32; simp (maxDischargeDepth := 60) [State.store_mk, State.store_fold, *]
@[simp] theorem State.readWords_store {s a n out} : State.store (State.readWords s a n out) = State.store s := by
  induction n generalizing s a out with
  | zero => exact State.answer_store
  | succ n ih =>
    unfold State.readWords
    dsimp only
    split
    · rw [ih, State.hostRead_store]
    · exact State.answer_store
@[simp] theorem State.readBlock_store {s x addr n} : State.store (State.readBlock s x addr n) = State.store s := by
  unfold State.readBlock; simp (maxDischargeDepth := 60) [State.store_mk, State.store_fold, *]
@[simp] theorem State.modBulk_store {s f} : State.store (State.modBulk s f) = State.store s := by
  unfold State.modBulk; simp (maxDischargeDepth := 60) [State.store_mk, State.store_fold, *]
@[simp] theorem State.bulkOpen_store {s x total} : State.store (State.bulkOpen s x total) = State.store s := by
  unfold State.bulkOpen; simp (maxDischargeDepth := 60) [State.store_mk, State.store_fold, *]
@[simp] theorem State.bulkData_store {s x id off data} : State.store (State.bulkData s x id off data) = State.store s := by
  unfold State.bulkData; simp (maxDischargeDepth := 60) [State.store_mk, State.store_fold, *]
@[simp] theorem State.bulkStatus_store {s x id} : State.store (State.bulkStatus s x id) = State.store s := by
  unfold State.bulkStatus; simp (maxDischargeDepth := 60) [State.store_mk, State.store_fold, *]
@[simp] theorem State.bulkRead_store {s x addr len} : State.store (State.bulkRead s x addr len) = State.store s := by
  unfold State.bulkRead; simp (maxDischargeDepth := 60) [State.store_mk, State.store_fold, *]
@[simp] theorem State.imageStage_store {s x sel} : State.store (State.imageStage s x sel) = State.store s := by
  unfold State.imageStage
  refine State.gate_store fun t => ?_
  dsimp only
  (repeat' split) <;> simp (maxDischargeDepth := 60) [State.store_mk, State.store_fold, *]
@[simp] theorem State.imageCommit_store {s x bank} : State.store (State.imageCommit s x bank) = State.store s := by
  unfold State.imageCommit; simp (maxDischargeDepth := 60) [State.store_mk, State.store_fold, *]
@[simp] theorem State.authOpen_store {s nh k num} : State.store (State.authOpen s nh k num) = State.store s := by
  unfold State.authOpen
  extract_lets v0 v1 v2
  clear_value v0
  clear_value v1
  have h_v2 : State.store v2 = State.store s := by subst v2; simp (maxDischargeDepth := 60) [State.store_mk, State.store_fold, *]
  clear_value v2
  simp (maxDischargeDepth := 60) [State.store_mk, State.store_fold, *]
@[simp] theorem State.authPhase1_store {s x nh} : State.store (State.authPhase1 s x nh) = State.store s := by
  unfold State.authPhase1
  refine State.gate_store fun t => ?_
  dsimp only
  (repeat' split) <;> simp (maxDischargeDepth := 60) [State.store_mk, State.store_fold, *]
@[simp] theorem State.authFail_store {s k} : State.store (State.authFail s k) = State.store s := by
  unfold State.authFail
  extract_lets v0 v1 v2 v3
  clear_value v0
  have h_v1 : State.store v1 = State.store s := by subst v1; simp (maxDischargeDepth := 60) [State.store_mk, State.store_fold, *]
  clear_value v1
  clear_value v2
  have h_v3 : State.store v3 = State.store s := by subst v3; simp (maxDischargeDepth := 60) [State.store_mk, State.store_fold, *]
  clear_value v3
  simp (maxDischargeDepth := 60) [State.store_mk, State.store_fold, *]
@[simp] theorem State.authPhase2_store {s x ph} : State.store (State.authPhase2 s x ph) = State.store s := by
  unfold State.authPhase2; (repeat' split) <;> simp (maxDischargeDepth := 60) [State.store_mk, State.store_fold, *]
@[simp] theorem State.subscribe_store {s x bits} : State.store (State.subscribe s x bits) = State.store s := by
  unfold State.subscribe; (repeat' split) <;> simp (maxDischargeDepth := 60) [State.store_mk, State.store_fold, *]
@[simp] theorem State.ackFrames_store {s x cls seq} : State.store (State.ackFrames s x cls seq) = State.store s := by
  unfold State.ackFrames; (repeat' split) <;> simp (maxDischargeDepth := 60) [State.store_mk, State.store_fold, *]
@[simp] theorem State.closeCmd_store {s x} : State.store (State.closeCmd s x) = State.store s := by
  unfold State.closeCmd; (repeat' split) <;> simp (maxDischargeDepth := 60) [State.store_mk, State.store_fold, *]
@[simp] theorem State.wakeCmd_store {s x} : State.store (State.wakeCmd s x) = State.store s := by
  unfold State.wakeCmd; simp (maxDischargeDepth := 60) [State.store_mk, State.store_fold, *]
@[simp] theorem State.keySetDevice_store {s x key} : State.store (State.keySetDevice s x key) = State.store s := by
  unfold State.keySetDevice; (repeat' split) <;> simp (maxDischargeDepth := 60) [State.store_mk, State.store_fold, *]
@[simp] theorem State.keySetOwner_store {s x key} : State.store (State.keySetOwner s x key) = State.store s := by
  unfold State.keySetOwner; simp (maxDischargeDepth := 60) [State.store_mk, State.store_fold, *]
@[simp] theorem State.keepalive_store {s k seq data} : State.store (State.keepalive s k seq data) = State.store s := by
  unfold State.keepalive; simp (maxDischargeDepth := 60) [State.store_mk, State.store_fold, *]

/-! Machine/Frames.lean -/

@[simp] theorem State.badEntry_store {s x code} : State.store (State.badEntry s x code) = State.store s := by
  unfold State.badEntry; simp (maxDischargeDepth := 60) [State.store_mk, State.store_fold, *]
@[simp] theorem State.answerBusy_store {s k seq payload} : State.store (State.answerBusy s k seq payload) = State.store s := by
  unfold State.answerBusy; simp (maxDischargeDepth := 60) [State.store_mk, State.store_fold, *]
@[simp] theorem State.badFrame_store {s p} : State.store (State.badFrame s p) = State.store s := by
  unfold State.badFrame
  extract_lets v0
  have h_v0 : State.store v0 = State.store s := by subst v0; simp (maxDischargeDepth := 60) [State.store_mk, State.store_fold, *]
  clear_value v0
  simp (maxDischargeDepth := 60) [State.store_mk, State.store_fold, *]
@[simp] theorem State.holdFrame_store {s p src bytes} : State.store (State.holdFrame s p src bytes) = State.store s := by
  unfold State.holdFrame; simp (maxDischargeDepth := 60) [State.store_mk, State.store_fold, *]
@[simp] theorem State.hear_store {s k p src} : State.store (State.hear s k p src) = State.store s := by
  unfold State.hear; simp (maxDischargeDepth := 60) [State.store_mk, State.store_fold, *]
@[simp] theorem State.bulkFrameIn_store {s x bs} : State.store (State.bulkFrameIn s x bs) = State.store s := by
  unfold State.bulkFrameIn; simp (maxDischargeDepth := 60) [State.store_mk, State.store_fold, *]
@[simp] theorem State.flushOne_store {s p src bytes} : State.store (State.flushOne s p src bytes) = State.store s := by
  unfold State.flushOne; (repeat' split) <;> simp (maxDischargeDepth := 60) [State.store_mk, State.store_fold, *]
@[simp] theorem State.flushHeld_store {s} : State.store (State.flushHeld s) = State.store s := by
  unfold State.flushHeld; simp (maxDischargeDepth := 60) [State.store_mk, State.store_fold, *]

/-! Machine/Boundary.lean -/

@[simp] theorem State.latchLane_store {s n x lane} : State.store (State.latchLane s n x lane) = State.store s := by
  unfold State.latchLane; simp (maxDischargeDepth := 60) [State.store_mk, State.store_fold, *]
@[simp] theorem State.divTake_store {s} : State.store (State.divTake s) = State.store s := by
  unfold State.divTake; simp (maxDischargeDepth := 60) [State.store_mk, State.store_fold, *]
@[simp] theorem State.writesTake_store {s} : State.store (State.writesTake s) = State.store s := by
  unfold State.writesTake
  extract_lets v0 v1 v2 v3 v4
  clear_value v0
  have h_v1 : State.store v1 = State.store s := by subst v1; simp (maxDischargeDepth := 60) [State.store_mk, State.store_fold, *]
  clear_value v1
  have h_v2 : State.store v2 = State.store s := by subst v2; simp (maxDischargeDepth := 60) [State.store_mk, State.store_fold, *]
  clear_value v2
  have h_v3 : State.store v3 = State.store s := by subst v3; simp (maxDischargeDepth := 60) [State.store_mk, State.store_fold, *]
  clear_value v3
  have h_v4 : State.store v4 = State.store s := by subst v4; simp (maxDischargeDepth := 60) [State.store_mk, State.store_fold, *]
  clear_value v4
  simp (maxDischargeDepth := 60) [State.store_mk, State.store_fold, *]
@[simp] theorem State.rangeForced_store {s n} : State.store (State.rangeForced s n) = State.store s := by
  unfold State.rangeForced; simp (maxDischargeDepth := 60) [State.store_mk, State.store_fold, *]
@[simp] theorem State.rangeStep_store {s n} : State.store (State.rangeStep s n) = State.store s := by
  unfold State.rangeStep
  extract_lets v0 v1
  have h_v0 : State.store v0 = State.store s := by subst v0; simp (maxDischargeDepth := 60) [State.store_mk, State.store_fold, *]
  clear_value v0
  clear_value v1
  simp (maxDischargeDepth := 60) [State.store_mk, State.store_fold, *]
@[simp] theorem State.histLane_store {s n} : State.store (State.histLane s n) = State.store s := by
  unfold State.histLane; simp (maxDischargeDepth := 60) [State.store_mk, State.store_fold, *]
@[simp] theorem State.releaseDuty_store {s n} : State.store (State.releaseDuty s n) = State.store s := by
  unfold State.releaseDuty; (repeat' split) <;> simp (maxDischargeDepth := 60) [State.store_mk, State.store_fold, *]
@[simp] theorem State.countLane_store {s n dt} : State.store (State.countLane s n dt) = State.store s := by
  unfold State.countLane; simp (maxDischargeDepth := 60) [State.store_mk, State.store_fold, *]
@[simp] theorem State.countStep_store {s n dt} : State.store (State.countStep s n dt) = State.store s := by
  unfold State.countStep; (repeat' split) <;> simp (maxDischargeDepth := 60) [State.store_mk, State.store_fold, *]
@[simp] theorem State.checkMean_store {s n} : State.store (State.checkMean s n) = State.store s := by
  unfold State.checkMean; simp (maxDischargeDepth := 60) [State.store_mk, State.store_fold, *]
@[simp] theorem State.checkLane_store {s n} : State.store (State.checkLane s n) = State.store s := by
  unfold State.checkLane; dsimp only; (repeat' split) <;> simp +contextual (maxDischargeDepth := 60) [State.store_mk, State.store_fold, *]
@[simp] theorem State.metricLane_store {s n} : State.store (State.metricLane s n) = State.store s := by
  unfold State.metricLane; simp (maxDischargeDepth := 60) [State.store_mk, State.store_fold, *]
@[simp] theorem State.lanePeriod_store {s n dt} : State.store (State.lanePeriod s n dt) = State.store s := by
  unfold State.lanePeriod
  extract_lets v0
  have h_v0 : State.store v0 = State.store s := by subst v0; simp (maxDischargeDepth := 60) [State.store_mk, State.store_fold, *]
  clear_value v0
  simp (maxDischargeDepth := 60) [State.store_mk, State.store_fold, *]
@[simp] theorem State.lanes_store {s inp lane dt} : State.store (State.lanes s inp lane dt) = State.store s := by
  unfold State.lanes
  extract_lets v0 v1 v2 v3
  have h_v0 : State.store v0 = State.store s := by subst v0; simp (maxDischargeDepth := 60) [State.store_mk, State.store_fold, *]
  clear_value v0
  have h_v1 : State.store v1 = State.store s := by subst v1; simp (maxDischargeDepth := 60) [State.store_mk, State.store_fold, *]
  clear_value v1
  have h_v2 : State.store v2 = State.store s := by subst v2; simp (maxDischargeDepth := 60) [State.store_mk, State.store_fold, *]
  clear_value v2
  have h_v3 : State.store v3 = State.store s := by subst v3; simp (maxDischargeDepth := 60) [State.store_mk, State.store_fold, *]
  clear_value v3
  simp (maxDischargeDepth := 60) [State.store_mk, State.store_fold, *]
@[simp] theorem State.settleEnd_store {s n} : State.store (State.settleEnd s n) = State.store s := by
  unfold State.settleEnd; simp (maxDischargeDepth := 60) [State.store_mk, State.store_fold, *]
@[simp] theorem State.classTake_store {s n} : State.store (State.classTake s n) = State.store s := by
  unfold State.classTake; (repeat' split) <;> simp (maxDischargeDepth := 60) [State.store_mk, State.store_fold, *]
@[simp] theorem State.barBoundary_store {s} : State.store (State.barBoundary s) = State.store s := by
  unfold State.barBoundary; dsimp only; (repeat' split) <;> simp +contextual (maxDischargeDepth := 60) [State.store_mk, State.store_fold, *]
@[simp] theorem State.showBoundary_store {s} : State.store (State.showBoundary s) = State.store s := by
  unfold State.showBoundary
  extract_lets v0
  have h_v0 : State.store v0 = State.store s := by subst v0; simp (maxDischargeDepth := 60) [State.store_mk, State.store_fold, *]
  clear_value v0
  simp (maxDischargeDepth := 60) [State.store_mk, State.store_fold, *]
@[simp] theorem State.tick_store {s} : State.store (State.tick s) = State.store s := by
  unfold State.tick; simp (maxDischargeDepth := 60) [State.store_mk, State.store_fold, *]
@[simp] theorem State.shelfBoundary_store {s} : State.store (State.shelfBoundary s) = State.store s := by
  unfold State.shelfBoundary; simp (maxDischargeDepth := 60) [State.store_mk, State.store_fold, *]
@[simp] theorem State.ledgerBoundary_store {s} : State.store (State.ledgerBoundary s) = State.store s := by
  unfold State.ledgerBoundary; simp (maxDischargeDepth := 60) [State.store_mk, State.store_fold, *]
@[simp] theorem State.lateBoundary_store {s aux} : State.store (State.lateBoundary s aux) = State.store s := by
  unfold State.lateBoundary
  extract_lets v0 v1
  have h_v0 : State.store v0 = State.store s := by subst v0; simp (maxDischargeDepth := 60) [State.store_mk, State.store_fold, *]
  clear_value v0
  have h_v1 : State.store v1 = State.store s := by subst v1; simp (maxDischargeDepth := 60) [State.store_mk, State.store_fold, *]
  clear_value v1
  simp (maxDischargeDepth := 60) [State.store_mk, State.store_fold, *]
@[simp] theorem State.metLane_store {s n t o} : State.store (State.metLane s n t o) = State.store s := by
  unfold State.metLane
  extract_lets v0 v1 v2 v3
  clear_value v0
  clear_value v1
  have h_v2 : State.store v2 = State.store s := by subst v2; simp (maxDischargeDepth := 60) [State.store_mk, State.store_fold, *]
  clear_value v2
  have h_v3 : State.store v3 = State.store s := by subst v3; simp (maxDischargeDepth := 60) [State.store_mk, State.store_fold, *]
  clear_value v3
  simp (maxDischargeDepth := 60) [State.store_mk, State.store_fold, *]
@[simp] theorem State.metGang_store {s n t} : State.store (State.metGang s n t) = State.store s := by
  unfold State.metGang; simp (maxDischargeDepth := 60) [State.store_mk, State.store_fold, *]
@[simp] theorem State.ringTake_store {s t} : State.store (State.ringTake s t) = State.store s := by
  unfold State.ringTake; simp (maxDischargeDepth := 60) [State.store_mk, State.store_fold, *]
@[simp] theorem State.visitTake_store {s inp lane t} : State.store (State.visitTake s inp lane t) = State.store s := by
  unfold State.visitTake; (repeat' split) <;> simp (maxDischargeDepth := 60) [State.store_mk, State.store_fold, *]

end Sys2Proof.Machine
end

