-- ==== Sys2Proof/Tests/Slice0.lean ====
section
/-! SUPPORT. The package's own tests: an ill-formed term for each check of WellFormed, words and addresses written out from the
manual's tables and worked examples, and for every statement with hypotheses a state and operands that meet them, clause by
clause. Each witness theorem `witness_<Name>` holds one existential for each set of hypotheses in `Obligations.<Name>`. -/

open Sys2Proof Sys2Proof.Machine

set_option Elab.async false

namespace Sys2Proof.Tests

/-- A state with some fields set. -/
def st (l : List (Fld × Nat)) (s : State := State.reset) : State := l.foldl (fun s f => s.fset f.1 f.2) s

/-- A served shelf whose sessions are open and authenticated. -/
def served : State :=
  { boot := { done := true }, link := { sess := Vector.replicate 8 { opn := true, auth := true } } }

/-- An ASLP frame (R346), without a tag. -/
def frame (cls flags seq sess : Nat) (payload : List Byte) : List Byte :=
  let h := [1, BitVec.ofNat 8 cls] ++ le16 flags ++ le32 seq ++ le32 payload.length ++ le32 sess ++ payload
  h ++ le32 (crc32c h)

/-- Channels 4 to 7 as a gang of four. -/
def gang4 : State :=
  st ((F.CH_GANG_SIZE 4, 2) :: [(5 : Fin 128), 6, 7].flatMap fun m => [(F.CH_GANG_MEMBER m, 1), (F.CH_STATE_STATE m, 6)])

/-- An Alile image (R361) with an empty body, its checksum right. -/
def image : List Byte :=
  let h := le32 0x47494C41 ++ le32 1 ++ le32 0xA19128B0 ++ le32 7 ++ List.replicate 16 0
  h ++ le32 (crc32c h) ++ List.replicate 64 0

/-- A shelf with that image in its staging buffer. -/
def withImage : State :=
  { served.fset F.HL_BULK_WOPEN 1 with
    link := { bulk := { total := 100, buf := (List.range 100).map fun k => ⟨k, image.getD k 0⟩ } } }

/-! WellFormed: each check refuses. -/

theorem test_wf_address : Instr.wf (.registerWrite (2 ^ 32) 0) = false := by decide
theorem test_wf_word : Instr.wf (.bulkOpen .spi (2 ^ 32)) = false := by decide
theorem test_wf_half : Instr.wf (.ack .spi (2 ^ 16) 0) = false := by decide
theorem test_wf_time : Instr.wf (.ppsEdge 10000) = false := by decide
theorem test_wf_block : Instr.wf (.writeBlock .spi 0 (List.replicate 257 0)) = false := by decide +kernel
theorem test_wf_frame (n : Nat) (h : 2 ^ 16 ≤ n) : Instr.wf (.spiWrite (List.replicate n 0)) = false := by
  simp [Instr.wf, wfFrame]; omega
theorem test_wf_bytes : Instr.wf (.authPhase1 .anon [0]) = false := by decide
theorem test_wf_delta : Instr.wf (.deltaSample 0 32768 0) = false := by decide
theorem test_wf_raw : Instr.wf (.deltaSample 0 0 (2 ^ 31)) = false := by decide

/-! The manual's own words, addresses and numbers. -/

/-- R148: `cc g1, g2` encodes as 0x0449_0000. -/
theorem test_word_cc : bitsOf 0x04490000 26 6 = 1 ∧ wordFields 0x04490000 = { a := 1, b := 2, s := 1, imm := 0 } := by
  decide +kernel
/-- R150: `armv g2` encodes as 0x4880_0000. -/
theorem test_word_armv : bitsOf 0x48800000 26 6 = 0x12 ∧ wordFields 0x48800000 = { a := 2, b := 0, s := 0, imm := 0 } := by
  decide +kernel
/-- R150: `armtap g5, g4, 600` encodes as 0x5150_0258. -/
theorem test_word_armtap :
    bitsOf 0x51500258 26 6 = 0x14 ∧ wordFields 0x51500258 = { a := 5, b := 4, s := 0, imm := 600 } := by decide +kernel
/-- R2, and the session example of the host link: GL_ID reads 0xA191_28B0, CH_CHK of channel 12 lies at 0x0010_303C. -/
theorem test_addresses : Reg.ofAddr 0x0010303C = some (.CH_CHK 12) ∧ State.reset.readReg .GL_ID = 0xA19128B0 := by decide +kernel
/-- The rack manager's cap: the PEC of 0x84, 0xD0, 0xA0 and 0x0F is 0x73. -/
theorem test_pec : pecOf [0x84, 0xD0, 0xA0, 0x0F] = 0x73 := by decide +kernel
/-- The shunt correction on channel 37: its entry lies at 0x0031_4B98 in the shadow table. -/
theorem test_cal_entry : calShadow + calOffset 37 1 2 3 = 0x00314B98 := by decide
/-- The table gives no row bits. -/
theorem test_no_table_word : decodeTableWord 32 0x04490000 = none := rfl
/-- R14: a key other than 0x4E5A leaves the lock closed. -/
theorem test_lock_key : (match exec (.lockClose 0x4E5B) (st [(F.GL_LOCK_OPEN, 1)]) with
    | .next t => t.flag F.GL_LOCK_OPEN
    | _ => true) = false := by decide +kernel
/-- R4, R13: an idle block stays as it is. -/
theorem test_idle : step State.reset = .next State.reset := rfl

/-! Witnesses. -/

theorem witness_StepRunsTheFrontCommand :
    ∃ s : State, (s.pending = []) :=
  ⟨State.reset, by decide +kernel⟩

theorem witness_CommandsGoOnAndLeaveTheQueue :
    ∃ c : Instr, ∃ s : State, ∃ t : State, (exec c s = .next t) :=
  ⟨.lockOpen, State.reset, _, rfl⟩

theorem witness_StepsKeepCanonicalForm :
    ∃ s : State, ∃ t : State, (s.wf = true) ∧ (step s = .next t) :=
  ⟨{ pending := [.lockOpen] }, _, by decide +kernel, rfl⟩

theorem witness_HostWritesByFieldType :
    (∃ r : Reg, (r.relations = []))
    ∧ (∃ r : Reg, ∃ q, (r.relations = []) ∧ (q ≠ r)) :=
  ⟨⟨.LN_CFG, by decide +kernel⟩,
  ⟨.LN_CFG, .GL_ID, by decide +kernel⟩⟩

theorem witness_RegisterWriteByPlace :
    (∃ r : Reg, (r ≠ .BT_PWMF 8))
    ∧ (∃ a : Nat, (a % 4 = 0) ∧ (0x200000 ≤ a) ∧ (a < 0x280000))
    ∧ (∃ a : Nat, (a % 4 = 0) ∧ (0x310000 ≤ a) ∧ (a < 0x320000))
    ∧ (∃ a : Nat, (a % 4 = 0) ∧ (0x400000 ≤ a) ∧ (a < 0xE00000))
    ∧ (∃ a : Nat, (a % 4 ≠ 0 ∨ 0xE00000 ≤ a)) :=
  ⟨⟨.GL_LOCK, by decide +kernel⟩,
  ⟨0x27FFFC, by decide +kernel⟩,
  ⟨0x310000, by decide +kernel⟩,
  ⟨0xDFFFFC, by decide +kernel⟩,
  ⟨0xE00000, by decide +kernel⟩⟩

theorem witness_AccessErrorsChangeNothing :
    (∃ a : Nat, (a % 4 ≠ 0 ∨ occupied a = false))
    ∧ (∃ a : Nat, (a < 0x200000))
    ∧ (∃ r : Reg, (r ≠ .BT_PWMF 8)) :=
  ⟨⟨0x280000, by decide +kernel⟩,
  ⟨0x1FFFFF, by decide +kernel⟩,
  ⟨.GL_ID, by decide +kernel⟩⟩

theorem witness_LowWordReadLatchesHigh :
    (∃ lo : Reg, ∃ hi : Reg, (lo.pairHigh = some hi))
    ∧ (∃ lo : Reg, ∃ hi : Reg, (lo.pairHigh = some hi))
    ∧ (∃ s : State, ∃ lo : Reg, ∃ hi : Reg, (lo.pairHigh = some hi) ∧ (regFind s.held64 hi = none))
    ∧ (∃ _s : State, ∃ lo : Reg, ∃ hi : Reg, ∃ _v : Word, ∃ _w : Word, ((∃ n, lo = .CH_AH n ∨ lo = .CH_WH n)) ∧ (lo.pairHigh =
      some hi)) :=
  ⟨⟨.CK_TIME, .CK_TIMEH, by decide +kernel⟩,
  ⟨.CH_AH 127, .CH_AHH 127, by decide +kernel⟩,
  ⟨State.reset, .FD_EIN 1, .FD_EINH 1, by decide +kernel⟩,
  ⟨State.reset, .CH_WH 0, .CH_WHH 0, 1, 2, ⟨0, Or.inr rfl⟩, rfl⟩⟩

theorem witness_CommandsStayInTheirGroups :
    ∃ c : Instr, ∃ s : State, ∃ t : State, ∃ r : Reg, (exec c s = .next t) ∧ (r.group ∉ c.groups) :=
  ⟨.lockOpen, State.reset, _, .LG_CAP_W, rfl, by decide +kernel⟩

theorem witness_MemoryAndLanesMoveByTheirCommands :
    (∃ c : Instr, ∃ s : State, ∃ t : State, (exec c s = .next t) ∧ (c.mayStore = false))
    ∧ (∃ c : Instr, ∃ s : State, ∃ t : State, (exec c s = .next t) ∧ (c.movesLanes = false)) :=
  ⟨⟨.lockOpen, State.reset, _, rfl, by decide +kernel⟩,
  ⟨.lockOpen, State.reset, _, rfl, by decide +kernel⟩⟩

theorem witness_ConfigurationIsTheHosts :
    ∃ c : Instr, ∃ s : State, ∃ t : State, ∃ r : Reg, (exec c s = .next t) ∧ (c.mayConfigure = false) ∧ (r.isConf = true) :=
  ⟨.lockOpen, State.reset, _, .EV_MASK 0, rfl, by decide +kernel⟩

theorem witness_LockOpensAndCloses :
    (∃ s : State, ∃ at_ : Nat, (s.lockAt = some at_) ∧ (at_ + 60 * sec ≤ s.time))
    ∧ (∃ s : State, ∃ at_ : Nat, (s.lockAt = some at_) ∧ (s.time < at_ + 60 * sec))
    ∧ (∃ s : State, ∃ low : Nat, (s.wf = true) ∧ (s.boot.vbias = true) ∧ (10000 ≤ low))
    ∧ (∃ s : State, (s.flag F.GL_STATE_SUPV = false))
    ∧ (∃ s : State, ∃ k : Fin 8, (s.mayGive (.slot k) .own) ∧ (s.lockBy = some (.slot k)))
    ∧ (∃ s : State, ∃ k : Fin 8, ((s.link.sess[k]).opn = true) ∧ (s.lockBy = some (.slot k)) ∧ ((s.link.sess[k]).heard +
      s.fget F.HL_CFG_STMO * sec < s.time)) :=
  ⟨⟨{ lockAt := some 0, time := 60 * sec }, 0, by decide +kernel⟩,
  ⟨{ lockAt := some 0, time := 60 * sec - 1 }, 0, by decide +kernel⟩,
  ⟨State.reset, 10000, by decide +kernel⟩,
  ⟨State.reset, by decide +kernel⟩,
  ⟨{ served with lockBy := some (.slot 0) }, 0, by unfold State.mayGive; decide +kernel⟩,
  ⟨{ served with lockBy := some (.slot 0), time := 10 ^ 15 }, 0, by decide +kernel⟩⟩

theorem witness_ShelfSafeAndService :
    (∃ s : State, (s.pmode ≠ mdAGING) ∧ (s.pmode ≠ mdDEEP) ∧ (s.shelf ≠ shSAFE))
    ∧ (∃ s : State, (s.pmode ≠ mdAGING) ∧ (s.pmode ≠ mdDEEP) ∧ (s.shelf = shSAFE))
    ∧ (∃ s : State, (s.shelf = shSTART) ∧ (s.boot.done = true) ∧ (s.maint.jtagIr ≠ 0) ∧ (s.feedOn = true) ∧ (s.flag
      F.FD_CBUS_VALID = true) ∧ (s.flag F.FD_CBUS_OVER = false))
    ∧ (∃ s : State, (s.boot.done = false ∨ s.feedOn = false ∨ s.flag F.FD_CBUS_VALID = false)) :=
  ⟨⟨State.reset, by decide +kernel⟩,
  ⟨st [(F.GL_STATE_SHELF, 4)], by decide +kernel⟩,
  ⟨st [(F.FD_FSTAT_STATE 0, 5), (F.FD_CBUS_VALID, 1)] served, by decide +kernel⟩,
  ⟨State.reset, by decide +kernel⟩⟩

theorem witness_CalibrationTableOperations :
    (∃ s : State, (s.calBusy = false))
    ∧ (∃ s : State, (s.calBusy = true))
    ∧ (∃ s : State, (s.flag F.LN_CALSTAT_BUSY = true) ∧ (s.lane.copyAt ≤ s.ctr))
    ∧ (∃ s : State, ∃ a : Nat, (s.wf = true) ∧ (a % 4 = 0) ∧ (calShadow ≤ a) ∧ (a < calShadow + 0x10000) ∧ (s.flag
      F.LN_CALSTAT_BUSY = false))
    ∧ (∃ off : Nat, (off % 8 = 0))
    ∧ (∃ off : Nat, ∃ v : Word, (off % 8 ≠ 0) ∧ (bitsOf v 25 2 ≠ 3) ∧ (off / 0x100 % 2 ≠ 0 ∨ off / 0x40 % 4 ≠ 3))
    ∧ (∃ off : Nat, ∃ v : Word, (off % 8 ≠ 0) ∧ (bitsOf v 25 2 = 3))
    ∧ (∃ off : Nat, (off % 8 ≠ 0) ∧ (off / 0x100 % 2 = 0) ∧ (off / 0x40 % 4 = 3)) :=
  ⟨⟨State.reset, by decide +kernel⟩,
  ⟨st [(F.LN_CALSTAT_SWPEND, 1)], by decide +kernel⟩,
  ⟨st [(F.LN_CALSTAT_BUSY, 1)], by decide +kernel⟩,
  ⟨State.reset, 0x31FFFC, by decide +kernel⟩,
  ⟨0xFFF8, by decide +kernel⟩,
  ⟨0x104, 0xF9FFFFFF, by decide +kernel⟩,
  ⟨0xFFFC, 0xFFFFFFFF, by decide +kernel⟩,
  ⟨0xC4, by decide +kernel⟩⟩

theorem witness_CalibrationTableOperations_2 :
    (∃ s : State, ∃ a : Nat, (a % 4 = 0) ∧ (calShadow ≤ a) ∧ (a < calShadow + 0x10000) ∧ (s.flag F.LN_CALSTAT_BUSY = true))
    ∧ (∃ a : Nat, (a % 4 ≠ 0 ∨ a < calShadow ∨ calShadow + 0x10000 ≤ a))
    ∧ (∃ s : State, ∃ d : Nat, (s.nv.calDue = some d) ∧ (d ≤ s.ctr)) :=
  ⟨⟨st [(F.LN_CALSTAT_BUSY, 1)], 0x310000, by decide +kernel⟩,
  ⟨0x320000, by decide +kernel⟩,
  ⟨{ nv := { calDue := some 0 } }, 0, by decide +kernel⟩⟩

theorem witness_FaultsClearAndOutputsLetGo :
    (∃ n : Fin 128, ∃ s : State, ∃ due : Nat, ((s.lane1 n).l.openBy = some due) ∧ (s.idle n = true) ∧ ((s.lowCurrent n = true
      ∨ due ≤ s.time)))
    ∧ (∃ n : Fin 128, ∃ s : State, (s.chState n = stSTOP) ∧ ((s.curr n).natAbs < 50000)) :=
  ⟨⟨0, State.modL State.reset 0 fun x => { x with openBy := some 0 }, 0, by decide +kernel⟩,
  ⟨127, st [(F.CH_STATE_STATE 127, 3)], by decide +kernel⟩⟩

theorem witness_StoreAndProgramWrites :
    (∃ s : State, ∃ a : Nat, ∃ vals : List Word, (s.wf = true) ∧ (a % 4 = 0) ∧ (storeBase ≤ a) ∧ (a + 4 * vals.length ≤
      storeEnd) ∧ ((∀ k < vals.length, s.storeLocked (a + 4 * k) = false)))
    ∧ (∃ s : State, ∃ a : Nat, ∃ k : Nat, ∃ vals : List Word, (a % 4 = 0) ∧ (storeBase ≤ a) ∧ (a + 4 * vals.length ≤ storeEnd)
      ∧ (k < vals.length) ∧ (s.storeLocked (a + 4 * k) = true))
    ∧ (∃ a : Nat, ∃ vals : List Word, (a % 4 ≠ 0 ∨ a < storeBase ∨ storeEnd < a + 4 * vals.length))
    ∧ (∃ s : State, ∃ n : Fin 128, ∃ a : Nat, (s.chState n = stRUN ∨ s.chState n = stSTOP) ∧ ((a - storeBase) / 0x40000 =
      s.fget (F.CH_PROG_ACT n)) ∧ (s.fget (F.CH_PROG_BASE n) ≤ (a - storeBase) % 0x40000 / 4) ∧ ((a - storeBase) % 0x40000 / 4
      < s.fget (F.CH_PROG_BASE n) + s.fget (F.CH_PROG_LEN n) * 16))
    ∧ (∃ s : State, ((∀ n, s.chState n ≠ stRUN ∧ s.chState n ≠ stSTOP)) ∧ (s.flag F.CS_SHSTAT_RUN = false))
    ∧ (∃ s : State, ∃ n : Fin 128, ∃ v : Word, (s.chState n = stPARKED) ∧ (bitsOf v 0 16 + bitsOf v 16 12 * 16 ≤ 65536))
    ∧ (∃ s : State, ∃ n : Fin 128, ∃ v : Word, (s.chState n ≠ stPARKED) ∧ (bitsOf v 0 28 ≠ bitsOf (s.word (.CH_PROG n)) 0 28))
    ∧ (∃ s : State, ∃ n : Fin 128, ∃ v : Word, (bitsOf v 0 28 = bitsOf (s.word (.CH_PROG n)) 0 28) ∧ (bitsOf v 0 16 + bitsOf v
      16 12 * 16 ≤ 65536)) :=
  ⟨⟨State.reset, 0x27FFFC, [1], by decide +kernel⟩,
  ⟨st [(F.CH_PROG_LEN 0, 1)] (st [(F.CH_STATE_STATE 0, 2)]), 0x200000, 0, [1], by decide +kernel⟩,
  ⟨0x280000, [1], by decide +kernel⟩,
  ⟨st [(F.CH_PROG_LEN 0, 1)] (st [(F.CH_STATE_STATE 0, 2)]), 0, 0x20003C, by decide +kernel⟩,
  ⟨State.reset, by decide +kernel⟩,
  ⟨State.reset, 0, 0x1FFF0, by decide +kernel⟩,
  ⟨st [(F.CH_STATE_STATE 0, 2)], 0, 1, by decide +kernel⟩,
  ⟨State.reset, 0, 0x10000000, by decide +kernel⟩⟩

theorem witness_StartsStopsAndSlotRules :
    (∃ s : State, ∃ n : Fin 128, (s.chState n = stPARKED) ∧ (s.flag (F.CH_GANG_MEMBER n) = false) ∧ (s.fget (F.CH_PROG_LEN n)
      ≠ 0) ∧ (s.adoptWaits n = false) ∧ (s.flag F.GL_MODE_REFUSED = false) ∧ (s.divPending = false))
    ∧ (∃ s : State, ∃ n : Fin 128, (s.chState n ≠ stPARKED ∨ s.flag (F.CH_GANG_MEMBER n) = true))
    ∧ (∃ s : State, ∃ n : Fin 128, (s.chState n = stPARKED) ∧ (s.flag (F.CH_GANG_MEMBER n) = false) ∧ (s.fget (F.CH_PROG_LEN
      n) = 0))
    ∧ (∃ s : State, ∃ n : Fin 128, (s.chState n = stRUN ∨ s.chState n = stBRIDGE))
    ∧ (∃ s : State, ∃ n : Fin 128, (s.chState n = stPARKED))
    ∧ (∃ s : State, (s.flag F.CS_SHSTAT_RUN = false) ∧ (s.fget F.CS_SPARE_SST ≠ 0))
    ∧ (∃ s : State, (s.flag F.CS_SHSTAT_RUN = true ∨ s.fget F.CS_SPARE_SST = 0))
    ∧ (∃ s : State, ∃ c : Ctx, ∃ at_ : Nat, (s.live c = true) ∧ (s.susp c = .timed at_) ∧ (at_ ≤ s.ctr)) :=
  ⟨⟨st [(F.CH_PROG_LEN 0, 1)], 0, by decide +kernel⟩,
  ⟨st [(F.CH_STATE_STATE 0, 2)], 0, by decide +kernel⟩,
  ⟨State.reset, 0, by decide +kernel⟩,
  ⟨st [(F.CH_STATE_STATE 0, 2)], 0, by decide +kernel⟩,
  ⟨State.reset, 0, by decide +kernel⟩,
  ⟨State.reset, by decide +kernel⟩,
  ⟨st [(F.CS_SHSTAT_RUN, 1)], by decide +kernel⟩,
  ⟨{ st [(F.CS_SHSTAT_RUN, 1)] with sh := { susp := .timed 0 } }, .shelf, 0, by decide +kernel⟩⟩

theorem witness_StartsStopsAndSlotRules_2 :
    (∃ s : State, ∃ n : Fin 128, (s.chState n = stRUN) ∧ ((s.lane1 n).x.step = none) ∧ (2 ≤ (s.lane1 n).x.gapN) ∧ ((s.lane1
      n).x.gapHold = false) ∧ ((s.lane1 n).x.lastMode ≠ 0) ∧ ((s.lane1 n).x.lastMode ≠ 8) ∧ ((s.lane1 n).x.lastMode ≠ 9))
    ∧ (∃ s : State, ∃ n : Fin 128, ∃ st : OpenStep, (s.live (.chan n) = true) ∧ ((s.lane1 n).x.step = some st) ∧ (s.degLimit ≤
      st.deg) ∧ ((s.lane1 n).x.stopPend = none) ∧ (lowestArm (s.satNow n s.ctr).1 = none) ∧ ((s.lane1 n).x.arms.deg = true))
    ∧ (∃ s : State, ∃ n : Fin 128, ∃ st : OpenStep, (s.live (.chan n) = true) ∧ ((s.lane1 n).x.step = some st) ∧ (s.degLimit ≤
      st.deg) ∧ ((s.lane1 n).x.stopPend = none) ∧ (lowestArm (s.satNow n s.ctr).1 = none) ∧ ((s.lane1 n).x.arms.deg = false) ∧
      (st.degDone = false))
    ∧ (∃ s : State, ∃ n : Fin 128, (s.clustersRun = true) ∧ ((s.lane1 n).x.slotDue = true))
    ∧ (∃ s : State, ∃ n : Fin 128, ((s.lane1 n).x.slotDue = true) ∧ (s.chState n ≠ stRUN) ∧ (s.chState n ≠ stBRIDGE))
    ∧ (∃ s : State, (s.clustersRun = true) ∧ (s.sh.slotDue = true))
    ∧ (∃ s : State, ∃ n : Fin 128, ((s.lane1 n).x.slotDue = false ∨ s.clustersRun = false))
    ∧ (∃ s : State, (s.sh.slotDue = false ∨ s.clustersRun = false)) :=
  ⟨⟨(st [(F.CH_STATE_STATE 0, 2)]).modX 0 fun x => { x with gapN := 2, lastMode := 1 }, 0, by decide +kernel⟩,
  ⟨(st [(F.CH_STATE_STATE 0, 2)]).modX 0 fun x => { x with step := some { mode := 1, deg := 1000000000 }, arms := { deg := true } }, 0, { mode := 1, deg := 1000000000 }, by decide +kernel⟩,
  ⟨(st [(F.CH_STATE_STATE 0, 2)]).modX 0 fun x => { x with step := some { mode := 1, deg := 1000000000 } }, 0, { mode := 1, deg := 1000000000 }, by decide +kernel⟩,
  ⟨State.modX State.reset 0 fun x => { x with slotDue := true }, 0, by decide +kernel⟩,
  ⟨State.modX State.reset 0 fun x => { x with slotDue := true }, 0, by decide +kernel⟩,
  ⟨{ sh := { slotDue := true } }, by decide +kernel⟩,
  ⟨State.reset, 0, by decide +kernel⟩,
  ⟨State.reset, by decide +kernel⟩⟩

theorem witness_BoundaryRunsLatchesAndCounts :
    (∃ s : State, (s.boot.vbias = false))
    ∧ (∃ s : State, (s.boot.vbias = true))
    ∧ (∃ s : State, ∃ n : Fin 128, (s.adopted n = false))
    ∧ (∃ s : State, ∃ n : Fin 128, ∃ d : Nat, ((s.lane1 n).l.midDue = false) ∧ ((s.lane1 n).l.dutyNext = some d))
    ∧ (∃ s : State, ∃ n : Fin 128, ((s.lane1 n).l.midDue = true))
    ∧ (∃ s : State, ∃ n : Fin 128, ∃ st : OpenStep, ((s.lane1 n).x.step = some st) ∧ (s.closed n = true) ∧ (st.start.any (fun
      t => decide (t < s.ctr)) = true) ∧ (s.gangSize n = 1)) :=
  ⟨⟨{ boot := { vbias := false } }, by decide +kernel⟩,
  ⟨State.reset, by decide +kernel⟩,
  ⟨State.reset, 0, by decide +kernel⟩,
  ⟨State.modL State.reset 0 fun x => { x with dutyNext := some 5 }, 0, 5, by decide +kernel⟩,
  ⟨State.modL State.reset 0 fun x => { x with midDue := true, phA := .run }, 0, by decide +kernel⟩,
  ⟨{ (st [(F.CH_STATE_OSWC 0, 1)]).modX 0 fun x => { x with step := some { mode := 1, start := some 0 } } with ctr := 10000 }, 0, { mode := 1, start := some 0 }, by decide +kernel⟩⟩

theorem witness_MetrologyAndTemperaturesShow :
    (∃ s : State, (s.ctr % 100000 = 0) ∧ (400000 ≤ s.ctr) ∧ (s.metRuns (s.ctr - 400000) = true) ∧ (s.lane.metAt ≠ some (s.ctr
      - 400000)))
    ∧ (∃ s : State, (s.ctr % 100000 ≠ 0 ∨ s.ctr < 400000 ∨ s.lane.metAt = some (s.ctr - 400000)))
    ∧ (∃ s : State, (s.ctr % 250000000 = 0) ∧ (s.clustersRun = true) ∧ (s.tst.roundAt ≠ some s.ctr))
    ∧ (∃ s : State, (s.ctr % 250000000 ≠ 0 ∨ s.clustersRun = false ∨ s.tst.roundAt = some s.ctr)) :=
  ⟨⟨{ served with ctr := 400000 }, by decide +kernel⟩,
  ⟨{ served with ctr := 300000 }, by decide +kernel⟩,
  ⟨State.reset, by decide +kernel⟩,
  ⟨{ ctr := 1 }, by decide +kernel⟩⟩

theorem witness_PhasesAndTripsOfAChannel :
    (∃ s : State, ∃ n : Fin 128, ∃ b : Bool, ∃ t : Nat, (s.cycleDue n b = some t) ∧ (0 < s.tnow))
    ∧ (∃ s : State, ∃ n : Fin 128, (s.gangSize (s.leader n) = 1))
    ∧ (∃ s : State, ∃ n : Fin 128, ∃ b : Bool, (s.cycleDue n b = none))
    ∧ (∃ s : State, ∃ n : Fin 128, ∃ b : Bool, ∃ at_ : Nat, (s.cycleDue n b = some at_) ∧ ((if b then (s.lane1 n).l.phB else
      (s.lane1 n).l.phA) = .run) ∧ (¬((s.lane1 n).l.shedReq = true ∧ s.flag (F.CH_STATE_KEPT n) ≠ b)))
    ∧ (∃ s : State, ∃ n : Fin 128, ∃ b : Bool, ∃ at_ : Nat, (s.cycleDue n b = some at_) ∧ ((if b then (s.lane1 n).l.phB else
      (s.lane1 n).l.phA) = .run) ∧ ((s.lane1 n).l.shedReq = true) ∧ (s.flag (F.CH_STATE_KEPT n) ≠ b))
    ∧ (∃ s : State, ∃ n : Fin 128, ∃ b : Bool, ∃ at_ : Nat, (s.cycleDue n b = some at_) ∧ ((if b then (s.lane1 n).l.phB else
      (s.lane1 n).l.phA) = .mid) ∧ ((s.lane1 n).l.restoreReq = true))
    ∧ (∃ s : State, ∃ n : Fin 128, (200 ≤ (s.lane1 n).l.shedN) ∧ (s.flag (F.CH_STATE_NPH n) = true) ∧ (s.shedFree n = true))
    ∧ (∃ s : State, ∃ n : Fin 128, ∃ due : Nat, ((s.lane1 n).l.openBy = some due) ∧ ((s.chState (s.leader n) = stRUN ∨
      s.chState (s.leader n) = stBRIDGE)) ∧ (s.resting (s.leader n) = true) ∧ ((s.lane1 (s.leader n)).c.ph ≠ .quiet) ∧
      ((s.lowCurrent n = true ∨ due ≤ s.time))) :=
  ⟨⟨State.reset, 0, true, 2000000000, by decide +kernel⟩,
  ⟨State.reset, 0, by decide +kernel⟩,
  ⟨State.modL State.reset 0 fun x => { x with cycNext := Vector.replicate 2 (10 ^ 20) }, 0, true, by decide +kernel⟩,
  ⟨State.modL State.reset 0 fun x => { x with phB := .run }, 0, true, 2000000000, by decide +kernel⟩,
  ⟨State.modL State.reset 0 fun x => { x with phB := .run, shedReq := true }, 0, true, 2000000000, by decide +kernel⟩,
  ⟨State.modL State.reset 0 fun x => { x with restoreReq := true }, 0, true, 2000000000, by decide +kernel⟩,
  ⟨(st [(F.CH_STATE_NPH 0, 1), (F.CH_PWM_SHED 0, 1)] (st [(F.CH_STATE_STATE 0, 2)])).modL 0 fun x => { x with shedN := 200 }, 0, by decide +kernel⟩,
  ⟨((st [(F.CH_STATE_STATE 0, 2)]).modL 0 fun x => { x with openBy := some 0 }).modX 0 fun x => { x with lastMode := 8 }, 0, 0, by decide +kernel⟩⟩

theorem witness_PhasesAndTripsOfAChannel_2 :
    (∃ s : State, ∃ n : Fin 128, ∃ due : Nat, ((s.lane1 n).l.openBy = some due) ∧ ((s.chState (s.leader n) = stRUN ∨ s.chState
      (s.leader n) = stBRIDGE)) ∧ ((s.lane1 (s.leader n)).c.ph = .quiet) ∧ ((s.lowCurrent n = true ∨ due ≤ s.time)) ∧
      ((s.lane1 (s.leader n)).l.engaged = false) ∧ ((∀ j ∈ s.gang (s.leader n), j ≠ n → s.flag (F.CH_STATE_OSWC j) = false)))
    ∧ (∃ s : State, ∃ n : Fin 128, (5 ≤ (s.lane1 n).p.ssN) ∧ (s.flag (F.CH_STATE_SS (s.leader n)) = true))
    ∧ (∃ s : State, (s.fsel.busN < 10) ∧ (s.fsel.busHiN < 10))
    ∧ (∃ s : State, ((10 ≤ s.fsel.busN ∨ 10 ≤ s.fsel.busHiN)) ∧ ((∀ m, s.flag (F.CH_GANG_MEMBER m) = false ∧ s.fget
      (F.CH_GANG_SIZE m) = 0)))
    ∧ (∃ s : State, ∃ n : Fin 128, ∃ b : Nat, ∃ bs : List Nat, (s.flag (F.CH_GANG_MEMBER n) = false) ∧ (s.chState n ≠
      stPARKED) ∧ (s.chState n ≠ stABSENT) ∧ ((∀ k ∈ b :: bs, k < 15)))
    ∧ (∃ s : State, ∃ n : Fin 128, ∃ b : Nat, ∃ bs : List Nat, (s.flag (F.CH_GANG_MEMBER n) = false) ∧ (s.chState n ≠
      stPARKED) ∧ (s.chState n ≠ stABSENT) ∧ ((∀ k ∈ b :: bs, k < 15)) ∧ (s.fget (F.CH_FAULT_FIRST n) = 0))
    ∧ (∃ s : State, ∃ n : Fin 128, ∃ b : Nat, ∃ bs : List Nat, ∃ m, (s.flag (F.CH_GANG_MEMBER n) = false) ∧ (s.chState n ≠
      stPARKED) ∧ (s.chState n ≠ stABSENT) ∧ ((∀ k ∈ b :: bs, k < 15)) ∧ (m ∉ s.gang n) ∧ (m ≠ n))
    ∧ (∃ s : State, ∃ n : Fin 128, ∃ b : Nat, (s.flag (F.CH_GANG_MEMBER n) = false) ∧ (s.chState n ≠ stPARKED) ∧ (s.chState n
      ≠ stABSENT) ∧ (b < 15)) :=
  ⟨⟨((st [(F.CH_STATE_STATE 0, 2)]).modL 0 fun x => { x with openBy := some 0 }).modC 0 fun x => { x with ph := .quiet }, 0, 0, by decide +kernel⟩,
  ⟨(st [(F.CH_STATE_SS 0, 1)]).modP 0 fun x => { x with ssN := 5 }, 0, by decide +kernel⟩,
  ⟨State.reset, by decide +kernel⟩,
  ⟨{ fsel := { busHiN := 10 } }, by decide +kernel⟩,
  ⟨st [(F.CH_STATE_STATE 0, 2)], 0, 14, [0], by decide +kernel⟩,
  ⟨st [(F.CH_STATE_STATE 0, 2)], 0, 14, [0], by decide +kernel⟩,
  ⟨st [(F.CH_STATE_STATE 0, 2)], 0, 14, [0], 127, by decide +kernel⟩,
  ⟨st [(F.CH_STATE_STATE 0, 2)], 0, 14, by decide +kernel⟩⟩

theorem witness_PhasesAndTripsOfAChannel_3 :
    ∃ s : State, ∃ n : Fin 128, ∃ k : Nat, (s.flag (F.CH_GANG_MEMBER n) = false) ∧ (k < 8) :=
  ⟨State.reset, 0, 7, by decide +kernel⟩

theorem witness_PwmPeriodAndGangs :
    (∃ s : State, ∃ v : Word, (1000 ≤ bitsOf v 0 14) ∧ (bitsOf v 0 14 ≤ 8000) ∧ (s.flag F.GL_LOCK_OPEN = true) ∧ (s.allIdle =
      true) ∧ (s.axOff = true))
    ∧ (∃ s : State, (s.allIdle = false ∨ s.axOff = false))
    ∧ (∃ s : State, ∃ v : Word, (s.allIdle = true) ∧ (s.axOff = true) ∧ (bitsOf v 0 14 < 1000 ∨ 8000 < bitsOf v 0 14))
    ∧ (∃ s : State, ∃ v : Word, (s.allIdle = true) ∧ (s.axOff = true) ∧ (1000 ≤ bitsOf v 0 14) ∧ (bitsOf v 0 14 ≤ 8000) ∧
      (s.flag F.GL_LOCK_OPEN = false))
    ∧ (∃ s : State, (0 < s.tnow))
    ∧ (∃ s : State, ∃ t : Nat, ∃ p : Nat, (s.effFlag F.CK_SYNC_SYNCEN = true) ∧ (s.clk.syncAt = some p) ∧ (s.tsw * 9 ≤ (s.time
      * 1000 + t - p) * 10) ∧ ((s.time * 1000 + t - p) * 10 ≤ s.tsw * 11))
    ∧ (∃ s : State, ∃ t : Nat, ∃ p : Nat, (s.effFlag F.CK_SYNC_SYNCEN = true) ∧ (s.clk.syncAt = some p) ∧ ((s.time * 1000 + t
      - p) * 10 < s.tsw * 9 ∨ s.tsw * 11 < (s.time * 1000 + t - p) * 10))
    ∧ (∃ s : State, (s.effFlag F.CK_SYNC_SYNCEN = true) ∧ (s.clk.syncAt = none)) :=
  ⟨⟨st [(F.GL_LOCK_OPEN, 1)], 8000, by decide +kernel⟩,
  ⟨st [(F.CH_STATE_STATE 0, 2)], by decide +kernel⟩,
  ⟨State.reset, 999, by decide +kernel⟩,
  ⟨State.reset, 1000, by decide +kernel⟩,
  ⟨State.reset, by decide +kernel⟩,
  ⟨{ st [(F.CK_SYNC_SYNCEN, 1)] with clk := { syncAt := some 0 } }, 4400000, 0, by decide +kernel⟩,
  ⟨{ st [(F.CK_SYNC_SYNCEN, 1)] with clk := { syncAt := some 0 } }, 4400001, 0, by decide +kernel⟩,
  ⟨st [(F.CK_SYNC_SYNCEN, 1)], by decide +kernel⟩⟩

theorem witness_PwmPeriodAndGangs_2 :
    (∃ s : State, ∃ a : Nat, (s.effFlag F.CK_SYNC_SYNCEN = true) ∧ (s.clk.inWinAt = some a) ∧ (s.clk.syncLost = false) ∧ (a +
      2 * s.tsw < (s.time + 10000) * 1000))
    ∧ (∃ s : State, (s.effFlag F.CK_SYNC_SYNCEN = false))
    ∧ (∃ s : State, ∃ n : Fin 128, ∃ v : Word, (s.gangFree n (bitsOf v 0 2) = true) ∧ (s.flag (F.CH_GANG_MEMBER n) = false) ∧
      (s.gangReserved n (2 ^ bitsOf v 0 2) = false))
    ∧ (∃ s : State, ∃ n : Fin 128, (s.chState n ≠ stPARKED))
    ∧ (∃ s : State, ∃ n : Fin 128, ∃ v : Word, ∃ j : Nat, (bitsOf v 0 2 ≠ 0) ∧ (j < 2 ^ bitsOf v 0 2) ∧ (s.chState (Fin.ofNat
      128 (n.val + j)) ≠ stPARKED))
    ∧ (∃ s : State, ∃ n : Fin 128, ∃ v : Word, (s.gangFree n (bitsOf v 0 2) = true) ∧ (s.flag (F.CH_GANG_MEMBER n) = true ∨
      n.val % 2 ^ bitsOf v 0 2 ≠ 0))
    ∧ (∃ s : State, ∃ n : Fin 128, ∃ code : Nat, ((s.lane1 n).x.gangPend = some code) ∧ (code ≠ 0) ∧ (code < 4) ∧ (s.fget
      (F.CH_GANG_SIZE n) = 0) ∧ ((∀ j < 2 ^ code, s.chState (Fin.ofNat 128 (n.val + j)) = stPARKED)) ∧ (s.flag
      (F.CH_GANG_MEMBER n) = false) ∧ (s.gangReserved n (2 ^ code) = false))
    ∧ (∃ s : State, ∃ n : Fin 128, ∃ code : Nat, ∃ r : Reg, ((s.lane1 n).x.gangPend = some code) ∧ (code ≠ 0) ∧ (code < 4) ∧
      (s.fget (F.CH_GANG_SIZE n) = 0) ∧ ((∀ j < 2 ^ code, s.chState (Fin.ofNat 128 (n.val + j)) = stPARKED)) ∧ (s.flag
      (F.CH_GANG_MEMBER n) = false) ∧ (s.gangReserved n (2 ^ code) = false) ∧ (r ≠ .CH_FAULT n) ∧ ((∀ j < 2 ^ code, r ≠
      .CH_GANG (Fin.ofNat 128 (n.val + j)) ∧ r ≠ .CH_STATE (Fin.ofNat 128 (n.val + j))))) :=
  ⟨⟨{ st [(F.CK_SYNC_SYNCEN, 1)] with clk := { inWinAt := some 0 } }, 0, by decide +kernel⟩,
  ⟨st [(F.CK_SYNC_SYNCEN, 0)], by decide +kernel⟩,
  ⟨State.reset, 4, 2, by decide +kernel⟩,
  ⟨st [(F.CH_STATE_STATE 0, 2)], 0, by decide +kernel⟩,
  ⟨st [(F.CH_STATE_STATE 0, 2)], 0, 1, 0, by decide +kernel⟩,
  ⟨State.reset, 1, 1, by decide +kernel⟩,
  ⟨(State.modX State.reset 4 fun x => { x with gangPend := some 2 }), 4, 2, by decide +kernel⟩,
  ⟨(State.modX State.reset 4 fun x => { x with gangPend := some 2 }), 4, 2, .GL_ID, by decide +kernel, by decide +kernel, by decide +kernel, by decide +kernel, by decide +kernel, by decide +kernel, by decide +kernel, nofun, fun j _ => ⟨nofun, nofun⟩⟩⟩

theorem witness_PwmPeriodAndGangs_3 :
    ∃ s : State, ∃ n : Fin 128, ((s.lane1 n).x.gangPend = some 0) ∧ (s.chState n = stPARKED) ∧ (s.flag (F.CH_GANG_MEMBER n) =
      false) :=
  ⟨(gang4).modX 4 fun x => { x with gangPend := some 0 }, 4, by decide +kernel⟩

theorem witness_StartCheckPassesOrFails :
    (∃ s : State, ∃ n : Fin 128, (s.inCheck n .settle = true) ∧ ((s.lane1 n).c.at_ + 300000 ≤ s.time) ∧ ((s.gang n).find?
      s.shorted = none))
    ∧ (∃ s : State, ∃ n : Fin 128, (s.inCheck n .prebias = true) ∧ ((s.lane1 n).c.at_ < s.time) ∧ ((s.gang n).all s.prebiased
      = true))
    ∧ (∃ s : State, ∃ n : Fin 128, (s.inCheck n .closing = true) ∧ ((s.lane1 n).c.at_ + s.eff (F.CH_OSW_TCLOSE n) * 100000 ≤
      s.time) ∧ ((s.lane1 n).c.restExit = false))
    ∧ (∃ s : State, ∃ n : Fin 128, ∃ st : OpenStep, (s.inCheck n .closing = true) ∧ ((s.lane1 n).c.at_ + s.eff
      (F.CH_OSW_TCLOSE n) * 100000 ≤ s.time) ∧ ((s.lane1 n).c.restExit = true) ∧ ((s.lane1 n).x.step = some st))
    ∧ (∃ s : State, ∃ n : Fin 128, (s.inCheck n .zero = true) ∧ ((s.lane1 n).c.at_ + 1000000 ≤ s.time))
    ∧ (∃ s : State, ∃ n : Fin 128, ∃ a : Nat, (s.inCheck n .ramp = true) ∧ ((s.lane1 n).c.reached = some a) ∧ (a + 200000 ≤
      s.time))
    ∧ (∃ s : State, ∃ n : Fin 128, (s.inCheck n .learn = true) ∧ ((s.lane1 n).c.at_ + 1000000 ≤ s.time) ∧ ((s.gang n).find?
      (fun j => (s.pathOf j).isRight) = none))
    ∧ (∃ s : State, ∃ n : Fin 128, (s.inCheck n .down = true) ∧ (s.chState n = stCHECK) ∧ ((s.lane1 n).l.iref = 0)) :=
  ⟨⟨{ (st [(F.CH_STATE_STATE 0, 2)]).modC 0 fun x => { x with ph := .settle } with time := 300000 }, 0, by decide +kernel⟩,
  ⟨{ (st [(F.CH_STATE_STATE 0, 2)]).modC 0 fun x => { x with ph := .prebias } with time := 1 }, 0, by decide +kernel⟩,
  ⟨{ (st [(F.CH_STATE_STATE 0, 2)]).modC 0 fun x => { x with ph := .closing } with time := 10 ^ 9 }, 0, by decide +kernel⟩,
  ⟨{ ((st [(F.CH_STATE_STATE 0, 2)]).modC 0 fun x => { x with ph := .closing, restExit := true }).modX 0 fun x => { x with step := some { mode := 1 } } with time := 10 ^ 9 }, 0, { mode := 1 }, by decide +kernel⟩,
  ⟨{ (st [(F.CH_STATE_STATE 0, 2)]).modC 0 fun x => { x with ph := .zero } with time := 1000000 }, 0, by decide +kernel⟩,
  ⟨{ (st [(F.CH_STATE_STATE 0, 2)]).modC 0 fun x => { x with ph := .ramp, reached := some 0 } with time := 200000 }, 0, 0, by decide +kernel⟩,
  ⟨{ (st [(F.CH_STATE_STATE 0, 2)]).modC 0 fun x => { x with ph := .learn, avN := 1, avC := 20000, avI := 20000, avV := 200, cfg := 0xFFFF0000 } with time := 1000000 }, 0, by decide +kernel⟩,
  ⟨(st [(F.CH_STATE_STATE 0, 1)]).modC 0 fun x => { x with ph := .down }, 0, by decide +kernel⟩⟩

theorem witness_StartCheckPassesOrFails_2 :
    (∃ s : State, ∃ n : Fin 128, ∃ j : Fin 128, (s.inCheck n .settle = true) ∧ ((s.lane1 n).c.at_ + 300000 ≤ s.time) ∧
      ((s.gang n).find? s.shorted = some j))
    ∧ (∃ s : State, ∃ n : Fin 128, ∃ j : Fin 128, (s.inCheck n .prebias = true) ∧ ((s.lane1 n).c.at_ + 500000 ≤ s.time) ∧
      ((s.gang n).find? (fun k => !s.prebiased k) = some j))
    ∧ (∃ s : State, ∃ n : Fin 128, ∃ j : Fin 128, ∃ k : Nat, (s.inCheck n .learn = true) ∧ ((s.lane1 n).c.at_ + 1000000 ≤
      s.time) ∧ ((s.gang n).find? (fun m => (s.pathOf m).isRight) = some j) ∧ (s.pathOf j = .inr k))
    ∧ (∃ s : State, ∃ j : Fin 128, ∃ k : Nat, (s.pathOf j = .inr k))
    ∧ (∃ s : State, ∃ j : Fin 128, ((s.lane1 j).c.avC < 20000 * (s.lane1 j).c.avN)) :=
  ⟨⟨{ (st [(F.CH_STATE_STATE 0, 2)]).modC 0 fun x => { x with ph := .settle, nodeN := 1, nodeSum := 6500000 } with time := 300000 }, 0, 0, by decide +kernel⟩,
  ⟨{ ((st [(F.CH_STATE_STATE 0, 2)]).modC 0 fun x => { x with ph := .prebias }).modM 0 fun x => { x with node := 6000000 } with time := 500000 }, 0, 0, by decide +kernel⟩,
  ⟨{ (st [(F.CH_STATE_STATE 0, 2)]).modC 0 fun x => { x with ph := .learn } with time := 1000000 }, 0, 0, 5, by decide +kernel⟩,
  ⟨State.reset, 0, 5, by decide +kernel⟩,
  ⟨State.modC State.reset 0 fun x => { x with avN := 1 }, 0, by decide +kernel⟩⟩

theorem witness_DetectorsWearAndPulses :
    (∃ s : State, ∃ n : Fin 128, ∃ uv : Nat, ∃ held : Nat, (s.eff (F.CH_LIM_I_OCTH n) * 1000 < uv) ∧ (50 ≤ held))
    ∧ (∃ s : State, ∃ n : Fin 128, ∃ uv : Nat, ∃ held : Nat, (uv ≤ s.eff (F.CH_LIM_I_OCTH n) * 1000 ∨ held < 50))
    ∧ (∃ s : State, ∃ n : Fin 128, ∃ uv : Nat, ∃ held : Nat, (s.flag (F.CH_STATE_OSWC n) = true) ∧ (s.eff (F.CH_LIM_V_OVTH n)
      * 1000 < uv) ∧ (1000 ≤ held))
    ∧ (∃ s : State, ∃ n : Fin 128, ∃ uv : Nat, ∃ held : Nat, (s.flag (F.CH_STATE_OSWC n) = false ∨ uv ≤ s.eff (F.CH_LIM_V_OVTH
      n) * 1000 ∨ held < 1000))
    ∧ (∃ s : State, ∃ n : Fin 128, (10 ≤ (s.lane1 n).p.uvN) ∧ (s.flag (F.CH_STATE_OSWC n) = true))
    ∧ (∃ s : State, ∃ n : Fin 128, (((64 + s.eff (F.CH_FUSE_KT n)) * s.icOf n) * ((64 + s.eff (F.CH_FUSE_KT n)) * s.icOf n) ≤
      (s.lane1 n).p.h * 4096) ∧ (s.flag (F.CH_FAULT_FUSE n) = false))
    ∧ (∃ s : State, ∃ n : Fin 128, ((s.lane1 n).p.uvN < 10 ∨ s.flag (F.CH_STATE_OSWC n) = false))
    ∧ (∃ s : State, ∃ n : Fin 128, ∃ held : Nat, (s.flag (F.CH_STATE_OSWC n) = true) ∧ (s.eff (F.CH_STG_FLTQ n) * 100 ≤ held)) :=
  ⟨⟨State.reset, 0, 10000000, 50, by decide +kernel⟩,
  ⟨State.reset, 0, 0, 50, by decide +kernel⟩,
  ⟨st [(F.CH_STATE_OSWC 0, 1)], 0, 100000000, 1000, by decide +kernel⟩,
  ⟨State.reset, 0, 0, 0, by decide +kernel⟩,
  ⟨(st [(F.CH_STATE_OSWC 0, 1)]).modP 0 fun x => { x with uvN := 10 }, 0, by decide +kernel⟩,
  ⟨State.modP State.reset 0 fun x => { x with h := 10 ^ 20 }, 0, by decide +kernel⟩,
  ⟨State.reset, 0, by decide +kernel⟩,
  ⟨st [(F.CH_STATE_OSWC 0, 1)], 0, 10 ^ 9, by decide +kernel⟩⟩

theorem witness_DetectorsWearAndPulses_2 :
    (∃ s : State, ∃ n : Fin 128, ∃ held : Nat, (s.flag (F.CH_STATE_OSWC n) = false ∨ held < s.eff (F.CH_STG_FLTQ n) * 100))
    ∧ (∃ s : State, ∃ n : Fin 128, ∃ held : Nat, (s.flag (F.CH_STATE_OSWC n) = true) ∧ (held < s.eff (F.CH_STG_FLTQ n) * 100))
    ∧ (∃ s : State, ∃ n : Fin 128, (s.flag (F.CH_STATE_OSWC n) = false))
    ∧ (∃ s : State, ∃ n : Fin 128, ((s.lane1 n).p.binAt + 1 = s.time / 60000000000) ∧ (s.eff (F.CH_CTWEAR_RATE n) < (((s.lane1
      n).p.binNow :: (s.lane1 n).p.bins).take 59).foldl (· + ·) 0) ∧ (s.flag (F.CH_CTWEAR_WEAR n) = false))
    ∧ (∃ s : State, ∃ n : Fin 128, ((s.lane1 n).p.binAt + 1 = s.time / 60000000000) ∧ (2 * (((s.lane1 n).p.binNow :: (s.lane1
      n).p.bins).take 59).foldl (· + ·) 0 ≤ s.eff (F.CH_CTWEAR_RATE n)))
    ∧ (∃ s : State, ∃ n : Fin 128, (s.time / 60000000000 ≤ (s.lane1 n).p.binAt))
    ∧ (∃ s : State, ∃ n : Fin 128, ((s.lane1 n).p.driftAt < s.time / 1000000000) ∧ (s.flag (F.CH_CTWEAR_DRIFT n) = false) ∧
      (s.eff (F.CT_DELTA_DELTA n) * 10 ^ 9 * (s.lane1 n).p.driftN < 2 * (s.lane1 n).p.driftSum.natAbs))
    ∧ (∃ s : State, ∃ n : Fin 128, ((s.lane1 n).p.driftAt < s.time / 1000000000) ∧ (2 * (s.lane1 n).p.driftSum.natAbs ≤ s.eff
      (F.CT_DELTA_DELTA n) * 10 ^ 9 * (s.lane1 n).p.driftN)) :=
  ⟨⟨State.reset, 0, 0, by decide +kernel⟩,
  ⟨st [(F.CH_STATE_OSWC 0, 1)], 0, 0, by decide +kernel⟩,
  ⟨State.reset, 0, by decide +kernel⟩,
  ⟨{ State.modP State.reset 0 fun x => { x with binNow := 100000 } with time := 60 * 10 ^ 9 }, 0, by decide +kernel⟩,
  ⟨{ time := 60 * 10 ^ 9 }, 0, by decide +kernel⟩,
  ⟨State.reset, 0, by decide +kernel⟩,
  ⟨{ State.modP State.reset 0 fun x => { x with driftN := 1, driftSum := 10 ^ 18 } with time := 10 ^ 9 }, 0, by decide +kernel⟩,
  ⟨{ time := 10 ^ 9 }, 0, by decide +kernel⟩⟩

theorem witness_DetectorsWearAndPulses_3 :
    ∃ s : State, ∃ n : Fin 128, (s.time / 1000000000 ≤ (s.lane1 n).p.driftAt) :=
  ⟨State.reset, 0, by decide +kernel⟩

theorem witness_ContactBreakIsDetected :
    (∃ s : State, ∃ n : Fin 128, ((s.lane1 n).p.ctOpen = true ∨ (3 ≤ (s.lane1 n).p.ctN ∧ s.eff (F.CT_DELTA_CTEN n) = 1)))
    ∧ (∃ s : State, ∃ n : Fin 128, ∃ r : Int, ∃ w : Int, ∃ sat : Bool, ((s.lane1 n).p.ctOpen = false) ∧ ((s.lane1 n).p.ctN < 3
      ∨ s.eff (F.CT_DELTA_CTEN n) ≠ 1) ∧ (s.ctWatch n = true) ∧ ((sat = true ∨ w < r.natAbs)))
    ∧ (∃ s : State, ∃ n : Fin 128, ∃ r : Int, ∃ w : Int, ∃ sat : Bool, ((s.lane1 n).p.ctOpen = false) ∧ ((s.lane1 n).p.ctN < 3
      ∨ s.eff (F.CT_DELTA_CTEN n) ≠ 1) ∧ (s.ctWatch n = true) ∧ ((sat = true ∨ w < r.natAbs)))
    ∧ (∃ s : State, ∃ n : Fin 128, ((s.lane1 n).p.ctOpen = false) ∧ ((s.lane1 n).p.ctN < 3 ∨ s.eff (F.CT_DELTA_CTEN n) ≠ 1) ∧
      (s.ctWatch n = false))
    ∧ (∃ s : State, ∃ n : Fin 128, ((s.lane1 n).p.ctOpen = false) ∧ ((s.lane1 n).p.ctN < 3 ∨ s.eff (F.CT_DELTA_CTEN n) ≠ 1) ∧
      (s.ctWatch n = false))
    ∧ (∃ s : State, ∃ n : Fin 128, ∃ r : Int, ∃ w : Int, ((s.lane1 n).p.ctOpen = false) ∧ ((s.lane1 n).p.ctN < 3 ∨ s.eff
      (F.CT_DELTA_CTEN n) ≠ 1) ∧ (s.ctWatch n = true) ∧ (r.natAbs ≤ w))
    ∧ (∃ s : State, ∃ n : Fin 128, (3 ≤ (s.lane1 n).p.ctN) ∧ ((s.lane1 n).p.ctOpen = false) ∧ (s.eff (F.CT_DELTA_CTEN n) = 1)
      ∧ (s.flag (F.CH_GANG_MEMBER n) = false) ∧ (s.chState n ≠ stPARKED) ∧ (s.chState n ≠ stABSENT))
    ∧ (∃ s : State, ∃ n : Fin 128, ((s.lane1 n).p.ctOpen = true) ∧ ((s.lane1 n).p.ctLow = true)) :=
  ⟨⟨State.modP State.reset 0 fun x => { x with ctOpen := true }, 0, by decide +kernel⟩,
  ⟨st [(F.CH_STATE_OSWC 0, 1)], 0, 11, 10, false, by decide +kernel⟩,
  ⟨st [(F.CH_STATE_OSWC 0, 1)], 0, 11, 10, false, by decide +kernel⟩,
  ⟨State.reset, 0, by decide +kernel⟩,
  ⟨State.reset, 0, by decide +kernel⟩,
  ⟨st [(F.CH_STATE_OSWC 0, 1)], 0, 10, 10, by decide +kernel⟩,
  ⟨(st [(F.CT_DELTA_CTEN 0, 1)] (st [(F.CH_STATE_STATE 0, 2)])).modP 0 fun x => { x with ctN := 3 }, 0, by decide +kernel⟩,
  ⟨State.modP State.reset 0 fun x => { x with ctOpen := true, ctLow := true }, 0, by decide +kernel⟩⟩

theorem witness_MetricsAndCountersDeliver :
    (∃ s : State, ∃ n : Fin 128, ∃ c : Capture, (s.live (.chan n) = true) ∧ ((s.lane1 n).k.caps = [c]) ∧ (c.due s.ctr = true))
    ∧ (∃ c : Capture, (c.cut = true))
    ∧ (∃ s : State, ∃ n : Fin 128, ∃ e : EisRun, ∃ a : Nat, ((s.lane1 n).k.eis = some e) ∧ (e.ts = some a) ∧ (e.until_ + e.lag
      ≤ s.ctr) ∧ (e.ra ≠ e.rb))
    ∧ (∃ s : State, ∃ n : Fin 128, ∃ e : EisRun, ∃ st : OpenStep, ∃ a : Nat, ((s.lane1 n).k.eis = some e) ∧ (e.ts = none) ∧
      ((s.lane1 n).x.step = some st) ∧ (st.start = some a))
    ∧ (∃ s : State, ∃ n : Fin 128, ∃ a : Nat, ∃ v : Int, ((s.lane1 n).k.dvReady = some (a, some v)) ∧ (a ≤ s.ctr))
    ∧ (∃ s : State, ∃ n : Fin 128, ∃ a : Nat, ((s.lane1 n).k.dvReady = some (a, none)) ∧ (a ≤ s.ctr))
    ∧ (∃ s : State, ∃ n : Fin 128, (((s.lane1 n).k.ocv.postDue = true ∧ (s.lane1 n).k.ocv.closeAt + 400000 < s.ctr) ∨ (s.flag
      (F.CH_OCVCTL_ACTIVE n) = true ∧ (s.pmode = mdRUN ∨ s.pmode = mdSTANDBY) ∧ (s.lane1 n).k.ocv.lastPost + 600000000000 ≤
      s.ctr)) ∧ ((s.lane1 n).x.recQ.length ≤ 16)) :=
  ⟨⟨{ (st [(F.CH_STATE_STATE 0, 2)]).modK 0 fun x => { x with caps := [{ dest := 0, delay := 1, ts := some 0 }] } with ctr := 1010000 }, 0, { dest := 0, delay := 1, ts := some 0 }, by decide +kernel⟩,
  ⟨{ dest := 0, delay := 1, ts := some 0, closedAt := some 0 }, by decide +kernel⟩,
  ⟨{ State.modK State.reset 0 fun x => { x with eis := some { ra := 0, rb := 1, freq := 1000, settle := 1, cyc := 1, ts := some 0 } } with ctr := 400000 }, 0, { ra := 0, rb := 1, freq := 1000, settle := 1, cyc := 1, ts := some 0 }, 0, by decide +kernel⟩,
  ⟨(State.modK State.reset 0 fun x => { x with eis := some { ra := 0, rb := 1, freq := 1000, settle := 1, cyc := 1 } }).modX 0 fun x => { x with step := some { mode := 7, start := some 0 } }, 0, { ra := 0, rb := 1, freq := 1000, settle := 1, cyc := 1 }, { mode := 7, start := some 0 }, 0, by decide +kernel⟩,
  ⟨State.modK State.reset 0 fun x => { x with dvReady := some (0, some 5) }, 0, 0, 5, by decide +kernel⟩,
  ⟨State.modK State.reset 0 fun x => { x with dvReady := some (0, none) }, 0, 0, by decide +kernel⟩,
  ⟨{ State.modK State.reset 0 fun x => { x with ocv := { postDue := true } } with ctr := 400001 }, 0, by decide +kernel⟩⟩

theorem witness_SelfTestsOfMemoryPwmAndSpare :
    (∃ s : State, (s.testRuns = true) ∧ (s.flag F.BT_CTL_SRAMEN = true) ∧ (s.flag F.TS_STAT_THR = false) ∧ (s.reached
      s.tst.sramAt = true) ∧ (s.fget F.BT_SRAM_SLICE + 1 < 12288))
    ∧ (∃ s : State, (s.testRuns = true) ∧ (s.flag F.BT_CTL_SRAMEN = true) ∧ (s.flag F.TS_STAT_THR = false) ∧ (s.reached
      s.tst.sramAt = true) ∧ (s.fget F.BT_SRAM_SLICE = 12287))
    ∧ (∃ s : State, (s.testRuns = true) ∧ (s.flag F.BT_CTL_SRAMEN = true) ∧ (s.flag F.TS_STAT_THR = false) ∧ (s.reached
      s.tst.sramAt = true))
    ∧ (∃ s : State, (s.testRuns = true) ∧ (s.flag F.BT_CTL_MWTEN = true) ∧ (s.flag F.TS_STAT_THR = false) ∧ (s.reached
      s.tst.rowAt = true))
    ∧ (∃ s : State, ∃ w : Fin 9, ∃ err : Vector (Option Nat) 4, (s.testRuns = true) ∧ (s.flag F.BT_CTL_PWMEN = true) ∧ (w.val
      < 8) ∧ (err.toList.all edgeBad = true))
    ∧ (∃ s : State, ∃ b : Fin 32, ∃ err : Vector (Option Nat) 4, (s.testRuns = true) ∧ (s.flag F.BT_CTL_PWMEN = true) ∧ (b.val
      < 6) ∧ (err.toList.all edgeBad = true))
    ∧ (∃ err : Vector (Option Nat) 4, (err.toList.all edgeBad = false))
    ∧ (∃ s : State, ∃ c : Fin 17, (s.spareCl = some c) ∧ (s.shadowing = true) ∧ (s.spare.sliceEnd = true)) :=
  ⟨⟨st [(F.BT_CTL_SRAMEN, 1), (F.BT_SRAM_SLICE, 12286)], by decide +kernel⟩,
  ⟨st [(F.BT_CTL_SRAMEN, 1), (F.BT_SRAM_SLICE, 12287)], by decide +kernel⟩,
  ⟨st [(F.BT_CTL_SRAMEN, 1)], by decide +kernel⟩,
  ⟨st [(F.BT_CTL_MWTEN, 1)], by decide +kernel⟩,
  ⟨st [(F.BT_CTL_PWMEN, 1)], 7, Vector.replicate 4 none, by decide +kernel⟩,
  ⟨st [(F.BT_CTL_PWMEN, 1)], 5, Vector.replicate 4 none, by decide +kernel⟩,
  ⟨Vector.replicate 4 (some 1000), by decide +kernel⟩,
  ⟨{ st [(F.CS_SPARE_SST, 3), (F.CS_SPARE_SPARE, 16)] with spare := { sliceEnd := true } }, 16, by decide +kernel⟩⟩

theorem witness_SelfTestsOfMemoryPwmAndSpare_2 :
    (∃ s : State, (s.spare.sliceEnd = false))
    ∧ (∃ s : State, ∃ c : Fin 17, (s.spareCl = some c) ∧ (s.fget F.CS_SPARE_SST = 1) ∧ (s.spare.bridge = none) ∧
      (s.lbistInTime = true))
    ∧ (∃ s : State, ∃ c : Fin 17, (s.spareCl = some c) ∧ (s.fget F.CS_SPARE_SST = 1) ∧ (s.spare.bridge = none) ∧
      (s.lbistInTime = false))
    ∧ (∃ s : State, ∃ c : Fin 17, (s.spareCl = some c) ∧ (s.fget F.CS_SPARE_SST = 1) ∧ (s.spare.bridge = none))
    ∧ (∃ s : State, (s.fget F.CS_SPARE_SST = 2))
    ∧ (∃ s : State, (s.fget F.CS_SPARE_SST ≠ 2)) :=
  ⟨⟨State.reset, by decide +kernel⟩,
  ⟨st [(F.CS_SPARE_SST, 1)], 16, by decide +kernel⟩,
  ⟨{ st [(F.CS_SPARE_SST, 1)] with spare := { lbistAt := some 0 }, time := 10 ^ 8 }, 16, by decide +kernel⟩,
  ⟨st [(F.CS_SPARE_SST, 1)], 16, by decide +kernel⟩,
  ⟨st [(F.CS_SPARE_SST, 2)], by decide +kernel⟩,
  ⟨State.reset, by decide +kernel⟩⟩

theorem witness_SpareTakesOver :
    (∃ s : State, ∃ k : Fin 16, ∃ c : Fin 17, (s.spare.mism = some k) ∧ (s.spare.fresh0 = true) ∧ (s.spareCl = some c) ∧
      (s.spare.displaced[c] = false))
    ∧ (∃ s : State, ∃ k : Fin 16, (s.spare.mism = some k) ∧ (s.takesOver = false) ∧ ((∀ m, s.flag (F.CH_GANG_MEMBER m) = true
      → s.chState m = stFOLLOW ∨ s.chState m = stPARKED ∨ s.chState m = stABSENT)))
    ∧ (∃ s : State, ∃ k : Fin 16, ∃ c : Fin 17, (s.spare.bridge = some k) ∧ (s.spareCl = some c))
    ∧ (∃ s : State, ∃ c : Fin 17, (s.spareCl = some c) ∧ (s.rotDue = true) ∧ (s.spareFresh = true) ∧ (s.shadowing = true) ∧
      (s.spare.shadowed = true) ∧ (s.spare.mism = none) ∧ (s.spare.bridge = none) ∧ (s.spare.mismAt ≠ some s.ctr) ∧
      (s.mayServe c = true) ∧ (s.flag F.CS_SPARE_ROTSTOP = false))
    ∧ (∃ s : State, (s.rotDue = false ∨ s.spareFresh = false ∨ s.spare.mismAt = some s.ctr))
    ∧ (∃ s : State, ∃ c : Fin 17, (s.spareCl = some c) ∧ (s.spare.bridge = none))
    ∧ (∃ s : State, ∃ k : Fin 32, (s.spare.bridge ≠ none ∨ (∀ c, s.spareCl = some c → c.val ≠ k.val))) :=
  ⟨⟨{ spare := { mism := some 15, fresh0 := true } }, 15, 16, by decide +kernel⟩,
  ⟨{ spare := { mism := some 0 } }, 0, by decide +kernel⟩,
  ⟨{ spare := { bridge := some 3 } }, 3, 16, by decide +kernel⟩,
  ⟨{ st [(F.CS_SPARE_SST, 3), (F.CS_SPARE_ROTSTOP, 0)] with spare := { rotReq := true, lastOk := true, shadowed := true, ended := Vector.replicate 17 (some 0), mismAt := none } }, 16, by decide +kernel⟩,
  ⟨State.reset, by decide +kernel⟩,
  ⟨State.reset, 16, by decide +kernel⟩,
  ⟨State.reset, 31, by decide +kernel⟩⟩

theorem witness_LanternSlotsAndCorrections :
    (∃ s : State, (s.slotDue = true) ∧ (s.flag F.LN_CFG_TOUR = true) ∧ (s.flag F.LN_POS_NEXTV = true) ∧ (s.visitable
      (Fin.ofNat 128 (s.fget F.LN_POS_NEXT)) = true) ∧ (s.pmode ≠ mdAGING))
    ∧ (∃ s : State, ∃ n : Fin 128, ∃ k : Nat, ∃ conf : Bool, (s.slotDue = true) ∧ (s.flag F.LN_CFG_TOUR = true) ∧ (s.flag
      F.LN_POS_NEXTV = false) ∧ (s.lane.again = [(n, k + 1, conf)]) ∧ (s.visitable n = true))
    ∧ (∃ s : State, ∃ n : Fin 128, (s.slotDue = true) ∧ (s.flag F.LN_CFG_TOUR = true) ∧ (s.flag F.LN_POS_NEXTV = false) ∧
      (s.lane.again = []) ∧ (s.pmode ≠ mdAGING) ∧ (s.tourFrom s.lane.tour = some n))
    ∧ (∃ s : State, (s.slotDue = true) ∧ (s.flag F.LN_CFG_TOUR = false) ∧ (s.flag F.LN_ADOPT_ACT = false))
    ∧ (∃ s : State, (s.adoptDue = true))
    ∧ (∃ s : State, ∃ a : Nat, (s.lane.refAt = some a) ∧ (s.ctr < a + 200000000))
    ∧ (∃ s : State, ∃ a : Nat, (s.lane.refAt = some a) ∧ (a + 100000000 ≤ s.ctr) ∧ (s.lane.refs.vz < s.lane.refs.vr) ∧
      (s.lane.refs.iz < s.lane.refs.ir))
    ∧ (∃ s : State, ∃ a : Nat, (s.lane.refAt = some a) ∧ (a + 200000000 ≤ s.ctr)) :=
  ⟨⟨st [(F.LN_POS_NEXTV, 1)], by decide +kernel⟩,
  ⟨{ lane := { again := [(0, 1, false)] } }, 0, 0, false, by decide +kernel⟩,
  ⟨State.reset, 0, by decide +kernel⟩,
  ⟨st [(F.LN_CFG_TOUR, 0)], by decide +kernel⟩,
  ⟨{ st [(F.LN_ADOPT_EN, 1)] with lane := { adoptAt := some 0 } }, by decide +kernel⟩,
  ⟨{ lane := { refAt := some 0 }, ctr := 199990000 }, 0, by decide +kernel⟩,
  ⟨{ lane := { refAt := some 0, refs := { vr := 1, ir := 1 } }, ctr := 100000000 }, 0, by decide +kernel⟩,
  ⟨{ lane := { refAt := some 0 }, ctr := 200000000 }, 0, by decide +kernel⟩⟩

theorem witness_LanternSlotsAndCorrections_2 :
    (∃ s : State, ∃ v : Visit, (s.flag F.LN_ADOPT_EN = false) ∧ (s.lane.visit = some v) ∧ (v.conn = false) ∧ (v.lost = false)
      ∧ (s.lane.refAt = none) ∧ ((if v.aging then v.open_ - 20000000 else v.t0 + 200000000) ≤ s.ctr))
    ∧ (∃ s : State, (s.flag F.LN_ADOPT_EN = true) ∧ (s.flag F.LN_ADOPT_ACT = false) ∧ (s.lane.adoptRef = true))
    ∧ (∃ s : State, ∃ v : Visit, (s.lane.done = some v) ∧ (s.pairsIn v = true))
    ∧ (∃ s : State, ∃ v : Visit, (s.lane.done = some v) ∧ (s.pairsIn v = false))
    ∧ (∃ s : State, (s.wf = true) ∧ (s.lane.fixes ≠ []) ∧ (s.lane.fixAt ≤ s.ctr) ∧ ((∀ a, s.lane.swapAt = some a → a <
      s.lane.fixAt)) ∧ ((s.lane.fixes.map LaneFix.off).Nodup) ∧ ((∀ f ∈ s.lane.fixes, f.off % 8 = 0 ∧ f.off < 0x10000)))
    ∧ (∃ s : State, ∃ a : Nat, (s.lane.fixes ≠ []) ∧ (s.lane.fixAt ≤ s.ctr) ∧ (s.lane.swapAt = some a) ∧ (s.lane.fixAt ≤ a))
    ∧ (∃ s : State, (s.lane.fixes = [] ∨ s.ctr < s.lane.fixAt)) :=
  ⟨⟨{ lane := { visit := some { n := 0, t0 := 0, open_ := 300000000, close := 10 ^ 9 } }, ctr := 200000000 }, { n := 0, t0 := 0, open_ := 300000000, close := 10 ^ 9 }, by decide +kernel⟩,
  ⟨{ st [(F.LN_ADOPT_EN, 1)] with lane := { adoptRef := true } }, by decide +kernel⟩,
  ⟨{ lane := { done := some { n := 0, t0 := 0, open_ := 300000000, close := 10 ^ 9 } }, ctr := 1000400000 }, { n := 0, t0 := 0, open_ := 300000000, close := 10 ^ 9 }, by decide +kernel⟩,
  ⟨{ lane := { done := some { n := 0, t0 := 0, open_ := 300000000, close := 10 ^ 9 } } }, { n := 0, t0 := 0, open_ := 300000000, close := 10 ^ 9 }, by decide +kernel⟩,
  ⟨{ lane := { fixes := [{ off := 0xFFF8, dg := 1, do_ := 1 }] } }, by decide +kernel⟩,
  ⟨{ lane := { fixes := [{ off := 0xFFF8, dg := 1, do_ := 1 }], swapAt := some 0 } }, 0, by decide +kernel⟩,
  ⟨State.reset, by decide +kernel⟩⟩

theorem witness_AdoptionRequestedAndReleased :
    (∃ s : State, ∃ n : Fin 128, (s.flag F.LN_ADOPT_EN = false) ∧ (s.idle n = true))
    ∧ (∃ s : State, (s.lane.drop = true))
    ∧ (∃ s : State, ∃ n : Fin 128, (s.idle n = false ∨ (s.flag F.LN_ADOPT_EN = true ∧ s.fget F.LN_ADOPT_CH ≠ n.val)))
    ∧ (∃ s : State, ∃ n : Fin 128, (s.idle n = true) ∧ (s.flag F.LN_ADOPT_EN = true) ∧ (s.fget F.LN_ADOPT_CH = n.val))
    ∧ (∃ s : State, (s.flag F.LN_ADOPT_EN = true) ∧ (s.flag F.LN_ADOPT_ACT = false) ∧ (s.lane.conn = some (Fin.ofNat 128
      (s.fget F.LN_ADOPT_CH))))
    ∧ (∃ s : State, (s.flag F.LN_ADOPT_EN = true) ∧ (s.idle (Fin.ofNat 128 (s.fget F.LN_ADOPT_CH)) = true))
    ∧ (∃ s : State, (s.flag F.LN_ADOPT_EN = true) ∧ (s.idle (Fin.ofNat 128 (s.fget F.LN_ADOPT_CH)) = false))
    ∧ (∃ s : State, (s.flag F.LN_ADOPT_EN = false)) :=
  ⟨⟨State.reset, 127, by decide +kernel⟩,
  ⟨{ lane := { drop := true, conn := some 0 } }, by decide +kernel⟩,
  ⟨st [(F.CH_STATE_STATE 0, 2)], 0, by decide +kernel⟩,
  ⟨st [(F.LN_ADOPT_EN, 1)], 0, by decide +kernel⟩,
  ⟨{ st [(F.LN_ADOPT_EN, 1)] with lane := { conn := some 0 } }, by decide +kernel⟩,
  ⟨st [(F.LN_ADOPT_EN, 1)], by decide +kernel⟩,
  ⟨st [(F.LN_ADOPT_EN, 1)] (st [(F.CH_STATE_STATE 0, 2)]), by decide +kernel⟩,
  ⟨State.reset, by decide +kernel⟩⟩

theorem witness_FeedsComeAndGo :
    (∃ s : State, ∃ f : Fin 2, ∃ vin : Int, (s.fget (F.FD_FCFG_UV f) * 500000 + 1000000 ≤ vin) ∧ (vin + 1000000 ≤ s.fget
      (F.FD_FCFG_OV f) * 500000) ∧ (s.fsel.enabled = true) ∧ (s.feedState f = 0) ∧ (s.flag (F.FD_FCFG_EN f) = true))
    ∧ (∃ s : State, ∃ f : Fin 2, ∃ vin : Int, (s.fget (F.FD_FCFG_UV f) * 500000 + 1000000 ≤ vin) ∧ (vin + 1000000 ≤ s.fget
      (F.FD_FCFG_OV f) * 500000) ∧ (s.feedState f ≠ 0))
    ∧ (∃ s : State, ∃ f : Fin 2, ∃ vin : Int, (s.inEntry f vin = false))
    ∧ (∃ s : State, ∃ f : Fin 2, (s.feedState f = 1) ∧ ((s.feed f).inWin = true) ∧ (s.reached ((s.feed f).since + s.fget
      F.FD_QUAL_QUAL * ms) = true))
    ∧ (∃ s : State, ∃ was : Nat, (s.fsel.enabled = true) ∧ (s.fsel.incoming = none) ∧ (s.eff F.FD_SEL_MODE = 0) ∧ (s.tmrBlocks
      = false) ∧ (s.feedBusy 0 = false) ∧ (s.feedBusy 1 = false) ∧ (s.feedReady 0 = true) ∧ (s.otherOff 0 = false) ∧ (was ≤
      1))
    ∧ (∃ s : State, ∃ f : Fin 2, (s.flag (F.FD_FLT_SHIN f) = true ∨ s.flag (F.FD_FLT_SHBUS f) = true))
    ∧ (∃ s : State, ∃ f : Fin 2, ∃ m1 : Int, (s.feedState f = 3) ∧ ((s.feed f).passed = false) ∧ (s.reached ((s.feed f).since
      + s.checkTime) = true) ∧ (2000 < m1))
    ∧ (∃ s : State, ∃ f : Fin 2, ∃ m1 : Int, ∃ m2 : Int, (s.feedState f = 3) ∧ ((s.feed f).passed = false) ∧ (s.reached
      ((s.feed f).since + s.checkTime) = true) ∧ (m1 ≤ 2000) ∧ (s.fsel.busUv < 5000000) ∧ (m2 * 1000 - s.fsel.busUv < 350000)) :=
  ⟨⟨{ st [(F.FD_FCFG_EN 0, 1)] with fsel := { enabled := true } }, 0, 41000000, by decide +kernel⟩,
  ⟨st [(F.FD_FSTAT_STATE 0, 5)], 0, 59000000, by decide +kernel⟩,
  ⟨State.reset, 0, 40999999, by decide +kernel⟩,
  ⟨{ State.modF (st [(F.FD_FSTAT_STATE 0, 1)]) 0 fun x => { x with inWin := true } with time := 10 ^ 12 }, 0, by decide +kernel⟩,
  ⟨{ st [(F.FD_FSTAT_STATE 0, 2)] with fsel := { enabled := true } }, 1, by decide +kernel⟩,
  ⟨st [(F.FD_FLT_SHIN 0, 1)], 0, by decide +kernel⟩,
  ⟨{ st [(F.FD_FSTAT_STATE 0, 3)] with time := 10 ^ 12 }, 0, 2001, by decide +kernel⟩,
  ⟨{ st [(F.FD_FSTAT_STATE 0, 3)] with time := 10 ^ 12 }, 0, 2000, 349, by decide +kernel⟩⟩

theorem witness_FeedsComeAndGo_2 :
    (∃ s : State, ∃ f : Fin 2, ∃ v : Int, ∃ m1 : Int, ∃ m2 : Int, (s.feedState f = 3) ∧ ((s.feed f).passed = false) ∧
      (s.reached ((s.feed f).since + s.checkTime) = true) ∧ (checkResult v m1 m2 s.fsel.busUv = none) ∧ (s.feedBusy (otherFeed
      f) = false) ∧ (s.otherOff f = false) ∧ (s.fetShort f = false))
    ∧ (∃ s : State, ∃ f : Fin 2, ∃ v : Int, ∃ m1 : Int, ∃ m2 : Int, (s.feedState f = 3) ∧ ((s.feed f).passed = false) ∧
      (s.reached ((s.feed f).since + s.checkTime) = true) ∧ (checkResult v m1 m2 s.fsel.busUv = none) ∧ (s.feedState
      (otherFeed f) = 5))
    ∧ (∃ s : State, ∃ f : Fin 2, ∃ gs : Int, ∃ held : Nat, (s.enhanced f gs held = true) ∧ (s.feedState f = 4) ∧ (s.eff
      F.FD_SEL_MODE = 0) ∧ (s.fget F.FD_SEL_MODE = 0))
    ∧ (∃ s : State, ∃ f : Fin 2, ∃ gs : Int, ∃ held : Nat, (s.enhanced f gs held = true) ∧ (s.feedState f = 5))
    ∧ (∃ s : State, ∃ f : Fin 2, ∃ gs : Int, ∃ held : Nat, (s.flag (F.FD_FSTAT_LIM f) = true ∨ gs < 10000000 ∨ held < ms))
    ∧ (∃ s : State, ∃ f : Fin 2, ∃ vin : Int, ∃ held : Nat, (1 ≤ s.feedState f) ∧ (s.feedState f ≤ 5) ∧ ((vin < s.fget
      (F.FD_FCFG_UV f) * 500000 ∧ 10 * us ≤ held) ∨ (s.fget (F.FD_FCFG_OV f) * 500000 < vin ∧ us ≤ held)))
    ∧ (∃ s : State, ∃ f : Fin 2, ∃ vin : Int, ∃ uv : Int, (1 ≤ s.feedState f) ∧ (s.feedState f ≤ 5) ∧ (4 ≤ s.feedState f) ∧
      (s.reverse f uv = true) ∧ ((s.feed f).inWin = false ∨ s.vinLow f vin = true ∨ s.vinHigh f vin = true))
    ∧ (∃ s : State, ∃ f : Fin 2, ∃ vin : Int, (s.fget (F.FD_FCFG_UV f) * 500000 ≤ vin) ∧ (vin ≤ s.fget (F.FD_FCFG_OV f) *
      500000)) :=
  ⟨⟨{ st [(F.FD_FSTAT_STATE 0, 3)] with time := 10 ^ 12 }, 0, 0, 2000, 350, by decide +kernel⟩,
  ⟨{ st [(F.FD_FSTAT_STATE 0, 3), (F.FD_FSTAT_STATE 1, 5)] with time := 10 ^ 12 }, 0, 0, 2000, 350, by decide +kernel⟩,
  ⟨{ st [(F.FD_FSTAT_STATE 1, 4)] with time := 10 ^ 12 }, 1, 10000000, ms, by decide +kernel⟩,
  ⟨{ st [(F.FD_FSTAT_STATE 1, 5)] with time := 10 ^ 12 }, 1, 10000000, ms, by decide +kernel⟩,
  ⟨State.reset, 0, 0, 0, by decide +kernel⟩,
  ⟨st [(F.FD_FSTAT_STATE 1, 1)], 1, 39999999, 10 * us, by decide +kernel⟩,
  ⟨st [(F.FD_FSTAT_STATE 1, 4)], 1, 0, -6001, by decide +kernel⟩,
  ⟨State.reset, 0, 40000000, by decide +kernel⟩⟩

theorem witness_FeedsComeAndGo_3 :
    (∃ s : State, ∃ ua : Int, ∃ held : Nat, (s.fget F.HU_STAT_PATH = 3) ∧ ((s.fget F.HU_DLIM_DET * 1000000 : Int) ≤ ua) ∧ (20
      * us ≤ held) ∧ (s.feedState 0 = 5))
    ∧ (∃ s : State, ∃ ua : Int, ∃ held : Nat, (s.fget F.HU_STAT_PATH = 3) ∧ ((s.fget F.HU_DLIM_DET * 1000000 : Int) ≤ ua) ∧
      (20 * us ≤ held) ∧ (s.feedState 0 ≠ 5) ∧ (s.feedState 1 = 5))
    ∧ (∃ s : State, ∃ f : Fin 2, (s.feedState f = 7) ∧ (s.reached ((s.feed f).since + 60 * sec) = true)) :=
  ⟨⟨st [(F.HU_STAT_PATH, 3), (F.FD_FSTAT_STATE 0, 5)], 10000000, 20 * us, by decide +kernel⟩,
  ⟨st [(F.HU_STAT_PATH, 3), (F.FD_FSTAT_STATE 1, 5)], 10000000, 20 * us, by decide +kernel⟩,
  ⟨{ st [(F.FD_FSTAT_STATE 0, 7)] with time := 60 * sec }, 0, by decide +kernel⟩⟩

theorem witness_FeedFaultsAndSelection :
    (∃ b : Nat, (b < 6))
    ∧ (∃ s : State, ∃ f : Fin 2, (s.feedState f = 4) ∧ (s.reached ((s.feed f).since + 4 * s.fget (F.FD_FCFG_TFLT f) * ms) =
      true))
    ∧ (∃ s : State, ∃ f : Fin 2, (s.feedState f = 4 ∨ s.feedState f = 5) ∧ (s.fget (F.FD_FCFG_TFLT f) * 16000 ≤ s.feedTimer f
      (s.time + tCtl) ∨ s.fget (F.FD_FCFG_TFLT f) * 16000 ≤ (s.feed f).tmr))
    ∧ (∃ s : State, ∃ f : Fin 2, ∃ uv : Int, ∃ vin : Int, (s.feedState f = 4 ∨ s.feedState f = 5) ∧ ((s.feed f).inWin = true)
      ∧ ((s.fget (F.FD_ILIM_REV f) * 500 : Int) < -uv) ∧ (s.vinLow f vin = false) ∧ (s.vinHigh f vin = false))
    ∧ (∃ s : State, ∃ f : Fin 2, ∃ uv : Int, (-uv ≤ s.fget (F.FD_ILIM_REV f) * 500))
    ∧ (∃ s : State, ∃ f : Fin 2, ∃ on : Bool, ∃ i : Int, (s.feedState f = 4 ∨ s.feedState f = 5) ∧ ((on = true → (s.feedLimit
      f : Int) ≤ i + s.limitTol f)) ∧ ((on = false → i ≤ s.feedLimit f + s.limitTol f)))
    ∧ (∃ s : State, ∃ f : Fin 2, (s.fget (F.FD_FCFG_UV f) * 500000 ≤ s.fsel.busUv))
    ∧ (∃ s : State, ∃ f : Fin 2, (s.fsel.busUv < s.fget (F.FD_FCFG_UV f) * 500000) ∧ (s.fsel.busUv < (s.feed f).vin)) :=
  ⟨⟨5, by decide +kernel⟩,
  ⟨{ st [(F.FD_FSTAT_STATE 0, 4)] with time := 10 ^ 12 }, 0, by decide +kernel⟩,
  ⟨State.modF (st [(F.FD_FSTAT_STATE 0, 5)]) 0 fun x => { x with tmr := 10 ^ 9 }, 0, by decide +kernel⟩,
  ⟨State.modF (st [(F.FD_FSTAT_STATE 0, 5)]) 0 fun x => { x with inWin := true }, 0, -6001, 40000000, by decide +kernel⟩,
  ⟨State.reset, 0, -6000, by decide +kernel⟩,
  ⟨st [(F.FD_FSTAT_STATE 1, 5)], 1, true, 10 ^ 12, by decide +kernel⟩,
  ⟨{ fsel := { busUv := 40000000 } }, 0, by decide +kernel⟩,
  ⟨State.modF State.reset 0 fun x => { x with vin := 1 }, 0, by decide +kernel⟩⟩

theorem witness_FeedFaultsAndSelection_2 :
    (∃ s : State, ∃ f : Fin 2, ∃ a : Nat, ∃ gs : Int, ∃ i : Int, ((s.feed f).offAt = some a) ∧ (s.feedState f ≠ 4) ∧
      (s.feedState f ≠ 5) ∧ (gs < 2000000) ∧ (i.natAbs * s.fget (F.FD_RSH_RSH f) < s.fget (F.FD_ILIM_RUN f) * 500000000))
    ∧ (∃ s : State, ∃ f : Fin 2, ∃ gs : Int, ∃ i : Int, (2000000 ≤ gs ∨ s.fget (F.FD_ILIM_RUN f) * 500000000 ≤ i.natAbs *
      s.fget (F.FD_RSH_RSH f)))
    ∧ (∃ s : State, ∃ f : Fin 2, ∃ a : Nat, ((s.feed f).offAt = some a) ∧ ((s.feed f).offLate = false) ∧ (s.reached (a + 50 *
      us) = true))
    ∧ (∃ s : State, ∃ f : Fin 2, ∃ v : Word, (s.feedState f = 6) ∧ (bitsOf (s.word (.FD_FLT f) &&& ~~~ v) 0 5 = 0))
    ∧ (∃ s : State, (s.flag F.GL_LOCK_OPEN = true))
    ∧ (∃ s : State, (s.flag F.GL_LOCK_OPEN = false))
    ∧ (∃ s : State, (s.fsel.incoming = none))
    ∧ (∃ s : State, ∃ v : Word, ∃ f : Fin 2, (s.fsel.incoming = some f) ∧ ((s.writeReg .FD_SEL v).word .FD_SEL ≠ s.word
      .FD_SEL)) :=
  ⟨⟨State.modF State.reset 0 fun x => { x with offAt := some 0 }, 0, 0, 1999999, 10999999, by decide +kernel⟩,
  ⟨State.reset, 0, 2000000, 0, by decide +kernel⟩,
  ⟨{ State.modF State.reset 0 fun x => { x with offAt := some 0 } with time := 50 * us }, 0, 0, by decide +kernel⟩,
  ⟨st [(F.FD_FSTAT_STATE 0, 6)], 0, 0x1F, by decide +kernel⟩,
  ⟨st [(F.GL_LOCK_OPEN, 1)], by decide +kernel⟩,
  ⟨State.reset, by decide +kernel⟩,
  ⟨State.reset, by decide +kernel⟩,
  ⟨{ fsel := { incoming := some 0 } }, 1, 0, by decide +kernel⟩⟩

theorem witness_CapacitanceAndMetering :
    (∃ s : State, ∃ w : CapWin, (s.fsel.cap = some w) ∧ (w.done = true) ∧ (w.load = true))
    ∧ (∃ s : State, ∃ w : CapWin, (s.fsel.cap = some w) ∧ (w.done = true) ∧ (w.load = false) ∧ (w.pack = true))
    ∧ (∃ s : State, ∃ w : CapWin, (s.fsel.cap = some w) ∧ (w.done = true) ∧ (w.load = false) ∧ (w.pack = false))
    ∧ (∃ s : State, ∃ w : CapWin, (s.fsel.cap = some w) ∧ (w.done = false))
    ∧ (∃ s : State, (s.fsel.cap = none))
    ∧ (∃ s : State, ∃ w : CapWin, ∃ v : Int, (s.feedState w.f = 4) ∧ (w.done = false) ∧ (w.v0 = some v))
    ∧ (∃ s : State, ∃ w : CapWin, (s.feedState w.f = 4) ∧ (w.done = false) ∧ (w.v0 = none))
    ∧ (∃ s : State, (5 ≤ s.fsel.sub)) :=
  ⟨⟨{ fsel := { cap := some { f := 0, done := true, load := true } } }, { f := 0, done := true, load := true }, by decide +kernel⟩,
  ⟨{ fsel := { cap := some { f := 0, done := true, pack := true } } }, { f := 0, done := true, pack := true }, by decide +kernel⟩,
  ⟨{ fsel := { cap := some { f := 0, done := true } } }, { f := 0, done := true }, by decide +kernel⟩,
  ⟨{ fsel := { cap := some { f := 0 } } }, { f := 0 }, by decide +kernel⟩,
  ⟨State.reset, by decide +kernel⟩,
  ⟨st [(F.FD_FSTAT_STATE 0, 4)], { f := 0, v0 := some 1 }, 1, by decide +kernel⟩,
  ⟨st [(F.FD_FSTAT_STATE 0, 4)], { f := 0 }, by decide +kernel⟩,
  ⟨{ fsel := { sub := 5 } }, by decide +kernel⟩⟩

theorem witness_CapacitanceAndMetering_2 :
    (∃ s : State, ∃ f : Fin 2, (s.flag (F.FD_FSTAT_PG f) = true))
    ∧ (∃ s : State, (s.fsel.sub < 5))
    ∧ (∃ p : Int, (0 ≤ p)) :=
  ⟨⟨st [(F.FD_FSTAT_PG 0, 1)], 0, by decide +kernel⟩,
  ⟨State.reset, by decide +kernel⟩,
  ⟨0, by decide +kernel⟩⟩

theorem witness_RideEndsInHalt :
    (∃ s : State, ∃ n, (s.chState n = stRUN ∨ s.chState n = stBRIDGE))
    ∧ (∃ s : State, (s.shelf = shRIDE) ∧ (s.heldFor s.hu.haltLow ms = true))
    ∧ (∃ s : State, (s.shelf = shRIDE) ∧ (s.hu.rideAt + s.fget F.HU_RIDE_TMAX * sec ≤ s.time))
    ∧ (∃ s : State, (s.shelf = shRIDE))
    ∧ (∃ s : State, (s.heldFor s.hu.haltLow ms = false))
    ∧ (∃ s : State, (s.shelf ≠ shRIDE))
    ∧ (∃ s : State, (s.shelf = shHALT) ∧ (s.allIdle = true) ∧ (s.vault.queue = []) ∧ (s.cellar.snap = none) ∧ (s.pmode ≠
      mdAGING) ∧ (s.pmode ≠ mdDEEP))
    ∧ (∃ s : State, (s.fget F.HU_STAT_PATH = 2 ∨ s.fget F.HU_STAT_PATH = 3) ∧ (s.heldFor s.hu.cutAt ms = true)) :=
  ⟨⟨st [(F.CH_STATE_STATE 0, 2)], 0, by decide +kernel⟩,
  ⟨{ st [(F.GL_STATE_SHELF, 2)] with hu := { haltLow := some 0 }, time := 10 ^ 9 }, by decide +kernel⟩,
  ⟨{ st [(F.GL_STATE_SHELF, 2)] with time := 10 ^ 15 }, by decide +kernel⟩,
  ⟨st [(F.GL_STATE_SHELF, 2)], by decide +kernel⟩,
  ⟨State.reset, by decide +kernel⟩,
  ⟨State.reset, by decide +kernel⟩,
  ⟨st [(F.GL_STATE_SHELF, 3)], by decide +kernel⟩,
  ⟨{ st [(F.HU_STAT_PATH, 3)] with hu := { cutAt := some 0 }, time := 10 ^ 9 }, by decide +kernel⟩⟩

theorem witness_RideEndsInHalt_2 :
    (∃ s : State, ∃ a : Nat, (s.hu.limAt = some a) ∧ (s.hu.limDone = false) ∧ (s.reached (a + s.fget F.HU_DLIM_TLIM * ms) =
      true))
    ∧ (∃ s : State, (s.hu.missing = false) ∧ (s.heldFor s.hu.goneAt (10 * ms) = true ∨ s.hu.tsOpen = true ∨ s.hu.rise = true))
    ∧ (∃ s : State, (s.hu.hv < 2000000) ∧ (1000000 < s.hu.hi) ∧ (s.flag F.HU_FLT_SHORT = false))
    ∧ (∃ s : State, (10000000 ≤ s.hu.hv) ∧ (s.packTemp = true) ∧ (s.flag F.HU_STAT_PRESENT = false)) :=
  ⟨⟨{ hu := { limAt := some 0 }, time := 10 ^ 12 }, 0, by decide +kernel⟩,
  ⟨{ hu := { goneAt := some 0 }, time := 10 ^ 10 }, by decide +kernel⟩,
  ⟨{ hu := { hi := 1000001 } }, by decide +kernel⟩,
  ⟨{ st [] with hu := { hv := 10000000 }, regs := [(.HU_T, 25000)] }, by decide +kernel⟩⟩

theorem witness_HoldupPathMoves :
    (∃ s : State, (s.fget F.HU_STAT_PATH = 0) ∧ (s.flag F.HU_STAT_PRESENT = true) ∧ (s.pathFault = false) ∧ (s.flag
      F.HU_CTL_EN = true) ∧ (s.hu.fed = true))
    ∧ (∃ s : State, (s.flag F.HU_STAT_PRESENT = false ∨ s.pathFault = true ∨ s.flag F.HU_CTL_EN = false))
    ∧ (∃ s : State, (s.fget F.HU_STAT_PATH = 1) ∧ (s.fsel.busUv + 500000 < s.hu.hv))
    ∧ (∃ s : State, (s.fget F.HU_STAT_PATH = 1) ∧ (s.hu.hv ≤ s.fsel.busUv + 500000) ∧ (s.reached s.preEnd = false))
    ∧ (∃ s : State, (s.fget F.HU_STAT_PATH = 1) ∧ (s.reached s.preEnd = true))
    ∧ (∃ s : State, (s.fget F.HU_STAT_PATH = 2) ∧ (s.fsel.busUv + 30000 < s.hu.hv))
    ∧ (∃ s : State, ∃ ua : Int, ∃ held : Nat, (s.fget F.HU_STAT_PATH = 3) ∧ (2000000 < ua) ∧ (us ≤ held))
    ∧ (∃ s : State, ∃ on : Bool, ∃ i : Int, (s.fget F.HU_STAT_PATH = 3) ∧ ((on = true → (s.iDlim : Int) ≤ i + s.dlimTol)) ∧
      ((on = false → i ≤ s.iDlim + s.dlimTol))) :=
  ⟨⟨{ st [(F.HU_STAT_PRESENT, 1)] with hu := { fed := true } }, by decide +kernel⟩,
  ⟨State.reset, by decide +kernel⟩,
  ⟨{ st [(F.HU_STAT_PATH, 1)] with hu := { hv := 500001 } }, by decide +kernel⟩,
  ⟨st [(F.HU_STAT_PATH, 1), (F.HU_PRECFG_TPRE, 1)], by decide +kernel⟩,
  ⟨{ st [(F.HU_STAT_PATH, 1), (F.HU_PRECFG_TPRE, 1)] with time := 60 * sec }, by decide +kernel⟩,
  ⟨{ st [(F.HU_STAT_PATH, 2)] with hu := { hv := 30001 } }, by decide +kernel⟩,
  ⟨st [(F.HU_STAT_PATH, 3)], 2000001, us, by decide +kernel⟩,
  ⟨st [(F.HU_STAT_PATH, 3)], true, 10 ^ 12, by decide +kernel⟩⟩

theorem witness_HoldupPathMoves_2 :
    (∃ s : State, ∃ ua : Int, ∃ held : Nat, (s.fget F.HU_STAT_PATH ≠ 3 ∨ ua ≤ 2000000 ∨ held < us))
    ∧ (∃ n : Option Nat, ∃ k, (n = some k) ∧ (k < 16))
    ∧ (∃ v : Option Nat, ∃ k, (v = some k) ∧ (k < 16))
    ∧ (∃ ohm : Nat, ∃ k, (strapCode ohm = some k)) :=
  ⟨⟨State.reset, 0, 0, by decide +kernel⟩,
  ⟨some 15, 15, by decide +kernel⟩,
  ⟨some 0, 0, by decide +kernel⟩,
  ⟨800, 0, by decide +kernel⟩⟩

theorem witness_ChargerWatchdogAndGauge :
    (∃ s : State, (s.time / ms ≤ s.hu.tickMs))
    ∧ (∃ s : State, (s.hu.tickMs < s.time / ms))
    ∧ (∃ s : State, (s.flag (F.AX_FLT_OV 3) = true ∨ s.flag F.HU_FLT_TSAFE = true ∨ s.flag F.HU_FLT_SHORT = true ∨ s.flag
      F.HU_FLT_STRAP = true ∨ s.flag F.HU_FLT_MON = true))
    ∧ (∃ s : State, (s.chgFault = false) ∧ (s.shelf ≠ shSERVICE ∨ s.flag F.HU_CTL_CHGEN = false ∨ s.flag F.HU_STAT_PRESENT =
      false))
    ∧ (∃ s : State, (s.chgFault = false) ∧ (s.shelf = shSERVICE) ∧ (s.flag F.HU_CTL_CHGEN = true) ∧ (s.flag F.HU_STAT_PRESENT
      = true) ∧ (s.fget F.HU_STAT_CHG = 2) ∧ (s.chgHold = false))
    ∧ (∃ s : State, (s.fget F.HU_TIMER_TSAFE * 120000 ≤ s.hu.safe2) ∧ (1 ≤ s.fget F.HU_STAT_CHG) ∧ (s.fget F.HU_STAT_CHG ≤ 3))
    ∧ (∃ s : State, (s.fget F.HU_STAT_CHG = 3) ∧ (s.fget F.HU_TEMP_TTAPER * 10000 ≤ s.hu.taper) ∧ (s.fget F.LG_HU_SH = 65535))
    ∧ (∃ s : State, (s.flag F.HU_WDT_ARMED = true) ∧ (s.flag F.HU_WDT_FALLBK = false) ∧ (s.time < s.hu.wdtAt + 30 * sec)) :=
  ⟨⟨State.reset, by decide +kernel⟩,
  ⟨{ time := ms }, by decide +kernel⟩,
  ⟨st [(F.HU_FLT_TSAFE, 1)], by decide +kernel⟩,
  ⟨State.reset, by decide +kernel⟩,
  ⟨{ regs := regPut (st [(F.GL_STATE_SHELF, 1), (F.HU_STAT_PRESENT, 1), (F.HU_STAT_CHG, 2)]).regs .HU_T 25000 }, by decide +kernel⟩,
  ⟨{ st [(F.HU_STAT_CHG, 3)] with hu := { safe2 := 10 ^ 9 } }, by decide +kernel⟩,
  ⟨{ st [(F.HU_STAT_CHG, 3)] with hu := { taper := 10 ^ 9 } }, by decide +kernel⟩,
  ⟨st [(F.HU_WDT_ARMED, 1)], by decide +kernel⟩⟩

theorem witness_ChargerWatchdogAndGauge_2 :
    (∃ s : State, (s.flag F.HU_WDT_ARMED = true) ∧ (s.flag F.HU_WDT_FALLBK = true))
    ∧ (∃ s : State, (s.flag F.HU_WDT_ARMED = true) ∧ (s.flag F.HU_WDT_FALLBK = false) ∧ (s.reached (s.hu.wdtAt + 30 * sec) =
      true))
    ∧ (∃ s : State, (s.time / (60 * sec) ≤ s.hu.tickMin))
    ∧ (∃ s : State, (s.hu.tickMin < s.time / (60 * sec)))
    ∧ (∃ s : State, (s.reached (s.hu.rested + 86400 * sec) = true) ∧ (s.flag F.HU_GG_SOC_NOREF = false))
    ∧ (∃ s : State, (s.flag F.HU_GG_SOC_UNREST = false))
    ∧ (∃ s : State, ∃ c : Word, (s.flag F.HU_GG_SOC_UNREST = true) ∧ (c.toNat ≠ crc32c (bytesOf s.hu.restore[0] ++ bytesOf
      s.hu.restore[1] ++ bytesOf s.hu.restore[2])))
    ∧ (∃ s : State, ∃ c : Word, (s.flag F.HU_GG_SOC_UNREST = true) ∧ (c.toNat = crc32c (bytesOf s.hu.restore[0] ++ bytesOf
      s.hu.restore[1] ++ bytesOf s.hu.restore[2])) ∧ (bitsOf s.hu.restore[0] 0 16 ≤ 10000) ∧ (bitsOf s.hu.restore[0] 16 8 ≤
      100) ∧ (bitsOf s.hu.restore[0] 26 6 = 0) ∧ (bitsOf s.hu.restore[1] 24 8 = 0)) :=
  ⟨⟨st [(F.HU_WDT_ARMED, 1), (F.HU_WDT_FALLBK, 1)], by decide +kernel⟩,
  ⟨{ st [(F.HU_WDT_ARMED, 1)] with time := 30 * sec }, by decide +kernel⟩,
  ⟨State.reset, by decide +kernel⟩,
  ⟨{ time := 60 * sec }, by decide +kernel⟩,
  ⟨{ time := 86400 * sec }, by decide +kernel⟩,
  ⟨st [(F.HU_GG_SOC_UNREST, 0)], by decide +kernel⟩,
  ⟨State.reset, 1, by decide +kernel⟩,
  ⟨State.reset, BitVec.ofNat 32 (crc32c (bytesOf 0 ++ bytesOf 0 ++ bytesOf 0)), by decide +kernel⟩⟩

theorem witness_ArithmeticAndFlow :
    (∃ s : State, ∃ c : Ctx, ∃ a : Fin 16, ∃ b : Fin 16, ∃ st : Fin 4, ∃ im : BitVec 16, (s.ready c = true) ∧ (aluFields ⟨a,
      b, st, im⟩ = true))
    ∧ (∃ s : State, ∃ c : Ctx, ∃ im : BitVec 16, (s.ready c = true) ∧ (im.toNat < 64))
    ∧ (∃ s : State, ∃ c : Ctx, (s.ready c = true))
    ∧ (∃ s : State, ∃ c : Ctx, (s.ready c = true))
    ∧ (∃ s : State, ∃ c : Ctx, ∃ im : BitVec 16, ∃ v : Word, (s.ready c = true) ∧ (s.port c im.toNat = some v))
    ∧ (∃ s : State, ∃ c : Ctx, ∃ im : BitVec 16, (s.ready c = true) ∧ (s.port c im.toNat = none))
    ∧ (∃ s : State, ∃ n : Fin 128, (s.ready (.chan n) = true))
    ∧ (∃ s : State, (s.ready .shelf = true)) :=
  ⟨⟨st [(F.CH_STATE_STATE 0, 2)], .chan 0, 15, 15, 0, 0, by decide +kernel⟩,
  ⟨st [(F.CS_SHSTAT_RUN, 1), (F.CS_SHPROG_LEN, 1)], .shelf, 63, by decide +kernel⟩,
  ⟨st [(F.CH_STATE_STATE 0, 2)], .chan 0, by decide +kernel⟩,
  ⟨st [(F.CH_STATE_STATE 0, 2)], .chan 0, by decide +kernel⟩,
  ⟨st [(F.CS_SHSTAT_RUN, 1), (F.CS_SHPROG_LEN, 1)], .shelf, 8, 0, by decide +kernel⟩,
  ⟨st [(F.CS_SHSTAT_RUN, 1), (F.CS_SHPROG_LEN, 1)], .shelf, 9, by decide +kernel⟩,
  ⟨st [(F.CH_STATE_STATE 0, 2)], 0, by decide +kernel⟩,
  ⟨st [(F.CS_SHSTAT_RUN, 1), (F.CS_SHPROG_LEN, 1)], by decide +kernel⟩⟩

theorem witness_ArithmeticAndFlow_2 :
    (∃ s : State, ∃ c : Ctx, ∃ a : Fin 16, ∃ b : Fin 16, ∃ im : BitVec 16, (s.ready c = true) ∧ (im.toNat < s.progLen c) ∧
      ((b.val < 5 ∧ a = 0) ∨ (b = 5 ∧ a.val < 12 ∧ c ≠ .shelf)))
    ∧ (∃ s : State, ∃ c : Ctx, ∃ im : BitVec 16, (s.ready c = true) ∧ (im.toNat < s.progLen c))
    ∧ (∃ s : State, ∃ c : Ctx, ∃ im : BitVec 16, (s.ready c = true) ∧ (im.toNat < s.progLen c) ∧ ((s.callStack c).length < 4))
    ∧ (∃ s : State, ∃ c : Ctx, ∃ r : Nat, ∃ rs : List Nat, (s.ready c = true) ∧ (s.callStack c = r :: rs))
    ∧ (∃ s : State, ∃ c : Ctx, (s.ready c = true))
    ∧ (∃ s : State, ∃ n : Fin 128, (s.ready (.chan n) = true))
    ∧ (∃ s : State, (s.ready .shelf = true)) :=
  ⟨⟨st [(F.CH_PROG_LEN 0, 1)] (st [(F.CH_STATE_STATE 0, 2)]), .chan 0, 11, 5, 15, by decide +kernel⟩,
  ⟨st [(F.CS_SHSTAT_RUN, 1), (F.CS_SHPROG_LEN, 1)], .shelf, 15, by decide +kernel⟩,
  ⟨st [(F.CH_PROG_LEN 0, 1)] (st [(F.CH_STATE_STATE 0, 2)]), .chan 0, 15, by decide +kernel⟩,
  ⟨State.modX (st [(F.CH_STATE_STATE 0, 2)]) 0 fun x => { x with stack := [3] }, .chan 0, 3, [], by decide +kernel⟩,
  ⟨st [(F.CS_SHSTAT_RUN, 1), (F.CS_SHPROG_LEN, 1)], .shelf, by decide +kernel⟩,
  ⟨st [(F.CH_STATE_STATE 0, 2)], 0, by decide +kernel⟩,
  ⟨st [(F.CS_SHSTAT_RUN, 1), (F.CS_SHPROG_LEN, 1)], by decide +kernel⟩⟩

theorem witness_ModesLimitsAndArms :
    (∃ s : State, ∃ n : Fin 128, ∃ a : Fin 16, ∃ b : Fin 16, ∃ st : Fin 4, ∃ im : BitVec 16, (s.ready (.chan n) = true) ∧
      (s.pmode ≠ mdAGING) ∧ (optFields ⟨a, b, st, im⟩ = true))
    ∧ (∃ s : State, ∃ n : Fin 128, ∃ a : Fin 16, ∃ b : Fin 16, ∃ st : Fin 4, ∃ im : BitVec 16, (s.ready (.chan n) = true) ∧
      (s.pmode ≠ mdAGING) ∧ (optFields ⟨a, b, st, im⟩ = true) ∧ (5000 ≤ (s.g (.chan n) a).toNat))
    ∧ (∃ s : State, ∃ n : Fin 128, ∃ a : Fin 16, ∃ b : Fin 16, ∃ st : Fin 4, ∃ im : BitVec 16, (s.ready (.chan n) = true) ∧
      (s.pmode ≠ mdAGING) ∧ (optFields ⟨a, b, st, im⟩ = true) ∧ ((s.g (.chan n) a).toNat < 5000))
    ∧ (∃ s : State, ∃ n : Fin 128, ∃ a : Fin 16, ∃ b : Fin 16, ∃ st : Fin 4, ∃ im : BitVec 16, (s.ready (.chan n) = true) ∧
      (s.pmode ≠ mdAGING) ∧ (optFields ⟨a, b, st, im⟩ = true) ∧ (0 ≤ (s.g (.chan n) a).toInt) ∧ ((s.g (.chan n) a).toInt ≤
      6000000))
    ∧ (∃ s : State, ∃ n : Fin 128, ∃ b : Fin 16, (s.ready (.chan n) = true) ∧ (s.pmode ≠ mdAGING) ∧ (0 ≤ (s.g (.chan n)
      b).toInt) ∧ ((s.g (.chan n) b).toInt ≤ 6000000))
    ∧ (∃ s : State, ∃ n : Fin 128, ∃ a : Fin 16, ∃ b : Fin 16, ∃ im : BitVec 16, (s.ready (.chan n) = true) ∧ (s.pmode ≠
      mdAGING) ∧ (a ≠ 15) ∧ (2 ≤ im.toNat) ∧ (im.toNat ≤ 20) ∧ (100 ≤ bitsOf (s.g (.chan n) b) 0 16) ∧ (100 ≤ bitsOf (s.g
      (.chan n) b) 16 16))
    ∧ (∃ s : State, ∃ n : Fin 128, ∃ a : Fin 16, ∃ b : Fin 16, (s.ready (.chan n) = true) ∧ (s.pmode ≠ mdAGING) ∧ (b ≠ 15) ∧
      (100 ≤ (s.g (.chan n) (nextReg b 1)).toNat) ∧ ((s.g (.chan n) (nextReg b 1)).toNat ≤ 5000000) ∧ ((s.g (.chan n)
      a).toInt.natAbs + (s.g (.chan n) b).toNat ≤ (s.lane1 n).x.limi))
    ∧ (∃ s : State, ∃ n : Fin 128, (s.ready (.chan n) = true) ∧ (s.pmode ≠ mdAGING)) :=
  ⟨⟨st [(F.CH_STATE_STATE 0, 2)], 0, 0, 0, 0, 0, by decide +kernel⟩,
  ⟨State.modX (st [(F.CH_STATE_STATE 0, 2)]) 0 fun x => { x with g := x.g.set 1 5000 }, 0, 1, 0, 0, 0, by decide +kernel⟩,
  ⟨st [(F.CH_STATE_STATE 0, 2)], 0, 0, 0, 0, 0, by decide +kernel⟩,
  ⟨State.modX (st [(F.CH_STATE_STATE 0, 2)]) 0 fun x => { x with g := x.g.set 1 6000000 }, 0, 1, 0, 0, 0, by decide +kernel⟩,
  ⟨State.modX (st [(F.CH_STATE_STATE 0, 2)]) 0 fun x => { x with g := x.g.set 1 6000000 }, 0, 1, by decide +kernel⟩,
  ⟨State.modX (st [(F.CH_STATE_STATE 0, 2)]) 0 fun x => { x with g := x.g.set 1 ((100 : Word) <<< 16 ||| 100) }, 0, 0, 1, 20, by decide +kernel⟩,
  ⟨State.modX (st [(F.CH_STATE_STATE 0, 2)]) 0 fun x => { x with g := x.g.set 2 100 }, 0, 0, 1, by decide +kernel⟩,
  ⟨st [(F.CH_STATE_STATE 0, 2)], 0, by decide +kernel⟩⟩

theorem witness_ModesLimitsAndArms_2 :
    (∃ s : State, ∃ n : Fin 128, (s.ready (.chan n) = true))
    ∧ (∃ s : State, ∃ n : Fin 128, (s.ready (.chan n) = true))
    ∧ (∃ s : State, ∃ n : Fin 128, ∃ im : BitVec 16, (s.ready (.chan n) = true) ∧ (im = 0 ∨ (10 ≤ im.toNat ∧ im.toNat ≤
      60000)))
    ∧ (∃ s : State, ∃ c : Ctx, ∃ im : BitVec 16, (s.ready c = true) ∧ (im ≠ 0))
    ∧ (∃ s : State, ∃ n : Fin 128, (s.ready (.chan n) = true)) :=
  ⟨⟨st [(F.CH_STATE_STATE 0, 2)], 0, by decide +kernel⟩,
  ⟨st [(F.CH_STATE_STATE 0, 2)], 0, by decide +kernel⟩,
  ⟨st [(F.CH_STATE_STATE 0, 2)], 0, 60000, by decide +kernel⟩,
  ⟨st [(F.CH_STATE_STATE 0, 2)], .chan 0, 1, by decide +kernel⟩,
  ⟨st [(F.CH_STATE_STATE 0, 2)], 0, by decide +kernel⟩⟩

theorem witness_MeasureAndCoordinate :
    (∃ s : State, ∃ n : Fin 128, ∃ im : BitVec 16, (s.ready (.chan n) = true) ∧ (im ≠ 0) ∧ ((s.lane1 n).k.capsNext.length +
      (s.lane1 n).k.caps.length < 4))
    ∧ (∃ s : State, ∃ n : Fin 128, ∃ im : BitVec 16, (s.ready (.chan n) = true) ∧ (im ≠ 0) ∧ (4 ≤ (s.lane1
      n).k.capsNext.length + (s.lane1 n).k.caps.length))
    ∧ (∃ s : State, ∃ n : Fin 128, ∃ a : Fin 16, ∃ b : Fin 16, ∃ im : BitVec 16, ∃ o : OpenStep, (s.ready (.chan n) = true) ∧
      (a ≠ b) ∧ (1 ≤ im.toNat) ∧ (im.toNat ≤ 1024) ∧ ((s.lane1 n).x.step = some o) ∧ (o.mode = 7))
    ∧ (∃ s : State, ∃ n : Fin 128, ∃ a : Fin 16, ∃ b : Fin 16, ∃ im : BitVec 16, ∃ o : OpenStep, (s.ready (.chan n) = true) ∧
      (a ≠ b) ∧ (1 ≤ im.toNat) ∧ (im.toNat ≤ 1024) ∧ ((s.lane1 n).x.step = some o) ∧ (o.mode ≠ 7))
    ∧ (∃ s : State, ∃ n : Fin 128, ∃ a : Fin 16, (s.ready (.chan n) = true) ∧ (a.val ≤ 12) ∧ ((s.lane1 n).x.recQ.length < 16))
    ∧ (∃ s : State, ∃ c : Ctx, ∃ a : Fin 16, (s.ready c = true) ∧ (a.val ≤ 12) ∧ (s.lastVEmit c = none) ∧
      (s.vault.queue.length < 1024))
    ∧ (∃ s : State, ∃ n : Fin 128, (s.ready (.chan n) = true))
    ∧ (∃ s : State, ∃ n : Fin 128, (s.ready (.chan n) = true)) :=
  ⟨⟨st [(F.CH_STATE_STATE 0, 2)], 0, 1, by decide +kernel⟩,
  ⟨State.modK (st [(F.CH_STATE_STATE 0, 2)]) 0 fun x => { x with caps := List.replicate 4 { dest := 0, delay := 1 } }, 0, 1, by decide +kernel⟩,
  ⟨State.modX (st [(F.CH_STATE_STATE 0, 2)]) 0 fun x => { x with step := some { mode := 7, freq := 1000 } }, 0, 0, 1, 1024, { mode := 7, freq := 1000 }, by decide +kernel⟩,
  ⟨State.modX (st [(F.CH_STATE_STATE 0, 2)]) 0 fun x => { x with step := some { mode := 1 } }, 0, 0, 1, 1, { mode := 1 }, by decide +kernel⟩,
  ⟨st [(F.CH_STATE_STATE 0, 2)], 0, 12, by decide +kernel⟩,
  ⟨st [(F.CS_SHSTAT_RUN, 1), (F.CS_SHPROG_LEN, 1)], .shelf, 12, by decide +kernel⟩,
  ⟨st [(F.CH_STATE_STATE 0, 2)], 0, by decide +kernel⟩,
  ⟨st [(F.CH_STATE_STATE 0, 2)], 0, by decide +kernel⟩⟩

theorem witness_MeasureAndCoordinate_2 :
    (∃ s : State, ∃ im : BitVec 16, (s.ready .shelf = true) ∧ (im.toNat ≤ 15))
    ∧ (∃ s : State, ∃ n : Fin 128, (s.ready (.chan n) = true) ∧ ((s.lane1 n).x.step = none) ∧ (s.flag (F.CH_PROG_SWPEND n) =
      true))
    ∧ (∃ s : State, ∃ n : Fin 128, (s.ready (.chan n) = true) ∧ (s.flag (F.CH_PROG_SWPEND n) = false))
    ∧ (∃ s : State, ∃ n : Fin 128, ∃ im : BitVec 16, (s.ready (.chan n) = true) ∧ (im.toNat ≤ 15) ∧ (s.barMember (Fin.ofNat 16
      im.toNat) n = true))
    ∧ (∃ s : State, ∃ b : Fin 16, (s.shelfWaits b = true) ∧ (s.sh.relPend = none) ∧ ((∀ n, s.barMember b n = true →
      s.barCounted n = true → s.arrived b n = true)))
    ∧ (∃ s : State, ∃ b : Fin 16, (s.shelfWaits b = true) ∧ (s.sh.relPend = none) ∧ (s.fget F.CS_BART_TMO ≠ 0) ∧ (s.sh.epFrom
      + s.fget F.CS_BART_TMO * 1000000 ≤ s.ctr))
    ∧ (∃ s : State, ∃ b : Fin 16, ∃ n : Fin 128, (s.barMember b n = true) ∧ (s.barCounted n = true) ∧ (s.arrived b n = false))
    ∧ (∃ s : State, ∃ b : Fin 16, ∃ n, (s.arrived b n = true) ∧ (s.barMember b n = true)) :=
  ⟨⟨st [(F.CS_SHSTAT_RUN, 1), (F.CS_SHPROG_LEN, 1)], 15, by decide +kernel⟩,
  ⟨st [(F.CH_PROG_SWPEND 0, 1)] (st [(F.CH_STATE_STATE 0, 2)]), 0, by decide +kernel⟩,
  ⟨st [(F.CH_STATE_STATE 0, 2)], 0, by decide +kernel⟩,
  ⟨{ st [(F.CH_STATE_STATE 0, 2)] with regs := regPut (st [(F.CH_STATE_STATE 0, 2)]).regs (.CS_BARM 15 0) 1 }, 0, 15, by decide +kernel⟩,
  ⟨{ st [(F.CS_SHSTAT_RUN, 1), (F.CS_SHPROG_LEN, 1)] with sh := { susp := .bar 0 } }, 0, by decide +kernel⟩,
  ⟨{ st [(F.CS_BART_TMO, 1)] (st [(F.CS_SHSTAT_RUN, 1), (F.CS_SHPROG_LEN, 1)]) with sh := { susp := .bar 0 }, ctr := 1000000 }, 0, by decide +kernel⟩,
  ⟨{ st [(F.CH_STATE_STATE 0, 2)] with regs := regPut (st [(F.CH_STATE_STATE 0, 2)]).regs (.CS_BARM 15 0) 1 }, 15, 0, by decide +kernel⟩,
  ⟨{ State.modX (st [(F.CH_STATE_STATE 0, 2)]) 0 fun x => { x with susp := .bar 15 } with regs := regPut (st [(F.CH_STATE_STATE 0, 2)]).regs (.CS_BARM 15 0) 1 }, 15, 0, by decide +kernel⟩⟩

theorem witness_MeasureAndCoordinate_3 :
    (∃ s : State, ∃ b : Fin 16, ∃ n, (s.arrived b n = false))
    ∧ (∃ k : Nat, (k < 8))
    ∧ (∃ k : Nat, (k < 8))
    ∧ (∃ s : State, (s.ready .shelf = true))
    ∧ (∃ s : State, ∃ c : Ctx, ∃ a : Fin 16, ∃ im : BitVec 16, (s.ready c = true) ∧ (a ≠ 0 ∨ im ≠ 0)) :=
  ⟨⟨State.reset, 0, 0, by decide +kernel⟩,
  ⟨7, by decide +kernel⟩,
  ⟨7, by decide +kernel⟩,
  ⟨st [(F.CS_SHSTAT_RUN, 1), (F.CS_SHPROG_LEN, 1)], by decide +kernel⟩,
  ⟨st [(F.CH_STATE_STATE 0, 2)], .chan 0, 15, 0, by decide +kernel⟩⟩

theorem witness_LedgerLimitsAndReports :
    (∃ s : State, (s.shelf = shRIDE ∨ s.shelf = shHALT))
    ∧ (∃ s : State, (s.shelf = shSTART ∨ s.shelf = shSAFE))
    ∧ (∃ s : State, (s.shelf = shSERVICE) ∧ (s.eff F.LG_CTL_RMEN = 1) ∧ (s.flag F.LG_CAP_RM_VALID = true))
    ∧ (∃ s : State, (s.shelf = shSERVICE) ∧ (s.feedState 0 = 5))
    ∧ (∃ s : State, (s.shelf = shSERVICE))
    ∧ (∃ l : Loads, ∃ cap : Int, ∃ regen : Int, ∃ acc : Int, ∃ x : Scales, (x.div ≤ acc.toNat) ∧ (predicted l x ≤ cap * 65536)
      ∧ (-regen * 65536 ≤ predicted l x) ∧ (predicted l x ≤ (-regen + holdBand regen) * 65536))
    ∧ (∃ l : Loads, ∃ cap : Int, ∃ regen : Int, ∃ acc : Int, ∃ x : Scales, (x.div ≤ acc.toNat) ∧ (predicted l x ≤ cap * 65536)
      ∧ (-regen * 65536 ≤ predicted l x))
    ∧ (∃ s : State, ∃ r : ThrottleRpt, (s.led.due = some r)) :=
  ⟨⟨st [(F.GL_STATE_SHELF, 2)], by decide +kernel⟩,
  ⟨st [(F.GL_STATE_SHELF, 4)], by decide +kernel⟩,
  ⟨st [(F.GL_STATE_SHELF, 1), (F.LG_CTL_RMEN, 1), (F.LG_CAP_RM_VALID, 1)], by decide +kernel⟩,
  ⟨st [(F.GL_STATE_SHELF, 1), (F.FD_FSTAT_STATE 0, 5)], by decide +kernel⟩,
  ⟨st [(F.GL_STATE_SHELF, 1)], by decide +kernel⟩,
  ⟨{ fix := 0, hu := 0, chg := Vector.replicate 4 0, dis := Vector.replicate 4 0 }, 0, 0, 0, { sc := Vector.replicate 4 65535, sd := Vector.replicate 4 65535, sh := 65535, div := 0 }, by decide +kernel⟩,
  ⟨{ fix := 0, hu := 0, chg := Vector.replicate 4 0, dis := Vector.replicate 4 0 }, 0, 0, 0, { sc := Vector.replicate 4 65535, sd := Vector.replicate 4 65535, sh := 65535, div := 0 }, by decide +kernel⟩,
  ⟨{ led := { due := some { acc := {}, at_ := 0, nthr := 0, cap := 0, src := 0, regen := 0, stale := 0 } } }, { acc := {}, at_ := 0, nthr := 0, cap := 0, src := 0, regen := 0, stale := 0 }, by decide +kernel⟩⟩

theorem witness_LedgerLimitsAndReports_2 :
    (∃ s : State, (s.eff F.LG_CTL_RMTMO ≠ 0) ∧ (s.eff F.LG_CTL_RMEN = 1) ∧ (s.flag F.LG_CAP_RM_VALID = true) ∧ (s.flag
      F.LG_STAT_RMSTALE = false) ∧ (s.reached (s.led.rmAt + s.eff F.LG_CTL_RMTMO * sec) = true))
    ∧ (∃ s : State, (10 ≤ s.led.outN) ∧ (s.led.alarmed = false)) :=
  ⟨⟨{ st [(F.LG_CTL_RMTMO, 1), (F.LG_CTL_RMEN, 1), (F.LG_CAP_RM_VALID, 1)] with time := sec }, by decide +kernel⟩,
  ⟨{ led := { outN := 10 } }, by decide +kernel⟩⟩

theorem witness_AuxConvertersStartAndStop :
    (∃ s : State, ∃ j : Fin 4, (j ≠ 3) ∧ (s.divPending = false) ∧ (s.axByTable j = false))
    ∧ (∃ s : State, ∃ j : Fin 4, (s.gateOn 10 = true) ∧ (s.ax[j].start = true) ∧ (s.auxStartable j = true))
    ∧ (∃ s : State, ∃ j : Fin 4, (j ≠ 3) ∧ (s.divPending = true ∨ s.axByTable j = true))
    ∧ (∃ s : State, ∃ j : Fin 4, (j ≠ 3) ∧ (s.axByTable j = false))
    ∧ (∃ s : State, ∃ j : Fin 4, (j ≠ 3) ∧ (s.axByTable j = true))
    ∧ (∃ s : State, ∃ j : Fin 4, ∃ mv : Int, (s.axState j = 1) ∧ (s.reached (s.ax[j].since + 200 * us) = true) ∧ (mv * 10000 ≤
      s.axTarget j * 13) ∧ (mv ≤ s.ax[j].v0 + 500))
    ∧ (∃ s : State, ∃ j : Fin 4, ∃ mv : Int, (s.axState j = 1) ∧ (s.reached (s.ax[j].since + 200 * us) = true) ∧ (s.axTarget j
      * 13 < mv * 10000 ∨ s.ax[j].v0 + 500 < mv))
    ∧ (∃ s : State, ∃ j : Fin 4, (s.axState j = 2) ∧ (s.reached (s.ax[j].since + 200 * us + s.eff (F.AX_CFG_TSS j) * ms) =
      true) ∧ (s.axBelow j 50 = false)) :=
  ⟨⟨State.reset, 0, by decide +kernel⟩,
  ⟨{ ax := Vector.replicate 4 { start := true } }, 3, by decide +kernel⟩,
  ⟨st [(F.SQ_RCFG_USE 21, 1)], 0, by decide +kernel⟩,
  ⟨st [(F.AX_STAT_STATE 0, 3)], 0, by decide +kernel⟩,
  ⟨st [(F.SQ_RCFG_USE 23, 1)], 2, by decide +kernel⟩,
  ⟨{ st [(F.AX_STAT_STATE 0, 1)] with time := 200 * us }, 0, 500, by decide +kernel⟩,
  ⟨{ st [(F.AX_STAT_STATE 0, 1)] with time := 200 * us }, 0, 501, by decide +kernel⟩,
  ⟨{ st [(F.AX_STAT_STATE 0, 2)] with regs := regPut (st [(F.AX_STAT_STATE 0, 2)]).regs (.AX_V 0) 0x7FFFFFFF, time := 10 ^ 12 }, 0, by decide +kernel⟩⟩

theorem witness_AuxConvertersStartAndStop_2 :
    (∃ s : State, ∃ j : Fin 4, ∃ a : Nat, (s.axState j = 3) ∧ (s.flag (F.AX_STAT_PG j) = false) ∧ (s.ax[j].okAt = some a) ∧
      (s.reached (a + ms) = true))
    ∧ (∃ s : State, ∃ j : Fin 4, ∃ mv : Int, ∃ held : Nat, (s.axState j = 2 ∨ s.axState j = 3) ∧ (s.axTarget j * 115 < mv *
      100000) ∧ (10 * us ≤ held))
    ∧ (∃ s : State, ∃ j : Fin 4, ∃ mv : Int, ∃ held : Nat, (s.axState j = 0 ∨ s.axState j = 1 ∨ mv * 100000 ≤ s.axTarget j *
      115 ∨ held < 10 * us))
    ∧ (∃ s : State, ∃ j : Fin 4, ∃ a : Nat, (j ≠ 3) ∧ (s.axState j = 3) ∧ (s.ax[j].uvAt = some a) ∧ (s.reached (a + ms) =
      true) ∧ (s.fget (F.AX_STAT_TRIES j) < 3))
    ∧ (∃ s : State, ∃ j : Fin 4, ∃ a : Nat, (j ≠ 3) ∧ (s.axState j = 3) ∧ (s.ax[j].uvAt = some a) ∧ (s.reached (a + ms) =
      true) ∧ (3 ≤ s.fget (F.AX_STAT_TRIES j)))
    ∧ (∃ s : State, ∃ j : Fin 4, (s.axState j = 2 ∨ s.axState j = 3) ∧ (s.eff (F.AX_CFG_TOC j) * 100 ≤ s.ax[j].limN) ∧ (s.fget
      (F.AX_STAT_TRIES j) < 3))
    ∧ (∃ s : State, ∃ j : Fin 4, (s.axState j = 4) ∧ (s.reached (s.ax[j].since + s.eff (F.AX_CFG_THIC j) * (10 * ms)) = true))
    ∧ (∃ s : State, ∃ mv : Int, (mv * 10 ≤ s.fget F.HU_STRAP_CEIL * 102)) :=
  ⟨⟨{ st [(F.AX_STAT_STATE 1, 3)] with ax := Vector.replicate 4 { okAt := some 0 }, time := ms }, 1, 0, by decide +kernel⟩,
  ⟨st [(F.AX_STAT_STATE 3, 2)], 3, 10 ^ 9, 10 * us, by decide +kernel⟩,
  ⟨State.reset, 3, 10 ^ 9, 10 * us, by decide +kernel⟩,
  ⟨{ st [(F.AX_STAT_STATE 2, 3), (F.AX_STAT_TRIES 2, 2)] with ax := Vector.replicate 4 { uvAt := some 0 }, time := ms }, 2, 0, by decide +kernel⟩,
  ⟨{ st [(F.AX_STAT_STATE 2, 3), (F.AX_STAT_TRIES 2, 3)] with ax := Vector.replicate 4 { uvAt := some 0 }, time := ms }, 2, 0, by decide +kernel⟩,
  ⟨{ st [(F.AX_STAT_STATE 0, 3)] with ax := Vector.replicate 4 { limN := 100000 } }, 0, by decide +kernel⟩,
  ⟨{ st [(F.AX_STAT_STATE 0, 4)] with time := 10 ^ 12 }, 0, by decide +kernel⟩,
  ⟨State.reset, 0, by decide +kernel⟩⟩

theorem witness_AuxConvertersStartAndStop_3 :
    ∃ s : State, ∃ mv : Int, (s.flag (F.AX_FLT_OV 3) = false) ∧ ((s.fget F.HU_STRAP_CEIL * 102 : Int) < mv * 10) :=
  ⟨State.reset, 1, by decide +kernel⟩

theorem witness_TrayLoops :
    (∃ s : State, ∃ k : Fin 16, (s.reached (s.loopNext k) = false))
    ∧ (∃ s : State, ∃ k : Fin 16, (s.gateOn 10 = true) ∧ (s.gateOn 11 = true) ∧ (s.reached (s.loopNext k) = true) ∧ (s.flag
      (F.AL_CTL_EN k) = false) ∧ (s.al[k].tune = none))
    ∧ (∃ s : State, ∃ k : Fin 16, (s.gateOn 10 = true) ∧ (s.gateOn 11 = true) ∧ (s.reached (s.loopNext k) = true) ∧ (s.flag
      (F.AL_CTL_EN k) = true) ∧ (s.flag (F.AL_CTL_FCHK k) = false) ∧ (s.al[k].tune = none))
    ∧ (∃ s : State, ∃ k : Fin 16, ∃ inp : LoopIn, (s.gateOn 10 = true) ∧ (s.gateOn 11 = true) ∧ (s.reached (s.loopNext k) =
      true) ∧ (s.flag (F.AL_CTL_EN k) = true) ∧ (s.flag (F.AL_CTL_FCHK k) = true) ∧ (s.fget (F.AL_STAT_STATE k) ≠ 4) ∧
      (s.al[k].tune = none) ∧ (2 ≤ s.al[k].bad) ∧ (inp.lain < 20 ∨ 4075 < inp.lain))
    ∧ (∃ s : State, ∃ k : Fin 16, (s.fget (F.AL_SPSRC_SRC k) ≠ 0) ∧ (s.al[k].spBad = true) ∧ (s.flag (F.AL_STAT_SPLOST k) =
      false))
    ∧ (∃ s : State, ∃ k : Fin 16, (s.flag (F.AL_CTL_AUTO k) = true) ∧ (s.fget (F.AL_STAT_STATE k) = 2))
    ∧ (∃ s : State, ∃ k : Fin 16, (s.fget (F.AL_STAT_STATE k) ≠ 2) ∧ (s.fget (F.AL_STAT_STATE k) ≠ 3))
    ∧ (∃ s : State, ∃ k : Fin 16, ∃ x : Tune, (s.al[k].tune = some x)) :=
  ⟨⟨State.reset, 0, by decide +kernel⟩,
  ⟨{ time := 100 * ms }, 0, by decide +kernel⟩,
  ⟨{ st [(F.AL_CTL_EN 15, 1), (F.AL_CTL_FCHK 15, 0)] with time := 100 * ms }, 15, by decide +kernel⟩,
  ⟨{ st [(F.AL_CTL_EN 0, 1), (F.AL_CTL_FCHK 0, 1)] with al := Vector.replicate 16 { bad := 2 }, time := 100 * ms }, 0, { lain := 19 }, by decide +kernel⟩,
  ⟨{ st [(F.AL_SPSRC_SRC 0, 1)] with al := Vector.replicate 16 { spBad := true } }, 0, by decide +kernel⟩,
  ⟨st [(F.AL_CTL_AUTO 0, 1), (F.AL_STAT_STATE 0, 2)], 0, by decide +kernel⟩,
  ⟨State.reset, 0, by decide +kernel⟩,
  ⟨{ al := Vector.replicate 16 { tune := some { bias := 0, startAt := 0 } } }, 0, { bias := 0, startAt := 0 }, by decide +kernel⟩⟩

theorem witness_TrayLoops_2 :
    (∃ s : State, ∃ k : Fin 16, ∃ x : Tune, (s.al[k].tune = some x) ∧ (s.reached (x.startAt + s.fget (F.AL_AT_ATTMO k) * (10 *
      sec)) = true) ∧ (s.reached (s.loopNext k) = false))
    ∧ (∃ s : State, ∃ k : Fin 16, (s.al[k].tune = none)) :=
  ⟨⟨{ al := Vector.replicate 16 { tune := some { bias := 0, startAt := 0 }, lastAt := 10 ^ 15 }, time := 10 ^ 15 }, 0, { bias := 0, startAt := 0 }, by decide +kernel⟩,
  ⟨State.reset, 15, by decide +kernel⟩⟩

theorem witness_RailsComeUpInOrder :
    (∃ s : State, (s.fget F.SQ_STAT_SEQ ≠ 3) ∧ (s.boot.sysRst = none) ∧ (s.offLongEnough = true) ∧ (s.boot.wdiWait = false))
    ∧ (∃ s : State, (s.fget F.SQ_STAT_SEQ = 3 ∨ s.boot.sysRst.isSome = true ∨ s.offLongEnough = false))
    ∧ (∃ s : State, (s.boot.sysRst = none) ∧ (s.boot.wdiWait = false))
    ∧ (∃ s : State, (s.flag F.SQ_STAT_SAVING = false))
    ∧ (∃ s : State, (s.flag F.SQ_STAT_SAVING = true))
    ∧ (∃ s : State, (s.fget F.SQ_STAT_SEQ = 0) ∧ (s.offLongEnough = true) ∧ (s.boot.sysRst = none) ∧ (s.flag F.SQ_STAT_PENDUP
      = true) ∧ (s.boot.wdiWait = false))
    ∧ (∃ s : State, ∃ c, (s.fget F.SQ_STAT_SEQ = 0) ∧ (s.offLongEnough = true) ∧ (c < 8) ∧ (s.boot.sysRst = some c))
    ∧ (∃ s : State, ∃ e : Fin 24, (s.rail e = rsWAIT) ∧ (s.monitored e = false) ∧ (s.sq[e].down = false) ∧ ((∃ i, s.railDep e
      i = true ∧ s.rail i ≠ rsGOOD))) :=
  ⟨⟨State.reset, by decide +kernel⟩,
  ⟨st [(F.SQ_STAT_SEQ, 3)], by decide +kernel⟩,
  ⟨State.reset, by decide +kernel⟩,
  ⟨State.reset, by decide +kernel⟩,
  ⟨st [(F.SQ_STAT_SAVING, 1)], by decide +kernel⟩,
  ⟨st [(F.SQ_STAT_PENDUP, 1)], by decide +kernel⟩,
  ⟨{ boot := { sysRst := some 7 } }, 7, by decide +kernel⟩,
  ⟨st [(F.SQ_RSTAT_STATE 1, 1)], 1, by decide +kernel⟩⟩

theorem witness_RailsComeUpInOrder_2 :
    (∃ s : State, ∃ e : Fin 24, (s.rail e = rsWAIT) ∧ (s.monitored e = false) ∧ (s.sq[e].down = false) ∧ ((∀ i, s.railDep e i
      = true → s.rail i = rsGOOD)) ∧ (e.val < 21))
    ∧ (∃ s : State, ∃ e : Fin 24, (s.rail e = rsGOOD) ∧ (s.monitored e = false) ∧ (s.sq[e].down = true) ∧ ((∃ i, s.railUse i =
      true ∧ s.railDep i e = true ∧ rsRAMP ≤ s.rail i ∧ s.rail i ≤ rsDOWN))) :=
  ⟨⟨st [(F.SQ_RSTAT_STATE 0, 1)], 0, by decide +kernel⟩,
  ⟨{ st [(F.SQ_RSTAT_STATE 0, 4), (F.SQ_RSTAT_STATE 1, 4)] with sq := Vector.replicate 24 { down := true } }, 0, by decide +kernel⟩⟩

theorem witness_RailsRampFailAndRetry :
    (∃ e : Fin 24, ∃ st : Nat, ∃ i : Fin 24, (st < 8) ∧ (i ≠ e))
    ∧ (∃ st : Nat, (st < 8))
    ∧ (∃ s : State, ∃ e : Fin 24, (s.boot.vbias = false ∨ s.railUse e = false))
    ∧ (∃ s : State, ∃ a : Nat, (s.boot.scanAt = some a) ∧ (s.time < a + 20 * us))
    ∧ (∃ s : State, ∃ e : Fin 24, ∃ mv : Nat, (s.scanDue e = true) ∧ (s.monitored e = false) ∧ (mv ≤ 65535) ∧ (s.rail e =
      rsGOOD) ∧ (s.inWindow e mv = true) ∧ (s.time < s.sq[e].since + 10 * sec))
    ∧ (∃ s : State, ∃ e : Fin 24, ∃ mv : Nat, (s.scanDue e = true) ∧ (s.monitored e = false) ∧ (mv ≤ 65535) ∧ (s.rail e =
      rsRAMP) ∧ (s.inWindow e mv = true) ∧ (s.sq[e].since + s.trMin e ≤ s.time) ∧ (s.time < s.sq[e].since + s.trMax e))
    ∧ (∃ s : State, ∃ e : Fin 24, ∃ mv : Nat, (s.scanDue e = true) ∧ (s.monitored e = false) ∧ (mv ≤ 65535) ∧ (s.rail e =
      rsGOOD) ∧ (s.inWindow e mv = false) ∧ (5 ≤ e.val ∨ s.boot.waking = false) ∧ (s.fget (F.SQ_RCFG_RESP e) = 0) ∧ (s.flag
      (rfltFld e (s.railSide e mv)) = false))
    ∧ (∃ s : State, ∃ e : Fin 24, ∃ mv : Nat, (s.scanDue e = true) ∧ (s.monitored e = false) ∧ (mv ≤ 65535) ∧ (s.rail e =
      rsGOOD) ∧ (s.inWindow e mv = false) ∧ (5 ≤ e.val ∨ s.boot.waking = false) ∧ (s.fget (F.SQ_RCFG_RESP e) = 3) ∧
      (s.sq[e].down = false) ∧ (s.boot.scanResp ≤ 3)) :=
  ⟨⟨0, 7, 23, by decide +kernel⟩,
  ⟨7, by decide +kernel⟩,
  ⟨State.reset, 23, by decide +kernel⟩,
  ⟨{ boot := { scanAt := some 0 } }, 0, by decide +kernel⟩,
  ⟨st [(F.SQ_RSTAT_STATE 0, 4)], 0, 3300, by decide +kernel⟩,
  ⟨{ st [(F.SQ_RSTAT_STATE 0, 2)] with time := 100000 }, 0, 3300, by decide +kernel⟩,
  ⟨{ st [(F.SQ_RSTAT_STATE 5, 4), (F.SQ_RCFG_EN 5, 0), (F.SQ_RCFG_USE 5, 1), (F.SQ_RCFG_RESP 5, 0)] with boot := { scanned := 4 } }, 5, 0, by decide +kernel⟩,
  ⟨{ st [(F.SQ_RSTAT_STATE 5, 4), (F.SQ_RCFG_EN 5, 0), (F.SQ_RCFG_USE 5, 1), (F.SQ_RCFG_RESP 5, 3)] with boot := { scanned := 4 } }, 5, 65535, by decide +kernel⟩⟩

theorem witness_RailsRampFailAndRetry_2 :
    (∃ s : State, ∃ e : Fin 24, (s.rail e = rsRAMP) ∧ (s.reached (s.sq[e].since + s.trMax e) = true) ∧ (5 ≤ e.val ∨
      s.boot.waking = false) ∧ (s.fget (F.SQ_RSTAT_TRIES e) < s.fget (F.SQ_RCFG_RETRY e)))
    ∧ (∃ s : State, ∃ e : Fin 24, (s.rail e = rsRAMP) ∧ (s.reached (s.sq[e].since + s.trMax e) = true) ∧ (5 ≤ e.val ∨
      s.boot.waking = false) ∧ (s.fget (F.SQ_RCFG_RETRY e) ≤ s.fget (F.SQ_RSTAT_TRIES e)))
    ∧ (∃ s : State, ∃ e : Fin 24, (s.rail e = rsRAMP) ∧ (s.reached (s.sq[e].since + s.trMax e) = true) ∧ (e.val < 5) ∧
      (s.boot.waking = true))
    ∧ (∃ s : State, ∃ e : Fin 24, (s.rail e = rsSETTLE) ∧ (s.reached (s.sq[e].since + s.tDly e) = true) ∧ (e ≠ 4 ∨
      s.boot.waking = false))
    ∧ (∃ s : State, ∃ e : Fin 24, (s.rail e = rsSETTLE) ∧ (s.reached (s.sq[e].since + s.tDly e) = true) ∧ (e = 4) ∧
      (s.boot.waking = true))
    ∧ (∃ s : State, ∃ e : Fin 24, ∃ a : Nat, (s.rail e = rsRETRY) ∧ (s.sq[e].offAt = some a) ∧ (s.reached (a + s.tOff e) =
      true) ∧ (s.sq[e].down = false))
    ∧ (∃ s : State, ∃ e : Fin 24, (s.rail e = rsDOWN) ∧ (s.reached (s.sq[e].since + 4 * s.trMax e) = true))
    ∧ (∃ s : State, (s.boot.done = true) ∧ (s.wdiDue = false)) :=
  ⟨⟨{ st [(F.SQ_RSTAT_STATE 5, 2), (F.SQ_RCFG_EN 5, 0), (F.SQ_RCFG_USE 5, 1), (F.SQ_RCFG_RETRY 5, 1)] with time := 10 ^ 9 }, 5, by decide +kernel⟩,
  ⟨{ st [(F.SQ_RSTAT_STATE 5, 2), (F.SQ_RCFG_EN 5, 0), (F.SQ_RCFG_USE 5, 1)] with time := 10 ^ 9 }, 5, by decide +kernel⟩,
  ⟨{ st [(F.SQ_RSTAT_STATE 4, 2)] with boot := { waking := true }, time := 10 ^ 9 }, 4, by decide +kernel⟩,
  ⟨{ st [(F.SQ_RSTAT_STATE 5, 3)] with time := 10 ^ 12 }, 5, by decide +kernel⟩,
  ⟨{ st [(F.SQ_RSTAT_STATE 4, 3)] with boot := { waking := true }, time := 10 ^ 12 }, 4, by decide +kernel⟩,
  ⟨{ st [(F.SQ_RSTAT_STATE 0, 6)] with sq := Vector.replicate 24 { offAt := some 0 }, time := 10 ^ 12 }, 0, 0, by decide +kernel⟩,
  ⟨{ st [(F.SQ_RSTAT_STATE 0, 5)] with time := 10 ^ 12 }, 0, by decide +kernel⟩,
  ⟨served, by decide +kernel⟩⟩

theorem witness_RailsRampFailAndRetry_3 :
    (∃ s : State, (s.wdiDue = true))
    ∧ (∃ s : State, (s.boot.wdiWait = true) ∧ (s.fget F.SQ_STAT_SEQ = 3))
    ∧ (∃ s : State, ∃ a : Nat, (s.boot.wakeAt = some a) ∧ (s.reached a = true)) :=
  ⟨⟨{ st [(F.SQ_WDI_ARMED, 1), (F.SQ_WDI_TMO, 1)] with boot := { wdiAt := some 0 }, time := 10 ^ 6 }, by decide +kernel⟩,
  ⟨{ st [(F.SQ_STAT_SEQ, 3)] with boot := { wdiWait := true } }, by decide +kernel⟩,
  ⟨{ boot := { wakeAt := some 0 } }, 0, by decide +kernel⟩⟩

theorem witness_ResetsAndBoot :
    (∃ low : Nat, (low < 10 * us))
    ∧ (∃ s : State, ∃ low : Nat, (s.wf = true) ∧ (10 * us ≤ low))
    ∧ (∃ s : State, (s.wf = true))
    ∧ (∃ s : State, ∃ low : Nat, (s.wf = true) ∧ (s.boot.vbias = true) ∧ (10 * us ≤ low))
    ∧ (∃ s : State, ∃ low : Nat, (s.boot.vbias = false ∨ low < 10 * us))
    ∧ (∃ s : State, (s.boot.vbias = false))
    ∧ (∃ s : State, ∃ img : BootImage, (s.bootReady = true) ∧ (s.boot.wdiWait = false) ∧ ((s.bootBank img).isSome = true))
    ∧ (∃ s : State, ∃ img : BootImage, (s.bootReady = true) ∧ (s.boot.wdiWait = false) ∧ (s.bootBank img = none)) :=
  ⟨⟨9999, by decide +kernel⟩,
  ⟨State.reset, 10 * us, by decide +kernel⟩,
  ⟨State.reset, by decide +kernel⟩,
  ⟨State.reset, 10 * us, by decide +kernel⟩,
  ⟨State.reset, 9999, by decide +kernel⟩,
  ⟨{ boot := { vbias := false } }, by decide +kernel⟩,
  ⟨st ([0, 1, 2, 3].map (fun e => (F.SQ_RSTAT_STATE e, 4)) ++ [(F.CK_SRCSTAT_HFRC, 1), (F.CK_SRCSTAT_XHF, 1), (lockFld 0, 1), (lockFld 1, 1), (lockFld 2, 1)]), {}, by decide +kernel⟩,
  ⟨st ([0, 1, 2, 3].map (fun e => (F.SQ_RSTAT_STATE e, 4)) ++ [(F.CK_SRCSTAT_HFRC, 1), (F.CK_SRCSTAT_XHF, 1), (lockFld 0, 1), (lockFld 1, 1), (lockFld 2, 1)]), { bankA := false, bankB := false }, by decide +kernel⟩⟩

theorem witness_PowerModesChange :
    (∃ s : State, ∃ a : Nat, (s.mode.exitAt = none) ∧ (s.mode.wakeFrom = none) ∧ (s.mode.toRun = false) ∧ (s.pmode <
      s.modeAsked) ∧ (s.modeWhy s.modeAsked = 0) ∧ (s.mode.condFrom = some a) ∧ (s.reached (a + 100 * ms) = true))
    ∧ (∃ s : State, (s.mode.exitAt = none) ∧ (s.mode.wakeFrom = none) ∧ (s.pmode = mdSTANDBY) ∧ (s.modeAsked = 0) ∧ (s.flag
      F.GL_MODE_REFUSED = false) ∧ (s.effFlag F.CK_COMPAT_EN = false))
    ∧ (∃ s : State, (s.mode.exitAt = none) ∧ (s.mode.wakeFrom = none) ∧ (s.pmode = mdAGING) ∧ (s.modeAsked < mdAGING))
    ∧ (∃ s : State, (s.pmode = mdAGING) ∧ (s.mode.exitAt = none) ∧ (s.mode.burst = none) ∧ (s.mode.nextBurst < s.ctr + 250 *
      ms + tCtl))
    ∧ (∃ s : State, ∃ b : Nat, (s.mode.burst = some b) ∧ (s.pmode = mdAGING) ∧ (s.mode.nextBurst = b) ∧ (b ≤ s.ctr) ∧ (s.ctr <
      b + tCtl))
    ∧ (∃ s : State, ∃ b : Nat, (s.mode.burst = some b) ∧ (s.pmode = mdAGING) ∧ (s.mode.nextBurst = b) ∧ (s.burstFull b =
      true))
    ∧ (∃ s : State, ∃ b : Nat, (s.mode.burst = some b) ∧ (s.pmode = mdAGING) ∧ (s.mode.nextBurst = b) ∧ (s.ctr < b + 100 * ms
      + metDelay))
    ∧ (∃ s : State, ∃ b : Nat, (s.mode.burst = some b) ∧ (s.pmode = mdAGING) ∧ (s.mode.exitAt = none) ∧ (b < s.mode.nextBurst)
      ∧ (s.lane.done = none) ∧ (s.lane.fixes = [])) :=
  ⟨⟨{ st [(F.GL_MODE_REQ, 1), (F.GL_STATE_SHELF, 1)] with mode := { condFrom := some 0 }, time := 100 * ms }, 0, by decide +kernel⟩,
  ⟨st [(F.GL_STATE_MODE, 1)], by decide +kernel⟩,
  ⟨st [(F.GL_STATE_MODE, 2)], by decide +kernel⟩,
  ⟨st [(F.GL_STATE_MODE, 2)], by decide +kernel⟩,
  ⟨{ st [(F.GL_STATE_MODE, 2)] with mode := { burst := some 0, nextBurst := 0 } }, 0, by decide +kernel⟩,
  ⟨{ st [(F.GL_STATE_MODE, 2)] with mode := { burst := some 0, nextBurst := 0 }, ctr := 100 * ms + metDelay }, 0, by decide +kernel⟩,
  ⟨{ st [(F.GL_STATE_MODE, 2)] with mode := { burst := some 0, nextBurst := 0 } }, 0, by decide +kernel⟩,
  ⟨{ st [(F.GL_STATE_MODE, 2)] with mode := { burst := some 0, nextBurst := 1 } }, 0, by decide +kernel⟩⟩

theorem witness_PowerModesChange_2 :
    (∃ s : State, ((∀ n, s.armDue (.chan n) = false)) ∧ (s.armDue .shelf = false))
    ∧ (∃ s : State, ∃ a : Nat, (s.mode.exitAt = some a) ∧ (s.reached a = true) ∧ (s.mode.safePend = none))
    ∧ (∃ s : State, ∃ a : Nat, ∃ c, (s.mode.exitAt = some a) ∧ (s.reached a = true) ∧ (c < 256) ∧ (s.mode.safePend = some c))
    ∧ (∃ s : State, (s.pmode = mdDEEP) ∧ (s.mode.wakeFrom.isSome = true))
    ∧ (∃ s : State, (s.pmode = mdDEEP) ∧ (s.mode.wakeFrom.isSome = true) ∧ (s.pllsUp = true) ∧ (s.mode.safePend = none))
    ∧ (∃ s : State, ∃ a : Nat, (s.link.rate.retryAt = some a) ∧ (s.reached a = true) ∧ (s.rateState = 0) ∧
      (s.link.rate.restore = false) ∧ (s.modeAsked = 2 ∨ s.modeAsked = 3) ∧ (s.pmode < s.modeAsked) ∧ (s.modeWaits s.modeAsked
      = 0) ∧ (s.flag F.HL_CFG_HSREQ = true) ∧ (s.managers ≠ [])) :=
  ⟨⟨State.reset, by decide +kernel⟩,
  ⟨{ mode := { exitAt := some 0 } }, 0, by decide +kernel⟩,
  ⟨{ mode := { exitAt := some 0, safePend := some 255 } }, 0, 255, by decide +kernel⟩,
  ⟨{ st [(F.GL_STATE_MODE, 3)] with mode := { wakeFrom := some 0 } }, by decide +kernel⟩,
  ⟨{ st [(F.GL_STATE_MODE, 3), (lockFld 0, 1), (lockFld 1, 1), (lockFld 2, 1)] with mode := { wakeFrom := some 0 } }, by decide +kernel⟩,
  ⟨{ st [(F.GL_MODE_REQ, 3)] with link := { rate := { retryAt := some 0 }, sess := Vector.replicate 8 { opn := true, lmgr := true } } }, 0, by decide +kernel⟩⟩

theorem witness_ClocksAreJudgedAndStepped :
    (∃ s : State, ∃ c : Clock, ∃ k : Nat, ∃ a : Nat, ((s.clk.judge[clockIx c]).from_ = some a) ∧ (s.windowDue c = true) ∧
      (nearNominal c k = true) ∧ (nearFirst (s.clk.judge[clockIx c]).first k = true) ∧ (7 ≤ (s.clk.judge[clockIx c]).run))
    ∧ (∃ s : State, ∃ c : Clock, ∃ k : Nat, ∃ a : Nat, ((s.clk.judge[clockIx c]).from_ = some a) ∧ (s.windowDue c = true) ∧
      (nearNominal c k = false))
    ∧ (∃ s : State, ∃ c : Clock, ∃ a : Nat, ((s.clk.judge[clockIx c]).from_ = some a) ∧ (s.windowDue c = true) ∧
      ((s.clk.judge[clockIx c]).run < 7))
    ∧ (∃ s : State, ∃ c : Clock, (s.windowDue c = false))
    ∧ (∃ s : State, ∃ c : Clock, ∃ a : Nat, ((s.clk.judge[clockIx c]).from_ = some a) ∧ (s.reached (a + judgeDeadline c) =
      true) ∧ ((s.clk.judge[clockIx c]).run < 7 ∨ s.windowDue c = false))
    ∧ (∃ s : State, ∃ x : XhfIn, (xhfLost x = true) ∧ (s.flag F.CK_SRCSTAT_XHF = true) ∧ (s.pmode ≤ mdSTANDBY))
    ∧ (∃ x : XhfIn, (xhfLost x = false) ∧ (760000 ≤ x.pwm))
    ∧ (∃ s : State, ∃ x : XhfIn, (x.pwm < 760000) ∧ (s.pmode ≤ mdSTANDBY) ∧ (s.clk.pwmLow = false)) :=
  ⟨⟨{ clk := { judge := Vector.replicate 7 { from_ := some 0, first := 96000, run := 7 } }, time := ms }, .xhf, 96000, 0, by decide +kernel⟩,
  ⟨{ clk := { judge := Vector.replicate 7 { from_ := some 0, first := 96000, run := 7 } }, time := ms }, .xhf, 0, 0, by decide +kernel⟩,
  ⟨{ clk := { judge := Vector.replicate 7 { from_ := some 0 } }, time := ms }, .sdpll, 0, by decide +kernel⟩,
  ⟨State.reset, .xhf, by decide +kernel⟩,
  ⟨{ clk := { judge := Vector.replicate 7 { from_ := some 0 } }, time := 10 ^ 10 }, .xlf, 0, by decide +kernel⟩,
  ⟨st [(F.CK_SRCSTAT_XHF, 1)], { gap := 200 }, by decide +kernel⟩,
  ⟨{}, by decide +kernel⟩,
  ⟨State.reset, { pwm := 759999 }, by decide +kernel⟩⟩

theorem witness_ClocksAreJudgedAndStepped_2 :
    (∃ s : State, (s.trimDue = false))
    ∧ (∃ s : State, ∃ n : Nat, (s.trimDue = true) ∧ (((n : Int) - 96000000).natAbs ≤ 31000000) ∧ (((n : Int) -
      96000000).natAbs ≤ 48000))
    ∧ (∃ s : State, ∃ n : Nat, (s.trimDue = true) ∧ (((n : Int) - 96000000).natAbs ≤ 31000000) ∧ (96048000 < n) ∧ (13 < s.fget
      F.CK_TRIM_CODE) ∧ (s.fget F.CK_TRIM_CODE ≤ 1012))
    ∧ (∃ s : State, ∃ n : Nat, (s.trimDue = true) ∧ (((n : Int) - 96000000).natAbs ≤ 31000000) ∧ (n < 95952000) ∧ (s.fget
      F.CK_TRIM_CODE = 1011) ∧ (s.flag F.CK_SRCSTAT_TRIMLIM = false))
    ∧ (∃ s : State, (s.flag F.CK_SRCSTAT_TSRC = true))
    ∧ (∃ s : State, ∃ k : CompatStep, ∃ md : Byte, ∃ w : BitVec 16, (s.clk.compat = some k) ∧ (k.okAt = none) ∧ (k.retryAt =
      none) ∧ (s.reached (k.pollAt + 200 * us) = true) ∧ (md.toNat / 32 = 0) ∧ (confirms md w (s.levelVolt k.level) = true) ∧
      (k.up = true))
    ∧ (∃ s : State, ∃ k : CompatStep, ∃ md : Byte, ∃ w : BitVec 16, (s.clk.compat = some k) ∧ (k.okAt = none) ∧ (k.retryAt =
      none) ∧ (s.reached (k.pollAt + 200 * us) = true) ∧ (md.toNat / 32 = 0) ∧ (confirms md w (s.levelVolt k.level) = true) ∧
      (k.up = false))
    ∧ (∃ s : State, ∃ k : CompatStep, ∃ md : Byte, ∃ w : BitVec 16, (s.clk.compat = some k) ∧ (k.okAt = none) ∧ (k.retryAt =
      none) ∧ (s.reached (k.pollAt + 200 * us) = true) ∧ (md.toNat / 32 = 0) ∧ (confirms md w (s.levelVolt k.level) = false)) :=
  ⟨⟨State.reset, by decide +kernel⟩,
  ⟨{ st [(F.CK_SRC_TRSRC, 1), (F.CK_SRCSTAT_XHF, 1)] with time := sec }, 96048000, by decide +kernel⟩,
  ⟨{ st [(F.CK_SRC_TRSRC, 1), (F.CK_SRCSTAT_XHF, 1), (F.CK_TRIM_CODE, 1012)] with time := sec }, 96048001, by decide +kernel⟩,
  ⟨{ st [(F.CK_SRC_TRSRC, 2), (F.CK_TRIM_CODE, 1011)] with clk := { qualPair := true } }, 95951999, by decide +kernel⟩,
  ⟨st [(F.CK_SRCSTAT_TSRC, 1)], by decide +kernel⟩,
  ⟨{ clk := { compat := some { level := 0, up := true, since := 0 } }, time := 200 * us }, { level := 0, up := true, since := 0 }, 0x18, 205, by decide +kernel⟩,
  ⟨{ clk := { compat := some { level := 1, up := false, since := 0 } }, time := 200 * us }, { level := 1, up := false, since := 0 }, 0x18, 192, by decide +kernel⟩,
  ⟨{ clk := { compat := some { level := 0, up := true, since := 0 } }, time := 200 * us }, { level := 0, up := true, since := 0 }, 0x18, 0, by decide +kernel⟩⟩

theorem witness_ClocksAreJudgedAndStepped_3 :
    (∃ s : State, ∃ k : CompatStep, ∃ i : Instr, (s.clk.compat = some k) ∧ (k.okAt = none) ∧ (k.retryAt = none) ∧ (s.reached
      (k.pollAt + 200 * us) = true) ∧ (i = .compatVoutPoll none ∨ (i = .compatStepTimeout ∧ s.reached (k.since + s.eff
      F.CK_COMPAT_TVC * ms) = true)) ∧ (k.up = true) ∧ (s.fget F.CK_CSTEP_FAILS < 2))
    ∧ (∃ s : State, ∃ k : CompatStep, ∃ i : Instr, (s.clk.compat = some k) ∧ (k.okAt = none) ∧ (k.retryAt = none) ∧ (s.reached
      (k.pollAt + 200 * us) = true) ∧ (i = .compatVoutPoll none ∨ (i = .compatStepTimeout ∧ s.reached (k.since + s.eff
      F.CK_COMPAT_TVC * ms) = true)) ∧ (k.up = true) ∧ (2 ≤ s.fget F.CK_CSTEP_FAILS))
    ∧ (∃ s : State, ∃ k : CompatStep, ∃ a : Nat, (s.clk.compat = some k) ∧ (k.retryAt = some a) ∧ (s.reached a = true)) :=
  ⟨⟨{ clk := { compat := some { level := 0, up := true, since := 0 } }, time := 200 * us }, { level := 0, up := true, since := 0 }, .compatVoutPoll none, by decide +kernel, by decide +kernel, by decide +kernel, by decide +kernel, Or.inl rfl, by decide +kernel, by decide +kernel⟩,
  ⟨{ st [(F.CK_CSTEP_FAILS, 2)] with clk := { compat := some { level := 0, up := true, since := 0 } }, time := 200 * us }, { level := 0, up := true, since := 0 }, .compatVoutPoll none, by decide +kernel, by decide +kernel, by decide +kernel, by decide +kernel, Or.inl rfl, by decide +kernel, by decide +kernel⟩,
  ⟨{ clk := { compat := some { level := 0, up := true, since := 0, retryAt := some 0 } } }, { level := 0, up := true, since := 0, retryAt := some 0 }, 0, by decide +kernel⟩⟩

theorem witness_ShelfTimeIsServoed :
    (∃ s : State, (s.allIdle = true))
    ∧ (∃ s : State, (s.allIdle = false))
    ∧ (∃ s : State, ∃ x : Nat, (s.flag F.CK_PPS_EN = true) ∧ (s.effFlag F.CK_PPS_EN = true) ∧ (s.ppsSpaced (s.ctr + x) = true)
      ∧ (s.fget F.CK_PPSSTAT_STATE = 3) ∧ ((ppsFold (s.ctr + x)).natAbs ≤ s.eff F.CK_PPS_WIN * 1000))
    ∧ (∃ s : State, (s.flag F.CK_PPS_EN = false))
    ∧ (∃ s : State, ∃ a : Nat, (s.clk.lastQual = some a) ∧ (a + 1100000000 < s.ctr) ∧ (1 ≤ s.fget F.CK_PPSSTAT_STATE) ∧
      (s.fget F.CK_PPSSTAT_STATE ≤ 3))
    ∧ (∃ s : State, ∃ r : Int, ∃ a : Nat, (s.clk.slew = some (r, a)) ∧ (a < s.ctr + tCtl) ∧ (-200000000 ≤ r) ∧ (r ≤
      200000000))
    ∧ (∃ s : State, (s.fget F.CK_PPSSTAT_STATE = 4) ∧ (s.clk.holdDone = false) ∧ (s.reached (s.clk.holdAt + s.eff
      F.CK_HOLD_HOLDMAX * 3600 * sec + sec) = true)) :=
  ⟨⟨State.reset, by decide +kernel⟩,
  ⟨st [(F.CH_STATE_STATE 0, 2)], by decide +kernel⟩,
  ⟨{ st [(F.CK_PPS_EN, 1), (F.CK_PPSSTAT_STATE, 3)] with clk := { lastEdge := some 0 } }, sec, by decide +kernel⟩,
  ⟨st [(F.CK_PPS_EN, 0)], by decide +kernel⟩,
  ⟨{ st [(F.CK_PPSSTAT_STATE, 3)] with clk := { lastQual := some 0 }, ctr := 1100000001 }, 0, by decide +kernel⟩,
  ⟨{ clk := { slew := some (200000000, 0) } }, 200000000, 0, by decide +kernel⟩,
  ⟨{ st [(F.CK_PPSSTAT_STATE, 4)] with time := 10 ^ 18 }, by decide +kernel⟩⟩

theorem witness_VaultWritesMergesAndClears :
    (∃ s : State, ∃ r : VRec, ∃ q : List VRec, (s.boot.vaultOn = true) ∧ (s.flag F.VT_STAT_CLRING = false) ∧ (s.vault.queue =
      r :: q) ∧ (s.vault.last = none))
    ∧ (∃ s : State, ∃ r : VRec, ∃ l : VRec, ∃ q : List VRec, ∃ c : Nat, (s.boot.vaultOn = true) ∧ (s.flag F.VT_STAT_CLRING =
      false) ∧ (s.vault.queue = r :: q) ∧ (s.vault.last = some (l, c)) ∧ (r.merges l c = true) ∧ (s.flag F.VT_CTL_FLOOD =
      true))
    ∧ (∃ s : State, (s.boot.vaultOn = false ∨ s.flag F.VT_STAT_CLRING = true))
    ∧ (∃ s : State, ((s.cellar.snap.map Snap.closed).getD false = false) ∧ (s.flag F.GL_LOCK_OPEN = true))
    ∧ (∃ s : State, ((s.cellar.snap.map Snap.closed).getD false = false) ∧ (s.flag F.GL_LOCK_OPEN = false))
    ∧ (∃ s : State, ((s.cellar.snap.map Snap.closed).getD false = true))
    ∧ (∃ s : State, (s.wf = true) ∧ (s.flag F.VT_STAT_CLRING = true)) :=
  ⟨⟨{ boot := { vaultOn := true }, vault := { queue := [{ typ := 1, occ := { num := 5, sev := 2, stamp := 0 } }] } }, { typ := 1, occ := { num := 5, sev := 2, stamp := 0 } }, [], by decide +kernel⟩,
  ⟨{ st [(F.VT_CTL_FLOOD, 1)] with boot := { vaultOn := true }, vault := { queue := [{ typ := 1, occ := { num := 5, sev := 2, stamp := 0 } }], last := some ({ typ := 1, occ := { num := 5, sev := 2, stamp := 0 } }, 65534) } }, { typ := 1, occ := { num := 5, sev := 2, stamp := 0 } }, { typ := 1, occ := { num := 5, sev := 2, stamp := 0 } }, [], 65534, by decide +kernel⟩,
  ⟨State.reset, by decide +kernel⟩,
  ⟨st [(F.GL_LOCK_OPEN, 1)], by decide +kernel⟩,
  ⟨State.reset, by decide +kernel⟩,
  ⟨{ cellar := { snap := some { slot := 3, causes := 15, num := 65535, stamp := 0, t := 0, evNum := 0, joined := 0, freeze := true, closed := true } } }, by decide +kernel⟩,
  ⟨st [(F.VT_STAT_CLRING, 1)], by decide +kernel⟩⟩

theorem witness_CellarTakesSnapshots :
    (∃ s : State, ∃ k : Fin 4, (s.cellar.snap = none) ∧ (s.freeSlot = some k))
    ∧ (∃ s : State, ∃ sn : Snap, (s.cellar.snap = some sn))
    ∧ (∃ s : State, (s.cellar.snap = none) ∧ (s.freeSlot = none))
    ∧ (∃ s : State, ∃ sn : Snap, (s.cellar.snap = some sn) ∧ (sn.closed = false) ∧ (sn.t + 49900 * us + 400 * us ≤ s.ctr))
    ∧ (∃ s : State, ∃ sn : Snap, (s.cellar.snap = some sn) ∧ (sn.closed = true) ∧ (s.boot.vaultOn = true) ∧ (sn.causes < 16) ∧
      (sn.num < 65536) ∧ (s.vault.queue.length < 1024)) :=
  ⟨⟨State.reset, 0, by decide +kernel⟩,
  ⟨{ cellar := { snap := some { slot := 0, causes := 8, num := 0, stamp := 0, t := 0, evNum := 0, joined := 0, freeze := true } } }, { slot := 0, causes := 8, num := 0, stamp := 0, t := 0, evNum := 0, joined := 0, freeze := true }, by decide +kernel⟩,
  ⟨st ((List.finRange 4).map fun k => (F.VT_CSLOT_FROZEN k, 1)), by decide +kernel⟩,
  ⟨{ cellar := { snap := some { slot := 0, causes := 8, num := 0, stamp := 0, t := 0, evNum := 0, joined := 0, freeze := true } }, ctr := 50300 * us }, { slot := 0, causes := 8, num := 0, stamp := 0, t := 0, evNum := 0, joined := 0, freeze := true }, by decide +kernel⟩,
  ⟨{ boot := { vaultOn := true }, cellar := { snap := some { slot := 3, causes := 15, num := 65535, stamp := 0, t := 0, evNum := 0, joined := 0, freeze := true, closed := true } } }, { slot := 3, causes := 15, num := 65535, stamp := 0, t := 0, evNum := 0, joined := 0, freeze := true, closed := true }, by decide +kernel⟩⟩

theorem witness_EventsAreCountedAndRouted :
    (∃ s : State, ∃ o : Occ, (o.num < 512) ∧ (s.masked o.num = false))
    ∧ (∃ o : Occ, ∃ k : Nat, (o.num < 512) ∧ (k < 512) ∧ (k ≠ o.num))
    ∧ (∃ s : State, ∃ o : Occ, (o.num < 512) ∧ (s.masked o.num = true) ∧ (o.required = false))
    ∧ (∃ s : State, ∃ o : Occ, (o.num < 512) ∧ (s.masked o.num = true))
    ∧ (∃ s : State, ∃ o : Occ, (o.num < 512) ∧ (s.masked o.num = false) ∧ (s.fget (F.EV_CFG_VLTSEV (evIx o.num)) ≤ o.sev ∨
      o.required = true) ∧ (s.vault.queue.length < 1024))
    ∧ (∃ s : State, ∃ o : Occ, (o.num < 512) ∧ (s.masked o.num = false) ∧ (s.fget (F.EV_CFG_NTFYSEV (evIx o.num)) ≤ o.sev) ∧
      (o.num ≠ 430) ∧ (s.ev.notify.length < 16))
    ∧ (∃ o : Occ, ∃ r : Reg, (o.num < 512) ∧ (r.group ≠ 2) ∧ (r.group ≠ 10))
    ∧ (∃ o : Occ, (o.num < 512)) :=
  ⟨⟨State.reset, { num := 5, sev := 2, stamp := 0 }, by decide +kernel⟩,
  ⟨{ num := 5, sev := 2, stamp := 0 }, 511, by decide +kernel⟩,
  ⟨{ regs := [(.EV_MASK 0, 32)] }, { num := 5, sev := 2, stamp := 0 }, by decide +kernel⟩,
  ⟨{ regs := [(.EV_MASK 0, 32)] }, { num := 5, sev := 2, stamp := 0 }, by decide +kernel⟩,
  ⟨State.reset, { num := 5, sev := 2, stamp := 0 }, by decide +kernel⟩,
  ⟨State.reset, { num := 5, sev := 3, stamp := 0 }, by decide +kernel⟩,
  ⟨{ num := 511, sev := 0, stamp := 0 }, .GL_ID, by decide +kernel⟩,
  ⟨{ num := 511, sev := 0, stamp := 0 }, by decide +kernel⟩⟩

theorem witness_EventsAreCountedAndRouted_2 :
    (∃ s : State, (s.boot.vaultOn = false) ∧ (s.pmode ≠ mdDEEP) ∧ (s.ev.attic.length < 64))
    ∧ (∃ s : State, ∃ v : Nat, (s.boot.vaultOn = false) ∧ (s.pmode ≠ mdDEEP) ∧ (64 ≤ s.ev.attic.length) ∧ (v < 2))
    ∧ (∃ s : State, (s.boot.vaultOn = true) ∧ (s.ev.attic ≠ []))
    ∧ (∃ s : State, (s.boot.vaultOn = true))
    ∧ (∃ s : State, (s.boot.vaultOn = false)) :=
  ⟨⟨State.reset, by decide +kernel⟩,
  ⟨{ ev := { attic := List.replicate 64 { num := 5, sev := 2, stamp := 0 } } }, 1, by decide +kernel⟩,
  ⟨{ boot := { vaultOn := true }, ev := { attic := [{ num := 5, sev := 2, stamp := 0 }] } }, by decide +kernel⟩,
  ⟨{ boot := { vaultOn := true } }, by decide +kernel⟩,
  ⟨State.reset, by decide +kernel⟩⟩

theorem witness_RightsThenWordsAndBlocks :
    (∃ s : State, (s.flag F.HL_STAT_RECOV = true))
    ∧ (∃ s : State, ∃ x : Sess, ∃ _a : Nat, ∃ n : Nat, ∃ w : Word, ∃ _v : Word, ∃ _vs : List Word, ∃ i : Instr, (s.flag
      F.HL_STAT_RECOV = false) ∧ (s.allowed x .write = false) ∧ (i = .bulkOpen x n ∨ i = .imageStage x w ∨ i = .imageCommit x
      w ∨ i = .wake x))
    ∧ (∃ s : State, ∃ x : Sess, (s.flag F.HL_STAT_RECOV = false) ∧ (s.allowed x .write = false))
    ∧ (∃ s : State, ∃ x : Sess, ∃ a : Nat, (s.flag F.HL_STAT_RECOV = false) ∧ (s.allowed x .write = true) ∧ (s.serving =
      false) ∧ (placeOf a = .none))
    ∧ (∃ s : State, ∃ x : Sess, ∃ a : Nat, (s.flag F.HL_STAT_RECOV = false) ∧ (s.allowed x .write = true) ∧ (s.serving =
      false) ∧ (placeOf a = .store))
    ∧ (∃ s : State, ∃ x : Sess, ∃ a : Nat, ∃ vs : List Word, (s.flag F.HL_STAT_RECOV = false) ∧ (s.allowed x .write = true) ∧
      (s.serving = false) ∧ (occupied a = false) ∧ (vs ≠ []))
    ∧ (∃ s : State, ∃ x : Sess, (s.flag F.HL_STAT_RECOV = false) ∧ (s.allowed x .write = true) ∧ (s.serving = false))
    ∧ (∃ s : State, ∃ x : Sess, ∃ a : Nat, ∃ n : Nat, ∃ _w : Word, ∃ _v : Word, ∃ _vs : List Word, ∃ i : Instr, (s.flag
      F.HL_STAT_RECOV = false) ∧ (s.allowed x .read = false) ∧ (i = .read32 x a ∨ i = .readBlock x a n ∨ i = .bulkStatus x n ∨
      i = .bulkRead x a n)) :=
  ⟨⟨st [(F.HL_STAT_RECOV, 1)], by decide +kernel⟩,
  ⟨served, .anon, 0, 0, 0, 0, [], .wake .anon, by decide +kernel⟩,
  ⟨served, .anon, by decide +kernel⟩,
  ⟨State.reset, .spi, 0x280000, by decide +kernel⟩,
  ⟨State.reset, .spi, 0x200000, by decide +kernel⟩,
  ⟨State.reset, .spi, 0x280000, [0], by decide +kernel⟩,
  ⟨State.reset, .spi, by decide +kernel⟩,
  ⟨st [(F.HL_CFG_ANONRD, 0)], .anon, 0, 0, 0, 0, [], .read32 .anon 0, by decide +kernel⟩⟩

theorem witness_RightsThenWordsAndBlocks_2 :
    (∃ s : State, (s.flag F.HL_CFG_ANONRD = false))
    ∧ (∃ s : State, (s.flag F.HL_CFG_SPIAUTH = false))
    ∧ (∃ s : State, ∃ x : Sess, ∃ a : Nat, ∃ r, (s.mayGive x .read) ∧ (placeOf a = .reg r))
    ∧ (∃ s : State, ∃ x : Sess, ∃ a : Nat, (s.mayGive x .read) ∧ (placeOf a = .store))
    ∧ (∃ s : State, ∃ x : Sess, ∃ a : Nat, (s.mayGive x .read) ∧ (placeOf a = .none))
    ∧ (∃ s : State, ∃ x : Sess, ∃ _a : Nat, ∃ _w : Word, (s.mayGive x .write))
    ∧ (∃ s : State, ∃ x : Sess, ∃ a : Nat, ∃ n : Nat, (s.mayGive x .read) ∧ (a % 4 = 0) ∧ (0x200000 ≤ a) ∧ (a + 4 * n ≤
      0x280000) ∧ (1 ≤ n) ∧ (n ≤ 256))
    ∧ (∃ s : State, ∃ x : Sess, ∃ a : Nat, ∃ n : Nat, (s.mayGive x .read) ∧ ((∃ k, k < n ∧ occupied (a + 4 * k) = false))) :=
  ⟨⟨st [(F.HL_CFG_ANONRD, 0)], by decide +kernel⟩,
  ⟨State.reset, by decide +kernel⟩,
  ⟨served, .anon, 0, .GL_ID, by unfold State.mayGive; decide +kernel⟩,
  ⟨served, .spi, 0x27FFFC, by unfold State.mayGive; decide +kernel⟩,
  ⟨served, .slot 0, 0x280000, by unfold State.mayGive; decide +kernel⟩,
  ⟨served, .spi, 0, 0, by unfold State.mayGive; decide +kernel⟩,
  ⟨served, .anon, 0x280000 - 1024, 256, by unfold State.mayGive; decide +kernel⟩,
  ⟨served, .anon, 0x27FFFC, 2, by unfold State.mayGive; decide +kernel, ⟨1, by decide +kernel⟩⟩⟩

theorem witness_RightsThenWordsAndBlocks_3 :
    (∃ s : State, ∃ x : Sess, ∃ a : Nat, ∃ vs : List Word, (s.mayGive x .write) ∧ (a % 4 = 0) ∧ (0x200000 ≤ a) ∧ (a + 4 *
      vs.length ≤ 0x280000) ∧ (vs ≠ []) ∧ (vs.length ≤ 256) ∧ ((∀ k, k < vs.length → s.storeLocked (a + 4 * k) = false)))
    ∧ (∃ s : State, ∃ x : Sess, ∃ a : Nat, ∃ vs : List Word, ∃ k, (s.mayGive x .write) ∧ (a % 4 = 0) ∧ (0x200000 ≤ a) ∧ (a + 4
      * vs.length ≤ 0x280000) ∧ (vs ≠ []) ∧ (vs.length ≤ 256) ∧ (k < vs.length) ∧ (s.storeLocked (a + 4 * k) = true) ∧ ((∀ j,
      j < k → s.storeLocked (a + 4 * j) = false)))
    ∧ (∃ s : State, ∃ x : Sess, ∃ a : Nat, ∃ vs : List Word, ∃ k : Nat, (s.mayGive x .write) ∧ (k < vs.length) ∧ (occupied (a
      + 4 * k) = false) ∧ ((∀ j, j < k → occupied (a + 4 * j) = true))) :=
  ⟨⟨served, .spi, 0x27FFFC, [1], by unfold State.mayGive; decide +kernel⟩,
  ⟨st [(F.CH_STATE_STATE 0, 2), (F.CH_PROG_LEN 0, 1)] served, .spi, 0x20003C, [1], 0, by unfold State.mayGive; decide +kernel⟩,
  ⟨served, .spi, 0x27FFFC, [1, 2], 1, by unfold State.mayGive; decide +kernel⟩⟩

theorem witness_TransfersProgramsAndImages :
    (∃ s : State, ∃ x : Sess, ∃ n : Nat, (s.mayGive x .write) ∧ (s.bufferUsed = false) ∧ (n % 4 = 0) ∧ (n ≤ bulkMax))
    ∧ (∃ s : State, ∃ x : Sess, ∃ n : Nat, (s.mayGive x .write) ∧ (s.bufferUsed = false) ∧ (n % 4 ≠ 0 ∨ bulkMax < n))
    ∧ (∃ s : State, ∃ x : Sess, ∃ _n : Nat, (s.mayGive x .write) ∧ (s.bufferUsed = true))
    ∧ (∃ s : State, ∃ x : Sess, ∃ id : Nat, ∃ off : Nat, ∃ bs : List Byte, (s.allowed x .write = true) ∧ (s.flag
      F.HL_BULK_WOPEN = true) ∧ (id = s.fget F.HL_BULK_WID) ∧ (off % 4 = 0) ∧ (bs.length % 4 = 0) ∧ (bs.length ≤ 1400) ∧ (off
      + bs.length ≤ s.link.bulk.total))
    ∧ (∃ s : State, ∃ x : Sess, ∃ id : Nat, (s.allowed x .write = true) ∧ (s.flag F.HL_BULK_WOPEN = true) ∧ (id ≠ s.fget
      F.HL_BULK_WID))
    ∧ (∃ s : State, ∃ x : Sess, ∃ id : Nat, (s.mayGive x .read) ∧ (s.flag F.HL_BULK_WOPEN = true) ∧ (id = s.fget
      F.HL_BULK_WID))
    ∧ (∃ s : State, ∃ x : Sess, ∃ _id : Nat, (s.mayGive x .read) ∧ (s.flag F.HL_BULK_WOPEN = false))
    ∧ (∃ s : State, ∃ x : Sess, ∃ a : Nat, ∃ n : Nat, (s.mayGive x .read) ∧ (a % 4 = 0) ∧ (0x400000 ≤ a) ∧ (a < 0xE00000) ∧ (a
      + n ≤ 0xE00000) ∧ (n % 4 = 0) ∧ (n ≤ bulkMax) ∧ (s.link.bulk.reads.length < 4)) :=
  ⟨⟨served, .spi, bulkMax, by unfold State.mayGive; decide +kernel⟩,
  ⟨served, .spi, bulkMax + 4, by unfold State.mayGive; decide +kernel⟩,
  ⟨{ served with link := { sess := Vector.replicate 8 { opn := true, auth := true, busy := true, staging := true } } }, .spi, 4, by unfold State.mayGive; decide +kernel⟩,
  ⟨{ st [(F.HL_BULK_WOPEN, 1)] served with link := { bulk := { total := 4 } } }, .spi, 0, 0, [1, 2, 3, 4], by decide +kernel⟩,
  ⟨st [(F.HL_BULK_WOPEN, 1)] served, .spi, 1, by decide +kernel⟩,
  ⟨st [(F.HL_BULK_WOPEN, 1)] served, .spi, 0, by unfold State.mayGive; decide +kernel⟩,
  ⟨served, .anon, 0, by unfold State.mayGive; decide +kernel⟩,
  ⟨served, .anon, 0xDFFFFC, 4, by unfold State.mayGive; decide +kernel⟩⟩

theorem witness_TransfersProgramsAndImages_2 :
    (∃ s : State, ∃ x : Sess, ∃ a : Nat, ∃ n : Nat, (s.mayGive x .read) ∧ (a % 4 = 0) ∧ (0x400000 ≤ a) ∧ (a < 0xE00000) ∧ (a +
      n ≤ 0xE00000) ∧ (4 ≤ s.link.bulk.reads.length))
    ∧ (∃ s : State, ∃ id : Nat, ∃ r : ReadXfer, (s.link.bulk.reads.find? (fun q => decide (q.id = id)) = some r) ∧ (s.flag
      F.VT_STAT_CLRING = false) ∧ (s.link.bulk.reads.length ≤ 4) ∧ (s.reached s.link.bulk.nextAt = false))
    ∧ (∃ s : State, ∃ id : Nat, ∃ r : ReadXfer, (s.link.bulk.reads.find? (fun q => decide (q.id = id)) = some r) ∧ (s.flag
      F.VT_STAT_CLRING = false) ∧ (s.link.bulk.reads.length ≤ 4) ∧ (s.reached s.link.bulk.nextAt = true))
    ∧ (∃ s : State, ∃ x : Sess, ∃ bank : Word, ∃ crc : Word, ∃ i : Nat, ∃ n : Nat, (s.mayGive x .write) ∧ (i + n ≤ 65536) ∧
      (bank.toNat ≤ 1) ∧ ((∀ k, k < n → s.storeLocked (storeAddr bank.toNat i + 4 * k) = false)) ∧ (s.stagedFull (4 * n) =
      true) ∧ (crc32c (s.staged 0 (4 * n)) = crc.toNat))
    ∧ (∃ s : State, ∃ x : Sess, ∃ bank : Word, ∃ crc : Word, ∃ i : Nat, ∃ n : Nat, (s.mayGive x .write) ∧ (i + n ≤ 65536) ∧
      (bank.toNat ≤ 1) ∧ ((∀ k, k < n → s.storeLocked (storeAddr bank.toNat i + 4 * k) = false)) ∧ (s.stagedFull (4 * n) =
      true) ∧ (crc32c (s.staged 0 (4 * n)) ≠ crc.toNat))
    ∧ (∃ s : State, ∃ x : Sess, (s.mayGive x .write) ∧ (s.imageCheck ≠ stOk))
    ∧ (∃ s : State, ∃ x : Sess, (s.mayGive x .write) ∧ (s.nv.stagedB = true))
    ∧ (∃ s : State, ∃ x : Sess, (s.mayGive x .write) ∧ (s.nv.stagedA = false)) :=
  ⟨⟨{ served with link := { bulk := { reads := List.replicate 4 { id := 0, sess := .anon, port := .la, peer := {}, next := 0, base := 0, stop := 0 } } } }, .anon, 0x400000, 4, by unfold State.mayGive; decide +kernel⟩,
  ⟨{ link := { bulk := { nextAt := 10 ^ 15, reads := [{ id := 0, sess := .anon, port := .la, peer := {}, next := 0x400000, base := 0x400000, stop := 0x400004 }] } } }, 0, { id := 0, sess := .anon, port := .la, peer := {}, next := 0x400000, base := 0x400000, stop := 0x400004 }, by decide +kernel⟩,
  ⟨{ link := { bulk := { reads := [{ id := 0, sess := .anon, port := .la, peer := {}, next := 0x400000, base := 0x400000, stop := 0x400004 }] } } }, 0, { id := 0, sess := .anon, port := .la, peer := {}, next := 0x400000, base := 0x400000, stop := 0x400004 }, by decide +kernel⟩,
  ⟨st [(F.HL_BULK_WOPEN, 1)] served, .spi, 1, BitVec.ofNat 32 (crc32c []), 65536, 0, by unfold State.mayGive; decide +kernel⟩,
  ⟨st [(F.HL_BULK_WOPEN, 1)] served, .spi, 1, 1, 65535, 0, by unfold State.mayGive; decide +kernel⟩,
  ⟨served, .spi, by unfold State.mayGive; decide +kernel⟩,
  ⟨{ served with nv := { stagedB := true } }, .spi, by unfold State.mayGive; decide +kernel⟩,
  ⟨served, .spi, by unfold State.mayGive; decide +kernel⟩⟩

theorem witness_SessionsAndKeys :
    (∃ s : State, ∃ nh : List Byte, (s.serving = true) ∧ (s.link.lockAt = none) ∧ (s.link.dkey.isSome = true) ∧ (nh.length =
      16) ∧ ((∃ k : Fin 8, (s.link.sess[k]).opn = false)))
    ∧ (∃ s : State, ∃ nh : List Byte, (s.serving = true) ∧ (nh.length = 16) ∧ (s.link.lockAt.isSome = true))
    ∧ (∃ s : State, ∃ x : Sess, ∃ k : Fin 9, ∃ ph : List Byte, (sessIx x = some k) ∧ (s.serving = true) ∧ ((s.sessAt k).nh ≠
      []) ∧ (ph.length = 32) ∧ (ph = authMac (s.link.dkey.getD []) 0x48 (s.sessAt k)) ∧ (s.time ≤ (s.sessAt k).phase1At + 5 *
      sec))
    ∧ (∃ s : State, ∃ x : Sess, ∃ k : Fin 9, ∃ ph : List Byte, (sessIx x = some k) ∧ (s.serving = true) ∧ ((s.sessAt k).nh ≠
      []) ∧ (ph.length = 32) ∧ (ph ≠ authMac (s.link.dkey.getD []) 0x48 (s.sessAt k) ∨ (s.sessAt k).phase1At + 5 * sec <
      s.time))
    ∧ (∃ s : State, ∃ x : Sess, ∃ k : Fin 9, ∃ w : Word, ∃ _c : Nat, ∃ _n : Nat, (s.mayGive x .write) ∧ (sessIx x = some k) ∧
      (w.toNat ≤ 3))
    ∧ (∃ s : State, ∃ x : Sess, ∃ k : Fin 9, ∃ w : Word, ∃ _c : Nat, ∃ _n : Nat, (s.mayGive x .write) ∧ (sessIx x = some k) ∧
      (3 < w.toNat))
    ∧ (∃ s : State, ∃ x : Sess, ∃ k : Fin 9, ∃ _w : Word, ∃ _c : Nat, ∃ _n : Nat, (s.mayGive x .write) ∧ (sessIx x = some k))
    ∧ (∃ s : State, ∃ x : Sess, ∃ k : Fin 9, ∃ _w : Word, ∃ c : Nat, ∃ _n : Nat, (s.mayGive x .write) ∧ (sessIx x = some k) ∧
      (c ≠ 3) ∧ (c ≠ 0x10)) :=
  ⟨⟨{ served with link := { dkey := some (List.replicate 32 0) } }, List.replicate 16 0, by decide +kernel, by decide +kernel, by decide +kernel, by decide +kernel, ⟨0, by decide +kernel⟩⟩,
  ⟨{ served with link := { lockAt := some 0 } }, List.replicate 16 0, by decide +kernel⟩,
  ⟨{ served with link := { spi := { opn := true, num := 0xFFFFFFFF, port := .spi, nh := [1] } } }, .spi, 8, authMac [] 0x48 (State.sessAt { served with link := { spi := { opn := true, num := 0xFFFFFFFF, port := .spi, nh := [1] } } } 8), by decide +kernel, by decide +kernel, by decide +kernel, by simp [authMac], rfl, by decide +kernel⟩,
  ⟨{ served with link := { spi := { opn := true, num := 0xFFFFFFFF, port := .spi, nh := [1] } }, time := 10 ^ 12 }, .spi, 8, List.replicate 32 0, by decide +kernel, by decide +kernel, by decide +kernel, by decide +kernel, Or.inr (by decide +kernel)⟩,
  ⟨served, .slot 0, 0, 3, 0, 0, by unfold State.mayGive; decide +kernel⟩,
  ⟨served, .spi, 8, 4, 0, 0, by unfold State.mayGive; decide +kernel⟩,
  ⟨served, .slot 0, 0, 0, 0, 0, by unfold State.mayGive; decide +kernel⟩,
  ⟨served, .slot 0, 0, 0, 4, 0, by unfold State.mayGive; decide +kernel⟩⟩

theorem witness_SessionsAndKeys_2 :
    (∃ s : State, ∃ k : Fin 8, (s.mayGive (.slot k) .own))
    ∧ (∃ s : State, ∃ x : Sess, (s.flag F.HL_STAT_RECOV = false) ∧ (s.allowed x .write = true) ∧ (s.served = true) ∧ (s.flag
      F.GL_STATE_SUPV = false))
    ∧ (∃ s : State, ∃ key : List Byte, (s.flag F.HL_STAT_RECOV = false) ∧ (s.serving = true) ∧ (key.length = 32) ∧ (s.flag
      F.HL_KEYSTAT_DKEY = false))
    ∧ (∃ s : State, ∃ key : List Byte, (s.flag F.HL_STAT_RECOV = false) ∧ (s.serving = true) ∧ (key.length = 32) ∧ (s.flag
      F.HL_KEYSTAT_DKEY = false))
    ∧ (∃ s : State, ∃ key : List Byte, ∃ k : Fin 8, (s.flag F.HL_STAT_RECOV = false) ∧ (s.serving = true) ∧ (key.length = 32)
      ∧ ((s.link.sess[k]).opn = true) ∧ ((s.link.sess[k]).auth = true) ∧ (s.flag F.HL_KEYSTAT_DKEY = true))
    ∧ (∃ s : State, ∃ key : List Byte, ∃ x : Sess, (s.flag F.HL_STAT_RECOV = false) ∧ (s.serving = true) ∧ (key.length = 32) ∧
      (s.allowed x .own = true) ∧ (s.flag F.HL_KEYSTAT_OWNKEY = false))
    ∧ (∃ s : State, ∃ key : List Byte, ∃ x : Sess, (s.flag F.HL_STAT_RECOV = false) ∧ (s.serving = true) ∧ (key.length = 32) ∧
      (s.allowed x .own = true) ∧ (s.flag F.HL_KEYSTAT_OWNKEY = true))
    ∧ (∃ s : State, ∃ k : Fin 8, ∃ d : List Byte, ((s.link.sess[k]).opn = true) ∧ ((s.link.sess[k]).auth = true) ∧ (d.length =
      8)) :=
  ⟨⟨served, 0, by unfold State.mayGive; decide +kernel⟩,
  ⟨served, .spi, by decide +kernel⟩,
  ⟨served, List.replicate 32 0, by decide +kernel⟩,
  ⟨served, List.replicate 32 0, by decide +kernel⟩,
  ⟨st [(F.HL_KEYSTAT_DKEY, 1)] served, List.replicate 32 0, 0, by decide +kernel⟩,
  ⟨served, List.replicate 32 0, .spi, by decide +kernel⟩,
  ⟨st [(F.HL_KEYSTAT_OWNKEY, 1)] served, List.replicate 32 0, .slot 0, by decide +kernel⟩,
  ⟨served, 0, List.replicate 8 0, by decide +kernel⟩⟩

theorem witness_SessionsRatesAndPorts :
    (∃ s : State, ∃ k : Fin 8, ((s.link.sess[k]).opn = true) ∧ ((s.link.sess[k]).heard + s.fget F.HL_CFG_STMO * sec < s.time))
    ∧ (∃ s : State, ∃ a : Nat, (s.link.lockAt = some a) ∧ (a + 60 * sec < s.time))
    ∧ (∃ s : State, (s.rateState = 1) ∧ (s.link.rate.accepted = true) ∧ (s.link.rate.t < s.ctr + tCtl))
    ∧ (∃ s : State, (s.rateState = 2) ∧ (s.link.rate.done = false) ∧ (s.linkable 0 = true) ∧ (s.ctr ≤ s.link.rate.t + 2 *
      sec))
    ∧ (∃ s : State, (s.rateState = 2) ∧ (s.link.rate.t + 2 * sec < s.ctr))
    ∧ (∃ s : State, (s.rateState = 1) ∧ (s.link.rate.accepted = false) ∧ (s.reached (s.link.rate.proposedAt + 200 * ms) =
      true))
    ∧ (∃ s : State, ∃ x : Sess, ∃ k : Fin 9, (sessIx x = some k) ∧ ((s.sessAt k).lmgr = true) ∧ (s.rateState = 1) ∧
      (s.link.rate.restore = false) ∧ (s.link.rate.accepted = false) ∧ (s.ctr + 500 * ms ≤ s.link.rate.t))
    ∧ (∃ s : State, ∃ x : Sess, ∃ k : Fin 9, (sessIx x = some k) ∧ ((s.sessAt k).lmgr = true) ∧ (s.rateState = 1) ∧
      (s.link.rate.restore = false) ∧ (s.link.rate.accepted = false) ∧ (s.link.rate.t < s.ctr + 500 * ms)) :=
  ⟨⟨{ served with time := 10 ^ 15 }, 0, by decide +kernel⟩,
  ⟨{ link := { lockAt := some 0 }, time := 60 * sec + 1 }, 0, by decide +kernel⟩,
  ⟨{ st [(F.HL_RATE_STATE, 1)] with link := { rate := { accepted := true } } }, by decide +kernel⟩,
  ⟨{ st [(F.HL_RATE_STATE, 2), (F.HL_PCFG_EN 0, 1), (F.CK_PLLSTAT_LOCK3, 1)] served with ctr := 0 }, by decide +kernel⟩,
  ⟨{ st [(F.HL_RATE_STATE, 2)] with ctr := 2 * sec + 1 }, by decide +kernel⟩,
  ⟨{ st [(F.HL_RATE_STATE, 1)] with time := 200 * ms }, by decide +kernel⟩,
  ⟨{ st [(F.HL_RATE_STATE, 1)] with link := { rate := { t := 500 * ms, proposedAt := 0 }, sess := Vector.replicate 8 { opn := true, lmgr := true } } }, .slot 0, 0, by decide +kernel⟩,
  ⟨{ st [(F.HL_RATE_STATE, 1)] with link := { rate := { t := 0, proposedAt := 0 }, sess := Vector.replicate 8 { opn := true, lmgr := true } } }, .slot 0, 0, by decide +kernel⟩⟩

theorem witness_SessionsRatesAndPorts_2 :
    (∃ s : State, ∃ x : Sess, ∃ k : Fin 9, (sessIx x = some k) ∧ ((s.sessAt k).lmgr = true) ∧ (s.rateState = 1) ∧
      (s.link.rate.restore = false))
    ∧ (∃ s : State, ∃ p : Fin 2, (s.flag (F.HL_PSTAT_LINK p) = true))
    ∧ (∃ s : State, ∃ p : Fin 2, (s.flag (F.HL_PCFG_EN p) = true) ∧ (s.fget (F.HL_PSTAT_RATE p) ≠ 3) ∧ (s.flag
      F.CK_PLLSTAT_LOCK3 = true) ∧ (s.served = true) ∧ (s.gateOn (if p = 0 then 5 else 6) = true))
    ∧ (∃ s : State, ∃ p : Fin 2, (s.flag (F.HL_PCFG_EN p) = false ∨ s.flag F.CK_PLLSTAT_LOCK3 = false))
    ∧ (∃ s : State, ∃ a : Nat, ∃ val : Word, ∃ r : Reg, ∃ p : Fin 2, (Reg.ofAddr a = some r) ∧ (portReg r = some p) ∧
      ((s.writeReg r val).status = stOk))
    ∧ (∃ s : State, ∃ a : Nat, ∃ val : Word, ∃ r : Reg, ∃ p : Fin 2, (Reg.ofAddr a = some r) ∧ (portReg r = some p) ∧
      ((s.writeReg r val).status ≠ stOk))
    ∧ (∃ _s : State, ∃ a : Nat, ∃ _val : Word, ((∀ r, Reg.ofAddr a = some r → portReg r = none)))
    ∧ (∃ s : State, (s.flag F.HL_KEYSTAT_OWNKEY = false)) :=
  ⟨⟨{ st [(F.HL_RATE_STATE, 1)] with link := { rate := { t := 0, proposedAt := 0 }, sess := Vector.replicate 8 { opn := true, lmgr := true } } }, .slot 7, 7, by decide +kernel⟩,
  ⟨st [(F.HL_PSTAT_LINK 1, 1)], 1, by decide +kernel⟩,
  ⟨st [(F.HL_PCFG_EN 1, 1), (F.CK_PLLSTAT_LOCK3, 1)] served, 1, by decide +kernel⟩,
  ⟨State.reset, 0, by decide +kernel⟩,
  ⟨st [(F.GL_LOCK_OPEN, 1)], Reg.addr (.HL_IP4 1), 0, .HL_IP4 1, 1, by decide +kernel⟩,
  ⟨State.reset, Reg.addr (.HL_PLEN 0), 0xFFFFFFFF, .HL_PLEN 0, 0, by decide +kernel⟩,
  ⟨State.reset, 0, 0, fun r h => by rw [(by decide +kernel : Reg.ofAddr 0 = some .GL_ID)] at h; cases h; rfl⟩,
  ⟨State.reset, by decide +kernel⟩⟩

theorem witness_SessionsRatesAndPorts_3 :
    (∃ s : State, (s.flag F.HL_KEYSTAT_OWNKEY = true) ∧ (s.flag F.GL_LOCK_OPEN = false))
    ∧ (∃ s : State, (s.flag F.HL_KEYSTAT_OWNKEY = true) ∧ (s.flag F.GL_LOCK_OPEN = true)) :=
  ⟨⟨st [(F.HL_KEYSTAT_OWNKEY, 1)], by decide +kernel⟩,
  ⟨st [(F.HL_KEYSTAT_OWNKEY, 1), (F.GL_LOCK_OPEN, 1)], by decide +kernel⟩⟩

theorem witness_PortsSendFramesAndReplies :
    (∃ s : State, ∃ k : Fin 9, ∃ f : EvFrame, (s.flag F.HL_STAT_RECOV = false) ∧ ((s.sessAt k).evq.find? (fun g =>
      g.sent.isNone) = some f) ∧ ((k = 8 → ∀ g ∈ s.link.spiOut, g.cls = 3 → g.seq ≠ f.seq)))
    ∧ (∃ s : State, (s.flag F.HL_STAT_RECOV = false))
    ∧ (∃ s : State, ∃ a : Nat, ∃ it : RecItem, (s.link.recFrom = some a) ∧ (s.flag (F.HL_SCFG_EN 0) = true) ∧ (s.flag
      F.HL_STAT_RECOV = false) ∧ (s.reached (a + ms) = true) ∧ ((∀ n, (s.lane1 n).x.recQ = [])) ∧ (s.sh.recQ = [it]) ∧
      (it.frame = none) ∧ (it.framed.length ≤ 1424) ∧ (s.flag (F.HL_SCFG_REL 0) = false) ∧ (s.streamPorts 0 (s.streamSeq 0) =
      [0]) ∧ (s.flag (F.HL_PSTAT_LINK 0) = true))
    ∧ (∃ s : State, (s.flag (F.HL_SCFG_REL 0) = true) ∧ (s.flag (F.HL_SCFG_EN 0) = true) ∧ (s.flag F.HL_STAT_RECOV = false))
    ∧ (∃ s : State, ∃ g : Fin 16, (s.flag (F.HL_SCFG_EN 2) = true) ∧ (s.flag F.HL_STAT_RECOV = false) ∧ (s.streamGroups 2 =
      [g]) ∧ (s.streamKeeps 2 (s.ctr / tCtl) = true) ∧ (s.streamPorts 2 (s.ctr / tCtl) = [0]) ∧ (s.flag (F.HL_PSTAT_LINK 0) =
      true) ∧ (s.sampling = true) ∧ ((s.link.streams[(2 : Fin 5)]).lastAt ≠ some s.ctr))
    ∧ (∃ s : State, ∃ md : Fin 258, (s.flag (F.HL_SCFG_EN 4) = true) ∧ (s.flag F.HL_STAT_RECOV = false) ∧ (256 ≤ md.val) ∧
      (s.flag (F.HL_SCFG_LANE 4) = true) ∧ (s.flag F.TS_STAT_THR = true) ∧ (s.sampling = true) ∧ (s.ctr / tCtl % 55 = 54) ∧
      ((s.link.streams[(4 : Fin 5)]).lastAt ≠ some s.ctr))
    ∧ (∃ s : State, ∃ md : Fin 258, (s.sampling = false ∨ s.ctr / tCtl % 55 ≠ 54 ∨ ((s.link.streams[(4 : Fin 5)]).lastAt =
      some s.ctr ∧ md.val ∈ (s.link.streams[(4 : Fin 5)]).mods)))
    ∧ (∃ s : State, (s.sampling = false ∨ (s.link.streams[(2 : Fin 5)]).lastAt = some s.ctr)) :=
  ⟨⟨{ link := { sess := Vector.replicate 8 { evq := [{ seq := 1, occs := [] }] } } }, 0, { seq := 1, occs := [] }, by decide +kernel, by decide +kernel, fun h => absurd h (by decide)⟩,
  ⟨State.reset, by decide +kernel⟩,
  ⟨{ st [(F.HL_SCFG_EN 0, 1), (F.HL_PSTAT_LINK 0, 1), (F.HL_SCFG_REL 0, 0)] with sh := { recQ := [{ kind := 2, bytes := [1, 2, 3, 4] }] }, link := { recFrom := some 0 }, time := ms }, 0, { kind := 2, bytes := [1, 2, 3, 4] }, by decide +kernel⟩,
  ⟨st [(F.HL_SCFG_EN 0, 1), (F.HL_SCFG_REL 0, 1)], by decide +kernel⟩,
  ⟨{ st [(F.HL_SCFG_EN 2, 1), (F.HL_PSTAT_LINK 0, 1), (⟨.HL_SCFG 2, 16, 16⟩, 1)] served with ctr := 8 * tCtl }, 0, by decide +kernel⟩,
  ⟨{ st [(F.HL_SCFG_EN 4, 1), (F.HL_SCFG_LANE 4, 1), (F.TS_STAT_THR, 1)] served with ctr := 54 * tCtl }, 256, by decide +kernel⟩,
  ⟨State.reset, 0, by decide +kernel⟩,
  ⟨State.reset, by decide +kernel⟩⟩

theorem witness_PortsSendFramesAndReplies_2 :
    (∃ s : State, ∃ st : Fin 5, (s.flag (F.HL_SCFG_EN st) = false))
    ∧ (∃ s : State, (s.reached s.link.decAt = true))
    ∧ (∃ s : State, ∃ p : Fin 2, (s.flag (F.HL_PSTAT_LINK p) = true) ∧ (s.flag (F.HL_PCFG_IP4EN p) = true)) :=
  ⟨⟨State.reset, 4, by decide +kernel⟩,
  ⟨State.reset, by decide +kernel⟩,
  ⟨st [(F.HL_PSTAT_LINK 0, 1), (F.HL_PCFG_IP4EN 0, 1)], 0, by decide +kernel⟩⟩

theorem witness_FramesAreTakenAndAnswered :
    (∃ s : State, ∃ p : LinkPort, ∃ src : Peer, ∃ d : Fin 65536, ∃ bs : List Byte, (s.portTakes p = true) ∧ (s.aslpTo p src
      d.val = true) ∧ (p ≠ .spi) ∧ (parseFrame bs = none))
    ∧ (∃ s : State, ∃ p : LinkPort, ∃ src : Peer, ∃ d : Fin 65536, (s.portTakes p = false ∨ s.aslpTo p src d.val = false))
    ∧ (∃ s : State, ∃ p : LinkPort, ∃ src : Peer, ∃ d : Fin 65536, ∃ bs : List Byte, ∃ f : InFrame, (s.portTakes p = true) ∧
      (s.aslpTo p src d.val = true) ∧ (p ≠ .spi) ∧ (parseFrame bs = some f) ∧ (f.sess = 0) ∧ (f.flags % 2 = 0) ∧ (f.cls = 1) ∧
      (s.holds = false))
    ∧ (∃ s : State, ∃ src : Peer, ∃ d : Fin 65536, ∃ bs : List Byte, ∃ f : InFrame, ∃ k : Fin 8, ∃ c : OutFrame, (s.portTakes
      .la = true) ∧ (s.aslpTo .la src d.val = true) ∧ (parseFrame bs = some f) ∧ (s.sessOf .la f = some (.slot k)) ∧
      ((s.link.sess[k]).last = some f.seq) ∧ ((s.link.sess[k]).cached = some c))
    ∧ (∃ s : State, ∃ src : Peer, ∃ d : Fin 65536, ∃ bs : List Byte, ∃ f : InFrame, ∃ k : Fin 8, ∃ l : Nat, (s.portTakes .la =
      true) ∧ (s.aslpTo .la src d.val = true) ∧ (parseFrame bs = some f) ∧ (s.sessOf .la f = some (.slot k)) ∧
      ((s.link.sess[k]).last = some l) ∧ (2 ^ 31 ≤ (f.seq + 2 ^ 32 - l) % 2 ^ 32))
    ∧ (∃ s : State, ∃ x : Sess, ∃ k : Fin 9, ∃ r : OutFrame, (sessIx x = some k) ∧ ((s.sessAt k).resp = some r) ∧ ((s.sessAt
      k).waits = false) ∧ (s.maint.commit = false))
    ∧ (∃ s : State, ∃ x : Sess, ∃ k : Fin 9, ∃ r : OutFrame, (sessIx x = some k) ∧ ((s.sessAt k).resp = some r) ∧ ((s.sessAt
      k).waits = false) ∧ (s.maint.commit = true))
    ∧ (∃ s : State, (s.portTakes .spi = true) ∧ (s.link.spi.busy = true)) :=
  ⟨⟨st [(F.HL_PSTAT_LINK 0, 1), (F.HL_PCFG_IP4EN 0, 1), (F.HL_CFG_UDPPORT, 9)], .la, { ip := [10, 0, 0, 1] }, 9, [], by decide +kernel⟩,
  ⟨State.reset, .lb, {}, 0, by decide +kernel⟩,
  ⟨st [(F.HL_PSTAT_LINK 0, 1), (F.HL_PCFG_IP4EN 0, 1), (F.HL_CFG_UDPPORT, 9)] served, .la, { ip := [10, 0, 0, 1] }, 9, frame 1 0 0 0 [], { cls := 1, flags := 0, seq := 0, sess := 0, payload := [], tag := [] }, by decide +kernel⟩,
  ⟨{ st [(F.HL_PSTAT_LINK 0, 1), (F.HL_PCFG_IP4EN 0, 1), (F.HL_CFG_UDPPORT, 9)] with link := { sess := Vector.replicate 8 { opn := true, num := 7, last := some 5, cached := some { port := .la, peer := {}, cls := 2, flags := 0, seq := 5, sess := 7, payload := [] } } } }, { ip := [10, 0, 0, 1] }, 9, frame 1 0 5 7 [], { cls := 1, flags := 0, seq := 5, sess := 7, payload := [], tag := [] }, 0, { port := .la, peer := {}, cls := 2, flags := 0, seq := 5, sess := 7, payload := [] }, by decide +kernel⟩,
  ⟨{ st [(F.HL_PSTAT_LINK 0, 1), (F.HL_PCFG_IP4EN 0, 1), (F.HL_CFG_UDPPORT, 9)] with link := { sess := Vector.replicate 8 { opn := true, num := 7, last := some 5, cached := some { port := .la, peer := {}, cls := 2, flags := 0, seq := 5, sess := 7, payload := [] } } } }, { ip := [10, 0, 0, 1] }, 9, frame 1 0 4 7 [], { cls := 1, flags := 0, seq := 4, sess := 7, payload := [], tag := [] }, 0, 5, by decide +kernel⟩,
  ⟨{ link := { spi := { resp := some { port := .spi, peer := {}, cls := 2, flags := 0, seq := 5, sess := 7, payload := [] } } } }, .spi, 8, { port := .spi, peer := {}, cls := 2, flags := 0, seq := 5, sess := 7, payload := [] }, by decide +kernel⟩,
  ⟨{ link := { spi := { resp := some { port := .spi, peer := {}, cls := 2, flags := 0, seq := 5, sess := 7, payload := [] } } }, maint := { commit := true } }, .spi, 8, { port := .spi, peer := {}, cls := 2, flags := 0, seq := 5, sess := 7, payload := [] }, by decide +kernel⟩,
  ⟨{ link := { spi := { busy := true } } }, by decide +kernel⟩⟩

theorem witness_FramesAreTakenAndAnswered_2 :
    (∃ s : State, (s.portTakes .spi = true) ∧ (s.link.spi.busy = false))
    ∧ (∃ s : State, ∃ op : Fin 256, (s.portTakes .spi = true) ∧ (op.val = 0 ∨ 4 < op.val))
    ∧ (∃ s : State, (s.portTakes .spi = true) ∧ (s.spiNext = none))
    ∧ (∃ s : State, (s.portTakes .spi = true) ∧ (s.flag F.HL_STAT_RECOV = false) ∧ (s.allowed .spi .write = true) ∧ (s.served
      = true) ∧ (s.flag F.GL_STATE_SUPV = false))
    ∧ (∃ s : State, (s.portTakes .spi = true))
    ∧ (∃ s : State, ∃ f : OutFrame, (s.portTakes .spi = true) ∧ (s.spiNext = some f)) :=
  ⟨⟨State.reset, by decide +kernel⟩,
  ⟨State.reset, 0, by decide +kernel⟩,
  ⟨State.reset, by decide +kernel⟩,
  ⟨served, by decide +kernel⟩,
  ⟨State.reset, by decide +kernel⟩,
  ⟨{ link := { spiOut := [{ port := .spi, peer := {}, cls := 2, flags := 0, seq := 5, sess := 7, payload := [] }] } }, { port := .spi, peer := {}, cls := 2, flags := 0, seq := 5, sess := 7, payload := [] }, by decide +kernel⟩⟩

theorem witness_TargetPortServesTheRack :
    (∃ s : State, ∃ bs : List Byte, (s.tw1Up = true) ∧ (bs.length = 4) ∧ (s.fget (F.TW_CFG_PEC 1) = 0))
    ∧ (∃ s : State, ∃ v : BitVec 16, ∃ bs : List Byte, ∃ p : Byte, (s.tw1Up = true) ∧ (bs.length = 4) ∧ (s.fget (F.TW_CFG_PEC
      1) = 2) ∧ (p = pecOf (s.tw1Byte :: 0xD0 :: le16 v.toNat)))
    ∧ (∃ s : State, ∃ v : BitVec 16, ∃ bs : List Byte, ∃ p : Byte, (s.tw1Up = true) ∧ (bs.length = 4) ∧ (s.fget (F.TW_CFG_PEC
      1) = 2) ∧ (p ≠ pecOf (s.tw1Byte :: 0xD0 :: le16 v.toNat)))
    ∧ (∃ s : State, ∃ bs : List Byte, (s.tw1Up = true) ∧ (bs.length = 4) ∧ (s.fget (F.TW_CFG_PEC 1) = 2))
    ∧ (∃ s : State, (s.tw1Up = false))
    ∧ (∃ s : State, (s.tw1Up = true) ∧ (s.fget (F.TW_CFG_PEC 1) ≠ 0))
    ∧ (∃ s : State, (s.tw1Up = true))
    ∧ (∃ s : State, (s.pmode = mdDEEP)) :=
  ⟨⟨st [(F.TW_CFG_EN 1, 1), (F.TW1_ADDR_ADDR, 0x42), (F.TW_CFG_PEC 1, 0)], [1, 2, 3, 4], by decide +kernel⟩,
  ⟨st [(F.TW_CFG_EN 1, 1), (F.TW1_ADDR_ADDR, 0x42), (F.TW_CFG_PEC 1, 2)], 0x0FA0, [1, 2, 3, 4], 0x73, by decide +kernel⟩,
  ⟨st [(F.TW_CFG_EN 1, 1), (F.TW1_ADDR_ADDR, 0x42), (F.TW_CFG_PEC 1, 2)], 0x0FA0, [1, 2, 3, 4], 0, by decide +kernel⟩,
  ⟨st [(F.TW_CFG_EN 1, 1), (F.TW1_ADDR_ADDR, 0x42), (F.TW_CFG_PEC 1, 2)], [1, 2, 3, 4], by decide +kernel⟩,
  ⟨State.reset, by decide +kernel⟩,
  ⟨st [(F.TW_CFG_EN 1, 1), (F.TW1_ADDR_ADDR, 0x42), (F.TW_CFG_PEC 1, 1)], by decide +kernel⟩,
  ⟨st [(F.TW_CFG_EN 1, 1), (F.TW1_ADDR_ADDR, 0x42)], by decide +kernel⟩,
  ⟨st [(F.GL_STATE_MODE, 3)], by decide +kernel⟩⟩

theorem witness_TargetPortServesTheRack_2 :
    (∃ s : State, (s.tw1Up = true) ∧ (s.pmode ≠ mdDEEP) ∧ (s.serving = true))
    ∧ (∃ s : State, (s.tw1Up = true) ∧ (s.pmode ≠ mdDEEP) ∧ (s.serving = false))
    ∧ (∃ s : State, (s.tw1Up = true) ∧ (s.pmode ≠ mdDEEP) ∧ (s.fget (F.TW_CFG_PEC 1) = 0) ∧ (s.serving = true) ∧ (s.flag
      F.HL_STAT_RECOV = false) ∧ (s.flag F.TW1_ADDR_WREN = true))
    ∧ (∃ s : State, (s.tw1Up = true) ∧ (s.pmode ≠ mdDEEP) ∧ (s.fget (F.TW_CFG_PEC 1) = 0) ∧ (s.serving = true) ∧ (s.flag
      F.HL_STAT_RECOV = false) ∧ (s.flag F.TW1_ADDR_WREN = false))
    ∧ (∃ s : State, (s.pmode = mdDEEP) ∧ (s.flag (F.TW_STAT_ASLEEP 1) = true) ∧ (s.tw.nackAt = none) ∧ (s.twOn 1 = true))
    ∧ (∃ s : State, ∃ a : Nat, (s.tw.nackAt = some a) ∧ (s.reached (a + 200 * us) = true))
    ∧ (∃ s : State, ∃ o : Occ, ∃ q : List Occ, ∃ i : Bool → Instr, (s.ev.notify = o :: q) ∧ (s.notifyReady = true) ∧
      ((s.ev.retryAt = none ∧ i = Instr.hostNotify) ∨ (∃ a, s.ev.retryAt = some a ∧ s.reached a = true ∧ i =
      Instr.notifyRetry)))
    ∧ (∃ s : State, ∃ o : Occ, ∃ q : List Occ, ∃ i : Bool → Instr, (s.ev.notify = o :: q) ∧ (s.notifyReady = true) ∧
      ((s.ev.retryAt = none ∧ i = Instr.hostNotify) ∨ (∃ a, s.ev.retryAt = some a ∧ s.reached a = true ∧ i =
      Instr.notifyRetry)) ∧ (s.ev.nacks < 2)) :=
  ⟨⟨st [(F.TW_CFG_EN 1, 1), (F.TW1_ADDR_ADDR, 0x42)] served, by decide +kernel⟩,
  ⟨st [(F.TW_CFG_EN 1, 1), (F.TW1_ADDR_ADDR, 0x42)], by decide +kernel⟩,
  ⟨st [(F.TW_CFG_EN 1, 1), (F.TW1_ADDR_ADDR, 0x42), (F.TW_CFG_PEC 1, 0), (F.TW1_ADDR_WREN, 1)] served, by decide +kernel⟩,
  ⟨st [(F.TW_CFG_EN 1, 1), (F.TW1_ADDR_ADDR, 0x42), (F.TW_CFG_PEC 1, 0), (F.TW1_ADDR_WREN, 0)] served, by decide +kernel⟩,
  ⟨st [(F.GL_STATE_MODE, 3), (F.TW_STAT_ASLEEP 1, 1), (F.TW_CFG_EN 1, 1)], by decide +kernel⟩,
  ⟨{ tw := { nackAt := some 0 }, time := 200 * us }, 0, by decide +kernel⟩,
  ⟨{ st [(F.TW1_ADDR_NTFYEN, 1), (F.TW_CFG_EN 1, 1)] with ev := { notify := [{ num := 5, sev := 2, stamp := 0 }], nacks := 0 } }, { num := 5, sev := 2, stamp := 0 }, [], Instr.hostNotify, by decide +kernel, by decide +kernel, Or.inl ⟨by decide +kernel, rfl⟩⟩,
  ⟨{ st [(F.TW1_ADDR_NTFYEN, 1), (F.TW_CFG_EN 1, 1)] with ev := { notify := [{ num := 5, sev := 2, stamp := 0 }], nacks := 1 } }, { num := 5, sev := 2, stamp := 0 }, [], Instr.hostNotify, by decide +kernel, by decide +kernel, Or.inl ⟨by decide +kernel, rfl⟩, by decide +kernel⟩⟩

theorem witness_TargetPortServesTheRack_3 :
    ∃ s : State, ∃ o : Occ, ∃ q : List Occ, ∃ i : Bool → Instr, (s.ev.notify = o :: q) ∧ (s.notifyReady = true) ∧
      ((s.ev.retryAt = none ∧ i = Instr.hostNotify) ∨ (∃ a, s.ev.retryAt = some a ∧ s.reached a = true ∧ i =
      Instr.notifyRetry)) ∧ (2 ≤ s.ev.nacks) :=
  ⟨{ st [(F.TW1_ADDR_NTFYEN, 1), (F.TW_CFG_EN 1, 1)] with ev := { notify := [{ num := 5, sev := 2, stamp := 0 }], nacks := 2 } }, { num := 5, sev := 2, stamp := 0 }, [], Instr.hostNotify, by decide +kernel, by decide +kernel, Or.inl ⟨by decide +kernel, rfl⟩, by decide +kernel⟩

theorem witness_TwoWireEnginesAndPolls :
    (∃ s : State, ∃ p : Fin 2, ∃ low : Nat, (s.twOn p = true) ∧ (low < s.fget (F.TW_CFG_TTO p) * 1000))
    ∧ (∃ s : State, ∃ p : Fin 2, ∃ low : Nat, (s.twOn p = true) ∧ (s.fget (F.TW_CFG_TTO p) * 1000 ≤ low))
    ∧ (∃ s : State, ∃ p : Fin 2, (s.twOn p = true))
    ∧ (∃ s : State, ∃ p : Fin 2, (s.twOn p = false))
    ∧ (∃ s : State, (s.pollDue = false))
    ∧ (∃ s : State, (s.pollDue = true))
    ∧ (∃ s : State, ∃ k : Fin 9, (s.twOn 0 = true) ∧ (k ∈ s.tw.clrDue))
    ∧ (∃ s : State, ∃ k : Fin 9, (s.twOn 0 = true) ∧ (k ∉ s.tw.clrDue)) :=
  ⟨⟨st [(F.TW_CFG_EN 0, 1)], 0, 0, by decide +kernel⟩,
  ⟨st [(F.TW_CFG_EN 0, 1)], 0, 300000, by decide +kernel⟩,
  ⟨st [(F.TW_CFG_EN 0, 1)], 0, by decide +kernel⟩,
  ⟨st [(F.TW_CFG_EN 0, 0)], 0, by decide +kernel⟩,
  ⟨st [(F.TW_CFG_EN 0, 0)], by decide +kernel⟩,
  ⟨{ st [(F.TW_CFG_EN 0, 1), (F.TW0_POLL_POLL, 1)] with time := 10 ^ 15 }, by decide +kernel⟩,
  ⟨{ st [(F.TW_CFG_EN 0, 1)] with tw := { clrDue := [8] } }, 8, by decide +kernel⟩,
  ⟨st [(F.TW_CFG_EN 0, 1)], 0, by decide +kernel⟩⟩

theorem witness_LiveMaintenance :
    (∃ s : State, (s.flag F.GL_STATE_SUPV = true))
    ∧ (∃ s : State, ∃ key : BitVec 16, (s.flag F.GL_STATE_SUPV = false) ∧ (key ≠ 0x5253))
    ∧ (∃ s : State, ∃ key : BitVec 16, (s.flag F.GL_STATE_SUPV = false) ∧ (key = 0x5253))
    ∧ (∃ s : State, ∃ i : Instr, ∃ c : Nat, ((∃ d : Nat, 50 ≤ d ∧ i = .supervisorWatchdog d ∧ c = 3) ∨ (i =
      .supervisorException ∧ c = 4)) ∧ (s.served = false))
    ∧ (∃ s : State, ∃ i : Instr, ∃ c : Nat, ((∃ d : Nat, 50 ≤ d ∧ i = .supervisorWatchdog d ∧ c = 3) ∨ (i =
      .supervisorException ∧ c = 4)) ∧ (s.served = true))
    ∧ (∃ d : Nat, (d < 50))
    ∧ (∃ s : State, ∃ a : Bool, ∃ b : Bool, ∃ x : Nat, ∃ y : Bool, ∃ k : Nat, (s.maint.restartAt = some x) ∧ (s.bootBank { bankA := a, bankB := b } = some (y, k)))
    ∧ (∃ s : State, ∃ a : Bool, ∃ b : Bool, ∃ x : Nat, (s.maint.restartAt = some x) ∧ (a = false) ∧ (b = false)) :=
  ⟨⟨st [(F.GL_STATE_SUPV, 1)], by decide +kernel⟩,
  ⟨State.reset, 0, by decide +kernel⟩,
  ⟨State.reset, 0x5253, by decide +kernel⟩,
  ⟨State.reset, .supervisorWatchdog 50, 3, Or.inl ⟨50, by decide, rfl, rfl⟩, by decide +kernel⟩,
  ⟨served, .supervisorException, 4, Or.inr ⟨rfl, rfl⟩, by decide +kernel⟩,
  ⟨49, by decide +kernel⟩,
  ⟨{ maint := { restartAt := some 0 } }, false, true, 0, true, 1, by decide +kernel⟩,
  ⟨{ maint := { restartAt := some 0 } }, false, false, 0, by decide +kernel⟩⟩

theorem witness_LiveMaintenance_2 :
    (∃ s : State, (s.maint.restartAt = none))
    ∧ (∃ s : State, ∃ k : Fin 16, ∃ h : Nat, (2 ≤ h) ∧ (s.flag ⟨.GL_CARD, k.val, 1⟩ = true ∨ (cardChans k).any (fun n =>
      decide (s.chState n ≠ stABSENT)) = true))
    ∧ (∃ s : State, ∃ k : Fin 16, ∃ h : Nat, (2 ≤ h) ∧ (s.flag ⟨.GL_CARD, k.val, 1⟩ = false) ∧ ((∀ n ∈ cardChans k, s.chState
      n = stABSENT)))
    ∧ (∃ h : Nat, (h < 2))
    ∧ (∃ s : State, ∃ k : Fin 16, ∃ l : Nat, (s.flag ⟨.GL_CARD, k.val, 1⟩ = false) ∧ (s.fget F.GL_CARD_QUAL * 10000 ≤ l) ∧
      (s.reached (s.maint.lossAt[k] + s.fget F.GL_CARD_QUAL * 10 * ms) = true))
    ∧ (∃ s : State, ∃ k : Fin 16, ∃ l : Nat, (s.flag ⟨.GL_CARD, k.val, 1⟩ = true ∨ l < s.fget F.GL_CARD_QUAL * 10000 ∨
      s.reached (s.maint.lossAt[k] + s.fget F.GL_CARD_QUAL * 10 * ms) = false))
    ∧ (∃ s : State, ∃ r : Region, ((s.nv.dirty.any fun d => decide (d.1 = r)) = true))
    ∧ (∃ s : State, ∃ r : Region, ((s.nv.dirty.any fun d => decide (d.1 = r)) = false)) :=
  ⟨⟨State.reset, by decide +kernel⟩,
  ⟨st [(⟨.GL_CARD, 15, 1⟩, 1)], 15, 2, by decide +kernel⟩,
  ⟨st (((List.range 8).map fun j => (F.CH_STATE_STATE (Fin.ofNat 128 (120 + j)), 5))), 15, 2, by decide +kernel⟩,
  ⟨1, by decide +kernel⟩,
  ⟨{ time := 1000 * ms }, 15, 1000000, by decide +kernel⟩,
  ⟨st [(⟨.GL_CARD, 15, 1⟩, 1)], 15, 0, by decide +kernel⟩,
  ⟨{ nv := { dirty := [(.rails, 0)] } }, .rails, by decide +kernel⟩,
  ⟨State.reset, .link, by decide +kernel⟩⟩

/-- The remaining clause of `Obligations.TransfersProgramsAndImages`: whether the signature is good is a free value, so its
hypothesis is met where the verifier accepts. -/
theorem witness_image (h : ∀ k m g, Config.ed25519Ok k m g = true) :
    ∃ s : State, s.mayGive .spi .write ∧ s.imageCheck = stOk := by
  refine ⟨withImage, by unfold State.mayGive; decide +kernel, ?_⟩
  unfold State.imageCheck
  dsimp only
  rw [if_neg (by decide +kernel), if_neg (by decide +kernel), if_neg (by decide +kernel), h,
    (by decide +kernel : withImage.flag F.HL_KEYSTAT_NZOFF = false)]
  rfl

end Sys2Proof.Tests
end

/-! PROOFS. The decoder of addresses answers no register but the one whose address it is given (R4, R13): block by block, then over
the whole map. -/

namespace Sys2Proof.Machine

/-- An answer of a decoder's branch lies where each side of the branch says. -/
theorem Reg.addr_of_ite {c : Prop} [Decidable c] {x y : Option Reg} {r : Reg} {a : Nat}
    (h : (if c then x else y) = some r) (hx : c → x = some r → r.addr = a) (hy : ¬ c → y = some r → r.addr = a) :
    r.addr = a := by
  by_cases hc : c
  · exact hx hc (by rwa [if_pos hc] at h)
  · exact hy hc (by rwa [if_neg hc] at h)

/-- The same for a branch that answers one register of an array. -/
theorem Reg.addr_of_ite_some {c : Prop} [Decidable c] {q : Reg} {y : Option Reg} {r : Reg} {a : Nat}
    (h : (if c then some q else y) = some r) (hq : c → q.addr = a) (hy : ¬ c → y = some r → r.addr = a) : r.addr = a :=
  Reg.addr_of_ite h (fun hc e => by cases e; exact hq hc) hy

theorem glAt_addr {o : Nat} {r : Reg} (h : glAt o = some r) : r.addr = o := by
  unfold glAt at h
  split at h <;> cases h <;> rfl

theorem ckAt_addr {o : Nat} {r : Reg} (h4 : o % 4 = 0) (h : ckAt o = some r) : r.addr = 0x10000 + o := by
  unfold ckAt at h
  split at h
  iterate 18 (cases h; rfl)
  repeat refine Reg.addr_of_ite_some h (fun _ => by simp only [Reg.addr, Fin.ofNat]; omega) fun _ h => ?_
  cases h

theorem evAt_addr {o : Nat} {r : Reg} (h4 : o % 4 = 0) (h : evAt o = some r) : r.addr = 0x20000 + o := by
  unfold evAt at h
  split at h
  iterate 2 (cases h; rfl)
  repeat refine Reg.addr_of_ite_some h (fun _ => by simp only [Reg.addr, Fin.ofNat]; omega) fun _ h => ?_
  cases h

theorem sqAt_addr {o : Nat} {r : Reg} (h4 : o % 4 = 0) (h : sqAt o = some r) : r.addr = 0x30000 + o := by
  unfold sqAt at h
  split at h
  iterate 6 (cases h; rfl)
  repeat refine Reg.addr_of_ite_some h (fun _ => by simp only [Reg.addr, Fin.ofNat]; omega) fun _ h => ?_
  cases h

theorem fdAt_addr {o : Nat} {r : Reg} (h4 : o % 4 = 0) (h : fdAt o = some r) : r.addr = 0x40000 + o := by
  unfold fdAt at h
  split at h
  iterate 6 (cases h; rfl)
  repeat refine Reg.addr_of_ite_some h (fun _ => by simp only [Reg.addr, Fin.ofNat]; omega) fun _ h => ?_
  cases h

theorem huAt_addr {o : Nat} {r : Reg} (h4 : o % 4 = 0) (h : huAt o = some r) : r.addr = 0x50000 + o := by
  unfold huAt at h
  split at h
  iterate 21 (cases h; rfl)
  repeat refine Reg.addr_of_ite_some h (fun _ => by simp only [Reg.addr, Fin.ofNat]; omega) fun _ h => ?_
  cases h

theorem lgAt_addr {o : Nat} {r : Reg} (h4 : o % 4 = 0) (h : lgAt o = some r) : r.addr = 0x60000 + o := by
  unfold lgAt at h
  split at h
  iterate 16 (cases h; rfl)
  repeat refine Reg.addr_of_ite_some h (fun _ => by simp only [Reg.addr, Fin.ofNat]; omega) fun _ h => ?_
  cases h

theorem twAt_addr {o : Nat} {r : Reg} (h4 : o % 4 = 0) (h : twAt o = some r) : r.addr = 0x80000 + o := by
  unfold twAt at h
  split at h
  iterate 5 (cases h; rfl)
  repeat refine Reg.addr_of_ite_some h (fun _ => by simp only [Reg.addr, Fin.ofNat]; omega) fun _ h => ?_
  cases h

theorem hlAt_addr {o : Nat} {r : Reg} (h4 : o % 4 = 0) (h : hlAt o = some r) : r.addr = 0x90000 + o := by
  unfold hlAt at h
  split at h
  iterate 6 (cases h; rfl)
  repeat refine Reg.addr_of_ite_some h (fun _ => by simp only [Reg.addr, Fin.ofNat]; omega) fun _ h => ?_
  cases h

theorem vtAt_addr {o : Nat} {r : Reg} (h4 : o % 4 = 0) (h : vtAt o = some r) : r.addr = 0xA0000 + o := by
  unfold vtAt at h
  split at h
  iterate 7 (cases h; rfl)
  repeat refine Reg.addr_of_ite_some h (fun _ => by simp only [Reg.addr, Fin.ofNat]; omega) fun _ h => ?_
  cases h

theorem btAt_addr {o : Nat} {r : Reg} (h4 : o % 4 = 0) (h : btAt o = some r) : r.addr = 0xB0000 + o := by
  unfold btAt at h
  split at h
  iterate 10 (cases h; rfl)
  repeat refine Reg.addr_of_ite_some h (fun _ => by simp only [Reg.addr, Fin.ofNat]; omega) fun _ h => ?_
  cases h

theorem tsAt_addr {o : Nat} {r : Reg} (h4 : o % 4 = 0) (h : tsAt o = some r) : r.addr = 0xB0800 + o := by
  unfold tsAt at h
  split at h
  iterate 5 (cases h; rfl)
  repeat refine Reg.addr_of_ite_some h (fun _ => by simp only [Reg.addr, Fin.ofNat]; omega) fun _ h => ?_
  cases h

theorem lnAt_addr {o : Nat} {r : Reg} (h4 : o % 4 = 0) (h : lnAt o = some r) : r.addr = 0xC0000 + o := by
  unfold lnAt at h
  split at h
  iterate 16 (cases h; rfl)
  repeat refine Reg.addr_of_ite_some h (fun _ => by simp only [Reg.addr, Fin.ofNat]; omega) fun _ h => ?_
  cases h

theorem csAt_addr {o : Nat} {r : Reg} (h4 : o % 4 = 0) (h : csAt o = some r) : r.addr = 0xC8000 + o := by
  unfold csAt at h
  split at h
  iterate 7 (cases h; rfl)
  repeat refine Reg.addr_of_ite_some h (fun _ => by simp only [Reg.addr, Fin.ofNat]; omega) fun _ h => ?_
  cases h

theorem axAt_addr {j : Fin 4} {o : Nat} {r : Reg} (h : axAt j o = some r) : r.addr = 0x70000 + j.val * 0x100 + o := by
  unfold axAt at h
  split at h <;> cases h <;> simp only [Reg.addr] <;> omega

theorem alAt_addr {k : Fin 16} {o : Nat} {r : Reg} (h : alAt k o = some r) : r.addr = 0x71000 + k.val * 0x40 + o := by
  unfold alAt at h
  split at h <;> cases h <;> simp only [Reg.addr] <;> omega

theorem chAt_addr {n : Fin 128} {o : Nat} {r : Reg} (h4 : o % 4 = 0) (h : chAt n o = some r) :
    r.addr = 0x100000 + n.val * 0x400 + o := by
  unfold chAt at h
  split at h
  iterate 65 (cases h; simp only [Reg.addr]; omega)
  repeat refine Reg.addr_of_ite_some h (fun _ => by simp only [Reg.addr, Fin.ofNat]; omega) fun _ h => ?_
  cases h

/-- A register the decoder answers lies at the address decoded. -/
theorem Reg.addr_of_ofAddr {a : Nat} {r : Reg} (h : Reg.ofAddr a = some r) : r.addr = a := by
  unfold Reg.ofAddr at h
  refine Reg.addr_of_ite h (fun _ h => nomatch h) fun h4 h => ?_
  refine Reg.addr_of_ite h (fun _ h => glAt_addr h) fun _ h => ?_
  refine Reg.addr_of_ite h (fun _ h => by rw [ckAt_addr (by omega) h]; omega) fun _ h => ?_
  refine Reg.addr_of_ite h (fun _ h => by rw [evAt_addr (by omega) h]; omega) fun _ h => ?_
  refine Reg.addr_of_ite h (fun _ h => by rw [sqAt_addr (by omega) h]; omega) fun _ h => ?_
  refine Reg.addr_of_ite h (fun _ h => by rw [fdAt_addr (by omega) h]; omega) fun _ h => ?_
  refine Reg.addr_of_ite h (fun _ h => by rw [huAt_addr (by omega) h]; omega) fun _ h => ?_
  refine Reg.addr_of_ite h (fun _ h => by rw [lgAt_addr (by omega) h]; omega) fun _ h => ?_
  refine Reg.addr_of_ite h (fun _ h => by rw [axAt_addr h]; simp only [Fin.ofNat]; omega) fun _ h => ?_
  refine Reg.addr_of_ite h (fun _ h => nomatch h) fun _ h => ?_
  refine Reg.addr_of_ite h (fun _ h => by rw [alAt_addr h]; simp only [Fin.ofNat]; omega) fun _ h => ?_
  refine Reg.addr_of_ite h (fun _ h => nomatch h) fun _ h => ?_
  refine Reg.addr_of_ite h (fun _ h => by rw [twAt_addr (by omega) h]; omega) fun _ h => ?_
  refine Reg.addr_of_ite h (fun _ h => by rw [hlAt_addr (by omega) h]; omega) fun _ h => ?_
  refine Reg.addr_of_ite h (fun _ h => by rw [vtAt_addr (by omega) h]; omega) fun _ h => ?_
  refine Reg.addr_of_ite h (fun _ h => by rw [btAt_addr (by omega) h]; omega) fun _ h => ?_
  refine Reg.addr_of_ite h (fun _ h => by rw [tsAt_addr (by omega) h]; omega) fun _ h => ?_
  refine Reg.addr_of_ite h (fun _ h => by rw [lnAt_addr (by omega) h]; omega) fun _ h => ?_
  refine Reg.addr_of_ite h (fun _ h => by rw [csAt_addr (by omega) h]; omega) fun _ h => ?_
  refine Reg.addr_of_ite h (fun _ h => nomatch h) fun _ h => ?_
  refine Reg.addr_of_ite h (fun _ h => by rw [chAt_addr (by omega) h]; simp only [Fin.ofNat]; omega) fun _ h => nomatch h

/-- The decoder never answers BT_PWMF 8: BT_REF holds its address (notes/assumptions/8.md). -/
theorem Reg.ofAddr_ne_btPwmf8 {a : Nat} {r : Reg} (h : Reg.ofAddr a = some r) : r ≠ .BT_PWMF 8 := by
  rintro rfl
  rw [← Reg.addr_of_ofAddr h] at h
  exact absurd h (by decide)

/-- Settles O5: `Reg.ofAddr_addr` decodes each register's own address, `Reg.addr_of_ofAddr` shows that no other address decodes to it. -/
theorem addressMapIsOneToOne : Obligations.AddressMapIsOneToOne := by
  intro a r
  constructor
  · intro h
    exact ⟨(Reg.addr_of_ofAddr h).symm, Reg.ofAddr_ne_btPwmf8 h⟩
  · rintro ⟨rfl, hr⟩
    exact Reg.ofAddr_addr r hr

end Sys2Proof.Machine

/-! PROOFS. What a command may change: the scope of a command, and the frame a state's operations keep on the way to its next state. -/

namespace Sys2Proof.Machine

/-- What a command may change: registers of `groups`, and, where marked, bytes of the memory windows and channel lanes. -/
structure Scope where
  groups : List Nat := []
  store : Bool := false
  lanes : Bool := false

/-- The scope that leaves nothing out: the scope of the resets, of the boots and of the host's own accesses. -/
def Scope.all : Scope := ⟨List.range 17, true, true⟩

@[simp] theorem Reg.group_mem_range (r : Reg) : r.group ∈ List.range 17 := by
  simp only [Reg.group, List.mem_range]
  omega

theorem Reg.group_mem_all (r : Reg) : r.group ∈ Scope.all.groups := r.group_mem_range

@[simp] theorem Scope.groups_all : Scope.all.groups = List.range 17 := rfl

@[simp] theorem Scope.store_all : Scope.all.store = true := rfl

@[simp] theorem Scope.lanes_all : Scope.all.lanes = true := rfl

/-- From `s` to `t` nothing has changed outside the scope: the canonical form and the queue of waiting commands stand, and so do the
registers of the other groups, the memory and the lanes where the scope does not name them. -/
structure Frame (a : Scope) (s t : State) : Prop where
  wf : s.wf = true → t.wf = true
  waiting : t.waiting = s.waiting
  rd : ∀ r, r.group ∉ a.groups → t.rd r = s.rd r
  store : a.store = false → t.store = s.store
  lanes : a.lanes = false → t.chv = s.chv

section
variable {a : Scope} {s t u : State}

theorem Frame.refl : Frame a s s := ⟨id, rfl, fun _ _ => rfl, fun _ => rfl, fun _ => rfl⟩

theorem Frame.trans (h : Frame a s t) (h' : Frame a t u) : Frame a s u :=
  ⟨fun hs => h'.wf (h.wf hs), h'.waiting.trans h.waiting, fun r hr => (h'.rd r hr).trans (h.rd r hr),
    fun hm => (h'.store hm).trans (h.store hm), fun hl => (h'.lanes hl).trans (h.lanes hl)⟩

/-- One more operation on the way: its own lemmas of Laws/ say what it leaves. -/
theorem Frame.thru (hw : t.wf = true → u.wf = true)
    (hk : u.waiting = t.waiting ∧ (∀ r, r.group ∉ a.groups → u.rd r = t.rd r) ∧ (a.store = false → u.store = t.store)
      ∧ (a.lanes = false → u.chv = t.chv)) (h : Frame a s t) : Frame a s u := by
  obtain ⟨hp, hr, hm, hl⟩ := hk
  exact h.trans ⟨hw, hp, hr, hm, hl⟩

/-- One more operation on the way, of a command that may change everything. -/
theorem Frame.thruAll (hw : t.wf = true → u.wf = true) (hp : u.waiting = t.waiting) (h : Frame .all s t) : Frame .all s u :=
  h.trans ⟨hw, hp, fun r hr => absurd r.group_mem_all hr, nofun, nofun⟩

/-- An update of fields that the scope does not speak of. -/
theorem Frame.update {old held64 low64 nv time ctr ctrPrev lockAt lockBy safeReq clrReq ch sh lane spare led fd fsel hu ax al sq
      boot clk mode ev link tw vault cellar tst maint status data free}
    (hk : NvSt.calSaved nv = t.nv.calSaved ∧ (a.lanes = false → ch = t.ch)) (h : Frame a s t) :
    Frame a s ⟨t.regs, old, held64, low64, t.mem, nv, time, ctr, ctrPrev, lockAt, lockBy, safeReq, clrReq, ch, sh, lane, spare, led,
      fd, fsel, hu, ax, al, sq, boot, clk, mode, ev, link, tw, vault, cellar, tst, maint, status, data, free, t.pending⟩ :=
  h.trans ⟨fun ht => by simp only [State.wf, hk.1]; exact ht, rfl, fun _ _ => rfl, fun _ => rfl, hk.2⟩

theorem Frame.setWord {r : Reg} {w : Word} (hr : r.group ∈ a.groups) (h : Frame a s t) : Frame a s (t.setWord r w) :=
  h.trans ⟨State.wf_setWord, State.setWord_pending, fun _ hq => State.setWord_rd fun e => hq (e ▸ hr),
    fun _ => State.setWord_store, fun _ => State.setWord_chv⟩

theorem Frame.fset {f : Fld} {v : Nat} (hf : f.reg.group ∈ a.groups) (h : Frame a s t) : Frame a s (t.fset f v) := h.setWord hf

theorem Frame.setFlag {f : Fld} {b : Bool} (hf : f.reg.group ∈ a.groups) (h : Frame a s t) : Frame a s (t.setFlag f b) :=
  h.setWord hf

theorem Frame.incSat {f : Fld} (hf : f.reg.group ∈ a.groups) (h : Frame a s t) : Frame a s (t.incSat f) := h.setWord hf

theorem Frame.incWrap {f : Fld} (hf : f.reg.group ∈ a.groups) (h : Frame a s t) : Frame a s (t.incWrap f) := h.setWord hf

theorem Frame.answer {st : Nat} {d : List Byte} (h : Frame a s t) : Frame a s (t.answer st d) := h.update ⟨rfl, fun _ => rfl⟩

theorem Frame.raise {num sev : Nat} {payload : List Byte} (hg : 2 ∈ a.groups ∧ 10 ∈ a.groups) (h : Frame a s t) :
    Frame a s (t.raise num sev payload) :=
  h.trans ⟨State.raise_wf, State.raise_pending, fun _ hr =>
    State.raise_rd (fun e => hr (e ▸ hg.1)) (fun e => hr (e ▸ hg.2)), fun _ => State.raise_store, fun _ => State.raise_chv⟩

theorem Frame.ite {c : Prop} [Decidable c] (ht : Frame a s t) (hu : Frame a s u) : Frame a s (if c then t else u) := by
  split
  · exact ht
  · exact hu

/-- A fold over a list, of what carries a state with it. -/
theorem Frame.foldlOn {α β : Type} (π : β → State) {l : List α} {f : β → α → β} {b : β} (h : Frame a s (π b))
    (hf : ∀ b x, Frame a (π b) (π (f b x))) : Frame a s (π (l.foldl f b)) := by
  induction l generalizing b with
  | nil => exact h
  | cons x l ih => exact ih (h.trans (hf b x))

theorem Frame.each {α : Type} {l : List α} {f : α → State → State} (h : Frame a s t) (hf : ∀ x u, Frame a u (f x u)) :
    Frame a s (t.each l f) := h.foldlOn id fun u x => hf x u

/-- The command goes on, and its next state lies within the scope. -/
def NextFrame (a : Scope) (s : State) (o : Host.Outcome State Fault Refusal) : Prop := ∃ t, o = .next t ∧ Frame a s t

theorem NextFrame.next (h : Frame a s t) : NextFrame a s (.next t) := ⟨t, rfl, h⟩

theorem NextFrame.ite {c : Prop} [Decidable c] {o p : Host.Outcome State Fault Refusal} (ho : NextFrame a s o)
    (hp : NextFrame a s p) : NextFrame a s (if c then o else p) := by
  split
  · exact ho
  · exact hp

theorem NextFrame.frame (h : NextFrame a s (.next t)) : Frame a s t := by
  obtain ⟨_, e, ht⟩ := h
  cases e
  exact ht

end

end Sys2Proof.Machine

/-! PROOFS. The frame of each command: the next state it goes on to, written as the operations on the way, each of which keeps to the
command's scope. -/

namespace Sys2Proof.Machine

theorem execModulatorOverload_frame {n : Option (Fin 128)} {volt cur : Bool} {s : State} :
    NextFrame { groups := [16], lanes := true } s (execModulatorOverload n volt cur s) := by
  unfold execModulatorOverload
  split
  · refine .next (.thru State.chanOverload_wf ?_ .refl)
    simp +contextual
  · refine .next (.ite (.thru State.chanOverload_wf ?_ (.thru State.laneOverload_wf ?_ .refl))
        (.thru State.laneOverload_wf ?_ .refl))
    all_goals simp +contextual

theorem execCalCopy_frame {s : State} : NextFrame { groups := [12] } s (execCalCopy s) := by
  refine .next (.thru State.calCopy_wf ?_ .refl)
  simp +contextual

theorem execCalSwap_frame {s : State} : NextFrame { groups := [12] } s (execCalSwap s) := by
  refine .next (.thru State.calSwap_wf ?_ .refl)
  simp +contextual

theorem execCalCopyDone_frame {s : State} : NextFrame { groups := [12], store := true } s (execCalCopyDone s) := by
  refine .ite (.next (.setFlag ?_ (.thru State.calMirror_wf ?_ .refl))) (.next .refl)
  all_goals simp +contextual

theorem execShadowTableWrite_frame {addr : Nat} {val : Word} {s : State} :
    NextFrame { store := true } s (execShadowTableWrite addr val s) := by
  refine .ite (.next (.thru State.shadowWrite_wf ?_ .refl)) (.next (.answer .refl))
  simp +contextual

theorem execCalTableSave_frame {s : State} : NextFrame {} s (execCalTableSave s) := by
  unfold execCalTableSave
  split
  · refine .ite (.next ⟨fun h => ?_, rfl, fun _ _ => rfl, fun _ => rfl, fun _ => rfl⟩) (.next .refl)
    simp only [State.wf, Bool.and_eq_true] at h ⊢
    exact ⟨h.1, memMove_wf h.1.2 _ _ _⟩
  · exact .next .refl

theorem execParkedSwitchOpen_frame {n : Fin 128} {s : State} :
    NextFrame { groups := [16], lanes := true } s (execParkedSwitchOpen n s) := by
  unfold execParkedSwitchOpen
  split
  · refine .ite (.next (.thru State.openSwitch_wf ?_ .refl)) (.next .refl)
    simp +contextual
  · exact .next .refl

theorem execStopEnd_frame {n : Fin 128} {s : State} :
    NextFrame { groups := [2, 10, 16], lanes := true } s (execStopEnd n s) := by
  refine .ite (.next (.thru State.parkGang_wf ?_ .refl)) (.next .refl)
  simp +contextual

theorem execSafeReq_frame {s : State} :
    NextFrame { groups := [0, 2, 3, 5, 7, 10, 12, 16], store := true, lanes := true } s (execSafeReq s) := by
  refine .next (.answer (.thru State.enterSafe_wf ?_ .refl))
  simp +contextual

theorem execSafeClr_frame {s : State} : NextFrame {} s (execSafeClr s) := by
  refine .next (.answer (.update ?_ .refl))
  simp +contextual

theorem execShelfServiceEntry_frame {s : State} : NextFrame { groups := [0] } s (execShelfServiceEntry s) := by
  refine .ite (.next (.fset ?_ .refl)) (.next .refl)
  simp +contextual

theorem execLockOpen_frame {s : State} : NextFrame { groups := [0] } s (execLockOpen s) := by
  refine .next (.thru State.lockWrite_wf ?_ .refl)
  simp +contextual

theorem execLockClose_frame {key : BitVec 16} {s : State} : NextFrame { groups := [0] } s (execLockClose key s) := by
  refine .next (.thru State.lockWrite_wf ?_ .refl)
  simp +contextual

theorem execLockExpiry_frame {s : State} : NextFrame { groups := [0] } s (execLockExpiry s) := by
  unfold execLockExpiry
  split
  · refine .ite (.next (.thru State.lockClose_wf ?_ .refl)) (.next .refl)
    simp +contextual
  · exact .next .refl

theorem execSwitchingCycleStart_frame {n : Fin 128} {phB : Bool} {s : State} :
    NextFrame { groups := [16], lanes := true } s (execSwitchingCycleStart n phB s) := by
  conv => arg 3; fun; fun; fun; delta execSwitchingCycleStart
  extract_lets l ph k
  split
  · exact .next .refl
  · extract_lets s1
    have h1 : Frame { groups := [16], lanes := true } s s1 := by
      refine .thru State.modL_wf ?_ .refl
      simp +contextual [s1]
    refine .ite (.next (.thru State.shedPhase_wf ?_ h1)) (.ite (.next (.thru State.loadPhase_wf ?_ (.setFlag ?_
      (.thru State.modL_wf ?_ h1)))) (.ite (.next (.thru State.loadPhase_wf ?_ h1)) (.next .refl)))
    all_goals simp +contextual

theorem execPhaseShed_frame {n : Fin 128} {s : State} : NextFrame { groups := [16], lanes := true } s (execPhaseShed n s) := by
  refine .ite (.next (.thru State.modL_wf ?_ (.incWrap ?_ (.setFlag ?_ .refl)))) (.next .refl)
  all_goals simp +contextual

theorem execSoftStartFault_frame {n : Fin 128} {s : State} :
    NextFrame { groups := [2, 10, 16], lanes := true } s (execSoftStartFault n s) := by
  refine .ite (.next (.thru State.tripSoft_wf ?_ .refl)) (.next .refl)
  simp +contextual

theorem execBusLimitTrip_frame {s : State} : NextFrame { groups := [2, 10, 16], lanes := true } s (execBusLimitTrip s) := by
  refine .ite (.next (.each .refl fun _ _ => .ite (.thru State.trip_wf ?_ .refl) .refl)) (.next .refl)
  simp +contextual

theorem execPwmDivWrite_frame {val : Word} {s : State} : NextFrame { groups := [1] } s (execPwmDivWrite val s) := by
  refine .next (.thru State.pwmDivWrite_wf ?_ .refl)
  simp +contextual

theorem execSyncInEdge_frame {t : Nat} {s : State} : NextFrame { groups := [1] } s (execSyncInEdge t s) := by
  unfold execSyncInEdge
  dsimp only
  refine .ite (.next .refl) ?_
  split
  · refine .next (.update ?_ .refl)
    simp +contextual
  · refine .ite (.next (.setFlag ?_ (.update ?_ .refl))) (.next (.thru State.syncEdge_wf ?_ (.update ?_ .refl)))
    all_goals simp +contextual

theorem execSyncLost_frame {s : State} : NextFrame { groups := [1, 2, 10] } s (execSyncLost s) := by
  unfold execSyncLost
  split
  · refine .ite (.next (.raise ?_ (.setFlag ?_ (.update ?_ (.setFlag ?_ (.setFlag ?_ .refl)))))) (.next .refl)
    all_goals simp +contextual
  · exact .next .refl

theorem execGangWrite_frame {n : Fin 128} {val : Word} {s : State} : NextFrame { lanes := true } s (execGangWrite n val s) := by
  refine .next (.thru State.gangWrite_wf ?_ .refl)
  simp +contextual

theorem execRestSwitchOpen_frame {n : Fin 128} {s : State} :
    NextFrame { groups := [16], lanes := true } s (execRestSwitchOpen n s) := by
  unfold execRestSwitchOpen
  dsimp only
  split
  · refine .ite (.next (.ite (.thru State.leaveRest_wf ?_ (.thru State.openSwitch_wf ?_ .refl))
        (.thru State.openSwitch_wf ?_ .refl))) (.next .refl)
    all_goals simp +contextual
  · exact .next .refl

theorem execCheckShortTest_frame {n : Fin 128} {s : State} :
    NextFrame { groups := [2, 10, 16], lanes := true } s (execCheckShortTest n s) := by
  unfold execCheckShortTest
  refine .ite ?_ (.next .refl)
  split
  · refine .next (.thru State.checkFail_wf ?_ .refl)
    simp +contextual
  · refine .next (.thru State.startPhases_wf ?_ (.thru State.checkPhase_wf ?_ .refl))
    all_goals simp +contextual

theorem execCheckPrebiasReached_frame {n : Fin 128} {s : State} :
    NextFrame { groups := [16], lanes := true } s (execCheckPrebiasReached n s) := by
  refine .ite (.next (.each (.thru State.engage_wf ?_ (.thru State.checkPhase_wf ?_ .refl)) fun _ _ => .thru State.modL_wf ?_
      (.setFlag ?_ .refl))) (.next .refl)
  all_goals simp +contextual

theorem execCheckPrebiasTimeout_frame {n : Fin 128} {s : State} :
    NextFrame { groups := [2, 10, 16], lanes := true } s (execCheckPrebiasTimeout n s) := by
  unfold execCheckPrebiasTimeout
  refine .ite ?_ (.next .refl)
  split
  · refine .next (.thru State.checkFail_wf ?_ .refl)
    simp +contextual
  · exact .next .refl

theorem execCheckSwitchSettled_frame {n : Fin 128} {s : State} :
    NextFrame { groups := [16], lanes := true } s (execCheckSwitchSettled n s) := by
  refine .ite (.ite (.next (.thru State.startWaiting_wf ?_ .refl)) (.next (.thru State.checkPhase_wf ?_ .refl))) (.next .refl)
  all_goals simp +contextual

theorem execCheckZeroPointDone_frame {n : Fin 128} {s : State} :
    NextFrame { lanes := true } s (execCheckZeroPointDone n s) := by
  unfold execCheckZeroPointDone
  refine .ite ?_ (.next .refl)
  split
  · refine .next (.thru State.checkPhase_wf ?_ (.each .refl fun _ _ => .thru State.modC_wf ?_ .refl))
    all_goals simp +contextual

theorem execCheckLearnSettled_frame {n : Fin 128} {s : State} : NextFrame { lanes := true } s (execCheckLearnSettled n s) := by
  unfold execCheckLearnSettled
  split
  · refine .ite (.next (.thru State.checkPhase_wf ?_ .refl)) (.next .refl)
    simp +contextual
  · exact .next .refl

theorem execCheckRpathLearned_frame {n : Fin 128} {s : State} :
    NextFrame { groups := [2, 10, 16], lanes := true } s (execCheckRpathLearned n s) := by
  unfold execCheckRpathLearned
  refine .ite ?_ (.next .refl)
  split
  · refine .next (.thru State.checkFail_wf ?_ .refl)
    simp +contextual
  · refine .next (.thru State.checkPhase_wf ?_ (.each .refl fun j t => ?_))
    · simp +contextual
    · split
      · refine .setFlag ?_ (.setFlag ?_ (.fset ?_ .refl))
        all_goals simp
      · exact .refl

theorem execCheckPass_frame {n : Fin 128} {s : State} : NextFrame { groups := [16], lanes := true } s (execCheckPass n s) := by
  refine .ite (.next (.fset ?_ (.each (.each
      (.thru State.checkPhase_wf ?_ .refl) fun _ _ => .fset ?_ .refl) fun _ _ => .setFlag ?_ .refl))) (.next .refl)
  all_goals simp +contextual

theorem execVinEnterWindow_frame {f : Fin 2} {vin : Int} {s : State} :
    NextFrame { groups := [2, 4, 10] } s (execVinEnterWindow f vin s) := by
  refine .ite (.next (.thru State.feedQual_wf ?_ (.thru State.modF_wf ?_ .refl))) (.next .refl)
  all_goals simp +contextual

theorem execVinLeaveWindow_frame {f : Fin 2} {vin : Int} {held : Nat} {s : State} :
    NextFrame { groups := [2, 4, 10] } s (execVinLeaveWindow f vin held s) := by
  refine .ite (.next (.thru State.vinLeave_wf ?_ .refl)) (.next .refl)
  simp +contextual

theorem execFeedQualified_frame {f : Fin 2} {s : State} : NextFrame { groups := [2, 4, 10] } s (execFeedQualified f s) := by
  refine .ite (.next (.thru State.feedEval_wf ?_ (.thru State.setFeed_wf ?_ .refl))) (.next .refl)
  all_goals simp +contextual

theorem execFeedCheckDone_frame {f : Fin 2} {vin mid mid2 : Int} {s : State} :
    NextFrame { groups := [2, 4, 10] } s (execFeedCheckDone f vin mid mid2 s) := by
  unfold execFeedCheckDone
  refine .ite ?_ (.next .refl)
  split
  · refine .next (.thru State.faultFeed_wf ?_ .refl)
    simp +contextual
  · refine .next (.thru State.rampIfClear_wf ?_ (.thru State.deselect_wf ?_ (.thru State.modF_wf ?_ .refl)))
    all_goals simp +contextual

theorem execFeedOn_frame {f : Fin 2} {gs : Int} {held : Nat} {s : State} :
    NextFrame { groups := [0, 2, 4, 10] } s (execFeedOn f gs held s) := by
  refine .ite (.next .refl) (.ite (.next (.thru State.feedEval_wf ?_ (.ite (.fset ?_ (.thru State.modHu_wf ?_ (.setFlag ?_
      (.thru State.setFeed_wf ?_ .refl)))) (.thru State.modHu_wf ?_ (.setFlag ?_ (.thru State.setFeed_wf ?_ .refl)))))) (.ite
      (.next (.setFlag ?_ .refl)) (.next .refl)))
  all_goals simp +contextual

theorem execFeedRampTimeout_frame {f : Fin 2} {s : State} : NextFrame { groups := [2, 4, 10] } s (execFeedRampTimeout f s) := by
  refine .ite (.next (.thru State.faultFeed_wf ?_ .refl)) (.next .refl)
  simp +contextual

theorem execFeedFaultTimer_frame {f : Fin 2} {s : State} : NextFrame { groups := [2, 4, 10] } s (execFeedFaultTimer f s) := by
  refine .ite (.next (.thru State.faultFeed_wf ?_ .refl)) (.next .refl)
  simp +contextual

theorem execReverseTrip_frame {f : Fin 2} {uv vin : Int} {s : State} :
    NextFrame { groups := [2, 4, 10] } s (execReverseTrip f uv vin s) := by
  refine .ite (.ite (.next (.thru State.faultFeed_wf ?_ .refl)) (.next (.thru State.vinLeave_wf ?_ .refl))) (.next .refl)
  all_goals simp +contextual

theorem execFeedCurrentLimiting_frame {f : Fin 2} {on : Bool} {i : Int} {tick : Fin 10} {s : State} :
    NextFrame { groups := [4] } s (execFeedCurrentLimiting f on i tick s) := by
  refine .ite (.next (.ite (.setFlag ?_ (.thru State.setLim_wf ?_ .refl)) (.thru State.setLim_wf ?_ .refl))) (.next .refl)
  all_goals simp +contextual

theorem execTurnoffConfirmed_frame {f : Fin 2} {gs i : Int} {s : State} :
    NextFrame { groups := [2, 4, 10] } s (execTurnoffConfirmed f gs i s) := by
  unfold execTurnoffConfirmed
  split
  · refine .ite (.next (.thru State.feedEval_wf ?_ (.thru State.rampIfClear_wf ?_ (.thru State.modF_wf ?_ .refl))))
        (.next .refl)
    all_goals simp +contextual
  · exact .next .refl

theorem execTurnoffTimeout_frame {f : Fin 2} {s : State} : NextFrame { groups := [2, 4, 10] } s (execTurnoffTimeout f s) := by
  unfold execTurnoffTimeout
  split
  · refine .ite (.next (.raise ?_ (.setFlag ?_ (.thru State.modF_wf ?_ .refl)))) (.next .refl)
    all_goals simp +contextual
  · exact .next .refl

theorem execFeedLockoutEnd_frame {f : Fin 2} {s : State} : NextFrame { groups := [2, 4, 10] } s (execFeedLockoutEnd f s) := by
  refine .ite (.next (.thru State.setFeed_wf ?_ (.thru State.modF_wf ?_ .refl))) (.next .refl)
  all_goals simp +contextual

theorem execFeedFaultClear_frame {f : Fin 2} {val : Word} {s : State} :
    NextFrame { groups := [2, 4, 10] } s (execFeedFaultClear f val s) := by
  refine .next (.thru State.feedClear_wf ?_ .refl)
  simp +contextual

theorem execFeedDisable_frame {f : Fin 2} {s : State} : NextFrame { groups := [2, 4, 10] } s (execFeedDisable f s) := by
  refine .ite (.next (.answer (.thru State.feedDisable_wf ?_ .refl))) (.next (.answer .refl))
  simp +contextual

theorem execFeedSelectWrite_frame {val : Word} {s : State} :
    NextFrame { groups := [2, 4, 10] } s (execFeedSelectWrite val s) := by
  refine .next (.thru State.feedSelWrite_wf ?_ .refl)
  simp +contextual

theorem execBusCapMeasured_frame {s : State} :
    NextFrame { groups := [0, 2, 3, 4, 5, 7, 10, 12, 16], store := true, lanes := true } s (execBusCapMeasured s) := by
  unfold execBusCapMeasured
  split
  · exact .next .refl
  · refine .ite (.next .refl) (.ite (.next (.thru State.capEnd_wf ?_ .refl)) (.ite (.next (.thru State.capEnd_wf ?_ .refl))
        (.next (.thru State.capResult_wf ?_ .refl))))
    all_goals simp +contextual

theorem execMeterUpdate_frame {inp : MeterIn} {s : State} :
    NextFrame { groups := [0, 2, 4, 5, 10] } s (execMeterUpdate inp s) := by
  refine .ite (.next .refl) (.next (.thru State.feedTick_wf ?_ (.thru State.meterGate_wf ?_ (.thru State.meterGate_wf ?_
      (.thru State.meterTake_wf ?_ .refl)))))
  all_goals simp +contextual

theorem execPathCurrentLoss_frame {ua : Int} {held : Nat} {s : State} :
    NextFrame { groups := [2, 4, 10] } s (execPathCurrentLoss ua held s) := by
  refine .ite (.ite (.next (.thru State.vinLeave_wf ?_ .refl)) (.ite (.next (.thru State.vinLeave_wf ?_ .refl)) (.next .refl)))
      (.next .refl)
  all_goals simp +contextual

theorem execRideTimerExpiry_frame {s : State} :
    NextFrame { groups := [0, 2, 5, 10, 12], lanes := true } s (execRideTimerExpiry s) := by
  refine .ite (.next (.thru State.rideEnds_wf ?_ .refl)) (.next .refl)
  simp +contextual

theorem execHaltVoltage_frame {s : State} : NextFrame { groups := [0, 2, 5, 10, 12], lanes := true } s (execHaltVoltage s) := by
  refine .ite (.next (.thru State.rideEnds_wf ?_ .refl)) (.next .refl)
  simp +contextual

theorem execHuCtlHalt_frame {s : State} : NextFrame { groups := [0, 2, 5, 10, 12], lanes := true } s (execHuCtlHalt s) := by
  refine .next (.answer (.thru State.rideEnds_wf ?_ .refl))
  simp +contextual

theorem execHaltComplete_frame {s : State} :
    NextFrame { groups := [0, 2, 3, 5, 7, 10, 12, 16], store := true, lanes := true } s (execHaltComplete s) := by
  refine .ite (.next (.thru State.enterSafe_wf ?_ .refl)) (.next .refl)
  simp +contextual

theorem execHoldupPathArm_frame {s : State} : NextFrame { groups := [5] } s (execHoldupPathArm s) := by
  refine .ite (.ite (.next (.fset ?_ .refl)) (.next (.thru State.modHu_wf ?_ (.fset ?_ .refl)))) (.next .refl)
  all_goals simp +contextual

theorem execHoldupPreDone_frame {s : State} : NextFrame { groups := [5] } s (execHoldupPreDone s) := by
  refine .ite (.ite (.next (.thru State.preFail_wf ?_ .refl)) (.next (.fset ?_ .refl))) (.next .refl)
  all_goals simp +contextual

theorem execHoldupPreTimeout_frame {s : State} : NextFrame { groups := [5] } s (execHoldupPreTimeout s) := by
  refine .ite (.next (.thru State.preFail_wf ?_ .refl)) (.next .refl)
  simp +contextual

theorem execHoldupConduct_frame {s : State} : NextFrame { groups := [2, 5, 10] } s (execHoldupConduct s) := by
  refine .ite (.next (.raise ?_ (.fset ?_ .refl))) (.next .refl)
  all_goals simp +contextual

theorem execHoldupReverse_frame {ua : Int} {held : Nat} {s : State} :
    NextFrame { groups := [2, 5, 10] } s (execHoldupReverse ua held s) := by
  refine .ite (.next (.raise ?_ (.thru State.setHuLim_wf ?_ (.fset ?_ .refl)))) (.next .refl)
  all_goals simp +contextual

theorem execHoldupUvcut_frame {s : State} : NextFrame { groups := [0, 2, 5, 10, 12], lanes := true } s (execHoldupUvcut s) := by
  refine .ite (.next (.thru State.rideEnds_wf ?_ (.raise ?_ (.thru State.pathOff_wf ?_ (.setFlag ?_ .refl))))) (.next .refl)
  all_goals simp +contextual

theorem execHoldupDischargeLimiting_frame {on : Bool} {i : Int} {s : State} :
    NextFrame { groups := [5] } s (execHoldupDischargeLimiting on i s) := by
  refine .ite (.next (.thru State.setHuLim_wf ?_ .refl)) (.next .refl)
  simp +contextual

theorem execDischargeLimitExpiry_frame {s : State} :
    NextFrame { groups := [0, 2, 5, 10, 12], lanes := true } s (execDischargeLimitExpiry s) := by
  unfold execDischargeLimitExpiry
  split
  · refine .ite (.next (.thru State.rideEnds_wf ?_ (.raise ?_ (.thru State.modHu_wf ?_ (.setFlag ?_ .refl))))) (.next .refl)
    all_goals simp +contextual
  · exact .next .refl

theorem execPackMissing_frame {s : State} : NextFrame { groups := [0, 2, 5, 10, 12], lanes := true } s (execPackMissing s) := by
  refine .ite (.next .refl) (.next (.thru State.rideEnds_wf ?_ (.raise ?_ (.fset ?_ (.thru State.pathOff_wf ?_ (.setFlag ?_
      (.setFlag ?_ (.thru State.modHu_wf ?_ .refl))))))))
  all_goals simp +contextual

theorem execPackShorted_frame {s : State} : NextFrame { groups := [0, 2, 5, 10, 12], lanes := true } s (execPackShorted s) := by
  refine .ite (.next (.thru State.rideEnds_wf ?_ (.raise ?_ (.fset ?_ (.thru State.pathOff_wf ?_ (.setFlag ?_ .refl))))))
      (.next .refl)
  all_goals simp +contextual

theorem execPackPresent_frame {s : State} : NextFrame { groups := [5] } s (execPackPresent s) := by
  refine .ite (.next (.ite (.setFlag ?_ (.thru State.modHu_wf ?_ (.setFlag ?_ .refl))) (.thru State.modHu_wf ?_
      (.setFlag ?_ .refl)))) (.next .refl)
  all_goals simp +contextual

theorem execHuWdtKick_frame {s : State} : NextFrame {} s (execHuWdtKick s) := by
  refine .next (.answer (.thru State.wdtKick_wf ?_ .refl))
  simp +contextual

theorem execHuWdtConfirm_frame {s : State} : NextFrame { groups := [5] } s (execHuWdtConfirm s) := by
  refine .next (.answer (.thru State.wdtConfirm_wf ?_ .refl))
  simp +contextual

theorem execHuWdtExpiry_frame {s : State} : NextFrame { groups := [2, 5, 10] } s (execHuWdtExpiry s) := by
  refine .ite (.next (.raise ?_ (.setFlag ?_ (.setFlag ?_ (.setFlag ?_ .refl))))) (.next .refl)
  all_goals simp +contextual

theorem execChargerTick_frame {s : State} : NextFrame { groups := [5, 7] } s (execChargerTick s) := by
  refine .ite (.next (.thru State.chargerTick_wf ?_ .refl)) (.next .refl)
  simp +contextual

theorem execChargerSafetyTimeout_frame {s : State} : NextFrame { groups := [2, 5, 10] } s (execChargerSafetyTimeout s) := by
  refine .ite (.next (.raise ?_ (.fset ?_ (.setFlag ?_ .refl)))) (.next .refl)
  all_goals simp +contextual

theorem execGaugeMinute_frame {s : State} : NextFrame { groups := [2, 5, 10] } s (execGaugeMinute s) := by
  refine .ite (.next (.thru State.gaugeMinute_wf ?_ .refl)) (.next .refl)
  simp +contextual

theorem execGaugeNoref_frame {s : State} : NextFrame { groups := [2, 5, 10] } s (execGaugeNoref s) := by
  refine .ite (.next (.raise ?_ (.setFlag ?_ .refl))) (.next .refl)
  all_goals simp +contextual

theorem execChargerTaperDone_frame {s : State} : NextFrame { groups := [2, 5, 10] } s (execChargerTaperDone s) := by
  refine .ite (.next (.thru State.relearn_wf ?_ (.thru State.modHu_wf ?_ (.raise ?_ (.fset ?_
      (.thru State.fresh_wf ?_ .refl)))))) (.next .refl)
  all_goals simp +contextual

theorem execGaugeRestore_frame {crc : Word} {s : State} : NextFrame { groups := [5] } s (execGaugeRestore crc s) := by
  refine .next (.thru State.gaugeRestore_wf ?_ .refl)
  simp +contextual

theorem execThrottleReport_frame {s : State} : NextFrame { groups := [6] } s (execThrottleReport s) := by
  unfold execThrottleReport
  split
  · exact .next .refl
  · refine .next (.thru State.shelfItem_wf ?_ (.update ?_ (.incWrap ?_ .refl)))
    all_goals simp +contextual

theorem execRmCapStale_frame {s : State} : NextFrame { groups := [2, 6, 10] } s (execRmCapStale s) := by
  refine .ite (.next (.raise ?_ (.setFlag ?_ .refl))) (.next .refl)
  all_goals simp +contextual

theorem execFeedErrorAlarm_frame {s : State} : NextFrame { groups := [2, 10] } s (execFeedErrorAlarm s) := by
  refine .ite (.next (.raise ?_ (.update ?_ .refl))) (.next .refl)
  all_goals simp +contextual

theorem execAuxEnable_frame {j : Fin 4} {s : State} : NextFrame { groups := [7] } s (execAuxEnable j s) := by
  refine .next (.thru State.axEnable_wf ?_ .refl)
  simp +contextual

theorem execAuxDisable_frame {j : Fin 4} {s : State} : NextFrame { groups := [7] } s (execAuxDisable j s) := by
  refine .next (.thru State.axDisable_wf ?_ .refl)
  simp +contextual

theorem execAuxCheck_frame {j : Fin 4} {mv : Int} {s : State} : NextFrame { groups := [2, 7, 10] } s (execAuxCheck j mv s) := by
  refine .ite (.ite (.next (.thru State.auxFault_wf ?_ .refl)) (.next (.thru State.axSoft_wf ?_ .refl))) (.next .refl)
  all_goals simp +contextual

theorem execAuxSoftstartDone_frame {j : Fin 4} {s : State} :
    NextFrame { groups := [2, 7, 10] } s (execAuxSoftstartDone j s) := by
  refine .ite (.ite (.next (.thru State.auxHiccup_wf ?_ .refl)) (.next (.fset ?_ .refl))) (.next .refl)
  all_goals simp +contextual

theorem execAuxPowerGood_frame {j : Fin 4} {s : State} : NextFrame { groups := [7] } s (execAuxPowerGood j s) := by
  refine .ite (.next (.thru State.modAx_wf ?_ (.setFlag ?_ .refl))) (.next .refl)
  all_goals simp +contextual

theorem execAuxOv_frame {j : Fin 4} {mv : Int} {held : Nat} {s : State} :
    NextFrame { groups := [2, 7, 10] } s (execAuxOv j mv held s) := by
  refine .ite (.next (.thru State.auxFault_wf ?_ .refl)) (.next .refl)
  simp +contextual

theorem execAuxUv_frame {j : Fin 4} {s : State} : NextFrame { groups := [2, 7, 10] } s (execAuxUv j s) := by
  refine .ite (.next (.thru State.auxHiccup_wf ?_ (.setFlag ?_ .refl))) (.next .refl)
  all_goals simp +contextual

theorem execAuxOc_frame {j : Fin 4} {s : State} : NextFrame { groups := [2, 7, 10] } s (execAuxOc j s) := by
  refine .ite (.next (.thru State.auxHiccup_wf ?_ (.setFlag ?_ .refl))) (.next .refl)
  all_goals simp +contextual

theorem execAuxHiccupEnd_frame {j : Fin 4} {mv : Int} {s : State} :
    NextFrame { groups := [7] } s (execAuxHiccupEnd j mv s) := by
  refine .ite (.next (.thru State.auxStart_wf ?_ .refl)) (.next .refl)
  simp +contextual

theorem execAuxChargerOv_frame {mv : Int} {s : State} : NextFrame { groups := [2, 5, 7, 10] } s (execAuxChargerOv mv s) := by
  refine .ite (.next .refl) (.next (.fset ?_ (.setFlag ?_ (.thru State.auxFault_wf ?_ .refl))))
  all_goals simp +contextual

theorem execOcTrip_frame {n : Fin 128} {t uv held : Nat} {s : State} :
    NextFrame { groups := [2, 10, 16], lanes := true } s (execOcTrip n t uv held s) := by
  refine .ite (.next (.thru State.trip_wf ?_ .refl)) (.next .refl)
  simp +contextual

theorem execOvTrip_frame {n : Fin 128} {t uv held : Nat} {s : State} :
    NextFrame { groups := [2, 10, 16], lanes := true } s (execOvTrip n t uv held s) := by
  refine .ite (.next (.thru State.trip_wf ?_ .refl)) (.next .refl)
  simp +contextual

theorem execUvTrip_frame {n : Fin 128} {s : State} : NextFrame { groups := [2, 10, 16], lanes := true } s (execUvTrip n s) := by
  refine .ite (.next (.thru State.tripSoft_wf ?_ .refl)) (.next .refl)
  simp +contextual

theorem execFuseTrip_frame {n : Fin 128} {s : State} :
    NextFrame { groups := [2, 10, 16], lanes := true } s (execFuseTrip n s) := by
  refine .ite (.next (.thru State.tripSoft_wf ?_ .refl)) (.next .refl)
  simp +contextual

theorem execDeltaSample_frame {n : Fin 128} {vfd ip : Int} {s : State} :
    NextFrame { groups := [2, 10, 16], lanes := true } s (execDeltaSample n vfd ip s) := by
  unfold execDeltaSample
  dsimp only
  refine .next (.thru State.modP_wf ?_ (.thru State.ctSample_wf ?_ .refl))
  all_goals simp +contextual

theorem execContactBreak_frame {n : Fin 128} {s : State} :
    NextFrame { groups := [2, 10, 16], lanes := true } s (execContactBreak n s) := by
  refine .ite (.next (.incSat ?_ (.thru State.tripSilent_wf ?_ (.thru State.modP_wf ?_ .refl)))) (.next .refl)
  all_goals simp +contextual

theorem execCtEstimateClose_frame {n : Fin 128} {s : State} :
    NextFrame { groups := [2, 10, 16], lanes := true } s (execCtEstimateClose n s) := by
  unfold execCtEstimateClose
  extract_lets p e s1 exceeds s2 s3
  have h1 : Frame { groups := [2, 10, 16], lanes := true } s s1 := by
    refine .fset ?_ (.fset ?_ .refl)
    all_goals simp
  have h2 : Frame { groups := [2, 10, 16], lanes := true } s s2 := by
    refine .ite (.thru State.latchBeside_wf ?_ h1) h1
    simp +contextual
  have h3 : Frame { groups := [2, 10, 16], lanes := true } s s3 := by
    refine .thru State.modP_wf ?_ (.thru State.openSwitch_wf ?_ h2)
    all_goals simp +contextual [s3]
  refine .ite (.next (.thru State.raiseOcc_wf ?_ h3)) (.next .refl)
  simp +contextual

theorem execStageFault_frame {n : Fin 128} {t held : Nat} {s : State} :
    NextFrame { groups := [2, 10, 16], lanes := true } s (execStageFault n t held s) := by
  refine .ite (.next (.thru State.trip_wf ?_ (.thru State.modP_wf ?_ .refl))) (.next (.thru State.modP_wf ?_ .refl))
  all_goals simp +contextual

theorem execFltLPulse_frame {n : Fin 128} {t held : Nat} {s : State} :
    NextFrame { groups := [2, 10, 16], lanes := true } s (execFltLPulse n t held s) := by
  refine .ite (.next (.thru State.modP_wf ?_ .refl)) (.ite (.next (.thru State.trip_wf ?_ (.thru State.modP_wf ?_ .refl))) (.ite
      (.next (.thru State.trip_wf ?_ (.thru State.modP_wf ?_ (.incWrap ?_ (.thru State.modP_wf ?_ .refl))))) (.next
      (.thru State.modP_wf ?_ (.incWrap ?_ (.thru State.modP_wf ?_ .refl))))))
  all_goals simp +contextual

theorem execWearBinMinute_frame {n : Fin 128} {s : State} :
    NextFrame { groups := [2, 10, 16], lanes := true } s (execWearBinMinute n s) := by
  refine .ite (.next .refl) (.next (.thru State.wearJudge_wf ?_ (.thru State.modP_wf ?_ .refl)))
  all_goals simp +contextual

theorem execDriftSecond_frame {n : Fin 128} {s : State} :
    NextFrame { groups := [2, 10, 16], lanes := true } s (execDriftSecond n s) := by
  refine .ite (.next .refl) (.ite (.next (.raise ?_ (.setFlag ?_ (.thru State.modP_wf ?_ .refl)))) (.next
      (.thru State.modP_wf ?_ .refl)))
  all_goals simp +contextual

theorem execFaultClear_frame {n : Fin 128} {val : Word} {s : State} :
    NextFrame { groups := [16] } s (execFaultClear n val s) := by
  refine .next (.thru State.faultClear_wf ?_ .refl)
  simp +contextual

theorem execCc_frame {c : Ctx} {a b : Fin 16} {st : Fin 4} {imm : BitVec 16} {s : State} :
    NextFrame { groups := [2, 10, 12, 16], lanes := true } s (execCc c a b st imm s) := by
  refine .next (.thru State.opCurrent_wf ?_ .refl)
  simp +contextual

theorem execCv_frame {c : Ctx} {a b : Fin 16} {st : Fin 4} {imm : BitVec 16} {s : State} :
    NextFrame { groups := [2, 10, 12, 16], lanes := true } s (execCv c a b st imm s) := by
  refine .next (.thru State.opCv_wf ?_ .refl)
  simp +contextual

theorem execCcv_frame {c : Ctx} {a b : Fin 16} {st : Fin 4} {imm : BitVec 16} {s : State} :
    NextFrame { groups := [2, 10, 12, 16], lanes := true } s (execCcv c a b st imm s) := by
  refine .next (.thru State.opCcv_wf ?_ .refl)
  simp +contextual

theorem execCp_frame {c : Ctx} {a b : Fin 16} {st : Fin 4} {imm : BitVec 16} {s : State} :
    NextFrame { groups := [2, 10, 12, 16], lanes := true } s (execCp c a b st imm s) := by
  refine .next (.thru State.opCurrent_wf ?_ .refl)
  simp +contextual

theorem execCr_frame {c : Ctx} {a b : Fin 16} {st : Fin 4} {imm : BitVec 16} {s : State} :
    NextFrame { groups := [2, 10, 12, 16], lanes := true } s (execCr c a b st imm s) := by
  refine .next (.thru State.opCurrent_wf ?_ .refl)
  simp +contextual

theorem execPulse_frame {c : Ctx} {a b : Fin 16} {st : Fin 4} {imm : BitVec 16} {s : State} :
    NextFrame { groups := [2, 10, 12, 16], lanes := true } s (execPulse c a b st imm s) := by
  refine .next (.thru State.opPulse_wf ?_ .refl)
  simp +contextual

theorem execEis_frame {c : Ctx} {a b : Fin 16} {st : Fin 4} {imm : BitVec 16} {s : State} :
    NextFrame { groups := [2, 10, 12, 16], lanes := true } s (execEis c a b st imm s) := by
  refine .next (.thru State.opEis_wf ?_ .refl)
  simp +contextual

theorem execRest_frame {c : Ctx} {a b : Fin 16} {st : Fin 4} {imm : BitVec 16} {s : State} :
    NextFrame { groups := [2, 10, 12, 16], lanes := true } s (execRest c a b st imm s) := by
  refine .next (.thru State.opStill_wf ?_ .refl)
  simp +contextual

theorem execHold_frame {c : Ctx} {a b : Fin 16} {st : Fin 4} {imm : BitVec 16} {s : State} :
    NextFrame { groups := [2, 10, 12, 16], lanes := true } s (execHold c a b st imm s) := by
  refine .next (.thru State.opStill_wf ?_ .refl)
  simp +contextual

theorem execLimv_frame {c : Ctx} {a b : Fin 16} {st : Fin 4} {imm : BitVec 16} {s : State} :
    NextFrame { groups := [2, 10, 12, 16], lanes := true } s (execLimv c a b st imm s) := by
  refine .next (.thru State.opLimv_wf ?_ .refl)
  simp +contextual

theorem execLimi_frame {c : Ctx} {a b : Fin 16} {st : Fin 4} {imm : BitVec 16} {s : State} :
    NextFrame { groups := [2, 10, 12, 16], lanes := true } s (execLimi c a b st imm s) := by
  refine .next (.thru State.opLimi_wf ?_ .refl)
  simp +contextual

theorem execLimt_frame {c : Ctx} {a b : Fin 16} {st : Fin 4} {imm : BitVec 16} {s : State} :
    NextFrame { groups := [2, 10, 12, 16], lanes := true } s (execLimt c a b st imm s) := by
  refine .next (.thru State.opLimt_wf ?_ .refl)
  simp +contextual

theorem execDisarm_frame {c : Ctx} {a b : Fin 16} {st : Fin 4} {imm : BitVec 16} {s : State} :
    NextFrame { groups := [2, 10, 12, 16], lanes := true } s (execDisarm c a b st imm s) := by
  refine .next (.thru State.opDisarm_wf ?_ .refl)
  simp +contextual

theorem execArmt_frame {c : Ctx} {a b : Fin 16} {st : Fin 4} {imm : BitVec 16} {s : State} :
    NextFrame { groups := [2, 10, 12, 16], lanes := true } s (execArmt c a b st imm s) := by
  refine .next (.thru State.opArmt_wf ?_ .refl)
  simp +contextual

theorem execArmv_frame {c : Ctx} {a b : Fin 16} {st : Fin 4} {imm : BitVec 16} {s : State} :
    NextFrame { groups := [2, 10, 12, 16], lanes := true } s (execArmv c a b st imm s) := by
  refine .next (.thru State.opArmv_wf ?_ .refl)
  simp +contextual

theorem execArmi_frame {c : Ctx} {a b : Fin 16} {st : Fin 4} {imm : BitVec 16} {s : State} :
    NextFrame { groups := [2, 10, 12, 16], lanes := true } s (execArmi c a b st imm s) := by
  refine .next (.thru State.opArmi_wf ?_ .refl)
  simp +contextual

theorem execArmtap_frame {c : Ctx} {a b : Fin 16} {st : Fin 4} {imm : BitVec 16} {s : State} :
    NextFrame { groups := [2, 10, 12, 16], lanes := true } s (execArmtap c a b st imm s) := by
  refine .next (.thru State.opArmtap_wf ?_ .refl)
  simp +contextual

theorem execArmq_frame {c : Ctx} {a b : Fin 16} {st : Fin 4} {imm : BitVec 16} {s : State} :
    NextFrame { groups := [2, 10, 12, 16], lanes := true } s (execArmq c a b st imm s) := by
  refine .next (.thru State.opArmq_wf ?_ .refl)
  simp +contextual

theorem execArme_frame {c : Ctx} {a b : Fin 16} {st : Fin 4} {imm : BitVec 16} {s : State} :
    NextFrame { groups := [2, 10, 12, 16], lanes := true } s (execArme c a b st imm s) := by
  refine .next (.thru State.opArme_wf ?_ .refl)
  simp +contextual

theorem execArmdv_frame {c : Ctx} {a b : Fin 16} {st : Fin 4} {imm : BitVec 16} {s : State} :
    NextFrame { groups := [2, 10, 12, 16], lanes := true } s (execArmdv c a b st imm s) := by
  refine .next (.thru State.opArmdv_wf ?_ .refl)
  simp +contextual

theorem execArmtc_frame {c : Ctx} {a b : Fin 16} {st : Fin 4} {imm : BitVec 16} {s : State} :
    NextFrame { groups := [2, 10, 12, 16], lanes := true } s (execArmtc c a b st imm s) := by
  refine .next (.thru State.opArmtc_wf ?_ .refl)
  simp +contextual

theorem execWait_frame {c : Ctx} {a b : Fin 16} {st : Fin 4} {imm : BitVec 16} {s : State} :
    NextFrame { groups := [2, 10, 12, 16], lanes := true } s (execWait c a b st imm s) := by
  refine .next (.thru State.opWait_wf ?_ .refl)
  simp +contextual

theorem execLdi_frame {c : Ctx} {a b : Fin 16} {st : Fin 4} {imm : BitVec 16} {lit : Word} {s : State} :
    NextFrame { groups := [2, 10, 12, 16], lanes := true } s (execLdi c a b st imm lit s) := by
  refine .next (.thru State.opLdiLit_wf ?_ .refl)
  simp +contextual

theorem execMov_frame {c : Ctx} {a b : Fin 16} {st : Fin 4} {imm : BitVec 16} {s : State} :
    NextFrame { groups := [2, 10, 12, 16], lanes := true } s (execMov c a b st imm s) := by
  refine .next (.thru State.opMov_wf ?_ .refl)
  simp +contextual

theorem execGetm_frame {c : Ctx} {a b : Fin 16} {st : Fin 4} {imm : BitVec 16} {s : State} :
    NextFrame { groups := [2, 10, 12, 16], lanes := true } s (execGetm c a b st imm s) := by
  refine .next (.thru State.opGetm_wf ?_ .refl)
  simp +contextual

theorem execPutp_frame {c : Ctx} {a b : Fin 16} {st : Fin 4} {imm : BitVec 16} {s : State} :
    NextFrame { groups := [2, 10, 12, 16], lanes := true } s (execPutp c a b st imm s) := by
  refine .next (.thru State.opPutp_wf ?_ .refl)
  simp +contextual

theorem execAdd_frame {c : Ctx} {a b : Fin 16} {st : Fin 4} {imm : BitVec 16} {s : State} :
    NextFrame { groups := [2, 10, 12, 16], lanes := true } s (execAdd c a b st imm s) := by
  refine .next (.thru State.opAdd_wf ?_ .refl)
  simp +contextual

theorem execSub_frame {c : Ctx} {a b : Fin 16} {st : Fin 4} {imm : BitVec 16} {s : State} :
    NextFrame { groups := [2, 10, 12, 16], lanes := true } s (execSub c a b st imm s) := by
  refine .next (.thru State.opSub_wf ?_ .refl)
  simp +contextual

theorem execMulsh_frame {c : Ctx} {a b : Fin 16} {st : Fin 4} {imm : BitVec 16} {s : State} :
    NextFrame { groups := [2, 10, 12, 16], lanes := true } s (execMulsh c a b st imm s) := by
  refine .next (.thru State.opMulsh_wf ?_ .refl)
  simp +contextual

theorem execCmp_frame {c : Ctx} {a b : Fin 16} {st : Fin 4} {imm : BitVec 16} {s : State} :
    NextFrame { groups := [2, 10, 12, 16], lanes := true } s (execCmp c a b st imm s) := by
  refine .next (.thru State.opCmp_wf ?_ .refl)
  simp +contextual

theorem execBr_frame {c : Ctx} {a b : Fin 16} {st : Fin 4} {imm : BitVec 16} {s : State} :
    NextFrame { groups := [2, 10, 12, 16], lanes := true } s (execBr c a b st imm s) := by
  refine .next (.thru State.opBr_wf ?_ .refl)
  simp +contextual

theorem execLoop_frame {c : Ctx} {a b : Fin 16} {st : Fin 4} {imm : BitVec 16} {s : State} :
    NextFrame { groups := [2, 10, 12, 16], lanes := true } s (execLoop c a b st imm s) := by
  refine .next (.thru State.opLoop_wf ?_ .refl)
  simp +contextual

theorem execCall_frame {c : Ctx} {a b : Fin 16} {st : Fin 4} {imm : BitVec 16} {s : State} :
    NextFrame { groups := [2, 10, 12, 16], lanes := true } s (execCall c a b st imm s) := by
  refine .next (.thru State.opCall_wf ?_ .refl)
  simp +contextual

theorem execRet_frame {c : Ctx} {a b : Fin 16} {st : Fin 4} {imm : BitVec 16} {s : State} :
    NextFrame { groups := [2, 10, 12, 16], lanes := true } s (execRet c a b st imm s) := by
  refine .next (.thru State.opRet_wf ?_ .refl)
  simp +contextual

theorem execNop_frame {c : Ctx} {a b : Fin 16} {st : Fin 4} {imm : BitVec 16} {s : State} :
    NextFrame { groups := [2, 10, 12, 16], lanes := true } s (execNop c a b st imm s) := by
  refine .next (.thru State.opNop_wf ?_ .refl)
  simp +contextual

theorem execStop_frame {c : Ctx} {a b : Fin 16} {st : Fin 4} {imm : BitVec 16} {s : State} :
    NextFrame { groups := [2, 10, 12, 16], lanes := true } s (execStop c a b st imm s) := by
  refine .next (.thru State.opStop_wf ?_ .refl)
  simp +contextual

theorem execCapdc_frame {c : Ctx} {a b : Fin 16} {st : Fin 4} {imm : BitVec 16} {s : State} :
    NextFrame { groups := [2, 10, 12, 16], lanes := true } s (execCapdc c a b st imm s) := by
  refine .next (.thru State.opCapdc_wf ?_ .refl)
  simp +contextual

theorem execEisrun_frame {c : Ctx} {a b : Fin 16} {st : Fin 4} {imm : BitVec 16} {s : State} :
    NextFrame { groups := [2, 10, 12, 16], lanes := true } s (execEisrun c a b st imm s) := by
  refine .next (.thru State.opEisrun_wf ?_ .refl)
  simp +contextual

theorem execEmit_frame {c : Ctx} {a b : Fin 16} {st : Fin 4} {imm : BitVec 16} {s : State} :
    NextFrame { groups := [2, 10, 12, 16], lanes := true } s (execEmit c a b st imm s) := by
  refine .next (.thru State.opEmit_wf ?_ .refl)
  simp +contextual

theorem execBar_frame {c : Ctx} {a b : Fin 16} {st : Fin 4} {imm : BitVec 16} {s : State} :
    NextFrame { groups := [2, 10, 12, 16], lanes := true } s (execBar c a b st imm s) := by
  refine .next (.thru State.opBar_wf ?_ .refl)
  simp +contextual

theorem execPrio_frame {c : Ctx} {a b : Fin 16} {st : Fin 4} {imm : BitVec 16} {s : State} :
    NextFrame { groups := [2, 10, 12, 16], lanes := true } s (execPrio c a b st imm s) := by
  refine .next (.thru State.opPrio_wf ?_ .refl)
  simp +contextual

theorem execSig_frame {c : Ctx} {a b : Fin 16} {st : Fin 4} {imm : BitVec 16} {s : State} :
    NextFrame { groups := [2, 10, 12, 16], lanes := true } s (execSig c a b st imm s) := by
  refine .next (.thru State.opSig_wf ?_ .refl)
  simp +contextual

theorem execSwappt_frame {c : Ctx} {a b : Fin 16} {st : Fin 4} {imm : BitVec 16} {s : State} :
    NextFrame { groups := [2, 10, 12, 16], lanes := true } s (execSwappt c a b st imm s) := by
  refine .next (.thru State.opSwappt_wf ?_ .refl)
  simp +contextual

theorem execBarrierRelease_frame {b : Fin 16} {s : State} : NextFrame {} s (execBarrierRelease b s) := by
  refine .ite (.next (.thru State.barEnd_wf ?_ .refl)) (.next .refl)
  simp +contextual

theorem execBarrierTimeout_frame {b : Fin 16} {s : State} : NextFrame {} s (execBarrierTimeout b s) := by
  refine .ite (.next (.thru State.barEnd_wf ?_ .refl)) (.next .refl)
  simp +contextual

theorem execLanternSlotStart_frame {refs : LaneRefs} {s : State} :
    NextFrame { groups := [12, 16], lanes := true } s (execLanternSlotStart refs s) := by
  unfold execLanternSlotStart
  refine .ite ?_ (.ite (.ite ?_ ?_) (.next .refl))
  · refine .next (.thru State.refStart_wf ?_ (.thru State.laneTake_wf ?_ .refl))
    all_goals simp +contextual
  · refine .next (.thru State.laneOff_wf ?_ (.thru State.laneTake_wf ?_ (.thru State.endSlot_wf ?_ .refl)))
    all_goals simp +contextual
  split
  · refine .next (.thru State.refStart_wf ?_ (.thru State.beginSlot_wf ?_ (.thru State.laneTake_wf ?_ (.thru State.endSlot_wf ?_
        .refl))))
    all_goals simp +contextual
  · refine .next (.setFlag ?_ (.thru State.laneOff_wf ?_ (.thru State.laneTake_wf ?_ (.thru State.endSlot_wf ?_ .refl))))
    all_goals simp +contextual

theorem execLanternConnect_frame {s : State} : NextFrame { groups := [12, 16], lanes := true } s (execLanternConnect s) := by
  unfold execLanternConnect
  refine .ite ?_ ?_
  · refine .next (.fset ?_ (.thru State.crossbar_wf ?_ (.update ?_ .refl)))
    all_goals simp +contextual
  split
  · refine .ite (.next (.fset ?_ (.thru State.tourEnds_wf ?_ (.update ?_ (.thru State.crossbar_wf ?_ .refl))))) (.next .refl)
    all_goals simp +contextual
  · exact .next .refl

theorem execLanternResult_frame {s : State} :
    NextFrame { groups := [2, 10, 12, 16], lanes := true } s (execLanternResult s) := by
  unfold execLanternResult
  split
  · exact .next .refl
  · refine .ite ?_ (.next .refl)
    split
    · refine .next (.ite (.thru State.laneSuspect_wf ?_ (.ite (.thru State.laneAgain_wf ?_ (.ite (.thru State.laneCount_wf ?_
          (.thru State.laneReport_wf ?_ (.thru State.laneKeep_wf ?_ .refl))) (.thru State.laneReport_wf ?_
          (.thru State.laneKeep_wf ?_ .refl)))) (.thru State.tourEnds_wf ?_ (.ite (.thru State.laneCount_wf ?_
          (.thru State.laneReport_wf ?_ (.thru State.laneKeep_wf ?_ .refl))) (.thru State.laneReport_wf ?_
          (.thru State.laneKeep_wf ?_ .refl)))))) (.ite (.thru State.laneAgain_wf ?_ (.ite (.thru State.laneCount_wf ?_
          (.thru State.laneReport_wf ?_ (.thru State.laneKeep_wf ?_ .refl))) (.thru State.laneReport_wf ?_
          (.thru State.laneKeep_wf ?_ .refl)))) (.thru State.tourEnds_wf ?_ (.ite (.thru State.laneCount_wf ?_
          (.thru State.laneReport_wf ?_ (.thru State.laneKeep_wf ?_ .refl))) (.thru State.laneReport_wf ?_
          (.thru State.laneKeep_wf ?_ .refl))))))
      all_goals simp +contextual

/-- The corrections of a visit, their history and the counters of the lane; the channel's own LCOM bits where one is big. -/
theorem State.laneApply_frame {s : State} : Frame { groups := [12, 16], store := true, lanes := true } s s.laneApply := by
  unfold State.laneApply
  extract_lets n _ s0 s1 due _ s2 s3
  have h0 : Frame { groups := [12, 16], store := true, lanes := true } s s0 := .update ⟨rfl, nofun⟩ .refl
  have h1 : Frame { groups := [12, 16], store := true, lanes := true } s s1 := by
    refine h0.foldlOn id fun u f => .thru State.histFix_wf ?_ (.thru State.commitFix_wf ?_ .refl)
    all_goals simp
  have h2 : Frame { groups := [12, 16], store := true, lanes := true } s s2 := by
    refine .thru State.laneCount_wf ?_ (.update ⟨rfl, nofun⟩ h1)
    simp +contextual [s2]
  refine .ite (.ite (.setFlag ?_ (.setFlag ?_ h2)) (.setFlag ?_ h2)) h2
  all_goals simp

theorem execLanternCommit_frame {s : State} :
    NextFrame { groups := [12, 16], store := true, lanes := true } s (execLanternCommit s) := by
  refine .ite (.next .refl) (.ite (.next (.thru State.laneDropped_wf ?_ .refl)) (.next State.laneApply_frame))
  simp +contextual

theorem execAdoptEnable_frame {n : Fin 128} {s : State} : NextFrame { groups := [12] } s (execAdoptEnable n s) := by
  refine .next (.thru State.adoptEnable_wf ?_ .refl)
  simp +contextual

theorem execAdoptActive_frame {s : State} : NextFrame { groups := [2, 10, 12] } s (execAdoptActive s) := by
  refine .ite (.next (.ite (.fset ?_ (.setFlag ?_ (.setFlag ?_ (.update ?_ .refl)))) (.raise ?_ (.fset ?_ (.setFlag ?_
      (.setFlag ?_ (.update ?_ .refl))))))) (.next .refl)
  all_goals simp +contextual

theorem execAdoptRelease_frame {s : State} : NextFrame { groups := [2, 10, 12] } s (execAdoptRelease s) := by
  refine .next (.thru State.adoptRelease_wf ?_ .refl)
  simp +contextual

theorem execLbistSlice_frame {pass : Bool} {s : State} : NextFrame { groups := [12] } s (execLbistSlice pass s) := by
  unfold execLbistSlice
  split
  · refine .ite (.ite (.next (.update ?_ (.thru State.noteTest_wf ?_ (.update ?_ .refl)))) (.next (.thru State.startLbist_wf ?_
        (.thru State.noteTest_wf ?_ (.update ?_ .refl))))) (.next .refl)
    all_goals simp +contextual
  · exact .next .refl

theorem execFullLbistDone_frame {pass : Bool} {s : State} :
    NextFrame { groups := [2, 10, 12] } s (execFullLbistDone pass s) := by
  unfold execFullLbistDone
  split
  · refine .ite (.ite (.next (.fset ?_ (.fset ?_ (.update ?_ (.thru State.noteTest_wf ?_ .refl))))) (.next
        (.thru State.retire_wf ?_ (.thru State.noteTest_wf ?_ .refl)))) (.next .refl)
    all_goals simp +contextual
  · exact .next .refl

theorem execSpareAcquired_frame {s : State} : NextFrame { groups := [12] } s (execSpareAcquired s) := by
  refine .ite (.next (.fset ?_ (.update ?_ .refl))) (.next .refl)
  all_goals simp +contextual

theorem execSpareTakeover_frame {s : State} : NextFrame { groups := [12, 16] } s (execSpareTakeover s) := by
  unfold execSpareTakeover
  split
  · refine .next (.incSat ?_ (.thru State.handOver_wf ?_ (.update ?_ (.each .refl fun _ _ => .ite (.fset ?_ .refl) .refl))))
    all_goals simp +contextual
  · exact .next .refl

theorem execSpareRotation_frame {s : State} : NextFrame { groups := [12] } s (execSpareRotation s) := by
  unfold execSpareRotation
  split
  · refine .ite (.next (.thru State.handOver_wf ?_ .refl)) (.next .refl)
    simp +contextual
  · exact .next .refl

theorem execRotnow_frame {s : State} : NextFrame {} s (execRotnow s) := by
  refine .next (.thru State.rotNow_wf ?_ .refl)
  simp +contextual

theorem execRetgo_frame {k : Fin 32} {s : State} : NextFrame { groups := [2, 10, 12] } s (execRetgo k s) := by
  refine .next (.thru State.retGo_wf ?_ .refl)
  simp +contextual

theorem execDcirCapture_frame {n : Fin 128} {s : State} :
    NextFrame { groups := [16], lanes := true } s (execDcirCapture n s) := by
  refine .ite (.next (.thru State.dcirReady_wf ?_ .refl)) (.next .refl)
  simp +contextual

theorem execEisLockinDone_frame {n : Fin 128} {s : State} :
    NextFrame { groups := [12, 16], lanes := true } s (execEisLockinDone n s) := by
  refine .next (.thru State.eisReady_wf ?_ .refl)
  simp +contextual

theorem execDvdtWindowResult_frame {n : Fin 128} {s : State} :
    NextFrame { groups := [16], lanes := true } s (execDvdtWindowResult n s) := by
  unfold execDvdtWindowResult
  split
  · refine .ite ?_ (.next .refl)
    dsimp only
    split
    · refine .next (.setWord ?_ (.thru State.modX_wf ?_ (.thru State.modK_wf ?_ (.thru State.modK_wf ?_ .refl))))
      all_goals simp +contextual
    · refine .next (.thru State.modK_wf ?_ .refl)
      simp +contextual
  · exact .next .refl

theorem execRegressionPost_frame {n : Fin 128} {s : State} :
    NextFrame { groups := [16], lanes := true } s (execRegressionPost n s) := by
  refine .ite (.next (.thru State.ocvPost_wf ?_ .refl)) (.next .refl)
  simp +contextual

theorem execAgingSample_frame {s : State} : NextFrame { groups := [16], lanes := true } s (execAgingSample s) := by
  refine .next (.each .refl fun n t => ?_)
  dsimp only
  split
  · refine .ite (.thru State.ocvSample_wf ?_ (.thru State.modM_wf ?_ .refl)) .refl
    all_goals simp +contextual
  · exact .refl

theorem execCounterWrite_frame {n : Fin 128} {energy : Bool} {val : BitVec 64} {s : State} :
    NextFrame { groups := [16], lanes := true } s (execCounterWrite n energy val s) := by
  refine .next (.thru State.counterWrite_wf ?_ .refl)
  simp +contextual

theorem execDegradeExpiry_frame {n : Fin 128} {s : State} :
    NextFrame { groups := [2, 10, 16], lanes := true } s (execDegradeExpiry n s) := by
  unfold execDegradeExpiry
  split
  · split
    · refine .ite (.next (.thru State.degExpire_wf ?_ .refl)) (.next .refl)
      simp +contextual
    · exact .next .refl

theorem execWaitTimedExpiry_frame {c : Ctx} {s : State} :
    NextFrame { groups := [12, 16], lanes := true } s (execWaitTimedExpiry c s) := by
  refine .ite (.next (.thru State.timedReady_wf ?_ .refl)) (.next .refl)
  simp +contextual

theorem execGapHold_frame {n : Fin 128} {s : State} : NextFrame { groups := [16], lanes := true } s (execGapHold n s) := by
  refine .ite (.next (.thru State.gapHold_wf ?_ .refl)) (.next .refl)
  simp +contextual

theorem State.noteMismatch_frame {a : Scope} {s : State} {n : Fin 128} : Frame a s (s.noteMismatch n) :=
  .ite (.update ⟨rfl, fun _ => rfl⟩ .refl) .refl

theorem execChannelSlot_frame {c : Ctx} {shadow : Shadow} {s : State} :
    NextFrame { groups := [2, 10, 12, 16], lanes := true } s (execChannelSlot c shadow s) := by
  unfold execChannelSlot
  refine .ite (.next .refl) ?_
  split
  · refine .ite (.next .refl) ?_
    extract_lets s1
    have h1 : Frame { groups := [2, 10, 12, 16], lanes := true } s s1 := by
      refine .thru State.dueSlot_wf ?_ (.each .refl fun _ _ => .thru State.dueSlot_wf ?_ .refl)
      all_goals simp +contextual [s1]
    split
    · exact .next h1
    · exact .next (h1.trans State.noteMismatch_frame)
  · refine .next (.thru State.dueShelf_wf ?_ .refl)
    simp +contextual

theorem execStepStoreWrite_frame {addr : Nat} {vals : List Word} {s : State} :
    NextFrame { store := true } s (execStepStoreWrite addr vals s) := by
  refine .next (.thru State.storeWrite_wf ?_ .refl)
  simp +contextual

theorem execProgWrite_frame {n : Fin 128} {val : Word} {s : State} :
    NextFrame { groups := [16] } s (execProgWrite n val s) := by
  refine .next (.thru State.progWriteReg_wf ?_ .refl)
  simp +contextual

theorem execHostStart_frame {n : Fin 128} {s : State} : NextFrame { lanes := true } s (execHostStart n s) := by
  refine .next (.thru State.hostStart_wf ?_ .refl)
  simp +contextual

theorem execHostStop_frame {n : Fin 128} {s : State} : NextFrame { lanes := true } s (execHostStop n s) := by
  refine .next (.thru State.hostStop_wf ?_ .refl)
  simp +contextual

theorem execShelfStart_frame {s : State} : NextFrame { groups := [12, 16], lanes := true } s (execShelfStart s) := by
  refine .next (.thru State.shelfStart_wf ?_ .refl)
  simp +contextual

theorem execShelfStop_frame {s : State} : NextFrame { groups := [12] } s (execShelfStop s) := by
  refine .next (.answer (.thru State.stopShelfProgram_wf ?_ .refl))
  simp +contextual

theorem execLoopPeriod_frame {k : Fin 16} {inp : LoopIn} {s : State} :
    NextFrame { groups := [2, 7, 10] } s (execLoopPeriod k inp s) := by
  refine .ite (.next .refl) (.ite (.next (.thru State.alIdle_wf ?_ (.thru State.modAl_wf ?_ (.thru State.alTake_wf ?_ .refl))))
      (.ite (.ite (.next (.thru State.alRun_wf ?_ (.thru State.alCount_wf ?_ (.thru State.alSetpoint_wf ?_ (.setWord ?_
      (.thru State.modAl_wf ?_ (.thru State.alTake_wf ?_ .refl))))))) (.next (.thru State.alOut_wf ?_ (.thru State.alCount_wf ?_
      (.thru State.alSetpoint_wf ?_ (.setWord ?_ (.thru State.modAl_wf ?_ (.thru State.alTake_wf ?_ .refl)))))))) (.ite (.next
      (.thru State.alFail_wf ?_ (.thru State.alCount_wf ?_ (.thru State.alSetpoint_wf ?_ (.setWord ?_ (.thru State.modAl_wf ?_
      (.thru State.alTake_wf ?_ .refl))))))) (.next (.thru State.alRun_wf ?_ (.thru State.alCount_wf ?_
      (.thru State.alSetpoint_wf ?_ (.setWord ?_ (.thru State.modAl_wf ?_ (.thru State.alTake_wf ?_ .refl))))))))))
  all_goals simp +contextual

theorem execSetpointLost_frame {k : Fin 16} {s : State} : NextFrame { groups := [2, 7, 10] } s (execSetpointLost k s) := by
  refine .ite (.next (.raise ?_ (.thru State.modAl_wf ?_ (.setFlag ?_ .refl)))) (.next .refl)
  all_goals simp +contextual

theorem execAutotuneStart_frame {k : Fin 16} {s : State} : NextFrame { groups := [7] } s (execAutotuneStart k s) := by
  refine .next (.thru State.tuneStart_wf ?_ .refl)
  simp +contextual

theorem execAutotuneAbort_frame {k : Fin 16} {s : State} : NextFrame { groups := [2, 7, 10] } s (execAutotuneAbort k s) := by
  refine .next (.answer (.thru State.tuneAbort_wf ?_ .refl))
  simp +contextual

theorem execAutotuneTimeout_frame {k : Fin 16} {s : State} :
    NextFrame { groups := [2, 7, 10] } s (execAutotuneTimeout k s) := by
  unfold execAutotuneTimeout
  split
  · refine .ite (.next (.thru State.tuneResume_wf ?_ (.thru State.tuneFail_wf ?_ .refl))) (.next .refl)
    all_goals simp +contextual
  · exact .next .refl

theorem execClockJudgeWindow_frame {c : Clock} {count : Nat} {s : State} :
    NextFrame { groups := [1, 2, 10] } s (execClockJudgeWindow c count s) := by
  refine .ite (.next .refl) (.ite (.next (.thru State.clockStable_wf ?_ .refl)) (.next (.thru State.setJudge_wf ?_ .refl)))
  all_goals simp +contextual

theorem execClockJudgeDeadline_frame {c : Clock} {s : State} :
    NextFrame { groups := [1, 2, 10] } s (execClockJudgeDeadline c s) := by
  unfold execClockJudgeDeadline
  dsimp only
  split
  · refine .ite (.next (.thru State.judgeFailed_wf ?_ (.thru State.setJudge_wf ?_ .refl))) (.next .refl)
    all_goals simp +contextual
  · exact .next .refl

theorem execXhfLoss_frame {x : XhfIn} {s : State} :
    NextFrame { groups := [0, 1, 2, 3, 5, 7, 9, 10, 12, 16], store := true, lanes := true } s (execXhfLoss x s) := by
  refine .ite (.next (.thru State.xhfLoss_wf ?_ (.ite (.thru State.axFloor_wf ?_ (.update ?_ .refl)) (.update ?_ .refl)))) (.ite
      (.next (.thru State.enterSafe_wf ?_ (.ite (.thru State.startJudge_wf ?_ (.ite (.thru State.axFloor_wf ?_
      (.update ?_ .refl)) (.update ?_ .refl))) (.ite (.thru State.axFloor_wf ?_ (.update ?_ .refl)) (.update ?_ .refl)))))
      (.next (.ite (.thru State.startJudge_wf ?_ (.ite (.thru State.axFloor_wf ?_ (.update ?_ .refl)) (.update ?_ .refl))) (.ite
      (.thru State.axFloor_wf ?_ (.update ?_ .refl)) (.update ?_ .refl)))))
  all_goals simp +contextual

theorem execTrimMeasurement_frame {count : Nat} {s : State} :
    NextFrame { groups := [1, 2, 10] } s (execTrimMeasurement count s) := by
  refine .ite (.next .refl) (.ite (.next (.thru State.trimTake_wf ?_ .refl)) (.ite (.next (.raise ?_ (.setFlag ?_ (.fset ?_
      (.thru State.trimTake_wf ?_ .refl))))) (.next (.fset ?_ (.thru State.trimTake_wf ?_ .refl)))))
  all_goals simp +contextual

theorem execCompatVoutPoll_frame {ans : Option (Byte × BitVec 16)} {s : State} :
    NextFrame { groups := [0, 1, 2, 3, 10] } s (execCompatVoutPoll ans s) := by
  unfold execCompatVoutPoll
  split
  · exact .next .refl
  · refine .ite (.next .refl) ?_
    split
    · refine .next (.thru State.compatFail_wf ?_ .refl)
      simp +contextual
    · refine .ite (.next (.thru State.compatFail_wf ?_ .refl)) (.ite (.ite (.next (.update ?_ .refl)) (.next
          (.thru State.compatDone_wf ?_ .refl))) (.next (.update ?_ .refl)))
      all_goals simp +contextual

theorem execCompatStepTimeout_frame {s : State} : NextFrame { groups := [0, 1, 2, 10] } s (execCompatStepTimeout s) := by
  unfold execCompatStepTimeout
  split
  · exact .next .refl
  · refine .ite (.next (.thru State.compatFail_wf ?_ .refl)) (.next .refl)
    simp +contextual

theorem execCompatRetry_frame {s : State} : NextFrame {} s (execCompatRetry s) := by
  unfold execCompatRetry
  split
  · exact .next .refl
  · split
    · refine .ite (.next (.update ?_ .refl)) (.next .refl)
      simp +contextual
    · exact .next .refl

theorem execTimeSet_frame {val : Word} {s : State} : NextFrame { groups := [1] } s (execTimeSet val s) := by
  refine .next (.thru State.timeSet_wf ?_ .refl)
  simp +contextual

theorem execPpsEdge_frame {t : Nat} {s : State} : NextFrame { groups := [1, 2, 10] } s (execPpsEdge t s) := by
  refine .ite (.next (.update ?_ .refl)) (.ite (.next (.update ?_ .refl)) (.ite (.next (.update ?_
      (.thru State.ppsOutside_wf ?_ .refl))) (.next (.update ?_ (.thru State.ppsQualified_wf ?_ .refl)))))
  all_goals simp +contextual

theorem execPpsLost_frame {s : State} : NextFrame { groups := [1, 2, 10] } s (execPpsLost s) := by
  unfold execPpsLost
  split
  · refine .ite (.next (.thru State.toHoldover_wf ?_ .refl)) (.next .refl)
    simp +contextual
  · exact .next .refl

theorem execPpsSlewEnd_frame {s : State} : NextFrame { groups := [1] } s (execPpsSlewEnd s) := by
  unfold execPpsSlewEnd
  split
  · refine .ite (.next (.thru State.slewEnd_wf ?_ .refl)) (.next .refl)
    simp +contextual
  · exact .next .refl

theorem execHoldoverLimit_frame {s : State} : NextFrame { groups := [1, 2, 10] } s (execHoldoverLimit s) := by
  refine .ite (.next (.raise ?_ (.setFlag ?_ (.update ?_ .refl)))) (.next .refl)
  all_goals simp +contextual

theorem execPpsDisable_frame {s : State} : NextFrame { groups := [1] } s (execPpsDisable s) := by
  refine .next (.answer (.thru State.ppsFree_wf ?_ (.setFlag ?_ .refl)))
  all_goals simp +contextual

theorem execVaultRecordWrite_frame {s : State} : NextFrame { groups := [10], store := true } s (execVaultRecordWrite s) := by
  refine .next (.thru State.vaultTake_wf ?_ .refl)
  simp +contextual

theorem execVaultClear_frame {s : State} : NextFrame { groups := [10] } s (execVaultClear s) := by
  refine .next (.thru State.vaultClear_wf ?_ .refl)
  simp +contextual

theorem execVaultClearDone_frame {s : State} : NextFrame { groups := [10], store := true } s (execVaultClearDone s) := by
  refine .ite (.next (.setFlag ?_ (.each .refl fun _ _ => .thru State.slotVoid_wf ?_ .refl))) (.next .refl)
  all_goals simp +contextual

theorem execAtticQueueDrain_frame {s : State} : NextFrame { groups := [2, 10] } s (execAtticQueueDrain s) := by
  refine .ite (.next (.thru State.atticDrain_wf ?_ .refl)) (.next .refl)
  simp +contextual

theorem execCellarHostTrigger_frame {s : State} : NextFrame { groups := [2, 10] } s (execCellarHostTrigger s) := by
  refine .next (.answer (.thru State.trigger_wf ?_ .refl))
  simp +contextual

theorem execCellarCaptureClose_frame {s : State} :
    NextFrame { groups := [10], store := true } s (execCellarCaptureClose s) := by
  unfold execCellarCaptureClose
  split
  · refine .ite (.next (.setFlag ?_ (.setFlag ?_ (.setFlag ?_ (.setFlag ?_ (.ite (.thru State.putMemWord_wf ?_ (.update ?_
        (.thru State.snapAtT_wf ?_ .refl))) (.update ?_ (.thru State.snapAtT_wf ?_ .refl)))))))) (.next .refl)
    all_goals simp +contextual
  · exact .next .refl

theorem execCellarSlotWritten_frame {s : State} :
    NextFrame { groups := [2, 10], store := true } s (execCellarSlotWritten s) := by
  unfold execCellarSlotWritten
  split
  · refine .ite (.next (.thru State.slotWritten_wf ?_ .refl)) (.next .refl)
    simp +contextual
  · exact .next .refl

theorem execCellarSlotRelease_frame {sl : Fin 4} {s : State} : NextFrame { groups := [10] } s (execCellarSlotRelease sl s) := by
  refine .next (.thru State.slotRelease_wf ?_ .refl)
  simp +contextual

theorem execSessionTimeout_frame {k : Fin 8} {s : State} :
    NextFrame { groups := [0, 2, 9, 10] } s (execSessionTimeout k s) := by
  refine .ite (.next (.thru State.closeSess_wf ?_ .refl)) (.next .refl)
  simp +contextual

theorem execAuthLockoutEnd_frame {s : State} : NextFrame { groups := [9] } s (execAuthLockoutEnd s) := by
  unfold execAuthLockoutEnd
  split
  · refine .ite (.next (.setFlag ?_ (.update ?_ .refl))) (.next .refl)
    all_goals simp +contextual
  · exact .next .refl

theorem execRateSwitch_frame {s : State} : NextFrame { groups := [2, 9, 10] } s (execRateSwitch s) := by
  refine .ite (.next (.thru State.rateSwitch_wf ?_ .refl)) (.next .refl)
  simp +contextual

theorem execRateSwitchDone_frame {s : State} : NextFrame { groups := [2, 9, 10] } s (execRateSwitchDone s) := by
  refine .ite (.next (.ite (.thru State.rateExit_wf ?_ (.thru State.modRate_wf ?_ (.update ?_ (.fset ?_ (.raise ?_
      (.thru State.rateFrames_wf ?_ (.thru State.linkTo_wf ?_ .refl))))))) (.thru State.modRate_wf ?_ (.update ?_ (.fset ?_
      (.raise ?_ (.thru State.rateFrames_wf ?_ (.thru State.linkTo_wf ?_ .refl)))))))) (.next .refl)
  all_goals simp +contextual

theorem execRateSwitchTimeout_frame {s : State} : NextFrame { groups := [2, 9, 10] } s (execRateSwitchTimeout s) := by
  refine .ite (.next (.raise ?_ (.thru State.decDue_wf ?_ (.thru State.modRate_wf ?_ (.fset ?_ (.setFlag ?_ (.fset ?_
      (.fset ?_ .refl)))))))) (.next .refl)
  all_goals simp +contextual

theorem execProposeResend_frame {s : State} : NextFrame {} s (execProposeResend s) := by
  refine .ite (.next (.thru State.modRate_wf ?_ (.thru State.rateFrames_wf ?_ .refl))) (.next .refl)
  all_goals simp +contextual

theorem execRateControlFrame_frame {x : Sess} {op : Fin 256} {s : State} :
    NextFrame { groups := [9] } s (execRateControlFrame x op s) := by
  unfold execRateControlFrame
  split
  · refine .next (.thru State.rateControl_wf ?_ .refl)
    simp +contextual
  · exact .next .refl

theorem execLinkChange_frame {p : Fin 2} {up : Bool} {s : State} :
    NextFrame { groups := [2, 9, 10] } s (execLinkChange p up s) := by
  refine .ite (.next .refl) (.next (.thru State.decDue_wf ?_ (.thru State.linkTo_wf ?_ .refl)))
  all_goals simp +contextual

theorem execEventFrameSend_frame {k : Fin 9} {s : State} : NextFrame {} s (execEventFrameSend k s) := by
  unfold execEventFrameSend
  dsimp only
  refine .ite (.next .refl) ?_
  split
  · refine .next (.thru State.sendEvent_wf ?_ (.thru State.modSess_wf ?_ .refl))
    all_goals simp +contextual
  · exact .next .refl

theorem execEventFrameResend_frame {k : Fin 9} {s : State} : NextFrame {} s (execEventFrameResend k s) := by
  refine .next (.each (.thru State.modSess_wf ?_ .refl) fun _ _ => .thru State.sendEvent_wf ?_ .refl)
  all_goals simp +contextual

theorem RecFill.take_frame {a : Scope} {f : RecFill} {n : Fin 128} {seq : Nat} {rel sel : Bool} (ha : a.lanes = true) :
    Frame a f.st (f.take n seq rel sel).st := by
  have h : ∀ g : ChCtx → ChCtx, Frame a f.st (f.st.modX n g) := fun g => by
    refine .thru State.modX_wf ?_ .refl
    simp [ha]
  unfold RecFill.take
  split
  · exact h fun x => { x with recQ := [] }
  · exact .ite .refl (h _)

theorem RecFill.takeShelf_frame {a : Scope} {f : RecFill} {seq : Nat} {rel : Bool} : Frame a f.st (f.takeShelf seq rel).st :=
  .update ⟨rfl, fun _ => rfl⟩ .refl

theorem execRecordFrameSend_frame {s : State} : NextFrame { groups := [9], lanes := true } s (execRecordFrameSend s) := by
  unfold execRecordFrameSend
  split
  · refine .ite ?_ (.next .refl)
    extract_lets seq rel gs f g _ _ s1 body _ s2
    have hf : Frame { groups := [9], lanes := true } s f.st := .foldlOn RecFill.st .refl fun _ _ => RecFill.take_frame rfl
    have h1 : Frame { groups := [9], lanes := true } s s1 := .update ⟨rfl, fun _ => rfl⟩ (hf.trans RecFill.takeShelf_frame)
    have h2 : Frame { groups := [9], lanes := true } s s2 := .ite (.update ⟨rfl, fun _ => rfl⟩ h1) h1
    refine .ite (.next h1) (.next (.thru State.sendStream_wf ?_ h2))
    simp +contextual
  · exact .next .refl

theorem execRecordFrameResend_frame {s : State} : NextFrame {} s (execRecordFrameResend s) := by
  refine .ite (.next (.each (.update ?_ .refl) fun _ _ => .each .refl fun _ _ => .thru State.transmit_wf ?_ .refl))
      (.next .refl)
  all_goals simp +contextual

theorem execStreamFrameSend_frame {st : Fin 5} {md : Fin 258} {raw : List Byte} {s : State} :
    NextFrame { groups := [9] } s (execStreamFrameSend st md raw s) := by
  unfold execStreamFrameSend
  refine .ite (.next .refl) ?_
  split
  · refine .next (.thru State.freshN_wf ?_ (.thru State.sendInstant_wf ?_ .refl))
    all_goals simp +contextual
  · refine .next (.ite (.thru State.sendInstant_wf ?_ .refl) .refl)
    simp +contextual
  · refine .next (.thru State.sendInstant_wf ?_ .refl)
    simp +contextual
  · refine .next (.thru State.sendRaw_wf ?_ .refl)
    simp +contextual
  · exact .next .refl

theorem execDecimationEvaluation_frame {s : State} : NextFrame { groups := [2, 9, 10] } s (execDecimationEvaluation s) := by
  refine .ite (.next (.foldlOn Prod.fst (.update ?_ .refl) fun p st => .thru State.evalStream_wf ?_ .refl)) (.next .refl)
  all_goals simp +contextual

theorem execArpNdEchoReceive_frame {p : Fin 2} {pkt : Packet} {s : State} : NextFrame {} s (execArpNdEchoReceive p pkt s) := by
  unfold execArpNdEchoReceive
  dsimp only
  refine .ite (.next .refl) ?_
  split
  · refine .ite (.next (.thru State.reply_wf ?_ .refl)) (.next .refl)
    simp +contextual
  · refine .ite (.next (.thru State.reply_wf ?_ .refl)) (.next .refl)
    simp +contextual
  · refine .ite (.next (.update ?_ .refl)) (.next .refl)
    simp +contextual
  · refine .ite (.next (.thru State.reply_wf ?_ .refl)) (.next .refl)
    simp +contextual
  · exact .next .refl

theorem execModeRequest_frame {val : Word} {s : State} : NextFrame { groups := [0, 1] } s (execModeRequest val s) := by
  refine .next (.thru State.modeWrite_wf ?_ .refl)
  simp +contextual

theorem execRateRepropose_frame {s : State} : NextFrame { groups := [2, 9, 10] } s (execRateRepropose s) := by
  unfold execRateRepropose
  split
  · refine .ite (.ite (.next (.thru State.proposeRestore_wf ?_ .refl)) (.ite (.next (.thru State.proposeSleep_wf ?_ .refl))
        (.next (.thru State.modRate_wf ?_ .refl)))) (.next .refl)
    all_goals simp +contextual
  · exact .next .refl

theorem execModeEntry_frame {s : State} : NextFrame { groups := [0, 1, 8, 12, 16], lanes := true } s (execModeEntry s) := by
  unfold execModeEntry
  refine .ite (.next .refl) (.ite ?_ (.ite ?_ (.ite ?_ (.next .refl))))
  · refine .ite (.next (.update ?_ .refl)) (.ite (.next (.fset ?_ (.update ?_ (.thru State.levelTo_wf ?_ .refl))))
      (.next (.thru State.levelTo_wf ?_ .refl)))
    all_goals simp +contextual
  · refine .next (.thru State.beginAgingExit_wf ?_ .refl)
    simp +contextual
  split
  · refine .ite (.next (.thru State.enterMode_wf ?_ .refl)) (.next .refl)
    simp +contextual
  · exact .next .refl

theorem execAgingWake_frame {s : State} : NextFrame {} s (execAgingWake s) := by
  refine .ite (.next (.update ?_ .refl)) (.next .refl)
  simp +contextual

theorem execAgingBurst_frame {s : State} : NextFrame { groups := [16], lanes := true } s (execAgingBurst s) := by
  unfold execAgingBurst
  split
  · refine .ite (.next (.each .refl fun _ _ => .setWord ?_ (.setWord ?_ (.thru State.modM_wf ?_ .refl)))) (.next .refl)
    all_goals simp +contextual
  · exact .next .refl

theorem execAgingBurstEnd_frame {s : State} :
    NextFrame { groups := [0, 2, 10, 12, 16], lanes := true } s (execAgingBurstEnd s) := by
  unfold execAgingBurstEnd
  split
  · refine .ite (.next (.incWrap ?_ (.each (.update ?_ .refl) fun _ _ => .thru State.burstChan_wf ?_ .refl))) (.next .refl)
    all_goals simp +contextual
  · exact .next .refl

theorem execAgingSleep_frame {s : State} : NextFrame { groups := [12] } s (execAgingSleep s) := by
  unfold execAgingSleep
  split
  · refine .ite (.next (.thru State.laneRest_wf ?_ (.thru State.visitOver_wf ?_ (.update ?_ .refl)))) (.next .refl)
    all_goals simp +contextual
  · exact .next .refl

theorem execAgingArmWake_frame {s : State} : NextFrame { groups := [2, 10, 12, 16], lanes := true } s (execAgingArmWake s) := by
  refine .ite (.next (.ite (.thru State.shelfSlot_wf ?_ (.each .refl fun _ _ => .ite (.thru State.chanSlot_wf ?_ .refl) .refl))
      (.each .refl fun _ _ => .ite (.thru State.chanSlot_wf ?_ .refl) .refl))) (.next .refl)
  all_goals simp +contextual

theorem execAgingExitComplete_frame {s : State} :
    NextFrame { groups := [0, 1, 2, 3, 5, 7, 9, 10, 12, 16], store := true, lanes := true } s (execAgingExitComplete s) := by
  unfold execAgingExitComplete
  split
  · refine .ite (.next (.thru State.safeWaited_wf ?_ (.thru State.rateExit_wf ?_ (.thru State.leaveAging_wf ?_
        (.thru State.spareWake_wf ?_ (.thru State.laneOff_wf ?_ (.thru State.laneAbandon_wf ?_ (.each
        (.update ?_ .refl) fun _ _ => .thru State.resumeAging_wf ?_ .refl)))))))) (.next .refl)
    all_goals simp +contextual
  · exact .next .refl

theorem execDeepWake_frame {s : State} : NextFrame {} s (execDeepWake s) := by
  refine .ite (.next (.each .refl fun _ _ => .ite .refl (.thru State.startJudge_wf ?_ .refl))) (.next .refl)
  simp +contextual

theorem execDeepWakeComplete_frame {s : State} :
    NextFrame { groups := [0, 1, 2, 3, 5, 7, 8, 9, 10, 12, 16], store := true, lanes := true } s (execDeepWakeComplete s) := by
  refine .ite (.next (.thru State.safeWaited_wf ?_ (.thru State.rateExit_wf ?_ (.thru State.laneWake_wf ?_
      (.thru State.spareWake_wf ?_ (.thru State.atticDrain_wf ?_ (.setFlag ?_ (.thru State.levelTo_wf ?_ (.fset ?_
      (.update ?_ .refl)))))))))) (.next .refl)
  all_goals simp +contextual

theorem execSramSlice_frame {pass : Bool} {s : State} : NextFrame { groups := [2, 10, 11] } s (execSramSlice pass s) := by
  refine .ite (.ite (.next (.fset ?_ (.fset ?_ (.update ?_ (.ite (.fset ?_ (.fset ?_ (.thru State.fresh_wf ?_ .refl)))
      (.thru State.sramFail_wf ?_ (.fset ?_ (.fset ?_ (.thru State.fresh_wf ?_ .refl))))))))) (.next (.fset ?_ (.update ?_
      (.incWrap ?_ (.fset ?_ (.fset ?_ (.update ?_ (.ite (.fset ?_ (.fset ?_ (.thru State.fresh_wf ?_ .refl)))
      (.thru State.sramFail_wf ?_ (.fset ?_ (.fset ?_ (.thru State.fresh_wf ?_ .refl))))))))))))) (.next .refl)
  all_goals simp +contextual

theorem execMramWriteTest_frame {pass : Bool} {s : State} :
    NextFrame { groups := [2, 10, 11] } s (execMramWriteTest pass s) := by
  refine .ite (.ite (.next (.fset ?_ (.update ?_ .refl))) (.next (.raise ?_ (.update ?_ (.thru State.noteFail_wf ?_
      (.thru State.fresh_wf ?_ (.fset ?_ (.update ?_ .refl)))))))) (.next .refl)
  all_goals simp +contextual

theorem execPwmLoopbackFail_frame {w : Fin 9} {b : Fin 32} {err : Vector (Option Nat) 4} {s : State} :
    NextFrame { groups := [2, 5, 7, 10, 11, 16], lanes := true } s (execPwmLoopbackFail w b err s) := by
  refine .ite (.next (.thru State.loopbackStop_wf ?_ (.raise ?_ (.setWord ?_ .refl)))) (.next .refl)
  all_goals simp +contextual

theorem execHousekeepingRound_frame {inp : Housekeeping} {s : State} :
    NextFrame { groups := [0, 2, 3, 5, 7, 10, 11, 12, 16], store := true, lanes := true } s (execHousekeepingRound inp s) := by
  refine .ite (.next (.thru State.thermals_wf ?_ (.thru State.bands_wf ?_ (.thru State.dieMax_wf ?_ (.each
      (.thru State.refCheck_wf ?_ (.thru State.mramVerify_wf ?_ (.each (.update ?_ (.setWord ?_ (.fset ?_ (.incWrap ?_
      (.thru State.fresh_wf ?_ .refl))))) fun _ _ => .thru State.cellTemp_wf ?_ .refl))) fun _ _ => .thru State.dieRead_wf ?_ .refl)))))
      (.next .refl)
  all_goals simp +contextual

theorem execPowerOnReset_frame {straps : Straps} {low : Nat} {s : State} :
    NextFrame .all s (execPowerOnReset straps low s) := by
  refine .ite (.next .refl) (.next (.thruAll State.wake_wf ?_ (.update ?_ (.thruAll State.powerClear_wf ?_ .refl))))
  all_goals simp +contextual

theorem execVbiasLoss_frame {s : State} : NextFrame .all s (execVbiasLoss s) := by
  refine .next (.thruAll State.powerClear_wf ?_ .refl)
  simp +contextual

theorem execResetLPulse_frame {held : Nat} {s : State} : NextFrame .all s (execResetLPulse held s) := by
  refine .ite (.next (.thruAll State.softReset_wf ?_ .refl)) (.next .refl)
  simp +contextual

theorem execSrst_frame {s : State} : NextFrame .all s (execSrst s) := by
  refine .ite (.next (.thruAll State.softReset_wf ?_ (.answer .refl))) (.next .refl)
  simp +contextual

theorem execRailUpRequest_frame {s : State} : NextFrame .all s (execRailUpRequest s) := by
  refine .next (.answer (.thruAll State.railUp_wf ?_ .refl))
  simp +contextual

theorem execRailDownRequest_frame {s : State} : NextFrame .all s (execRailDownRequest s) := by
  refine .next (.answer (.thruAll State.railDown_wf ?_ .refl))
  simp +contextual

theorem execRailTableSave_frame {s : State} : NextFrame { groups := [3] } s (execRailTableSave s) := by
  refine .next (.thru State.railSave_wf ?_ .refl)
  simp +contextual

theorem execPendingUpStart_frame {s : State} : NextFrame .all s (execPendingUpStart s) := by
  unfold execPendingUpStart
  refine .ite (.next .refl) ?_
  split
  · refine .next (.thruAll State.wake_wf ?_ (.update ?_ (.fset ?_ (.thruAll State.powerClear_wf ?_ .refl))))
    all_goals simp +contextual
  · refine .ite (.next (.thruAll State.railUpNow_wf ?_ .refl)) (.next .refl)
    simp +contextual

theorem execRailScan_frame {e : Fin 24} {mv : Nat} {s : State} : NextFrame .all s (execRailScan e mv s) := by
  refine .ite (.next .refl) (.next (.ite (.thruAll State.railFollow_wf ?_ (.fset ?_ (.update ?_ .refl)))
      (.thruAll State.railRead_wf ?_ (.fset ?_ (.update ?_ .refl)))))
  all_goals simp +contextual

theorem execRailRampTimeout_frame {e : Fin 24} {s : State} : NextFrame .all s (execRailRampTimeout e s) := by
  refine .ite (.next (.thruAll State.railNotUp_wf ?_ .refl)) (.next .refl)
  simp +contextual

theorem execRailSettled_frame {e : Fin 24} {s : State} : NextFrame .all s (execRailSettled e s) := by
  refine .ite (.next (.thruAll State.railsSettle_wf ?_ (.ite (.thruAll State.logicStart_wf ?_ (.update ?_
      (.thruAll State.railTo_wf ?_ .refl))) (.thruAll State.railTo_wf ?_ .refl)))) (.next .refl)
  all_goals simp +contextual

theorem execRailRetryEnd_frame {e : Fin 24} {s : State} : NextFrame .all s (execRailRetryEnd e s) := by
  unfold execRailRetryEnd
  split
  · refine .ite (.ite (.next (.thruAll State.railsSettle_wf ?_ (.thruAll State.railOff_wf ?_ .refl))) (.next
        (.thruAll State.railsSettle_wf ?_ (.thruAll State.railTo_wf ?_ (.incSat ?_ .refl))))) (.next .refl)
    all_goals simp +contextual
  · exact .next .refl

theorem execRailDownTimeout_frame {e : Fin 24} {s : State} : NextFrame .all s (execRailDownTimeout e s) := by
  refine .ite (.next (.thruAll State.railsSettle_wf ?_ (.thruAll State.railOff_wf ?_ (.setFlag ?_ .refl)))) (.next .refl)
  all_goals simp +contextual

theorem execRailFaultClear_frame {e : Fin 24} {val : Word} {s : State} :
    NextFrame { groups := [3, 7] } s (execRailFaultClear e val s) := by
  refine .next (.thru State.railClear_wf ?_ .refl)
  simp +contextual

theorem execSqRoffWrite_frame {val : Word} {s : State} : NextFrame .all s (execSqRoffWrite val s) := by
  refine .next (.thruAll State.roffWrite_wf ?_ .refl)
  simp +contextual

theorem execWdiEdge_frame {s : State} : NextFrame { groups := [3] } s (execWdiEdge s) := by
  refine .ite (.next .refl) (.next (.setFlag ?_ (.update ?_ .refl)))
  all_goals simp +contextual

theorem execWdiExpiry_frame {s : State} : NextFrame .all s (execWdiExpiry s) := by
  refine .ite (.next (.thruAll State.wdiAct_wf ?_ (.raise ?_ (.setFlag ?_ (.update ?_ .refl))))) (.next .refl)
  all_goals simp +contextual

theorem execAtticWakeRetry_frame {s : State} : NextFrame { groups := [2, 3, 7, 10] } s (execAtticWakeRetry s) := by
  unfold execAtticWakeRetry
  split
  · refine .ite (.next (.thru State.wake_wf ?_ .refl)) (.next .refl)
    simp +contextual
  · exact .next .refl

theorem execSupervisorRestartKey_frame {key : BitVec 16} {s : State} :
    NextFrame { groups := [0, 2, 10], lanes := true } s (execSupervisorRestartKey key s) := by
  refine .next (.thru State.restartKey_wf ?_ .refl)
  simp +contextual

theorem execSupervisorWatchdog_frame {idle : Nat} {s : State} :
    NextFrame { groups := [0, 2, 10], lanes := true } s (execSupervisorWatchdog idle s) := by
  refine .ite (.next (.thru State.restart_wf ?_ .refl)) (.next .refl)
  simp +contextual

theorem execSupervisorException_frame {s : State} :
    NextFrame { groups := [0, 2, 10], lanes := true } s (execSupervisorException s) := by
  refine .ite (.next (.thru State.restart_wf ?_ .refl)) (.next .refl)
  simp +contextual

theorem execCardLoss_frame {k : Fin 16} {high : Nat} {s : State} :
    NextFrame { groups := [0, 2, 10, 12, 16], lanes := true } s (execCardLoss k high s) := by
  refine .ite (.next .refl) (.next (.ite (.thru State.cardLost_wf ?_ (.update ?_ .refl)) (.update ?_ .refl)))
  all_goals simp +contextual

theorem execCardReturn_frame {k : Fin 16} {low : Nat} {s : State} :
    NextFrame { groups := [0, 2, 10, 16] } s (execCardReturn k low s) := by
  refine .ite (.next .refl) (.next (.raise ?_ (.setFlag ?_ (.each .refl fun _ _ => .thru State.returnChan_wf ?_ .refl))))
  all_goals simp +contextual

theorem execJtagUpdateIr_frame {ir : BitVec 5} {s : State} : NextFrame {} s (execJtagUpdateIr ir s) := by
  refine .next (.ite (.answer (.update ?_ .refl)) (.update ?_ .refl))
  all_goals simp +contextual

theorem execConfigRegionSave_frame {r : Region} {s : State} : NextFrame { groups := [3] } s (execConfigRegionSave r s) := by
  refine .ite (.next (.ite (.setFlag ?_ (.update ?_ .refl)) (.update ?_ .refl))) (.next .refl)
  all_goals simp +contextual

theorem execNzoffWrite_frame {s : State} : NextFrame { groups := [9] } s (execNzoffWrite s) := by
  refine .next (.thru State.nzoffWrite_wf ?_ .refl)
  simp +contextual

theorem execRegisterWrite_frame {addr : Nat} {val : Word} {s : State} : NextFrame .all s (execRegisterWrite addr val s) := by
  refine .next (.thruAll State.hostWrite_wf ?_ .refl)
  simp +contextual

theorem execLowWordRead_frame {addr : Nat} {s : State} : NextFrame {} s (execLowWordRead addr s) := by
  refine .next (.thru State.readAnswer_wf ?_ .refl)
  simp +contextual

theorem group_of_portReg {r : Reg} {p : Fin 2} (h : portReg r = some p) : r.group = 9 := by
  unfold portReg at h
  split at h
  case h_6 => exact nomatch h
  all_goals simp

theorem execPortConfigWrite_frame {addr : Nat} {val : Word} {s : State} :
    NextFrame { groups := [2, 9, 10] } s (execPortConfigWrite addr val s) := by
  unfold execPortConfigWrite
  split
  · split
    · next h =>
      refine .next (.thru State.portWrite_wf ?_ .refl)
      simp +contextual [group_of_portReg h]
    · exact .next (.answer .refl)
  · exact .next (.answer .refl)

theorem execRmCap_frame {val : BitVec 16} {pec : Option Byte} {s : State} :
    NextFrame { groups := [6, 8] } s (execRmCap val pec s) := by
  refine .next (.thru (fun h => State.tw1Write_wf h fun _ ht => State.rmCap_wf ht) ?_ .refl)
  simp +contextual

theorem execRmNet_frame {more : Bool} {s : State} : NextFrame {} s (execRmNet more s) :=
  .ite (.next (.answer .refl)) (.next .refl)

theorem execPtr_frame {bytes : List Byte} {pec : Option Byte} {s : State} :
    NextFrame { groups := [8] } s (execPtr bytes pec s) := by
  refine .ite (.next (.thru (fun h => State.tw1Write_wf h fun _ ht => State.wf_setWord ht) ?_ .refl)) (.next .refl)
  simp +contextual

theorem State.hostRead_frame {a : Scope} {s : State} {addr : Nat} : Frame a s (s.hostRead addr).2.2 :=
  .thru State.hostRead_wf ⟨State.hostRead_pending, fun _ _ => State.hostRead_rd, fun _ => State.hostRead_store,
    fun _ => State.hostRead_chv⟩ .refl

theorem execRegRead_frame {more : Bool} {s : State} : NextFrame { groups := [8] } s (execRegRead more s) := by
  unfold execRegRead
  refine .ite (.next .refl) (.ite (.next (.answer (.thru State.regDone_wf ?_ .refl))) ?_)
  · simp +contextual
  · refine .next (.answer (.thru State.regDone_wf ?_ State.hostRead_frame))
    simp +contextual

theorem execRegWrite_frame {bytes : List Byte} {pec : Option Byte} {s : State} :
    NextFrame .all s (execRegWrite bytes pec s) := by
  refine .ite (.next (.thruAll (fun h => State.tw1Write_wf h fun _ ht => State.tw1RegWrite_wf ht) ?_ .refl)) (.next .refl)
  simp +contextual

theorem execRstat_frame {more : Bool} {s : State} : NextFrame {} s (execRstat more s) :=
  .ite (.next (.answer .refl)) (.next .refl)

theorem execEvlow_frame {more : Bool} {s : State} : NextFrame {} s (execEvlow more s) :=
  .ite (.next (.answer .refl)) (.next .refl)

theorem execTwTimeout_frame {p : Fin 2} {low : Nat} {s : State} :
    NextFrame { groups := [2, 8, 10] } s (execTwTimeout p low s) := by
  refine .ite (.next (.raise ?_ (.incSat ?_ (.setFlag ?_ (.setFlag ?_ .refl))))) (.next .refl)
  all_goals simp +contextual

theorem execTwBusError_frame {p : Fin 2} {s : State} : NextFrame { groups := [8] } s (execTwBusError p s) := by
  refine .ite (.next (.incSat ?_ (.setFlag ?_ (.setFlag ?_ .refl)))) (.next .refl)
  all_goals simp +contextual

theorem execTwArbitrationLost_frame {p : Fin 2} {s : State} : NextFrame { groups := [8] } s (execTwArbitrationLost p s) := by
  refine .ite (.next (.incSat ?_ (.setFlag ?_ .refl))) (.next .refl)
  all_goals simp +contextual

theorem execTw1DeepAddress_frame {s : State} : NextFrame {} s (execTw1DeepAddress s) := by
  refine .ite (.next (.thru State.beginWake_wf ?_ (.thru State.modTw_wf ?_ .refl))) (.next .refl)
  all_goals simp +contextual

theorem execTw1AddressRearm_frame {s : State} : NextFrame { groups := [8] } s (execTw1AddressRearm s) := by
  unfold execTw1AddressRearm
  split
  · refine .ite (.next (.setFlag ?_ (.thru State.modTw_wf ?_ .refl))) (.next .refl)
    all_goals simp +contextual
  · exact .next .refl

theorem execHostNotify_frame {ack : Bool} {s : State} : NextFrame { groups := [2, 8, 10] } s (execHostNotify ack s) := by
  unfold execHostNotify
  split
  · refine .ite (.next (.thru State.notifySend_wf ?_ .refl)) (.next .refl)
    simp +contextual
  · exact .next .refl

theorem execNotifyRetry_frame {ack : Bool} {s : State} : NextFrame { groups := [2, 8, 10] } s (execNotifyRetry ack s) := by
  unfold execNotifyRetry
  split
  · refine .ite (.next (.thru State.notifySend_wf ?_ .refl)) (.next .refl)
    simp +contextual
  · exact .next .refl

theorem execTw0Poll_frame {answers : Vector PollAns 9} {s : State} :
    NextFrame { groups := [2, 5, 8, 10] } s (execTw0Poll answers s) := by
  refine .ite (.next (.each (.thru State.modTw_wf ?_ .refl) fun _ _ => .thru State.pollDev_wf ?_ .refl)) (.next .refl)
  all_goals simp +contextual

theorem execClearFaults_frame {k : Fin 9} {s : State} : NextFrame {} s (execClearFaults k s) := by
  refine .ite (.next (.thru State.modTw_wf ?_ .refl)) (.next .refl)
  simp +contextual

theorem execRead32_frame {x : Sess} {addr : Nat} {s : State} : NextFrame {} s (execRead32 x addr s) := by
  refine .next (.thru State.read32_wf ?_ .refl)
  simp +contextual

theorem execWrite32_frame {x : Sess} {addr : Nat} {val : Word} {s : State} : NextFrame .all s (execWrite32 x addr val s) := by
  refine .next (.thruAll State.write32_wf ?_ .refl)
  simp +contextual

theorem execReadBlock_frame {x : Sess} {addr n : Nat} {s : State} : NextFrame {} s (execReadBlock x addr n s) := by
  refine .next (.thru State.readBlock_wf ?_ .refl)
  simp +contextual

theorem execWriteBlock_frame {x : Sess} {addr : Nat} {vals : List Word} {s : State} :
    NextFrame .all s (execWriteBlock x addr vals s) := by
  refine .next (.thruAll State.writeBlock_wf ?_ .refl)
  simp +contextual

theorem execBulkOpen_frame {x : Sess} {total : Nat} {s : State} : NextFrame { groups := [9] } s (execBulkOpen x total s) := by
  refine .next (.thru State.bulkOpen_wf ?_ .refl)
  simp +contextual

theorem execBulkWriteData_frame {x : Sess} {id off : Nat} {data : List Byte} {s : State} :
    NextFrame {} s (execBulkWriteData x id off data s) := by
  refine .next (.thru State.bulkData_wf ?_ .refl)
  simp +contextual

theorem execBulkStatus_frame {x : Sess} {id : Nat} {s : State} : NextFrame {} s (execBulkStatus x id s) := by
  refine .next (.thru State.bulkStatus_wf ?_ .refl)
  simp +contextual

theorem execBulkRead_frame {x : Sess} {addr len : Nat} {s : State} :
    NextFrame { groups := [9] } s (execBulkRead x addr len s) := by
  refine .next (.thru State.bulkRead_wf ?_ .refl)
  simp +contextual

theorem execBulkReadFrame_frame {id : Nat} {s : State} : NextFrame { groups := [9] } s (execBulkReadFrame id s) := by
  unfold execBulkReadFrame
  split
  · refine .ite (.next .refl) (.ite (.next .refl) (.next (.fset ?_ (.thru State.modBulk_wf ?_ (.thru State.fresh_wf ?_
        (.thru State.transmit_wf ?_ .refl))))))
    all_goals simp +contextual
  · exact .next .refl

theorem execProgramLoad_frame {x : Sess} {bank : Word} {index n : Nat} {crc : Word} {s : State} :
    NextFrame { store := true } s (execProgramLoad x bank index n crc s) := by
  refine .next (.thru State.programLoad_wf ?_ .refl)
  simp +contextual

theorem execImageStage_frame {x : Sess} {sel : Word} {s : State} :
    NextFrame { groups := [2, 10] } s (execImageStage x sel s) := by
  refine .next (.thru State.imageStage_wf ?_ .refl)
  simp +contextual

theorem execImageCommit_frame {x : Sess} {bank : Word} {s : State} : NextFrame {} s (execImageCommit x bank s) := by
  refine .next (.thru State.imageCommit_wf ?_ .refl)
  simp +contextual

theorem execAuthPhase1_frame {x : Sess} {nh : List Byte} {s : State} : NextFrame {} s (execAuthPhase1 x nh s) := by
  refine .next (.thru State.authPhase1_wf ?_ .refl)
  simp +contextual

theorem execAuthPhase2_frame {x : Sess} {ph : List Byte} {s : State} :
    NextFrame { groups := [2, 9, 10] } s (execAuthPhase2 x ph s) := by
  refine .next (.thru State.authPhase2_wf ?_ .refl)
  simp +contextual

theorem execSubscribe_frame {x : Sess} {bits : Word} {s : State} : NextFrame {} s (execSubscribe x bits s) := by
  refine .next (.thru State.subscribe_wf ?_ .refl)
  simp +contextual

theorem execAck_frame {x : Sess} {cls seq : Nat} {s : State} : NextFrame { lanes := true } s (execAck x cls seq s) := by
  refine .next (.thru State.ackFrames_wf ?_ .refl)
  simp +contextual

theorem execClose_frame {x : Sess} {s : State} : NextFrame { groups := [0, 2, 9, 10] } s (execClose x s) := by
  refine .next (.thru State.closeCmd_wf ?_ .refl)
  simp +contextual

theorem execWake_frame {x : Sess} {s : State} : NextFrame {} s (execWake x s) := by
  refine .next (.thru State.wakeCmd_wf ?_ .refl)
  simp +contextual

theorem execKeySetDevice_frame {x : Sess} {key : List Byte} {s : State} :
    NextFrame { groups := [9] } s (execKeySetDevice x key s) := by
  refine .next (.thru State.keySetDevice_wf ?_ .refl)
  simp +contextual

theorem execKeySetOwner_frame {x : Sess} {key : List Byte} {s : State} :
    NextFrame { groups := [9] } s (execKeySetOwner x key s) := by
  refine .next (.thru State.keySetOwner_wf ?_ .refl)
  simp +contextual

theorem execKeepalive_frame {x : Sess} {data : List Byte} {s : State} : NextFrame {} s (execKeepalive x data s) := by
  unfold execKeepalive
  split
  · refine .next (.thru State.keepalive_wf ?_ .refl)
    simp +contextual
  · exact .next .refl

theorem execResponseQueued_frame {x : Sess} {s : State} :
    NextFrame { groups := [0, 2, 10], lanes := true } s (execResponseQueued x s) := by
  unfold execResponseQueued
  split
  · exact .next .refl
  · dsimp only
    split
    · exact .next .refl
    · refine .ite (.next .refl) (.next (.ite (.thru State.restart_wf ?_ (.thru State.transmit_wf ?_
          (.thru State.modSess_wf ?_ .refl))) (.thru State.transmit_wf ?_ (.thru State.modSess_wf ?_ .refl))))
      all_goals simp +contextual

theorem execAslpFrameReceive_frame {p : LinkPort} {src : Peer} {dport : Fin 65536} {bytes : List Byte} {s : State} :
    NextFrame .all s (execAslpFrameReceive p src dport bytes s) := by
  refine .next (.ite (.thruAll State.receive_wf ?_ .refl) .refl)
  simp +contextual

theorem execSpiWrite_frame {bytes : List Byte} {s : State} : NextFrame .all s (execSpiWrite bytes s) := by
  refine .ite (.next .refl) (.ite (.next (.incWrap ?_ (.setFlag ?_ .refl))) (.next (.thruAll State.receive_wf ?_ .refl)))
  all_goals simp +contextual

theorem execSpiRead_frame {clocked : Nat} {s : State} : NextFrame {} s (execSpiRead clocked s) := by
  unfold execSpiRead
  refine .ite (.next .refl) ?_
  split
  · exact .next (.answer .refl)
  · refine .next (.answer (.ite (.update ?_ .refl) .refl))
    simp +contextual

theorem execSpiStatus_frame {op : Fin 256} {s : State} : NextFrame { groups := [9] } s (execSpiStatus op s) := by
  refine .ite (.next .refl) (.ite (.next (.answer .refl)) (.next (.answer (.incWrap ?_ .refl))))
  simp +contextual

theorem execSpiWake_frame {s : State} : NextFrame {} s (execSpiWake s) := by
  refine .next (.ite (.thru State.wakeCmd_wf ?_ .refl) .refl)
  simp +contextual

theorem execBootComplete_frame {img : BootImage} {s : State} : NextFrame .all s (execBootComplete img s) := by
  refine .ite (.next (.thruAll State.flushHeld_wf ?_ (.thruAll State.bootDone_wf ?_ .refl))) (.next .refl)
  all_goals simp +contextual

theorem execSupervisorRestartDone_frame {bankA bankB : Bool} {s : State} :
    NextFrame { groups := [0, 2, 3, 5, 9, 10], lanes := true } s (execSupervisorRestartDone bankA bankB s) := by
  unfold execSupervisorRestartDone
  split
  · refine .next (.thru State.flushHeld_wf ?_ (.thru State.restartEnd_wf ?_ .refl))
    all_goals simp +contextual
  · exact .next .refl

theorem execControlPeriodBoundary_frame {inp : Vector ChanIn 128} {lane : ChanIn} {aux : Vector AuxIn 4} {s : State} :
    NextFrame { groups := [0, 1, 2, 3, 4, 5, 6, 7, 9, 10, 12, 16], store := true, lanes := true } s
      (execControlPeriodBoundary inp lane aux s) := by
  refine .ite (.next .refl) (.next (.thru State.lateBoundary_wf ?_ (.thru State.ledgerBoundary_wf ?_
      (.thru State.shelfBoundary_wf ?_ (.ite (.thru State.lanes_wf ?_ (.thru State.writesTake_wf ?_
      (.thru State.calBoundary_wf ?_ (.thru State.tick_wf ?_ (.thru State.slotsEnd_wf ?_ .refl))))) (.each
      (.thru State.writesTake_wf ?_ (.thru State.calBoundary_wf ?_ (.thru State.tick_wf ?_
      (.thru State.slotsEnd_wf ?_ .refl)))) fun _ _ => .thru State.settleEnd_wf ?_ .refl))))))
  all_goals simp +contextual

theorem execMetrologySample_frame {inp : Vector ChanIn 128} {lane : ChanIn} {s : State} :
    NextFrame { groups := [16], lanes := true } s (execMetrologySample inp lane s) := by
  refine .ite (.next (.thru State.ringTake_wf ?_ (.each (.each (.thru State.visitTake_wf ?_
      (.update ?_ .refl)) fun _ _ => .thru State.metLane_wf ?_ .refl) fun _ _ => .thru State.metGang_wf ?_ .refl)))
      (.next .refl)
  all_goals simp +contextual

end Sys2Proof.Machine

/-! PROOFS. The frame of the block: every command goes on within its scope, and what follows of a step (R4, R5, R13). -/

namespace Sys2Proof.Machine

/-- What `Instr.groups`, `Instr.mayStore` and `Instr.movesLanes` let a command change. -/
def scopeOf (c : Instr) : Scope := ⟨c.groups, c.mayStore, c.movesLanes⟩

/-- Each command goes on and stays within its scope. -/
theorem exec_frame (c : Instr) (s : State) : NextFrame (scopeOf c) s (exec c s) := by
  cases c with
  | modulatorOverload => exact execModulatorOverload_frame
  | calCopy => exact execCalCopy_frame
  | calSwap => exact execCalSwap_frame
  | calCopyDone => exact execCalCopyDone_frame
  | shadowTableWrite => exact execShadowTableWrite_frame
  | calTableSave => exact execCalTableSave_frame
  | parkedSwitchOpen => exact execParkedSwitchOpen_frame
  | stopEnd => exact execStopEnd_frame
  | safeReq => exact execSafeReq_frame
  | safeClr => exact execSafeClr_frame
  | shelfServiceEntry => exact execShelfServiceEntry_frame
  | lockOpen => exact execLockOpen_frame
  | lockClose => exact execLockClose_frame
  | lockExpiry => exact execLockExpiry_frame
  | switchingCycleStart => exact execSwitchingCycleStart_frame
  | phaseShed => exact execPhaseShed_frame
  | softStartFault => exact execSoftStartFault_frame
  | busLimitTrip => exact execBusLimitTrip_frame
  | pwmDivWrite => exact execPwmDivWrite_frame
  | syncInEdge => exact execSyncInEdge_frame
  | syncLost => exact execSyncLost_frame
  | gangWrite => exact execGangWrite_frame
  | restSwitchOpen => exact execRestSwitchOpen_frame
  | checkShortTest => exact execCheckShortTest_frame
  | checkPrebiasReached => exact execCheckPrebiasReached_frame
  | checkPrebiasTimeout => exact execCheckPrebiasTimeout_frame
  | checkSwitchSettled => exact execCheckSwitchSettled_frame
  | checkZeroPointDone => exact execCheckZeroPointDone_frame
  | checkLearnSettled => exact execCheckLearnSettled_frame
  | checkRpathLearned => exact execCheckRpathLearned_frame
  | checkPass => exact execCheckPass_frame
  | vinEnterWindow => exact execVinEnterWindow_frame
  | vinLeaveWindow => exact execVinLeaveWindow_frame
  | feedQualified => exact execFeedQualified_frame
  | feedCheckDone => exact execFeedCheckDone_frame
  | feedOn => exact execFeedOn_frame
  | feedRampTimeout => exact execFeedRampTimeout_frame
  | feedFaultTimer => exact execFeedFaultTimer_frame
  | reverseTrip => exact execReverseTrip_frame
  | feedCurrentLimiting => exact execFeedCurrentLimiting_frame
  | turnoffConfirmed => exact execTurnoffConfirmed_frame
  | turnoffTimeout => exact execTurnoffTimeout_frame
  | feedLockoutEnd => exact execFeedLockoutEnd_frame
  | feedFaultClear => exact execFeedFaultClear_frame
  | feedDisable => exact execFeedDisable_frame
  | feedSelectWrite => exact execFeedSelectWrite_frame
  | busCapMeasured => exact execBusCapMeasured_frame
  | meterUpdate => exact execMeterUpdate_frame
  | pathCurrentLoss => exact execPathCurrentLoss_frame
  | rideTimerExpiry => exact execRideTimerExpiry_frame
  | haltVoltage => exact execHaltVoltage_frame
  | huCtlHalt => exact execHuCtlHalt_frame
  | haltComplete => exact execHaltComplete_frame
  | holdupPathArm => exact execHoldupPathArm_frame
  | holdupPreDone => exact execHoldupPreDone_frame
  | holdupPreTimeout => exact execHoldupPreTimeout_frame
  | holdupConduct => exact execHoldupConduct_frame
  | holdupReverse => exact execHoldupReverse_frame
  | holdupUvcut => exact execHoldupUvcut_frame
  | holdupDischargeLimiting => exact execHoldupDischargeLimiting_frame
  | dischargeLimitExpiry => exact execDischargeLimitExpiry_frame
  | packMissing => exact execPackMissing_frame
  | packShorted => exact execPackShorted_frame
  | packPresent => exact execPackPresent_frame
  | huWdtKick => exact execHuWdtKick_frame
  | huWdtConfirm => exact execHuWdtConfirm_frame
  | huWdtExpiry => exact execHuWdtExpiry_frame
  | chargerTick => exact execChargerTick_frame
  | chargerSafetyTimeout => exact execChargerSafetyTimeout_frame
  | gaugeMinute => exact execGaugeMinute_frame
  | gaugeNoref => exact execGaugeNoref_frame
  | chargerTaperDone => exact execChargerTaperDone_frame
  | gaugeRestore => exact execGaugeRestore_frame
  | throttleReport => exact execThrottleReport_frame
  | rmCapStale => exact execRmCapStale_frame
  | feedErrorAlarm => exact execFeedErrorAlarm_frame
  | auxEnable => exact execAuxEnable_frame
  | auxDisable => exact execAuxDisable_frame
  | auxCheck => exact execAuxCheck_frame
  | auxSoftstartDone => exact execAuxSoftstartDone_frame
  | auxPowerGood => exact execAuxPowerGood_frame
  | auxOv => exact execAuxOv_frame
  | auxUv => exact execAuxUv_frame
  | auxOc => exact execAuxOc_frame
  | auxHiccupEnd => exact execAuxHiccupEnd_frame
  | auxChargerOv => exact execAuxChargerOv_frame
  | ocTrip => exact execOcTrip_frame
  | ovTrip => exact execOvTrip_frame
  | uvTrip => exact execUvTrip_frame
  | fuseTrip => exact execFuseTrip_frame
  | deltaSample => exact execDeltaSample_frame
  | contactBreak => exact execContactBreak_frame
  | ctEstimateClose => exact execCtEstimateClose_frame
  | stageFault => exact execStageFault_frame
  | fltLPulse => exact execFltLPulse_frame
  | wearBinMinute => exact execWearBinMinute_frame
  | driftSecond => exact execDriftSecond_frame
  | faultClear => exact execFaultClear_frame
  | cc => exact execCc_frame
  | cv => exact execCv_frame
  | ccv => exact execCcv_frame
  | cp => exact execCp_frame
  | cr => exact execCr_frame
  | pulse => exact execPulse_frame
  | eis => exact execEis_frame
  | rest => exact execRest_frame
  | hold => exact execHold_frame
  | limv => exact execLimv_frame
  | limi => exact execLimi_frame
  | limt => exact execLimt_frame
  | disarm => exact execDisarm_frame
  | armt => exact execArmt_frame
  | armv => exact execArmv_frame
  | armi => exact execArmi_frame
  | armtap => exact execArmtap_frame
  | armq => exact execArmq_frame
  | arme => exact execArme_frame
  | armdv => exact execArmdv_frame
  | armtc => exact execArmtc_frame
  | wait => exact execWait_frame
  | ldi => exact execLdi_frame
  | mov => exact execMov_frame
  | getm => exact execGetm_frame
  | putp => exact execPutp_frame
  | add => exact execAdd_frame
  | sub => exact execSub_frame
  | mulsh => exact execMulsh_frame
  | cmp => exact execCmp_frame
  | br => exact execBr_frame
  | loop => exact execLoop_frame
  | call => exact execCall_frame
  | ret => exact execRet_frame
  | nop => exact execNop_frame
  | stop => exact execStop_frame
  | capdc => exact execCapdc_frame
  | eisrun => exact execEisrun_frame
  | emit => exact execEmit_frame
  | bar => exact execBar_frame
  | prio => exact execPrio_frame
  | sig => exact execSig_frame
  | swappt => exact execSwappt_frame
  | barrierRelease => exact execBarrierRelease_frame
  | barrierTimeout => exact execBarrierTimeout_frame
  | lanternSlotStart => exact execLanternSlotStart_frame
  | lanternConnect => exact execLanternConnect_frame
  | lanternResult => exact execLanternResult_frame
  | lanternCommit => exact execLanternCommit_frame
  | adoptEnable => exact execAdoptEnable_frame
  | adoptActive => exact execAdoptActive_frame
  | adoptRelease => exact execAdoptRelease_frame
  | lbistSlice => exact execLbistSlice_frame
  | fullLbistDone => exact execFullLbistDone_frame
  | spareAcquired => exact execSpareAcquired_frame
  | spareTakeover => exact execSpareTakeover_frame
  | spareRotation => exact execSpareRotation_frame
  | rotnow => exact execRotnow_frame
  | retgo => exact execRetgo_frame
  | dcirCapture => exact execDcirCapture_frame
  | eisLockinDone => exact execEisLockinDone_frame
  | dvdtWindowResult => exact execDvdtWindowResult_frame
  | regressionPost => exact execRegressionPost_frame
  | agingSample => exact execAgingSample_frame
  | counterWrite => exact execCounterWrite_frame
  | degradeExpiry => exact execDegradeExpiry_frame
  | waitTimedExpiry => exact execWaitTimedExpiry_frame
  | gapHold => exact execGapHold_frame
  | channelSlot => exact execChannelSlot_frame
  | stepStoreWrite => exact execStepStoreWrite_frame
  | progWrite => exact execProgWrite_frame
  | hostStart => exact execHostStart_frame
  | hostStop => exact execHostStop_frame
  | shelfStart => exact execShelfStart_frame
  | shelfStop => exact execShelfStop_frame
  | loopPeriod => exact execLoopPeriod_frame
  | setpointLost => exact execSetpointLost_frame
  | autotuneStart => exact execAutotuneStart_frame
  | autotuneAbort => exact execAutotuneAbort_frame
  | autotuneTimeout => exact execAutotuneTimeout_frame
  | clockJudgeWindow => exact execClockJudgeWindow_frame
  | clockJudgeDeadline => exact execClockJudgeDeadline_frame
  | xhfLoss => exact execXhfLoss_frame
  | trimMeasurement => exact execTrimMeasurement_frame
  | compatVoutPoll => exact execCompatVoutPoll_frame
  | compatStepTimeout => exact execCompatStepTimeout_frame
  | compatRetry => exact execCompatRetry_frame
  | timeSet => exact execTimeSet_frame
  | ppsEdge => exact execPpsEdge_frame
  | ppsLost => exact execPpsLost_frame
  | ppsSlewEnd => exact execPpsSlewEnd_frame
  | holdoverLimit => exact execHoldoverLimit_frame
  | ppsDisable => exact execPpsDisable_frame
  | vaultRecordWrite => exact execVaultRecordWrite_frame
  | vaultClear => exact execVaultClear_frame
  | vaultClearDone => exact execVaultClearDone_frame
  | atticQueueDrain => exact execAtticQueueDrain_frame
  | cellarHostTrigger => exact execCellarHostTrigger_frame
  | cellarCaptureClose => exact execCellarCaptureClose_frame
  | cellarSlotWritten => exact execCellarSlotWritten_frame
  | cellarSlotRelease => exact execCellarSlotRelease_frame
  | sessionTimeout => exact execSessionTimeout_frame
  | authLockoutEnd => exact execAuthLockoutEnd_frame
  | rateSwitch => exact execRateSwitch_frame
  | rateSwitchDone => exact execRateSwitchDone_frame
  | rateSwitchTimeout => exact execRateSwitchTimeout_frame
  | proposeResend => exact execProposeResend_frame
  | rateControlFrame => exact execRateControlFrame_frame
  | linkChange => exact execLinkChange_frame
  | eventFrameSend => exact execEventFrameSend_frame
  | eventFrameResend => exact execEventFrameResend_frame
  | recordFrameSend => exact execRecordFrameSend_frame
  | recordFrameResend => exact execRecordFrameResend_frame
  | streamFrameSend => exact execStreamFrameSend_frame
  | decimationEvaluation => exact execDecimationEvaluation_frame
  | arpNdEchoReceive => exact execArpNdEchoReceive_frame
  | modeRequest => exact execModeRequest_frame
  | rateRepropose => exact execRateRepropose_frame
  | modeEntry => exact execModeEntry_frame
  | agingWake => exact execAgingWake_frame
  | agingBurst => exact execAgingBurst_frame
  | agingBurstEnd => exact execAgingBurstEnd_frame
  | agingSleep => exact execAgingSleep_frame
  | agingArmWake => exact execAgingArmWake_frame
  | agingExitComplete => exact execAgingExitComplete_frame
  | deepWake => exact execDeepWake_frame
  | deepWakeComplete => exact execDeepWakeComplete_frame
  | sramSlice => exact execSramSlice_frame
  | mramWriteTest => exact execMramWriteTest_frame
  | pwmLoopbackFail => exact execPwmLoopbackFail_frame
  | housekeepingRound => exact execHousekeepingRound_frame
  | powerOnReset => exact execPowerOnReset_frame
  | vbiasLoss => exact execVbiasLoss_frame
  | resetLPulse => exact execResetLPulse_frame
  | srst => exact execSrst_frame
  | railUpRequest => exact execRailUpRequest_frame
  | railDownRequest => exact execRailDownRequest_frame
  | railTableSave => exact execRailTableSave_frame
  | pendingUpStart => exact execPendingUpStart_frame
  | railScan => exact execRailScan_frame
  | railRampTimeout => exact execRailRampTimeout_frame
  | railSettled => exact execRailSettled_frame
  | railRetryEnd => exact execRailRetryEnd_frame
  | railDownTimeout => exact execRailDownTimeout_frame
  | railFaultClear => exact execRailFaultClear_frame
  | sqRoffWrite => exact execSqRoffWrite_frame
  | wdiEdge => exact execWdiEdge_frame
  | wdiExpiry => exact execWdiExpiry_frame
  | atticWakeRetry => exact execAtticWakeRetry_frame
  | supervisorRestartKey => exact execSupervisorRestartKey_frame
  | supervisorWatchdog => exact execSupervisorWatchdog_frame
  | supervisorException => exact execSupervisorException_frame
  | cardLoss => exact execCardLoss_frame
  | cardReturn => exact execCardReturn_frame
  | jtagUpdateIr => exact execJtagUpdateIr_frame
  | configRegionSave => exact execConfigRegionSave_frame
  | nzoffWrite => exact execNzoffWrite_frame
  | registerWrite => exact execRegisterWrite_frame
  | lowWordRead => exact execLowWordRead_frame
  | portConfigWrite => exact execPortConfigWrite_frame
  | rmCap => exact execRmCap_frame
  | rmNet => exact execRmNet_frame
  | ptr => exact execPtr_frame
  | regRead => exact execRegRead_frame
  | regWrite => exact execRegWrite_frame
  | rstat => exact execRstat_frame
  | evlow => exact execEvlow_frame
  | twTimeout => exact execTwTimeout_frame
  | twBusError => exact execTwBusError_frame
  | twArbitrationLost => exact execTwArbitrationLost_frame
  | tw1DeepAddress => exact execTw1DeepAddress_frame
  | tw1AddressRearm => exact execTw1AddressRearm_frame
  | hostNotify => exact execHostNotify_frame
  | notifyRetry => exact execNotifyRetry_frame
  | tw0Poll => exact execTw0Poll_frame
  | clearFaults => exact execClearFaults_frame
  | read32 => exact execRead32_frame
  | write32 => exact execWrite32_frame
  | readBlock => exact execReadBlock_frame
  | writeBlock => exact execWriteBlock_frame
  | bulkOpen => exact execBulkOpen_frame
  | bulkWriteData => exact execBulkWriteData_frame
  | bulkStatus => exact execBulkStatus_frame
  | bulkRead => exact execBulkRead_frame
  | bulkReadFrame => exact execBulkReadFrame_frame
  | programLoad => exact execProgramLoad_frame
  | imageStage => exact execImageStage_frame
  | imageCommit => exact execImageCommit_frame
  | authPhase1 => exact execAuthPhase1_frame
  | authPhase2 => exact execAuthPhase2_frame
  | subscribe => exact execSubscribe_frame
  | ack => exact execAck_frame
  | close => exact execClose_frame
  | wake => exact execWake_frame
  | keySetDevice => exact execKeySetDevice_frame
  | keySetOwner => exact execKeySetOwner_frame
  | keepalive => exact execKeepalive_frame
  | responseQueued => exact execResponseQueued_frame
  | aslpFrameReceive => exact execAslpFrameReceive_frame
  | spiWrite => exact execSpiWrite_frame
  | spiRead => exact execSpiRead_frame
  | spiStatus => exact execSpiStatus_frame
  | spiWake => exact execSpiWake_frame
  | bootComplete => exact execBootComplete_frame
  | supervisorRestartDone => exact execSupervisorRestartDone_frame
  | controlPeriodBoundary => exact execControlPeriodBoundary_frame
  | metrologySample => exact execMetrologySample_frame

theorem exec_next (c : Instr) (s : State) : ∃ t, exec c s = .next t := by
  obtain ⟨t, ht, -⟩ := exec_frame c s
  exact ⟨t, ht⟩

theorem frame_of_exec {c : Instr} {s t : State} (h : exec c s = .next t) : Frame (scopeOf c) s t :=
  (h ▸ exec_frame c s).frame

/-- Settles O2: `exec_frame` gives the next state and the queue it leaves. -/
theorem commandsGoOnAndLeaveTheQueue : Obligations.CommandsGoOnAndLeaveTheQueue :=
  ⟨exec_next, fun _ _ _ h => (frame_of_exec h).waiting⟩

theorem step_of_pending_nil {s : State} (h : s.pending = []) : step s = .next s := by
  simp only [step, h]

theorem step_of_pending_cons {s : State} {c : Instr} {q : List Instr} (h : s.pending = c :: q) : step s = exec c s.popped := by
  simp only [step, h]

/-- Settles O1: the two cases of `step`. -/
theorem stepRunsTheFrontCommand : Obligations.StepRunsTheFrontCommand :=
  ⟨fun _ _ _ => step_of_pending_cons rfl, fun _ => step_of_pending_nil⟩

/-- Settles O3: taking the front command keeps the canonical form, and `exec_frame` keeps it through the command. -/
theorem stepsKeepCanonicalForm : Obligations.StepsKeepCanonicalForm := by
  intro s t hs h
  cases hq : s.pending with
  | nil =>
    rw [step_of_pending_nil hq, Host.Outcome.next.injEq] at h
    exact h ▸ hs
  | cons c q =>
    rw [step_of_pending_cons hq] at h
    exact (frame_of_exec h).wf hs

/-- Settles O10: the `rd` facet of `exec_frame`. -/
theorem commandsStayInTheirGroups : Obligations.CommandsStayInTheirGroups :=
  fun _ _ _ r h hr => (frame_of_exec h).rd r hr

end Sys2Proof.Machine

/-! PROOFS. A host's access to a word: what its address holds, and the pairs of words that go together (R4, R8, R13). -/

namespace Sys2Proof.Machine

/-- Settles O4: no register is listed and no byte is written, so every one reads as its reset value. -/
theorem resetState : Obligations.ResetState :=
  ⟨rfl, fun _ => rfl, fun _ => rfl, fun _ => rfl, rfl, rfl, rfl⟩

/-! Where an address lies. -/

theorem Reg.bounds_of_ofAddr {a : Nat} {r : Reg} (h : Reg.ofAddr a = some r) : a % 4 = 0 ∧ a < 0x120000 := by
  refine Decidable.byContradiction fun hn => ?_
  simp (disch := omega) only [Reg.ofAddr, if_neg, ite_self] at h
  exact nomatch h

theorem placeOf_of_unaligned {a : Nat} (h : a % 4 ≠ 0) : placeOf a = .none := if_pos h

theorem placeOf_of_ofAddr {a : Nat} {r : Reg} (h : Reg.ofAddr a = some r) : placeOf a = .reg r := by
  obtain ⟨h4, hlt⟩ := Reg.bounds_of_ofAddr h
  simp (disch := omega) only [placeOf, if_pos, if_neg, h]

theorem placeOf_addr {r : Reg} (hr : r ≠ .BT_PWMF 8) : placeOf r.addr = .reg r := placeOf_of_ofAddr (Reg.ofAddr_addr r hr)

theorem placeOf_of_ofAddr_none {a : Nat} (ha : a < 0x200000) (h : Reg.ofAddr a = none) : placeOf a = .none := by
  simp only [placeOf, if_pos ha, h, ite_self]

theorem placeOf_store {a : Nat} (h4 : a % 4 = 0) (hl : 0x200000 ≤ a) (hu : a < 0x280000) : placeOf a = .store := by
  simp (disch := omega) only [placeOf, if_pos, if_neg]

theorem placeOf_shadow {a : Nat} (h4 : a % 4 = 0) (hl : 0x310000 ≤ a) (hu : a < 0x320000) : placeOf a = .shadow := by
  simp (disch := omega) only [placeOf, if_pos, if_neg]

theorem placeOf_readOnly {a : Nat} (h4 : a % 4 = 0) (hl : 0x400000 ≤ a) (hu : a < 0xE00000) :
    placeOf a = .vault ∨ placeOf a = .cellar := by
  rcases Nat.lt_or_ge a 0x800000 with h | h
  · left
    simp (disch := omega) only [placeOf, if_pos, if_neg]
  · right
    simp (disch := omega) only [placeOf, if_pos, if_neg]

theorem placeOf_of_ge {a : Nat} (h : 0xE00000 ≤ a) : placeOf a = .none := by
  simp (disch := omega) only [placeOf, if_neg, ite_self]

theorem occupied_eq_false_iff {a : Nat} : occupied a = false ↔ placeOf a = .none := by
  simp only [occupied, decide_eq_false_iff_not, ne_eq, Decidable.not_not]

/-! What a host's access does at each place. -/

section
variable {s : State} {a : Nat} {r : Reg} {v : Word} {who : Option Sess}

theorem exec_registerWrite : exec (.registerWrite a v) s = .next (s.hostWrite none a v) := rfl

theorem exec_lowWordRead : exec (.lowWordRead a) s = .next (s.readAnswer a) := rfl

theorem State.hostWrite_of_reg (h : placeOf a = .reg r) : s.hostWrite who a v = s.regWrite who r v := by
  simp only [State.hostWrite, h]

theorem State.hostWrite_of_store (h : placeOf a = .store) : s.hostWrite who a v = s.storeWrite a [v] := by
  simp only [State.hostWrite, h]

theorem State.hostWrite_of_shadow (h : placeOf a = .shadow) : s.hostWrite who a v = s.shadowWrite a v := by
  simp only [State.hostWrite, h]

theorem State.hostWrite_of_readOnly (h : placeOf a = .vault ∨ placeOf a = .cellar) : s.hostWrite who a v = s.answer stOk := by
  rcases h with h | h
  · simp only [State.hostWrite, h]
  · simp only [State.hostWrite, h]

theorem State.hostWrite_of_none (h : placeOf a = .none) : s.hostWrite who a v = s.answer stAddress := by
  simp only [State.hostWrite, h]

theorem State.readAnswer_of_none (h : placeOf a = .none) : s.readAnswer a = s.answer stAddress := by
  simp only [State.readAnswer, State.hostRead, h]
  rfl

theorem State.readAnswer_of_reg (h : placeOf a = .reg r) :
    s.readAnswer a = (s.regRead r).2.answer stOk (bytesOf (s.regRead r).1) := by
  simp only [State.readAnswer, State.hostRead, h, if_true]

end

/-- Settles O7: `placeOf` says where the address lies, and `State.hostWrite` has one equation for each place. -/
theorem registerWriteByPlace : Obligations.RegisterWriteByPlace := by
  refine ⟨fun s r v hr => ?_, fun s a v h4 hl hu => ?_, fun s a v h4 hl hu => ?_, fun s a v h4 hl hu => ?_, fun s a v h => ?_⟩
  · rw [exec_registerWrite, State.hostWrite_of_reg (placeOf_addr hr)]
  · rw [exec_registerWrite, State.hostWrite_of_store (placeOf_store h4 hl hu)]
  · rw [exec_registerWrite, State.hostWrite_of_shadow (placeOf_shadow h4 hl hu)]
  · rw [exec_registerWrite, State.hostWrite_of_readOnly (placeOf_readOnly h4 hl hu)]
  · rw [exec_registerWrite, State.hostWrite_of_none (h.elim placeOf_of_unaligned placeOf_of_ge)]

theorem occupied_iff_of_lt {a : Nat} (ha : a < 0x200000) : occupied a = true ↔ a % 4 = 0 ∧ ∃ r, Reg.ofAddr a = some r := by
  cases h : Reg.ofAddr a with
  | none => simp [occupied, placeOf_of_ofAddr_none ha h]
  | some r => simp [occupied, placeOf_of_ofAddr h, (Reg.bounds_of_ofAddr h).1]

/-- Settles O8: off the grid and where nothing lies `placeOf` answers none; at a register it answers that register. -/
theorem accessErrorsChangeNothing : Obligations.AccessErrorsChangeNothing := by
  refine ⟨fun s a v h => ?_, fun a ha => occupied_iff_of_lt ha, fun s r hr => ?_⟩
  · have hp : placeOf a = .none := h.elim placeOf_of_unaligned occupied_eq_false_iff.1
    exact ⟨by rw [exec_registerWrite, State.hostWrite_of_none hp], by rw [exec_lowWordRead, State.readAnswer_of_none hp],
      rfl, fun _ _ => rfl, rfl⟩
  · refine ⟨_, exec_lowWordRead, ?_⟩
    rw [State.readAnswer_of_reg (placeOf_addr hr)]
    exact ⟨rfl, rfl, rfl⟩

/-! The pairs of R8. -/

section
variable {s : State} {lo hi : Reg}

theorem Reg.pairHigh_addr (h : lo.pairHigh = some hi) : hi.addr = lo.addr + 4 := by
  unfold Reg.pairHigh at h
  split at h
  case h_1 => exact Option.some.inj h ▸ rfl
  case h_6 => exact nomatch h
  all_goals
    cases h
    simp only [Reg.addr]
    omega

theorem Reg.pairLow_of_pairHigh (h : lo.pairHigh = some hi) : hi.pairLow = some lo := by
  unfold Reg.pairHigh at h
  split at h
  case h_6 => exact nomatch h
  all_goals
    cases h
    rfl

theorem Reg.pairHigh_of_pairLow (h : hi.pairLow = some lo) : hi.pairHigh = none := by
  unfold Reg.pairLow at h
  split at h
  case h_6 => exact nomatch h
  all_goals rfl

theorem State.regRead_low (h : lo.pairHigh = some hi) :
    s.regRead lo = (s.readReg lo, { s with held64 := regPut s.held64 hi (s.readReg hi) }) := by
  simp only [State.regRead, h]

theorem State.regRead_high (h : lo.pairHigh = some hi) :
    s.regRead hi = ((regFind s.held64 hi).getD (s.readReg hi), { s with held64 := regDrop s.held64 hi }) := by
  have hl := Reg.pairLow_of_pairHigh h
  simp only [State.regRead, Reg.pairHigh_of_pairLow hl, hl]

theorem Reg.ne_of_pairHigh (h : lo.pairHigh = some hi) : lo ≠ .BT_PWMF 8 ∧ hi ≠ .BT_PWMF 8 := by
  constructor
  · rintro rfl
    exact nomatch h
  · rintro rfl
    exact nomatch Reg.pairLow_of_pairHigh h

theorem State.readAnswer_low (h : lo.pairHigh = some hi) : s.readAnswer lo.addr =
    { s with held64 := regPut s.held64 hi (s.readReg hi) }.answer stOk (bytesOf (s.readReg lo)) := by
  rw [State.readAnswer_of_reg (placeOf_addr (Reg.ne_of_pairHigh h).1), State.regRead_low h]

theorem State.readAnswer_high (h : lo.pairHigh = some hi) : s.readAnswer hi.addr =
    { s with held64 := regDrop s.held64 hi }.answer stOk (bytesOf ((regFind s.held64 hi).getD (s.readReg hi))) := by
  rw [State.readAnswer_of_reg (placeOf_addr (Reg.ne_of_pairHigh h).2), State.regRead_high h]

end

/-! The counters, the pairs a host writes (R8, R167). -/

/-- The low word of a channel's counter. -/
def counterLow (n : Fin 128) (energy : Bool) : Reg := if energy then .CH_WH n else .CH_AH n

/-- The high word of a channel's counter. -/
def counterHigh (n : Fin 128) (energy : Bool) : Reg := if energy then .CH_WHH n else .CH_AHH n

section
variable {s : State} {n : Fin 128} {e : Bool} {v w : Word}

theorem pairHigh_counterLow : (counterLow n e).pairHigh = some (counterHigh n e) := by
  cases e
  · rfl
  · rfl

theorem State.hostWrite_counterLow :
    s.hostWrite none (counterLow n e).addr v = { s with low64 := regPut s.low64 (counterLow n e) v }.answer stOk := by
  rw [State.hostWrite_of_reg (placeOf_addr (Reg.ne_of_pairHigh pairHigh_counterLow).1)]
  cases e
  · rfl
  · rfl

theorem State.hostWrite_counterHigh : s.hostWrite none (counterHigh n e).addr w = s.highWrite n e w := by
  rw [State.hostWrite_of_reg (placeOf_addr (Reg.ne_of_pairHigh (pairHigh_counterLow (n := n) (e := e))).2)]
  cases e
  · rfl
  · rfl

theorem counterLow_ne_counterHigh : counterLow n e ≠ counterHigh n e := by
  cases e
  · exact nofun
  · exact nofun

theorem State.counterWrite_eq {k : Nat} : ∃ f, s.counterWrite n e k =
    (((s.modK n f).setWord (counterLow n e) (BitVec.ofNat 32 k)).setWord (counterHigh n e) (BitVec.ofNat 32 (k / 2 ^ 32))).answer
      stOk := by
  cases e
  · exact ⟨_, rfl⟩
  · exact ⟨_, rfl⟩

/-- A write of a counter sets its two words, no other register and no byte. -/
theorem State.counterWrite_words {k : Nat} :
    (s.counterWrite n e k).status = stOk ∧ (s.counterWrite n e k).word (counterLow n e) = BitVec.ofNat 32 k
      ∧ (s.counterWrite n e k).word (counterHigh n e) = BitVec.ofNat 32 (k / 2 ^ 32)
      ∧ (∀ r, r ≠ counterLow n e → r ≠ counterHigh n e → (s.counterWrite n e k).word r = s.word r)
      ∧ (s.counterWrite n e k).mem = s.mem := by
  obtain ⟨f, hf⟩ := State.counterWrite_eq (s := s) (n := n) (e := e) (k := k)
  rw [hf]
  refine ⟨State.status_answer, ?_, ?_, fun r hl hh => ?_, rfl⟩
  · rw [State.word_answer, State.word_setWord_other _ _ _ _ counterLow_ne_counterHigh, State.word_setWord_same]
  · rw [State.word_answer, State.word_setWord_same]
  · rw [State.word_answer, State.word_setWord_other _ _ _ _ hh, State.word_setWord_other _ _ _ _ hl, State.word_modK]

theorem State.highWrite_eq : s.highWrite n e w = { s with low64 := regDrop s.low64 (counterLow n e) }.counterWrite n e
    (((regFind s.low64 (counterLow n e)).getD (s.word (counterLow n e))).toNat + w.toNat * 2 ^ 32) := by
  simp only [State.highWrite, counterLow]

theorem ofNat_low_of_pair : BitVec.ofNat 32 (v.toNat + w.toNat * 2 ^ 32) = v := by
  apply BitVec.eq_of_toNat_eq
  rw [BitVec.toNat_ofNat, Nat.add_mul_mod_self_right, Nat.mod_eq_of_lt v.isLt]

theorem ofNat_high_of_pair : BitVec.ofNat 32 ((v.toNat + w.toNat * 2 ^ 32) / 2 ^ 32) = w := by
  rw [Nat.add_mul_div_right _ _ (Nat.two_pow_pos 32), Nat.div_eq_of_lt v.isLt, Nat.zero_add, BitVec.ofNat_toNat,
    BitVec.setWidth_eq]

/-- With its low word held, a write of the high word takes both. -/
theorem State.highWrite_of_low (h : regFind s.low64 (counterLow n e) = some v) :
    (s.highWrite n e w).status = stOk ∧ (s.highWrite n e w).word (counterLow n e) = v
      ∧ (s.highWrite n e w).word (counterHigh n e) = w
      ∧ (∀ r, r ≠ counterLow n e → r ≠ counterHigh n e → (s.highWrite n e w).word r = s.word r)
      ∧ (s.highWrite n e w).mem = s.mem := by
  have hc := State.counterWrite_words (s := { s with low64 := regDrop s.low64 (counterLow n e) }) (n := n) (e := e)
    (k := v.toNat + w.toNat * 2 ^ 32)
  rw [ofNat_low_of_pair, ofNat_high_of_pair] at hc
  rw [State.highWrite_eq, h, Option.getD_some]
  exact hc

end

theorem eq_counterLow {lo : Reg} (h : ∃ n, lo = .CH_AH n ∨ lo = .CH_WH n) : ∃ n e, lo = counterLow n e := by
  obtain ⟨n, rfl | rfl⟩ := h
  · exact ⟨n, false, rfl⟩
  · exact ⟨n, true, rfl⟩

/-- Settles O9: a read of a low word puts the high word's copy (`State.readAnswer_low`), the next read of the high word takes it
(`State.readAnswer_high`), and a counter's halves meet at its high word (`State.highWrite_of_low`). -/
theorem lowWordReadLatchesHigh : Obligations.LowWordReadLatchesHigh := by
  refine ⟨fun lo hi h => Reg.pairHigh_addr h, fun s lo hi h => ?_, fun s lo hi h hn => ?_, fun s lo hi v w hc h => ?_⟩
  · refine ⟨_, exec_lowWordRead, ?_⟩
    rw [State.readAnswer_low h]
    have hf : regFind (regPut s.held64 hi (s.readReg hi)) hi = some (s.readReg hi) := by rw [regFind_put, if_pos rfl]
    refine ⟨rfl, rfl, hf, fun _ => rfl, rfl, fun v => ⟨_, exec_lowWordRead, ?_⟩⟩
    rw [State.readAnswer_high h]
    refine ⟨?_, regFind_drop_same _ _⟩
    change bytesOf ((regFind (regPut s.held64 hi (s.readReg hi)) hi).getD _) = _
    rw [hf]
    rfl
  · refine ⟨_, exec_lowWordRead, ?_⟩
    rw [State.readAnswer_high h, hn]
    exact ⟨rfl, rfl, fun _ => rfl⟩
  · obtain ⟨n, e, rfl⟩ := eq_counterLow hc
    obtain rfl : counterHigh n e = hi := Option.some.inj (pairHigh_counterLow.symm.trans h)
    refine ⟨_, _, exec_registerWrite, ?_, ?_, ?_, exec_registerWrite, ?_⟩
    · rw [State.hostWrite_counterLow]
      rfl
    · rw [State.hostWrite_counterLow]
      exact fun _ => rfl
    · rw [State.hostWrite_counterLow]
      rfl
    · rw [State.hostWrite_counterHigh, State.hostWrite_counterLow]
      exact State.highWrite_of_low (by rw [State.low64_of_answer, regFind_put, if_pos rfl])

end Sys2Proof.Machine

/-! PROOFS. The calibration table: windows of memory that are copied, the words a write leaves, COPY, SWAP and the save (R42, R43,
R50–R53). -/

namespace Sys2Proof.Machine

/-! Windows of memory moved and replaced. -/

theorem memRead_append_of_left {l m : List Host.Cell} {x : Nat} (h : ∀ c ∈ l, c.1 ≠ x) : memRead (l ++ m) x = memRead m x := by
  induction l with
  | nil => rfl
  | cons c l ih =>
    rw [List.cons_append, memRead, if_neg (h c List.mem_cons_self)]
    exact ih fun d hd => h d (List.mem_cons_of_mem _ hd)

theorem memRead_append_of_right {l m : List Host.Cell} {x : Nat} (h : ∀ c ∈ m, c.1 ≠ x) : memRead (l ++ m) x = memRead l x := by
  induction l with
  | nil => simpa [memRead] using memRead_append_of_left (m := []) h
  | cons c l ih => rw [List.cons_append, memRead, memRead, ih]

theorem memRead_filter (l : List Host.Cell) (p : Nat → Bool) (x : Nat) :
    memRead (l.filter fun c => p c.1) x = if p x then memRead l x else memDefault := by
  induction l with
  | nil => simp [memRead]
  | cons c l ih =>
    obtain ⟨b, w⟩ := c
    rw [List.filter_cons]
    by_cases hb : b = x
    · subst hb
      cases hp : p b with
      | true => simp [memRead]
      | false => simpa [hp] using ih
    · cases hp : p b with
      | true => simpa [memRead, hb] using ih
      | false => simpa [memRead, hb] using ih

theorem memRead_map {l : List Host.Cell} {f : Nat → Nat} {x : Nat} (hf : ∀ c ∈ l, f c.1 = f x → c.1 = x) :
    memRead (l.map fun c => (f c.1, c.2)) (f x) = memRead l x := by
  induction l with
  | nil => rfl
  | cons c l ih =>
    obtain ⟨b, w⟩ := c
    have hb : f b = f x ↔ b = x := ⟨hf (b, w) List.mem_cons_self, fun h => h ▸ rfl⟩
    rw [List.map_cons]
    unfold memRead
    rw [ih fun d hd => hf d (List.mem_cons_of_mem _ hd)]
    simp only [hb]

/-- A window that is moved reads at its new place as it did at its old one. -/
theorem memRead_memMove (l : List Host.Cell) (a b : Nat) {n i : Nat} (hi : i < n) :
    memRead (memMove l a n b) (b + i) = memRead l (a + i) := by
  have hx : b + i = (a + i) - a + b := by omega
  unfold memMove
  rw [hx, memRead_map (f := fun x => x - a + b), memRead_filter l (fun x => decide (a ≤ x ∧ x < a + n)), if_pos]
  · exact decide_eq_true ⟨by omega, by omega⟩
  · intro c hc h
    have hc := of_decide_eq_true (List.mem_filter.1 hc).2
    omega

section
variable {l cells : List Host.Cell} {b n x : Nat}

theorem memRead_memReplace_inside (h : b ≤ x ∧ x < b + n) : memRead (memReplace l b n cells) x = memRead cells x := by
  unfold memReplace
  rw [memRead_append_of_right, memRead_append_of_left]
  · intro c hc
    have := of_decide_eq_true (List.mem_filter.1 hc).2
    omega
  · intro c hc
    have := of_decide_eq_true (List.mem_filter.1 hc).2
    omega

theorem memRead_memReplace_outside (hc : ∀ c ∈ cells, b ≤ c.1 ∧ c.1 < b + n) (h : x < b ∨ b + n ≤ x) :
    memRead (memReplace l b n cells) x = memRead l x := by
  have hx : ∀ c ∈ cells, c.1 ≠ x := fun c hm => by
    have := hc c hm
    omega
  unfold memReplace
  rcases h with h | h
  · rw [memRead_append_of_right, memRead_append_of_right hx, memRead_filter l fun y => decide (y < b), if_pos (decide_eq_true h)]
    intro c hc
    have := of_decide_eq_true (List.mem_filter.1 hc).2
    omega
  · rw [List.append_assoc, memRead_append_of_left, memRead_append_of_left hx, memRead_filter l fun y => decide (b + n ≤ y),
      if_pos (decide_eq_true h)]
    intro c hc
    have := of_decide_eq_true (List.mem_filter.1 hc).2
    omega

end
/-! A word written to memory, a flag set. -/

section
variable {s : State}

theorem State.byte_putMemWord_outside {a b : Nat} {w : Word} (h : b < a ∨ a + 4 ≤ b) : (s.putMemWord a w).byte b = s.byte b :=
  memRead_memWriteBytes_outside _ _ _ _ h

theorem State.byte_putMemWord {a k : Nat} {w : Word} (hs : s.wf = true) (hk : k < 4) :
    (s.putMemWord a w).byte (a + k) = (bytesOf w)[k]'hk := by
  simp only [State.wf, Bool.and_eq_true] at hs
  exact memRead_memWriteBytes_inside hs.1.2 a k (bytesOf w) hk

/-- A word written to the memory windows reads back. -/
theorem State.memWord_putMemWord {a : Nat} {w : Word} (hs : s.wf = true) : (s.putMemWord a w).memWord a = w := by
  have h0 : (s.putMemWord a w).byte a = BitVec.ofNat 8 w.toNat := State.byte_putMemWord hs (k := 0) (by omega)
  have h1 : (s.putMemWord a w).byte (a + 1) = BitVec.ofNat 8 (w.toNat / 2 ^ 8) := State.byte_putMemWord hs (by omega)
  have h2 : (s.putMemWord a w).byte (a + 2) = BitVec.ofNat 8 (w.toNat / 2 ^ 16) := State.byte_putMemWord hs (by omega)
  have h3 : (s.putMemWord a w).byte (a + 3) = BitVec.ofNat 8 (w.toNat / 2 ^ 24) := State.byte_putMemWord hs (by omega)
  apply BitVec.eq_of_toNat_eq
  have hw := w.isLt
  rw [State.memWord, h0, h1, h2, h3]
  simp only [BitVec.toNat_ofNat]
  omega

theorem State.memWord_congr {t : State} {a : Nat} (h : t.mem = s.mem) : t.memWord a = s.memWord a := by
  simp only [State.memWord, State.byte, h]

theorem State.flag_setFlag {f : Fld} {b : Bool} (h : f.lo + f.len ≤ 32) (hl : 0 < f.len) : (s.setFlag f b).flag f = b := by
  have h1 : 1 < 2 ^ f.len := Nat.one_lt_two_pow (by omega)
  unfold State.flag State.setFlag
  rw [State.fget_fset_same s f _ h]
  cases b
  · simp
  · simp [Nat.mod_eq_of_lt h1]

theorem Only.setFlag {t : State} (f : Fld) {b : Bool} (h : ∀ r, t.word r = s.word r) : Only s (t.setFlag f b) [f.reg] := by
  intro r hr
  exact (State.word_fset_other t f _ r fun e => hr (e ▸ List.mem_cons_self)).trans (h r)

theorem Only.answer {t : State} {rs : List Reg} {st : Nat} {d : List Byte} (h : Only s t rs) : Only s (t.answer st d) rs := h

end

/-! What a write leaves in a word of the calibration table (R42, R43, R6). -/

theorem getLsbD_maskOf_zero (len k : Nat) : (maskOf 0 len).getLsbD k = decide (k < 32 ∧ k < len) := by
  simp [maskOf, BitVec.getLsbD_ofNat, Nat.testBit_two_pow_sub_one]

section
variable {off : Nat} {old v : Word}

theorem shadowWord_of_gain (h : off % 8 = 0) : shadowWord off old v = (v, stOk) := if_pos h

/-- The upper bits of the word: the reserved ones are 0. -/
theorem bitsOf_table_src {x : Nat} (hx : x < 4) : bitsOf (putBits (v &&& maskOf 0 25) 25 2 x) 25 7 = x := by
  apply Nat.eq_of_testBit_eq
  intro k
  rw [testBit_bitsOf, getLsbD_putBits, BitVec.getLsbD_and, getLsbD_maskOf_zero]
  rcases Nat.lt_or_ge k 2 with hk | hk
  · simp [show k < 7 ∧ 25 + k < 32 ∧ 25 + k < 27 by omega]
  · have hx : x.testBit k = false := Nat.testBit_lt_two_pow (Nat.lt_of_lt_of_le hx (Nat.pow_le_pow_right (n := 2) (by decide) hk))
    simp [hx, show ¬ 25 + k < 27 by omega]

theorem bitsOf_table_value {x : Nat} : bitsOf (putBits (v &&& maskOf 0 25) 25 2 x) 0 24 = bitsOf v 0 24 := by
  rw [bitsOf_putBits_apart _ _ _ _ _ _ (by decide) (by decide)]
  apply Nat.eq_of_testBit_eq
  intro k
  rw [testBit_bitsOf, testBit_bitsOf, BitVec.getLsbD_and, getLsbD_maskOf_zero]
  by_cases hk : k < 24
  · simp [hk, show k < 32 ∧ k < 25 by omega]
  · simp [hk]

theorem putBits_table_src : putBits (v &&& maskOf 0 25) 25 2 (bitsOf v 25 2) = v &&& 0x07FFFFFF#32 := by
  have h27 : 0x07FFFFFF#32 = maskOf 0 27 := rfl
  apply BitVec.eq_of_getLsbD_eq
  intro k hk
  rw [getLsbD_putBits, testBit_bitsOf, BitVec.getLsbD_and, BitVec.getLsbD_and, h27, getLsbD_maskOf_zero, getLsbD_maskOf_zero]
  by_cases h : 25 ≤ k ∧ k < 27
  · simp [h, hk, show 25 + (k - 25) = k ∧ k - 25 < 2 by omega]
  · simp [h, hk, show k < 25 ↔ k < 27 by omega]

/-- The word of OFFSET, VALID and SRC, with VALID 0 in an entry of voltage range 3. -/
theorem shadowWord_of_valid (h : off % 8 ≠ 0) : shadowWord off old v =
    (let unused := decide (off / 0x100 % 2 = 0 ∧ off / 0x40 % 4 = 3)
     let w := putBits (v &&& maskOf 0 25) 25 2 (if bitsOf v 25 2 = 3 then bitsOf old 25 2 else bitsOf v 25 2)
     (if unused then putBits w 24 1 0 else w, if bitsOf v 25 2 = 3 ∨ (unused ∧ bitsOf v 24 1 = 1) then stReserved else stOk)) :=
  if_neg h

theorem shadowWord_of_src (h : off % 8 ≠ 0) (hv : bitsOf v 25 2 ≠ 3) (hu : off / 0x100 % 2 ≠ 0 ∨ off / 0x40 % 4 ≠ 3) :
    shadowWord off old v = (v &&& 0x07FFFFFF#32, stOk) := by
  have hn : ¬ (off / 0x100 % 2 = 0 ∧ off / 0x40 % 4 = 3) := by omega
  simp only [shadowWord_of_valid h, hn, hv, decide_false, if_false, putBits_table_src, Bool.false_eq_true, false_and, or_self]

theorem shadowWord_of_reserved (h : off % 8 ≠ 0) (hv : bitsOf v 25 2 = 3) :
    bitsOf (shadowWord off old v).1 0 24 = bitsOf v 0 24 ∧ bitsOf (shadowWord off old v).1 25 7 = bitsOf old 25 2
      ∧ (shadowWord off old v).2 = stReserved := by
  have hx : bitsOf old 25 2 < 4 := bitsOf_lt _ _ _
  simp only [shadowWord_of_valid h, hv, if_true, true_or]
  split
  · rw [bitsOf_putBits_apart _ 24 1 0 0 24 (by decide) (by decide), bitsOf_putBits_apart _ 24 1 0 25 7 (by decide) (by decide)]
    exact ⟨bitsOf_table_value, bitsOf_table_src hx, trivial⟩
  · exact ⟨bitsOf_table_value, bitsOf_table_src hx, trivial⟩

theorem shadowWord_of_unused (h : off % 8 ≠ 0) (h1 : off / 0x100 % 2 = 0) (h2 : off / 0x40 % 4 = 3) :
    bitsOf (shadowWord off old v).1 24 1 = 0 := by
  simp only [shadowWord_of_valid h, h1, h2, and_self, decide_true, if_true]
  exact bitsOf_putBits _ _ _ _ (by decide)

end

/-! The operations of the table (R50, R51, R53). -/

section
variable {s : State} {a : Nat} {v : Word}

theorem State.calCopy_of_busy (h : s.calBusy = true) : s.calCopy = s.answer stBusy := if_pos h

theorem State.calSwap_of_busy (h : s.calBusy = true) : s.calSwap = s.answer stBusy := if_pos h

theorem State.calCopy_of_idle (h : s.calBusy = false) : s.calCopy =
    ({ s with lane := { s.lane with copyAt := s.ctr + 1 } }.setFlag F.LN_CALSTAT_BUSY true).answer stOk := by
  simp only [State.calCopy, h, Bool.false_eq_true, if_false]

theorem State.calSwap_of_idle (h : s.calBusy = false) : s.calSwap = (s.setFlag F.LN_CALSTAT_SWPEND true).answer stOk := by
  simp only [State.calSwap, h, Bool.false_eq_true, if_false]

theorem State.calMirror_byte_shadow {i : Nat} (hi : i < 0x10000) : s.calMirror.byte (calShadow + i) = s.byte (calActive + i) := by
  unfold State.calMirror State.byte
  rw [memRead_memReplace_inside ⟨by omega, by omega⟩, memRead_memMove _ _ _ hi]

theorem State.calMirror_byte_other {b : Nat} (h : b < calShadow ∨ calShadow + 0x10000 ≤ b) : s.calMirror.byte b = s.byte b :=
  memRead_memReplace_outside (memMove_in _ _ _ _) h

theorem State.shadowWrite_of_busy (h : s.flag F.LN_CALSTAT_BUSY = true) : s.shadowWrite a v = s.answer stBusy := if_pos h

/-- While no copy runs the word is stored as `shadowWord` says, and nothing else. -/
theorem State.shadowWrite_of_idle (hs : s.wf = true) (h : s.flag F.LN_CALSTAT_BUSY = false) :
    (s.shadowWrite a v).memWord a = (shadowWord (a - calShadow) (s.memWord a) v).1
      ∧ (s.shadowWrite a v).status = (shadowWord (a - calShadow) (s.memWord a) v).2 ∧ Only s (s.shadowWrite a v) []
      ∧ ∀ b, b < a ∨ a + 4 ≤ b → (s.shadowWrite a v).byte b = s.byte b := by
  rcases hw : shadowWord (a - calShadow) (s.memWord a) v with ⟨w, st⟩
  have hm : (s.shadowWrite a v).mem = (s.putMemWord a w).mem := by
    rw [State.shadowWrite, h, hw]
    rfl
  refine ⟨?_, ?_, fun _ _ => State.shadowWrite_rd, fun b hb => ?_⟩
  · rw [State.memWord_congr hm, State.memWord_putMemWord hs]
  · rw [State.shadowWrite, h, hw]
    rfl
  · rw [State.byte, hm]
    exact State.byte_putMemWord_outside hb

theorem execShadowTableWrite_inside (h4 : a % 4 = 0) (hl : calShadow ≤ a) (hu : a < calShadow + 0x10000) :
    execShadowTableWrite a v s = .next (s.shadowWrite a v) := if_pos ⟨h4, hl, hu⟩

theorem execShadowTableWrite_outside (h : a % 4 ≠ 0 ∨ a < calShadow ∨ calShadow + 0x10000 ≤ a) :
    execShadowTableWrite a v s = .next (s.answer stAddress) := if_neg (by omega)

theorem execCalCopyDone_of_due (h : s.flag F.LN_CALSTAT_BUSY = true) (hc : s.lane.copyAt ≤ s.ctr) :
    execCalCopyDone s = .next (s.calMirror.setFlag F.LN_CALSTAT_BUSY false) := if_pos ⟨h, hc⟩

theorem execCalTableSave_of_due {d : Nat} (h : s.nv.calDue = some d) (hd : d ≤ s.ctr) : execCalTableSave s =
    .next { s with nv := { s.nv with calSaved := memMove s.mem calActive 0x10000 0, calDue := none, calLast := s.ctr } } := by
  simp only [execCalTableSave, h, if_pos hd]

/-- A save copies the active table, byte for byte. -/
theorem memRead_savedTable {i : Nat} (hi : i < 0x10000) : memRead (memMove s.mem calActive 0x10000 0) i = s.byte (calActive + i) := by
  have h := memRead_memMove s.mem calActive 0 hi
  rwa [Nat.zero_add] at h

end

/-- Settles O15: COPY and SWAP by `State.calBusy`, the end of a copy and the save by the window they move (`memRead_memMove`), a write
by `shadowWord`. -/
theorem calibrationTableOperations : Obligations.CalibrationTableOperations := by
  refine ⟨fun s h => ⟨_, rfl, ?_⟩, fun s h => ⟨_, rfl, ?_⟩,
    fun s h => ⟨congrArg _ (State.calCopy_of_busy h), congrArg _ (State.calSwap_of_busy h)⟩,
    fun s h hc => ⟨_, execCalCopyDone_of_due h hc, ?_⟩,
    fun s a v hs h4 hl hu h => ⟨_, execShadowTableWrite_inside h4 hl hu, State.shadowWrite_of_idle hs h⟩,
    fun off old v => shadowWord_of_gain, fun off old v => shadowWord_of_src, fun off old v => shadowWord_of_reserved,
    fun off old v => shadowWord_of_unused, fun s a v h4 hl hu h => ?_, fun s a v h => execShadowTableWrite_outside h,
    fun s d h hd => ⟨_, execCalTableSave_of_due h hd, rfl, rfl, fun _ _ => rfl, rfl, fun i hi => memRead_savedTable hi⟩⟩
  · rw [State.calCopy_of_idle h]
    exact ⟨State.flag_setFlag (by decide) (by decide), rfl, (Only.setFlag F.LN_CALSTAT_BUSY fun _ => rfl).answer, rfl⟩
  · rw [State.calSwap_of_idle h]
    exact ⟨State.flag_setFlag (by decide) (by decide), rfl, (Only.setFlag F.LN_CALSTAT_SWPEND fun _ => rfl).answer, rfl⟩
  · exact ⟨State.flag_setFlag (by decide) (by decide), Only.setFlag F.LN_CALSTAT_BUSY fun _ => rfl,
      fun i hi => State.calMirror_byte_shadow hi, fun a ha => State.calMirror_byte_other ha⟩
  · change execShadowTableWrite a v s = _
    rw [execShadowTableWrite_inside h4 hl hu, State.shadowWrite_of_busy h]

end Sys2Proof.Machine

/-! PROOFS. What events, records, parked channels, rails that go down and SHELF SAFE leave alone: the registers of `Reg.steady`, the
self-test's own state and the protection of every lane. -/

namespace Sys2Proof.Machine

/-- Registers of the measurement and the protection that no event, no closed step, no parked channel and no rail that goes down
writes. -/
def Reg.steady : Reg → Bool
  | .TS_HK => true
  | .HU_T => true
  | .CH_T _ => true
  | .CH_MSTAT _ => true
  | .CH_FAULT _ => true
  | .CH_CTCNT _ => true
  | _ => false

/-- From `s` to `t` the steady registers, the self-test's own state and the protection of every lane stand. -/
structure Steady (s t : State) : Prop where
  word : ∀ r, r.steady = true → t.word r = s.word r
  tst : t.tst = s.tst
  prot : ∀ n, (t.lane1 n).p = (s.lane1 n).p

section
variable {s t u : State}

theorem Steady.refl : Steady s s := ⟨fun _ _ => rfl, rfl, fun _ => rfl⟩

theorem Steady.trans (h : Steady s t) (h' : Steady t u) : Steady s u :=
  ⟨fun r hr => (h'.word r hr).trans (h.word r hr), h'.tst.trans h.tst, fun n => (h'.prot n).trans (h.prot n)⟩

/-- An update of fields that `Steady` does not speak of. -/
theorem Steady.update {old held64 low64 mem nv time ctr ctrPrev lockAt lockBy safeReq clrReq sh lane spare led fd fsel hu ax al sq
      boot clk mode ev link tw vault cellar maint status data free pending} (h : Steady s t) :
    Steady s ⟨t.regs, old, held64, low64, mem, nv, time, ctr, ctrPrev, lockAt, lockBy, safeReq, clrReq, t.ch, sh, lane, spare, led,
      fd, fsel, hu, ax, al, sq, boot, clk, mode, ev, link, tw, vault, cellar, t.tst, maint, status, data, free, pending⟩ :=
  ⟨h.word, h.tst, h.prot⟩

theorem Steady.setWord {q : Reg} {w : Word} (hq : q.steady = false) (h : Steady s t) : Steady s (t.setWord q w) :=
  h.trans ⟨fun r hr => State.word_setWord_other t q r w fun e => absurd (e ▸ hr) (ne_true_of_eq_false hq), rfl, fun _ => rfl⟩

theorem Steady.fset {f : Fld} {v : Nat} (hf : f.reg.steady = false) (h : Steady s t) : Steady s (t.fset f v) := h.setWord hf

theorem Steady.setFlag {f : Fld} {b : Bool} (hf : f.reg.steady = false) (h : Steady s t) : Steady s (t.setFlag f b) := h.setWord hf

theorem Steady.incSat {f : Fld} (hf : f.reg.steady = false) (h : Steady s t) : Steady s (t.incSat f) := h.setWord hf

theorem Steady.incWrap {f : Fld} (hf : f.reg.steady = false) (h : Steady s t) : Steady s (t.incWrap f) := h.setWord hf

/-- A lane changed, its protection apart. -/
theorem Steady.modCh {n : Fin 128} {f : Chan → Chan} (hf : ∀ c, (f c).p = c.p) (h : Steady s t) : Steady s (t.modCh n f) := by
  refine h.trans ⟨fun _ _ => rfl, rfl, fun m => ?_⟩
  by_cases hm : m = n
  · rw [hm, State.lane1_modCh_same, hf]
  · rw [State.lane1_modCh_other hm]

theorem Steady.modM {n : Fin 128} {f : ChMeas → ChMeas} (h : Steady s t) : Steady s (t.modM n f) := h.modCh fun _ => rfl
theorem Steady.modL {n : Fin 128} {f : ChLoop → ChLoop} (h : Steady s t) : Steady s (t.modL n f) := h.modCh fun _ => rfl
theorem Steady.modX {n : Fin 128} {f : ChCtx → ChCtx} (h : Steady s t) : Steady s (t.modX n f) := h.modCh fun _ => rfl
theorem Steady.modK {n : Fin 128} {f : ChMetric → ChMetric} (h : Steady s t) : Steady s (t.modK n f) := h.modCh fun _ => rfl
theorem Steady.modC {n : Fin 128} {f : ChCheck → ChCheck} (h : Steady s t) : Steady s (t.modC n f) := h.modCh fun _ => rfl

theorem Steady.ite {c : Prop} [Decidable c] (ht : Steady s t) (hu : Steady s u) : Steady s (if c then t else u) := by
  split
  · exact ht
  · exact hu

theorem Steady.each {α : Type} {l : List α} {f : α → State → State} (h : Steady s t) (hf : ∀ x u, Steady u (f x u)) :
    Steady s (t.each l f) := by
  induction l generalizing t with
  | nil => exact h
  | cons x l ih => exact ih (h.trans (hf x t))

end

section
variable {s : State} {n : Fin 128}

/-! Events and records (R336–R340, R402–R410). -/

theorem State.atticPut_steady {o : Occ} : Steady s (s.atticPut o) := by
  unfold State.atticPut
  refine .ite (.update .refl) (.ite ?_ (.incSat rfl (.setFlag rfl .refl)))
  split
  · exact .update (.incSat rfl (.setFlag rfl .refl))
  · exact .incSat rfl (.setFlag rfl .refl)

theorem State.vaultPut_steady {r : VRec} : Steady s (s.vaultPut r).1 := by
  unfold State.vaultPut
  split
  · exact .fset rfl (.update .refl)
  · exact .update (.incSat rfl (.fset rfl (.update .refl)))

theorem State.setSessAt_steady {k : Fin 9} {x : SessSt} : Steady s (s.setSessAt k x) := by
  unfold State.setSessAt
  split
  · exact .update .refl
  · exact .update .refl

theorem State.sessEvent_steady {o : Occ} {k : Fin 9} : Steady s (s.sessEvent o k) :=
  .ite (.ite (.incWrap rfl State.setSessAt_steady) State.setSessAt_steady) .refl

theorem State.notifyPut_steady {o : Occ} : Steady s (s.notifyPut o) :=
  .ite .refl (.ite (.update .refl) (.setFlag rfl .refl))

theorem State.recordOcc_steady {o : Occ} : Steady s (s.recordOcc o).1 := by
  unfold State.recordOcc
  split
  · exact .refl
  · exact State.vaultPut_steady

theorem State.routeOne_steady {o : Occ} : Steady s (s.routeOne o).1 := by
  unfold State.routeOne
  extract_lets i s1 w s2 ev s3 ev' s4 s5 s6
  have h1 : Steady s s1 := .incSat rfl .refl
  have h3 : Steady s s3 := .update (.setWord rfl h1)
  have h4 : Steady s s4 := .ite (.update h3) h3
  have h5 : Steady s s5 := .ite (.each h4 fun _ _ => State.sessEvent_steady) h4
  have h6 : Steady s s6 := .ite (h5.trans State.notifyPut_steady) h5
  split
  · split
    · exact h1.trans State.recordOcc_steady
    · exact h1
  · split
    · exact h6.trans State.recordOcc_steady
    · exact h6

theorem State.cellarTrigger_steady {cause stamp num : Nat} : Steady s (s.cellarTrigger cause stamp num).1 := by
  unfold State.cellarTrigger
  split
  · exact .update .refl
  · extract_lets cellar take
    have ht : ∀ k, Steady s (take k) := fun k => .setFlag rfl (.update .refl)
    split
    · exact ht _
    · split
      · exact ht _
      · exact .incSat rfl .refl

theorem State.route_steady {o : Occ} : Steady s (s.route o) := by
  unfold State.route
  have h2 : Steady s (if (s.routeOne o).2 = true then
      ((s.routeOne o).1.routeOne { num := 481, sev := 1, stamp := o.stamp, noRec := true, tunsync := o.tunsync }).1
      else (s.routeOne o).1) := .ite (State.routeOne_steady.trans State.routeOne_steady) State.routeOne_steady
  exact .ite (.ite (h2.trans (State.cellarTrigger_steady.trans State.routeOne_steady)) (h2.trans State.cellarTrigger_steady)) h2

theorem State.deepEvent_steady {sev : Nat} : Steady s (s.deepEvent sev) := .ite (.update .refl) .refl

theorem State.raiseOcc_steady {o : Occ} : Steady s (s.raiseOcc o) :=
  .ite (State.deepEvent_steady.trans State.atticPut_steady) (.ite (.update .refl) State.route_steady)

theorem State.raise_steady {num sev : Nat} {l : List Byte} : Steady s (s.raise num sev l) := State.raiseOcc_steady

theorem State.raiseReq_steady {num sev : Nat} {l : List Byte} : Steady s (s.raiseReq num sev l) := State.raiseOcc_steady

theorem State.record_steady {typ num sev stamp : Nat} {l : List Byte} : Steady s (s.record typ num sev stamp l) :=
  .ite (State.vaultPut_steady.trans State.routeOne_steady) State.vaultPut_steady

/-! The close of a step and the parking of a channel (R16, R18, R92, R121, R122). -/

theorem State.setTrec_steady {l : List Byte} : Steady s (s.setTrec n l) := .each .refl fun _ _ => .setWord rfl .refl

theorem State.queueItem_steady {it : RecItem} : Steady s (s.queueItem n it) :=
  .ite (.modX (.update .refl)) (.incSat rfl (.modX (.update .refl)))

theorem State.putRecord_steady {l : List Byte} {term close : Nat} : Steady s (s.putRecord n l term close) := by
  unfold State.putRecord
  extract_lets bs seq s1 s2
  have h2 : Steady s s2 := (Steady.modX (.fset rfl State.setTrec_steady)).trans State.queueItem_steady
  exact .ite (h2.trans State.record_steady) (.ite (h2.trans State.record_steady) h2)

theorem State.eisAbandon_steady : Steady s (s.eisAbandon n) := by
  unfold State.eisAbandon
  split
  · exact .refl
  · exact .setWord rfl (.setWord rfl (.setWord rfl (.setWord rfl (.setWord rfl (.modK (.modX (.update .refl)))))))

theorem State.closeStep_steady {term src sat close : Nat} {tm : Bool} : Steady s (s.closeStep n term src sat tm close) := by
  unfold State.closeStep
  split
  · exact .refl
  · extract_lets now s0 s1 s2 s3 s4 s5 s6 s7
    have h0 : Steady s s0 := .ite (.update .refl) .refl
    have h2 : Steady s s2 := .modX (h0.trans State.putRecord_steady)
    have h3 : Steady s s3 := .each (h2.trans State.eisAbandon_steady) fun _ _ => .modL (.modM .refl)
    have h4 : Steady s s4 := .modK h3
    have h5 : Steady s s5 := .ite (.modL h4) h4
    have h6 : Steady s s6 := .ite (.setFlag rfl h5) h5
    exact .setFlag rfl (.setFlag rfl (.fset rfl (.setFlag rfl h6)))

theorem State.quiet_steady : Steady s (s.quiet n) :=
  .setFlag rfl (.setFlag rfl (.setFlag rfl (.setWord rfl (.setFlag rfl (.setFlag rfl (.modM (.modC (.modX (.modL .refl)))))))))

theorem State.closeNow_steady {term src close : Nat} : Steady s (s.closeNow n term src close) := State.closeStep_steady

theorem State.park_steady {src close : Nat} : Steady s (s.park n src close) :=
  .fset rfl (State.closeNow_steady.trans State.quiet_steady)

theorem State.parkMember_steady : Steady s (s.parkMember n) := .ite (.fset rfl State.quiet_steady) .refl

theorem State.parkGang_steady {src close : Nat} : Steady s (s.parkGang n src close) :=
  .each State.park_steady fun _ _ => State.parkMember_steady

theorem State.parkForSafe_steady : Steady s (s.parkForSafe n) :=
  .ite .refl (.ite (.fset rfl State.quiet_steady) (State.parkGang_steady.trans State.raise_steady))

end

/-! SHELF SAFE (R21, R277, R295–R299, R332, R333). -/

section
variable {s : State} {e : Fin 24} {j : Fin 4}

theorem State.auxMid_steady : Steady s (s.auxMid j) :=
  .update (.setFlag rfl (.setFlag rfl (.setFlag rfl .refl)))

theorem State.auxOff_steady : Steady s (s.auxOff j) :=
  .ite (.trans (.setFlag rfl .refl) State.auxMid_steady) (.fset rfl (.trans (.setFlag rfl .refl) State.auxMid_steady))

theorem State.modSq_steady {f : RailSt → RailSt} : Steady s (s.modSq e f) := .update .refl

theorem State.railTo_steady {st : Nat} : Steady s (s.railTo e st) := by
  unfold State.railTo
  extract_lets s1 s2
  have h2 : Steady s s2 := .setFlag rfl (.trans (.fset rfl .refl) State.modSq_steady)
  exact .ite (h2.trans (.ite State.auxOff_steady .refl)) h2

theorem State.railOff_steady : Steady s (s.railOff e) :=
  .ite (State.railTo_steady.trans State.modSq_steady) (State.railTo_steady.trans State.modSq_steady)

theorem State.railStart_steady : Steady s (s.railStart e) := by
  unfold State.railStart
  extract_lets v s1 j s2
  have h1 : Steady s s1 := .trans (.setFlag rfl .refl) State.railTo_steady
  have h2 : Steady s s2 := .setFlag rfl h1
  exact .ite h1 (.ite .refl (.ite (.update h2) h2))

theorem State.railTurn_steady : Steady s (s.railTurn e) :=
  .ite .refl (.ite (.ite (.ite State.modSq_steady State.railOff_steady) (.ite State.railStart_steady .refl))
    (.ite (.ite State.railOff_steady .refl) (.ite (.ite (.ite .refl State.railTo_steady)
      (.ite .refl (.setFlag rfl (State.railTo_steady.trans State.modSq_steady)))) .refl)))

theorem State.railsDone_steady : Steady s s.railsDone :=
  .ite (.ite (.trans (.fset rfl .refl) State.raise_steady) .refl)
    (.ite (.ite (.trans (.fset rfl (.update .refl)) State.raise_steady) .refl) .refl)

theorem State.railSweep_steady : Steady s s.railSweep :=
  Steady.trans (.each (l := List.range 24) (f := fun _ t => t.each rails fun e u => u.railTurn e) .refl
    fun _ _ => .each .refl fun _ _ => State.railTurn_steady) State.railsDone_steady

theorem State.railsSafe_steady : Steady s s.railsSafe :=
  Steady.trans (.each .refl fun _ _ => .ite .refl State.modSq_steady) State.railSweep_steady

theorem State.auxSafe_steady : Steady s s.auxSafe :=
  .trans (.fset rfl (.each .refl fun _ _ => .ite State.auxOff_steady .refl)) State.auxOff_steady

theorem State.stopShelfProgram_steady : Steady s s.stopShelfProgram :=
  .update (.setFlag rfl (.setFlag rfl .refl))

theorem State.freezeHalt_steady : Steady s s.freezeHalt := by
  unfold State.freezeHalt
  split
  · exact .refl
  · split
    · exact .ite (.update .refl) .refl
    · exact .update (.fset rfl (.setFlag rfl (.update .refl)))

theorem State.trigger_steady {cause : Nat} : Steady s (s.trigger cause) :=
  .ite (State.cellarTrigger_steady.trans State.raise_steady) State.cellarTrigger_steady

theorem State.safeEntry_steady {cause : Nat} : Steady s (s.safeEntry cause) := by
  unfold State.safeEntry
  extract_lets before s1 s2 s3 s4 s5 s6
  have h1 : Steady s s1 := .each .refl fun _ _ => State.parkForSafe_steady
  have h4 : Steady s s4 :=
    .trans (.incSat rfl (.fset rfl (.setFlag rfl (.fset rfl (h1.trans State.stopShelfProgram_steady))))) State.raiseReq_steady
  have h5 : Steady s s5 := .ite (h4.trans State.freezeHalt_steady) (h4.trans State.trigger_steady)
  exact .update (h5.trans (State.auxSafe_steady.trans State.railsSafe_steady))

theorem State.beginAgingExit_steady : Steady s s.beginAgingExit := by
  unfold State.beginAgingExit
  split
  · exact .refl
  · exact .update .refl

theorem State.beginWake_steady : Steady s s.beginWake := by
  unfold State.beginWake
  split
  · exact .refl
  · exact .update .refl

theorem State.leaveSleep_steady : Steady s s.leaveSleep :=
  .ite State.beginAgingExit_steady (.ite State.beginWake_steady .refl)

theorem State.enterSafe_steady {cause : Nat} : Steady s (s.enterSafe cause) :=
  .ite (.update State.leaveSleep_steady) (.ite (.update (.fset rfl .refl)) State.safeEntry_steady)

end

end Sys2Proof.Machine

/-! PROOFS. A latched cause, and the trip of a channel that is no member of a gang (R16, R73, R92, R95, R112). -/

namespace Sys2Proof.Machine

/-! A latched cause of CH_FAULT (R112): the bit is set, no other bit is cleared, FIRST keeps the first. -/

section
variable {s : State} {n : Fin 128}

theorem State.flag_bit {r : Reg} {b : Nat} : s.flag ⟨r, b, 1⟩ = (s.word r).getLsbD b := by
  have h := testBit_bitsOf (s.word r) b 1 0
  have hlt : bitsOf (s.word r) b 1 < 2 := bitsOf_lt _ _ _
  simp only [Nat.lt_one_iff, decide_true, Bool.true_and, Nat.add_zero, Nat.testBit_zero] at h
  rw [← h]
  exact decide_eq_decide.2 (by simp only [State.fget]; omega)

theorem State.flag_fset_apart {f : Fld} {r : Reg} {b v : Nat} (hb : b < 32) (h : r ≠ f.reg ∨ b < f.lo ∨ f.lo + f.len ≤ b) :
    (s.fset f v).flag ⟨r, b, 1⟩ = s.flag ⟨r, b, 1⟩ := by
  simp only [State.flag]
  rcases h with h | h
  · rw [State.fget_fset_reg _ _ _ _ h]
  · rw [State.fget_fset_apart _ _ _ _ (by simp only; omega) (by simp only; omega)]

theorem State.latchBeside_flag {k b : Nat} (hb : b < 16) :
    (s.latchBeside n k).flag ⟨.CH_FAULT n, b, 1⟩ = (s.flag ⟨.CH_FAULT n, b, 1⟩ || decide (k = b)) := by
  have h1 : (s.setWord (.CH_FAULT n) (s.word (.CH_FAULT n) ||| BitVec.ofNat 32 (2 ^ k))).flag ⟨.CH_FAULT n, b, 1⟩
      = (s.flag ⟨.CH_FAULT n, b, 1⟩ || decide (k = b)) := by
    rw [State.flag_bit, State.flag_bit, State.word_setWord_same, BitVec.getLsbD_or, BitVec.getLsbD_ofNat, Nat.testBit_two_pow]
    simp [show b < 32 by omega]
  unfold State.latchBeside
  split
  · exact (State.flag_fset_apart (by omega) (by simp only; omega)).trans h1
  · exact h1

theorem State.latchBeside_first {k : Nat} (hk : k < 16) : (s.latchBeside n k).fget (F.CH_FAULT_FIRST n) =
    if s.fget (F.CH_FAULT_FIRST n) = 0 then k + 1 else s.fget (F.CH_FAULT_FIRST n) := by
  have h1 : (s.setWord (.CH_FAULT n) (s.word (.CH_FAULT n) ||| BitVec.ofNat 32 (2 ^ k))).fget (F.CH_FAULT_FIRST n)
      = s.fget (F.CH_FAULT_FIRST n) := by
    refine Nat.eq_of_testBit_eq fun i => ?_
    simp only [State.fget, testBit_bitsOf, State.word_setWord_same, BitVec.getLsbD_or, BitVec.getLsbD_ofNat, Nat.testBit_two_pow]
    simp [show k ≠ 16 + i by omega]
  unfold State.latchBeside
  split
  · rw [State.fget_fset_same _ _ _ (by simp)]
    exact Nat.mod_eq_of_lt (by simp only; omega)
  · exact h1

theorem State.latchBeside_word {k : Nat} {r : Reg} (hr : r ≠ .CH_FAULT n) : (s.latchBeside n k).word r = s.word r := by
  unfold State.latchBeside
  split
  · rw [State.word_fset_other _ _ _ _ hr, State.word_setWord_other _ _ _ _ hr]
  · rw [State.word_setWord_other _ _ _ _ hr]

theorem State.latchBeside_lane {k : Nat} {m : Fin 128} : (s.latchBeside n k).lane1 m = s.lane1 m := by
  unfold State.latchBeside
  split
  · rfl
  · rfl

theorem State.latch_eq {k t : Nat} : s.latch n k t =
    let c := firstCause (s.fget (F.CH_FAULT_FIRST n)) (s.lane1 n).p.firstAt (k + 1) (s.time + t)
    ((s.latchBeside n k).fset (F.CH_FAULT_FIRST n) c.1).modP n fun p => { p with firstAt := c.2 } := rfl

theorem State.latch_flag {k b t : Nat} (hb : b < 16) :
    (s.latch n k t).flag ⟨.CH_FAULT n, b, 1⟩ = (s.flag ⟨.CH_FAULT n, b, 1⟩ || decide (k = b)) :=
  (State.flag_fset_apart (by omega) (by simp only; omega)).trans (State.latchBeside_flag hb)

theorem State.latch_first {k t : Nat} (hk : k < 16) (h : s.fget (F.CH_FAULT_FIRST n) = 0) :
    (s.latch n k t).fget (F.CH_FAULT_FIRST n) = k + 1 := by
  rw [State.latch_eq, firstCause, if_pos (Or.inl h)]
  exact (State.fget_fset_same _ _ _ (by simp)).trans (Nat.mod_eq_of_lt (by simp only; omega))

theorem State.latch_word {k t : Nat} {r : Reg} (hr : r ≠ .CH_FAULT n) : (s.latch n k t).word r = s.word r :=
  (State.word_fset_other _ _ _ _ hr).trans (State.latchBeside_word hr)

/-- A cause latched leaves of a lane's protection all but the time of the first cause. -/
theorem State.latch_prot {k t : Nat} {m : Fin 128} : ∃ a, ((s.latch n k t).lane1 m).p = { (s.lane1 m).p with firstAt := a } := by
  by_cases hm : m = n
  · subst hm
    exact ⟨_, by rw [State.latch_eq, State.lane1_modP_same, State.lane1_fset, State.latchBeside_lane]⟩
  · refine ⟨(s.lane1 m).p.firstAt, ?_⟩
    rw [State.latch_eq, State.lane1_modP_other hm, State.lane1_fset, State.latchBeside_lane]

/-! A trip (R73, R95, R112): its bits latched one after another, the first as its cause. -/

theorem State.each_induction {α : Type} {P : State → Prop} {l : List α} {f : α → State → State} (h : P s)
    (hf : ∀ x ∈ l, ∀ t, P t → P (f x t)) : P (s.each l f) := by
  induction l generalizing s with
  | nil => exact h
  | cons x l ih => exact ih (hf x List.mem_cons_self s h) fun y hy => hf y (List.mem_cons_of_mem x hy)

/-- What every step of a loop leaves, the loop leaves. -/
theorem State.each_view {α β : Type} {V : State → β} {l : List α} {f : α → State → State}
    (hf : ∀ x ∈ l, ∀ t, V (f x t) = V t) : V (s.each l f) = V s :=
  State.each_induction (P := fun t => V t = V s) rfl fun x hx t h => (hf x hx t).trans h

theorem State.each_latchBeside_flag {l : List Nat} {b : Nat} (hb : b < 16) :
    (s.each l fun k t => t.latchBeside n k).flag ⟨.CH_FAULT n, b, 1⟩ = (s.flag ⟨.CH_FAULT n, b, 1⟩ || decide (b ∈ l)) := by
  induction l generalizing s with
  | nil => simp [State.each]
  | cons k l ih =>
    refine (ih (s := s.latchBeside n k)).trans ?_
    rw [State.latchBeside_flag hb]
    simp [Bool.or_assoc, eq_comm]

theorem State.each_latchBeside_first {l : List Nat} (hl : ∀ k ∈ l, k < 16) (h : s.fget (F.CH_FAULT_FIRST n) ≠ 0) :
    (s.each l fun k t => t.latchBeside n k).fget (F.CH_FAULT_FIRST n) = s.fget (F.CH_FAULT_FIRST n) := by
  induction l generalizing s with
  | nil => rfl
  | cons k l ih =>
    have h1 : (s.latchBeside n k).fget (F.CH_FAULT_FIRST n) = s.fget (F.CH_FAULT_FIRST n) := by
      rw [State.latchBeside_first (hl k List.mem_cons_self), if_neg h]
    exact (ih (fun x hx => hl x (List.mem_cons_of_mem k hx)) (h1 ▸ h)).trans h1

variable {k : Nat} {l : List Nat} {chk : Bool} {t : Nat}

/-- The bits a trip latches beside its cause: those it names, and during the check CHK. -/
def besideBits (l : List Nat) (chk : Bool) : List Nat := l ++ if chk then [10] else []

theorem besideBits_lt (hl : ∀ x ∈ l, x < 16) : ∀ x ∈ besideBits l chk, x < 16 := by
  intro x hx
  rcases List.mem_append.1 hx with h | h
  · exact hl x h
  · cases chk
    · cases h
    · rw [List.mem_singleton.1 h]
      decide

theorem State.latchTrip_eq : s.latchTrip n (k :: l) chk t =
    let u := (s.latch n k t).each (besideBits l chk) fun b u => u.latchBeside n b
    if chk then u.fset (F.CH_STATE_CHK n) 7 else u := by
  cases chk
  · simp [State.latchTrip, besideBits, State.each]
  · simp [State.latchTrip, besideBits, State.each]

/-- A property of the latched bits that CHK's code leaves alone. -/
theorem State.latchTrip_cases {P : State → Prop}
    (h : P ((s.latch n k t).each (besideBits l chk) fun b u => u.latchBeside n b))
    (hc : ∀ u, P u → P (u.fset (F.CH_STATE_CHK n) 7)) : P (s.latchTrip n (k :: l) chk t) := by
  rw [State.latchTrip_eq]
  dsimp only
  split
  · exact hc _ h
  · exact h

theorem State.latchTrip_flag {b : Nat} (hb : b < 16) (h : b ∈ k :: l) :
    (s.latchTrip n (k :: l) chk t).flag ⟨.CH_FAULT n, b, 1⟩ = true := by
  refine State.latchTrip_cases (P := fun u => u.flag ⟨.CH_FAULT n, b, 1⟩ = true) ?_
    fun u hu => (State.flag_fset_apart (by omega) (.inl (by simp))).trans hu
  rw [State.each_latchBeside_flag hb, State.latch_flag hb]
  rcases List.mem_cons.1 h with e | e
  · simp [e]
  · simp [besideBits, e]

theorem State.latchTrip_first (hl : ∀ x ∈ k :: l, x < 16) (h : s.fget (F.CH_FAULT_FIRST n) = 0) :
    (s.latchTrip n (k :: l) chk t).fget (F.CH_FAULT_FIRST n) = k + 1 := by
  have h1 := State.latch_first (t := t) (hl k List.mem_cons_self) h
  refine State.latchTrip_cases (P := fun u => u.fget (F.CH_FAULT_FIRST n) = k + 1) ?_
    fun u hu => (State.fget_fset_reg _ _ _ _ (by simp)).trans hu
  rw [State.each_latchBeside_first (besideBits_lt fun x hx => hl x (List.mem_cons_of_mem k hx)) (by rw [h1]; omega), h1]

theorem State.latchTrip_word {r : Reg} (hr : r ≠ .CH_FAULT n) (hs : r ≠ .CH_STATE n) :
    (s.latchTrip n (k :: l) chk t).word r = s.word r :=
  State.latchTrip_cases (P := fun u => u.word r = s.word r)
    ((State.each_view (V := fun u => u.word r) fun _ _ _ => State.latchBeside_word hr).trans (State.latch_word hr))
    fun _ hu => (State.word_fset_other _ _ _ _ hs).trans hu

theorem State.latchTrip_chState : (s.latchTrip n (k :: l) chk t).chState n = s.chState n := by
  refine State.latchTrip_cases (P := fun u => u.chState n = s.chState n) ?_
    fun u hu => (State.fget_fset_apart _ _ _ _ (by simp) (by simp)).trans hu
  simp only [State.chState, State.fget]
  rw [State.each_view (V := fun u => u.word (.CH_STATE n)) fun _ _ _ => State.latchBeside_word (by simp), State.latch_word (by simp)]

theorem State.latchTrip_prot {m : Fin 128} :
    ∃ a, ((s.latchTrip n (k :: l) chk t).lane1 m).p = { (s.lane1 m).p with firstAt := a } := by
  obtain ⟨a, ha⟩ := State.latch_prot (s := s) (n := n) (k := k) (t := t) (m := m)
  refine ⟨a, State.latchTrip_cases (P := fun u => (u.lane1 m).p = { (s.lane1 m).p with firstAt := a }) ?_ fun u hu => hu⟩
  rw [State.each_view (V := fun u => u.lane1 m) fun _ _ _ => State.latchBeside_lane, ha]

/-! The tripped channel is PARKED (R16, R18, R92). -/

theorem State.quiet_word {m : Fin 128} (h : m ≠ n) : (s.quiet n).word (.CH_STATE m) = s.word (.CH_STATE m) := by
  simp [State.quiet, State.setFlag, State.word_fset_other, State.word_setWord_other, h]

theorem State.parkMember_parked {m : Fin 128} (h : s.chState n = stPARKED) : (s.parkMember m).chState n = stPARKED := by
  by_cases hm : n = m
  · subst hm
    rw [State.parkMember, if_neg (by rw [h]; decide), h]
  · have hs : Reg.CH_STATE n ≠ .CH_STATE m := fun e => hm (Reg.CH_STATE.inj e)
    unfold State.parkMember
    split
    · refine (State.fget_fset_reg _ _ _ _ hs).trans ?_
      rw [State.fget, State.quiet_word hm]
      exact h
    · exact h

theorem State.parkGang_parked {src close : Nat} : (s.parkGang n src close).chState n = stPARKED := by
  refine State.each_induction (P := fun t => t.chState n = stPARKED) ?_ fun m _ t h => State.parkMember_parked h
  exact (State.fget_fset_same _ _ _ (by simp)).trans (by simp)

theorem State.parkTripped_of_single (hg : s.flag (F.CH_GANG_MEMBER n) = false) (hp : s.chState n ≠ stPARKED)
    (ha : s.chState n ≠ stABSENT) : s.parkTripped n = s.parkGang n 5 s.nextBoundary := by
  rw [State.parkTripped, if_neg (by simp [hg]), if_neg (by simp [hp, ha])]

end
end Sys2Proof.Machine

/-! PROOFS. The break of a contact and the close of its estimate (R105, R110, R112). -/

namespace Sys2Proof.Machine

/-! CONTACT_BREAK and CT_ESTIMATE_CLOSE (R105, R110, R112). -/

section
variable {s : State} {n : Fin 128}

@[simp] theorem State.lane1_raiseOcc {o : Occ} {m : Fin 128} : (s.raiseOcc o).lane1 m = s.lane1 m := by
  change (s.raiseOcc o).chv[m] = s.chv[m]
  rw [State.raiseOcc_chv]

@[simp] theorem State.lane1_raise {num sev : Nat} {l : List Byte} {m : Fin 128} : (s.raise num sev l).lane1 m = s.lane1 m :=
  State.lane1_raiseOcc

theorem State.leader_of_single (h : s.flag (F.CH_GANG_MEMBER n) = false) : s.leader n = n := if_neg (by simp [h])

theorem State.fget_incSat {f : Fld} (h : f.lo + f.len ≤ 32) : (s.incSat f).fget f = min (s.fget f + 1) (2 ^ f.len - 1) := by
  have hp : 0 < 2 ^ f.len := Nat.two_pow_pos _
  exact (State.fget_fset_same _ _ _ h).trans (Nat.mod_eq_of_lt (by omega))

/-- R105, R110: the run becomes a qualified break with an open estimate. -/
def State.ctBroken (s : State) (n : Fin 128) : State := s.modP n fun p => { p with ctOpen := true, ctN := 0 }

/-- R112: the bits a break latches, its cause first: CT, in soft start after SS. -/
def ctBits (ss : Bool) : List Nat := if ss then [7, 5] else [5]

theorem ctBits_cons (ss : Bool) :
    ∃ k l, ctBits ss = k :: l ∧ (∀ x ∈ k :: l, x < 16) ∧ 5 ∈ k :: l ∧ k = if ss then 7 else 5 := by
  cases ss
  · exact ⟨5, [], rfl, by decide, by decide, rfl⟩
  · exact ⟨7, [5], rfl, by decide, by decide, rfl⟩

/-- R16, R112: a channel that is no member is PARKED by a trip without its event, its bits latched, the first as the cause where there
was none. -/
theorem State.tripSilent_single {k t : Nat} {l : List Nat} (hl : ∀ x ∈ k :: l, x < 16)
    (hg : s.flag (F.CH_GANG_MEMBER n) = false) (hp : s.chState n ≠ stPARKED) (ha : s.chState n ≠ stABSENT) :
    (s.tripSilent n (k :: l) t).chState n = stPARKED
      ∧ (∀ b ∈ k :: l, (s.tripSilent n (k :: l) t).flag ⟨.CH_FAULT n, b, 1⟩ = true)
      ∧ (s.fget (F.CH_FAULT_FIRST n) = 0 → (s.tripSilent n (k :: l) t).fget (F.CH_FAULT_FIRST n) = k + 1)
      ∧ (s.tripSilent n (k :: l) t).word (.CH_CTCNT n) = s.word (.CH_CTCNT n)
      ∧ ∃ a, ((s.tripSilent n (k :: l) t).lane1 n).p = { (s.lane1 n).p with firstAt := a } := by
  have hst := State.latchTrip_chState (s := s) (n := n) (k := k) (l := l) (chk := s.checking n) (t := t)
  have hm : (s.latchTrip n (k :: l) (s.checking n) t).flag (F.CH_GANG_MEMBER n) = false := by
    rw [State.flag, State.fget, State.latchTrip_word (by simp) (by simp)]
    exact hg
  have hpark : s.tripSilent n (k :: l) t = (s.latchTrip n (k :: l) (s.checking n) t).parkGang n 5
      (s.latchTrip n (k :: l) (s.checking n) t).nextBoundary := State.parkTripped_of_single hm (hst ▸ hp) (hst ▸ ha)
  have hk := State.parkGang_steady (s := s.latchTrip n (k :: l) (s.checking n) t) (n := n) (src := 5)
    (close := (s.latchTrip n (k :: l) (s.checking n) t).nextBoundary)
  rw [hpark]
  obtain ⟨a, hprot⟩ := State.latchTrip_prot (s := s) (n := n) (k := k) (l := l) (chk := s.checking n) (t := t) (m := n)
  refine ⟨State.parkGang_parked, fun b hb => ?_, fun h0 => ?_, ?_, a, (hk.prot n).trans hprot⟩
  · rw [State.flag, State.fget, hk.word _ rfl]
    exact State.latchTrip_flag (hl b hb) hb
  · rw [State.fget, hk.word _ rfl]
    exact State.latchTrip_first hl h0
  · rw [hk.word _ rfl, State.latchTrip_word (by simp) (by simp)]

theorem execContactBreak_of_run (h3 : 3 ≤ (s.lane1 n).p.ctN) (ho : (s.lane1 n).p.ctOpen = false)
    (he : s.eff (F.CT_DELTA_CTEN n) = 1) : ∃ t, execContactBreak n s =
      .next (((s.ctBroken n).tripSilent n (ctBits (s.flag (F.CH_STATE_SS (s.leader n)))) t).incSat (F.CH_CTCNT_TRIPS n)) :=
  ⟨_, if_pos ⟨h3, by simp [ho], he⟩⟩

/-- R105, R112: the break of a channel that is no member: CT, in soft start after SS; one trip more. -/
theorem contactBreak_trips (h3 : 3 ≤ (s.lane1 n).p.ctN) (ho : (s.lane1 n).p.ctOpen = false)
    (he : s.eff (F.CT_DELTA_CTEN n) = 1) (hg : s.flag (F.CH_GANG_MEMBER n) = false) (hp : s.chState n ≠ stPARKED)
    (ha : s.chState n ≠ stABSENT) :
    ∃ t, exec (.contactBreak n) s = .next t ∧ t.chState n = stPARKED ∧ (t.lane1 n).p.ctOpen = true ∧ (t.lane1 n).p.ctN = 0
      ∧ t.flag (F.CH_FAULT_CT n) = true ∧ t.fget (F.CH_CTCNT_TRIPS n) = min (s.fget (F.CH_CTCNT_TRIPS n) + 1) 65535
      ∧ (s.flag (F.CH_STATE_SS n) = true → t.flag (F.CH_FAULT_SS n) = true
          ∧ (s.fget (F.CH_FAULT_FIRST n) = 0 → t.fget (F.CH_FAULT_FIRST n) = 8))
      ∧ (s.flag (F.CH_STATE_SS n) = false → s.fget (F.CH_FAULT_FIRST n) = 0 → t.fget (F.CH_FAULT_FIRST n) = 6) := by
  obtain ⟨at_, hx⟩ := execContactBreak_of_run h3 ho he
  obtain ⟨k, l, hb, hl, h5, hk⟩ := ctBits_cons (s.flag (F.CH_STATE_SS n))
  obtain ⟨hst, hbits, hfirst, hcnt, a, hprot⟩ := State.tripSilent_single (s := s.ctBroken n) (n := n) (t := at_) hl hg hp ha
  rw [State.leader_of_single hg, hb] at hx
  rw [State.ctBroken, State.lane1_modP_same] at hprot
  have hother (f : Fld) (hf : f.reg ≠ .CH_CTCNT n) (u : State) : (u.incSat (F.CH_CTCNT_TRIPS n)).fget f = u.fget f :=
    State.fget_fset_reg _ _ _ _ hf
  refine ⟨_, hx, (hother _ (by simp) _).trans hst, congrArg ChProt.ctOpen hprot, congrArg ChProt.ctN hprot, ?_, ?_,
    fun hss => ⟨?_, fun h0 => ?_⟩, fun hss h0 => ?_⟩
  · rw [State.flag, hother _ (by simp)]
    exact hbits 5 h5
  · rw [State.fget_incSat (by simp), State.fget, hcnt]
    rfl
  · rw [State.flag, hother _ (by simp)]
    refine hbits 7 ?_
    rw [hss] at hk
    exact hk ▸ List.mem_cons_self
  · rw [hother _ (by simp), hfirst h0, hk, hss]
    rfl
  · rw [hother _ (by simp), hfirst h0, hk, hss]
    rfl

/-! CT_ESTIMATE_CLOSE (R110). -/

/-- R110: the estimate exceeds EMAX. -/
def State.ctExceeds (s : State) (n : Fin 128) : Bool := decide (s.eff (F.CT_EMAX_EMAX n) * 10 ^ 19 < (s.lane1 n).p.ctSum)

/-- R110: the energy and the number of samples a closing estimate shows. -/
def State.ctShow (s : State) (n : Fin 128) : State :=
  (s.fset (F.CH_CTLAST_EEST n) (min ((s.lane1 n).p.ctSum / 10 ^ 18) (2 ^ 24 - 1))).fset (F.CH_CTLAST_NSMP n)
    (min (s.lane1 n).p.ctSmp 255)

/-- R110: the shown estimate with EMAX latched where it is exceeded. -/
def State.ctJudged (s : State) (n : Fin 128) : State := if s.ctExceeds n then (s.ctShow n).latchBeside n 6 else s.ctShow n

/-- R110: the closed estimate: the switch open, the run over. -/
def State.ctClosed (s : State) (n : Fin 128) : State :=
  ((s.ctJudged n).openSwitch n).modP n fun p => { p.ctClear with ctOpen := false }

theorem execCtEstimateClose_of_low (ho : (s.lane1 n).p.ctOpen = true) (hl : (s.lane1 n).p.ctLow = true) :
    ∃ payload, execCtEstimateClose n s = .next ((s.ctClosed n).raiseOcc
      { num := 2 * n.val, sev := if s.ctExceeds n then 3 else 2, stamp := (s.lane1 n).p.ctAt, required := true,
        payload := payload }) :=
  ⟨_, if_pos ⟨ho, hl⟩⟩

theorem State.ctShow_energy : (s.ctShow n).fget (F.CH_CTLAST_EEST n) = min ((s.lane1 n).p.ctSum / 10 ^ 18) (2 ^ 24 - 1) := by
  rw [State.ctShow, State.fget_fset_apart _ _ _ _ (by simp) (by simp), State.fget_fset_same _ _ _ (by simp)]
  exact Nat.mod_eq_of_lt (Nat.lt_of_le_of_lt (Nat.min_le_right _ _) (by simp))

theorem State.ctShow_samples : (s.ctShow n).fget (F.CH_CTLAST_NSMP n) = min (s.lane1 n).p.ctSmp 255 := by
  rw [State.ctShow, State.fget_fset_same _ _ _ (by simp)]
  exact Nat.mod_eq_of_lt (Nat.lt_of_le_of_lt (Nat.min_le_right _ _) (by simp))

theorem State.ctShow_word {r : Reg} (h : r ≠ .CH_CTLAST n) : (s.ctShow n).word r = s.word r := by
  rw [State.ctShow, State.word_fset_other _ _ _ _ h, State.word_fset_other _ _ _ _ h]

theorem State.ctJudged_word {r : Reg} (h : r ≠ .CH_FAULT n) : (s.ctJudged n).word r = (s.ctShow n).word r := by
  unfold State.ctJudged
  split
  · exact State.latchBeside_word h
  · rfl

theorem State.ctJudged_emax :
    (s.ctJudged n).flag (F.CH_FAULT_EMAX n) = (s.flag (F.CH_FAULT_EMAX n) || s.ctExceeds n) := by
  have h0 : (s.ctShow n).flag (F.CH_FAULT_EMAX n) = s.flag (F.CH_FAULT_EMAX n) := by
    rw [State.flag, State.fget, State.ctShow_word (by simp), State.flag, State.fget]
  unfold State.ctJudged
  cases s.ctExceeds n with
  | false => rw [if_neg Bool.false_ne_true, h0, Bool.or_false]
  | true => rw [if_pos rfl, State.latchBeside_flag (by decide), decide_eq_true rfl, Bool.or_true, Bool.or_true]

theorem State.ctJudged_lane {m : Fin 128} : (s.ctJudged n).lane1 m = s.lane1 m := by
  unfold State.ctJudged
  split
  · exact State.latchBeside_lane
  · rfl

theorem State.ctClosed_word {r : Reg} (h : r ≠ .CH_STATE n) : (s.ctClosed n).word r = (s.ctJudged n).word r := by
  rw [State.ctClosed, State.word_modP, State.openSwitch, State.word_modL, State.setFlag, State.word_fset_other _ _ _ _ h]

theorem State.ctClosed_only : Only s (s.ctClosed n) [.CH_CTLAST n, .CH_FAULT n, .CH_STATE n] := by
  intro r hr
  simp only [List.mem_cons, List.not_mem_nil, or_false, not_or] at hr
  obtain ⟨hlast, hfault, hstate⟩ := hr
  rw [State.ctClosed_word hstate, State.ctJudged_word hfault, State.ctShow_word hlast]

theorem State.ctClosed_shown {f : Fld} (hf : f.reg = .CH_CTLAST n) : (s.ctClosed n).fget f = (s.ctShow n).fget f := by
  rw [State.fget, State.fget, hf, State.ctClosed_word (by simp), State.ctJudged_word (by simp)]

theorem State.ctClosed_emax :
    (s.ctClosed n).flag (F.CH_FAULT_EMAX n) = (s.flag (F.CH_FAULT_EMAX n) || s.ctExceeds n) := by
  rw [← State.ctJudged_emax, State.flag, State.fget, State.ctClosed_word (by simp), State.flag, State.fget]

theorem State.ctClosed_open : (s.ctClosed n).flag (F.CH_STATE_OSWC n) = false := by
  rw [State.flag, State.fget, State.ctClosed, State.word_modP, State.openSwitch, State.word_modL, ← State.fget, ← State.flag,
    State.flag_setFlag (by simp) (by simp)]

theorem State.ctClosed_prot :
    ((s.ctClosed n).lane1 n).p = { (s.lane1 n).p.ctClear with ctOpen := false } := by
  rw [State.ctClosed, State.lane1_modP_same, State.openSwitch, State.lane1_modL_same, State.lane1_setFlag, State.ctJudged_lane]

theorem State.ctClosed_lane {m : Fin 128} (h : m ≠ n) : (s.ctClosed n).lane1 m = s.lane1 m := by
  rw [State.ctClosed, State.lane1_modP_other h, State.openSwitch, State.lane1_modL_other h, State.lane1_setFlag, State.ctJudged_lane]

theorem State.ctJudged_mem : (s.ctJudged n).mem = s.mem := by
  unfold State.ctJudged
  split
  · exact State.latchBeside_store
  · rw [State.ctShow, State.mem_of_fset, State.mem_of_fset]

theorem State.ctClosed_mem : (s.ctClosed n).mem = s.mem := by
  rw [State.ctClosed, State.mem_of_modP, State.openSwitch, State.mem_of_modL, State.mem_of_setFlag, State.ctJudged_mem]

/-- R110: the closing estimate issues event 2n, stamped with the qualifying sample. -/
theorem ctEstimateClose_closes (ho : (s.lane1 n).p.ctOpen = true) (hl : (s.lane1 n).p.ctLow = true) :
    ∃ u o, exec (.ctEstimateClose n) s = .next (u.raiseOcc o) ∧ o.num = 2 * n.val ∧ o.stamp = (s.lane1 n).p.ctAt
      ∧ o.required = true
      ∧ o.sev = (if s.eff (F.CT_EMAX_EMAX n) * 10 ^ 19 < (s.lane1 n).p.ctSum then 3 else 2)
      ∧ u.flag (F.CH_FAULT_EMAX n) = (s.flag (F.CH_FAULT_EMAX n)
          || decide (s.eff (F.CT_EMAX_EMAX n) * 10 ^ 19 < (s.lane1 n).p.ctSum))
      ∧ u.fget (F.CH_CTLAST_EEST n) = min ((s.lane1 n).p.ctSum / 10 ^ 18) (2 ^ 24 - 1)
      ∧ u.fget (F.CH_CTLAST_NSMP n) = min (s.lane1 n).p.ctSmp 255
      ∧ u.flag (F.CH_STATE_OSWC n) = false ∧ (u.lane1 n).p.ctOpen = false ∧ (u.lane1 n).p.ctSum = 0
      ∧ Only s u [.CH_CTLAST n, .CH_FAULT n, .CH_STATE n] ∧ u.mem = s.mem ∧ ∀ m, m ≠ n → u.lane1 m = s.lane1 m := by
  obtain ⟨payload, hx⟩ := execCtEstimateClose_of_low ho hl
  have hprot := State.ctClosed_prot (s := s) (n := n)
  refine ⟨s.ctClosed n, _, hx, rfl, rfl, rfl, ?_, State.ctClosed_emax, ?_, ?_, State.ctClosed_open, congrArg ChProt.ctOpen hprot,
    congrArg ChProt.ctSum hprot, State.ctClosed_only, State.ctClosed_mem, fun m => State.ctClosed_lane⟩
  · simp only [State.ctExceeds, decide_eq_true_eq]
  · exact (State.ctClosed_shown rfl).trans State.ctShow_energy
  · exact (State.ctClosed_shown rfl).trans State.ctShow_samples

end
end Sys2Proof.Machine

/-! PROOFS. The contact detector (R38, R104, R105, R110, R111). -/

namespace Sys2Proof.Machine

/-! DELTA_SAMPLE (R104, R105, R110, R111). -/

section
variable {s : State} {n : Fin 128} {r w ip : Int} {sat : Bool}

/-- R105: a qualified break is open, or a run of three waits for CONTACT_BREAK: a sample goes to the estimate alone. -/
def State.ctQualified (s : State) (n : Fin 128) : Prop :=
  (s.lane1 n).p.ctOpen = true ∨ (3 ≤ (s.lane1 n).p.ctN ∧ s.eff (F.CT_DELTA_CTEN n) = 1)

theorem State.not_ctQualified (ho : (s.lane1 n).p.ctOpen = false) (h : (s.lane1 n).p.ctN < 3 ∨ s.eff (F.CT_DELTA_CTEN n) ≠ 1) :
    ¬ s.ctQualified n := by
  rintro (hc | ⟨h3, he⟩)
  · rw [ho] at hc
    cases hc
  · rcases h with h | h
    · omega
    · exact h he

/-- R111: a run of one or two that ends counts as a near miss. -/
def State.nearMiss (s : State) (n : Fin 128) : State :=
  ((s.modP n fun p => { p.ctClear with binNow := p.binNow + 1 }).incSat (F.CH_CTCNT_NEAR n)).wearJudge n

theorem State.ctSample_of_qualified (h : s.ctQualified n) :
    s.ctSample n r w ip sat = s.modP n fun p => p.ctTake (s.ctAdd n r ip sat) ip := if_pos h

theorem State.ctSample_of_unwatched (h : ¬ s.ctQualified n) (hw : s.ctWatch n = false) :
    s.ctSample n r w ip sat = s.modP n ChProt.ctClear :=
  (if_neg h).trans (if_pos (by simp [hw]))

theorem State.ctSample_of_outside (h : ¬ s.ctQualified n) (hw : s.ctWatch n = true) (ho : sat = true ∨ w < r.natAbs) :
    s.ctSample n r w ip sat = s.modP n fun p => { p.ctTake (s.ctAdd n r ip sat) ip with
      ctN := p.ctN + 1, ctAt := s.ctr + (p.vfdN + 1) * us, ctEl := s.time + (p.vfdN + 1) * us } :=
  (if_neg h).trans ((if_neg (by simp [hw])).trans (if_pos ho))

theorem State.ctSample_of_inside (h : ¬ s.ctQualified n) (hw : s.ctWatch n = true) (hi : r.natAbs ≤ w) :
    s.ctSample n r w ip false =
      if (s.lane1 n).p.ctN = 1 ∨ (s.lane1 n).p.ctN = 2 then s.nearMiss n else s.modP n ChProt.ctClear :=
  (if_neg h).trans ((if_neg (by simp [hw])).trans (if_neg (not_or.2 ⟨Bool.false_ne_true, by omega⟩)))

/-- R111: the judgement of the wear touches CH_CTWEAR and the registers of an event, and no lane. -/
theorem State.wearJudge_only : OnlyEv s (s.wearJudge n) [.CH_CTWEAR n] := by
  intro q hq h2 h10
  rw [List.mem_singleton] at hq
  have hset : ∀ b, (s.setFlag (F.CH_CTWEAR_WEAR n) b).word q = s.word q := fun b => State.word_fset_other s _ _ q hq
  unfold State.wearJudge
  dsimp only
  split
  · exact (State.raise_rd h2 h10).trans (hset true)
  · split
    · exact hset false
    · rfl

theorem State.wearJudge_lane {m : Fin 128} : (s.wearJudge n).lane1 m = s.lane1 m := by
  unfold State.wearJudge
  dsimp only
  split
  · exact State.lane1_raise
  · split
    · rfl
    · rfl

theorem State.nearMiss_lane : ((s.nearMiss n).lane1 n).p = { (s.lane1 n).p.ctClear with binNow := (s.lane1 n).p.binNow + 1 } := by
  rw [State.nearMiss, State.wearJudge_lane, State.lane1_incSat, State.lane1_modP_same]

theorem State.nearMiss_lane_other {m : Fin 128} (h : m ≠ n) : (s.nearMiss n).lane1 m = s.lane1 m := by
  rw [State.nearMiss, State.wearJudge_lane, State.lane1_incSat, State.lane1_modP_other h]

theorem State.nearMiss_only : OnlyEv s (s.nearMiss n) [.CH_CTCNT n, .CH_CTWEAR n] := by
  intro q hq h2 h10
  simp only [List.mem_cons, List.not_mem_nil, or_false, not_or] at hq
  obtain ⟨hcnt, hwear⟩ := hq
  rw [State.nearMiss, State.wearJudge_only q (by simpa using hwear) h2 h10]
  exact State.word_fset_other _ _ _ q hcnt

theorem State.nearMiss_count :
    (s.nearMiss n).fget (F.CH_CTCNT_NEAR n) = min (s.fget (F.CH_CTCNT_NEAR n) + 1) 65535 := by
  have h := State.fget_incSat (s := s.modP n fun p => { p.ctClear with binNow := p.binNow + 1 }) (f := F.CH_CTCNT_NEAR n) (by simp)
  rw [State.fget, State.nearMiss, State.wearJudge_only _ (by simp) (by simp) (by simp)]
  exact h

/-- What a sample leaves of the delta converter's own sums. -/
def DeltaKept (f : ChProt → ChProt) : Prop := ∀ p, (f p).vfdN = p.vfdN ∧ (f p).vfdSum = p.vfdSum ∧ (f p).ipHist = p.ipHist

theorem ChProt.ctTake_deltaKept {a : Nat} : DeltaKept fun p => p.ctTake a ip := by
  intro p
  dsimp only [ChProt.ctTake]
  split
  · exact ⟨rfl, rfl, rfl⟩
  · split
    · exact ⟨rfl, rfl, rfl⟩
    · exact ⟨rfl, rfl, rfl⟩

/-- R105, R110, R111: whatever a sample comes to, it is a change of the channel's own counts or a near miss. -/
theorem State.ctSample_cases :
    (∃ f, DeltaKept f ∧ s.ctSample n r w ip sat = s.modP n f) ∨ s.ctSample n r w ip sat = s.nearMiss n := by
  by_cases hq : s.ctQualified n
  · exact .inl ⟨_, ChProt.ctTake_deltaKept, State.ctSample_of_qualified hq⟩
  cases hw : s.ctWatch n with
  | false => exact .inl ⟨ChProt.ctClear, fun _ => ⟨rfl, rfl, rfl⟩, State.ctSample_of_unwatched hq hw⟩
  | true =>
    by_cases ho : sat = true ∨ w < r.natAbs
    · refine .inl ⟨_, ?_, State.ctSample_of_outside hq hw ho⟩
      exact fun p => ChProt.ctTake_deltaKept p
    · obtain ⟨hs, hi⟩ := not_or.1 ho
      rw [eq_false_of_ne_true hs, State.ctSample_of_inside hq hw (by omega)]
      split
      · exact .inr rfl
      · exact .inl ⟨ChProt.ctClear, fun _ => ⟨rfl, rfl, rfl⟩, rfl⟩

theorem State.ctSample_kept :
    (((s.ctSample n r w ip sat).lane1 n).p.vfdN = (s.lane1 n).p.vfdN
        ∧ ((s.ctSample n r w ip sat).lane1 n).p.vfdSum = (s.lane1 n).p.vfdSum
        ∧ ((s.ctSample n r w ip sat).lane1 n).p.ipHist = (s.lane1 n).p.ipHist)
      ∧ OnlyEv s (s.ctSample n r w ip sat) [.CH_CTCNT n, .CH_CTWEAR n]
      ∧ ∀ m, m ≠ n → (s.ctSample n r w ip sat).lane1 m = s.lane1 m := by
  rcases State.ctSample_cases (s := s) (n := n) (r := r) (w := w) (ip := ip) (sat := sat) with ⟨f, hf, e⟩ | e
  · rw [e, State.lane1_modP_same]
    exact ⟨hf _, fun _ _ _ _ => rfl, fun _ => State.lane1_modP_other⟩
  · rw [e, State.nearMiss_lane]
    exact ⟨⟨rfl, rfl, rfl⟩, State.nearMiss_only, fun _ => State.nearMiss_lane_other⟩

/-- DELTA_SAMPLE: the counts take the sample, then the sums of the second. -/
theorem execDeltaSample_next {vfd : Int} : ∃ (w : Int) (ds : ChProt → Int) (dn : ChProt → Nat), execDeltaSample n vfd ip s =
    .next ((s.ctSample n (s.residual n (calVolt (s.calUse n 0 2) (clampI vfd (-2048) 2047 * 488000) 1000) (s.protCurr n ip)).1 w
      (s.protCurr n ip) (deltaSat vfd)).modP n fun p =>
        { p with vfdSum := p.vfdSum + calVolt (s.calUse n 0 2) (clampI vfd (-2048) 2047 * 488000) 1000, vfdN := p.vfdN + 1,
                 ipHist := (s.protCurr n ip :: p.ipHist).take 2, driftSum := ds p, driftN := dn p }) := ⟨_, _, _, rfl⟩

theorem deltaSample_counts {vfd : Int} : ∃ t, exec (.deltaSample n vfd ip) s = .next t
    ∧ (t.lane1 n).p.vfdN = (s.lane1 n).p.vfdN + 1
    ∧ (t.lane1 n).p.vfdSum = (s.lane1 n).p.vfdSum + calVolt (s.calUse n 0 2) (clampI vfd (-2048) 2047 * 488000) 1000
    ∧ (t.lane1 n).p.ipHist.head? = some (s.protCurr n ip) ∧ OnlyEv s t [.CH_CTCNT n, .CH_CTWEAR n]
    ∧ ∀ m, m ≠ n → t.lane1 m = s.lane1 m := by
  obtain ⟨w, ds, dn, hx⟩ := execDeltaSample_next (s := s) (n := n) (ip := ip) (vfd := vfd)
  refine ⟨_, hx, ?_⟩
  rw [State.lane1_modP_same]
  obtain ⟨⟨hN, hsum, _⟩, honly, hlane⟩ := State.ctSample_kept (s := s) (n := n)
    (r := (s.residual n (calVolt (s.calUse n 0 2) (clampI vfd (-2048) 2047 * 488000) 1000) (s.protCurr n ip)).1) (w := w)
    (ip := s.protCurr n ip) (sat := deltaSat vfd)
  exact ⟨congrArg (· + 1) hN, congrArg (· + _) hsum, rfl, honly, fun m hm => (State.lane1_modP_other hm).trans (hlane m hm)⟩

end

/-- Settles O25: a sample by the branches of `State.ctSample`, the break by the trip of a channel that is no member
(`State.tripSilent_single`), the close of the estimate by `State.ctClosed`. -/
theorem contactBreakIsDetected : Obligations.ContactBreakIsDetected := by
  refine ⟨fun s n vfd ip => deltaSample_counts, fun s n r w ip sat => State.ctSample_of_qualified, fun p add ip => rfl,
    fun s n r w ip sat ho h hw hout => ?_, fun s n r w ip sat ho h hw => ?_, fun s n r w ip ho h hw hin => ?_,
    fun s n => contactBreak_trips, fun s n => ctEstimateClose_closes⟩
  · rw [State.ctSample_of_outside (State.not_ctQualified ho h) hw hout, State.lane1_modP_same]
    exact ⟨rfl, rfl, fun q => rfl⟩
  · rw [State.ctSample_of_unwatched (State.not_ctQualified ho h) hw, State.lane1_modP_same]
    exact ⟨rfl, rfl, fun q => rfl⟩
  · rw [State.ctSample_of_inside (State.not_ctQualified ho h) hw hin]
    split
    · rw [State.nearMiss_lane]
      exact ⟨rfl, State.nearMiss_count⟩
    · rw [State.lane1_modP_same]
      exact ⟨rfl, rfl⟩

end Sys2Proof.Machine

/-! PROOFS. The metrology sample (R26, R28, R54, R183). -/

namespace Sys2Proof.Machine

/-! One element's turn in a loop, where the others' turns leave what it shows (`V`) and what it reads (`W`). -/

theorem State.each_turn {α β γ : Type} {V : State → β} {W : State → γ} {l : List α} {x : α} {f : α → State → State}
    {s : State} (hx : x ∈ l) (hl : l.Nodup) (hV : ∀ y t, y ≠ x → V (f y t) = V t) (hW : ∀ y t, y ≠ x → W (f y t) = W t) :
    ∃ u, V (s.each l f) = V (f x u) ∧ W u = W s := by
  induction l generalizing s with
  | nil => cases hx
  | cons y l ih =>
    obtain ⟨hy, hl⟩ := List.nodup_cons.1 hl
    by_cases hxy : y = x
    · subst hxy
      exact ⟨s, State.each_view (s := f y s) fun z hz t => hV z t fun e => hy (e ▸ hz), rfl⟩
    · obtain ⟨u, hu, hWu⟩ := ih (s := f y s) ((List.mem_cons.1 hx).resolve_left fun e => hxy e.symm) hl
      exact ⟨u, hu, hWu.trans (hW y s hxy)⟩

/-! METROLOGY_SAMPLE (R26, R28, R54, R183). -/

section
variable {s : State} {n : Fin 128} {t : Nat} {o : MetOut}

theorem State.metLane_word {r : Reg} (hv : r ≠ .CH_V n) (hi : r ≠ .CH_I n) (hm : r ≠ .CH_MSTAT n) :
    (s.metLane n t o).word r = s.word r := by
  unfold State.metLane
  dsimp only
  split
  · exact (State.word_fset_other _ _ _ _ hm).trans ((State.word_setWord_other _ _ _ _ hi).trans (State.word_setWord_other _ _ _ _ hv))
  · exact (State.word_setWord_other _ _ _ _ hi).trans (State.word_setWord_other _ _ _ _ hv)

theorem State.metLane_volt : (s.metLane n t o).word (.CH_V n) = wordOf o.uv := by
  unfold State.metLane
  dsimp only
  split
  · rw [State.setFlag, State.word_fset_other _ _ _ _ (by simp), State.word_setWord_other _ _ _ _ (by simp), State.word_setWord_same]
  · rw [State.word_modK, State.word_setWord_other _ _ _ _ (by simp), State.word_setWord_same]

theorem State.metLane_curr : (s.metLane n t o).word (.CH_I n) = wordOf o.ua := by
  unfold State.metLane
  dsimp only
  split
  · rw [State.setFlag, State.word_fset_other _ _ _ _ (by simp), State.word_setWord_same]
  · rw [State.word_modK, State.word_setWord_same]

theorem State.metLane_stamp : ((s.metLane n t o).lane1 n).m.ms.stamp = t := by
  unfold State.metLane
  dsimp only
  split
  · simp
  · simp

theorem State.metLane_other {m : Fin 128} (h : m ≠ n) : (s.metLane n t o).lane1 m = s.lane1 m := by
  unfold State.metLane
  dsimp only
  split
  · rw [State.lane1_setFlag, State.lane1_setWord, State.lane1_setWord, State.lane1_modM_other h]
  · rw [State.lane1_modK_other h, State.lane1_setWord, State.lane1_setWord, State.lane1_modM_other h]

theorem State.metGang_word {r : Reg} (h : r ≠ .CH_P n) : (s.metGang n t).word r = s.word r := State.word_setWord_other _ _ _ _ h

theorem State.metGang_shows :
    (s.metGang n t).word (.CH_P n) = wordOf (rdiv 183 ((s.lane1 n).m.ms.v * s.currMet n) (10 ^ 9)) := State.word_setWord_same _ _ _

theorem State.metGang_meas {m : Fin 128} : ((s.metGang n t).lane1 m).m = (s.lane1 m).m := by
  by_cases h : m = n
  · rw [h, State.metGang, State.lane1_modK_same, State.lane1_setWord]
  · rw [State.metGang, State.lane1_modK_other h, State.lane1_setWord]

theorem State.currMet_congr {u : State} (hg : u.word (.CH_GANG n) = s.word (.CH_GANG n))
    (hm : ∀ j, (u.lane1 j).m = (s.lane1 j).m) : u.currMet n = s.currMet n := by
  simp only [State.currMet, State.gang, State.gangSize, State.fget, hg, hm]

theorem State.metGang_currMet {m : Fin 128} : (s.metGang n t).currMet m = s.currMet m :=
  State.currMet_congr (State.metGang_word (by simp)) fun _ => State.metGang_meas

@[simp] theorem State.ringTake_word {r : Reg} : (s.ringTake t).word r = s.word r := State.ringTake_rd

@[simp] theorem State.ringTake_lane {m : Fin 128} : (s.ringTake t).lane1 m = s.lane1 m := by
  change (s.ringTake t).chv[m] = s.chv[m]
  rw [State.ringTake_chv]

/-- The samples of all lanes for an instant, and what the gangs make of them. -/
def State.metLanes (s : State) (o : Fin 128 → MetOut) (t : Nat) : State := s.each chans fun n u => u.metLane n t (o n)

def State.metGangs (s : State) (t : Nat) : State := s.each chans fun n u => u.metGang n t

theorem mem_chans (n : Fin 128) : n ∈ chans := List.mem_finRange n

theorem nodup_chans : chans.Nodup := List.nodup_finRange 128

theorem State.metLanes_shows {o : Fin 128 → MetOut} : (s.metLanes o t).word (.CH_V n) = wordOf (o n).uv
    ∧ (s.metLanes o t).word (.CH_I n) = wordOf (o n).ua ∧ ((s.metLanes o t).lane1 n).m.ms.stamp = t := by
  obtain ⟨u, hu, _⟩ := State.each_turn (s := s) (f := fun n u => u.metLane n t (o n)) (W := fun _ => ())
    (V := fun u => (u.word (.CH_V n), u.word (.CH_I n), u.lane1 n)) (mem_chans n) nodup_chans
    (fun m u hm => by
      have hn := Ne.symm hm
      rw [State.metLane_word (by simpa) (by simp) (by simp), State.metLane_word (by simp) (by simpa) (by simp), State.metLane_other hn])
    fun _ _ _ => rfl
  obtain ⟨hv, hil⟩ := Prod.mk.inj hu
  obtain ⟨hi, hl⟩ := Prod.mk.inj hil
  refine ⟨hv.trans State.metLane_volt, hi.trans State.metLane_curr, ?_⟩
  rw [State.metLanes, hl]
  exact State.metLane_stamp

theorem State.metGangs_word {r : Reg} (h : ∀ n, r ≠ .CH_P n) : (s.metGangs t).word r = s.word r :=
  State.each_view (V := fun u => u.word r) fun m _ _ => State.metGang_word (h m)

theorem State.metGangs_meas : ((s.metGangs t).lane1 n).m = (s.lane1 n).m :=
  State.each_view (V := fun u => (u.lane1 n).m) fun _ _ _ => State.metGang_meas

theorem State.metGangs_currMet : (s.metGangs t).currMet n = s.currMet n :=
  State.each_view (V := fun u => u.currMet n) fun _ _ _ => State.metGang_currMet

theorem State.metGangs_shows : (s.metGangs t).word (.CH_P n) =
    wordOf (rdiv 183 (((s.metGangs t).lane1 n).m.ms.v * (s.metGangs t).currMet n) (10 ^ 9)) := by
  obtain ⟨u, hu, hr⟩ := State.each_turn (s := s) (f := fun n u => u.metGang n t) (V := fun u => u.word (.CH_P n))
    (W := fun u => ((u.lane1 n).m, u.currMet n)) (mem_chans n) nodup_chans
    (fun m u hm => State.metGang_word (by simpa using Ne.symm hm)) fun m u _ => by rw [State.metGang_meas, State.metGang_currMet]
  obtain ⟨hm, hc⟩ := Prod.mk.inj hr
  rw [State.metGangs_meas, State.metGangs_currMet, ← hm, ← hc]
  exact hu.trans State.metGang_shows

theorem execMetrologySample_of_due {i : Vector ChanIn 128} {l : ChanIn} (hg : s.ctr % 100000 = 0) (h4 : 400000 ≤ s.ctr)
    (hr : s.metRuns (s.ctr - 400000) = true) (ha : s.lane.metAt ≠ some (s.ctr - 400000)) :
    ∃ s0 : State, execMetrologySample i l s = .next (((s0.metLanes (fun n => s.metOut n i[n] l (s.ctr - 400000))
      (s.ctr - 400000)).metGangs (s.ctr - 400000)).ringTake (s.ctr - 400000)) :=
  ⟨_, if_pos ⟨hg, h4, hr, ha⟩⟩

theorem execMetrologySample_of_not {i : Vector ChanIn 128} {l : ChanIn}
    (h : s.ctr % 100000 ≠ 0 ∨ s.ctr < 400000 ∨ s.lane.metAt = some (s.ctr - 400000)) : execMetrologySample i l s = .next s := by
  refine if_neg ?_
  rintro ⟨hg, h4, _, ha⟩
  rcases h with h | h | h
  · exact h hg
  · exact Nat.not_lt.2 h4 h
  · exact ha h

theorem metrologySample_shows {i : Vector ChanIn 128} {l : ChanIn} (hg : s.ctr % 100000 = 0) (h4 : 400000 ≤ s.ctr)
    (hr : s.metRuns (s.ctr - 400000) = true) (ha : s.lane.metAt ≠ some (s.ctr - 400000)) :
    ∃ t, exec (.metrologySample i l) s = .next t
      ∧ ∀ n : Fin 128, t.word (.CH_V n) = wordOf (s.metOut n i[n] l (s.ctr - 400000)).uv
        ∧ t.word (.CH_I n) = wordOf (s.metOut n i[n] l (s.ctr - 400000)).ua
        ∧ (t.lane1 n).m.ms.stamp = s.ctr - 400000
        ∧ t.word (.CH_P n) = wordOf (rdiv 183 ((t.lane1 n).m.ms.v * t.currMet n) (10 ^ 9)) := by
  obtain ⟨s0, hx⟩ := execMetrologySample_of_due (i := i) (l := l) hg h4 hr ha
  refine ⟨_, hx, fun n => ?_⟩
  obtain ⟨hv, hi, hst⟩ := State.metLanes_shows (s := s0) (n := n) (t := s.ctr - 400000)
    (o := fun n => s.metOut n i[n] l (s.ctr - 400000))
  have hring {u : State} : (u.ringTake (s.ctr - 400000)).currMet n = u.currMet n :=
    State.currMet_congr State.ringTake_word fun _ => congrArg Chan.m State.ringTake_lane
  rw [State.ringTake_word, State.ringTake_word, State.ringTake_word, State.ringTake_lane, hring]
  refine ⟨(State.metGangs_word (by simp)).trans hv, (State.metGangs_word (by simp)).trans hi, ?_, State.metGangs_shows⟩
  rw [State.metGangs_meas, hst]

end
end Sys2Proof.Machine

/-! PROOFS. The housekeeping round (R39, R418, R421). -/

namespace Sys2Proof.Machine

/-! What the parts of a round leave alone of the steady registers. -/

theorem Reg.ne_of_steady {r q : Reg} (hr : r.steady = true) (hq : q.steady = false) : r ≠ q :=
  fun e => absurd (e ▸ hr) (ne_true_of_eq_false hq)

section
variable {s : State} {n : Fin 128} {r : Reg}

theorem State.trip_word {k t sev : Nat} {l : List Nat} {rest : List Byte} (hr : r.steady = true) (hf : ∀ m, r ≠ .CH_FAULT m) :
    (s.trip n (k :: l) t rest sev).word r = s.word r := by
  have hl : (s.latchTrip n (k :: l) (s.checking n) t).word r = s.word r :=
    State.latchTrip_word (hf n) (Reg.ne_of_steady hr rfl)
  have hp : ((s.latchTrip n (k :: l) (s.checking n) t).parkTripped n).word r = s.word r := by
    unfold State.parkTripped
    dsimp only
    split
    · exact (State.word_fset_other _ _ _ _ (hf _)).trans ((State.parkGang_steady.word r hr).trans hl)
    · split
      · exact hl
      · exact (State.parkGang_steady.word r hr).trans hl
  exact (State.raiseOcc_steady.word r hr).trans hp

theorem State.ocvTemp_steady : Steady s (s.ocvTemp n) := .ite (.fset rfl (.modK .refl)) .refl

theorem State.noteFail_steady {off bit : Nat} {a b c d : Bool} : Steady s (s.noteFail off bit a b c d) :=
  .incSat rfl (.fset rfl (.setFlag rfl (.setFlag rfl (.setFlag rfl (.setFlag rfl (.fset rfl (.setWord rfl .refl)))))))

theorem State.mramFind_word {f : MramFind} (hr : r.steady = true) : (s.mramFind f).word r = s.word r := by
  unfold State.mramFind
  split
  · exact (State.noteFail_steady.trans State.raise_steady).word r hr
  · split
    · extract_lets q tst s1
      have h1 : Steady s1 (((s1.fset F.BT_REPAIR_MPEND (min 255 q.length)).noteFail f.off f.bit true false false true).raise 459 1) :=
        .trans (.trans (.fset rfl .refl) State.noteFail_steady) State.raise_steady
      exact h1.word r hr
    · exact State.word_fset_other _ _ _ r (Reg.ne_of_steady hr rfl)

theorem State.mramVerify_word {l : List MramFind} (hr : r.steady = true) : (s.mramVerify l).word r = s.word r := by
  unfold State.mramVerify
  split
  · extract_lets k here l' tst s0 s1 tst1 tst2
    have h1 : s1.word r = s.word r := State.each_view (s := s0) (V := fun u => u.word r) fun f _ _ => State.mramFind_word hr
    split
    · exact (State.word_fset_other _ _ _ r (Reg.ne_of_steady hr rfl)).trans h1
    · exact (State.word_fset_other _ _ _ r (Reg.ne_of_steady hr rfl)).trans ((State.word_fset_other _ _ _ r
        (Reg.ne_of_steady hr rfl)).trans ((State.word_fset_other _ _ _ r (Reg.ne_of_steady hr rfl)).trans h1))
  · rfl

theorem State.refCheck_word {a b : Int} (hr : r.steady = true) : (s.refCheck a b).word r = s.word r := by
  unfold State.refCheck
  split
  · extract_lets e1 e2 k s1 tst s2 s3
    have h1 : Steady s s1 := .update (.fset rfl (.fset rfl .refl))
    have h3 : Steady s2 s3 := by
      clear_value k
      dsimp only [s3]
      split
      · exact .setFlag rfl (.setFlag rfl (.setFlag rfl .refl))
      · exact .setFlag rfl .refl
      · exact .setFlag rfl .refl
      · exact .setFlag rfl .refl
      · exact .setFlag rfl (.setFlag rfl (.setFlag rfl .refl))
    exact (Steady.word (.ite h3 (h3.trans State.raise_steady)) r hr).trans (h1.word r hr)
  · rfl

/-- A sensor's reading keeps its code; beside that it writes registers of its own. -/
theorem State.dieRead_steady {k : Fin 8} {code : Int} :
    Steady { s with tst := { s.tst with code := s.tst.code.set k (some code) } } (s.dieRead k code) := by
  unfold State.dieRead
  extract_lets same stuck bad tst s1 s2 s3
  have h3 : Steady s1 s3 := .setFlag rfl (.setFlag rfl (.fset rfl (.setFlag rfl (.fset rfl .refl))))
  exact .ite (h3.trans State.raise_steady) h3

theorem State.dieMax_steady : Steady s s.dieMax := .setFlag rfl (.fset rfl (.fset rfl .refl))

theorem State.thermal_steady {f : Fld} {up down : Int} {num sev : Nat} (hf : f.reg.steady = false) :
    Steady s (s.thermal f up down num sev) :=
  .ite (.ite (.setFlag hf .refl) .refl) (.ite (.trans (.setFlag hf .refl) State.raise_steady) .refl)

theorem State.thermals_steady : Steady s s.thermals := by
  unfold State.thermals
  extract_lets s1 s2
  have h2 : Steady s s2 := ((State.thermal_steady rfl).trans (State.thermal_steady rfl)).trans (State.thermal_steady rfl)
  exact .ite (h2.trans State.enterSafe_steady) h2

/-! The bands of a round write the fields BAND and BLEND of CH_MSTAT (R46–R48). -/

theorem State.chanBand_cases {b : Nat} : s.chanBand n b = s ∨
    ∃ f v, s.chanBand n b = ((s.fset (F.CH_MSTAT_BAND n) b).modM n f).setFlag (F.CH_MSTAT_BLEND n) v := by
  unfold State.chanBand
  dsimp only
  split
  · exact .inr ⟨_, _, rfl⟩
  · split
    · exact .inl rfl
    · exact .inr ⟨_, _, rfl⟩

theorem State.chanBand_word {b : Nat} (h : r ≠ .CH_MSTAT n) : (s.chanBand n b).word r = s.word r := by
  rcases State.chanBand_cases (s := s) (n := n) (b := b) with e | ⟨f, v, e⟩
  · rw [e]
  · rw [e, State.setFlag, State.word_fset_other _ _ _ _ h, State.word_modM, State.word_fset_other _ _ _ _ h]

theorem State.chanBand_tsflt {b : Nat} {m : Fin 128} : (s.chanBand n b).flag (F.CH_MSTAT_TSFLT m) = s.flag (F.CH_MSTAT_TSFLT m) := by
  rcases State.chanBand_cases (s := s) (n := n) (b := b) with e | ⟨f, v, e⟩
  · rw [e]
  · rw [e, State.setFlag, State.flag_fset_apart (by decide) (by simp), State.flag, State.fget, State.word_modM, ← State.fget,
      ← State.flag, State.flag_fset_apart (by decide) (by simp)]

theorem State.chanBand_tst {b : Nat} : (s.chanBand n b).tst = s.tst := by
  rcases State.chanBand_cases (s := s) (n := n) (b := b) with e | ⟨f, v, e⟩
  · rw [e]
  · rw [e, State.tst_of_setFlag, State.tst_of_modM, State.tst_of_fset]

/-- The bands of the sensors, before the channels take them. -/
def State.dieBands (s : State) (first : Bool) : State := s.each (List.finRange 8) fun k t =>
  t.fset (bandFld k) (if first then bandOf (t.dieCounts k) else bandNext (t.fget (bandFld k)) (t.dieCounts k))

theorem State.dieBands_steady {first : Bool} : Steady s (s.dieBands first) := .each .refl fun _ _ => .fset rfl .refl

theorem State.bands_eq {first : Bool} :
    s.bands first = (s.dieBands first).each chans fun n t => t.chanBand n (t.fget (bandFld (quadrant n))) := rfl

theorem State.bands_word {first : Bool} (hr : r.steady = true) (hm : ∀ n, r ≠ .CH_MSTAT n) : (s.bands first).word r = s.word r := by
  rw [State.bands_eq, State.each_view (V := fun u => u.word r) fun n _ _ => State.chanBand_word (hm n),
    State.dieBands_steady.word r hr]

theorem State.bands_tsflt {first : Bool} : (s.bands first).flag (F.CH_MSTAT_TSFLT n) = s.flag (F.CH_MSTAT_TSFLT n) := by
  rw [State.bands_eq, State.each_view (V := fun u => u.flag (F.CH_MSTAT_TSFLT n)) fun _ _ _ => State.chanBand_tsflt, State.flag,
    State.fget, State.dieBands_steady.word _ rfl, State.flag, State.fget]

theorem State.bands_tst {first : Bool} : (s.bands first).tst = s.tst := by
  rw [State.bands_eq, State.each_view (V := fun u => u.tst) fun _ _ _ => State.chanBand_tst, State.dieBands_steady.tst]

/-! A channel's thermistor in a round (R39). -/

theorem State.cellTemp_word {ohm : Nat} (hr : r.steady = true) (hf : ∀ m, r ≠ .CH_FAULT m) : (s.cellTemp n ohm).word r =
    ((s.setWord (.CH_T n) (ntcWord (s.ntcTemp (s.fget (F.CH_NTC_BETA n)) (s.fget (F.CH_NTC_R25 n)) ohm))).setFlag
      (F.CH_MSTAT_TSFLT n) (ntcBad (s.ntcTemp (s.fget (F.CH_NTC_BETA n)) (s.fget (F.CH_NTC_R25 n)) ohm))).word r := by
  unfold State.cellTemp
  extract_lets t s1 s2 s3
  have h3 : s3.word r = s1.word r := (State.ocvTemp_steady.word r hr).trans State.word_modX
  split
  · exact (State.trip_word hr hf).trans h3
  · exact h3

theorem State.cellTemp_word_other {ohm : Nat} (hr : r.steady = true) (hf : ∀ m, r ≠ .CH_FAULT m) (ht : r ≠ .CH_T n)
    (hm : r ≠ .CH_MSTAT n) : (s.cellTemp n ohm).word r = s.word r := by
  rw [State.cellTemp_word hr hf, State.setFlag, State.word_fset_other _ _ _ _ hm, State.word_setWord_other _ _ _ _ ht]

theorem State.cellTemp_shows {ohm : Nat} {c : Int}
    (h : ntcMilliC (s.fget (F.CH_NTC_BETA n)) (s.fget (F.CH_NTC_R25 n)) ohm = some c) :
    (s.cellTemp n ohm).word (.CH_T n) = ntcWord c ∧ (s.cellTemp n ohm).flag (F.CH_MSTAT_TSFLT n) = ntcBad c := by
  have hc : s.ntcTemp (s.fget (F.CH_NTC_BETA n)) (s.fget (F.CH_NTC_R25 n)) ohm = c := by rw [State.ntcTemp, h, Option.getD_some]
  constructor
  · rw [State.cellTemp_word rfl (by simp), State.setFlag, State.word_fset_other _ _ _ _ (by simp), State.word_setWord_same, hc]
  · rw [State.flag, State.fget, State.cellTemp_word rfl (by simp), ← State.fget, ← State.flag,
      State.flag_setFlag (by simp) (by simp), hc]

theorem State.word_of_conf {u : State} (h : u.conf = s.conf) (hr : r.isConf = true) : u.word r = s.word r := by
  have h1 := congrFun h r
  simpa only [State.conf, confOf, hr, if_true, State.word] using h1

/-- The thermistors of all channels in a round. -/
def State.cellTemps (s : State) (ts : Vector Nat 128) : State := s.each chans fun n t => t.cellTemp n ts[n]

theorem State.cellTemps_word {ts : Vector Nat 128} (hr : r.steady = true) (hf : ∀ m, r ≠ .CH_FAULT m) (ht : ∀ m, r ≠ .CH_T m)
    (hm : ∀ m, r ≠ .CH_MSTAT m) : (s.cellTemps ts).word r = s.word r :=
  State.each_view (V := fun u => u.word r) fun m _ _ => State.cellTemp_word_other hr hf (ht m) (hm m)

theorem State.cellTemps_shows {ts : Vector Nat 128} {c : Int}
    (h : ntcMilliC (s.fget (F.CH_NTC_BETA n)) (s.fget (F.CH_NTC_R25 n)) ts[n] = some c) :
    (s.cellTemps ts).word (.CH_T n) = ntcWord c ∧ (s.cellTemps ts).flag (F.CH_MSTAT_TSFLT n) = ntcBad c := by
  obtain ⟨u, hu, hconf⟩ := State.each_turn (s := s) (f := fun n t => t.cellTemp n ts[n])
    (V := fun u => (u.word (.CH_T n), u.word (.CH_MSTAT n))) (W := State.conf) (mem_chans n) nodup_chans
    (fun m u hm => by
      have hn := Ne.symm hm
      rw [State.cellTemp_word_other rfl (by simp) (by simpa) (by simp), State.cellTemp_word_other rfl (by simp) (by simp) (by simpa)])
    fun m u _ => State.cellTemp_conf
  obtain ⟨hT, hM⟩ := Prod.mk.inj hu
  have hntc : u.word (.CH_NTC n) = s.word (.CH_NTC n) := State.word_of_conf hconf rfl
  obtain ⟨h1, h2⟩ := State.cellTemp_shows (s := u) (n := n) (ohm := ts[n]) (c := c) (by simpa only [State.fget, hntc] using h)
  refine ⟨hT.trans h1, ?_⟩
  rw [← h2, State.flag, State.fget, State.flag, State.fget]
  exact congrArg (fun w => decide (bitsOf w 10 1 ≠ 0)) hM

end

/-! HOUSEKEEPING_ROUND (R39, R418, R421). -/

section
variable {s : State} {x : Housekeeping}

/-- The counts of a round and the pack's thermistor. -/
def State.roundOpen (s : State) (x : Housekeeping) : State :=
  let s1 := ((s.fresh.incWrap F.TS_HK_ROUNDS).fset F.TS_HK_DUR (bitsOf s.freeWord 0 16)).setWord .HU_T
    (ntcWord (s.ntcTemp 3435 100 x.hu))
  { s1 with hu := { s1.hu with tsOpen := decide (s.ntcTemp 3435 100 x.hu < -50000) },
            tst := { s1.tst with roundAt := some s.ctr } }

/-- The checks of a round after the thermistors, and the die sensors. -/
def State.roundChecks (s : State) (x : Housekeeping) : State :=
  ((s.mramVerify x.mram).refCheck x.ref1 x.ref2).each (List.finRange 8) fun k t => t.dieRead k x.die[k]

/-- What a round makes of the die temperatures. -/
def State.roundClose (s : State) : State := (s.dieMax.bands false).thermals

theorem execHousekeepingRound_of_due (hg : s.ctr % 250000000 = 0) (hr : s.clustersRun = true) (ha : s.tst.roundAt ≠ some s.ctr) :
    execHousekeepingRound x s = .next ((((s.roundOpen x).cellTemps x.ts).roundChecks x).roundClose) :=
  if_pos (Bool.and_eq_true_iff.2 ⟨decide_eq_true ⟨hg, ha⟩, hr⟩)

theorem execHousekeepingRound_of_not (h : s.ctr % 250000000 ≠ 0 ∨ s.clustersRun = false ∨ s.tst.roundAt = some s.ctr) :
    execHousekeepingRound x s = .next s := by
  refine if_neg fun hd => ?_
  obtain ⟨hd, hr⟩ := Bool.and_eq_true_iff.1 hd
  obtain ⟨hg, ha⟩ := of_decide_eq_true hd
  rcases h with h | h | h
  · exact h hg
  · rw [hr] at h
    cases h
  · exact ha h

/-- The registers of `roundOpen`. -/
theorem State.roundOpen_word {r : Reg} : (s.roundOpen x).word r = (((s.fresh.incWrap F.TS_HK_ROUNDS).fset F.TS_HK_DUR
    (bitsOf s.freeWord 0 16)).setWord .HU_T (ntcWord (s.ntcTemp 3435 100 x.hu))).word r := rfl

theorem State.roundOpen_rounds : (s.roundOpen x).fget F.TS_HK_ROUNDS = (s.fget F.TS_HK_ROUNDS + 1) % 65536 := by
  rw [State.fget, State.roundOpen_word, State.word_setWord_other _ _ _ _ (by simp), ← State.fget,
    State.fget_fset_apart _ _ _ _ (by decide) (by decide)]
  exact State.fget_fset_same _ _ _ (by decide)

theorem State.roundOpen_hu : (s.roundOpen x).word .HU_T = ntcWord (s.ntcTemp 3435 100 x.hu) := by
  rw [State.roundOpen_word, State.word_setWord_same]

theorem State.roundOpen_conf : (s.roundOpen x).conf = s.conf := by
  have h : (s.roundOpen x).conf = (((s.fresh.incWrap F.TS_HK_ROUNDS).fset F.TS_HK_DUR
    (bitsOf s.freeWord 0 16)).setWord .HU_T (ntcWord (s.ntcTemp 3435 100 x.hu))).conf := rfl
  rw [h, State.setWord_conf rfl, State.fset_conf rfl, State.incWrap_conf rfl, State.fresh_conf]

theorem State.roundChecks_word {r : Reg} (hr : r.steady = true) : (s.roundChecks x).word r = s.word r := by
  rw [State.roundChecks, State.each_view (V := fun u => u.word r) fun _ _ _ => State.dieRead_steady.word r hr,
    State.refCheck_word hr, State.mramVerify_word hr]

theorem State.dieRead_code {k : Fin 8} {code : Int} : (s.dieRead k code).tst.code = s.tst.code.set k (some code) := by
  rw [State.dieRead_steady.tst]

theorem State.roundChecks_code {k : Fin 8} : (s.roundChecks x).tst.code[k] = some x.die[k] := by
  obtain ⟨u, hu, _⟩ := State.each_turn (s := (s.mramVerify x.mram).refCheck x.ref1 x.ref2) (f := fun k t => t.dieRead k x.die[k])
    (V := fun u => u.tst.code[k]) (W := fun _ => ()) (List.mem_finRange k) (List.nodup_finRange 8)
    (fun j u hj => by
      rw [State.dieRead_code]
      exact Vector.getElem_set_ne _ _ fun e => hj (Fin.ext e))
    fun _ _ _ => rfl
  refine hu.trans ?_
  rw [State.dieRead_code]
  exact Vector.getElem_set_self _

theorem State.roundClose_word {r : Reg} (hr : r.steady = true) (hm : ∀ n, r ≠ .CH_MSTAT n) : s.roundClose.word r = s.word r := by
  rw [State.roundClose, State.thermals_steady.word r hr, State.bands_word hr hm, State.dieMax_steady.word r hr]

theorem State.roundClose_tsflt {n : Fin 128} : s.roundClose.flag (F.CH_MSTAT_TSFLT n) = s.flag (F.CH_MSTAT_TSFLT n) := by
  have h : ∀ {u v : State}, Steady u v → v.flag (F.CH_MSTAT_TSFLT n) = u.flag (F.CH_MSTAT_TSFLT n) := fun h => by
    rw [State.flag, State.fget, h.word _ rfl, State.flag, State.fget]
  rw [State.roundClose, h State.thermals_steady, State.bands_tsflt, h State.dieMax_steady]

theorem State.roundClose_tst : s.roundClose.tst = s.tst := by
  rw [State.roundClose, State.thermals_steady.tst, State.bands_tst, State.dieMax_steady.tst]

/-- R39, R418, R421: what a round that is due shows. -/
theorem housekeepingRound_shows (hg : s.ctr % 250000000 = 0) (hr : s.clustersRun = true) (ha : s.tst.roundAt ≠ some s.ctr) :
    ∃ t, exec (.housekeepingRound x) s = .next t ∧ t.fget F.TS_HK_ROUNDS = (s.fget F.TS_HK_ROUNDS + 1) % 65536
      ∧ (∀ c, ntcMilliC 3435 100 x.hu = some c → t.word .HU_T = ntcWord c)
      ∧ (∀ (n : Fin 128) (c : Int), ntcMilliC (s.fget (F.CH_NTC_BETA n)) (s.fget (F.CH_NTC_R25 n)) x.ts[n] = some c →
        t.word (.CH_T n) = ntcWord c ∧ t.flag (F.CH_MSTAT_TSFLT n) = ntcBad c)
      ∧ ∀ k : Fin 8, t.tst.code[k] = some x.die[k] := by
  have late {r : Reg} (hs : r.steady = true) (hm : ∀ n, r ≠ .CH_MSTAT n) {u : State} :
      ((u.roundChecks x).roundClose).word r = u.word r := (State.roundClose_word hs hm).trans (State.roundChecks_word hs)
  refine ⟨_, execHousekeepingRound_of_due hg hr ha, ?_, fun c hc => ?_, fun n c hc => ?_, fun k => ?_⟩
  · rw [State.fget, late rfl (by simp), State.cellTemps_word rfl (by simp) (by simp) (by simp)]
    exact State.roundOpen_rounds
  · rw [late rfl (by simp), State.cellTemps_word rfl (by simp) (by simp) (by simp), State.roundOpen_hu, State.ntcTemp, hc,
      Option.getD_some]
  · have hntc : (s.roundOpen x).word (.CH_NTC n) = s.word (.CH_NTC n) := State.word_of_conf State.roundOpen_conf rfl
    obtain ⟨hT, hB⟩ := State.cellTemps_shows (s := s.roundOpen x) (n := n) (ts := x.ts) (c := c)
      (by simpa only [State.fget, hntc] using hc)
    refine ⟨(late rfl (by simp)).trans hT, ?_⟩
    rw [State.roundClose_tsflt, State.flag, State.fget, State.roundChecks_word rfl]
    exact hB
  · rw [State.roundClose_tst]
    exact State.roundChecks_code

end

/-- Settles O20: a lane's sample and a channel's thermistor by their turn in the loop over the channels (`State.each_turn`); the parts
of a round that come after keep the steady registers. -/
theorem metrologyAndTemperaturesShow : Obligations.MetrologyAndTemperaturesShow :=
  ⟨⟨fun _ _ _ => metrologySample_shows, fun _ _ _ => execMetrologySample_of_not⟩,
    fun _ _ => housekeepingRound_shows, fun _ _ => execHousekeepingRound_of_not⟩

end Sys2Proof.Machine

/-! PROOFS. The clearing of faults, the overload detectors, and the outputs that let go (R16, R18, R113, R466). -/

namespace Sys2Proof.Machine

/-! A field reads the same while its register stands. -/

section
variable {s t : State} {f : Fld} {n : Fin 128}

theorem State.fget_congr (h : t.word f.reg = s.word f.reg) : t.fget f = s.fget f := by
  rw [State.fget, h, State.fget]

theorem State.flag_congr (h : t.word f.reg = s.word f.reg) : t.flag f = s.flag f := by
  rw [State.flag, State.fget_congr h, State.flag]

theorem State.leader_congr (h : t.word (.CH_GANG n) = s.word (.CH_GANG n)) : t.leader n = s.leader n := by
  have hm : t.flag (F.CH_GANG_MEMBER n) = s.flag (F.CH_GANG_MEMBER n) := State.flag_congr h
  have hl : t.fget (F.CH_GANG_LEAD n) = s.fget (F.CH_GANG_LEAD n) := State.fget_congr h
  rw [State.leader, hm, hl, State.leader]

end

/-! FAULT_CLEAR (R113): the bits that clear, the bits that stay, and MEMB of the gang's leader. -/

section
variable {s : State} {n : Fin 128} {v : Word} {k : Nat}

theorem getLsbD_faultMask (hk : k < 16) : faultMask.getLsbD k = decide (k ≠ 13 ∧ k ≠ 15) := by
  revert k
  decide

theorem getLsbD_faultMask_of_ge (hk : 16 ≤ k) : faultMask.getLsbD k = false := by
  rcases Nat.lt_or_ge k 32 with h | h
  · have h16 : ∀ k < 32, 16 ≤ k → faultMask.getLsbD k = false := by decide
    exact h16 k h hk
  · exact BitVec.getLsbD_of_ge _ _ h

/-- The bits that a loop sets in a word, one for each number of the list with a property. -/
theorem getLsbD_foldl_set {p : Nat → Prop} [DecidablePred p] {l : List Nat} {w : Word} (hk : k < 32) :
    (l.foldl (fun w b => if p b then w ||| BitVec.ofNat 32 (2 ^ b) else w) w).getLsbD k
      = (w.getLsbD k || decide (k ∈ l ∧ p k)) := by
  induction l generalizing w with
  | nil => simp
  | cons b l ih =>
    have hb : (if p b then w ||| BitVec.ofNat 32 (2 ^ b) else w).getLsbD k = (w.getLsbD k || decide (k = b ∧ p k)) := by
      split
      · next h =>
        rw [BitVec.getLsbD_or, BitVec.getLsbD_ofNat, Nat.testBit_two_pow]
        by_cases e : b = k
        · subst e
          simp [hk, h]
        · simp [e, Ne.symm e]
      · next h =>
        by_cases e : k = b
        · simp [e, h]
        · simp [e]
    rw [List.foldl_cons, ih, hb, Bool.or_assoc, ← Bool.decide_or]
    simp only [List.mem_cons, or_and_right]

theorem State.getLsbD_faultClears (hk : k < 16) :
    (s.faultClears n v).getLsbD k = (v.getLsbD k && decide (k ≠ 13 ∧ k ≠ 15) && !s.faultBlocked n k) := by
  rw [State.faultClears, getLsbD_foldl_set (by omega), BitVec.getLsbD_and, getLsbD_faultMask hk]
  simp [hk]

theorem State.getLsbD_faultClears_of_ge (hk : 16 ≤ k) : (s.faultClears n v).getLsbD k = false := by
  rcases Nat.lt_or_ge k 32 with h | h
  · rw [State.faultClears, getLsbD_foldl_set h]
    simp [show ¬ k < 16 by omega]
  · exact BitVec.getLsbD_of_ge _ _ h

/-- What a write leaves of the word of CH_FAULT, before FIRST and MEMB follow. -/
def State.faultKept (s : State) (n : Fin 128) (v : Word) : Word := s.word (.CH_FAULT n) &&& ~~~ s.faultClears n v

theorem State.getLsbD_faultKept (hk : k < 32) :
    (s.faultKept n v).getLsbD k = ((s.word (.CH_FAULT n)).getLsbD k && !(s.faultClears n v).getLsbD k) := by
  simp [State.faultKept, hk]

/-- The write of CH_FAULT with FIRST, before MEMB of the leader. -/
def State.faultWritten (s : State) (n : Fin 128) (v : Word) : State :=
  if s.faultKept n v &&& faultMask = 0 then (s.setWord (.CH_FAULT n) (s.faultKept n v)).fset (F.CH_FAULT_FIRST n) 0
  else s.setWord (.CH_FAULT n) (s.faultKept n v)

theorem State.faultWritten_word {r : Reg} (hr : r ≠ .CH_FAULT n) : (s.faultWritten n v).word r = s.word r := by
  unfold State.faultWritten
  split
  · rw [State.word_fset_other _ _ _ _ hr, State.word_setWord_other _ _ _ _ hr]
  · exact State.word_setWord_other _ _ _ _ hr

theorem State.faultWritten_bit (hk : k < 16) :
    ((s.faultWritten n v).word (.CH_FAULT n)).getLsbD k = (s.faultKept n v).getLsbD k := by
  unfold State.faultWritten
  split
  · rw [← State.flag_bit, State.flag_fset_apart (by omega) (by simp only; omega), State.flag_bit, State.word_setWord_same]
  · rw [State.word_setWord_same]

theorem State.faultWritten_first : (s.faultWritten n v).fget (F.CH_FAULT_FIRST n) =
    if s.faultKept n v &&& faultMask = 0 then 0 else s.fget (F.CH_FAULT_FIRST n) := by
  unfold State.faultWritten
  split
  · exact State.fget_fset_same _ _ _ (by simp)
  · refine Nat.eq_of_testBit_eq fun i => ?_
    simp only [State.fget, State.word_setWord_same, testBit_bitsOf]
    by_cases hi : i < 5
    · rw [State.getLsbD_faultKept (by omega), State.getLsbD_faultClears_of_ge (by omega), Bool.not_false, Bool.and_true]
    · simp only [hi, decide_false, Bool.false_and]

theorem State.faultWritten_leader : (s.faultWritten n v).leader n = s.leader n :=
  State.leader_congr (State.faultWritten_word nofun)

/-! MEMB of a leader (R113) touches bit 13 of its CH_FAULT. -/

variable {l : Fin 128}

/-- What a write of MEMB leaves, the settling leaves. -/
theorem State.settleMemb_view {β : Type} {V : State → β} (h : V (s.setFlag (F.CH_FAULT_MEMB l) false) = V s) :
    V (s.settleMemb l) = V s := by
  unfold State.settleMemb
  split
  · exact h
  · rfl

theorem State.settleMemb_word {r : Reg} (hr : r ≠ .CH_FAULT l) : (s.settleMemb l).word r = s.word r :=
  State.settleMemb_view (V := fun u => u.word r) (State.word_fset_other _ _ _ _ hr)

theorem State.settleMemb_flag {r : Reg} (hk : k < 32) (h13 : k ≠ 13) : (s.settleMemb l).flag ⟨r, k, 1⟩ = s.flag ⟨r, k, 1⟩ :=
  State.settleMemb_view (V := fun u => u.flag ⟨r, k, 1⟩) (State.flag_fset_apart hk (.inr (by simp only; omega)))

theorem State.settleMemb_first : (s.settleMemb l).fget (F.CH_FAULT_FIRST n) = s.fget (F.CH_FAULT_FIRST n) :=
  State.settleMemb_view (V := fun u => u.fget (F.CH_FAULT_FIRST n)) (State.fget_fset_apart _ _ _ _ (by simp) (by simp))

theorem State.settleMemb_mem : (s.settleMemb l).mem = s.mem := State.settleMemb_store

theorem State.settleMemb_ch : (s.settleMemb l).ch = s.ch := State.settleMemb_view (V := State.ch) rfl

/-! The whole write. -/

theorem State.faultClear_eq : s.faultClear n v = ((s.faultWritten n v).settleMemb (s.leader n)).answer
    (if s.word (.CH_FAULT n) &&& faultMask &&& v &&& ~~~ s.faultClears n v = 0 then stOk else stLocked) := by
  rw [← State.faultWritten_leader (s := s) (v := v)]
  rfl

theorem State.faultClear_bit (hk : k < 16) (h13 : k ≠ 13) :
    ((s.faultClear n v).word (.CH_FAULT n)).getLsbD k = (s.faultKept n v).getLsbD k := by
  rw [State.faultClear_eq, State.word_answer, ← State.flag_bit, State.settleMemb_flag (by omega) h13, State.flag_bit,
    State.faultWritten_bit hk]

theorem State.faultClear_masked :
    (s.faultClear n v).word (.CH_FAULT n) &&& faultMask = s.faultKept n v &&& faultMask := by
  refine BitVec.eq_of_getLsbD_eq fun k _ => ?_
  rw [BitVec.getLsbD_and, BitVec.getLsbD_and]
  rcases Nat.lt_or_ge k 16 with hk | hk
  · by_cases h13 : k = 13
    · rw [getLsbD_faultMask hk, decide_eq_false fun h => h.1 h13, Bool.and_false, Bool.and_false]
    · rw [State.faultClear_bit hk h13]
  · rw [getLsbD_faultMask_of_ge hk, Bool.and_false, Bool.and_false]

/-- The bits written that stay are those of the word before that are still latched. -/
theorem State.faultClear_stays : s.word (.CH_FAULT n) &&& (s.faultClear n v).word (.CH_FAULT n) &&& faultMask &&& v
    = s.word (.CH_FAULT n) &&& faultMask &&& v &&& ~~~ s.faultClears n v := by
  rw [BitVec.and_assoc (s.word (.CH_FAULT n)), State.faultClear_masked, State.faultKept]
  refine BitVec.eq_of_getLsbD_eq fun k _ => ?_
  simp only [BitVec.getLsbD_and]
  ac_nf

theorem State.faultClear_clears (hk : k < 16) (h13 : k ≠ 13) (h15 : k ≠ 15) :
    ((s.faultClear n v).word (.CH_FAULT n)).getLsbD k
      = ((s.word (.CH_FAULT n)).getLsbD k && !(v.getLsbD k && !s.faultBlocked n k)) := by
  rw [State.faultClear_bit hk h13, State.getLsbD_faultKept (by omega), State.getLsbD_faultClears hk, decide_eq_true ⟨h13, h15⟩,
    Bool.and_true]

theorem State.faultClear_first : (s.faultClear n v).fget (F.CH_FAULT_FIRST n) =
    if (s.faultClear n v).word (.CH_FAULT n) &&& faultMask = 0 then 0 else s.fget (F.CH_FAULT_FIRST n) := by
  rw [State.faultClear_masked, ← State.faultWritten_first, State.faultClear_eq, State.fget_congr State.word_answer,
    State.settleMemb_first]

theorem State.faultClear_status : (s.faultClear n v).status =
    if s.word (.CH_FAULT n) &&& (s.faultClear n v).word (.CH_FAULT n) &&& faultMask &&& v = 0 then stOk else stLocked := by
  rw [State.faultClear_stays]
  rfl

theorem State.faultClear_word {r : Reg} (hn : r ≠ .CH_FAULT n) (hl : r ≠ .CH_FAULT (s.leader n)) :
    (s.faultClear n v).word r = s.word r := by
  rw [State.faultClear_eq, State.word_answer, State.settleMemb_word hl, State.faultWritten_word hn]

theorem State.faultWritten_mem : (s.faultWritten n v).mem = s.mem := by
  unfold State.faultWritten
  split
  · rfl
  · rfl

theorem State.faultWritten_ch : (s.faultWritten n v).ch = s.ch := by
  unfold State.faultWritten
  split
  · rfl
  · rfl

theorem State.faultClear_mem : (s.faultClear n v).mem = s.mem := by
  rw [State.faultClear_eq, State.mem_of_answer, State.settleMemb_mem, State.faultWritten_mem]

theorem State.faultClear_ch : (s.faultClear n v).ch = s.ch := by
  rw [State.faultClear_eq, State.ch_of_answer, State.settleMemb_ch, State.faultWritten_ch]

end

/-! MODULATOR_OVERLOAD (R33, R34, R197, R466). -/

section
variable {s : State} {n m : Fin 128} {volt cur : Bool}

/-- R466: a detector, if it fires, sets its bit and keeps the instant. -/
def State.detect (s : State) (n : Fin 128) (f : Fld) (g : ChMeas → ChMeas) (fires : Bool) : State :=
  if fires then (s.setFlag f true).modM n g else s

section
variable {f : Fld} {g : ChMeas → ChMeas} {fires : Bool}

theorem State.detect_word {r : Reg} (hr : r ≠ f.reg) : (s.detect n f g fires).word r = s.word r := by
  cases fires with
  | false => rfl
  | true => exact State.word_fset_other _ _ _ _ hr

theorem State.detect_flag {b : Nat} {r : Reg} (hb : b < 32) :
    (s.detect n ⟨r, b, 1⟩ g fires).flag ⟨r, b, 1⟩ = (fires || s.flag ⟨r, b, 1⟩) := by
  cases fires with
  | false => rfl
  | true => exact State.flag_setFlag (s := s) (f := ⟨r, b, 1⟩) hb Nat.one_pos

theorem State.detect_flag_other {b : Nat} {r : Reg} (hb : b < 32) (h : r ≠ f.reg ∨ b < f.lo ∨ f.lo + f.len ≤ b) :
    (s.detect n f g fires).flag ⟨r, b, 1⟩ = s.flag ⟨r, b, 1⟩ := by
  cases fires with
  | false => rfl
  | true => exact State.flag_fset_apart hb h

theorem State.detect_meas : ((s.detect n f g fires).lane1 n).m = if fires then g (s.lane1 n).m else (s.lane1 n).m := by
  cases fires with
  | false => rfl
  | true => exact congrArg Chan.m State.lane1_modM_same

theorem State.detect_other (h : m ≠ n) : (s.detect n f g fires).lane1 m = s.lane1 m := by
  cases fires with
  | false => rfl
  | true => exact State.lane1_modM_other h

theorem State.detect_lane : (s.detect n f g fires).lane = s.lane := by
  cases fires with
  | false => rfl
  | true => rfl

end

theorem State.overload_eq : s.overload n volt cur =
    (s.detect n (F.CH_MSTAT_VOVR n) (fun m => { m with vovrAt := some s.ctr }) volt).detect n (F.CH_MSTAT_IOVR n)
      (fun m => { m with iovrAt := some s.ctr }) cur := rfl

/-- R33, R34: what the range to come leaves of a channel whose detectors have fired. -/
theorem State.chanOverload_view {β : Type} {V : State → β}
    (h : ∀ p, V ((s.overload n volt cur).modM n fun m => { m with downN := 0, rangePend := p }) = V (s.overload n volt cur)) :
    V (s.chanOverload n volt cur) = V (s.overload n volt cur) := by
  unfold State.chanOverload State.overloadRange
  dsimp only
  split
  · split
    · exact h _
    · split
      · exact h _
      · rfl
  · rfl

theorem State.chanOverload_word {r : Reg} : (s.chanOverload n volt cur).word r = (s.overload n volt cur).word r :=
  State.chanOverload_view (V := fun u => u.word r) fun _ => State.word_modM

theorem State.chanOverload_word_other {r : Reg} (hr : r ≠ .CH_MSTAT n) : (s.chanOverload n volt cur).word r = s.word r := by
  rw [State.chanOverload_word, State.overload_eq, State.detect_word hr, State.detect_word hr]

theorem State.chanOverload_vovr :
    (s.chanOverload n volt cur).flag (F.CH_MSTAT_VOVR n) = (volt || s.flag (F.CH_MSTAT_VOVR n)) := by
  rw [State.flag_congr State.chanOverload_word, State.overload_eq, State.detect_flag_other (by decide) (by simp),
    State.detect_flag (by decide)]

theorem State.chanOverload_iovr :
    (s.chanOverload n volt cur).flag (F.CH_MSTAT_IOVR n) = (cur || s.flag (F.CH_MSTAT_IOVR n)) := by
  rw [State.flag_congr State.chanOverload_word, State.overload_eq, State.detect_flag (by decide),
    State.detect_flag_other (by decide) (by simp)]

theorem State.chanOverload_vovrAt :
    ((s.chanOverload n volt cur).lane1 n).m.vovrAt = if volt then some s.ctr else (s.lane1 n).m.vovrAt := by
  rw [State.chanOverload_view (V := fun u => (u.lane1 n).m.vovrAt) fun _ => by rw [State.lane1_modM_same], State.overload_eq,
    State.detect_meas, apply_ite ChMeas.vovrAt, ite_self, State.detect_meas, apply_ite ChMeas.vovrAt]

theorem State.chanOverload_other (hm : m ≠ n) : (s.chanOverload n volt cur).lane1 m = s.lane1 m := by
  rw [State.chanOverload_view (V := fun u => u.lane1 m) fun _ => State.lane1_modM_other hm, State.overload_eq,
    State.detect_other hm, State.detect_other hm]

theorem State.chanOverload_lane : (s.chanOverload n volt cur).lane = s.lane := by
  rw [State.chanOverload_view (V := State.lane) fun _ => State.lane_of_modM, State.overload_eq, State.detect_lane,
    State.detect_lane]

/-- R466: the detectors of a channel. -/
theorem modulatorOverload_channel : ∃ t, exec (.modulatorOverload (some n) volt cur) s = .next t
    ∧ t.flag (F.CH_MSTAT_VOVR n) = (volt || s.flag (F.CH_MSTAT_VOVR n))
    ∧ t.flag (F.CH_MSTAT_IOVR n) = (cur || s.flag (F.CH_MSTAT_IOVR n))
    ∧ (t.lane1 n).m.vovrAt = (if volt then some s.ctr else (s.lane1 n).m.vovrAt)
    ∧ Only s t [.CH_MSTAT n] ∧ t.mem = s.mem ∧ ∀ m, m ≠ n → t.lane1 m = s.lane1 m :=
  ⟨_, rfl, State.chanOverload_vovr, State.chanOverload_iovr, State.chanOverload_vovrAt,
    fun _ hr => State.chanOverload_word_other fun e => hr (e ▸ List.mem_cons_self), State.chanOverload_store,
    fun _ => State.chanOverload_other⟩

/-- The channel that LN_ADOPT names. -/
def State.adoptee (s : State) : Fin 128 := Fin.ofNat 128 (s.fget F.LN_ADOPT_CH)

theorem State.adopted_eq : s.adopted n = (s.flag F.LN_ADOPT_ACT && decide (n = s.adoptee)) := by
  have hlt : s.fget F.LN_ADOPT_CH < 128 := State.fget_lt s F.LN_ADOPT_CH
  have hv : s.adoptee.val = s.fget F.LN_ADOPT_CH := Nat.mod_eq_of_lt hlt
  rw [State.adopted, ← hv]
  simp only [Fin.ext_iff, eq_comm]

/-- R197, R466: what the lane's own detectors do. -/
def State.laneDetects (s : State) (volt cur : Bool) : State :=
  if s.flag F.LN_ADOPT_ACT then (s.laneOverload volt cur).chanOverload s.adoptee volt cur else s.laneOverload volt cur

theorem State.laneDetects_lane : (s.laneDetects volt cur).lane = (s.laneOverload volt cur).lane := by
  unfold State.laneDetects
  split
  · exact State.chanOverload_lane
  · rfl

theorem State.laneDetects_word {r : Reg} (hr : ∀ n, r ≠ .CH_MSTAT n) : (s.laneDetects volt cur).word r = s.word r := by
  unfold State.laneDetects
  split
  · exact State.chanOverload_word_other (hr _)
  · rfl

theorem State.laneDetects_mem : (s.laneDetects volt cur).mem = s.mem := by
  unfold State.laneDetects
  split
  · exact State.chanOverload_store
  · rfl

/-- The overload bits of an adopted channel are set, those of any other stand. -/
theorem State.laneDetects_flags :
    (s.laneDetects volt cur).flag (F.CH_MSTAT_VOVR n) = ((volt && s.adopted n) || s.flag (F.CH_MSTAT_VOVR n))
      ∧ (s.laneDetects volt cur).flag (F.CH_MSTAT_IOVR n) = ((cur && s.adopted n) || s.flag (F.CH_MSTAT_IOVR n)) := by
  rw [State.adopted_eq]
  unfold State.laneDetects
  cases hact : s.flag F.LN_ADOPT_ACT with
  | false => simp only [Bool.false_eq_true, if_false, Bool.false_and, Bool.and_false, Bool.false_or]; exact ⟨rfl, rfl⟩
  | true =>
    by_cases hn : n = s.adoptee
    · rw [if_pos rfl, hn, decide_eq_true rfl, Bool.and_true, Bool.and_true, Bool.and_true]
      exact ⟨State.chanOverload_vovr, State.chanOverload_iovr⟩
    · rw [if_pos rfl, decide_eq_false hn, Bool.and_false, Bool.and_false, Bool.and_false, Bool.false_or, Bool.false_or]
      have hw : ((s.laneOverload volt cur).chanOverload s.adoptee volt cur).word (.CH_MSTAT n) = s.word (.CH_MSTAT n) :=
        State.chanOverload_word_other fun e => hn (Reg.CH_MSTAT.inj e)
      exact ⟨State.flag_congr hw, State.flag_congr hw⟩

/-- R197, R466: the detectors of the lane, and of the channel it has adopted. -/
theorem modulatorOverload_lane : ∃ t, exec (.modulatorOverload none volt cur) s = .next t
    ∧ t.lane.vovrAt = (if volt then some s.ctr else s.lane.vovrAt) ∧ t.lane.iovrAt = (if cur then some s.ctr else s.lane.iovrAt)
    ∧ (∀ n : Fin 128, t.flag (F.CH_MSTAT_VOVR n) = ((volt && s.adopted n) || s.flag (F.CH_MSTAT_VOVR n))
      ∧ t.flag (F.CH_MSTAT_IOVR n) = ((cur && s.adopted n) || s.flag (F.CH_MSTAT_IOVR n)))
    ∧ t.mem = s.mem ∧ ∀ r, (∀ n, r ≠ .CH_MSTAT n) → t.word r = s.word r := by
  refine ⟨s.laneDetects volt cur, rfl, ?_, ?_, fun n => State.laneDetects_flags, State.laneDetects_mem,
    fun r => State.laneDetects_word⟩
  · rw [State.laneDetects_lane]
    rfl
  · rw [State.laneDetects_lane]
    rfl

end

/-! PARKED_SWITCH_OPEN (R16) and STOP_END (R18). -/

section
variable {s : State} {n m : Fin 128}

theorem State.openSwitch_word {r : Reg} (hr : r ≠ .CH_STATE n) : (s.openSwitch n).word r = s.word r :=
  State.word_fset_other s _ _ _ hr

theorem State.openSwitch_open : (s.openSwitch n).flag (F.CH_STATE_OSWC n) = false :=
  State.flag_setFlag (s := s) (f := F.CH_STATE_OSWC n) (by simp) (by simp)

theorem State.openSwitch_chState : (s.openSwitch n).chState n = s.chState n :=
  State.fget_fset_apart s _ _ _ (by simp) (by simp)

theorem execParkedSwitchOpen_of_due {due : Nat} (hd : (s.lane1 n).l.openBy = some due) (hi : s.idle n = true)
    (h : s.lowCurrent n = true ∨ due ≤ s.time) : execParkedSwitchOpen n s = .next (s.openSwitch n) := by
  unfold execParkedSwitchOpen
  rw [hd]
  exact if_pos ⟨hi, h⟩

theorem parkedSwitchOpen_opens {due : Nat} (hd : (s.lane1 n).l.openBy = some due) (hi : s.idle n = true)
    (h : s.lowCurrent n = true ∨ due ≤ s.time) :
    ∃ t, exec (.parkedSwitchOpen n) s = .next t ∧ t.flag (F.CH_STATE_OSWC n) = false ∧ t.chState n = s.chState n
      ∧ Only s t [.CH_STATE n] ∧ t.mem = s.mem ∧ ∀ m, m ≠ n → t.lane1 m = s.lane1 m :=
  ⟨_, execParkedSwitchOpen_of_due hd hi h, State.openSwitch_open, State.openSwitch_chState,
    fun _ hr => State.openSwitch_word fun e => hr (e ▸ List.mem_cons_self), rfl, fun _ => State.lane1_modL_other⟩

/-- R16: the outputs of a channel that has let go: PARKED, its phases at mid, no soft start, no mode. -/
structure LetGo (s : State) (n : Fin 128) : Prop where
  parked : s.chState n = stPARKED
  phA : (s.lane1 n).l.phA = .mid
  phB : (s.lane1 n).l.phB = .mid
  softStart : s.flag (F.CH_STATE_SS n) = false
  mode : s.word (.CH_MODE n) = 0

theorem State.quiet_mode : (s.quiet n).word (.CH_MODE n) = 0 := by
  simp [State.quiet, State.setFlag, State.word_fset_other]

theorem State.quiet_softStart : (s.quiet n).flag (F.CH_STATE_SS n) = false := by
  have hw : (s.quiet n).word (.CH_STATE n) = ((s.setFlag (F.CH_STATE_NPH n) false).setFlag (F.CH_STATE_SS n) false).word
      (.CH_STATE n) := by
    simp [State.quiet, State.setFlag, State.word_setWord_other, State.fset]
  rw [State.flag_congr (f := F.CH_STATE_SS n) hw]
  exact State.flag_setFlag (by simp) (by simp)

theorem State.quiet_loop : ((s.quiet n).lane1 n).l.phA = .mid ∧ ((s.quiet n).lane1 n).l.phB = .mid := by
  simp [State.quiet, ChLoop.mid]

theorem State.quiet_other (hm : n ≠ m) : (s.quiet m).lane1 n = s.lane1 n := by
  simp [State.quiet, State.lane1_modL_other hm, State.lane1_modX_other hm, State.lane1_modC_other hm, State.lane1_modM_other hm]

theorem State.quiet_mode_other (hm : n ≠ m) : (s.quiet m).word (.CH_MODE n) = s.word (.CH_MODE n) := by
  simp [State.quiet, State.setFlag, State.word_fset_other, State.word_setWord_other, hm]

theorem letGo_fset_parked (hA : (s.lane1 n).l.phA = .mid) (hB : (s.lane1 n).l.phB = .mid)
    (hss : s.flag (F.CH_STATE_SS n) = false) (hmode : s.word (.CH_MODE n) = 0) :
    LetGo (s.fset (F.CH_STATE_STATE n) stPARKED) n where
  parked := (State.fget_fset_same _ _ _ (by simp)).trans (by simp)
  phA := hA
  phB := hB
  softStart := (State.flag_fset_apart (by decide) (.inr (by simp))).trans hss
  mode := (State.word_fset_other _ _ _ _ (by simp)).trans hmode

/-- A quiet channel that is set PARKED has let go. -/
theorem State.quiet_letGo : LetGo ((s.quiet n).fset (F.CH_STATE_STATE n) stPARKED) n :=
  letGo_fset_parked State.quiet_loop.1 State.quiet_loop.2 State.quiet_softStart State.quiet_mode

/-- What has let go stays so while the registers and the lane stand. -/
theorem LetGo.congr {t : State} (h : LetGo s n) (hs : t.word (.CH_STATE n) = s.word (.CH_STATE n))
    (hm : t.word (.CH_MODE n) = s.word (.CH_MODE n)) (hl : t.lane1 n = s.lane1 n) : LetGo t n where
  parked := (State.fget_congr hs).trans h.parked
  phA := by rw [hl, h.phA]
  phB := by rw [hl, h.phB]
  softStart := (State.flag_congr hs).trans h.softStart
  mode := hm.trans h.mode

/-- A member that follows its leader leaves it let go. -/
theorem LetGo.parkMember (h : LetGo s n) : LetGo (s.parkMember m) n := by
  by_cases hm : n = m
  · subst hm
    rwa [State.parkMember, if_neg (by rw [h.parked]; decide)]
  · unfold State.parkMember
    split
    · refine h.congr ?_ ?_ ?_
      · rw [State.word_fset_other _ _ _ _ (by simpa), State.quiet_word hm]
      · rw [State.word_fset_other _ _ _ _ (by simp), State.quiet_mode_other hm]
      · rw [State.lane1_fset, State.quiet_other hm]
    · exact h

theorem State.parkGang_letGo {src close : Nat} : LetGo (s.parkGang n src close) n :=
  State.each_induction (P := fun t => LetGo t n) State.quiet_letGo fun _ _ _ => LetGo.parkMember

/-- R18: a channel in STOP whose current is low is PARKED, with its gang. -/
theorem stopEnd_parks (hs : s.chState n = stSTOP) (hi : (s.curr n).natAbs < 50000) :
    ∃ t, exec (.stopEnd n) s = .next t ∧ t.chState n = stPARKED ∧ (t.lane1 n).l.phA = .mid ∧ (t.lane1 n).l.phB = .mid
      ∧ t.flag (F.CH_STATE_SS n) = false ∧ t.word (.CH_MODE n) = 0 ∧ t.mem = s.mem
      ∧ ∀ r, r.group ≠ 2 → r.group ≠ 10 → r.group ≠ 16 → t.word r = s.word r := by
  obtain ⟨hp, hA, hB, hss, hmode⟩ := State.parkGang_letGo (s := s) (n := n) (src := 8) (close := s.ctr)
  exact ⟨_, if_pos ⟨hs, hi⟩, hp, hA, hB, hss, hmode, State.parkGang_store, fun _ => State.parkGang_rd⟩

end

/-- Settles O16: a written bit by the word that stays (`State.faultKept`), an overload by the bit and the instant of each detector
(`State.detect`), the end of STOP by what a parked gang keeps of its leader (`LetGo`). -/
theorem faultsClearAndOutputsLetGo : Obligations.FaultsClearAndOutputsLetGo :=
  ⟨fun _ _ _ => ⟨_, rfl, State.faultClear_mem, State.faultClear_ch,
      fun _ => State.faultClear_clears, State.faultClear_first, State.faultClear_status, fun _ => State.faultClear_word⟩,
    fun _ _ _ _ => modulatorOverload_channel, fun _ _ _ => modulatorOverload_lane,
    fun _ _ _ => parkedSwitchOpen_opens, fun _ _ => stopEnd_parks⟩

end Sys2Proof.Machine

/-! PROOFS. The detectors' trips, the limit pulses of a stage, the wear and the drift of a contact (R95, R96, R99, R100, R102, R111). -/

namespace Sys2Proof.Machine

/-! OC_TRIP, OV_TRIP, UV_TRIP and FUSE_TRIP (R95, R96, R99, R102). -/

section
variable {s : State} {n : Fin 128} {t uv held : Nat}

theorem execOcTrip_of_over (hu : s.eff (F.CH_LIM_I_OCTH n) * 1000 < uv) (hh : 50 ≤ held) :
    execOcTrip n t uv held s = .next (s.trip n [0] t) := if_pos ⟨hu, hh⟩

theorem execOcTrip_of_not (h : uv ≤ s.eff (F.CH_LIM_I_OCTH n) * 1000 ∨ held < 50) : execOcTrip n t uv held s = .next s := by
  refine if_neg ?_
  rintro ⟨hu, hh⟩
  omega

theorem execOvTrip_of_over (hc : s.flag (F.CH_STATE_OSWC n) = true) (hu : s.eff (F.CH_LIM_V_OVTH n) * 1000 < uv)
    (hh : 1000 ≤ held) : execOvTrip n t uv held s = .next (s.trip n [1] t) := if_pos ⟨hc, hu, hh⟩

theorem execOvTrip_of_not (h : s.flag (F.CH_STATE_OSWC n) = false ∨ uv ≤ s.eff (F.CH_LIM_V_OVTH n) * 1000 ∨ held < 1000) :
    execOvTrip n t uv held s = .next s := by
  refine if_neg ?_
  rintro ⟨hc, hu, hh⟩
  rcases h with h | h | h
  · exact Bool.false_ne_true (h.symm.trans hc)
  · omega
  · exact Nat.not_lt.2 hh h

theorem execUvTrip_of_run (h10 : 10 ≤ (s.lane1 n).p.uvN) (hc : s.flag (F.CH_STATE_OSWC n) = true) :
    execUvTrip n s = .next (s.tripSoft n [2]) := if_pos ⟨h10, hc⟩

theorem execUvTrip_of_not (h : (s.lane1 n).p.uvN < 10 ∨ s.flag (F.CH_STATE_OSWC n) = false) : execUvTrip n s = .next s := by
  refine if_neg ?_
  rintro ⟨h10, hc⟩
  rcases h with h | h
  · omega
  · exact Bool.false_ne_true (h.symm.trans hc)

theorem execFuseTrip_of_hot (hh : ((64 + s.eff (F.CH_FUSE_KT n)) * s.icOf n) * ((64 + s.eff (F.CH_FUSE_KT n)) * s.icOf n)
    ≤ (s.lane1 n).p.h * 4096) (hf : s.flag (F.CH_FAULT_FUSE n) = false) : execFuseTrip n s = .next (s.tripSoft n [4]) :=
  if_pos ⟨decide_eq_true hh, by simp [hf]⟩

end

/-! STAGE_FAULT and FLT_L_PULSE (R95, R100). -/

section
variable {s : State} {n : Fin 128} {t held : Nat}

/-- A change of a lane's protection leaves every register. -/
theorem Only.modP {f : ChProt → ChProt} {rs : List Reg} : Only s (s.modP n f) rs := fun _ _ => rfl

theorem State.fltLong_of_le (h : s.eff (F.CH_STG_FLTQ n) * 100 ≤ held) : s.fltLong n held = true := decide_eq_true h

theorem State.fltLong_of_lt (h : held < s.eff (F.CH_STG_FLTQ n) * 100) : s.fltLong n held = false :=
  decide_eq_false (Nat.not_le.2 h)

/-- R100: the level of FLT_L[n] as the protection sees it. -/
def State.fltSeen (s : State) (n : Fin 128) (low : Bool) : State := s.modP n fun p => { p with fltLow := low }

theorem State.fltSeen_low {low : Bool} : ((s.fltSeen n low).lane1 n).p.fltLow = low :=
  congrArg (fun c => c.p.fltLow) State.lane1_modP_same

theorem execStageFault_of_long (hc : s.flag (F.CH_STATE_OSWC n) = true) (hh : s.eff (F.CH_STG_FLTQ n) * 100 ≤ held) :
    execStageFault n t held s = .next ((s.fltSeen n true).trip n [8] t) := if_pos ⟨hc, State.fltLong_of_le hh⟩

theorem execStageFault_of_not (h : s.flag (F.CH_STATE_OSWC n) = false ∨ held < s.eff (F.CH_STG_FLTQ n) * 100) :
    execStageFault n t held s = .next (s.fltSeen n true) := by
  refine if_neg ?_
  rintro ⟨hc, hl⟩
  rcases h with h | h
  · exact Bool.false_ne_true (h.symm.trans hc)
  · exact Bool.false_ne_true ((State.fltLong_of_lt h).symm.trans hl)

/-- R100: the cycle a pulse that ends at `t` falls in. -/
def State.pulseCycle (s : State) (t : Nat) : Nat := (s.time + t) * 1000000 / s.tnow

/-- R100: the cycles of the last 64 that held a pulse, with the cycle of a new one at their head. -/
def State.pulsesWith (s : State) (n : Fin 128) (t : Nat) : List Nat :=
  (s.pulseCycle t :: (s.lane1 n).p.fltPulses.filter fun k => k ≠ s.pulseCycle t).filter fun k => s.pulseCycle t < k + 64

theorem State.pulsesWith_head : (s.pulsesWith n t).head? = some (s.pulseCycle t) := by
  rw [State.pulsesWith, List.filter_cons_of_pos (by simp), List.head?_cons]

/-- R100: a limit pulse counted. -/
def State.pulseCounted (s : State) (n : Fin 128) (t : Nat) : State :=
  ((s.fltSeen n false).incWrap (F.CH_STG_CYCCNT n)).modP n fun p => { p with fltPulses := s.pulsesWith n t }

theorem State.pulseCounted_prot :
    ((s.pulseCounted n t).lane1 n).p = { (s.lane1 n).p with fltLow := false, fltPulses := s.pulsesWith n t } := by
  rw [State.pulseCounted, State.lane1_modP_same, State.lane1_incWrap, State.fltSeen, State.lane1_modP_same]

theorem State.pulseCounted_only : Only s (s.pulseCounted n t) [.CH_STG n] := by
  intro r hr
  rw [State.pulseCounted, State.word_modP]
  exact State.word_fset_other (s.fltSeen n false) _ _ r fun e => hr (e ▸ List.mem_cons_self)

theorem State.pulseCounted_count :
    (s.pulseCounted n t).fget (F.CH_STG_CYCCNT n) = (s.fget (F.CH_STG_CYCCNT n) + 1) % 65536 :=
  State.fget_fset_same (s.fltSeen n false) (F.CH_STG_CYCCNT n) _ (by simp)

theorem execFltLPulse_of_open (hc : s.flag (F.CH_STATE_OSWC n) = false) :
    execFltLPulse n t held s = .next (s.fltSeen n false) := if_pos hc

theorem execFltLPulse_of_long (hc : s.flag (F.CH_STATE_OSWC n) = true) (hh : s.eff (F.CH_STG_FLTQ n) * 100 ≤ held) :
    execFltLPulse n t held s = .next ((s.fltSeen n false).trip n [8] t) :=
  (if_neg (ne_false_of_eq_true hc)).trans (if_pos (State.fltLong_of_le hh))

theorem execFltLPulse_of_short (hc : s.flag (F.CH_STATE_OSWC n) = true) (hh : held < s.eff (F.CH_STG_FLTQ n) * 100) :
    execFltLPulse n t held s = .next (if s.eff (F.CH_STG_CYCN n) ≤ (s.pulsesWith n t).length then
      (s.pulseCounted n t).trip n [9] t else s.pulseCounted n t) := by
  refine ((if_neg (ne_false_of_eq_true hc)).trans (if_neg (ne_true_of_eq_false (State.fltLong_of_lt hh)))).trans ?_
  exact (apply_ite Host.Outcome.next _ _ _).symm

/-- R100: a limit pulse with the switch closed. -/
theorem fltLPulse_counts (hc : s.flag (F.CH_STATE_OSWC n) = true) (hh : held < s.eff (F.CH_STG_FLTQ n) * 100) :
    ∃ u, u.fget (F.CH_STG_CYCCNT n) = (s.fget (F.CH_STG_CYCCNT n) + 1) % 65536 ∧ Only s u [.CH_STG n] ∧ u.mem = s.mem
      ∧ (u.lane1 n).p.fltPulses.head? = some ((s.time + t) * 1000000 / s.tnow) ∧ (u.lane1 n).p.fltLow = false
      ∧ exec (.fltLPulse n t held) s =
        .next (if s.eff (F.CH_STG_CYCN n) ≤ (u.lane1 n).p.fltPulses.length then u.trip n [9] t else u) := by
  refine ⟨s.pulseCounted n t, State.pulseCounted_count, State.pulseCounted_only, rfl, ?_⟩
  rw [State.pulseCounted_prot]
  exact ⟨State.pulsesWith_head, rfl, execFltLPulse_of_short hc hh⟩

end

/-! WEAR_BIN_MINUTE (R111). -/

section
variable {s : State} {n : Fin 128}

/-- R111: the excursion bins as they roll: an empty one for each minute passed over, then that of the minute just past. -/
def State.binsRolled (s : State) (n : Fin 128) : List Nat :=
  (List.replicate (min 60 (s.time / 60000000000 - (s.lane1 n).p.binAt - 1)) 0 ++ (s.lane1 n).p.binNow :: (s.lane1 n).p.bins).take 59

theorem State.binsRolled_of_minute (h : (s.lane1 n).p.binAt + 1 = s.time / 60000000000) :
    s.binsRolled n = ((s.lane1 n).p.binNow :: (s.lane1 n).p.bins).take 59 := by
  have h0 : min 60 (s.time / 60000000000 - (s.lane1 n).p.binAt - 1) = 0 := by omega
  rw [State.binsRolled, h0, List.replicate_zero, List.nil_append]

/-- R111: the next minute's bin opens. -/
def State.wearRolled (s : State) (n : Fin 128) : State :=
  s.modP n fun p => { p with bins := s.binsRolled n, binNow := 0, binAt := s.time / 60000000000 }

theorem State.wearRolled_prot : ((s.wearRolled n).lane1 n).p =
    { (s.lane1 n).p with bins := s.binsRolled n, binNow := 0, binAt := s.time / 60000000000 } :=
  congrArg Chan.p State.lane1_modP_same

theorem State.wearRolled_near : ((s.wearRolled n).lane1 n).p.near = (s.binsRolled n).foldl (· + ·) 0 := by
  rw [State.wearRolled_prot, ChProt.near, Nat.zero_add]

theorem State.wearJudge_of_over (hr : s.eff (F.CH_CTWEAR_RATE n) < (s.lane1 n).p.near) (hf : s.flag (F.CH_CTWEAR_WEAR n) = false) :
    s.wearJudge n = (s.setFlag (F.CH_CTWEAR_WEAR n) true).raise (2 * n.val) 1
      ((s.setFlag (F.CH_CTWEAR_WEAR n) true).faultPayload n) := if_pos ⟨hr, by simp [hf]⟩

theorem State.wearJudge_of_half (hr : 2 * (s.lane1 n).p.near ≤ s.eff (F.CH_CTWEAR_RATE n)) :
    s.wearJudge n = s.setFlag (F.CH_CTWEAR_WEAR n) false :=
  (if_neg fun h => by have := h.1; omega).trans (if_pos hr)

theorem execWearBinMinute_of_past (h : (s.lane1 n).p.binAt < s.time / 60000000000) :
    execWearBinMinute n s = .next ((s.wearRolled n).wearJudge n) := if_neg (Nat.not_le.2 h)

theorem execWearBinMinute_of_same (h : s.time / 60000000000 ≤ (s.lane1 n).p.binAt) : execWearBinMinute n s = .next s := if_pos h

/-- The registers after WEAR is written, over a lane whose protection has moved on. -/
theorem State.wearRolled_setFlag {b : Bool} :
    ((s.wearRolled n).setFlag (F.CH_CTWEAR_WEAR n) b).flag (F.CH_CTWEAR_WEAR n) = b
      ∧ (((s.wearRolled n).setFlag (F.CH_CTWEAR_WEAR n) b).lane1 n).p =
        { (s.lane1 n).p with bins := s.binsRolled n, binNow := 0, binAt := s.time / 60000000000 }
      ∧ Only s ((s.wearRolled n).setFlag (F.CH_CTWEAR_WEAR n) b) [.CH_CTWEAR n]
      ∧ ((s.wearRolled n).setFlag (F.CH_CTWEAR_WEAR n) b).mem = s.mem :=
  ⟨State.flag_setFlag (by simp) (by simp), State.wearRolled_prot, Only.setFlag (F.CH_CTWEAR_WEAR n) fun _ => rfl, rfl⟩

/-- R111: the sum of the bins exceeds RATE. -/
theorem wearBinMinute_sets (h : (s.lane1 n).p.binAt + 1 = s.time / 60000000000)
    (hr : s.eff (F.CH_CTWEAR_RATE n) < (((s.lane1 n).p.binNow :: (s.lane1 n).p.bins).take 59).foldl (· + ·) 0)
    (hf : s.flag (F.CH_CTWEAR_WEAR n) = false) :
    ∃ u, exec (.wearBinMinute n) s = .next (u.raise (2 * n.val) 1 (u.faultPayload n)) ∧ u.flag (F.CH_CTWEAR_WEAR n) = true
      ∧ (u.lane1 n).p.binNow = 0 ∧ (u.lane1 n).p.binAt = s.time / 60000000000
      ∧ (u.lane1 n).p.bins = ((s.lane1 n).p.binNow :: (s.lane1 n).p.bins).take 59 ∧ Only s u [.CH_CTWEAR n] ∧ u.mem = s.mem := by
  obtain ⟨hflag, hprot, honly, hmem⟩ := State.wearRolled_setFlag (s := s) (n := n) (b := true)
  rw [← State.binsRolled_of_minute h] at hr ⊢
  have hover : (s.wearRolled n).eff (F.CH_CTWEAR_RATE n) < ((s.wearRolled n).lane1 n).p.near := State.wearRolled_near ▸ hr
  have hx : execWearBinMinute n s = _ :=
    (execWearBinMinute_of_past (by omega)).trans (congrArg Host.Outcome.next (State.wearJudge_of_over hover hf))
  exact ⟨_, hx, hflag, congrArg ChProt.binNow hprot, congrArg ChProt.binAt hprot, congrArg ChProt.bins hprot, honly, hmem⟩

/-- R111: the sum of the bins is down to half of RATE. -/
theorem wearBinMinute_clears (h : (s.lane1 n).p.binAt + 1 = s.time / 60000000000)
    (hr : 2 * (((s.lane1 n).p.binNow :: (s.lane1 n).p.bins).take 59).foldl (· + ·) 0 ≤ s.eff (F.CH_CTWEAR_RATE n)) :
    ∃ t, exec (.wearBinMinute n) s = .next t ∧ t.flag (F.CH_CTWEAR_WEAR n) = false ∧ (t.lane1 n).p.binNow = 0
      ∧ (t.lane1 n).p.bins = ((s.lane1 n).p.binNow :: (s.lane1 n).p.bins).take 59 ∧ Only s t [.CH_CTWEAR n] ∧ t.mem = s.mem := by
  obtain ⟨hflag, hprot, honly, hmem⟩ := State.wearRolled_setFlag (s := s) (n := n) (b := false)
  rw [← State.binsRolled_of_minute h] at hr ⊢
  have hhalf : 2 * ((s.wearRolled n).lane1 n).p.near ≤ (s.wearRolled n).eff (F.CH_CTWEAR_RATE n) := State.wearRolled_near ▸ hr
  have hx : execWearBinMinute n s = _ :=
    (execWearBinMinute_of_past (by omega)).trans (congrArg Host.Outcome.next (State.wearJudge_of_half hhalf))
  exact ⟨_, hx, hflag, congrArg ChProt.binNow hprot, congrArg ChProt.bins hprot, honly, hmem⟩

/-! DRIFT_SECOND (R111). -/

/-- R111: the sums of the next second begin. -/
def State.driftBegun (s : State) (n : Fin 128) : State :=
  s.modP n fun p => { p with driftSum := 0, driftN := 0, driftAt := s.time / 1000000000 }

theorem State.driftBegun_prot : ((s.driftBegun n).lane1 n).p =
    { (s.lane1 n).p with driftSum := 0, driftN := 0, driftAt := s.time / 1000000000 } := congrArg Chan.p State.lane1_modP_same

theorem execDriftSecond_of_over (h : (s.lane1 n).p.driftAt < s.time / 1000000000) (hf : s.flag (F.CH_CTWEAR_DRIFT n) = false)
    (hd : s.eff (F.CT_DELTA_DELTA n) * 10 ^ 9 * (s.lane1 n).p.driftN < 2 * (s.lane1 n).p.driftSum.natAbs) :
    execDriftSecond n s = .next (((s.driftBegun n).setFlag (F.CH_CTWEAR_DRIFT n) true).raise (2 * n.val) 1
      (((s.driftBegun n).setFlag (F.CH_CTWEAR_DRIFT n) true).faultPayload n)) :=
  (if_neg (Nat.not_le.2 h)).trans (if_pos ⟨hd, by simp [hf]⟩)

theorem execDriftSecond_of_within (h : (s.lane1 n).p.driftAt < s.time / 1000000000)
    (hd : 2 * (s.lane1 n).p.driftSum.natAbs ≤ s.eff (F.CT_DELTA_DELTA n) * 10 ^ 9 * (s.lane1 n).p.driftN) :
    execDriftSecond n s = .next (s.driftBegun n) :=
  (if_neg (Nat.not_le.2 h)).trans (if_neg fun hx => Nat.not_lt.2 hd hx.1)

theorem execDriftSecond_of_same (h : s.time / 1000000000 ≤ (s.lane1 n).p.driftAt) : execDriftSecond n s = .next s := if_pos h

/-- R111: the mean residual of a second exceeds half of DELTA. -/
theorem driftSecond_sets (h : (s.lane1 n).p.driftAt < s.time / 1000000000) (hf : s.flag (F.CH_CTWEAR_DRIFT n) = false)
    (hd : s.eff (F.CT_DELTA_DELTA n) * 10 ^ 9 * (s.lane1 n).p.driftN < 2 * (s.lane1 n).p.driftSum.natAbs) :
    ∃ u, exec (.driftSecond n) s = .next (u.raise (2 * n.val) 1 (u.faultPayload n)) ∧ u.flag (F.CH_CTWEAR_DRIFT n) = true
      ∧ (u.lane1 n).p.driftN = 0 ∧ (u.lane1 n).p.driftSum = 0 ∧ (u.lane1 n).p.driftAt = s.time / 1000000000
      ∧ Only s u [.CH_CTWEAR n] ∧ u.mem = s.mem := by
  have hprot := State.driftBegun_prot (s := s) (n := n)
  exact ⟨_, execDriftSecond_of_over h hf hd, State.flag_setFlag (by simp) (by simp), congrArg ChProt.driftN hprot,
    congrArg ChProt.driftSum hprot, congrArg ChProt.driftAt hprot, Only.setFlag (F.CH_CTWEAR_DRIFT n) fun _ => rfl, rfl⟩

theorem driftSecond_begins (h : (s.lane1 n).p.driftAt < s.time / 1000000000)
    (hd : 2 * (s.lane1 n).p.driftSum.natAbs ≤ s.eff (F.CT_DELTA_DELTA n) * 10 ^ 9 * (s.lane1 n).p.driftN) :
    ∃ t, exec (.driftSecond n) s = .next t ∧ (t.lane1 n).p.driftN = 0 ∧ (t.lane1 n).p.driftSum = 0 ∧ Only s t []
      ∧ t.mem = s.mem := by
  have hprot := State.driftBegun_prot (s := s) (n := n)
  exact ⟨_, execDriftSecond_of_within h hd, congrArg ChProt.driftN hprot, congrArg ChProt.driftSum hprot, Only.modP, rfl⟩

end

/-- Settles O24: each detector by its threshold (`execOcTrip_of_over` and the like), the stage's pulses by what is counted of them
(`State.pulseCounted`), wear and drift by the bins that roll (`State.wearRolled`) and the sums that begin (`State.driftBegun`). -/
theorem detectorsWearAndPulses : Obligations.DetectorsWearAndPulses := by
  refine ⟨⟨fun _ _ _ _ _ => execOcTrip_of_over, fun _ _ _ _ _ => execOcTrip_of_not, fun _ _ _ _ _ => execOvTrip_of_over,
      fun _ _ _ _ _ => execOvTrip_of_not, fun _ _ => execUvTrip_of_run, fun _ _ => execFuseTrip_of_hot,
      fun _ _ => execUvTrip_of_not, fun s n t held hc hh => ?_, fun s n t held h => ?_⟩,
    fun _ _ _ _ => fltLPulse_counts, fun s n t held hc hh => ?_, fun s n t held hc => ?_, fun _ _ => wearBinMinute_sets,
    fun _ _ => wearBinMinute_clears, fun _ _ => execWearBinMinute_of_same, fun _ _ => driftSecond_sets,
    fun _ _ => driftSecond_begins, fun _ _ => execDriftSecond_of_same⟩
  · exact ⟨_, execStageFault_of_long hc hh, State.fltSeen_low, Only.modP, rfl, fun _ => State.lane1_modP_other⟩
  · exact ⟨_, execStageFault_of_not h, State.fltSeen_low, Only.modP, rfl⟩
  · exact ⟨_, execFltLPulse_of_long hc hh, State.fltSeen_low, Only.modP, rfl⟩
  · exact ⟨_, execFltLPulse_of_open hc, State.fltSeen_low, Only.modP, rfl⟩

end Sys2Proof.Machine

/-! PROOFS. The energy ledger: the limits in force, the passes over the scales, the throttle report and the alarms (R213–R217, R219,
R222, R223). -/

namespace Sys2Proof.Machine

/-! The cap in force (R213). -/

section
variable {s : State}

/-- R213: the lower of the host's cap and of the rack manager's, where that one counts, and its source. -/
def State.capAsked (s : State) : Int × Nat :=
  if s.eff F.LG_CTL_RMEN = 1 ∧ s.flag F.LG_CAP_RM_VALID
      ∧ (s.fget F.LG_CAP_RM_CAP : Int) * 10 ^ 12 < (s.eff F.LG_CAP_W_CAP : Int) * 10 ^ 12 then
    ((s.fget F.LG_CAP_RM_CAP : Int) * 10 ^ 12, 1)
  else ((s.eff F.LG_CAP_W_CAP : Int) * 10 ^ 12, 0)

theorem State.capAsked_le_host : s.capAsked.1 ≤ (s.eff F.LG_CAP_W_CAP : Int) * 10 ^ 12 := by
  unfold State.capAsked
  split
  next h => exact Int.le_of_lt h.2.2
  next => exact Int.le_refl _

theorem State.capAsked_le_rackManager (he : s.eff F.LG_CTL_RMEN = 1) (hv : s.flag F.LG_CAP_RM_VALID = true) :
    s.capAsked.1 ≤ (s.fget F.LG_CAP_RM_CAP : Int) * 10 ^ 12 := by
  unfold State.capAsked
  split
  next => exact Int.le_refl _
  next h => exact Int.not_lt.1 fun hlt => h ⟨he, hv, hlt⟩

theorem State.capNow_of_no_feed (hs : s.shelf = shSERVICE) (hc : s.servCode = 0) : s.capNow = s.capAsked := by
  rw [State.capNow, if_pos hs]
  simp only [hc]
  rfl

theorem State.capNow_of_feed {k : Nat} (hs : s.shelf = shSERVICE) (hc : s.servCode = k + 1) :
    s.capNow.1 = min (s.feedTerm (if k + 1 = 1 then 0 else 1)) s.capAsked.1 := by
  have hcap : s.capNow = if s.feedTerm (if k + 1 = 1 then 0 else 1) < s.capAsked.1 then
      (s.feedTerm (if k + 1 = 1 then 0 else 1), 2) else s.capAsked := by
    rw [State.capNow, if_pos hs]
    simp only [hc]
    rfl
  rw [hcap]
  by_cases hlt : s.feedTerm (if k + 1 = 1 then 0 else 1) < s.capAsked.1
  · rw [if_pos hlt, Int.min_eq_left (Int.le_of_lt hlt)]
  · rw [if_neg hlt, Int.min_eq_right (Int.not_lt.1 hlt)]

theorem State.capNow_le_asked (hs : s.shelf = shSERVICE) : s.capNow.1 ≤ s.capAsked.1 := by
  cases hc : s.servCode with
  | zero => exact Int.le_of_eq (congrArg Prod.fst (State.capNow_of_no_feed hs hc))
  | succ k => exact Int.le_trans (Int.le_of_eq (State.capNow_of_feed hs hc)) (Int.min_le_right _ _)

theorem State.servCode_of_feed0 (h : s.feedState 0 = 5) : s.servCode = 1 := if_pos h

theorem State.capNow_le_feed0 (hs : s.shelf = shSERVICE) (h : s.feedState 0 = 5) : s.capNow.1 ≤ s.feedTerm 0 :=
  Int.le_trans (Int.le_of_eq (State.capNow_of_feed hs (State.servCode_of_feed0 h))) (Int.min_le_left _ _)

theorem State.shelf_ne {a b : Nat} (h : s.shelf = a) (hab : a ≠ b) : s.shelf ≠ b := fun e => hab (h.symm.trans e)

theorem State.capNow_of_pack (h : s.shelf = shRIDE ∨ s.shelf = shHALT) :
    s.capNow = ((s.fget F.HU_RIDE_PDMAX : Int) * 10 ^ 12, 3) := by
  have hs : s.shelf ≠ shSERVICE := h.elim (State.shelf_ne · (by decide)) (State.shelf_ne · (by decide))
  rw [State.capNow, if_neg hs, if_pos h]

theorem State.not_service_of_parked (h : s.shelf = shSTART ∨ s.shelf = shSAFE) : s.shelf ≠ shSERVICE :=
  h.elim (State.shelf_ne · (by decide)) (State.shelf_ne · (by decide))

theorem State.not_pack_of_parked (h : s.shelf = shSTART ∨ s.shelf = shSAFE) : ¬ (s.shelf = shRIDE ∨ s.shelf = shHALT) :=
  not_or.2 ⟨h.elim (State.shelf_ne · (by decide)) (State.shelf_ne · (by decide)),
    h.elim (State.shelf_ne · (by decide)) (State.shelf_ne · (by decide))⟩

theorem State.capNow_of_parked (h : s.shelf = shSTART ∨ s.shelf = shSAFE) : s.capNow = (0, 0) := by
  rw [State.capNow, if_neg (State.not_service_of_parked h), if_neg (State.not_pack_of_parked h)]

theorem State.regenNow_of_service (hs : s.shelf = shSERVICE) : s.regenNow = s.eff F.LG_REGEN_W_REGEN := if_pos hs

theorem State.regenNow_of_not_service (hs : s.shelf ≠ shSERVICE) : s.regenNow = 0 := if_neg hs

end

/-! The passes lower (R215–R217). -/

section
variable {l : Loads} {cap regen acc : Int} {fl : Fin 4 → Nat} {x y : Scales}

theorem lowerTo_le {code lo : Nat} {load excess : Int} : lowerTo code lo load excess ≤ code := by
  unfold lowerTo
  split
  next => exact Nat.le_refl _
  next => omega

theorem getElem_set_le {v w : Vector Nat 4} {c : Fin 4} {k : Nat} (hw : ∀ d : Fin 4, w[d] ≤ v[d]) (hk : k ≤ w[c]) (d : Fin 4) :
    (w.set c k)[d] ≤ v[d] := by
  by_cases hd : c = d
  · subst hd
    simpa only [Fin.getElem_fin, Vector.getElem_set_self] using Nat.le_trans hk (hw c)
  · have hne : c.val ≠ d.val := fun e => hd (Fin.ext e)
    simpa only [Fin.getElem_fin, Vector.getElem_set_ne _ _ hne] using hw d

/-- R215: what the cap pass may have made of `x`: the charger's and the charging scales no higher, the rest as it was. -/
structure CapLowered (x y : Scales) : Prop where
  sh : y.sh ≤ x.sh
  sd : y.sd = x.sd
  div : y.div = x.div
  sc : ∀ c : Fin 4, y.sc[c] ≤ x.sc[c]

theorem CapLowered.lowerSc {c : Fin 4} {lo : Nat} (h : CapLowered x y) : CapLowered x (lowerSc l cap y c lo) :=
  ⟨h.sh, h.sd, h.div, getElem_set_le h.sc lowerTo_le⟩

theorem CapLowered.classes {lo : Fin 4 → Nat} {cs : List (Fin 4)} (h : CapLowered x y) :
    CapLowered x (cs.foldl (fun z c => Machine.lowerSc l cap z c (lo c)) y) :=
  List.foldlRecOn cs _ h fun _ hz _ _ => hz.lowerSc

theorem capPass_lowers : CapLowered x (capPass l cap fl x) :=
  have hsh : CapLowered x { x with sh := lowerTo x.sh 0 l.hu (predicted l x - cap * 65536) } :=
    ⟨lowerTo_le, rfl, rfl, fun _ => Nat.le_refl _⟩
  hsh.classes.classes

/-- R215, R216: what the regeneration pass may have made of `x`: the discharging scales no higher, diversion no lower, the rest as it
was. -/
structure RegenLowered (x y : Scales) : Prop where
  sh : y.sh = x.sh
  sc : y.sc = x.sc
  div : x.div ≤ y.div
  sd : ∀ c : Fin 4, y.sd[c] ≤ x.sd[c]

theorem RegenLowered.lowerSd {c : Fin 4} {lo : Nat} (h : RegenLowered x y) : RegenLowered x (lowerSd l regen y c lo) :=
  ⟨h.sh, h.sc, h.div, getElem_set_le h.sd lowerTo_le⟩

theorem RegenLowered.classes {lo : Fin 4 → Nat} {cs : List (Fin 4)} (h : RegenLowered x y) :
    RegenLowered x (cs.foldl (fun z c => Machine.lowerSd l regen z c (lo c)) y) :=
  List.foldlRecOn cs _ h fun _ hz _ _ => hz.lowerSd

theorem regenPass_lowers : RegenLowered x (regenPass l regen acc fl x) :=
  have hdiv (d : Nat) : RegenLowered x { x with div := max x.div d } := ⟨rfl, rfl, Nat.le_max_left _ _, fun _ => Nat.le_refl _⟩
  (hdiv _).classes.classes

/-! While a feed limits and both limits hold (R219). -/

variable {low : Int} {rise : Nat}

/-- R219: while a feed limits, the restore of the regeneration direction lets diversion alone fall. -/
theorem regenRise_of_limiting : ∃ d ≤ x.div, regenRise l low acc rise true x = { x with div := d } :=
  ⟨_, Nat.sub_le _ _, rfl⟩

/-- R216: diversion within the acceptance stands where the period begins. -/
theorem Scales.div_kept (hd : x.div ≤ acc.toNat) : { x with div := if acc ≤ 0 then 0 else x.div } = x := by
  have hdiv : (if acc ≤ 0 then 0 else x.div) = x.div := by split <;> omega
  rw [hdiv]

theorem rescale_of_limiting (hd : x.div ≤ acc.toNat) (hc : predicted l x ≤ cap * 65536) (hr : -regen * 65536 ≤ predicted l x) :
    rescale l cap regen acc fl rise true x = if (-regen + holdBand regen) * 65536 < predicted l x then
      regenRise l (-regen + holdBand regen) acc rise true x else x := by
  simp only [rescale, Scales.div_kept hd, if_neg (Int.not_lt.2 hc), if_neg (Int.not_lt.2 hr), Bool.true_eq_false,
    and_false, if_false]

theorem rescale_of_limiting_lowers_div (hd : x.div ≤ acc.toNat) (hc : predicted l x ≤ cap * 65536)
    (hr : -regen * 65536 ≤ predicted l x) : ∃ d ≤ x.div, rescale l cap regen acc fl rise true x = { x with div := d } := by
  rw [rescale_of_limiting hd hc hr]
  split
  next => exact regenRise_of_limiting
  next => exact ⟨x.div, Nat.le_refl _, rfl⟩

theorem rescale_of_limiting_in_band (hd : x.div ≤ acc.toNat) (hc : predicted l x ≤ cap * 65536)
    (hr : -regen * 65536 ≤ predicted l x) (hb : predicted l x ≤ (-regen + holdBand regen) * 65536) :
    rescale l cap regen acc fl rise true x = x :=
  (rescale_of_limiting hd hc hr).trans (if_neg (Int.not_lt.2 hb))

end

/-! THROTTLE_REPORT (R222, R128). -/

section
variable {s : State} {r : ThrottleRpt}

theorem length_le16 (v : Nat) : (le16 v).length = 2 := rfl

theorem length_le32 (v : Nat) : (le32 v).length = 4 := rfl

theorem length_le64 (v : Nat) : (le64 v).length = 8 := rfl

theorem length_flatMap_le16 (f : Nat → Nat) (v : Vector Nat 4) : (v.toList.flatMap fun a => le16 (f a)).length = 8 := by
  simp only [List.length_flatMap, length_le16, List.map_const', List.sum_replicate_nat, Vector.length_toList]

theorem ThrottleRpt.length_body (r : ThrottleRpt) (seq : Nat) : (r.body seq).length = 60 := by
  simp only [ThrottleRpt.body, List.length_append, length_flatMap_le16, length_le16, length_le32, length_le64]

theorem State.shelfItem_last (s : State) (it : RecItem) : (s.shelfItem it).sh.recQ.getLast? = some it := List.getLast?_concat

/-- R222: the report taken, its sequence number counted. -/
def State.reportTaken (s : State) : State :=
  { s.incWrap F.LG_RPT_SEQ with led := { s.led with due := none } }

theorem State.reportTaken_seq : s.reportTaken.fget F.LG_RPT_SEQ = (s.fget F.LG_RPT_SEQ + 1) % 2 ^ 32 :=
  s.fget_fset_same F.LG_RPT_SEQ _ (by decide)

theorem State.reportTaken_only : Only s s.reportTaken [.LG_RPT] := fun q hq =>
  s.word_fset_other F.LG_RPT_SEQ _ q (List.ne_of_not_mem_cons hq)

/-- R222: the 64 bytes of a report: its body and the CRC-32C over it. -/
def ThrottleRpt.record (r : ThrottleRpt) (seq : Nat) : List Byte := r.body seq ++ le32 (crc32c (r.body seq))

theorem ThrottleRpt.length_record (seq : Nat) : (r.record seq).length = 64 := by
  rw [ThrottleRpt.record, List.length_append, r.length_body, length_le32]

theorem ThrottleRpt.take_record (seq : Nat) : (r.record seq).take 60 = r.body seq :=
  List.take_left' (r.length_body seq)

theorem ThrottleRpt.drop_record (seq : Nat) : (r.record seq).drop 60 = le32 (crc32c (r.body seq)) :=
  List.drop_left' (r.length_body seq)

theorem execThrottleReport_of_due (h : s.led.due = some r) : execThrottleReport s =
    .next (s.reportTaken.shelfItem { kind := 4, bytes := r.record (s.reportTaken.fget F.LG_RPT_SEQ) }) := by
  simp only [execThrottleReport, h]
  rfl

theorem throttleReport_joins (h : s.led.due = some r) :
    ∃ t b, exec .throttleReport s = .next t ∧ t.led.due = none ∧ t.fget F.LG_RPT_SEQ = (s.fget F.LG_RPT_SEQ + 1) % 2 ^ 32
      ∧ t.sh.recQ.getLast? = some { kind := 4, bytes := b } ∧ b.length = 64 ∧ b.take 60 = r.body (t.fget F.LG_RPT_SEQ)
      ∧ b.drop 60 = le32 (crc32c (b.take 60)) ∧ Only s t [.LG_RPT] ∧ t.mem = s.mem ∧ t.ch = s.ch :=
  ⟨_, _, execThrottleReport_of_due h, rfl, State.reportTaken_seq, State.shelfItem_last _ _, ThrottleRpt.length_record _,
    ThrottleRpt.take_record _, (ThrottleRpt.drop_record _).trans (by rw [ThrottleRpt.take_record]), State.reportTaken_only, rfl, rfl⟩

end

/-! RM_CAP_STALE and FEED_ERROR_ALARM (R213, R223). -/

section
variable {s : State}

theorem execRmCapStale_of_silent (ht : s.eff F.LG_CTL_RMTMO ≠ 0) (he : s.eff F.LG_CTL_RMEN = 1)
    (hv : s.flag F.LG_CAP_RM_VALID = true) (hn : s.flag F.LG_STAT_RMSTALE = false)
    (hr : s.reached (s.led.rmAt + s.eff F.LG_CTL_RMTMO * sec) = true) :
    execRmCapStale s = .next ((s.setFlag F.LG_STAT_RMSTALE true).raise 308 1) :=
  if_pos ⟨ht, he, hv, fun hs => Bool.false_ne_true (hn.symm.trans hs), hr⟩

/-- R223: the alarm of the feed error given. -/
def State.feedAlarmed (s : State) : State := { s with led := { s.led with alarmed := true } }

theorem execFeedErrorAlarm_of_ten (hn : 10 ≤ s.led.outN) (ha : s.led.alarmed = false) :
    execFeedErrorAlarm s = .next (s.feedAlarmed.raise 309 1) := if_pos ⟨hn, ha⟩

end

/-- Settles O40: the cap by the terms it is the lowest of (`State.capAsked`), the passes by what each lowered class keeps
(`CapLowered`, `RegenLowered`), the hold of a limiting feed by the one branch of `rescale` that is left, the report by the record
of its body and CRC (`ThrottleRpt.record`). -/
theorem ledgerLimitsAndReports : Obligations.LedgerLimitsAndReports := by
  refine ⟨fun s => ⟨State.capNow_of_pack, fun h => ⟨State.capNow_of_parked h, State.regenNow_of_not_service (State.not_service_of_parked h)⟩,
      fun hs => ⟨Int.le_trans (State.capNow_le_asked hs) State.capAsked_le_host,
        fun he hv => Int.le_trans (State.capNow_le_asked hs) (State.capAsked_le_rackManager he hv),
        State.capNow_le_feed0 hs, State.regenNow_of_service hs⟩⟩,
    fun l cap fl x => ?_, fun l regen acc fl x => ?_, fun l cap regen acc fl rise x hd hc hr => ?_,
    fun _ _ => throttleReport_joins,
    fun s ht he hv hn hr => ⟨_, execRmCapStale_of_silent ht he hv hn hr, State.flag_setFlag (by decide) (by decide),
      Only.setFlag F.LG_STAT_RMSTALE fun _ => rfl, rfl⟩,
    fun s hn ha => ⟨s.feedAlarmed, execFeedErrorAlarm_of_ten hn ha, rfl, fun _ _ => rfl, rfl⟩⟩
  · obtain ⟨hsh, hsd, hdiv, hsc⟩ := capPass_lowers (l := l) (cap := cap) (fl := fl) (x := x)
    exact ⟨hsh, hsd, hdiv, hsc⟩
  · obtain ⟨hsh, hsc, hdiv, hsd⟩ := regenPass_lowers (l := l) (regen := regen) (acc := acc) (fl := fl) (x := x)
    exact ⟨hsh, hsc, hdiv, hsd⟩
  · obtain ⟨d, hle, heq⟩ := rescale_of_limiting_lowers_div (fl := fl) (rise := rise) hd hc hr
    rw [heq]
    exact ⟨rfl, rfl, rfl, hle, fun hb => heq ▸ rescale_of_limiting_in_band hd hc hr hb⟩

end Sys2Proof.Machine
